-- ==== Sys2Proof/Word.lean ====
section
/-! DEFINITION. The plainest words: fields of a number by bit position, and two's complement of a given width. -/

namespace Sys2Proof

/-- Bits `lo + n - 1` down to `lo` of a number. -/
def bits (x lo n : Nat) : Nat := x / 2 ^ lo % 2 ^ n

/-- Bit `i` of a number. -/
def bit (x i : Nat) : Bool := x / 2 ^ i % 2 == 1

/-- The signed value of the low `w` bits. -/
def toS (w x : Nat) : Int :=
  if x % 2 ^ w < 2 ^ (w - 1) then (x % 2 ^ w : Nat) else (x % 2 ^ w : Nat) - (2 ^ w : Nat)

/-- The low `w` bits of a signed value, in two's complement. -/
def ofS (w : Nat) (i : Int) : Nat := (i % ((2 ^ w : Nat) : Int)).toNat

/-- One bit of a Bool. -/
def ofB (b : Bool) : Nat := if b then 1 else 0

end Sys2Proof
end

