-- ==== Sys2Proof/Syntax.lean ====
section
/-! DEFINITION. The commands of the block: one constructor per row of spec/opcode_table.json, with the operands the
specification gives the step.  A command that both kinds of unit know names the unit; the others belong to one kind.
What an environment measures (a stamp, a tap code, a received frame) is an operand. -/

namespace Sys2Proof

/-- The unit a command is for: the TSU or the hub. -/
inductive Who where
  | tsu | hub
  deriving DecidableEq, Repr

/-- What a loop closure measured for one downlink, each value averaged over the closure length (03 R91): the offsets of the
child ends on planes A and B, the offsets of the parent twins and of the child twins, in time units; and the constants and
calibration states and lock flags of the two child links. -/
structure ClosureMeas where
  port : Nat
  thA : Int
  thB : Int
  tauP : Int
  tauC : Int
  constA : Int
  constB : Int
  calA : Nat
  calB : Nat
  lockA : Bool
  lockB : Bool
  deriving DecidableEq, Repr

/-- The stamp of a port at the first word of a frame: the tick and the tap code of the word clock edge (04 R100). -/
structure WordStamp where
  first : Nat
  code : Nat
  deriving DecidableEq, Repr

/-- An edge at a channel: its direction, and whether it is a hit of the calibration oscillator (04 R103, R106). -/
structure EdgeKind where
  falling : Bool
  hit : Bool
  deriving DecidableEq, Repr

/-- Units that firmware knows, and those of which a lane has just reached SYNCED (06 R161, 15 R415). -/
structure Targets where
  all : List Nat
  synced : List Nat
  deriving DecidableEq, Repr

/-- A local edge of a region: its stamp in 1/16 tick, and the local cycles counted in the run so far (07 R180, R190). -/
structure LocalEdge where
  stamp : Nat
  cyc : Nat
  deriving DecidableEq, Repr

/-- A region, and the local cycles that its Agent has counted in the active run (07 R190, R194). -/
structure RegionCycles where
  region : Nat
  cyc : Nat
  deriving DecidableEq, Repr

/-- At a marker: the number in its run of the first local edge at or after it, and the local cycles since the marker before (07 R190). -/
structure MarkerCycles where
  run : Nat
  new : Nat
  deriving DecidableEq, Repr

/-- The commands. -/
inductive Instr where
  /-- `LINK_ENABLE_WRITE` (R63): A write to the enable object of a port takes the link end to DARK when 0, drops MEMBER to SYNCED when 1, or lets the link rise to MEMBER when 2. -/
  | linkEnableWrite (u : Who) (p : Nat) (v : Nat)
  /-- `LINK_RESTART` (R70): Command 1 on the link command object takes the link end to DARK and then to WAKE on the next tick. -/
  | linkRestart (u : Who) (p : Nat)
  /-- `SEND_WAKE_PATTERN` (R70): Command 2 on the link command object sends the wake pattern once from DARK without training. -/
  | sendWakePattern (u : Who) (p : Nat)
  /-- `LOSS_OF_SIGNAL` (R63): After 1,024 ticks without signal detected, the link end goes to DARK and records cause 0x10. -/
  | lossOfSignal (u : Who) (p : Nat)
  /-- `FRAME_LOCK_LOST` (R63): After 4 consecutive uncorrectable frames, a link end in TRAIN to MEMBER drops to TRAIN and records cause 0x11. -/
  | frameLockLost (u : Who) (p : Nat)
  /-- `DARK_RETRY` (R63): An enabled DARK link end enters WAKE on signal detect, on a restart command, or after 1 ms in DARK. -/
  | darkRetry (u : Who) (p : Nat) (sig : Bool)
  /-- `WAKE_COMPLETE` (R63): When the 32,000-tick wake pattern has been sent, the link end enters TRAIN. -/
  | wakeComplete (u : Who) (p : Nat)
  /-- `TRAIN_LOCK` (R63): After 8 consecutive correctable frames at one alignment with the frame index advancing, the link end sets its expected index and enters HELLO. -/
  | trainLock (u : Who) (p : Nat)
  /-- `LINK_STATE_TIMEOUT` (R63): The TRAIN, HELLO or MEASURE timeout expires, and the link end goes to DARK with cause 0x15. -/
  | linkStateTimeout (u : Who) (p : Nat)
  /-- `HELLO_RECEIVED` (R68): A received HELLO message is checked and accepted or refused; it can move the link to MEASURE, DARK or back to HELLO, and it fixes the operating generation and features. -/
  | helloReceived (u : Who) (p : Nat)
  /-- `LINK_SYNCED` (R63): When time transfer reports lock at both ends, a link end in MEASURE enters SYNCED. -/
  | linkSynced (u : Who) (p : Nat)
  /-- `MEMBER_HOLD_REACHED` (R63): With enable 2 and lock held at both ends for the member hold count of marker periods, a SYNCED link end enters MEMBER. -/
  | memberHoldReached (u : Who) (p : Nat)
  /-- `MEMBER_LOCK_LOSS` (R63): When time transfer reports loss of lock, a MEMBER link end returns to SYNCED. -/
  | memberLockLoss (u : Who) (p : Nat)
  /-- `FRAME_RECEIVED` (R49): A received frame is descrambled and decoded, then accepted or discarded by the expected frame index, with its cells checked, credits returned and messages taken whole. -/
  | frameReceived (u : Who) (p : Nat) (frame : Nat) (stamp : WordStamp) (sym : Nat)
  /-- `FRAME_SEND` (R58): On each frame boundary the sender assembles the header cell, the fault slot and cells 1 to 7 by class order, credits and anti-starvation, then scrambles and encodes the frame. -/
  | frameSend (u : Who) (p : Nat)
  /-- `UNCORRECTABLE_WINDOW_END` (R52): At the end of each uncorrectable-frame window the node sets or clears degraded and records cause 0x12 once when the threshold was reached. -/
  | uncorrectableWindowEnd (u : Who) (p : Nat)
  /-- `FAULT_SLOT_RECEIVED` (R53): A valid fault slot received on a MEMBER link is forwarded into the fault queues of the matching ports, the twin lanes and the node's own members, or ignored as a repeat. -/
  | faultSlotReceived (u : Who) (p : Nat)
  /-- `TIME_MESSAGE_RECEIVED` (R81): A TIME message in a marker frame gives the stamps of a two-way exchange, from which the offset, round trip and downstream delay are computed or the exchange is counted as missed. -/
  | timeMessageReceived (u : Who) (p : Nat)
  /-- `MARKER_SERVO` (R83): At each marker the node applies lock changes and source changes and then runs the phase servo, moving the interpolator by limited phase steps. -/
  | markerServo (u : Who) (built : Nat)
  /-- `REVERT_HOLD_EXPIRY` (R74): When a port earlier in the candidate order has been eligible and locked for the revert hold, the node changes its source to it. -/
  | revertHoldExpiry (u : Who) (built : Nat)
  /-- `KEYSTONE_ROOT_WAIT_EXPIRY` (R75): At a cold start, the plane-B Keystone becomes root after waiting 10 ms without a valid twin. -/
  | keystoneRootWaitExpiry
  /-- `PLANE_DISAGREEMENT` (R88): After 16 consecutive markers with the plane difference above the threshold, the node records cause 0x21, and a weighted TSU stops blending. -/
  | planeDisagreement (u : Who)
  /-- `CLOSURE_APPLY` (R91): Command 1 on the closure object starts loop closure on every locked downlink, to apply the result. -/
  | closureApply
  /-- `CLOSURE_MEASURE` (R91): Command 2 on the closure object starts loop closure, measuring only. -/
  | closureMeasure
  /-- `CLOSURE_DONE` (R91): At the end of the averaging, the residual is stored and, for command 1, applied to the child constants or refused with cause 0x24. -/
  | closureDone (meas : List ClosureMeas)
  /-- `CLOSURE_TRACKING_RUN` (R93): Each background run of 65,536 markers updates the residual, records cause 0x24 on a drift beyond the threshold, and applies a limited split when tracking is on. -/
  | closureTrackingRun (meas : List ClosureMeas)
  /-- `POD_OFFSET_WRITE` (R92): A write of the true pod offset starts a 4,096-marker evaluation at the child. -/
  | podOffsetWrite (u : Who) (p : Nat) (v : Nat)
  /-- `POD_EVALUATION_DONE` (R92): After 4,096 markers the child adds 2ε to its constant, sets status 2, and records cause 0x24 when ε exceeds 100 ps. -/
  | podEvaluationDone (u : Who) (p : Nat)
  /-- `TDC_EDGE` (R100): An edge on a TDC channel is conditioned and counted, and stamped from its tick and code through the calibration table. -/
  | tdcEdge (u : Who) (c : Nat) (code : Nat) (edge : EdgeKind)
  /-- `DLL_LOCK_CHANGE` (R102): A channel's DLL locks or loses lock; while it is unlocked the channel gives coarse stamps, and it records cause 0x26 once per loss. -/
  | dllLockChange (u : Who) (c : Nat) (locked : Bool)
  /-- `CALIBRATION_PERIOD_START` (R105): At each calibration period, or when the previous collection ends late, a channel starts a code-density collection. -/
  | calibrationPeriodStart (u : Who) (c : Nat)
  /-- `CALIBRATE_COMMAND` (R105): Command 1 on the calibrate object starts a collection on every channel. -/
  | calibrateCommand (u : Who)
  /-- `CALIBRATION_COLLECTION_END` (R104): A collection that holds H hits builds a new table, which is accepted at the next marker or rejected and counted, with cause 0x26 after three rejections. -/
  | calibrationCollectionEnd (u : Who) (c : Nat) (counts : List Nat)
  /-- `SLOT_CLOSE` (R109): At M + 512 a measurement slot posts its start and stop stamps, interval and status as one result. -/
  | slotClose (u : Who) (k : Nat)
  /-- `REGRESSION_STOP` (R114): Command 0 stops a running regression gate at the next marker and posts status 4. -/
  | regressionStop (u : Who) (g : Nat)
  /-- `REGRESSION_ONE_GATE` (R114): Command 1 runs one regression gate from the next marker. -/
  | regressionOneGate (u : Who) (g : Nat)
  /-- `REGRESSION_CONTINUOUS` (R114): Command 2 runs regression gates back to back. -/
  | regressionContinuous (u : Who) (g : Nat)
  /-- `REGRESSION_GATE_END` (R113): At the end of a gate the engine fits the kept stamps and posts the offset, residual and status within 131,072 ticks. -/
  | regressionGateEnd (u : Who) (g : Nat)
  /-- `KEYSTONE_MARKER` (R131): At each marker the Keystone evaluates activity, quality and monitors, the wait-to-restore timers and table writes, then selection and the reference state transition. -/
  | keystoneMarker (ranks : List Nat) (track : Nat)
  /-- `MONITOR_GATE_END` (R123): At the end of each reference monitor gate, the input's fractional frequency offset is posted. -/
  | monitorGateEnd (i : Nat)
  /-- `ESMC_PDU_RECEIVED` (R126): An ESMC PDU on a management port is checked and updates the SSM code and rank of the associated references, or is dropped and counted. -/
  | esmcPduReceived (port : Nat) (pdu : List Nat)
  /-- `ESMC_TIMEOUT` (R126): After 5 s without a matching PDU, the reference's code becomes QL-FAILED and its rank do-not-use. -/
  | esmcTimeout (i : Nat)
  /-- `WAIT_TO_RESTORE_EXPIRY` (R129): When the wait-to-restore or start hold of a qualified reference ends, its entry becomes selectable. -/
  | waitToRestoreExpiry (i : Nat)
  /-- `REFERENCE_SERVO_UPDATE` (R134): At each update interval the reference servo updates the integral and the DCO word, clamping at the limit with cause 0x2B. -/
  | referenceServoUpdate
  /-- `HOLDOVER_BUDGET_REACHED` (R137): When the predicted error reaches the holdover budget, the state goes from HOLDOVER to LOST with cause 0x2A. -/
  | holdoverBudgetReached
  /-- `DCO_HISTORY_RECORD` (R136): Once per second while LOCKED, the Keystone records d for the holdover history. -/
  | dcoHistoryRecord
  /-- `DAC_DISCIPLINE` (R141): Once per second while LOCKED in DAC mode 1, the Keystone moves correction from the integral into the DAC word. -/
  | dacDiscipline
  /-- `PRIORITY_TABLE_WRITE` (R128): A write of the priority table is checked and, when accepted, takes effect at the next marker. -/
  | priorityTableWrite (v : Nat)
  /-- `HALL_SECOND_ROLL` (R142): When TB1 passes A + 1,562,500,000, the Keystone advances the anchor by one second. -/
  | hallSecondRoll
  /-- `HALL_LABEL_WRITE` (R143): A write of the TAI label arms a re-anchor at the next edge of the time source. -/
  | hallLabelWrite (v : Nat)
  /-- `TIME_SOURCE_EDGE` (R143): At an accepted edge of the 1PPS time source, the Keystone applies a pending label and posts the time offset. -/
  | timeSourceEdge (stamp : Nat)
  /-- `REALIGN_START` (R143): Command 1 on the realign object moves the anchor toward zero offset at the realign rate. -/
  | realignStart
  /-- `REALIGN_STOP` (R143): Command 0 on the realign object stops realignment. -/
  | realignStop
  /-- `TWIN_KEYSTONE_RECEIVED` (R145): The follower Keystone takes the root's state, entry, anchor, flags and history from a TWIN KEYSTONE message. -/
  | twinKeystoneReceived (p : Nat)
  /-- `KEYSTONE_TAKEOVER` (R146): A follower Keystone that becomes root sets d and I from the tracked word and enters HOLDOVER, LOST or FREE_RUN without moving any output. -/
  | keystoneTakeover
  /-- `OUTPUT_PULSE` (R148): At each nominal instant plus offset, a hub pulse or frequency output fires or aligns its edge. -/
  | outputPulse (k : Nat)
  /-- `OUTPUT_SETTING_EFFECTIVE` (R148): A write to an output takes effect at the first placed instant at least 1 ms later, re-phasing a FOUT. -/
  | outputSettingEffective (k : Nat)
  /-- `TB_SET` (R157): Op 1 of a time base command sets the base to the T96 operand at its apply tick. -/
  | tbSet (k : Nat) (apply : Nat) (arg : Nat)
  /-- `TB_STEP` (R157): Op 2 of a time base command adds the signed amount at its apply tick. -/
  | tbStep (k : Nat) (apply : Nat) (arg : Nat)
  /-- `TB_SLEW` (R157): Op 3 of a time base command starts a gradual slew of the amount at the slew rate. -/
  | tbSlew (k : Nat) (apply : Nat) (arg : Nat)
  /-- `TB_CANCEL_SLEW` (R157): Op 4 of a time base command sets the remaining slew amount to 0. -/
  | tbCancelSlew (k : Nat) (apply : Nat)
  /-- `TB_COMMAND_APPLY` (R158): A pending time base command acts at the first tick at or after its apply tick. -/
  | tbCommandApply (k : Nat)
  /-- `TB_SLEW_END` (R157): The slew ends on the tick on which the remaining amount reaches 0, and the last change is recorded. -/
  | tbSlewEnd (k : Nat)
  /-- `TB_INCREMENT_WRITE` (R156): An increment write within 1,000 ppm of nominal takes effect at the next tick. -/
  | tbIncrementWrite (k : Nat) (v : Nat)
  /-- `TB_MODE_CHANGE` (R163): A change of TB0 between hall and free mode takes effect at the next tick, continuing from the hall value or applying the held anchor. -/
  | tbModeChange (v : Nat)
  /-- `HALL_ANCHOR_WRITE` (R162): A hall anchor write sets the residual and slews it away, or steps TB0 with cause 0x2C, and updates the hall flags. -/
  | hallAnchorWrite (v : Nat)
  /-- `ANCHOR_DISTRIBUTION` (R161): The root Keystone writes its anchor to every TSU by relay on changes, on lanes reaching SYNCED, during realignment and every 16 s. -/
  | anchorDistribution (dies : Targets)
  /-- `CAPTURE_RECORD_READ` (R166): A read of the capture record object returns and removes the oldest record. -/
  | captureRecordRead (i : Nat)
  /-- `PULSE_OUTPUT_PLACE` (R167): A TSU pulse output is placed at each nominal instant of its source, including the crossings of a time base second. -/
  | pulseOutputPlace (k : Nat)
  /-- `INTERRUPT_EVENT` (R467): An event sets its source's pending bit and drives the routed line under R468. -/
  | interruptEvent (src : Nat)
  /-- `INTERRUPT_ACKNOWLEDGE` (R467): Writing 1 bits to the acknowledge object clears those event sources at the next tick. -/
  | interruptAcknowledge (v : Nat)
  /-- `BUS_FRAME_SEND` (R178): At each marker the core sends a bus frame with the marker and the launch, cut, census and abort actions due, on both tick lanes. -/
  | busFrameSend (ringX : Nat) (ringY : Nat)
  /-- `AGENT_LAUNCH` (R191): On the action tick the Agent raises ra_launch, starts a run, supersedes a previous run, flushes Viaducts and resets local tallies. -/
  | agentLaunch (r : Nat) (edge : LocalEdge)
  /-- `AGENT_CUT` (R191): On the action tick the Agent raises ra_cut and ends the context's active run as cut. -/
  | agentCut (r : RegionCycles)
  /-- `AGENT_ABORT` (R391): On the action tick the Agent raises ra_abort, ends the run as aborted, flushes the context's Viaducts and resets local tallies. -/
  | agentAbort (r : RegionCycles)
  /-- `AGENT_CENSUS` (R180): On the action tick the Agent latches counter sets 1 and 2 into shadows. -/
  | agentCensus (r : Nat)
  /-- `BUS_FRAME_RECEIVED` (R182): An Agent takes a bus frame on a lane, checks it, advances lane lock or loss, and takes the actions of a locked lane once. -/
  | busFrameReceived (r : Nat) (lane : Nat) (frame : Nat) (built : Nat)
  /-- `TICK_LANE_LOST` (R182): An Agent loses a lane on two bad frames or 16 ticks without a clock, changes its followed lane, and the core records cause 0x2E. -/
  | tickLaneLost (r : Nat) (lane : Nat) (noClock : Bool) (built : Nat)
  /-- `NO_LANE_EXPIRY` (R183): An Agent with no locked lane for 16 ticks aborts its active run, free-runs TB1 and marks the region not ready. -/
  | noLaneExpiry (r : RegionCycles)
  /-- `BYPASS_ENGAGE` (R177): Command 1 on the Agent command object engages the tick bypass, and downstream delay constants are corrected at the next marker. -/
  | bypassEngage (r : Nat)
  /-- `BYPASS_RELEASE` (R177): Command 2 on the Agent command object releases the tick bypass. -/
  | bypassRelease (r : Nat)
  /-- `AGENT_MARKER` (R185): At each compensated marker the Agent realigns its tick and TB1 copy, updates the ledger debt and lane difference, and checks for the slack warning. -/
  | agentMarker (r : Nat) (cyc : MarkerCycles) (edge : Nat) (diff : Nat)
  /-- `AGENT_LANES_DISAGREE` (R187): After 16 markers with the lane difference beyond the threshold, the core records cause 0x2F. -/
  | agentLanesDisagree (r : Nat)
  /-- `RUN_COMPLETE` (R192): The edge that begins cycle W completes the run, and the ledger record is posted, marked late when after the deadline. -/
  | runComplete (r : Nat) (edge : Nat)
  /-- `RUN_DEADLINE` (R193): On the deadline tick, a still-active run is posted late and reported to the sequencer. -/
  | runDeadline (r : RegionCycles)
  /-- `STRETCH_PULSE` (R190): A ra_stretch pulse is counted. -/
  | stretchPulse (r : Nat)
  /-- `MARGIN_WARN_EPISODE` (R195): A rising ra_margin_warn counts an episode and records cause 0x84 once per run at the threshold. -/
  | marginWarnEpisode (r : Nat) (ticks : Nat)
  /-- `FCHG_REQUEST` (R196): A region raises ra_fchg_req with a period entry; the request is held until the action and Strict rules allow a grant. -/
  | fchgRequest (r : Nat) (e : Nat)
  /-- `FCHG_GRANT` (R198): On the grant tick the Agent raises ra_stop, tainting an active run's step. -/
  | fchgGrant (r : Nat)
  /-- `FCHG_ACK` (R196): On the tick after ra_fchg_ack the Agent lowers ra_stop and raises ra_go, and the new period takes effect at the first edge. -/
  | fchgAck (r : Nat) (cyc : Nat) (edge : Nat)
  /-- `FCHG_REQ_LOW` (R196): When ra_fchg_req falls, the Agent lowers ra_go and counts the change. -/
  | fchgReqLow (r : Nat)
  /-- `STOP_WINDOW_OVERRUN` (R197): When no acknowledgement has come by the end of the stop window, the core records cause 0x38. -/
  | stopWindowOverrun (r : Nat)
  /-- `STOP_TIMEOUT` (R399): A stop with no acknowledgement within the stop timeout records cause 0x77 and enters the ladder at rung 3. -/
  | stopTimeout (r : Nat)
  /-- `VIADUCT_WRITE` (R213): A writer edge enqueues an entry with its write tick, or overflows with cause 0x3B and holds the cell full until the next flush. -/
  | viaductWrite (v : Nat) (data : Nat)
  /-- `VIADUCT_READ` (R208): A scheduled read takes the oldest visible entry, or is a late crossing with cause 0x3A that stalls or faults depending on Strict. -/
  | viaductRead (v : Nat) (cycle : Nat)
  /-- `VIADUCT_STALLED_DELIVERY` (R208): With Strict clear, a pending late read is delivered on the first reader edge after its entry becomes visible. -/
  | viaductStalledDelivery (v : Nat)
  /-- `VIADUCT_TICK_DELIVERY` (R209): In tick mode, a released entry is delivered on the next reader edge and taints the reader's step. -/
  | viaductTickDelivery (v : Nat)
  /-- `VIADUCT_SEVER` (R214): When either region's power-good falls, the cell is severed, its entries discarded and its outputs clamped. -/
  | viaductSever (v : Nat)
  /-- `TABLE_COMMIT` (R221): Command 1 on a slot computes the digest and runs the load checks. -/
  | tableCommit (t : Nat)
  /-- `TABLE_COMMIT_DONE` (R245): The commit completes within 65,536 ticks with the slot resident, or refused with its reason and cause 0x39. -/
  | tableCommitDone (t : Nat)
  /-- `TABLE_EMPTY` (R221): Command 2 on a slot empties it, restores its objects to defaults and voids a running commit. -/
  | tableEmpty (t : Nat)
  /-- `TABLE_STORAGE_ERROR` (R223): An uncorrectable error in a resident slot refuses it with reason 13, records cause 0x3F and aborts the steps that use it. -/
  | tableStorageError (t : Nat) (k : Nat)
  /-- `ACTION_COMMIT` (R229): At an action entry's commit tick the sequencer places it in a bus slot, or raises cause 0x31 when still ARMED or cause 0x3E on a slot conflict. -/
  | actionCommit (c : Nat)
  /-- `ENTRY_NOP` (R226): A NOP entry has no effect. -/
  | entryNop (c : Nat)
  /-- `ENTRY_WAIT` (R235): A WAIT entry is tested on its tick; unsatisfied, it faults under Strict or holds the walk. -/
  | entryWait (c : Nat)
  /-- `WAIT_RESUME` (R236): A held walk resumes on the first tick its condition holds, adding slip and setting taint. -/
  | waitResume (c : Nat)
  /-- `ENTRY_SIGNAL` (R237): A SIGNAL entry signals a span tally by its count with Tab 0. -/
  | entrySignal (c : Nat)
  /-- `ENTRY_ARRIVE` (R237): An ARRIVE entry adds the sequencer's arrival to a span barrier. -/
  | entryArrive (c : Nat)
  /-- `ENTRY_CLEAR` (R240): A CLEAR entry freezes the die partial and issues the Clearing, or defers it into an accumulator. -/
  | entryClear (c : Nat)
  /-- `ENTRY_BRANCH` (R238): A BRANCH entry compares a Clearing result element with its immediate and chooses the next entry, or faults with cause 0x3C when the result is absent. -/
  | entryBranch (c : Nat)
  /-- `ENTRY_GATE` (R241): A GATE entry opens or closes a weight or input ingress gate for later runs of its group. -/
  | entryGate (c : Nat)
  /-- `ENTRY_MARK` (R242): A MARK entry posts a record to the context's mark queue, or drops and counts it. -/
  | entryMark (c : Nat)
  /-- `ENTRY_AUDIT` (R244): An AUDIT entry declares the step an audit step with its expected tag. -/
  | entryAudit (c : Nat)
  /-- `ENTRY_PULSE` (R244): A PULSE entry asserts a sequencer pulse source for one tick. -/
  | entryPulse (c : Nat)
  /-- `ENTRY_LOOP` (R244): A LOOP entry sends the walk back to its target for the next iteration or falls through. -/
  | entryLoop (c : Nat)
  /-- `ENTRY_END` (R244): An END entry ends the walk. -/
  | entryEnd (c : Nat)
  /-- `MARK_READ` (R242): A read of the mark object returns and removes the oldest mark record. -/
  | markRead (c : Nat)
  /-- `RELEASE_ACCUMULATOR` (R258): A command on the release accumulator object releases one deferred accumulator, or all those not in use. -/
  | releaseAccumulator (v : Nat)
  /-- `DEADLINE_EVALUATION` (R252): On the deadline tick the sequencer evaluates the walk, and at F + D + 1,024 it takes the lateness decision and applies the policy. -/
  | deadlineEvaluation (c : Nat)
  /-- `STEP_END` (R254): At the end of a step the TSU settles accumulators, posts the outcome, returns escrow to IDLE and asserts step end. -/
  | stepEnd (c : Nat)
  /-- `ARM_RECEIVED` (R267): A TSU takes the first copy of an ARM for a new instance, enters ARMED, checks readiness, and sends ARM_ACK on its MEMBER lanes. -/
  | armReceived (p : Nat)
  /-- `ARM_ACK_HELD_RELEASE` (R199): An ARM_ACK held for a stopped or dozing region is sent on its go, or a nak after 256 ticks. -/
  | armAckHeldRelease (c : Nat)
  /-- `CONFIRM_RECEIVED` (R265): A CONFIRM of its instance moves the context from ARMED to CONFIRMED. -/
  | confirmReceived (p : Nat)
  /-- `RECALL_RECEIVED` (R265): A RECALL of its instance moves the context from ARMED to RECALLED. -/
  | recallReceived (p : Nat)
  /-- `ESCROW_GUARD_EXPIRY` (R41): A context still ARMED at its first commit tick or at F - 64 does not fire, raises cause 0x31 and posts outcome 5. -/
  | escrowGuardExpiry (c : Nat)
  /-- `STEP_FIRE` (R265): At tick F a CONFIRMED context enters FIRED and the step runs. -/
  | stepFire (c : Nat)
  /-- `RECALLED_F_REACHED` (R265): At the F of a recalled instance, the context returns to IDLE. -/
  | recalledFReached (c : Nat)
  /-- `HEAD_ARM_LEAVE` (R269): At F - L a running head entry sends ARM copies 0 and 1 down, after handing off to its twin, or skips the escrow when the handoff is too late. -/
  | headArmLeave (k : Nat)
  /-- `ESCROW_HANDOFF_RECEIVED` (R269): A follower head takes a handed-off ARM, CONFIRM or RECALL and sends it on its plane, or records cause 0x34 when it is late. -/
  | escrowHandoffReceived (p : Nat)
  /-- `ESCROW_HANDOFF_MISSING` (R269): 8 ticks before its next ARM leave tick, a follower holding no ARM records cause 0x34. -/
  | escrowHandoffMissing (k : Nat)
  /-- `ESCROW_DOWN_FORWARD` (R270): A hub forwards the first copy of a down escrow message to its matching MEMBER downlinks and twin lanes, or drops it. -/
  | escrowDownForward (p : Nat)
  /-- `ARM_ACK_RECEIVED` (R271): A hub takes the first ARM_ACK of an instance from each expected downlink, combines the counts, and sends upward when the set is complete. -/
  | armAckReceived (p : Nat)
  /-- `ESCROW_SET_CHANGE` (R271): A downlink leaving MEMBER leaves the expected set, which can complete the set. -/
  | escrowSetChange (p : Nat)
  /-- `ESCROW_HORIZON` (R271): At Hz a hub discards the instance's combining state. -/
  | escrowHorizon (span : Nat) (ctx : Nat) (step : Nat) (attempt : Nat)
  /-- `TOTAL_RECEIVED` (R272): The leading head takes a TOTAL from its twin as the other plane's total. -/
  | totalReceived (p : Nat)
  /-- `ESCROW_DECISION` (R273): The leader decides CONFIRM on a complete total, RECALL on a nak or at Hz, hands it to its twin and sends it, advancing its head entry. -/
  | escrowDecision (k : Nat)
  /-- `TWIN_LOST` (R274): After both twin lanes have been out of SYNCED for 1 ms, a plane-B hub takes the lead and a plane-A hub gives it up, recording cause 0x35. -/
  | twinLost
  /-- `TWIN_LEAD_RECEIVED` (R274): A TWIN LEAD message can make a leading plane-A hub give up the lead. -/
  | twinLeadReceived (p : Nat)
  /-- `LEAD_RECLAIM` (R274): A plane-A follower whose twin has reported not leading for 2,048 markers takes the lead. -/
  | leadReclaim
  /-- `TWIN_LEAD_SEND` (R274): Every hub sends TWIN LEAD every 1,024 markers and on each change of its lead. -/
  | twinLeadSend
  /-- `HEAD_ENTRY_START` (R281): Command 1 on a head entry starts it after the checks. -/
  | headEntryStart (k : Nat)
  /-- `HEAD_ENTRY_STOP_AFTER` (R281): Command 2 stops a head entry after the escrow in flight. -/
  | headEntryStopAfter (k : Nat)
  /-- `HEAD_ENTRY_STOP_NOW` (R281): Command 3 stops a head entry at once with no further ARM. -/
  | headEntryStopNow (k : Nat)
  /-- `TALLY_INIT` (R286): An INIT request on the tally bus sets a local tally's mode and participants, or returns the error status. -/
  | tallyInit (r : Nat) (core : Nat) (req : Nat) (cyc : Nat) (inside : Bool)
  /-- `TALLY_SIGNAL` (R284): A SIGNAL request adds count to a local tally or sends a span SIGNAL message. -/
  | tallySignal (r : Nat) (core : Nat) (req : Nat) (cyc : Nat) (inside : Bool)
  /-- `TALLY_ARRIVE` (R284): An ARRIVE request adds an arrival for the sender's next use of a barrier, locally or by a span ARRIVE message. -/
  | tallyArrive (r : Nat) (core : Nat) (req : Nat) (cyc : Nat) (inside : Bool)
  /-- `TALLY_WAIT` (R284): A WAIT request registers a waiter on a local or span tally, or satisfies it at once. -/
  | tallyWait (r : Nat) (core : Nat) (req : Nat) (cyc : Nat) (inside : Bool)
  /-- `TALLY_UP_MESSAGE` (R293): A hub takes an up tally message from a downlink and forwards it upward, combines ARRIVEs, or at a head counts or decides from it. -/
  | tallyUpMessage (p : Nat)
  /-- `ARRIVE_COMBINE_SEND` (R293): A hub sends its combined ARRIVE on the first boundary at least 49 ticks after the first such message. -/
  | arriveCombineSend (slot : Nat)
  /-- `SLOT_DECISION` (R296): At R_k - δ the deciding head releases barrier uses and assigns units, credits and values, or records late messages with cause 0x45. -/
  | slotDecision (slot : Nat)
  /-- `IMMEDIATE_DECISION` (R298): An immediate slot is decided at the next frame boundary after a changing message and released at once. -/
  | immediateDecision (slot : Nat)
  /-- `TALLY_RELEASE_RECEIVED` (R305): A TSU takes the first copy of a RELEASE and schedules it, or handles it as late when it comes after R - 1,024. -/
  | tallyReleaseReceived (p : Nat) (moved : Bool)
  /-- `TALLY_DOWN_FORWARD` (R293): A hub forwards the first copy of a RELEASE down its downlinks or to one targeted downlink. -/
  | tallyDownForward (p : Nat)
  /-- `LEDGER_DECISION` (R304): At R - 1,024 the TSU checks the ledger condition for a slotted release, and faults with cause 0x43 or releases late with taint. -/
  | ledgerDecision (c : Nat) (slot : Nat)
  /-- `RELEASE_TICK` (R299): On the release tick the release takes effect for the sequencer or a host, or is raised on ra_tly_rls. -/
  | releaseTick (c : Nat) (slot : Nat)
  /-- `LEDGER_REPORT` (R301): A ledger report is accepted and stamped by an Agent and added to its account, releasing waiters whose Tab it reaches. -/
  | ledgerReport (r : Nat) (account : Nat) (bytes : Nat)
  /-- `ACCOUNT_TABLE_WRITE` (R300): A write of the account table is checked for duplicates and zeroes the values of written accounts. -/
  | accountTableWrite (first : Nat) (vals : List Nat)
  /-- `TRANSLATION_WRITE` (R289): A write of a context's translation table is accepted only while the context has no step in escrow. -/
  | translationWrite (c : Nat) (first : Nat) (vals : List Nat)
  /-- `TALLY_WAIT_TIMEOUT` (R308): A timed-out wait ends with timed-out status, sends CANCEL for COUNT, records cause 0x40 or 0x41, and raises a wave for a core waiter. -/
  | tallyWaitTimeout (span : Bool) (c : Nat) (tally : Nat) (unit : Nat)
  /-- `HOST_TALLY_SIGNAL` (R312): Host channel op 1 signals a span tally. -/
  | hostTallySignal (h : Nat) (cmd : Nat)
  /-- `HOST_TALLY_ARRIVE` (R312): Host channel op 2 arrives at a span barrier. -/
  | hostTallyArrive (h : Nat) (cmd : Nat)
  /-- `HOST_TALLY_WAIT` (R312): Host channel op 3 opens a host wait with its own timeout. -/
  | hostTallyWait (h : Nat) (cmd : Nat)
  /-- `HOST_CANCEL_WAIT` (R312): Host channel op 4 cancels the channel's wait. -/
  | hostCancelWait (h : Nat)
  /-- `DESCRIPTOR_WRITE` (R319): A descriptor write is checked and accepted or refused. -/
  | descriptorWrite (d : Nat) (v : Nat)
  /-- `CONTRIBUTION_WRITE` (R321): A contribution block is added exactly into the bound die accumulator, or refused with a status and cause 0x53. -/
  | contributionWrite (c : Nat) (h : Nat) (block : List Nat)
  /-- `PARTIAL_RECEIVED` (R334): A hub takes a PARTIAL into its engine instance, opening or discarding instances, combining elements, or dropping it with causes 0x52 and 0x57. -/
  | partialReceived (p : Nat)
  /-- `ELEMENT_SEND_UP` (R336): A non-head hub sends completed elements upward in chosen forms on the next boundary 16 ticks on. -/
  | elementSendUp (e : Nat)
  /-- `HEAD_ROUND_ELEMENT` (R339): The head checks contributors, rounds each complete element once and sends RESULT, or records cause 0x51. -/
  | headRoundElement (e : Nat)
  /-- `HEAD_SEND_END` (R343): After the last element the head sends census entries and one END. -/
  | headSendEnd (e : Nat)
  /-- `RESULT_FORWARD` (R541): A hub forwards the first copy of each RESULT, CENSUS and END to its matching downlinks. -/
  | resultForward (p : Nat)
  /-- `RESULT_RECEIVED` (R345): A TSU takes result values, census entries and END into the filling half of a bank, which becomes present when complete. -/
  | resultReceived (p : Nat)
  /-- `CLEARING_RESULT_TIMEOUT` (R347): A result not present by the result timeout records cause 0x50, raises a wave and clears the filling half. -/
  | clearingResultTimeout (c : Nat) (h : Nat)
  /-- `ENGINE_CONFIGURE` (R355): A write of a hub engine configuration activates or deactivates the engine, checking the descriptor on activation. -/
  | engineConfigure (e : Nat) (v : Nat)
  /-- `CLEARING_STORAGE_ERROR` (R338): An uncorrectable error in a stored element state records cause 0x56 and raises a wave. -/
  | clearingStorageError (u : Who) (x : Nat) (k : Nat)
  /-- `STRICT_WRITE` (R357): A write of Strict is accepted or refused under the escrow and feature rules. -/
  | strictWrite (v : Nat)
  /-- `KEY_RECOMPUTE` (R363): A change of any key input starts a recomputation of the Conformance Key. -/
  | keyRecompute (reason : Nat)
  /-- `KEY_RECOMPUTE_DONE` (R363): On completion the key is replaced and counted, cause 0x60 is recorded and a key record is journaled. -/
  | keyRecomputeDone
  /-- `MINT_SEGMENT` (R365): A Mint tap segment is accepted and hashed as a tree node, or refused with cause 0x63. -/
  | mintSegment (r : Nat) (entry : Nat) (chunk : Nat) (ex : Nat) (tick : Nat) (data : List Nat)
  /-- `CHAINING_VALUE_POSTED` (R366): A segment's chaining value reaches the core, which joins nodes up to the entry root or records cause 0x64 on a mismatched duplicate. -/
  | chainingValuePosted (r : Nat)
  /-- `TAG_COMPLETE` (R370): After the tag point the step's result tag is computed, posted and recorded in history, with tag complete asserted. -/
  | tagComplete (c : Nat)
  /-- `JOURNAL_RECORD` (R374): A journaled input makes a record that is sent on each MEMBER lane, or lost with cause 0x66. -/
  | journalRecord (typ : Nat) (addr : Nat) (data : List Nat)
  /-- `JOURNAL_RESEND` (R374): A record without an ACK for 65,536 ticks is resent, and lost after 16 sends. -/
  | journalResend (seq : Nat)
  /-- `JOURNAL_ACK_RECEIVED` (R374): An ACK from either head marks records as journaled. -/
  | journalAckReceived (u : Who) (p : Nat)
  /-- `JOURNAL_STORE` (R375): A head stores the first copy of a RECORD in its ring and sends an ACK, or records cause 0x67 when only pinned slots remain. -/
  | journalStore (p : Nat)
  /-- `TAG_MESSAGE_RECEIVED` (R376): A hub adds a TAG to the step's trail. -/
  | tagMessageReceived (p : Nat)
  /-- `TRAIL_CLOSE` (R376): A trail closes on its last expected TAG or after 1 ms, is stored and sent upward, and is compared during a replay. -/
  | trailClose (span : Nat) (ctx : Nat) (step : Nat)
  /-- `REPLAY_START` (R377): Command 1 on the replay command object starts injection of source records. -/
  | replayStart
  /-- `REPLAY_STOP` (R379): Command 0 on the replay command object stops the replay. -/
  | replayStop
  /-- `REPLAY_INJECT` (R378): A head sends source records as REPLAY messages from the leave of the previous step's ARM. -/
  | replayInject (data : List Nat)
  /-- `REPLAY_RECORD_RECEIVED` (R378): A TSU holds the first copy of a REPLAY record until its F is known, or records cause 0x68 when it is late. -/
  | replayRecordReceived (u : Who) (p : Nat)
  /-- `REPLAY_APPLY` (R378): At F + offset the TSU applies a held record as a write and acknowledges it. -/
  | replayApply (seq : Nat) (data : List Nat)
  /-- `JOURNALED_INPUT_SUPPRESS` (R377): In replay input mode, a journaled input from the port or relay is refused with status 0x8 and counted. -/
  | journaledInputSuppress (oid : Nat)
  /-- `FAULT_RECORD_READ` (R385): A read of the record object returns and removes the oldest fault record. -/
  | faultRecordRead (u : Who)
  /-- `CLEAR_FIRST_RECORD` (R406): Command 1 clears the first-record latch. -/
  | clearFirstRecord (u : Who)
  /-- `FAULT_WAVE_RECEIVED` (R387): A TSU receiving a wave for its span acts on the context's escrow state, aborting or revising the step or ignoring it. -/
  | faultWaveReceived (p : Nat)
  /-- `SETTLE_WINDOW_END` (R389): 2,344 ticks after a step ends, the context's settling bit clears. -/
  | settleWindowEnd (c : Nat)
  /-- `SPAN_PATH_LOST` (R390): A FIRED step with neither lane MEMBER for 1,024 ticks is aborted with cause 0x78. -/
  | spanPathLost (c : Nat)
  /-- `HEARTBEAT` (R392): A heartbeat pulse restarts the watch window, or reports a core failure or a firmware fault. -/
  | heartbeat (r : Nat) (info : Nat)
  /-- `HEARTBEAT_WINDOW_EXPIRY` (R393): A missed heartbeat window records cause 0x70, raises the wave and starts rung 1. -/
  | heartbeatWindowExpiry (r : Nat)
  /-- `CONTEXT_RESET_ACK` (R395): ra_crst_ack completes rung 1, counting a slow reset when it is late, and disarms the watch. -/
  | contextResetAck (r : Nat)
  /-- `RESET_LIMIT_EXPIRY` (R394): At the reset limit without acknowledgement, cause 0x71 is recorded and rung 2 isolates the context's clusters with cause 0x72. -/
  | resetLimitExpiry (r : Nat)
  /-- `ISOLATION_LIMIT_EXPIRY` (R394): After 64 ticks at rung 2, rung 3 starts unless hold is set. -/
  | isolationLimitExpiry (r : Nat)
  /-- `POWER_CYCLE_DONE` (R397): Logic ready within the limit returns the region to ACTIVE with cause 0x73. -/
  | powerCycleDone (r : Nat)
  /-- `POWER_CYCLE_LIMIT_EXPIRY` (R398): A power cycle that overruns its limit, or exceeds the budget, makes the region LOST with cause 0x74. -/
  | powerCycleLimitExpiry (r : Nat)
  /-- `LADDER_POWER_CYCLE` (R407): Command 1 on the watch command object power-cycles the region now. -/
  | ladderPowerCycle (r : Nat)
  /-- `LADDER_RESTORE_LOST` (R398): Command 2 runs rung 3 once on a LOST region. -/
  | ladderRestoreLost (r : Nat)
  /-- `LADDER_RELEASE_HOLD` (R396): Command 3 releases a ladder held at rung 2. -/
  | ladderReleaseHold (r : Nat)
  /-- `LADDER_DECLARE_LOST` (R407): Command 4 declares the region LOST. -/
  | ladderDeclareLost (r : Nat)
  /-- `POWER_GOOD_LOST` (R401): An unexpected power-good fall records cause 0x80, bypasses, severs, aborts the run and starts rung 3. -/
  | powerGoodLost (r : Nat)
  /-- `HUB_WATCHDOG_EXPIRY` (R404): An unserviced watchdog restarts hub firmware with cause 0x79. -/
  | hubWatchdogExpiry
  /-- `SPAN_LIST_ADD` (R409): Op 1 on the span command adds a list entry. -/
  | spanListAdd (item : Nat)
  /-- `SPAN_LIST_REMOVE` (R409): Op 2 removes a list entry and deactivates the span's resources. -/
  | spanListRemove (item : Nat)
  /-- `SPAN_LIST_MASK` (R409): Op 3 replaces an entry's port mask. -/
  | spanListMask (item : Nat)
  /-- `SPAN_LIST_HEAD` (R409): Op 4 sets or clears an entry's head flag. -/
  | spanListHead (item : Nat)
  /-- `PORT_OWN` (R410): The own command takes a Pier port to OWNED and writes the lane entry, or is refused with cause 0x90. -/
  | portOwn (p : Nat) (span : Nat) (epoch : Nat)
  /-- `PORT_RELEASE` (R410): The release command quarantines an owned port with cause 0x91. -/
  | portRelease (p : Nat) (epoch : Nat)
  /-- `PORT_FREE` (R410): The free command frees a quarantined port once two epochs have passed. -/
  | portFree (p : Nat) (epoch : Nat)
  /-- `LANE_ENTRY_WRITE` (R412): A relayed write of a TSU lane span entry changes its membership and ends the span instance when membership changes. -/
  | laneEntryWrite (p : Nat) (v : Nat)
  /-- `EPOCH_CREATE` (R415): Epoch op 1 raises the hall epoch and returns it. -/
  | epochCreate (span : Nat) (epoch : Nat)
  /-- `EPOCH_RELEASE` (R415): Epoch op 2 returns the current counter as r. -/
  | epochRelease (span : Nat) (epoch : Nat)
  /-- `EPOCH_ADVANCE` (R415): Epoch op 3 advances the counter. -/
  | epochAdvance (span : Nat) (epoch : Nat)
  /-- `TWIN_EPOCH_RECEIVED` (R415): A follower Keystone takes the counter from a TWIN EPOCH message. -/
  | twinEpochReceived (p : Nat)
  /-- `EPOCH_COPY_DISTRIBUTE` (R415): Each Keystone writes its counter to the Piers and Arches of its plane after changes and on uplinks reaching SYNCED. -/
  | epochCopyDistribute (hubs : Targets)
  /-- `HEALTH_INTERVAL_END` (R418): At each interval end a member TSU sends a CENSUS REPORT. -/
  | healthIntervalEnd
  /-- `REPORT_RECEIVED` (R418): A Pier consumes a REPORT for the die's health inputs. -/
  | reportReceived (p : Nat)
  /-- `AUDIT_RECEIVED` (R426): A Pier counts an AUDIT into the die's matrix and sets a fence with cause 0x96 when the rule holds. -/
  | auditReceived (p : Nat)
  /-- `HEALTH_EVALUATION` (R419): After each interval the Pier updates the penalty and score and sets probation or sends EXPEL. -/
  | healthEvaluation (p : Nat)
  /-- `EXPEL_RECEIVED` (R421): The leading head grants or refuses an expulsion by budget and sends a VERDICT. -/
  | expelReceived (p : Nat)
  /-- `VERDICT_RECEIVED` (R422): A granted VERDICT expels the die's port at both Piers. -/
  | verdictReceived (p : Nat)
  /-- `TWIN_HEALTH_RECEIVED` (R417): The follower Pier takes the health state from TWIN HEALTH, expelling on EXPELLED. -/
  | twinHealthReceived (p : Nat)
  /-- `AUDIT_MATRIX_HALVING` (R426): At each multiple of 2^41 ticks every matrix count halves. -/
  | auditMatrixHalving
  /-- `HEALTH_REINSTATE` (R420): Health command 1 reinstates an expelled die. -/
  | healthReinstate (p : Nat)
  /-- `HEALTH_CLEAR_FENCES` (R426): Health command 2 clears the die's fences. -/
  | healthClearFences (p : Nat)
  /-- `HEALTH_CLEAR_MATRIX` (R437): Health command 3 clears the audit matrix. -/
  | healthClearMatrix (p : Nat)
  /-- `CENSUS_COMMAND` (R432): A census command on the leading head schedules a LATCH for tick T. -/
  | censusCommand (v : Nat)
  /-- `LATCH_RECEIVED` (R432): A node decoding a LATCH prepares to latch at T and places an Agent census action, or counts it as missed. -/
  | latchReceived (u : Who) (p : Nat)
  /-- `CENSUS_LATCH` (R429): At T the node latches its named counter sets into shadows. -/
  | censusLatch (u : Who)
  /-- `EVENT_SOURCE_WRITE` (R430): A new event counter source takes effect at the next marker. -/
  | eventSourceWrite (u : Who) (k : Nat) (v : Nat)
  /-- `REG_WORD_READ` (R445): A register port word read snapshots a short object or returns the latch. -/
  | regWordRead (addr : Nat) (width : Nat)
  /-- `REG_WORD_WRITE` (R445): A register port word write merges into the write latch and completes the write at the highest byte. -/
  | regWordWrite (addr : Nat) (width : Nat) (v : Nat)
  /-- `LONG_OPEN_READ` (R446): Control 1 opens a long read and takes the snapshot. -/
  | longOpenRead (obj : Nat)
  /-- `LONG_OPEN_WRITE` (R446): Control 2 opens a long write. -/
  | longOpenWrite (obj : Nat)
  /-- `LONG_COMMIT` (R441): Control 3 commits the gathered long write range. -/
  | longCommit (obj : Nat)
  /-- `LONG_ABANDON` (R446): Control 0 abandons the open transfer. -/
  | longAbandon (obj : Nat)
  /-- `LONG_DATA_ACCESS` (R446): A data register access moves 4 bytes and advances the position. -/
  | longDataAccess (obj : Nat) (write : Bool) (v : Nat)
  /-- `LONG_POSITION_WRITE` (R446): A write of the position register sets the byte position. -/
  | longPositionWrite (obj : Nat) (v : Nat)
  /-- `TRANSFER_ABANDON_TIMEOUT` (R442): A long transfer idle for 1 s is abandoned and counted. -/
  | transferAbandonTimeout (u : Who) (route : Nat)
  /-- `OBJECT_WRITE` (R440): A write to an object without a row of its own takes effect at the next tick or is refused. -/
  | objectWrite (u : Who) (obj : Nat) (off : Nat) (data : List Nat)
  /-- `OBJECT_READ_REQUEST` (R447): A READ message is served by a TSU or hub on its relay route and answered. -/
  | objectReadRequest (u : Who) (p : Nat)
  /-- `OBJECT_WRITE_REQUEST` (R447): A WRITE segment is gathered and, when last, completes the write and is answered. -/
  | objectWriteRequest (u : Who) (p : Nat)
  /-- `OBJECT_RESPONSE_RECEIVED` (R451): An originating hub takes a RESPONSE to complete its relayed access. -/
  | objectResponseReceived (p : Nat)
  /-- `OBJECT_ABANDON` (R447): An ABANDON ends the source's open transfer. -/
  | objectAbandon (u : Who) (p : Nat)
  /-- `OBJECT_RELAY_FORWARD` (R449): A hub passes an OBJECT message down toward its destination, up, or drops it. -/
  | objectRelayForward (p : Nat)
  /-- `RELAY_TIMEOUT` (R451): A relayed request without a RESPONSE for 1 s ends with status 0x9. -/
  | relayTimeout (tag : Nat)
  /-- `GOA_REQUEST` (R454): A GOA datagram is authenticated, deduplicated by sequence and executed, relayed operations included, then answered. -/
  | goaRequest (port : Nat) (addr : Nat) (dgram : List Nat)
  /-- `GOA_RESPONSE_SEND` (R457): When every operation has a status, the hub sends the tagged GOA response. -/
  | goaResponseSend (op : Nat)
  /-- `FUNCTION_DISABLE` (R460): Writing 0 to a function's enable takes it to DRAINING and starts the drain timeout. -/
  | functionDisable (u : Who) (f : Nat)
  /-- `FUNCTION_ENABLE` (R460): Writing 1 returns a function to ENABLED. -/
  | functionEnable (u : Who) (f : Nat)
  /-- `FUNCTION_DRAINED` (R460): A DRAINING function with nothing in flight becomes DISABLED and asserts function drained. -/
  | functionDrained (u : Who) (f : Nat)
  /-- `DRAIN_TIMEOUT` (R464): At the drain timeout the function retires its listed work and records cause 0x99. -/
  | drainTimeout (u : Who) (f : Nat)
  /-- `REGION_REQ_ACTIVE` (R477): Request 0 wakes a DOZE region or starts the power-up of a RETAIN or OFF region. -/
  | regionReqActive (r : Nat)
  /-- `REGION_REQ_DOZE` (R479): Request 1 asks the parties for DOZE. -/
  | regionReqDoze (r : Nat)
  /-- `REGION_REQ_RETAIN` (R479): Request 2 asks the parties for RETAIN. -/
  | regionReqRetain (r : Nat)
  /-- `REGION_REQ_OFF` (R479): Request 3 asks the parties for OFF. -/
  | regionReqOff (r : Nat)
  /-- `REGION_REQ_FENCE` (R479): Request 4 asks the parties for a fence. -/
  | regionReqFence (r : Nat)
  /-- `REGION_FORCED_FENCE` (R477): Request 5 takes the region to FENCED at once without the handshake. -/
  | regionForcedFence (r : Nat)
  /-- `REGION_UNFENCE` (R477): Request 6 takes a FENCED region to OFF. -/
  | regionUnfence (r : Nat)
  /-- `REGION_PWR_REQ_CHANGE` (R478): A change on ra_pwr_req is a region's own power request. -/
  | regionPwrReqChange (r : Nat) (v : Nat)
  /-- `POWER_GRANT` (R480): On the first tick no party refuses or delays, the Agent starts the handshake for the requested state. -/
  | powerGrant (r : Nat)
  /-- `POWER_DELAY_EXPIRY` (R479): A delay that stands past the delay limit becomes a refusal. -/
  | powerDelayExpiry (r : Nat)
  /-- `PWR_RDY_CHANGE` (R480): ra_pwr_rdy rising makes the region DOZE, and falling returns it to ACTIVE. -/
  | pwrRdyChange (r : Nat) (high : Bool)
  /-- `HANDSHAKE_LIMIT_EXPIRY` (R480): No ra_pwr_rdy change within the handshake limit records cause 0x82 stage 5 and cancels or escalates. -/
  | handshakeLimitExpiry (r : Nat)
  /-- `PGOOD_FALL_GRANTED` (R480): The expected power-good fall after a grant completes entry to RETAIN, OFF or FENCED. -/
  | pgoodFallGranted (r : Nat)
  /-- `PGOOD_FALL_LIMIT_EXPIRY` (R480): Power-good not falling in time records cause 0x82 stage 4, and after a second limit leads to rung 4. -/
  | pgoodFallLimitExpiry (r : Nat)
  /-- `POWER_STAGE_READY` (R483): A stage ready completes its stage and starts the next, and after logic ready the region becomes ACTIVE. -/
  | powerStageReady (r : Nat)
  /-- `POWER_STAGE_TIMEOUT` (R484): A stage past its limit records cause 0x82 and leaves the region OFF or goes to rung 4. -/
  | powerStageTimeout (r : Nat)
  /-- `VAULT_WRITE_THROUGH` (R488): Within 64 ticks of an RWS write, the Vault writes or removes its record, or refuses when full with cause 0x83. -/
  | vaultWriteThrough (obj : Nat)
  /-- `SLEEP_REQUEST` (R489): tsu_sleep_req ends the span instance, saves state records to the Vault and raises tsu_sleep_ack. -/
  | sleepRequest
  /-- `SLEEP_WITHDRAW` (R489): Lowering tsu_sleep_req restarts the lanes and keeps the records. -/
  | sleepWithdraw
  /-- `TSU_RESET` (R491): tsu_rst_n rising starts the TSU start-up stages. -/
  | tsuReset
  /-- `TSU_STARTUP_STAGE_DONE` (R491): Completion of a start-up stage advances to the next, through fuses, Vault, configuration and ready. -/
  | tsuStartupStageDone (img : List Nat)
  /-- `STARTUP_STAGE_TIMEOUT` (R491): A start-up stage past its limit records cause 0x82. -/
  | startupStageTimeout (u : Who)
  /-- `CONFIG_REFETCH` (R493): Command 1 on the start-up command fetches the image again. -/
  | configRefetch
  /-- `HUB_SENTINEL_COMMAND` (R494): Power command 1 takes an idle hub to SENTINEL. -/
  | hubSentinelCommand
  /-- `HUB_OFF_COMMAND` (R494): Power command 2 takes an idle hub to OFF. -/
  | hubOffCommand
  /-- `SENTINEL_VISIT` (R496): At each sentinel interval the hub pings, stamps the pong, and corrects TB1 and phase, or counts a miss. -/
  | sentinelVisit (stamp : Nat)
  /-- `SENTINEL_PONG` (R497): A DARK port with sentinel service answers a ping with a pong on a 2^20 boundary. -/
  | sentinelPong (p : Nat) (periods : Nat)
  /-- `SENTINEL_WAKE` (R498): Signal, a wake pattern or housekeeping wakes a SENTINEL hub, which resumes firmware and applies its wake enables. -/
  | sentinelWake (cause : Nat) (p : Nat)
  /-- `HUB_STARTUP_STAGE_DONE` (R499): A hub start-up stage completes: fuses, firmware, configuration, then links released. -/
  | hubStartupStageDone (img : List Nat)
  /-- `FIRMWARE_UPDATE_BEGIN` (R500): Update op 1 begins a firmware update with its length and digest. -/
  | firmwareUpdateBegin (len : Nat) (dig : Nat)
  /-- `FIRMWARE_SEGMENT_WRITE` (R500): A write of a firmware segment stores the selected 64 KiB segment. -/
  | firmwareSegmentWrite (data : List Nat)
  /-- `FIRMWARE_UPDATE_COMMIT` (R500): Update op 2 writes the image to flash and checks it. -/
  | firmwareUpdateCommit
  /-- `FIRMWARE_UPDATE_ABANDON` (R506): Update op 3 abandons the update. -/
  | firmwareUpdateAbandon
  /-- `FIRMWARE_TWIN_RECOVERY` (R500): At start-up a failed firmware image is fetched from the twin with TWIN messages, written, and restarted with cause 0x9B. -/
  | firmwareTwinRecovery (p : Nat)
  /-- `TWIN_FIRMWARE_REQUEST` (R500): A hub answers a TWIN firmware request with a reply of 96 bytes at that offset. -/
  | twinFirmwareRequest (p : Nat)
  /-- `FLASH_WRITE_BACK` (R502): Changed RWS values are written to flash within 10 s, counting erases and setting the wear flag. -/
  | flashWriteBack (obj : Nat)
  /-- `TELEMETRY_UPDATE` (R501): Every 2^24 ticks the node refreshes its telemetry object. -/
  | telemetryUpdate (u : Who) (v : Nat)
  /-- `SCRUB_ERROR` (R375): A scrubbed journal slot with an uncorrectable error is marked damaged with cause 0x69. -/
  | scrubError (slot : Nat)
  /-- `MODULE_SUPPLY_FAULT` (R532): An input out of range, an overcurrent or a converter fault for 1 ms records cause 0x85 and may remove the chip supply. -/
  | moduleSupplyFault (kind : Nat) (mv : Nat) (ma : Nat)
  /-- `THERMAL_THRESHOLD` (R534): A temperature crossing records cause 0x86 and may squelch optics or remove the chip supply. -/
  | thermalThreshold (u : Who) (kind : Nat) (port : Nat) (temp : Nat)
  /-- `PARTNER_POWER` (R533): Command 1 on partner power restores the twin's chip supply over the sideband. -/
  | partnerPower
  /-- `MODULE_POWER_BUTTON` (R533): The front-panel button, or the input returning in range, restarts the hub sequence. -/
  | modulePowerButton
  /-- `REFIN_COUPLING_SET` (R527): The housekeeping controller sets a REFIN's coupling within 10 ms of a change of its nominal code. -/
  | refinCouplingSet (i : Nat)
  /-- `HOST_LATENCY_CODES_VALID` (R510): A one-period pulse on tsu_lane_x_latvld latches the host SerDes transmit and receive latency codes, which show in object 0x3060+p.0B and take effect on the stamp constants at the next marker. -/
  | hostLatencyCodesValid (p : Nat) (tx : Nat) (rx : Nat)
  /-- `TWIN_HEALTH_SEND` (R434): Each Pier sends a TWIN HEALTH message for each die port 524,288 ticks after each health interval end, and on expulsion, and this carries the leader's state and the Pier's uncorrectable-frame counts to its twin. -/
  | twinHealthSend (p : Nat)
  /-- `FIRMWARE_RESTART_COMPLETE` (R404): A hub firmware restart from the resident image completes, and GOA requests are answered again. -/
  | firmwareRestartComplete
  deriving DecidableEq, Repr

end Sys2Proof
end

