-- ==== Sys2Proof/Config.lean ====
section
/-! DEFINITION. What the specification leaves open and the model leaves free: constants without a body. -/

namespace Sys2Proof.Config

/-- A free value, by the number of free values taken before it (log entry 13). -/
opaque freeValue : Nat → Nat

/-- The C2 cells a node can hold for a link, less 1: from 1 to 255 cells (02 R59, R66 leave the size to the part). -/
opaque bufC2 : Nat

/-- The C3 cells a node can hold for a link, less 1: from 1 to 255 cells (02 R59, R66 leave the size to the part). -/
opaque bufC3 : Nat

/-- What placed Viaduct cell v reports for object 0xD800+v.0k, k from 1 to 3: writer region, reader region, depth and width (18 R522). -/
opaque placedCell (v k : Nat) : Nat

end Sys2Proof.Config
end

