-- ==== Sys2Proof/Machine/State.lean ====
section
/-! DEFINITION. The state of the model, whole (the '## State' section of INVENTORY.md lists every field with the rule that
names it).  A register that the object tables name lives in `Node.objs` under its object; everything else that the
specification gives the machine has a field of its own.  Plain data throughout. -/

namespace Sys2Proof.Machine

/-- Instructions of the hub chip's test access port (18 R526). -/
inductive TapInstr where
  | bypass | idcode | samplePreload | extest
  deriving DecidableEq, Repr

/-- Node kind (16 R469, object 0x1000.00): a Full TSU, an Edge TSU or a hub. -/
inductive Kind where
  | full | edge | hub
  deriving DecidableEq, Repr

/-- Objects that do not hold their default, by object key, keys strictly rising. -/
abbrev Store := List (Nat × Nat)

/-- A table of units by number, numbers strictly rising; a unit not listed is as it was at reset. -/
abbrev Tbl (α : Type) := List (Nat × α)

/-- Why the machine stops in a fault.  No command of this block stops in one: the specification answers an access to an object that
is absent with a status (16 R443), and no event happens at a unit that the configuration does not hold (log entry 10). -/
inductive Fault where
  deriving DecidableEq, Repr

/-- Why the machine refuses a command. -/
inductive Refusal where
  /-- Raised by an arm of `exec` whose command has no meaning yet.  Safe: the model stops. -/
  | notModelled (mnemonic : String)
  deriving DecidableEq, Repr


/-- A message of the span link: the cell type of its head cell and its cells, head first, each cell one 128-bit number (R56, R57). -/
structure Msg where
  /-- cell type of the head cell (02 R56). -/
  typ : Nat := 0
  /-- head cell, then the CONT cells (02 R57). -/
  cells : List Nat := []
  /-- tick of the first word of the frame it arrived in (02 R61). -/
  first : Nat := 0
  deriving DecidableEq, Repr

/-- A message waiting in an output queue (R58). -/
structure QMsg where
  /-- the message (02 R58). -/
  msg : Msg := {}
  /-- tick on which it became ready, and before which it may not leave (R61 adds the 49 ticks of a hub) (02 R58). -/
  ready : Nat := 0
  /-- port it arrived on; a locally originated message counts as port 127 (02 R58). -/
  inPort : Nat := 127
  deriving DecidableEq, Repr

/-- A wave waiting in the fault queue of an output port (R54). -/
structure WaveQ where
  /-- fault slot (02 R51). -/
  slot : Nat := 0
  /-- tick before which it does not leave (02 R61). -/
  ready : Nat := 0
  /-- tick on which it entered the queue (02 R54). -/
  tick0 : Nat := 0
  /-- port it arrived on; a wave of this node counts as port 127 (02 R54). -/
  inPort : Nat := 127
  deriving DecidableEq, Repr

/-- One link end beyond its objects 0x3010+p (R62 to R69). -/
structure LinkEnd where
  /-- DARK is held until a restart command after a refused HELLO (02 R63). -/
  held : Bool := false
  /-- signal detect of the receiver (02 R62, 18 R510). -/
  sigDet : Bool := false
  /-- tick of the last change of state, from which the timeouts count; a step of TB1 moves it along (02 R63). -/
  since : Nat := 0
  /-- tick of the last attempt, from which the 1 ms in DARK counts (02 R63). -/
  lastTry : Nat := 0
  /-- tick from which a wake pattern is sent from DARK by command 2 (02 R62, R70). -/
  wakeAt : Option Nat := none
  /-- consecutive correctable frames at one alignment with the index advancing (02 R63). -/
  goodRun : Nat := 0
  /-- expected frame index (02 R49). -/
  expIdx : Nat := 0
  /-- consecutive uncorrectable frames (02 R63). -/
  badRun : Nat := 0
  /-- frame periods so far in the uncorrectable-frame window (02 R52). -/
  winFrames : Nat := 0
  /-- uncorrectable frames in the window (02 R52). -/
  winBad : Nat := 0
  /-- degraded bit this end sends (02 R52). -/
  degraded : Bool := false
  /-- degraded bit last received (02 R50). -/
  partnerDegraded : Bool := false
  /-- the accepted partner HELLO (head cell without ack, CONT cell) (02 R63, R65). -/
  stored : Option (Nat × Nat) := none
  /-- HELLOs are sent with ack = 1 (02 R65). -/
  ackSend : Bool := false
  /-- HELLO repeats still due after leaving HELLO (02 R65). -/
  repeats : Nat := 0
  /-- C1 output queue (02 R58). -/
  c1 : List QMsg := []
  /-- C2 output queue (02 R58). -/
  c2 : List QMsg := []
  /-- C3 output queue (02 R58). -/
  c3 : List QMsg := []
  /-- frames that message has waited, ready, at the head of its queue (02 R60). -/
  c3wait : Nat := 0
  /-- C3 message at the head of its queue when the last frame was filled (02 R60). -/
  c3head : Option QMsg := none
  /-- C2 credits held (02 R59). -/
  credC2 : Nat := 0
  /-- C3 credits held (02 R59). -/
  credC3 : Nat := 0
  /-- C2 buffers the partner advertised (02 R59). -/
  advC2 : Nat := 0
  /-- C3 buffers the partner advertised (02 R59). -/
  advC3 : Nat := 0
  /-- C2 buffers freed and not yet returned (02 R50). -/
  freeC2 : Nat := 0
  /-- C3 buffers freed and not yet returned (02 R50). -/
  freeC3 : Nat := 0
  /-- fault queue of the output port in order of entry (02 R54, R61). -/
  faultQ : List WaveQ := []
  /-- waves merged into a queued entry (02 R54). -/
  merged : Nat := 0
  /-- valid fault slots taken from frames, waiting for their command: slot, tick of the frame's first word (02 R53). -/
  slotIn : List (Nat × Nat) := []
  /-- first copies of waves for this TSU, waiting for its escrow state to act: slot, tick (14 R387). -/
  waveIn : List (Nat × Nat) := []
  /-- tick of a restart command after which the link end has not yet entered WAKE (02 R70). -/
  restart : Option Nat := none
  /-- messages received whole, waiting for their commands (02 R57). -/
  taken : List Msg := []
  /-- the frame sent last, scrambled, first transmitted bit highest (02 R45, R46). -/
  lastTx : Nat := 0
  /-- PAM4 levels of the eight words sent last, first symbol highest; none while the transmitter is squelched (02 R44, R62). -/
  lastSym : Option Nat := none
  /-- identity last received from the partner (02 R66). -/
  rxIdent : Nat := 0xFFFFF
  /-- port last received from the partner (02 R66). -/
  rxPort : Nat := 0x7F
  /-- transmit latency code in force (03 R77, 18 R510). -/
  latTx : Int := 0
  /-- receive latency code in force (03 R77, 18 R510). -/
  latRx : Int := 0
  /-- latency codes that take effect at the next marker (18 R510). -/
  latNext : Option (Int × Int) := none
  /-- the port's transmitter is squelched for temperature (18 R534). -/
  sqThermal : Bool := false
  deriving DecidableEq, Repr

/-- Time transfer of one port beyond its objects 0x3060+p (R78 to R93). -/
structure TimePort where
  /-- consecutive complete exchanges (03 R85). -/
  ok : Nat := 0
  /-- consecutive missed exchanges (03 R85). -/
  missed : Nat := 0
  /-- consecutive markers with |theta| above the unlock window (03 R85). -/
  overRun : Nat := 0
  /-- time valid last received (03 R80). -/
  pValid : Bool := false
  /-- lock bit last received (03 R80). -/
  pLock : Bool := false
  /-- source kind last received (03 R80). -/
  pKind : Nat := 0
  /-- depth last received (03 R80). -/
  pDepth : Nat := 15
  /-- a TIME message has been received (03 R80). -/
  heard : Bool := false
  /-- tick of the last exchange, complete or missed (03 R82). -/
  gotAt : Nat := 0
  /-- why lock is to be lost at the next marker: 1 missed, 2 partner not valid, 3 own state, 4 unlock window; 0 none (03 R85, 14 R405). -/
  lossKind : Nat := 0
  /-- marker number and transmit stamp (time units) of the markers sent in the last 8 periods (03 R81, R82). -/
  sent : List (Nat × Nat) := []
  /-- receive stamp of the partner's most recent marker frame, time units (03 R78). -/
  rxStamp : Nat := 0
  /-- that stamp is valid (03 R80). -/
  rxValid : Bool := false
  /-- marker number of that frame (03 R80). -/
  rxMarker : Nat := 0
  /-- tick of the marker edge last taken by the port slot (04 R109, R110). -/
  edgeAt : Option Nat := none
  /-- marker at which lock at both ends was last gained (02 R63). -/
  lockSince : Nat := 0
  /-- lock at both ends (02 R63). -/
  bothLocked : Bool := false
  /-- marker since which the port has been eligible and locked (03 R74). -/
  readySince : Nat := 0
  /-- markers summed by the running closure (03 R91). -/
  cloN : Nat := 0
  /-- sum of the residual over those markers (03 R91). -/
  cloSum : Int := 0
  /-- residual at the last application (03 R93). -/
  cloApplied : Int := 0
  /-- a pod evaluation runs (03 R92). -/
  podOn : Bool := false
  /-- true offset written (03 R92). -/
  podOff : Int := 0
  /-- markers left of the pod evaluation (03 R92). -/
  podN : Nat := 0
  /-- sum of theta over the pod evaluation (03 R92). -/
  podSum : Int := 0
  deriving DecidableEq, Repr

/-- Time transfer of the node beyond its objects 0x3001 (R72 to R93). -/
structure TimeNode where
  /-- integral of the phase servo (03 R83). -/
  servoI : Rat := 0
  /-- tick from which the plane-B Keystone waits for its twin at a cold start (03 R75). -/
  rootWait : Option Nat := none
  /-- consecutive markers with the plane difference above the threshold (03 R88). -/
  planeRun : Nat := 0
  /-- cause 0x21 has been recorded for this run (03 R88). -/
  planeTold : Bool := false
  /-- lane used alone after a disagreement in weighted mode (03 R88). -/
  soleLane : Option Nat := none
  /-- marker since which |delta| has stayed below half the threshold (03 R88). -/
  calmSince : Nat := 0
  /-- closure command in progress: 0 none, 1 apply, 2 measure (03 R91). -/
  closing : Nat := 0
  /-- tick of the closure command (03 R91). -/
  closeStart : Nat := 0
  /-- start of the background run of 65,536 markers (03 R93). -/
  trackStart : Nat := 0
  /-- the node has entered acquiring and the step of R84 has not been considered (03 R84). -/
  stepPending : Bool := false
  /-- own source kind (03 R80). -/
  kind : Nat := 0
  deriving DecidableEq, Repr

/-- One TDC channel (R99 to R105). -/
structure TdcChan where
  /-- the channel's DLL is locked (04 R102). -/
  dll : Bool := false
  /-- cause 0x26 recorded for this loss of DLL lock (04 R102). -/
  told : Bool := false
  /-- a code-density collection runs (04 R103). -/
  collecting : Bool := false
  /-- start of the collection in progress or last made (04 R105). -/
  started : Nat := 0
  /-- the DLL stayed locked throughout the collection (04 R104). -/
  clean : Bool := true
  /-- consecutive rejections (04 R104). -/
  rejects : Nat := 0
  /-- accepted table that replaces T_c at the next marker (04 R104). -/
  newTable : Option Nat := none
  /-- hits the running collection holds (04 R103). -/
  hits : Nat := 0
  /-- hits of the running collection by bin (04 R103). -/
  bins : Tbl Nat := []
  /-- tick of the last conversion, and whether it was a hit (04 R101, R110). -/
  convAt : Option (Nat × Bool) := none
  /-- power-up or last restart of the tick PLL, from which the lock time of the DLL counts (04 R102). -/
  opAt : Nat := 0
  /-- first receive word clock edge in the current marker period (span ports) (04 R109, R111). -/
  firstEdge : Option Nat := none
  /-- that of the marker period before, as the reserved slot compares it (04 R111, 03 R87). -/
  lastFirst : Option Nat := none
  deriving DecidableEq, Repr

/-- One event input (R106 to R108). -/
structure EvIn where
  /-- first tick after the hold-off of the last accepted edge (04 R106). -/
  holdTo : Nat := 0
  /-- stamp of the last accepted edge, time units (04 R98, 05 R139). -/
  last : Nat := 0
  /-- an edge has been accepted (05 R124). -/
  seen : Bool := false
  /-- stamps of the accepted edges of the last 2 s of a 1PPS input, newest first, from which a hub output predicts (05 R147). -/
  recent : List Nat := []
  deriving DecidableEq, Repr

/-- One general measurement slot (R109 to R111). -/
structure MSlot where
  /-- opening marker (04 R109). -/
  opened : Nat := 0
  /-- start source of the open slot (04 R111). -/
  src0 : Nat := 255
  /-- stop source of the open slot (04 R111). -/
  src1 : Nat := 255
  /-- start stamp, its coarse flag, and the edge count it carries when it is an event input's (04 R108, R109). -/
  start : Option (Nat × Bool × Option Nat) := none
  /-- stop stamp, its coarse flag, and the edge count it carries when it is an event input's (04 R108, R109). -/
  stop : Option (Nat × Bool × Option Nat) := none
  /-- stop-source edges that came before the start was taken, in order (04 R109). -/
  early : List (Nat × Bool × Option Nat) := []
  deriving DecidableEq, Repr

/-- A gate that has ended and is not yet posted (R114). -/
structure ClosedGate where
  /-- marker at which it opened (04 R112). -/
  opened : Nat := 0
  /-- kept captures, newest first: edge count, stamp (04 R113). -/
  kept : List (Nat × Nat) := []
  /-- a kept stamp was coarse (04 R114). -/
  coarse : Bool := false
  /-- the input was disabled during the gate (04 R114). -/
  disabled : Bool := false
  deriving DecidableEq, Repr

/-- One regression engine or reference monitor (R112 to R114, R123). -/
structure Regr where
  /-- 0 idle, 1 one gate, 2 continuous, 3 stopping (04 R114). -/
  mode : Nat := 0
  /-- marker at which a stopped gate ends (04 R114). -/
  stopAt : Nat := 0
  /-- the gate before, whose result is still to be posted (04 R114). -/
  closed : Option ClosedGate := none
  /-- marker at which the gate opens or opened (04 R112). -/
  opened : Nat := 0
  /-- event input of the gate (04 R112). -/
  input : Nat := 0
  /-- captures so far in the gate (04 R112). -/
  caps : Nat := 0
  /-- marker period of the last capture (04 R112). -/
  lastPeriod : Nat := 0
  /-- kept captures, newest first: edge count, stamp (04 R113). -/
  kept : List (Nat × Nat) := []
  /-- a kept stamp was coarse (04 R114). -/
  coarse : Bool := false
  /-- the input was disabled during the gate (04 R114). -/
  disabled : Bool := false
  deriving DecidableEq, Repr

/-- Transfer state of one access route (R442, R445, R446). -/
structure Route where
  /-- 0 idle, 1 reading, 2 writing (16 R446). -/
  mode : Nat := 0
  /-- object of the open transfer (16 R446). -/
  oid : Nat := 0
  /-- snapshot or write buffer (16 R442). -/
  buf : Nat := 0
  /-- snapshot length (16 R446). -/
  len : Nat := 0
  /-- position register (16 R446). -/
  pos : Nat := 0
  /-- position at the first data write (16 R446). -/
  lo : Option Nat := none
  /-- position after the last data write (16 R446). -/
  hi : Nat := 0
  /-- tick of the last segment (16 R442). -/
  touched : Nat := 0
  /-- last status of the control register (16 R446). -/
  stat : Nat := 0
  /-- source of the relayed transfer (16 R447). -/
  src : Nat := 0
  /-- tag of the relayed transfer (16 R447). -/
  tag : Nat := 0
  /-- abandoned transfers (source, tag), whose later segments answer 0xB (16 R442). -/
  dead : List (Nat × Nat) := []
  /-- object of the short read latch (16 R445). -/
  rdOid : Option Nat := none
  /-- short read latch (16 R445). -/
  rdLatch : Nat := 0
  /-- object of the short write latch (16 R445). -/
  wrOid : Option Nat := none
  /-- short write latch (16 R445). -/
  wrLatch : Nat := 0
  /-- values of the select objects as this route wrote them: object, value (11 R313). -/
  sels : List (Nat × Nat) := []
  deriving DecidableEq, Repr

/-- What the object interface answered last on a route (R443). -/
structure Answer where
  /-- status code (16 R443). -/
  status : Nat := 0
  /-- data returned (16 R443). -/
  data : Nat := 0
  /-- bytes returned (16 R453). -/
  len : Nat := 0
  /-- the segment reached the object's end (16 R447). -/
  last : Bool := false
  deriving DecidableEq, Repr

/-- One time base beyond its objects 0x2000+k (R155 to R158). -/
structure TBase where
  /-- seconds (06 R155). -/
  sec : Nat := 0
  /-- nanoseconds (06 R155). -/
  ns : Nat := 0
  /-- fraction, 2^-48 ns (06 R155). -/
  frac : Nat := 0
  /-- remaining slew amount, untruncated (06 R157). -/
  remain : Int := 0
  /-- a slew is in progress (06 R157). -/
  slewing : Bool := false
  /-- slew part added on the last tick (06 R165). -/
  lastS : Int := 0
  /-- increment and slew part of the last tick, which a set or step leaves (06 R165). -/
  rate : Int := 0
  /-- tick on which the remaining amount reached 0 (06 R157, R158). -/
  endAt : Nat := 0
  /-- op of the pending command, 0 none (06 R157). -/
  cmdOp : Nat := 0
  /-- its apply tick (06 R157). -/
  cmdAt : Nat := 0
  /-- its operand (06 R157). -/
  cmdArg : Nat := 0
  /-- highest value of the seconds field on an earlier tick, or that a set, a step or an anchor made it (06 R168). -/
  topSec : Nat := 0
  deriving DecidableEq, Repr

/-- Hall time of a TSU beyond its objects 0x2010 (R160 to R163). -/
structure HallSt where
  /-- A in force, time units (06 R160). -/
  ancT : Nat := 0
  /-- S in force (06 R160). -/
  ancS : Nat := 0
  /-- hall residual r (06 R162). -/
  resid : Int := 0
  /-- fractional part of the residual's movement, in units of 1/48,828,125 of 2^-16 ns (06 R162). -/
  part : Nat := 0
  /-- TB0 has made this tick's movement (06 R159, R163). -/
  ticked : Bool := true
  deriving DecidableEq, Repr

/-- The value of a base at a captured edge, as it is taken (R165). -/
structure BaseCap where
  /-- base whose value is still to be taken or carried to the edge; none when v is the T96 value (06 R165). -/
  base : Option Nat := none
  /-- V(n) in 2^-48 ns while base names one, then the T96 value (06 R165). -/
  v : Nat := 0
  deriving DecidableEq, Repr

/-- A capture record whose stamp is not yet available (R165, R166). -/
structure CapRec where
  /-- edge count and flags, as the record holds them (06 R164). -/
  head : Nat := 0
  /-- TB1 stamp, time units (06 R164). -/
  stamp : Nat := 0
  /-- ticks until it enters its queue (06 R166). -/
  left : Nat := 6
  /-- base a (06 R164). -/
  a : BaseCap := {}
  /-- base b (06 R164). -/
  b : BaseCap := {}
  deriving DecidableEq, Repr

/-- Capture queue of one event input (R166). -/
structure CapQ where
  /-- records, oldest first (06 R166). -/
  recs : List Nat := []
  /-- records whose stamp is not yet available (06 R166). -/
  inflight : List CapRec := []
  /-- records lost before the next one (06 R164). -/
  lost : Bool := false
  deriving DecidableEq, Repr

/-- The settings of a pulse or frequency output (R147, R148, R167). -/
structure PulseSet where
  /-- source (05 R147, 06 R167). -/
  src : Nat := 0
  /-- offset (05 R148). -/
  off : Int := 0
  /-- width (05 R148). -/
  wid : Nat := 156250
  /-- frequency code of a FOUT (05 R148). -/
  frq : Nat := 1
  /-- period of a TSU pulse output (06 R167). -/
  per : Nat := 1562500
  /-- shot tick (05 R147, 06 R167). -/
  shot : Nat := 0
  deriving DecidableEq, Repr

/-- One pulse or frequency output (R148, R167). -/
structure PulseSt where
  /-- the output is high (05 R148, 06 R167). -/
  high : Bool := false
  /-- tick on which it falls (05 R148). -/
  fallAt : Nat := 0
  /-- placed instant of the last pulse, phase steps (05 R148). -/
  lastAt : Option Nat := none
  /-- end of the width of the last pulse when it raised the output, phase steps (06 R168). -/
  highTo : Option Nat := none
  /-- last rising edge of a FOUT, phase steps (05 R148). -/
  edgeAt : Option Nat := none
  /-- pulses placed and not yet driven, phase steps (06 R167, 16 R461). -/
  placed : List Nat := []
  /-- settings in force (05 R148). -/
  now : PulseSet := {}
  /-- settings in force from a placed instant on, in phase steps (05 R148). -/
  next : Option (Nat × PulseSet) := none
  /-- writes not yet in force: tick from which a placed instant takes it, subindex, value (05 R148). -/
  pend : List (Nat × Nat × Nat) := []
  deriving DecidableEq, Repr

/-- An action waiting for or placed in a bus frame (R178 to R181). -/
structure Action where
  /-- 1 launch, 2 cut, 3 abort, 4 census (07 R179). -/
  op : Nat := 0
  /-- context (07 R179). -/
  ctx : Nat := 0
  /-- region group, 63 every region (07 R179). -/
  grp : Nat := 0
  /-- action tick (07 R179). -/
  tick0 : Nat := 0
  /-- work W of a launch (09 R234). -/
  work : Nat := 0
  /-- step deadline tick handed with a launch (09 R234). -/
  dead : Nat := 0
  /-- step the action belongs to (07 R542). -/
  step : Nat := 0
  deriving DecidableEq, Repr

/-- The tick bus at the core (R178, R542). -/
structure BusSt where
  /-- actions committed and not yet sent in a frame (07 R181). -/
  placed : List Action := []
  /-- aborts waiting for an abort slot: context, tick of the decision (07 R542). -/
  aborts : List (Nat × Nat) := []
  /-- the frame sent last, on both lanes (07 R178). -/
  sent : Nat := 0
  /-- actions sent in frames whose tick has not passed (07 R198). -/
  known : List Action := []
  /-- markers of the running ring delay average (07 R185). -/
  ringAcc : Nat := 0
  deriving DecidableEq, Repr

/-- One tick lane as one Region Agent receives it (R182). -/
structure Lane where
  /-- consecutive good frames (07 R182). -/
  good : Nat := 0
  /-- consecutive bad frames (07 R182). -/
  bad : Nat := 0
  /-- marker field of the last frame (07 R182). -/
  marker : Nat := 0
  /-- the lane is locked (07 R182). -/
  locked : Bool := false
  deriving DecidableEq, Repr

/-- The run of one region (R191, R192). -/
structure Run where
  /-- context (07 R191). -/
  ctx : Nat := 0
  /-- step (07 R191). -/
  step : Nat := 0
  /-- launch tick (07 R194). -/
  launch : Nat := 0
  /-- deadline tick (07 R194). -/
  dead : Nat := 0
  /-- work W (07 R194). -/
  work : Nat := 0
  /-- E_base (07 R192). -/
  ebase : Int := 0
  /-- c_base (07 R192). -/
  cbase : Nat := 0
  /-- nominal period p (07 R192). -/
  per : Nat := 0
  /-- cycle 0 has been stamped (07 R192). -/
  started : Bool := false
  /-- D (07 R192). -/
  debt : Int := 0
  /-- peak debt (07 R192). -/
  peak : Int := 0
  /-- cycles counted in the run (07 R194). -/
  cyc : Nat := 0
  /-- projected completion (07 R192). -/
  proj : Int := 0
  /-- slack warning recorded (07 R192). -/
  warned : Bool := false
  /-- rebased (07 R192). -/
  rebased : Bool := false
  /-- late at the deadline tick (07 R193). -/
  late : Bool := false
  /-- tick on which the run was posted late (07 R193). -/
  lateAt : Option Nat := none
  /-- cause 0x84 recorded for the run (07 R195). -/
  epTold : Bool := false
  /-- margin episodes in the run (07 R195). -/
  episodes : Nat := 0
  /-- TB1 of the first episode (07 R195). -/
  firstEp : Nat := 0
  /-- weight gate open for the run (09 R241). -/
  gateW : Bool := false
  /-- input gate open for the run (09 R241). -/
  gateI : Bool := false
  deriving DecidableEq, Repr

/-- One local tally (R284 to R288). -/
structure LTally where
  /-- 0 BARRIER, 1 COUNT, 2 DIRECTED, 3 BROADCAST; a reset sets COUNT (11 R284). -/
  mode : Nat := 1
  /-- participants (11 R286). -/
  parts : Nat := 0
  /-- value or units (11 R284). -/
  value : Nat := 0
  /-- arrivals made by each core: core, number of arrivals (11 R284). -/
  arrived : List (Nat × Nat) := []
  /-- highest released use (11 R284). -/
  used : Nat := 0
  /-- arrivals counted: use, count (11 R284). -/
  counts : List (Nat × Nat) := []
  /-- waiters that hold a unit assigned in the current local cycle (11 R287). -/
  given : List (Nat × Nat × Nat × Nat) := []
  /-- that cycle (11 R287). -/
  givenCyc : Nat := 0
  /-- credits held: target core, count (11 R284). -/
  credits : List (Nat × Nat) := []
  /-- waiting cores in ascending order: core, use or target, acceptance tick, context (11 R284). -/
  waiters : List (Nat × Nat × Nat × Nat) := []
  /-- last signaller core (11 R313). -/
  sigCore : Nat := 0
  /-- last signal tick (11 R313). -/
  sigTick : Nat := 0
  /-- last signal local cycle (11 R313). -/
  sigCyc : Nat := 0
  deriving DecidableEq, Repr

/-- One Region Agent beyond its objects 0xD000+r (R182 to R198). -/
structure Agent where
  /-- lane X (07 R182). -/
  laneX : Lane := {}
  /-- lane Y (07 R182). -/
  laneY : Lane := {}
  /-- tick from which the Agent has had no locked lane (07 R183). -/
  noLaneAt : Option Nat := some 0
  /-- the Agent's copy of TB1 less the core's (07 R183, R185). -/
  skew : Int := 0
  /-- the tick bypass is engaged by command (07 R177). -/
  bypassCmd : Bool := false
  /-- phase difference still to be moved after a change of lane (07 R182). -/
  slide : Int := 0
  /-- actions taken from frames, waiting for their tick (07 R182). -/
  acts : List Action := []
  /-- the active run (07 R191). -/
  run : Option Run := none
  /-- consecutive markers with the lane difference beyond the threshold (07 R187). -/
  disRun : Nat := 0
  /-- cause 0x2F recorded for this run of markers (07 R187). -/
  disTold : Bool := false
  /-- compensated delay in force on the followed lane (07 R185). -/
  delay : Rat := 0
  /-- frequency change requested: entry selected (07 R196). -/
  req : Option Nat := none
  /-- grant tick while ra_stop is high (07 R196). -/
  stopAt : Option Nat := none
  /-- acknowledgement taken and not yet in effect: its tick, and the cycle and stamp of the first edge after the go (07 R196). -/
  ackAt : Option (Nat × Nat × Nat) := none
  /-- the region was reported hung in this stop (07 R197). -/
  hung : Bool := false
  /-- cause 0x38 recorded for this stop (07 R197). -/
  overrun : Bool := false
  /-- ra_go is high (07 R196). -/
  go : Bool := false
  /-- tick on which ra_launch was last high (07 R180). -/
  launchHi : Option Nat := none
  /-- tick on which ra_cut was last high (07 R180). -/
  cutHi : Option Nat := none
  /-- tick on which ra_abort was last high (07 R180). -/
  abortHi : Option Nat := none
  /-- contexts for which it was high on that tick (07 R180). -/
  aborted : List Nat := []
  /-- ra_ctx (07 R180). -/
  actCtx : Nat := 0
  /-- local cycle counter (07 R190). -/
  cycles : Nat := 0
  /-- ledger status to be shown: tick, status (07 R194). -/
  statAt : Option (Nat × Nat) := none
  /-- record of a completed run to be posted: tick, record (07 R194). -/
  postAt : Option (Nat × Nat) := none
  /-- ticks for which ra_margin_warn stays high (07 R195). -/
  marginLeft : Nat := 0
  /-- local tallies by core*64+identifier (11 R282). -/
  locals : List (Nat × LTally) := []
  /-- releases presented on ra_tly_rls: core, status, tick or cycle (11 R287, R299). -/
  rls : List (Nat × Nat × Nat) := []
  /-- tally requests accepted in the current local cycle (11 R287). -/
  cycReq : Nat := 0
  /-- that cycle (11 R287). -/
  reqCyc : Nat := 0
  /-- requests held for the next cycle, in ascending order of core: core, request, owning core inside the region (11 R287). -/
  busHeld : List (Nat × Nat × Bool) := []
  /-- tick of the last ledger report accepted (11 R301). -/
  repAt : Option Nat := none
  deriving DecidableEq, Repr

/-- An entry held in a Viaduct (R207). -/
structure VEntry where
  /-- write tick (08 R204). -/
  wtick : Nat := 0
  /-- data (08 R203). -/
  data : Nat := 0
  deriving DecidableEq, Repr

/-- One Viaduct cell beyond its objects 0xD800+v (R203 to R215). -/
structure Viaduct where
  /-- entries held, oldest first (08 R207). -/
  held : List VEntry := []
  /-- ticks from which freed slots are writable again (08 R207). -/
  freeing : List Nat := []
  /-- mode in force (08 R206). -/
  mode : Nat := 0
  /-- release lag in force (08 R206). -/
  lag : Nat := 2
  /-- context in force (08 R206). -/
  ctx : Nat := 0
  /-- cause 0x3B recorded in this flush interval (08 R213). -/
  fullTold : Bool := false
  /-- tick of the last flush (08 R205). -/
  flushAt : Option Nat := none
  /-- stalled read: read tick, reader cycle (08 R208). -/
  pendRead : Option (Nat × Nat) := none
  /-- vd_rd_valid on the last read edge (08 R207). -/
  rdValid : Bool := false
  /-- vd_rd_data on the last read edge (08 R207). -/
  rdData : Nat := 0
  deriving DecidableEq, Repr

/-- One step table slot beyond its objects 0x4010+t (R221). -/
structure TSlot where
  /-- tick of the commit that is running (09 R221). -/
  commitAt : Option Nat := none
  deriving DecidableEq, Repr

/-- State of one Clearing element (R325, R328). -/
structure Elem where
  /-- A, or for MAX, MIN, AND and OR the chosen pattern (12 R325). -/
  a : Int := 0
  /-- NaN census count (12 R325). -/
  nan : Nat := 0
  /-- lowest die with a NaN contribution (12 R325). -/
  nanDie : Nat := 0xFFFFF
  /-- +infinity contributions (12 R325). -/
  pinf : Nat := 0
  /-- -infinity contributions (12 R325). -/
  ninf : Nat := 0
  /-- finite contributions: 0 none, 1 all -0, 2 other (12 R325). -/
  z : Nat := 0
  /-- a value has been chosen (12 R328). -/
  chosen : Bool := false
  /-- contributions, saturating at 2 (12 R322). -/
  cnt : Nat := 0
  /-- finite contributions (12 R322). -/
  fin : Nat := 0
  /-- input pattern of the last contribution, which native form carries (12 R330). -/
  pat : Nat := 0
  deriving DecidableEq, Repr

/-- A die accumulator or a deferred accumulator (R246, R322). -/
structure Acc where
  /-- context (12 R322). -/
  ctx : Nat := 0
  /-- handle (12 R322). -/
  hnd : Nat := 0
  /-- descriptor (12 R322). -/
  desc : Nat := 0
  /-- blocks accepted (12 R323). -/
  blocks : Nat := 0
  /-- element states by index; an unlisted element is empty (12 R322). -/
  elems : List (Nat × Elem) := []
  /-- value at the step's fire, to which an abort returns it (09 R247, 14 R389). -/
  atFire : List (Nat × Elem) := []
  /-- step in which it was sent (09 R247). -/
  sentIn : Option Nat := none
  deriving DecidableEq, Repr

/-- An issue in flight, or the filling half of its bank (R240, R345). -/
structure Issue where
  /-- context (12 R345). -/
  ctx : Nat := 0
  /-- handle (12 R345). -/
  hnd : Nat := 0
  /-- descriptor (12 R345). -/
  desc : Nat := 0
  /-- descriptor content at issue (12 R318). -/
  descW : Nat := 0
  /-- step number (12 R345). -/
  step : Nat := 0
  /-- issue tick (12 R347). -/
  tick : Nat := 0
  /-- element values received (12 R346). -/
  vals : List (Nat × Nat) := []
  /-- census entries received by element (12 R345). -/
  cens : List (Nat × Nat) := []
  /-- END received and its plane (12 R345). -/
  fin : Option (Nat × Nat) := none
  /-- the result has become present (12 R345). -/
  present : Bool := false
  /-- later messages are dropped (12 R346, R347). -/
  dropped : Bool := false
  deriving DecidableEq, Repr

/-- The present half of a result bank (R346). -/
structure Bank where
  /-- context (12 R346). -/
  ctx : Nat := 0
  /-- handle (12 R346). -/
  hnd : Nat := 0
  /-- descriptor (12 R346). -/
  desc : Nat := 0
  /-- descriptor content (12 R346). -/
  descW : Nat := 0
  /-- step number (12 R346). -/
  step : Nat := 0
  /-- values by element (12 R346). -/
  vals : List (Nat × Nat) := []
  /-- census entries by element (12 R346). -/
  cens : List (Nat × Nat) := []
  deriving DecidableEq, Repr

/-- A run launched in a step, as the core knows it (R235, R252, R253, R370). -/
structure LRun where
  /-- region (09 R235). -/
  region : Nat := 0
  /-- launch tick (07 R194). -/
  launch : Nat := 0
  /-- tick on which the run ended (09 R235). -/
  fin : Option Nat := none
  /-- the weight gate was open for it (13 R365, R370). -/
  gateW : Bool := false
  /-- the input gate was open for it (13 R365, R370). -/
  gateI : Bool := false
  /-- it was posted with the cut and late flags (09 R253). -/
  cutLate : Bool := false
  deriving DecidableEq, Repr

/-- What the tag of a step still needs once its context is armed again (R370). -/
structure TagJob where
  /-- step number (13 R368). -/
  step : Nat := 0
  /-- table slot (13 R368). -/
  table : Nat := 0
  /-- key in force at F (13 R363). -/
  key : Nat := 0
  /-- program digest (13 R368). -/
  prog : Nat := 0
  /-- taint reasons (13 R360). -/
  taint : Nat := 0
  /-- expected tag of an audit step (09 R244). -/
  audit : Option Nat := none
  /-- temperature band at F (15 R424). -/
  band : Nat := 0
  /-- load class at F (15 R424). -/
  cls : Nat := 0
  deriving DecidableEq, Repr

/-- One context: sequencer and escrow (R228 to R256, R265). -/
structure Ctx where
  /-- span of the instance held (10 R261). -/
  span : Nat := 0
  /-- epoch of the instance held (10 R261). -/
  epoch : Nat := 0
  /-- step number of the instance held (10 R265). -/
  step : Nat := 0
  /-- attempt of the instance held (10 R265). -/
  attempt : Nat := 0
  /-- table slot of the instance held (10 R265). -/
  table : Nat := 0
  /-- F (10 R265). -/
  fire : Nat := 0
  /-- horizon lead h (10 R263). -/
  hlead : Nat := 0
  /-- CONT cell of the first ARM copy (10 R265). -/
  arm0 : Nat := 0
  /-- an instance has been held in this span instance (10 R265). -/
  armed : Bool := false
  /-- ARM_ACK held since the ARM's arrival (07 R199, 17 R482). -/
  ackHeld : Option Nat := none
  /-- instance of the ARM last answered without being held (10 R268). -/
  refused : Option Nat := none
  /-- deadline tick (09 R251). -/
  dead : Nat := 0
  /-- entry index of the walk (09 R228). -/
  entry : Nat := 0
  /-- iteration of the current loop (09 R228). -/
  iter : Nat := 0
  /-- entry index in the step status (09 R260). -/
  shownE : Nat := 0
  /-- iteration in the step status (09 R260). -/
  shownI : Nat := 0
  /-- slip of the step (09 R228). -/
  slip : Nat := 0
  /-- E of the WAIT that holds the walk (09 R236). -/
  waitE : Option Nat := none
  /-- action entries already committed: entry, iteration (09 R229). -/
  committed : List (Nat × Nat) := []
  /-- the walk had not ended on the deadline tick (09 R252). -/
  lateWalk : Bool := false
  /-- tick of the abort action placed for the step (07 R181). -/
  abortAt : Option Nat := none
  /-- a wave has been raised for the step (14 R386). -/
  waveSent : Bool := false
  /-- cause of the abort (09 R254). -/
  cause : Nat := 0
  /-- lateness decision: 0 none yet, 1 not late, 2 dropped, 3 extended (09 R252). -/
  verdict : Nat := 0
  /-- mark queue, oldest first (09 R242). -/
  marks : List Nat := []
  /-- runs launched in the step (09 R235). -/
  launched : List LRun := []
  /-- barriers released in the step: slot, release tick, release number (09 R235, 11 R298). -/
  released : List (Nat × Nat × Nat) := []
  /-- expected tag of an audit step (09 R244). -/
  audit : Option Nat := none
  /-- end of the settle window (14 R389). -/
  settleTo : Option Nat := none
  /-- gate settings: group, kind, open, tick of effect (09 R241). -/
  gates : List (Nat × Nat × Bool × Nat) := []
  /-- temperature band at F (15 R424). -/
  firedBand : Nat := 0
  /-- load class at F (15 R424). -/
  firedClass : Nat := 0
  /-- key in force at F (13 R363). -/
  keyAtF : Nat := 0
  /-- program digest of the step's slot at F (13 R368). -/
  progAtF : Nat := 0
  /-- tick since which neither lane has been MEMBER (14 R390). -/
  pathLostAt : Option Nat := none
  /-- the tag of the step fired last has not been posted (13 R370). -/
  tagDue : Bool := false
  /-- a step that ended before its tag was complete and whose context has been armed again (13 R370). -/
  oldTag : Option TagJob := none
  /-- step and F of the ARMs received, most recent first (13 R372, R378). -/
  arms : List (Nat × Nat) := []
  /-- regions launched by the last fired step (17 R479). -/
  lastLaunch : List Nat := []
  deriving DecidableEq, Repr

/-- A span wait held at a TSU (R303 to R308). -/
structure SWait where
  /-- context (11 R303). -/
  ctx : Nat := 0
  /-- virtual identifier (11 R303). -/
  vid : Nat := 0
  /-- unit index of the waiter (11 R283). -/
  unit : Nat := 0
  /-- use or target (11 R284). -/
  arg : Nat := 0
  /-- issue tick (11 R295). -/
  tick : Nat := 0
  /-- timeout in ticks (11 R307). -/
  limit : Nat := 0
  /-- sequence of its WAIT message (11 R292). -/
  seq : Nat := 0
  /-- released by the tally but held by the ledger (11 R308). -/
  ledgerShort : Bool := false
  deriving DecidableEq, Repr

/-- A RELEASE taken by a TSU and not yet acted on (R299, R304). -/
structure Rel where
  /-- context (11 R299). -/
  ctx : Nat := 0
  /-- physical slot (11 R292). -/
  slot : Nat := 0
  /-- waiter, or all ones (11 R292). -/
  unit : Nat := 0
  /-- release tick (11 R292). -/
  tick : Nat := 0
  /-- release number (11 R292). -/
  num : Nat := 0
  /-- value (11 R292). -/
  value : Nat := 0
  /-- channel (11 R292). -/
  chan : Nat := 0
  /-- source die (11 R292). -/
  die : Nat := 0
  /-- tab (11 R292). -/
  tab : Nat := 0
  /-- the ledger decision has been made (11 R304). -/
  decided : Bool := false
  /-- the ledger condition holds (11 R304). -/
  okd : Bool := false
  /-- it is released late (11 R305). -/
  late : Bool := false
  deriving DecidableEq, Repr

/-- A RELEASE that a TSU has taken for a span tally in the step in flight (R293, R303 to R305, R316). -/
structure TRel where
  /-- release number (11 R292). -/
  num : Nat := 0
  /-- value (11 R292). -/
  value : Nat := 0
  /-- release tick, 0 for immediate (11 R292). -/
  tick : Nat := 0
  /-- channel (11 R292). -/
  chan : Nat := 0
  /-- source die (11 R292). -/
  die : Nat := 0
  /-- tab (11 R292). -/
  tab : Nat := 0
  /-- the ledger decision found the conditions met, for BROADCAST those of every release up to this one (11 R304). -/
  okd : Bool := false
  /-- cause 0x43 has been recorded at its decision (11 R304). -/
  told : Bool := false
  /-- it was decoded after R - 1,024 (11 R305). -/
  late : Bool := false
  /-- taint reasons of a waiter it releases, as bits (11 R298, R304). -/
  reasons : Nat := 0
  /-- counted as a tainting release (11 R316). -/
  counted : Bool := false
  deriving DecidableEq, Repr

/-- A span tally at a TSU in the step in flight (R292 to R294, R313). -/
structure STally where
  /-- context (11 R294). -/
  ctx : Nat := 0
  /-- physical slot (11 R294). -/
  slot : Nat := 0
  /-- value, or highest released use (11 R313). -/
  value : Nat := 0
  /-- last release tick (11 R313). -/
  relTick : Nat := 0
  /-- source die of the last release, when it carried one (11 R313). -/
  relDie : Option Nat := none
  /-- releases taken, in ascending order of release number (11 R293). -/
  rels : List TRel := []
  /-- DIRECTED credits held, oldest first: unit, release number (11 R284). -/
  credits : List (Nat × Nat) := []
  /-- next sequence of each sender (11 R292). -/
  seqs : List (Nat × Nat) := []
  /-- arrivals made in the step: unit, number (11 R284). -/
  arrivals : List (Nat × Nat) := []
  deriving DecidableEq, Repr

/-- One Arrival Ledger account (R300, R301). -/
structure Account where
  /-- value (11 R300). -/
  value : Nat := 0
  /-- reports that a ledger decision may still have to leave out: stamp, bytes (11 R304). -/
  reports : List (Nat × Nat) := []
  deriving DecidableEq, Repr

/-- Span tallies and the ledger at a TSU (R289 to R312). -/
structure TallySt where
  /-- span tallies of the steps in flight (11 R294). -/
  tal : List STally := []
  /-- open span waits (11 R310). -/
  waits : List SWait := []
  /-- releases scheduled or waiting for the ledger (11 R304). -/
  rels : List Rel := []
  /-- accounts by number (11 R300). -/
  accts : List (Nat × Account) := []
  deriving DecidableEq, Repr

/-- Clearing at a TSU (R322, R246, R346). -/
structure ClearSt where
  /-- bound die accumulators (12 R322). -/
  dieAccs : List Acc := []
  /-- bound deferred accumulators (09 R248). -/
  defAccs : List Acc := []
  /-- issues in flight, newest first (12 R345). -/
  issues : List Issue := []
  /-- present halves by bank (12 R346). -/
  banks : List (Nat × Bank) := []
  /-- bank of the last completed result of a handle in the span instance: context * 16 + handle, bank (09 R238). -/
  last : List (Nat × Nat) := []
  deriving DecidableEq, Repr

/-- A node of a Mint entry's BLAKE3 tree (R366). -/
structure MNode where
  /-- context (13 R366). -/
  ctx : Nat := 0
  /-- manifest entry (13 R366). -/
  entry : Nat := 0
  /-- step (13 R366). -/
  step : Nat := 0
  /-- first chunk (13 R366). -/
  chunk : Nat := 0
  /-- chunks covered (13 R366). -/
  len : Nat := 0
  /-- chaining value (13 R366). -/
  cv : Nat := 0
  /-- size exponent of its segment (13 R365). -/
  ex : Nat := 0
  deriving DecidableEq, Repr

/-- The Mint at a TSU (R364 to R367). -/
structure MintSt where
  /-- segments accepted whose chaining value is not yet posted: region, node (13 R366). -/
  lanes : List (Nat × MNode) := []
  /-- pending chaining values (13 R366). -/
  nodes : List MNode := []
  /-- entry digests formed in the step (13 R367). -/
  roots : List MNode := []
  /-- entries that cannot complete: context, entry, step (13 R366). -/
  bad : List (Nat × Nat × Nat) := []
  /-- entries that received segments: context, entry, step (13 R367). -/
  touched : List (Nat × Nat × Nat) := []
  /-- runs that have recorded cause 0x63: region, launch tick (13 R365). -/
  told : List (Nat × Nat) := []
  deriving DecidableEq, Repr

/-- A journal record at a TSU (R371 to R374). -/
structure JRec where
  /-- record number (13 R373). -/
  seq : Nat := 0
  /-- the RECORD message (13 R373). -/
  msg : Msg := {}
  /-- times sent on lane a (13 R374). -/
  sendsA : Nat := 0
  /-- times sent on lane b (13 R374). -/
  sendsB : Nat := 0
  /-- tick of the last send on lane a (13 R374). -/
  tickA : Nat := 0
  /-- tick of the last send on lane b (13 R374). -/
  tickB : Nat := 0
  /-- lane a's head has acknowledged it (13 R374). -/
  ackA : Bool := false
  /-- lane b's head has acknowledged it (13 R374). -/
  ackB : Bool := false
  /-- type (13 R371). -/
  typ : Nat := 0
  /-- reference context (13 R372). -/
  ctx : Nat := 0
  /-- reference step (13 R372). -/
  refStep : Nat := 0
  deriving DecidableEq, Repr

/-- Journal and replay at a TSU (R371 to R378). -/
structure JournalSt where
  /-- next record number (13 R373). -/
  nxt : Nat := 0
  /-- unacknowledged records (13 R374). -/
  pend : List JRec := []
  /-- REPLAY records waiting for their F: sequence, message (13 R378). -/
  held : List (Nat × Msg) := []
  /-- REPLAY sequences already taken (13 R378). -/
  got : List Nat := []
  /-- a key record has been journaled in this span instance (13 R363). -/
  keyJournaled : Bool := false
  deriving DecidableEq, Repr

/-- The Conformance Key at a TSU (R361 to R363). -/
structure KeySt where
  /-- key inputs changed since the last key: bits of cause 0x60 (13 R363, 14 R405). -/
  dirty : Nat := 0
  /-- tick on which the recomputation started (13 R363). -/
  since : Nat := 0
  /-- key before the last completion (13 R363). -/
  old : Nat := 0
  /-- tick of the last completion (13 R363). -/
  doneAt : Option Nat := none
  /-- length of the core map in bytes (13 R381). -/
  coreLen : Nat := 1
  deriving DecidableEq, Repr

/-- Power and watch of one region beyond its objects 0x9000+r and 0x8400+r (R393 to R402, R476 to R486). -/
structure Region where
  /-- ra_pgood (17 R476). -/
  pgood : Bool := false
  /-- ra_iso lines (14 R396, 17 R485). -/
  iso : Nat := 255
  /-- ra_cstop lines (14 R396). -/
  cstop : Nat := 0
  /-- ra_pu_en (17 R480). -/
  puEn : Nat := 0
  /-- ra_ret (17 R480). -/
  ret : Bool := false
  /-- ra_pwr_go (17 R480). -/
  pwrGo : Bool := false
  /-- ra_pwr_sel (17 R480). -/
  pwrSel : Nat := 0
  /-- tick of the last ra_pwr_refuse pulse (17 R478). -/
  refuse : Option Nat := none
  /-- ra_pwr_req (17 R478). -/
  pwrReq : Nat := 0
  /-- pending request code (17 R478). -/
  req : Option Nat := none
  /-- request tick (17 R479). -/
  reqAt : Nat := 0
  /-- the region itself made the request (17 R478). -/
  reqOwn : Bool := false
  /-- answer code of the standing delay (17 R479). -/
  delay : Nat := 0
  /-- 0 none, 1 waiting for rdy, 2 waiting for the power-good fall, 3 the same in its second limit, 4 leaving DOZE, 5 power-up, 6 taken down without the handshake, 7 logic ready, 8 regulator held off, 9 the state is entered on the next tick (14 R397, 17 R480 to R483). -/
  phase : Nat := 0
  /-- state being entered (17 R480). -/
  target : Nat := 0
  /-- start of the phase (17 R480). -/
  phaseAt : Nat := 0
  /-- power-up stage (17 R483). -/
  stage : Nat := 0
  /-- rung in progress: 0 none, 1 to 4 (14 R394). -/
  ladder : Nat := 0
  /-- start of the rung (14 R394). -/
  ladderAt : Nat := 0
  /-- faulting context (14 R394). -/
  ladderCtx : Nat := 0
  /-- ra_crst_req (14 R395). -/
  crstReq : Bool := false
  /-- the lines of rung 2 have been raised (14 R396). -/
  isolated : Bool := false
  /-- why the power cycle runs: 1 ladder, 2 power-good lost, 3 clock change hung, 4 command (14 R405). -/
  cycWhy : Nat := 0
  /-- starts of the power cycles of the last hour (14 R397). -/
  cycles : List Nat := []
  /-- start of the heartbeat window (14 R393). -/
  watchAt : Nat := 0
  deriving DecidableEq, Repr

/-- The Vault beyond its objects 0x9500 (R487 to R490). -/
structure VaultSt where
  /-- records: object, kind, value (17 R487). -/
  recs : List (Nat × Nat × Nat) := []
  /-- image generation in the header (17 R487). -/
  gen : Nat := 0
  /-- save tick (17 R487). -/
  saveTick : Nat := 0
  /-- the header check holds (17 R490). -/
  checkOk : Bool := true
  /-- tsu_sleep_ack (17 R489). -/
  sleepAck : Bool := false
  /-- saved region states (17 R489). -/
  regions : List (Nat × Nat) := []
  deriving DecidableEq, Repr

/-- Start-up of a TSU or hub (R491, R499). -/
structure StartSt where
  /-- start of the current stage (17 R491). -/
  stageAt : Nat := 0
  /-- tsu_ready (17 R491). -/
  ready : Bool := false
  /-- image generation in force (17 R492). -/
  imageGen : Nat := 0
  /-- span lanes are held DARK (not the twin lanes of a hub) (17 R489, R491, R493, R499). -/
  darkHold : Bool := true
  /-- regions marked for power-up (17 R490). -/
  toWake : List Nat := []
  /-- the firmware image in flash is good (17 R499). -/
  fwOk : Bool := true
  /-- start-up stages whose overrun has been recorded (17 R491, R499). -/
  told : List Nat := []
  deriving DecidableEq, Repr

/-- One reference input at a Keystone beyond its objects 0xB010+i (R122 to R133). -/
structure KRef where
  /-- the reference has qualified since power-up (05 R129). -/
  everQ : Bool := false
  /-- end of the wait-to-restore or start hold (05 R129). -/
  waitTo : Nat := 0
  /-- a wait runs (05 R129). -/
  waiting : Bool := false
  /-- qualified (05 R124). -/
  qual : Bool := false
  /-- tick of the last matching PDU (05 R126). -/
  pduAt : Option Nat := none
  /-- rank the twin holds for its own reference, as last carried over the twin lanes (05 R125). -/
  twinRank : Nat := 15
  /-- marker period of the last edge that entered the update interval (05 R133). -/
  perEdge : Option Nat := none
  /-- sum of phase errors in the update interval (05 R133). -/
  errSum : Int := 0
  /-- edges in the update interval (05 R133). -/
  errN : Nat := 0
  deriving DecidableEq, Repr

/-- The Keystone function of a hub beyond its objects 0xB000 and 0xB001 (R130 to R146). -/
structure Keystone where
  /-- integral I (05 R134). -/
  servoI : Rat := 0
  /-- start of the update interval (05 R133). -/
  updAt : Nat := 0
  /-- phase error of the last update (05 R139). -/
  lastErr : Int := 0
  /-- consecutive updates inside the lock window (05 R137). -/
  lockRun : Nat := 0
  /-- consecutive updates above the unlock window (05 R137). -/
  unlockRun : Nat := 0
  /-- d is in the clamp (05 R132). -/
  clamped : Bool := false
  /-- DCO history, newest first: tick, d (05 R136). -/
  hist : List (Nat × Int) := []
  /-- the history was valid at the last exit from LOCKED (05 R136). -/
  histValid : Bool := false
  /-- priority table write waiting for the next marker: marker, table (05 R128). -/
  tableAt : Option (Nat × Nat) := none
  /-- A, time units (05 R142). -/
  ancT : Nat := 0
  /-- S (05 R142). -/
  ancS : Nat := 0
  /-- label written and not yet applied (05 R143). -/
  label : Option Nat := none
  /-- labelled flag (05 R144). -/
  labelled : Bool := false
  /-- command 1 on realign is in force (05 R143). -/
  realign : Bool := false
  /-- part of a time unit that realignment has still to move, in units of 1/15,625,000,000 (05 R143). -/
  realignAcc : Nat := 0
  /-- time offset at the last edge less what realignment has moved since (05 R143). -/
  offNow : Int := 0
  /-- the state has left LOCKED since power-up, or t_h was taken from the root (05 R136). -/
  left : Bool := false
  /-- part of a unit that d has still to slew, in units of 1/1,562,500,000,000,000,000 (05 R132). -/
  dAcc : Nat := 0
  /-- tick of the last DAC discipline (05 R141). -/
  dacAt : Nat := 0
  /-- tick of the last history record (05 R136). -/
  histAt : Nat := 0
  /-- root's state last received by the follower (05 R145). -/
  rootState : Nat := 0
  /-- root's history validity last received (05 R145). -/
  rootHist : Bool := false
  /-- root's t_h last received (05 R145). -/
  rootTh : Nat := 0
  /-- entry that a Keystone which does not steer selects for itself; 0xFF none (05 R145). -/
  ownSel : Nat := 0xFF
  /-- tick of the last anchor distribution to every TSU (06 R161). -/
  distAt : Option Nat := none
  /-- counter of the last epoch copies written to every Pier and Arch (15 R415). -/
  epochWas : Option Nat := none
  /-- what it carried, the second rolls of the anchor taken out (06 R161). -/
  distWas : Nat := 0
  deriving DecidableEq, Repr

/-- Combining state of one escrow instance at a hub (R271). -/
structure EscInst where
  /-- span (10 R261). -/
  span : Nat := 0
  /-- epoch (10 R261). -/
  epoch : Nat := 0
  /-- context (10 R261). -/
  ctx : Nat := 0
  /-- step number (10 R261). -/
  step : Nat := 0
  /-- attempt (10 R261). -/
  attempt : Nat := 0
  /-- table (10 R262). -/
  table : Nat := 0
  /-- commit horizon (10 R263). -/
  hz : Nat := 0
  /-- tick on which the expected set is taken (10 R271). -/
  setAt : Nat := 0
  /-- expected downlinks that have not delivered (10 R271). -/
  expect : List Nat := []
  /-- the expected set has been taken (10 R271). -/
  setDone : Bool := false
  /-- ok count (10 R271). -/
  ok : Nat := 0
  /-- nak count (10 R271). -/
  nak : Nat := 0
  /-- first nak die (10 R271). -/
  nakDie : Nat := 0xFFFFF
  /-- its reason (10 R271). -/
  nakWhy : Nat := 0
  /-- highest next step (10 R271). -/
  high : Nat := 0
  /-- combined answer sent (10 R271). -/
  sent : Bool := false
  /-- tick from which the 32 ticks to the combined answer count (10 R271). -/
  doneAt : Option Nat := none
  deriving DecidableEq, Repr

/-- A head entry beyond its objects 0x4900+k (R269 to R281). -/
structure Head where
  /-- an escrow is in flight (10 R281). -/
  flight : Bool := false
  /-- step of the escrow held (10 R277). -/
  fStep : Nat := 0
  /-- attempt of the escrow held (10 R277). -/
  fAtt : Nat := 0
  /-- fire tick of the escrow held (10 R277). -/
  fFire : Nat := 0
  /-- the leader's ARM for the next escrow is held (10 R269). -/
  armHeld : Bool := false
  /-- the ARM of the next escrow has been handed to the twin (10 R269). -/
  handed : Bool := false
  /-- tick on which the entry started or advanced to its next escrow (10 R269). -/
  advAt : Nat := 0
  /-- this hub leads the escrow held (10 R274). -/
  leads : Bool := false
  /-- the entry has not advanced past the escrow held (10 R277). -/
  isOpen : Bool := false
  /-- cause 0x34 recorded for the missing ARM of the next escrow (10 R269). -/
  missTold : Bool := false
  /-- 0 none, 1 CONFIRM, 2 RECALL (10 R273). -/
  decided : Nat := 0
  /-- own plane total: ok, nak, nak die, reason, highest next step (10 R272). -/
  own : Option (Nat × Nat × Nat × Nat × Nat) := none
  /-- total received from the twin (10 R272). -/
  twin : Option (Nat × Nat × Nat × Nat × Nat) := none
  /-- the follower advanced at Hz without a decision (10 R277). -/
  hzPassed : Bool := false
  deriving DecidableEq, Repr

/-- The lead of a hub (R274). -/
structure LeadSt where
  /-- this hub leads its pair; at power-up the plane-A hub leads (10 R274). -/
  leading : Bool := true
  /-- tick since which both twin lanes have been out of SYNCED (10 R274). -/
  twinOutAt : Option Nat := some 0
  /-- tick of the first such report (10 R274). -/
  zeroAt : Option Nat := none
  /-- tick of the last TWIN LEAD (10 R274). -/
  lastSend : Nat := 0
  deriving DecidableEq, Repr

/-- A unit or credit waiting at a head (R296). -/
structure HUnit where
  /-- issue tick, sender and sequence as one order key (11 R296). -/
  key : Nat := 0
  /-- units left (11 R296). -/
  n : Nat := 0
  /-- DIRECTED target (11 R296). -/
  target : Nat := 0
  /-- channel (11 R292). -/
  chan : Nat := 0
  /-- source die (11 R292). -/
  die : Nat := 0
  /-- tab (11 R292). -/
  tab : Nat := 0
  /-- release index it belongs to (11 R296). -/
  k : Nat := 0
  deriving DecidableEq, Repr

/-- A COUNT wait registered at a head (R296). -/
structure HWait where
  /-- waiter (11 R292). -/
  unit : Nat := 0
  /-- release index its WAIT belongs to (11 R296). -/
  k : Nat := 0
  /-- sequence of its WAIT (11 R292). -/
  seq : Nat := 0
  /-- release index its CANCEL belongs to (11 R296). -/
  gone : Option Nat := none
  deriving DecidableEq, Repr

/-- A physical tally slot at a hub in one step (R293 to R298). -/
structure HTally where
  /-- step held (11 R294). -/
  step : Nat := 0
  /-- epoch of the instance (11 R294). -/
  epoch : Nat := 0
  /-- value (11 R317). -/
  value : Nat := 0
  /-- highest released use (11 R317). -/
  used : Nat := 0
  /-- arrivals counted: use, count (11 R293). -/
  arrive : List (Nat × Nat) := []
  /-- uses found late (11 R297). -/
  moved : List Nat := []
  /-- signals not yet used up (11 R296). -/
  units : List HUnit := []
  /-- registered waiters in ascending order of unit (11 R296). -/
  waiters : List HWait := []
  /-- (unit, sequence) already taken (11 R293). -/
  seen : List (Nat × Nat) := []
  /-- next release index to decide (11 R296). -/
  nextK : Nat := 0
  /-- releases (11 R317). -/
  rels : Nat := 0
  /-- last signaller (11 R317). -/
  sigUnit : Nat := 0
  /-- last signal issue tick (11 R317). -/
  sigTick : Nat := 0
  /-- last release tick (11 R317). -/
  relTick : Nat := 0
  /-- ARRIVEs held for combining: step, use, sum, latest tick, due (11 R293). -/
  hold : List (Nat × Nat × Nat × Nat × Nat) := []
  /-- the leader was lost in this step: the slot releases nothing further in it (11 R311). -/
  frozen : Bool := false
  /-- a message has changed an immediate slot since its last decision (11 R298). -/
  dirty : Bool := false
  /-- configuration of the slot, object 0x5400.01 (11 R317). -/
  cfg : Nat := 0
  deriving DecidableEq, Repr

/-- Delivery of one downlink to a Clearing instance (R335). -/
structure EngIn where
  /-- downlink (12 R335). -/
  port : Nat := 0
  /-- next element expected (12 R335). -/
  nxt : Nat := 0
  /-- it has left the set (12 R335). -/
  gone : Bool := false
  deriving DecidableEq, Repr

/-- One element of a Clearing instance at a hub (R335). -/
structure EngEl where
  /-- combined state (12 R335). -/
  st : Elem := {}
  /-- contributors (12 R335). -/
  contrib : Nat := 0
  /-- first word of the frame that completed it (12 R336). -/
  doneAt : Nat := 0
  deriving DecidableEq, Repr

/-- A Clearing engine at a hub (R334 to R343). -/
structure Engine where
  /-- an instance is held (12 R334). -/
  live : Bool := false
  /-- step bits (12 R334). -/
  step : Nat := 0
  /-- epoch (12 R334). -/
  epoch : Nat := 0
  /-- tick of the first PARTIAL (12 R334). -/
  firstAt : Nat := 0
  /-- the expected set (12 R335). -/
  ins : List EngIn := []
  /-- elements by index (12 R338). -/
  elems : List (Nat × EngEl) := []
  /-- elements complete (12 R335). -/
  comp : Nat := 0
  /-- elements sent or taken as sent (12 R336). -/
  sent : Nat := 0
  /-- last send tick (12 R355). -/
  sendAt : Nat := 0
  /-- census entries to send, ascending (12 R343). -/
  cens : List Nat := []
  /-- rounded elements (12 R340). -/
  rounded : Nat := 0
  /-- contributors of the last element (12 R355). -/
  lastContrib : Nat := 0
  /-- contributors fell short; nothing further is sent (12 R339). -/
  short : Bool := false
  /-- the none-form PARTIAL has been sent (12 R337). -/
  alt : Bool := false
  deriving DecidableEq, Repr

/-- A trail at a hub (R376). -/
structure Trail where
  /-- span (13 R376). -/
  span : Nat := 0
  /-- epoch (13 R376). -/
  epoch : Nat := 0
  /-- context (13 R376). -/
  ctx : Nat := 0
  /-- step number (13 R376). -/
  step : Nat := 0
  /-- tick of the first TAG (13 R376). -/
  firstAt : Nat := 0
  /-- downlinks still expected (13 R376). -/
  expect : List Nat := []
  /-- downlink, tag, count, incomplete (13 R376). -/
  tags : List (Nat × Nat × Nat × Bool) := []
  /-- first word of the frame that brought the last TAG (13 R376). -/
  lastAt : Nat := 0
  /-- tick of the close once the last TAG is in (13 R376). -/
  due : Option Nat := none
  deriving DecidableEq, Repr

/-- A stored record of a hub's journal ring (R375). -/
structure JSlot where
  /-- span (13 R375). -/
  span : Nat := 0
  /-- epoch (13 R375). -/
  epoch : Nat := 0
  /-- slots taken (13 R375). -/
  slots : Nat := 1
  /-- a trail record (13 R375). -/
  trail : Bool := false
  /-- die (13 R373). -/
  die : Nat := 0
  /-- record number (13 R373). -/
  seq : Nat := 0
  /-- context (13 R372). -/
  ctx : Nat := 0
  /-- reference step, or the trail's step (13 R372). -/
  step : Nat := 0
  /-- type of a record (13 R373). -/
  typ : Nat := 0
  /-- the cells of the RECORD message (13 R373). -/
  cells : List Nat := []
  /-- a trail record (13 R376). -/
  data : Nat := 0
  /-- uncorrectable error found by scrubbing (13 R375). -/
  damaged : Bool := false
  /-- slot in the ring (13 R375). -/
  pos : Nat := 0
  deriving DecidableEq, Repr

/-- Replay at a hub (R377 to R379). -/
structure ReplaySt where
  /-- source records already sent: die, sequence (13 R378). -/
  done : List (Nat × Nat) := []
  /-- records sent and not acknowledged: die, sequence (13 R378). -/
  sent : List (Nat × Nat) := []
  deriving DecidableEq, Repr

/-- The journal of a hub (R375). -/
structure JournalHub where
  /-- stored records, oldest first (13 R375). -/
  ring : List JSlot := []
  /-- slots written so far, and the next slot while the ring is not full (13 R375). -/
  head : Nat := 0
  /-- span instances for which cause 0x67 has been recorded: span * 2^32 + epoch (13 R375). -/
  told : List Nat := []
  deriving DecidableEq, Repr

/-- A Pier downlink beyond its objects 0xC200+p and 0xC300+p (R410, R417 to R428). -/
structure DPort where
  /-- the port has been released before (15 R410). -/
  everRel : Bool := false
  /-- the lane entry is still to be written (15 R412). -/
  pendLane : Bool := false
  /-- own uncorrectable frames in the interval (15 R419). -/
  xLink : Nat := 0
  /-- the twin's uncorrectable frames (15 R419). -/
  twinLink : Nat := 0
  /-- counted audit mismatches and shadow mismatches (15 R419). -/
  xAudit : Nat := 0
  /-- REPORT of the interval (15 R418). -/
  report : Option Nat := none
  /-- object 0x3010+p.09 at the last interval end (15 R419). -/
  base09 : Nat := 0
  /-- tick of the last EXPEL (15 R420). -/
  expelAt : Option Nat := none
  /-- the die has been expelled and not reinstated (15 R420). -/
  expelled : Bool := false
  /-- interval end evaluated last (15 R419). -/
  evalAt : Option Nat := none
  /-- interval end reported to the twin last (15 R434). -/
  sentAt : Option Nat := none
  deriving DecidableEq, Repr

/-- An expulsion granted (R421). -/
structure Grant where
  /-- span (15 R421). -/
  span : Nat := 0
  /-- grant tick (15 R421). -/
  tick : Nat := 0
  /-- die (15 R421). -/
  die : Nat := 0
  deriving DecidableEq, Repr

/-- GOA operator state at a hub beyond objects 0x1900+o (R454 to R456). -/
structure Operator where
  /-- key (16 R472). -/
  key : Nat := 0
  /-- key that takes effect once the response has been sent (16 R455). -/
  newKey : Option Nat := none
  /-- the request that wrote it: operator, sequence (16 R455). -/
  keyBy : Nat × Nat := (0, 0)
  /-- responses held: sequence, payload bytes (16 R456). -/
  cache : List (Nat × List Nat) := []
  /-- tick of the last cause 0x97 by management port (16 R454). -/
  toldAuth : List (Nat × Nat) := []
  /-- tick of the last cause 0x98 by management port (16 R456). -/
  toldStale : List (Nat × Nat) := []
  /-- sequence stored in flash (16 R456). -/
  stored : Nat := 0
  deriving DecidableEq, Repr

/-- A GOA request waiting for its relayed operations (R457). -/
structure GoaReq where
  /-- operator (16 R453). -/
  op : Nat := 0
  /-- management port (16 R452). -/
  port : Nat := 0
  /-- source address (16 R452). -/
  addr : Nat := 0
  /-- request payload (16 R453). -/
  bytes : List Nat := []
  /-- operations answered so far: status, last, data (16 R457). -/
  outs : List (Nat × Bool × List Nat) := []
  /-- bytes that the operation under way has moved by relay (16 R457). -/
  part : List Nat := []
  /-- tag of the relayed segment waited for (16 R457). -/
  wait : Option Nat := none
  deriving DecidableEq, Repr

/-- The answer of a relayed request (R447, R451). -/
structure RelayAns where
  /-- tag (16 R447). -/
  tag : Nat := 0
  /-- status (16 R443). -/
  status : Nat := 0
  /-- the segment reached the object's end (16 R447). -/
  last : Bool := false
  /-- payload (16 R448). -/
  data : List Nat := []
  deriving DecidableEq, Repr

/-- A transfer that a GOA operator has open on another node (R457). -/
structure GoaXfer where
  /-- operator (16 R453). -/
  op : Nat := 0
  /-- management port (16 R452). -/
  port : Nat := 0
  /-- target (16 R453). -/
  dst : Nat := 0
  /-- object (16 R453). -/
  oid : Nat := 0
  /-- a write transfer (16 R453). -/
  write : Bool := false
  /-- its tag (16 R457). -/
  tag : Nat := 0
  deriving DecidableEq, Repr

/-- A relayed request this hub originated (R451). -/
structure RelayReq where
  /-- tag (16 R447). -/
  tag : Nat := 0
  /-- destination (16 R447). -/
  dst : Nat := 0
  /-- the request (16 R447). -/
  msg : Msg := {}
  /-- tick of the request (16 R451). -/
  tick0 : Nat := 0
  deriving DecidableEq, Repr

/-- Object access at a hub: GOA and originated relays (R447 to R457). -/
structure Access where
  /-- operators (16 R456). -/
  ops : List (Nat × Operator) := []
  /-- requests being executed (16 R457). -/
  reqs : List GoaReq := []
  /-- relayed requests without a RESPONSE (16 R451). -/
  relays : List RelayReq := []
  /-- next tag (16 R447). -/
  nextTag : Nat := 0
  /-- answers of relayed requests that a GOA request waits for (16 R451). -/
  replies : List RelayAns := []
  /-- relayed transfers that run over several operations or requests (16 R457). -/
  xfers : List GoaXfer := []
  /-- GOA responses sent: management port, address, payload (16 R452). -/
  goaOut : List (Nat × Nat × List Nat) := []
  deriving DecidableEq, Repr

/-- The test access port of the hub chip (R526). -/
structure Tap where
  /-- instruction in force; IDCODE after TRST_N (log entry 250) (18 R526). -/
  instr : TapInstr := .idcode
  /-- the register that shifts between TDI and TDO, the bit at TDO first (18 R526). -/
  shift : List Bool := []
  /-- boundary cells: what EXTEST drives, preloaded by SAMPLE/PRELOAD (18 R526). -/
  cells : List Bool := []
  deriving DecidableEq, Repr

/-- Hub power and module (R494 to R502, R527 to R534). -/
structure HubPower where
  /-- 0 ACTIVE, 1 SENTINEL, 2 OFF (17 R494). -/
  state : Nat := 0
  /-- tick of the last visit or of entry (17 R496). -/
  sentAt : Nat := 0
  /-- ping sent, pong awaited (17 R496). -/
  pingAt : Option Nat := none
  /-- consecutive misses (17 R496). -/
  missRun : Nat := 0
  /-- pongs due: port, TB1 (17 R497). -/
  pongs : List (Nat × Nat) := []
  /-- the test access port of the chip (18 R526). -/
  tap : Tap := {}
  /-- a firmware restart runs (14 R404). -/
  fwDown : Bool := false
  /-- firmware restarts since power-up (14 R405). -/
  restarts : Nat := 0
  /-- segments received: number, bytes (17 R500). -/
  segs : List (Nat × List Nat) := []
  /-- length of the image being received (17 R500). -/
  updLen : Nat := 0
  /-- its digest (17 R500). -/
  updDig : Nat := 0
  /-- firmware image in flash (17 R500). -/
  fwImg : List Nat := []
  /-- its stored digest (17 R499). -/
  fwDig : Nat := 0x62321fe4ca939accb712c1adc925cb9b49c9dc36ea4d40a0a6a1f9f5b94913af
  /-- twin replies held: offset, 96 bytes (17 R500). -/
  recov : List (Nat × List Nat) := []
  /-- RWS values in configuration flash: object, value (17 R502). -/
  flash : List (Nat × Nat) := []
  /-- image generation under which they were stored (17 R499). -/
  flashGen : Nat := 0
  /-- tick of the last firmware request to the twin (17 R500). -/
  fwAsked : Option Nat := none
  /-- version of the firmware image in flash (16 R469, 17 R503). -/
  fwVer : Nat := 0x00010000
  /-- a configuration image has been applied (17 R499). -/
  cfgOk : Bool := false
  /-- configuration image in flash (17 R499). -/
  cfgImg : List Nat := []
  /-- tick of the last flash write of each object (17 R502). -/
  lastFlash : List (Nat × Nat) := []
  /-- the chip supply is on (18 R532). -/
  chipOn : Bool := true
  /-- causes to be recorded at the next start-up: cause, detail (18 R532, R534). -/
  latent : List (Nat × Nat) := []
  /-- thresholds crossed and not yet cleared by the hysteresis (18 R534). -/
  hot : List Nat := []
  /-- partner power requests passed over the sideband (18 R533). -/
  partnerReq : Nat := 0
  /-- restarts from the button or the input (18 R533). -/
  button : Nat := 0
  deriving DecidableEq, Repr

/-- A write that has completed and takes effect at the start of the next tick (R440). -/
structure PendWrite where
  /-- 0 register port, 1 relay, 2 + 2 o + m for GOA operator o on MGTm (16 R440). -/
  via : Nat := 0
  /-- source of a relayed write (16 R447). -/
  src : Nat := 0
  /-- lane that delivered a relayed write to a TSU (15 R412). -/
  port : Nat := 0
  /-- a replayed input, which replay input mode does not suppress (13 R378). -/
  replayed : Bool := false
  /-- object (16 R440). -/
  obj : Nat := 0
  /-- first byte of the range (16 R441). -/
  off : Nat := 0
  /-- bytes of the range (16 R441). -/
  data : List Nat := []
  deriving DecidableEq, Repr

/-- Census of a node (R429 to R432). -/
structure CensusSt where
  /-- pending span censuses: T, mask, number, and whether the Agents are missed (15 R432). -/
  latchAt : List (Nat × Nat × Nat × Bool) := []
  /-- shadows of sets 3, 4 and 5: object, value (15 R429). -/
  linkSh : List (Nat × Nat) := []
  /-- late steps in the health interval (15 R418). -/
  lateSteps : Nat := 0
  /-- steps fired fenced in the interval (15 R418). -/
  fencedFires : Nat := 0
  /-- counts at the last interval end: object, value (15 R418). -/
  base : List (Nat × Nat) := []
  /-- counter sources in force that count an event: counter (64 + 8 * region + n for a Region Agent's), source (15 R430). -/
  srcs : List (Nat × Nat) := []
  deriving DecidableEq, Repr

/-- One unit of the hall that the model holds: a TSU or a hub, with everything the specification gives it; the parts its kind does not have stay as they are after reset. -/
structure Node where
  /-- node kind: Full TSU, Edge TSU or hub (16 R469, 02 R66). -/
  kind : Kind := .full
  /-- plane of a hub: 0 A, 1 B (01 R24, 02 R66). -/
  plane : Nat := 0
  /-- level of a hub: 1 Pier, 2 Arch, 3 Keystone (01 R24). -/
  level : Nat := 1
  /-- arch position of a hub (01 R24). -/
  arch : Nat := 0
  /-- pier position of a hub (01 R24). -/
  pier : Nat := 0
  /-- the hall has three levels (01 R24). -/
  threeLevel : Bool := true
  /-- TB1, the span tick count of this unit (01 R5, 06 R154). -/
  tb1 : Nat := 0
  /-- number of free values taken so far (model's own). -/
  fresh : Nat := 0
  /-- objects that do not hold their default, keyed by index * 256 + subindex (16 R438). -/
  objs : Store := []
  /-- writes accepted and taking effect at the next tick (16 R440). -/
  deferred : List PendWrite := []
  /-- fault log, oldest record first (14 R385). -/
  log : List Nat := []
  /-- tick of the last fall of an interrupt line (16 R468). -/
  lineLow : List (Nat × Nat) := []
  /-- first copies of fault slots: slot key, tick (02 R53). -/
  seen : List (Nat × Nat) := []
  /-- first copies of messages forwarded or stored: message key, tick (10 R270, 11 R293, 12 R541, 13 R374). -/
  fwd : List (Nat × Nat) := []
  /-- link ends by port (02 R62). -/
  links : Tbl LinkEnd := []
  /-- time transfer of the node (03 R72). -/
  tnode : TimeNode := {}
  /-- time transfer by port (03 R78). -/
  tports : Tbl TimePort := []
  /-- TDC channels (04 R99). -/
  chans : Tbl TdcChan := []
  /-- event inputs (04 R106). -/
  evins : Tbl EvIn := []
  /-- general measurement slots (04 R109). -/
  mslots : Tbl MSlot := []
  /-- regression engines (04 R112). -/
  regrs : Tbl Regr := []
  /-- access routes: 0 register port, 1 relay, 2 + 2 * operator + port for GOA (16 R442). -/
  routes : Tbl Route := []
  /-- last answer by route (16 R443). -/
  answers : Tbl Answer := []
  /-- census (15 R429). -/
  census : CensusSt := {}
  /-- start-up (17 R491). -/
  start : StartSt := {}
  /-- time bases of a TSU (06 R154). -/
  bases : Tbl TBase := []
  /-- hall time of a TSU (06 R160). -/
  hall : HallSt := {}
  /-- capture queues (06 R166). -/
  caps : Tbl CapQ := []
  /-- TSU pulse outputs (06 R167). -/
  pulses : Tbl PulseSt := []
  /-- tick bus at the core (07 R178). -/
  bus : BusSt := {}
  /-- Region Agents (07 R173). -/
  agents : Tbl Agent := []
  /-- Viaduct cells (08 R203). -/
  cells : Tbl Viaduct := []
  /-- step table slots (09 R221). -/
  tslots : Tbl TSlot := []
  /-- contexts (09 R228, 10 R265). -/
  ctxs : Tbl Ctx := []
  /-- Clearing at a TSU (12 R322). -/
  clr : ClearSt := {}
  /-- span tallies and ledger at a TSU (11 R289). -/
  tally : TallySt := {}
  /-- Mint (13 R364). -/
  mint : MintSt := {}
  /-- journal and replay at a TSU (13 R371). -/
  jrnl : JournalSt := {}
  /-- Conformance Key (13 R363). -/
  key : KeySt := {}
  /-- power and watch of the regions (17 R476). -/
  regions : Tbl Region := []
  /-- Vault (17 R487). -/
  vault : VaultSt := {}
  /-- Keystone function (05 R130). -/
  kst : Keystone := {}
  /-- reference inputs (05 R122). -/
  refs : Tbl KRef := []
  /-- reference monitors (05 R123). -/
  monitors : Tbl Regr := []
  /-- pulse and frequency outputs of a hub (05 R147). -/
  outs : Tbl PulseSt := []
  /-- escrow combining states (10 R271). -/
  escInst : List EscInst := []
  /-- head entries (10 R281). -/
  heads : Tbl Head := []
  /-- lead of the pair (10 R274). -/
  lead : LeadSt := {}
  /-- span tally slots at a hub (11 R293). -/
  htal : Tbl HTally := []
  /-- Clearing engines (12 R334). -/
  engines : Tbl Engine := []
  /-- trails (13 R376). -/
  trails : List Trail := []
  /-- journal ring (13 R375). -/
  jhub : JournalHub := {}
  /-- replay at a hub (13 R378). -/
  replay : ReplaySt := {}
  /-- span list (15 R409). -/
  spans : Tbl Nat := []
  /-- Pier downlinks (15 R410). -/
  dports : Tbl DPort := []
  /-- expulsions granted (15 R421). -/
  grants : List Grant := []
  /-- relay and GOA of a hub (16 R447). -/
  access : Access := {}
  /-- hub power and module (17 R494). -/
  hpwr : HubPower := {}
  deriving DecidableEq, Repr

/-- The state of the model: one TSU, one hub, and the commands that wait. -/
structure State where
  /-- the TSU (01 R19). -/
  tsu : Node := {}
  /-- the hub (01 R19). -/
  hub : Node := {}
  /-- commands waiting, first in first out (the block's interface). -/
  pending : List Instr := []
  deriving DecidableEq, Repr

/-- The machine right after reset (log entries 2, 3, 11): a Full TSU and a plane-A Pier hub, every object at its default,
no command waiting. -/
def State.reset : State where
  tsu := { kind := .full }
  hub := { kind := .hub }
  pending := []

end Sys2Proof.Machine
end

