-- ==== Sys2Proof/Machine/Dict.lean ====
section
/-! DEFINITION. The object dictionary: which objects each kind of unit holds, their widths, access rights and
defaults (16 R438 to R443; 00 R17, R18; the object tables of every chapter). -/

namespace Sys2Proof.Machine

/-- Access rights of an object; a LOCK object names the function that owns it (00 R17, 16 R465). -/
inductive Right where
  | ro | rw | rws | cmd | wo
  | lock (owner : Nat)
  deriving DecidableEq, Repr

/-- One row of an object table: subindex, width in bits, entry size in bytes of a TBL (0 otherwise), right, and the
default on a Full TSU, an Edge TSU and a hub. -/
structure ORow where
  sub : Nat
  width : Nat
  entry : Nat
  right : Right
  dFull : Nat
  dEdge : Nat
  dHub : Nat
  deriving DecidableEq, Repr

/-- The objects of one base index: how many indices a Full TSU, an Edge TSU and a hub hold from it, and the rows. -/
structure OGrp where
  base : Nat
  full : Nat
  edge : Nat
  hub : Nat
  rows : List ORow
  deriving DecidableEq, Repr

/-- Objects 0x1000 of the dictionary (16 R469). -/
def grp_idn : OGrp := ⟨0x1000, 1, 1, 1, [
    ⟨0x00, 8, 0, .ro, 1, 2, 3⟩,
    ⟨0x01, 8, 0, .ro, 1, 1, 1⟩,
    ⟨0x02, 32, 0, .ro, 66048, 66048, 65536⟩,
    ⟨0x03, 64, 0, .ro, 15, 15, 15⟩,
    ⟨0x04, 64, 0, .ro, 15, 15, 15⟩,
    ⟨0x05, 128, 0, .ro, 0, 0, 0⟩,
    ⟨0x06, 32, 0, .ro, 0xfffff, 0xfffff, 0xfffff⟩,
    ⟨0x07, 64, 0, .ro, 0, 0, 0⟩,
    ⟨0x08, 16, 0, .ro, 0, 0, 0⟩,
    ⟨0x09, 32, 0, .ro, 0, 0, 0⟩]⟩

/-- Objects 0x1100+f of the dictionary (16 R471). -/
def grp_fn : OGrp := ⟨0x1100, 9, 9, 6, [
    ⟨0x00, 8, 0, .ro, 0, 0, 0⟩,
    ⟨0x01, 8, 0, .rws, 1, 1, 1⟩,
    ⟨0x02, 32, 0, .rws, 1000, 1000, 1000⟩,
    ⟨0x03, 64, 0, .ro, 0, 0, 0⟩,
    ⟨0x04, 32, 0, .ro, 0, 0, 0⟩,
    ⟨0x05, 64, 0, .ro, 0, 0, 0⟩,
    ⟨0x06, 64, 0, .ro, 0, 0, 0⟩]⟩

/-- Objects 0x1800 of the dictionary (16 R470). -/
def grp_irq : OGrp := ⟨0x1800, 1, 1, 0, [
    ⟨0x00, 4096, 1, .rws, 0, 0, 0⟩,
    ⟨0x01, 512, 0, .ro, 0, 0, 0⟩,
    ⟨0x02, 512, 0, .wo, 0, 0, 0⟩,
    ⟨0x03, 8, 0, .ro, 0, 0, 0⟩]⟩

/-- Objects 0x1801 of the dictionary (16 R470). -/
def grp_acc : OGrp := ⟨0x1801, 1, 1, 1, [
    ⟨0x00, 8, 0, .ro, 0, 0, 0⟩,
    ⟨0x01, 8, 0, .ro, 0, 0, 0⟩,
    ⟨0x02, 8, 0, .ro, 0, 0, 0⟩,
    ⟨0x03, 64, 0, .ro, 0, 0, 0⟩,
    ⟨0x04, 64, 0, .ro, 0, 0, 0⟩,
    ⟨0x05, 64, 0, .ro, 0, 0, 0⟩]⟩

/-- Objects 0x1900+o of the dictionary (16 R472). -/
def grp_opr : OGrp := ⟨0x1900, 0, 0, 16, [
    ⟨0x00, 64, 0, .rws, 0, 0, 0⟩,
    ⟨0x01, 256, 0, .wo, 0, 0, 0⟩,
    ⟨0x02, 64, 0, .ro, 0, 0, 0⟩,
    ⟨0x03, 64, 0, .ro, 0, 0, 0⟩,
    ⟨0x04, 64, 0, .ro, 0, 0, 0⟩,
    ⟨0x05, 64, 0, .ro, 0, 0, 0⟩]⟩

/-- Objects 0x1910 of the dictionary (16 R472). -/
def grp_goa : OGrp := ⟨0x1910, 0, 0, 1, [
    ⟨0x00, 16, 0, .rws, 4712, 4712, 4712⟩,
    ⟨0x01, 128, 0, .rws, 0, 0, 0⟩,
    ⟨0x02, 128, 0, .rws, 0, 0, 0⟩,
    ⟨0x03, 8, 0, .ro, 32, 32, 32⟩]⟩

/-- Objects 0x2000+k of the dictionary (06 R171). -/
def grp_tb : OGrp := ⟨0x2000, 8, 8, 2, [
    ⟨0x00, 96, 0, .ro, 0, 0, 0⟩,
    ⟨0x01, 8, 0, .rws, 0, 0, 0⟩,
    ⟨0x02, 64, 0, .rw, 0xa3d70a3d70a4, 0xa3d70a3d70a4, 0xa3d70a3d70a4⟩,
    ⟨0x03, 256, 0, .cmd, 0, 0, 0⟩,
    ⟨0x04, 64, 0, .rw, 0xabcc771, 0xabcc771, 0xabcc771⟩,
    ⟨0x05, 64, 0, .ro, 0, 0, 0⟩,
    ⟨0x06, 64, 0, .ro, 0, 0, 0⟩]⟩

/-- Objects 0x2010 of the dictionary (06 R171). -/
def grp_hall : OGrp := ⟨0x2010, 1, 1, 0, [
    ⟨0x00, 192, 0, .rw, 0, 0, 0⟩,
    ⟨0x01, 32, 0, .rws, 1000, 1000, 1000⟩,
    ⟨0x02, 32, 0, .rws, 1000, 1000, 1000⟩,
    ⟨0x03, 16, 0, .ro, 0, 0, 0⟩,
    ⟨0x04, 64, 0, .ro, 0, 0, 0⟩,
    ⟨0x05, 64, 0, .ro, 0, 0, 0⟩]⟩

/-- Objects 0x2810+i of the dictionary (06 R172). -/
def grp_cap : OGrp := ⟨0x2810, 8, 8, 0, [
    ⟨0x00, 8, 0, .rws, 0, 0, 0⟩,
    ⟨0x01, 8, 0, .rws, 0, 0, 0⟩,
    ⟨0x02, 8, 0, .rws, 15, 15, 15⟩,
    ⟨0x03, 384, 0, .ro, 0, 0, 0⟩,
    ⟨0x04, 8, 0, .ro, 0, 0, 0⟩,
    ⟨0x05, 64, 0, .ro, 0, 0, 0⟩]⟩

/-- Objects 0x2840+k of the dictionary (06 R172). -/
def grp_pulse : OGrp := ⟨0x2840, 4, 4, 0, [
    ⟨0x00, 8, 0, .rws, 0, 0, 0⟩,
    ⟨0x01, 64, 0, .rws, 0, 0, 0⟩,
    ⟨0x02, 32, 0, .rws, 0x2625a, 0x2625a, 0x2625a⟩,
    ⟨0x03, 32, 0, .rws, 0x17d784, 0x17d784, 0x17d784⟩,
    ⟨0x04, 64, 0, .rw, 0, 0, 0⟩,
    ⟨0x05, 64, 0, .ro, 0, 0, 0⟩]⟩

/-- Objects 0x2880+l of the dictionary (06 R172). -/
def grp_irqLine : OGrp := ⟨0x2880, 8, 8, 0, [
    ⟨0x00, 192, 0, .ro, 0, 0, 0⟩]⟩

/-- Objects 0x3000 of the dictionary (02 R70). -/
def grp_linkCfg : OGrp := ⟨0x3000, 1, 1, 1, [
    ⟨0x00, 8, 0, .ro, 2, 2, 68⟩,
    ⟨0x01, 64, 0, .ro, 15, 15, 15⟩,
    ⟨0x02, 16, 0, .rw, 16, 16, 16⟩,
    ⟨0x03, 32, 0, .rw, 65536, 65536, 65536⟩,
    ⟨0x04, 32, 0, .rw, 0x2625a, 0x2625a, 0x2625a⟩,
    ⟨0x05, 32, 0, .rw, 0x17d784, 0x17d784, 0x17d784⟩,
    ⟨0x06, 32, 0, .rw, 0xee6b28, 0xee6b28, 0xee6b28⟩,
    ⟨0x07, 8, 0, .rw, 16, 16, 16⟩,
    ⟨0x08, 16, 0, .rw, 1024, 1024, 1024⟩]⟩

/-- Objects 0x3001 of the dictionary (03 R95). -/
def grp_time : OGrp := ⟨0x3001, 1, 1, 1, [
    ⟨0x00, 8, 0, .ro, 0, 0, 0⟩,
    ⟨0x01, 8, 0, .ro, 127, 127, 127⟩,
    ⟨0x02, 8, 0, .ro, 15, 15, 15⟩,
    ⟨0x03, 8, 0, .rw, 2, 2, 0⟩,
    ⟨0x04, 16, 0, .rw, 32768, 32768, 32768⟩,
    ⟨0x05, 16, 0, .rw, 8192, 8192, 8192⟩,
    ⟨0x06, 16, 0, .rw, 256, 256, 256⟩,
    ⟨0x07, 8, 0, .rw, 1, 1, 1⟩,
    ⟨0x08, 8, 0, .rw, 16, 16, 16⟩,
    ⟨0x09, 16, 0, .rw, 640, 640, 640⟩,
    ⟨0x0A, 16, 0, .rw, 400, 400, 400⟩,
    ⟨0x0B, 16, 0, .rw, 800, 800, 800⟩,
    ⟨0x0C, 16, 0, .rw, 300, 300, 300⟩,
    ⟨0x0D, 16, 0, .rw, 64, 64, 64⟩,
    ⟨0x0E, 16, 0, .rw, 1024, 1024, 1024⟩,
    ⟨0x0F, 64, 0, .ro, 0, 0, 0⟩,
    ⟨0x10, 64, 0, .ro, 0, 0, 0⟩,
    ⟨0x11, 64, 0, .ro, 0, 0, 0⟩,
    ⟨0x12, 32, 0, .ro, 0, 0, 0⟩,
    ⟨0x13, 32, 0, .ro, 0, 0, 0⟩,
    ⟨0x14, 32, 0, .rw, 4096, 4096, 4096⟩,
    ⟨0x15, 8, 0, .cmd, 0, 0, 0⟩,
    ⟨0x16, 16, 0, .rw, 10, 10, 10⟩,
    ⟨0x17, 8, 0, .rw, 0, 0, 0⟩]⟩

/-- Objects 0x3010+p of the dictionary (02 R70). -/
def grp_link : OGrp := ⟨0x3010, 2, 2, 68, [
    ⟨0x00, 8, 0, .ro, 0, 0, 0⟩,
    ⟨0x01, 8, 0, .rws, 2, 2, 2⟩,
    ⟨0x02, 8, 0, .cmd, 0, 0, 0⟩,
    ⟨0x03, 32, 0, .ro, 0xfffff, 0xfffff, 0xfffff⟩,
    ⟨0x04, 8, 0, .ro, 127, 127, 127⟩,
    ⟨0x05, 8, 0, .ro, 0, 0, 0⟩,
    ⟨0x06, 64, 0, .ro, 0, 0, 0⟩,
    ⟨0x07, 16, 0, .ro, 0, 0, 0⟩,
    ⟨0x08, 64, 0, .ro, 0, 0, 0⟩,
    ⟨0x09, 64, 0, .ro, 0, 0, 0⟩,
    ⟨0x0A, 64, 0, .ro, 0, 0, 0⟩,
    ⟨0x0B, 64, 0, .ro, 0, 0, 0⟩,
    ⟨0x0C, 64, 0, .ro, 0, 0, 0⟩,
    ⟨0x0D, 8, 0, .ro, 0, 0, 0⟩,
    ⟨0x0E, 64, 0, .ro, 0, 0, 0⟩]⟩

/-- Objects 0x3060+p of the dictionary (03 R96). -/
def grp_tport : OGrp := ⟨0x3060, 2, 2, 68, [
    ⟨0x00, 8, 0, .ro, 0, 0, 0⟩,
    ⟨0x01, 32, 0, .rws, 0, 0, 0⟩,
    ⟨0x02, 32, 0, .rws, 0, 0, 0⟩,
    ⟨0x03, 32, 0, .rws, 0, 0, 0⟩,
    ⟨0x04, 64, 0, .ro, 0, 0, 0⟩,
    ⟨0x05, 64, 0, .ro, 0, 0, 0⟩,
    ⟨0x06, 320, 0, .ro, 0, 0, 0⟩,
    ⟨0x07, 8, 0, .rws, 0, 0, 0⟩,
    ⟨0x08, 64, 0, .ro, 0, 0, 0⟩,
    ⟨0x09, 64, 0, .ro, 0, 0, 0⟩,
    ⟨0x0A, 64, 0, .ro, 0, 0, 0⟩,
    ⟨0x0B, 32, 0, .ro, 0, 0, 0⟩,
    ⟨0x0C, 64, 0, .wo, 0, 0, 0⟩]⟩

/-- Objects 0x30B0+p of the dictionary (15 R436). -/
def grp_lane : OGrp := ⟨0x30B0, 2, 2, 0, [
    ⟨0x00, 64, 0, .rw, 0, 0, 0⟩]⟩

/-- Objects 0x3800 of the dictionary (04 R116). -/
def grp_tdc : OGrp := ⟨0x3800, 1, 1, 1, [
    ⟨0x00, 8, 0, .ro, 10, 10, 76⟩,
    ⟨0x01, 8, 0, .ro, 0, 0, 0⟩,
    ⟨0x02, 32, 0, .rw, 0x9502f90, 0x9502f90, 0x9502f90⟩,
    ⟨0x03, 32, 0, .rw, 0x100000, 0x100000, 0x100000⟩,
    ⟨0x04, 16, 0, .rw, 1024, 1024, 1024⟩,
    ⟨0x05, 8, 0, .cmd, 0, 0, 0⟩,
    ⟨0x06, 64, 0, .ro, 0, 0, 0⟩,
    ⟨0x07, 64, 0, .ro, 0, 0, 0⟩,
    ⟨0x08, 128, 0, .ro, 0, 0, 0⟩]⟩

/-- Objects 0x3810+i of the dictionary (04 R117). -/
def grp_ev : OGrp := ⟨0x3810, 8, 8, 8, [
    ⟨0x00, 8, 0, .rws, 0, 0, 0⟩,
    ⟨0x01, 8, 0, .rws, 0, 0, 0⟩,
    ⟨0x02, 8, 0, .rws, 0, 0, 1⟩,
    ⟨0x03, 8, 0, .rws, 2, 2, 2⟩,
    ⟨0x04, 8, 0, .rws, 0, 0, 0⟩,
    ⟨0x05, 64, 0, .rws, 0, 0, 0⟩,
    ⟨0x06, 64, 0, .ro, 0, 0, 0⟩,
    ⟨0x07, 8, 0, .ro, 0, 0, 0⟩,
    ⟨0x08, 64, 0, .ro, 0, 0, 0⟩]⟩

/-- Objects 0x3820+s of the dictionary (04 R118). -/
def grp_mslot : OGrp := ⟨0x3820, 8, 8, 16, [
    ⟨0x00, 8, 0, .rw, 255, 255, 255⟩,
    ⟨0x01, 8, 0, .rw, 255, 255, 255⟩,
    ⟨0x02, 256, 0, .ro, 0, 0, 0⟩,
    ⟨0x03, 8, 0, .ro, 0, 0, 0⟩,
    ⟨0x04, 64, 0, .ro, 0, 0, 0⟩]⟩

/-- Objects 0x3840+g of the dictionary (04 R119). -/
def grp_regr : OGrp := ⟨0x3840, 4, 4, 4, [
    ⟨0x00, 8, 0, .rw, 0, 0, 0⟩,
    ⟨0x01, 32, 0, .rw, 1000, 1000, 1000⟩,
    ⟨0x02, 8, 0, .cmd, 0, 0, 0⟩,
    ⟨0x03, 256, 0, .ro, 0, 0, 0⟩]⟩

/-- Objects 0x3900+c of the dictionary (04 R116). -/
def grp_chan : OGrp := ⟨0x3900, 104, 104, 104, [
    ⟨0x00, 8192, 0, .ro, 0, 0, 0⟩]⟩

/-- Objects 0x4000 of the dictionary (09 R258). -/
def grp_tabs : OGrp := ⟨0x4000, 1, 1, 0, [
    ⟨0x00, 8, 0, .ro, 16, 4, 0⟩,
    ⟨0x01, 16, 0, .ro, 0, 0, 0⟩,
    ⟨0x02, 64, 0, .ro, 0, 0, 0⟩,
    ⟨0x03, 8, 0, .ro, 8, 2, 0⟩,
    ⟨0x04, 8, 0, .ro, 8, 2, 0⟩,
    ⟨0x05, 16, 0, .cmd, 0, 0, 0⟩]⟩

/-- Objects 0x4010+t of the dictionary (09 R259). -/
def grp_tab : OGrp := ⟨0x4010, 16, 4, 0, [
    ⟨0x00, 8, 0, .ro, 0, 0, 0⟩,
    ⟨0x01, 512, 0, .rw, 0, 0, 0⟩,
    ⟨0x02, 524288, 16, .rw, 0, 0, 0⟩,
    ⟨0x03, 256, 0, .rw, 0, 0, 0⟩,
    ⟨0x04, 8, 0, .cmd, 0, 0, 0⟩,
    ⟨0x05, 32, 0, .ro, 0, 0, 0⟩,
    ⟨0x06, 256, 0, .ro, 0, 0, 0⟩,
    ⟨0x07, 64, 0, .ro, 0, 0, 0⟩]⟩

/-- Objects 0x4040+c of the dictionary (09 R260). -/
def grp_seq : OGrp := ⟨0x4040, 64, 8, 0, [
    ⟨0x00, 8, 0, .ro, 0, 0, 0⟩,
    ⟨0x01, 64, 0, .ro, 0, 0, 0⟩,
    ⟨0x02, 384, 0, .ro, 0, 0, 0⟩,
    ⟨0x03, 256, 0, .ro, 0, 0, 0⟩,
    ⟨0x04, 8, 0, .ro, 0, 0, 0⟩,
    ⟨0x05, 192, 0, .ro, 0, 0, 0⟩,
    ⟨0x06, 8, 0, .ro, 0, 0, 0⟩,
    ⟨0x07, 64, 0, .ro, 0, 0, 0⟩,
    ⟨0x08, 64, 0, .ro, 0, 0, 0⟩,
    ⟨0x09, 64, 0, .ro, 0, 0, 0⟩,
    ⟨0x0A, 64, 0, .ro, 0, 0, 0⟩,
    ⟨0x0B, 64, 0, .ro, 0, 0, 0⟩,
    ⟨0x0C, 64, 0, .ro, 0, 0, 0⟩]⟩

/-- Objects 0x4800 of the dictionary (10 R279). -/
def grp_esc : OGrp := ⟨0x4800, 1, 1, 1, [
    ⟨0x00, 64, 0, .ro, 0, 0, 0⟩,
    ⟨0x01, 64, 0, .ro, 0, 0, 0⟩,
    ⟨0x02, 16, 0, .ro, 0, 0, 0⟩,
    ⟨0x03, 64, 0, .ro, 0, 0, 0⟩]⟩

/-- Objects 0x4840+c of the dictionary (10 R280). -/
def grp_ctx : OGrp := ⟨0x4840, 64, 8, 0, [
    ⟨0x00, 8, 0, .ro, 0, 0, 0⟩,
    ⟨0x01, 256, 0, .ro, 0, 0, 0⟩,
    ⟨0x02, 8, 0, .ro, 0, 0, 0⟩,
    ⟨0x03, 64, 0, .ro, 0, 0, 0⟩,
    ⟨0x04, 64, 0, .ro, 0, 0, 0⟩,
    ⟨0x05, 64, 0, .ro, 0, 0, 0⟩,
    ⟨0x06, 64, 0, .ro, 0, 0, 0⟩,
    ⟨0x07, 64, 0, .ro, 0, 0, 0⟩,
    ⟨0x08, 64, 0, .ro, 0, 0, 0⟩]⟩

/-- Objects 0x4900+k of the dictionary (10 R281). -/
def grp_head : OGrp := ⟨0x4900, 0, 0, 256, [
    ⟨0x00, 8, 0, .ro, 0, 0, 0⟩,
    ⟨0x01, 32, 0, .rw, 0, 0, 0⟩,
    ⟨0x02, 32, 0, .rw, 0, 0, 0⟩,
    ⟨0x03, 32, 0, .rw, 4096, 4096, 4096⟩,
    ⟨0x04, 32, 0, .rw, 2480, 2480, 2480⟩,
    ⟨0x05, 32, 0, .rw, 0, 0, 0⟩,
    ⟨0x06, 8, 0, .rw, 0, 0, 0⟩,
    ⟨0x07, 64, 0, .rw, 0, 0, 0⟩,
    ⟨0x08, 64, 0, .rw, 0, 0, 0⟩,
    ⟨0x09, 8, 0, .cmd, 0, 0, 0⟩,
    ⟨0x0A, 384, 0, .ro, 0, 0, 0⟩,
    ⟨0x0B, 64, 0, .ro, 0, 0, 0⟩,
    ⟨0x0C, 64, 0, .ro, 0, 0, 0⟩,
    ⟨0x0D, 32, 0, .ro, 0, 0, 0⟩,
    ⟨0x0E, 64, 0, .ro, 0, 0, 0⟩,
    ⟨0x0F, 8, 0, .ro, 1, 1, 1⟩,
    ⟨0x10, 128, 0, .ro, 0, 0, 0⟩]⟩

/-- Objects 0x5000 of the dictionary (11 R316). -/
def grp_tly : OGrp := ⟨0x5000, 1, 1, 0, [
    ⟨0x00, 8, 0, .ro, 48, 48, 48⟩,
    ⟨0x01, 16, 0, .ro, 0, 0, 0⟩,
    ⟨0x02, 16, 0, .ro, 0, 0, 0⟩,
    ⟨0x03, 64, 0, .ro, 0, 0, 0⟩,
    ⟨0x04, 64, 0, .ro, 0, 0, 0⟩,
    ⟨0x05, 64, 0, .ro, 0, 0, 0⟩,
    ⟨0x06, 64, 0, .ro, 0, 0, 0⟩,
    ⟨0x07, 64, 0, .ro, 0, 0, 0⟩]⟩

/-- Objects 0x5040+c of the dictionary (11 R316). -/
def grp_tctx : OGrp := ⟨0x5040, 64, 8, 0, [
    ⟨0x00, 131072, 4, .rw, 0, 0, 0⟩,
    ⟨0x01, 32, 0, .rws, 1000, 1000, 1000⟩,
    ⟨0x02, 64, 0, .ro, 0, 0, 0⟩,
    ⟨0x03, 64, 0, .ro, 0, 0, 0⟩]⟩

/-- Objects 0x5100+h of the dictionary (11 R316). -/
def grp_hch : OGrp := ⟨0x5100, 8, 8, 0, [
    ⟨0x00, 256, 0, .cmd, 0, 0, 0⟩,
    ⟨0x01, 8, 0, .ro, 0, 0, 0⟩,
    ⟨0x02, 192, 0, .ro, 0, 0, 0⟩]⟩

/-- Objects 0x5200 of the dictionary (11 R316). -/
def grp_lsel : OGrp := ⟨0x5200, 1, 1, 0, [
    ⟨0x00, 64, 0, .rw, 0, 0, 0⟩,
    ⟨0x01, 2048, 0, .ro, 0, 0, 0⟩]⟩

/-- Objects 0x5201 of the dictionary (11 R316). -/
def grp_ssel : OGrp := ⟨0x5201, 1, 1, 0, [
    ⟨0x00, 32, 0, .rw, 0, 0, 0⟩,
    ⟨0x01, 2048, 0, .ro, 0, 0, 0⟩]⟩

/-- Objects 0x5400 of the dictionary (11 R317). -/
def grp_htly : OGrp := ⟨0x5400, 0, 0, 1, [
    ⟨0x00, 16, 0, .rw, 0, 0, 0⟩,
    ⟨0x01, 256, 0, .rw, 0, 0, 0⟩,
    ⟨0x02, 512, 0, .ro, 0, 0, 0⟩,
    ⟨0x03, 524256, 0, .ro, 0, 0, 0⟩,
    ⟨0x04, 32, 0, .ro, 0, 0, 0⟩,
    ⟨0x05, 32, 0, .ro, 0x20000, 0x20000, 0x20000⟩,
    ⟨0x06, 64, 0, .ro, 0, 0, 0⟩,
    ⟨0x07, 64, 0, .ro, 0, 0, 0⟩]⟩

/-- Objects 0x5800 of the dictionary (11 R316). -/
def grp_acct : OGrp := ⟨0x5800, 1, 1, 0, [
    ⟨0x00, 131072, 4, .rw, 0, 0, 0⟩,
    ⟨0x01, 16, 0, .rw, 0, 0, 0⟩,
    ⟨0x02, 64, 0, .ro, 0, 0, 0⟩,
    ⟨0x03, 262144, 0, .ro, 0, 0, 0⟩,
    ⟨0x04, 64, 0, .ro, 0, 0, 0⟩,
    ⟨0x05, 64, 0, .ro, 0, 0, 0⟩]⟩

/-- Objects 0x6000 of the dictionary (12 R351). -/
def grp_clr : OGrp := ⟨0x6000, 1, 1, 1, [
    ⟨0x00, 16, 0, .ro, 256, 256, 16⟩,
    ⟨0x01, 8, 0, .ro, 8, 2, 0⟩,
    ⟨0x02, 8, 0, .ro, 8, 2, 0⟩,
    ⟨0x03, 8, 0, .ro, 16, 4, 0⟩,
    ⟨0x04, 64, 0, .ro, 0, 0, 0⟩,
    ⟨0x05, 64, 0, .ro, 0, 0, 0⟩,
    ⟨0x06, 64, 0, .ro, 0, 0, 0⟩,
    ⟨0x07, 64, 0, .ro, 0, 0, 0⟩,
    ⟨0x08, 64, 0, .ro, 0, 0, 0⟩]⟩

/-- Objects 0x6100+d of the dictionary (12 R352). -/
def grp_dsc : OGrp := ⟨0x6100, 256, 256, 0, [
    ⟨0x00, 256, 0, .rw, 0, 0, 0⟩,
    ⟨0x01, 8, 0, .ro, 0, 0, 0⟩]⟩

/-- Objects 0x6200+16c+h of the dictionary (12 R353). -/
def grp_contrib : OGrp := ⟨0x6200, 1024, 128, 0, [
    ⟨0x00, 524288, 0, .wo, 0, 0, 0⟩,
    ⟨0x01, 8, 0, .ro, 0, 0, 0⟩,
    ⟨0x02, 64, 0, .ro, 0, 0, 0⟩,
    ⟨0x03, 16, 0, .ro, 65535, 65535, 65535⟩]⟩

/-- Objects 0x6600+b of the dictionary (12 R354). -/
def grp_bank : OGrp := ⟨0x6600, 16, 4, 0, [
    ⟨0x00, 262144, 0, .ro, 0, 0, 0⟩,
    ⟨0x01, 262144, 8, .ro, 0, 0, 0⟩,
    ⟨0x02, 384, 0, .ro, 0, 0, 0⟩,
    ⟨0x03, 8, 0, .ro, 0, 0, 0⟩]⟩

/-- Objects 0x6800+e of the dictionary (12 R355). -/
def grp_eng : OGrp := ⟨0x6800, 0, 0, 16, [
    ⟨0x00, 320, 0, .rw, 0, 0, 0⟩,
    ⟨0x01, 8, 0, .ro, 0, 0, 0⟩,
    ⟨0x02, 256, 0, .ro, 0, 0, 0⟩,
    ⟨0x03, 64, 0, .ro, 0, 0, 0⟩,
    ⟨0x04, 64, 0, .ro, 0, 0, 0⟩]⟩

/-- Objects 0x7000 of the dictionary (13 R381). -/
def grp_det : OGrp := ⟨0x7000, 1, 1, 0, [
    ⟨0x00, 8, 0, .rw, 0, 0, 0⟩,
    ⟨0x01, 8, 0, .rw, 0, 0, 0⟩,
    ⟨0x02, 256, 0, .ro, 0, 0, 0⟩,
    ⟨0x03, 8, 0, .ro, 0, 0, 0⟩,
    ⟨0x04, 5120, 0, .ro, 0, 0, 0⟩,
    ⟨0x05, 128, 0, .rw, 0, 0, 0⟩,
    ⟨0x06, 524288, 0, .rw, 0, 0, 0⟩,
    ⟨0x07, 256, 0, .ro, 0, 0, 0⟩,
    ⟨0x08, 64, 0, .ro, 0, 0, 0⟩,
    ⟨0x09, 8, 0, .rw, 0, 0, 0⟩,
    ⟨0x0A, 64, 0, .ro, 0, 0, 0⟩,
    ⟨0x0B, 64, 0, .ro, 0, 0, 0⟩,
    ⟨0x0C, 16, 0, .ro, 0, 0, 0⟩,
    ⟨0x0D, 64, 0, .ro, 0, 0, 0⟩,
    ⟨0x0E, 64, 0, .ro, 0, 0, 0⟩,
    ⟨0x0F, 1024, 0, .ro, 0, 0, 0⟩]⟩

/-- Objects 0x7001 of the dictionary (13 R382). -/
def grp_strict : OGrp := ⟨0x7001, 0, 0, 1, [
    ⟨0x00, 65536, 0, .rw, 0, 0, 0⟩]⟩

/-- Objects 0x7020+t of the dictionary (13 R381). -/
def grp_prog : OGrp := ⟨0x7020, 16, 4, 0, [
    ⟨0x00, 256, 0, .ro, 0, 0, 0⟩]⟩

/-- Objects 0x7040+c of the dictionary (13 R381). -/
def grp_tag : OGrp := ⟨0x7040, 64, 8, 0, [
    ⟨0x00, 1536, 0, .ro, 0, 0, 0⟩,
    ⟨0x01, 8192, 16, .ro, 0, 0, 0⟩,
    ⟨0x02, 16, 0, .ro, 0, 0, 0⟩,
    ⟨0x03, 64, 0, .ro, 0, 0, 0⟩]⟩

/-- Objects 0x7080+c of the dictionary (13 R381). -/
def grp_seed : OGrp := ⟨0x7080, 64, 8, 0, [
    ⟨0x00, 256, 0, .rw, 0, 0, 0⟩]⟩

/-- Objects 0x7100 of the dictionary (13 R381). -/
def grp_mint : OGrp := ⟨0x7100, 1, 1, 0, [
    ⟨0x00, 524288, 16, .rw, 0, 0, 0⟩,
    ⟨0x01, 64, 0, .ro, 0, 0, 0⟩,
    ⟨0x02, 64, 0, .ro, 0, 0, 0⟩,
    ⟨0x03, 64, 0, .ro, 0, 0, 0⟩,
    ⟨0x04, 16, 0, .ro, 0, 0, 0⟩]⟩

/-- Objects 0x7200 of the dictionary (13 R382). -/
def grp_jrnl : OGrp := ⟨0x7200, 0, 0, 1, [
    ⟨0x00, 32, 0, .ro, 0x20000000, 0x20000000, 0x20000000⟩,
    ⟨0x01, 32, 0, .ro, 0x20000000, 0x20000000, 0x20000000⟩,
    ⟨0x02, 128, 0, .rw, 0, 0, 0⟩,
    ⟨0x03, 65536, 0, .ro, 0, 0, 0⟩,
    ⟨0x04, 1024, 8, .rws, 0, 0, 0⟩,
    ⟨0x05, 64, 0, .ro, 0, 0, 0⟩,
    ⟨0x06, 64, 0, .ro, 0, 0, 0⟩,
    ⟨0x07, 64, 0, .ro, 0, 0, 0⟩]⟩

/-- Objects 0x7201 of the dictionary (13 R382). -/
def grp_rpl : OGrp := ⟨0x7201, 0, 0, 1, [
    ⟨0x00, 64, 0, .rw, 0, 0, 0⟩,
    ⟨0x01, 64, 0, .rw, 0, 0, 0⟩,
    ⟨0x02, 8, 0, .cmd, 0, 0, 0⟩,
    ⟨0x03, 8, 0, .ro, 0, 0, 0⟩,
    ⟨0x04, 64, 0, .ro, 0, 0, 0⟩,
    ⟨0x05, 128, 0, .ro, 0, 0, 0⟩]⟩

/-- Objects 0x8000 of the dictionary (14 R406). -/
def grp_flt : OGrp := ⟨0x8000, 1, 1, 1, [
    ⟨0x00, 16, 0, .ro, 0, 0, 0⟩,
    ⟨0x01, 256, 0, .ro, 0, 0, 0⟩,
    ⟨0x02, 64, 0, .ro, 0, 0, 0⟩,
    ⟨0x03, 64, 0, .ro, 0, 0, 0⟩,
    ⟨0x04, 256, 0, .ro, 0, 0, 0⟩,
    ⟨0x05, 8, 0, .cmd, 0, 0, 0⟩,
    ⟨0x06, 256, 0, .rws, 0xffffffffffffffffffffffffffffffffffffffffffffffffffffffffffffffff, 0xffffffffffffffffffffffffffffffffffffffffffffffffffffffffffffffff, 0xffffffffffffffffffffffffffffffffffffffffffffffffffffffffffffffff⟩,
    ⟨0x07, 64, 0, .ro, 0, 0, 0⟩,
    ⟨0x08, 64, 0, .ro, 0, 0, 0⟩,
    ⟨0x09, 64, 0, .ro, 0, 0, 0⟩,
    ⟨0x0A, 192, 0, .ro, 0, 0, 0⟩,
    ⟨0x0B, 64, 0, .ro, 0, 0, 0⟩,
    ⟨0x0C, 16, 0, .rws, 0, 0, 100⟩]⟩

/-- Objects 0x8001 of the dictionary (14 R406). -/
def grp_cause : OGrp := ⟨0x8001, 1, 1, 1, [
    ⟨0x00, 8192, 4, .ro, 0, 0, 0⟩]⟩

/-- Objects 0x8400+r of the dictionary (14 R407). -/
def grp_watch : OGrp := ⟨0x8400, 1024, 1, 0, [
    ⟨0x00, 8, 0, .ro, 0, 0, 0⟩,
    ⟨0x01, 16, 0, .rws, 20, 20, 20⟩,
    ⟨0x02, 16, 0, .rws, 5, 5, 5⟩,
    ⟨0x03, 16, 0, .rws, 20, 20, 20⟩,
    ⟨0x04, 32, 0, .rws, 2000, 2000, 2000⟩,
    ⟨0x05, 8, 0, .rws, 5, 5, 5⟩,
    ⟨0x06, 512, 1, .rws, 0xffffffffffffffffffffffffffffffffffffffffffffffffffffffffffffffffffffffffffffffffffffffffffffffffffffffffffffffffffffffffffffffff, 0xffffffffffffffffffffffffffffffffffffffffffffffffffffffffffffffffffffffffffffffffffffffffffffffffffffffffffffffffffffffffffffffff, 0xffffffffffffffffffffffffffffffffffffffffffffffffffffffffffffffffffffffffffffffffffffffffffffffffffffffffffffffffffffffffffffffff⟩,
    ⟨0x07, 8, 0, .rws, 0, 0, 0⟩,
    ⟨0x08, 64, 0, .ro, 0, 0, 0⟩,
    ⟨0x09, 32, 0, .ro, 0, 0, 0⟩,
    ⟨0x0A, 448, 0, .ro, 0, 0, 0⟩,
    ⟨0x0B, 8, 0, .cmd, 0, 0, 0⟩,
    ⟨0x0C, 384, 0, .ro, 0, 0, 0⟩]⟩

/-- Objects 0x9000+r of the dictionary (17 R504). -/
def grp_reg : OGrp := ⟨0x9000, 1024, 1, 0, [
    ⟨0x00, 8, 0, .ro, 3, 3, 3⟩,
    ⟨0x01, 8, 0, .cmd, 0, 0, 0⟩,
    ⟨0x02, 8, 0, .ro, 0, 0, 0⟩,
    ⟨0x03, 32, 0, .rws, 15625, 15625, 15625⟩,
    ⟨0x04, 8, 0, .rws, 1, 1, 1⟩,
    ⟨0x05, 128, 0, .rws, 0x32000003e800000064000000c8, 0x32000003e800000064000000c8, 0x32000003e800000064000000c8⟩,
    ⟨0x06, 32, 0, .rws, 100, 100, 100⟩,
    ⟨0x07, 16, 0, .rws, 64, 64, 64⟩,
    ⟨0x08, 320, 0, .ro, 0, 0, 0⟩,
    ⟨0x09, 128, 0, .ro, 0, 0, 0⟩]⟩

/-- Objects 0x9400 of the dictionary (17 R505). -/
def grp_su : OGrp := ⟨0x9400, 1, 1, 0, [
    ⟨0x00, 8, 0, .ro, 0, 0, 0⟩,
    ⟨0x01, 256, 0, .ro, 0, 0, 0⟩,
    ⟨0x02, 512, 0, .ro, 0, 0, 0⟩,
    ⟨0x03, 8, 0, .cmd, 0, 0, 0⟩,
    ⟨0x04, 128, 0, .ro, 0, 0, 0⟩]⟩

/-- Objects 0x9500 of the dictionary (17 R505). -/
def grp_vlt : OGrp := ⟨0x9500, 1, 1, 0, [
    ⟨0x00, 8, 0, .ro, 0, 0, 0⟩,
    ⟨0x01, 32, 0, .ro, 0, 0, 0⟩,
    ⟨0x02, 524288, 0, .ro, 0, 0, 0⟩,
    ⟨0x03, 64, 0, .ro, 0, 0, 0⟩,
    ⟨0x04, 64, 0, .ro, 0, 0, 0⟩]⟩

/-- Objects 0x9800 of the dictionary (17 R506). -/
def grp_pwr : OGrp := ⟨0x9800, 0, 0, 1, [
    ⟨0x01, 8, 0, .cmd, 0, 0, 0⟩,
    ⟨0x02, 16, 0, .rws, 100, 100, 100⟩,
    ⟨0x03, 8, 0, .rws, 64, 64, 64⟩,
    ⟨0x04, 544, 0, .rws, 0x202020202020202020202020202020202020202020202020202020202020202020202020202020202020202020202020202020202020202020202020202020202020202, 0x202020202020202020202020202020202020202020202020202020202020202020202020202020202020202020202020202020202020202020202020202020202020202, 0x202020202020202020202020202020202020202020202020202020202020202020202020202020202020202020202020202020202020202020202020202020202020202⟩,
    ⟨0x05, 256, 0, .ro, 0, 0, 0⟩,
    ⟨0x06, 64, 0, .ro, 0, 0, 0⟩]⟩

/-- Objects 0x9880+p of the dictionary (17 R506). -/
def grp_sent : OGrp := ⟨0x9880, 0, 0, 68, [
    ⟨0x00, 8, 0, .rws, 1, 1, 1⟩]⟩

/-- Objects 0x9900 of the dictionary (17 R506). -/
def grp_fw : OGrp := ⟨0x9900, 0, 0, 1, [
    ⟨0x00, 8, 0, .ro, 0, 0, 0⟩,
    ⟨0x02, 16, 0, .rw, 0, 0, 0⟩,
    ⟨0x03, 524288, 0, .wo, 0, 0, 0⟩,
    ⟨0x04, 320, 0, .cmd, 0, 0, 0⟩,
    ⟨0x05, 8, 0, .ro, 0, 0, 0⟩]⟩

/-- Objects 0x9A00 of the dictionary (17 R506). -/
def grp_fla : OGrp := ⟨0x9A00, 0, 0, 1, [
    ⟨0x00, 32768, 4, .ro, 0, 0, 0⟩,
    ⟨0x01, 32, 0, .ro, 0, 0, 0⟩,
    ⟨0x02, 32, 0, .rws, 90000, 90000, 90000⟩,
    ⟨0x03, 8, 0, .ro, 0, 0, 0⟩,
    ⟨0x04, 32, 0, .ro, 0, 0, 0⟩]⟩

/-- Objects 0x9B00 of the dictionary (17 R506). -/
def grp_tel : OGrp := ⟨0x9B00, 0, 0, 1, [
    ⟨0x00, 256, 0, .ro, 0, 0, 0⟩]⟩

/-- Objects 0x9C00 of the dictionary (18 R537). -/
def grp_mdl : OGrp := ⟨0x9C00, 0, 0, 1, [
    ⟨0x00, 128, 0, .ro, 0, 0, 0⟩,
    ⟨0x01, 192, 0, .ro, 0, 0, 0⟩,
    ⟨0x02, 256, 0, .ro, 0, 0, 0⟩,
    ⟨0x03, 8, 0, .ro, 0, 0, 0⟩,
    ⟨0x04, 8, 0, .rws, 0, 0, 0⟩,
    ⟨0x05, 32, 0, .ro, 0x989680, 0x989680, 0x989680⟩,
    ⟨0x06, 8, 0, .cmd, 0, 0, 0⟩,
    ⟨0x07, 8, 0, .ro, 0, 0, 0⟩,
    ⟨0x08, 128, 0, .ro, 0, 0, 0⟩]⟩

/-- Objects 0xA000 of the dictionary (15 R436). -/
def grp_cen : OGrp := ⟨0xA000, 1, 1, 1, [
    ⟨0x00, 32, 0, .ro, 0, 0, 0⟩,
    ⟨0x01, 64, 0, .ro, 0, 0, 0⟩,
    ⟨0x02, 16, 0, .ro, 0, 0, 0⟩,
    ⟨0x03, 8, 0, .ro, 0, 0, 0⟩,
    ⟨0x04, 64, 0, .ro, 0, 0, 0⟩,
    ⟨0x05, 64, 0, .ro, 0, 0, 0⟩]⟩

/-- Objects 0xA010 of the dictionary (15 R437). -/
def grp_cenCmd : OGrp := ⟨0xA010, 0, 0, 1, [
    ⟨0x00, 192, 0, .cmd, 0, 0, 0⟩]⟩

/-- Objects 0xA020+n of the dictionary (15 R436). -/
def grp_ecnt : OGrp := ⟨0xA020, 32, 32, 64, [
    ⟨0x00, 16, 0, .rws, 0, 0, 0⟩,
    ⟨0x01, 64, 0, .ro, 0, 0, 0⟩,
    ⟨0x02, 64, 0, .ro, 0, 0, 0⟩]⟩

/-- Objects 0xA100 of the dictionary (15 R436). -/
def grp_aud : OGrp := ⟨0xA100, 1, 1, 0, [
    ⟨0x00, 8, 0, .rw, 0, 0, 0⟩,
    ⟨0x01, 128, 1, .rw, 0, 0, 0⟩,
    ⟨0x02, 128, 0, .rw, 0, 0, 0⟩,
    ⟨0x03, 64, 0, .ro, 0, 0, 0⟩,
    ⟨0x04, 64, 0, .ro, 0, 0, 0⟩,
    ⟨0x05, 256, 0, .ro, 0, 0, 0⟩]⟩

/-- Objects 0xA400+r of the dictionary (15 R436). -/
def grp_agc : OGrp := ⟨0xA400, 1024, 1, 0, [
    ⟨0x00, 128, 2, .rws, 0, 0, 0⟩,
    ⟨0x01, 512, 0, .ro, 0, 0, 0⟩,
    ⟨0x02, 768, 0, .ro, 0, 0, 0⟩]⟩

/-- Objects 0xB000 of the dictionary (05 R149). -/
def grp_ref : OGrp := ⟨0xB000, 0, 0, 1, [
    ⟨0x00, 8, 0, .ro, 0, 0, 0⟩,
    ⟨0x01, 8, 0, .ro, 255, 255, 255⟩,
    ⟨0x02, 8, 0, .rws, 0, 0, 0⟩,
    ⟨0x03, 8, 0, .rws, 0, 0, 0⟩,
    ⟨0x04, 16, 0, .rws, 300, 300, 300⟩,
    ⟨0x05, 16, 0, .rws, 2, 2, 2⟩,
    ⟨0x06, 8, 0, .rws, 255, 255, 255⟩,
    ⟨0x07, 8, 0, .rws, 1, 1, 1⟩,
    ⟨0x08, 8, 0, .rws, 3, 3, 3⟩,
    ⟨0x09, 16, 0, .rws, 100, 100, 100⟩,
    ⟨0x0A, 32, 0, .rws, 1000, 1000, 1000⟩,
    ⟨0x0B, 32, 0, .rws, 5000, 5000, 5000⟩,
    ⟨0x0C, 16, 0, .rws, 16, 16, 16⟩,
    ⟨0x0D, 32, 0, .rws, 100, 100, 100⟩,
    ⟨0x0E, 32, 0, .rws, 10, 10, 10⟩,
    ⟨0x0F, 64, 0, .ro, 0, 0, 0⟩,
    ⟨0x10, 64, 0, .rws, 0, 0, 0⟩,
    ⟨0x11, 8, 0, .rws, 1, 1, 1⟩,
    ⟨0x12, 32, 0, .rws, 0x186a0, 0x186a0, 0x186a0⟩,
    ⟨0x13, 32, 0, .rws, 0x11a91f, 0x11a91f, 0x11a91f⟩,
    ⟨0x14, 32, 0, .rws, 1000, 1000, 1000⟩,
    ⟨0x15, 16, 0, .rws, 300, 300, 300⟩,
    ⟨0x16, 64, 0, .ro, 0, 0, 0⟩,
    ⟨0x17, 64, 0, .ro, 0, 0, 0⟩,
    ⟨0x18, 32, 0, .ro, 0, 0, 0⟩,
    ⟨0x19, 8, 0, .rws, 0, 0, 0⟩,
    ⟨0x1A, 16, 0, .rws, 32768, 32768, 32768⟩,
    ⟨0x1B, 32, 0, .rws, 0, 0, 0⟩,
    ⟨0x1C, 8, 0, .ro, 0, 0, 0⟩,
    ⟨0x1D, 64, 0, .ro, 0, 0, 0⟩,
    ⟨0x1E, 64, 0, .ro, 0, 0, 0⟩]⟩

/-- Objects 0xB001 of the dictionary (05 R149). -/
def grp_khall : OGrp := ⟨0xB001, 0, 0, 1, [
    ⟨0x00, 8, 0, .ro, 0, 0, 0⟩,
    ⟨0x01, 128, 0, .ro, 0, 0, 0⟩,
    ⟨0x02, 64, 0, .wo, 0, 0, 0⟩,
    ⟨0x03, 64, 0, .ro, 0, 0, 0⟩,
    ⟨0x04, 32, 0, .rws, 1000, 1000, 1000⟩,
    ⟨0x05, 8, 0, .cmd, 0, 0, 0⟩,
    ⟨0x06, 8, 0, .rws, 0, 0, 0⟩,
    ⟨0x07, 16, 0, .rws, 37, 37, 37⟩]⟩

/-- Objects 0xB002 of the dictionary (05 R149). -/
def grp_prio : OGrp := ⟨0xB002, 0, 0, 1, [
    ⟨0x00, 256, 4, .rws, 0, 0, 0⟩]⟩

/-- Objects 0xB010+i of the dictionary (05 R150). -/
def grp_rin : OGrp := ⟨0xB010, 0, 0, 8, [
    ⟨0x00, 8, 0, .ro, 0, 0, 0⟩,
    ⟨0x01, 8, 0, .rws, 0, 0, 0⟩,
    ⟨0x02, 8, 0, .rws, 15, 15, 15⟩,
    ⟨0x03, 64, 0, .rws, 0x3000000000000, 0x3000000000000, 0x3000000000000⟩,
    ⟨0x04, 8, 0, .ro, 255, 255, 255⟩,
    ⟨0x05, 8, 0, .ro, 15, 15, 15⟩,
    ⟨0x06, 32, 0, .rws, 10000, 10000, 10000⟩,
    ⟨0x07, 32, 0, .rws, 16000, 16000, 16000⟩,
    ⟨0x08, 64, 0, .ro, 0, 0, 0⟩,
    ⟨0x09, 64, 0, .rws, 0, 0, 0⟩,
    ⟨0x0A, 16, 0, .ro, 0, 0, 0⟩,
    ⟨0x0B, 80, 0, .ro, 0, 0, 0⟩,
    ⟨0x0C, 64, 0, .ro, 0, 0, 0⟩]⟩

/-- Objects 0xB040+k of the dictionary (05 R151). -/
def grp_out : OGrp := ⟨0xB040, 0, 0, 6, [
    ⟨0x00, 8, 0, .rws, 0, 0, 0⟩,
    ⟨0x01, 64, 0, .rws, 0, 0, 0⟩,
    ⟨0x02, 32, 0, .rws, 0x2625a, 0x2625a, 0x2625a⟩,
    ⟨0x03, 8, 0, .rws, 1, 1, 1⟩,
    ⟨0x04, 64, 0, .rw, 0, 0, 0⟩,
    ⟨0x05, 64, 0, .ro, 0, 0, 0⟩]⟩

/-- Objects 0xC000 of the dictionary (15 R437). -/
def grp_lst : OGrp := ⟨0xC000, 0, 0, 1, [
    ⟨0x00, 16, 0, .ro, 0, 0, 0⟩,
    ⟨0x01, 64, 0, .ro, 0, 0, 0⟩]⟩

/-- Objects 0xC001 of the dictionary (15 R437). -/
def grp_epo : OGrp := ⟨0xC001, 0, 0, 1, [
    ⟨0x00, 32, 0, .rw, 0, 0, 0⟩,
    ⟨0x01, 128, 0, .cmd, 0, 0, 0⟩]⟩

/-- Objects 0xC100 of the dictionary (15 R437). -/
def grp_spn : OGrp := ⟨0xC100, 0, 0, 1, [
    ⟨0x00, 524288, 16, .ro, 0, 0, 0⟩,
    ⟨0x01, 160, 0, .cmd, 0, 0, 0⟩]⟩

/-- Objects 0xC200+p of the dictionary (15 R437). -/
def grp_prt : OGrp := ⟨0xC200, 0, 0, 64, [
    ⟨0x00, 8, 0, .ro, 0, 0, 0⟩,
    ⟨0x01, 64, 0, .ro, 0, 0, 0⟩,
    ⟨0x02, 32, 0, .ro, 0, 0, 0⟩,
    ⟨0x03, 8, 0, .ro, 0, 0, 0⟩,
    ⟨0x04, 128, 0, .cmd, 0, 0, 0⟩]⟩

/-- Objects 0xC300+p of the dictionary (15 R437). -/
def grp_hlt : OGrp := ⟨0xC300, 0, 0, 64, [
    ⟨0x00, 8, 0, .ro, 0, 0, 0⟩,
    ⟨0x01, 16, 0, .ro, 1000, 1000, 1000⟩,
    ⟨0x02, 32, 0, .ro, 0, 0, 0⟩,
    ⟨0x03, 8, 0, .ro, 0, 0, 0⟩,
    ⟨0x04, 128, 0, .ro, 0, 0, 0⟩,
    ⟨0x05, 4096, 0, .ro, 0, 0, 0⟩,
    ⟨0x06, 128, 0, .ro, 0, 0, 0⟩,
    ⟨0x07, 8, 0, .rw, 255, 255, 255⟩,
    ⟨0x08, 8, 0, .cmd, 0, 0, 0⟩,
    ⟨0x09, 64, 0, .ro, 0, 0, 0⟩]⟩

/-- Objects 0xC400 of the dictionary (15 R437). -/
def grp_hwt : OGrp := ⟨0xC400, 0, 0, 1, [
    ⟨0x00, 32, 0, .rws, 1, 1, 1⟩,
    ⟨0x01, 32, 0, .rws, 3200, 3200, 3200⟩,
    ⟨0x02, 32, 0, .rws, 9600, 9600, 9600⟩,
    ⟨0x03, 32, 0, .rws, 64, 64, 64⟩,
    ⟨0x04, 32, 0, .rws, 16, 16, 16⟩,
    ⟨0x05, 32, 0, .rws, 65536, 65536, 65536⟩,
    ⟨0x06, 8, 0, .rws, 14, 14, 14⟩,
    ⟨0x07, 16, 0, .rws, 700, 700, 700⟩,
    ⟨0x08, 16, 0, .rws, 400, 400, 400⟩,
    ⟨0x09, 16, 0, .rws, 2, 2, 2⟩,
    ⟨0x0A, 8, 0, .rws, 25, 25, 25⟩,
    ⟨0x0B, 16, 0, .rws, 64, 64, 64⟩]⟩

/-- Objects 0xC500 of the dictionary (15 R437). -/
def grp_bud : OGrp := ⟨0xC500, 0, 0, 1, [
    ⟨0x00, 8, 0, .rws, 4, 4, 4⟩,
    ⟨0x01, 64, 0, .rws, 0x51dac207a00, 0x51dac207a00, 0x51dac207a00⟩,
    ⟨0x02, 16, 0, .rw, 0, 0, 0⟩,
    ⟨0x03, 1088, 0, .ro, 0, 0, 0⟩,
    ⟨0x04, 64, 0, .ro, 0, 0, 0⟩]⟩

/-- Objects 0xD000+r of the dictionary (07 R201). -/
def grp_agent : OGrp := ⟨0xD000, 1024, 1, 0, [
    ⟨0x00, 8, 0, .ro, 0, 0, 0⟩,
    ⟨0x01, 8, 0, .rws, 0, 0, 0⟩,
    ⟨0x02, 32, 0, .ro, 0, 0, 0⟩,
    ⟨0x03, 32, 0, .ro, 0, 0, 0⟩,
    ⟨0x04, 32, 0, .ro, 0, 0, 0⟩,
    ⟨0x05, 64, 0, .rws, 0, 0, 0⟩,
    ⟨0x06, 32, 0, .ro, 0, 0, 0⟩,
    ⟨0x07, 512, 4, .ro, 0, 0, 0⟩,
    ⟨0x08, 32, 0, .ro, 0, 0, 0⟩,
    ⟨0x09, 512, 0, .ro, 0, 0, 0⟩,
    ⟨0x0A, 512, 0, .ro, 0, 0, 0⟩,
    ⟨0x0B, 32, 0, .rws, 15625, 15625, 15625⟩,
    ⟨0x0C, 64, 0, .ro, 0, 0, 0⟩,
    ⟨0x0D, 64, 0, .ro, 0, 0, 0⟩,
    ⟨0x0E, 64, 0, .ro, 0, 0, 0⟩,
    ⟨0x0F, 16, 0, .rws, 1, 1, 1⟩,
    ⟨0x10, 64, 0, .ro, 0, 0, 0⟩,
    ⟨0x11, 32, 0, .rws, 1563, 1563, 1563⟩,
    ⟨0x12, 8, 0, .cmd, 0, 0, 0⟩,
    ⟨0x13, 64, 0, .ro, 0, 0, 0⟩]⟩

/-- Objects 0xD400 of the dictionary (07 R202). -/
def grp_bus : OGrp := ⟨0xD400, 1, 1, 0, [
    ⟨0x00, 16, 0, .ro, 1, 1, 1⟩,
    ⟨0x01, 64, 0, .ro, 0, 0, 0⟩,
    ⟨0x02, 64, 0, .ro, 0, 0, 0⟩,
    ⟨0x03, 64, 0, .ro, 0, 0, 0⟩,
    ⟨0x04, 64, 0, .ro, 0, 0, 0⟩,
    ⟨0x05, 16, 0, .rws, 50, 50, 50⟩,
    ⟨0x06, 16384, 2, .ro, 0, 0, 0⟩,
    ⟨0x07, 64, 0, .ro, 0, 0, 0⟩]⟩

/-- Objects 0xD401 of the dictionary (08 R217). -/
def grp_vds : OGrp := ⟨0xD401, 1, 1, 0, [
    ⟨0x00, 16, 0, .ro, 0, 0, 0⟩,
    ⟨0x01, 8, 0, .ro, 2, 2, 2⟩,
    ⟨0x02, 2048, 0, .ro, 0, 0, 0⟩]⟩

/-- Objects 0xD800+v of the dictionary (08 R216). -/
def grp_vd : OGrp := ⟨0xD800, 2048, 2048, 0, [
    ⟨0x00, 8, 0, .ro, 0, 0, 0⟩,
    ⟨0x01, 32, 0, .ro, 0, 0, 0⟩,
    ⟨0x02, 16, 0, .ro, 0, 0, 0⟩,
    ⟨0x03, 16, 0, .ro, 0, 0, 0⟩,
    ⟨0x04, 8, 0, .rw, 0, 0, 0⟩,
    ⟨0x05, 16, 0, .rw, 2, 2, 2⟩,
    ⟨0x06, 8, 0, .rw, 0, 0, 0⟩,
    ⟨0x07, 16, 0, .ro, 0, 0, 0⟩,
    ⟨0x08, 16, 0, .ro, 0, 0, 0⟩,
    ⟨0x09, 64, 0, .ro, 0, 0, 0⟩,
    ⟨0x0A, 64, 0, .ro, 0, 0, 0⟩,
    ⟨0x0B, 64, 0, .ro, 0, 0, 0⟩,
    ⟨0x0C, 128, 0, .ro, 0, 0, 0⟩]⟩

/-- Every group of objects, in ascending order of index. -/
def groups : List OGrp := [
  grp_idn, grp_fn, grp_irq, grp_acc, grp_opr, grp_goa, grp_tb, grp_hall,
  grp_cap, grp_pulse, grp_irqLine, grp_linkCfg, grp_time, grp_link, grp_tport, grp_lane,
  grp_tdc, grp_ev, grp_mslot, grp_regr, grp_chan, grp_tabs, grp_tab, grp_seq,
  grp_esc, grp_ctx, grp_head, grp_tly, grp_tctx, grp_hch, grp_lsel, grp_ssel,
  grp_htly, grp_acct, grp_clr, grp_dsc, grp_contrib, grp_bank, grp_eng, grp_det,
  grp_strict, grp_prog, grp_tag, grp_seed, grp_mint, grp_jrnl, grp_rpl, grp_flt,
  grp_cause, grp_watch, grp_reg, grp_su, grp_vlt, grp_pwr, grp_sent, grp_fw,
  grp_fla, grp_tel, grp_mdl, grp_cen, grp_cenCmd, grp_ecnt, grp_aud, grp_agc,
  grp_ref, grp_khall, grp_prio, grp_rin, grp_out, grp_lst, grp_epo, grp_spn,
  grp_prt, grp_hlt, grp_hwt, grp_bud, grp_agent, grp_bus, grp_vds, grp_vd]

/-- The object key of an index and a subindex. -/
def oidOf (idx sub : Nat) : Nat := idx * 256 + sub

/-- How many indices of a group a kind of unit holds. -/
def OGrp.count (k : Kind) (g : OGrp) : Nat :=
  match k with
  | .full => g.full
  | .edge => g.edge
  | .hub => g.hub

/-- Indices inside a group's range that a kind of unit does not hold: the channel numbers without an input (04 R99), and on a
hub every time base object but the value of TB1 (06 R154, 16 R474). -/
def idxHeld (k : Kind) (idx sub : Nat) : Bool :=
  if Nat.ble 0x3900 idx && Nat.blt idx 0x3968 then
    Nat.blt (idx - 0x3900) (if k == .hub then 68 else 2) || Nat.ble 0x3960 idx
  else if (k == .hub) && Nat.ble 0x2000 idx && Nat.blt idx 0x2008 then idx == 0x2001 && sub == 0
  else true

/-- The row of the dictionary that an object key falls in, for a kind of unit; none where the unit holds no such object. The value of TB1
is a TK, that of the other bases a T96 (06 R154, R171). -/
def findRow (k : Kind) (oid : Nat) : Option ORow :=
  let idx := oid / 256
  let sub := oid % 256
  if !idxHeld k idx sub then none
  else match groups.find? (fun g => Nat.ble g.base idx && Nat.blt idx (g.base + g.count k)) with
  | none => none
  | some g => (g.rows.find? (fun r => r.sub == sub)).map (fun r => if oid == 0x200100 then { r with width := 64 } else r)

/-- The ideal calibration table T_c[j] = 128 j + 64, 512 entries of 16 bits (04 R100). -/
def idealTable : Nat :=
  (List.range 512).foldl (fun acc j => acc + (128 * j + 64) * 2 ^ (16 * j)) 0

/-- Defaults that differ between the instances of one row: the ideal calibration table (04 R100), the mode of the eight
time bases and the increment of TB1 (06 R171), and the calibration state of the twin lanes of a hub (03 R96). -/
def instanceDefault (k : Kind) (oid : Nat) : Option Nat :=
  let idx := oid / 256
  let sub := oid % 256
  if Nat.ble 0x3900 idx && Nat.blt idx 0x3968 && sub == 0 then some idealTable
  else if Nat.ble 0x2000 idx && Nat.blt idx 0x2008 && sub == 1 then
    some (if idx == 0x2000 then 0 else if idx == 0x2001 then 2 else 1)
  else if idx == 0x2001 && sub == 2 then some 0
  else if (k == .hub) && (idx == 0x3060 + 66 || idx == 0x3060 + 67) && sub == 7 then some 3
  else none

/-- The default of an object (00 R18): 0 for a key that names no object. -/
def dfltOf (k : Kind) (oid : Nat) : Nat :=
  match instanceDefault k oid with
  | some v => v
  | none =>
    match findRow k oid with
    | none => 0
    | some r =>
      match k with
      | .full => r.dFull
      | .edge => r.dEdge
      | .hub => r.dHub

/-- The width in bits of an object; 0 for a key that names no object. -/
def widthOf (k : Kind) (oid : Nat) : Nat :=
  match findRow k oid with
  | none => 0
  | some r => r.width

end Sys2Proof.Machine
end

