-- ==== Sys2Proof/Machine/Objects.lean ====
section
/-! DEFINITION. The names of the objects of the dictionary (16 R438, R439; the object tables of every chapter).
An object is named by index and subindex; the model keys it by index * 256 + subindex.
Written out from the object tables of the specification, one name per row. -/

namespace Sys2Proof.Machine.Ob

/-- Object 0x3000.00, port count: U8, RO (02 R70). Number of span link ports -/
abbrev linkCfg_portCount : Nat := 0x300000
/-- Object 0x3000.01, local features: U64, RO (02 R70). Feature map sent in HELLO -/
abbrev linkCfg_localFeatures : Nat := 0x300001
/-- Object 0x3000.02, uncorrectable threshold: U16, RW (02 R70). Uncorrectable frames per window that set degraded (R52) -/
abbrev linkCfg_uncorrectableThreshold : Nat := 0x300002
/-- Object 0x3000.03, window: U32, RW (02 R70). Window length in frames, 64 to 2^32 − 1 -/
abbrev linkCfg_window : Nat := 0x300003
/-- Object 0x3000.04, train timeout: U32, RW (02 R70). Ticks allowed in TRAIN -/
abbrev linkCfg_trainTimeout : Nat := 0x300004
/-- Object 0x3000.05, hello timeout: U32, RW (02 R70). Ticks allowed in HELLO -/
abbrev linkCfg_helloTimeout : Nat := 0x300005
/-- Object 0x3000.06, measure timeout: U32, RW (02 R70). Ticks allowed in MEASURE -/
abbrev linkCfg_measureTimeout : Nat := 0x300006
/-- Object 0x3000.07, C3 anti-starvation: U8, RW (02 R70). Frames after which C3 goes ahead of C2 (R60); 0 disables -/
abbrev linkCfg_c3AntiStarvation : Nat := 0x300007
/-- Object 0x3000.08, member hold: U16, RW (02 R70). Marker periods of lock before MEMBER -/
abbrev linkCfg_memberHold : Nat := 0x300008
/-- Object 0x3010+p.00, state: U8, RO (02 R70). 0 DARK, 1 WAKE, 2 TRAIN, 3 HELLO, 4 MEASURE, 5 SYNCED, 6 MEMBER -/
abbrev link_state (p : Nat) : Nat := 0x301000 + p * 256
/-- Object 0x3010+p.01, enable: U8, RWS (02 R70). 0 off, 1 up to SYNCED, 2 up to MEMBER; other values refused -/
abbrev link_enable (p : Nat) : Nat := 0x301001 + p * 256
/-- Object 0x3010+p.02, command: U8, CMD (02 R70). 1 restart: to DARK, then WAKE on the next tick; 2 send wake pattern once from DARK without training -/
abbrev link_command (p : Nat) : Nat := 0x301002 + p * 256
/-- Object 0x3010+p.03, partner identity: U32, RO (02 R70). Identity from the accepted HELLO in [19:0] -/
abbrev link_partnerIdentity (p : Nat) : Nat := 0x301003 + p * 256
/-- Object 0x3010+p.04, partner port: U8, RO (02 R70). Port from the accepted HELLO -/
abbrev link_partnerPort (p : Nat) : Nat := 0x301004 + p * 256
/-- Object 0x3010+p.05, operating generation: U8, RO (02 R70). Generation in [1:0]; 0 before the first accepted HELLO -/
abbrev link_operatingGeneration (p : Nat) : Nat := 0x301005 + p * 256
/-- Object 0x3010+p.06, operating features: U64, RO (02 R70). R69 -/
abbrev link_operatingFeatures (p : Nat) : Nat := 0x301006 + p * 256
/-- Object 0x3010+p.07, partner version: U16, RO (02 R70). Major in [15:8], minor in [7:0] -/
abbrev link_partnerVersion (p : Nat) : Nat := 0x301007 + p * 256
/-- Object 0x3010+p.08, corrected symbols: U64, RO (02 R70). Symbols corrected since power-up; wraps -/
abbrev link_correctedSymbols (p : Nat) : Nat := 0x301008 + p * 256
/-- Object 0x3010+p.09, uncorrectable frames: U64, RO (02 R70). Frames discarded under R49; wraps -/
abbrev link_uncorrectableFrames (p : Nat) : Nat := 0x301009 + p * 256
/-- Object 0x3010+p.0A, span messages dropped: U64, RO (02 R70). Dropped under R30 or discarded under R64; wraps -/
abbrev link_spanMessagesDropped (p : Nat) : Nat := 0x30100A + p * 256
/-- Object 0x3010+p.0B, malformed cells: U64, RO (02 R70). Dropped under R56, R57 or R59, and fault slots ignored outside MEMBER; wraps -/
abbrev link_malformedCells (p : Nat) : Nat := 0x30100B + p * 256
/-- Object 0x3010+p.0C, last change: TK, RO (02 R70). TB1 at the last state change -/
abbrev link_lastChange (p : Nat) : Nat := 0x30100C + p * 256
/-- Object 0x3010+p.0D, last exit cause: U8, RO (02 R70). Cause code of the last change that recorded one; 0 if none -/
abbrev link_lastExitCause (p : Nat) : Nat := 0x30100D + p * 256
/-- Object 0x3010+p.0E, fault slot drops: U64, RO (02 R70). Waves dropped under R54 or discarded under R64; merges are not counted here; wraps -/
abbrev link_faultSlotDrops (p : Nat) : Nat := 0x30100E + p * 256
/-- Object 0x3001.00, time state: U8, RO (03 R95). 0 invalid, 1 acquiring, 2 valid (R73) -/
abbrev time_timeState : Nat := 0x300100
/-- Object 0x3001.01, source: U8, RO (03 R95). Port followed (R67); 0x7E own oscillator; 0x7F none -/
abbrev time_source : Nat := 0x300101
/-- Object 0x3001.02, depth: U8, RO (03 R95). Hops from the root; 15 when not valid -/
abbrev time_depth : Nat := 0x300102
/-- Object 0x3001.03, plane mode: U8, RW (03 R95). TSU: 0 primary A, 1 primary B, 2 weighted; hub: reads 0, writes refused -/
abbrev time_planeMode : Nat := 0x300103
/-- Object 0x3001.04, weight A: U16, RW (03 R95). w × 65,536 (R86); TSU only -/
abbrev time_weightA : Nat := 0x300104
/-- Object 0x3001.05, proportional gain: U16, RW (03 R95). Kp × 65,536 -/
abbrev time_proportionalGain : Nat := 0x300105
/-- Object 0x3001.06, integral gain: U16, RW (03 R95). Ki × 65,536 -/
abbrev time_integralGain : Nat := 0x300106
/-- Object 0x3001.07, slew limit: U8, RW (03 R95). Phase steps per marker when valid, 1 to 16 -/
abbrev time_slewLimit : Nat := 0x300107
/-- Object 0x3001.08, acquisition slew: U8, RW (03 R95). Phase steps per marker when acquiring, 1 to 64 -/
abbrev time_acquisitionSlew : Nat := 0x300108
/-- Object 0x3001.09, step threshold: U16, RW (03 R95). ps (R84) -/
abbrev time_stepThreshold : Nat := 0x300109
/-- Object 0x3001.0A, lock window: U16, RW (03 R95). ps (R85) -/
abbrev time_lockWindow : Nat := 0x30010A
/-- Object 0x3001.0B, unlock window: U16, RW (03 R95). ps (R85); refused if below the lock window -/
abbrev time_unlockWindow : Nat := 0x30010B
/-- Object 0x3001.0C, plane threshold: U16, RW (03 R95). ps (R88) -/
abbrev time_planeThreshold : Nat := 0x30010C
/-- Object 0x3001.0D, lock count: U16, RW (03 R95). Complete exchanges for lock, 16 to 4,096 -/
abbrev time_lockCount : Nat := 0x30010D
/-- Object 0x3001.0E, revert hold: U16, RW (03 R95). Markers (R74, R88) -/
abbrev time_revertHold : Nat := 0x30010E
/-- Object 0x3001.0F, offset estimate: I64, RO (03 R95). θ last used by the servo -/
abbrev time_offsetEstimate : Nat := 0x30010F
/-- Object 0x3001.10, plane difference: I64, RO (03 R95). TSU: Δ; hub: τ -/
abbrev time_planeDifference : Nat := 0x300110
/-- Object 0x3001.11, phase moved: I64, RO (03 R95). Net phase steps applied since power-up, positive later -/
abbrev time_phaseMoved : Nat := 0x300111
/-- Object 0x3001.12, time steps: U32, RO (03 R95). Steps made under R84 -/
abbrev time_timeSteps : Nat := 0x300112
/-- Object 0x3001.13, source changes: U32, RO (03 R95). Changes under R74 to R76 and R86 -/
abbrev time_sourceChanges : Nat := 0x300113
/-- Object 0x3001.14, closure length: U32, RW (03 R95). Markers averaged by loop closure, 256 to 65,536 -/
abbrev time_closureLength : Nat := 0x300114
/-- Object 0x3001.15, closure: U8, CMD (03 R95). Hub only: 1 measure and apply, 2 measure only (R91) -/
abbrev time_closure : Nat := 0x300115
/-- Object 0x3001.16, track threshold: U16, RW (03 R95). ps (R93) -/
abbrev time_trackThreshold : Nat := 0x300116
/-- Object 0x3001.17, tracking: U8, RW (03 R95). 0 report only, 1 apply (R93) -/
abbrev time_tracking : Nat := 0x300117
/-- Object 0x3060+p.00, time lock: U8, RO (03 R96). 1 when this end is locked (R85) -/
abbrev tport_timeLock (p : Nat) : Nat := 0x306000 + p * 256
/-- Object 0x3060+p.01, asymmetry: I32, RWS (03 R96). A (R81, R90); child ends and twin lanes only -/
abbrev tport_asymmetry (p : Nat) : Nat := 0x306001 + p * 256
/-- Object 0x3060+p.02, transmit constant: I32, RWS (03 R96). Tick to transmit reference plane (R77) -/
abbrev tport_transmitConstant (p : Nat) : Nat := 0x306002 + p * 256
/-- Object 0x3060+p.03, receive constant: I32, RWS (03 R96). Receive reference plane to stamp (R77) -/
abbrev tport_receiveConstant (p : Nat) : Nat := 0x306003 + p * 256
/-- Object 0x3060+p.04, offset: I64, RO (03 R96). Last θ of this port -/
abbrev tport_offset (p : Nat) : Nat := 0x306004 + p * 256
/-- Object 0x3060+p.05, round trip: I64, RO (03 R96). Last round trip -/
abbrev tport_roundTrip (p : Nat) : Nat := 0x306005 + p * 256
/-- Object 0x3060+p.06, stamps: BLOB, RO (03 R96). 40 bytes: t1, t2, t3, t4, each 64-bit ticks then 16-bit fraction -/
abbrev tport_stamps (p : Nat) : Nat := 0x306006 + p * 256
/-- Object 0x3060+p.07, calibration: U8, RWS (03 R96). 0 uncalibrated, 1 loop closure, 2 reference pod, 3 factory -/
abbrev tport_calibration (p : Nat) : Nat := 0x306007 + p * 256
/-- Object 0x3060+p.08, closure residual: I64, RO (03 R96). ρ of the last run (R91, R93); parent ports only -/
abbrev tport_closureResidual (p : Nat) : Nat := 0x306008 + p * 256
/-- Object 0x3060+p.09, exchanges: U64, RO (03 R96). Complete exchanges; wraps -/
abbrev tport_exchanges (p : Nat) : Nat := 0x306009 + p * 256
/-- Object 0x3060+p.0A, missed exchanges: U64, RO (03 R96). R82; wraps -/
abbrev tport_missedExchanges (p : Nat) : Nat := 0x30600A + p * 256
/-- Object 0x3060+p.0B, host latency codes: U32, RO (03 R96). TSU only: transmit code [31:16], receive code [15:0], signed phase steps -/
abbrev tport_hostLatencyCodes (p : Nat) : Nat := 0x30600B + p * 256
/-- Object 0x3060+p.0C, pod offset: I64, WO (03 R96). True offset, child minus parent (R92); child ends only -/
abbrev tport_podOffset (p : Nat) : Nat := 0x30600C + p * 256
/-- Object 0x3800.00, channels: U8, RO (04 R116). Number of TDC channels (R99) -/
abbrev tdc_channels : Nat := 0x380000
/-- Object 0x3800.01, DLL state: U8, RO (04 R116). 1 when every channel's DLL is locked -/
abbrev tdc_dllState : Nat := 0x380001
/-- Object 0x3800.02, calibration period: U32, RW (04 R116). Ticks, 15,625,000 to 2^32 − 1 (R105) -/
abbrev tdc_calibrationPeriod : Nat := 0x380002
/-- Object 0x3800.03, calibration hits: U32, RW (04 R116). H, a power of two from 2^16 to 2^24; other values refused -/
abbrev tdc_calibrationHits : Nat := 0x380003
/-- Object 0x3800.04, calibration tolerance: U16, RW (04 R116). Time units (R104) -/
abbrev tdc_calibrationTolerance : Nat := 0x380004
/-- Object 0x3800.05, calibrate: U8, CMD (04 R116). 1: start a collection on every channel -/
abbrev tdc_calibrate : Nat := 0x380005
/-- Object 0x3800.06, calibrations accepted: U64, RO (04 R116). Over all channels; wraps -/
abbrev tdc_calibrationsAccepted : Nat := 0x380006
/-- Object 0x3800.07, calibrations rejected: U64, RO (04 R116). Over all channels; wraps -/
abbrev tdc_calibrationsRejected : Nat := 0x380007
/-- Object 0x3800.08, port flags: U128 as BLOB, RO (04 R116). 16 bytes; bit p = span port p out of calibration (R104) -/
abbrev tdc_portFlags : Nat := 0x380008
/-- Object 0x3900+c.00, calibration table: BLOB, RO (04 R116). 1,024 bytes: T_c[0] to T_c[511], U16 each (R100) -/
abbrev chan_calibrationTable (c : Nat) : Nat := 0x390000 + c * 256
/-- Object 0x3810+i.00, enable: U8, RWS (04 R117). 1 accepts edges (R106) -/
abbrev ev_enable (i : Nat) : Nat := 0x381000 + i * 256
/-- Object 0x3810+i.01, edge: U8, RWS (04 R117). 0 rising, 1 falling -/
abbrev ev_edge (i : Nat) : Nat := 0x381001 + i * 256
/-- Object 0x3810+i.02, hysteresis: U8, RWS (04 R117). Hub: 0 for 50 mV, 1 for 100 mV, 2 for 200 mV; TSU: 0, writes refused -/
abbrev ev_hysteresis (i : Nat) : Nat := 0x381002 + i * 256
/-- Object 0x3810+i.03, hold-off: U8, RWS (04 R117). Ticks, 1 to 255, limited by R107 -/
abbrev ev_holdOff (i : Nat) : Nat := 0x381003 + i * 256
/-- Object 0x3810+i.04, nominal code: U8, RWS (04 R117). R107 -/
abbrev ev_nominalCode (i : Nat) : Nat := 0x381004 + i * 256
/-- Object 0x3810+i.05, nominal period: U64, RWS (04 R117). Time units, used when code is 4 -/
abbrev ev_nominalPeriod (i : Nat) : Nat := 0x381005 + i * 256
/-- Object 0x3810+i.06, rejected edges: U64, RO (04 R117). Removed by hold-off; wraps -/
abbrev ev_rejectedEdges (i : Nat) : Nat := 0x381006 + i * 256
/-- Object 0x3810+i.07, flags: U8, RO (04 R117). Bit 0 DLL unlocked; bit 1 out of calibration -/
abbrev ev_flags (i : Nat) : Nat := 0x381007 + i * 256
/-- Object 0x3810+i.08, edge count: U64, RO (04 R117). [47:0] accepted edges (R108); [63:48] 0 -/
abbrev ev_edgeCount (i : Nat) : Nat := 0x381008 + i * 256
/-- Object 0x3820+s.00, start source: U8, RW (04 R118). R109 -/
abbrev mslot_startSource (s : Nat) : Nat := 0x382000 + s * 256
/-- Object 0x3820+s.01, stop source: U8, RW (04 R118). R109 -/
abbrev mslot_stopSource (s : Nat) : Nat := 0x382001 + s * 256
/-- Object 0x3820+s.02, result: BLOB, RO (04 R118). 32 bytes: opening marker TK (8), start stamp (10), stop stamp (10), interval U32 (4) -/
abbrev mslot_result (s : Nat) : Nat := 0x382002 + s * 256
/-- Object 0x3820+s.03, status: U8, RO (04 R118). Bits [1:0]: 0 complete, 1 no start, 2 no stop; bit 2 coarse -/
abbrev mslot_status (s : Nat) : Nat := 0x382003 + s * 256
/-- Object 0x3820+s.04, completed: U64, RO (04 R118). Slots posted with status 0; wraps -/
abbrev mslot_completed (s : Nat) : Nat := 0x382004 + s * 256
/-- Object 0x3840+g.00, input: U8, RW (04 R119). Event input i, 0 to 7 (R112) -/
abbrev regr_input (g : Nat) : Nat := 0x384000 + g * 256
/-- Object 0x3840+g.01, gate: U32, RW (04 R119). ms, 1 to 1,000,000 -/
abbrev regr_gate (g : Nat) : Nat := 0x384001 + g * 256
/-- Object 0x3840+g.02, command: U8, CMD (04 R119). 0 stop, 1 one gate, 2 continuous (R114) -/
abbrev regr_command (g : Nat) : Nat := 0x384002 + g * 256
/-- Object 0x3840+g.03, result: BLOB, RO (04 R119). 32 bytes: gate opening marker TK (8), y I64 (8), stamps kept U32 (4), r U32 (4), k U32 (4), status U32 (4) -/
abbrev regr_result (g : Nat) : Nat := 0x384003 + g * 256
/-- Object 0xB000.00, reference state: U8, RO (05 R149). 0 FREE_RUN, 1 ACQUIRING, 2 LOCKED, 3 HOLDOVER, 4 LOST -/
abbrev ref_referenceState : Nat := 0xB00000
/-- Object 0xB000.01, active entry: U8, RO (05 R149). Entry 0 to 7; 0xFF none -/
abbrev ref_activeEntry : Nat := 0xB00001
/-- Object 0xB000.02, selection mode: U8, RWS (05 R149). 0 rank then priority, 1 priority only (R130) -/
abbrev ref_selectionMode : Nat := 0xB00002
/-- Object 0xB000.03, revertive: U8, RWS (05 R149). 0 non-revertive, 1 revertive -/
abbrev ref_revertive : Nat := 0xB00003
/-- Object 0xB000.04, wait-to-restore: U16, RWS (05 R149). s, 0 to 720 -/
abbrev ref_waitToRestore : Nat := 0xB00004
/-- Object 0xB000.05, start hold: U16, RWS (05 R149). s, 0 to 60 -/
abbrev ref_startHold : Nat := 0xB00005
/-- Object 0xB000.06, forced entry: U8, RWS (05 R149). Entry 0 to 7; 0xFF none -/
abbrev ref_forcedEntry : Nat := 0xB00006
/-- Object 0xB000.07, network option: U8, RWS (05 R149). 1 or 2 (R127) -/
abbrev ref_networkOption : Nat := 0xB00007
/-- Object 0xB000.08, minimum quality: U8, RWS (05 R149). Rank 1 to 8 -/
abbrev ref_minimumQuality : Nat := 0xB00008
/-- Object 0xB000.09, loop bandwidth: U16, RWS (05 R149). mHz, 1 to 1,000 (R134) -/
abbrev ref_loopBandwidth : Nat := 0xB00009
/-- Object 0xB000.0A, lock window: U32, RWS (05 R149). ps -/
abbrev ref_lockWindow : Nat := 0xB0000A
/-- Object 0xB000.0B, unlock window: U32, RWS (05 R149). ps; refused if below the lock window -/
abbrev ref_unlockWindow : Nat := 0xB0000B
/-- Object 0xB000.0C, lock count: U16, RWS (05 R149). Updates, 4 to 1,024 -/
abbrev ref_lockCount : Nat := 0xB0000C
/-- Object 0xB000.0D, frequency slew: U32, RWS (05 R149). ppb per second, 1 to 1,000 -/
abbrev ref_frequencySlew : Nat := 0xB0000D
/-- Object 0xB000.0E, frequency lock window: U32, RWS (05 R149). ppb (R137, R139) -/
abbrev ref_frequencyLockWindow : Nat := 0xB0000E
/-- Object 0xB000.0F, DCO word: I64, RO (05 R149). d, 2^-48 -/
abbrev ref_dcoWord : Nat := 0xB0000F
/-- Object 0xB000.10, free-run word: I64, RWS (05 R149). 2^-48, within ±200 ppm -/
abbrev ref_freeRunWord : Nat := 0xB00010
/-- Object 0xB000.11, oscillator class: U8, RWS (05 R149). 0 other, 1 OCXO, 2 rubidium (R140) -/
abbrev ref_oscillatorClass : Nat := 0xB00011
/-- Object 0xB000.12, holdover initial error: U32, RWS (05 R149). y0, 10^-15 -/
abbrev ref_holdoverInitialError : Nat := 0xB00012
/-- Object 0xB000.13, holdover aging: U32, RWS (05 R149). a, 10^-21 per s -/
abbrev ref_holdoverAging : Nat := 0xB00013
/-- Object 0xB000.14, holdover budget: U32, RWS (05 R149). ns -/
abbrev ref_holdoverBudget : Nat := 0xB00014
/-- Object 0xB000.15, holdover history: U16, RWS (05 R149). s, 60 to 3,600 (R136) -/
abbrev ref_holdoverHistory : Nat := 0xB00015
/-- Object 0xB000.16, holdover word: I64, RO (05 R149). 2^-48 -/
abbrev ref_holdoverWord : Nat := 0xB00016
/-- Object 0xB000.17, left locked: TK, RO (05 R149). TB1 at the last exit from LOCKED -/
abbrev ref_leftLocked : Nat := 0xB00017
/-- Object 0xB000.18, predicted error: U32, RO (05 R149). x, ns -/
abbrev ref_predictedError : Nat := 0xB00018
/-- Object 0xB000.19, DAC mode: U8, RWS (05 R149). R141 -/
abbrev ref_dacMode : Nat := 0xB00019
/-- Object 0xB000.1A, DAC word: U16, RWS (05 R149). DISC_DAC value -/
abbrev ref_dacWord : Nat := 0xB0001A
/-- Object 0xB000.1B, DAC gain: I32, RWS (05 R149). 2^-48 per LSB -/
abbrev ref_dacGain : Nat := 0xB0001B
/-- Object 0xB000.1C, follower: U8, RO (05 R149). 1 on the follower (R145) -/
abbrev ref_follower : Nat := 0xB0001C
/-- Object 0xB000.1D, tracked word: I64, RO (05 R149). 2^-48 (R145) -/
abbrev ref_trackedWord : Nat := 0xB0001D
/-- Object 0xB000.1E, ESMC dropped: U64, RO (05 R149). R126; wraps -/
abbrev ref_esmcDropped : Nat := 0xB0001E
/-- Object 0xB001.00, hall time flags: U8, RO (05 R149). R144 -/
abbrev khall_hallTimeFlags : Nat := 0xB00100
/-- Object 0xB001.01, anchor: BLOB, RO (05 R149). 16 bytes: A ticks (8), A fraction (2), S (6) -/
abbrev khall_anchor : Nat := 0xB00101
/-- Object 0xB001.02, label: U64, WO (05 R149). TAI seconds in [47:0] (R143) -/
abbrev khall_label : Nat := 0xB00102
/-- Object 0xB001.03, time offset: I64, RO (05 R149). Time units -/
abbrev khall_timeOffset : Nat := 0xB00103
/-- Object 0xB001.04, realign rate: U32, RWS (05 R149). ps per second -/
abbrev khall_realignRate : Nat := 0xB00104
/-- Object 0xB001.05, realign: U8, CMD (05 R149). 1 start, 0 stop -/
abbrev khall_realign : Nat := 0xB00105
/-- Object 0xB001.06, automatic realign: U8, RWS (05 R149). 1 realigns continuously -/
abbrev khall_automaticRealign : Nat := 0xB00106
/-- Object 0xB001.07, UTC offset: I16, RWS (05 R149). Held for software; unused by hardware -/
abbrev khall_utcOffset : Nat := 0xB00107
/-- Object 0xB002.00, priority table: TBL, RWS (05 R149). 8 × U32 (R128) -/
abbrev prio_priorityTable : Nat := 0xB00200
/-- Object 0xB010+i.00, status: U8, RO (05 R150). Bit 0 active, 1 frequency in window, 2 quality acceptable, 3 qualified, 4 waiting to restore, 5 selectable, 6 in use -/
abbrev rin_status (i : Nat) : Nat := 0xB01000 + i * 256
/-- Object 0xB010+i.01, quality source: U8, RWS (05 R150). R125 -/
abbrev rin_qualitySource (i : Nat) : Nat := 0xB01001 + i * 256
/-- Object 0xB010+i.02, fixed rank: U8, RWS (05 R150). 1 to 8, 15 -/
abbrev rin_fixedRank (i : Nat) : Nat := 0xB01002 + i * 256
/-- Object 0xB010+i.03, ESMC association: U64, RWS (05 R150). Port [49:48]: 0 MGT0, 1 MGT1, 2 either, 3 none; source address [47:0] -/
abbrev rin_esmcAssociation (i : Nat) : Nat := 0xB01003 + i * 256
/-- Object 0xB010+i.04, received SSM: U8, RO (05 R150). Last code; 0xFF QL-FAILED -/
abbrev rin_receivedSSM (i : Nat) : Nat := 0xB01004 + i * 256
/-- Object 0xB010+i.05, rank: U8, RO (05 R150). R127 -/
abbrev rin_rank (i : Nat) : Nat := 0xB01005 + i * 256
/-- Object 0xB010+i.06, frequency window: U32, RWS (05 R150). ppb, 1 to 200,000 -/
abbrev rin_frequencyWindow (i : Nat) : Nat := 0xB01006 + i * 256
/-- Object 0xB010+i.07, monitor gate: U32, RWS (05 R150). ms, 1,000 to 1,000,000 -/
abbrev rin_monitorGate (i : Nat) : Nat := 0xB01007 + i * 256
/-- Object 0xB010+i.08, monitor offset: I64, RO (05 R150). y_i, 2^-48 against span time -/
abbrev rin_monitorOffset (i : Nat) : Nat := 0xB01008 + i * 256
/-- Object 0xB010+i.09, input delay: I64, RWS (05 R150). Time units (R143) -/
abbrev rin_inputDelay (i : Nat) : Nat := 0xB01009 + i * 256
/-- Object 0xB010+i.0A, wait remaining: U16, RO (05 R150). s -/
abbrev rin_waitRemaining (i : Nat) : Nat := 0xB0100A + i * 256
/-- Object 0xB010+i.0B, expected edge: BLOB, RO (05 R150). 10 bytes: P_i (R133) -/
abbrev rin_expectedEdge (i : Nat) : Nat := 0xB0100B + i * 256
/-- Object 0xB010+i.0C, ESMC received: U64, RO (05 R150). Matching PDUs; wraps -/
abbrev rin_esmcReceived (i : Nat) : Nat := 0xB0100C + i * 256
/-- Object 0xB040+k.00, source: U8, RWS (05 R151). R147 -/
abbrev out_source (k : Nat) : Nat := 0xB04000 + k * 256
/-- Object 0xB040+k.01, offset: I64, RWS (05 R151). 2^-16 ns (R148) -/
abbrev out_offset (k : Nat) : Nat := 0xB04001 + k * 256
/-- Object 0xB040+k.02, width: U32, RWS (05 R151). Ticks; PPSOUT only -/
abbrev out_width (k : Nat) : Nat := 0xB04002 + k * 256
/-- Object 0xB040+k.03, frequency: U8, RWS (05 R151). FOUT only: 1, 2 or 3 -/
abbrev out_frequency (k : Nat) : Nat := 0xB04003 + k * 256
/-- Object 0xB040+k.04, shot tick: TK, RW (05 R151). Instant for source 0x02 -/
abbrev out_shotTick (k : Nat) : Nat := 0xB04004 + k * 256
/-- Object 0xB040+k.05, pulses: U64, RO (05 R151). Pulses or aligned edges placed; wraps -/
abbrev out_pulses (k : Nat) : Nat := 0xB04005 + k * 256
/-- Object 0x2000+k.00, value: T96 (TK for k = 1), RO (06 R171). Value at the tick of the read (R155, R160) -/
abbrev tb_value (k : Nat) : Nat := 0x200000 + k * 256
/-- Object 0x2000+k.01, mode: U8, RWS (06 R171). 0 hall (TB0 only), 1 free, 2 span tick (TB1 only); other writes refused -/
abbrev tb_mode (k : Nat) : Nat := 0x200001 + k * 256
/-- Object 0x2000+k.02, increment: U64, RW (06 R171). 2^-48 ns per tick (R156); TB1 reads 0, writes refused -/
abbrev tb_increment (k : Nat) : Nat := 0x200002 + k * 256
/-- Object 0x2000+k.03, command: BLOB, CMD (06 R171). 32 bytes (R157, R158) -/
abbrev tb_command (k : Nat) : Nat := 0x200003 + k * 256
/-- Object 0x2000+k.04, slew rate: U64, RW (06 R171). 2^-48 ns per tick, 1 to 2^40 -/
abbrev tb_slewRate (k : Nat) : Nat := 0x200004 + k * 256
/-- Object 0x2000+k.05, slew remaining: I64, RO (06 R171). 2^-48 ns, truncated to 64 bits -/
abbrev tb_slewRemaining (k : Nat) : Nat := 0x200005 + k * 256
/-- Object 0x2000+k.06, last change: TK, RO (06 R171). R158 -/
abbrev tb_lastChange (k : Nat) : Nat := 0x200006 + k * 256
/-- Object 0x2010.00, hall anchor: BLOB, RW (06 R171). 24 bytes (R161) -/
abbrev hall_hallAnchor : Nat := 0x201000
/-- Object 0x2010.01, hall slew limit: U32, RWS (06 R171). ns (R162) -/
abbrev hall_hallSlewLimit : Nat := 0x201001
/-- Object 0x2010.02, hall slew rate: U32, RWS (06 R171). ppb, 1 to 100,000 -/
abbrev hall_hallSlewRate : Nat := 0x201002
/-- Object 0x2010.03, hall flags: U16, RO (06 R171). [15:8] reference state code; [7:0] flags of R144 -/
abbrev hall_hallFlags : Nat := 0x201003
/-- Object 0x2010.04, hall residual: I64, RO (06 R171). r, 2^-16 ns -/
abbrev hall_hallResidual : Nat := 0x201004
/-- Object 0x2010.05, anchor writes: U64, RO (06 R171). Wraps -/
abbrev hall_anchorWrites : Nat := 0x201005
/-- Object 0x2810+i.00, capture enable: U8, RWS (06 R172). R164 -/
abbrev cap_captureEnable (i : Nat) : Nat := 0x281000 + i * 256
/-- Object 0x2810+i.01, base a: U8, RWS (06 R172). 0, 2 to 7, 0xF -/
abbrev cap_baseA (i : Nat) : Nat := 0x281001 + i * 256
/-- Object 0x2810+i.02, base b: U8, RWS (06 R172). 0, 2 to 7, 0xF -/
abbrev cap_baseB (i : Nat) : Nat := 0x281002 + i * 256
/-- Object 0x2810+i.03, record: BLOB, RO (06 R172). 48 bytes; a read removes the record (R166) -/
abbrev cap_record (i : Nat) : Nat := 0x281003 + i * 256
/-- Object 0x2810+i.04, records held: U8, RO (06 R172). 0 to 16 -/
abbrev cap_recordsHeld (i : Nat) : Nat := 0x281004 + i * 256
/-- Object 0x2810+i.05, records dropped: U64, RO (06 R172). Wraps -/
abbrev cap_recordsDropped (i : Nat) : Nat := 0x281005 + i * 256
/-- Object 0x2840+k.00, source: U8, RWS (06 R172). R167 -/
abbrev pulse_source (k : Nat) : Nat := 0x284000 + k * 256
/-- Object 0x2840+k.01, offset: I64, RWS (06 R172). 2^-16 ns (R148) -/
abbrev pulse_offset (k : Nat) : Nat := 0x284001 + k * 256
/-- Object 0x2840+k.02, width: U32, RWS (06 R172). Ticks -/
abbrev pulse_width (k : Nat) : Nat := 0x284002 + k * 256
/-- Object 0x2840+k.03, period: U32, RWS (06 R172). Ticks; source 0x03 -/
abbrev pulse_period (k : Nat) : Nat := 0x284003 + k * 256
/-- Object 0x2840+k.04, shot tick: TK, RW (06 R172). Sources 0x02 and 0x03 -/
abbrev pulse_shotTick (k : Nat) : Nat := 0x284004 + k * 256
/-- Object 0x2840+k.05, pulses: U64, RO (06 R172). Wraps -/
abbrev pulse_pulses (k : Nat) : Nat := 0x284005 + k * 256
/-- Object 0x2880+l.00, interrupt stamp: BLOB, RO (06 R172). 24 bytes (R169) -/
abbrev irqLine_interruptStamp (l : Nat) : Nat := 0x288000 + l * 256
/-- Object 0xD000+r.00, lane status: U8, RO (07 R201). Bit 0 X locked, 1 Y locked, 2 following Y, 3 bypass engaged, 4 no lane (R183) -/
abbrev agent_laneStatus (r : Nat) : Nat := 0xD00000 + r * 256
/-- Object 0xD000+r.01, preferred lane: U8, RWS (07 R201). 0 lane X, 1 lane Y (R182) -/
abbrev agent_preferredLane (r : Nat) : Nat := 0xD00001 + r * 256
/-- Object 0xD000+r.02, lane X delay: I32, RO (07 R201). c_r for lane X, time units; loaded from the configuration image -/
abbrev agent_laneXDelay (r : Nat) : Nat := 0xD00002 + r * 256
/-- Object 0xD000+r.03, lane Y delay: I32, RO (07 R201). c_r for lane Y, time units; loaded from the configuration image -/
abbrev agent_laneYDelay (r : Nat) : Nat := 0xD00003 + r * 256
/-- Object 0xD000+r.04, bypass delta: U32, RO (07 R201). Repeater minus bypass delay, time units: X in [31:16], Y in [15:0] (R177) -/
abbrev agent_bypassDelta (r : Nat) : Nat := 0xD00004 + r * 256
/-- Object 0xD000+r.05, group mask: U64, RWS (07 R201). Bit g = member of region group g, g = 0 to 62; bit 63 reads 1, writes ignored -/
abbrev agent_groupMask (r : Nat) : Nat := 0xD00005 + r * 256
/-- Object 0xD000+r.06, lane difference: I32, RO (07 R201). Compensated X minus Y, time units (R187) -/
abbrev agent_laneDifference (r : Nat) : Nat := 0xD00006 + r * 256
/-- Object 0xD000+r.07, period table: TBL, RO (07 R201). 16 × U32, nominal periods, 2^-24 tick; loaded from the configuration image -/
abbrev agent_periodTable (r : Nat) : Nat := 0xD00007 + r * 256
/-- Object 0xD000+r.08, period: U32, RO (07 R201). Nominal period in force, 2^-24 tick -/
abbrev agent_period (r : Nat) : Nat := 0xD00008 + r * 256
/-- Object 0xD000+r.09, ledger status: BLOB, RO (07 R201). 64 bytes (R194); the active run -/
abbrev agent_ledgerStatus (r : Nat) : Nat := 0xD00009 + r * 256
/-- Object 0xD000+r.0A, ledger record: BLOB, RO (07 R201). 64 bytes (R194); the last run posted -/
abbrev agent_ledgerRecord (r : Nat) : Nat := 0xD0000A + r * 256
/-- Object 0xD000+r.0B, warn threshold: U32, RWS (07 R201). Ticks (R192) -/
abbrev agent_warnThreshold (r : Nat) : Nat := 0xD0000B + r * 256
/-- Object 0xD000+r.0C, stretches: U64, RO (07 R201). ra_stretch pulses; wraps -/
abbrev agent_stretches (r : Nat) : Nat := 0xD0000C + r * 256
/-- Object 0xD000+r.0D, margin episodes: U64, RO (07 R201). R195; wraps -/
abbrev agent_marginEpisodes (r : Nat) : Nat := 0xD0000D + r * 256
/-- Object 0xD000+r.0E, margin ticks: U64, RO (07 R201). R195; wraps -/
abbrev agent_marginTicks (r : Nat) : Nat := 0xD0000E + r * 256
/-- Object 0xD000+r.0F, margin threshold: U16, RWS (07 R201). Episodes per run for cause 0x84; 0 disables -/
abbrev agent_marginThreshold (r : Nat) : Nat := 0xD0000F + r * 256
/-- Object 0xD000+r.10, frequency changes: U64, RO (07 R201). R196; wraps -/
abbrev agent_frequencyChanges (r : Nat) : Nat := 0xD00010 + r * 256
/-- Object 0xD000+r.11, stop timeout: U32, RWS (07 R201). Ticks, 64 to 156,250 (R197) -/
abbrev agent_stopTimeout (r : Nat) : Nat := 0xD00011 + r * 256
/-- Object 0xD000+r.12, command: U8, CMD (07 R201). 1 engage bypass, 2 release bypass (R177) -/
abbrev agent_command (r : Nat) : Nat := 0xD00012 + r * 256
/-- Object 0xD000+r.13, records posted: U64, RO (07 R201). Ledger posts; wraps -/
abbrev agent_recordsPosted (r : Nat) : Nat := 0xD00013 + r * 256
/-- Object 0xD400.00, Region Agents: U16, RO (07 R202). Number of Agents, 1 to 1,024 (Edge: 1); loaded from the configuration image -/
abbrev bus_regionAgents : Nat := 0xD40000
/-- Object 0xD400.01, ring X sign-off: I64, RO (07 R202). R_sign for lane X, time units -/
abbrev bus_ringXSignOff : Nat := 0xD40001
/-- Object 0xD400.02, ring Y sign-off: I64, RO (07 R202). R_sign for lane Y, time units -/
abbrev bus_ringYSignOff : Nat := 0xD40002
/-- Object 0xD400.03, ring X measured: I64, RO (07 R202). R_meas for lane X (R185) -/
abbrev bus_ringXMeasured : Nat := 0xD40003
/-- Object 0xD400.04, ring Y measured: I64, RO (07 R202). R_meas for lane Y (R185) -/
abbrev bus_ringYMeasured : Nat := 0xD40004
/-- Object 0xD400.05, lane difference threshold: U16, RWS (07 R202). ps (R187) -/
abbrev bus_laneDifferenceThreshold : Nat := 0xD40005
/-- Object 0xD400.06, lane X order: TBL, RO (07 R202). Up to 1,024 × U16 region numbers in lane X order; lane Y runs in reverse -/
abbrev bus_laneXOrder : Nat := 0xD40006
/-- Object 0xD400.07, bus frame errors: U64, RO (07 R202). Frames with a wrong check, and slots of reserved op, over all Agents; wraps -/
abbrev bus_busFrameErrors : Nat := 0xD40007
/-- Object 0xD800+v.00, status: U8, RO (08 R216). Bit 0 severed (R214), bit 1 overflow since flush (R213), bit 2 late since flush (R208), bit 3 write full; [7:4] reserved -/
abbrev vd_status (v : Nat) : Nat := 0xD80000 + v * 256
/-- Object 0xD800+v.01, endpoints: U32, RO (08 R216). [31:26] reserved; [25:16] writer region; [15:10] reserved; [9:0] reader region; from the configuration image -/
abbrev vd_endpoints (v : Nat) : Nat := 0xD80001 + v * 256
/-- Object 0xD800+v.02, physical depth: U16, RO (08 R216). N, 2 to 256; from the configuration image -/
abbrev vd_physicalDepth (v : Nat) : Nat := 0xD80002 + v * 256
/-- Object 0xD800+v.03, width: U16, RO (08 R216). Bits per entry, 1 to 1,024; from the configuration image -/
abbrev vd_width (v : Nat) : Nat := 0xD80003 + v * 256
/-- Object 0xD800+v.04, mode: U8, RW (08 R216). 0 off, 1 scheduled, 2 tick; effective at the next flush (R206) -/
abbrev vd_mode (v : Nat) : Nat := 0xD80004 + v * 256
/-- Object 0xD800+v.05, release lag: U16, RW (08 R216). L in ticks for tick mode, K to 4,096 (R209) -/
abbrev vd_releaseLag (v : Nat) : Nat := 0xD80005 + v * 256
/-- Object 0xD800+v.06, context: U8, RW (08 R216). Context whose launch, cut or abort flushes the cell (R205) -/
abbrev vd_context (v : Nat) : Nat := 0xD80006 + v * 256
/-- Object 0xD800+v.07, occupancy: U16, RO (08 R216). Entries held -/
abbrev vd_occupancy (v : Nat) : Nat := 0xD80007 + v * 256
/-- Object 0xD800+v.08, peak occupancy: U16, RO (08 R216). Largest occupancy since the last flush -/
abbrev vd_peakOccupancy (v : Nat) : Nat := 0xD80008 + v * 256
/-- Object 0xD800+v.09, writes: U64, RO (08 R216). Writes accepted; wraps -/
abbrev vd_writes (v : Nat) : Nat := 0xD80009 + v * 256
/-- Object 0xD800+v.0A, late crossings: U64, RO (08 R216). R208; wraps -/
abbrev vd_lateCrossings (v : Nat) : Nat := 0xD8000A + v * 256
/-- Object 0xD800+v.0B, overflows: U64, RO (08 R216). Writes discarded under R210 or R213; wraps -/
abbrev vd_overflows (v : Nat) : Nat := 0xD8000B + v * 256
/-- Object 0xD800+v.0C, last late: BLOB, RO (08 R216). 16 bytes: read tick, TK (8); reader cycle number, U64 (8) -/
abbrev vd_lastLate (v : Nat) : Nat := 0xD8000C + v * 256
/-- Object 0xD401.00, Viaducts: U16, RO (08 R217). Cells placed, 0 to 2,048; from the configuration image -/
abbrev vds_viaducts : Nat := 0xD40100
/-- Object 0xD401.01, crossing latency: U8, RO (08 R217). K in ticks (R204) -/
abbrev vds_crossingLatency : Nat := 0xD40101
/-- Object 0xD401.02, late cells: U128 as BLOB, RO (08 R217). 256 bytes: bit v = 1 when cell v has recorded a late crossing since its last flush -/
abbrev vds_lateCells : Nat := 0xD40102
/-- Object 0x4000.00, table slots: U8, RO (09 R258). R220 -/
abbrev tabs_tableSlots : Nat := 0x400000
/-- Object 0x4000.01, resident slots: U16, RO (09 R258). Bit t = slot t resident -/
abbrev tabs_residentSlots : Nat := 0x400001
/-- Object 0x4000.02, action conflicts: U64, RO (09 R258). R233; wraps -/
abbrev tabs_actionConflicts : Nat := 0x400002
/-- Object 0x4000.03, deferred accumulators: U8, RO (09 R258). R248 -/
abbrev tabs_deferredAccumulators : Nat := 0x400003
/-- Object 0x4000.04, accumulators free: U8, RO (09 R258). R248 -/
abbrev tabs_accumulatorsFree : Nat := 0x400004
/-- Object 0x4000.05, release accumulator: U16, CMD (09 R258). [13:8] context, [3:0] handle; 0xFFFF releases every accumulator not in use by a step in flight -/
abbrev tabs_releaseAccumulator : Nat := 0x400005
/-- Object 0x4010+t.00, state: U8, RO (09 R259). 0 empty, 1 loading, 2 resident, 3 refused -/
abbrev tab_state (t : Nat) : Nat := 0x401000 + t * 256
/-- Object 0x4010+t.01, header: BLOB, RW (09 R259). 64 bytes (R219) -/
abbrev tab_header (t : Nat) : Nat := 0x401001 + t * 256
/-- Object 0x4010+t.02, entries: TBL, RW (09 R259). 4,096 × 16 bytes (R224) -/
abbrev tab_entries (t : Nat) : Nat := 0x401002 + t * 256
/-- Object 0x4010+t.03, digest: BLOB, RW (09 R259). 32 bytes, expected -/
abbrev tab_digest (t : Nat) : Nat := 0x401003 + t * 256
/-- Object 0x4010+t.04, command: U8, CMD (09 R259). 1 commit (R221), 2 empty the slot -/
abbrev tab_command (t : Nat) : Nat := 0x401004 + t * 256
/-- Object 0x4010+t.05, refusal: U32, RO (09 R259). [31:16] first offending entry, 0xFFFF none; [15:8] reserved; [7:0] reason (R245) -/
abbrev tab_refusal (t : Nat) : Nat := 0x401005 + t * 256
/-- Object 0x4010+t.06, computed digest: BLOB, RO (09 R259). 32 bytes -/
abbrev tab_computedDigest (t : Nat) : Nat := 0x401006 + t * 256
/-- Object 0x4010+t.07, in use: U64, RO (09 R259). Bit c = context c holds the slot (R222) -/
abbrev tab_inUse (t : Nat) : Nat := 0x401007 + t * 256
/-- Object 0x4040+c.00, walk state: U8, RO (09 R260). 0 idle, 1 walking, 2 holding (R236), 3 walk ended, 4 extended -/
abbrev seq_walkState (c : Nat) : Nat := 0x404000 + c * 256
/-- Object 0x4040+c.01, next step number: U64, RO (09 R260). [47:0] (R249) -/
abbrev seq_nextStepNumber (c : Nat) : Nat := 0x404001 + c * 256
/-- Object 0x4040+c.02, step status: BLOB, RO (09 R260). 48 bytes: step number (8), table (1), reserved (3), entry index (2), iteration (2), F (8), deadline tick (8), slip (8), flags (8): bit 0 audit, bit 1 tainted -/
abbrev seq_stepStatus (c : Nat) : Nat := 0x404002 + c * 256
/-- Object 0x4040+c.03, last outcome: BLOB, RO (09 R260). 32 bytes: step number (8), outcome (1), cause (1), table (1), reserved (5), F (8), end tick (8) -/
abbrev seq_lastOutcome (c : Nat) : Nat := 0x404003 + c * 256
/-- Object 0x4040+c.04, nak reason: U8, RO (09 R260). R250; 0 none -/
abbrev seq_nakReason (c : Nat) : Nat := 0x404004 + c * 256
/-- Object 0x4040+c.05, mark: BLOB, RO (09 R260). 24 bytes; a read removes the record (R242) -/
abbrev seq_mark (c : Nat) : Nat := 0x404005 + c * 256
/-- Object 0x4040+c.06, marks held: U8, RO (09 R260). 0 to 16 -/
abbrev seq_marksHeld (c : Nat) : Nat := 0x404006 + c * 256
/-- Object 0x4040+c.07, marks dropped: U64, RO (09 R260). Wraps -/
abbrev seq_marksDropped (c : Nat) : Nat := 0x404007 + c * 256
/-- Object 0x4040+c.08, steps completed: U64, RO (09 R260). Outcome 1; wraps -/
abbrev seq_stepsCompleted (c : Nat) : Nat := 0x404008 + c * 256
/-- Object 0x4040+c.09, steps dropped: U64, RO (09 R260). Outcome 2; wraps -/
abbrev seq_stepsDropped (c : Nat) : Nat := 0x404009 + c * 256
/-- Object 0x4040+c.0A, steps extended: U64, RO (09 R260). Outcomes 3 and 4; wraps -/
abbrev seq_stepsExtended (c : Nat) : Nat := 0x40400A + c * 256
/-- Object 0x4040+c.0B, steps aborted: U64, RO (09 R260). Outcome 5; wraps -/
abbrev seq_stepsAborted (c : Nat) : Nat := 0x40400B + c * 256
/-- Object 0x4040+c.0C, slip: U64, RO (09 R260). Ticks of slip over all steps; wraps -/
abbrev seq_slip (c : Nat) : Nat := 0x40400C + c * 256
/-- Object 0x4800.00, stale messages: U64, RO (10 R279). Dropped under R261 or R270; wraps -/
abbrev esc_staleMessages : Nat := 0x480000
/-- Object 0x4800.01, handoffs late: U64, RO (10 R279). Hub: R269; TSU reads 0 -/
abbrev esc_handoffsLate : Nat := 0x480001
/-- Object 0x4800.02, instances held: U16, RO (10 R279). Hub: combining states in use, 0 to 1,024; TSU reads 0 -/
abbrev esc_instancesHeld : Nat := 0x480002
/-- Object 0x4800.03, instances refused: U64, RO (10 R279). Hub: R271; wraps -/
abbrev esc_instancesRefused : Nat := 0x480003
/-- Object 0x4840+c.00, escrow state: U8, RO (10 R280). 0 IDLE, 1 ARMED, 2 CONFIRMED, 3 FIRED, 4 RECALLED -/
abbrev ctx_escrowState (c : Nat) : Nat := 0x484000 + c * 256
/-- Object 0x4840+c.01, instance: BLOB, RO (10 R280). 32 bytes: step number (8), attempt (1), table (1), plane of first copy (1), reserved (5), F (8), Hz (8) -/
abbrev ctx_instance (c : Nat) : Nat := 0x484001 + c * 256
/-- Object 0x4840+c.02, answer: U8, RO (10 R280). 0 ok; 1 to 11 nak reason (R267); 0xFF no answer (R267 for an Edge TSU, R463) -/
abbrev ctx_answer (c : Nat) : Nat := 0x484002 + c * 256
/-- Object 0x4840+c.03, ARM tick: TK, RO (10 R280). Tick of entry into ARMED -/
abbrev ctx_armTick (c : Nat) : Nat := 0x484003 + c * 256
/-- Object 0x4840+c.04, CONFIRM tick: TK, RO (10 R280). Tick of entry into CONFIRMED -/
abbrev ctx_confirmTick (c : Nat) : Nat := 0x484004 + c * 256
/-- Object 0x4840+c.05, answered ok: U64, RO (10 R280). Wraps -/
abbrev ctx_answeredOk (c : Nat) : Nat := 0x484005 + c * 256
/-- Object 0x4840+c.06, answered nak: U64, RO (10 R280). Wraps -/
abbrev ctx_answeredNak (c : Nat) : Nat := 0x484006 + c * 256
/-- Object 0x4840+c.07, recalled: U64, RO (10 R280). Wraps -/
abbrev ctx_recalled (c : Nat) : Nat := 0x484007 + c * 256
/-- Object 0x4840+c.08, unconfirmed: U64, RO (10 R280). Causes 0x31 and 0x32 raised; wraps -/
abbrev ctx_unconfirmed (c : Nat) : Nat := 0x484008 + c * 256
/-- Object 0x4900+k.00, state: U8, RO (10 R281). 0 free, 1 stopped, 2 running, 3 stopping -/
abbrev head_state (k : Nat) : Nat := 0x490000 + k * 256
/-- Object 0x4900+k.01, owner: U32, RW (10 R281). [31:16] span; [15:6] reserved; [5:0] context -/
abbrev head_owner (k : Nat) : Nat := 0x490001 + k * 256
/-- Object 0x4900+k.02, expected count: U32, RW (10 R281). Members that answer for the context (R34) -/
abbrev head_expectedCount (k : Nat) : Nat := 0x490002 + k * 256
/-- Object 0x4900+k.03, lead: U32, RW (10 R281). L, ticks -/
abbrev head_lead (k : Nat) : Nat := 0x490003 + k * 256
/-- Object 0x4900+k.04, horizon lead: U32, RW (10 R281). h, ticks -/
abbrev head_horizonLead (k : Nat) : Nat := 0x490004 + k * 256
/-- Object 0x4900+k.05, period: U32, RW (10 R281). P, ticks -/
abbrev head_period (k : Nat) : Nat := 0x490005 + k * 256
/-- Object 0x4900+k.06, table: U8, RW (10 R281). Slot named in each ARM -/
abbrev head_table (k : Nat) : Nat := 0x490006 + k * 256
/-- Object 0x4900+k.07, next fire tick: TK, RW (10 R281). R277 -/
abbrev head_nextFireTick (k : Nat) : Nat := 0x490007 + k * 256
/-- Object 0x4900+k.08, next step: U64, RW (10 R281). [47:0] step number; [55:48] attempt -/
abbrev head_nextStep (k : Nat) : Nat := 0x490008 + k * 256
/-- Object 0x4900+k.09, command: U8, CMD (10 R281). 1 start; 2 stop after the escrow in flight; 3 stop at once, with no further ARM -/
abbrev head_command (k : Nat) : Nat := 0x490009 + k * 256
/-- Object 0x4900+k.0A, last decision: BLOB, RO (10 R281). 48 bytes: step number (8), attempt (1), decision (1: 1 CONFIRM, 2 RECALL, 3 none), basis (1: 1 plane A complete, 2 plane B complete, 3 nak, 4 horizon), -/
abbrev head_lastDecision (k : Nat) : Nat := 0x49000A + k * 256
/-- Object 0x4900+k.0B, confirms: U64, RO (10 R281). Wraps -/
abbrev head_confirms (k : Nat) : Nat := 0x49000B + k * 256
/-- Object 0x4900+k.0C, recalls: U64, RO (10 R281). Wraps -/
abbrev head_recalls (k : Nat) : Nat := 0x49000C + k * 256
/-- Object 0x4900+k.0D, consecutive recalls: U32, RO (10 R281). R277 -/
abbrev head_consecutiveRecalls (k : Nat) : Nat := 0x49000D + k * 256
/-- Object 0x4900+k.0E, no decision: U64, RO (10 R281). Instances ended without a decision; wraps -/
abbrev head_noDecision (k : Nat) : Nat := 0x49000E + k * 256
/-- Object 0x4900+k.0F, leading: U8, RO (10 R281). 1 while this hub leads (R274) -/
abbrev head_leading (k : Nat) : Nat := 0x49000F + k * 256
/-- Object 0x4900+k.10, step in flight: BLOB, RO (10 R281). 16 bytes: step number U64 in [47:0], then fire tick TK, of the last instance confirmed (R277, R296) -/
abbrev head_stepInFlight (k : Nat) : Nat := 0x490010 + k * 256
/-- Object 0x5000.00, local tallies per core: U8, RO (11 R316). R282 -/
abbrev tly_localTalliesPerCore : Nat := 0x500000
/-- Object 0x5000.01, span waits held: U16, RO (11 R316). 0 to 4,096 -/
abbrev tly_spanWaitsHeld : Nat := 0x500001
/-- Object 0x5000.02, ledger conditions held: U16, RO (11 R316). 0 to 4,096 (R303) -/
abbrev tly_ledgerConditionsHeld : Nat := 0x500002
/-- Object 0x5000.03, wait timeouts: U64, RO (11 R316). Causes 0x40 and 0x41; wraps -/
abbrev tly_waitTimeouts : Nat := 0x500003
/-- Object 0x5000.04, misdirected timeouts: U64, RO (11 R316). Cause 0x40 with flag bit 0; wraps -/
abbrev tly_misdirectedTimeouts : Nat := 0x500004
/-- Object 0x5000.05, units discarded: U64, RO (11 R316). R308; wraps -/
abbrev tly_unitsDiscarded : Nat := 0x500005
/-- Object 0x5000.06, orphan credits: U64, RO (11 R316). R310; wraps -/
abbrev tly_orphanCredits : Nat := 0x500006
/-- Object 0x5000.07, requests refused and stale messages: U64, RO (11 R316). R286, R294; wraps -/
abbrev tly_requestsRefusedAndStaleMessages : Nat := 0x500007
/-- Object 0x5040+c.00, translation table: TBL, RW (11 R316). 4,096 × U32 (R289) -/
abbrev tctx_translationTable (c : Nat) : Nat := 0x504000 + c * 256
/-- Object 0x5040+c.01, wait timeout: U32, RWS (11 R316). µs, 1 to 10,000,000 (R307) -/
abbrev tctx_waitTimeout (c : Nat) : Nat := 0x504001 + c * 256
/-- Object 0x5040+c.02, releases: U64, RO (11 R316). Span releases taken; wraps -/
abbrev tctx_releases (c : Nat) : Nat := 0x504002 + c * 256
/-- Object 0x5040+c.03, tainting releases: U64, RO (11 R316). Under R297, R298 and R304; wraps -/
abbrev tctx_taintingReleases (c : Nat) : Nat := 0x504003 + c * 256
/-- Object 0x5100+h.00, host command: BLOB, CMD (11 R316). 32 bytes (R312) -/
abbrev hch_hostCommand (h : Nat) : Nat := 0x510000 + h * 256
/-- Object 0x5100+h.01, host status: U8, RO (11 R316). R312 -/
abbrev hch_hostStatus (h : Nat) : Nat := 0x510001 + h * 256
/-- Object 0x5100+h.02, release stamp: BLOB, RO (11 R316). 24 bytes (R312) -/
abbrev hch_releaseStamp (h : Nat) : Nat := 0x510002 + h * 256
/-- Object 0x5200.00, local select: U64, RW (11 R316). [45:36] region, [25:6] owning core, [5:0] identifier -/
abbrev lsel_localSelect : Nat := 0x520000
/-- Object 0x5200.01, local view: BLOB, RO (11 R316). 256 bytes (R313) -/
abbrev lsel_localView : Nat := 0x520001
/-- Object 0x5201.00, span select: U32, RW (11 R316). [21:16] context, [11:0] virtual identifier -/
abbrev ssel_spanSelect : Nat := 0x520100
/-- Object 0x5201.01, span view: BLOB, RO (11 R316). 256 bytes (R313) -/
abbrev ssel_spanView : Nat := 0x520101
/-- Object 0x5800.00, account table: TBL, RW (11 R316). 4,096 × U32 (R300) -/
abbrev acct_accountTable : Nat := 0x580000
/-- Object 0x5800.01, account select: U16, RW (11 R316). Account 0 to 4,095 -/
abbrev acct_accountSelect : Nat := 0x580001
/-- Object 0x5800.02, account value: U64, RO (11 R316). Value of the selected account -/
abbrev acct_accountValue : Nat := 0x580002
/-- Object 0x5800.03, all accounts: BLOB, RO (11 R316). 32,768 bytes: accounts 0 to 4,095, U64 each -/
abbrev acct_allAccounts : Nat := 0x580003
/-- Object 0x5800.04, reports: U64, RO (11 R316). Reports applied; wraps -/
abbrev acct_reports : Nat := 0x580004
/-- Object 0x5800.05, reports dropped: U64, RO (11 R316). R301; wraps -/
abbrev acct_reportsDropped : Nat := 0x580005
/-- Object 0x5400.00, slot select: U16, RW (11 R317). Physical slot -/
abbrev htly_slotSelect : Nat := 0x540000
/-- Object 0x5400.01, slot configuration: BLOB, RW (11 R317). 32 bytes: owner span U16, context U8, mode U8, flags U8 (bit 0 slotted, bit 1 active), 3 reserved, participants U32, ro U32, rp U32, λ U32, δ U32, 4 reserved. -/
abbrev htly_slotConfiguration : Nat := 0x540001
/-- Object 0x5400.02, slot state: BLOB, RO (11 R317). 64 bytes: step number (8), value U32 (4), highest released use U16 (2), flags U16 (2), arrivals of the open use U32 (4), registered waiters U32 (4), last -/
abbrev htly_slotState : Nat := 0x540002
/-- Object 0x5400.03, waiter list: BLOB, RO (11 R317). Count U32, then up to 8,191 entries of 8 bytes: unit index in [49:0], in ascending order -/
abbrev htly_waiterList : Nat := 0x540003
/-- Object 0x5400.04, slots active: U32, RO (11 R317). 0 to 65,536 -/
abbrev htly_slotsActive : Nat := 0x540004
/-- Object 0x5400.05, waiter entries free: U32, RO (11 R317). R310 -/
abbrev htly_waiterEntriesFree : Nat := 0x540005
/-- Object 0x5400.06, messages dropped: U64, RO (11 R317). R290, R293, R294; wraps -/
abbrev htly_messagesDropped : Nat := 0x540006
/-- Object 0x5400.07, late messages: U64, RO (11 R317). R296, R297; wraps -/
abbrev htly_lateMessages : Nat := 0x540007
/-- Object 0x6000.00, descriptors or engines: U16, RO (12 R351). R318, R334 -/
abbrev clr_descriptorsOrEngines : Nat := 0x600000
/-- Object 0x6000.01, die accumulators: U8, RO (12 R351). R322 -/
abbrev clr_dieAccumulators : Nat := 0x600001
/-- Object 0x6000.02, die accumulators free: U8, RO (12 R351). R322 -/
abbrev clr_dieAccumulatorsFree : Nat := 0x600002
/-- Object 0x6000.03, result banks: U8, RO (12 R351). R346 -/
abbrev clr_resultBanks : Nat := 0x600003
/-- Object 0x6000.04, issues: U64, RO (12 R351). TSU: partials sent or deferred; hub: instances opened; wraps -/
abbrev clr_issues : Nat := 0x600004
/-- Object 0x6000.05, results present: U64, RO (12 R351). TSU: R345; hub: ENDs sent; wraps -/
abbrev clr_resultsPresent : Nat := 0x600005
/-- Object 0x6000.06, contributions refused: U64, RO (12 R351). R321, R323; wraps -/
abbrev clr_contributionsRefused : Nat := 0x600006
/-- Object 0x6000.07, messages dropped: U64, RO (12 R351). R334, R335, R343, R346; wraps -/
abbrev clr_messagesDropped : Nat := 0x600007
/-- Object 0x6000.08, result timeouts: U64, RO (12 R351). R347; wraps -/
abbrev clr_resultTimeouts : Nat := 0x600008
/-- Object 0x6100+d.00, descriptor: BLOB, RW (12 R352). 32 bytes (R318, R319) -/
abbrev dsc_descriptor (d : Nat) : Nat := 0x610000 + d * 256
/-- Object 0x6100+d.01, valid: U8, RO (12 R352). 1 once a write has been accepted -/
abbrev dsc_valid (d : Nat) : Nat := 0x610001 + d * 256
/-- Object 0x6200+16c+h.00, contribute: BLOB, WO (12 R353). 8-byte header and elements (R321) -/
abbrev contrib_contribute (c h : Nat) : Nat := 0x620000 + (16 * c + h) * 256
/-- Object 0x6200+16c+h.01, status: U8, RO (12 R353). Last write: 0 accepted, 1 to 5 refused (R321) -/
abbrev contrib_status (c h : Nat) : Nat := 0x620001 + (16 * c + h) * 256
/-- Object 0x6200+16c+h.02, blocks accepted: U64, RO (12 R353). Wraps -/
abbrev contrib_blocksAccepted (c h : Nat) : Nat := 0x620002 + (16 * c + h) * 256
/-- Object 0x6200+16c+h.03, bound descriptor: U16, RO (12 R353). Descriptor of the bound accumulator; 0xFFFF none -/
abbrev contrib_boundDescriptor (c h : Nat) : Nat := 0x620003 + (16 * c + h) * 256
/-- Object 0x6600+b.00, values: BLOB, RO (12 R354). 32,768 bytes: element k at bytes 8k to 8k + 7 as U64, right-aligned; raw output: element k at bytes 48k to 48k + 47, A (40) then side fields (8) -/
abbrev bank_values (b : Nat) : Nat := 0x660000 + b * 256
/-- Object 0x6600+b.01, census: TBL, RO (12 R354). 4,096 × U64 in the layout of R344; elements without an entry read count 0, die 0xF_FFFF -/
abbrev bank_census (b : Nat) : Nat := 0x660001 + b * 256
/-- Object 0x6600+b.02, info: BLOB, RO (12 R354). 48 bytes: step number (8), context (1), handle (1), descriptor (1), plane of END (1), reserved (4), E (8), present tick (8), contributors U32 (4), census -/
abbrev bank_info (b : Nat) : Nat := 0x660002 + b * 256
/-- Object 0x6600+b.03, state: U8, RO (12 R354). 0 empty, 1 present, 2 present and filling, 3 filling -/
abbrev bank_state (b : Nat) : Nat := 0x660003 + b * 256
/-- Object 0x6800+e.00, configuration: BLOB, RW (12 R355). 40 bytes: owner span U16, context U8, handle U8, flags U8 (bit 0 active), 3 reserved, descriptor (32). A write is refused unless the engine is inactive or the -/
abbrev eng_configuration (e : Nat) : Nat := 0x680000 + e * 256
/-- Object 0x6800+e.01, state: U8, RO (12 R355). 0 inactive, 1 idle, 2 combining, 3 sending results (head) -/
abbrev eng_state (e : Nat) : Nat := 0x680001 + e * 256
/-- Object 0x6800+e.02, instance: BLOB, RO (12 R355). 32 bytes: step bits U32 (4), elements complete U16 (2), elements sent U16 (2), contributors of the last element U32 (4), expected downlinks U32 (4), first -/
abbrev eng_instance (e : Nat) : Nat := 0x680002 + e * 256
/-- Object 0x6800+e.03, completed: U64, RO (12 R355). Instances sent complete; wraps -/
abbrev eng_completed (e : Nat) : Nat := 0x680003 + e * 256
/-- Object 0x6800+e.04, discarded: U64, RO (12 R355). Instances discarded under R334 or R339; wraps -/
abbrev eng_discarded (e : Nat) : Nat := 0x680004 + e * 256
/-- Object 0x7000.00, Strict: U8, RW (13 R381). 0 clear, 1 set (R357) -/
abbrev det_strict : Nat := 0x700000
/-- Object 0x7000.01, input mode: U8, RW (13 R381). 0 live, 1 replay (R377) -/
abbrev det_inputMode : Nat := 0x700001
/-- Object 0x7000.02, Conformance Key: BLOB, RO (13 R381). 32 bytes (R361); first computed at the end of start-up stage 0 (R363) -/
abbrev det_conformanceKey : Nat := 0x700002
/-- Object 0x7000.03, key state: U8, RO (13 R381). 0 current, 1 recomputing (R363) -/
abbrev det_keyState : Nat := 0x700003
/-- Object 0x7000.04, key record: BLOB, RO (13 R381). 640 bytes (R361); first formed at the end of start-up stage 0 (R363) -/
abbrev det_keyRecord : Nat := 0x700004
/-- Object 0x7000.05, engine firmware version: BLOB, RW (13 R381). 16 bytes -/
abbrev det_engineFirmwareVersion : Nat := 0x700005
/-- Object 0x7000.06, core map: BLOB, RW (13 R381). 1 to 65,536 bytes, not interpreted -/
abbrev det_coreMap : Nat := 0x700006
/-- Object 0x7000.07, fuse settings digest: BLOB, RO (13 R381). 32 bytes (R362) -/
abbrev det_fuseSettingsDigest : Nat := 0x700007
/-- Object 0x7000.08, key changes: U64, RO (13 R381). Wraps -/
abbrev det_keyChanges : Nat := 0x700008
/-- Object 0x7000.09, journal context: U8, RW (13 R381). Reference context for die-wide records (R372) -/
abbrev det_journalContext : Nat := 0x700009
/-- Object 0x7000.0A, records journaled: U64, RO (13 R381). Wraps -/
abbrev det_recordsJournaled : Nat := 0x70000A
/-- Object 0x7000.0B, records lost: U64, RO (13 R381). R374; wraps -/
abbrev det_recordsLost : Nat := 0x70000B
/-- Object 0x7000.0C, records pending: U16, RO (13 R381). 0 to 256 -/
abbrev det_recordsPending : Nat := 0x70000C
/-- Object 0x7000.0D, replay records applied: U64, RO (13 R381). Wraps -/
abbrev det_replayRecordsApplied : Nat := 0x70000D
/-- Object 0x7000.0E, inputs suppressed: U64, RO (13 R381). R377; wraps -/
abbrev det_inputsSuppressed : Nat := 0x70000E
/-- Object 0x7000.0F, region map: BLOB, RO (13 R381). 128 bytes; bit r in byte r/8, bit r mod 8 (R362) -/
abbrev det_regionMap : Nat := 0x70000F
/-- Object 0x7080+c.00, seed: BLOB, RW (13 R381). 32 bytes; held for the host and its engines (R371) -/
abbrev seed_seed (c : Nat) : Nat := 0x708000 + c * 256
/-- Object 0x7020+t.00, program digest: BLOB, RO (13 R381). 32 bytes (R362) -/
abbrev prog_programDigest (t : Nat) : Nat := 0x702000 + t * 256
/-- Object 0x7040+c.00, tag record: BLOB, RO (13 R381). 192 bytes: preimage (144), full tag (32), short tag (8), taint reasons U16 (2), status U8 (1: bit 0 complete, 1 late, 2 aborted, 3 audit form), reserved (5) -/
abbrev tag_tagRecord (c : Nat) : Nat := 0x704000 + c * 256
/-- Object 0x7040+c.01, tag history: TBL, RO (13 R381). 64 × 16 bytes: step number U64, short tag U64; step s at entry s mod 64 -/
abbrev tag_tagHistory (c : Nat) : Nat := 0x704001 + c * 256
/-- Object 0x7040+c.02, taint reasons: U16, RO (13 R381). Step in flight (R360) -/
abbrev tag_taintReasons (c : Nat) : Nat := 0x704002 + c * 256
/-- Object 0x7040+c.03, tainted steps: U64, RO (13 R381). Wraps -/
abbrev tag_taintedSteps (c : Nat) : Nat := 0x704003 + c * 256
/-- Object 0x7100.00, manifest: TBL, RW (13 R381). 4,096 × 16 bytes (R364) -/
abbrev mint_manifest : Nat := 0x710000
/-- Object 0x7100.01, segments accepted: U64, RO (13 R381). Wraps -/
abbrev mint_segmentsAccepted : Nat := 0x710001
/-- Object 0x7100.02, bytes hashed: U64, RO (13 R381). Wraps -/
abbrev mint_bytesHashed : Nat := 0x710002
/-- Object 0x7100.03, segments refused: U64, RO (13 R381). R365; wraps -/
abbrev mint_segmentsRefused : Nat := 0x710003
/-- Object 0x7100.04, chaining values pending: U16, RO (13 R381). 0 to 16,384 (R366) -/
abbrev mint_chainingValuesPending : Nat := 0x710004
/-- Object 0x7001.00, Strict spans: BLOB, RW (13 R382). 8,192 bytes; bit s = span s under Strict (R357) -/
abbrev strict_strictSpans : Nat := 0x700100
/-- Object 0x7200.00, journal slots: U32, RO (13 R382). R375 -/
abbrev jrnl_journalSlots : Nat := 0x720000
/-- Object 0x7200.01, slots free: U32, RO (13 R382). Slots not yet written -/
abbrev jrnl_slotsFree : Nat := 0x720001
/-- Object 0x7200.02, read select: BLOB, RW (13 R382). 16 bytes: span U16, reserved (2), epoch U32, slot position within the instance U64 -/
abbrev jrnl_readSelect : Nat := 0x720002
/-- Object 0x7200.03, read window: BLOB, RO (13 R382). 8,192 bytes: 64 slots from the selected position -/
abbrev jrnl_readWindow : Nat := 0x720003
/-- Object 0x7200.04, pin list: TBL, RWS (13 R382). 16 × U64: [63] valid, [62:48] reserved, [47:32] span, [31:0] epoch -/
abbrev jrnl_pinList : Nat := 0x720004
/-- Object 0x7200.05, records stored: U64, RO (13 R382). Wraps -/
abbrev jrnl_recordsStored : Nat := 0x720005
/-- Object 0x7200.06, duplicates: U64, RO (13 R382). Later copies of a stored record; wraps -/
abbrev jrnl_duplicates : Nat := 0x720006
/-- Object 0x7200.07, damaged slots: U64, RO (13 R382). R375; wraps -/
abbrev jrnl_damagedSlots : Nat := 0x720007
/-- Object 0x7201.00, replay source: U64, RW (13 R382). [47:32] span, [31:0] epoch -/
abbrev rpl_replaySource : Nat := 0x720100
/-- Object 0x7201.01, replay first step: U64, RW (13 R382). [47:0] -/
abbrev rpl_replayFirstStep : Nat := 0x720101
/-- Object 0x7201.02, replay command: U8, CMD (13 R382). 1 start, 0 stop -/
abbrev rpl_replayCommand : Nat := 0x720102
/-- Object 0x7201.03, replay state: U8, RO (13 R382). 0 off, 1 running, 2 source exhausted, 3 stopped -/
abbrev rpl_replayState : Nat := 0x720103
/-- Object 0x7201.04, divergences: U64, RO (13 R382). Cause 0x6A records; wraps -/
abbrev rpl_divergences : Nat := 0x720104
/-- Object 0x7201.05, first divergence: BLOB, RO (13 R382). 16 bytes: step number (8), context (1), downlink (1), reserved (6) -/
abbrev rpl_firstDivergence : Nat := 0x720105
/-- Object 0x8000.00, records held: U16, RO (14 R406). 0 to 256 (TSU), 0 to 4,096 (hub) -/
abbrev flt_recordsHeld : Nat := 0x800000
/-- Object 0x8000.01, record: BLOB, RO (14 R406). 32 bytes (R383); a read removes the oldest; a read of an empty log returns 32 zero bytes (R385) -/
abbrev flt_record : Nat := 0x800001
/-- Object 0x8000.02, records made: U64, RO (14 R406). Including records dropped under R385; wraps -/
abbrev flt_recordsMade : Nat := 0x800002
/-- Object 0x8000.03, records dropped: U64, RO (14 R406). R385; wraps -/
abbrev flt_recordsDropped : Nat := 0x800003
/-- Object 0x8000.04, first record: BLOB, RO (14 R406). 32 bytes; first since the last clear -/
abbrev flt_firstRecord : Nat := 0x800004
/-- Object 0x8000.05, clear first: U8, CMD (14 R406). 1 clears object 0x8000.04 -/
abbrev flt_clearFirst : Nat := 0x800005
/-- Object 0x8000.06, interrupt mask: BLOB, RWS (14 R406). 32 bytes; bit n: cause n asserts "fault record" -/
abbrev flt_interruptMask : Nat := 0x800006
/-- Object 0x8000.07, waves originated: U64, RO (14 R406). Wraps -/
abbrev flt_wavesOriginated : Nat := 0x800007
/-- Object 0x8000.08, waves received: U64, RO (14 R406). First copies; wraps -/
abbrev flt_wavesReceived : Nat := 0x800008
/-- Object 0x8000.09, waves ignored: U64, RO (14 R406). R387; wraps -/
abbrev flt_wavesIgnored : Nat := 0x800009
/-- Object 0x8000.0A, last wave: BLOB, RO (14 R406). 24 bytes: TB1 of receipt (8), fault slot [83:0] right-aligned (11), port (1), reserved (4) -/
abbrev flt_lastWave : Nat := 0x80000A
/-- Object 0x8000.0B, settling: U64, RO (14 R406). TSU: bit c = context c settling (R389); hub reads 0 -/
abbrev flt_settling : Nat := 0x80000B
/-- Object 0x8000.0C, firmware watch: U16, RWS (14 R406). Hub: ms, 10 to 10,000 (R404); TSU reads 0, writes refused -/
abbrev flt_firmwareWatch : Nat := 0x80000C
/-- Object 0x8001.00, cause counts: TBL, RO (14 R406). 256 × U32, entry n = detections of cause n; wraps -/
abbrev cause_causeCounts : Nat := 0x800100
/-- Object 0x8400+r.00, ladder state: U8, RO (14 R407). 0 disarmed, 1 watching, 2 resetting, 3 isolated, 4 power cycling, 5 lost -/
abbrev watch_ladderState (r : Nat) : Nat := 0x840000 + r * 256
/-- Object 0x8400+r.01, heartbeat window: U16, RWS (14 R407). µs, 1 to 1,000 (R393) -/
abbrev watch_heartbeatWindow (r : Nat) : Nat := 0x840001 + r * 256
/-- Object 0x8400+r.02, reset target: U16, RWS (14 R407). µs, 1 to 1,000 (R395) -/
abbrev watch_resetTarget (r : Nat) : Nat := 0x840002 + r * 256
/-- Object 0x8400+r.03, reset limit: U16, RWS (14 R407). µs, 5 to 1,000; refused if below the reset target -/
abbrev watch_resetLimit (r : Nat) : Nat := 0x840003 + r * 256
/-- Object 0x8400+r.04, power cycle limit: U32, RWS (14 R407). µs, 100 to 100,000 (R397) -/
abbrev watch_powerCycleLimit (r : Nat) : Nat := 0x840004 + r * 256
/-- Object 0x8400+r.05, cycle budget: U8, RWS (14 R407). Power cycles per rolling hour, 1 to 16 -/
abbrev watch_cycleBudget (r : Nat) : Nat := 0x840005 + r * 256
/-- Object 0x8400+r.06, cluster map: TBL, RWS (14 R407). 64 × U8; entry c = clusters of context c (R396) -/
abbrev watch_clusterMap (r : Nat) : Nat := 0x840006 + r * 256
/-- Object 0x8400+r.07, hold: U8, RWS (14 R407). 1 holds the ladder at rung 2 -/
abbrev watch_hold (r : Nat) : Nat := 0x840007 + r * 256
/-- Object 0x8400+r.08, last heartbeat: TK, RO (14 R407). Tick of the last heartbeat -/
abbrev watch_lastHeartbeat (r : Nat) : Nat := 0x840008 + r * 256
/-- Object 0x8400+r.09, heartbeat information: U32, RO (14 R407). Last ra_hb_info (R392) -/
abbrev watch_heartbeatInformation (r : Nat) : Nat := 0x840009 + r * 256
/-- Object 0x8400+r.0A, counters: BLOB, RO (14 R407). 56 bytes, U64 each, wrapping: misses, resets, slow resets, isolations, power cycles, losses, reserved-kind heartbeats -/
abbrev watch_counters (r : Nat) : Nat := 0x84000A + r * 256
/-- Object 0x8400+r.0B, command: U8, CMD (14 R407). 1 power cycle now, 2 restore from LOST, 3 release hold, 4 declare LOST -/
abbrev watch_command (r : Nat) : Nat := 0x84000B + r * 256
/-- Object 0x8400+r.0C, last ladder: BLOB, RO (14 R407). 48 bytes: trigger cause (1), context (1), reserved (6), detection tick (8), reset request tick (8), isolation tick (8), power cycle start (8), end tick (8) -/
abbrev watch_lastLadder (r : Nat) : Nat := 0x84000C + r * 256
/-- Object 0x30B0+p.00, lane span entry: U64, RW (15 R436). TSU: [47:32] span, [31:0] epoch; written by relay only (R412) -/
abbrev lane_laneSpanEntry (p : Nat) : Nat := 0x30B000 + p * 256
/-- Object 0xA000.00, census number: U32, RO (15 R436). TSU, hub -/
abbrev cen_censusNumber : Nat := 0xA00000
/-- Object 0xA000.01, latch tick: TK, RO (15 R436). TSU, hub -/
abbrev cen_latchTick : Nat := 0xA00001
/-- Object 0xA000.02, latched mask: U16, RO (15 R436). TSU, hub -/
abbrev cen_latchedMask : Nat := 0xA00002
/-- Object 0xA000.03, census flags: U8, RO (15 R436). Bit 0 span census, 1 step census, 2 Agents latched, 3 Agents missed -/
abbrev cen_censusFlags : Nat := 0xA00003
/-- Object 0xA000.04, latches: U64, RO (15 R436). Wraps -/
abbrev cen_latches : Nat := 0xA00004
/-- Object 0xA000.05, LATCHes missed: U64, RO (15 R436). R432; wraps -/
abbrev cen_lATCHesMissed : Nat := 0xA00005
/-- Object 0xA020+n.00, source: U16, RWS (15 R436). R430; TSU, hub -/
abbrev ecnt_source (n : Nat) : Nat := 0xA02000 + n * 256
/-- Object 0xA020+n.01, value: U64, RO (15 R436). [47:0] -/
abbrev ecnt_value (n : Nat) : Nat := 0xA02001 + n * 256
/-- Object 0xA020+n.02, shadow: U64, RO (15 R436). [47:0] -/
abbrev ecnt_shadow (n : Nat) : Nat := 0xA02002 + n * 256
/-- Object 0xA100.00, temperature band: U8, RW (15 R436). 0 to 7 (R424) -/
abbrev aud_temperatureBand : Nat := 0xA10000
/-- Object 0xA100.01, load classes: TBL, RW (15 R436). 16 × U8, one per slot -/
abbrev aud_loadClasses : Nat := 0xA10001
/-- Object 0xA100.02, fence mask: BLOB, RW (15 R436). 16 bytes; written by relay only (R426) -/
abbrev aud_fenceMask : Nat := 0xA10002
/-- Object 0xA100.03, audits passed: U64, RO (15 R436). Wraps -/
abbrev aud_auditsPassed : Nat := 0xA10003
/-- Object 0xA100.04, audit mismatches: U64, RO (15 R436). Wraps -/
abbrev aud_auditMismatches : Nat := 0xA10004
/-- Object 0xA100.05, last audit: BLOB, RO (15 R436). 32 bytes: step (8), context, band, class, result (1 each), reserved (4), expected (8), actual (8) -/
abbrev aud_lastAudit : Nat := 0xA10005
/-- Object 0xA400+r.00, Agent sources: TBL, RWS (15 R436). 8 × U16 -/
abbrev agc_agentSources (r : Nat) : Nat := 0xA40000 + r * 256
/-- Object 0xA400+r.01, Agent values: BLOB, RO (15 R436). 8 × U64 -/
abbrev agc_agentValues (r : Nat) : Nat := 0xA40001 + r * 256
/-- Object 0xA400+r.02, Agent shadows: BLOB, RO (15 R436). 96 bytes: 8 event counters, then sets 2 in object order -/
abbrev agc_agentShadows (r : Nat) : Nat := 0xA40002 + r * 256
/-- Object 0xA010.00, census command: BLOB, CMD (15 R437). 24 bytes: span (2), mask (2), number (4), T (8), reserved (8) -/
abbrev cenCmd_censusCommand : Nat := 0xA01000
/-- Object 0xC000.00, list entries held: U16, RO (15 R437). 0 to 4,096 -/
abbrev lst_listEntriesHeld : Nat := 0xC00000
/-- Object 0xC000.01, conflicts: U64, RO (15 R437). Cause 0x90; wraps -/
abbrev lst_conflicts : Nat := 0xC00001
/-- Object 0xC001.00, hall epoch: U32, RW (15 R437). Keystone: the counter, stored in configuration flash; writes refused. Pier and Arch: the copy of R415; only relayed writes from the Keystone of the hub's plane -/
abbrev epo_hallEpoch : Nat := 0xC00100
/-- Object 0xC001.01, epoch command: BLOB, CMD (15 R437). 16 bytes: op, status (0 none, 1 done, 2 refused), span (2), epoch (4), result (4), reserved (4) -/
abbrev epo_epochCommand : Nat := 0xC00101
/-- Object 0xC100.00, span list: TBL, RO (15 R437). 4,096 × 16 bytes (R409) -/
abbrev spn_spanList : Nat := 0xC10000
/-- Object 0xC100.01, span command: BLOB, CMD (15 R437). 20 bytes: op (1), reserved (3), entry (16) -/
abbrev spn_spanCommand : Nat := 0xC10001
/-- Object 0xC200+p.00, port state: U8, RO (15 R437). 0 FREE, 1 OWNED, 2 QUARANTINE -/
abbrev prt_portState (p : Nat) : Nat := 0xC20000 + p * 256
/-- Object 0xC200+p.01, owner: U64, RO (15 R437). [47:32] span, [31:0] epoch -/
abbrev prt_owner (p : Nat) : Nat := 0xC20001 + p * 256
/-- Object 0xC200+p.02, release epoch: U32, RO (15 R437). r -/
abbrev prt_releaseEpoch (p : Nat) : Nat := 0xC20002 + p * 256
/-- Object 0xC200+p.03, lane entry written: U8, RO (15 R437). R412 -/
abbrev prt_laneEntryWritten (p : Nat) : Nat := 0xC20003 + p * 256
/-- Object 0xC200+p.04, port command: BLOB, CMD (15 R437). 16 bytes: op U8, reserved (1), span (2), epoch (4), r or h (4), reserved (4) -/
abbrev prt_portCommand (p : Nat) : Nat := 0xC20004 + p * 256
/-- Object 0xC300+p.00, health state: U8, RO (15 R437). As TWIN HEALTH -/
abbrev hlt_healthState (p : Nat) : Nat := 0xC30000 + p * 256
/-- Object 0xC300+p.01, score: U16, RO (15 R437). R419 -/
abbrev hlt_score (p : Nat) : Nat := 0xC30001 + p * 256
/-- Object 0xC300+p.02, penalty: U32, RO (15 R437). P -/
abbrev hlt_penalty (p : Nat) : Nat := 0xC30002 + p * 256
/-- Object 0xC300+p.03, health flags: U8, RO (15 R437). Bit 0 probation, 1 EXPEL outstanding, 2 refused, 3 leader -/
abbrev hlt_healthFlags (p : Nat) : Nat := 0xC30003 + p * 256
/-- Object 0xC300+p.04, fence mask: BLOB, RO (15 R437). 16 bytes; bit 16 × band + class -/
abbrev hlt_fenceMask (p : Nat) : Nat := 0xC30004 + p * 256
/-- Object 0xC300+p.05, audit matrix: BLOB, RO (15 R437). 128 × (passes U16, fails U16) -/
abbrev hlt_auditMatrix (p : Nat) : Nat := 0xC30005 + p * 256
/-- Object 0xC300+p.06, last report: BLOB, RO (15 R437). 16 bytes: interval end (8), REPORT [55:0] (7), reserved (1) -/
abbrev hlt_lastReport (p : Nat) : Nat := 0xC30006 + p * 256
/-- Object 0xC300+p.07, shadow port: U8, RW (15 R437). R428; 0xFF none -/
abbrev hlt_shadowPort (p : Nat) : Nat := 0xC30007 + p * 256
/-- Object 0xC300+p.08, health command: U8, CMD (15 R437). 1 reinstate, 2 clear fences, 3 clear matrix -/
abbrev hlt_healthCommand (p : Nat) : Nat := 0xC30008 + p * 256
/-- Object 0xC300+p.09, reports missing: U64, RO (15 R437). Wraps -/
abbrev hlt_reportsMissing (p : Nat) : Nat := 0xC30009 + p * 256
/-- Object 0xC400.00, w_link: U32, RWS (15 R437). Per uncorrectable frame -/
abbrev hwt_wLink : Nat := 0xC40000
/-- Object 0xC400.01, w_miss: U32, RWS (15 R437). Per late step -/
abbrev hwt_wMiss : Nat := 0xC40001
/-- Object 0xC400.02, w_audit: U32, RWS (15 R437). Per counted mismatch -/
abbrev hwt_wAudit : Nat := 0xC40002
/-- Object 0xC400.03, w_str: U32, RWS (15 R437). Per 1,024 excess stretches -/
abbrev hwt_wStr : Nat := 0xC40003
/-- Object 0xC400.04, w_mar: U32, RWS (15 R437). Per margin episode -/
abbrev hwt_wMar : Nat := 0xC40004
/-- Object 0xC400.05, stretch baseline: U32, RWS (15 R437). Per interval -/
abbrev hwt_stretchBaseline : Nat := 0xC40005
/-- Object 0xC400.06, decay shift: U8, RWS (15 R437). s, 4 to 24 -/
abbrev hwt_decayShift : Nat := 0xC40006
/-- Object 0xC400.07, probation threshold: U16, RWS (15 R437). Score -/
abbrev hwt_probationThreshold : Nat := 0xC40007
/-- Object 0xC400.08, expulsion threshold: U16, RWS (15 R437). Score; refused if above the probation threshold -/
abbrev hwt_expulsionThreshold : Nat := 0xC40008
/-- Object 0xC400.09, fence count: U16, RWS (15 R437). R426 -/
abbrev hwt_fenceCount : Nat := 0xC40009
/-- Object 0xC400.0A, fence ratio: U8, RWS (15 R437). %, 1 to 100 -/
abbrev hwt_fenceRatio : Nat := 0xC4000A
/-- Object 0xC400.0B, request interval: U16, RWS (15 R437). Health intervals between EXPELs -/
abbrev hwt_requestInterval : Nat := 0xC4000B
/-- Object 0xC500.00, expulsion budget: U8, RWS (15 R437). Per span, 1 to 16 -/
abbrev bud_expulsionBudget : Nat := 0xC50000
/-- Object 0xC500.01, budget window: U64, RWS (15 R437). Ticks -/
abbrev bud_budgetWindow : Nat := 0xC50001
/-- Object 0xC500.02, budget select: U16, RW (15 R437). Span -/
abbrev bud_budgetSelect : Nat := 0xC50002
/-- Object 0xC500.03, grants: BLOB, RO (15 R437). Count U8, reserved (7), 16 × TK grant ticks of the selected span -/
abbrev bud_grants : Nat := 0xC50003
/-- Object 0xC500.04, refusals: U64, RO (15 R437). Cause 0x94; wraps -/
abbrev bud_refusals : Nat := 0xC50004
/-- Object 0x1000.00, node kind: U8, RO (16 R469). 1 TSU Full, 2 TSU Edge, 3 hub, as in HELLO (R66) -/
abbrev idn_nodeKind : Nat := 0x100000
/-- Object 0x1000.01, generation: U8, RO (16 R469). Architecture generation (R22) -/
abbrev idn_generation : Nat := 0x100001
/-- Object 0x1000.02, version: U32, RO (16 R469). [23:16] major, [15:8] minor, [7:0] patch: TSU IP, or hub firmware with patch 0 (R2) -/
abbrev idn_version : Nat := 0x100002
/-- Object 0x1000.03, features: U64, RO (16 R469). The feature map of object 0x3000.01 -/
abbrev idn_features : Nat := 0x100003
/-- Object 0x1000.04, capabilities: U64, RO (16 R469). Bit 0 first-only and last-only flags; 1 NANCNT_GE; 2 outcome revision (R389); 3 shadow-port comparison (R428); [63:4] reserved -/
abbrev idn_capabilities : Nat := 0x100004
/-- Object 0x1000.05, limits: BLOB, RO (16 R469). 16 bytes: Region Agents U16, Viaducts U16, contexts, table slots, die accumulators, deferred accumulators, result banks, time bases, event counters, host -/
abbrev idn_limits : Nat := 0x100005
/-- Object 0x1000.06, identity: U32, RO (16 R469). [19:0] die number or hub identity; 0xF_FFFF before one is known -/
abbrev idn_identity : Nat := 0x100006
/-- Object 0x1000.07, unique number: U64, RO (16 R469). TSU: from the fuse port; hub: module serial number -/
abbrev idn_uniqueNumber : Nat := 0x100007
/-- Object 0x1000.08, stepping: U16, RO (16 R469). Product stepping -/
abbrev idn_stepping : Nat := 0x100008
/-- Object 0x1000.09, integrator: U32, RO (16 R469). Licensee code (TSU); 0 on a hub -/
abbrev idn_integrator : Nat := 0x100009
/-- Object 0x1800.00, interrupt routing: TBL, RWS (16 R470). 512 × U8: [7] enable, [6:3] reserved, [2:0] line (R467) -/
abbrev irq_interruptRouting : Nat := 0x180000
/-- Object 0x1800.01, pending: BLOB, RO (16 R470). 64 bytes; bit s = source s pending -/
abbrev irq_pending : Nat := 0x180001
/-- Object 0x1800.02, acknowledge: BLOB, WO (16 R470). 64 bytes; 1 bits clear event sources (R467) -/
abbrev irq_acknowledge : Nat := 0x180002
/-- Object 0x1800.03, lines: U8, RO (16 R470). Bit l = tsu_irq[l] high -/
abbrev irq_lines : Nat := 0x180003
/-- Object 0x1801.00, route: U8, RO (16 R470). Route of this read: 0 register port, 1 relay, 2 GOA on MGT0, 3 GOA on MGT1 -/
abbrev acc_route : Nat := 0x180100
/-- Object 0x1801.01, register port status: U8, RO (16 R470). Status of the last register-port access (TSU) -/
abbrev acc_registerPortStatus : Nat := 0x180101
/-- Object 0x1801.02, relay status: U8, RO (16 R470). Status of the last relayed access served -/
abbrev acc_relayStatus : Nat := 0x180102
/-- Object 0x1801.03, accesses refused: U64, RO (16 R470). Accesses ending with status 0x1 to 0x4 or 0xA; wraps -/
abbrev acc_accessesRefused : Nat := 0x180103
/-- Object 0x1801.04, transfers abandoned: U64, RO (16 R470). R442; wraps -/
abbrev acc_transfersAbandoned : Nat := 0x180104
/-- Object 0x1801.05, relay dropped: U64, RO (16 R470). R449; wraps -/
abbrev acc_relayDropped : Nat := 0x180105
/-- Object 0x1100+f.00, function state: U8, RO (16 R471). 0 ENABLED, 1 DRAINING, 2 DISABLED -/
abbrev fn_functionState (f : Nat) : Nat := 0x110000 + f * 256
/-- Object 0x1100+f.01, enable: U8, RWS (16 R471). 1 enable, 0 disable (R460) -/
abbrev fn_enable (f : Nat) : Nat := 0x110001 + f * 256
/-- Object 0x1100+f.02, drain timeout: U32, RWS (16 R471). ms, 1 to 600,000 -/
abbrev fn_drainTimeout (f : Nat) : Nat := 0x110002 + f * 256
/-- Object 0x1100+f.03, drain start: TK, RO (16 R471). Tick on which the last disable took effect -/
abbrev fn_drainStart (f : Nat) : Nat := 0x110003 + f * 256
/-- Object 0x1100+f.04, in flight: U32, RO (16 R471). Operations holding the function in DRAINING -/
abbrev fn_inFlight (f : Nat) : Nat := 0x110004 + f * 256
/-- Object 0x1100+f.05, retired: U64, RO (16 R471). R464; wraps -/
abbrev fn_retired (f : Nat) : Nat := 0x110005 + f * 256
/-- Object 0x1100+f.06, refused: U64, RO (16 R471). Status 0x6 answers; wraps -/
abbrev fn_refused (f : Nat) : Nat := 0x110006 + f * 256
/-- Object 0x1900+o.00, operator: BLOB, RWS (16 R472). 8 bytes: valid U8, role U8 (R455), 6 reserved -/
abbrev opr_operator (o : Nat) : Nat := 0x190000 + o * 256
/-- Object 0x1900+o.01, key: BLOB, WO (16 R472). 32 bytes; stored in configuration flash; never readable -/
abbrev opr_key (o : Nat) : Nat := 0x190001 + o * 256
/-- Object 0x1900+o.02, highest sequence: U64, RO (16 R472). H (R456) -/
abbrev opr_highestSequence (o : Nat) : Nat := 0x190002 + o * 256
/-- Object 0x1900+o.03, requests accepted: U64, RO (16 R472). Wraps -/
abbrev opr_requestsAccepted (o : Nat) : Nat := 0x190003 + o * 256
/-- Object 0x1900+o.04, authentication failures: U64, RO (16 R472). R454; wraps -/
abbrev opr_authenticationFailures (o : Nat) : Nat := 0x190004 + o * 256
/-- Object 0x1900+o.05, stale requests: U64, RO (16 R472). R456; wraps -/
abbrev opr_staleRequests (o : Nat) : Nat := 0x190005 + o * 256
/-- Object 0x1910.00, GOA port: U16, RWS (16 R472). UDP port, 1,024 to 65,535 -/
abbrev goa_goaPort : Nat := 0x191000
/-- Object 0x1910.01, address MGT0: BLOB, RWS (16 R472). 16 bytes, IPv6; 0 = link-local only -/
abbrev goa_addressMGT0 : Nat := 0x191001
/-- Object 0x1910.02, address MGT1: BLOB, RWS (16 R472). As for MGT0 -/
abbrev goa_addressMGT1 : Nat := 0x191002
/-- Object 0x1910.03, responses cached: U8, RO (16 R472). Per operator (R456) -/
abbrev goa_responsesCached : Nat := 0x191003
/-- Object 0x9000+r.00, region state: U8, RO (17 R504). R476 -/
abbrev reg_regionState (r : Nat) : Nat := 0x900000 + r * 256
/-- Object 0x9000+r.01, request: U8, CMD (17 R504). 0 ACTIVE, 1 DOZE, 2 RETAIN, 3 OFF, 4 fence, 5 forced fence, 6 unfence -/
abbrev reg_request (r : Nat) : Nat := 0x900001 + r * 256
/-- Object 0x9000+r.02, answer: U8, RO (17 R504). 0 granted, 1 to 9 (R477, R479), 10 pending -/
abbrev reg_answer (r : Nat) : Nat := 0x900002 + r * 256
/-- Object 0x9000+r.03, delay limit: U32, RWS (17 R504). Ticks, 64 to 15,625,000 -/
abbrev reg_delayLimit (r : Nat) : Nat := 0x900003 + r * 256
/-- Object 0x9000+r.04, auto-wake: U8, RWS (17 R504). R482 -/
abbrev reg_autoWake (r : Nat) : Nat := 0x900004 + r * 256
/-- Object 0x9000+r.05, stage limits: BLOB, RWS (17 R504). 16 bytes: 4 × U32, µs (R483) -/
abbrev reg_stageLimits (r : Nat) : Nat := 0x900005 + r * 256
/-- Object 0x9000+r.06, power-good fall limit: U32, RWS (17 R504). µs, 10 to 10,000 -/
abbrev reg_powerGoodFallLimit (r : Nat) : Nat := 0x900006 + r * 256
/-- Object 0x9000+r.07, handshake limit: U16, RWS (17 R504). Ticks, 16 to 1,563 -/
abbrev reg_handshakeLimit (r : Nat) : Nat := 0x900007 + r * 256
/-- Object 0x9000+r.08, counters: BLOB, RO (17 R504). 40 bytes, U64 each, wrapping: grants, refusals, delays expired, wakes, stage timeouts -/
abbrev reg_counters (r : Nat) : Nat := 0x900008 + r * 256
/-- Object 0x9000+r.09, last transition: BLOB, RO (17 R504). 16 bytes: from U8, to U8, answer U8, reserved (5), tick TK -/
abbrev reg_lastTransition (r : Nat) : Nat := 0x900009 + r * 256
/-- Object 0x9400.00, start-up state: U8, RO (17 R505). R491; 4 unconfigured (R493) -/
abbrev su_startUpState : Nat := 0x940000
/-- Object 0x9400.01, start-up record: BLOB, RO (17 R505). 32 bytes: TB1 at the end of states 0 to 3, TK each -/
abbrev su_startUpRecord : Nat := 0x940001
/-- Object 0x9400.02, image header: BLOB, RO (17 R505). 64 bytes (R492) -/
abbrev su_imageHeader : Nat := 0x940002
/-- Object 0x9400.03, start-up command: U8, CMD (17 R505). 1 fetch the configuration again; refused unless state is 4 -/
abbrev su_startUpCommand : Nat := 0x940003
/-- Object 0x9400.04, telemetry: BLOB, RO (17 R505). 16 bytes: always-on supply mV U16, Vault supply mV U16, core temperature I16 in 1/16 °C, reserved (10) -/
abbrev su_telemetry : Nat := 0x940004
/-- Object 0x9500.00, Vault state: U8, RO (17 R505). R487 -/
abbrev vlt_vaultState : Nat := 0x950000
/-- Object 0x9500.01, Vault bytes used: U32, RO (17 R505). Record area -/
abbrev vlt_vaultBytesUsed : Nat := 0x950001
/-- Object 0x9500.02, Vault image: BLOB, RO (17 R505). 65,536 bytes: header and records -/
abbrev vlt_vaultImage : Nat := 0x950002
/-- Object 0x9500.03, saves: U64, RO (17 R505). Wraps -/
abbrev vlt_saves : Nat := 0x950003
/-- Object 0x9500.04, restores: U64, RO (17 R505). Wraps -/
abbrev vlt_restores : Nat := 0x950004
/-- Object 0x9800.01, power command: U8, CMD (17 R506). 1 SENTINEL, 2 OFF (R494) -/
abbrev pwr_powerCommand : Nat := 0x980001
/-- Object 0x9800.02, sentinel interval: U16, RWS (17 R506). ms, 1 to 1,000 -/
abbrev pwr_sentinelInterval : Nat := 0x980002
/-- Object 0x9800.03, sentinel port: U8, RWS (17 R506). Port (R67) -/
abbrev pwr_sentinelPort : Nat := 0x980003
/-- Object 0x9800.04, wake enables: BLOB, RWS (17 R506). 68 bytes; byte p = enable of port p after a wake -/
abbrev pwr_wakeEnables : Nat := 0x980004
/-- Object 0x9800.05, sentinel record: BLOB, RO (17 R506). 32 bytes: visits U32, misses U32, last θ I64 in time units, last visit TK, wake cause U8 (1 signal, 2 wake pattern, 3 housekeeping), wake port U8, steps U16, -/
abbrev pwr_sentinelRecord : Nat := 0x980005
/-- Object 0x9800.06, sentinel delay: I64, RO (17 R506). d, time units (R495) -/
abbrev pwr_sentinelDelay : Nat := 0x980006
/-- Object 0x9880+p.00, sentinel service: U8, RWS (17 R506). R497 -/
abbrev sent_sentinelService (p : Nat) : Nat := 0x988000 + p * 256
/-- Object 0x9900.00, start-up state: U8, RO (17 R506). R499 -/
abbrev fw_startUpState : Nat := 0x990000
/-- Object 0x9900.02, segment select: U16, RW (17 R506). Firmware segment number -/
abbrev fw_segmentSelect : Nat := 0x990002
/-- Object 0x9900.03, segment: BLOB, WO (17 R506). 65,536 bytes -/
abbrev fw_segment : Nat := 0x990003
/-- Object 0x9900.04, update command: BLOB, CMD (17 R506). 40 bytes: op U8 (1 begin, 2 commit, 3 abandon), reserved (3), length U32, digest (32) -/
abbrev fw_updateCommand : Nat := 0x990004
/-- Object 0x9900.05, update state: U8, RO (17 R506). 0 idle, 1 receiving, 2 writing, 3 check failed -/
abbrev fw_updateState : Nat := 0x990005
/-- Object 0x9A00.00, erase counts: TBL, RO (17 R506). 1,024 × U32, one per sector -/
abbrev fla_eraseCounts : Nat := 0x9A0000
/-- Object 0x9A00.01, highest count: U32, RO (17 R506). — -/
abbrev fla_highestCount : Nat := 0x9A0001
/-- Object 0x9A00.02, warning level: U32, RWS (17 R506). Erases -/
abbrev fla_warningLevel : Nat := 0x9A0002
/-- Object 0x9A00.03, wear flag: U8, RO (17 R506). R502 -/
abbrev fla_wearFlag : Nat := 0x9A0003
/-- Object 0x9A00.04, writes deferred: U32, RO (17 R506). RWS values waiting for flash -/
abbrev fla_writesDeferred : Nat := 0x9A0004
/-- Object 0x9B00.00, telemetry: BLOB, RO (17 R506). 32 bytes: die temperature I16 in 1/16 °C, input mV U32, input mA U32, chip mW U32, highest optics temperature I16 in 1/16 °C, reserved (16) -/
abbrev tel_telemetry : Nat := 0x9B0000
/-- Object 0x9C00.00, module identity: BLOB, RO (18 R537). 16 bytes: serial number U64, hardware revision U8 (1 for A), bay slot U8 (0 plane A, 1 plane B, 0xFF no bay), reserved (6) -/
abbrev mdl_moduleIdentity : Nat := 0x9C0000
/-- Object 0x9C00.01, output path constants: BLOB, RO (18 R537). 24 bytes: 6 × I32 in time units, for PPSOUT0 to PPSOUT3, FOUT0 and FOUT1 -/
abbrev mdl_outputPathConstants : Nat := 0x9C0001
/-- Object 0x9C00.02, input path constants: BLOB, RO (18 R537). 32 bytes: 8 × I32 in time units, for REFIN0 to REFIN7 -/
abbrev mdl_inputPathConstants : Nat := 0x9C0002
/-- Object 0x9C00.03, coupling: U8, RO (18 R537). Bit i = 1 when REFINi is AC-coupled (R527) -/
abbrev mdl_coupling : Nat := 0x9C0003
/-- Object 0x9C00.04, oscillator source: U8, RWS (18 R537). 0 on-board OCXO, 1 OSC_EXT; effective at the next start-up -/
abbrev mdl_oscillatorSource : Nat := 0x9C0004
/-- Object 0x9C00.05, oscillator nominal: U32, RO (18 R537). f_osc,nom in Hz; from the configuration image (R528) -/
abbrev mdl_oscillatorNominal : Nat := 0x9C0005
/-- Object 0x9C00.06, partner power: U8, CMD (18 R537). 1 restores the twin's chip supply (R533) -/
abbrev mdl_partnerPower : Nat := 0x9C0006
/-- Object 0x9C00.07, thermal state: U8, RO (18 R537). Bit 0 chip above warning, bit 1 any optics above warning, bit 2 any port squelched -/
abbrev mdl_thermalState : Nat := 0x9C0007
/-- Object 0x9C00.08, squelched ports: BLOB, RO (18 R537). 16 bytes; bit p = port p squelched under R534 -/
abbrev mdl_squelchedPorts : Nat := 0x9C0008

end Sys2Proof.Machine.Ob
end

