-- ==== Sys2Proof/Machine/Ops.lean ====
section
/-! DEFINITION. The named operations over the state: objects, tables of units, the two nodes, and the outcome of a command. -/

namespace Sys2Proof.Machine

/-- What a store holds under a key, given the default. -/
def storeGet (d : Nat) : Store → Nat → Nat
  | [], _ => d
  | (k, v) :: r, o => if k == o then v else storeGet d r o

/-- A store without a key. -/
def storeDrop : Store → Nat → Store
  | [], _ => []
  | (k, w) :: r, o => if k == o then storeDrop r o else (k, w) :: storeDrop r o

/-- A store with a value listed under a key: keys stay rising. -/
def storeIns : Store → Nat → Nat → Store
  | [], o, v => [(o, v)]
  | (k, w) :: r, o, v =>
    if o < k then (o, v) :: (k, w) :: r
    else if o == k then (o, v) :: r
    else (k, w) :: storeIns r o v

/-- Put a value under a key: keys stay rising, and a value equal to the default is not listed. -/
def storeSet (d : Nat) (st : Store) (o v : Nat) : Store :=
  if v == d then storeDrop st o else storeIns st o v

/-- Keys strictly rising, all above a bound, and no entry equal to its default. -/
def storeWfFrom (k : Kind) (lo : Nat) : Store → Bool
  | [] => true
  | (o, v) :: r => decide (lo ≤ o) && (v != dfltOf k o) && storeWfFrom k (o + 1) r

/-- The canonical form of a store. -/
def storeWf (k : Kind) (st : Store) : Bool := storeWfFrom k 0 st

/-- The entry of a table, or what every unit is at reset. -/
def tblGet {α : Type} (d : α) : Tbl α → Nat → α
  | [], _ => d
  | (k, v) :: r, i => if k == i then v else tblGet d r i

/-- Replace the entry of a table; numbers stay rising. -/
def tblSet {α : Type} : Tbl α → Nat → α → Tbl α
  | [], i, v => [(i, v)]
  | (k, w) :: r, i, v =>
    if i < k then (i, v) :: (k, w) :: r
    else if i == k then (i, v) :: r
    else (k, w) :: tblSet r i v

/-- Numbers of a table strictly rising from a bound. -/
def tblWfFrom {α : Type} (lo : Nat) : Tbl α → Bool
  | [] => true
  | (k, _) :: r => decide (lo ≤ k) && tblWfFrom (k + 1) r

/-- Read an object of a node (16 R438). -/
def Node.rd (n : Node) (o : Nat) : Nat := storeGet (dfltOf n.kind o) n.objs o

/-- Write an object of a node. -/
def Node.wr (n : Node) (o v : Nat) : Node := { n with objs := storeSet (dfltOf n.kind o) n.objs o v }

/-- Read an object as a signed value of `w` bits. -/
def Node.rdS (n : Node) (w o : Nat) : Int := toS w (n.rd o)

/-- Write a signed value of `w` bits. -/
def Node.wrS (n : Node) (w o : Nat) (i : Int) : Node := n.wr o (ofS w i)

/-- Replace `w` bits from bit `lo` of an object. -/
def Node.wrBits (n : Node) (o lo w v : Nat) : Node :=
  let x := n.rd o
  n.wr o (x - bits x lo w * 2 ^ lo + v % 2 ^ w * 2 ^ lo)

/-- Add one to the `w`-bit counter at bit `lo` of an object. -/
def Node.bumpBits (n : Node) (o lo w : Nat) : Node := n.wrBits o lo w (bits (n.rd o) lo w + 1)

/-- A counter source counts an event with its qualifier; 0xFF counts every port (15 R430). -/
def srcHits (src code q : Nat) : Bool := src % 256 == code && (src / 256 == q || src / 256 == 255)

/-- An event of the TSU core or of a hub advances the event counters that count it (15 R430). -/
def Node.events (n : Node) (code q k : Nat) : Node :=
  n.census.srcs.foldl (fun n e =>
    if e.1 < 64 && srcHits e.2 code q then n.wrBits (Ob.ecnt_value e.1) 0 48 (bits (n.rd (Ob.ecnt_value e.1)) 0 48 + k) else n) n

/-- An event of a Region Agent advances its event counters that count it (15 R430). -/
def Node.agEvents (n : Node) (r code k : Nat) : Node :=
  n.census.srcs.foldl (fun n e =>
    if e.1 / 8 == 8 + r && e.2 == code then
      n.wrBits (Ob.agc_agentValues r) (64 * (e.1 % 8)) 48 (bits (n.rd (Ob.agc_agentValues r)) (64 * (e.1 % 8)) 48 + k) else n) n

/-- The event that a counter object counts, and its qualifier (15 R430). -/
def eventOf (o : Nat) : Option (Nat × Nat) :=
  let idx := o / 256
  let sub := o % 256
  if Nat.ble 0x3010 idx && Nat.blt idx 0x3060 then
    if sub == 8 then some (0x22, idx - 0x3010) else if sub == 9 then some (0x21, idx - 0x3010)
    else if sub == 0xA then some (0x24, idx - 0x3010) else none
  else if Nat.ble 0x4040 idx && Nat.blt idx 0x4080 then (if sub == 0xB then some (0x13, 0) else none)
  else if Nat.ble 0x4840 idx && Nat.blt idx 0x4880 then (if sub == 6 then some (0x11, 0) else none)
  else if Nat.ble 0x5040 idx && Nat.blt idx 0x5080 then (if sub == 2 then some (0x16, 0) else none)
  else if o == Ob.flt_wavesReceived then some (0x14, 0)
  else if o == Ob.flt_recordsMade then some (0x15, 0)
  else if o == Ob.clr_issues then some (0x17, 0)
  else if o == Ob.jrnl_recordsStored then some (0x18, 0)
  else none

/-- Add to a counter object, which wraps at its width (00 R17), and to the event counters of its event (15 R430). -/
def Node.addTo (n : Node) (o k : Nat) : Node :=
  let n1 := n.wr o ((n.rd o + k) % 2 ^ widthOf n.kind o)
  match eventOf o with
  | some e => n1.events e.1 e.2 k
  | none => n1

/-- Count one event. -/
def Node.bump (n : Node) (o : Nat) : Node := n.addTo o 1

/-- This node is a hub. -/
def Node.isHub (n : Node) : Bool := n.kind == .hub

/-- Indices of units that a configuration may not hold: regions from the count of object 0xD400.00, Viaduct cells from that of
0xD401.00 (07 R201, 08 R216). -/
def Node.configured (n : Node) (idx : Nat) : Bool :=
  let below := fun (base count : Nat) => idx < base + count
  if 0xD000 ≤ idx && idx < 0xD400 then below 0xD000 (n.rd Ob.bus_regionAgents)
  else if 0x8400 ≤ idx && idx < 0x8800 then below 0x8400 (n.rd Ob.bus_regionAgents)
  else if 0x9000 ≤ idx && idx < 0x9400 then below 0x9000 (n.rd Ob.bus_regionAgents)
  else if 0xA400 ≤ idx && idx < 0xA800 then below 0xA400 (n.rd Ob.bus_regionAgents)
  else if 0xD800 ≤ idx && idx < 0xE000 then below 0xD800 (n.rd Ob.vds_viaducts)
  else true

/-- The node holds an object of this key. -/
def Node.hasObj (n : Node) (o : Nat) : Bool :=
  (findRow n.kind o).isSome && (n.isHub || n.configured (o / 256))


/-- The link end of a number. -/
def Node.linkOf (n : Node) (i : Nat) : LinkEnd := tblGet {} n.links i

/-- Change the link end of a number. -/
def Node.modLink (n : Node) (i : Nat) (f : LinkEnd → LinkEnd) : Node := { n with links := tblSet n.links i (f (n.linkOf i)) }

/-- The time transfer of a port of a number. -/
def Node.portOf (n : Node) (i : Nat) : TimePort := tblGet {} n.tports i

/-- Change the time transfer of a port of a number. -/
def Node.modPort (n : Node) (i : Nat) (f : TimePort → TimePort) : Node := { n with tports := tblSet n.tports i (f (n.portOf i)) }

/-- The TDC channel of a number. -/
def Node.chanOf (n : Node) (i : Nat) : TdcChan := tblGet {} n.chans i

/-- Change the TDC channel of a number. -/
def Node.modChan (n : Node) (i : Nat) (f : TdcChan → TdcChan) : Node := { n with chans := tblSet n.chans i (f (n.chanOf i)) }

/-- The event input of a number. -/
def Node.evOf (n : Node) (i : Nat) : EvIn := tblGet {} n.evins i

/-- Change the event input of a number. -/
def Node.modEv (n : Node) (i : Nat) (f : EvIn → EvIn) : Node := { n with evins := tblSet n.evins i (f (n.evOf i)) }

/-- The measurement slot of a number. -/
def Node.mslotOf (n : Node) (i : Nat) : MSlot := tblGet {} n.mslots i

/-- Change the measurement slot of a number. -/
def Node.modMslot (n : Node) (i : Nat) (f : MSlot → MSlot) : Node := { n with mslots := tblSet n.mslots i (f (n.mslotOf i)) }

/-- The regression engine of a number. -/
def Node.regrOf (n : Node) (i : Nat) : Regr := tblGet {} n.regrs i

/-- Change the regression engine of a number. -/
def Node.modRegr (n : Node) (i : Nat) (f : Regr → Regr) : Node := { n with regrs := tblSet n.regrs i (f (n.regrOf i)) }

/-- The access route of a number. -/
def Node.routeOf (n : Node) (i : Nat) : Route := tblGet {} n.routes i

/-- Change the access route of a number. -/
def Node.modRoute (n : Node) (i : Nat) (f : Route → Route) : Node := { n with routes := tblSet n.routes i (f (n.routeOf i)) }

/-- The last answer of a route of a number. -/
def Node.answerOf (n : Node) (i : Nat) : Answer := tblGet {} n.answers i

/-- Change the last answer of a route of a number. -/
def Node.modAnswer (n : Node) (i : Nat) (f : Answer → Answer) : Node := { n with answers := tblSet n.answers i (f (n.answerOf i)) }

/-- The time base of a number. -/
def Node.baseOf (n : Node) (i : Nat) : TBase := tblGet {} n.bases i

/-- Change the time base of a number. -/
def Node.modBase (n : Node) (i : Nat) (f : TBase → TBase) : Node := { n with bases := tblSet n.bases i (f (n.baseOf i)) }

/-- The capture queue of a number. -/
def Node.capOf (n : Node) (i : Nat) : CapQ := tblGet {} n.caps i

/-- Change the capture queue of a number. -/
def Node.modCap (n : Node) (i : Nat) (f : CapQ → CapQ) : Node := { n with caps := tblSet n.caps i (f (n.capOf i)) }

/-- The TSU pulse output of a number. -/
def Node.pulseOf (n : Node) (i : Nat) : PulseSt := tblGet {} n.pulses i

/-- Change the TSU pulse output of a number. -/
def Node.modPulse (n : Node) (i : Nat) (f : PulseSt → PulseSt) : Node := { n with pulses := tblSet n.pulses i (f (n.pulseOf i)) }

/-- The Region Agent of a number. -/
def Node.agentOf (n : Node) (i : Nat) : Agent := tblGet {} n.agents i

/-- Change the Region Agent of a number. -/
def Node.modAgent (n : Node) (i : Nat) (f : Agent → Agent) : Node := { n with agents := tblSet n.agents i (f (n.agentOf i)) }

/-- The Viaduct cell of a number. -/
def Node.cellOf (n : Node) (i : Nat) : Viaduct := tblGet {} n.cells i

/-- Change the Viaduct cell of a number. -/
def Node.modCell (n : Node) (i : Nat) (f : Viaduct → Viaduct) : Node := { n with cells := tblSet n.cells i (f (n.cellOf i)) }

/-- The table slot of a number. -/
def Node.tslotOf (n : Node) (i : Nat) : TSlot := tblGet {} n.tslots i

/-- Change the table slot of a number. -/
def Node.modTslot (n : Node) (i : Nat) (f : TSlot → TSlot) : Node := { n with tslots := tblSet n.tslots i (f (n.tslotOf i)) }

/-- The context of a number. -/
def Node.ctxOf (n : Node) (i : Nat) : Ctx := tblGet {} n.ctxs i

/-- Change the context of a number. -/
def Node.modCtx (n : Node) (i : Nat) (f : Ctx → Ctx) : Node := { n with ctxs := tblSet n.ctxs i (f (n.ctxOf i)) }

/-- The region power and watch of a number. -/
def Node.regionOf (n : Node) (i : Nat) : Region := tblGet {} n.regions i

/-- Change the region power and watch of a number. -/
def Node.modRegion (n : Node) (i : Nat) (f : Region → Region) : Node := { n with regions := tblSet n.regions i (f (n.regionOf i)) }

/-- The reference input of a number. -/
def Node.refOf (n : Node) (i : Nat) : KRef := tblGet {} n.refs i

/-- Change the reference input of a number. -/
def Node.modRef (n : Node) (i : Nat) (f : KRef → KRef) : Node := { n with refs := tblSet n.refs i (f (n.refOf i)) }

/-- The reference monitor of a number. -/
def Node.monOf (n : Node) (i : Nat) : Regr := tblGet {} n.monitors i

/-- Change the reference monitor of a number. -/
def Node.modMon (n : Node) (i : Nat) (f : Regr → Regr) : Node := { n with monitors := tblSet n.monitors i (f (n.monOf i)) }

/-- The hub output of a number. -/
def Node.outOf (n : Node) (i : Nat) : PulseSt := tblGet {} n.outs i

/-- Change the hub output of a number. -/
def Node.modOut (n : Node) (i : Nat) (f : PulseSt → PulseSt) : Node := { n with outs := tblSet n.outs i (f (n.outOf i)) }

/-- The head entry of a number. -/
def Node.headOf (n : Node) (i : Nat) : Head := tblGet {} n.heads i

/-- Change the head entry of a number. -/
def Node.modHead (n : Node) (i : Nat) (f : Head → Head) : Node := { n with heads := tblSet n.heads i (f (n.headOf i)) }

/-- The hub tally slot of a number. -/
def Node.htalOf (n : Node) (i : Nat) : HTally := tblGet {} n.htal i

/-- Change the hub tally slot of a number. -/
def Node.modHtal (n : Node) (i : Nat) (f : HTally → HTally) : Node := { n with htal := tblSet n.htal i (f (n.htalOf i)) }

/-- The Clearing engine of a number. -/
def Node.engOf (n : Node) (i : Nat) : Engine := tblGet {} n.engines i

/-- Change the Clearing engine of a number. -/
def Node.modEng (n : Node) (i : Nat) (f : Engine → Engine) : Node := { n with engines := tblSet n.engines i (f (n.engOf i)) }

/-- The Pier downlink of a number. -/
def Node.dportOf (n : Node) (i : Nat) : DPort := tblGet {} n.dports i

/-- Change the Pier downlink of a number. -/
def Node.modDport (n : Node) (i : Nat) (f : DPort → DPort) : Node := { n with dports := tblSet n.dports i (f (n.dportOf i)) }

/-- Change `tnode`. -/
def Node.modTnode (n : Node) (f : TimeNode → TimeNode) : Node := { n with tnode := f n.tnode }

/-- Change `census`. -/
def Node.modCensus (n : Node) (f : CensusSt → CensusSt) : Node := { n with census := f n.census }

/-- Change `start`. -/
def Node.modStart (n : Node) (f : StartSt → StartSt) : Node := { n with start := f n.start }

/-- Change `hall`. -/
def Node.modHall (n : Node) (f : HallSt → HallSt) : Node := { n with hall := f n.hall }

/-- Change `bus`. -/
def Node.modBus (n : Node) (f : BusSt → BusSt) : Node := { n with bus := f n.bus }

/-- Change `clr`. -/
def Node.modClr (n : Node) (f : ClearSt → ClearSt) : Node := { n with clr := f n.clr }

/-- Change `tally`. -/
def Node.modTally (n : Node) (f : TallySt → TallySt) : Node := { n with tally := f n.tally }

/-- Change `mint`. -/
def Node.modMint (n : Node) (f : MintSt → MintSt) : Node := { n with mint := f n.mint }

/-- Change `jrnl`. -/
def Node.modJrnl (n : Node) (f : JournalSt → JournalSt) : Node := { n with jrnl := f n.jrnl }

/-- Change `key`. -/
def Node.modKey (n : Node) (f : KeySt → KeySt) : Node := { n with key := f n.key }

/-- Change `vault`. -/
def Node.modVault (n : Node) (f : VaultSt → VaultSt) : Node := { n with vault := f n.vault }

/-- Change `kst`. -/
def Node.modKst (n : Node) (f : Keystone → Keystone) : Node := { n with kst := f n.kst }

/-- Change `lead`. -/
def Node.modLead (n : Node) (f : LeadSt → LeadSt) : Node := { n with lead := f n.lead }

/-- Change `jhub`. -/
def Node.modJhub (n : Node) (f : JournalHub → JournalHub) : Node := { n with jhub := f n.jhub }

/-- Change `replay`. -/
def Node.modReplay (n : Node) (f : ReplaySt → ReplaySt) : Node := { n with replay := f n.replay }

/-- Change `access`. -/
def Node.modAccess (n : Node) (f : Access → Access) : Node := { n with access := f n.access }

/-- Change `hpwr`. -/
def Node.modHpwr (n : Node) (f : HubPower → HubPower) : Node := { n with hpwr := f n.hpwr }

/-- Free values: the node takes the next one (log entry 13). -/
def Node.takeFree (n : Node) : Nat × Node := (Config.freeValue n.fresh, { n with fresh := n.fresh + 1 })

/-- Number of span link ports (02 R70, object 0x3000.00). -/
def Node.portCount (n : Node) : Nat := if n.isHub then 68 else 2

/-- Number of contexts of the configuration (00 R3; 09 R260). -/
def Node.ctxCount (n : Node) : Nat := match n.kind with | .full => 64 | .edge => 8 | .hub => 0

/-- Number of Region Agents (07 R202, object 0xD400.00). -/
def Node.regionCount (n : Node) : Nat := if n.isHub then 0 else n.rd Ob.bus_regionAgents

/-- The node of a command. -/
def State.node (s : State) : Who → Node
  | .tsu => s.tsu
  | .hub => s.hub

/-- The state with a node replaced. -/
def State.setNode (s : State) (u : Who) (n : Node) : State :=
  match u with
  | .tsu => { s with tsu := n }
  | .hub => { s with hub := n }

/-- A unit works: a TSU, or a hub that is ACTIVE with its chip supply on (17 R494, R495; 18 R532). -/
def Node.running (n : Node) : Bool := !n.isHub || (n.hpwr.state == 0 && n.hpwr.chipOn)

/-- A command on one node: its effect where the unit it names exists; nothing happens at a unit that the configuration does not
hold (log entry 10), and a hub that does not work does nothing. -/
def onNode (s : State) (u : Who) (ok : Bool) (f : Node → Node) : Host.Outcome State Fault Refusal :=
  .next (s.setNode u (if ok && (s.node u).running then f (s.node u) else s.node u))

/-- A command that reaches the hub in every power state: the wake detectors, the sentinel and the housekeeping controller (17 R495, R496). -/
def onHub (s : State) (ok : Bool) (f : Node → Node) : Host.Outcome State Fault Refusal :=
  .next { s with hub := if ok then f s.hub else s.hub }

/-- An effect that takes place only when its trigger holds (log entry 5). -/
def when (c : Bool) (f : Node → Node) (n : Node) : Node := if c then f n else n

/-- Fold an operation over a list of units. -/
def overAll {α : Type} (l : List α) (f : Node → α → Node) (n : Node) : Node := l.foldl f n

/-- A span of units numbered from 0. -/
def upTo (k : Nat) : List Nat := List.range k

/-- Ticks of a duration in picoseconds, rounded up (00 R13). -/
def ticksOfPs (ps : Nat) : Nat := (ps + 639) / 640

/-- Ticks of a duration in nanoseconds, rounded up (00 R13). -/
def ticksOfNs (ns : Nat) : Nat := (ns * 25 + 15) / 16

/-- Ticks of a duration in microseconds, rounded up (00 R13). -/
def ticksOfUs (us : Nat) : Nat := (us * 3125 + 1) / 2

/-- Ticks of a duration in milliseconds (00 R13). -/
def ticksOfMs (ms : Nat) : Nat := ms * 1562500

/-- Ticks of a second. -/
def tps : Nat := 1562500000

/-- The first multiple of `m` at or after `t` (01 R39, R539). -/
def nextMul (m t : Nat) : Nat := (t + m - 1) / m * m

/-- The marker period of a tick (01 R39). -/
def markerOf (t : Nat) : Nat := t / 512 * 512

/-- Look up a key in a list of pairs. -/
def assoc (d : Nat) (l : List (Nat × Nat)) (k : Nat) : Nat :=
  match l.find? (fun e => e.1 == k) with
  | some e => e.2
  | none => d

/-- Replace a key in a list of pairs. -/
def assocSet (l : List (Nat × Nat)) (k v : Nat) : List (Nat × Nat) := tblSet l k v

/-- Put a value before the first of a sorted list that it does not come after. -/
def insertBy {α : Type} (le : α → α → Bool) (x : α) : List α → List α
  | [] => [x]
  | y :: r => if le x y then x :: y :: r else y :: insertBy le x r

/-- A list in ascending order; equal ones keep their order. -/
def sortBy {α : Type} (le : α → α → Bool) (l : List α) : List α := l.foldr (insertBy le) []

/-- Bytes of a little-endian number (16 R438). -/
def leBytes : Nat → Nat → List Nat
  | 0, _ => []
  | n + 1, v => v % 256 :: leBytes n (v / 256)

/-- The little-endian number of a list of bytes (16 R438). -/
def leVal : List Nat → Nat
  | [] => 0
  | b :: r => b % 256 + 256 * leVal r

/-- Byte `i` of an object's value. -/
def byteAt (v i : Nat) : Nat := v / 256 ^ i % 256

/-- A field of `k` bytes from byte `i`. -/
def fieldAt (v i k : Nat) : Nat := v / 256 ^ i % 256 ^ k

/-- Place a field of `k` bytes at byte `i`. -/
def putField (i k v : Nat) : Nat := v % 256 ^ k * 256 ^ i

end Sys2Proof.Machine
end

