-- ==== Sys2Proof/Machine/Operands.lean ====
section
/-! DEFINITION. The operand forms of the block: messages of the span link and their fields, fault slots, time values. -/

namespace Sys2Proof.Machine

/-- The head cell of a message (02 R57). -/
def Msg.head (m : Msg) : Nat := m.cells.headD 0

/-- CONT cell `i` of a message, from 1; cell 0 is the head (02 R57). -/
def Msg.cell (m : Msg) (i : Nat) : Nat := m.cells.getD i 0

/-- Bits `hi` down to `lo` of a number, as the layout tables name them. -/
def fld (x hi lo : Nat) : Nat := bits x lo (hi + 1 - lo)

/-- Place a value in bits `hi` down to `lo`. -/
def put (hi lo v : Nat) : Nat := v % 2 ^ (hi + 1 - lo) * 2 ^ lo

/-- Span of a span message (02 R57). -/
def Msg.span (m : Msg) : Nat := fld m.head 127 112

/-- Epoch of a span message (02 R57). -/
def Msg.epoch (m : Msg) : Nat := fld m.head 111 80

/-- Cell types of a message's head (02 R56). -/
def tHello : Nat := 1
/-- TIME (02 R56). -/
def tTime : Nat := 2
/-- ESCROW (02 R56). -/
def tEscrow : Nat := 3
/-- TALLY (02 R56). -/
def tTally : Nat := 4
/-- CLEAR (02 R56). -/
def tClear : Nat := 5
/-- CENSUS (02 R56). -/
def tCensus : Nat := 6
/-- OBJECT (02 R56). -/
def tObject : Nat := 7
/-- JOURNAL (02 R56). -/
def tJournal : Nat := 8
/-- TWIN (02 R56). -/
def tTwin : Nat := 9

/-- Traffic class of a cell type: 1, 2 or 3 (02 R56). -/
def classOf (t : Nat) : Nat := if t ≤ 3 then 1 else if t ≤ 6 then 2 else 3

/-- The cell types that belong to a span (02 R57). -/
def isSpanType (t : Nat) : Bool := t == 3 || t == 4 || t == 5 || t == 6 || t == 8

/-- The link state from which a cell type is valid (02 R56). -/
def validFrom (t : Nat) : Nat :=
  if t == 0 then 0 else if t == 1 then 3 else if t == 2 then 4 else if t == 7 || t == 9 then 5 else 6

/-- A fault slot (02 R51). -/
def slotOf (cause span epoch origin ctx : Nat) : Nat :=
  2 ^ 83 + put 82 75 cause + put 74 59 span + put 58 27 epoch + put 26 7 origin + put 6 1 ctx

/-- Cause of a fault slot (02 R51). -/
def slotCause (s : Nat) : Nat := fld s 82 75
/-- Span of a fault slot (02 R51). -/
def slotSpan (s : Nat) : Nat := fld s 74 59
/-- Epoch of a fault slot (02 R51). -/
def slotEpoch (s : Nat) : Nat := fld s 58 27
/-- Origin of a fault slot (02 R51). -/
def slotOrigin (s : Nat) : Nat := fld s 26 7
/-- Context of a fault slot (02 R51). -/
def slotCtx (s : Nat) : Nat := fld s 6 1

/-- A hub identity: level, arch position, pier position (02 R66). -/
def hubIdentity (level arch pier : Nat) : Nat := put 19 18 level + put 17 12 arch + put 11 6 pier

/-- A die number (01 R28). -/
def dieNumber (arch pier port : Nat) : Nat := put 17 12 arch + put 11 6 pier + put 5 0 port

/-- The tick of a stamp in time units (04 R98). -/
def tickOf (stamp : Nat) : Nat := stamp / 65536

/-- The 2^-16 ns in a second. -/
def perSec16 : Nat := 1000000000 * 65536

/-- The 2^-48 ns in a second. -/
def perSec48 : Nat := 1000000000 * 2 ^ 48

/-- The T96 of a total in 2^-16 ns; seconds are taken modulo 2^48 (00 R15, 06 R160, 16 R438). -/
def t96Of16 (x : Int) : Nat :=
  ((x / (perSec16 : Int)) % ((2 ^ 48 : Nat) : Int)).toNat * 2 ^ 48 + (x % (perSec16 : Int)).toNat

/-- The total in 2^-16 ns of a T96. -/
def t96To16 (v : Nat) : Nat := bits v 48 48 * perSec16 + v % 2 ^ 48

/-- A T96 is valid: its nanoseconds are below 10^9 (00 R15). -/
def t96Ok (v : Nat) : Bool := decide (bits v 16 32 < 1000000000)

/-- The total of an accumulator in 2^-48 ns (06 R155). -/
def TBase.total (b : TBase) : Nat := b.sec * perSec48 + b.ns * 2 ^ 48 + b.frac

/-- An accumulator from a total in 2^-48 ns (06 R155). -/
def TBase.ofTotal (b : TBase) (x : Nat) : TBase :=
  { b with sec := x / perSec48 % 2 ^ 48, ns := x % perSec48 / 2 ^ 48, frac := x % 2 ^ 48 }

/-- The T96 an accumulator reads as: the top 16 bits of the fraction (06 R155). -/
def TBase.t96 (b : TBase) : Nat := b.sec * 2 ^ 48 + b.ns * 2 ^ 16 + b.frac / 2 ^ 32

/-- TB0 in hall mode at a stamp in time units, in 2^-16 ns: S + floor((t - A) 16 / 25) + r (06 R160). -/
def Node.hallAt (n : Node) (t : Nat) : Int :=
  (n.hall.ancS * perSec16 : Nat) + ((t : Int) - (n.hall.ancT : Int)) * 16 / 25 + n.hall.resid

/-- TB0 counts by the hall anchor (06 R160, object 0x2000.01). -/
def Node.hallMode (n : Node) : Bool := n.rd (Ob.tb_mode 0) == 0

/-- The value of a time base at the tick TB1 holds, as an object reads it (06 R154, R155, R160). -/
def Node.tbValue (n : Node) (k : Nat) : Nat :=
  if k == 1 then n.tb1
  else if k == 0 && n.hallMode then t96Of16 (n.hallAt (n.tb1 * 65536))
  else (n.baseOf k).t96

end Sys2Proof.Machine
end

