-- ==== Sys2Proof/Machine/Code.lean ====
section
/-! DEFINITION. The line code of the span link: the scrambler of 02 R46 and the Reed-Solomon frame code of 02 R47, R48. -/

namespace Sys2Proof.Machine

/-- One step of the generator x^58 + x^39 + 1; the state holds its last 58 output bits, newest lowest (02 R46).
DEDUCED (log entry 14): the output bit is the value of the recurrence. -/
def scramStep (r : Nat) : Nat := (r * 2 + (r / 2 ^ 38 % 2 + r / 2 ^ 57 % 2) % 2) % 2 ^ 58

/-- The first `k` output bits from a state, first bit highest. -/
def scramBits : Nat → Nat → Nat → Nat
  | 0, _, acc => acc
  | k + 1, r, acc => scramBits k (scramStep r) (acc * 2 + scramStep r % 2)

/-- The sequence S: 1,152 bits from the all-ones state (02 R46). -/
def scramSeq : Nat := scramBits 1152 (2 ^ 58 - 1) 0

/-- Multiply by x in GF(2^8) with x^8 + x^4 + x^3 + x^2 + 1 (02 R47). -/
def gfX (a : Nat) : Nat := if a < 128 then a * 2 else (a * 2) ^^^ 0x11D

/-- Product in GF(2^8), by the bits of the second factor (02 R47). -/
def gfMulN : Nat → Nat → Nat → Nat
  | 0, _, _ => 0
  | k + 1, a, b => (if b % 2 == 1 then a else 0) ^^^ gfMulN k (gfX a) (b / 2)

/-- Product in GF(2^8). -/
def gfMul (a b : Nat) : Nat := gfMulN 8 a b

/-- Power in GF(2^8). -/
def gfPow (a : Nat) : Nat → Nat
  | 0 => 1
  | k + 1 => gfMul a (gfPow a k)

/-- Inverse in GF(2^8): the 254th power. -/
def gfInv (a : Nat) : Nat := gfPow a 254

/-- Value of a polynomial, coefficients from the lowest degree. -/
def gfEval (x : Nat) : List Nat → Nat
  | [] => 0
  | c :: r => c ^^^ gfMul x (gfEval x r)

/-- Product of a polynomial, coefficients from the lowest degree, with (x - r). -/
def gfTimesRoot (r : Nat) (p : List Nat) : List Nat :=
  (0 :: p).zipWith (fun a b => a ^^^ b) ((p.map (gfMul r)) ++ [0])

/-- The generator polynomial (x - a^0) ... (x - a^15), coefficients from the lowest degree (02 R47). -/
def rsGen : List Nat := (upTo 16).foldl (fun p i => gfTimesRoot (gfPow 2 i) p) [1]

/-- The generator without its leading coefficient, from the highest degree: what the encoder feeds back. -/
def rsTaps : List Nat := (rsGen.take 16).reverse

/-- The 16 check symbols of 128 message symbols in transmit order: the remainder of m(x) x^16, highest degree first
(02 R47). DEDUCED (log entry 14): the first transmitted message symbol is the coefficient of the highest degree. -/
def rsChecks (msg : List Nat) : List Nat :=
  msg.foldl (fun rem s =>
    let f := s ^^^ rem.headD 0
    (rem.drop 1 ++ [0]).zipWith (fun a t => a ^^^ gfMul f t) rsTaps) (List.replicate 16 0)

/-- The 16 syndromes of 144 code symbols, highest degree first. -/
def rsSyndromes (c : List Nat) : List Nat :=
  (upTo 16).map (fun j => let x := gfPow 2 j; c.foldl (fun acc s => gfMul acc x ^^^ s) 0)

/-- State of the error locator search: locator, last locator, its length, shift, last discrepancy. -/
structure Locator where
  /-- Locator, lowest degree first. -/
  c : List Nat := [1]
  /-- Locator before the last change of length. -/
  b : List Nat := [1]
  /-- Length. -/
  len : Nat := 0
  /-- Steps since the last change of length. -/
  m : Nat := 1
  /-- Discrepancy at that change. -/
  db : Nat := 1
  deriving DecidableEq, Repr

/-- Sum of two polynomials, lowest degree first. -/
def gfAdd : List Nat → List Nat → List Nat
  | [], q => q
  | p, [] => p
  | a :: p, b :: q => (a ^^^ b) :: gfAdd p q

/-- One step of the locator search on the syndromes. -/
def locStep (syn : List Nat) (l : Locator) (i : Nat) : Locator :=
  let d := ((upTo (l.len + 1)).map (fun j => gfMul (l.c.getD j 0) (if j ≤ i then syn.getD (i - j) 0 else 0))).foldl
    (fun a b => a ^^^ b) 0
  if d == 0 then { l with m := l.m + 1 }
  else
    let f := gfMul d (gfInv l.db)
    let c' := gfAdd l.c (List.replicate l.m 0 ++ l.b.map (gfMul f))
    if 2 * l.len ≤ i then { c := c', b := l.c, len := i + 1 - l.len, m := 1, db := d }
    else { l with c := c', m := l.m + 1 }

/-- The error locator of a list of syndromes. -/
def locator (syn : List Nat) : Locator := (upTo 16).foldl (locStep syn) {}

/-- The formal derivative of a polynomial in characteristic 2, lowest degree first: the odd coefficients stay. -/
def gfDeriv : List Nat → List Nat
  | [] => []
  | [_] => []
  | _ :: c :: r => c :: 0 :: gfDeriv r

/-- Decode 144 code symbols, highest degree first: the symbols corrected and how many, when the errors lie in at most 5
symbols; none when the frame is uncorrectable (02 R48). Log entry 8: a word that lies at no more than 5 symbols from no
code word is uncorrectable. -/
def rsDecode (c : List Nat) : Option (List Nat × Nat) :=
  let syn := rsSyndromes c
  if syn.all (· == 0) then some (c, 0)
  else
    let l := locator syn
    if 5 < l.len then none
    else
      let omega := ((upTo l.len).map (fun i =>
        ((upTo (i + 1)).map (fun j => gfMul (l.c.getD j 0) (syn.getD (i - j) 0))).foldl (fun a b => a ^^^ b) 0))
      let deriv := gfDeriv l.c
      let fixed := (upTo 144).map (fun pos =>
        let deg := 143 - pos
        let xinv := gfPow 2 ((255 - deg) % 255)
        let s := c.getD pos 0
        if gfEval xinv l.c == 0 then
          (s ^^^ gfMul (gfPow 2 deg) (gfMul (gfEval xinv omega) (gfInv (gfEval xinv deriv))), true)
        else (s, false))
      let out := fixed.map (·.1)
      if (fixed.filter (·.2)).length == l.len && (rsSyndromes out).all (· == 0) then some (out, l.len) else none

/-- The bytes of a number, highest first. -/
def beBytes (k v : Nat) : List Nat := (leBytes k v).reverse

/-- The number of a list of bytes, highest first. -/
def beVal (l : List Nat) : Nat := l.foldl (fun a b => a * 256 + b % 256) 0

/-- The frame of eight cells: words of a cell and two check symbols, scrambled, first transmitted bit highest
(02 R45 to R47). -/
def encodeFrame (cells : List Nat) : Nat :=
  let chk := rsChecks ((cells.map (beBytes 16)).flatten)
  let words := (upTo 8).map (fun k => cells.getD k 0 % 2 ^ 128 * 65536 + chk.getD (2 * k) 0 * 256 + chk.getD (2 * k + 1) 0)
  (words.foldl (fun a w => a * 2 ^ 144 + w) 0) ^^^ scramSeq

/-- The PAM4 level of a pair of bits, the earlier bit the more significant: Gray coding (02 R44). -/
def grayLevel (b : Nat) : Nat := if b == 3 then 2 else if b == 2 then 3 else b

/-- The PAM4 levels of `k` pairs of bits in transmit order, first symbol highest, two bits each (02 R44). -/
def pamSymbols : Nat → Nat → Nat
  | 0, _ => 0
  | k + 1, x => pamSymbols k (x / 4) * 4 + grayLevel (x % 4)

/-- The 576 symbols of a frame (02 R44, R45). -/
def frameSymbols (frame : Nat) : Nat := pamSymbols 576 frame

/-- The symbols of the eight words from tick `now` of a wake pattern that began on tick `t0`: 500 ticks at level 3, then 500 at level
0 (02 R62). -/
def wakeSymbols (t0 now : Nat) : Nat :=
  (upTo 8).foldl (fun a k => a * 4 ^ 72 + (if (now + k - t0) % 1000 < 500 then 4 ^ 72 - 1 else 0)) 0

/-- The eight cells of a received frame and the symbols corrected; none when it is uncorrectable (02 R46 to R49). -/
def decodeFrame (frame : Nat) : Option (List Nat × Nat) :=
  let x := frame % 2 ^ 1152 ^^^ scramSeq
  let words := (upTo 8).map (fun k => bits x (144 * (7 - k)) 144)
  let msg := (words.map (fun w => beBytes 16 (w / 65536))).flatten
  let chk := (words.map (fun w => beBytes 2 (w % 65536))).flatten
  match rsDecode (msg ++ chk) with
  | none => none
  | some (c, e) => some ((upTo 8).map (fun k => beVal ((c.drop (16 * k)).take 16)), e)

end Sys2Proof.Machine
end

