-- ==== Sys2Proof/Machine/Flags.lean ====
section
/-! DEFINITION. Flags and records: interrupt sources, lines and stamps (16 R466 to R468, 06 R169), fault records
(14 R383 to R385). -/

namespace Sys2Proof.Machine

/-- The sources that are conditions and not events (16 R466). -/
def isCondition (s : Nat) : Bool :=
  (Nat.ble 0x080 s && Nat.blt s 0x0C0) || (Nat.ble 0x110 s && Nat.blt s 0x118)

/-- The condition of a condition source: marks held (09 R242), records held (06 R166). -/
def Node.condition (n : Node) (s : Nat) : Bool :=
  if Nat.ble 0x080 s && Nat.blt s 0x0C0 then !(n.ctxOf (s - 0x080)).marks.isEmpty
  else !(n.capOf (s - 0x110)).recs.isEmpty

/-- The pending bits: event bits as latched, condition bits as their conditions stand (16 R466, R467). -/
def Node.pendingBits (n : Node) : Nat :=
  let conds := (upTo 64).map (fun c => 0x080 + c) ++ (upTo 8).map (fun i => 0x110 + i)
  conds.foldl (fun acc s => if n.condition s then acc + 2 ^ s else acc) (n.rd Ob.irq_pending)

/-- Some enabled source routed to a line is pending (16 R468). -/
def Node.lineActive (n : Node) (l : Nat) : Bool :=
  let routing := n.rd Ob.irq_interruptRouting
  let pend := n.pendingBits
  (upTo 512).any (fun s => bit pend s && bit routing (8 * s + 7) && bits routing (8 * s) 3 == l)

/-- A line rises: the interrupt stamp is latched and the assertions counted (06 R169). -/
def Node.lineRise (n : Node) (l : Nat) : Node :=
  let count := (fieldAt (n.rd (Ob.irqLine_interruptStamp l)) 20 4 + 1) % 2 ^ 32
  let stamp := putField 0 8 n.tb1 + putField 8 12 (n.tbValue 0) + putField 20 4 count
  (n.wrBits Ob.irq_lines l 1 1).wr (Ob.irqLine_interruptStamp l) stamp

/-- A line falls and keeps the tick of its fall (16 R468). -/
def Node.lineFall (n : Node) (l : Nat) : Node :=
  { n.wrBits Ob.irq_lines l 1 0 with lineLow := assocSet n.lineLow l n.tb1 }

/-- A line follows its sources: it rises when it is active and has been low for the whole of the tick before, and falls
when it is not active (16 R468). -/
def Node.lineStep (n : Node) (l : Nat) : Node :=
  let high := bit (n.rd Ob.irq_lines) l
  let rested := match n.lineLow.find? (fun e => e.1 == l) with
    | some e => decide (e.2 < n.tb1)
    | none => true
  if n.lineActive l then (if high then n else if rested then n.lineRise l else n)
  else if high then n.lineFall l else n

/-- Every line follows its sources, once at the end of each tick, as lines change only on tick boundaries (06 R169); a unit without interrupt
lines is unchanged. -/
def Node.lines (n : Node) : Node := if n.isHub then n else overAll (upTo 8) Node.lineStep n

/-- An event sets its source's pending bit on its tick (16 R467); a hub has no interrupt sources. The lines follow at the end of the tick
(06 R159, R169). -/
def Node.irqEvent (n : Node) (s : Nat) : Node :=
  if n.isHub || isCondition s || Nat.ble 0x133 s then n
  else (if bit (n.rd Ob.irq_pending) s then n else n.wr Ob.irq_pending (n.rd Ob.irq_pending + 2 ^ s))

/-- A pending source that is acknowledged: events only (16 R467). -/
def ackBits (pend v : Nat) : Nat :=
  (upTo 512).foldl (fun acc s => if bit pend s && bit v s && !isCondition s then acc - 2 ^ s else acc) pend

/-- What a fault record names (14 R383, R384); the defaults are what a cause that does not name a field holds. -/
structure FRec where
  /-- Cause code. -/
  cause : Nat
  /-- Span concerned. -/
  span : Nat := 0
  /-- Die; none for the recording node itself. -/
  die : Option Nat := none
  /-- Region or port. -/
  region : Nat := 1023
  /-- Core. -/
  core : Nat := 0xFFFFF
  /-- Context. -/
  ctx : Nat := 63
  /-- Object field. -/
  obj : Nat := 0
  /-- Detail field. -/
  detail : Nat := 0
  deriving DecidableEq, Repr

/-- The die number or hub identity of the node (16 R469, object 0x1000.06). -/
def Node.ident (n : Node) : Nat := n.rd Ob.idn_identity

/-- The 256 bits of a fault record (14 R383). -/
def Node.recordBits (n : Node) (r : FRec) : Nat :=
  put 255 192 n.tb1 + put 191 184 r.cause + put 183 168 r.span + put 167 148 (r.die.getD n.ident) +
  put 147 138 r.region + put 137 118 r.core + put 117 112 r.ctx + put 111 80 r.obj + put 79 0 r.detail

/-- Records a log holds (14 R385). -/
def Node.logSize (n : Node) : Nat := if n.isHub then 4096 else 256

/-- A detection that is counted and merged under a once-per rule (14 R385). -/
def Node.countCause (n : Node) (cause : Nat) : Node := n.bumpBits Ob.cause_causeCounts (32 * cause) 32

/-- A detection makes a fault record: counted, latched when it is the first, logged or dropped, and it asserts the
"fault record" source under the mask (14 R385). -/
def Node.fault (n : Node) (r : FRec) : Node :=
  let x := n.recordBits r
  let n1 := (n.countCause r.cause).bump Ob.flt_recordsMade
  let n2 := if n1.rd Ob.flt_firstRecord == 0 then n1.wr Ob.flt_firstRecord x else n1
  let n3 := if n2.log.length < n2.logSize then { n2 with log := n2.log ++ [x] } else n2.bump Ob.flt_recordsDropped
  if bit (n3.rd Ob.flt_interruptMask) r.cause then n3.irqEvent 0x130 else n3

/-- The current span and epoch of a TSU: those of its two lane entries when they agree, 0 otherwise (01 R29, 15 R412). -/
def Node.spanEntry (n : Node) : Nat :=
  let a := n.rd (Ob.lane_laneSpanEntry 0)
  if a == n.rd (Ob.lane_laneSpanEntry 1) then a % 2 ^ 48 else 0

/-- Current span of a TSU. -/
def Node.span (n : Node) : Nat := n.spanEntry / 2 ^ 32

/-- Epoch of the current span instance of a TSU. -/
def Node.epoch (n : Node) : Nat := n.spanEntry % 2 ^ 32

/-- The TSU is a member of a span (01 R29). -/
def Node.member (n : Node) : Bool := n.span != 0

/-- A port cause (14 R384): the region field holds the port. -/
def Node.portFault (n : Node) (cause p detail : Nat) : Node :=
  n.fault { cause := cause, region := p, detail := detail }

/-- A cause of a context of a TSU. -/
def Node.ctxFault (n : Node) (cause c obj detail : Nat) : Node :=
  n.fault { cause := cause, span := n.span, ctx := c, obj := obj, detail := detail }

/-- A cause of a region of a TSU, without a context. -/
def Node.regionFault (n : Node) (cause r obj detail : Nat) : Node :=
  n.fault { cause := cause, region := r, obj := obj, detail := detail }

/-- A key input has changed: a recomputation of the Conformance Key starts or goes on; bit `b` of cause 0x60 (13 R363, 14 R405). -/
def Node.keyInput (n : Node) (b : Nat) : Node :=
  (n.wr Ob.det_keyState 1).modKey (fun k =>
    { k with dirty := if bit k.dirty b then k.dirty else k.dirty + 2 ^ b, since := if n.rd Ob.det_keyState == 1 then k.since else n.tb1 })

end Sys2Proof.Machine
end

