-- ==== Sys2Proof/Machine/Span.lean ====
section
/-! DEFINITION. What every family of commands does on the span links: span table entries of a port (15 R408, R409), output
queues of a port (02 R58, R64), fault queues (02 R54), received messages, the answers of an access (16 R443), and the route
of a relayed access (16 R449). -/

namespace Sys2Proof.Machine

/-- The span list entry of a span, when it is valid (15 R409). -/
def Node.spanEntryOf (n : Node) (span : Nat) : Option Nat :=
  match n.spans.find? (fun e => bit e.2 0 && fld e.2 127 112 == span) with
  | some e => some e.2
  | none => none

/-- The span list holds this instance (15 R409). -/
def Node.listHolds (n : Node) (span epoch : Nat) : Bool :=
  match n.spanEntryOf span with
  | some e => fld e 111 80 == epoch
  | none => false

/-- This hub is the head of the span instance (15 R409, 01 R31). -/
def Node.isHeadOf (n : Node) (span : Nat) : Bool :=
  match n.spanEntryOf span with
  | some e => bit e 1
  | none => false

/-- A port's span table entry is (span, epoch) (15 R408). -/
def Node.spanMatch (n : Node) (p span epoch : Nat) : Bool :=
  if !n.isHub then n.rd (Ob.lane_laneSpanEntry p) % 2 ^ 48 == span * 2 ^ 32 + epoch && span != 0
  else if n.level == 1 && p < 64 then
    n.rd (Ob.prt_portState p) == 1 && n.rd (Ob.prt_owner p) % 2 ^ 48 == span * 2 ^ 32 + epoch
  else match n.spanEntryOf span with
    | some e => fld e 111 80 == epoch && bit e (8 + p)
    | none => false

/-- The state of a link end (02 R70). -/
def Node.lst (n : Node) (p : Nat) : Nat := n.rd (Ob.link_state p)

/-- The ports with matching entry whose link end is MEMBER. -/
def Node.memberPorts (n : Node) (span epoch : Nat) : List Nat :=
  (upTo n.portCount).filter (fun p => n.spanMatch p span epoch && n.lst p == 6)

/-- A message takes its place in a queue: in order of readiness, then of the port it arrived on (02 R58). -/
def insertMsg (q : List QMsg) (m : QMsg) : List QMsg :=
  match q with
  | [] => [m]
  | x :: r =>
    if x.ready < m.ready || (x.ready == m.ready && x.inPort ≤ m.inPort) then x :: insertMsg r m else m :: x :: r

/-- A message becomes ready for a port: a span message for a port that is not MEMBER, and an OBJECT or TWIN message for a
port below SYNCED, is discarded and counted (02 R64). -/
def Node.enqueue (n : Node) (p : Nat) (q : QMsg) : Node :=
  let st := n.lst p
  if isSpanType q.msg.typ && st != 6 then n.bump (Ob.link_spanMessagesDropped p)
  else if (q.msg.typ == tObject || q.msg.typ == tTwin) && st < 5 then n.bump (Ob.link_spanMessagesDropped p)
  else n.modLink p (fun l =>
    if classOf q.msg.typ == 1 then { l with c1 := insertMsg l.c1 q }
    else if classOf q.msg.typ == 2 then { l with c2 := insertMsg l.c2 q }
    else { l with c3 := insertMsg l.c3 q })

/-- Send a message that this node originates (02 R58). -/
def Node.send (n : Node) (p : Nat) (m : Msg) : Node :=
  n.enqueue p { msg := m, ready := n.tb1 }

/-- Send a message that this node originates, not before a tick. -/
def Node.sendAt (n : Node) (p t : Nat) (m : Msg) : Node :=
  n.enqueue p { msg := m, ready := t }

/-- Forward a message from port `i` to port `p`, at least 49 ticks after the first word of its frame (02 R61). -/
def Node.forward (n : Node) (i p : Nat) (m : Msg) : Node :=
  n.enqueue p { msg := m, ready := m.first + 49, inPort := i }

/-- Send a message on several ports. -/
def Node.sendAll (n : Node) (ps : List Nat) (m : Msg) : Node := overAll ps (fun n p => n.send p m) n

/-- Send on both twin lanes (15 R434). -/
def Node.sendTwin (n : Node) (m : Msg) : Node := n.sendAll [66, 67] m

/-- The first message that waits at a port and passes a test. -/
def Node.peek (n : Node) (p : Nat) (f : Msg → Bool) : Option Msg := (n.linkOf p).taken.find? f

/-- Remove the first message that passes a test, as its cells free their buffers (02 R50, R59). -/
def dropMsg (f : Msg → Bool) : List Msg → List Msg
  | [] => []
  | m :: r => if f m then r else m :: dropMsg f r

/-- Take a message out of the port's buffer; C2 and C3 cells are freed and their credits fall due (02 R50, R59). -/
def Node.consume (n : Node) (p : Nat) (f : Msg → Bool) : Node :=
  match n.peek p f with
  | none => n
  | some m => n.modLink p (fun l =>
      { l with
        taken := dropMsg f l.taken
        freeC2 := if classOf m.typ == 2 then l.freeC2 + m.cells.length else l.freeC2
        freeC3 := if classOf m.typ == 3 then l.freeC3 + m.cells.length else l.freeC3 })

/-- Act on the message of a kind that waits at a port: it is taken out of the buffer and handled; without one nothing
happens (log entry 5). -/
def Node.onMsg (n : Node) (p : Nat) (f : Msg → Bool) (act : Msg → Node → Node) : Node :=
  match n.peek p f with
  | none => n
  | some m => act m (n.consume p f)

/-- Two waves of one (span, epoch, context) (02 R54). -/
def sameWave (a b : Nat) : Bool := slotSpan a == slotSpan b && slotEpoch a == slotEpoch b && slotCtx a == slotCtx b

/-- A wave enters a fault queue before another: on an earlier tick, or on the same tick from a lower port, then from a lower
origin (02 R54). -/
def WaveQ.before (a b : WaveQ) : Bool :=
  a.tick0 < b.tick0 || (a.tick0 == b.tick0 && (a.inPort < b.inPort || (a.inPort == b.inPort && slotOrigin a.slot < slotOrigin b.slot)))

/-- A wave takes its place in a fault queue, behind every entry that does not come after it (02 R54). -/
def insertWave : List WaveQ → WaveQ → List WaveQ
  | [], w => [w]
  | x :: r, w => if w.before x then w :: x :: r else x :: insertWave r w

/-- A wave that finds the fault queue full is dropped and counted, with cause 0x14 (02 R54). -/
def Node.waveLost (n : Node) (p slot : Nat) : Node :=
  (n.bump (Ob.link_faultSlotDrops p)).fault
    { cause := 0x14, span := slotSpan slot, region := p
      detail := put 79 64 (slotSpan slot) + put 63 58 (slotCtx slot) + put 57 38 (slotOrigin slot) + put 37 30 (slotCause slot) }

/-- A wave enters the fault queue of a port: discarded outside MEMBER, merged with an entry of its context (the one that enters
first keeps its cause and origin), dropped when the queue is full; waves of one tick enter in the order of the rule, whatever
the order of the commands (02 R54, R64). -/
def Node.queueWave (n : Node) (p inPort ready slot : Nat) : Node :=
  let w : WaveQ := { slot := slot, ready := ready, tick0 := n.tb1, inPort := inPort }
  let q := (n.linkOf p).faultQ
  let others := q.filter (fun e => !sameWave e.slot slot)
  if n.lst p != 6 then n.bump (Ob.link_faultSlotDrops p)
  else match q.find? (fun e => sameWave e.slot slot) with
    | some e => n.modLink p (fun l =>
        { l with merged := l.merged + 1, faultQ := if w.before e then insertWave others w else l.faultQ })
    | none =>
      let q1 := insertWave q w
      let n1 := n.modLink p (fun l => { l with faultQ := q1.take 8 })
      match q1.drop 8 with
      | [] => n1
      | x :: _ => n1.waveLost p x.slot

/-- The ports a wave is forwarded to: every port whose span table entry is its span instance, and both twin lanes
(02 R53). -/
def Node.wavePorts (n : Node) (span epoch : Nat) : List Nat :=
  (upTo n.portCount).filter (fun p => n.spanMatch p span epoch || (n.isHub && 66 ≤ p))

/-- A status of 0x1 to 0x4 or 0xA is a refused access (16 R470, object 0x1801.03). -/
def isRefusal (st : Nat) : Bool := (1 ≤ st && st ≤ 4) || st == 10

/-- An access ends: its status, and its data, which are zeros unless the status is 0 (16 R443). -/
def Node.answerData (n : Node) (st data len : Nat) : Node :=
  let n1 := (n.events 0x19 0 1).modAnswer 0 (fun _ => { status := st, data := if st == 0 then data else 0, len := if st == 0 then len else 0 })
  let n2 := if n.isHub then n1 else n1.wr Ob.acc_registerPortStatus st
  if isRefusal st then n2.bump Ob.acc_accessesRefused else n2

/-- A write ends with a status (16 R443). -/
def Node.answer (n : Node) (st : Nat) : Node := n.answerData st 0 0

/-- A write of an object of a unit that a command names: its effect where the configuration holds the unit, status 0x1 (no such
object) where it does not (16 R443). -/
def onObj (s : State) (u : Who) (ok : Bool) (f : Node → Node) : Host.Outcome State Fault Refusal :=
  onNode s u true (fun n => if ok then f n else n.answer 1)

/-- A command or write is accepted and takes effect, or is refused with status 0x3 (16 R443, R538). -/
def Node.accept (n : Node) (ok : Bool) (f : Node → Node) : Node := if ok then (f n).answer 0 else n.answer 3

/-! ### Values that are stored -/

/-- An object whose value is stored: in the Vault of a TSU, in the configuration flash of a hub (00 R17). -/
def rwsObj (k : Kind) (o : Nat) : Bool :=
  match findRow k o with
  | some r => r.right == .rws
  | none => false

/-- The RWS objects that do not hold their default (17 R488). -/
def Node.rwsHeld (n : Node) : Store := n.objs.filter (fun e => rwsObj n.kind e.1)

/-- Bytes of a record with `len` bytes of data (17 R487). -/
def recBytes (len : Nat) : Nat := 8 + (len + 7) / 8 * 8

/-- Bytes of an object. -/
def Node.sizeOf (n : Node) (o : Nat) : Nat := if o == Ob.det_coreMap then n.key.coreLen else widthOf n.kind o / 8

/-- Bytes of the kind-2 records held (17 R489). -/
def Node.savedBytes (n : Node) : Nat :=
  ((n.vault.recs.filter (fun r => r.2.1 == 2)).map (fun r => recBytes (n.sizeOf r.1))).sum +
  (if n.vault.regions.isEmpty then 0 else recBytes ((n.vault.regions.length + 1) / 2))

/-- A write of an RWS object of a TSU keeps the bytes used at or below 65,472 (17 R488). -/
def Node.vaultFits (n : Node) (o v : Nat) : Bool :=
  n.isHub || v == dfltOf n.kind o ||
  (((n.rwsHeld.filter (fun e => e.1 != o)).map (fun e => recBytes (n.sizeOf e.1))).sum + n.savedBytes + recBytes (n.sizeOf o)) ≤ 65472

/-- A write of an RWS object: accepted, or refused, with cause 0x83 kind 2 when the Vault is full (17 R488, R503). -/
def Node.rwsWrite (n : Node) (ok : Bool) (o v : Nat) (f : Node → Node) : Node :=
  if !ok then n.answer 3
  else if n.vaultFits o v then (f n).answer 0
  else (n.fault { cause := 0x83, obj := put 31 8 o, detail := put 79 72 2 }).answer 3

/-- Where a relayed message for a destination goes (16 R449). -/
inductive Hop where
  | here | port (p : Nat) | drop
  deriving DecidableEq, Repr

/-- A destination lies in the hub's primary subtree (16 R449, 01 R28, 02 R66). -/
def Node.inSubtree (n : Node) (dst : Nat) : Bool :=
  let lv := fld dst 19 18
  if n.level == 3 then lv < 3
  else if n.level == 2 then lv < 2 && fld dst 17 12 == n.arch
  else lv == 0 && fld dst 17 12 == n.arch && fld dst 11 6 == n.pier

/-- The next hop of a relayed message (16 R449). -/
def Node.relayHop (n : Node) (dst : Nat) : Hop :=
  if dst == n.ident then .here
  else if n.inSubtree dst then
    .port (if n.level == 3 then (if n.threeLevel then fld dst 17 12 else fld dst 11 6)
           else if n.level == 2 then fld dst 11 6 else fld dst 5 0)
  else if n.level == 3 then .drop
  else if 5 ≤ n.lst 64 then .port 64 else .port 65

/-- The response to an object request: it echoes destination, source, tag, index, subindex and offset (16 R447). -/
def objResponse (req : Nat) (len last status : Nat) (payload : List Nat) : Msg :=
  { typ := tObject
    cells := (put 127 124 3 + put 123 32 (fld req 123 32) + put 31 25 len + put 24 24 last + put 23 20 status) :: payload }

/-- Payload bytes in CONT cells: byte j in bits [127 - 8m : 120 - 8m] of its cell (16 R448). -/
def payloadCells (bytes : List Nat) : List Nat :=
  (upTo ((bytes.length + 15) / 16)).map (fun i => (upTo 16).foldl (fun a m => a * 256 + bytes.getD (16 * i + m) 0 % 256) 0)

/-- The payload bytes of a message (16 R448). -/
def payloadBytes (m : Msg) (len : Nat) : List Nat :=
  (upTo len).map (fun j => m.cell (j / 16 + 1) / 2 ^ (120 - 8 * (j % 16)) % 256)

/-- The head cell of an object request (16 R447). -/
def objHead (kind dst src tag idx sub off len last : Nat) : Nat :=
  put 127 124 kind + put 123 104 dst + put 103 84 src + put 83 72 tag + put 71 56 idx + put 55 48 sub + put 47 32 off +
  put 31 25 len + put 24 24 last

/-- A tag that no relayed request and no open transfer of this hub holds, from the next one on (16 R447). -/
def Node.freeTag (n : Node) : Nat :=
  let a := n.access
  let used := a.relays.map (·.tag) ++ a.xfers.map (·.tag)
  (((upTo 4096).map (fun i => (a.nextTag + i) % 4096)).find? (fun t => !used.contains t)).getD a.nextTag

/-- A relayed request leaves on its route and is kept until its RESPONSE; without a route it has to be dropped (16 R447, R449, R451). The
Bool says that it left. -/
def Node.sendRelay (n : Node) (kind dst tag oid off len last : Nat) (bytes : List Nat) : Node × Bool :=
  let m : Msg := { typ := tObject, cells := objHead kind dst n.ident tag (oid / 256) (oid % 256) off len last :: payloadCells bytes }
  match n.relayHop dst with
  | .port p =>
    if 5 ≤ n.lst p then
      ((if kind == 4 then n else n.modAccess (fun a => { a with relays := a.relays ++ [{ tag := tag, dst := dst, msg := m, tick0 := n.tb1 }] })).send p m, true)
    else (n, false)
  | _ => (n, false)

/-- The hub's firmware originates a relayed request under the next tag; one that has no route ends with status 0x7 (16 R447, R451). -/
def Node.originate (n : Node) (kind dst oid off len last : Nat) (bytes : List Nat) : Node :=
  let tag := n.freeTag
  ((n.modAccess (fun a => { a with nextTag := (tag + 1) % 4096 })).sendRelay kind dst tag oid off len last bytes).1

/-- A relayed request ends: its answer is kept for the GOA request that waits for it (16 R451, R457). -/
def Node.relayEnded (n : Node) (r : RelayReq) (status : Nat) (last : Bool) (data : List Nat) : Node :=
  n.modAccess (fun a =>
    { a with
      relays := a.relays.filter (fun x => x.tag != r.tag)
      replies := if a.reqs.any (fun q => q.wait == some r.tag) then a.replies ++ [{ tag := r.tag, status := status, last := last, data := data }] else a.replies })

/-- A relayed write of a short object (16 R447). -/
def Node.relayWrite (n : Node) (dst oid len v : Nat) : Node := n.originate 2 dst oid 0 len 1 (leBytes len v)

/-! ### Span table conflicts -/

/-- Cause 0x90 (15 R410, R411, R435): kind 1 port held, 2 epoch below r + 2, 3 resource held, 4 list full or span absent, 5 head entry
running; the span written and the one that holds, the epoch written, and r or the holding epoch. -/
def Node.tableFault (n : Node) (kind : Nat) (port : Option Nat) (span held epoch other : Nat) : Node :=
  (n.bump Ob.lst_conflicts).fault
    { cause := 0x90, region := port.getD 1023, obj := put 31 16 span + put 15 0 held
      detail := put 79 72 kind + put 71 40 epoch + put 39 8 other }

/-- An activating write for a span: refused with cause 0x90 where another span holds the resource (kind 3) or the list does not hold the
span (kind 4) (15 R411). -/
def Node.forSpan (n : Node) (span : Nat) (holder : Option Nat) (f : Node → Node) : Node :=
  match holder with
  | some h => (n.tableFault 3 none span h 0 0).answer 3
  | none => if (n.spanEntryOf span).isSome then f n else (n.tableFault 4 none span 0 0 0).answer 3

/-! ### Downlinks that leave MEMBER -/

/-- Number of elements of a descriptor (12 R318). -/
def dLen (d : Nat) : Nat := fld d 231 219

/-- Elements that every downlink still in the expected set has delivered; all of them when the set is empty (12 R335). -/
def Engine.delivered (g : Engine) (len : Nat) : Nat := ((g.ins.filter (fun i => !i.gone)).map (·.nxt)).foldl min len

/-- The elements that have become complete take the tick of their completion (12 R335, R336). -/
def Engine.complete (g : Engine) (len tick : Nat) : Engine :=
  let k := g.delivered len
  if k ≤ g.comp then g
  else
    { g with
      comp := k
      elems := ((List.range (k - g.comp)).map (· + g.comp)).foldl
        (fun l i => tblSet l i { tblGet {} l i with doneAt := tick }) g.elems }

/-- Descriptor of an engine's configuration (12 R355). -/
def Node.engDesc (n : Node) (e : Nat) : Nat := bits (n.rd (Ob.eng_configuration e)) 64 256

/-- A downlink leaves an instance's expected set (12 R335). -/
def Engine.dropPort (g : Engine) (p : Nat) : Engine :=
  { g with ins := g.ins.map (fun i => if i.port == p then { i with gone := true } else i) }

/-- A downlink leaves a trail's expected set; with none left the trail closes 16 ticks after its last TAG (13 R376). -/
def Trail.dropPort (t : Trail) (p : Nat) : Trail :=
  let left := t.expect.filter (· != p)
  if t.expect.contains p && left.isEmpty then { t with expect := left, due := some (nextMul 8 (t.lastAt + 16)) }
  else { t with expect := left }

/-- A link end that leaves MEMBER leaves the expected sets of the Clearing instances and the trails (12 R335, R348, 13 R376). -/
def Node.leaveSets (n : Node) (p : Nat) : Node :=
  { n with
    engines := n.engines.map (fun e => (e.1, if e.2.live then (e.2.dropPort p).complete (dLen (n.engDesc e.1)) n.tb1 else e.2))
    trails := n.trails.map (fun t => t.dropPort p) }

end Sys2Proof.Machine
end

