-- ==== Sys2Proof/Machine/Stamps.lean ====
section
/-! DEFINITION. Stamps (04 R98 to R101) and the measurement slots that take edges (04 R109 to R111). -/

namespace Sys2Proof.Machine

/-- The node has this TDC channel: a span port's, or 0x60 + i for event input i (04 R99). -/
def Node.hasChan (n : Node) (c : Nat) : Bool := decide (c < n.portCount) || (0x60 ≤ c && c < 0x68)

/-- The channels of a node. -/
def Node.chanList (n : Node) : List Nat := upTo n.portCount ++ (upTo 8).map (fun i => 0x60 + i)

/-- The stamp of an edge in a tick: through the calibration table, or coarse while the DLL is unlocked (04 R100, R102). -/
def Node.stampAt (n : Node) (c tick code : Nat) : Nat :=
  tick * 65536 + (if (n.chanOf c).dll then fieldAt (n.rd (Ob.chan_calibrationTable c)) (2 * code) 2
    else 4096 * (code / 32) + 2048)

/-- The stamp of an edge in the tick TB1 holds (04 R100). -/
def Node.stampOf (n : Node) (c code : Nat) : Nat := n.stampAt c n.tb1 code

/-- An edge of a source is offered to one slot: the first start edge, then the first stop edge from it on, in the slot's marker
period; a stop edge that comes before the start is known is kept until then. An event input's edge carries its count (04 R108, R109). -/
def MSlot.take (m : MSlot) (src stamp : Nat) (coarse : Bool) (count : Option Nat) : MSlot :=
  if stamp < m.opened * 65536 || (m.opened + 512) * 65536 ≤ stamp then m
  else match m.start, m.stop with
    | none, _ =>
      if src == m.src0 then
        { m with
          start := some (stamp, coarse, count), early := []
          stop := if m.src1 == 0x70 && m.src0 != 0x70 && stamp == m.opened * 65536 then some (stamp, false, none)
            else m.early.find? (fun e => decide (stamp ≤ e.1)) }
      else if src == m.src1 then { m with early := m.early ++ [(stamp, coarse, count)] }
      else m
    | some (s, _), none => if src == m.src1 && s ≤ stamp then { m with stop := some (stamp, coarse, count) } else m
    | some _, some _ => m

/-- An edge of a source is offered to every general slot (04 R109). -/
def Node.offerEdge (n : Node) (src stamp : Nat) (coarse : Bool) (count : Option Nat) : Node :=
  { n with mslots := n.mslots.map (fun e => (e.1, e.2.take src stamp coarse count)) }

/-- The nominal period of an event input in time units (04 R107). -/
def Node.nomPeriod (n : Node) (i : Nat) : Nat :=
  match n.rd (Ob.ev_nominalCode i) with
  | 0 => 102400000000000
  | 1 => 10240000
  | 2 => 4096000
  | 3 => 655360
  | _ => n.rd (Ob.ev_nominalPeriod i)

/-- A hold-off is allowed for a nominal period: it is less than half of it (04 R107). -/
def holdOffOk (h period : Nat) : Bool := decide (h * 65536 * 2 < period)

end Sys2Proof.Machine
end

