-- ==== Sys2Proof/Machine/Link.lean ====
section
/-! DEFINITION. The span link (02): link states, HELLO, frames sent and received, fault slots. -/

namespace Sys2Proof.Machine

/-- A node holds a port. -/
def Node.hasPort (n : Node) (p : Nat) : Bool := decide (p < n.portCount)

/-- A port is a child end: a TSU lane or a hub uplink (02 R66, R67). -/
def Node.isChildEnd (n : Node) (p : Nat) : Bool := !n.isHub || p == 64 || p == 65

/-- A port is a twin lane (02 R67). -/
def Node.isTwinPort (n : Node) (p : Nat) : Bool := n.isHub && 66 ≤ p

/-- The role a port states in its HELLO: 1 parent, 2 child, 3 twin (02 R66). -/
def Node.role (n : Node) (p : Nat) : Nat := if n.isTwinPort p then 3 else if n.isChildEnd p then 2 else 1

/-- The plane of a port: lane a of a TSU is plane A (02 R67, 01 R25). -/
def Node.portPlane (n : Node) (p : Nat) : Nat := if n.isHub then n.plane else p

/-- A queue without its messages of some kinds, and how many it lost. -/
def purge (q : List QMsg) (f : Nat → Bool) : List QMsg × Nat :=
  (q.filter (fun m => !f m.msg.typ), (q.filter (fun m => f m.msg.typ)).length)

/-- Discard the queued messages of some kinds at a port and count them (02 R64). -/
def Node.discardQueued (n : Node) (p : Nat) (f : Nat → Bool) : Node :=
  let l := n.linkOf p
  let a := purge l.c1 f
  let b := purge l.c2 f
  let c := purge l.c3 f
  (n.modLink p (fun l =>
    { l with c1 := a.1, c2 := b.1, c3 := c.1, c3head := if c.1.head? == l.c3.head? then l.c3head else none })).addTo (Ob.link_spanMessagesDropped p) (a.2 + b.2 + c.2)

/-- A relayed request that waited for a port whose route is lost is answered with status 0x7: this hub's own requests end,
and queued requests of other hubs are answered towards their source (02 R64, 16 R443, R449). -/
def Node.routeLost (n : Node) (p : Nat) : Node :=
  let viaPort := fun (dst : Nat) => n.relayHop dst == .port p
  let ended := n.access.relays.filter (fun r => viaPort r.dst)
  let queued := ((n.linkOf p).c3.map (·.msg)).filter (fun m =>
    m.typ == tObject && (fld m.head 127 124 == 1 || fld m.head 127 124 == 2) && fld m.head 103 84 != n.ident)
  let n1 := overAll ended (fun n r => n.relayEnded r 7 false []) n
  overAll queued (fun n m =>
    match n.relayHop (fld m.head 103 84) with
    | .port q => if q == p then n else n.send q (objResponse m.head 0 0 7 [])
    | _ => n) n1

/-- A link end leaves MEMBER: queued span messages and waves are discarded and counted, without a cause (02 R64). -/
def Node.leaveMember (n : Node) (p : Nat) : Node :=
  let waves := (n.linkOf p).faultQ.length
  (((n.leaveSets p).discardQueued p isSpanType).modLink p (fun l => { l with faultQ := [] })).addTo (Ob.link_faultSlotDrops p) waves

/-- A link end leaves SYNCED for a lower state: OBJECT and TWIN messages are discarded, waiting relayed accesses answered
with route lost (02 R64). -/
def Node.leaveSynced (n : Node) (p : Nat) : Node :=
  (n.routeLost p).discardQueued p (fun t => t == tObject || t == tTwin)

/-- A hub keeps the tick since which both of its twin lanes have been out of SYNCED; the reports of a twin that does not lead count while both lanes
are SYNCED (10 R274). -/
def Node.twinWatch (n : Node) : Node :=
  if !n.isHub then n
  else
    let n1 := if n.lst 66 < 5 || n.lst 67 < 5 then n.modLead (fun l => { l with zeroAt := none }) else n
    if n.lst 66 < 5 && n.lst 67 < 5 then
      n1.modLead (fun l => { l with twinOutAt := match l.twinOutAt with | some t => some t | none => some n.tb1 })
    else n1.modLead (fun l => { l with twinOutAt := none })

/-- A link end enters a state: the last change is its tick (02 R62 to R64, R70). The HELLO repeats still due go on through every
state but DARK, in which nothing is sent (02 R65; log entry 221); buffers freed and not yet returned are kept, and returned when frames
carry credits again (log entry 222). -/
def Node.enterLink (n : Node) (p st : Nat) : Node :=
  let old := n.lst p
  let n1 := if old == 6 then n.leaveMember p else n
  let n2 := if 5 ≤ old && st < 5 then n1.leaveSynced p else n1
  let n3 := ((n2.wr (Ob.link_state p) st).wr (Ob.link_lastChange p) n.tb1).twinWatch
  n3.modLink p (fun l =>
    { l with
      since := n.tb1
      stored := if st == 3 then none else l.stored
      ackSend := l.ackSend && st != 3 && st != 0
      repeats := if st == 0 then 0 else l.repeats
      lastTry := if st == 0 then n.tb1 else l.lastTry
      wakeAt := none })

/-- A link end goes to a state; one that is in it already stays, so that its timeout runs on. TRAIN looks for an alignment
afresh (02 R63). -/
def Node.setLink (n : Node) (p st : Nat) : Node :=
  let n1 := if n.lst p == st then n else n.enterLink p st
  if st == 2 then n1.modLink p (fun l => { l with goodRun := 0, badRun := 0 }) else n1

/-- A HELLO that sends a link end back to HELLO: it has ack = 0 or another content than the stored one (02 R63). -/
def Node.helloBreaks (n : Node) (p : Nat) (m : Msg) : Bool :=
  m.typ == tHello && (fld m.head 104 104 == 0 || (n.linkOf p).stored != some (m.head - put 104 104 (fld m.head 104 104), m.cell 1))

/-- A row of the table of changes that stands above the rows of timeouts and of time lock holds on this tick (02 R63): frame lock
lost, a HELLO that breaks, frames that gave alignment, a HELLO that waits in HELLO. The lower rows do not apply then. -/
def Node.rowAbove (n : Node) (p : Nat) : Bool :=
  let st := n.lst p
  let l := n.linkOf p
  (2 ≤ st && 4 ≤ l.badRun) || (4 ≤ st && l.taken.any (n.helloBreaks p)) || (st == 2 && 8 ≤ l.goodRun) ||
    (st == 3 && l.taken.any (fun m => m.typ == tHello))

/-- Record the cause of a change of state (02 R63, R70). -/
def Node.linkCause (n : Node) (p cause detail : Nat) : Node :=
  (n.portFault cause p detail).wr (Ob.link_lastExitCause p) cause

/-- A link end reaches SYNCED: a Pier writes the lane entry of an owned downlink again (15 R412). -/
def Node.reachSynced (n : Node) (p : Nat) : Node :=
  let n1 := n.setLink p 5
  if n.isHub && n.level == 1 && p < 64 && n.rd (Ob.prt_portState p) == 1 then
    (n1.modDport p (fun d => { d with pendLane := true })).wr (Ob.prt_laneEntryWritten p) 0
  else n1

/-- Enable written: 0 takes the link end to DARK, 1 takes MEMBER to SYNCED, 2 lets it rise; other values are refused
(02 R63, R70). -/
def linkEnable (p v : Nat) (n : Node) : Node :=
  n.rwsWrite (v ≤ 2) (Ob.link_enable p) v (fun n =>
    let n1 := n.wr (Ob.link_enable p) v
    if v == 0 then n1.setLink p 0
    else if v == 1 && n1.lst p == 6 then n1.setLink p 5
    else n1)

/-- `LINK_ENABLE_WRITE` (02 R63). -/
def execLinkEnableWrite (u : Who) (p v : Nat) (s : State) : Host.Outcome State Fault Refusal :=
  onObj s u ((s.node u).hasPort p) (linkEnable p v)

/-- Command 1: to DARK, then WAKE on the next tick (02 R70). -/
def linkRestart (p : Nat) (n : Node) : Node :=
  ((n.setLink p 0).modLink p (fun l => { l with restart := some n.tb1, held := false })).answer 0

/-- `LINK_RESTART` (02 R70). -/
def execLinkRestart (u : Who) (p : Nat) (s : State) : Host.Outcome State Fault Refusal :=
  onObj s u ((s.node u).hasPort p) (linkRestart p)

/-- Command 2: the wake pattern is sent once from DARK, without training (02 R70); in another state it has no DARK to start
from and changes nothing. -/
def sendWake (p : Nat) (n : Node) : Node :=
  (when (n.lst p == 0) (fun n => n.modLink p (fun l => { l with wakeAt := some n.tb1 })) n).answer 0

/-- `SEND_WAKE_PATTERN` (02 R70). -/
def execSendWakePattern (u : Who) (p : Nat) (s : State) : Host.Outcome State Fault Refusal :=
  onObj s u ((s.node u).hasPort p) (sendWake p)

/-- No signal for 1,024 ticks: DARK with cause 0x10 (02 R63); the host latency codes are no longer valid (18 R510). -/
def lossOfSignal (p : Nat) (n : Node) : Node :=
  let st := n.lst p
  let n1 := n.modLink p (fun l => { l with sigDet := false })
  when (2 ≤ st) (fun n => (n.setLink p 0).linkCause p 0x10 (put 79 72 st)) n1

/-- `LOSS_OF_SIGNAL` (02 R63). -/
def execLossOfSignal (u : Who) (p : Nat) (s : State) : Host.Outcome State Fault Refusal :=
  onNode s u ((s.node u).hasPort p) (lossOfSignal p)

/-- Four consecutive uncorrectable frames: TRAIN, with cause 0x11 except from TRAIN (02 R63). -/
def frameLockLost (p : Nat) (n : Node) : Node :=
  let st := n.lst p
  when (2 ≤ st && 4 ≤ (n.linkOf p).badRun) (fun n =>
    let n1 := n.setLink p 2
    if st == 2 then n1
    else n1.linkCause p 0x11 (put 79 72 st + put 63 0 (n.rd (Ob.link_uncorrectableFrames p)))) n

/-- `FRAME_LOCK_LOST` (02 R63). -/
def execFrameLockLost (u : Who) (p : Nat) (s : State) : Host.Outcome State Fault Refusal :=
  onNode s u ((s.node u).hasPort p) (frameLockLost p)

/-- A restart command was given on a tick before this one (02 R70). -/
def Node.restartDue (n : Node) (p : Nat) : Bool :=
  match (n.linkOf p).restart with
  | some t => t != n.tb1
  | none => false

/-- An enabled link end may leave DARK (02 R63, 17 R489, R491). -/
def Node.mayWake (n : Node) (p : Nat) : Bool :=
  n.lst p == 0 && n.rd (Ob.link_enable p) != 0 && !(n.start.darkHold && p < 66)

/-- DARK goes to WAKE (02 R63). -/
def Node.enterWake (n : Node) (p : Nat) : Node := (n.setLink p 1).modLink p (fun l => { l with restart := none })

/-- An enabled link end in DARK that is not held enters WAKE on signal, restart or 1 ms in DARK (02 R63). -/
def darkRetry (p : Nat) (sig : Bool) (n : Node) : Node :=
  let l := n.linkOf p
  let n1 := n.modLink p (fun l => { l with sigDet := sig })
  when (n.mayWake p && (n.restartDue p || (!l.held && (sig || l.lastTry + 1562500 ≤ n.tb1)))) (fun n => n.enterWake p) n1

/-- On the tick after a restart command the link end enters WAKE; one that is not enabled stays in DARK (02 R63, R70). -/
def Node.restartTick (n : Node) : Node :=
  overAll ((n.links.filter (fun e => e.2.restart.isSome)).map (·.1)) (fun n p =>
    if n.restartDue p then
      (if n.mayWake p then n.enterWake p
       else if n.rd (Ob.link_enable p) == 0 then n.modLink p (fun l => { l with restart := none }) else n)
    else n) n

/-- `DARK_RETRY` (02 R63). -/
def execDarkRetry (u : Who) (p : Nat) (sig : Bool) (s : State) : Host.Outcome State Fault Refusal :=
  onNode s u ((s.node u).hasPort p) (darkRetry p sig)

/-- The 32,000 ticks of the wake pattern have been sent: WAKE goes to TRAIN (02 R62, R63); a pattern sent by command 2 ends
(02 R70). -/
def wakeComplete (p : Nat) (n : Node) : Node :=
  let l := n.linkOf p
  if n.lst p == 1 then when (l.since + 32000 ≤ n.tb1) (fun n => n.setLink p 2) n
  else match l.wakeAt with
    | some t => when (t + 32000 ≤ n.tb1) (fun n => n.modLink p (fun l => { l with wakeAt := none })) n
    | none => n

/-- `WAKE_COMPLETE` (02 R63). -/
def execWakeComplete (u : Who) (p : Nat) (s : State) : Host.Outcome State Fault Refusal :=
  onNode s u ((s.node u).hasPort p) (wakeComplete p)

/-- Eight consecutive correctable frames at one alignment: HELLO (02 R63); the expected index stands (02 R49). -/
def trainLock (p : Nat) (n : Node) : Node :=
  when (n.lst p == 2 && 8 ≤ (n.linkOf p).goodRun) (fun n => n.setLink p 3) n

/-- `TRAIN_LOCK` (02 R63). -/
def execTrainLock (u : Who) (p : Nat) (s : State) : Host.Outcome State Fault Refusal :=
  onNode s u ((s.node u).hasPort p) (trainLock p)

/-- The timeout of a link state (02 R63, R70). -/
def Node.stateTimeout (n : Node) (st : Nat) : Nat :=
  if st == 2 then n.rd Ob.linkCfg_trainTimeout
  else if st == 3 then n.rd Ob.linkCfg_helloTimeout else n.rd Ob.linkCfg_measureTimeout

/-- Lock at both ends takes MEASURE to SYNCED, a row above the timeout of MEASURE (02 R63, 03 R85). -/
def Node.syncedDue (n : Node) (p : Nat) : Bool := n.lst p == 4 && (n.portOf p).bothLocked

/-- The timeout of TRAIN, HELLO or MEASURE expires: DARK with cause 0x15, unless a row above it holds on the tick (02 R63). -/
def linkTimeout (p : Nat) (n : Node) : Node :=
  let st := n.lst p
  when (2 ≤ st && st ≤ 4 && (n.linkOf p).since + n.stateTimeout st ≤ n.tb1 && !n.rowAbove p && !n.syncedDue p)
    (fun n => (n.setLink p 0).linkCause p 0x15 (put 79 72 st + put 63 32 (n.stateTimeout st))) n

/-- `LINK_STATE_TIMEOUT` (02 R63). -/
def execLinkStateTimeout (u : Who) (p : Nat) (s : State) : Host.Outcome State Fault Refusal :=
  onNode s u ((s.node u).hasPort p) (linkTimeout p)

/-- Time transfer reports lock at both ends: MEASURE goes to SYNCED (02 R63, 03 R85). -/
def linkSynced (p : Nat) (n : Node) : Node :=
  when (n.syncedDue p && !n.rowAbove p) (fun n => n.reachSynced p) n

/-- `LINK_SYNCED` (02 R63). -/
def execLinkSynced (u : Who) (p : Nat) (s : State) : Host.Outcome State Fault Refusal :=
  onNode s u ((s.node u).hasPort p) (linkSynced p)

/-- At a marker, with enable 2 and lock held at both ends for the member hold: MEMBER (02 R63). A TSU with Strict set whose lane has no
feature bit 2 records cause 0x61 at that entry (13 R358). -/
def memberHold (p : Nat) (n : Node) : Node :=
  when (n.lst p == 5 && n.rd (Ob.link_enable p) == 2 && (n.portOf p).bothLocked && n.tb1 % 512 == 0 &&
        (n.portOf p).lockSince + 512 * n.rd Ob.linkCfg_memberHold ≤ n.tb1 && !n.rowAbove p)
    (fun n =>
      let n1 := n.setLink p 6
      if !n.isHub && n.rd Ob.det_strict == 1 && !bit (n.rd (Ob.link_operatingFeatures p)) 2 then n1.portFault 0x61 p 0
      else n1) n

/-- `MEMBER_HOLD_REACHED` (02 R63). -/
def execMemberHoldReached (u : Who) (p : Nat) (s : State) : Host.Outcome State Fault Refusal :=
  onNode s u ((s.node u).hasPort p) (memberHold p)

/-- Time transfer reports loss of lock: MEMBER goes to SYNCED (02 R63). -/
def memberLockLoss (p : Nat) (n : Node) : Node :=
  when (n.lst p == 6 && !(n.portOf p).bothLocked && !n.rowAbove p) (fun n => n.reachSynced p) n

/-- `MEMBER_LOCK_LOSS` (02 R63). -/
def execMemberLockLoss (u : Who) (p : Nat) (s : State) : Host.Outcome State Fault Refusal :=
  onNode s u ((s.node u).hasPort p) (memberLockLoss p)

/-! ### HELLO -/

/-- C2 cells this node can hold for a link (02 R66). -/
def bufsC2 : Nat := 1 + Config.bufC2 % 255

/-- C3 cells this node can hold for a link (02 R66). -/
def bufsC3 : Nat := 1 + Config.bufC3 % 255

/-- The HELLO this node sends on a port (02 R66). -/
def Node.helloMsg (n : Node) (p : Nat) : Msg :=
  { typ := tHello
    cells := [put 127 126 (n.rd Ob.idn_generation) + put 125 118 (fld (n.rd Ob.idn_version) 23 16) +
              put 117 110 (fld (n.rd Ob.idn_version) 15 8) + put 109 108 (n.rd Ob.idn_nodeKind) + put 107 106 (n.role p) +
              put 105 105 (n.portPlane p) + put 104 104 (ofB ((n.linkOf p).ackSend || 0 < (n.linkOf p).repeats)) + put 103 84 n.ident + put 83 77 p +
              put 76 69 bufsC2 + put 68 61 bufsC3,
              put 127 64 (n.rd Ob.linkCfg_localFeatures) + put 63 44 (n.linkOf p).rxIdent + put 43 37 (n.linkOf p).rxPort] }

/-- The level and kind that the parent of a pair expects of its child: a Pier expects a TSU, an Arch a Pier, a Keystone an
Arch or, in a two-level hall, a Pier (02 R68). -/
def childExpected (threeLevel : Bool) (parentLevel childKind childLevel : Nat) : Bool :=
  if parentLevel == 1 then childKind != 3
  else if parentLevel == 2 then childKind == 3 && childLevel == 1
  else childKind == 3 && childLevel == (if threeLevel then 2 else 1)

/-- The partner on the other uplink of a hub has this identity, or is a Keystone as this one is (02 R68). -/
def Node.sameParent (n : Node) (p id : Nat) : Bool :=
  n.isHub && (p == 64 || p == 65) && match (n.linkOf (129 - p)).stored with
    | some (h, _) => id == fld h 103 84 || (fld id 19 18 == 3 && fld h 19 18 == 3)
    | none => false

/-- The case of 02 R68 under which a partner's HELLO is refused, in listed order; 0 when it is accepted. -/
def Node.helloCase (n : Node) (p h : Nat) : Nat :=
  let role := fld h 107 106
  let kind := fld h 109 108
  let plane := fld h 105 105
  let id := fld h 103 84
  let mine := n.role p
  let myKind := n.rd Ob.idn_nodeKind
  if fld h 127 126 == 0 || kind == 0 || role == 0 then 1
  else if !((mine == 1 && role == 2) || (mine == 2 && role == 1) || (mine == 3 && role == 3)) then 2
  else if mine != 3 && plane != n.portPlane p then 3
  else if mine == 3 && (plane == n.portPlane p || fld id 19 18 != n.level || fld id 17 12 != n.arch || fld id 11 6 != n.pier) then 4
  else if mine == 1 && !childExpected n.threeLevel n.level kind (fld id 19 18) then 5
  else if mine == 2 && !childExpected n.threeLevel (fld id 19 18) myKind n.level then 5
  else if n.sameParent p id then 6
  else 0

/-- The die number that a Pier's HELLO gives a TSU (02 R68). -/
def dieFrom (h : Nat) : Nat := dieNumber (fld (fld h 103 84) 17 12) (fld (fld h 103 84) 11 6) (fld h 83 77)

/-- A TSU's other lane has given a different die number (02 R68). -/
def Node.dieClash (n : Node) (p h : Nat) : Bool :=
  !n.isHub && (n.linkOf (1 - p)).stored.isSome && n.ident != 0xFFFFF && n.ident != dieFrom h

/-- A refused HELLO: DARK, held until a restart command (02 R63, R68). -/
def Node.refuseHello (n : Node) (p cause detail : Nat) : Node :=
  ((n.setLink p 0).modLink p (fun l => { l with held := true })).linkCause p cause detail

/-- The content of a HELLO without its ack bit (02 R65). -/
def helloContent (m : Msg) : Nat × Nat := (m.head - put 104 104 (fld m.head 104 104), m.cell 1)

/-- A TSU that accepts a HELLO with another version than the one held has a changed key input (13 R361). -/
def Node.versionKey (n : Node) (p h : Nat) : Node :=
  if !n.isHub && n.rd (Ob.link_partnerVersion p) != fld h 125 118 * 256 + fld h 117 110 then n.keyInput 1 else n

/-- An accepted HELLO is stored; the partner's identity, port, version, generation and features are recorded
(02 R68, R69, R70). -/
def Node.acceptHello (n : Node) (p : Nat) (m : Msg) : Node :=
  let h := m.head
  let n0 := if n.isHub then n else (n.versionKey p h).wr Ob.idn_identity (dieFrom h)
  let n1 := (((n0.wr (Ob.link_partnerIdentity p) (fld h 103 84)).wr (Ob.link_partnerPort p) (fld h 83 77)).wr
    (Ob.link_partnerVersion p) (fld h 125 118 * 256 + fld h 117 110)).wr
    (Ob.link_operatingGeneration p) (min (fld h 127 126) (n.rd Ob.idn_generation))
  let n2 := n1.wr (Ob.link_operatingFeatures p) ((n.rd Ob.linkCfg_localFeatures &&& fld (m.cell 1) 127 64) &&& 0xF)
  n2.modLink p (fun l => { l with stored := some (helloContent m), ackSend := true, advC2 := fld h 76 69, advC3 := fld h 68 61 })

/-- HELLO goes to MEASURE: credits take the advertised sizes (02 R59), and 64 repeats fall due (02 R65). -/
def Node.leaveHello (n : Node) (p : Nat) : Node :=
  (n.setLink p 4).modLink p (fun l => { l with repeats := 64, credC2 := l.advC2, credC3 := l.advC3 })

/-- A HELLO that waits at a port is handled by the state of the link end (02 R63, R65, R68). -/
def helloReceived (p : Nat) (n : Node) : Node :=
  n.onMsg p (fun m => m.typ == tHello) (fun m n =>
    let h := m.head
    let st := n.lst p
    let n := n.modLink p (fun l => { l with rxIdent := fld h 103 84, rxPort := fld h 83 77 })
    if 4 ≤ (n.linkOf p).badRun then n
    else if 4 ≤ st then when (n.helloBreaks p m) (fun n => n.setLink p 3) n
    else if st == 3 then
      let k := n.helloCase p h
      if k != 0 then
        n.refuseHello p 0x13 (put 79 72 k + put 71 52 (fld h 103 84) + put 51 45 (fld h 83 77) + put 44 43 (fld h 127 126) +
          put 42 41 (fld h 109 108) + put 40 39 (fld h 107 106))
      else if n.dieClash p h then
        n.refuseHello p 0x16 (if p == 0 then put 79 60 (dieFrom h) + put 59 40 n.ident else put 79 60 n.ident + put 59 40 (dieFrom h))
      else
        let n1 := n.acceptHello p m
        if fld h 104 104 == 1 then n1.leaveHello p else n1
    else n)

/-- `HELLO_RECEIVED` (02 R68). -/
def execHelloReceived (u : Who) (p : Nat) (s : State) : Host.Outcome State Fault Refusal :=
  onNode s u ((s.node u).hasPort p) (helloReceived p)

/-! ### Frames received -/

/-- What the cells of a frame come to: the messages taken whole, cells dropped as malformed, and the C2 and C3 cells among
these. -/
structure Parsed where
  /-- Messages in order. -/
  msgs : List Msg := []
  /-- The message being gathered: type and cells. -/
  cur : Option (Nat × List Nat) := none
  /-- The cells that follow are dropped with their head. -/
  dropping : Bool := false
  /-- Malformed cells (02 R56, R57). -/
  bad : Nat := 0
  /-- Type of the head that is being dropped (02 R56). -/
  gone : Nat := 0
  /-- C2 cells dropped, which hold no buffer (02 R59; log entry 218). -/
  free2 : Nat := 0
  /-- C3 cells dropped, which hold no buffer (02 R59; log entry 218). -/
  free3 : Nat := 0
  deriving DecidableEq, Repr

/-- The message being gathered is whole. -/
def Parsed.flush (r : Parsed) (first : Nat) : Parsed :=
  match r.cur with
  | none => r
  | some (t, cs) => { r with msgs := r.msgs ++ [{ typ := t, cells := cs, first := first }], cur := none }

/-- A cell of a head of type `t` is dropped: counted, and the buffer kept for it is free again (02 R56, R59; log entry 218). -/
def Parsed.drop (r : Parsed) (t : Nat) : Parsed :=
  { r with
    bad := r.bad + 1
    free2 := r.free2 + ofB (decide (t ≤ 9) && classOf t == 2)
    free3 := r.free3 + ofB (decide (t ≤ 9) && classOf t == 3) }

/-- A head cell is accepted: its type is defined and valid in the link state, TWIN only on twin lanes, TIME only in a marker
frame (02 R56, 03 R79). -/
def headOk (st : Nat) (twin marker : Bool) (t : Nat) : Bool :=
  decide (t ≤ 9) && decide (validFrom t ≤ st) && (t != tTwin || twin) && (t != tTime || marker)

/-- One cell of a frame joins the message it belongs to, starts one, or is dropped and counted (02 R56, R57). -/
def parseCell (st : Nat) (twin marker : Bool) (first : Nat) (r : Parsed) (tc : Nat × Nat) : Parsed :=
  let (t, c) := tc
  if t == 15 then
    if r.dropping then r.drop r.gone
    else match r.cur with
      | some (h, cs) => { r with cur := some (h, cs ++ [c]) }
      | none => { r with bad := r.bad + 1 }
  else
    let r1 := r.flush first
    if t == 0 then { r1 with dropping := false }
    else if headOk st twin marker t then { r1 with cur := some (t, [c]), dropping := false }
    else { r1.drop t with dropping := true, gone := t }

/-- The cells 1 to 7 of a frame with their types (02 R50). -/
def typedCells (cells : List Nat) : List (Nat × Nat) :=
  (upTo 7).map (fun i => (fld (cells.getD 0 0) (111 - 4 * i) (108 - 4 * i), cells.getD (i + 1) 0))

/-- Credits returned by a header cell, held to the advertised value; what is beyond it is counted (02 R59). -/
def Node.takeCredits (n : Node) (p c2 c3 : Nat) : Node :=
  let l := n.linkOf p
  let beyond := ofB (decide (l.advC2 < l.credC2 + c2)) + ofB (decide (l.advC3 < l.credC3 + c3))
  (n.modLink p (fun l => { l with credC2 := min (l.credC2 + c2) l.advC2, credC3 := min (l.credC3 + c3) l.advC3 })).addTo
    (Ob.link_malformedCells p) beyond

/-- A message of a span that is not the port's is dropped and counted (01 R30, 02 R57); its buffers are freed. -/
def Node.takeMsg (n : Node) (p : Nat) (m : Msg) : Node :=
  let n1 := n.modLink p (fun l => { l with taken := l.taken ++ [m] })
  if isSpanType m.typ && !n.spanMatch p m.span m.epoch then
    (n1.consume p (· == m)).bump (Ob.link_spanMessagesDropped p)
  else n1

/-- A fault slot: taken in MEMBER, ignored and counted elsewhere (02 R53, R62). -/
def Node.takeSlot (n : Node) (p slot first : Nat) : Node :=
  if !bit slot 83 then n
  else if n.lst p == 6 then n.modLink p (fun l => { l with slotIn := l.slotIn ++ [(slot, first)] })
  else n.bump (Ob.link_malformedCells p)

/-- An accepted frame: degraded bit, credits, fault slot, messages (02 R49 to R59). -/
def Node.acceptFrame (n : Node) (p : Nat) (cells : List Nat) (first : Nat) : Node :=
  let h := cells.getD 0 0
  let r := (typedCells cells).foldl (parseCell (n.lst p) (n.isTwinPort p) (fld h 127 122 == 0) first) {}
  let r := r.flush first
  let n1 := n.modLink p (fun l => { l with partnerDegraded := bit h 120, freeC2 := l.freeC2 + r.free2, freeC3 := l.freeC3 + r.free3 })
  let n2 := if 4 ≤ n.lst p then n1.takeCredits p (fld h 119 116) (fld h 115 112) else n1
  let n3 := (n2.addTo (Ob.link_malformedCells p) r.bad).takeSlot p (fld h 83 0) first
  overAll r.msgs (fun n m => n.takeMsg p m) n3

/-- A frame is discarded and counted; the node turns degraded when the window reaches its threshold (02 R49, R52). -/
def Node.discardFrame (n : Node) (p : Nat) : Node :=
  (n.bump (Ob.link_uncorrectableFrames p)).modLink p (fun l =>
    { l with
      badRun := l.badRun + 1
      winBad := l.winBad + 1
      degraded := l.degraded || decide (n.rd Ob.linkCfg_uncorrectableThreshold ≤ l.winBad + 1) })

/-- An exchange is missed (03 R82, R85); the end's own receive stamp stays as it is. -/
def Node.missExchange (n : Node) (p : Nat) : Node :=
  (n.bump (Ob.tport_missedExchanges p)).modPort p (fun t =>
    { t with
      missed := t.missed + 1, ok := 0, gotAt := n.tb1
      lossKind := if 4 ≤ t.missed + 1 && t.lossKind == 0 then 1 else t.lossKind })

/-- A marker frame is discarded: the exchange is missed, and there is no receive stamp of the partner's most recent marker frame
(03 R80, R82). -/
def Node.missMarker (n : Node) (p : Nat) : Node := (n.missExchange p).modPort p (fun t => { t with rxValid := false })

/-- The latency constant of a port in time units: the object and the latency code in phase steps of 128 time units
(03 R77, R96). -/
def Node.rxConst (n : Node) (p : Nat) : Int := n.rdS 32 (Ob.tport_receiveConstant p) + (n.linkOf p).latRx * 128

/-- The transmit constant of a port in time units (03 R77, R96). -/
def Node.txConst (n : Node) (p : Nat) : Int := n.rdS 32 (Ob.tport_transmitConstant p) + (n.linkOf p).latTx * 128

/-- The receive stamp of a frame: the stamp of the word clock edge, the symbol within the word, less the receive constant
(03 R78). -/
def Node.rxStampOf (n : Node) (p stamp sym : Nat) : Nat :=
  (((stamp + (sym * 65536 + 36) / 72 : Nat) : Int) - n.rxConst p).toNat

/-- A correctable frame in TRAIN: the run of frames whose index advances by one (02 R49, R63); its cells, none of which is valid in
TRAIN, and a valid fault slot are counted (02 R56, R62). -/
def Node.trainFrame (n : Node) (p : Nat) (cells : List Nat) : Node :=
  let h := cells.getD 0 0
  let idx := fld h 127 122
  let r := (typedCells cells).foldl (parseCell 2 (n.isTwinPort p) false 0) {}
  (n.modLink p (fun l =>
    { l with
      goodRun := if l.goodRun == 0 || idx == l.expIdx then l.goodRun + 1 else 1
      expIdx := (idx + 1) % 64, badRun := 0 })).addTo (Ob.link_malformedCells p) (r.bad + ofB (bit h 83))

/-- A received frame: descrambled, decoded, accepted or discarded by its index (02 R46 to R49); a marker frame that is
discarded misses an exchange (03 R82), and from MEASURE onward the port slot stamps a marker frame (04 R109). `first` is the tick
and `code` the channel's code of the edge of the word clock, which the channel's table turns into the stamp (04 R100, R102), `sym` the
symbol at which the frame starts (03 R78). -/
def frameReceived (p frame first code sym : Nat) (n : Node) : Node :=
  let stamp := n.stampAt p first code
  let st := n.lst p
  let l := n.linkOf p
  let count := fun (n : Node) => (n.modLink p (fun l => { l with winFrames := l.winFrames + 1 })).events 0x20 p 1
  if st < 2 then n
  else match decodeFrame frame with
  | none =>
    let n1 := (count n).discardFrame p
    if st == 2 then n1.modLink p (fun l => { l with goodRun := 0 })
    else
      let n2 := n1.modLink p (fun l => { l with expIdx := (l.expIdx + 1) % 64 })
      if l.expIdx == 0 && 4 ≤ st then n2.missMarker p else n2
  | some (cells, fixed) =>
    let idx := fld (cells.getD 0 0) 127 122
    let n1 := (count n).addTo (Ob.link_correctedSymbols p) fixed
    if st == 2 then n1.trainFrame p cells
    else
      let n2 := n1.modLink p (fun l => { l with expIdx := (l.expIdx + 1) % 64 })
      if idx != l.expIdx then
        let n3 := n2.discardFrame p
        if l.expIdx == 0 && 4 ≤ st then n3.missMarker p else n3
      else
        let n3 := n2.modLink p (fun l => { l with badRun := 0 })
        let n4 := if idx == 0 && 4 ≤ st then
            (n3.modPort p (fun t => { t with rxStamp := n.rxStampOf p stamp sym, rxValid := true, edgeAt := some first })).offerEdge p stamp
              (!(n.chanOf p).dll) none
          else n3
        n4.acceptFrame p cells first

/-- `FRAME_RECEIVED` (02 R49). -/
def execFrameReceived (u : Who) (p frame : Nat) (stamp : WordStamp) (sym : Nat) (s : State) : Host.Outcome State Fault Refusal :=
  onNode s u ((s.node u).hasPort p) (frameReceived p frame stamp.first stamp.code sym)

/-! ### Frames sent -/

/-- The source kind a node states in its TIME messages: 0 none, 1 own oscillator, 2 uplink, 3 twin; a TSU states 2 while
valid (03 R80). -/
def Node.sourceKind (n : Node) : Nat :=
  let src := n.rd Ob.time_source
  if !n.isHub then (if n.rd Ob.time_timeState == 2 then 2 else 0)
  else if src == 0x7E then 1 else if src == 64 || src == 65 then 2 else if src == 66 || src == 67 then 3 else 0

/-- The transmit stamp of a marker frame sent now (03 R78). -/
def Node.txStampNow (n : Node) (p : Nat) : Nat := (((n.tb1 * 65536 : Nat) : Int) + n.txConst p).toNat

/-- The TIME message of a marker frame (03 R80). -/
def Node.timeMsg (n : Node) (p : Nat) : Msg :=
  let t := n.portOf p
  let tx := n.txStampNow p
  { typ := tTime
    cells := [put 127 64 (tx / 65536) + put 63 48 tx + put 47 47 (ofB (n.rd Ob.time_timeState == 2)) +
              put 46 46 (n.rd (Ob.tport_timeLock p)) + put 45 44 n.sourceKind + put 43 40 (n.rd Ob.time_depth),
              put 127 64 (t.rxStamp / 65536) + put 63 48 t.rxStamp + put 47 16 t.rxMarker + put 15 15 (ofB t.rxValid)] }

/-- What a frame being filled holds: cells with their types, and cells left. -/
structure Fill where
  /-- Types and cells in order. -/
  cells : List (Nat × Nat) := []
  /-- Cell positions left. -/
  left : Nat := 7
  deriving DecidableEq, Repr

/-- Place a message when it fits. -/
def Fill.place (f : Fill) (m : Msg) : Fill :=
  if m.cells.length ≤ f.left then
    { cells := f.cells ++ (m.typ, m.head) :: (m.cells.drop 1).map (fun c => (15, c)), left := f.left - m.cells.length }
  else f

/-- Fill a frame from a queue, in order, without overtaking, within the credits; answers the frame, the rest of the queue and
the credits left (02 R58, R59). -/
def fillFrom (now : Nat) (f : Fill) (cred : Nat) : List QMsg → Fill × List QMsg × Nat
  | [] => (f, [], cred)
  | m :: r =>
    let k := m.msg.cells.length
    if m.ready ≤ now && k ≤ f.left && k ≤ cred then fillFrom now (f.place m.msg) (cred - k) r
    else (f, m :: r, cred)

/-- The frame of a port and the link end after it (02 R50, R58 to R60, R65; 03 R79). -/
def Node.assemble (n : Node) (p : Nat) : List Nat × LinkEnd :=
  let l := n.linkOf p
  let st := n.lst p
  let now := n.tb1
  let f0 : Fill := {}
  let f1 := if st == 3 then f0.place (n.helloMsg p)
    else if 4 ≤ st && now % 512 == 0 then f0.place (n.timeMsg p) else f0
  let (f2, c1) := if 4 ≤ st then let r := fillFrom now f1 7 l.c1; (r.1, r.2.1) else (f1, l.c1)
  let rep := 4 ≤ st && 0 < l.repeats && 2 ≤ f2.left
  let f3 := if rep then f2.place (n.helloMsg p) else f2
  let starve := n.rd Ob.linkCfg_c3AntiStarvation
  let waited := if l.c3.head? == l.c3head then l.c3wait else 0
  let hungry := starve != 0 && starve ≤ waited
  let (f4, c3a, k3a) := if 4 ≤ st && hungry then
      let r := fillFrom now f3 l.credC3 (l.c3.take 1); (r.1, r.2.1 ++ l.c3.drop 1, r.2.2) else (f3, l.c3, l.credC3)
  let (f5, c2, k2) := if 4 ≤ st then fillFrom now f4 l.credC2 l.c2 else (f4, l.c2, l.credC2)
  let (f6, c3, k3) := if 4 ≤ st then fillFrom now f5 k3a c3a else (f5, c3a, k3a)
  let slotReady := st == 6 && (match l.faultQ with | w :: _ => decide (w.ready ≤ now) | [] => false)
  let slot := if slotReady then (l.faultQ.headD {}).slot else 0
  let held := match l.c3 with | m :: _ => decide (m.ready ≤ now) && c3.length == l.c3.length | [] => false
  let g2 := min l.freeC2 15
  let g3 := min l.freeC3 15
  let types := (upTo 7).foldl (fun a i => a + (f6.cells.getD i (0, 0)).1 * 2 ^ (108 - 4 * i)) 0
  let head := put 127 122 (now / 8) + put 121 121 (n.portPlane p) + put 120 120 (ofB l.degraded) + put 119 116 g2 +
    put 115 112 g3 + types + slot
  (head :: (upTo 7).map (fun i => (f6.cells.getD i (0, 0)).2),
   { l with
     c1 := c1, c2 := c2, c3 := c3, credC2 := k2, credC3 := k3
     c3wait := if held then waited + 1 else 0, c3head := c3.head?
     repeats := if rep || st == 3 then l.repeats - 1 else l.repeats
     freeC2 := l.freeC2 - g2, freeC3 := l.freeC3 - g3
     faultQ := if slotReady then l.faultQ.drop 1 else l.faultQ })

/-- A marker number names one of the last 8 marker periods, the running one among them (03 R82; log entry 223). -/
def Node.recentMarker (n : Node) (num : Nat) : Bool := (n.tb1 / 512 + 2 ^ 32 - num) % 2 ^ 32 < 8

/-- The marker stamps kept: those of the last 8 marker periods (03 R82). -/
def Node.keepSent (n : Node) (p : Nat) (t : TimePort) : TimePort :=
  { t with sent := (n.tb1 / 512 % 2 ^ 32, n.txStampNow p) :: (t.sent.filter (fun e => n.recentMarker e.1)).take 7 }

/-- The symbols of the eight words from this tick of a link end in WAKE, or in DARK while command 2's pattern is sent; none while
the transmitter is squelched (02 R44, R62, R70; 18 R534). -/
def Node.wakeOut (n : Node) (p : Nat) : Option Nat :=
  let l := n.linkOf p
  if l.sqThermal then none
  else if n.lst p == 1 then some (wakeSymbols l.since n.tb1)
  else if n.lst p == 0 then l.wakeAt.map (fun t => wakeSymbols t n.tb1)
  else none

/-- On a frame boundary a link end that is training or above sends a frame; in WAKE it sends the wake pattern and in DARK nothing
(02 R44, R45, R58, R62), nor while its transmitter is squelched for temperature (18 R534). -/
def frameSend (p : Nat) (n : Node) : Node :=
  if n.tb1 % 8 != 0 then n
  else if n.lst p < 2 || (n.linkOf p).sqThermal then n.modLink p (fun l => { l with lastTx := 0, lastSym := n.wakeOut p })
  else
    let (cells, l) := n.assemble p
    let frame := encodeFrame cells
    let n1 := (n.modLink p (fun _ => { l with lastTx := frame, lastSym := some (frameSymbols frame) })).events 0x23 p 8
    if n.tb1 % 512 == 0 && 4 ≤ n.lst p then n1.modPort p (n.keepSent p) else n1

/-- `FRAME_SEND` (02 R58). -/
def execFrameSend (u : Who) (p : Nat) (s : State) : Host.Outcome State Fault Refusal :=
  onNode s u ((s.node u).hasPort p) (frameSend p)

/-- The window of uncorrectable frames ends: cause 0x12 when the threshold was reached; a window below it clears degraded
(02 R52). -/
def windowEnd (p : Nat) (n : Node) : Node :=
  let l := n.linkOf p
  let thr := n.rd Ob.linkCfg_uncorrectableThreshold
  when (n.rd Ob.linkCfg_window ≤ l.winFrames) (fun n =>
    let n1 := n.modLink p (fun l => { l with winFrames := 0, winBad := 0, degraded := decide (thr ≤ l.winBad) })
    if thr ≤ l.winBad then n1.portFault 0x12 p (put 79 48 l.winBad + put 47 32 thr) else n1) n

/-- `UNCORRECTABLE_WINDOW_END` (02 R52). -/
def execUncorrectableWindowEnd (u : Who) (p : Nat) (s : State) : Host.Outcome State Fault Refusal :=
  onNode s u ((s.node u).hasPort p) (windowEnd p)

/-- The identity of a wave: its cause, span, epoch, origin and context (02 R53). -/
def waveKey (slot : Nat) : Nat := fld slot 82 1

/-- A fault slot that waits at a port: the first copy in 8,192 ticks goes into the fault queues of the matching ports and the
twin lanes, except the port it came from; a TSU also keeps it for its own contexts; later copies are ignored (02 R53). A hub sends it on
no earlier than a C1 cell (02 R61). -/
def Node.spreadSlot (n : Node) (p slot first : Nat) : Node :=
  let key := waveKey slot
  let recent := n.seen.filter (fun e => n.tb1 < e.2 + 8192)
  if recent.any (fun e => e.1 == key) then { n with seen := recent }
  else
    let n1 := { n with seen := (key, n.tb1) :: recent }
    let n2 := if n.isHub then n1 else n1.modLink p (fun l => { l with waveIn := l.waveIn ++ [(slot, first)] })
    overAll ((n2.wavePorts (slotSpan slot) (slotEpoch slot)).filter (· != p)) (fun n q => n.queueWave q p (if n.isHub then first + 49 else n.tb1) slot) n2

end Sys2Proof.Machine
end

