-- ==== Sys2Proof/Machine/Time.lean ====
section
/-! DEFINITION. Carrying time down the tree (03): exchanges, lock, sources, the phase servo, steps, closure, pods. -/

namespace Sys2Proof.Machine

/-- The absolute value of an offset is at most a window in picoseconds: 1 ps is 102.4 time units (03 R85). -/
def withinPs (x : Int) (ps : Nat) : Bool := decide (10 * x.natAbs ≤ 1024 * ps)

/-- Round to the nearest integer, a tie away from zero (log entry 16). -/
def roundRat (x : Rat) : Int := if 0 ≤ x then (x + 1 / 2).floor else -((-x + 1 / 2).floor)

/-- The tick PLL may follow a port: its link is in MEASURE or above and the partner reports time valid with depth at most 14;
a twin whose source is its twin is not followed (03 R74). -/
def Node.eligible (n : Node) (p : Nat) : Bool :=
  let t := n.portOf p
  decide (4 ≤ n.lst p) && t.heard && t.pValid && decide (t.pDepth ≤ 14) && (!n.isTwinPort p || t.pKind != 3)

/-- This end of the link is locked (03 R85). -/
def Node.locked (n : Node) (p : Nat) : Bool := n.rd (Ob.tport_timeLock p) == 1

/-- A Keystone is a hub of level 3 (01 R24). -/
def Node.isKeystone (n : Node) : Bool := n.isHub && n.level == 3

/-- The ports in the order in which a node considers them; a TSU in weighted mode that uses only one lane after a disagreement takes
that lane first (03 R74, R75, R86, R88). -/
def Node.candidates (n : Node) : List Nat :=
  if !n.isHub then
    (if n.rd Ob.time_planeMode == 1 || (n.rd Ob.time_planeMode == 2 && n.tnode.soleLane == some 1) then [1, 0] else [0, 1])
  else if n.isKeystone then [66, 67] else [64, 65, 66, 67]

/-- The four stamps of an exchange as t1, t2, t3, t4 of 03 R81; on a twin lane plane A takes the parent role. -/
def Node.exchangeStamps (n : Node) (p rx tx ownTx partnerRx : Nat) : Nat × Nat × Nat × Nat :=
  if n.isTwinPort p && n.plane == 0 then (ownTx, partnerRx, tx, rx) else (tx, rx, ownTx, partnerRx)

/-- The asymmetry constant that counts at a port: a parent end's is not used (03 R90). -/
def Node.asymmetry (n : Node) (p : Nat) : Int :=
  if n.isChildEnd p || n.isTwinPort p then n.rdS 32 (Ob.tport_asymmetry p) else 0

/-- The offset of a running closure or pod evaluation is summed once a marker; over a missed exchange the offset before is kept
(03 R82, R91, R92). -/
def Node.sumOffset (n : Node) (p : Nat) : Node :=
  let theta := n.rdS 64 (Ob.tport_offset p)
  n.modPort p (fun t =>
    { t with
      cloSum := t.cloSum + theta, cloN := t.cloN + 1
      podSum := if 0 < t.podN then t.podSum + theta else t.podSum
      podN := t.podN - 1 })

/-- A complete exchange: offset, round trip and stamps are posted, and the run of complete exchanges goes on while the
condition of the lock of this end holds (03 R81, R85). -/
def Node.completeExchange (n : Node) (p t1 t2 t3 t4 : Nat) : Node :=
  let a := n.asymmetry p
  let down : Int := (t2 : Int) - t1
  let up : Int := (t4 : Int) - t3
  let theta := (down - up - a).tdiv 2
  let st := n.rd Ob.time_timeState
  let good := if n.isChildEnd p then decide (1 ≤ st) && withinPs theta (n.rd Ob.time_lockWindow) else st == 2
  let stamps := putField 0 8 (t1 / 65536) + putField 8 2 t1 + putField 10 8 (t2 / 65536) + putField 18 2 t2 +
    putField 20 8 (t3 / 65536) + putField 28 2 t3 + putField 30 8 (t4 / 65536) + putField 38 2 t4
  let n1 := ((((n.wrS 64 (Ob.tport_offset p) theta).wrS 64 (Ob.tport_roundTrip p) (down + up)).wr (Ob.tport_stamps p) stamps).bump
    (Ob.tport_exchanges p))
  n1.modPort p (fun t =>
    { t with missed := 0, gotAt := n.tb1, ok := if good then t.ok + 1 else 0 })

/-- The marker number of a frame from its transmit stamp: that of the marker nearest to it, as the transmit constant is less than half
a marker period either way (03 R78, R80; log entry 224). -/
def markerNumber (ticks : Nat) : Nat := (ticks + 256) / 512 % 2 ^ 32

/-- A TIME message that waits at a port: the partner's state is kept, and the exchange is completed or missed
(03 R80 to R82). -/
def timeReceived (p : Nat) (n : Node) : Node :=
  n.onMsg p (fun m => m.typ == tTime) (fun m n =>
    let h := m.head
    let c := m.cell 1
    let t := n.portOf p
    let tx := fld h 127 64 * 65536 + fld h 63 48
    let valid := bit h 47
    let n1 := n.modPort p (fun t =>
      { t with
        heard := true, pValid := valid, pLock := bit h 46, pKind := fld h 45 44, pDepth := fld h 43 40
        rxMarker := markerNumber (fld h 127 64)
        lossKind := if !valid && t.lossKind == 0 then 2 else t.lossKind })
    let ours := t.sent.find? (fun e => e.1 == fld c 47 16 && n.recentMarker e.1)
    match ours with
    | some (_, ownTx) =>
      if bit c 15 && t.rxValid then
        let (t1, t2, t3, t4) := n.exchangeStamps p t.rxStamp tx ownTx (fld c 127 64 * 65536 + fld c 63 48)
        n1.completeExchange p t1 t2 t3 t4
      else n1.missExchange p
    | none => n1.missExchange p)

/-- `TIME_MESSAGE_RECEIVED` (03 R81). -/
def execTimeMessageReceived (u : Who) (p : Nat) (s : State) : Host.Outcome State Fault Refusal :=
  onNode s u ((s.node u).hasPort p) (timeReceived p)

/-! ### Lock changes at a marker -/

/-- A link end loses lock: cause 0x20 with what it lost it for and the last offset (03 R85). -/
def Node.loseLock (n : Node) (p kind : Nat) : Node :=
  ((n.wr (Ob.tport_timeLock p) 0).modPort p (fun t => { t with ok := 0, overRun := 0, lossKind := 0 })).portFault 0x20 p
    (put 79 72 kind + put 63 0 (n.rd (Ob.tport_offset p)))

/-- Why a locked end loses lock at this marker; 0 when it keeps it (03 R85). -/
def Node.lossReason (n : Node) (p : Nat) : Nat :=
  let t := n.portOf p
  if t.lossKind != 0 then t.lossKind
  else if n.rd Ob.time_timeState == 0 then 3
  else if n.isChildEnd p && 4 ≤ t.overRun then 4 else 0

/-- The run of markers at which a child end's offset is above the unlock window (03 R85). -/
def Node.countOver (n : Node) (p : Nat) : Node :=
  n.modPort p (fun t =>
    { t with overRun := if n.isChildEnd p && n.locked p && !withinPs (n.rdS 64 (Ob.tport_offset p)) (n.rd Ob.time_unlockWindow)
        then t.overRun + 1 else 0 })

/-- Lock at both ends is gained or lost; the marker at which it was last gained is kept (02 R63, 03 R85). -/
def Node.noteBoth (n : Node) (p : Nat) : Node :=
  let both := n.locked p && (n.portOf p).pLock
  n.modPort p (fun t =>
    { t with
      lockSince := if both && !t.bothLocked then n.tb1 else t.lockSince
      bothLocked := both
      readySince := if n.eligible p && n.locked p then t.readySince else n.tb1
      lossKind := 0 })

/-- The lock changes of one port at a marker: an exchange that did not come is missed, then loss, then gain (03 R82, R85). -/
def Node.lockStep (n : Node) (p : Nat) : Node :=
  let t := n.portOf p
  let n1 := if (4 ≤ n.lst p || n.locked p) && t.gotAt + 512 < n.tb1 && t.heard then
      (n.missExchange p).modPort p (fun t => { t with gotAt := n.tb1 - 1 }) else n
  let n2 := (n1.sumOffset p).countOver p
  let k := n2.lossReason p
  let n3 := if n2.locked p && k != 0 then n2.loseLock p k
    else if !n2.locked p && k == 0 && 4 ≤ n2.lst p && n2.rd Ob.time_lockCount ≤ (n2.portOf p).ok then n2.wr (Ob.tport_timeLock p) 1
    else n2
  n3.noteBoth p

/-! ### Sources -/

/-- Depth for a time state and a source: one more than the source's; 15 when not valid (03 R74, R95). -/
def Node.depthFor (n : Node) (state src : Nat) : Nat :=
  if state != 2 then 15 else if src == 0x7E then 0 else min 15 ((n.portOf src).pDepth + 1)

/-- Enter a time state; entering acquiring arms the step of 03 R84. -/
def Node.setTimeState (n : Node) (st : Nat) : Node :=
  let n1 := if st == 1 && n.rd Ob.time_timeState != 1 then n.modTnode (fun t => { t with stepPending := true }) else n
  (n1.wr Ob.time_timeState st).wr Ob.time_depth (n.depthFor st (n.rd Ob.time_source))

/-- The phase of a new recovered clock after the old, within one tick, as the node's reserved slot measured it in the marker period that
has closed: from the first word clock edges of the two ports (03 R87, 04 R111); 0 where the change is not between two ports, and where the
slot missed an edge the phase `meas` that the command brings (log entry 225). -/
def Node.builtOut (n : Node) (old new meas : Nat) : Nat :=
  if old < 68 && new < 68 then
    match (n.chanOf old).lastFirst, (n.chanOf new).lastFirst with
    | some a, some b => (b + 65536 - a % 65536) % 65536
    | _, _ => meas % 65536
  else 0

/-- Change the source: counted, with cause 0x22, the old and the new port and the phase built out (03 R76, R87). -/
def Node.setSource (n : Node) (src meas : Nat) : Node :=
  let old := n.rd Ob.time_source
  if old == src then n
  else
    ((n.wr Ob.time_source src).bump Ob.time_sourceChanges).fault
      { cause := 0x22, detail := put 79 72 old + put 71 64 src + put 63 0 (n.builtOut old src meas) }

/-- No port is eligible: the node is invalid, with cause 0x23 and the last port followed (03 R76). -/
def Node.noSource (n : Node) : Node :=
  let old := n.rd Ob.time_source
  if n.rd Ob.time_timeState == 0 && old == 0x7F then n
  else ((n.fault { cause := 0x23, detail := put 79 72 old }).setSource 0x7F 0).setTimeState 0

/-- Become root: source own oscillator, depth 0, valid (03 R75). -/
def Node.becomeRoot (n : Node) : Node :=
  ((n.setSource 0x7E 0).setTimeState 2).modTnode (fun t => { t with rootWait := none })

/-- The port a node follows after this marker's lock changes: the source stays while it is locked; otherwise the first
eligible locked port, else the source while it is eligible, else the first eligible port (03 R74, R76); a TSU takes the first
locked lane in its plane mode's order (03 R86). -/
def Node.chooseSource (n : Node) : Option Nat :=
  let cur := n.rd Ob.time_source
  let cands := n.candidates
  let good := cands.find? (fun p => n.eligible p && n.locked p)
  let anyE := cands.find? (fun p => n.eligible p)
  let keep := decide (cur ∈ cands) && n.eligible cur && n.locked cur
  if n.isHub && keep then some cur
  else match good, anyE with
    | some p, _ => some p
    | none, some p => if decide (cur ∈ cands) && n.eligible cur then some cur else some p
    | none, none => none

/-- Source changes at a marker (03 R74 to R76, R86). The root Keystone keeps its own oscillator; an invalid Keystone follows
its twin when it may, else it becomes root at once; plane B waits 10 ms at a cold start, before it has had any source, counted from the
first marker at which it finds no twin to follow (03 R75; log entry 226). -/
def Node.sourceStep (n : Node) (meas : Nat) : Node :=
  if n.isKeystone && n.rd Ob.time_source == 0x7E then n
  else match n.chooseSource with
    | some p => (n.setSource p meas).setTimeState (if n.locked p then 2 else 1)
    | none =>
      if n.isKeystone && n.rd Ob.time_source == 0x7F then
        if n.plane == 0 || n.rd Ob.time_sourceChanges != 0 then n.becomeRoot
        else if n.tnode.rootWait.isNone then n.modTnode (fun t => { t with rootWait := some n.tb1 }) else n
      else n.noSource

/-! ### Servo -/

/-- Both lanes of a TSU in weighted mode are blended (03 R86, R88). -/
def Node.blending (n : Node) : Bool :=
  !n.isHub && n.rd Ob.time_planeMode == 2 && n.locked 0 && n.locked 1 && n.tnode.soleLane.isNone

/-- The offset of a port as own minus source: on a twin lane the object holds plane B minus plane A, which a plane-A hub takes with the
other sign (03 R81, R83). -/
def Node.ownOffset (n : Node) (p : Nat) : Int :=
  let x := n.rdS 64 (Ob.tport_offset p)
  if n.isTwinPort p && n.plane == 0 then -x else x

/-- The offset the servo works on: that of the followed port, or the weighted one (03 R83, R86). -/
def Node.servoOffset (n : Node) : Rat :=
  let th := fun p => ((n.ownOffset p : Int) : Rat)
  if n.blending then
    let w : Rat := (n.rd Ob.time_weightA : Nat) / 65536
    w * th 0 + (1 - w) * th 1
  else match n.tnode.soleLane with
    | some p => if !n.isHub && n.rd Ob.time_planeMode == 2 && n.locked p then th p else th (n.rd Ob.time_source)
    | none => th (n.rd Ob.time_source)

/-- A step of TB1 is permitted: on a hub no downlink is MEMBER; on a TSU no context holds a step before its deadline tick
(03 R84). -/
def Node.stepPermitted (n : Node) : Bool :=
  if n.isHub then (upTo 64).all (fun p => n.lst p != 6)
  else (upTo n.ctxCount).all (fun c =>
    let e := n.rd (Ob.ctx_escrowState c)
    !((e == 1 || e == 2 || e == 3) && decide (n.tb1 < (n.ctxOf c).dead)))

/-- A tick of TB1 after a step of TB1 by so many ticks earlier. -/
def stepTick (d : Int) (t : Nat) : Nat := (((t : Int) - d) % ((2 ^ 64 : Nat) : Int)).toNat

/-- The ticks from which a link end counts its durations move along with a step of TB1 (02 R63; log entry 227). -/
def LinkEnd.stepBy (d : Int) (l : LinkEnd) : LinkEnd :=
  { l with
    since := stepTick d l.since, lastTry := stepTick d l.lastTry
    wakeAt := l.wakeAt.map (stepTick d), restart := l.restart.map (stepTick d) }

/-- The ticks from which the time transfer of a port counts move along with a step of TB1 (03 R74, R85; log entry 227). -/
def TimePort.stepBy (d : Int) (t : TimePort) : TimePort :=
  { t with gotAt := stepTick d t.gotAt, lockSince := stepTick d t.lockSince, readySince := stepTick d t.readySince }

/-- The instants between which an output is high or has its edges move along with a step of TB1 (log entry 227). -/
def PulseSt.stepBy (d : Int) (p : PulseSt) : PulseSt :=
  { p with fallAt := stepTick d p.fallAt, highTo := p.highTo.map (stepTick (512 * d)), edgeAt := p.edgeAt.map (stepTick (512 * d)) }

/-- The seconds that TB0 shows after an anchor or a mode has made it jump are no second that it passes (06 R168). -/
def Node.markSec (n : Node) : Node :=
  let sec := bits (n.tbValue 0) 48 48
  if n.isHub then n else n.modBase 0 (fun b => { b with topSec := max b.topSec sec })

/-- TB1 is stepped: what the links, the time transfer and the outputs count from moves along, and TB0 in hall mode steps with it (06 R159). -/
def Node.stepTb1 (n : Node) (d : Int) : Node :=
  Node.markSec { n with
    tb1 := stepTick d n.tb1
    links := n.links.map (fun e => (e.1, e.2.stepBy d))
    tports := n.tports.map (fun e => (e.1, e.2.stepBy d))
    outs := n.outs.map (fun e => (e.1, e.2.stepBy d))
    pulses := n.pulses.map (fun e => (e.1, e.2.stepBy d))
    agents := n.agents.map (fun e => (e.1, { e.2 with skew := e.2.skew + d }))
    tnode := { n.tnode with
      rootWait := n.tnode.rootWait.map (stepTick d), calmSince := stepTick d n.tnode.calmSince
      closeStart := stepTick d n.tnode.closeStart, trackStart := stepTick d n.tnode.trackStart } }

/-- Remove an offset in one step: whole ticks from TB1, the rest in phase steps, with cause 0x25 (03 R84). -/
def Node.timeStep (n : Node) (theta : Int) : Node :=
  let ticks := roundRat ((theta : Rat) / 65536)
  let steps := roundRat (((theta - ticks * 65536 : Int) : Rat) / 128)
  let n1 := n.stepTb1 ticks
  let n2 := (n1.wrS 64 Ob.time_phaseMoved (n1.rdS 64 Ob.time_phaseMoved + steps)).modTnode (fun t =>
    { t with servoI := 0, stepPending := false })
  (n2.bump Ob.time_timeSteps).fault { cause := 0x25, detail := ofS 64 theta }

/-- The phase servo of one marker (03 R83). -/
def Node.servoStep (n : Node) : Node :=
  let e := n.servoOffset
  let kp : Rat := (n.rd Ob.time_proportionalGain : Nat) / 65536
  let ki : Rat := (n.rd Ob.time_integralGain : Nat) / 65536
  let lim : Int := if n.rd Ob.time_timeState == 2 then n.rd Ob.time_slewLimit else n.rd Ob.time_acquisitionSlew
  let i := n.tnode.servoI
  let u := kp * e + i
  let r := roundRat (u / 512)
  let k := if lim < r then lim else if r < -lim then -lim else r
  let i' := if k.natAbs < lim.natAbs || k.sign != u.num.sign then i + ki * e else i
  (n.wrS 64 Ob.time_phaseMoved (n.rdS 64 Ob.time_phaseMoved + k)).modTnode (fun t => { t with servoI := i' })

/-- The offset of the servo as the object shows it: whole time units, truncated toward zero. -/
def Node.showOffset (n : Node) (e : Rat) : Node := n.wrS 64 Ob.time_offsetEstimate (e.num.tdiv e.den)

/-- Servo or step at a marker, in acquiring or valid state of a node that follows a port with an exchange (03 R83, R84). -/
def Node.phaseStep (n : Node) : Node :=
  let st := n.rd Ob.time_timeState
  let src := n.rd Ob.time_source
  if st == 0 || src == 0x7E || src == 0x7F || n.rd (Ob.tport_exchanges src) == 0 then n
  else
    let e := n.servoOffset
    let theta := e.num.tdiv e.den
    if st == 1 && n.tnode.stepPending && !withinPs theta (n.rd Ob.time_stepThreshold) && n.stepPermitted then
      (n.timeStep theta).showOffset e
    else
      let n1 := if st == 1 && withinPs theta (n.rd Ob.time_stepThreshold) then n.modTnode (fun t => { t with stepPending := false }) else n
      n1.servoStep.showOffset e

/-- The plane difference of a marker: delta of the two lanes of a TSU when both are locked, tau of the twin lanes of a hub;
and how long it has been above the threshold, or below half of it (03 R88). A hub takes TW0's while that lane is locked, and TW1's
otherwise (log entry 228). -/
def Node.planeStep (n : Node) : Node :=
  let th := fun p => n.rdS 64 (Ob.tport_offset p)
  let d : Option Int := if n.isHub then (if n.locked 66 then some (th 66) else if n.locked 67 then some (th 67) else none)
    else (if n.locked 0 && n.locked 1 then some (th 0 - th 1) else none)
  match d with
  | none => n.modTnode (fun t => { t with planeRun := 0, planeTold := false, calmSince := n.tb1 })
  | some x =>
    let thr := n.rd Ob.time_planeThreshold
    let far := !withinPs x thr
    let calm := decide (20 * x.natAbs < 1024 * thr)
    let n1 := (n.wrS 64 Ob.time_planeDifference x).modTnode (fun t =>
      { t with
        planeRun := if far then t.planeRun + 1 else 0
        planeTold := t.planeTold && far
        calmSince := if calm then t.calmSince else n.tb1 })
    if n1.tnode.soleLane.isSome && calm && n1.tnode.calmSince + 512 * n1.rd Ob.time_revertHold ≤ n1.tb1 then
      n1.modTnode (fun t => { t with soleLane := none })
    else n1

/-- At a marker: lock changes, then source changes, then the servo (03 R83, R85). -/
def markerServo (built : Nat) (n : Node) : Node :=
  when (n.tb1 % 512 == 0) (fun n => ((overAll (upTo n.portCount) Node.lockStep n).sourceStep built).planeStep.phaseStep) n

/-- `MARKER_SERVO` (03 R83). -/
def execMarkerServo (u : Who) (built : Nat) (s : State) : Host.Outcome State Fault Refusal :=
  onNode s u true (markerServo built)

/-- A port earlier in the candidate order has been eligible and locked for the revert hold: the node changes to it at the marker
(03 R74, R87). -/
def revertHold (built : Nat) (n : Node) : Node :=
  let cur := n.rd Ob.time_source
  let before := n.candidates.takeWhile (· != cur)
  match before.find? (fun p => n.eligible p && n.locked p && decide ((n.portOf p).readySince + 512 * n.rd Ob.time_revertHold ≤ n.tb1)) with
  | some p => if decide (cur ∈ n.candidates) && n.tb1 % 512 == 0 then (n.setSource p built).setTimeState 2 else n
  | none => n

/-- `REVERT_HOLD_EXPIRY` (03 R74). -/
def execRevertHoldExpiry (u : Who) (built : Nat) (s : State) : Host.Outcome State Fault Refusal :=
  onNode s u true (revertHold built)

/-- The plane-B Keystone has waited 10 ms for its twin at a cold start and becomes root at the marker (03 R75, R87). -/
def rootWaitExpiry (n : Node) : Node :=
  match n.tnode.rootWait with
  | some t0 => when (n.isKeystone && n.rd Ob.time_timeState == 0 && t0 + 15625000 ≤ n.tb1 && n.tb1 % 512 == 0 && !n.candidates.any n.eligible)
      Node.becomeRoot n
  | none => n

/-- `KEYSTONE_ROOT_WAIT_EXPIRY` (03 R75). -/
def execKeystoneRootWaitExpiry (s : State) : Host.Outcome State Fault Refusal :=
  onNode s .hub s.hub.isKeystone rootWaitExpiry

/-- After 16 consecutive markers above the plane threshold: cause 0x21; a weighted TSU uses the lane whose partner reports the
lower depth, lane a when they are equal (03 R88). -/
def planeDisagreement (n : Node) : Node :=
  when (16 ≤ n.tnode.planeRun && !n.tnode.planeTold) (fun n =>
    let n1 := n.modTnode (fun t =>
      { t with
        planeTold := true
        soleLane := if !n.isHub && n.rd Ob.time_planeMode == 2 then
            some (if (n.portOf 1).pDepth < (n.portOf 0).pDepth then 1 else 0) else t.soleLane })
    let x := n.rd Ob.time_planeDifference
    if n.isHub then n1.portFault 0x21 (if n.locked 66 then 66 else 67) x else n1.fault { cause := 0x21, detail := x }) n

/-- `PLANE_DISAGREEMENT` (03 R88). -/
def execPlaneDisagreement (u : Who) (s : State) : Host.Outcome State Fault Refusal :=
  onNode s u true planeDisagreement

/-! ### Loop closure -/

/-- Start loop closure: 1 to apply, 2 to measure only; the averages start again on every downlink, and the command's status
reads 1 (03 R91). -/
def closureStart (mode : Nat) (n : Node) : Node :=
  let n1 := overAll (upTo 68) (fun n p => n.modPort p (fun t => { t with cloN := 0, cloSum := 0 })) n
  ((n1.modTnode (fun t => { t with closing := mode, closeStart := n.tb1 })).wr Ob.time_closure 1).answer 0

/-- `CLOSURE_APPLY` (03 R91). -/
def execClosureApply (s : State) : Host.Outcome State Fault Refusal := onObj s .hub true (closureStart 1)

/-- `CLOSURE_MEASURE` (03 R91). -/
def execClosureMeasure (s : State) : Host.Outcome State Fault Refusal := onObj s .hub true (closureStart 2)

/-- The residual of a downlink (03 R91). -/
def residualOf (m : Sys2Proof.ClosureMeas) : Int := m.thA - m.thB + m.tauC - m.tauP

/-- The corrections of the two child constants, with the new calibration state: the equal split, the full correction against
an anchored link, or none (03 R91). -/
def closureSplit (m : Sys2Proof.ClosureMeas) (rho : Int) : Option (Int × Int × Nat) :=
  if m.calA == 2 && m.calB != 2 then some (0, -2 * rho, 2)
  else if m.calB == 2 && m.calA != 2 then some (2 * rho, 0, 2)
  else if withinPs rho 49 && m.calA != 2 && m.calB != 2 then some (rho, -rho, 1)
  else none

/-- The child behind a downlink: a die of a Pier, a hub of an Arch or Keystone (01 R28, 02 R66). -/
def Node.childIdentity (n : Node) (p : Nat) : Nat :=
  if n.level == 1 then dieNumber n.arch n.pier p
  else if n.level == 2 then hubIdentity 1 n.arch p
  else if n.threeLevel then hubIdentity 2 p 0 else hubIdentity 1 0 p

/-- The calibration state of this plane's child link. -/
def Node.childCal (n : Node) (m : Sys2Proof.ClosureMeas) : Nat := if n.plane == 0 then m.calA else m.calB

/-- The constant of one child link is written by relay, with its calibration state; a link calibrated by pod is left unchanged
(03 R91). -/
def Node.writeLink (n : Node) (port childPort cal0 cal : Nat) (c : Int) : Node :=
  if cal0 == 2 then n
  else ((n.relayWrite (n.childIdentity port) (Ob.tport_asymmetry childPort) 4 (ofS 32 c)).relayWrite
    (n.childIdentity port) (Ob.tport_calibration childPort) 1 cal)

/-- The constants of the child links are written by relay (03 R91). A Pier writes both lanes of a die, which is one unit; of a pair of
child hubs an Arch or a Keystone reaches the one of its own plane, UL0 of that hub, as relay never crosses planes (16 R449; log entry
229). -/
def Node.writeChild (n : Node) (m : Sys2Proof.ClosureMeas) (dA dB : Int) (cal : Nat) : Node :=
  if n.level == 1 then (n.writeLink m.port 0 m.calA cal (m.constA + dA)).writeLink m.port 1 m.calB cal (m.constB + dB)
  else if n.plane == 0 then n.writeLink m.port 64 m.calA cal (m.constA + dA)
  else n.writeLink m.port 64 m.calB cal (m.constB + dB)

/-- The residual of one downlink is stored and applied or reported; the flag says that cause 0x24 was recorded (03 R91). -/
def closeOne (apply : Bool) (r : Node × Bool) (m : Sys2Proof.ClosureMeas) : Node × Bool :=
  let rho := residualOf m
  let n1 := r.1.wrS 64 (Ob.tport_closureResidual m.port) rho
  if !apply then (n1, r.2)
  else match closureSplit m rho with
    | some (a, b, cal) => ((n1.writeChild m a b cal).modPort m.port (fun t => { t with cloApplied := rho }), r.2)
    | none => (n1.portFault 0x24 m.port (put 79 72 (n1.childCal m) + put 63 0 (ofS 64 rho)), true)

/-- A measurement counts for a downlink whose child end is locked on both planes; on this plane the partner's last lock bit says so
(03 R91). -/
def Node.closureOn (n : Node) (m : Sys2Proof.ClosureMeas) : Bool :=
  decide (m.port < 64) && m.lockA && m.lockB && (n.portOf m.port).pLock

/-- The averaging of a closure command is over: its status reads 2, or 3 when a port recorded cause 0x24 (03 R91). -/
def closureDone (meas : List Sys2Proof.ClosureMeas) (n : Node) : Node :=
  when (n.tnode.closing != 0 && n.tnode.closeStart + 512 * n.rd Ob.time_closureLength ≤ n.tb1) (fun n =>
    let r := (meas.filter n.closureOn).foldl (closeOne (n.tnode.closing == 1)) (n, false)
    (r.1.modTnode (fun t => { t with closing := 0 })).wr Ob.time_closure (if r.2 then 3 else 2)) n

/-- `CLOSURE_DONE` (03 R91). -/
def execClosureDone (meas : List Sys2Proof.ClosureMeas) (s : State) : Host.Outcome State Fault Refusal :=
  onNode s .hub true (closureDone meas)

/-- Limit to one time unit either way (03 R93). -/
def unit1 (x : Int) : Int := if 1 < x then 1 else if x < -1 then -1 else x

/-- One downlink of a background run: the residual is updated, a drift beyond the track threshold is reported, and with
tracking at 1 the limited equal split is applied (03 R93). -/
def trackOne (n : Node) (m : Sys2Proof.ClosureMeas) : Node :=
  let rho := residualOf m
  let n1 := n.wrS 64 (Ob.tport_closureResidual m.port) rho
  let drift := !withinPs (rho - (n.portOf m.port).cloApplied) (n.rd Ob.time_trackThreshold)
  let n2 := if drift then n1.portFault 0x24 m.port (put 79 72 (n.childCal m) + put 63 0 (ofS 64 rho)) else n1
  if drift && n.rd Ob.time_tracking == 1 && (match closureSplit m rho with | some (_, _, cal) => cal == 1 | none => false) then
    (n2.writeChild m (unit1 rho) (unit1 (-rho)) 1).modPort m.port (fun t => { t with cloApplied := rho })
  else n2

/-- A background run ends after 65,536 markers, and the next begins (03 R93). -/
def closureTracking (meas : List Sys2Proof.ClosureMeas) (n : Node) : Node :=
  when (n.tnode.trackStart + 512 * 65536 ≤ n.tb1)
    (fun n => (overAll (meas.filter n.closureOn) trackOne n).modTnode (fun t => { t with trackStart := n.tb1 })) n

/-- `CLOSURE_TRACKING_RUN` (03 R93). -/
def execClosureTrackingRun (meas : List Sys2Proof.ClosureMeas) (s : State) : Host.Outcome State Fault Refusal :=
  onNode s .hub true (closureTracking meas)

/-! ### Reference pod -/

/-- A write of the true offset at a child end starts the evaluation of 4,096 markers; at a parent end it is refused
(03 R92, R96). -/
def podWrite (p v : Nat) (n : Node) : Node :=
  n.accept (n.isChildEnd p || n.isTwinPort p) (fun n => n.modPort p (fun t =>
    { t with podOn := true, podOff := toS 64 v, podN := 4096, podSum := 0 }))

/-- `POD_OFFSET_WRITE` (03 R92). -/
def execPodOffsetWrite (u : Who) (p v : Nat) (s : State) : Host.Outcome State Fault Refusal :=
  onObj s u ((s.node u).hasPort p) (podWrite p v)

/-- After 4,096 markers the child adds 2 epsilon to its constant and takes status 2; cause 0x24 when epsilon exceeds 100 ps
(03 R92). -/
def podDone (p : Nat) (n : Node) : Node :=
  let t := n.portOf p
  when (t.podOn && t.podN == 0) (fun n =>
    let eps := roundRat ((t.podSum : Rat) / 4096) - t.podOff
    let n1 := (n.wrS 32 (Ob.tport_asymmetry p) (n.rdS 32 (Ob.tport_asymmetry p) + 2 * eps)).wr (Ob.tport_calibration p) 2
    let n2 := n1.modPort p (fun t => { t with podOn := false })
    if withinPs eps 100 then n2 else n2.portFault 0x24 p (put 79 72 2 + put 63 0 (ofS 64 eps))) n

/-- `POD_EVALUATION_DONE` (03 R92). -/
def execPodEvaluationDone (u : Who) (p : Nat) (s : State) : Host.Outcome State Fault Refusal :=
  onNode s u ((s.node u).hasPort p) (podDone p)

end Sys2Proof.Machine
end

