-- ==== Sys2Proof/Machine/Tdc.lean ====
section
/-! DEFINITION. Measuring edges finer than a tick (04): conditioned edges, capture (06 R164 to R166), calibration, measurement
slots, regression. -/

namespace Sys2Proof.Machine

/-- The TSU function f takes new work (16 R460). -/
def Node.fnEnabled (n : Node) (f : Nat) : Bool := n.rd (Ob.fn_functionState f) == 0

/-- A base selected for a capture record: none for 0xF (06 R164). -/
def capBase (sel : Nat) : BaseCap := if sel == 0xF || sel == 1 then {} else { base := some sel }

/-- V(n) of a base at the end of the edge's tick; TB0 in hall mode is taken at the stamp itself (06 R165). -/
def Node.capTake (n : Node) (stamp : Nat) (b : BaseCap) : BaseCap :=
  match b.base with
  | none => b
  | some k => if k == 0 && n.hallMode then { v := t96Of16 (n.hallAt stamp) } else { b with v := (n.baseOf k).total }

/-- The value at the edge: V(n) and the stamp's fraction of the increment and slew part of the next tick, which a set or step of that tick does
not touch (06 R165). -/
def Node.capCarry (n : Node) (f : Nat) (b : BaseCap) : BaseCap :=
  match b.base with
  | none => b
  | some k =>
    let t := n.baseOf k
    { v := (t.ofTotal ((b.v : Int) + (f : Int) * t.rate / 65536).toNat).t96 }

/-- At the end of a tick the records of its edges take V(n), and those of the tick before are complete (06 R165). -/
def Node.capStage (n : Node) (r : CapRec) : CapRec :=
  if r.left == 6 then { r with a := n.capTake r.stamp r.a, b := n.capTake r.stamp r.b }
  else if r.left == 5 then { r with a := n.capCarry (r.stamp % 65536) r.a, b := n.capCarry (r.stamp % 65536) r.b }
  else r

/-- The record as it is held (06 R164). -/
def CapRec.bits (r : CapRec) : Nat :=
  r.head + putField 8 8 (r.stamp / 65536) + putField 16 2 r.stamp + putField 18 12 r.a.v + putField 30 12 r.b.v

/-- A record enters its queue, with the lost flag when records were lost before it, or is dropped: counted, with cause 0x2D
once for each run of drops (06 R166). -/
def Node.captureEnter (n : Node) (i rec : Nat) : Node :=
  let q := n.capOf i
  if q.recs.length < 16 then
    n.modCap i (fun q => { q with recs := q.recs ++ [rec + if q.lost then 2 ^ 49 else 0], lost := false })
  else
    let n1 := (n.bump (Ob.cap_recordsDropped i)).modCap i (fun q => { q with lost := true })
    if q.lost then n1.countCause 0x2D else n1.fault { cause := 0x2D, obj := i, detail := put 47 0 rec }

/-- A tick passes for the records whose stamp is not yet available; one enters its queue 6 ticks after its edge (06 R166). -/
def Node.captureDue (n : Node) (i : Nat) : Node :=
  let fl := (n.capOf i).inflight
  if fl.isEmpty then n
  else overAll (fl.filter (fun r => r.left ≤ 1)) (fun n r => n.captureEnter i r.bits)
    (n.modCap i (fun q => { q with inflight := (fl.filter (fun r => 1 < r.left)).map (fun r => { r with left := r.left - 1 }) }))

/-- At the end of a tick the records in flight take what it gives them (06 R165). -/
def Node.captureTake (n : Node) : Node :=
  if n.caps.all (fun e => e.2.inflight.isEmpty) then n
  else { n with caps := n.caps.map (fun e => (e.1, { e.2 with inflight := e.2.inflight.map n.capStage })) }

/-- An accepted edge with capture enabled makes a record (06 R164, R166; 16 R461 function 6). -/
def Node.capture (n : Node) (i stamp : Nat) (coarse : Bool) : Node :=
  when (!n.isHub && n.rd (Ob.cap_captureEnable i) == 1 && n.fnEnabled 6)
    (fun n => n.modCap i (fun q =>
      { q with inflight := q.inflight ++ [{
          head := putField 0 6 (n.rd (Ob.ev_edgeCount i)) + putField 6 2 (ofB coarse), stamp := stamp
          a := capBase (n.rd (Ob.cap_baseA i)), b := capBase (n.rd (Ob.cap_baseB i)) }] })) n

/-- The expected captures and the thinning k of a regression (04 R112). -/
def regrThin (gateMs period : Nat) : Nat :=
  let mg := gateMs * 1562500 / 512
  let e := min mg (gateMs * 102400000000000 / (1000 * period))
  max 1 ((e + 65535) / 65536)

/-- An edge in this tick lies in the gate of an engine, and is the first of its marker period (04 R112). -/
def Regr.open (r : Regr) (i tick gateEnd : Nat) : Bool :=
  r.mode != 0 && r.input == i && r.opened ≤ tick && tick < (if r.mode == 3 then r.stopAt else gateEnd) &&
    !(0 < r.caps && r.lastPeriod == markerOf tick)

/-- A regression captures the first accepted edge of its input in each marker period of its gate, and keeps every k-th
capture (04 R112). An input faster than its nominal frequency may give more captures than expected; all that fall to be kept are kept
(log entry 230). -/
def Regr.capture (r : Regr) (i k tick count stamp gateEnd : Nat) (coarse : Bool) : Regr :=
  if !r.open i tick gateEnd then r
  else
    { r with
      caps := r.caps + 1, lastPeriod := markerOf tick
      kept := if r.caps % k == 0 then (count, stamp) :: r.kept else r.kept
      coarse := r.coarse || (coarse && r.caps % k == 0) }

/-- The end of a regression gate (04 R112). -/
def Node.gateEnd (n : Node) (g : Nat) : Nat := (n.regrOf g).opened + 512 * (n.rd (Ob.regr_gate g) * 1562500 / 512)

/-- A gate opens at a marker with an empty engine; the gate that has ended before it is kept until it is posted (04 R112, R114). -/
def Node.openGate (n : Node) (g mode opened : Nat) (closed : Option ClosedGate) : Node :=
  n.modRegr g (fun _ => { mode := mode, opened := opened, input := n.rd (Ob.regr_input g), closed := closed
                          disabled := n.rd (Ob.ev_enable (n.rd (Ob.regr_input g))) != 1 })

/-- The gate of an engine as it stands, to be posted. -/
def Regr.gate (r : Regr) : ClosedGate := { opened := r.opened, kept := r.kept, coarse := r.coarse, disabled := r.disabled }

/-- Gates run back to back: one whose end has come closes, and the next is open from that marker on, though the result is posted later
(04 R114). -/
def Node.rollGate (n : Node) (g : Nat) : Node :=
  let r := n.regrOf g
  when (r.mode == 2 && r.closed.isNone && n.gateEnd g ≤ n.tb1) (fun n => n.openGate g 2 (n.gateEnd g) (some r.gate)) n

/-- Every regression engine is offered an accepted edge (04 R112). -/
def Node.offerRegr (n : Node) (i stamp : Nat) (coarse : Bool) : Node :=
  overAll (upTo 4) (fun n g => (n.rollGate g).modRegr g (fun r =>
    r.capture i (regrThin (n.rd (Ob.regr_gate g)) (n.nomPeriod i)) n.tb1 (n.rd (Ob.ev_edgeCount i)) stamp (n.gateEnd g) coarse)) n

/-- The channel converts an edge or a hit in this tick (04 R101). -/
def Node.converts (n : Node) (c : Nat) (hit : Bool) : Node := n.modChan c (fun t => { t with convAt := some (n.tb1, hit) })

/-- An accepted edge of an event input with its stamp: offered to slots, regressions and capture; a 1PPS input keeps it for the outputs
that predict from it (04 R100, R108; 05 R147, 06 R167). -/
def Node.stampEdge (n : Node) (i code : Nat) : Node :=
  let c := 0x60 + i
  let coarse := !(n.chanOf c).dll
  let stamp := n.stampOf c code
  let n1 := (n.converts c false).modEv i (fun e =>
    { e with
      last := stamp, seen := true
      recent := if n.rd (Ob.ev_nominalCode i) == 0 then stamp :: e.recent.filter (fun t => decide (stamp < t + 2 * tps * 65536)) else [] })
  ((n1.offerEdge c stamp coarse (some (n.rd (Ob.ev_edgeCount i)))).offerRegr i stamp coarse).capture i stamp coarse

/-- An accepted edge of an event input is counted and opens the hold-off; it is stamped unless the channel converts a hit in this tick
(04 R106, R108, R110; log entry 231). -/
def Node.acceptEdge (n : Node) (i code : Nat) : Node :=
  let n1 := (n.wr (Ob.ev_edgeCount i) ((n.rd (Ob.ev_edgeCount i) + 1) % 2 ^ 48)).modEv i (fun e =>
    { e with holdTo := n.tb1 + n.rd (Ob.ev_holdOff i) })
  if (n.chanOf (0x60 + i)).convAt == some (n.tb1, true) then n1 else n1.stampEdge i code

/-- A word clock edge of a span port is stamped and offered; the first of the marker period is kept for the reserved slot
(04 R109, R111). -/
def Node.portEdge (n : Node) (c code : Nat) : Node :=
  let stamp := n.stampOf c code
  ((n.converts c false).modChan c (fun t => { t with firstEdge := some (t.firstEdge.getD stamp) })).offerEdge (0x80 + c) stamp
    (!(n.chanOf c).dll) none

/-- A slot has still to take an edge of a source in this marker period (04 R110). -/
def MSlot.needs (m : MSlot) (src : Nat) : Bool :=
  m.src0 != 0xFF && m.src1 != 0xFF && ((m.src0 == src && m.start.isNone) || (m.src1 == src && m.stop.isNone))

/-- An engine has still to capture an edge of an input in this marker period (04 R110). -/
def Regr.needs (r : Regr) (i tick gateEnd : Nat) : Bool := r.open i tick gateEnd

/-- A channel is idle in this tick: every slot and regression that uses it has taken its edges for the marker period. A span port's
channel serves its port slot from MEASURE onward, the general slots and the reserved slot; an event input's serves general slots,
regressions and reference monitors (04 R109 to R111, 05 R123). -/
def Node.chanIdle (n : Node) (c : Nat) : Bool :=
  if c < 0x60 then
    !(n.mslots.any (fun e => e.2.needs (0x80 + c) || e.2.needs c)) && ((n.chanOf c).firstEdge.isSome || !(decide (c ∈ n.candidates) && n.eligible c)) &&
      (n.lst c < 4 || (match (n.portOf c).edgeAt with | some t => markerOf t == markerOf n.tb1 | none => false))
  else
    !(n.mslots.any (fun e => e.2.needs c)) &&
      !((upTo 4).any (fun g => (n.regrOf g).needs (c - 0x60) n.tb1 (n.gateEnd g))) &&
      !(n.isKeystone && n.rd (Ob.ev_enable (c - 0x60)) == 1 && decide (n.rd (Ob.ev_nominalCode (c - 0x60)) ≤ 3) &&
        !(0 < (n.monOf (c - 0x60)).caps && (n.monOf (c - 0x60)).lastPeriod == markerOf n.tb1))

/-- An edge of the calibration oscillator: a hit of the running collection, in its bin, where the channel is idle and converts nothing
else in this tick, and the collection is not full (04 R101, R103, R110). -/
def Node.takeHit (n : Node) (c code : Nat) : Node :=
  let t := n.chanOf c
  when (t.collecting && t.hits < n.rd Ob.tdc_calibrationHits && n.chanIdle c && (match t.convAt with | some x => x.1 != n.tb1 | none => true))
    (fun n => (n.converts c true).modChan c (fun t => { t with hits := t.hits + 1, bins := tblSet t.bins code (tblGet 0 t.bins code + 1) })) n

/-- An edge on a TDC channel: an event input's is conditioned by enable, edge select and hold-off; a span port's word clock
edge is stamped as it is; an edge of the calibration oscillator is a hit (04 R100, R103, R106). -/
def tdcEdge (c code : Nat) (falling hit : Bool) (n : Node) : Node :=
  if hit then n.takeHit c code
  else if c < 0x60 then n.portEdge c code
  else
    let i := c - 0x60
    if n.rd (Ob.ev_enable i) != 1 || (n.rd (Ob.ev_edge i) == 1) != falling then n
    else if n.tb1 < (n.evOf i).holdTo then n.bump (Ob.ev_rejectedEdges i)
    else n.acceptEdge i code

/-! ### DLL and calibration -/

/-- A flag of an event input's channel (04 R117). -/
def Node.evFlag (n : Node) (c b v : Nat) : Node := if 0x60 ≤ c then n.wrBits (Ob.ev_flags (c - 0x60)) b 1 v else n

/-- The out-of-calibration flag of a channel (04 R104). -/
def Node.calFlag (n : Node) (c v : Nat) : Node := if 0x60 ≤ c then n.evFlag c 1 v else n.wrBits Ob.tdc_portFlags c 1 v

/-- A channel's DLL locks, no earlier than 16,384 ticks after power-up or a restart of the tick PLL, or loses lock; cause 0x26 once per
loss (04 R102). -/
def dllChange (c : Nat) (locked : Bool) (n : Node) : Node :=
  let was := n.chanOf c
  if locked && n.tb1 < was.opAt + 16384 then n else
  let n1 := (n.modChan c (fun t =>
    { t with dll := locked, told := !locked && (t.told || t.dll), clean := t.clean && locked })).evFlag c 0 (ofB (!locked))
  let n2 := n1.wr Ob.tdc_dllState (ofB (n1.chanList.all (fun c => (n1.chanOf c).dll)))
  if was.dll && !locked then n2.fault { cause := 0x26, obj := c, detail := put 79 72 1 } else n2

/-- `DLL_LOCK_CHANGE` (04 R102). -/
def execDllLockChange (u : Who) (c : Nat) (locked : Bool) (s : State) : Host.Outcome State Fault Refusal :=
  onNode s u ((s.node u).hasChan c) (dllChange c locked)

/-- A code-density collection starts with no hits (04 R103, R105). -/
def Node.startCollection (n : Node) (c : Nat) : Node :=
  n.modChan c (fun t => { t with collecting := true, started := n.tb1, clean := t.dll, hits := 0, bins := [] })

/-- A calibration period has passed since the start of the last collection and none runs (04 R105). -/
def calPeriod (c : Nat) (n : Node) : Node :=
  let t := n.chanOf c
  when (!t.collecting && t.started + n.rd Ob.tdc_calibrationPeriod ≤ n.tb1) (fun n => n.startCollection c) n

/-- `CALIBRATION_PERIOD_START` (04 R105). -/
def execCalibrationPeriodStart (u : Who) (c : Nat) (s : State) : Host.Outcome State Fault Refusal :=
  onNode s u ((s.node u).hasChan c) (calPeriod c)

/-- Command 1: a collection starts on every channel at once; one that runs already starts afresh, and the next period is counted from
this start (04 R105; log entry 232). -/
def calibrate (n : Node) : Node := (overAll n.chanList (fun n c => n.startCollection c) n).answer 0

/-- `CALIBRATE_COMMAND` (04 R105). -/
def execCalibrateCommand (u : Who) (s : State) : Host.Outcome State Fault Refusal := onObj s u true calibrate

/-- The entries of a new table from the counts, and the running count (04 R103). -/
def tableEntries (h : Nat) : Nat → List Nat → List Nat
  | _, [] => []
  | acc, c :: r => (2 * ((2 * acc + c) * 32768) + h) / (2 * h) :: tableEntries h (acc + c) r

/-- A table is near the ideal one and strictly increasing (04 R104). -/
def tableOk (tol : Nat) (t : List Nat) : Bool :=
  (upTo 512).all (fun j => decide (((t.getD j 0 : Int) - (128 * j + 64)).natAbs ≤ tol)) &&
  (upTo 511).all (fun j => decide (t.getD j 0 < t.getD (j + 1) 0))

/-- Hits that came without a command of their own, counted by bin, enter a collection that has room for all of them (04 R103; log entry 253). -/
def Node.bulkHits (n : Node) (c : Nat) (counts : List Nat) : Node :=
  let t := n.chanOf c
  let l := counts.take 512
  when (t.collecting && t.hits + l.sum ≤ n.rd Ob.tdc_calibrationHits) (fun n => n.modChan c (fun t =>
    { t with
      hits := t.hits + l.sum
      bins := l.zipIdx.foldl (fun b e => if e.1 == 0 then b else tblSet b e.2 (tblGet 0 b e.2 + e.1)) t.bins })) n

/-- A collection that holds its hits ends: the table is accepted for the next marker, or the collection is discarded and a new
one starts at once, with cause 0x26 and the flag after three rejections (04 R104). An entry of 65,536, which the tolerance allows for bin
511 alone, does not fit the 16 bits of the table and is stored modulo 2^16 (log entry 233). -/
def collectionEnd (c : Nat) (counts : List Nat) (n0 : Node) : Node :=
  let n := n0.bulkHits c counts
  let t := n.chanOf c
  let h := n.rd Ob.tdc_calibrationHits
  when (t.collecting && h ≤ t.hits) (fun n =>
    let tab := tableEntries t.hits 0 ((upTo 512).map (tblGet 0 t.bins))
    if t.clean && tableOk (n.rd Ob.tdc_calibrationTolerance) tab then
      ((n.modChan c (fun t =>
        { t with collecting := false, rejects := 0
                 newTable := some (leVal ((tab.map (leBytes 2)).flatten)) })).bump Ob.tdc_calibrationsAccepted).calFlag c 0
    else
      let n1 := ((n.modChan c (fun t => { t with rejects := t.rejects + 1 })).bump Ob.tdc_calibrationsRejected).startCollection c
      if t.rejects + 1 == 3 then (n1.calFlag c 1).fault { cause := 0x26, obj := c, detail := put 79 72 2 } else n1) n

/-- `CALIBRATION_COLLECTION_END` (04 R104). -/
def execCalibrationCollectionEnd (u : Who) (c : Nat) (counts : List Nat) (s : State) : Host.Outcome State Fault Refusal :=
  onNode s u ((s.node u).hasChan c) (collectionEnd c counts)

/-- At a marker the reserved slot closes: the first word clock edges of the period that ends are those it compares (04 R111). -/
def Node.reservedSlot (n : Node) : Node :=
  { n with chans := n.chans.map (fun e => (e.1, { e.2 with lastFirst := e.2.firstEdge, firstEdge := none })) }

/-- At a marker every accepted table comes into force (04 R104). -/
def Node.newTables (n : Node) : Node :=
  overAll (n.chans.filterMap (fun e => e.2.newTable.map (fun t => (e.1, t)))) (fun n e =>
    (n.wr (Ob.chan_calibrationTable e.1) e.2).modChan e.1 (fun t => { t with newTable := none })) n

/-! ### Slots -/

/-- Number of general slots (04 R118). -/
def Node.slotCount (n : Node) : Nat := if n.isHub then 16 else 8

/-- A slot opens at a marker with its sources in force; source 0x70 is its own opening marker (04 R109, R111). -/
def Node.openSlot (n : Node) (k : Nat) : Node :=
  let a := n.rd (Ob.mslot_startSource k)
  let b := n.rd (Ob.mslot_stopSource k)
  let m : MSlot := { opened := n.tb1, src0 := a, src1 := b }
  n.modMslot k (fun _ => if a == 0x70 then { m with start := some (n.tb1 * 65536, false, none) } else m)

/-- A stamp in a result: ticks and fraction (04 R98). -/
def stampField (i stamp : Nat) : Nat := putField i 8 (stamp / 65536) + putField (i + 8) 2 stamp

/-- A slot posts its result (04 R109, R118); a slot with a source of 0xFF is off and posts none. A stamp that is missing reads 0 in the
result, and so does the interval (log entry 234). -/
def Node.postSlot (n : Node) (k : Nat) : Node :=
  let m := n.mslotOf k
  if m.src0 == 0xFF || m.src1 == 0xFF then n
  else
    let a := (m.start.map (·.1)).getD 0
    let b := (m.stop.map (·.1)).getD 0
    let coarse := ofB ((m.start.map (·.2.1)).getD false || (m.stop.map (·.2.1)).getD false)
    let st := if m.start.isNone then 1 else if m.stop.isNone then 2 else 0
    let iv := if st == 0 then b - a else 0
    let n1 := (n.wr (Ob.mslot_result k) (putField 0 8 m.opened + stampField 8 a + stampField 18 b + putField 28 4 iv)).wr
      (Ob.mslot_status k) (st + 4 * coarse)
    if st == 0 then n1.bump (Ob.mslot_completed k) else n1

/-- At a marker the slot that opened a marker period ago posts its result, and the next opens (04 R109). -/
def slotClose (k : Nat) (n : Node) : Node :=
  when (n.tb1 % 512 == 0) (fun n => (if (n.mslotOf k).opened + 512 == n.tb1 then n.postSlot k else n).openSlot k) n

/-- `SLOT_CLOSE` (04 R109). -/
def execSlotClose (u : Who) (k : Nat) (s : State) : Host.Outcome State Fault Refusal :=
  onNode s u (decide (k < (s.node u).slotCount)) (slotClose k)

/-! ### Regression -/

/-- The fit of 04 R113 in exact integers, from edge counts and stamps relative to the first: y and r. -/
def regrFit (period : Nat) (kept : List (Nat × Nat)) : Int × Nat :=
  let l := kept.reverse
  let c0 := (l.headD (0, 0)).1
  let t0 := (l.headD (0, 0)).2
  let ps : List (Nat × Nat) := l.map (fun e => ((e.1 + 2 ^ 48 - c0) % 2 ^ 48, e.2 - t0))
  let k := ps.length
  let sn := (ps.map (·.1)).sum
  let st := (ps.map (·.2)).sum
  let snn : Int := (k * (ps.map (fun e => e.1 * e.1)).sum : Nat) - (sn * sn : Nat)
  let snt : Int := (k * (ps.map (fun e => e.1 * e.2)).sum : Nat) - (sn * st : Nat)
  let stt : Int := (k * (ps.map (fun e => e.2 * e.2)).sum : Nat) - (st * st : Nat)
  let y := roundRat ((2 ^ 48 * ((period : Int) * snn - snt) : Int) / (snt : Rat))
  let num := (stt * snn - snt * snt).toNat
  let den := snn.toNat * (k * k)
  (y, (Nat.sqrt (4 * num / den) + 1) / 2)

/-- The result of a gate as 32 bytes (04 R119); y and r are held to the width of their fields, low bits first (log entry 235). -/
def regrResult (opened : Nat) (y : Int) (kept r k status : Nat) : Nat :=
  putField 0 8 opened + putField 8 8 (ofS 64 y) + putField 16 4 kept + putField 20 4 r + putField 24 4 k + putField 28 4 status

/-- The status of a gate: stopped, input disabled, fewer than 3 stamps, coarse, valid (04 R114; log entry 17 orders them). -/
def ClosedGate.status (r : ClosedGate) (stopped : Bool) : Nat :=
  if stopped then 4 else if r.disabled then 3 else if r.kept.length < 3 then 1 else if r.coarse then 2 else 0

/-- Post the result of a gate: y and r are 0 with fewer than 3 stamps; with status 3 or 4 they are the fit of the stamps kept
(04 R114; log entry 236). -/
def Node.postGate (n : Node) (g : Nat) (r : ClosedGate) (stopped : Bool) : Node :=
  let period := n.nomPeriod (n.regrOf g).input
  let (y, res) := if r.kept.length < 3 then (0, 0) else regrFit period r.kept
  n.wr (Ob.regr_result g) (regrResult r.opened y r.kept.length res (regrThin (n.rd (Ob.regr_gate g)) period) (r.status stopped))

/-- Command 0: a running gate stops at the next marker (04 R114). -/
def regrStop (g : Nat) (n : Node) : Node :=
  (when ((n.regrOf g).mode == 1 || (n.regrOf g).mode == 2)
    (fun n => (n.rollGate g).modRegr g (fun r => { r with mode := 3, stopAt := nextMul 512 (n.tb1 + 1) })) n).answer 0

/-- `REGRESSION_STOP` (04 R114). -/
def execRegressionStop (u : Who) (g : Nat) (s : State) : Host.Outcome State Fault Refusal :=
  onObj s u (decide (g < 4)) (regrStop g)

/-- Commands 1 and 2: the gate opens at the first marker after the command (04 R112, R114). -/
def regrStart (mode g : Nat) (n : Node) : Node := (n.openGate g mode (nextMul 512 (n.tb1 + 1)) none).answer 0

/-- `REGRESSION_ONE_GATE` (04 R114). -/
def execRegressionOneGate (u : Who) (g : Nat) (s : State) : Host.Outcome State Fault Refusal :=
  onObj s u (decide (g < 4)) (regrStart 1 g)

/-- `REGRESSION_CONTINUOUS` (04 R114). -/
def execRegressionContinuous (u : Who) (g : Nat) (s : State) : Host.Outcome State Fault Refusal :=
  onObj s u (decide (g < 4)) (regrStart 2 g)

/-- The end of a gate, or the marker at which a stopped one ends: the result is posted; gates back to back have the next one open
from that marker (04 R113, R114). -/
def regrEnd (g : Nat) (n : Node) : Node :=
  let n1 := n.rollGate g
  let r := n1.regrOf g
  match r.closed with
  | some c => (n1.postGate g c false).modRegr g (fun r => { r with closed := none })
  | none =>
    if r.mode == 3 then
      when (r.stopAt ≤ n1.tb1) (fun n => (n.postGate g r.gate true).modRegr g (fun r => { r with mode := 0 })) n1
    else when (r.mode == 1 && n1.gateEnd g ≤ n1.tb1) (fun n => (n.postGate g r.gate false).modRegr g (fun r => { r with mode := 0 })) n1

/-- `REGRESSION_GATE_END` (04 R113). -/
def execRegressionGateEnd (u : Who) (g : Nat) (s : State) : Host.Outcome State Fault Refusal :=
  onNode s u (decide (g < 4)) (regrEnd g)

end Sys2Proof.Machine
end

