-- ==== Sys2Proof/Machine/Keystone.lean ====
section
/-! DEFINITION. The Keystone (05): references, selection, the reference servo, holdover, hall time, outputs of a hub; and the
edge of a TDC channel, which a reference also takes. -/

namespace Sys2Proof.Machine

/-- The root Keystone steers: its time source is its own oscillator (03 R75, 05 R121) and it is no follower waiting for its
takeover (05 R146). -/
def Node.isRoot (n : Node) : Bool := n.isKeystone && n.rd Ob.time_source == 0x7E && n.rd Ob.ref_follower == 0

/-- The follower Keystone follows its twin (05 R145). -/
def Node.isFollower (n : Node) : Bool := n.isKeystone && (n.rd Ob.time_source == 66 || n.rd Ob.time_source == 67)

/-- Entry j of the priority table (05 R128). -/
def Node.prioEntry (n : Node) (j : Nat) : Nat := bits (n.rd Ob.prio_priorityTable) (32 * j) 32

/-- The entry takes part in selection (05 R128). -/
def entryOn (e : Nat) : Bool := bit e 31

/-- The reference of an entry (05 R128). -/
def entryRef (e : Nat) : Nat := fld e 26 24

/-- An entry of the priority table is allowed: its companion differs from the reference and is a 1PPS input, and a 1PPS
reference has none (05 R128). -/
def Node.entryOk (n : Node) (e : Nat) : Bool :=
  !bit e 23 || (fld e 22 20 != entryRef e && n.rd (Ob.ev_nominalCode (fld e 22 20)) == 0 && n.rd (Ob.ev_nominalCode (entryRef e)) != 0)

/-- The entries of a table. -/
def tableEntries8 (v : Nat) : List Nat := (upTo 8).map (fun j => bits v (32 * j) 32)

/-- Reserved bits of the eight entries are ignored (05 R128, 16 R440). -/
def tableMask (v : Nat) : Nat :=
  leVal ((tableEntries8 v).flatMap (fun e => leBytes 4 (put 31 31 (fld e 31 31) + put 26 20 (fld e 26 20))))

/-- A priority table is allowed: no two enabled entries name one reference, and every entry is allowed (05 R128). -/
def Node.tableAllowed (n : Node) (v : Nat) : Bool :=
  let es := tableEntries8 v
  let refs := (es.filter entryOn).map entryRef
  refs.Nodup && es.all n.entryOk

/-- A write of the priority table: refused, or in force at the next marker (05 R128). -/
def priorityWrite (v : Nat) (n : Node) : Node :=
  n.accept (n.isKeystone && n.tableAllowed v) (fun n =>
    n.modKst (fun k => { k with tableAt := some (nextMul 512 (n.tb1 + 1), tableMask v) }))

/-- `PRIORITY_TABLE_WRITE` (05 R128). -/
def execPriorityTableWrite (v : Nat) (s : State) : Host.Outcome State Fault Refusal := onNode s .hub true (priorityWrite v)

/-! ### Quality -/

/-- The rank of an SSM code under network option I (05 R127); 15 is do-not-use. -/
def rankI (c : Nat) : Nat := if c == 2 then 1 else if c == 4 then 2 else if c == 8 then 3 else if c == 11 then 4 else 15

/-- The rank of an SSM code under network option II (05 R127). -/
def rankII (c : Nat) : Nat :=
  if c == 0 then 2 else if c == 1 then 1 else if c == 4 then 4 else if c == 7 then 3 else if c == 10 then 6
  else if c == 12 then 7 else if c == 13 then 5 else if c == 14 then 8 else 15

/-- The rank of reference i from its quality source (05 R125, R127). -/
def Node.rankOf (n : Node) (i : Nat) : Nat :=
  match n.rd (Ob.rin_qualitySource i) with
  | 0 => n.rd (Ob.rin_fixedRank i)
  | 1 => if n.rd Ob.ref_networkOption == 2 then rankII (n.rd (Ob.rin_receivedSSM i)) else rankI (n.rd (Ob.rin_receivedSSM i))
  | _ => if 5 ≤ n.lst 66 || 5 ≤ n.lst 67 then (n.refOf i).twinRank else 15

/-- The big-endian number of a list of bytes. -/
def numBE (l : List Nat) : Nat := l.foldl (fun a b => a * 256 + b % 256) 0

/-- An Ethernet frame is an ESMC PDU that 05 R126 accepts; the places of the ITU fields are those of G.8264 (PRESUMED, log
entry 18). -/
def esmcOk (pdu : List Nat) : Bool :=
  pdu.take 6 == [0x01, 0x80, 0xC2, 0x00, 0x00, 0x02] && (pdu.drop 12).take 3 == [0x88, 0x09, 0x0A] &&
  (pdu.drop 15).take 5 == [0x00, 0x19, 0xA7, 0x00, 0x01] && pdu.getD 20 0 / 16 == 1 &&
  (pdu.drop 24).take 3 == [0x01, 0x00, 0x04] && 28 ≤ pdu.length

/-- The association of reference i names a source address and a management port (05 R126, R150). -/
def Node.esmcMatch (n : Node) (port addr i : Nat) : Bool :=
  let a := n.rd (Ob.rin_esmcAssociation i)
  fld a 47 0 == addr && (fld a 49 48 == port || fld a 49 48 == 2)

/-- A frame on a management port: a matching PDU gives its SSM code to every reference that names it; another is dropped and
counted (05 R126). -/
def esmcReceived (port : Nat) (pdu : List Nat) (n : Node) : Node :=
  let refs := (upTo 8).filter (n.esmcMatch port (numBE ((pdu.drop 6).take 6)))
  if esmcOk pdu && !refs.isEmpty then
    overAll refs (fun n i => ((n.wr (Ob.rin_receivedSSM i) (pdu.getD 27 0 % 16)).bump (Ob.rin_esmcReceived i)).modRef i (fun r =>
      { r with pduAt := some n.tb1 })) n
  else n.bump Ob.ref_esmcDropped

/-- `ESMC_PDU_RECEIVED` (05 R126). -/
def execEsmcPduReceived (port : Nat) (pdu : List Nat) (s : State) : Host.Outcome State Fault Refusal :=
  onNode s .hub (s.hub.isKeystone && decide (port < 2)) (esmcReceived port pdu)

/-- 5 s have passed without a matching PDU: QL-FAILED, do-not-use (05 R126). -/
def esmcTimeout (i : Nat) (n : Node) : Node :=
  match (n.refOf i).pduAt with
  | none => n
  | some t => when (t + 7812500000 ≤ n.tb1) (fun n =>
      let n1 := (n.wr (Ob.rin_receivedSSM i) 0xFF).modRef i (fun r => { r with pduAt := none })
      if n.rd (Ob.rin_qualitySource i) == 1 then n1.wr (Ob.rin_rank i) 15 else n1) n

/-- `ESMC_TIMEOUT` (05 R126). -/
def execEsmcTimeout (i : Nat) (s : State) : Host.Outcome State Fault Refusal :=
  onNode s .hub (s.hub.isKeystone && decide (i < 8)) (esmcTimeout i)

/-! ### Qualification -/

/-- The input of reference i is enabled with a nominal code of 0 to 3 (05 R124). -/
def Node.refOn (n : Node) (i : Nat) : Bool := n.rd (Ob.ev_enable i) == 1 && decide (n.rd (Ob.ev_nominalCode i) ≤ 3)

/-- Reference i is active at the tick TB1 holds (05 R124). -/
def Node.refActive (n : Node) (i : Nat) : Bool :=
  let e := n.evOf i
  let lim := max (n.nomPeriod i * 3 / 2) (1024 * 65536)
  e.seen && decide (n.tb1 * 65536 ≤ e.last + lim)

/-- The frequency condition of reference i at a gate end (05 R124). -/
def Node.freqOk (n : Node) (i stat : Nat) : Bool :=
  let x := n.rdS 64 (Ob.rin_monitorOffset i) + n.rdS 64 Ob.ref_dcoWord
  (stat == 0 || stat == 2) && decide (x.natAbs * 1000000000 ≤ n.rd (Ob.rin_frequencyWindow i) * 2 ^ 48)

/-- The quality condition of reference i (05 R124). -/
def Node.qualOk (n : Node) (i : Nat) : Bool := n.rd (Ob.rin_rank i) != 15 && decide (n.rd (Ob.rin_rank i) ≤ n.rd Ob.ref_minimumQuality)

/-- Set a bit of the status of reference i (05 R150). -/
def Node.refBit (n : Node) (i b : Nat) (v : Bool) : Node := n.wrBits (Ob.rin_status i) b 1 (ofB v)

/-- Seconds left of a wait, rounded up (05 R150). -/
def waitLeft (now until_ : Nat) : Nat := (until_ - now + tps - 1) / tps

/-- The qualification of reference i after a condition changed: a loss records cause 0x27 and cancels a wait; a gain starts the
wait-to-restore, or the start hold the first time (05 R124, R129). -/
def Node.requalify (n : Node) (i : Nat) : Node :=
  let st := n.rd (Ob.rin_status i)
  let q := n.refOn i && bit st 0 && bit st 1 && bit st 2
  let r := n.refOf i
  if q && !r.qual then
    let hold := if r.everQ then n.rd Ob.ref_waitToRestore else n.rd Ob.ref_startHold
    ((n.modRef i (fun r => { r with qual := true, everQ := true, waiting := true, waitTo := n.tb1 + hold * tps })).refBit i 3 true).refBit i 4 true
  else if !q && r.qual then
    let failed := ofB (!n.refOn i) + 2 * ofB (!bit st 0) + 4 * ofB (!bit st 1) + 8 * ofB (!bit st 2)
    (((n.modRef i (fun r => { r with qual := false, waiting := false })).refBit i 3 false).refBit i 4 false).fault
      { cause := 0x27, obj := i, detail := put 79 72 failed + put 63 0 (n.rd (Ob.rin_monitorOffset i)) }
  else n

/-- The wait of reference i is over (05 R129). -/
def Node.waitEnd (n : Node) (i : Nat) : Node :=
  let r := n.refOf i
  if r.waiting && r.waitTo ≤ n.tb1 then (n.modRef i (fun r => { r with waiting := false })).refBit i 4 false else n

/-- `WAIT_TO_RESTORE_EXPIRY` (05 R129). -/
def execWaitToRestoreExpiry (i : Nat) (s : State) : Host.Outcome State Fault Refusal :=
  onNode s .hub (s.hub.isKeystone && decide (i < 8)) (fun n => n.waitEnd i)

/-- The end of the gate of a reference monitor (05 R123). The gate that runs has the length its object holds now: a new length acts on
it too (log entry 237). -/
def Node.monGateEnd (n : Node) (i : Nat) : Nat := (n.monOf i).opened + 512 * (n.rd (Ob.rin_monitorGate i) * 1562500 / 512)

/-- Monitor gates run back to back: one whose end has come closes, and the next is open from that marker on (05 R123). -/
def Node.rollMonitor (n : Node) (i : Nat) : Node :=
  let r := n.monOf i
  when (r.closed.isNone && n.monGateEnd i ≤ n.tb1) (fun n =>
    n.modMon i (fun _ => { opened := n.monGateEnd i, input := i, disabled := n.rd (Ob.ev_enable i) != 1, closed := some r.gate })) n

/-- The result of a monitor gate that has ended: with status 0 or 2 the offset is posted, and the frequency condition is evaluated
(05 R123, R124). What follows from it for the qualification is decided at the Keystone's marker, in the order of 05 R131. -/
def monitorGateEnd (i : Nat) (n : Node) : Node :=
  let n1 := n.rollMonitor i
  match (n1.monOf i).closed with
  | none => n1
  | some c =>
    let stat := c.status false
    let n2 := n1.modMon i (fun r => { r with closed := none })
    let n3 := if stat == 0 || stat == 2 then n2.wrS 64 (Ob.rin_monitorOffset i) (regrFit (n2.nomPeriod i) c.kept).1 else n2
    n3.refBit i 1 (n3.freqOk i stat)

/-- `MONITOR_GATE_END` (05 R123). -/
def execMonitorGateEnd (i : Nat) (s : State) : Host.Outcome State Fault Refusal :=
  onNode s .hub (s.hub.isKeystone && decide (i < 8)) (monitorGateEnd i)

/-- Activity, quality and the monitor result of one reference at a marker, and what its qualification becomes (05 R131 step 1). -/
def Node.refMarker (n : Node) (i : Nat) : Node :=
  let n1 := monitorGateEnd i (n.refBit i 0 (n.refActive i))
  let n2 := n1.wr (Ob.rin_rank i) (n1.rankOf i)
  (n2.refBit i 2 (n2.qualOk i)).requalify i

/-! ### Selection -/

/-- Entry j is qualified (05 R129). -/
def Node.entryQual (n : Node) (j : Nat) : Bool := entryOn (n.prioEntry j) && (n.refOf (entryRef (n.prioEntry j))).qual

/-- Entry j is selectable (05 R129). -/
def Node.entrySel (n : Node) (j : Nat) : Bool := n.entryQual j && !(n.refOf (entryRef (n.prioEntry j))).waiting

/-- The rank of an entry's reference. -/
def Node.entryRank (n : Node) (j : Nat) : Nat := n.rd (Ob.rin_rank (entryRef (n.prioEntry j)))

/-- The better of two candidates: lower rank, and on a tie the lower entry (05 R130). -/
def Node.better (n : Node) (a : Option Nat) (j : Nat) : Option Nat :=
  match a with
  | none => some j
  | some k => if n.entryRank j < n.entryRank k then some j else some k

/-- The candidate of the selection mode (05 R130 item 2). -/
def Node.candidate (n : Node) : Option Nat :=
  let sel := (upTo 8).filter n.entrySel
  if n.rd Ob.ref_selectionMode == 0 then sel.foldl n.better none else sel.head?

/-- The selection of a marker, given the active entry (05 R130); none when no entry is selected. -/
def Node.select (n : Node) (active : Nat) : Option Nat :=
  let forced := n.rd Ob.ref_forcedEntry
  let cand := n.candidate
  if forced < 8 && n.entryQual forced then some forced
  else if 8 ≤ active || !n.entryQual active then cand
  else match cand with
    | none => some active
    | some c =>
      if n.rd Ob.ref_revertive == 1 then some c
      else if n.rd Ob.ref_selectionMode == 0 && n.entryRank c < n.entryRank active then some c else some active

/-! ### Holdover -/

/-- Ticks since the last exit from LOCKED (05 R136). -/
def Node.holdTicks (n : Node) : Nat := if n.kst.left then n.tb1 - n.rd Ob.ref_leftLocked else 0

/-- The predicted time error in ns, exact (05 R136). -/
def Node.predicted (n : Node) : Rat :=
  let t : Rat := (n.holdTicks : Rat) / (tps : Nat)
  (n.rd Ob.ref_holdoverInitialError : Nat) * t / 1000000 + (n.rd Ob.ref_holdoverAging : Nat) * t * t / 2 / 1000000000000

/-- The predicted error as its object shows it: whole ns, at most the largest of the width (log entry 19). -/
def Node.predictedNs (n : Node) : Nat := min (n.predicted.floor.toNat) (2 ^ 32 - 1)

/-- The predicted error has reached the budget (05 R137). -/
def Node.overBudget (n : Node) : Bool := decide (((n.rd Ob.ref_holdoverBudget : Nat) : Rat) ≤ n.predicted)

/-- The records in the history window that ends 10 s before a tick (05 R136). -/
def Node.histWindow (n : Node) : List Int :=
  (n.kst.hist.filter (fun e => decide (e.1 + 10 * tps ≤ n.tb1) &&
    decide (n.tb1 < e.1 + (10 + n.rd Ob.ref_holdoverHistory) * tps))).map (·.2)

/-- Leave LOCKED: the tick, the holdover word and whether the history is valid are taken (05 R136). -/
def Node.exitLocked (n : Node) : Node :=
  let w := n.histWindow
  let n1 := (n.wr Ob.ref_leftLocked n.tb1).modKst (fun k => { k with histValid := decide (60 ≤ w.length), left := true })
  if w.isEmpty then n1 else n1.wrS 64 Ob.ref_holdoverWord (roundRat ((w.sum : Rat) / w.length))

/-- Enter a reference state (05 R135, R137); LOCKED is left through `exitLocked`. -/
def Node.setRef (n : Node) (st : Nat) : Node :=
  let n1 := if n.rd Ob.ref_referenceState == 2 && st != 2 then n.exitLocked else n
  (n1.wr Ob.ref_referenceState st).modKst (fun k => { k with lockRun := 0, unlockRun := 0 })

/-- Enter HOLDOVER with cause 0x29 (05 R137). -/
def Node.enterHoldover (n : Node) : Node :=
  let n1 := n.setRef 3
  n1.fault { cause := 0x29, detail := n1.rd Ob.ref_holdoverWord }

/-- Enter LOST with cause 0x2A (05 R137). -/
def Node.enterLost (n : Node) : Node :=
  let n1 := n.setRef 4
  n1.fault { cause := 0x2A, detail := put 79 48 (n1.holdTicks / tps) + put 47 16 n1.predictedNs }

/-- |y| exceeds the frequency lock window (05 R137, R139). -/
def Node.farFreq (n : Node) (y : Int) : Bool :=
  decide (n.rd Ob.ref_frequencyLockWindow * 2 ^ 48 < y.natAbs * 1000000000)

/-- Select entry `new`: its expected edge builds out the phase difference, and a frequency beyond the window moves I
(05 R139). -/
def Node.buildOut (n : Node) (new : Nat) (ec : Int) : Node :=
  let i := entryRef (n.prioEntry new)
  let y := n.rdS 64 (Ob.rin_monitorOffset i)
  let p := ofS 80 (((n.evOf i).last : Int) - ec)
  let n1 := (n.wr Ob.ref_activeEntry new).wr (Ob.rin_expectedEdge i) (stampField 0 p)
  let n2 := n1.modRef i (fun r => { r with perEdge := none, errSum := 0, errN := 0 })
  n2.modKst (fun k => { k with updAt := n.tb1, lastErr := ec, servoI := if n.farFreq y then k.servoI + (y : Rat) / (2 ^ 48 : Nat) else k.servoI })

/-- The record of a switch (05 R139; 14 R405). -/
def Node.switchRecord (n : Node) (old new : Nat) (ec : Int) : Node :=
  n.fault { cause := 0x28, detail := put 79 72 old + put 71 64 new + put 63 0 (ofS 64 (-ec)) }

/-- No entry is selected (05 R137). -/
def Node.noEntry (n : Node) : Node :=
  let st := n.rd Ob.ref_referenceState
  let n1 := n.wr Ob.ref_activeEntry 0xFF
  if st == 1 then (if n.kst.histValid then (if n.overBudget then n1.enterLost else n1.enterHoldover) else n1.setRef 0)
  else if st == 2 then
    let n2 := n1.exitLocked
    if n2.kst.histValid then n2.enterHoldover else n2.setRef 0
  else n1

/-- The state transition of a marker on the outcome of the selection (05 R137, R139). -/
def Node.transition (n : Node) (sel : Option Nat) : Node :=
  let st := n.rd Ob.ref_referenceState
  let old := n.rd Ob.ref_activeEntry
  match sel with
  | none => n.noEntry
  | some j =>
    if st == 1 || st == 2 then
      if j == old then n
      else
        let ec := if old < 8 then n.kst.lastErr else 0
        let n1 := if st == 2 && n.farFreq (n.rdS 64 (Ob.rin_monitorOffset (entryRef (n.prioEntry j)))) then n.setRef 1 else n
        (n1.buildOut j ec).switchRecord old j ec
    else (n.buildOut j 0).setRef 1

/-! ### Hall time -/

/-- The input whose 1PPS is the time source of hall time: the active entry's reference when it is 1PPS, otherwise its companion
(05 R143). -/
def Node.timeSource (n : Node) : Option Nat :=
  let a := n.rd Ob.ref_activeEntry
  if 8 ≤ a || !n.isRoot then none
  else
    let e := n.prioEntry a
    if n.rd (Ob.ev_nominalCode (entryRef e)) == 0 then some (entryRef e) else if bit e 23 then some (fld e 22 20) else none

/-- The anchor as its object holds it: A ticks, A fraction, S (05 R149). -/
def anchorBlob (a sec : Nat) : Nat := stampField 0 a + putField 10 6 sec

/-- Set the anchor (05 R142). -/
def Node.setAnchor (n : Node) (a sec : Nat) : Node :=
  (n.modKst (fun k => { k with ancT := a, ancS := sec })).wr Ob.khall_anchor (anchorBlob a sec)

/-- The hall time flags of the root Keystone (05 R144). -/
def Node.hallFlags (n : Node) : Nat :=
  let st := n.rd Ob.ref_referenceState
  let lab := n.kst.labelled
  let off := n.rdS 64 Ob.khall_timeOffset
  let near := decide (off.natAbs * 10 ≤ n.rd Ob.ref_holdoverBudget * 1000 * 1024)
  ofB lab + 2 * ofB (st == 2 && lab && n.timeSource.isSome && near) + 4 * ofB (st == 3 && lab)

/-- Post the hall time flags. -/
def Node.postFlags (n : Node) : Node := if n.isRoot then n.wr Ob.khall_hallTimeFlags n.hallFlags else n

/-- TB1 has passed A + 1 s: the anchor advances by one second (05 R142). -/
def secondRoll (n : Node) : Node :=
  when (n.kst.ancT + tps * 65536 ≤ n.tb1 * 65536) (fun n =>
    n.setAnchor (n.kst.ancT + tps * 65536) ((n.kst.ancS + 1) % 2 ^ 48)) n

/-- `HALL_SECOND_ROLL` (05 R142). -/
def execHallSecondRoll (s : State) : Host.Outcome State Fault Refusal := onNode s .hub s.hub.isKeystone secondRoll

/-- A write of the label: refused without a time source, else applied at the next edge of the time source (05 R143). -/
def labelWrite (v : Nat) (n : Node) : Node :=
  n.accept n.timeSource.isSome (fun n => n.modKst (fun k => { k with label := some (v % 2 ^ 48) }))

/-- `HALL_LABEL_WRITE` (05 R143). -/
def execHallLabelWrite (v : Nat) (s : State) : Host.Outcome State Fault Refusal := onNode s .hub true (labelWrite v)

/-- Reduce into [-half, half) of a period (05 R133, R143). -/
def wrapPeriod (period : Nat) (x : Int) : Int := (x + (period / 2 : Nat)) % (period : Int) - (period / 2 : Nat)

/-- An accepted edge of the time source: a pending label is applied, and the offset from the nearest anchor instant is posted
(05 R143). -/
def timeEdge (stamp : Nat) (n : Node) : Node :=
  match n.timeSource with
  | none => n
  | some j => when ((n.evOf j).seen && (n.evOf j).last == stamp) (fun n =>
      let at_ := ((stamp : Int) - n.rdS 64 (Ob.rin_inputDelay j)).toNat
      let n1 := match n.kst.label with
        | some sec => (n.setAnchor at_ sec).modKst (fun k => { k with label := none, labelled := true })
        | none => n
      let off := wrapPeriod (tps * 65536) ((at_ : Int) - n1.kst.ancT)
      ((n1.wrS 64 Ob.khall_timeOffset off).modKst (fun k => { k with offNow := off })).postFlags) n

/-- `TIME_SOURCE_EDGE` (05 R143). -/
def execTimeSourceEdge (stamp : Nat) (s : State) : Host.Outcome State Fault Refusal :=
  onNode s .hub s.hub.isKeystone (timeEdge stamp)

/-- Command 1: realignment is in force (05 R143). -/
def execRealignStart (s : State) : Host.Outcome State Fault Refusal :=
  onNode s .hub true (fun n => n.accept n.isKeystone (fun n => (n.modKst (fun k => { k with realign := true })).wr Ob.khall_realign 1))

/-- Command 0: realignment stops (05 R143). -/
def execRealignStop (s : State) : Host.Outcome State Fault Refusal :=
  onNode s .hub true (fun n => n.accept n.isKeystone (fun n => (n.modKst (fun k => { k with realign := false })).wr Ob.khall_realign 0))

/-- One tick of realignment: A moves toward zero offset at the rate, and a commanded realignment ends below one time unit
(05 R143). -/
def Node.realignTick (n : Node) : Node :=
  let k := n.kst
  if !(n.isRoot && (k.realign || n.rd Ob.khall_automaticRealign == 1)) then n
  else if k.offNow == 0 then
    (if k.realign then n.wr Ob.khall_realign 0 else n).modKst (fun k => { k with realign := false, realignAcc := 0 })
  else
    let acc := k.realignAcc + n.rd Ob.khall_realignRate * 1024
    let m := min (acc / (10 * tps)) k.offNow.natAbs
    let d : Int := if k.offNow < 0 then -(m : Int) else m
    (n.setAnchor ((k.ancT : Int) + d).toNat k.ancS).modKst (fun k =>
      { k with realignAcc := acc % (10 * tps), offNow := k.offNow - d })

/-! ### The DCO -/

/-- The limit of the DCO word (05 R132). -/
def dcoLimit : Int := 56294995342

/-- The word toward which d moves without a servo (05 R135). -/
def Node.dcoTarget (n : Node) : Int :=
  if n.rd Ob.ref_referenceState == 0 then n.rdS 64 Ob.ref_freeRunWord else n.rdS 64 Ob.ref_holdoverWord

/-- One tick of d's movement at the frequency slew limit in FREE_RUN, HOLDOVER and LOST (05 R132, R135). -/
def Node.dcoTick (n : Node) : Node :=
  let st := n.rd Ob.ref_referenceState
  let d := n.rdS 64 Ob.ref_dcoWord
  let t := n.dcoTarget
  if !n.isRoot || st == 1 || st == 2 then n
  else if d == t then (if n.kst.dAcc == 0 then n else n.modKst (fun k => { k with dAcc := 0 }))
  else
    let unit := 1000000000 * tps
    let acc := n.kst.dAcc + n.rd Ob.ref_frequencySlew * 2 ^ 48
    let m := min (acc / unit) (t - d).natAbs
    (n.wrS 64 Ob.ref_dcoWord (if t < d then d - m else d + m)).modKst (fun k => { k with dAcc := acc % unit })

/-- pi to forty decimals (log entry 20). -/
def piRat : Rat := 31415926535897932384626433832795028841972 / 10 ^ 40

/-- The loop bandwidth in mHz: at most 100 while the active reference is 1PPS (05 R134). -/
def Node.loopB (n : Node) (pps : Bool) : Nat :=
  if pps then min 100 (n.rd Ob.ref_loopBandwidth) else n.rd Ob.ref_loopBandwidth

/-- The servo constant wn in rad/s (05 R134). -/
def servoWn (milli : Nat) : Rat := 2 * piRat * (milli : Nat) / 2482

/-- Limit a value to a bound either way. -/
def clampAbs (lim x : Int) : Int := if lim < x then lim else if x < -lim then -lim else x

/-- The new d: the demand limited to the DCO's range, with cause 0x2B on entry into the clamp, and moved by at most the slew
limit of the interval (05 R132, R134). The demand is clamped until an update asks for a word inside the limit: FREE_RUN, HOLDOVER and LOST,
which make no demand, leave the clamp as it is (log entry 238). -/
def Node.setDco (n : Node) (demand : Int) (tu : Rat) : Node :=
  let out := decide (dcoLimit < demand.natAbs)
  let d := n.rdS 64 Ob.ref_dcoWord
  let step := ((n.rd Ob.ref_frequencySlew : Nat) * tu * (2 ^ 48 : Nat) / 1000000000).floor
  let d1 := d + clampAbs step (clampAbs dcoLimit demand - d)
  let n1 := if out && !n.kst.clamped then n.fault { cause := 0x2B, detail := ofS 64 demand } else n
  (n1.wrS 64 Ob.ref_dcoWord d1).modKst (fun k => { k with clamped := out })

/-- The lock windows after an update (05 R137). -/
def Node.servoLock (n : Node) (e : Int) : Node :=
  let st := n.rd Ob.ref_referenceState
  if st == 1 then
    let run := if withinPs e (n.rd Ob.ref_lockWindow) then n.kst.lockRun + 1 else 0
    if n.rd Ob.ref_lockCount ≤ run then n.setRef 2 else n.modKst (fun k => { k with lockRun := run })
  else
    let run := if withinPs e (n.rd Ob.ref_unlockWindow) then 0 else n.kst.unlockRun + 1
    if 4 ≤ run then n.setRef 1 else n.modKst (fun k => { k with unlockRun := run })

/-- An update of the reference servo, in ACQUIRING and LOCKED, when one falls due: a 1PPS reference with each accepted edge,
another every 1,024 markers; an interval without edges makes none (05 R133, R134). -/
def servoUpdate (n : Node) : Node :=
  let a := n.rd Ob.ref_activeEntry
  let st := n.rd Ob.ref_referenceState
  let i := entryRef (n.prioEntry a)
  let r := n.refOf i
  let pps := n.rd (Ob.ev_nominalCode i) == 0
  let due := if pps then decide (0 < r.errN) else decide (n.kst.updAt + 1024 * 512 ≤ n.tb1)
  when (n.isRoot && (st == 1 || st == 2) && a < 8 && due) (fun n =>
    let n0 := (n.modRef i (fun r => { r with errSum := 0, errN := 0, perEdge := none })).modKst (fun k => { k with updAt := n.tb1 })
    if r.errN == 0 then n0
    else
      let e : Rat := (r.errSum : Rat) / r.errN
      let es : Rat := e / (tps * 65536 : Nat)
      let tu : Rat := if pps then 1 else 33554432 / 100000000000
      let wn := servoWn (n.loopB pps)
      let i1 := n.kst.servoI - wn * wn * tu * es
      let y := i1 - 2 * wn * es
      let n1 := (n0.modKst (fun k => { k with servoI := i1, lastErr := roundRat e })).setDco (roundRat (y * (2 ^ 48 : Nat))) tu
      n1.servoLock (roundRat e)) n

/-- `REFERENCE_SERVO_UPDATE` (05 R134). -/
def execReferenceServoUpdate (s : State) : Host.Outcome State Fault Refusal := onNode s .hub s.hub.isKeystone servoUpdate

/-- The predicted error reaches the budget in HOLDOVER: LOST (05 R137). -/
def budgetReached (n : Node) : Node :=
  when (n.isRoot && n.rd Ob.ref_referenceState == 3 && n.overBudget) (fun n => n.enterLost) n

/-- `HOLDOVER_BUDGET_REACHED` (05 R137). -/
def execHoldoverBudgetReached (s : State) : Host.Outcome State Fault Refusal := onNode s .hub s.hub.isKeystone budgetReached

/-- Once per second in LOCKED, d is recorded; records older than the longest window are dropped (05 R136). -/
def historyRecord (n : Node) : Node :=
  when (n.isRoot && n.rd Ob.ref_referenceState == 2 && n.kst.histAt + tps ≤ n.tb1) (fun n =>
    n.modKst (fun k =>
      { k with
        histAt := n.tb1
        hist := (n.tb1, n.rdS 64 Ob.ref_dcoWord) :: k.hist.filter (fun e => decide (n.tb1 ≤ e.1 + 3610 * tps)) })) n

/-- `DCO_HISTORY_RECORD` (05 R136). -/
def execDcoHistoryRecord (s : State) : Host.Outcome State Fault Refusal := onNode s .hub s.hub.isKeystone historyRecord

/-- Once per second in LOCKED with DAC mode 1, correction moves from I into the DAC word (05 R141). -/
def dacDiscipline (n : Node) : Node :=
  let g := n.rdS 32 Ob.ref_dacGain
  when (n.isRoot && n.rd Ob.ref_referenceState == 2 && n.rd Ob.ref_dacMode == 1 && g != 0 && n.kst.dacAt + tps ≤ n.tb1) (fun n =>
    let w : Int := n.rd Ob.ref_dacWord
    let d := roundRat (n.kst.servoI * (2 ^ 48 : Nat) / (64 * g : Int))
    let d1 := if w + d < 0 then -w else if 65535 < w + d then 65535 - w else d
    (n.wr Ob.ref_dacWord (w + d1).toNat).modKst (fun k =>
      { k with dacAt := n.tb1, servoI := k.servoI - (d1 * g : Int) / (2 ^ 48 : Nat) })) n

/-- `DAC_DISCIPLINE` (05 R141). -/
def execDacDiscipline (s : State) : Host.Outcome State Fault Refusal := onNode s .hub s.hub.isKeystone dacDiscipline

/-! ### The marker -/

/-- The TWIN KEYSTONE message of the root (15 R434). -/
def Node.twinKeystone (n : Node) : Msg :=
  { typ := tTwin
    cells := [put 127 124 1 + put 123 121 (n.rd Ob.ref_referenceState) + put 120 113 (n.rd Ob.ref_activeEntry) +
              put 112 105 (n.rd Ob.khall_hallTimeFlags) + put 104 104 (ofB n.kst.histValid) + put 103 72 (n.holdTicks / tps),
              put 127 64 (n.kst.ancT / 65536) + put 63 48 n.kst.ancT + put 47 0 n.kst.ancS] }

/-- A written table comes into force at its marker (05 R131 step 3). -/
def Node.tableStep (n : Node) : Node :=
  match n.kst.tableAt with
  | some (t, v) => if t ≤ n.tb1 then (n.wr Ob.prio_priorityTable v).modKst (fun k => { k with tableAt := none }) else n
  | none => n

/-- The entry that a Keystone selects: the active one of a root that steers; one that does not steer keeps its own selection running
beside the root's entry that it reports (05 R145). -/
def Node.ownEntry (n : Node) : Nat := if n.isRoot then n.rd Ob.ref_activeEntry else n.kst.ownSel

/-- The selection of a Keystone that does not steer (05 R145). -/
def Node.ownSelect (n : Node) : Node := n.modKst (fun k => { k with ownSel := (n.select k.ownSel).getD 0xFF })

/-- The status bits of one reference after the selection, and its wait (05 R150); in use is the reference of the entry that this Keystone
selects itself (log entry 239). -/
def Node.refStatus (n : Node) (i : Nat) : Node :=
  let r := n.refOf i
  let named := (upTo 8).any (fun j => n.entrySel j && entryRef (n.prioEntry j) == i)
  let a := n.ownEntry
  ((n.refBit i 5 named).refBit i 6 (a < 8 && entryRef (n.prioEntry a) == i)).wr (Ob.rin_waitRemaining i)
    (if r.waiting then waitLeft n.tb1 r.waitTo else 0)

/-- The Keystone's marker (05 R131): inputs, waits, table, selection, state; one that does not steer keeps all but the state (05 R145). `ranks` are the ranks that the twin holds for its
own references, as the twin lanes carry them, and `track` is the follower's measured tracked word (log entry 21). -/
def keystoneMarker (ranks : List Nat) (track : Nat) (n : Node) : Node :=
  when (n.tb1 % 512 == 0) (fun n =>
    let n0 := overAll (upTo 8) (fun n i => n.modRef i (fun r => { r with twinRank := ranks.getD i 15 })) n
    let n1 := overAll (upTo 8) Node.waitEnd (overAll (upTo 8) Node.refMarker n0)
    let n2 := n1.tableStep
    let n3 := if n2.isRoot then (n2.transition (n2.select (n2.rd Ob.ref_activeEntry))).modKst (fun k => { k with ownSel := 0xFF }) else n2.ownSelect
    let n4 := if n3.isRoot && n3.kst.left && n3.rd Ob.ref_referenceState != 2 then n3.wr Ob.ref_predictedError n3.predictedNs else n3
    let n5 := (overAll (upTo 8) Node.refStatus n4).postFlags
    let n6 := if n5.isFollower then (n5.wr Ob.ref_follower 1).wr Ob.ref_trackedWord track else n5
    if n6.isRoot && n6.tb1 / 512 % 1024 == 0 then n6.sendTwin n6.twinKeystone else n6) n

/-- `KEYSTONE_MARKER` (05 R131). -/
def execKeystoneMarker (ranks : List Nat) (track : Nat) (s : State) : Host.Outcome State Fault Refusal :=
  onNode s .hub s.hub.isKeystone (keystoneMarker ranks track)

/-- A TWIN message of a kind. -/
def isTwinKind (k : Nat) (m : Msg) : Bool := m.typ == tTwin && fld m.head 127 124 == k

/-- The follower takes the root's state, entry, anchor, flags and history (05 R145). -/
def twinKeystoneReceived (p : Nat) (n : Node) : Node :=
  n.onMsg p (isTwinKind 1) (fun m n =>
    if !n.isFollower then n
    else
      let h := m.head
      let c := m.cell 1
      let n1 := ((n.wr Ob.ref_referenceState (fld h 123 121)).wr Ob.ref_activeEntry (fld h 120 113)).wr Ob.khall_hallTimeFlags (fld h 112 105)
      (n1.modKst (fun k =>
        { k with
          labelled := bit h 105, rootState := fld h 123 121, rootHist := bit h 104, rootTh := fld h 103 72 })).setAnchor
        (fld c 127 64 * 65536 + fld c 63 48) (fld c 47 0))

/-- `TWIN_KEYSTONE_RECEIVED` (05 R145). -/
def execTwinKeystoneReceived (p : Nat) (s : State) : Host.Outcome State Fault Refusal :=
  onNode s .hub (s.hub.isKeystone && (p == 66 || p == 67)) (twinKeystoneReceived p)

/-- A follower that has become root takes over: d and I from the tracked word, and HOLDOVER, LOST or FREE_RUN by what the root
last reported (05 R146). -/
def takeover (n : Node) : Node :=
  when (n.rd Ob.time_source == 0x7E && n.rd Ob.ref_follower == 1) (fun n =>
    let w := n.rdS 64 Ob.ref_trackedWord
    let k := n.kst
    let n1 := (((n.wr Ob.ref_follower 0).wrS 64 Ob.ref_dcoWord w).wr Ob.ref_activeEntry 0xFF).modKst (fun k =>
      { k with servoI := (w : Rat) / (2 ^ 48 : Nat), histValid := k.rootHist, left := true, lastErr := 0, lockRun := 0, unlockRun := 0 })
    let n2 := n1.wr Ob.ref_leftLocked (n.tb1 - k.rootTh * tps)
    if (k.rootState == 1 || k.rootState == 2 || k.rootState == 3) && k.rootHist then
      let n3 := n2.wr Ob.ref_referenceState 3
      n3.fault { cause := 0x29, detail := n3.rd Ob.ref_holdoverWord }
    else n2.wr Ob.ref_referenceState (if k.rootState == 4 then 4 else 0)) n

/-- `KEYSTONE_TAKEOVER` (05 R146). -/
def execKeystoneTakeover (s : State) : Host.Outcome State Fault Refusal := onNode s .hub s.hub.isKeystone takeover

/-! ### Edges of references -/

/-- The phase error of an edge against the expected edge (05 R133). -/
def Node.phaseError (n : Node) (i stamp : Nat) : Int :=
  let p := n.rd (Ob.rin_expectedEdge i)
  wrapPeriod (n.nomPeriod i) ((stamp : Int) - (fieldAt p 0 8 * 65536 + fieldAt p 8 2 : Nat))

/-- A reference takes an accepted edge: its monitor captures it, and the first of a marker period enters the update interval
(05 R123, R133). -/
def Node.refEdge (n0 : Node) (i stamp : Nat) (coarse : Bool) : Node :=
  let n := n0.rollMonitor i
  let m := markerOf n.tb1
  let per := n.nomPeriod i
  let n1 := n.modMon i (fun r => { ({ r with mode := 2, input := i } : Regr).capture i (regrThin (n.rd (Ob.rin_monitorGate i)) per) n.tb1
    (n.rd (Ob.ev_edgeCount i)) stamp (n.monGateEnd i) coarse with mode := r.mode })
  if (n.refOf i).perEdge == some m && n.rd (Ob.ev_nominalCode i) != 0 then n1
  else n1.modRef i (fun r => { r with perEdge := some m, errSum := r.errSum + n.phaseError i stamp, errN := r.errN + 1 })

/-- An edge on a channel, with what a hub's references make of it when it is accepted and stamped (04 R100, R110; 05 R122). -/
def hubEdge (c code : Nat) (falling hit : Bool) (n : Node) : Node :=
  let before := n.rd (Ob.ev_edgeCount (c - 0x60))
  let n1 := tdcEdge c code falling hit n
  if n.isHub && 0x60 ≤ c && n1.rd (Ob.ev_edgeCount (c - 0x60)) != before && (n1.chanOf c).convAt == some (n1.tb1, false) then
    n1.refEdge (c - 0x60) (n1.evOf (c - 0x60)).last (!(n.chanOf c).dll)
  else n1

/-- `TDC_EDGE` (04 R100). -/
def execTdcEdge (u : Who) (c code : Nat) (edge : EdgeKind) (s : State) : Host.Outcome State Fault Refusal :=
  onNode s u ((s.node u).hasChan c) (hubEdge c code edge.falling edge.hit)

/-! ### Pulse and frequency outputs of a hub -/

/-- Phase steps of an offset in 2^-16 ns (05 R148). -/
def offsetSteps (off : Int) : Int := roundRat ((off : Rat) * 100 / 8192)

/-- The first multiple of a period at or after a phase step, when it lies within the tick from there. -/
def multipleIn (period : Nat) (lo : Int) : Option Int :=
  let m := -((-lo) / (period : Int)) * (period : Int)
  if m < lo + 512 then some m else none

/-- Writes not yet in force, applied to settings in their order (05 R148). -/
def PulseSet.written (o : PulseSet) (w : List (Nat × Nat × Nat)) : PulseSet :=
  w.foldl (fun o e =>
    let v := e.2.2
    match e.2.1 with
    | 0 => { o with src := v }
    | 1 => { o with off := toS 64 v }
    | 2 => { o with wid := v }
    | 3 => { o with frq := v, per := v }
    | _ => { o with shot := v }) o

/-- The settings that come into force now: those of the longest run of waiting writes that have one and for which a placed instant has come
at least 1 ms after the last of them; source 0 has no instant, and takes effect at that time (05 R148; log entry 240). -/
def PulseSt.coming (p : PulseSt) (tick : Nat) (place : PulseSet → Option Nat) : Option (Nat × PulseSet × Nat) :=
  ((upTo p.pend.length).reverse.map (· + 1)).findSome? (fun m =>
    let set := p.now.written (p.pend.take m)
    let from_ := (p.pend.getD (m - 1) (0, 0, 0)).1
    if set.src == 0 then (if from_ ≤ tick then some (m, set, tick * 512) else none)
    else match place set with
      | some x => if from_ * 512 ≤ x then some (m, set, x) else none
      | none => none)

/-- The placed instant of a hub output in the tick TB1 holds, in phase steps, under settings (05 R147, R148). -/
def Node.outPlaced (n : Node) (o : PulseSet) : Option Nat :=
  let so := offsetSteps o.off
  let lo : Int := (n.tb1 * 512 : Nat) - so
  let inTick := fun (x : Int) => decide (lo ≤ x) && decide (x < lo + 512)
  let place := fun (x : Nat) => roundRat ((x : Rat) / 128)
  let r : Option Int :=
    if o.src == 1 then multipleIn (tps * 512) lo
    else if o.src == 2 then (let x : Int := (o.shot * 512 : Nat); if inTick x then some x else none)
    else if o.src == 3 then
      (if !n.kst.labelled || !n.isKeystone then none
       else (multipleIn (tps * 512) (lo - place n.kst.ancT)).map (· + place n.kst.ancT))
    else if 0x10 ≤ o.src && o.src < 0x18 then
      ((n.evOf (o.src - 0x10)).recent.map (fun s => place s + (tps * 512 : Nat))).find? inTick
    else none
  r.map (fun x => (x + so).toNat)

/-- The period of a frequency output in phase steps: 10, 25 or 156.25 MHz (05 R148). -/
def foutPeriod (f : Nat) : Nat := if f == 1 then 80000 else if f == 2 then 32000 else 5120

/-- An output fires at a placed instant: a pulse output goes high for its width, and its edge is one that slots measure; a frequency output
has a rising edge there (05 R148, 04 R109). An instant at which it has fired makes nothing more. -/
def Node.fireOut (n : Node) (k x : Nat) : Node :=
  let o := n.outOf k
  if o.lastAt == some x then n
  else if k < 4 then
    ((n.modOut k (fun o => { o with high := 0 < o.now.wid, fallAt := n.tb1 + o.now.wid, lastAt := some x })).bump (Ob.out_pulses k)).offerEdge
      (0x71 + k) (x * 128) false none
  else (n.modOut k (fun o => { o with edgeAt := some x, lastAt := some x })).bump (Ob.out_pulses k)

/-- An output fires when its settings place an instant in this tick that comes before another. -/
def Node.fireBefore (n : Node) (k : Nat) (limit : Option Nat) : Node :=
  match n.outPlaced (n.outOf k).now with
  | some x => if limit.all (fun y => decide (x < y)) then n.fireOut k x else n
  | none => n

/-- Written settings take effect from the first placed instant at least 1 ms after the write; until that instant the output fires as it was
set before (05 R148). -/
def outputEffective (k : Nat) (n : Node) : Node :=
  match (n.outOf k).coming n.tb1 n.outPlaced with
  | none => n
  | some (m, set, x) =>
    (n.fireBefore k (some x)).modOut k (fun o =>
      { o with now := set, pend := o.pend.drop m, high := o.high && set.src != 0, edgeAt := if set.src == 0 then none else o.edgeAt })

/-- `OUTPUT_SETTING_EFFECTIVE` (05 R148). -/
def execOutputSettingEffective (k : Nat) (s : State) : Host.Outcome State Fault Refusal :=
  onNode s .hub (decide (k < 6)) (outputEffective k)

/-- At each placed instant a pulse output goes high for its width, and a frequency output aligns a rising edge; settings whose first instant
this is are in force for it (05 R148). -/
def outputPulse (k : Nat) (n : Node) : Node := (outputEffective k n).fireBefore k none

/-- `OUTPUT_PULSE` (05 R148). -/
def execOutputPulse (k : Nat) (s : State) : Host.Outcome State Fault Refusal := onNode s .hub (decide (k < 6)) (outputPulse k)

/-- The pulse outputs of a hub fall at the end of their width, and a frequency output has its edges at whole periods from the placed ones, the
last before a placed one shortened where they do not meet (05 R148; log entry 240). -/
def Node.outsFall (n : Node) : Node :=
  { n with outs := n.outs.map (fun e => (e.1,
      { e.2 with
        high := e.2.high && !decide (e.2.fallAt ≤ n.tb1)
        edgeAt := e.2.edgeAt.map (fun x => x + (n.tb1 * 512 + 511 - x) / foutPeriod e.2.now.frq * foutPeriod e.2.now.frq) })) }

end Sys2Proof.Machine
end

