-- ==== Sys2Proof/Machine/TimeBases.lean ====
section
/-! DEFINITION. Time bases of a TSU (06): commands, slews, hall time, capture reads, pulse outputs, interrupts. -/

namespace Sys2Proof.Machine

/-- The part of a slew that one tick adds: the sign of the remaining amount, at most the slew rate (06 R157). -/
def slewPart (rate : Nat) (remain : Int) : Int := clampAbs rate remain

/-- One tick of an accumulating base: V grows by the increment and the slew part (06 R155); the tick on which a slew uses up its amount is
kept (06 R157). -/
def Node.baseTick (n : Node) (k : Nat) : Node :=
  let b := n.baseOf k
  let s := slewPart (n.rd (Ob.tb_slewRate k)) b.remain
  let rate : Int := n.rd (Ob.tb_increment k) + s
  let b1 := b.ofTotal ((b.total : Int) + rate).toNat
  n.modBase k (fun _ =>
    { b1 with remain := b.remain - s, lastS := s, rate := rate, endAt := if b.remain != 0 && b.remain == s then n.tb1 else b.endAt })

/-- One tick of the hall residual toward 0 at the hall slew rate (06 R162). -/
def Node.residTick (n : Node) : Node :=
  let h := n.hall
  if h.resid == 0 then n
  else
    let acc := h.part + n.rd Ob.hall_hallSlewRate * 2048
    let m := min (acc / 48828125) h.resid.natAbs
    let r : Int := if h.resid < 0 then h.resid + m else h.resid - m
    (n.modHall (fun h => { h with resid := r, part := if r == 0 then 0 else acc % 48828125 })).wrS 64 Ob.hall_hallResidual r

/-- TB0's own movement on this tick, made once: an accumulator's, or the residual's (06 R155, R162, R163). -/
def Node.tb0Tick (n : Node) : Node :=
  if n.hall.ticked then n
  else (if n.hallMode then n.residTick else n.baseTick 0).modHall (fun h => { h with ticked := true })

/-- Before a tick the highest seconds that each base has shown are kept, TB0's in hall mode too (06 R168), and TB0 has its movement still to
make. -/
def Node.basesMark (n : Node) : Node :=
  let n1 := overAll [0, 2, 3, 4, 5, 6, 7] (fun n k =>
    let sec := bits (n.tbValue k) 48 48
    if sec ≤ (n.baseOf k).topSec then n else n.modBase k (fun b => { b with topSec := sec })) n
  n1.modHall (fun h => { h with ticked := false })

/-- The time bases of a TSU on one tick (06 R159 step 4). -/
def Node.basesTick (n : Node) : Node := (overAll [2, 3, 4, 5, 6, 7] Node.baseTick n).tb0Tick

/-! ### Commands -/

/-- A base takes commands: not TB1, and not TB0 in hall mode (06 R158). -/
def Node.baseTakes (n : Node) (k : Nat) : Bool := k != 1 && !(k == 0 && n.hallMode)

/-- The signed amount of a command in 2^-48 ns (06 R157). -/
def amount48 (arg : Nat) : Int := toS 64 arg * 2 ^ 32

/-- A command is refused at its write (06 R158). -/
def Node.cmdOk (n : Node) (k op apply arg : Nat) : Bool :=
  n.baseTakes k && (apply == 0 || n.tb1 < apply) && (op != 1 || t96Ok (arg % 2 ^ 96)) &&
  (op != 2 || decide (0 ≤ ((n.baseOf k).total : Int) + amount48 arg))

/-- A command is written: refused, or pending in place of the one that waited (06 R158; log entry 22 for status 4). -/
def tbCommand (k op apply arg : Nat) (n : Node) : Node :=
  if n.cmdOk k op apply arg then
    let replaced := (n.baseOf k).cmdOp != 0
    ((n.modBase k (fun b => { b with cmdOp := op, cmdAt := if apply == 0 then n.tb1 + 1 else apply, cmdArg := arg })).wr
      (Ob.tb_command k) (if replaced then 4 else 1)).answer 0
  else (n.wr (Ob.tb_command k) 3).answer 3

/-- `TB_SET` (06 R157). -/
def execTbSet (k apply arg : Nat) (s : State) : Host.Outcome State Fault Refusal :=
  onObj s .tsu (decide (k < 8)) (tbCommand k 1 apply arg)

/-- `TB_STEP` (06 R157). -/
def execTbStep (k apply arg : Nat) (s : State) : Host.Outcome State Fault Refusal :=
  onObj s .tsu (decide (k < 8)) (tbCommand k 2 apply arg)

/-- `TB_SLEW` (06 R157). -/
def execTbSlew (k apply arg : Nat) (s : State) : Host.Outcome State Fault Refusal :=
  onObj s .tsu (decide (k < 8)) (tbCommand k 3 apply arg)

/-- `TB_CANCEL_SLEW` (06 R157). -/
def execTbCancelSlew (k apply : Nat) (s : State) : Host.Outcome State Fault Refusal :=
  onObj s .tsu (decide (k < 8)) (tbCommand k 4 apply 0)

/-- A base set to a total: a slew in progress is cancelled, and the seconds it is set to pass no second (06 R157, R158, R168). The rate of the
tick stays: an edge of the tick before does not see the set (06 R165). -/
def TBase.jump (b : TBase) (x : Nat) : TBase :=
  let b1 := b.ofTotal x
  { b1 with remain := 0, slewing := false, lastS := 0, topSec := max b.topSec b1.sec, cmdOp := 0 }

/-- A new remaining amount acts on this tick: its first part takes the place of the part already added (06 R157, R159). -/
def TBase.reslew (b : TBase) (rate : Nat) (amount : Int) (tick : Nat) : TBase :=
  let s := slewPart rate amount
  let b1 := b.ofTotal ((b.total : Int) - b.lastS + s).toNat
  { b1 with
    remain := amount - s, slewing := true, lastS := s, rate := b.rate - b.lastS + s, cmdOp := 0
    endAt := if amount == s then tick else b.endAt }

/-- The pending command acts at the first tick at or after its apply tick (06 R157, R158). -/
def tbApply (k : Nat) (n : Node) : Node :=
  let b := n.baseOf k
  when (b.cmdOp != 0 && b.cmdAt ≤ n.tb1) (fun n =>
    let rate := n.rd (Ob.tb_slewRate k)
    let done := fun (n : Node) => n.wr (Ob.tb_command k) 2
    if b.cmdOp == 1 then
      done ((n.modBase k (fun b => b.jump (bits b.cmdArg 48 48 * perSec48 + b.cmdArg % 2 ^ 48 * 2 ^ 32))).wr (Ob.tb_lastChange k) n.tb1)
    else if b.cmdOp == 2 then
      let v := (b.total : Int) + amount48 b.cmdArg
      if v < 0 then (n.modBase k (fun b => { b with cmdOp := 0 })).wr (Ob.tb_command k) 3
      else done ((n.modBase k (fun b => b.jump v.toNat)).wr (Ob.tb_lastChange k) n.tb1)
    else if b.cmdOp == 3 then done (n.modBase k (fun b => b.reslew rate (amount48 b.cmdArg) n.tb1))
    else done (n.modBase k (fun b => { b.reslew rate 0 n.tb1 with slewing := b.slewing }))) n

/-- Every command that is due acts, in ascending base number, after the bases have accumulated and before anything reads them on this tick
(06 R159 step 5). -/
def Node.commandsTick (n : Node) : Node := overAll [0, 2, 3, 4, 5, 6, 7] (fun n k => tbApply k n) n

/-- `TB_COMMAND_APPLY` (06 R158). -/
def execTbCommandApply (k : Nat) (s : State) : Host.Outcome State Fault Refusal := onNode s .tsu (decide (k < 8)) (tbApply k)

/-- The slew has ended: its end is the tick at which the remaining amount reached 0 (06 R157, R158). -/
def slewEnd (k : Nat) (n : Node) : Node :=
  let b := n.baseOf k
  when (b.slewing && b.remain == 0) (fun n =>
    (n.modBase k (fun b => { b with slewing := false })).wr (Ob.tb_lastChange k) b.endAt) n

/-- `TB_SLEW_END` (06 R157). -/
def execTbSlewEnd (k : Nat) (s : State) : Host.Outcome State Fault Refusal := onNode s .tsu (decide (k < 8)) (slewEnd k)

/-- The nominal increment (06 R156). -/
def nominalInc : Nat := 180143985094820

/-- An increment is written: refused for TB1 and beyond 1,000 ppm of nominal (06 R156, R171). -/
def incrementWrite (k v : Nat) (n : Node) : Node :=
  n.accept (k != 1 && decide (nominalInc ≤ v + 180143985095) && decide (v ≤ nominalInc + 180143985095)) (fun n => n.wr (Ob.tb_increment k) v)

/-- `TB_INCREMENT_WRITE` (06 R156). -/
def execTbIncrementWrite (k v : Nat) (s : State) : Host.Outcome State Fault Refusal :=
  onObj s .tsu (decide (k < 8)) (incrementWrite k v)

/-! ### Hall time -/

/-- The hall anchor's fields (06 R161): A in time units, S, and flags with state. -/
def anchorA (v : Nat) : Nat := fieldAt v 0 8 * 65536 + fieldAt v 8 2

/-- The anchor held in object 0x2010.00 is applied: `old` is TB0 under what was in force, with r. A small difference becomes the
residual, a large one steps TB0 with cause 0x2C; the flags change with it (06 R162). -/
def Node.applyAnchor (n : Node) (old : Int) : Node :=
  let v := n.rd Ob.hall_hallAnchor
  let n1 := n.modHall (fun h => { h with ancT := anchorA v, ancS := fieldAt v 10 6, resid := 0, part := 0 })
  let diff := old - n1.hallAt (n1.tb1 * 65536)
  let n2 := n1.wr Ob.hall_hallFlags (fieldAt v 17 1 * 256 + fieldAt v 16 1)
  if diff.natAbs ≤ n.rd Ob.hall_hallSlewLimit * 65536 then
    (n2.modHall (fun h => { h with resid := diff })).wrS 64 Ob.hall_hallResidual diff
  else (n2.wrS 64 Ob.hall_hallResidual 0).markSec.fault { cause := 0x2C, detail := ofS 64 diff }

/-- A hall anchor is written: held without effect in free mode, else applied (06 R161 to R163). -/
def anchorWrite (v : Nat) (n0 : Node) : Node :=
  let n := n0.tb0Tick
  let n1 := (n.wr Ob.hall_hallAnchor (v % 2 ^ 144)).bump Ob.hall_anchorWrites
  (if n.hallMode then n1.applyAnchor (n.hallAt (n.tb1 * 65536)) else n1).answer 0

/-- `HALL_ANCHOR_WRITE` (06 R162). -/
def execHallAnchorWrite (v : Nat) (s : State) : Host.Outcome State Fault Refusal := onNode s .tsu true (anchorWrite v)

/-- The total of a T96 in 2^-16 ns under hall time, as an accumulator (06 R163). -/
def TBase.fromHall (b : TBase) (x : Int) : TBase :=
  let b1 := b.ofTotal (t96To16 (t96Of16 x) * 2 ^ 32)
  { b1 with remain := 0, slewing := false, lastS := 0 }

/-- A change of TB0's mode: from hall it continues at the current hall value, to hall it applies the held anchor (06 R163); a command
that waited is refused, as hall mode takes none (06 R158; log entry 22). Where it takes effect with the start of a tick, TB0 first makes that
tick's movement in the old mode. -/
def modeChange (v : Nat) (n : Node) : Node :=
  n.rwsWrite (v ≤ 1) (Ob.tb_mode 0) v (fun n0 =>
    let n := n0.tb0Tick
    if v == n.rd (Ob.tb_mode 0) then n
    else if v == 1 then (n.modBase 0 (fun b => b.fromHall (n.hallAt (n.tb1 * 65536)))).wr (Ob.tb_mode 0) 1
    else
      let old : Int := ((n.baseOf 0).total / 2 ^ 32 : Nat)
      let n1 := if (n.baseOf 0).cmdOp != 0 then (n.modBase 0 (fun b => { b with cmdOp := 0 })).wr (Ob.tb_command 0) 3 else n
      ((n1.wr (Ob.tb_mode 0) 0).applyAnchor old))

/-- `TB_MODE_CHANGE` (06 R163). -/
def execTbModeChange (v : Nat) (s : State) : Host.Outcome State Fault Refusal := onNode s .tsu true (modeChange v)

/-- The hall anchor as the root Keystone writes it: A, S, flags, state (06 R161). -/
def Node.anchorOut (n : Node) : Nat :=
  n.rd Ob.khall_anchor + putField 16 1 (n.rd Ob.khall_hallTimeFlags) + putField 17 1 (n.rd Ob.ref_referenceState)

/-- What makes a distribution due when it changes: the anchor but for its second rolls, the flags and the state (06 R161). -/
def Node.anchorKey (n : Node) : Nat :=
  let a : Int := (n.kst.ancT : Int) - (n.kst.ancS * tps * 65536 : Nat)
  (a % ((2 ^ 128 : Nat) : Int)).toNat * 2 ^ 16 + n.rd Ob.khall_hallTimeFlags * 2 ^ 8 + n.rd Ob.ref_referenceState

/-- Realignment is moving the anchor (05 R143). -/
def Node.realigning (n : Node) : Bool :=
  n.isRoot && (n.kst.realign || n.rd Ob.khall_automaticRealign == 1) && n.kst.offNow != 0

/-- A write to every TSU is due: the anchor, the flags or the state have changed; during realignment once per second; otherwise every 16 s
(06 R161). -/
def Node.anchorDue (n : Node) : Bool :=
  match n.kst.distAt with
  | none => true
  | some t =>
    let was := n.kst.distWas
    if n.realigning then n.anchorKey % 2 ^ 16 != was % 2 ^ 16 || decide (t + tps ≤ n.tb1)
    else n.anchorKey != was || decide (t + 16 * tps ≤ n.tb1)

/-- The root Keystone writes its anchor by relay: to every TSU when that is due, and to those of which a lane has just reached SYNCED
(06 R161). `dies` are the TSUs that its firmware knows, and `synced` those (log entry 24). -/
def anchorDistribution (dies synced : List Nat) (n : Node) : Node :=
  when n.isRoot (fun n =>
    let write := fun (n : Node) (d : Nat) => n.relayWrite d Ob.hall_hallAnchor 24 n.anchorOut
    if n.anchorDue then
      (overAll dies write n).modKst (fun k => { k with distAt := some n.tb1, distWas := n.anchorKey })
    else overAll synced write n) n

/-- `ANCHOR_DISTRIBUTION` (06 R161). -/
def execAnchorDistribution (dies : Targets) (s : State) : Host.Outcome State Fault Refusal :=
  onNode s .hub s.hub.isKeystone (anchorDistribution dies.all dies.synced)

/-! ### Capture -/

/-- A read of the record object returns the oldest record and removes it; an empty queue gives zeros (06 R166). -/
def captureRead (i : Nat) (n : Node) : Node :=
  let q := n.capOf i
  match q.recs with
  | [] => n.answerData 0 0 48
  | r :: rest => (n.modCap i (fun q => { q with recs := rest })).answerData 0 r 48

/-- `CAPTURE_RECORD_READ` (06 R166). -/
def execCaptureRecordRead (i : Nat) (s : State) : Host.Outcome State Fault Refusal := onNode s .tsu (decide (i < 8)) (captureRead i)

/-! ### Pulse outputs -/

/-- Where a base will cross its next whole second, in phase steps, at its increment and slew as they stand (06 R168); none before the seconds
field passes its highest previous value. -/
def Node.nextSecond (n : Node) (b : Nat) : Option Int :=
  let t := n.baseOf b
  let inc : Int := n.rd (Ob.tb_increment b)
  let s := slewPart (n.rd (Ob.tb_slewRate b)) t.remain
  let dist : Int := (perSec48 - (t.ns * 2 ^ 48 + t.frac) : Nat)
  let parts : Int := if s == 0 then 0 else ((t.remain.natAbs + s.natAbs - 1) / s.natAbs : Nat)
  let ticks : Rat := if dist ≤ parts * (inc + s) then (dist : Rat) / (inc + s : Int) else ((dist - t.remain : Int) : Rat) / (inc : Rat)
  if t.sec < t.topSec then none else some (roundRat (((n.tb1 : Nat) + ticks) * 512))

/-- TB0 in hall mode is at a whole second every second from here, in phase steps (06 R160, R168). -/
def Node.hallSecond (n : Node) : Rat := ((n.hall.ancT : Rat) - (n.hall.resid : Rat) * 25 / 16) / 128

/-- A base has crossed a whole second with this tick, in phase steps: its value after the crossing, over what the tick added, lies before the
tick; for TB0 in hall mode the instant of 06 R160. A second that a set, a step or an anchor reached, or that the base has passed before, is none
(06 R168). -/
def Node.crossed (n : Node) (b : Nat) : Option Int :=
  let t := n.baseOf b
  let per : Rat := (tps * 512 : Nat)
  if bits (n.tbValue b) 48 48 ≤ t.topSec then none
  else if b == 0 && n.hallMode then
    some (roundRat (n.hallSecond + (((n.tb1 * 512 : Nat) - n.hallSecond) / per).floor * per))
  else some ((n.tb1 * 512 : Nat) - roundRat ((t.ns * 2 ^ 48 + t.frac : Nat) * 512 / (t.rate : Rat)))

/-- The instant, in phase steps, at which a source's output is placed on this tick, with its offset: a base's crossing when the offset is not
negative, and a predicted one when it is; another source's nominal instant of this tick, or the one whose placed instant this tick holds
(06 R167, R168; 05 R148). -/
def Node.placeNow (n : Node) (o : PulseSet) : Option Nat :=
  let so := offsetSteps o.off
  let lo : Int := (n.tb1 * 512 : Nat) - (if so < 0 then so else 0)
  let inTick := fun (x : Int) => decide (lo ≤ x) && decide (x < lo + 512)
  let shot : Int := (o.shot * 512 : Nat)
  let ahead := fun (x : Int) => decide (lo - 512 < x) && decide (x ≤ lo)
  let r : Option Int :=
    if o.src == 1 then multipleIn (tps * 512) lo
    else if o.src == 2 then (if inTick shot then some shot else none)
    else if o.src == 3 then (multipleIn (o.per * 512) (lo - shot)).map (· + shot)
    else if o.src == 8 && n.hallMode && so < 0 then
      let x := roundRat (n.hallSecond + (((lo : Rat) - n.hallSecond) / (tps * 512 : Nat)).floor * (tps * 512 : Nat))
      if ahead x && (n.baseOf 0).topSec ≤ bits (n.tbValue 0) 48 48 then some x else none
    else if 8 ≤ o.src && o.src < 16 then (if so < 0 then (n.nextSecond (o.src - 8)).filter ahead else n.crossed (o.src - 8))
    else if 0x10 ≤ o.src && o.src < 0x18 then
      ((n.evOf (o.src - 0x10)).recent.map (fun s => roundRat ((s : Rat) / 128) + (tps * 512 : Nat))).find? inTick
    else none
  r.map (fun x => (x + so).toNat)

/-- The settings in force for a placed instant (05 R148). -/
def PulseSt.at_ (p : PulseSt) (x : Nat) : PulseSet :=
  match p.next with
  | some (x0, set) => if x0 ≤ x then set else p.now
  | none => p.now

/-- The output is driven at a placed instant: it goes high for its width, and its edge is one that slots measure. One that the width of the
pulse before reaches is not a new one: the output was held high until it, and falls (06 R167, R168; 04 R109; log entry 23). -/
def Node.drivePulse (n : Node) (k x : Nat) : Node :=
  let o := n.pulseOf k
  let wid := (o.at_ x).wid
  let n1 := n.bump (Ob.pulse_pulses k)
  if o.highTo.any (fun u => decide (x ≤ u)) then
    n1.modPulse k (fun o => { o with high := false, lastAt := some x, highTo := none })
  else (n1.modPulse k (fun o => { o with high := 0 < wid, fallAt := n.tb1 + wid, lastAt := some x, highTo := some (x + wid * 512) })).offerEdge
    (0x71 + k) (x * 128) false none

/-- A pulse is placed: driven now, or when its instant comes; nothing new is placed while function 7 is not enabled (06 R167, 16 R461). An
instant that has been placed is not placed again. -/
def Node.putPulse (n : Node) (k x : Nat) : Node :=
  let o := n.pulseOf k
  if o.lastAt == some x || decide (x ∈ o.placed) then n
  else if !n.fnEnabled 7 then n.bump (Ob.fn_refused 7)
  else if x < n.tb1 * 512 + 512 then n.drivePulse k x
  else n.modPulse k (fun o => { o with placed := (o.placed.filter (· < x)) ++ x :: o.placed.filter (x < ·) })

/-- Written settings come into force with the first instant they place at least 1 ms after the write: from that instant on, what was placed
for the settings before is withdrawn (05 R148). -/
def Node.pulseSettings (n : Node) (k : Nat) : Node :=
  let o := n.pulseOf k
  if o.next.isSome then n
  else match o.coming n.tb1 n.placeNow with
    | none => n
    | some (m, set, x) => n.modPulse k (fun o =>
        { o with next := some (x, set), pend := o.pend.drop m, placed := o.placed.filter (· < x), high := o.high && set.src != 0 })

/-- Place the pulses of this tick: an instant of the settings in force, up to the first of the settings that follow, and that one
(06 R167). -/
def pulsePlace (k : Nat) (n : Node) : Node :=
  let n1 := n.pulseSettings k
  let o := n1.pulseOf k
  let put := fun (n : Node) (x : Option Nat) (ok : Nat → Bool) => match x with
    | some x => if ok x then n.putPulse k x else n
    | none => n
  match o.next with
  | none => put n1 (n1.placeNow o.now) (fun _ => true)
  | some (x0, set) => put (put n1 (n1.placeNow o.now) (fun x => decide (x < x0))) (n1.placeNow set) (fun x => decide (x0 ≤ x))

/-- `PULSE_OUTPUT_PLACE` (06 R167). -/
def execPulseOutputPlace (k : Nat) (s : State) : Host.Outcome State Fault Refusal := onNode s .tsu (decide (k < 4)) (pulsePlace k)

/-- The pulse outputs of a TSU on one tick: settings whose first instant has passed are in force alone, an output falls at the end of its width,
and placed pulses whose instant has come are driven (05 R148, 06 R167). -/
def Node.pulseTick (n : Node) (k : Nat) : Node :=
  let o := n.pulseOf k
  if !o.high && o.placed.isEmpty && o.next.isNone then n
  else
    let n1 := n.modPulse k (fun o =>
      let o1 := match o.next with
        | some (x0, set) => if x0 < n.tb1 * 512 then { o with now := set, next := none } else o
        | none => o
      { o1 with high := o.high && !decide (o.fallAt ≤ n.tb1), placed := o.placed.filter (fun x => decide (n.tb1 * 512 + 512 ≤ x)) })
    overAll (o.placed.filter (fun x => decide (x < n.tb1 * 512 + 512))) (fun n x => n.drivePulse k x) n1

/-! ### Interrupts -/

/-- `INTERRUPT_EVENT` (16 R467). -/
def execInterruptEvent (src : Nat) (s : State) : Host.Outcome State Fault Refusal :=
  onNode s .tsu true (fun n => n.irqEvent src)

/-- Acknowledge: 1 bits clear the pending bits of event sources (16 R467). -/
def irqAck (v : Nat) (n : Node) : Node := (n.wr Ob.irq_pending (ackBits (n.rd Ob.irq_pending) v)).answer 0

/-- `INTERRUPT_ACKNOWLEDGE` (16 R467). -/
def execInterruptAcknowledge (v : Nat) (s : State) : Host.Outcome State Fault Refusal := onNode s .tsu true (irqAck v)

end Sys2Proof.Machine
end

