-- ==== Sys2Proof/Machine/StepOps.lean ====
section
/-! DEFINITION. What every family does to a step of a context: escrow states, taint, aborts, fault waves, outcomes. -/

namespace Sys2Proof.Machine

/-- The escrow state of a context: 0 IDLE, 1 ARMED, 2 CONFIRMED, 3 FIRED, 4 RECALLED (10 R280). -/
def Node.escrow (n : Node) (c : Nat) : Nat := n.rd (Ob.ctx_escrowState c)

/-- The context holds a step in ARMED, CONFIRMED or FIRED (09 R222). -/
def Node.stepHeld (n : Node) (c : Nat) : Bool := 1 ≤ n.escrow c && n.escrow c ≤ 3

/-- Some context holds a step. -/
def Node.anyHeld (n : Node) : Bool := (upTo n.ctxCount).any n.stepHeld

/-- The context's step is in flight on its fire (10 R265). -/
def Node.fired (n : Node) (c : Nat) : Bool := n.escrow c == 3

/-- Strict is set (13 R357). -/
def Node.strict (n : Node) : Bool := n.rd Ob.det_strict == 1

/-- Set a taint reason of the step in flight of a context (13 R360); the first one makes it a tainted step (13 R381). -/
def Node.taint (n : Node) (c reason : Nat) : Node :=
  if n.fired c && !bit (n.rd (Ob.tag_taintReasons c)) reason then
    let n1 := if n.rd (Ob.tag_taintReasons c) == 0 then n.bump (Ob.tag_taintedSteps c) else n
    n1.wr (Ob.tag_taintReasons c) (n.rd (Ob.tag_taintReasons c) + 2 ^ reason)
  else n

/-- Walk states (09 R260). -/
def Node.walk (n : Node) (c : Nat) : Nat := n.rd (Ob.seq_walkState c)

/-- The walk stops: no further entry of the step is processed (09 R232, R256). -/
def Node.stopWalk (n : Node) (c : Nat) : Node :=
  (if n.walk c == 1 || n.walk c == 2 then n.wr (Ob.seq_walkState c) 3 else n).modCtx c (fun x => { x with waitE := none })

/-- An abort action is placed for a context, once in a step (07 R181, R542). -/
def Node.placeAbort (n : Node) (c : Nat) : Node :=
  if (n.ctxOf c).abortAt.isSome || n.bus.aborts.any (fun a => a.1 == c) then n
  else n.modBus (fun b => { b with aborts := b.aborts ++ [(c, n.tb1)] })

/-- A FIRED step is aborted with a cause: the abort is placed and the walk stops; the first cause stays (09 R256, 14 R386,
R387). -/
def Node.abortStep (n : Node) (c cause : Nat) : Node :=
  if n.fired c then
    ((n.placeAbort c).stopWalk c).modCtx c (fun x => { x with cause := if x.cause == 0 then cause else x.cause })
  else n

/-- A TSU raises the fault wave of a context, at most once for each step: it enters the fault queues of both lanes, and a FIRED
step is aborted (14 R386). -/
def Node.raiseWave (n : Node) (c cause : Nat) : Node :=
  let n1 :=
    if (n.ctxOf c).waveSent then n
    else
      let slot := slotOf cause n.span n.epoch n.ident c
      let n1 := (n.modCtx c (fun x => { x with waveSent := true })).bump Ob.flt_wavesOriginated
      if n.member then overAll [0, 1] (fun n p => n.queueWave p 127 n.tb1 slot) n1 else n1
  n1.abortStep c cause

/-- A hub raises a fault wave for a context of a span with its own identity as origin (14 R386, 02 R53). -/
def Node.raiseHubWave (n : Node) (span epoch ctx cause : Nat) : Node :=
  let slot := slotOf cause span epoch n.ident ctx
  overAll (n.wavePorts span epoch) (fun n p => n.queueWave p 127 n.tb1 slot) (n.bump Ob.flt_wavesOriginated)

/-- A deadline-class fault: its record, the wave, the abort and the stopped walk (09 R256). -/
def Node.deadlineFault (n : Node) (c cause obj detail : Nat) : Node := (n.ctxFault cause c obj detail).raiseWave c cause

/-- The counter of an outcome: 1 completed, 2 dropped, 3 and 4 extended, 5 aborted (09 R260). -/
def outcomeCounter (c oc : Nat) : Nat :=
  if oc == 1 then Ob.seq_stepsCompleted c else if oc == 2 then Ob.seq_stepsDropped c
  else if oc == 5 then Ob.seq_stepsAborted c else Ob.seq_stepsExtended c

/-- The last outcome of a context: step number, outcome, cause, table, F, end tick (09 R260). -/
def outcomeBlob (step oc cause table fire fin : Nat) : Nat :=
  putField 0 8 step + putField 8 1 oc + putField 9 1 cause + putField 10 1 table + putField 16 8 fire + putField 24 8 fin

/-- Post the outcome of the step a context holds, advance its counter and assert "step end" (09 R254). -/
def Node.postOutcome (n : Node) (c oc cause : Nat) : Node :=
  let x := n.ctxOf c
  ((n.wr (Ob.seq_lastOutcome c) (outcomeBlob x.step oc cause x.table x.fire n.tb1)).bump (outcomeCounter c oc)).irqEvent c

/-- A region is a member of a region group (07 R180, R201). -/
def Node.inGroup (n : Node) (r g : Nat) : Bool := g == 63 || bit (n.rd (Ob.agent_groupMask r)) g

/-- The regions of a group. -/
def Node.groupRegions (n : Node) (g : Nat) : List Nat := (upTo n.regionCount).filter (fun r => n.inGroup r g)

/-- The region's outputs reach its Agent: power-good is high and no isolation line is (14 R401, 17 R485). -/
def Node.inputLive (n : Node) (r : Nat) : Bool := (n.regionOf r).pgood && (n.regionOf r).iso == 0

/-- The region holds an active run (07 R191). -/
def Node.runOf (n : Node) (r : Nat) : Option Run := (n.agentOf r).run

/-- The Agent's copy of TB1 (07 R183, R185). -/
def Node.agentTick (n : Node) (r : Nat) : Nat := (((n.tb1 : Int) + (n.agentOf r).skew) % ((2 ^ 64 : Nat) : Int)).toNat

end Sys2Proof.Machine
end

