-- ==== Sys2Proof/Machine/Viaducts.lean ====
section
/-! DEFINITION. Viaduct cells (08): flush, writes, scheduled reads, stalled and tick-mode deliveries, severing. -/

namespace Sys2Proof.Machine

/-- The crossing latency K in ticks (08 R204). -/
def vdK : Nat := 2

/-- The reader region of a cell (08 R216). -/
def Node.vdReader (n : Node) (v : Nat) : Nat := fld (n.rd (Ob.vd_endpoints v)) 9 0

/-- The writer region of a cell (08 R216). -/
def Node.vdWriter (n : Node) (v : Nat) : Nat := fld (n.rd (Ob.vd_endpoints v)) 25 16

/-- Cells placed (08 R217). -/
def Node.vdCount (n : Node) : Nat := n.rd Ob.vds_viaducts

/-- Set a bit of a cell's status (08 R216): 0 severed, 1 overflow, 2 late, 3 write full. -/
def Node.vdBit (n : Node) (v b : Nat) (x : Bool) : Node := n.wrBits (Ob.vd_status v) b 1 (ofB x)

/-- The power-good of both sides of a cell is high (08 R214). -/
def Node.vdPowered (n : Node) (v : Nat) : Bool := (n.regionOf (n.vdReader v)).pgood && (n.regionOf (n.vdWriter v)).pgood

/-- A cell is severed: from a power-good that is low until both are high and a flush occurs (08 R214). -/
def Node.vdSevered (n : Node) (v : Nat) : Bool := bit (n.rd (Ob.vd_status v)) 0 || !n.vdPowered v

/-- The tick that the cell counts by: the reader Agent's copy of TB1 (08 R204). -/
def Node.vdTick (n : Node) (v : Nat) : Nat := n.agentTick (n.vdReader v)

/-- A flush empties the cell, clears its flags and peak, and brings written mode, lag and context into force; a severed cell is
joined again when both power-goods are high. Entries written on its tick stay, and a tick has one flush (08 R205, R206, R214). -/
def Node.flushCell (n : Node) (v : Nat) : Node :=
  if (n.cellOf v).flushAt == some n.tb1 then n else
  let severed := !n.vdPowered v
  let n1 := n.modCell v (fun c =>
    { c with
      held := if n.rd (Ob.vd_mode v) == 0 || severed then [] else c.held.filter (fun e => n.vdTick v ≤ e.wtick), freeing := [], fullTold := false
      pendRead := none, rdValid := false, flushAt := some n.tb1
      mode := n.rd (Ob.vd_mode v), lag := n.rd (Ob.vd_releaseLag v), ctx := n.rd (Ob.vd_context v) })
  let left := (n1.cellOf v).held.length
  (((n1.wr (Ob.vd_status v) (ofB severed)).wr (Ob.vd_peakOccupancy v) left).wr (Ob.vd_occupancy v) left).wrBits Ob.vds_lateCells v 1 0

/-- A flush of this tick that the reader Agent has still to make acts before a read or a write of the tick (08 R205, R215): a launch, a cut or
an abort of the cell's context waits for the tick. -/
def Node.flushFirst (n : Node) (v : Nat) : Node :=
  if (n.agentOf (n.vdReader v)).acts.any (fun a => a.tick0 == n.tb1 && a.op != 4 && a.ctx == n.rd (Ob.vd_context v)) then n.flushCell v else n

/-- The reader Agent raises `vd_flush` on the cells that name the context (08 R205; log entry 26 for the context's object). -/
def Node.flushRegion (n : Node) (r ctx : Nat) : Node :=
  overAll ((upTo n.vdCount).filter (fun v => n.vdReader v == r && n.rd (Ob.vd_context v) == ctx)) Node.flushCell n

/-- Slots taken at the tick TB1 holds: entries held and slots not yet writable again (08 R207, R209). -/
def Node.vdTaken (n : Node) (v : Nat) : Nat :=
  let c := n.cellOf v
  c.held.length + (c.freeing.filter (fun t => n.vdTick v < t)).length

/-- A write edge: accepted and discarded while severed, discarded while off, an overflow when every slot is held or since one, else an
entry with its write tick (08 R207, R210, R213, R214; log entry 39). -/
def viaductWrite (v data : Nat) (n0 : Node) : Node :=
  let n := n0.flushFirst v
  let c := n.cellOf v
  let st := n.rd (Ob.vd_status v)
  if n.vdSevered v then n.bump (Ob.vd_writes v)
  else if c.mode == 0 then n.bump (Ob.vd_overflows v)
  else if bit st 1 || n.rd (Ob.vd_physicalDepth v) ≤ n.vdTaken v then
    let n1 := ((n.bump (Ob.vd_overflows v)).vdBit v 1 true).vdBit v 3 true
    if c.fullTold then n1
    else (n1.modCell v (fun c => { c with fullTold := true })).fault
      { cause := 0x3B, region := n.vdWriter v, ctx := c.ctx, span := n.span, obj := v, detail := put 79 64 (n.rd (Ob.vd_physicalDepth v)) }
  else
    let w := n.rd (Ob.vd_width v)
    let n1 := n.modCell v (fun c =>
      { c with held := c.held ++ [{ wtick := n.vdTick v, data := data % 2 ^ w }], freeing := c.freeing.filter (fun t => n.vdTick v < t) })
    let occ := (n1.cellOf v).held.length
    ((n1.bump (Ob.vd_writes v)).wr (Ob.vd_occupancy v) occ).wr (Ob.vd_peakOccupancy v) (max occ (n.rd (Ob.vd_peakOccupancy v)))

/-- `VIADUCT_WRITE` (08 R213). -/
def execViaductWrite (v data : Nat) (s : State) : Host.Outcome State Fault Refusal :=
  onNode s .tsu (decide (v < s.tsu.vdCount)) (viaductWrite v data)

/-- The oldest entry is delivered on this edge and frees its slot K ticks on (08 R207, R209). -/
def Node.deliver (n : Node) (v : Nat) : Node :=
  match (n.cellOf v).held with
  | [] => n
  | e :: rest =>
    (n.modCell v (fun c =>
      { c with
        held := rest, freeing := c.freeing.filter (fun t => n.vdTick v < t) ++ [n.vdTick v + vdK], rdValid := true, rdData := e.data
        pendRead := none })).wr (Ob.vd_occupancy v) rest.length

/-- No entry is delivered on this edge. -/
def Node.noDelivery (n : Node) (v : Nat) : Node := n.modCell v (fun c => { c with rdValid := false, rdData := 0 })

/-- The oldest entry is visible to a read in the tick TB1 holds (08 R207). -/
def Node.vdVisible (n : Node) (v : Nat) : Bool :=
  match (n.cellOf v).held with
  | [] => false
  | e :: _ => decide (e.wtick + vdK ≤ n.vdTick v)

/-- A late crossing: flagged, counted and recorded; under Strict a deadline-class fault of the step, otherwise the read stays
pending and taints the step (08 R208, 09 R256, 13 R360). -/
def Node.lateCrossing (n : Node) (v cycle : Nat) : Node :=
  let c := n.cellOf v
  let n1 := ((((n.noDelivery v).vdBit v 2 true).bump (Ob.vd_lateCrossings v)).wr (Ob.vd_lastLate v)
    (putField 0 8 (n.vdTick v) + putField 8 8 cycle)).wrBits Ob.vds_lateCells v 1 1
  let n2 := n1.fault
    { cause := 0x3A, region := n.vdReader v, ctx := c.ctx, span := n.span, obj := v, detail := put 79 70 (n.vdWriter v) + put 63 0 cycle }
  if n.strict then (if n.fired c.ctx then n2.raiseWave c.ctx 0x3A else n2)
  else (n2.modCell v (fun c => { c with pendRead := some (c.pendRead.getD (n.vdTick v, cycle)) })).taint c.ctx 1

/-- A scheduled read: the oldest visible entry, or a late crossing; off and severed cells answer with valid low, and tick mode ignores
the read. An edge on which the entry of a pending read is visible delivers it to that read (08 R207 to R210, R213, R214). -/
def viaductRead (v cycle : Nat) (n0 : Node) : Node :=
  let n := n0.flushFirst v
  let c := n.cellOf v
  if n.vdSevered v || c.mode == 0 then n.noDelivery v
  else if c.mode == 2 then n
  else if n.vdVisible v then (if c.pendRead.isSome then (n.deliver v).taint c.ctx 1 else n.deliver v)
  else n.lateCrossing v cycle

/-- `VIADUCT_READ` (08 R208). -/
def execViaductRead (v cycle : Nat) (s : State) : Host.Outcome State Fault Refusal :=
  onNode s .tsu (decide (v < s.tsu.vdCount)) (viaductRead v cycle)

/-- A pending late read is delivered on the first reader edge after its entry is visible, and taints the reader's step
(08 R208). -/
def viaductStalled (v : Nat) (n0 : Node) : Node :=
  let n := n0.flushFirst v
  when (!n.vdSevered v && (n.cellOf v).pendRead.isSome && n.vdVisible v) (fun n => (n.deliver v).taint (n.cellOf v).ctx 1) n

/-- `VIADUCT_STALLED_DELIVERY` (08 R208). -/
def execViaductStalledDelivery (v : Nat) (s : State) : Host.Outcome State Fault Refusal :=
  onNode s .tsu (decide (v < s.tsu.vdCount)) (viaductStalled v)

/-- In tick mode a released entry is delivered on the next reader edge and taints the step (08 R209, R210). -/
def viaductTick (v : Nat) (n0 : Node) : Node :=
  let n := n0.flushFirst v
  let c := n.cellOf v
  if n.vdSevered v || c.mode != 2 then n
  else match c.held with
  | e :: _ => if e.wtick + c.lag ≤ n.vdTick v then (n.deliver v).taint c.ctx 2 else n.noDelivery v
  | [] => n.noDelivery v

/-- `VIADUCT_TICK_DELIVERY` (08 R209). -/
def execViaductTickDelivery (v : Nat) (s : State) : Host.Outcome State Fault Refusal :=
  onNode s .tsu (decide (v < s.tsu.vdCount)) (viaductTick v)

/-- A cell is severed: its entries are discarded and its outputs clamped (08 R214). -/
def Node.sever (n : Node) (v : Nat) : Node :=
  ((n.modCell v (fun c => { c with held := [], freeing := [], pendRead := none, rdValid := false, rdData := 0 })).vdBit v 0 true |>.vdBit
    v 3 false).wr (Ob.vd_occupancy v) 0

/-- The cells of a region are severed (08 R214). -/
def Node.severRegion (n : Node) (r : Nat) : Node :=
  overAll ((upTo n.vdCount).filter (fun v => n.vdReader v == r || n.vdWriter v == r)) Node.sever n

/-- A power-good of one side has fallen (08 R214). -/
def viaductSever (v : Nat) (n : Node) : Node :=
  when (!n.vdPowered v) (fun n => n.sever v) n

/-- `VIADUCT_SEVER` (08 R214). -/
def execViaductSever (v : Nat) (s : State) : Host.Outcome State Fault Refusal :=
  onNode s .tsu (decide (v < s.tsu.vdCount)) (viaductSever v)

end Sys2Proof.Machine
end

