-- ==== Sys2Proof/Machine/Agents.lean ====
section
/-! DEFINITION. The tick bus, Region Agents and the Slack Ledger (07). -/

namespace Sys2Proof.Machine

/-! ### Bus frames -/

/-- One bit into the CRC-16 of x^16 + x^12 + x^5 + 1 (07 R178). -/
def crcBit (r b : Nat) : Nat :=
  let top := r / 2 ^ 15 % 2
  let s := r * 2 % 2 ^ 16
  if (top + b) % 2 == 1 then s ^^^ 0x1021 else s

/-- The CRC-16 of the top `k` bits of a word whose lowest checked bit is `lo`, highest first (07 R178). -/
def crcBits : Nat → Nat → Nat → Nat → Nat
  | 0, _, _, r => r
  | k + 1, x, lo, r => crcBits k x lo (crcBit r (x / 2 ^ (lo + k) % 2))

/-- The check of a bus frame: over [255:32] in send order (07 R178). -/
def busCheck (frame : Nat) : Nat := crcBits 224 frame 32 0xFFFF

/-- An action slot of a frame of marker `m` (07 R179). -/
def actionSlot (m : Nat) (a : Action) : Nat :=
  put 31 31 1 + put 30 28 a.op + put 27 22 (if a.op == 4 then 0 else a.ctx) + put 21 16 a.grp + put 15 7 (a.tick0 - m - 1024)

/-- The action tick lies in the window of the frame of marker `m` (07 R181). -/
def inFrame (m : Nat) (a : Action) : Bool := m + 1024 ≤ a.tick0 && a.tick0 < m + 1536

/-- The abort that takes slot 4 of the frame of marker `m`: of those decided at least 8 ticks before, the lowest-numbered
context (07 R181, R542). -/
def abortDue (m : Nat) (l : List (Nat × Nat)) : Option Nat :=
  (l.filter (fun a => a.2 + 8 ≤ m)).foldl (fun r a => match r with
    | none => some a.1
    | some c => some (min c a.1)) none

/-- The bus frame of a marker (07 R178). -/
def busFrame (m : Nat) (runs : List Action) (census : Option Action) (abort : Option Action) : Nat :=
  let s := fun (o : Option Action) => match o with
    | some a => actionSlot m a
    | none => 0
  let x := put 255 252 0xB + put 251 197 (m / 512) + put 191 160 (s runs[0]?) + put 159 128 (s runs[1]?) + put 127 96 (s runs[2]?) +
    put 95 64 (s census) + put 63 32 (s abort)
  x + put 31 16 (busCheck x)

/-- The running average of the ring delays: every 4,096 markers the measured averages are posted (07 R185). -/
def Node.ringStep (n : Node) (ringX ringY : Nat) : Node :=
  if n.bus.ringAcc + 1 < 4096 then n.modBus (fun b => { b with ringAcc := b.ringAcc + 1 })
  else ((n.modBus (fun b => { b with ringAcc := 0 })).wr Ob.bus_ringXMeasured ringX).wr Ob.bus_ringYMeasured ringY

/-- At a marker the core sends the frame of that marker on both lanes (07 R178, R181, R542); the ring delays are those measured
(log entry 27). -/
def busFrameSend (ringX ringY : Nat) (n : Node) : Node :=
  when (n.tb1 % 512 == 0) (fun n =>
    let m := n.tb1
    let due := n.bus.placed.filter (inFrame m)
    let runs := (due.filter (fun a => a.op == 1 || a.op == 2)).take 3
    let census := due.find? (fun a => a.op == 4)
    let abort := (abortDue m n.bus.aborts).map (fun c => ({ op := 3, ctx := c, grp := 63, tick0 := m + 1024, step := (n.ctxOf c).step } : Action))
    let sentNow := runs ++ census.toList ++ abort.toList
    let n1 := n.modBus (fun b =>
      { b with
        sent := busFrame m runs census abort
        placed := b.placed.filter (fun a => !inFrame m a && m < a.tick0)
        aborts := match abort with
          | some a => b.aborts.filter (fun x => x.1 != a.ctx)
          | none => b.aborts
        known := b.known.filter (fun a => m ≤ a.tick0) ++ sentNow })
    let n2 := match abort with
      | some a => if n.escrow a.ctx == 1 || n.escrow a.ctx == 2 then n1 else n1.modCtx a.ctx (fun x => { x with abortAt := some a.tick0 })
      | none => n1
    n2.ringStep ringX ringY) n

/-- `BUS_FRAME_SEND` (07 R178). -/
def execBusFrameSend (ringX ringY : Nat) (s : State) : Host.Outcome State Fault Refusal := onNode s .tsu true (busFrameSend ringX ringY)

/-! ### Lanes -/

/-- A region number is held. -/
def Node.hasRegion (n : Node) (r : Nat) : Bool := decide (r < n.regionCount)

/-- The lane of a number at an Agent: 0 X, 1 Y. -/
def Agent.lane (a : Agent) (l : Nat) : Lane := if l == 0 then a.laneX else a.laneY

/-- Replace a lane of an Agent. -/
def Agent.setLane (a : Agent) (l : Nat) (x : Lane) : Agent := if l == 0 then { a with laneX := x } else { a with laneY := x }

/-- The lane an Agent follows: the preferred one while it is locked, otherwise the other; none without a locked lane
(07 R182). -/
def Node.followed (n : Node) (r : Nat) : Option Nat :=
  let p := n.rd (Ob.agent_preferredLane r)
  let a := n.agentOf r
  if (a.lane p).locked then some p else if (a.lane (1 - p)).locked then some (1 - p) else none

/-- The lane status after lane locks or the preferred lane changed; a change of the followed lane builds the measured difference out
(07 R182, R183). -/
def Node.laneStatus (n : Node) (r : Nat) (before : Option Nat) (built : Nat) : Node :=
  let a := n.agentOf r
  let now := n.followed r
  let n1 := (n.wrBits (Ob.agent_laneStatus r) 0 1 (ofB a.laneX.locked)).wrBits (Ob.agent_laneStatus r) 1 1 (ofB a.laneY.locked)
  let n2 := n1.wrBits (Ob.agent_laneStatus r) 2 1 (ofB (now == some 1))
  let n3 := if now.isSome then n2.wrBits (Ob.agent_laneStatus r) 4 1 0 else n2
  n3.modAgent r (fun a =>
    { a with
      noLaneAt := if now.isSome then none else some (a.noLaneAt.getD n.tb1)
      slide := if before.isSome && now.isSome && before != now then a.slide + toS 32 built else a.slide })

/-- A write of the preferred lane: the Agent follows it at once while it is locked. What it builds out is the difference of the two lanes that
it posted last, in phase steps (07 R182, R187; log entry 241). -/
def preferredWrite (r v : Nat) (n : Node) : Node :=
  n.rwsWrite (v ≤ 1) (Ob.agent_preferredLane r) v (fun n =>
    let before := n.followed r
    let d := roundRat ((n.rdS 32 (Ob.agent_laneDifference r) : Rat) / 128)
    (n.wr (Ob.agent_preferredLane r) v).laneStatus r before (ofS 32 (if v == 0 then d else -d)))

/-- The actions of a frame: slots with valid set and an op that is not reserved (07 R179); a launch takes with it the work, the
deadline and the step that the core hands over (09 R234). -/
def frameActions (frame : Nat) (known : List Action) : List Action :=
  let m := fld frame 251 197 * 512
  [fld frame 191 160, fld frame 159 128, fld frame 127 96, fld frame 95 64, fld frame 63 32].filterMap (fun s =>
    if bit s 31 && 1 ≤ fld s 30 28 && fld s 30 28 ≤ 4 then
      let a : Action := { op := fld s 30 28, ctx := fld s 27 22, grp := fld s 21 16, tick0 := m + 1024 + fld s 15 7 }
      match known.find? (fun k => k.op == a.op && k.ctx == a.ctx && k.grp == a.grp && k.tick0 == a.tick0) with
      | some k => some k
      | none => some a
    else none)

/-- Slots of reserved op in a frame (07 R180). -/
def badSlots (frame : Nat) : Nat :=
  ([fld frame 191 160, fld frame 159 128, fld frame 127 96, fld frame 95 64, fld frame 63 32].filter (fun s =>
    bit s 31 && (fld s 30 28 == 0 || 4 < fld s 30 28))).length

/-- An action joins those an Agent waits on, once (07 R182). -/
def addAction (l : List Action) (a : Action) : List Action :=
  if l.any (fun x => x.op == a.op && x.ctx == a.ctx && x.grp == a.grp && x.tick0 == a.tick0) then l else l ++ [a]

/-- A bus frame reaches an Agent on a lane: its check and marker move the lock of the lane, and a locked lane's actions are
taken once (07 R180, R182). -/
def busFrameReceived (r lane frame built : Nat) (n : Node) : Node :=
  let a := n.agentOf r
  let before := n.followed r
  let x := a.lane lane
  let ok := fld frame 31 16 == busCheck frame
  let m := fld frame 251 197
  let adv := m == (x.marker + 1) % 2 ^ 55
  let n0 := if ok then n else n.bump Ob.bus_busFrameErrors
  let x1 : Lane :=
    if ok && (adv || (x.good == 0 && !x.locked)) then { good := x.good + 1, bad := 0, marker := m, locked := x.locked || 4 ≤ x.good + 1 }
    else if ok then { x with good := 1, bad := x.bad + 1, marker := m }
    else { x with good := 0, bad := x.bad + 1, marker := (x.marker + 1) % 2 ^ 55 }
  let n1 := (n0.modAgent r (fun a => a.setLane lane x1)).laneStatus r before built
  if ok && x1.locked then
    let mine := (frameActions frame n.bus.known).filter (fun a => n.inGroup r a.grp && n.tb1 ≤ a.tick0)
    (n1.addTo Ob.bus_busFrameErrors (badSlots frame)).modAgent r (fun a => { a with acts := mine.foldl addAction a.acts })
  else n1

/-- `BUS_FRAME_RECEIVED` (07 R182). -/
def execBusFrameReceived (r lane frame built : Nat) (s : State) : Host.Outcome State Fault Refusal :=
  onNode s .tsu (s.tsu.hasRegion r && decide (lane < 2)) (busFrameReceived r lane frame built)

/-- A lane is lost on two consecutive bad frames or 16 ticks without a clock edge, with cause 0x2E (07 R182). -/
def tickLaneLost (r lane : Nat) (noClock : Bool) (built : Nat) (n : Node) : Node :=
  let x := (n.agentOf r).lane lane
  when (x.locked && (noClock || 2 ≤ x.bad)) (fun n =>
    let before := n.followed r
    let n1 := (n.modAgent r (fun a => a.setLane lane { x with locked := false, good := 0, bad := 0 })).laneStatus r before built
    n1.regionFault 0x2E r lane (put 79 72 (if noClock then 2 else 1))) n

/-- `TICK_LANE_LOST` (07 R182). -/
def execTickLaneLost (r lane : Nat) (noClock : Bool) (built : Nat) (s : State) : Host.Outcome State Fault Refusal :=
  onNode s .tsu (s.tsu.hasRegion r && decide (lane < 2)) (tickLaneLost r lane noClock built)

/-! ### The Slack Ledger -/

/-- From 2^-24 tick to 2^-16 tick (07 R192). -/
def to16 (x : Int) : Int := roundRat ((x : Rat) / 256)

/-- A time in 2^-24 tick rounded up to a whole tick (07 R194). -/
def ceilTick (x : Int) : Nat := ((x + (2 ^ 24 - 1 : Nat)) / (2 ^ 24 : Nat)).toNat

/-- A stamp in phases of 1/16 tick in units of 2^-24 tick (07 R190). -/
def edge24 (edge : Nat) : Int := (edge * 2 ^ 20 : Nat)

/-- Flags of the ledger that a run carries: warned, late, rebased (07 R194). -/
def Run.flags (x : Run) : Nat := 16 * ofB x.warned + 32 * ofB x.late + 64 * ofB x.rebased

/-- The 64 bytes of a ledger status or record (07 R194). -/
def ledgerBlob (x : Run) (flags comp : Nat) : Nat :=
  putField 0 1 x.ctx + putField 1 1 (flags + x.flags) + putField 8 8 x.launch + putField 16 8 x.dead + putField 24 8 x.work +
  putField 32 8 x.cyc + putField 40 8 (ofS 64 (to16 x.debt)) + putField 48 8 (ofS 64 (to16 x.peak)) + putField 56 8 comp

/-- Post a ledger record (07 R194). -/
def Node.putRecord (n : Node) (r blob : Nat) : Node := (n.wr (Ob.agent_ledgerRecord r) blob).bump (Ob.agent_recordsPosted r)

/-- The record of a run that ends or is late; where the command that ends it does not bring the cycles that the Agent has counted, they are a
free value (07 R190, R194; log entry 38). -/
def Node.postRecord (n : Node) (r : Nat) (x : Run) (flags comp : Nat) (cyc : Option Nat) : Node :=
  match cyc with
  | some k => n.putRecord r (ledgerBlob { x with cyc := k } flags comp)
  | none => n.takeFree.2.putRecord r (ledgerBlob { x with cyc := n.takeFree.1 % 2 ^ 64 } flags comp)

/-- The core learns that a run of a step ended (09 R235, R252, R253). -/
def Node.noteEnd (n : Node) (r : Nat) (x : Run) (fin : Nat) (cutLate : Bool) : Node :=
  n.modCtx x.ctx (fun c =>
    { c with launched := c.launched.map (fun e =>
        if e.region == r && e.launch == x.launch && e.fin.isNone then { e with fin := some fin, cutLate := cutLate } else e) })

/-- The watch of a region disarms when its run ends, and is armed when one starts (14 R393). -/
def Node.armWatch (n : Node) (r : Nat) (on : Bool) : Node :=
  let st := n.rd (Ob.watch_ladderState r)
  if 2 ≤ st then n
  else (n.wr (Ob.watch_ladderState r) (ofB on)).modRegion r (fun g => { g with watchAt := n.tb1 })

/-- The region has no active run any more: the sequencer learns of the end, the status is empty and the watch disarms (07 R191, R194; 14
R393). -/
def Node.closeRun (n : Node) (r : Nat) (x : Run) (fin : Nat) (cutLate : Bool) : Node :=
  (((n.noteEnd r x fin cutLate).wr (Ob.agent_ledgerStatus r) 0).modAgent r (fun a => { a with run := none, statAt := none })).armWatch r false

/-- The active run of a region is cut, aborted or superseded: its record is posted on the tick of the end (07 R191, R194). -/
def Node.endRun (n : Node) (r flags : Nat) (cutLate : Bool) (cyc : Option Nat) : Node :=
  match n.runOf r with
  | none => n
  | some x => (n.postRecord r x flags 0 cyc).closeRun r x n.tb1 cutLate

/-- Every local tally of a region is reset, and its waiting cores' waits end as aborted (11 R288). -/
def Node.resetLocals (n : Node) (r : Nat) : Node :=
  n.modAgent r (fun a =>
    { a with
      rls := a.rls ++ (a.locals.flatMap (fun e => e.2.waiters.map (fun w => (w.1, 2, n.tb1))))
      locals := [] })

/-- What every launch, cut and abort of an Agent does to the region's crossings and tallies (08 R205, 11 R288). -/
def Node.actionSweep (n : Node) (r ctx : Nat) : Node := (n.flushRegion r ctx).resetLocals r

/-- An action of an op for the tick TB1 holds, waiting at an Agent. -/
def Node.actionNow (n : Node) (r op : Nat) : Option Action :=
  (n.agentOf r).acts.find? (fun a => a.op == op && a.tick0 == n.tb1)

/-- Remove an action that has been acted on, and actions whose tick has passed. -/
def Node.dropAction (n : Node) (r : Nat) (a : Action) : Node :=
  n.modAgent r (fun g => { g with acts := g.acts.filter (fun x => x != a && n.tb1 ≤ x.tick0) })

/-- The gate of a kind for a region at a launch tick: the last setting in effect, closed without one (09 R241). -/
def Node.gateFor (n : Node) (r ctx kind launch : Nat) : Bool :=
  ((n.ctxOf ctx).gates.filter (fun g => n.inGroup r g.1 && g.2.1 == kind && g.2.2.2 ≤ launch)).foldl (fun _ g => g.2.2.1) false

/-- An abort for the context falls on this tick at this Agent (07 R180). -/
def Node.abortNow (n : Node) (r ctx : Nat) : Bool :=
  let a := n.agentOf r
  a.acts.any (fun x => x.op == 3 && x.ctx == ctx && x.tick0 == n.tb1) || (a.abortHi == some n.tb1 && a.aborted.contains ctx)

/-- A run starts: the previous one is superseded, crossings and tallies are swept, the watch is armed; cycle 0 is stamped at
`edge` (07 R180, R191, R192). -/
def Node.startRun (n : Node) (r : Nat) (a : Action) (edge cyc : Nat) : Node :=
  let n1 := n.endRun r 128 false (some cyc)
  let gw := n.gateFor r a.ctx 0 n.tb1
  let gi := n.gateFor r a.ctx 1 n.tb1
  let x : Run :=
    { ctx := a.ctx, step := a.step, launch := n.tb1, dead := a.dead, work := a.work, ebase := edge24 edge
      per := n.rd (Ob.agent_period r), started := true, gateW := gw, gateI := gi }
  let n2 := (n1.modAgent r (fun g => { g with run := some x, launchHi := some n.tb1, actCtx := a.ctx })).actionSweep r a.ctx
  let n3 := (n2.wr (Ob.agent_ledgerStatus r) (ledgerBlob x 1 0)).armWatch r true
  n3.modCtx a.ctx (fun c =>
    { c with launched := c.launched ++ [{ region := r, launch := n.tb1, gateW := gw, gateI := gi }], lastLaunch := c.lastLaunch ++ [r] })

/-- A cut ends the active run of its context; a run active at a placed cut on or after its deadline is also late (07 R191, 09
R253). -/
def Node.cutAct (n : Node) (r cyc : Nat) : Node :=
  match n.actionNow r 2 with
  | none => n
  | some a =>
    let n1 := ((n.modAgent r (fun g => { g with cutHi := some n.tb1, actCtx := a.ctx })).dropAction r a)
    let n2 := match n.runOf r with
      | none => n1
      | some x =>
        if x.ctx != a.ctx then n1
        else
          let late := x.late || x.dead ≤ n.tb1
          (n1.modAgent r (fun g => { g with run := some { x with late := late } })).endRun r 4 late (some cyc)
    n2.actionSweep r a.ctx

/-- The Agent raises `ra_abort` for a context: its run ends as aborted, its crossings are flushed, its tallies reset
(14 R391). -/
def Node.agentAbort (n : Node) (r ctx : Nat) (cyc : Option Nat) : Node :=
  let n1 := n.modAgent r (fun g =>
    { g with abortHi := some n.tb1, actCtx := ctx, aborted := ctx :: (if g.abortHi == some n.tb1 then g.aborted else []) })
  let n2 := match n.runOf r with
    | some x => if x.ctx == ctx then n1.endRun r 8 false cyc else n1
    | none => n1
  n2.actionSweep r ctx

/-- On its tick the Agent acts on an abort (14 R391). -/
def agentAbortAct (r cyc : Nat) (n : Node) : Node :=
  match n.actionNow r 3 with
  | none => n
  | some a => (n.agentAbort r a.ctx (some cyc)).dropAction r a

/-- `AGENT_ABORT` (14 R391). -/
def execAgentAbort (r : RegionCycles) (s : State) : Host.Outcome State Fault Refusal :=
  onNode s .tsu (s.tsu.hasRegion r.region) (agentAbortAct r.region r.cyc)

/-- On a tick a cut acts after an abort (07 R180). -/
def agentCut (r cyc : Nat) (n : Node) : Node := (agentAbortAct r cyc n).cutAct r cyc

/-- `AGENT_CUT` (07 R191). -/
def execAgentCut (r : RegionCycles) (s : State) : Host.Outcome State Fault Refusal :=
  onNode s .tsu (s.tsu.hasRegion r.region) (agentCut r.region r.cyc)

/-- On its tick the Agent acts on a launch; a launch and an abort of one context on one tick are the abort alone (07 R180,
R191). -/
def Node.launchAct (n : Node) (r edge cyc : Nat) : Node :=
  match n.actionNow r 1 with
  | none => n
  | some a => if n.abortNow r a.ctx then n.dropAction r a else ((n.startRun r a edge cyc).dropAction r a).agEvents r 0x09 1

/-- On a tick an abort acts first, a cut second, a launch last (07 R180). -/
def agentLaunch (r edge cyc : Nat) (n : Node) : Node := (agentCut r cyc n).launchAct r edge cyc

/-- `AGENT_LAUNCH` (07 R191). -/
def execAgentLaunch (r : Nat) (edge : LocalEdge) (s : State) : Host.Outcome State Fault Refusal :=
  onNode s .tsu (s.tsu.hasRegion r) (agentLaunch r edge.stamp edge.cyc)

/-- 16 ticks without a locked lane: the active run is aborted, TB1 runs on and the region is not ready (07 R183). -/
def noLaneExpiry (r cyc : Nat) (n : Node) : Node :=
  match (n.agentOf r).noLaneAt with
  | none => n
  | some t => when (t + 16 ≤ n.tb1 && !bit (n.rd (Ob.agent_laneStatus r)) 4) (fun n =>
      let n1 := n.wrBits (Ob.agent_laneStatus r) 4 1 1
      match n.runOf r with
      | some x => n1.agentAbort r x.ctx (some cyc)
      | none => n1) n

/-- `NO_LANE_EXPIRY` (07 R183). -/
def execNoLaneExpiry (r : RegionCycles) (s : State) : Host.Outcome State Fault Refusal :=
  onNode s .tsu (s.tsu.hasRegion r.region) (noLaneExpiry r.region r.cyc)

/-! ### Bypass and alignment -/

/-- The tick bypass is engaged while it is commanded or the region's power-good is low (07 R177, R201 bit 3). -/
def Node.bypassShow (n : Node) (r : Nat) : Node :=
  n.wrBits (Ob.agent_laneStatus r) 3 1 (ofB ((n.agentOf r).bypassCmd || !(n.regionOf r).pgood))

/-- Command 1 or 2 engages or releases the tick bypass (07 R177, R201). -/
def Node.bypass (n : Node) (r : Nat) (on : Bool) : Node := (n.modAgent r (fun a => { a with bypassCmd := on })).bypassShow r

/-- `BYPASS_ENGAGE` (07 R177). -/
def execBypassEngage (r : Nat) (s : State) : Host.Outcome State Fault Refusal :=
  onObj s .tsu (s.tsu.hasRegion r) (fun n => (n.bypass r true).answer 0)

/-- `BYPASS_RELEASE` (07 R177). -/
def execBypassRelease (r : Nat) (s : State) : Host.Outcome State Fault Refusal :=
  onObj s .tsu (s.tsu.hasRegion r) (fun n => (n.bypass r false).answer 0)

/-- The repeater of an Agent is bypassed: by command, or while its region's power-good is low (07 R177). -/
def Node.bypassed (n : Node) (r : Nat) : Bool := (n.agentOf r).bypassCmd || !(n.regionOf r).pgood

/-- Regions in lane X order (07 R174, R202). -/
def Node.laneOrder (n : Node) : List Nat := (upTo n.regionCount).map (fun i => fieldAt (n.rd Ob.bus_laneXOrder) (2 * i) 2)

/-- Agents before Agent r on a lane (07 R174). -/
def Node.before (n : Node) (r lane : Nat) : List Nat :=
  (if lane == 0 then n.laneOrder else n.laneOrder.reverse).takeWhile (· != r)

/-- The ring delay of a lane at sign-off (07 R185). -/
def Node.ringSign (n : Node) (lane : Nat) : Int := if lane == 0 then n.rdS 64 Ob.bus_ringXSignOff else n.rdS 64 Ob.bus_ringYSignOff

/-- The compensated delay of an Agent on a lane, in time units (07 R185); the ratio of the ring delays is `ratio` where the delay at
sign-off is 0. -/
def Node.agentDelay (n : Node) (r lane : Nat) (ratio : Rat) : Rat :=
  let c : Rat := if lane == 0 then n.rdS 32 (Ob.agent_laneXDelay r) else n.rdS 32 (Ob.agent_laneYDelay r)
  let meas : Rat := if lane == 0 then n.rdS 64 Ob.bus_ringXMeasured else n.rdS 64 Ob.bus_ringYMeasured
  let deltas := (n.before r lane).filter n.bypassed |>.map (fun k =>
    if lane == 0 then fld (n.rd (Ob.agent_bypassDelta k)) 31 16 else fld (n.rd (Ob.agent_bypassDelta k)) 15 0)
  c * (if n.ringSign lane == 0 then ratio else meas / n.ringSign lane) + (deltas.sum : Nat)

/-- The difference of the lanes at a marker and how long it has been beyond the threshold (07 R187). -/
def Node.laneDiff (n : Node) (r diff : Nat) : Node :=
  let a := n.agentOf r
  if a.laneX.locked && a.laneY.locked then
    let far := !withinPs (toS 32 diff) (n.rd Ob.bus_laneDifferenceThreshold)
    (n.wr (Ob.agent_laneDifference r) diff).modAgent r (fun a =>
      { a with disRun := if far then a.disRun + 1 else 0, disTold := a.disTold && far })
  else n.modAgent r (fun a => { a with disRun := 0, disTold := false })

/-- The slack warning of a run: when the projection comes within the threshold of the deadline, once (07 R192). -/
def Node.slackCheck (n : Node) (r : Nat) (x : Run) : Node :=
  let slack : Int := (x.dead * 2 ^ 24 : Nat) - x.proj
  if !x.warned && slack < (n.rd (Ob.agent_warnThreshold r) * 2 ^ 24 : Nat) then
    ((n.modAgent r (fun a => { a with run := some { x with warned := true } })).fault
      { cause := 0x36, region := r, ctx := x.ctx, span := n.span, detail := put 63 0 (ofS 64 (to16 slack)) }).irqEvent 0x131
  else n.modAgent r (fun a => { a with run := some x })

/-- The run of a region ends on this tick by what is known of it: the marker's edge is the one that completes it, or a launch of the tick
supersedes it (07 R193). -/
def Node.endsNow (n : Node) (r : Nat) (x : Run) (cyc edge : Nat) : Bool :=
  (x.work ≤ cyc && edge / 16 == n.tb1) || (n.actionNow r 1).any (fun a => !n.abortNow r a.ctx)

/-- The ledger at a marker: debt, peak and projection from the first local edge at or after it, shown 8 ticks on or on the tick after that edge;
not made on the tick on which the run ends (07 R192 to R194). -/
def Node.ledgerMarker (n : Node) (r cyc edge : Nat) : Node :=
  match n.runOf r with
  | none => n
  | some x =>
    if n.endsNow r x cyc edge then n
    else
      let s := edge24 edge
      let d := s - (x.ebase + ((cyc : Int) - x.cbase) * x.per)
      let x1 := { x with debt := d, peak := max x.peak d, cyc := cyc, proj := s + ((x.work : Int) - cyc) * x.per }
      let n1 := n.slackCheck r x1
      n1.modAgent r (fun a => { a with statAt := a.run.map (fun y => (max (n.tb1 + 8) (edge / 16 + 1), ledgerBlob y 1 (ceilTick y.proj))) })

/-- An Agent's compensated marker: an abort or a cut of the tick first, then TB1, one phase step of a slide, the delay in force, the lanes, the
ledger and the cycle counter; `cyc` and `edge` are the first local edge at or after the marker, counted in the run, `diff` the measured phase of
X less Y and `new` the local cycles since the marker before (07 R185, R187, R190, R192, R193; log entry 27). -/
def agentMarker (r cyc edge diff new : Nat) (n : Node) : Node :=
  when (n.tb1 % 512 == 0) (fun n0 =>
    let n := agentCut r cyc n0
    let a := n.agentOf r
    let n1 := match n.followed r with
      | some l =>
        let f := if n.ringSign l == 0 then n.takeFree else (0, n)
        f.2.modAgent r (fun g =>
          { g with
            skew := (512 * ((a.lane l).marker + 1) : Nat) - (n.tb1 : Int), delay := n.agentDelay r l (toS 64 f.1)
            slide := if 0 < g.slide then g.slide - 1 else if g.slide < 0 then g.slide + 1 else 0 })
      | none => n
    (((n1.laneDiff r diff).ledgerMarker r cyc edge).modAgent r (fun g => { g with cycles := (g.cycles + new) % 2 ^ 64 })).agEvents r 0x02 new) n

/-- `AGENT_MARKER` (07 R185). -/
def execAgentMarker (r : Nat) (cyc : MarkerCycles) (edge diff : Nat) (s : State) : Host.Outcome State Fault Refusal :=
  onNode s .tsu (s.tsu.hasRegion r) (agentMarker r cyc.run edge diff cyc.new)

/-- Sixteen consecutive markers beyond the threshold: cause 0x2F (07 R187). -/
def lanesDisagree (r : Nat) (n : Node) : Node :=
  when (16 ≤ (n.agentOf r).disRun && !(n.agentOf r).disTold) (fun n =>
    (n.modAgent r (fun a => { a with disTold := true })).regionFault 0x2F r 0 (put 31 0 (n.rd (Ob.agent_laneDifference r)))) n

/-- `AGENT_LANES_DISAGREE` (07 R187). -/
def execAgentLanesDisagree (r : Nat) (s : State) : Host.Outcome State Fault Refusal :=
  onNode s .tsu (s.tsu.hasRegion r) (lanesDisagree r)

/-- A late record posted on this very tick is taken back: a completion edge in the deadline tick is evaluated first (07 R193). -/
def Node.unpostLate (n : Node) (r : Nat) (x : Run) : Node :=
  if x.lateAt == some n.tb1 then n.wr (Ob.agent_recordsPosted r) ((n.rd (Ob.agent_recordsPosted r) + 2 ^ 64 - 1) % 2 ^ 64) else n

/-- The edge that begins cycle W completes the run; it is late when its stamp, fraction included, is after the deadline. The record is posted
on the stamp rounded up to a whole tick (07 R192 to R194). -/
def runComplete (r edge : Nat) (n : Node) : Node :=
  match n.runOf r with
  | none => n
  | some x =>
    let s := edge24 edge
    let d := s - (x.ebase + ((x.work : Int) - x.cbase) * x.per)
    let late := (x.late && x.lateAt != some n.tb1) || decide (((x.dead * 2 ^ 24 : Nat) : Int) < s)
    let x1 := { x with debt := d, peak := max x.peak d, cyc := x.work, late := late }
    let done := ledgerBlob x1 2 (ceilTick s)
    let n1 := (n.unpostLate r x).closeRun r x1 (ceilTick s) false
    if ceilTick s ≤ n.tb1 then n1.putRecord r done else n1.modAgent r (fun a => { a with postAt := some (ceilTick s, done) })

/-- `RUN_COMPLETE` (07 R192). -/
def execRunComplete (r edge : Nat) (s : State) : Host.Outcome State Fault Refusal :=
  onNode s .tsu (s.tsu.hasRegion r) (runComplete r edge)

/-- On the deadline tick a run that is still active is posted late (07 R193). -/
def runDeadline (r cyc : Nat) (n : Node) : Node :=
  match n.runOf r with
  | none => n
  | some x => when (x.dead ≤ n.tb1 && x.lateAt.isNone) (fun n =>
      let x1 := { x with late := true, lateAt := some n.tb1 }
      (n.modAgent r (fun a => { a with run := some x1 })).postRecord r x1 1 (ceilTick x1.proj) (some cyc)) n

/-- `RUN_DEADLINE` (07 R193). -/
def execRunDeadline (r : RegionCycles) (s : State) : Host.Outcome State Fault Refusal :=
  onNode s .tsu (s.tsu.hasRegion r.region) (runDeadline r.region r.cyc)

/-- `STRETCH_PULSE` (07 R190). -/
def execStretchPulse (r : Nat) (s : State) : Host.Outcome State Fault Refusal :=
  onNode s .tsu (s.tsu.hasRegion r) (when (s.tsu.inputLive r) (fun n => (n.bump (Ob.agent_stretches r)).agEvents r 0x03 1))

/-- A margin episode: counted, with the ticks it stays high sampled one by one, and cause 0x84 once for a run whose episodes reach the
threshold (07 R195; log entry 27). -/
def marginEpisode (r ticks : Nat) (n : Node) : Node :=
  let n1 := (((n.bump (Ob.agent_marginEpisodes r)).addTo (Ob.agent_marginTicks r) (min 1 ticks)).modAgent r (fun a =>
    { a with marginLeft := ticks - 1 })).agEvents r 0x04 1
  match n.runOf r with
  | none => n1
  | some x =>
    let x1 := { x with episodes := x.episodes + 1, firstEp := if x.episodes == 0 then n.tb1 else x.firstEp }
    let thr := n.rd (Ob.agent_marginThreshold r)
    let tell := thr != 0 && thr ≤ x1.episodes && !x.epTold
    let n2 := n1.modAgent r (fun a => { a with run := some { x1 with epTold := x.epTold || tell } })
    if tell then n2.fault { cause := 0x84, region := r, ctx := x.ctx, span := n.span, detail := put 79 16 x1.firstEp } else n2

/-- `MARGIN_WARN_EPISODE` (07 R195). -/
def execMarginWarnEpisode (r ticks : Nat) (s : State) : Host.Outcome State Fault Refusal :=
  onNode s .tsu (s.tsu.hasRegion r) (when (s.tsu.inputLive r) (marginEpisode r ticks))

/-! ### Changing a region's frequency -/

/-- `FCHG_REQUEST`: the request is held until a grant (07 R196). -/
def execFchgRequest (r e : Nat) (s : State) : Host.Outcome State Fault Refusal :=
  onNode s .tsu (s.tsu.hasRegion r) (when (s.tsu.inputLive r) (fun n => n.modAgent r (fun a => { a with req := some (e % 16) })))

/-- The stop window: 32 periods of the old nominal period, rounded up to whole ticks (07 R197). -/
def Node.stopWindow (n : Node) (r : Nat) : Nat := (32 * n.rd (Ob.agent_period r) + 2 ^ 24 - 1) / 2 ^ 24

/-- The tick on which an abort that is decided and not yet in a frame will fall: 1,024 ticks after the first marker at least 8 ticks on, and a
frame later for every context ahead of it (07 R181, R542). -/
def Node.abortTick (n : Node) (a : Nat × Nat) : Nat :=
  nextMul 512 (max (a.2 + 8) (n.tb1 + 1)) + 1024 + 512 * (n.bus.aborts.filter (fun x => x.1 < a.1)).length

/-- An action for the region falls in the window (07 R198). -/
def Node.actionSoon (n : Node) (r upto : Nat) : Bool :=
  let hit := fun (a : Action) => n.inGroup r a.grp && n.tb1 ≤ a.tick0 && a.tick0 ≤ upto
  n.bus.placed.any hit || n.bus.known.any hit || (n.agentOf r).acts.any hit || n.bus.aborts.any (fun a => n.abortTick a ≤ upto)

/-- A step boundary: no active run in the region, and no context in ARMED or CONFIRMED, or in FIRED before its deadline tick
(07 R198). -/
def Node.stepBoundary (n : Node) (r : Nat) : Bool :=
  (n.runOf r).isNone && (upTo n.ctxCount).all (fun c =>
    let e := n.escrow c
    !(e == 1 || e == 2 || (e == 3 && decide (n.tb1 < (n.ctxOf c).dead))))

/-- The grant of a frequency change: the Agent raises `ra_stop`; a stop within an active run taints its step (07 R196, R198). -/
def fchgGrant (r : Nat) (n : Node) : Node :=
  let a := n.agentOf r
  when (a.req.isSome && a.stopAt.isNone && !a.go && !n.actionSoon r (n.tb1 + n.stopWindow r + 16) && (!n.strict || n.stepBoundary r)) (fun n =>
    let n1 := n.modAgent r (fun a => { a with stopAt := some n.tb1, overrun := false, hung := false, ackAt := none })
    match n.runOf r with
    | some x => n1.taint x.ctx 6
    | none => n1) n

/-- `FCHG_GRANT` (07 R198). -/
def execFchgGrant (r : Nat) (s : State) : Host.Outcome State Fault Refusal := onNode s .tsu (s.tsu.hasRegion r) (fchgGrant r)

/-- The acknowledgement of a stop; the first edge after the go will be cycle `cyc` stamped `edge` (07 R196). -/
def fchgAck (r cyc edge : Nat) (n : Node) : Node :=
  let a := n.agentOf r
  when (a.stopAt.isSome && a.req.isSome && a.ackAt.isNone) (fun n => n.modAgent r (fun a => { a with ackAt := some (n.tb1, cyc, edge) })) n

/-- The first edge after the go: the new period is in force and rebases an active run (07 R192, R196). -/
def Node.newPeriod (n : Node) (r cyc edge : Nat) : Node :=
  let a := n.agentOf r
  let per := fieldAt (n.rd (Ob.agent_periodTable r)) (4 * a.req.getD 0) 4
  let run := a.run.map (fun x =>
    let eb := x.ebase + ((cyc : Int) - x.cbase) * x.per
    { x with ebase := eb, cbase := cyc, per := per, debt := edge24 edge - eb, rebased := true })
  (n.modAgent r (fun a => { a with run := run, ackAt := none })).wr (Ob.agent_period r) per

/-- What falls due at an Agent on a tick: on the tick after the acknowledgement `ra_stop` falls and `ra_go` rises, and on that of the edge after
it the period changes; a record and a status whose tick has come are shown; the margin warning is sampled (07 R194 to R196). -/
def Node.agentTicks (n : Node) (r : Nat) : Node :=
  let n1 := match (n.agentOf r).ackAt with
    | some (t, cyc, edge) =>
      if n.tb1 ≤ t then n
      else
        let n2 := n.modAgent r (fun a => { a with stopAt := none, go := a.go || a.stopAt.isSome })
        if edge / 16 ≤ n.tb1 then n2.newPeriod r cyc edge else n2
    | none => n
  let n3 := match (n1.agentOf r).postAt with
    | some (t, blob) => if t ≤ n1.tb1 then (n1.putRecord r blob).modAgent r (fun a => { a with postAt := none }) else n1
    | none => n1
  let n4 := match (n3.agentOf r).statAt with
    | some (t, st) => if t ≤ n3.tb1 then (n3.wr (Ob.agent_ledgerStatus r) st).modAgent r (fun a => { a with statAt := none }) else n3
    | none => n3
  if 0 < (n4.agentOf r).marginLeft then
    (n4.bump (Ob.agent_marginTicks r)).modAgent r (fun a => { a with marginLeft := a.marginLeft - 1 })
  else n4

/-- The Agents for which something is due. -/
def Node.agentsTick (n : Node) : Node :=
  overAll ((n.agents.filter (fun e => e.2.ackAt.isSome || e.2.postAt.isSome || e.2.statAt.isSome || 0 < e.2.marginLeft)).map (·.1))
    Node.agentTicks n

/-- `FCHG_ACK` (07 R196). -/
def execFchgAck (r cyc edge : Nat) (s : State) : Host.Outcome State Fault Refusal :=
  onNode s .tsu (s.tsu.hasRegion r) (when (s.tsu.inputLive r) (fchgAck r cyc edge))

/-- `ra_fchg_req` falls: the Agent lowers `ra_go` and counts the change (07 R196). -/
def fchgReqLow (r : Nat) (n : Node) : Node :=
  when (n.agentOf r).go (fun n =>
    let n1 := match (n.agentOf r).ackAt with
      | some (_, cyc, edge) => n.newPeriod r cyc edge
      | none => n
    (n1.modAgent r (fun a => { a with go := false, req := none })).bump (Ob.agent_frequencyChanges r)) n

/-- `FCHG_REQ_LOW` (07 R196). -/
def execFchgReqLow (r : Nat) (s : State) : Host.Outcome State Fault Refusal := onNode s .tsu (s.tsu.hasRegion r) (fchgReqLow r)

/-- No acknowledgement by the end of the stop window: cause 0x38 (07 R197). -/
def stopOverrun (r : Nat) (n : Node) : Node :=
  let a := n.agentOf r
  match a.stopAt with
  | none => n
  | some t => when (t + n.stopWindow r ≤ n.tb1 && !a.overrun) (fun n =>
      (n.modAgent r (fun a => { a with overrun := true })).regionFault 0x38 r 0 (put 79 76 (a.req.getD 0) + put 63 0 t)) n

/-- `STOP_WINDOW_OVERRUN` (07 R197). -/
def execStopWindowOverrun (r : Nat) (s : State) : Host.Outcome State Fault Refusal :=
  onNode s .tsu (s.tsu.hasRegion r) (stopOverrun r)

end Sys2Proof.Machine
end

