-- ==== Sys2Proof/Machine/StepEnd.lean ====
section
/-! DEFINITION. The end of a step (09 R254) and of a step that never fired (10 R265): what it settles, discards and posts; the
revision of an outcome in the settle window (14 R389); and the end of a span instance (15 R412). -/

namespace Sys2Proof.Machine

/-- Lanes or ports that carry a JOURNAL message: MEMBER, with feature bit 1 operating (13 R373). -/
def Node.journalPort (n : Node) (p : Nat) : Bool := n.lst p == 6 && bit (n.rd (Ob.link_operatingFeatures p)) 1

/-- A TAG message (13 R373). -/
def tagMsg (span epoch ctx step tag count inc : Nat) : Msg :=
  { typ := tJournal
    cells := [put 127 112 span + put 111 80 epoch + put 79 76 3 + put 75 70 ctx + put 49 18 step,
      put 127 64 tag + put 63 44 count + put 43 43 inc] }

/-- A TSU sends the TAG of a step on its lanes (13 R376). -/
def Node.sendTag (n : Node) (c step tag : Nat) : Node :=
  n.sendAll ([0, 1].filter n.journalPort) (tagMsg n.span n.epoch c step tag 1 0)

/-- The deferred accumulators of a context are settled: an abort returns them to their value at the fire, and any other end
empties those sent in the step (09 R247). -/
def Node.settleDeferred (n : Node) (c oc : Nat) : Node :=
  let step := (n.ctxOf c).step
  let fired := n.fired c
  n.modClr (fun k =>
    { k with defAccs := k.defAccs.map (fun a =>
        if a.ctx != c || !fired then a
        else if oc == 5 then { a with elems := a.atFire, sentIn := none }
        else if a.sentIn == some step then { a with elems := [], sentIn := none } else a) })

/-- The region of a unit index (11 R283). -/
def unitRegion (u : Nat) : Nat := fld u 29 20

/-- The core of a unit index (11 R283). -/
def unitCore (u : Nat) : Nat := fld u 19 0

/-- The unit index of a core, sequencer or host of this die (11 R283). -/
def Node.unitOf (n : Node) (region core : Nat) : Nat := put 49 30 n.ident + put 29 20 region + put 19 0 core

/-- Core number of the sequencer (11 R283). -/
def seqCore : Nat := 0xFFFF0

/-- Core number of host waiter 0 (11 R283). -/
def hostCore : Nat := 0xFFFF8

/-- The unit is a host waiter. -/
def isHostUnit (u : Nat) : Bool := unitRegion u == 1023 && hostCore ≤ unitCore u

/-- The unit is a sequencer. -/
def isSeqUnit (u : Nat) : Bool := unitRegion u == 1023 && unitCore u == seqCore

/-- An Agent presents a status to a core on `ra_tly_rls`: 0 released, 1 timed out, 2 aborted, 3 error (11 R287, 18 R518). -/
def Node.present (n : Node) (r core status tick : Nat) : Node :=
  let n1 := n.modAgent r (fun a => { a with rls := a.rls ++ [(core, status, tick)] })
  if status == 0 then n1.agEvents r 0x06 1 else n1

/-- An open span wait ends without a release: a core receives the status, a host channel reads it (11 R294, R308, R312). -/
def Node.endWait (n : Node) (w : SWait) (core host : Nat) : Node :=
  let n1 := n.modTally (fun t => { t with waits := t.waits.filter (fun x => x != w) })
  if isHostUnit w.unit then n1.wr (Ob.hch_hostStatus (unitCore w.unit - hostCore)) host
  else n1.present (unitRegion w.unit) (unitCore w.unit) core n.tb1

/-- The span tally state of a context is cleared: open waits end as aborted, credits still held are counted (11 R294, R310). -/
def Node.clearTallies (n : Node) (c : Nat) : Node :=
  let mine := n.tally.waits.filter (fun w => w.ctx == c)
  let left := ((n.tally.tal.filter (fun t => t.ctx == c)).map (fun t => t.credits.length)).sum
  let n1 := overAll mine (fun n w => n.endWait w 2 4) n
  (n1.modTally (fun t =>
    { t with tal := t.tal.filter (fun x => x.ctx != c), rels := t.rels.filter (fun x => x.ctx != c) })).addTo Ob.tly_orphanCredits left

/-- The record of a contribution refused or discarded (12 R324; 14 R405). -/
def Node.fault53 (n : Node) (c h d status blocks : Nat) : Node :=
  (n.bump Ob.clr_contributionsRefused).ctxFault 0x53 c (put 15 8 d + h) (put 79 72 status + put 71 56 blocks)

/-- A die accumulator is released (12 R322). -/
def Node.releaseAcc (n : Node) (c h : Nat) : Node :=
  n.modClr (fun k => { k with dieAccs := k.dieAccs.filter (fun a => !(a.ctx == c && a.hnd == h)) })

/-- The die accumulators of a context that no issue has frozen are discarded with cause 0x53 (12 R323). -/
def Node.discardAccs (n : Node) (c : Nat) : Node :=
  overAll (n.clr.dieAccs.filter (fun a => a.ctx == c)) (fun n a => (n.releaseAcc c a.hnd).fault53 c a.hnd a.desc 6 a.blocks) n

/-- The filling halves of a context's step are cleared, and later messages of its issues are dropped (12 R346). -/
def Node.dropIssues (n : Node) (f : Issue → Bool) : Node :=
  n.modClr (fun k =>
    { k with issues := k.issues.map (fun i =>
        if f i && !i.present then { i with vals := [], cens := [], fin := none, dropped := true } else i) })

/-- What the Mint holds of a step of a context is discarded (13 R367). -/
def Node.dropMint (n : Node) (c step : Nat) : Node :=
  n.modMint (fun m =>
    { m with
      nodes := m.nodes.filter (fun x => !(x.ctx == c && x.step == step))
      roots := m.roots.filter (fun x => !(x.ctx == c && x.step == step))
      lanes := m.lanes.filter (fun x => !(x.2.ctx == c && x.2.step == step))
      bad := m.bad.filter (fun x => !(x.1 == c && x.2.2 == step))
      touched := m.touched.filter (fun x => !(x.1 == c && x.2.2 == step)) })

/-- A tag record's fields after the preimage and full tag (13 R381). -/
def tagTail (short taint status : Nat) : Nat := putField 176 8 short + putField 184 2 taint + putField 186 1 status

/-- An entry of the tag history (13 R381). -/
def Node.tagHistory (n : Node) (c step short : Nat) : Node :=
  n.wrBits (Ob.tag_tagHistory c) (128 * (step % 64)) 128 (putField 0 8 step + putField 8 8 short)

/-- A step that ends aborted forms no tag: its record is marked, with short tag 0 and free values in place of the preimage and
the full tag, and a TAG of 0 is sent unless one has been (13 R370, R376; log entry 28). -/
def Node.abortTag (n : Node) (c : Nat) : Node :=
  let x := n.ctxOf c
  let n0 := if n.fired c && !x.tagDue then n else n.sendTag c x.step 0
  let (f, n1) := n0.takeFree
  let n2 := n1.wr (Ob.tag_tagRecord c) (putField 0 176 f + tagTail 0 (n.rd (Ob.tag_taintReasons c)) 4)
  ((n2.tagHistory c x.step 0).dropMint c x.step).modCtx c (fun y => { y with tagDue := false })

/-- Open the settle window of a context (14 R389). -/
def Node.openSettle (n : Node) (c : Nat) : Node :=
  (n.wrBits Ob.flt_settling c 1 1).modCtx c (fun x => { x with settleTo := some (n.tb1 + 2344) })

/-- The settle window of a context closes (14 R389). -/
def Node.closeSettle (n : Node) (c : Nat) : Node :=
  (n.wrBits Ob.flt_settling c 1 0).modCtx c (fun x => { x with settleTo := none })

/-- The context returns to IDLE and its walk to idle (09 R254, 10 R265). -/
def Node.toIdle (n : Node) (c : Nat) : Node :=
  ((n.wr (Ob.ctx_escrowState c) 0).wr (Ob.seq_walkState c) 0).modCtx c (fun x => { x with waitE := none, abortAt := none })

/-- A step ends with an outcome, on one tick (09 R254). A step aborted before it fired moves the next step number past itself
(09 R249, 10 R265; log entry 25). -/
def Node.endStep (n : Node) (c oc cause : Nat) : Node :=
  let x := n.ctxOf c
  let n1 := ((n.settleDeferred c oc).clearTallies c).discardAccs c
  let n2 := if oc == 5 then (n1.dropIssues (fun i => i.ctx == c && i.step == x.step)).abortTag c else n1.openSettle c
  let n3 := if n.fired c then n2 else n2.wr (Ob.seq_nextStepNumber c) ((x.step + 1) % 2 ^ 48)
  (n3.toIdle c).postOutcome c oc cause

/-- A fault wave ends the step that a context holds in ARMED or CONFIRMED (10 R265). -/
def Node.endUnfired (n : Node) (c cause : Nat) : Node := n.endStep c 5 cause

/-- A wave that this TSU raises for a context: a step that has not fired ends at once, as by a wave received (10 R265, 14 R386). -/
def Node.waveStep (n : Node) (c cause : Nat) : Node :=
  let unfired := n.escrow c == 1 || n.escrow c == 2
  let n1 := n.raiseWave c cause
  if unfired then n1.endUnfired c cause else n1

/-- A fault strikes the step of a context: the record, the wave and the abort (09 R256). The deadline-class faults that can strike a step before
its fire place its abort action too. -/
def Node.strikeStep (n : Node) (c cause obj detail : Nat) : Node :=
  let unfired := n.escrow c == 1 || n.escrow c == 2
  let n1 := (n.ctxFault cause c obj detail).waveStep c cause
  if unfired && (cause == 0x3E || cause == 0x3F) then n1.placeAbort c else n1

/-- A step aborted in its settle window: its outcome becomes 5 with the wave's cause, the counters move, the deferred
accumulators return, the tag record and history are marked (14 R389). -/
def Node.reviseOutcome (n : Node) (c cause : Nat) : Node :=
  let o := n.rd (Ob.seq_lastOutcome c)
  let step := fieldAt o 0 8
  let oc := fieldAt o 8 1
  let w := 2 ^ 64
  let n1 := n.wr (Ob.seq_lastOutcome c) (outcomeBlob step 5 cause (fieldAt o 10 1) (fieldAt o 16 8) (fieldAt o 24 8))
  let n2 := (n1.wr (outcomeCounter c oc) ((n.rd (outcomeCounter c oc) + w - 1) % w)).bump (Ob.seq_stepsAborted c)
  let n3 := n2.modClr (fun k =>
    { k with defAccs := k.defAccs.map (fun a => if a.ctx == c then { a with elems := a.atFire, sentIn := none } else a) })
  let t := n3.rd (Ob.tag_tagRecord c)
  let n4 := if (n.ctxOf c).tagDue then n3.abortTag c
    else (n3.wr (Ob.tag_tagRecord c) (fieldAt t 0 176 + tagTail (fieldAt t 176 8) (fieldAt t 184 2) (fieldAt t 186 1 ||| 4))).tagHistory c step 0
  ((n4.closeSettle c).irqEvent c).ctxFault 0x7A c 0 (put 79 72 cause + put 71 64 oc + put 47 0 step)

/-- A wave received is counted and kept (14 R387, object 0x8000.0A). -/
def Node.noteWave (n : Node) (p slot : Nat) : Node :=
  (n.bump Ob.flt_wavesReceived).wr Ob.flt_lastWave (putField 0 8 n.tb1 + putField 8 11 (fld slot 83 0) + putField 19 1 p)

/-- What a wave does to a context by its escrow state (14 R387, R389; 10 R265). -/
def Node.waveActs (n : Node) (c cause : Nat) : Node :=
  let e := n.escrow c
  if e == 1 || e == 2 then n.endUnfired c cause
  else if e == 3 then n.abortStep c cause
  else
    let n1 := n.bump Ob.flt_wavesIgnored
    if bit (n.rd Ob.flt_settling) c then n1.reviseOutcome c cause else n1

/-- A TSU receives a wave for its span instance: it is counted and kept, and acts on its context (14 R387). -/
def waveReceived (p : Nat) (n : Node) : Node :=
  match (n.linkOf p).waveIn with
  | [] => n
  | (slot, _) :: rest =>
    let n1 := n.modLink p (fun l => { l with waveIn := rest })
    when (n.member && slotSpan slot == n.span && slotEpoch slot == n.epoch && decide (slotCtx slot < n.ctxCount))
      (fun n => (n.noteWave p slot).waveActs (slotCtx slot) (slotCause slot)) n1

/-- A member's unacknowledged journal records are discarded and counted as lost, without a cause (15 R412). -/
def Node.discardJournal (n : Node) : Node :=
  (n.addTo Ob.det_recordsLost (n.jrnl.pend.filter (fun r => !r.ackA && !r.ackB)).length).modJrnl (fun _ => {})

/-- The span instance of a TSU ends: steps in FIRED are aborted on the bus, every context becomes IDLE without an outcome, and
all that belongs to the instance is discarded; tables, descriptors, translations and the account table stay (15 R412). -/
def Node.endInstance (n : Node) : Node :=
  let one := fun (n : Node) (c : Nat) =>
    let n1 := if n.fired c then (n.placeAbort c).stopWalk c else n
    let n2 := ((n1.clearTallies c).dropMint c (n.ctxOf c).step).toIdle c
    (n2.wr (Ob.seq_nextStepNumber c) 0).modCtx c (fun x =>
      { ({} : Ctx) with
        step := x.step, table := x.table, fire := x.fire, marks := x.marks, shownE := x.shownE, shownI := x.shownI, dead := x.dead, slip := x.slip
        audit := x.audit })
  let n1 := overAll (upTo n.ctxCount) one n
  let n2 := n1.modClr (fun k => { k with dieAccs := [], defAccs := [], issues := [], last := [] })
  ((n2.modTally (fun t => { t with tal := [], waits := [], rels := [] })).modMint (fun _ => {})).discardJournal.wr Ob.flt_settling 0

/-- The step of a context ends on the tick of its abort action (09 R254). -/
def Node.endAborted (n : Node) (c : Nat) : Node :=
  match (n.ctxOf c).abortAt with
  | some t => if n.fired c && t ≤ n.tb1 then n.endStep c 5 (n.ctxOf c).cause else n
  | none => n

end Sys2Proof.Machine
end

