-- ==== Sys2Proof/Machine/Journal.lean ====
section
/-! DEFINITION. Journal records at a TSU: made, sent and lost (13 R371 to R374). -/

namespace Sys2Proof.Machine

/-- The reference step of a record made before any ARM: all ones (13 R372). -/
def setupStep : Nat := 2 ^ 48 - 1

/-- The reference step and the F of a context's most recent ARM (13 R372). -/
def Node.lastArm (n : Node) (c : Nat) : Option (Nat × Nat) := (n.ctxOf c).arms.head?

/-- A context receives an ARM: it becomes the reference of the records that follow (13 R372). -/
def Node.noteArm (n : Node) (c step fire : Nat) : Node :=
  n.modCtx c (fun x => { x with arms := ((step, fire) :: x.arms).take 64 })

/-- The cells of a RECORD or REPLAY message (13 R373). -/
def recordMsg (span epoch kind ctx die seq ref typ len offset : Nat) (payload : List Nat) : Msg :=
  { typ := tJournal
    cells := [put 127 112 span + put 111 80 epoch + put 79 76 kind + put 75 70 ctx + put 69 50 die + put 49 18 seq,
      put 127 80 ref + put 79 76 typ + put 75 68 len + put 63 0 offset] ++ payloadCells payload }

/-- Cause 0x66: a record is lost; the step in flight of its reference context is tainted (13 R374, 14 R405). -/
def Node.loseRecord (n : Node) (ctx seq typ ref : Nat) : Node :=
  ((n.bump Ob.det_recordsLost).ctxFault 0x66 ctx seq (put 79 76 typ + put 47 0 ref)).taint ctx 10

/-- Send a record on a lane that carries journal messages; it counts as sent there. -/
def Node.sendRecord (n : Node) (p : Nat) (r : JRec) : Node :=
  if n.journalPort p then (n.send p r.msg).events 0x18 0 1 else n

/-- The record after a send on the lanes of a list. -/
def JRec.sent (r : JRec) (ps : List Nat) (t : Nat) : JRec :=
  { r with
    sendsA := if ps.contains 0 then r.sendsA + 1 else r.sendsA
    sendsB := if ps.contains 1 then r.sendsB + 1 else r.sendsB
    tickA := if ps.contains 0 then t else r.tickA
    tickB := if ps.contains 1 then t else r.tickB }

/-- Neither head has acknowledged the record (13 R374). -/
def JRec.open (r : JRec) : Bool := !r.ackA && !r.ackB

/-- A journaled input makes a record: it takes the next number and is sent on the lanes, or it is lost when 256 records are held or no
lane carries journal messages (13 R371 to R374). A TSU outside a span instance numbers no records (log entry 36). -/
def Node.journal (n : Node) (typ ctx : Nat) (bytes : List Nat) : Node :=
  if !n.member then n
  else
    let seq := n.jrnl.nxt
    let (ref, off) := match n.lastArm ctx with
      | some a => (a.1, ofS 64 ((n.tb1 : Int) - (a.2 : Int)))
      | none => (setupStep, 0)
    let len := max 16 bytes.length
    let m := recordMsg n.span n.epoch 1 ctx n.ident seq ref typ len off (bytes ++ List.replicate (len - bytes.length) 0)
    let ps := [0, 1].filter n.journalPort
    let n1 := n.modJrnl (fun j => { j with nxt := (j.nxt + 1) % 2 ^ 32 })
    if 256 ≤ (n.jrnl.pend.filter JRec.open).length || ps.isEmpty then n1.loseRecord ctx seq typ ref
    else
      let r := ({ seq := seq, msg := m, typ := typ, ctx := ctx, refStep := ref } : JRec).sent ps n.tb1
      (overAll ps (fun n p => n.sendRecord p r) n1).modJrnl (fun j => { j with pend := j.pend ++ [r] })

/-- The reference context of the records that name none (13 R372, object 0x7000.09). -/
def Node.journalCtx (n : Node) : Nat := n.rd Ob.det_journalContext

/-- A key record: the key in force (13 R363, R371). -/
def Node.journalKey (n : Node) : Node := n.journal 6 n.journalCtx (leBytes 32 (n.rd Ob.det_conformanceKey))

end Sys2Proof.Machine
end

