-- ==== Sys2Proof/Machine/Hash.lean ====
section
/-! DEFINITION. The digests: BLAKE3 in its default unkeyed mode (13 R361, R366) and HMAC-SHA-256 (16 R454). Both are named by
the specification and described outside it (log entry 9). -/

namespace Sys2Proof.Machine

/-- Add 32-bit words. -/
def add32 (a b : Nat) : Nat := (a + b) % 2 ^ 32

/-- Rotate a 32-bit word right. -/
def ror32 (x k : Nat) : Nat := x / 2 ^ k + x % 2 ^ k * 2 ^ (32 - k)

/-- The complement of a 32-bit word. -/
def not32 (x : Nat) : Nat := 2 ^ 32 - 1 - x

/-- Little-endian 32-bit words of bytes, the last filled with zeros. -/
def wordsLE (k : Nat) (l : List Nat) : List Nat := (upTo k).map (fun i => leVal ((l.drop (4 * i)).take 4))

/-- The initial words that BLAKE3 shares with SHA-256. -/
def hashIV : List Nat :=
  [0x6A09E667, 0xBB67AE85, 0x3C6EF372, 0xA54FF53A, 0x510E527F, 0x9B05688C, 0x1F83D9AB, 0x5BE0CD19]

/-- The quarter round on four words with two message words. -/
def b3Quarter (a b c d x y : Nat) : Nat × Nat × Nat × Nat :=
  let a1 := add32 (add32 a b) x
  let d1 := ror32 (d ^^^ a1) 16
  let c1 := add32 c d1
  let b1 := ror32 (b ^^^ c1) 12
  let a2 := add32 (add32 a1 b1) y
  let d2 := ror32 (d1 ^^^ a2) 8
  let c2 := add32 c1 d2
  (a2, ror32 (b1 ^^^ c2) 7, c2, d2)

/-- One round: the four columns, then the four diagonals. -/
def b3Round (v m : List Nat) : List Nat :=
  let g := fun (i : Nat) => v.getD i 0
  let w := fun (i : Nat) => m.getD i 0
  let (a0, b0, c0, d0) := b3Quarter (g 0) (g 4) (g 8) (g 12) (w 0) (w 1)
  let (a1, b1, c1, d1) := b3Quarter (g 1) (g 5) (g 9) (g 13) (w 2) (w 3)
  let (a2, b2, c2, d2) := b3Quarter (g 2) (g 6) (g 10) (g 14) (w 4) (w 5)
  let (a3, b3, c3, d3) := b3Quarter (g 3) (g 7) (g 11) (g 15) (w 6) (w 7)
  let (e0, f1, g2, h3) := b3Quarter a0 b1 c2 d3 (w 8) (w 9)
  let (e1, f2, g3, h0) := b3Quarter a1 b2 c3 d0 (w 10) (w 11)
  let (e2, f3, g0, h1) := b3Quarter a2 b3 c0 d1 (w 12) (w 13)
  let (e3, f0, g1, h2) := b3Quarter a3 b0 c1 d2 (w 14) (w 15)
  [e0, e1, e2, e3, f0, f1, f2, f3, g0, g1, g2, g3, h0, h1, h2, h3]

/-- The order in which a round takes the message words of the round before. -/
def b3Perm (m : List Nat) : List Nat := [2, 6, 3, 10, 7, 0, 4, 13, 1, 11, 12, 5, 9, 14, 15, 8].map (fun i => m.getD i 0)

/-- Rounds on a state, the message permuted between them. -/
def b3Rounds : Nat → List Nat → List Nat → List Nat
  | 0, v, _ => v
  | k + 1, v, m => b3Rounds k (b3Round v m) (b3Perm m)

/-- The compression of BLAKE3: chaining value, block words, counter, block length and flags give a chaining value. -/
def b3Compress (cv m : List Nat) (counter len flags : Nat) : List Nat :=
  let v := b3Rounds 7 (cv ++ hashIV.take 4 ++ [counter % 2 ^ 32, counter / 2 ^ 32, len, flags]) m
  (v.take 8).zipWith (fun a b => a ^^^ b) (v.drop 8)

/-- The blocks of a chunk, from block `i`: the first carries flag 1, the last flag 2 and, for a root, flag 8. -/
def b3Blocks : Nat → List Nat → Nat → Nat → Bool → List Nat → List Nat
  | 0, cv, _, _, _, _ => cv
  | fuel + 1, cv, counter, i, root, bytes =>
    let last := bytes.length ≤ 64
    let flags := (if i == 0 then 1 else 0) + (if last then 2 + (if root then 8 else 0) else 0)
    let cv' := b3Compress cv (wordsLE 16 (bytes.take 64)) counter (min 64 bytes.length) flags
    if last then cv' else b3Blocks fuel cv' counter (i + 1) root (bytes.drop 64)

/-- The chaining value of one chunk of at most 1,024 bytes. -/
def b3Chunk (counter : Nat) (root : Bool) (bytes : List Nat) : List Nat := b3Blocks 16 hashIV counter 0 root bytes

/-- The chaining value of a parent. -/
def b3Parent (root : Bool) (l r : List Nat) : List Nat := b3Compress hashIV (l ++ r) 0 64 (4 + (if root then 8 else 0))

/-- Chunks of the left part of a tree of `n` chunks: the greatest power of two below n. -/
def b3Left (n : Nat) : Nat := 2 ^ (Nat.log2 (n - 1))

/-- The chaining value of a run of bytes that begins at a chunk; `fuel` bounds the depth of its tree. -/
def b3Tree : Nat → Nat → Bool → List Nat → List Nat
  | 0, counter, root, bytes => b3Chunk counter root bytes
  | fuel + 1, counter, root, bytes =>
    if bytes.length ≤ 1024 then b3Chunk counter root bytes
    else
      let l := b3Left ((bytes.length + 1023) / 1024)
      b3Parent root (b3Tree fuel counter false (bytes.take (1024 * l))) (b3Tree fuel (counter + l) false (bytes.drop (1024 * l)))

/-- The 256 bits of a chaining value, in the byte order of an object. -/
def cvNat (cv : List Nat) : Nat := cv.foldr (fun w acc => w % 2 ^ 32 + 2 ^ 32 * acc) 0

/-- The words of a chaining value. -/
def cvWords (x : Nat) : List Nat := (upTo 8).map (fun i => bits x (32 * i) 32)

/-- The BLAKE3 hash of bytes, as an object holds it. -/
def blake3 (bytes : List Nat) : Nat := cvNat (b3Tree 64 0 true bytes)

/-- The cube-root constants of SHA-256. -/
def shaK : List Nat :=
  [0x428A2F98, 0x71374491, 0xB5C0FBCF, 0xE9B5DBA5, 0x3956C25B, 0x59F111F1, 0x923F82A4, 0xAB1C5ED5,
   0xD807AA98, 0x12835B01, 0x243185BE, 0x550C7DC3, 0x72BE5D74, 0x80DEB1FE, 0x9BDC06A7, 0xC19BF174] ++
  [0xE49B69C1, 0xEFBE4786, 0x0FC19DC6, 0x240CA1CC, 0x2DE92C6F, 0x4A7484AA, 0x5CB0A9DC, 0x76F988DA,
   0x983E5152, 0xA831C66D, 0xB00327C8, 0xBF597FC7, 0xC6E00BF3, 0xD5A79147, 0x06CA6351, 0x14292967] ++
  [0x27B70A85, 0x2E1B2138, 0x4D2C6DFC, 0x53380D13, 0x650A7354, 0x766A0ABB, 0x81C2C92E, 0x92722C85,
   0xA2BFE8A1, 0xA81A664B, 0xC24B8B70, 0xC76C51A3, 0xD192E819, 0xD6990624, 0xF40E3585, 0x106AA070] ++
  [0x19A4C116, 0x1E376C08, 0x2748774C, 0x34B0BCB5, 0x391C0CB3, 0x4ED8AA4A, 0x5B9CCA4F, 0x682E6FF3,
   0x748F82EE, 0x78A5636F, 0x84C87814, 0x8CC70208, 0x90BEFFFA, 0xA4506CEB, 0xBEF9A3F7, 0xC67178F2]

/-- The 64 schedule words of a block, newest first. -/
def shaSchedule : Nat → List Nat → List Nat
  | 0, w => w
  | k + 1, w =>
    let x := w.getD 14 0
    let y := w.getD 1 0
    let s0 := ror32 x 7 ^^^ ror32 x 18 ^^^ (x / 2 ^ 3)
    let s1 := ror32 y 17 ^^^ ror32 y 19 ^^^ (y / 2 ^ 10)
    shaSchedule k (add32 (add32 (w.getD 15 0) s0) (add32 (w.getD 6 0) s1) :: w)

/-- One round of SHA-256. -/
def shaRound (v : List Nat) (kw : Nat × Nat) : List Nat :=
  let g := fun (i : Nat) => v.getD i 0
  let s1 := ror32 (g 4) 6 ^^^ ror32 (g 4) 11 ^^^ ror32 (g 4) 25
  let ch := (g 4 &&& g 5) ^^^ (not32 (g 4) &&& g 6)
  let t1 := add32 (add32 (g 7) s1) (add32 ch (add32 kw.1 kw.2))
  let s0 := ror32 (g 0) 2 ^^^ ror32 (g 0) 13 ^^^ ror32 (g 0) 22
  let maj := (g 0 &&& g 1) ^^^ (g 0 &&& g 2) ^^^ (g 1 &&& g 2)
  [add32 t1 (add32 s0 maj), g 0, g 1, g 2, add32 (g 3) t1, g 4, g 5, g 6]

/-- One block of SHA-256. -/
def shaBlock (h blk : List Nat) : List Nat :=
  let w := (upTo 16).map (fun i => ((blk.drop (4 * i)).take 4).foldl (fun a b => a * 256 + b % 256) 0)
  h.zipWith add32 ((shaK.zip (shaSchedule 48 w.reverse).reverse).foldl shaRound h)

/-- The bytes of a message with its padding. -/
def shaPad (bytes : List Nat) : List Nat :=
  let z := (64 - (bytes.length + 9) % 64) % 64
  bytes ++ [128] ++ List.replicate z 0 ++ (leBytes 8 (8 * bytes.length)).reverse

/-- SHA-256 of bytes. -/
def sha256 (bytes : List Nat) : List Nat :=
  let p := shaPad bytes
  ((upTo (p.length / 64)).foldl (fun h i => shaBlock h ((p.drop (64 * i)).take 64)) hashIV).flatMap (fun w => (leBytes 4 w).reverse)

/-- HMAC-SHA-256 with a key of at most 64 bytes (16 R454). -/
def hmacSha256 (key bytes : List Nat) : List Nat :=
  let k := key ++ List.replicate (64 - key.length) 0
  sha256 (k.map (fun b => b ^^^ 0x5C) ++ sha256 (k.map (fun b => b ^^^ 0x36) ++ bytes))

end Sys2Proof.Machine
end

