-- ==== Sys2Proof/Machine/ClearNum.lean ====
section
/-! DEFINITION. The exact arithmetic of a Clearing: descriptors, element states, conversions, rounding and the wire forms
(12 R318, R319, R325 to R333, R340 to R342). -/

namespace Sys2Proof.Machine

/-! ### Descriptors -/

/-- Operation of a descriptor: 0 SUM, 1 MAX, 2 MIN, 3 AND, 4 OR, 5 COUNT_NAN (12 R318). -/
def dOp (d : Nat) : Nat := fld d 255 252
/-- Input format. -/
def dIn (d : Nat) : Nat := fld d 251 248
/-- Output format. -/
def dOut (d : Nat) : Nat := fld d 247 244
/-- Rounding: 0 RNE, 1 RTZ, 2 RUP, 3 RDN. -/
def dRnd (d : Nat) : Nat := fld d 243 242
/-- NaN policy: 0 PROPAGATE, 1 EXCLUDE, 2 TRAP. -/
def dNan (d : Nat) : Nat := fld d 241 240
/-- Hub Clearing engine. -/
def dEng (d : Nat) : Nat := fld d 239 236
/-- TSU result bank. -/
def dBank (d : Nat) : Nat := fld d 235 232
/-- Mean flag. -/
def dMean (d : Nat) : Bool := bit d 218
/-- Scale k. -/
def dScale (d : Nat) : Int := toS 8 (fld d 217 210)
/-- Expected contributors. -/
def dExp (d : Nat) : Nat := fld d 209 190
/-- Mean divisor. -/
def dDiv (d : Nat) : Nat := fld d 189 158
/-- Result timeout in ticks. -/
def dTimeout (d : Nat) : Nat := fld d 157 124

/-- An integer input format. -/
def isIntIn (f : Nat) : Bool := f == 5 || f == 6

/-- A descriptor is accepted (12 R318, R319); an Edge TSU has 4 result banks (12 R354). -/
def descOk (edge : Bool) (d : Nat) : Bool :=
  dOp d ≤ 5 && dIn d ≤ 6 && dOut d ≤ 4 && dNan d ≤ 2 && 1 ≤ dLen d && dLen d ≤ 4096 &&
  decide (-64 ≤ dScale d) && decide (dScale d ≤ 64) && 1 ≤ dExp d && dExp d ≤ 262144 &&
  1563 ≤ dTimeout d && dTimeout d ≤ 15625000000 && d % 2 ^ 124 == 0 && (!edge || dBank d ≤ 3) &&
  !((dOp d == 3 || dOp d == 4) && (!isIntIn (dIn d) || dOut d != 3)) &&
  !(dOp d == 5 && (isIntIn (dIn d) || dOut d != 3)) &&
  !(dOut d == 4 && (dOp d != 0 || dMean d || dScale d != 0 || 512 < dLen d)) &&
  !(dNan d != 0 && isIntIn (dIn d))

/-! ### Formats -/

/-- Fraction bits of a floating-point format (12 R326). -/
def fpFrac (f : Nat) : Nat := if f == 0 then 23 else if f == 1 then 7 else if f == 2 then 10 else if f == 3 then 3 else 2
/-- Exponent bits. -/
def fpExp (f : Nat) : Nat := if f ≤ 1 then 8 else if f == 3 then 4 else 5
/-- Bias. -/
def fpBias (f : Nat) : Nat := if f ≤ 1 then 127 else if f == 3 then 7 else 15
/-- Bits of an input format (12 R321). -/
def inWidth (f : Nat) : Nat :=
  if f == 0 || f == 5 then 32 else if f == 1 || f == 2 then 16 else if f == 6 then 64 else 8
/-- Bits of an output format; raw takes 384 (12 R330). -/
def outWidth (f : Nat) : Nat := if f == 0 then 32 else if f == 1 || f == 2 then 16 else if f == 3 then 64 else 384

/-- What an input pattern is: a NaN, an infinity by sign, or a finite value in units of 2^-149 with its sign bit (12 R326). -/
inductive Val where
  | nan
  | inf (neg : Bool)
  | fin (neg : Bool) (a : Int)
  deriving DecidableEq, Repr

/-- The value of an input pattern (12 R326). -/
def valOf (f x : Nat) : Val :=
  if isIntIn f then .fin (bit x (inWidth f - 1)) (toS (inWidth f) x * (2 ^ 149 : Nat))
  else
    let fb := fpFrac f
    let neg := bit x (inWidth f - 1)
    let e := bits x fb (fpExp f)
    let fr := bits x 0 fb
    if e == 2 ^ fpExp f - 1 && (f != 3 || fr == 7) then (if f == 3 || fr != 0 then .nan else .inf neg)
    else
      let m : Nat := if e == 0 then fr else 2 ^ fb + fr
      let sh := (if e == 0 then 1 else e) + 149 - fpBias f - fb
      .fin neg (if neg then -((m * 2 ^ sh : Nat) : Int) else ((m * 2 ^ sh : Nat) : Int))

/-- The order of MAX and MIN: totalOrder on the patterns that are not NaN, signed order on integers (12 R328). -/
def orderKey (f x : Nat) : Int :=
  if isIntIn f then toS (inWidth f) x
  else
    let mag := bits x 0 (inWidth f - 1)
    if bit x (inWidth f - 1) then -(mag : Int) - 1 else mag

/-! ### The exact element -/

/-- Saturating sum (12 R327). -/
def satAdd (w a b : Nat) : Nat := min (2 ^ w - 1) (a + b)

/-- Zero state of a combination (12 R327). -/
def zCombine (a b : Nat) : Nat := if 0 < min a b then max a b else a + b

/-- The operation chooses or keeps a pattern: MAX, MIN, AND, OR. -/
def isPick (op : Nat) : Bool := 1 ≤ op && op ≤ 4

/-- The pattern two chosen patterns combine to (12 R328). -/
def pickOf (op f a b : Nat) : Nat :=
  if op == 1 then (if orderKey f a < orderKey f b then b else a)
  else if op == 2 then (if orderKey f b < orderKey f a then b else a)
  else if op == 3 then a &&& b else a ||| b

/-- Combine two states of an element (12 R327, R328). -/
def Elem.combine (op f : Nat) (a b : Elem) : Elem :=
  { a := if !isPick op then a.a + b.a
         else if !a.chosen then b.a else if !b.chosen then a.a else ((pickOf op f a.a.toNat b.a.toNat : Nat) : Int)
    nan := satAdd 16 a.nan b.nan, nanDie := min a.nanDie b.nanDie, pinf := satAdd 12 a.pinf b.pinf, ninf := satAdd 12 a.ninf b.ninf
    z := zCombine a.z b.z, chosen := a.chosen || b.chosen, cnt := min 2 (a.cnt + b.cnt), fin := a.fin + b.fin
    pat := if b.cnt == 0 then a.pat else b.pat }

/-- The state of one contribution of a pattern from a die (12 R327, R328). -/
def Elem.single (op f die x : Nat) : Elem :=
  match valOf f x with
  | .nan => { nan := 1, nanDie := die, cnt := 1, pat := x }
  | .inf neg =>
    if op == 0 then { pinf := ofB (!neg), ninf := ofB neg, cnt := 1, pat := x }
    else if isPick op then { a := x, chosen := true, cnt := 1, pat := x } else { cnt := 1, pat := x }
  | .fin neg a =>
    if op == 0 then { a := a, z := if neg && a == 0 then 1 else 2, cnt := 1, fin := 1, pat := x }
    else if op == 3 || op == 4 then { a := bits (ofS 64 (toS (inWidth f) x)) 0 64, chosen := true, cnt := 1, fin := 1, pat := x }
    else if isPick op then { a := x, chosen := true, cnt := 1, fin := 1, pat := x } else { cnt := 1, fin := 1, pat := x }

/-- Add a contribution to an element (12 R327). -/
def Elem.add (op f die x : Nat) (e : Elem) : Elem := e.combine op f (Elem.single op f die x)

/-- A die that made no contribution to an element contributes +0 (12 R323); it is no contribution in the counts of R322 (log entry 97). -/
def Elem.filled (op f die : Nat) (e : Elem) : Elem :=
  if e.cnt == 0 then { e.combine op f (Elem.single op f die 0) with cnt := 0, fin := e.fin } else e

/-! ### Rounding -/

/-- Round a magnitude up by one unit: quotient `n`, remainder `r` of a division by `d` (12 R318, R340). -/
def roundUp (mode : Nat) (neg : Bool) (n r d : Nat) : Bool :=
  if mode == 0 then d < 2 * r || (d == 2 * r && n % 2 == 1)
  else if mode == 1 then false else if mode == 2 then !neg && r != 0 else neg && r != 0

/-- The rounded quotient, and whether it differs from the exact one. -/
def roundDiv (mode : Nat) (neg : Bool) (num den : Nat) : Nat × Bool :=
  (num / den + (if roundUp mode neg (num / den) (num % den) den then 1 else 0), num % den != 0)

/-- The exponent of a positive fraction: the greatest `e` with 2^e at most it. -/
def expOf (num den : Nat) : Int :=
  let e : Int := (num.log2 : Int) - (den.log2 : Int)
  let low := if 0 ≤ e then decide (num < den * 2 ^ e.toNat) else decide (num * 2 ^ (-e).toNat < den)
  if low then e - 1 else e

/-- The infinity of an output format. -/
def infPat (out : Nat) (neg : Bool) : Nat :=
  (2 ^ fpExp out - 1) * 2 ^ fpFrac out + (if neg then 2 ^ (outWidth out - 1) else 0)

/-- The canonical NaN of an output format (12 R341). -/
def nanPat (out : Nat) : Nat :=
  if out == 0 then 0x7FC00000 else if out == 1 then 0x7FC0 else if out == 2 then 0x7E00 else 0x8000000000000000

/-- A non-zero value num / den rounded to a floating-point output: pattern, flags, and whether it differs (12 R340). -/
def roundFp (out mode : Nat) (neg : Bool) (num den : Nat) : Nat × Nat × Bool :=
  let emin : Int := 1 - (fpBias out : Int)
  let q : Int := max (expOf num den) emin - (fpFrac out : Int)
  let r := if 0 ≤ q then roundDiv mode neg num (den * 2 ^ q.toNat) else roundDiv mode neg (num * 2 ^ (-q).toNat) den
  let big := (q + (fpFrac out : Int) + (fpBias out : Int) - 1).toNat * 2 ^ fpFrac out + r.1
  let top := infPat out false
  let sign := if neg then 2 ^ (outWidth out - 1) else 0
  if top ≤ big then
    ((if mode == 0 || (mode == 2 && !neg) || (mode == 3 && neg) then top else top - 1) + sign, 1, true)
  else (big + sign, 0, r.2)

/-- A value num / den rounded to an integer and saturated (12 R340). -/
def roundInt (mode : Nat) (neg : Bool) (num den : Nat) : Nat × Nat × Bool :=
  let r := roundDiv mode neg num den
  if neg then (if 2 ^ 63 < r.1 then (2 ^ 63, 2, true) else ((2 ^ 64 - r.1) % 2 ^ 64, 0, r.2))
  else if 2 ^ 63 ≤ r.1 then (2 ^ 63 - 1, 2, true) else (r.1, 0, r.2)

/-- A value num / den rounded to an output format. -/
def roundTo (out mode : Nat) (neg : Bool) (num den : Nat) : Nat × Nat × Bool :=
  if out == 3 then roundInt mode neg num den else roundFp out mode neg num den

/-- The canonical NaN with its flag; INT64 output adds flag bit 7 (12 R341, R342). -/
def nanResult (out flags : Nat) : Nat × Nat × Bool := (nanPat out, flags + (if out == 3 then 128 else 0), false)

/-- An infinite result (12 R341 rows 3 and 4). -/
def infResult (out : Nat) (neg : Bool) : Nat × Nat × Bool :=
  if out == 3 then (if neg then 2 ^ 63 else 2 ^ 63 - 1, 2, false) else (infPat out neg, 0, false)

/-- Flags that every row carries: bit 4 under EXCLUDE with a NaN, bit 5 at saturation of the census (12 R341). -/
def censusFlags (d : Nat) (e : Elem) : Nat := (if dNan d == 1 && e.nan != 0 then 16 else 0) + (if e.nan == 65535 then 32 else 0)

/-- The effective divisor of a mean (12 R340). -/
def divisor (d : Nat) (e : Elem) : Int :=
  ((if dDiv d == 0 then dExp d else dDiv d : Nat) : Int) - (if dNan d == 1 then (e.nan : Int) else 0)

/-- The result of SUM by the rows of 12 R341. -/
def sumResult (d : Nat) (e : Elem) : Nat × Nat × Bool :=
  let out := dOut d
  if dNan d == 0 && e.nan != 0 then nanResult out 8
  else if e.pinf != 0 && e.ninf != 0 then nanResult out 4
  else if e.pinf != 0 then infResult out false
  else if e.ninf != 0 then infResult out true
  else if dMean d && divisor d e ≤ 0 then nanResult out 64
  else if e.a == 0 then (if out != 3 && e.z == 1 then 2 ^ (outWidth out - 1) else 0, 0, false)
  else
    let m := if dMean d then (divisor d e).toNat else 1
    roundTo out (dRnd d) (e.a < 0) e.a.natAbs (m * 2 ^ (149 - dScale d).toNat)

/-- The conversion of a chosen pattern (12 R342). DEDUCED (log entry 31): an infinity saturates an INT64 output as in row 3 and 4
of R341. -/
def convertPick (d x : Nat) : Nat × Nat × Bool :=
  let out := dOut d
  match valOf (dIn d) x with
  | .nan => nanResult out 0
  | .inf neg => let r := infResult out neg; (r.1, r.2.1, out == 3)
  | .fin neg a =>
    if a == 0 then (if out != 3 && neg && !isIntIn (dIn d) then 2 ^ (outWidth out - 1) else 0, 0, false)
    else roundTo out (dRnd d) neg a.natAbs (2 ^ 149)

/-- The 384 bits of an element in full form (12 R332): A and the side fields. -/
def Elem.full (op : Nat) (e : Elem) : Nat :=
  let a := if isPick op then e.a.toNat % 2 ^ 64 + (if e.chosen then 0 else 2 ^ 319) else ofS 320 e.a
  a * 2 ^ 64 + put 63 48 e.nan + put 47 28 e.nanDie + put 27 16 e.pinf + put 15 4 e.ninf + put 3 2 e.z

/-- The result of an element at the head: value, flags, and whether it counts as rounded (12 R340 to R342). -/
def elemResult (d : Nat) (e : Elem) : Nat × Nat × Bool :=
  let op := dOp d
  let c := censusFlags d e
  if dOut d == 4 then (e.full op, c, false)
  else
    let r :=
      if op == 0 then sumResult d e
      else if op == 5 then (e.nan, 0, false)
      else if op == 3 || op == 4 then (e.a.toNat, 0, false)
      else if dNan d == 0 && e.nan != 0 then nanResult (dOut d) 8
      else if !e.chosen then nanResult (dOut d) 64
      else convertPick d e.a.toNat
    (r.1, r.2.1 ||| (if op == 5 then c % 64 - c % 32 else c), r.2.2)

/-- A census entry (12 R344). -/
def censusEntry (k : Nat) (e : Elem) (flags : Nat) : Nat := put 63 52 k + put 51 36 e.nan + put 35 16 e.nanDie + put 7 0 flags

/-! ### Wire forms -/

/-- Part of a message: its form, its contributors, the first element, how many, and its cells (12 R330, R333). -/
structure Chunk where
  /-- Form (12 R330). -/
  form : Nat
  /-- Contributors. -/
  who : Nat
  /-- First element. -/
  first : Nat
  /-- Elements. -/
  cnt : Nat
  /-- CONT cells. -/
  cells : List Nat
  deriving DecidableEq, Repr

/-- Trailing zero bits of a non-zero number. -/
def tzNat (a : Nat) : Nat := (a ^^^ (a - 1)).log2

/-- The element qualifies for compact form (12 R331). -/
def Elem.compact (e : Elem) : Bool :=
  e.nan == 0 && e.pinf == 0 && e.ninf == 0 && (e.z == 2 || (e.z == 1 && e.a == 0))

/-- The element is a negative zero. -/
def Elem.negZero (e : Elem) : Bool := e.a == 0 && e.z == 1

/-- A value fits a signed window of `w` bits at base `b`. -/
def fitsAt (w b : Nat) (a : Int) : Bool := decide (-(2 ^ (w - 1) : Nat) * (2 ^ b : Nat) ≤ a) && decide (a < (2 ^ (w - 1) : Nat) * (2 ^ b : Nat))

/-- The base of one element: its trailing zeros, 0 for a zero (12 R333). -/
def baseOf (a : Int) : Nat := if a == 0 then 0 else tzNat a.natAbs

/-- The base of a pair: the lower count of trailing zeros, those of a zero being unbounded (12 R333). -/
def pairBase (a b : Int) : Nat := if a == 0 then baseOf b else if b == 0 then baseOf a else min (baseOf a) (baseOf b)

/-- Two elements travel as a pair (12 R333). -/
def pairOk (x y : Elem) : Bool :=
  let b := pairBase x.a y.a
  x.compact && y.compact && !x.negZero && !y.negZero && b ≤ 261 && fitsAt 59 b x.a && fitsAt 59 b y.a

/-- The three cells of a 384-bit element, highest bits first. -/
def cells3 (v : Nat) : List Nat := [bits v 256 128, bits v 128 128, bits v 0 128]

/-- One element of a SUM on its own (12 R331, R333). -/
def sumSingle (k : Nat) (e : Elem) (who : Nat) : Chunk :=
  let b := baseOf e.a
  if e.compact && e.negZero then { form := 2, who := who, first := k, cnt := 1, cells := [put 127 119 0x1FF] }
  else if e.compact && b ≤ 202 && fitsAt 118 b e.a then
    { form := 2, who := who, first := k, cnt := 1, cells := [put 127 119 b + ofS 118 (e.a / (2 ^ b : Nat))] }
  else { form := 3, who := who, first := k, cnt := 1, cells := cells3 (e.full 0) }

/-- Two elements of a SUM in one cell (12 R331). -/
def sumPair (k : Nat) (x y : Elem) (who : Nat) : Chunk :=
  let b := pairBase x.a y.a
  { form := 2, who := who, first := k, cnt := 2
    cells := [put 127 119 b + put 118 118 1 + ofS 59 (x.a / (2 ^ b : Nat)) * 2 ^ 59 + ofS 59 (y.a / (2 ^ b : Nat))] }

/-- The elements of a SUM in ascending index: index, state, contributors (12 R333). -/
def packSum : List (Nat × Elem × Nat) → List Chunk
  | [] => []
  | [x] => [sumSingle x.1 x.2.1 x.2.2]
  | x :: y :: r =>
    if x.2.2 == y.2.2 && pairOk x.2.1 y.2.1 then sumPair x.1 x.2.1 y.2.1 x.2.2 :: packSum r
    else sumSingle x.1 x.2.1 x.2.2 :: packSum (y :: r)

/-- The 64-bit word of an element (12 R330). -/
def Elem.word (op : Nat) (e : Elem) : Nat := if op == 5 then put 63 48 e.nan + put 47 28 e.nanDie else e.a.toNat

/-- Values of `w` bits in cells, the first in the highest bits (12 R330). -/
def packCells (w : Nat) : Nat → List Nat → List Nat
  | 0, _ => []
  | fuel + 1, vs =>
    if vs.isEmpty then []
    else
      let per := 128 / w
      let c := (upTo per).foldl (fun acc i => acc * 2 ^ w + vs.getD i 0 % 2 ^ w) 0
      c :: packCells w fuel (vs.drop per)

/-- Consecutive values of one form in messages of at most 6 cells. -/
def chunksOf (w form who : Nat) : Nat → Nat → List Nat → List Chunk
  | 0, _, _ => []
  | fuel + 1, k, vs =>
    if vs.isEmpty then []
    else
      let now := vs.take (6 * (128 / w))
      { form := form, who := who, first := k, cnt := now.length, cells := packCells w 6 now } ::
        chunksOf w form who fuel (k + now.length) (vs.drop (6 * (128 / w)))

/-- Chunks gathered into messages in ascending order: a message is filled before the next begins (12 R329, R333). -/
def gatherChunks (l : List Chunk) : List Chunk :=
  (l.foldl (fun acc c =>
    match acc with
    | [] => [c]
    | d :: t =>
      if d.form == c.form && d.who == c.who && d.first + d.cnt == c.first && d.cells.length + c.cells.length ≤ 6 then
        { d with cnt := d.cnt + c.cnt, cells := d.cells ++ c.cells } :: t
      else c :: d :: t) []).reverse

/-- One element of MAX, MIN, AND, OR or COUNT_NAN: word form, or full form for MAX and MIN with a NaN or without a value; two words
share a cell (12 R330). -/
def packWords (op : Nat) : List (Nat × Elem × Nat) → List Chunk
  | [] => []
  | [x] => [wordSingle x]
  | x :: y :: r =>
    if wordOk x.2.1 && wordOk y.2.1 && x.2.2 == y.2.2 then
      { form := 4, who := x.2.2, first := x.1, cnt := 2, cells := [x.2.1.word op * 2 ^ 64 + y.2.1.word op] } :: packWords op r
    else wordSingle x :: packWords op (y :: r)
where
  /-- Word form is allowed for the element. -/
  wordOk (e : Elem) : Bool := !(op == 1 || op == 2) || (e.nan == 0 && e.chosen)
  /-- One element on its own. -/
  wordSingle (x : Nat × Elem × Nat) : Chunk :=
    if wordOk x.2.1 then { form := 4, who := x.2.2, first := x.1, cnt := 1, cells := [x.2.1.word op * 2 ^ 64] }
    else { form := 3, who := x.2.2, first := x.1, cnt := 1, cells := cells3 (x.2.1.full op) }

/-- The messages of consecutive elements by the rules of 12 R333, without the native case. -/
def packElems (op : Nat) (l : List (Nat × Elem × Nat)) : List Chunk :=
  gatherChunks (if op == 0 then packSum l else packWords op l)

/-- The messages of consecutive elements in full form alone (12 R332). -/
def packFull (op : Nat) (l : List (Nat × Elem × Nat)) : List Chunk :=
  gatherChunks (l.map (fun x => { form := 3, who := x.2.2, first := x.1, cnt := 1, cells := cells3 (x.2.1.full op) }))

/-- The messages of consecutive elements over a link: where the compact form is not common to both ends, an operation that has a full form
travels in it alone (02 R69; 12 R330; log entry 248). -/
def packOver (compact : Bool) (op : Nat) (l : List (Nat × Elem × Nat)) : List Chunk :=
  if compact || 3 ≤ op then packElems op l else packFull op l

/-- The messages of a native partial (12 R330, R333). -/
def packNative (f : Nat) (pats : List Nat) : List Chunk := chunksOf (inWidth f) 1 1 4096 0 pats

/-- A cell of a compact message: its one or two elements (12 R331). -/
def compactCell (c : Nat) : List Elem :=
  let b := fld c 127 119
  if bit c 118 then
    [{ a := toS 59 (bits c 59 59) * (2 ^ b : Nat), z := 2, cnt := 1 }, { a := toS 59 (bits c 0 59) * (2 ^ b : Nat), z := 2, cnt := 1 }]
  else if b == 0x1FF then [{ z := 1, cnt := 1 }]
  else [{ a := toS 118 (bits c 0 118) * (2 ^ b : Nat), z := 2, cnt := 1 }]

/-- An element from its full form (12 R330, R332). -/
def fullElem (op v : Nat) : Elem :=
  let a := v / 2 ^ 64
  { a := if isPick op then ((a % 2 ^ 64 : Nat) : Int) else toS 320 a
    nan := fld v 63 48, nanDie := fld v 47 28, pinf := fld v 27 16, ninf := fld v 15 4, z := fld v 3 2
    chosen := isPick op && !bit a 319, cnt := 1 }

/-- An element from its word form (12 R330). -/
def wordElem (op w : Nat) : Elem :=
  if op == 5 then { nan := fld w 63 48, nanDie := fld w 47 28, cnt := 1 } else { a := w, chosen := true, cnt := 1 }

/-- Value `i` of width `w` in the cells of a message (12 R330). -/
def cellVal (m : Msg) (w i : Nat) : Nat :=
  let per := 128 / w
  bits (m.cell (i / per + 1)) (128 - w * (i % per + 1)) w

/-- The 384-bit value `i` in the cells of a message. -/
def cellFull (m : Msg) (i : Nat) : Nat := m.cell (3 * i + 1) * 2 ^ 256 + m.cell (3 * i + 2) * 2 ^ 128 + m.cell (3 * i + 3)

/-- The element states that a PARTIAL carries; a native message is converted for its die (12 R330 to R333). -/
def partialElems (d die : Nat) (m : Msg) : List Elem :=
  let cnt := fld m.head 45 39
  match fld m.head 61 58 with
  | 1 => (upTo cnt).map (fun i => Elem.single (dOp d) (dIn d) die (cellVal m (inWidth (dIn d)) i))
  | 2 => ((m.cells.drop 1).flatMap compactCell).take cnt
  | 3 => (upTo cnt).map (fun i => fullElem (dOp d) (cellFull m i))
  | 4 => (upTo cnt).map (fun i => wordElem (dOp d) (cellVal m 64 i))
  | _ => []

/-! ### Comparisons of BRANCH (09 R238) -/

/-- A value of an output or FP32 pattern as an exact ordered number; none for a NaN. -/
def fpKey (f x : Nat) : Option Int :=
  match valOf f x with
  | .nan => none
  | .inf neg => some (if neg then -((2 ^ 400 : Nat) : Int) else ((2 ^ 400 : Nat) : Int))
  | .fin _ a => some a

end Sys2Proof.Machine
end

