-- ==== Sys2Proof/Machine/Tallies.lean ====
section
/-! DEFINITION. Local and span tallies at a TSU, host channels and the Arrival Ledger (11). The hub's side is in
HubTallies.lean. -/

namespace Sys2Proof.Machine

/-! ### Refusals common to the register port -/

/-- An input that a replay suppresses is answered with status 0x8 and counted (13 R377, 16 R443). -/
def Node.journaled (n : Node) (f : Node → Node) : Node :=
  if n.rd Ob.det_inputMode == 1 then (n.bump Ob.det_inputsSuppressed).answer 8 else f n

/-- New work of a function that is not ENABLED is answered with status 0x6 and counted (16 R460). -/
def Node.needsFn (n : Node) (fn : Nat) (f : Node → Node) : Node :=
  if n.fnEnabled fn then f n else (n.bump (Ob.fn_refused fn)).answer 6

/-! ### Local tallies -/

/-- Modes of a tally (11 R284). -/
def mBarrier : Nat := 0
/-- COUNT (11 R284). -/
def mCount : Nat := 1
/-- DIRECTED (11 R284). -/
def mDirected : Nat := 2
/-- BROADCAST (11 R284). -/
def mBroadcast : Nat := 3

/-- The local tally of an owning core and identifier, by the low 26 bits of a request's tally field. -/
def Agent.local (a : Agent) (t : Nat) : LTally := tblGet {} a.locals t

/-- Change a local tally of a region. -/
def Node.modLocal (n : Node) (r t : Nat) (f : LTally → LTally) : Node :=
  n.modAgent r (fun a => { a with locals := tblSet a.locals t (f (a.local t)) })

/-- A waiter takes its place in ascending order of core. -/
def insertWaiter (l : List (Nat × Nat × Nat × Nat)) (w : Nat × Nat × Nat × Nat) : List (Nat × Nat × Nat × Nat) :=
  match l with
  | [] => [w]
  | x :: r => if x.1 < w.1 then x :: insertWaiter r w else if x.1 == w.1 then w :: r else w :: x :: r

/-- The first `k` waiters of a COUNT tally and the rest (11 R284, R287). -/
def LTally.matchCount (t : LTally) : LTally × List (Nat × Nat × Nat × Nat) :=
  let pool := t.value + t.given.length
  let all := t.given.foldl insertWaiter t.waiters
  let k := min pool all.length
  ({ t with value := pool - k, waiters := all.drop k, given := all.take k }, all.take k)

/-- The waiters that a BARRIER, DIRECTED or BROADCAST tally releases as it stands, and the tally after it (11 R284). -/
def LTally.ready (t : LTally) : LTally × List (Nat × Nat × Nat × Nat) :=
  let ok := fun (w : Nat × Nat × Nat × Nat) =>
    if t.mode == mBarrier then decide (w.2.1 ≤ t.used)
    else if t.mode == mDirected then decide (0 < assoc 0 t.credits w.1)
    else decide (w.2.1 ≤ t.value)
  let go := t.waiters.filter ok
  ({ t with
     waiters := t.waiters.filter (fun w => !ok w)
     credits := if t.mode == mDirected then
         go.foldl (fun l w => assocSet l w.1 (assoc 0 l w.1 - 1)) t.credits
       else t.credits }, go)

/-- The releases that a local tally causes are presented on cycle c + 4; the units of one cycle are shared out in ascending core
number whatever the order of its requests (11 R287). -/
def Node.localRelease (n : Node) (r t cyc : Nat) : Node :=
  let x := (n.agentOf r).local t
  if x.mode == mCount then
    let (y, go) := { x with given := if x.givenCyc == cyc then x.given else [], givenCyc := cyc }.matchCount
    let kept := (n.agentOf r).rls.filter (fun e => !(x.givenCyc == cyc && e.2.1 == 0 && e.2.2 == cyc + 4 && x.given.any (fun w => w.1 == e.1)))
    let n1 := (n.modAgent r (fun a => { a with rls := kept })).modLocal r t (fun _ => y)
    overAll go (fun n w => n.modAgent r (fun a => { a with rls := a.rls ++ [(w.1, 0, cyc + 4)] })) n1
      |>.agEvents r 0x06 (go.length - (if x.givenCyc == cyc then x.given.length else 0))
  else
    let (y, go) := x.ready
    overAll go (fun n w => n.present r w.1 0 (cyc + 4)) (n.modLocal r t (fun _ => y))

/-- Object field of a local tally (11 R309). -/
def localObj (t : Nat) : Nat := put 29 0 t

/-- Object field of a span tally (11 R309). -/
def spanObj (vid slot : Nat) : Nat := put 31 30 1 + put 27 16 vid + put 15 0 slot

/-- Object field of a ledger account (11 R309). -/
def acctObj (a : Nat) : Nat := put 31 30 2 + put 11 0 a

/-- A fault of a tally with its unit and context, and the wave for the context when it is due (11 R309, R315). -/
def Node.tallyFault (n : Node) (cause c u obj detail : Nat) (wave : Bool) : Node :=
  let n1 := n.fault
    { cause := cause, span := n.span, die := some (fld u 49 30), region := unitRegion u, core := unitCore u, ctx := c, obj := obj
      detail := detail }
  if wave then n1.waveStep c cause else n1

/-- A request returns the error status to its core and is counted (11 R286, R540). -/
def Node.tallyError (n : Node) (r core tick : Nat) : Node :=
  (n.present r core 3 tick).bump Ob.tly_requestsRefusedAndStaleMessages

/-- A local arrival: the sender's next use, a barrier overrun above the participants (11 R284). -/
def Node.localArrive (n : Node) (r t core c : Nat) : Node :=
  let x := (n.agentOf r).local t
  let j := assoc 0 x.arrived core + 1
  let cnt := assoc 0 x.counts j
  let n1 := n.modLocal r t (fun x => { x with arrived := assocSet x.arrived core j })
  if x.parts ≤ cnt then
    n1.tallyFault 0x46 c (n.unitOf r core) (localObj t) (put 79 32 ((n.ctxOf c).step) + put 31 16 j) true
  else n1.modLocal r t (fun x =>
    { x with counts := assocSet x.counts j (cnt + 1), used := if cnt + 1 == x.parts then max x.used j else x.used })

/-- A local SIGNAL: units, credits for a target core or a rise of the value (11 R284); above 2^32 - 1 the tally's resources are
exhausted (11 R310). -/
def Node.localSignal (n : Node) (r t core c k target : Nat) : Node :=
  let x := (n.agentOf r).local t
  if x.mode == mDirected then
    n.modLocal r t (fun x => { x with credits := assocSet x.credits (target % 2 ^ 20) (assoc 0 x.credits (target % 2 ^ 20) + k) })
  else if 2 ^ 32 ≤ x.value + k then
    n.tallyFault 0x42 c (n.unitOf r core) (localObj t) (put 79 72 1) true
  else n.modLocal r t (fun x => { x with value := x.value + k })

/-- A local WAIT registers the core; use 0 means its own latest use, or 1 (11 R284). -/
def Node.localWait (n : Node) (r t core c arg : Nat) : Node :=
  let x := (n.agentOf r).local t
  let use := if x.mode == mBarrier && arg == 0 then max 1 (assoc 0 x.arrived core) else arg
  n.modLocal r t (fun x => { x with waiters := insertWaiter x.waiters (core, use, n.tb1, c) })

/-! ### Span requests -/

/-- Entry of a context's translation table (11 R289). -/
def Node.transEntry (n : Node) (c vid : Nat) : Nat := bits (n.rd (Ob.tctx_translationTable c)) (32 * vid) 32

/-- Physical slot of an entry. -/
def entrySlot (e : Nat) : Nat := fld e 15 0
/-- Mode of an entry. -/
def entryMode (e : Nat) : Nat := fld e 30 29
/-- The entry is slotted. -/
def entrySlotted (e : Nat) : Bool := bit e 28

/-- The span tally of a context and slot in the step in flight. -/
def Node.stally (n : Node) (c slot : Nat) : STally :=
  (n.tally.tal.find? (fun t => t.ctx == c && t.slot == slot)).getD { ctx := c, slot := slot }

/-- Change a span tally. -/
def Node.modStally (n : Node) (c slot : Nat) (f : STally → STally) : Node :=
  let x := f (n.stally c slot)
  n.modTally (fun t => { t with tal := t.tal.filter (fun y => !(y.ctx == c && y.slot == slot)) ++ [x] })

/-- A request on a span tally (11 R286, R237, R312): op 2 SIGNAL, 3 ARRIVE, 4 WAIT, its unit and operands. -/
structure SpanReq where
  /-- Operation as in R286. -/
  op : Nat
  /-- Context. -/
  ctx : Nat
  /-- Virtual identifier. -/
  vid : Nat
  /-- Unit index of the requester. -/
  unit : Nat
  /-- Count of a SIGNAL, use or target of a WAIT. -/
  arg : Nat := 0
  /-- Target unit of a DIRECTED SIGNAL. -/
  target : Nat := 0
  /-- Ledger channel of a SIGNAL. -/
  chan : Nat := 0
  /-- Tab of a SIGNAL. -/
  tab : Nat := 0
  /-- Timeout of a WAIT in ticks. -/
  limit : Nat := 0
  /-- Issue tick (R295). -/
  tick : Nat := 0
  deriving DecidableEq, Repr

/-- Why a span request is refused with cause 0x44: 0 it is not; 1 not mapped, 2 a use the mode does not allow (the sequencer waits on
barriers alone), 3 immediate under Strict (11 R291). -/
def Node.spanCase (n : Node) (q : SpanReq) : Nat :=
  let e := n.transEntry q.ctx q.vid
  if !bit e 31 then 1
  else if (q.op == 3) != (entryMode e == mBarrier) && q.op != 4 then 2
  else if isSeqUnit q.unit && ((q.op == 2 && entryMode e == mDirected) || (q.op == 4 && entryMode e != mBarrier)) then 2
  else if !entrySlotted e && n.strict then 3 else 0

/-- A span request is refused: the error status for a core, status 5 for a host channel (11 R291, R540). -/
def Node.spanReject (n : Node) (u : Nat) : Node :=
  if isHostUnit u then n.wr (Ob.hch_hostStatus (unitCore u - hostCore)) 5
  else if isSeqUnit u then n
  else n.present (unitRegion u) (unitCore u) 3 n.tb1

/-- Head cell of a TALLY message (11 R292). -/
def tallyHead (span epoch kind ctx slot step : Nat) : Nat :=
  put 127 112 span + put 111 80 epoch + put 79 76 kind + put 75 70 ctx + put 69 54 slot + put 53 6 step

/-- A TSU sends a TALLY message with its issue tick on every lane that is MEMBER (11 R293, R295). -/
def Node.sendTally (n : Node) (kind c slot tick unit : Nat) (rest : List Nat) : Node :=
  let m : Msg :=
    { typ := tTally
      cells := tallyHead n.span n.epoch kind c slot (n.ctxOf c).step :: (put 127 64 tick + put 63 14 unit) :: rest }
  n.sendAll ([0, 1].filter (fun p => n.lst p == 6)) m

/-- The next sequence number of a sender on a slot, taken (11 R292). -/
def Node.nextSeq (n : Node) (c slot unit : Nat) : Nat × Node :=
  let q := assoc 0 (n.stally c slot).seqs unit
  (q, n.modStally c slot (fun t => { t with seqs := assocSet t.seqs unit ((q + 1) % 65536) }))

/-- A span SIGNAL leaves; it names a target on a DIRECTED tally alone (11 R292). -/
def Node.spanSignal (n : Node) (q : SpanReq) (slot : Nat) : Node :=
  let (s, n1) := n.nextSeq q.ctx slot q.unit
  let target := if entryMode (n.transEntry q.ctx q.vid) == mDirected then q.target else 0
  n1.sendTally 1 q.ctx slot q.tick q.unit
    [put 127 112 q.arg + put 111 96 s + put 95 88 q.chan, put 127 64 q.tab + put 63 14 target]

/-- A span ARRIVE leaves with the sender's next use (11 R284, R292). -/
def Node.spanArrive (n : Node) (q : SpanReq) (slot : Nat) : Node :=
  let j := assoc 0 (n.stally q.ctx slot).arrivals q.unit + 1
  (n.modStally q.ctx slot (fun t => { t with arrivals := assocSet t.arrivals q.unit j })).sendTally 2 q.ctx slot q.tick q.unit
    [put 127 96 1 + put 95 80 j]

/-! ### The Arrival Ledger -/

/-- Entry of the account table (11 R300). -/
def Node.acctEntry (n : Node) (a : Nat) : Nat := bits (n.rd Ob.acct_accountTable) (32 * a) 32

/-- The account of a source die and channel (11 R300, R303). -/
def Node.acctOf (n : Node) (die chan : Nat) : Option Nat :=
  (upTo 4096).find? (fun a => let e := n.acctEntry a; bit e 31 && fld e 27 8 == die && fld e 7 0 == chan)

/-- State of an account. -/
def Node.acct (n : Node) (a : Nat) : Account := tblGet {} n.tally.accts a

/-- Value of an account, counting only reports stamped at or before a tick (11 R304). -/
def Node.acctAt (n : Node) (a cut : Nat) : Nat :=
  let x := n.acct a
  (x.value + 2 ^ 64 - ((x.reports.filter (fun e => cut < e.1)).map (·.2)).sum % 2 ^ 64) % 2 ^ 64

/-- Tab less value, modulo 2^64 (11 R309). -/
def Node.shortBy (n : Node) (a tab cut : Nat) : Nat := (tab + 2 ^ 64 - n.acctAt a cut) % 2 ^ 64

/-- A ledger condition holds at a cut: no Tab, or the account reaches it (11 R303). -/
def Node.condHolds (n : Node) (die chan tab cut : Nat) : Bool :=
  if tab == 0 then true
  else match n.acctOf die chan with
  | none => false
  | some a => decide ((n.acctAt a cut + 2 ^ 64 - tab) % 2 ^ 64 < 2 ^ 63)

/-- The releases that the conditions of a BROADCAST waiter of a target come from: every one up to the one that raised the value to it
(11 R303). -/
def STally.condsFor (t : STally) (target : Nat) : List TRel :=
  t.rels.takeWhile (fun e => e.value < target) ++ (t.rels.dropWhile (fun e => e.value < target)).take 1

/-- The release that raises a BROADCAST value to a target (11 R303). -/
def STally.raiser (t : STally) (target : Nat) : Option TRel := t.rels.find? (fun e => target ≤ e.value)

/-- The condition of a release holds at a cut (11 R303). -/
def Node.relHolds (n : Node) (cut : Nat) (e : TRel) : Bool := n.condHolds e.die e.chan e.tab cut

/-- Every condition of a BROADCAST waiter holds at a cut. -/
def Node.condsHold (n : Node) (t : STally) (target cut : Nat) : Bool := (t.condsFor target).all (n.relHolds cut)

/-- The first condition of a BROADCAST waiter that does not hold at a cut. -/
def Node.shortCond (n : Node) (t : STally) (target cut : Nat) : Option TRel := (t.condsFor target).find? (fun e => !n.relHolds cut e)

/-! ### Releases taking effect -/

/-- The release of a number that a tally has taken. -/
def STally.rel (t : STally) (num : Nat) : TRel := (t.rels.find? (fun e => e.num == num)).getD {}

/-- A release takes its place in ascending order of its number. -/
def insertRel (e : TRel) : List TRel → List TRel
  | [] => [e]
  | x :: r => if x.num < e.num then x :: insertRel e r else e :: x :: r

/-- Change a release taken. -/
def Node.modRel (n : Node) (c slot num : Nat) (f : TRel → TRel) : Node :=
  n.modStally c slot (fun t => { t with rels := t.rels.map (fun e => if e.num == num then f e else e) })

/-- A wait ends released: a core receives it, a host channel its stamp and its interrupt (11 R299, R312). -/
def Node.release (n : Node) (w : SWait) (num : Nat) : Node :=
  let n1 := n.modTally (fun t => { t with waits := t.waits.filter (fun x => x != w) })
  if isHostUnit w.unit then
    let h := unitCore w.unit - hostCore
    ((n1.wr (Ob.hch_hostStatus h) 2).wr (Ob.hch_releaseStamp h)
      (putField 0 8 n.tb1 + putField 8 12 (n.tbValue 0) + putField 20 4 num)).irqEvent (0x118 + h)
  else n1.present (unitRegion w.unit) (unitCore w.unit) 0 n.tb1

/-- A release that delays or lets go a waiter under 11 R297, R298 or R304 is counted once as tainting (11 R316). -/
def Node.countTaint (n : Node) (c slot num : Nat) : Node :=
  if ((n.stally c slot).rel num).counted then n
  else (n.modRel c slot num (fun e => { e with counted := true })).bump (Ob.tctx_taintingReleases c)

/-- A release lets a waiter go: the step takes the taint reasons of the release (11 R298, R304). -/
def Node.taintBy (n : Node) (c slot num : Nat) : Node :=
  let e := (n.stally c slot).rel num
  let n1 := overAll [3, 5] (fun n k => if bit e.reasons k then n.taint c k else n) n
  if e.reasons == 0 then n1 else n1.countTaint c slot num

/-- Release a wait by a release of its tally. -/
def Node.releaseBy (n : Node) (w : SWait) (slot num : Nat) : Node := (n.taintBy w.ctx slot num).release w num

/-- A wait that its tally has released but the ledger holds back: a host channel shows it (11 R312). -/
def Node.holdBack (n : Node) (w : SWait) : Node :=
  let n1 := n.modTally (fun t => { t with waits := t.waits.map (fun x => if x == w then { x with ledgerShort := true } else x) })
  if isHostUnit w.unit then n1.wr (Ob.hch_hostStatus (unitCore w.unit - hostCore)) 6 else n1

/-- The open waits of a context on a slot, in ascending unit index (11 R314). -/
def Node.waitsOn (n : Node) (c slot : Nat) : List SWait :=
  sortBy (fun a b => decide (a.unit ≤ b.unit)) (n.tally.waits.filter (fun w => w.ctx == c && entrySlot (n.transEntry c w.vid) == slot))

/-- The lowest virtual identifier that a context maps to a slot. -/
def Node.slotVid (n : Node) (c slot : Nat) : Option Nat :=
  (upTo 4096).find? (fun v => let e := n.transEntry c v; bit e 31 && entrySlot e == slot)

/-- The mode of a slot in a context's translation table. -/
def Node.slotMode (n : Node) (c slot : Nat) : Nat :=
  match n.slotVid c slot with
  | some v => entryMode (n.transEntry c v)
  | none => mBarrier

/-- The ledger is short for a waiter under Strict: cause 0x43 names the condition (11 R304, R309). -/
def Node.ledgerShort (n : Node) (c u die chan tab cut : Nat) : Node :=
  match n.acctOf die chan with
  | none => n
  | some a => n.tallyFault 0x43 c u (acctObj a) (put 79 72 chan + put 63 0 (n.shortBy a tab cut)) true

/-- A BROADCAST waiter whose value is reached: released where its conditions held at the decision; without Strict otherwise as soon as they
hold, with taint reason 5; under Strict a condition that did not hold is cause 0x43; an immediate release is checked against every report
(11 R303 to R305). -/
def Node.letGo (n : Node) (w : SWait) (slot : Nat) : Node :=
  let t := n.stally w.ctx slot
  match t.raiser w.arg with
  | none => n
  | some e =>
    let now := n.condsHold t w.arg n.tb1
    if e.tick == 0 then (if now then n.releaseBy w slot e.num else n.holdBack w)
    else if e.okd then n.releaseBy w slot e.num
    else if n.strict then
      let n1 := if e.told || w.ledgerShort then n
        else match n.shortCond t w.arg (e.tick - 2048) with
        | some x => n.ledgerShort w.ctx w.unit x.die x.chan x.tab (e.tick - 2048)
        | none => n
      n1.holdBack w
    else if now then
      (if e.late then n else n.modRel w.ctx slot e.num (fun e => { e with reasons := e.reasons ||| 32 })).releaseBy w slot e.num
    else n.holdBack w

/-- A release takes effect at a TSU by the tally's mode (11 R284, R299, R308). The ledger has been met, but for a BROADCAST, whose
waiters are tested one by one; `ledgerLate` says that the ledger was met after the release tick. -/
def Node.applyRel (n : Node) (x : Rel) (ledgerLate : Bool) : Node :=
  let mode := n.slotMode x.ctx x.slot
  let at_ := if x.tick == 0 then n.tb1 else x.tick
  let n0 := n.modStally x.ctx x.slot (fun t => { t with relTick := at_, relDie := if x.tab == 0 then none else some x.die })
  let n1 := n0.modRel x.ctx x.slot x.num (fun e => { e with reasons := (if x.tick == 0 then 8 else 0) + (if ledgerLate then 32 else 0) })
  if mode == mBarrier then
    let n2 := (n1.modStally x.ctx x.slot (fun t => { t with value := max t.value x.num })).modCtx x.ctx (fun k =>
      { k with released := k.released ++ [(x.slot, at_, x.num)] })
    overAll ((n2.waitsOn x.ctx x.slot).filter (fun w => w.arg ≤ x.num)) (fun n w => n.releaseBy w x.slot x.num) n2
  else if mode == mBroadcast then
    let n2 := n1.modStally x.ctx x.slot (fun t => { t with value := max t.value x.value })
    overAll ((n2.waitsOn x.ctx x.slot).filter (fun w => w.arg ≤ (n2.stally x.ctx x.slot).value)) (fun n w => n.letGo w x.slot) n2
  else match (n1.waitsOn x.ctx x.slot).find? (fun w => w.unit == x.unit) with
  | some w => n1.releaseBy w x.slot x.num
  | none =>
    if mode == mDirected then n1.modStally x.ctx x.slot (fun t => { t with credits := t.credits ++ [(x.unit, x.num)] })
    else n1.bump Ob.tly_unitsDiscarded

/-- The unit that a release's record names: its waiter, or for every waiter the lowest that waits here, else the sequencer
(11 R309). -/
def Node.relUnit (n : Node) (x : Rel) : Nat :=
  if x.unit != 2 ^ 50 - 1 then x.unit
  else match n.waitsOn x.ctx x.slot with
  | w :: _ => w.unit
  | [] => n.unitOf 1023 seqCore

/-- A release with a Tab whose source die and channel no account names (11 R303). -/
def Node.unmapped (n : Node) (x : Rel) : Bool := x.tab != 0 && (n.acctOf x.die x.chan).isNone

/-- A release without an account: cause 0x44, and the wave unless the waiter is a host (11 R303). -/
def Node.noAccount (n : Node) (x : Rel) : Node :=
  n.tallyFault 0x44 x.ctx (n.relUnit x) (acctObj 0) (put 79 72 4 + put 71 52 x.die + put 51 44 x.chan) (!isHostUnit (n.relUnit x))

/-- Unmet ledger conditions of a tally: those of releases that wait, and for a BROADCAST those of every release of the step (11 R303). -/
def Node.unmetOf (n : Node) (t : STally) : Nat :=
  (t.rels.filter (fun e => e.tab != 0 && !n.relHolds n.tb1 e &&
    (n.tally.rels.any (fun x => x.ctx == t.ctx && x.slot == t.slot && x.num == e.num) || n.slotMode t.ctx t.slot == mBroadcast))).length

/-- Unmet ledger conditions of a TSU (11 R303). -/
def Node.unmet (n : Node) : Nat := (n.tally.tal.map n.unmetOf).sum

/-- Keep a release for its tick or for the ledger (11 R303). -/
def Node.keepRel (n : Node) (x : Rel) : Node := n.modTally (fun t => { t with rels := t.rels ++ [x] })

/-- The ledger decision of a slotted release, from the reports stamped 2,048 ticks before it (11 R304, R309): for a BROADCAST the conditions
of every release up to it, and under Strict a waiter it would release short is the fault. -/
def Node.decideRel (n : Node) (x : Rel) : Node × Rel :=
  let cut := x.tick - 2048
  if n.unmapped x then (n.noAccount x, { x with decided := true, okd := false })
  else if n.slotMode x.ctx x.slot == mBroadcast then
    let t := n.stally x.ctx x.slot
    let y := { x with decided := true, okd := true }
    if n.condsHold t x.value cut then (n.modRel x.ctx x.slot x.num (fun e => { e with okd := true }), y)
    else match (n.waitsOn x.ctx x.slot).find? (fun w => (t.raiser w.arg).map (·.num) == some x.num && !n.condsHold t w.arg cut), n.strict with
    | some w, true =>
      (match n.shortCond t w.arg cut with
        | some e => (n.modRel x.ctx x.slot x.num (fun e => { e with told := true })).ledgerShort x.ctx w.unit e.die e.chan e.tab cut
        | none => n, y)
    | _, _ => (n, y)
  else if n.condHolds x.die x.chan x.tab cut then
    (n.modRel x.ctx x.slot x.num (fun e => { e with okd := true }), { x with decided := true, okd := true })
  else (if n.strict then n.ledgerShort x.ctx x.unit x.die x.chan x.tab cut else n, { x with decided := true, okd := false })

/-! ### Waits -/

/-- Take the oldest credit of a unit. -/
def takeCredit (u : Nat) : List (Nat × Nat) → List (Nat × Nat)
  | [] => []
  | e :: r => if e.1 == u then r else e :: takeCredit u r

/-- A span WAIT that has opened is satisfied by what has been released already (11 R284, R303): a use released, a credit held, a value
reached. -/
def Node.waitNow (n : Node) (w : SWait) (slot mode : Nat) : Node :=
  let t := n.stally w.ctx slot
  if mode == mBarrier then (if w.arg ≤ t.value then n.releaseBy w slot w.arg else n)
  else if mode == mDirected then
    match t.credits.find? (fun e => e.1 == w.unit) with
    | some e => (n.modStally w.ctx slot (fun t => { t with credits := takeCredit w.unit t.credits })).releaseBy w slot e.2
    | none => n
  else if w.arg ≤ t.value then n.letGo w slot else n

/-- A span WAIT opens, or is satisfied at once; a COUNT wait is registered with the head (11 R284, R292, R310). -/
def Node.spanWait (n : Node) (q : SpanReq) (slot mode : Nat) : Node :=
  let t := n.stally q.ctx slot
  let arg := if mode == mBarrier && q.arg == 0 then max 1 (assoc 0 t.arrivals q.unit) else q.arg
  let w : SWait := { ctx := q.ctx, vid := q.vid, unit := q.unit, arg := arg, tick := q.tick, limit := q.limit }
  if n.tally.waits.any (fun x => x.ctx == q.ctx && x.vid == q.vid && x.unit == q.unit) then
    if isHostUnit q.unit then n.spanReject q.unit else n.tallyError (unitRegion q.unit) (unitCore q.unit) n.tb1
  else if 4096 ≤ n.tally.waits.length then
    (n.tallyFault 0x42 q.ctx q.unit (spanObj q.vid slot) (put 79 72 3) true).spanReject q.unit
  else
    let n0 := if isHostUnit q.unit then n.wr (Ob.hch_hostStatus (unitCore q.unit - hostCore)) 1 else n
    if mode == mCount then
      let (s, n1) := n0.nextSeq q.ctx slot q.unit
      (n1.modTally (fun t => { t with waits := t.waits ++ [{ w with seq := s }] })).sendTally 3 q.ctx slot q.tick q.unit [put 111 96 s]
    else (n0.modTally (fun t => { t with waits := t.waits ++ [w] })).waitNow w slot mode

/-- A request on a span tally: it belongs to the step of its context that is FIRED, and its entry must allow it (11 R291,
R540). -/
def Node.spanRequest (n : Node) (q : SpanReq) : Node :=
  if !n.fired q.ctx then (n.spanReject q.unit).bump Ob.tly_requestsRefusedAndStaleMessages
  else
    let e := n.transEntry q.ctx q.vid
    let why := n.spanCase q
    if why != 0 then
      (n.tallyFault 0x44 q.ctx q.unit (spanObj q.vid (entrySlot e)) (put 79 72 why) (!isHostUnit q.unit)).spanReject q.unit
    else if q.op == 2 then n.spanSignal q (entrySlot e)
    else if q.op == 3 then n.spanArrive q (entrySlot e)
    else n.spanWait q (entrySlot e) (entryMode e)

/-! ### The tally bus -/

/-- The wait timeout of a context in ticks (11 R307). -/
def Node.waitLimit (n : Node) (c : Nat) : Nat := ticksOfUs (n.rd (Ob.tctx_waitTimeout c))

/-- A request word of the tally bus (18 R518): the span form of it, issued on the tick of its acceptance (11 R295). -/
def Node.busReq (n : Node) (r core req op : Nat) : SpanReq :=
  { op := op, ctx := fld req 185 180, vid := fld req 165 154, unit := n.unitOf r core, arg := fld req 137 122
    target := fld req 121 72, chan := fld req 71 64, tab := fld req 63 0, limit := n.waitLimit (fld req 185 180), tick := n.tb1 }

/-- An INIT sets the mode and participants of a local tally without waiters (11 R286). -/
def Node.localInit (n : Node) (r t mode parts : Nat) : Node := n.modLocal r t (fun _ => { mode := mode, parts := parts })

/-- The effect of an accepted local request, at the end of its cycle (11 R286, R287). -/
def Node.localOp (n : Node) (r core req op cyc : Nat) : Node :=
  let t := fld req 179 154
  let c := fld req 185 180
  let x := (n.agentOf r).local t
  if 48 ≤ t % 64 then n.tallyError r core (cyc + 4)
  else if op == 1 then
    (if x.waiters.isEmpty then n.localInit r t (fld req 153 152) (fld req 151 122) else n.tallyError r core (cyc + 4))
  else
    let n1 := n.modLocal r t (fun x =>
      if op == 4 then x else { x with sigCore := core, sigTick := n.tb1, sigCyc := cyc })
    (if op == 2 then n1.localSignal r t core c (fld req 137 122) (fld req 121 72)
     else if op == 3 then n1.localArrive r t core c
     else n1.localWait r t core c (fld req 137 122)).localRelease r t cyc

/-- Operation of a request word (11 R286). -/
def busOp (req : Nat) : Nat := fld req 189 187

/-- A request is accepted in a local cycle (11 R286, R287): a reserved op, a foreign owning core or an INIT of a span tally returns the error
status. -/
def Node.busTake (n : Node) (r core req cyc : Nat) (inside : Bool) : Node :=
  let op := busOp req
  let n1 := (n.modAgent r (fun a => { a with cycReq := a.cycReq + 1 })).agEvents r 0x05 1
  if op == 0 || 5 ≤ op then n1.tallyError r core (cyc + 4)
  else if bit req 186 then (if op == 1 then n1.tallyError r core (cyc + 4) else n1.spanRequest (n1.busReq r core req op))
  else if inside then n1.localOp r core req op cyc
  else n1.tallyError r core (cyc + 4)

/-- The requests held from the cycle before that an Agent accepts in its cycle: in ascending order of core, those below a core, while fewer
than four have been accepted (11 R287). -/
def Node.busHeldOf (n : Node) (r below : Nat) : Node :=
  let a := n.agentOf r
  let go := (a.busHeld.filter (fun h => h.1 < below)).take (4 - a.cycReq)
  overAll go (fun n h => n.busTake r h.1 h.2.1 a.reqCyc h.2.2)
    (n.modAgent r (fun a => { a with busHeld := a.busHeld.filter (fun h => !go.contains h) }))

/-- The Agent's cycle ends: what was held and still has room is accepted in it, and the next cycle begins (11 R287). -/
def Node.busNext (n : Node) (r cyc : Nat) : Node :=
  (n.busHeldOf r (2 ^ 20)).modAgent r (fun a => { a with reqCyc := cyc, cycReq := 0 })

/-- The cycles of an Agent up to one pass, four held requests in each (11 R287). -/
def Node.busCycles (n : Node) (r cyc : Nat) : Nat → Node
  | 0 => n.busNext r cyc
  | k + 1 =>
    let n1 := n.busNext r ((n.agentOf r).reqCyc + 1)
    if (n1.agentOf r).busHeld.isEmpty || cyc ≤ (n1.agentOf r).reqCyc then (if (n1.agentOf r).reqCyc == cyc then n1 else n1.busNext r cyc)
    else n1.busCycles r cyc k

/-- A request takes its place among those held. -/
def insertReq (h : Nat × Nat × Bool) : List (Nat × Nat × Bool) → List (Nat × Nat × Bool)
  | [] => [h]
  | x :: r => if x.1 ≤ h.1 then x :: insertReq h r else h :: x :: r

/-- A request is offered on the tally bus in a local cycle: accepted, after those held with lower cores, or held for the next cycle when four
have been accepted (11 R287; log entry 243). The region's inputs are ignored while its power-good is low (14 R401). -/
def tallyBus (r core req cyc : Nat) (inside : Bool) (op : Nat) (n : Node) : Node :=
  let reserved := busOp req == 0 || 5 ≤ busOp req
  when (n.inputLive r && (reserved || busOp req == op)) (fun n =>
    let n1 := if (n.agentOf r).reqCyc == cyc then n else n.busCycles r cyc (n.agentOf r).busHeld.length
    let n2 := n1.busHeldOf r core
    if (n2.agentOf r).cycReq < 4 then n2.busTake r core req cyc inside
    else n2.modAgent r (fun a => { a with busHeld := insertReq (core, req, inside) a.busHeld })) n

/-- On a tick an Agent that holds requests passes to its next local cycle (11 R287; log entry 243). -/
def Node.busTick (n : Node) : Node :=
  overAll (n.agents.filter (fun e => !e.2.busHeld.isEmpty)) (fun n e =>
    (n.busNext e.1 (e.2.reqCyc + 1)).busHeldOf e.1 (2 ^ 20)) n

/-- `TALLY_INIT` (11 R286). -/
def execTallyInit (r core req cyc : Nat) (inside : Bool) (s : State) : Host.Outcome State Fault Refusal :=
  onNode s .tsu (s.tsu.hasRegion r) (tallyBus r core req cyc inside 1)

/-- `TALLY_SIGNAL` (11 R284). -/
def execTallySignal (r core req cyc : Nat) (inside : Bool) (s : State) : Host.Outcome State Fault Refusal :=
  onNode s .tsu (s.tsu.hasRegion r) (tallyBus r core req cyc inside 2)

/-- `TALLY_ARRIVE` (11 R284). -/
def execTallyArrive (r core req cyc : Nat) (inside : Bool) (s : State) : Host.Outcome State Fault Refusal :=
  onNode s .tsu (s.tsu.hasRegion r) (tallyBus r core req cyc inside 3)

/-- `TALLY_WAIT` (11 R284). -/
def execTallyWait (r core req cyc : Nat) (inside : Bool) (s : State) : Host.Outcome State Fault Refusal :=
  onNode s .tsu (s.tsu.hasRegion r) (tallyBus r core req cyc inside 4)

/-! ### Releases received -/

/-- A RELEASE as a TSU reads it (11 R292). -/
def relOf (m : Msg) : Rel :=
  { ctx := fld m.head 75 70, slot := fld m.head 69 54, unit := fld (m.cell 1) 63 14, tick := fld (m.cell 1) 127 64
    num := fld (m.cell 2) 127 96, value := fld (m.cell 2) 95 64, chan := fld (m.cell 2) 63 56, die := fld (m.cell 2) 55 36
    tab := fld (m.cell 3) 127 64 }

/-- A message is a TALLY message of a kind (11 R292). -/
def isTallyKind (k : Nat) (m : Msg) : Bool := m.typ == tTally && fld m.head 79 76 == k

/-- A slotted RELEASE decoded after R - 1,024 (11 R305, R309): decided at once; under Strict cause 0x45 and the wave, otherwise released at R
or as soon as the ledger allows, with taint reason 4. A RELEASE names its release index for a BARRIER alone, by its use; for the other modes the
record's index is a free value (log entry 244). -/
def Node.lateRel (n : Node) (x : Rel) (step : Nat) : Node :=
  if n.strict then
    let (f, n1) := n.takeFree
    let k := if n.slotMode x.ctx x.slot == mBarrier then x.num else f
    let vid := match n.waitsOn x.ctx x.slot with
      | w :: _ => w.vid
      | [] => (n.slotVid x.ctx x.slot).getD 0
    n1.tallyFault 0x45 x.ctx (n.relUnit x) (spanObj vid x.slot) (put 79 32 step + put 31 16 k) true
  else
    let n0 := n.modRel x.ctx x.slot x.num (fun e => { e with late := true })
    let (n1, y) := n0.decideRel { x with late := true }
    let n2 := n1.taint x.ctx 4
    if n.unmapped x then n2
    else if x.tick ≤ n.tb1 && (y.okd || n.condHolds x.die x.chan x.tab n.tb1) then n2.applyRel y false else n2.keepRel y

/-- An immediate RELEASE is applied on decode, or held for the ledger (11 R298, R304). -/
def Node.immediateRel (n : Node) (x : Rel) : Node :=
  if n.unmapped x then n.noAccount x
  else if n.slotMode x.ctx x.slot == mBroadcast || n.condHolds x.die x.chan x.tab n.tb1 then n.applyRel x false
  else
    let n1 := match (n.waitsOn x.ctx x.slot).find? (fun w => w.unit == x.unit) with
      | some w => n.holdBack w
      | none => n
    n1.keepRel { x with decided := true }

/-- A unit assigned to a waiter whose wait has ended: COUNT has no other use for it (11 R308). -/
def Node.noWaiter (n : Node) (x : Rel) : Bool :=
  n.slotMode x.ctx x.slot == mCount && !(n.waitsOn x.ctx x.slot).any (fun w => w.unit == x.unit)

/-- The release brings a ledger condition that is not met, and 4,096 are held (11 R303). -/
def Node.condsFull (n : Node) (x : Rel) : Bool := x.tab != 0 && !n.condHolds x.die x.chan x.tab n.tb1 && decide (4096 ≤ n.unmet)

/-- A RELEASE of the step in flight that a TSU has taken: discarded when its unit's wait is over, or scheduled for its tick, applied, or late
(11 R299, R303 to R305, R308). -/
def Node.takeRel (n : Node) (x : Rel) (step : Nat) : Node :=
  if n.noWaiter x then n.bump Ob.tly_unitsDiscarded
  else if n.condsFull x then
    n.tallyFault 0x42 x.ctx (n.relUnit x) (acctObj ((n.acctOf x.die x.chan).getD 0)) (put 79 72 4) true
  else if x.tick == 0 then n.immediateRel x
  else if x.tick < n.tb1 + 1024 then n.lateRel x step
  else n.keepRel x

/-- A TSU takes the first copy of a RELEASE of the step in flight (11 R293, R294); `moved` says that the head moved it to a later release tick,
which it does without Strict alone and which sets the taint of the step (11 R297; log entry 29). -/
def releaseReceived (p : Nat) (moved : Bool) (n : Node) : Node :=
  n.onMsg p (isTallyKind 5) (fun m n =>
    let x := relOf m
    let step := fld m.head 53 6
    if !n.fired x.ctx || step != (n.ctxOf x.ctx).step then n.bump Ob.tly_requestsRefusedAndStaleMessages
    else if (n.stally x.ctx x.slot).rels.any (fun e => e.num == x.num) then n
    else
      let e : TRel := { num := x.num, value := x.value, tick := x.tick, chan := x.chan, die := x.die, tab := x.tab }
      let n1 := (n.modStally x.ctx x.slot (fun t => { t with rels := insertRel e t.rels })).bump (Ob.tctx_releases x.ctx)
      let n2 := if moved && !n.strict then (n1.taint x.ctx 4).countTaint x.ctx x.slot x.num else n1
      n2.takeRel x step)

/-- At R - 1,024 the TSU decides the ledger condition of the releases of a slot; one without an account releases nothing (11 R303,
R304). -/
def ledgerDecision (c slot : Nat) (n : Node) : Node :=
  let due := n.tally.rels.filter (fun x => x.ctx == c && x.slot == slot && !x.decided && x.tick ≤ n.tb1 + 1024)
  overAll due (fun n x =>
    let (n1, y) := n.decideRel x
    n1.modTally (fun t =>
      { t with rels := if n.unmapped x then t.rels.filter (fun z => z != x) else t.rels.map (fun z => if z == x then y else z) })) n

/-- The waiter of a release that the ledger keeps is shown as held back. -/
def Node.holdRel (n : Node) (x : Rel) : Node :=
  match (n.waitsOn x.ctx x.slot).find? (fun w => w.unit == x.unit) with
  | some w => n.holdBack w
  | none => n

/-- On the release tick a release whose condition holds takes effect; one that was short at its decision takes effect, without Strict, once the
ledger has been met, with taint reason 5 unless it was late itself (11 R299, R304, R305). -/
def releaseTick (c slot : Nat) (n : Node) : Node :=
  let n0 := ledgerDecision c slot n
  let due := sortBy (fun a b => decide (a.unit < b.unit) || (a.unit == b.unit && decide (a.num ≤ b.num)))
    (n0.tally.rels.filter (fun x => x.ctx == c && x.slot == slot && x.tick != 0 && x.tick ≤ n.tb1))
  overAll due (fun n x =>
    if x.okd || (!n.strict && n.condHolds x.die x.chan x.tab n.tb1) then
      (n.modTally (fun t => { t with rels := t.rels.filter (fun y => y != x) })).applyRel x (!x.okd && !x.late)
    else n.holdRel x) n0

/-- The releases due of every tally, in ascending context and slot (11 R314). -/
def Node.releasesDue (n : Node) : Node :=
  let l := sortBy (fun a b => decide (a ≤ b)) ((n.tally.rels.filter (fun x => x.tick != 0 && x.tick ≤ n.tb1)).map (fun x => 65536 * x.ctx + x.slot))
  overAll l.eraseDups (fun n k => releaseTick (k / 65536) (k % 65536) n) n

/-- The ledger decisions due of every tally, in the same order (11 R314). -/
def Node.decisionsDue (n : Node) : Node :=
  let l := sortBy (fun a b => decide (a ≤ b))
    ((n.tally.rels.filter (fun x => x.tick != 0 && !x.decided && x.tick ≤ n.tb1 + 1024)).map (fun x => 65536 * x.ctx + x.slot))
  overAll l.eraseDups (fun n k => ledgerDecision (k / 65536) (k % 65536) n) n

/-! ### Ledger reports and tables -/

/-- What a report lets go: releases past their tick whose condition now holds, and BROADCAST waiters; a slotted release is then late by the
ledger, which Strict does not allow (11 R303, R304). -/
def Node.ledgerSweep (n : Node) : Node :=
  let go := n.tally.rels.filter (fun x => x.decided && !x.okd && x.tick ≤ n.tb1 && (x.tick == 0 || !n.strict) &&
    n.condHolds x.die x.chan x.tab n.tb1)
  let n1 := overAll go (fun n x =>
    (n.modTally (fun t => { t with rels := t.rels.filter (fun y => y != x) })).applyRel x (x.tick != 0 && !x.late)) n
  overAll (n1.tally.waits.filter (fun w => w.ledgerShort && entryMode (n1.transEntry w.ctx w.vid) == mBroadcast)) (fun n w =>
    n.letGo w (entrySlot (n.transEntry w.ctx w.vid))) n1

/-- A decision may still leave out a report of this stamp: one younger than 4,096 ticks, or one that a late release of a step in flight may look
behind (11 R304, R305). -/
def Node.keepReport (n : Node) (stamp : Nat) : Bool :=
  decide (n.tb1 ≤ stamp + 4096) || n.ctxs.any (fun e => n.fired e.1 && decide (e.2.fire ≤ stamp + 2048))

/-- A ledger report is stamped and added to its account, or dropped when its entry is not valid; an Agent accepts one on a tick
(11 R301). -/
def ledgerReport (r account bytes : Nat) (n : Node) : Node :=
  when (n.inputLive r && (n.agentOf r).repAt != some n.tb1) (fun n =>
    let n0 := (n.modAgent r (fun a => { a with repAt := some n.tb1 })).agEvents r 0x07 1
    if !bit (n.acctEntry account) 31 then n0.bump Ob.acct_reportsDropped
    else
      let x := n.acct account
      let y : Account :=
        { value := (x.value + bytes) % 2 ^ 64, reports := x.reports.filter (fun e => n.keepReport e.1) ++ [(n.tb1, bytes)] }
      ((n0.modTally (fun t => { t with accts := tblSet t.accts account y })).bump Ob.acct_reports).ledgerSweep) n

/-- Replace 32-bit entries of a table from an index. -/
def putWords (x first : Nat) (vals : List Nat) : Nat :=
  (vals.zipIdx).foldl (fun x e => x - bits x (32 * (first + e.2)) 32 * 2 ^ (32 * (first + e.2)) + e.1 % 2 ^ 32 * 2 ^ (32 * (first + e.2))) x

/-- No two valid accounts name one source die and channel (11 R300). -/
def acctsDistinct (x : Nat) : Bool :=
  let keys := ((upTo 4096).filter (fun a => bit x (32 * a + 31))).map (fun a => bits x (32 * a) 28)
  decide keys.Nodup

/-- A write of the account table: refused where two valid entries would name one channel; the accounts written become 0
(11 R300). -/
def accountWrite (first : Nat) (vals : List Nat) (n : Node) : Node :=
  n.journaled (fun n =>
    let x := putWords (n.rd Ob.acct_accountTable) first (vals.map (fun v => v - fld v 30 28 * 2 ^ 28))
    n.accept (decide (first + vals.length ≤ 4096) && acctsDistinct x) (fun n =>
      (n.wr Ob.acct_accountTable x).modTally (fun t =>
        { t with accts := t.accts.filter (fun e => !(first ≤ e.1 && e.1 < first + vals.length)) })))

/-- `ACCOUNT_TABLE_WRITE` (11 R300). -/
def execAccountTableWrite (first : Nat) (vals : List Nat) (s : State) : Host.Outcome State Fault Refusal :=
  onNode s .tsu true (accountWrite first vals)

/-- A write of a translation table, refused while the context's escrow is ARMED, CONFIRMED or FIRED (11 R289). -/
def translationWrite (c first : Nat) (vals : List Nat) (n : Node) : Node :=
  n.journaled (fun n =>
    n.accept (!n.stepHeld c && decide (first + vals.length ≤ 4096)) (fun n =>
      n.wr (Ob.tctx_translationTable c)
        (putWords (n.rd (Ob.tctx_translationTable c)) first (vals.map (fun v => v - fld v 27 16 * 2 ^ 16)))))

/-- `TRANSLATION_WRITE` (11 R289). -/
def execTranslationWrite (c first : Nat) (vals : List Nat) (s : State) : Host.Outcome State Fault Refusal :=
  onObj s .tsu (decide (c < s.tsu.ctxCount)) (translationWrite c first vals)

/-! ### Timeouts -/

/-- The lowest core that holds a credit on a tally meant for another unit than the waiter (11 R309). -/
def lowestOther (credits : List (Nat × Nat)) (u : Nat) : Option Nat :=
  (credits.filter (fun e => e.1 != u && 0 < e.2)).foldl (fun r e => match r with
    | none => some (e.1 % 2 ^ 20)
    | some k => some (min k (e.1 % 2 ^ 20))) none

/-- The detail of cause 0x40 (11 R309). -/
def timeoutDetail (other : Option Nat) (host : Bool) (value arg : Nat) : Nat :=
  put 79 72 (ofB other.isSome + 2 * ofB host) + put 71 40 value + put 39 20 (other.getD 0xFFFFF) + put 19 0 arg

/-- The release that waits for a unit on a slot. -/
def Node.pendingRel (n : Node) (w : SWait) (slot : Nat) : Option Rel :=
  n.tally.rels.find? (fun x => x.ctx == w.ctx && x.slot == slot && x.unit == w.unit)

/-- A COUNT wait is withdrawn: CANCEL leaves, and a unit assigned to it already is discarded (11 R308). -/
def Node.withdraw (n : Node) (w : SWait) (slot : Nat) : Node :=
  let (s, n1) := n.nextSeq w.ctx slot w.unit
  let n2 := n1.sendTally 4 w.ctx slot n.tb1 w.unit [put 111 96 s]
  match n.pendingRel w slot with
  | some x => (n2.modTally (fun k => { k with rels := k.rels.filter (fun y => y != x) })).bump Ob.tly_unitsDiscarded
  | none => n2

/-- A span wait times out (11 R308). A credit that comes later stays for another wait. -/
def Node.spanTimeout (n : Node) (w : SWait) : Node :=
  let e := n.transEntry w.ctx w.vid
  let slot := entrySlot e
  let t := n.stally w.ctx slot
  let host := isHostUnit w.unit
  let other := if entryMode e == mDirected then lowestOther (t.credits.map (fun c => (c.1, 1))) w.unit else none
  let n1 := if entryMode e == mCount then n.withdraw w slot else n
  let n2 := (n1.bump Ob.tly_waitTimeouts).endWait w 1 3
  if w.ledgerShort then
    let c : Option (Nat × Nat × Nat) := match n.pendingRel w slot with
      | some x => some (x.chan, x.die, x.tab)
      | none => (n.shortCond t w.arg n.tb1).map (fun e => (e.chan, e.die, e.tab))
    let (ch, die, tab) := c.getD (0, 0, 0)
    let a := (n.acctOf die ch).getD 0
    n2.tallyFault 0x41 w.ctx w.unit (acctObj a) (put 79 72 ch + put 63 0 (n.shortBy a tab n.tb1)) (!host)
  else
    let n3 := if other.isSome then n2.bump Ob.tly_misdirectedTimeouts else n2
    n3.tallyFault 0x40 w.ctx w.unit (spanObj w.vid slot) (timeoutDetail other host t.value w.arg) (!host)

/-- A local wait times out (11 R307, R308). -/
def Node.localTimeout (n : Node) (r t core : Nat) : Node :=
  let x := (n.agentOf r).local t
  match x.waiters.find? (fun w => w.1 == core) with
  | none => n
  | some w => when (w.2.2.1 + n.waitLimit w.2.2.2 ≤ n.tb1) (fun n =>
      let other := if x.mode == mDirected then lowestOther x.credits core else none
      let n1 := (n.modLocal r t (fun x => { x with waiters := x.waiters.filter (fun y => y.1 != core) })).present r core 1 n.tb1
      let n2 := n1.bump Ob.tly_waitTimeouts
      let n3 := if other.isSome then n2.bump Ob.tly_misdirectedTimeouts else n2
      n3.tallyFault 0x40 w.2.2.2 (n.unitOf r core) (localObj t)
        (timeoutDetail other false (if x.mode == mBarrier then x.used else x.value) w.2.1) true) n

/-- A wait that has reached its timeout ends (11 R307, R308): a span wait by context, virtual identifier and unit, a local one by
the tally and the unit's region and core. -/
def Node.timeoutOf (n : Node) (span : Bool) (c tally unit : Nat) : Node :=
  if span then
    match n.tally.waits.find? (fun w => w.ctx == c && w.vid == tally && w.unit == unit) with
    | none => n
    | some w => when (w.tick + w.limit ≤ n.tb1) (fun n => n.spanTimeout w) n
  else n.localTimeout (unitRegion unit) tally (unitCore unit)

/-- Every timeout that is due (11 R314). -/
def Node.timeoutsDue (n : Node) : Node :=
  let n1 := overAll n.tally.waits (fun n w => n.timeoutOf true w.ctx w.vid w.unit) n
  overAll n1.agents (fun n a => overAll a.2.locals (fun n t => overAll t.2.waiters (fun n w =>
    n.timeoutOf false 0 t.1 (n.unitOf a.1 w.1)) n) n) n1

/-! ### Host channels -/

/-- A host command's span request (11 R312), issued on the tick on which its write completes (11 R295). -/
def Node.hostReq (n : Node) (h cmd op tick : Nat) : SpanReq :=
  { op := op, ctx := fieldAt cmd 1 1, vid := fieldAt cmd 4 2, unit := n.unitOf 1023 (hostCore + h), arg := fieldAt cmd 6 2
    target := fieldAt cmd 24 8 % 2 ^ 50, chan := fieldAt cmd 8 1, tab := fieldAt cmd 12 8, limit := ticksOfUs (fieldAt cmd 20 4), tick := tick }

/-- The host channel waits: status 1 or 6 (11 R312). -/
def Node.hostWaiting (n : Node) (h : Nat) : Bool := n.rd (Ob.hch_hostStatus h) == 1 || n.rd (Ob.hch_hostStatus h) == 6

/-- The span request of a host command, in a context and identifier that exist. -/
def Node.hostOp (n : Node) (h cmd op tick : Nat) : Node :=
  (n.wr (Ob.hch_hostStatus h) 0).spanRequest (n.hostReq h cmd op tick)

/-- A host command is refused while its channel waits, and while the function is not enabled; a WAIT's timeout runs from 1 us to
10 s (11 R307, R312; 16 R461). -/
def hostCommand (h cmd op tick : Nat) (n : Node) : Node :=
  n.journaled (fun n => n.needsFn 1 (fun n =>
    let us := fieldAt cmd 20 4
    n.accept (!n.hostWaiting h && decide (fieldAt cmd 4 2 < 4096) && decide (fieldAt cmd 1 1 < n.ctxCount) &&
      (op != 4 || (1 ≤ us && us ≤ 10000000))) (fun n => n.hostOp h cmd op tick)))

/-- `HOST_TALLY_SIGNAL` (11 R312). -/
def execHostTallySignal (h cmd : Nat) (s : State) : Host.Outcome State Fault Refusal :=
  onObj s .tsu (decide (h < 8)) (hostCommand h cmd 2 s.tsu.tb1)

/-- `HOST_TALLY_ARRIVE` (11 R312). -/
def execHostTallyArrive (h cmd : Nat) (s : State) : Host.Outcome State Fault Refusal :=
  onObj s .tsu (decide (h < 8)) (hostCommand h cmd 3 s.tsu.tb1)

/-- `HOST_TALLY_WAIT` (11 R312). -/
def execHostTallyWait (h cmd : Nat) (s : State) : Host.Outcome State Fault Refusal :=
  onObj s .tsu (decide (h < 8)) (hostCommand h cmd 4 s.tsu.tb1)

/-- Cancelling a host wait ends it and leaves the channel idle; a COUNT wait is withdrawn at the head (11 R308, R312). -/
def Node.hostCancel (n : Node) (h : Nat) : Node :=
  match n.tally.waits.find? (fun w => w.unit == n.unitOf 1023 (hostCore + h)) with
  | none => n
  | some w =>
    let e := n.transEntry w.ctx w.vid
    (if entryMode e == mCount then n.withdraw w (entrySlot e) else n).endWait w 2 0

/-- `HOST_CANCEL_WAIT` (11 R312). -/
def execHostCancelWait (h : Nat) (s : State) : Host.Outcome State Fault Refusal :=
  onObj s .tsu (decide (h < 8)) (fun n => n.journaled (fun n => n.needsFn 1 (fun n => n.accept true (fun n => n.hostCancel h))))

end Sys2Proof.Machine
end

