-- ==== Sys2Proof/Machine/HubTallies.lean ====
section
/-! DEFINITION. Span tallies at a hub (11 R290, R293 to R298, R317). -/

namespace Sys2Proof.Machine

/-! ### Slots and head entries -/

/-- Owner span of a slot configuration (11 R317). -/
def cfgSpan (v : Nat) : Nat := fieldAt v 0 2
/-- Context of a slot configuration. -/
def cfgCtx (v : Nat) : Nat := fieldAt v 2 1
/-- Mode of a slot configuration. -/
def cfgMode (v : Nat) : Nat := fieldAt v 3 1
/-- The slot is slotted. -/
def cfgSlotted (v : Nat) : Bool := bit v 32
/-- The slot is active. -/
def cfgActive (v : Nat) : Bool := bit v 33
/-- Participants. -/
def cfgParts (v : Nat) : Nat := fieldAt v 8 4
/-- Release offset ro. -/
def cfgRo (v : Nat) : Nat := fieldAt v 12 4
/-- Release period rp. -/
def cfgRp (v : Nat) : Nat := fieldAt v 16 4
/-- Assignment lead. -/
def cfgLambda (v : Nat) : Nat := fieldAt v 20 4
/-- Distribution lead. -/
def cfgDelta (v : Nat) : Nat := fieldAt v 24 4

/-- A port carries an instance and its link end is MEMBER. -/
def Node.memberMatch (n : Node) (p span epoch : Nat) : Bool := n.spanMatch p span epoch && n.lst p == 6

/-- The uplink that up messages take: UL0 when it is MEMBER with matching entry, otherwise UL1 (11 R293). -/
def Node.uplink (n : Node) (span epoch : Nat) : Nat := if n.memberMatch 64 span epoch then 64 else 65

/-- Downlinks that carry an instance and are MEMBER. -/
def Node.memberDown (n : Node) (span epoch : Nat) : List Nat := (upTo 64).filter (fun p => n.memberMatch p span epoch)

/-- The downlink whose subtree holds a die (11 R293). -/
def Node.downFor (n : Node) (die : Nat) : Nat :=
  if n.level == 3 then (if n.threeLevel then fld die 17 12 else fld die 11 6) else if n.level == 2 then fld die 11 6 else fld die 5 0

/-- The head entry owned by a span and context (10 R281). -/
def Node.headFor (n : Node) (span ctx : Nat) : Option Nat :=
  (upTo 256).find? (fun k => fld (n.rd (Ob.head_owner k)) 31 16 == span && fld (n.rd (Ob.head_owner k)) 5 0 == ctx)

/-- Step and fire tick of the confirmed step in flight of a span and context (10 R277, 11 R296). -/
def Node.inFlight (n : Node) (span ctx : Nat) : Option (Nat × Nat) :=
  match n.headFor span ctx with
  | none => none
  | some k =>
    let b := n.rd (Ob.head_stepInFlight k)
    if b == 0 then none else some (fieldAt b 0 8 % 2 ^ 48, fieldAt b 8 8)

/-- The release tick of index `k`, if there is one (11 R296). -/
def releaseAt (cfg fire k : Nat) : Option Nat :=
  if cfgRp cfg == 0 then (if k == 0 then some (fire + cfgRo cfg) else none)
  else if k < 65536 then some (fire + cfgRo cfg + k * cfgRp cfg) else none

/-- The first release index, from `lo`, whose tick is at or after a tick. -/
def firstIndex (cfg fire lo tick : Nat) : Option Nat :=
  let base := fire + cfgRo cfg
  let k := max lo (if tick ≤ base then 0 else if cfgRp cfg == 0 then 65536 else (tick - base + cfgRp cfg - 1) / cfgRp cfg)
  if (releaseAt cfg fire k).isSome then some k else none

/-- The last release index whose decision R_k - delta has come (11 R296). -/
def indexNow (cfg fire now : Nat) : Option Nat :=
  let base := fire + cfgRo cfg
  if now + cfgDelta cfg < base then none
  else if cfgRp cfg == 0 then some 0 else some (min 65535 ((now + cfgDelta cfg - base) / cfgRp cfg))

/-- Strict of a span at a hub (13 R357). -/
def Node.strictSpan (n : Node) (span : Nat) : Bool := bit (n.rd Ob.strict_strictSpans) span

/-- A tally fault at a hub: its record and the wave with the hub's identity (11 R309, R315). -/
def Node.hubTallyFault (n : Node) (cause slot u obj detail : Nat) : Node :=
  let t := n.htalOf slot
  let span := cfgSpan t.cfg
  (n.fault
    { cause := cause, span := span, die := some (fld u 49 30), region := unitRegion u, core := unitCore u, ctx := cfgCtx t.cfg
      obj := obj, detail := detail }).raiseHubWave span t.epoch (cfgCtx t.cfg) cause

/-- The unit that stands for this hub in a combined message or a record without a sender (11 R292, R309). -/
def Node.hubUnit (n : Node) : Nat := put 49 30 n.ident

/-! ### Up messages -/

/-- A kind that a slot's mode does not use (11 R293). -/
def kindUnused (mode kind : Nat) : Bool :=
  if mode == mBarrier then kind != 2 else if kind == 2 then true else if 3 ≤ kind then mode != mCount else false

/-- The state of a slot for a new step (11 R294). -/
def HTally.fresh (t : HTally) (step epoch : Nat) : HTally := { cfg := t.cfg, step := step, epoch := epoch }

/-- The state of a slot as a message of a step finds it: the state held, or a new one for a higher step or another instance
(11 R294). -/
def HTally.forStep (t : HTally) (step epoch : Nat) : HTally := if t.step < step || t.epoch != epoch then t.fresh step epoch else t

/-- The message's step is below the step held (11 R294). -/
def HTally.stale (t : HTally) (step epoch : Nat) : Bool := t.epoch == epoch && step < t.step

/-- Drop a tally message and count it (11 R317). -/
def Node.dropTally (n : Node) : Node := n.bump Ob.htly_messagesDropped

/-- An ARRIVE held for combining joins those of its step and use (11 R293). -/
def holdArrive (l : List (Nat × Nat × Nat × Nat × Nat)) (step use k tick due : Nat) : List (Nat × Nat × Nat × Nat × Nat) :=
  match l with
  | [] => [(step, use, k, tick, due)]
  | e :: r =>
    if e.1 == step && e.2.1 == use then (step, use, e.2.2.1 + k, max e.2.2.2.1 tick, e.2.2.2.2) :: r
    else e :: holdArrive r step use k tick due

/-- A hub that is not the head takes an up message of a downlink: an ARRIVE is held for combining, any other kind goes up
(11 R293). -/
def Node.passUp (n : Node) (p slot : Nat) (m : Msg) : Node :=
  let span := m.span
  if fld m.head 79 76 == 2 then
    n.modHtal slot (fun t =>
      { t with hold := holdArrive t.hold (fld m.head 53 6) (fld (m.cell 2) 95 80) (fld (m.cell 2) 127 96) (fld (m.cell 1) 127 64)
                 (nextMul 8 (m.first + 49)) })
  else n.forward p (n.uplink span m.epoch) m

/-- The order of units at a head: issue tick, sender, sequence (11 R296). -/
def unitKey (tick unit seq : Nat) : Nat := (tick * 2 ^ 50 + unit) * 2 ^ 16 + seq

/-- A unit takes its place in order. -/
def insertUnit (l : List HUnit) (u : HUnit) : List HUnit :=
  match l with
  | [] => [u]
  | x :: r => if x.key ≤ u.key then x :: insertUnit r u else u :: x :: r

/-- A waiter takes its place in ascending unit. -/
def insertHWaiter (l : List HWait) (w : HWait) : List HWait :=
  match l with
  | [] => [w]
  | x :: r => if x.unit ≤ w.unit then x :: insertHWaiter r w else w :: x :: r

/-- The release index of a message at the deciding head: the first tick at or after its issue tick plus the lead; late when that
tick's cut has passed, and then, without Strict, the first tick whose cut has not (11 R296, R297). A message decoded on the cut tick belongs to
that decision (11 R314). An immediate slot has no index. -/
def Node.indexFor (n : Node) (t : HTally) (fire tick : Nat) : Option Nat × Bool :=
  if !cfgSlotted t.cfg then (some 0, false)
  else match firstIndex t.cfg fire 0 (tick + cfgLambda t.cfg) with
  | none => (none, false)
  | some k =>
    match releaseAt t.cfg fire k with
    | none => (none, false)
    | some r => if r < n.tb1 + cfgDelta t.cfg then (firstIndex t.cfg fire t.nextK (n.tb1 + cfgDelta t.cfg), true) else (some k, false)

/-- Waiters registered at this hub (11 R310). -/
def Node.waitersHeld (n : Node) : Nat := (n.htal.map (fun e => e.2.waiters.length)).sum

/-- A WAIT at the deciding head is registered (11 R292, R310). -/
def Node.headWait (n : Node) (slot k unit seq : Nat) : Node :=
  if 131072 ≤ n.waitersHeld then n.hubTallyFault 0x42 slot unit (spanObj 0 slot) (put 79 72 2)
  else n.modHtal slot (fun t => { t with waiters := insertHWaiter t.waiters { unit := unit, k := k, seq := seq }, dirty := true })

/-- A CANCEL at the deciding head: the waits that its unit has registered are gone from the decision of its index on (11 R296, R308). -/
def Node.headCancel (n : Node) (slot k unit : Nat) : Node :=
  n.modHtal slot (fun t =>
    { t with
      waiters := t.waiters.map (fun w => if w.unit == unit && w.gone.isNone then { w with gone := some k } else w)
      dirty := true })

/-- A SIGNAL at the deciding head: its units take their place in the order; a COUNT or BROADCAST value has a limit (11 R296, R310). -/
def Node.headSignal (n : Node) (slot k unit tick seq : Nat) (m : Msg) : Node :=
  let t := n.htalOf slot
  let cnt := fld (m.cell 2) 127 112
  if cfgMode t.cfg != mDirected && 2 ^ 32 ≤ t.value + (t.units.map (·.n)).sum + cnt then
    n.hubTallyFault 0x42 slot unit (spanObj 0 slot) (put 79 72 1)
  else if cnt == 0 then n
  else
    let u : HUnit :=
      { key := unitKey tick unit seq, n := cnt, target := fld (m.cell 3) 63 14, chan := fld (m.cell 2) 95 88
        die := fld unit 49 30, tab := fld (m.cell 3) 127 64, k := k }
    n.modHtal slot (fun t => { t with units := insertUnit t.units u, dirty := true, sigUnit := unit, sigTick := tick })

/-- A SIGNAL, WAIT or CANCEL at the deciding head, its first copy (11 R284, R293, R296, R297). -/
def Node.headTake (n : Node) (slot fire : Nat) (m : Msg) : Node :=
  let t := n.htalOf slot
  let kind := fld m.head 79 76
  let unit := fld (m.cell 1) 63 14
  let tick := fld (m.cell 1) 127 64
  let seq := fld (m.cell 2) 111 96
  if t.seen.contains (unit, seq) then n
  else
    let n0 := n.modHtal slot (fun t => { t with seen := (unit, seq) :: t.seen })
    let (idx, late) := n.indexFor t fire tick
    let n1 := if late then n0.bump Ob.htly_lateMessages else n0
    if late && n.strictSpan m.span then
      n1.hubTallyFault 0x45 slot unit (spanObj 0 slot) (put 79 32 t.step + put 31 16 ((firstIndex t.cfg fire 0 (tick + cfgLambda t.cfg)).getD 0))
    else match idx with
    | none => n1
    | some k =>
      if kind == 4 then n1.headCancel slot k unit
      else if kind == 3 then n1.headWait slot k unit seq
      else n1.headSignal slot k unit tick seq m

/-- An ARRIVE at a head: its arrivals are counted for their use up to the participants, and those above are a barrier overrun; it is late when its
use's cut has passed (11 R284, R293, R297). -/
def Node.headArrive (n : Node) (slot fire : Nat) (m : Msg) : Node :=
  let t := n.htalOf slot
  let use := fld (m.cell 2) 95 80
  let k := fld (m.cell 2) 127 96
  let unit := fld (m.cell 1) 63 14
  let cnt := assoc 0 t.arrive use
  let took := min k (cfgParts t.cfg - cnt)
  let late := cfgSlotted t.cfg && (match releaseAt t.cfg fire (use - 1) with
    | some r => decide (r < n.tb1 + cfgDelta t.cfg)
    | none => false)
  let n1 := n.modHtal slot (fun t =>
    { t with arrive := assocSet t.arrive use (cnt + took), dirty := true, sigUnit := unit, sigTick := fld (m.cell 1) 127 64
             moved := if late && !t.moved.contains use then use :: t.moved else t.moved })
  let n2 := if took < k then n1.hubTallyFault 0x46 slot unit (spanObj 0 slot) (put 79 32 t.step + put 31 16 use) else n1
  if late then
    let n3 := n2.bump Ob.htly_lateMessages
    if n.strictSpan m.span then n3.hubTallyFault 0x45 slot unit (spanObj 0 slot) (put 79 32 t.step + put 31 16 use) else n3
  else n2

/-- An up message at a head of its span (11 R293, R294, R296). -/
def Node.headUp (n : Node) (p slot : Nat) (m : Msg) : Node :=
  let cfg := (n.htalOf slot).cfg
  let step := fld m.head 53 6
  let barrier := cfgMode cfg == mBarrier
  let twin := decide (66 ≤ p)
  let flight := n.inFlight m.span (cfgCtx cfg)
  let n0 := if !barrier && !twin && !n.lead.leading then n.sendTwin m else n
  if p == 64 || p == 65 || (twin && (barrier || !n.lead.leading)) then n.dropTally
  else if !barrier && !n.lead.leading then n0
  else if cfgSlotted cfg && flight.map (·.1) != some step then n0.bump Ob.htly_lateMessages
  else if (n.htalOf slot).stale step m.epoch then n0.dropTally
  else
    let fire := match flight with
      | some f => f.2
      | none => 0
    let n1 := n0.modHtal slot (fun t => t.forStep step m.epoch)
    if barrier then n1.headArrive slot fire m else n1.headTake slot fire m

/-- The ARRIVEs whose boundary has come leave, each in one message with its sum (11 R293). -/
def combineSend (slot : Nat) (n : Node) : Node :=
  let t := n.htalOf slot
  let span := cfgSpan t.cfg
  let due := t.hold.filter (fun e => e.2.2.2.2 ≤ n.tb1)
  let n1 := n.modHtal slot (fun t => { t with hold := t.hold.filter (fun e => n.tb1 < e.2.2.2.2) })
  overAll due (fun n e =>
    n.send (n.uplink span t.epoch)
      { typ := tTally
        cells := [tallyHead span t.epoch 2 (cfgCtx t.cfg) slot e.1, put 127 64 e.2.2.2.1 + put 63 14 n.hubUnit,
          put 127 96 e.2.2.1 + put 95 80 e.2.1] }) n1

/-- `ARRIVE_COMBINE_SEND` (11 R293). -/
def execArriveCombineSend (slot : Nat) (s : State) : Host.Outcome State Fault Refusal := onNode s .hub (decide (slot < 65536)) (combineSend slot)

/-! ### Decisions -/

/-- A RELEASE message (11 R292): a Tab of 0 leaves channel and source die 0. -/
def releaseMsg (t : HTally) (slot tick unit num value chan die tab : Nat) : Msg :=
  { typ := tTally
    cells := [tallyHead (cfgSpan t.cfg) t.epoch 5 (cfgCtx t.cfg) slot t.step, put 127 64 tick + put 63 14 unit,
      put 127 96 num + put 95 64 value + put 63 56 (if tab == 0 then 0 else chan) + put 55 36 (if tab == 0 then 0 else die),
      put 127 64 tab] }

/-- All ones: every waiter (11 R292). -/
def everyUnit : Nat := 2 ^ 50 - 1

/-- The downlinks a RELEASE goes to: every one with matching entry that is MEMBER, or the one of the waiter's die (11 R293). -/
def Node.releasePorts (n : Node) (m : Msg) : List Nat :=
  let unit := fld (m.cell 1) 63 14
  if unit == everyUnit then n.memberDown m.span m.epoch
  else [n.downFor (fld unit 49 30)].filter (fun p => n.memberMatch p m.span m.epoch)

/-- A head sends a RELEASE: a BARRIER's on its own plane at once; the leader's others to its twin at once and down at the leave tick,
the first frame boundary at least 40 ticks on (11 R293, 10 R269). -/
def Node.sendRelease (n : Node) (barrier : Bool) (m : Msg) : Node :=
  if barrier then n.sendAll (n.releasePorts m) m
  else overAll (n.releasePorts m) (fun n p => n.sendAt p (nextMul 8 (n.tb1 + 40)) m) (n.sendTwin m)

/-- Units, one at a time, to waiters in ascending order (11 R284). -/
def assignUnits : List HUnit → List HWait → List (HUnit × Nat) × List HUnit × List HWait
  | us, [] => ([], us, [])
  | [], ws => ([], [], ws)
  | u :: us, w :: ws =>
    let r := assignUnits (if u.n ≤ 1 then us else { u with n := u.n - 1 } :: us) ws
    ((u, w.unit) :: r.1, r.2.1, r.2.2)

/-- One release of a non-BARRIER slot: its number is the count of the slot's releases in the step (11 R292). -/
def Node.oneRelease (n : Node) (slot tick unit value : Nat) (u : HUnit) : Node :=
  let t := n.htalOf slot
  (n.modHtal slot (fun t => { t with rels := t.rels + 1, relTick := if tick == 0 then n.tb1 else tick })).sendRelease false
    (releaseMsg t slot tick unit t.rels value u.chan u.die u.tab)

/-- COUNT: units and waiters that belong to indices up to `k`, less those cancelled by then, are matched (11 R296). -/
def Node.decideCount (n : Node) (slot k tick : Nat) : Node :=
  let t := n.htalOf slot
  let open_ := t.waiters.filter (fun w => match w.gone with
    | some g => decide (k < g)
    | none => true)
  let (pairs, left, ws) := assignUnits (t.units.filter (fun u => u.k ≤ k)) (open_.filter (fun w => w.k ≤ k))
  let units := (t.units.filter (fun u => k < u.k)).foldl insertUnit left
  let n1 := n.modHtal slot (fun t =>
    { t with units := units, waiters := (open_.filter (fun w => k < w.k)).foldl insertHWaiter ws })
  overAll pairs (fun n e => n.oneRelease slot tick e.2 1 e.1) n1

/-- DIRECTED: every credit that belongs to an index up to `k` is released to its target (11 R284, R296). -/
def Node.decideDirected (n : Node) (slot k tick : Nat) : Node :=
  let t := n.htalOf slot
  let n1 := n.modHtal slot (fun t => { t with units := t.units.filter (fun u => k < u.k) })
  overAll (t.units.filter (fun u => u.k ≤ k)) (fun n u => overAll (upTo u.n) (fun n _ => n.oneRelease slot tick u.target 1 u) n) n1

/-- BROADCAST: every signal that belongs to an index up to `k` raises the value and is released to every waiter (11 R284). -/
def Node.decideBroadcast (n : Node) (slot k tick : Nat) : Node :=
  let t := n.htalOf slot
  let n1 := n.modHtal slot (fun t => { t with units := t.units.filter (fun u => k < u.k) })
  overAll (t.units.filter (fun u => u.k ≤ k)) (fun n u =>
    let v := (n.htalOf slot).value + u.n
    (n.modHtal slot (fun t => { t with value := v })).oneRelease slot tick everyUnit v u) n1

/-- The uses with arrivals, in ascending order, above those released. -/
def HTally.openUses (t : HTally) : List Nat := sortBy (fun a b => decide (a ≤ b)) ((t.arrive.map (·.1)).filter (fun u => t.used < u))

/-- A BARRIER use is released on every waiter (11 R293, R296). -/
def Node.releaseUse (n : Node) (slot tick u : Nat) : Node :=
  let t := n.htalOf slot
  (n.modHtal slot (fun t =>
    { t with used := u, rels := t.rels + 1, relTick := if tick == 0 then n.tb1 else tick, moved := t.moved.filter (· != u) })).sendRelease
    true (releaseMsg t slot tick everyUnit u u 0 0 0)

/-- BARRIER: of the uses whose index is at most `k`, those complete are released and those incomplete are late, once: under Strict
cause 0x45 and the wave (11 R296, R297). -/
def Node.decideBarrier (n : Node) (slot k tick : Nat) : Node :=
  overAll ((n.htalOf slot).openUses.filter (fun u => u ≤ k + 1)) (fun n u =>
    let t := n.htalOf slot
    if t.used + 1 == u && assoc 0 t.arrive u == cfgParts t.cfg then n.releaseUse slot tick u
    else if t.moved.contains u || !cfgSlotted t.cfg then n
    else
      let n1 := n.modHtal slot (fun t => { t with moved := u :: t.moved })
      if n.strictSpan (cfgSpan t.cfg) then
        n1.hubTallyFault 0x45 slot n.hubUnit (spanObj 0 slot) (put 79 32 t.step + put 31 16 u)
      else n1) n

/-- A decision of a slot for indices up to `k`, with its release tick; after a loss of the leader the slots with a single decider release nothing
further in the step (11 R311). -/
def Node.decide_ (n : Node) (slot k tick : Nat) : Node :=
  let mode := cfgMode (n.htalOf slot).cfg
  if mode == mBarrier then n.decideBarrier slot k tick
  else if !n.lead.leading || (n.htalOf slot).frozen then n
  else if mode == mCount then n.decideCount slot k tick
  else if mode == mDirected then n.decideDirected slot k tick
  else n.decideBroadcast slot k tick

/-- A message decoded on the tick of a decision that has been taken belongs to it: the index is decided again (11 R314). -/
def Node.decideAgain (n : Node) (slot : Nat) : Node :=
  let t := n.htalOf slot
  match n.inFlight (cfgSpan t.cfg) (cfgCtx t.cfg) with
  | none => n
  | some f => match releaseAt t.cfg f.2 (t.nextK - 1) with
    | some r => if cfgSlotted t.cfg && t.nextK != 0 && t.step == f.1 && r == n.tb1 + cfgDelta t.cfg then n.decide_ slot (t.nextK - 1) r else n
    | none => n

/-- A hub takes an up tally message: dropped and counted where the slot is not active for its span, its mode does not use the kind,
or it came from above; passed up, or counted at a head (11 R290, R293). -/
def upMessage (p : Nat) (n : Node) : Node :=
  n.onMsg p (fun m => m.typ == tTally && 1 ≤ fld m.head 79 76 && fld m.head 79 76 ≤ 4) (fun m n =>
    let slot := fld m.head 69 54
    let cfg := (n.htalOf slot).cfg
    if !cfgActive cfg || cfgSpan cfg != m.span || kindUnused (cfgMode cfg) (fld m.head 79 76) then n.dropTally
    else if n.isHeadOf m.span then (n.headUp p slot m).decideAgain slot
    else if 64 ≤ p || !n.spanMatch p m.span m.epoch || (n.htalOf slot).stale (fld m.head 53 6) m.epoch then n.dropTally
    else (n.modHtal slot (fun t => t.forStep (fld m.head 53 6) m.epoch)).passUp p slot m)

/-- `TALLY_UP_MESSAGE` (11 R293). -/
def execTallyUpMessage (p : Nat) (s : State) : Host.Outcome State Fault Refusal := onNode s .hub (s.hub.hasPort p) (upMessage p)

/-- The ports at which an up tally message waits. -/
def Node.upPorts (n : Node) : List Nat :=
  (n.links.filter (fun e => e.2.taken.any (fun m => m.typ == tTally && 1 ≤ fld m.head 79 76 && fld m.head 79 76 ≤ 4))).map (·.1)

/-- Every up message that has been decoded is taken before a decision (11 R314). -/
def Node.takeUps (n : Node) : Node :=
  overAll n.upPorts (fun n p => overAll (n.linkOf p).taken (fun n _ => upMessage p n) n) n

/-- At R_k - delta a head decides index `k` of a slotted slot, for the step that its head entry has confirmed (11 R296). -/
def slotDecision (slot : Nat) (n0 : Node) : Node :=
  let n := n0.takeUps
  let cfg := (n.htalOf slot).cfg
  let span := cfgSpan cfg
  when (cfgActive cfg && cfgSlotted cfg && n.isHeadOf span) (fun n =>
    match n.inFlight span (cfgCtx cfg) with
    | none => n
    | some (step, fire) =>
      let epoch := match n.spanEntryOf span with
        | some e => fld e 111 80
        | none => 0
      let n1 := n.modHtal slot (fun t => t.forStep step epoch)
      match indexNow cfg fire n.tb1 with
      | none => n1
      | some k =>
        if k < (n1.htalOf slot).nextK then n1
        else match releaseAt cfg fire k with
        | none => n1
        | some r => (n1.decide_ slot k r).modHtal slot (fun t => { t with nextK := k + 1 })) n

/-- `SLOT_DECISION` (11 R296). -/
def execSlotDecision (slot : Nat) (s : State) : Host.Outcome State Fault Refusal := onNode s .hub (decide (slot < 65536)) (slotDecision slot)

/-- An immediate slot is decided on a frame boundary after a message that changed it (11 R298). -/
def immediateDecision (slot : Nat) (n0 : Node) : Node :=
  let n := n0.takeUps
  let t := n.htalOf slot
  when (cfgActive t.cfg && !cfgSlotted t.cfg && t.dirty && n.tb1 % 8 == 0) (fun n =>
    (n.decide_ slot 65535 0).modHtal slot (fun t => { t with dirty := false })) n

/-- `IMMEDIATE_DECISION` (11 R298). -/
def execImmediateDecision (slot : Nat) (s : State) : Host.Outcome State Fault Refusal :=
  onNode s .hub (decide (slot < 65536)) (immediateDecision slot)

/-! ### Down -/

/-- The message of a key is the first in 8,192 ticks (10 R270). -/
def Node.firstCopy (n : Node) (key : Nat) : Bool := !n.fwd.any (fun e => e.1 == key && n.tb1 < e.2 + 8192)

/-- Keep the key of a message forwarded; keys older than 8,192 ticks are dropped, but those of results, tag 2, which have no such window
(12 R541). -/
def Node.noteCopy (n : Node) (key : Nat) : Node :=
  { n with fwd := n.fwd.filter (fun e => n.tb1 < e.2 + 8192 || e.1 % 8 == 2) ++ [(key, n.tb1)] }

/-- The key of a RELEASE: slot, step, release number and unit (11 R293). -/
def releaseKey (m : Msg) : Nat :=
  ((fld m.head 127 80 * 2 ^ 16 + fld m.head 69 54) * 2 ^ 48 + fld m.head 53 6) * 2 ^ 96 + fld (m.cell 2) 127 96 * 2 ^ 54 +
    fld (m.cell 1) 63 14 * 8 + 1

/-- A RELEASE that its leader hands to the follower head (11 R293, 10 R269): sent at its leave tick, which for a slotted one follows from the
decision at R - delta; one held less than 8 ticks before that tick records cause 0x34 and is not sent. An immediate one names no tick of decision
and leaves with the next frame (log entry 245). -/
def Node.handedRelease (n : Node) (slot : Nat) (m : Msg) : Node :=
  let cfg := (n.htalOf slot).cfg
  let tick := fld (m.cell 1) 127 64
  let leave := nextMul 8 (tick - cfgDelta cfg + 40)
  let at_ := if tick == 0 then n.tb1 else leave
  if tick != 0 && leave < n.tb1 + 8 then
    let (f, n1) := n.takeFree
    (n1.bump Ob.esc_handoffsLate).fault
      { cause := 0x34, span := m.span, ctx := cfgCtx cfg, obj := (n.headFor m.span (cfgCtx cfg)).getD 0
        detail := put 79 76 f + put 47 0 (fld m.head 53 6) }
  else overAll (n.releasePorts m) (fun n q => n.sendAt q at_ m) n

/-- A RELEASE at a hub (11 R290, R293, R294): dropped and counted from a downlink, at the leader, for a slot that is not active for its span, from an
uplink whose entry does not match, or for an earlier step than the slot's; otherwise its first copy goes from an uplink to the downlinks and the
twin lanes, from a twin lane to the downlinks only, a targeted one to one downlink, and at the follower head at the leave tick. -/
def downForward (p : Nat) (n : Node) : Node :=
  n.onMsg p (isTallyKind 5) (fun m n =>
    let slot := fld m.head 69 54
    let cfg := (n.htalOf slot).cfg
    let head := n.isHeadOf m.span
    if p < 64 || !cfgActive cfg || cfgSpan cfg != m.span || (p < 66 && (head || !n.spanMatch p m.span m.epoch)) ||
        (head && (n.lead.leading || cfgMode cfg == mBarrier)) || (n.htalOf slot).stale (fld m.head 53 6) m.epoch then n.dropTally
    else if !n.firstCopy (releaseKey m) then n
    else
      let n0 := (n.noteCopy (releaseKey m)).modHtal slot (fun t => t.forStep (fld m.head 53 6) m.epoch)
      if head then n0.handedRelease slot m
      else
        let n1 := overAll (n.releasePorts m) (fun n q => n.forward p q m) n0
        if p < 66 then overAll [66, 67] (fun n q => n.forward p q m) n1 else n1)

/-- `TALLY_DOWN_FORWARD` (11 R293). -/
def execTallyDownForward (p : Nat) (s : State) : Host.Outcome State Fault Refusal := onNode s .hub (s.hub.hasPort p) (downForward p)

end Sys2Proof.Machine
end

