-- ==== Sys2Proof/Machine/Clearing.lean ====
section
/-! DEFINITION. Clearing: descriptors, contributions, issues, the engines of a hub, rounding at the head, results at a TSU
(12 R319 to R347, R541). -/

namespace Sys2Proof.Machine

/-! ### Descriptors and contributions -/

/-- The descriptor `d` of a TSU (12 R352). -/
def Node.desc (n : Node) (d : Nat) : Nat := n.rd (Ob.dsc_descriptor d)

/-- An issue is in flight: its result is neither present nor dropped (12 R345). -/
def Issue.live (i : Issue) : Bool := !i.present && !i.dropped

/-- An accumulator or an issue in flight uses a descriptor (12 R319). -/
def Node.descUsed (n : Node) (d : Nat) : Bool :=
  n.clr.dieAccs.any (·.desc == d) || n.clr.defAccs.any (·.desc == d) || n.clr.issues.any (fun i => i.live && i.desc == d)

/-- A descriptor write (12 R319). -/
def descriptorWrite (d v : Nat) (n : Node) : Node :=
  n.journaled (fun n => n.accept (descOk (n.kind == .edge) v && !n.descUsed d) (fun n =>
    let n1 := (n.wr (Ob.dsc_descriptor d) v).wr (Ob.dsc_valid d) 1
    if n.desc d == v then n1 else n1.keyInput 5))

/-- `DESCRIPTOR_WRITE` (12 R319). -/
def execDescriptorWrite (d v : Nat) (s : State) : Host.Outcome State Fault Refusal :=
  onObj s .tsu (decide (d < 256)) (descriptorWrite d v)

/-- Die accumulators of a TSU (12 R322). -/
def Node.accCount (n : Node) : Nat := if n.kind == .edge then 2 else 8

/-- The die accumulator bound to a context and handle (12 R322). -/
def Node.dieAcc (n : Node) (c h : Nat) : Option Acc := n.clr.dieAccs.find? (fun a => a.ctx == c && a.hnd == h)

/-- The deferred accumulator bound to a context, handle and descriptor (09 R248). -/
def Node.defAcc (n : Node) (c h d : Nat) : Option Acc := n.clr.defAccs.find? (fun a => a.ctx == c && a.hnd == h && a.desc == d)

/-- An element of an accumulator. -/
def accElem (a : Option Acc) (k : Nat) : Elem :=
  match a with
  | some x => tblGet {} x.elems k
  | none => {}

/-- The patterns of a contribution block (12 R321): first element, count, and the patterns. -/
def blockPats (f : Nat) (block : List Nat) : List Nat :=
  (upTo (leVal ((block.drop 4).take 2))).map (fun i => leVal ((block.drop (8 + i * (inWidth f / 8))).take (inWidth f / 8)))

/-- A finite contribution counts 1 (12 R321). -/
def finiteOne (f x : Nat) : Nat :=
  match valOf f x with
  | .fin _ _ => 1
  | _ => 0

/-- The status of a contribution block: 0 accepted, otherwise the first of 3, 4, 1, 2, 5 that applies (12 R321). -/
def Node.contribStatus (n : Node) (c h : Nat) (block : List Nat) : Nat :=
  let d := block.headD 0
  let first := leVal ((block.drop 2).take 2)
  let cnt := leVal ((block.drop 4).take 2)
  let w := n.desc d
  let acc := n.dieAcc c h
  if n.rd (Ob.dsc_valid d) == 0 then 3
  else if (acc.map (·.desc != d)).getD false then 4
  else if acc.isNone && n.accCount ≤ n.clr.dieAccs.length then 1
  else if dLen w < first + cnt then 2
  else if ((blockPats (dIn w) block).zipIdx).any (fun e =>
      2 ^ 24 < (accElem acc (first + e.2)).fin + (accElem (n.defAcc c h d) (first + e.2)).fin + finiteOne (dIn w) e.1) then 5
  else 0

/-- A refused contribution under Strict raises the wave; without Strict it taints the step in flight (12 R324). -/
def Node.refusedContrib (n : Node) (c : Nat) : Node :=
  if n.strict then (if n.stepHeld c then n.waveStep c 0x53 else n) else n.taint c 8

/-- Add the elements of an accepted block (12 R321, R327). -/
def Node.takeBlock (n : Node) (c h : Nat) (block : List Nat) : Node :=
  let d := block.headD 0
  let w := n.desc d
  let first := leVal ((block.drop 2).take 2)
  let old := (n.dieAcc c h).getD { ctx := c, hnd := h, desc := d }
  let elems := ((blockPats (dIn w) block).zipIdx).foldl
    (fun l e => tblSet l (first + e.2) ((tblGet {} l (first + e.2)).add (dOp w) (dIn w) n.ident e.1)) old.elems
  let rest := n.clr.dieAccs.filter (fun a => !(a.ctx == c && a.hnd == h))
  (n.modClr (fun k => { k with dieAccs := rest ++ [{ old with elems := elems, blocks := old.blocks + 1 }] })).bump
    (Ob.contrib_blocksAccepted c h)

/-- The length of a block is wrong: shorter than its header, or not 8 + count elements of its descriptor's input (12 R321). -/
def Node.blockLength (n : Node) (block : List Nat) : Bool :=
  decide (block.length < 8) ||
    (n.rd (Ob.dsc_valid (block.headD 0)) == 1 &&
      block.length != 8 + leVal ((block.drop 4).take 2) * (inWidth (dIn (n.desc (block.headD 0))) / 8))

/-- A contribution block is added exactly, or refused with a status and cause 0x53 (12 R321, R324). -/
def contributionWrite (c h : Nat) (block : List Nat) (n : Node) : Node :=
  n.needsFn 3 (fun n =>
    if n.blockLength block then n.answer 4
    else
      let st := n.contribStatus c h block
      if st == 0 then ((n.takeBlock c h block).wr (Ob.contrib_status c h) 0).answer 0
      else (((n.wr (Ob.contrib_status c h) st).fault53 c h (block.headD 0) st 0).refusedContrib c).answer 3)

/-- `CONTRIBUTION_WRITE` (12 R321). -/
def execContributionWrite (c h : Nat) (block : List Nat) (s : State) : Host.Outcome State Fault Refusal :=
  onObj s .tsu (decide (c < s.tsu.ctxCount) && decide (h < 16)) (contributionWrite c h block)

/-! ### Issues -/

/-- The head cell of a CLEAR message (12 R329). -/
def clearHead (span epoch kind ctx hnd eng form first cnt who step : Nat) : Nat :=
  put 127 112 span + put 111 80 epoch + put 79 76 kind + put 75 70 ctx + put 69 66 hnd + put 65 62 eng + put 61 58 form +
  put 57 46 first + put 45 39 cnt + put 38 19 who + put 18 0 step

/-- A CLEAR message that carries a chunk. -/
def clearMsg (span epoch kind ctx hnd eng step : Nat) (k : Chunk) : Msg :=
  { typ := tClear, cells := clearHead span epoch kind ctx hnd eng k.form k.first k.cnt k.who step :: k.cells }

/-- The newest issue of a context and handle. -/
def Node.issueOf (n : Node) (c h : Nat) : Option Issue := n.clr.issues.find? (fun i => i.ctx == c && i.hnd == h)

/-- Change the newest issue that passes a test. -/
def changeFirst (f : Issue → Bool) (g : Issue → Issue) : List Issue → List Issue
  | [] => []
  | i :: r => if f i then g i :: r else i :: changeFirst f g r

/-- The accumulator of a context and handle is frozen: one bound to another descriptor is discarded with cause 0x53 (12 R323). -/
def Node.freeze (n : Node) (c h d : Nat) : List (Nat × Elem) × Node :=
  match n.dieAcc c h with
  | none => ([], n)
  | some a =>
    let n1 := n.releaseAcc c h
    if a.desc == d then (a.elems, n1) else ([], (n1.fault53 c h a.desc 6 a.blocks).refusedContrib c)

/-- Two element lists added element by element (12 R327). -/
def addElems (w : Nat) (a b : List (Nat × Elem)) : List (Nat × Elem) :=
  b.foldl (fun l e => tblSet l e.1 ((tblGet {} l e.1).combine (dOp w) (dIn w) e.2)) a

/-- The step's contribution enters the deferred accumulator, bound on first use while one is free; a sending step notes itself (09 R246 to R248).
An ARM that needs one where none is free is answered with reason 5, so a step that runs finds one (09 R250; log entry 246). -/
def Node.defer (n : Node) (c h d : Nat) (elems : List (Nat × Elem)) (sends : Bool) : List (Nat × Elem) × Node :=
  let old := (n.defAcc c h d).getD { ctx := c, hnd := h, desc := d }
  let new := addElems (n.desc d) old.elems elems
  let rest := n.clr.defAccs.filter (fun a => !(a.ctx == c && a.hnd == h && a.desc == d))
  if rest.length < n.accCount then
    (new, n.modClr (fun k =>
      { k with defAccs := rest ++ [{ old with elems := new, sentIn := if sends then some (n.ctxOf c).step else old.sentIn }] }))
  else (new, n)

/-- The messages of a die partial over a lane (12 R333; 02 R69). -/
def partialChunks (w : Nat) (deferred compact : Bool) (states : List Elem) : List Chunk :=
  if compact && !deferred && states.all (fun e => e.cnt ≤ 1) then packNative (dIn w) (states.map (·.pat))
  else packOver compact (dOp w) ((states.zipIdx).map (fun e => (e.2, e.1, 1)))

/-- The compact Clearing form is common to both ends of a link (02 R69). -/
def Node.compactOn (n : Node) (p : Nat) : Bool := bit (n.rd (Ob.link_operatingFeatures p)) 0

/-- A partial is issued at tick E: its messages leave each MEMBER lane from E + 8; under TRAP a NaN stops it (12 R323, R333). -/
def Node.issue (n : Node) (c h d e : Nat) (deferred : Bool) (elems : List (Nat × Elem)) : Node :=
  let w := n.desc d
  let step := (n.ctxOf c).step
  let states := (upTo (dLen w)).map (fun k => (tblGet {} elems k).filled (dOp w) (dIn w) n.ident)
  let n1 := n.modClr (fun k =>
    { k with issues := { ctx := c, hnd := h, desc := d, descW := w, step := step, tick := e } :: k.issues })
  match if dNan w == 2 then (states.zipIdx).find? (fun x => x.1.nan != 0) else none with
  | some x => n1.deadlineFault c 0x54 (put 15 8 d + h) (put 79 68 x.2 + put 67 52 x.1.nan + put 47 0 step)
  | none =>
    overAll ([0, 1].filter (fun p => n.lst p == 6)) (fun n p =>
      overAll (partialChunks w deferred (n.compactOn p) states)
        (fun n k => n.sendAt p (nextMul 8 (e + 8)) (clearMsg n.span n.epoch 1 c h (dEng w) step k)) n) (n1.bump Ob.clr_issues)

/-- The states of a die partial: every element of the descriptor, +0 where the die contributed nothing (12 R323). -/
def Node.dieStates (n : Node) (d : Nat) (elems : List (Nat × Elem)) : List (Nat × Elem) :=
  let w := n.desc d
  (upTo (dLen w)).map (fun k => (k, (tblGet {} elems k).filled (dOp w) (dIn w) n.ident))

/-- CLEAR takes effect at E (09 R240, R246; 12 R323): the frozen partial is issued, or added to the deferred accumulator, which is
sent in the steps s with s mod N = N - 1. -/
def Node.clearAt (n : Node) (c h d e every : Nat) : Node :=
  let (elems, n1) := n.freeze c h d
  if every ≤ 1 then n1.issue c h d e false elems
  else
    let sends := (n.ctxOf c).step % every == every - 1
    let (sum, n2) := n1.defer c h d (n1.dieStates d elems) sends
    if sends then n2.issue c h d e true sum else n2.bump Ob.clr_issues

/-! ### Partials at a hub -/

/-- Engine of a CLEAR message. -/
def clearEng (m : Msg) : Nat := fld m.head 65 62
/-- Context of a CLEAR message. -/
def clearCtx (m : Msg) : Nat := fld m.head 75 70
/-- Handle of a CLEAR message. -/
def clearHnd (m : Msg) : Nat := fld m.head 69 66
/-- Step bits of a CLEAR message. -/
def clearStep (m : Msg) : Nat := fld m.head 18 0
/-- First element of a CLEAR message. -/
def clearFirst (m : Msg) : Nat := fld m.head 57 46
/-- Elements of a CLEAR message. -/
def clearCnt (m : Msg) : Nat := fld m.head 45 39
/-- Form of a CLEAR message. -/
def clearForm (m : Msg) : Nat := fld m.head 61 58
/-- A CLEAR message of a kind. -/
def isClearKind (k : Nat) (m : Msg) : Bool := m.typ == tClear && fld m.head 79 76 == k

/-- An engine is active (12 R355). -/
def engActive (cfg : Nat) : Bool := bit cfg 32
/-- Owner span of an engine. -/
def engSpan (cfg : Nat) : Nat := fieldAt cfg 0 2
/-- Owner context of an engine. -/
def engCtx (cfg : Nat) : Nat := fieldAt cfg 2 1
/-- Owner handle of an engine. -/
def engHnd (cfg : Nat) : Nat := fieldAt cfg 3 1

/-- The partner of a port is a TSU Edge (02 R66, 12 R335). -/
def Node.partnerEdge (n : Node) (p : Nat) : Bool :=
  match (n.linkOf p).stored with
  | some h => fld h.1 109 108 == 2
  | none => false

/-- The expected set: downlinks with matching entry that are MEMBER, without Edge TSUs for a context of 8 or more (12 R335). -/
def Node.expectedSet (n : Node) (span epoch ctx : Nat) : List Nat :=
  (n.memberDown span epoch).filter (fun p => ctx < 8 || !n.partnerEdge p)

/-- A form that R330 allows a PARTIAL of an operation on a downlink of a hub of this level. -/
def formOk (level op form : Nat) : Bool :=
  if form == 0 then level != 1
  else if form == 1 then level == 1
  else if form == 2 then op == 0 else if form == 3 then op ≤ 2 else if form == 4 then 1 ≤ op && op ≤ 5 else false

/-- A hub fault of a Clearing message: its record and the wave of its context (12 R334, R335). -/
def Node.clearFault (n : Node) (cause p : Nat) (m : Msg) (detail : Nat) : Node :=
  (n.fault { cause := cause, span := m.span, region := p, ctx := clearCtx m, obj := clearEng m, detail := detail }).raiseHubWave
    m.span m.epoch (clearCtx m) cause

/-- Open a new instance (12 R334, R335). -/
def Node.openInstance (n : Node) (e : Nat) (m : Msg) : Node :=
  let g := n.engOf e
  let n1 := if g.live && !g.short then n.bump (Ob.eng_discarded e) else n
  (n1.modEng e (fun _ =>
    { live := true, step := clearStep m, epoch := m.epoch, firstAt := n.tb1
      ins := (n.expectedSet m.span m.epoch (clearCtx m)).map (fun p => { port := p }) })).bump Ob.clr_issues

/-- Combine delivered states from an index (12 R327, R335). -/
def Engine.deliver (g : Engine) (op f p first who : Nat) (l : List Elem) : Engine :=
  { g with
    elems := (l.zipIdx).foldl (fun t e =>
      let x : EngEl := tblGet {} t (first + e.2)
      tblSet t (first + e.2) { x with st := x.st.combine op f e.1, contrib := x.contrib + who }) g.elems
    ins := g.ins.map (fun i => if i.port == p then { i with nxt := first + l.length } else i) }

/-- A PARTIAL of the instance held (12 R335): dropped and counted outside the expected set, dropped with cause 0x57 out of order,
beyond the length or in a form not allowed, combined otherwise. -/
def Node.takePartial (n : Node) (e p : Nat) (m : Msg) : Node :=
  let g := n.engOf e
  let d := n.engDesc e
  let bad := fun (k : Nat) => n.clearFault 0x57 p m (put 79 72 k + put 71 60 (clearFirst m))
  match g.ins.find? (fun i => i.port == p && !i.gone) with
  | none => n.bump Ob.clr_messagesDropped
  | some i =>
    if clearForm m == 0 && formOk n.level (dOp d) 0 then n.modEng e (fun g => (g.dropPort p).complete (dLen d) m.first)
    else if clearFirst m != i.nxt then bad 1
    else if dLen d < clearFirst m + clearCnt m then bad 2
    else if !formOk n.level (dOp d) (clearForm m) then bad 4
    else
      let l := partialElems d (n.rd (Ob.link_partnerIdentity p)) m
      n.modEng e (fun g => (g.deliver (dOp d) (dIn d) p (clearFirst m) (fld m.head 38 19) l).complete (dLen d) m.first)

/-- A hub takes a PARTIAL (12 R334, R335). -/
def partialReceived (p : Nat) (n : Node) : Node :=
  n.onMsg p (isClearKind 1) (fun m n =>
    let e := clearEng m
    let cfg := n.rd (Ob.eng_configuration e)
    let g := n.engOf e
    if !engActive cfg || engSpan cfg != m.span || engCtx cfg != clearCtx m || engHnd cfg != clearHnd m then
      n.clearFault 0x52 p m (put 73 70 (clearHnd m) + put 18 0 (clearStep m))
    else if 64 ≤ p then n.clearFault 0x57 p m (put 79 72 3 + put 71 60 (clearFirst m))
    else if g.live && g.step == clearStep m then n.takePartial e p m
    else if g.live && n.tb1 < g.firstAt + 16384 then n.bump Ob.clr_messagesDropped
    else (n.openInstance e m).takePartial e p m)

/-- The complete elements whose departure boundary has come, in groups of one boundary: the first frame boundary at least 16 ticks
after the completing frame (12 R336, R343). -/
def Engine.dueGroups (g : Engine) (now : Nat) : List (Nat × List (Nat × EngEl)) :=
  let l := ((upTo (g.comp - g.sent)).map (fun i => (g.sent + i, (tblGet ({} : EngEl) g.elems (g.sent + i))))).takeWhile
    (fun e => nextMul 8 (e.2.doneAt + 16) ≤ now)
  (l.foldl (fun acc e =>
    let due := nextMul 8 (e.2.doneAt + 16)
    match acc with
    | (t, es) :: r => if t == due then (t, es ++ [e]) :: r else (due, [e]) :: acc
    | [] => [(due, [e])]) []).reverse

/-- The PARTIALs of one boundary go up; the first of an instance sends the none form on the other uplink (12 R336, R337). -/
def Node.sendGroup (n : Node) (e : Nat) (grp : Nat × List (Nat × EngEl)) : Node :=
  let cfg := n.rd (Ob.eng_configuration e)
  let g := n.engOf e
  let span := engSpan cfg
  let up := n.uplink span g.epoch
  let k := grp.2.length
  let last := grp.2.getLast?.map (fun x => x.2.contrib)
  let n0 := n.modEng e (fun g => { g with sent := g.sent + k, lastContrib := last.getD g.lastContrib })
  if !n.memberMatch up span g.epoch then n0
  else
    let msg := fun (c : Chunk) => clearMsg span g.epoch 1 (engCtx cfg) (engHnd cfg) e g.step c
    let other := 129 - up
    let n1 :=
      if g.alt then n0
      else
        let n1 := n0.modEng e (fun g => { g with alt := true })
        if n.memberMatch other span g.epoch then
          n1.sendAt other grp.1 (msg { form := 0, who := 0, first := 0, cnt := 0, cells := [0] }) else n1
    overAll (packOver (n.compactOn up) (dOp (n.engDesc e)) (grp.2.map (fun x => (x.1, x.2.st, x.2.contrib))))
      (fun n c => n.sendAt up grp.1 (msg c)) (n1.modEng e (fun g => { g with sendAt := grp.1 }))

/-- An instance is released after its last element (12 R336, R338). -/
def Node.releaseInstance (n : Node) (e : Nat) : Node :=
  let g := n.engOf e
  if g.live && dLen (n.engDesc e) ≤ g.sent then (n.modEng e (fun g => { g with live := false })).bump (Ob.eng_completed e) else n

/-- A hub that is not the head sends its complete elements up (12 R336). -/
def elementSendUp (e : Nat) (n : Node) : Node :=
  when ((n.engOf e).live && !n.isHeadOf (engSpan (n.rd (Ob.eng_configuration e)))) (fun n =>
    (overAll ((n.engOf e).dueGroups n.tb1) (fun n g => n.sendGroup e g) n).releaseInstance e) n

/-! ### Rounding at the head -/

/-- Downlinks whose entry matches an instance (12 R343, R541). -/
def Node.matchDown (n : Node) (span epoch : Nat) : List Nat := (upTo 64).filter (fun p => n.spanMatch p span epoch)

/-- A CLEAR message goes down on every downlink with matching entry. -/
def Node.clearDown (n : Node) (due : Nat) (m : Msg) : Node :=
  overAll (n.matchDown m.span m.epoch) (fun n p => n.sendAt p due m) n

/-- The elements of a boundary up to the first whose contributors differ from those expected (12 R339). -/
def fullCount (want : Nat) (l : List (Nat × EngEl)) : List (Nat × EngEl) := l.takeWhile (fun x => x.2.contrib == want)

/-- The head rounds the elements of one boundary once and sends them, or records cause 0x51 and sends nothing further (12 R339 to
R343). -/
def Node.roundGroup (n : Node) (e : Nat) (grp : Nat × List (Nat × EngEl)) : Node :=
  let cfg := n.rd (Ob.eng_configuration e)
  let d := n.engDesc e
  let g := n.engOf e
  if g.short then n
  else
    let good := fullCount (dExp d) grp.2
    let res := good.map (fun x => (x.1, elemResult d x.2.st, x.2.st))
    let form := 5
    let chunks := if dOut d == 4
      then gatherChunks (res.map (fun r => { form := form, who := 0, first := r.1, cnt := 1, cells := cells3 r.2.1.1 }))
      else chunksOf (outWidth (dOut d)) form 0 4096 ((good.head?.map (·.1)).getD 0) (res.map (fun r => r.2.1.1))
    let cens := (res.filter (fun r => r.2.2.nan != 0 || r.2.1.2.1 != 0)).map (fun r => censusEntry r.1 r.2.2 r.2.1.2.1)
    let n1 := n.modEng e (fun g =>
      { g with
        sent := g.sent + good.length
        cens := g.cens ++ cens
        rounded := g.rounded + (res.filter (fun r => r.2.1.2.2)).length
        sendAt := if good.isEmpty then g.sendAt else grp.1
        lastContrib := ((grp.2.take (good.length + 1)).getLast?.map (fun x => x.2.contrib)).getD g.lastContrib })
    let n2 := overAll chunks (fun n c => n.clearDown grp.1 (clearMsg (engSpan cfg) g.epoch 2 (engCtx cfg) (engHnd cfg) e g.step c)) n1
    match grp.2[good.length]? with
    | none => n2
    | some x =>
      ((n2.modEng e (fun g => { g with short := true })).bump (Ob.eng_discarded e)).fault
        { cause := 0x51, span := engSpan cfg, ctx := engCtx cfg, obj := e
          detail := put 79 68 x.1 + put 67 48 x.2.contrib + put 47 28 (dExp d) }

/-- The head takes its complete elements (12 R339). -/
def headRound (e : Nat) (n : Node) : Node :=
  when ((n.engOf e).live && n.isHeadOf (engSpan (n.rd (Ob.eng_configuration e)))) (fun n =>
    overAll ((n.engOf e).dueGroups n.tb1) (fun n g => n.roundGroup e g) n) n

/-- The step number of an END: the largest not above the head entry's with these step bits; the step bits alone without a head entry
(12 R541). Where the head entry's number is below the step bits no such number exists, and the value is free (log entry 32). -/
def Node.endStepNo (n : Node) (span ctx bits19 : Nat) : Nat × Node :=
  match n.headFor span ctx with
  | none => (bits19, n)
  | some k =>
    let s := fieldAt (n.rd (Ob.head_stepInFlight k)) 0 8
    let t := s - s % 2 ^ 19 + bits19
    if t ≤ s then (t, n)
    else if 2 ^ 19 ≤ t then (t - 2 ^ 19, n)
    else let (f, n1) := n.takeFree; (f % 2 ^ 48, n1)

/-- After the last element the head sends its census entries and one END, and releases the instance (12 R343, R541). -/
def headSendEnd (e : Nat) (n : Node) : Node :=
  let cfg := n.rd (Ob.eng_configuration e)
  let g := n.engOf e
  when (g.live && !g.short && n.isHeadOf (engSpan cfg) && dLen (n.engDesc e) ≤ g.sent) (fun n =>
    let msg := fun (kind : Nat) (c : Chunk) => clearMsg (engSpan cfg) g.epoch kind (engCtx cfg) (engHnd cfg) e g.step c
    let n1 := overAll (chunksOf 64 6 0 4096 0 g.cens) (fun n c => n.clearDown n.tb1 (msg 3 c)) n
    let (step, n2) := n1.endStepNo (engSpan cfg) (engCtx cfg) g.step
    let fin := put 127 80 step + put 79 67 g.cens.length + put 66 54 g.rounded + put 53 34 g.lastContrib
    let n3 := n2.clearDown n2.tb1 (msg 4 { form := 0, who := 0, first := 0, cnt := 0, cells := [fin] })
    ((n3.modEng e (fun g => { g with sendAt := n.tb1 })).bump Ob.clr_resultsPresent).releaseInstance e) n

/-! ### Results -/

/-- A RESULT, CENSUS or END. -/
def isResult (m : Msg) : Bool := isClearKind 2 m || isClearKind 3 m || isClearKind 4 m

/-- The owner of a result: span, epoch, context, handle. -/
def resultOwner (m : Msg) : Nat := fld m.head 127 80 * 1024 + fld m.head 75 66

/-- The key of a result message: instance, kind, first element (12 R541); the tag 2 keeps it apart from other keys. -/
def resultKey (m : Msg) : Nat :=
  (((resultOwner m * 2 ^ 19 + clearStep m) * 16 + fld m.head 79 76) * 4096 + clearFirst m) * 8 + 2

/-- The keys of an owner's instances are forgotten when a result 2^17 to 2^18 - 1 steps newer comes, long before its step bits name
another instance (log entry 247). -/
def keepResultKey (m : Msg) (k : Nat) : Bool :=
  !(k % 8 == 2 && k / 2 ^ 38 == resultOwner m && (clearStep m + 2 ^ 19 - k / 2 ^ 19 % 2 ^ 19) % 2 ^ 19 / 2 ^ 17 == 1)

/-- A hub forwards the first copy of each RESULT, CENSUS and END from an uplink to its matching downlinks, on the first frame boundary
at least 16 ticks on; copies and messages from elsewhere are dropped and counted (12 R541). -/
def resultForward (p : Nat) (n : Node) : Node :=
  n.onMsg p isResult (fun m n =>
    if (p != 64 && p != 65) || n.fwd.any (fun e => e.1 == resultKey m) then n.bump Ob.clr_messagesDropped
    else
      let n1 := { n with fwd := n.fwd.filter (fun e => keepResultKey m e.1) ++ [(resultKey m, n.tb1)] }
      overAll (n.matchDown m.span m.epoch) (fun n q =>
        n.enqueue q { msg := m, ready := nextMul 8 (m.first + 16), inPort := p }) n1)

/-- `RESULT_FORWARD` (12 R541). -/
def execResultForward (p : Nat) (s : State) : Host.Outcome State Fault Refusal := onNode s .hub (s.hub.hasPort p) (resultForward p)

/-- The values of a RESULT by element (12 R330, R354): raw values hold A below and the side fields above. -/
def resultVals (d : Nat) (m : Msg) : List (Nat × Nat) :=
  (upTo (clearCnt m)).map (fun i =>
    (clearFirst m + i,
      if dOut d == 4 then cellFull m i / 2 ^ 64 + cellFull m i % 2 ^ 64 * 2 ^ 320 else cellVal m (outWidth (dOut d)) i))

/-- Take the values whose element has none yet (12 R345). -/
def firstVals (old new : List (Nat × Nat)) : List (Nat × Nat) :=
  new.foldl (fun l e => if l.any (·.1 == e.1) then l else tblSet l e.1 e.2) old

/-- What one message adds to an issue (12 R345). -/
def Issue.take (i : Issue) (p : Nat) (m : Msg) : Issue :=
  let kind := fld m.head 79 76
  if kind == 2 then { i with vals := firstVals i.vals ((resultVals i.descW m).filter (fun e => e.1 < dLen i.descW)) }
  else if kind == 3 then
    { i with cens := firstVals i.cens ((upTo (clearCnt m)).map (fun k => let x := cellVal m 64 k; (fld x 63 52, x))) }
  else { i with fin := match i.fin with | some f => some f | none => some (m.cell 1, p) }

/-- The result of an issue is whole: an END, a value for every element, and the announced census entries (12 R345). -/
def Issue.whole (i : Issue) : Bool :=
  match i.fin with
  | none => false
  | some f => i.vals.length == dLen i.descW && i.cens.length == fld f.1 79 67

/-- The filling half of a bank belongs to this issue (12 R346). -/
def Issue.fills (i : Issue) (b : Nat) : Bool := i.live && dBank i.descW == b && !i.vals.isEmpty

/-- The information of a bank (12 R354). -/
def bankInfo (i : Issue) (f : Nat × Nat) (tick : Nat) : Nat :=
  putField 0 8 (fld f.1 127 80) + putField 8 1 i.ctx + putField 9 1 i.hnd + putField 10 1 i.desc + putField 11 1 f.2 +
  putField 16 8 i.tick + putField 24 8 tick + putField 32 4 (fld f.1 53 34) + putField 36 2 (fld f.1 79 67) +
  putField 38 2 (fld f.1 66 54)

/-- The halves of a bank exchange: the result is present (12 R345, R346). -/
def Node.makePresent (n : Node) (i : Issue) (same : Issue → Bool) : Node :=
  match i.fin with
  | none => n
  | some f =>
    let b := dBank i.descW
    let bank : Bank := { ctx := i.ctx, hnd := i.hnd, desc := i.desc, descW := i.descW, step := i.step, vals := i.vals, cens := i.cens }
    let n1 := n.modClr (fun k =>
      { k with
        banks := tblSet k.banks b bank
        last := tblSet k.last (16 * i.ctx + i.hnd) b
        issues := changeFirst same (fun x => { x with present := true, vals := [], cens := [], fin := none }) k.issues })
    ((n1.wr (Ob.bank_info b) (bankInfo i f n.tb1)).bump Ob.clr_resultsPresent).irqEvent (0x120 + b)

/-- A TSU takes a RESULT, CENSUS or END; a RESULT for a bank that another handle is filling strikes its step (12 R345 to R347). -/
def resultReceived (p : Nat) (n : Node) : Node :=
  n.onMsg p isResult (fun m n =>
    let same := fun (i : Issue) => i.ctx == clearCtx m && i.hnd == clearHnd m && i.step % 2 ^ 19 == clearStep m
    match n.clr.issues.find? same with
    | none => n.bump Ob.clr_messagesDropped
    | some i =>
      if i.dropped then n.bump Ob.clr_messagesDropped
      else if i.present then n
      else
        let b := dBank i.descW
        let holder := if isClearKind 2 m then n.clr.issues.find? (fun x => x.fills b && !(x.ctx == i.ctx && x.hnd == i.hnd)) else none
        match holder with
        | some x => n.strikeStep i.ctx 0x55 b (put 79 74 x.ctx + put 73 70 x.hnd)
        | none =>
          let i1 := i.take p m
          let n1 := n.modClr (fun k => { k with issues := changeFirst same (fun _ => i1) k.issues })
          if i1.whole then n1.makePresent i1 same else n1)

/-- A result not present by its timeout: cause 0x50, the wave, and the filling half is cleared (12 R347). -/
def resultTimeout (c h : Nat) (n : Node) : Node :=
  match n.issueOf c h with
  | none => n
  | some i =>
    when (i.live && i.tick + dTimeout i.descW ≤ n.tb1) (fun n =>
      ((n.dropIssues (fun x => x == i)).bump Ob.clr_resultTimeouts).strikeStep c 0x50 (put 15 8 i.desc + h)
        (put 79 67 i.vals.length + put 47 0 i.step)) n

/-- `CLEARING_RESULT_TIMEOUT` (12 R347). -/
def execClearingResultTimeout (c h : Nat) (s : State) : Host.Outcome State Fault Refusal :=
  onNode s .tsu (decide (c < s.tsu.ctxCount) && decide (h < 16)) (resultTimeout c h)

/-! ### Engines -/

/-- The reserved bits of an engine configuration are ignored (16 R440, 12 R355). -/
def engMask (v : Nat) : Nat := bits v 0 33 + bits v 64 256 * 2 ^ 64

/-- A configuration write: refused unless the engine is inactive or becomes inactive; the descriptor is checked when it becomes
active; an inactive engine holds no instance (12 R319, R355). An activating write is one for a span of the list (15 R411). -/
def Node.engWrite (n : Node) (e v : Nat) : Node :=
  let x := engMask v
  let act := engActive x
  let was := engActive (n.rd (Ob.eng_configuration e))
  let write := fun (n : Node) =>
    n.accept ((!was || !act) && (!act || descOk false (bits x 64 256))) (fun n =>
      (n.wr (Ob.eng_configuration e) x).modEng e (fun g => if act then g else {}))
  let holder := if was then some (engSpan (n.rd (Ob.eng_configuration e))) else none
  if act then n.needsFn 2 (fun n => n.forSpan (engSpan x) holder write) else write n

/-- `ENGINE_CONFIGURE` (12 R355). -/
def execEngineConfigure (e v : Nat) (s : State) : Host.Outcome State Fault Refusal :=
  onObj s .hub (decide (e < 16)) (fun n => n.engWrite e v)

/-- A stored element state with an uncorrectable error: cause 0x56 and the wave (12 R338, R350). At a hub `x` is the engine; at a TSU
it is 16 times the context plus the handle. -/
def storageError (x k : Nat) (n : Node) : Node :=
  if n.isHub then
    let cfg := n.rd (Ob.eng_configuration x)
    (n.fault { cause := 0x56, span := engSpan cfg, ctx := engCtx cfg, obj := x, detail := put 79 68 k }).raiseHubWave
      (engSpan cfg) (n.engOf x).epoch (engCtx cfg) 0x56
  else n.strikeStep (x / 16) 0x56 (x % 16) (put 79 68 k)

/-- `CLEARING_STORAGE_ERROR` (12 R338). -/
def execClearingStorageError (u : Who) (x k : Nat) (s : State) : Host.Outcome State Fault Refusal :=
  onNode s u (if u == .hub then decide (x < 16) else decide (x / 16 < s.tsu.ctxCount)) (storageError x k)

/-- A hub that receives a fault wave discards every instance of its context (12 R334). -/
def Node.discardEngines (n : Node) (span epoch ctx : Nat) : Node :=
  overAll (upTo 16) (fun n e =>
    let cfg := n.rd (Ob.eng_configuration e)
    let g := n.engOf e
    if g.live && engSpan cfg == span && g.epoch == epoch && engCtx cfg == ctx then
      (n.modEng e (fun _ => {})).bump (Ob.eng_discarded e)
    else n) n

/-! ### The order of one tick at a hub (12 R348) -/

/-- A fault slot taken from a frame is spread as the first copy of its wave or ignored as a repeat (02 R53); a hub that receives a wave
discards the Clearing instances of its context (12 R334) and counts it. -/
def slotReceived (p : Nat) (n : Node) : Node :=
  match (n.linkOf p).slotIn with
  | [] => n
  | (slot, first) :: rest =>
    let n1 := n.modLink p (fun l => { l with slotIn := rest })
    let known := n1.seen.any (fun e => e.1 == waveKey slot && n1.tb1 < e.2 + 8192)
    let n2 := n1.spreadSlot p slot first
    if known || !n.isHub then n2
    else (n2.discardEngines (slotSpan slot) (slotEpoch slot) (slotCtx slot)).noteWave p slot

/-- Row 2: the fault waves that wait, in ascending port. -/
def Node.wavesFirst (n : Node) : Node :=
  overAll (upTo 68) (fun n p => overAll (n.linkOf p).slotIn (fun n _ => slotReceived p n) n) n

/-- Row 3 for the ports below one: the PARTIALs that wait, in ascending port. -/
def Node.partialsBelow (n : Node) (q : Nat) : Node :=
  overAll (upTo q) (fun n p => overAll ((n.linkOf p).taken.filter (isClearKind 1)) (fun n _ => partialReceived p n) n) n.wavesFirst

/-- Rows 2 and 3 whole, before element completion and combining. -/
def Node.partialsFirst (n : Node) : Node := n.partialsBelow 68

/-- `PARTIAL_RECEIVED` (12 R334). -/
def execPartialReceived (p : Nat) (s : State) : Host.Outcome State Fault Refusal :=
  onNode s .hub (s.hub.hasPort p) (fun n => partialReceived p (n.partialsBelow p))

/-- `ELEMENT_SEND_UP` (12 R336). -/
def execElementSendUp (e : Nat) (s : State) : Host.Outcome State Fault Refusal :=
  onNode s .hub (decide (e < 16)) (fun n => elementSendUp e n.partialsFirst)

/-- `HEAD_ROUND_ELEMENT` (12 R339). -/
def execHeadRoundElement (e : Nat) (s : State) : Host.Outcome State Fault Refusal :=
  onNode s .hub (decide (e < 16)) (fun n => headRound e n.partialsFirst)

/-- `HEAD_SEND_END` (12 R343). -/
def execHeadSendEnd (e : Nat) (s : State) : Host.Outcome State Fault Refusal :=
  onNode s .hub (decide (e < 16)) (fun n => headSendEnd e n.partialsFirst)

/-! ### Reads -/

/-- State of an engine (12 R355): 0 inactive, 1 idle, 2 combining, 3 sending results. -/
def Node.engState (n : Node) (e : Nat) : Nat :=
  let g := n.engOf e
  let cfg := n.rd (Ob.eng_configuration e)
  if !engActive cfg then 0 else if !g.live then 1 else if n.isHeadOf (engSpan cfg) && 0 < g.sent then 3 else 2

/-- Instance of an engine (12 R355). -/
def Node.engInstance (n : Node) (e : Nat) : Nat :=
  let g := n.engOf e
  putField 0 4 g.step + putField 4 2 g.comp + putField 6 2 g.sent + putField 8 4 g.lastContrib +
  putField 12 4 (g.ins.filter (fun i => !i.gone)).length + putField 16 8 g.firstAt + putField 24 8 g.sendAt

/-- Values of a bank (12 R354): 8 bytes an element, or 48 bytes for raw output. -/
def Node.bankValues (n : Node) (b : Nat) : Nat :=
  match n.clr.banks.find? (·.1 == b) with
  | none => 0
  | some x => (x.2.vals.map (fun e => e.2 * 2 ^ ((if dOut x.2.descW == 4 then 384 else 64) * e.1))).sum

/-- Census of a bank (12 R354): an element without an entry reads count 0 and die 0xF_FFFF; an empty bank reads its default. -/
def Node.bankCensus (n : Node) (b : Nat) : Nat :=
  match n.clr.banks.find? (·.1 == b) with
  | none => n.rd (Ob.bank_census b)
  | some x => ((upTo 4096).map (fun k =>
      (assoc (put 63 52 k + put 35 16 0xFFFFF) x.2.cens k) * 2 ^ (64 * k))).sum

/-- State of a bank (12 R354). -/
def Node.bankState (n : Node) (b : Nat) : Nat :=
  let fills := n.clr.issues.any (·.fills b)
  if n.clr.banks.any (·.1 == b) then (if fills then 2 else 1) else if fills then 3 else 0

end Sys2Proof.Machine
end

