-- ==== Sys2Proof/Machine/LoadCheck.lean ====
section
/-! DEFINITION. Step tables: the header, the entries, and the load checks of 09 R245. -/

namespace Sys2Proof.Machine

/-! ### Header and entries -/

/-- Index of the last entry (09 R219). -/
def hLast (h : Nat) : Nat := fld h 495 484
/-- Period P. -/
def hPeriod (h : Nat) : Nat := fld h 479 448
/-- Deadline D. -/
def hDead (h : Nat) : Nat := fld h 447 416
/-- Extension limit D_x. -/
def hExt (h : Nat) : Nat := fld h 415 384
/-- Policy: 0 DROP, 1 EXTEND, 2 ABORT. -/
def hPolicy (h : Nat) : Nat := fld h 383 376

/-- Opcode of an entry (09 R224, R226). -/
def eOp (e : Nat) : Nat := fld e 127 122
/-- Interrupt flag. -/
def eIrq (e : Nat) : Bool := bit e 121
/-- First only. -/
def eFirst (e : Nat) : Bool := bit e 120
/-- Last only. -/
def eLast (e : Nat) : Bool := bit e 119
/-- Tick offset. -/
def eOff (e : Nat) : Nat := fld e 111 80
/-- Region group of LAUNCH, CUT, GATE and CENSUS (09 R227). -/
def eGroup (e : Nat) : Nat := fld e 79 74
/-- LAUNCH, CUT or CENSUS. -/
def eAction (e : Nat) : Bool := eOp e == 1 || eOp e == 2 || eOp e == 10
/-- LAUNCH or CUT. -/
def eRun (e : Nat) : Bool := eOp e == 1 || eOp e == 2
/-- BRANCH comparison. -/
def brCmp (e : Nat) : Nat := fld e 63 60
/-- BRANCH target. -/
def brTarget (e : Nat) : Nat := fld e 59 48
/-- A BRANCH whose comparison is ALWAYS. -/
def eAlways (e : Nat) : Bool := eOp e == 7 && brCmp e == 8
/-- A WAIT, or a BRANCH other than ALWAYS: what ends the known order (09 R231). -/
def eHolds (e : Nat) : Bool := eOp e == 3 || (eOp e == 7 && brCmp e != 8)
/-- LOOP target. -/
def lpTarget (e : Nat) : Nat := fld e 79 68
/-- LOOP count field. -/
def lpCount (e : Nat) : Nat := fld e 67 52
/-- LOOP stride. -/
def lpStride (e : Nat) : Nat := fld e 51 20

/-- The entries of a table, 0 to its last entry, from the object's value (09 R220). -/
def entriesOf (h x : Nat) : List Nat := (upTo (hLast h + 1)).map (fun i => bits x (128 * i) 128)

/-- The loop whose block contains an index: the first LOOP at or after it whose target is at or before it (09 R228). -/
def loopAt (es : List Nat) (i : Nat) : Option (Nat × Nat) :=
  ((es.zipIdx).drop i).find? (fun e => eOp e.1 == 13 && lpTarget e.1 ≤ i)

/-- The next position in execution order after an entry that is processed; a taken BRANCH passes its target (09 R244). The
iteration stays inside a block and is 0 in another. -/
def nextPos (es : List Nat) (i it : Nat) (take : Option Nat) : Nat × Nat :=
  let e := es.getD i 0
  let go := fun (j : Nat) => (j, if ((loopAt es j).map (·.2)) == ((loopAt es i).map (·.2)) then it else 0)
  match take with
  | some t => go t
  | none =>
    if eOp e == 13 && it < lpCount e then (lpTarget e, it + 1)
    else if eOp e == 13 then (i + 1, 0) else go (i + 1)

/-- An entry is skipped in an iteration under its first-only or last-only flag (09 R225). -/
def skipped (es : List Nat) (i it : Nat) : Bool :=
  let e := es.getD i 0
  match loopAt es i with
  | none => false
  | some l => (eFirst e && it != 0) || (eLast e && it != lpCount l.1)

/-- Offset of an entry in an iteration, without slip (09 R228). -/
def effOff (es : List Nat) (i it : Nat) : Nat :=
  eOff (es.getD i 0) + (match loopAt es i with | some l => it * lpStride l.1 | none => 0)

/-! ### Reasons 2 to 5 -/

/-- The header is valid (09 R219). -/
def headerOk (h : Nat) : Bool :=
  fld h 511 496 == 1 && fld h 483 480 == 0 && fld h 375 368 == 0 && fld h 303 0 == 0 && hPolicy h ≤ 2 && 1 ≤ hPeriod h &&
  1 ≤ hDead h && hDead h ≤ hPeriod h &&
  (if hPolicy h == 1 then hDead h < hExt h && hExt h ≤ hPeriod h else hExt h == 0)

/-- D_end: D_x under EXTEND, D otherwise (09 R245). -/
def dEnd (h : Nat) : Nat := if hPolicy h == 1 then hExt h else hDead h

/-- The reserved operand bits of an opcode are 0, and no code in it is reserved; bits [15:6] of a CENSUS mask are reserved (09 R227, 15 R429). -/
def operandCodesOk (e : Nat) : Bool :=
  match eOp e with
  | 0 | 14 => fld e 79 0 == 0
  | 1 => fld e 73 48 == 0
  | 2 => fld e 73 0 == 0
  | 3 => fld e 79 78 != 3 && fld e 65 0 == 0
  | 4 => fld e 51 0 == 0
  | 5 => fld e 67 0 == 0
  | 6 => fld e 61 0 == 0
  | 7 => fld e 63 60 ≤ 8 && fld e 47 32 == 0
  | 8 => fld e 73 72 ≤ 1 && fld e 70 0 == 0
  | 9 => fld e 63 0 == 0
  | 10 => fld e 73 64 == 0 && fld e 57 0 == 0
  | 11 => fld e 79 64 == 0
  | 12 => fld e 75 0 == 0
  | 13 => fld e 19 0 == 0
  | _ => false

/-- Reason 4 does not apply to an entry. -/
def codesOk (e : Nat) : Bool := eOp e ≤ 14 && fld e 118 112 == 0 && operandCodesOk e

/-- Reason 5 does not apply to an entry: its operands are in range and R225 is kept (09 R225, R227). DEDUCED (log entry 33): a BRANCH
target beyond the last entry is out of range. -/
def rangesOk (es : List Nat) (i : Nat) : Bool :=
  let e := es.getD i 0
  let ops := match eOp e with
    | 1 => fld e 47 0 != 0
    | 3 => if fld e 79 78 == 1 then fld e 77 66 ≤ 63 else if fld e 79 78 == 2 then fld e 77 66 ≤ 15 else true
    | 4 => fld e 67 52 != 0
    | 7 => brTarget e < es.length
    | 13 => lpCount e != 0 && !eFirst e && !eLast e
    | _ => true
  ops && !(eFirst e && eLast e) && (!(eFirst e || eLast e) || (loopAt es i).isSome)

/-! ### Execution orders -/

/-- Iterations looked at of a loop: all of a short one; of a long one the first five and the last four, between which nothing differs
from its neighbours but the shift. -/
def itersOf (count : Nat) : List Nat :=
  if count ≤ 8 then upTo (count + 1) else [0, 1, 2, 3, 4, count - 3, count - 2, count - 1, count]

/-- The positions of all execution orders in order: an index outside every block once, a block once for each iteration looked
at. -/
def positionsFrom (es : List Nat) : Nat → Nat → List (Nat × Nat)
  | 0, _ => []
  | fuel + 1, i =>
    if es.length ≤ i then []
    else match (es.zipIdx).find? (fun e => eOp e.1 == 13 && lpTarget e.1 == i && i ≤ e.2) with
      | none => (i, 0) :: positionsFrom es fuel (i + 1)
      | some l => ((itersOf (lpCount l.1)).flatMap (fun it => (upTo (l.2 + 1 - i)).map (fun j => (i + j, it)))) ++
          positionsFrom es fuel (l.2 + 1)

/-- What is known of the orders that reach a position: the greatest offset of the entry before it, of a WAIT or conditional BRANCH
before it, and of the last, second last and third last LAUNCH or CUT and the last CENSUS. -/
structure Reach where
  /-- Last entry processed. -/
  last : Nat := 0
  /-- Last WAIT or conditional BRANCH. -/
  hold : Option Nat := none
  /-- Last run action. -/
  r1 : Option Nat := none
  /-- Second last run action. -/
  r2 : Option Nat := none
  /-- Third last run action. -/
  r3 : Option Nat := none
  /-- Last CENSUS. -/
  cen : Option Nat := none
  deriving DecidableEq, Repr

/-- The greater of two, none being least. -/
def optMax : Option Nat → Option Nat → Option Nat
  | none, b => b
  | a, none => a
  | some a, some b => some (max a b)

/-- Two ways to reach a position. -/
def Reach.merge (a b : Reach) : Reach :=
  { last := max a.last b.last, hold := optMax a.hold b.hold, r1 := optMax a.r1 b.r1, r2 := optMax a.r2 b.r2, r3 := optMax a.r3 b.r3
    cen := optMax a.cen b.cen }

/-- A position key. -/
def posKey (p : Nat × Nat) : Nat := p.1 * 65536 + p.2

/-- A way to a position is noted. -/
def noteReach (m : List (Nat × Reach)) (k : Nat) (r : Reach) : List (Nat × Reach) :=
  match m.find? (·.1 == k) with
  | some x => (m.filter (fun e => e.1 != k)) ++ [(k, x.2.merge r)]
  | none => m ++ [(k, r)]

/-- Findings of the walk over all execution orders: for each of the reasons 6, 10 and 11 the lowest offending entry. -/
structure Findings where
  /-- Ways not yet followed. -/
  ways : List (Nat × Reach) := [(0, {})]
  /-- Reason 6. -/
  bad6 : Option Nat := none
  /-- Reason 10. -/
  bad10 : Option Nat := none
  /-- Reason 11. -/
  bad11 : Option Nat := none
  deriving DecidableEq, Repr

/-- The lower of two, none being greatest. -/
def optMin : Option Nat → Option Nat → Option Nat
  | none, b => b
  | a, none => a
  | some a, some b => some (min a b)

/-- A finding of an entry when a test fails. -/
def foundAt (bad : Bool) (i : Nat) : Option Nat := if bad then some i else none

/-- Less than 512 after an earlier action. -/
def tooClose (t : Nat) (o : Option Nat) : Bool :=
  match o with
  | some x => decide (t < x + 512)
  | none => false

/-- The next iteration looked at after one. -/
def nextIter (count it : Nat) : Nat := if 8 < count && it == 4 then count - 3 else it + 1

/-- The successors of a position: both ways of a conditional BRANCH. -/
def successors (es : List Nat) (i it : Nat) : List (Nat × Nat) :=
  let e := es.getD i 0
  if eOp e == 14 then []
  else if eAlways e then [nextPos es i it (some (brTarget e))]
  else if eOp e == 7 then [nextPos es i it (some (brTarget e)), nextPos es i it none]
  else if eOp e == 13 && it < lpCount e then [(lpTarget e, if lpTarget e ≤ i then nextIter (lpCount e) it else 0)]
  else [nextPos es i it none]

/-- The lowest entry that a position sends the walk to at an offset below its own: what a way back to an earlier entry shows. -/
def stepsBack (es : List Nat) (t : Nat) (l : List (Nat × Nat)) : Option Nat :=
  (l.filter (fun q => q.1 < es.length && !skipped es q.1 q.2 && effOff es q.1 q.2 < t)).foldl (fun a q => optMin a (some q.1)) none

/-- What a processed entry adds to a way. -/
def Reach.pass (r : Reach) (e t : Nat) : Reach :=
  let r1 := { r with last := t }
  let r2 := if eHolds e then { r1 with hold := some t } else r1
  if eRun e then { r2 with r1 := some t, r2 := r.r1, r3 := r.r2 } else if eOp e == 10 then { r2 with cen := some t } else r2

/-- One position of the walk over all execution orders (09 R245). -/
def walkPos (es : List Nat) (d dcut : Nat) (f : Findings) (p : Nat × Nat) : Findings :=
  match f.ways.find? (·.1 == posKey p) with
  | none => f
  | some w =>
    let i := p.1
    let it := p.2
    let e := es.getD i 0
    let rest := f.ways.filter (fun x => x.1 != posKey p)
    if skipped es i it then
      { f with ways := noteReach rest (posKey (nextPos es i it (some (i + 1)))) w.2 }
    else
      let t := effOff es i it
      let r := w.2.pass e t
      { ways := (successors es i it).foldl (fun m q => noteReach m (posKey q) r) rest
        bad6 := optMin (optMin f.bad6 (stepsBack es t (successors es i it))) (foundAt (decide (t < w.2.last) || decide (d ≤ t)) i)
        bad10 := optMin f.bad10 (foundAt (eAction e && (match w.2.hold with | some x => decide (t < x + 1544) | none => false)) i)
        bad11 := optMin f.bad11 (foundAt ((eRun e && tooClose t w.2.r3) || (eOp e == 10 && tooClose t w.2.cen) ||
          (eOp e == 14 && dcut != 0 && tooClose dcut w.2.r3)) i) }

/-- The walk over all execution orders; the deadline cut stands at D under DROP and at D_x under EXTEND (09 R245, R253). -/
def walkOrders (h : Nat) (es : List Nat) : Findings :=
  (positionsFrom es (es.length + 1) 0).foldl
    (walkPos es (hDead h) (if hPolicy h == 0 then hDead h else if hPolicy h == 1 then hExt h else 0)) {}

/-! ### Reasons 7 to 12 and the verdict -/

/-- Reason 8 applies to an entry. -/
def branchBad (es : List Nat) (i : Nat) : Bool :=
  let e := es.getD i 0
  eOp e == 7 && (brTarget e ≤ i || eOff (es.getD (brTarget e) 0) < eOff e ||
    (loopAt es i).map (·.2) != (loopAt es (brTarget e)).map (·.2))

/-- Reason 9 applies to an entry. -/
def loopBad (es : List Nat) (i : Nat) : Bool :=
  let e := es.getD i 0
  eOp e == 13 && (i ≤ lpTarget e ||
    ((es.zipIdx).any (fun x => eOp x.1 == 13 && lpTarget e ≤ x.2 && x.2 < i)) ||
    decide (lpStride e + eOff (es.getD (lpTarget e) 0) < eOff e) ||
    (es.drop (i + 1)).any (fun x => decide (eOff x < eOff e + lpCount e * lpStride e)))

/-- The first entry for which a test holds. -/
def firstBad (es : List Nat) (f : Nat → Bool) : Option Nat := (upTo es.length).find? f

/-- The second AUDIT entry. -/
def secondAudit (es : List Nat) : Option Nat :=
  (((es.zipIdx).filter (fun e => eOp e.1 == 11)).drop 1).head?.map (·.2)

/-- The load checks: the first failing reason and the first offending entry, 0xFFFF for none; reason 0 when every check passes
(09 R221, R245). -/
def loadCheck (digestOk : Bool) (h : Nat) (es : List Nat) : Nat × Nat :=
  let at_ := fun (reason : Nat) (o : Option Nat) => o.map (fun i => (reason, i))
  let f := walkOrders h es
  let l : List (Option (Nat × Nat)) :=
    [if digestOk then none else some (1, 0xFFFF), if headerOk h then none else some (2, 0xFFFF),
     if hPeriod h < dEnd h + 9007 then some (3, 0xFFFF) else none,
     at_ 4 (firstBad es (fun i => !codesOk (es.getD i 0))), at_ 5 (firstBad es (fun i => !rangesOk es i)), at_ 6 f.bad6,
     if eOp (es.getLastD 0) == 14 then none else some (7, hLast h), at_ 8 (firstBad es (branchBad es)), at_ 9 (firstBad es (loopBad es)),
     at_ 10 f.bad10, at_ 11 f.bad11, at_ 12 (secondAudit es)]
  (l.findSome? id).getD (0, 0xFFFF)

end Sys2Proof.Machine
end

