-- ==== Sys2Proof/Machine/Sequencer.lean ====
section
/-! DEFINITION. Step table slots and the sequencer (09). -/

namespace Sys2Proof.Machine

/-! ### Table slots -/

/-- Number of table slots (09 R220). -/
def Node.tableSlots (n : Node) : Nat := if n.kind == .edge then 4 else 16

/-- A context holds a slot: its step is ARMED, CONFIRMED or FIRED with that table (09 R222). -/
def Node.holdsSlot (n : Node) (t c : Nat) : Bool := n.stepHeld c && (n.ctxOf c).table == t

/-- The contexts that hold a slot, as bits (09 R222, object 0x4010+t.07). -/
def Node.slotUse (n : Node) (t : Nat) : Nat := ((upTo n.ctxCount).map (fun c => if n.holdsSlot t c then 2 ^ c else 0)).sum

/-- Header of a slot. -/
def Node.header (n : Node) (t : Nat) : Nat := n.rd (Ob.tab_header t)

/-- Entries of a slot. -/
def Node.entries (n : Node) (t : Nat) : List Nat := entriesOf (n.header t) (n.rd (Ob.tab_entries t))

/-- The bytes that a table's digest covers: the header and its entries as the objects hold them (09 R220). -/
def tableBytes (h : Nat) (es : List Nat) : List Nat := leBytes 64 h ++ es.flatMap (leBytes 16)

/-- An AUDIT entry with its expected tag 0 (13 R362). -/
def zeroAudit (e : Nat) : Nat := if eOp e == 11 then e - e % 2 ^ 64 else e

/-- The program digest of a slot as the key holds it: zeros for a slot that is not resident (13 R361). -/
def Node.keyProg (n : Node) (t : Nat) : Nat := if n.rd (Ob.tab_state t) == 2 then n.rd (Ob.prog_programDigest t) else 0

/-- A change of a slot: where the key's program digest changes with it, a recomputation starts (13 R363). -/
def Node.changeSlot (n : Node) (t : Nat) (f : Node → Node) : Node :=
  let n1 := f n
  if n1.keyProg t == n.keyProg t then n1 else n1.keyInput 6

/-- A write to a slot's header, entries or digest: state 1, and a running commit is void (09 R221). -/
def Node.touchSlot (n : Node) (t : Nat) : Node :=
  n.changeSlot t (fun n => (n.wr (Ob.tab_state t) 1).modTslot t (fun x => { x with commitAt := none }))

/-- Command 1: the commit starts; refused while a context holds the slot (09 R221, R222). -/
def tableCommit (t : Nat) (n : Node) : Node :=
  n.journaled (fun n => n.needsFn 0 (fun n => n.accept (n.slotUse t == 0) (fun n =>
    (n.touchSlot t).modTslot t (fun x => { x with commitAt := some n.tb1 }))))

/-- `TABLE_COMMIT` (09 R221). -/
def execTableCommit (t : Nat) (s : State) : Host.Outcome State Fault Refusal :=
  onObj s .tsu (decide (t < s.tsu.tableSlots)) (tableCommit t)

/-- A running commit completes: the digest is posted and compared, the checks are run, and the slot is resident or refused with cause
0x39; the program digest of a resident slot is a key input (09 R221, R245; 13 R362, R363). -/
def tableCommitDone (t : Nat) (n : Node) : Node :=
  when (n.tslotOf t).commitAt.isSome (fun n => n.changeSlot t (fun n =>
    let h := n.header t
    let es := n.entries t
    let dig := blake3 (tableBytes h es)
    let prog := blake3 (tableBytes h (es.map zeroAudit))
    let r := loadCheck (dig == n.rd (Ob.tab_digest t)) h es
    let n1 := (((n.wr (Ob.tab_computedDigest t) dig).wr (Ob.tab_refusal t) (put 31 16 r.2 + r.1)).wr (Ob.prog_programDigest t) prog).modTslot t
      (fun x => { x with commitAt := none })
    if r.1 == 0 then n1.wr (Ob.tab_state t) 2
    else (n1.wr (Ob.tab_state t) 3).fault { cause := 0x39, obj := t, detail := put 79 72 r.1 + put 71 56 r.2 })) n

/-- `TABLE_COMMIT_DONE` (09 R245). -/
def execTableCommitDone (t : Nat) (s : State) : Host.Outcome State Fault Refusal :=
  onNode s .tsu (decide (t < s.tsu.tableSlots)) (tableCommitDone t)

/-- Command 2: the slot is empty and its objects return to their defaults (09 R221). -/
def tableEmpty (t : Nat) (n : Node) : Node :=
  n.journaled (fun n => n.accept (n.slotUse t == 0) (fun n => n.changeSlot t (fun n =>
    let n1 := overAll [Ob.tab_state t, Ob.tab_header t, Ob.tab_entries t, Ob.tab_digest t, Ob.tab_refusal t, Ob.tab_computedDigest t]
      (fun n o => n.wr o (dfltOf n.kind o)) n
    n1.modTslot t (fun x => { x with commitAt := none }))))

/-- `TABLE_EMPTY` (09 R221). -/
def execTableEmpty (t : Nat) (s : State) : Host.Outcome State Fault Refusal :=
  onObj s .tsu (decide (t < s.tsu.tableSlots)) (tableEmpty t)

/-- An uncorrectable error in a resident slot: refused with reason 13, cause 0x3F for each step that uses it, and the steps are aborted
(09 R223). Without such a step there is one record without a context. -/
def tableStorageError (t k : Nat) (n : Node) : Node :=
  when (n.rd (Ob.tab_state t) == 2) (fun n =>
    let users := (upTo n.ctxCount).filter (n.holdsSlot t)
    let n1 := n.changeSlot t (fun n => (n.wr (Ob.tab_state t) 3).wr (Ob.tab_refusal t) (put 31 16 k + 13))
    if users.isEmpty then n1.fault { cause := 0x3F, obj := t, detail := put 79 68 k }
    else overAll users (fun n c => n.strikeStep c 0x3F t (put 79 68 k)) n1) n

/-- `TABLE_STORAGE_ERROR` (09 R223). -/
def execTableStorageError (t k : Nat) (s : State) : Host.Outcome State Fault Refusal :=
  onNode s .tsu (decide (t < s.tsu.tableSlots)) (tableStorageError t k)

/-! ### The walk -/

/-- The entries of the table of a context's step. -/
def Node.stepEntries (n : Node) (c : Nat) : List Nat := n.entries (n.ctxOf c).table

/-- The header of the table of a context's step. -/
def Node.stepHeader (n : Node) (c : Nat) : Nat := n.header (n.ctxOf c).table

/-- The effective tick of an entry in an iteration (09 R228). -/
def Node.effTick (n : Node) (c : Nat) (es : List Nat) (i it : Nat) : Nat := (n.ctxOf c).fire + effOff es i it + (n.ctxOf c).slip

/-- The next entry of the walk that is processed on its own tick: action entries and entries skipped in the iteration are passed
over (09 R225, R229). -/
def nextReal (es : List Nat) : Nat → Nat → Nat → Nat × Nat
  | 0, i, it => (i, it)
  | fuel + 1, i, it =>
    if i < es.length && (eAction (es.getD i 0) || skipped es i it) then
      let p := nextPos es i it (some (i + 1))
      nextReal es fuel p.1 p.2
    else (i, it)

/-- Where the walk of a context stands. -/
def Node.walkAt (n : Node) (c : Nat) : Nat × Nat :=
  let es := n.stepEntries c
  nextReal es es.length (n.ctxOf c).entry (n.ctxOf c).iter

/-- The step status shows where the walk stands (09 R260). -/
def Node.showWalk (n : Node) (c : Nat) : Node :=
  let p := n.walkAt c
  n.modCtx c (fun x => { x with shownE := p.1, shownI := p.2 })

/-- The walk moves on past the entry it stands at (09 R244). -/
def Node.advance (n : Node) (c i it : Nat) (take : Option Nat) : Node :=
  let p := nextPos (n.stepEntries c) i it take
  (n.modCtx c (fun x => { x with entry := p.1, iter := p.2 })).showWalk c

/-- The entry at which the walk of a context stands is due: its opcode (09 R229). -/
def Node.dueOp (n : Node) (c : Nat) : Option Nat :=
  let es := n.stepEntries c
  let (i, it) := n.walkAt c
  if n.fired c && n.walk c == 1 && i < es.length && n.effTick c es i it ≤ n.tb1 then some (eOp (es.getD i 0)) else none

/-- Process the entry at which the walk of a context stands, when it has the opcode and its effective tick has come (09 R229): the
interrupt flag asserts the entry source (09 R224). The action gets the entry, its index, iteration and effective tick. -/
def onEntry (c op : Nat) (act : Nat → Nat → Nat → Nat → Node → Node) (n : Node) : Node :=
  let es := n.stepEntries c
  let (i, it) := n.walkAt c
  let e := es.getD i 0
  when (n.dueOp c == some op) (fun n =>
    act e i it (n.effTick c es i it) (if eIrq e then n.irqEvent (0x40 + c) else n)) n

/-- A command of the sequencer of one context. -/
def onCtx (c : Nat) (s : State) (f : Node → Node) : Host.Outcome State Fault Refusal := onNode s .tsu (decide (c < s.tsu.ctxCount)) f

/-- NOP (09 R226). -/
def entryNop (c _e i it _t : Nat) (n : Node) : Node := n.advance c i it none

/-- The condition of a WAIT holds as of a tick (09 R235). -/
def Node.waitHolds (n : Node) (c e tick : Nat) : Bool :=
  let x := n.ctxOf c
  let o := fld e 77 66
  if fld e 79 78 == 0 then
    let slot := entrySlot (n.transEntry c o)
    x.released.any (fun r => r.1 == slot && r.2.1 ≤ tick)
  else if fld e 79 78 == 1 then
    (x.launched.filter (fun r => n.inGroup r.region o)).all (fun r => match r.fin with
      | some f => f + 1024 ≤ tick
      | none => false)
  else match n.clr.issues.find? (fun i => i.ctx == c && i.hnd == o && i.step == x.step) with
    | some i => i.present
    | none => true

/-- A barrier release that satisfies a WAIT taints the step as it taints any waiter's (11 R298). -/
def Node.waitTaint (n : Node) (c e tick : Nat) : Node :=
  if fld e 79 78 == 0 then
    let slot := entrySlot (n.transEntry c (fld e 77 66))
    match (n.ctxOf c).released.find? (fun r => r.1 == slot && r.2.1 ≤ tick) with
    | some r => n.taintBy c slot r.2.2
    | none => n
  else n

/-- Why a WAIT of kind 0 is refused with cause 0x44, 0 where it is not (11 R291). -/
def Node.waitCase (n : Node) (c e : Nat) : Nat :=
  if fld e 79 78 == 0 then n.spanCase { op := 4, ctx := c, vid := fld e 77 66, unit := n.unitOf 1023 seqCore } else 0

/-- A WAIT on its tick: refused, satisfied, a fault under Strict, or the walk holds (09 R235, R236; 11 R291). -/
def entryWait (c e i it t : Nat) (n : Node) : Node :=
  if n.waitCase c e != 0 then
    n.tallyFault 0x44 c (n.unitOf 1023 seqCore) (spanObj (fld e 77 66) (entrySlot (n.transEntry c (fld e 77 66)))) (put 79 72 (n.waitCase c e)) true
  else if n.waitHolds c e t then (n.waitTaint c e t).advance c i it none
  else if n.strict then
    n.deadlineFault c 0x3D i (put 79 78 (fld e 79 78) + put 77 66 (fld e 77 66) + put 47 0 (n.ctxOf c).step)
  else (n.wr (Ob.seq_walkState c) 2).modCtx c (fun x => { x with waitE := some t })

/-- A held walk resumes on the first tick its condition holds: the slip grows and the step is tainted (09 R236). -/
def waitResume (c : Nat) (n : Node) : Node :=
  let (i, it) := n.walkAt c
  let e := (n.stepEntries c).getD i 0
  match (n.ctxOf c).waitE with
  | none => n
  | some t => when (n.fired c && n.walk c == 2 && n.waitHolds c e n.tb1) (fun n =>
      let slip := n.tb1 - t
      let n1 := ((n.waitTaint c e n.tb1).taint c 0).addTo (Ob.seq_slip c) slip
      ((n1.wr (Ob.seq_walkState c) 1).modCtx c (fun x => { x with slip := x.slip + slip, waitE := none })).advance c i it none) n

/-- The sequencer's request on a span tally, issued on the entry's effective tick; its Tab is 0 (09 R237; 11 R283, R295, R302). -/
def Node.seqTally (n : Node) (c op vid arg t : Nat) : Node :=
  n.spanRequest { op := op, ctx := c, vid := vid, unit := n.unitOf 1023 seqCore, arg := arg, tick := t }

/-- SIGNAL (09 R237). -/
def entrySignal (c e i it t : Nat) (n : Node) : Node := (n.seqTally c 2 (fld e 79 68) (fld e 67 52) t).advance c i it none

/-- ARRIVE (09 R237). -/
def entryArrive (c e i it t : Nat) (n : Node) : Node := (n.seqTally c 3 (fld e 79 68) 0 t).advance c i it none

/-- The detail of cause 0x3C: entry index and step (14 R405). -/
def Node.absent (n : Node) (c hnd i : Nat) : Node := n.deadlineFault c 0x3C hnd (put 79 68 i + put 47 0 (n.ctxOf c).step)

/-- The step of a deferred CLEAR sends (09 R246). -/
def clearSends (every step : Nat) : Bool := every ≤ 1 || step % every == every - 1

/-- A CLEAR on its tick (09 R240, R246). -/
def entryClear (c e i it t : Nat) (n : Node) : Node :=
  let hnd := fld e 79 76
  let every := fld e 67 62 + 1
  if clearSends every (n.ctxOf c).step && ((n.issueOf c hnd).map Issue.live).getD false then n.absent c hnd i
  else (n.clearAt c hnd (fld e 75 68) t every).advance c i it none

/-- The last completed result of a handle in the span instance, while its bank holds it (09 R238). -/
def Node.lastResult (n : Node) (c hnd : Nat) : Option Bank :=
  match n.clr.last.find? (·.1 == 16 * c + hnd) with
  | none => none
  | some l =>
    match n.clr.banks.find? (·.1 == l.2) with
    | some b => if b.2.ctx == c && b.2.hnd == hnd then some b.2 else none
    | none => none

/-- The result a BRANCH uses: that of the latest issue of the handle in the step, or without an issue the last completed one
(09 R238, R239). -/
def Node.branchResult (n : Node) (c hnd : Nat) : Option Bank :=
  match n.clr.issues.find? (fun i => i.ctx == c && i.hnd == hnd && i.step == (n.ctxOf c).step) with
  | none => n.lastResult c hnd
  | some i => if i.present then n.lastResult c hnd else none

/-- An ordered comparison of BRANCH by its code (09 R238). -/
def cmpHolds (code : Nat) (a b : Int) : Bool :=
  if code == 0 then a == b else if code == 1 then a != b else if code == 2 then a < b else if code == 3 then a ≤ b
  else if code == 4 then b < a else b ≤ a

/-- A BRANCH comparison holds on a result (09 R238). -/
def branchHolds (b : Bank) (e : Nat) : Bool :=
  let el := fld e 75 64
  let x := assoc 0 b.vals el
  let code := brCmp e
  let imm := fld e 31 0
  if code == 8 then true
  else if code == 7 then imm ≤ fld (assoc 0 b.cens el) 51 36
  else if dOut b.descW == 3 then code != 6 && cmpHolds code (toS 64 x) (toS 32 imm)
  else if code == 6 then (fpKey (dOut b.descW) x).isNone
  else match fpKey (dOut b.descW) x, fpKey 0 imm with
    | some u, some v => cmpHolds code u v
    | _, _ => code == 1

/-- A BRANCH on its tick: the next entry is chosen, or its result is absent (09 R238, R239). -/
def entryBranch (c e i it _t : Nat) (n : Node) : Node :=
  if eAlways e then n.advance c i it (some (brTarget e))
  else match n.branchResult c (fld e 79 76) with
    | none => n.absent c (fld e 79 76) i
    | some b => n.advance c i it (if branchHolds b e then some (brTarget e) else none)

/-- GATE (09 R241): in effect for runs launched at least 1,544 ticks after. -/
def entryGate (c e i it t : Nat) (n : Node) : Node :=
  (n.modCtx c (fun x => { x with gates := x.gates ++ [(eGroup e, fld e 73 72, bit e 71, t + 1544)] })).advance c i it none

/-- A mark record (09 R242). -/
def markRecord (step i t value it : Nat) : Nat :=
  putField 0 6 step + putField 6 2 i + putField 8 8 t + putField 16 2 value + putField 18 2 it

/-- MARK (09 R242): the queue holds 16 records. -/
def entryMark (c e i it t : Nat) (n : Node) : Node :=
  let n1 :=
    if (n.ctxOf c).marks.length < 16 then
      n.modCtx c (fun x => { x with marks := x.marks ++ [markRecord x.step i t (fld e 79 64) it] })
    else n.bump (Ob.seq_marksDropped c)
  n1.advance c i it none

/-- AUDIT (09 R244). -/
def entryAudit (c e i it _t : Nat) (n : Node) : Node := (n.modCtx c (fun x => { x with audit := some (fld e 63 0) })).advance c i it none

/-- PULSE (09 R244). -/
def entryPulse (c e i it _t : Nat) (n : Node) : Node := (n.irqEvent (0x100 + fld e 79 76)).advance c i it none

/-- LOOP: the walk goes to the target, or on after the last iteration (09 R244). -/
def entryLoop (c _e i it _t : Nat) (n : Node) : Node := n.advance c i it none

/-- END: the walk ends (09 R244). -/
def entryEnd (c _e _i _it _t : Nat) (n : Node) : Node := n.wr (Ob.seq_walkState c) 3

/-- Process the entry at which the walk of a context stands, if it is due, by its opcode (09 R226). -/
def Node.stepEntry (n : Node) (c : Nat) : Node :=
  match n.dueOp c with
  | some 0 => onEntry c 0 (entryNop c) n
  | some 3 => onEntry c 3 (entryWait c) n
  | some 4 => onEntry c 4 (entrySignal c) n
  | some 5 => onEntry c 5 (entryArrive c) n
  | some 6 => onEntry c 6 (entryClear c) n
  | some 7 => onEntry c 7 (entryBranch c) n
  | some 8 => onEntry c 8 (entryGate c) n
  | some 9 => onEntry c 9 (entryMark c) n
  | some 11 => onEntry c 11 (entryAudit c) n
  | some 12 => onEntry c 12 (entryPulse c) n
  | some 13 => onEntry c 13 (entryLoop c) n
  | some 14 => onEntry c 14 (entryEnd c) n
  | _ => n

/-- The entries of a context that are due, in execution order; a held walk resumes first (09 R232, R236). -/
def runDue (c : Nat) : Nat → Node → Node
  | 0, n => n
  | fuel + 1, n =>
    let n1 := waitResume c n
    if (n1.dueOp c).isSome then runDue c fuel (n1.stepEntry c) else n1

/-- More entries than any walk can process. -/
def walkBound : Nat := 65536 * 4096

/-! ### Actions -/

/-- M(E) of an action (09 R229). -/
def markerFor (e : Nat) : Nat := 512 * ((e - 1024) / 512)

/-- The commit tick C(E) (09 R229). -/
def commitTick (e : Nat) : Nat := markerFor e - 8

/-- The action entries of the known order whose commit tick has come, in execution order, with index, iteration and effective tick
(09 R229, R231). -/
def dueActions (es : List Nat) (eff : Nat → Nat → Nat) (now : Nat) : Nat → Nat → Nat → List (Nat × Nat × Nat)
  | 0, _, _ => []
  | fuel + 1, i, it =>
    if es.length ≤ i then []
    else
      let e := es.getD i 0
      if skipped es i it then
        let p := nextPos es i it (some (i + 1))
        dueActions es eff now fuel p.1 p.2
      else if now < commitTick (eff i it) || eHolds e || eOp e == 14 then []
      else
        let p := nextPos es i it (if eAlways e then some (brTarget e) else none)
        let rest := dueActions es eff now fuel p.1 p.2
        if eAction e then (i, it, eff i it) :: rest else rest

/-- The index that stands for the deadline cut of DROP and EXTEND (09 R253). -/
def cutIndex : Nat := 4096

/-- The tick of the deadline cut, if the policy places one (09 R253). -/
def deadlineCut (h fire : Nat) : Option Nat :=
  if hPolicy h == 0 then some (fire + hDead h) else if hPolicy h == 1 then some (fire + hExt h) else none

/-- The actions of a context that are due and not yet committed; an action slipped to the deadline or beyond is not committed
(09 R229, R236, R253). -/
def Node.actionsDue (n : Node) (c : Nat) : List (Nat × Nat × Nat) :=
  let x := n.ctxOf c
  let es := n.stepEntries c
  let h := n.stepHeader c
  let l := if n.walk c == 3 || n.walk c == 4 then [] else
    (dueActions es (n.effTick c es) n.tb1 (es.length * 65536) x.entry x.iter).filter (fun a => a.2.2 < x.fire + hDead h)
  let cut := match deadlineCut h x.fire with
    | some t => if commitTick t ≤ n.tb1 then [(cutIndex, 0, t)] else []
    | none => []
  (l ++ cut).filter (fun a => !x.committed.contains (a.1, a.2.1))

/-- The action of an entry (09 R234, R243). -/
def Node.actionOf (n : Node) (c : Nat) (a : Nat × Nat × Nat) : Action :=
  let x := n.ctxOf c
  let e := (n.stepEntries c).getD a.1 0
  let dead := x.fire + hDead (n.stepHeader c)
  if a.1 == cutIndex then { op := 2, ctx := c, grp := 63, tick0 := a.2.2, dead := dead, step := x.step }
  else if eOp e == 10 then { op := 4, ctx := c, grp := eGroup e, tick0 := a.2.2, work := fld e 73 58, dead := dead, step := x.step }
  else if eOp e == 1 then { op := 1, ctx := c, grp := eGroup e, tick0 := a.2.2, work := fld e 47 0, dead := dead, step := x.step }
  else { op := 2, ctx := c, grp := eGroup e, tick0 := a.2.2, dead := dead, step := x.step }

/-- The actions that hold the slots an action wants, when they are all taken: slot 3 for CENSUS, slots 0 to 2 for the others
(09 R229, R233). -/
def Node.slotTaken (n : Node) (a : Action) : Option (List Action) :=
  let same := n.bus.placed.filter (fun b => markerFor b.tick0 == markerFor a.tick0 && (b.op == 4) == (a.op == 4))
  if (if a.op == 4 then 1 else 3) ≤ same.length then some same else none

/-- An action that finds its slots taken: cause 0x3E, and the step is aborted (09 R233). Which of three taken slots the record names, and
the entry index of a deadline cut, are free values (log entry 41). -/
def Node.slotConflict (n : Node) (c : Nat) (a : Nat × Nat × Nat) (act : Action) (held : List Action) : Node :=
  let x := n.takeFree
  let y := x.2.takeFree
  let k := if act.op == 4 then 0 else x.1 % 3
  let entry := if a.1 == cutIndex then y.1 else a.1
  (y.2.bump Ob.tabs_actionConflicts).strikeStep c 0x3E entry
    (put 79 74 (held.getD k act).ctx + put 73 71 (if act.op == 4 then 3 else k) + put 47 0 (n.ctxOf c).step)

/-- One action is placed, or finds its slot taken: cause 0x3E, and the step is aborted (09 R233). -/
def Node.commitAction (n : Node) (c : Nat) (a : Nat × Nat × Nat) : Node :=
  let act := n.actionOf c a
  if !(n.escrow c == 2 || n.escrow c == 3) || (n.ctxOf c).cause != 0 then n
  else match n.slotTaken act with
  | some held => n.slotConflict c a act held
  | none =>
    let n1 := (n.modBus (fun b => { b with placed := b.placed ++ [act] })).modCtx c
      (fun x => { x with committed := x.committed ++ [(a.1, a.2.1)] })
    if a.1 != cutIndex && eIrq ((n.stepEntries c).getD a.1 0) then n1.irqEvent (0x40 + c) else n1

/-- A context still ARMED at its horizon raises cause 0x31 and does not fire: kind 1 the first commit tick, 2 the guard instant
(09 R230, 01 R41, 10 R265). -/
def Node.unconfirmed (n : Node) (c kind : Nat) : Node :=
  let x := n.ctxOf c
  (n.bump (Ob.ctx_unconfirmed c)).strikeStep c 0x31 x.table (put 79 72 kind + put 71 64 x.attempt + put 47 0 x.step)

/-- The commit tick of the first action entry of an ARMED context's known order has come (09 R230). -/
def Node.firstCommitPassed (n : Node) (c : Nat) : Bool := !((n.actionsDue c).filter (fun a => a.1 != cutIndex)).isEmpty

/-- At a commit tick the actions due of a CONFIRMED or FIRED step are placed (09 R229, R233). -/
def Node.commitActions (n : Node) (c : Nat) : Node :=
  if n.escrow c == 2 || n.escrow c == 3 then overAll (n.actionsDue c) (fun n a => n.commitAction c a) n else n

/-- What falls due in a context on a tick: its entries in execution order, and its actions (09 R229, R232). -/
def Node.serveCtx (n : Node) (c : Nat) : Node := (runDue c walkBound n).commitActions c

/-- At a commit tick the actions due are placed; a context still ARMED is unconfirmed at its horizon (09 R229, R230, R233). -/
def actionCommit (c : Nat) (n : Node) : Node :=
  if n.escrow c == 1 then when (n.firstCommitPassed c) (fun n => n.unconfirmed c 1) n else n.serveCtx c

/-! ### Marks and accumulators -/

/-- A read of the mark object returns and removes the oldest record; an empty queue reads 24 zero bytes (09 R242). -/
def markRead (c : Nat) (n : Node) : Node :=
  let m := (n.ctxOf c).marks
  (n.modCtx c (fun x => { x with marks := x.marks.drop 1 })).answerData 0 (m.headD 0) 24

/-- `MARK_READ` (09 R242). -/
def execMarkRead (c : Nat) (s : State) : Host.Outcome State Fault Refusal := onCtx c s (markRead c)

/-- A command on the release accumulator object: one context and handle, or every accumulator not in use by a step in flight
(09 R258). -/
def releaseAccumulator (v : Nat) (n : Node) : Node :=
  (n.modClr (fun k =>
    { k with defAccs := k.defAccs.filter (fun a =>
        if v == 0xFFFF then n.stepHeld a.ctx else !(a.ctx == fld v 13 8 && a.hnd == fld v 3 0)) })).answer 0

/-- `RELEASE_ACCUMULATOR` (09 R258). -/
def execReleaseAccumulator (v : Nat) (s : State) : Host.Outcome State Fault Refusal := onNode s .tsu true (releaseAccumulator v)

/-! ### The deadline and the end of a step -/

/-- A run of the step was active on the deadline tick (09 R251, R252). -/
def Ctx.runsLate (x : Ctx) (dead : Nat) : Bool :=
  x.launched.any (fun r => r.cutLate || (match r.fin with
    | some f => decide (dead < f)
    | none => true))

/-- The policy in effect: ABORT while Strict is set (09 R255). -/
def Node.policyOf (n : Node) (c : Nat) : Nat := if n.strict then 2 else hPolicy (n.stepHeader c)

/-- The lateness decision at F + D + 1,024 (09 R252, R253). -/
def Node.lateDecision (n : Node) (c : Nat) : Node :=
  let x := n.ctxOf c
  let d := x.fire + hDead (n.stepHeader c)
  let runs := x.runsLate d
  let pol := n.policyOf c
  let setV := fun (v : Nat) (n : Node) => n.modCtx c (fun y => { y with verdict := v })
  if !runs && !x.lateWalk then setV 1 n
  else
    let detail := put 79 72 pol + put 71 64 (ofB runs + 2 * ofB x.lateWalk) + put 47 0 x.step
    let n1 := n.modCensus (fun k => { k with lateSteps := k.lateSteps + 1 })
    if pol == 2 then n1.deadlineFault c 0x30 x.table detail
    else
      let n2 := (n1.ctxFault 0x30 c x.table detail).taint c 7
      if pol == 0 then setV 2 n2
      else (setV 3 (n2.modCtx c (fun y => { y with dead := y.fire + hExt (n.stepHeader c) }))).wr (Ob.seq_walkState c) 4

/-- On the deadline tick the walk is evaluated and stops; at F + D + 1,024 the lateness decision is taken (09 R252). -/
def deadlineEvaluation (c : Nat) (n : Node) : Node :=
  let x := n.ctxOf c
  let d := x.fire + hDead (n.stepHeader c)
  let n1 := if n.fired c && d ≤ n.tb1 && (n.walk c == 1 || n.walk c == 2) then
      (n.stopWalk c).modCtx c (fun y => { y with lateWalk := x.cause == 0 })
    else n
  when (n1.fired c && d + 1024 ≤ n.tb1 && x.verdict == 0 && x.cause == 0) (fun n => n.lateDecision c) n1

/-- A step that may end does (09 R254). -/
def Node.endNow (n : Node) (c oc : Nat) : Node :=
  when (oc != 0) (fun n => n.endStep c oc (if oc == 5 then (n.ctxOf c).cause else if oc == 1 then 0 else 0x30)) n

/-- The outcome with which a step may end now, 0 while it may not (09 R253, R254): an aborted step on the tick of its abort action, an
extended one with its last late run or at F + D_x, any other once the decision is taken. -/
def Node.outcomeNow (n : Node) (c : Nat) : Nat :=
  let x := n.ctxOf c
  if !n.fired c then 0
  else match x.abortAt with
  | some t => if t ≤ n.tb1 then 5 else 0
  | none =>
    if x.cause != 0 || x.verdict == 0 then 0
    else if x.verdict != 3 then x.verdict
    else if x.launched.all (fun r => r.fin.isSome) then (if x.launched.any (·.cutLate) then 4 else 3)
    else if x.dead ≤ n.tb1 then 4 else 0

/-! ### Reads -/

/-- Step status of a context (09 R260). -/
def Node.stepStatus (n : Node) (c : Nat) : Nat :=
  let x := n.ctxOf c
  putField 0 8 x.step + putField 8 1 x.table + putField 12 2 x.shownE + putField 14 2 x.shownI + putField 16 8 x.fire + putField 24 8 x.dead +
  putField 32 8 x.slip + putField 40 8 (ofB x.audit.isSome + 2 * ofB (decide (0 < x.slip)))

/-- Resident slots (09 R258). -/
def Node.residentSlots (n : Node) : Nat := ((upTo n.tableSlots).map (fun t => if n.rd (Ob.tab_state t) == 2 then 2 ^ t else 0)).sum

end Sys2Proof.Machine
end

