-- ==== Sys2Proof/Machine/Escrow.lean ====
section
/-! DEFINITION. Escrow at a TSU (10 R261 to R268, R280; 01 R41, R42). -/

namespace Sys2Proof.Machine

/-! ### Messages -/

/-- An ESCROW message of a kind: 1 ARM, 2 ARM_ACK, 3 CONFIRM, 4 RECALL, 5 TOTAL (10 R262). -/
def isEscrowKind (k : Nat) (m : Msg) : Bool := m.typ == tEscrow && fld m.head 79 76 == k

/-- Context of an ESCROW message. -/
def escCtx (m : Msg) : Nat := fld m.head 75 70
/-- Table slot. -/
def escTable (m : Msg) : Nat := fld m.head 69 66
/-- Copy. -/
def escCopy (m : Msg) : Nat := fld m.head 65 64
/-- Attempt. -/
def escAttempt (m : Msg) : Nat := fld m.head 63 56
/-- Step number. -/
def escStep (m : Msg) : Nat := fld m.head 47 0
/-- Fire tick of an ARM, CONFIRM or RECALL (10 R263). -/
def escFire (m : Msg) : Nat := fld (m.cell 1) 127 64
/-- Horizon lead. -/
def escHorizon (m : Msg) : Nat := fld (m.cell 1) 63 32
/-- Leave back. -/
def escBack (m : Msg) : Nat := fld (m.cell 1) 31 0

/-- An ESCROW message (10 R262). -/
def escMsg (span epoch kind ctx table copy attempt step cont : Nat) : Msg :=
  { typ := tEscrow
    cells := [put 127 112 span + put 111 80 epoch + put 79 76 kind + put 75 70 ctx + put 69 66 table + put 65 64 copy +
        put 63 56 attempt + put 47 0 step, cont] }

/-- The CONT cell of an ARM_ACK or TOTAL (10 R264). -/
def ackCell (ok nak die why carrier high : Nat) : Nat :=
  put 127 108 ok + put 107 88 nak + put 87 68 die + put 67 64 why + put 63 63 carrier + put 47 0 high

/-! ### Readiness -/

/-- The CLEAR entries of a table. -/
def clearEntries (es : List Nat) : List Nat := es.filter (fun e => eOp e == 6)

/-- The descriptors a BRANCH is tested against: those of the CLEAR entries that issue its handle, or without one the descriptor of the
last completed result held (09 R250). -/
def Node.branchDescs (n : Node) (c : Nat) (es : List Nat) (hnd : Nat) : List Nat :=
  let l := (clearEntries es).filter (fun e => fld e 79 76 == hnd)
  if l.isEmpty then (match n.lastResult c hnd with | some b => [b.descW] | none => []) else l.map (fun e => n.desc (fld e 75 68))

/-- Nak reason 3 (09 R250): a descriptor is missing, a BRANCH's element is not below a descriptor's length, or its output is raw. -/
def Node.descReason (n : Node) (c : Nat) (es : List Nat) : Bool :=
  (clearEntries es).any (fun e => n.rd (Ob.dsc_valid (fld e 75 68)) == 0) ||
  (es.filter (fun e => eOp e == 7 && brCmp e != 8)).any (fun e =>
    (n.branchDescs c es (fld e 79 76)).any (fun d => dLen d ≤ fld e 75 64 || dOut d == 4))

/-- The deferred accumulators that a context's table needs and that are not bound yet: handle and descriptor (09 R248, R250). -/
def Node.unbound (n : Node) (c : Nat) (es : List Nat) : List (Nat × Nat) :=
  (((clearEntries es).filter (fun e => fld e 67 62 != 0)).map (fun e => (fld e 79 76, fld e 75 68))).eraseDups.filter
    (fun x => (n.defAcc c x.1 x.2).isNone)

/-- The deferred accumulators that the steps held by other contexts and answered ok still have to bind (09 R248). -/
def Node.promised (n : Node) (c : Nat) : Nat :=
  ((n.ctxs.map (·.1)).map (fun k => if k != c && n.stepHeld k && (n.rd (Ob.ctx_answer k) == 0 || (n.ctxOf k).ackHeld.isSome) then (n.unbound k (n.stepEntries k)).length else 0)).sum

/-- The regions in a group that a LAUNCH entry of a table names (10 R267). -/
def Node.launchRegions (n : Node) (es : List Nat) : List Nat :=
  (upTo n.regionCount).filter (fun r => es.any (fun e => eOp e == 1 && n.inGroup r (eGroup e)))

/-- A region is held stopped (07 R196). -/
def Node.regionStopped (n : Node) (r : Nat) : Bool := (n.agentOf r).stopAt.isSome

/-- A region whose auto-wake an ARM starts: in DOZE with auto-wake 1 (17 R482). -/
def Node.wakes (n : Node) (r : Nat) : Bool := n.rd (Ob.reg_regionState r) == 1 && n.rd (Ob.reg_autoWake r) == 1

/-- Nak reason 9 stands whatever is waited for: a region that is neither ACTIVE nor waking, with clusters isolated, or without a
locked tick lane (10 R267, 14 R396). -/
def Node.regionReason (n : Node) (es : List Nat) : Bool :=
  (n.launchRegions es).any (fun r => (n.rd (Ob.reg_regionState r) != 0 && !n.wakes r) || (n.regionOf r).iso != 0 || (n.followed r).isNone)

/-- A region is waited for: stopped, or in DOZE and waking (07 R199, 17 R482). -/
def Node.regionWait (n : Node) (es : List Nat) : Bool := (n.launchRegions es).any (fun r => n.regionStopped r || n.wakes r)

/-- The lowest nak reason that applies to an ARM, 0 for ok (09 R250, 10 R267); what is waited for under 07 R199 and 17 R482 is no reason
yet. -/
def Node.readiness (n : Node) (c : Nat) (m : Msg) : Nat :=
  let t := escTable m
  let es := n.entries t
  if !(t < n.tableSlots && n.rd (Ob.tab_state t) == 2) then 1
  else if n.strict && hPolicy (n.header t) != 2 then 2
  else if n.descReason c es then 3
  else if escStep m < n.rd (Ob.seq_nextStepNumber c) then 4
  else if n.accCount < n.clr.defAccs.length + n.promised c + (n.unbound c es).length && !(n.unbound c es).isEmpty then 5
  else if !(n.member && n.span == m.span && n.epoch == m.epoch) then 7
  else if n.rd Ob.time_timeState != 2 then 8
  else if n.regionReason es then 9
  else if escFire m ≤ n.tb1 + escHorizon m then 10
  else if n.strict && (upTo (n.rd Ob.vds_viaducts)).any (fun v => n.rd (Ob.vd_context v) == c && n.rd (Ob.vd_mode v) == 2) then 11
  else 0

/-! ### ARM -/

/-- An ARM_ACK leaves on every MEMBER lane, and names the instance that it answers (10 R261, R268). -/
def Node.sendAck (n : Node) (span epoch c attempt step table ok nak why : Nat) : Node :=
  let die := if nak == 0 then 0xFFFFF else n.ident
  n.sendAll ([0, 1].filter (fun p => n.lst p == 6))
    (escMsg span epoch 2 c table 0 attempt step (ackCell ok nak die why 1 (n.rd (Ob.seq_nextStepNumber c))))

/-- The answer of a context is given: posted, counted and sent (10 R267, R268). -/
def Node.giveAnswer (n : Node) (c why : Nat) : Node :=
  let x := n.ctxOf c
  let n1 := (n.wr (Ob.ctx_answer c) why).wr (Ob.seq_nakReason c) (if why ≤ 6 then why else 0)
  let n2 := n1.bump (if why == 0 then Ob.ctx_answeredOk c else Ob.ctx_answeredNak c)
  (n2.modCtx c (fun y => { y with ackHeld := none })).sendAck x.span x.epoch c x.attempt x.step x.table (ofB (why == 0)) (ofB (why != 0)) why

/-- What the tag of the step held last still needs is set aside (13 R370). -/
def Node.keepTag (n : Node) (c : Nat) : Option TagJob :=
  let x := n.ctxOf c
  if x.tagDue then
    some { step := x.step, table := x.table, key := x.keyAtF, prog := x.progAtF
           taint := n.rd (Ob.tag_taintReasons c), audit := x.audit, band := x.firedBand, cls := x.firedClass }
  else x.oldTag

/-- A context takes a new instance (10 R265, R280). -/
def Node.arm (n : Node) (c p : Nat) (m : Msg) : Node :=
  let f := escFire m
  let old := n.keepTag c
  let n1 := n.modCtx c (fun x =>
    { x with
      span := m.span, epoch := m.epoch, step := escStep m, attempt := escAttempt m, table := escTable m, fire := f, hlead := escHorizon m, arm0 := m.cell 1
      armed := true, dead := f + hDead (n.header (escTable m)), entry := 0, iter := 0, slip := 0, waitE := none, committed := []
      lateWalk := false, abortAt := none, waveSent := false, cause := 0, verdict := 0, launched := [], released := [], audit := none
      tagDue := false, oldTag := old, refused := none, ackHeld := none })
  let blob := putField 0 8 (escStep m) + putField 8 1 (escAttempt m) + putField 9 1 (escTable m) + putField 10 1 p + putField 16 8 f +
    putField 24 8 (f - escHorizon m)
  (((((n1.wr (Ob.ctx_escrowState c) 1).wr (Ob.seq_walkState c) 0).wr (Ob.ctx_instance c) blob).wr (Ob.ctx_armTick c) n.tb1).events 0x10 0 1).showWalk c

/-- Auto-wake: the Agents of the waking regions lower `ra_pwr_go` (17 R481, R482). -/
def Node.startWakes (n : Node) (es : List Nat) : Node :=
  overAll ((n.launchRegions es).filter n.wakes) (fun n r =>
    n.modRegion r (fun g => { g with pwrGo := false, phase := 4, phaseAt := n.tb1, target := 0 })) n

/-- The message names the instance that a context holds or last held (10 R261). -/
def Node.sameInstance (n : Node) (c : Nat) (m : Msg) : Bool :=
  let x := n.ctxOf c
  x.armed && x.span == m.span && x.epoch == m.epoch && x.step == escStep m && x.attempt == escAttempt m

/-- An instance as one number (10 R261): span, epoch, step number and attempt. -/
def instKey (m : Msg) : Nat := (fld m.head 127 80 * 2 ^ 48 + escStep m) * 256 + escAttempt m

/-- Answer an ARM without holding its instance; a later copy gets no second answer (10 R268). -/
def Node.answerOnce (n : Node) (c : Nat) (m : Msg) (f : Node → Node) : Node :=
  if (n.ctxOf c).refused == some (instKey m) then n else f (n.modCtx c (fun x => { x with refused := some (instKey m) }))

/-- The answer to an ARM whose instance the TSU does not hold. -/
def Node.ackFor (n : Node) (m : Msg) (ok nak why : Nat) : Node :=
  n.sendAck m.span m.epoch (escCtx m) (escAttempt m) (escStep m) (escTable m) ok nak why

/-- An ARM for a new instance (10 R265, R267, R268): the context is ARMED and answers, or holds its answer. -/
def Node.newInstance (n : Node) (c p : Nat) (m : Msg) : Node :=
  let why := n.readiness c m
  let es := n.entries (escTable m)
  let n1 := n.arm c p m
  if why == 0 && n.regionWait es then (n1.modCtx c (fun x => { x with ackHeld := some n.tb1 })).startWakes es
  else n1.giveAnswer c why

/-- A later copy of the ARM whose content differs from the first: cause 0x32 (10 R265). -/
def Node.copyCheck (n : Node) (c : Nat) (m : Msg) : Node :=
  let x := n.ctxOf c
  if n.escrow c == 1 && !(x.table == escTable m && x.arm0 == m.cell 1) then
    (n.bump (Ob.ctx_unconfirmed c)).strikeStep c 0x32 x.table (put 71 64 x.attempt + put 47 0 x.step)
  else n

/-- An ARM while a step of another instance is held: nak reason 6, once, and the state is unchanged (10 R268). -/
def Node.busyArm (n : Node) (c : Nat) (m : Msg) : Node :=
  n.answerOnce c m (fun n => ((n.wr (Ob.seq_nakReason c) 6).bump (Ob.ctx_answeredNak c)).ackFor m 0 1 6)

/-- Some function of the TSU among 0 to 5 is not ENABLED (16 R463). -/
def Node.drained (n : Node) : Bool := (upTo 6).any (fun f => !n.fnEnabled f)

/-- A TSU takes an ARM (10 R265 to R268; 16 R463). A late copy of an instance that the context has left is dropped and counted. -/
def armReceived (p : Nat) (n : Node) : Node :=
  n.onMsg p (isEscrowKind 1) (fun m n =>
    let c := escCtx m
    if n.ctxCount ≤ c then n.answerOnce c m (fun n => n.ackFor m 0 0 0)
    else if n.sameInstance c m then
      (if n.stepHeld c then n.copyCheck c m else n.bump Ob.esc_staleMessages)
    else
      let n0 := n.noteArm c (escStep m) (escFire m)
      let n1 :=
        if n.stepHeld c then n0.busyArm c m
        else if n.drained then n0.answerOnce c m (fun n => (n.wr (Ob.ctx_answer c) 0xFF).ackFor m 0 0 0)
        else n0.newInstance c p m
      if n1.jrnl.keyJournaled || !n1.member then n1 else n1.journalKey.modJrnl (fun j => { j with keyJournaled := true }))

/-- A held ARM_ACK is sent on the go or once the region is ACTIVE; 256 ticks after the ARM's arrival the answer is nak reason 9
(07 R199, 17 R482). -/
def ackRelease (c : Nat) (n : Node) : Node :=
  match (n.ctxOf c).ackHeld with
  | none => n
  | some t =>
    let es := n.stepEntries c
    if n.escrow c != 1 then n.modCtx c (fun x => { x with ackHeld := none })
    else if !n.regionWait es then n.giveAnswer c (if n.regionReason es then 9 else 0)
    else if t + 256 ≤ n.tb1 then n.giveAnswer c 9 else n

/-- `ARM_ACK_HELD_RELEASE` (07 R199). -/
def execArmAckHeldRelease (c : Nat) (s : State) : Host.Outcome State Fault Refusal := onCtx c s (ackRelease c)

/-! ### CONFIRM, RECALL, the horizon and the fire -/

/-- A CONFIRM or RECALL of the instance held acts on an ARMED context; one that finds the context without its instance is dropped and
counted (10 R261, R265, R266). -/
def escrowVerdict (p kind : Nat) (act : Nat → Node → Node) (n : Node) : Node :=
  n.onMsg p (isEscrowKind kind) (fun m n =>
    let c := escCtx m
    if !(c < n.ctxCount && n.sameInstance c m) || n.escrow c == 0 then n.bump Ob.esc_staleMessages
    else if n.escrow c == 1 then act c n else n)

/-- ARMED becomes CONFIRMED (10 R265). -/
def confirmCtx (c : Nat) (n : Node) : Node := (n.wr (Ob.ctx_escrowState c) 2).wr (Ob.ctx_confirmTick c) n.tb1

/-- ARMED becomes RECALLED, and the next step number is unchanged (10 R265). -/
def recallCtx (c : Nat) (n : Node) : Node :=
  ((n.wr (Ob.ctx_escrowState c) 4).bump (Ob.ctx_recalled c)).modCtx c (fun x => { x with ackHeld := none })

/-- A context still ARMED at its first commit tick or 64 ticks before F does not fire (10 R265; 01 R41, 09 R230). -/
def guardExpiry (c : Nat) (n : Node) : Node :=
  if n.escrow c != 1 then n
  else if n.firstCommitPassed c then n.unconfirmed c 1
  else when ((n.ctxOf c).fire ≤ n.tb1 + 64) (fun n => n.unconfirmed c 2) n

/-- A MEMBER lane of a Strict TSU lacks feature bit 2 (13 R358). -/
def Node.looseLane (n : Node) : Bool :=
  n.strict && [0, 1].any (fun p => n.lst p == 6 && !bit (n.rd (Ob.link_operatingFeatures p)) 2)

/-- Issues of a context that are over are forgotten: their results stay in the banks. -/
def Node.pruneIssues (n : Node) (c : Nat) : Node :=
  n.modClr (fun k => { k with issues := k.issues.filter (fun i => i.ctx != c || i.live) })

/-- The load class of a table slot (15 R424, R436). -/
def Node.loadClass (n : Node) (t : Nat) : Nat := fieldAt (n.rd Ob.aud_loadClasses) t 1 % 16

/-- The fence mask bit of the band and class in which a step fires is set: the step runs fenced (15 R426). -/
def Node.firesFenced (n : Node) (c : Nat) : Bool := bit (n.rd Ob.aud_fenceMask) (16 * n.rd Ob.aud_temperatureBand + n.loadClass (n.ctxOf c).table)

/-- The key in force at the start of a tick: a completion on that tick takes effect after it (13 R363). -/
def Node.keyAtStart (n : Node) (t : Nat) : Nat :=
  match n.key.doneAt with
  | some d => if t ≤ d then n.key.old else n.rd Ob.det_conformanceKey
  | none => n.rd Ob.det_conformanceKey

/-- A CONFIRMED context fires at F: the walk starts, the next step number moves, the taint bit is cleared, and what is taken at F is
kept (10 R265; 09 R247, R249; 13 R358, R360, R363; 15 R418, R424). -/
def stepFire (c : Nat) (n : Node) : Node :=
  let x := n.ctxOf c
  when (n.escrow c == 2 && x.fire ≤ n.tb1) (fun n =>
    let n1 := ((((n.wr (Ob.ctx_escrowState c) 3).wr (Ob.seq_walkState c) 1).wr (Ob.seq_nextStepNumber c) ((x.step + 1) % 2 ^ 48)).wr
      (Ob.tag_taintReasons c) 0).events 0x12 0 1
    let n2 := n1.modClr (fun k =>
      { k with defAccs := k.defAccs.map (fun a => if a.ctx == c then { a with atFire := a.elems, sentIn := none } else a) })
    let n3 := (n2.pruneIssues c).modCtx c (fun y =>
      { y with
        tagDue := true, keyAtF := n.keyAtStart x.fire, progAtF := n.rd (Ob.prog_programDigest x.table), firedBand := n.rd Ob.aud_temperatureBand
        firedClass := n.loadClass x.table, lastLaunch := [] })
    let n4 := if n.firesFenced c then n3.modCensus (fun k => { k with fencedFires := k.fencedFires + 1 }) else n3
    if n4.looseLane then n4.taint c 9 else n4) n

/-- At the F of a recalled instance the context is IDLE again (10 R265). -/
def recalledF (c : Nat) (n : Node) : Node :=
  when (n.escrow c == 4 && (n.ctxOf c).fire ≤ n.tb1) (fun n => n.wr (Ob.ctx_escrowState c) 0) n

end Sys2Proof.Machine
end

