-- ==== Sys2Proof/Machine/InTick.lean ====
section
/-! DEFINITION. The order of what a TSU does on one tick (09 R232, R233; 10 R266; 11 R314): a command that stands for something in a later row first
does what the earlier rows of its tick still owe, whatever the order of the queue (log entry 30). -/

namespace Sys2Proof.Machine

/-! ### The rows -/

/-- The contexts of which the TSU holds state, in ascending order. -/
def Node.ctxNumbers (n : Node) : List Nat := n.ctxs.map (·.1)

/-- Row 1: fault waves received, lane a first, and the steps whose abort action falls on the tick (09 R232, 10 R266, 11 R314). -/
def Node.abortsFirst (n : Node) : Node :=
  let n1 := overAll [0, 1] (fun n p => overAll (n.linkOf p).waveIn (fun n _ => waveReceived p n) n) n
  overAll n1.ctxNumbers (fun n c => n.endAborted c) n1

/-- An ARM, CONFIRM or RECALL. -/
def isVerdict (m : Msg) : Bool := isEscrowKind 1 m || isEscrowKind 3 m || isEscrowKind 4 m

/-- The lane of the escrow message that arrived first, lane a on one tick (10 R266). -/
def Node.nextEscrow (n : Node) : Option Nat :=
  match n.peek 0 isVerdict, n.peek 1 isVerdict with
  | some a, some b => some (if a.first ≤ b.first then 0 else 1)
  | some _, none => some 0
  | none, some _ => some 1
  | none, none => none

/-- Take the escrow message that waits first on a lane. -/
def takeEscrow (p : Nat) (n : Node) : Node :=
  match n.peek p isVerdict with
  | none => n
  | some m =>
    if isEscrowKind 1 m then armReceived p n else if isEscrowKind 3 m then escrowVerdict p 3 confirmCtx n else escrowVerdict p 4 recallCtx n

/-- Take escrow messages in order of arrival until a test holds of the next one, which is taken too; all of them where it never does. -/
def takeEscrows (stop : Nat → Msg → Bool) : Nat → Node → Node
  | 0, n => n
  | fuel + 1, n =>
    match n.nextEscrow with
    | none => n
    | some p => match n.peek p isVerdict with
      | none => n
      | some m => if stop p m then takeEscrow p n else takeEscrows stop fuel (takeEscrow p n)

/-- Messages that wait on the lanes. -/
def Node.waitingMsgs (n : Node) : Nat := (n.linkOf 0).taken.length + (n.linkOf 1).taken.length

/-- Rows 1 and 2 of 10 R266: waves, then every escrow message. -/
def Node.messagesFirst (n : Node) : Node :=
  let n1 := n.abortsFirst
  takeEscrows (fun _ _ => false) n1.waitingMsgs n1

/-- All rows of 10 R266: waves, escrow messages, the horizon and guard checks, the fires. -/
def Node.escrowFirst (n : Node) : Node :=
  let n1 := n.messagesFirst
  overAll n1.ctxNumbers (fun n c => stepFire c (guardExpiry c n)) n1

/-- Row 2 of 09 R232 up to the releases whose tick it is: Clearing results and releases (11 R314). -/
def Node.releasesFirst (n : Node) : Node :=
  let n1 := n.escrowFirst
  (overAll [0, 1] (fun n p => overAll (n.linkOf p).taken (fun n _ => resultReceived p n) n) n1).releasesDue

/-- Row 2 of 09 R232 whole: with the ledger decisions and the timeouts (11 R314). -/
def Node.resultsFirst (n : Node) : Node := n.releasesFirst.decisionsDue.timeoutsDue

/-- Row 3 of 09 R232 for the contexts below one: their entries and actions (09 R233). -/
def Node.entriesBelow (n : Node) (c : Nat) : Node :=
  let n1 := n.resultsFirst
  overAll (n1.ctxNumbers.filter (· < c)) (fun n k => n.serveCtx k) n1

/-- Row 3 of 09 R232 for every context. -/
def Node.entriesFirst (n : Node) : Node := n.entriesBelow 64

/-! ### Escrow -/

/-- Take a message of a kind on a lane, after the waves of the tick and the escrow messages that arrived before it (10 R266). -/
def escrowIn (p kind : Nat) (n : Node) : Node :=
  if (n.peek p (isEscrowKind kind)).isNone then n
  else
    let n1 := n.abortsFirst
    takeEscrows (fun q m => q == p && isEscrowKind kind m) n1.waitingMsgs n1

/-- `ARM_RECEIVED` (10 R267). -/
def execArmReceived (p : Nat) (s : State) : Host.Outcome State Fault Refusal := onNode s .tsu (s.tsu.hasPort p) (escrowIn p 1)

/-- `CONFIRM_RECEIVED` (10 R265). -/
def execConfirmReceived (p : Nat) (s : State) : Host.Outcome State Fault Refusal := onNode s .tsu (s.tsu.hasPort p) (escrowIn p 3)

/-- `RECALL_RECEIVED` (10 R265). -/
def execRecallReceived (p : Nat) (s : State) : Host.Outcome State Fault Refusal := onNode s .tsu (s.tsu.hasPort p) (escrowIn p 4)

/-- `ESCROW_GUARD_EXPIRY` (01 R41). -/
def execEscrowGuardExpiry (c : Nat) (s : State) : Host.Outcome State Fault Refusal := onCtx c s (fun n => guardExpiry c n.messagesFirst)

/-- `STEP_FIRE` (10 R265). -/
def execStepFire (c : Nat) (s : State) : Host.Outcome State Fault Refusal := onCtx c s (fun n => stepFire c (guardExpiry c n.messagesFirst))

/-- `RECALLED_F_REACHED` (10 R265). -/
def execRecalledFReached (c : Nat) (s : State) : Host.Outcome State Fault Refusal := onCtx c s (fun n => recalledF c n.messagesFirst)

/-! ### Releases, results, reports, timeouts -/

/-- `TALLY_RELEASE_RECEIVED` (11 R305). -/
def execTallyReleaseReceived (p : Nat) (moved : Bool) (s : State) : Host.Outcome State Fault Refusal :=
  onNode s .tsu (s.tsu.hasPort p) (fun n => releaseReceived p moved n.escrowFirst)

/-- `RELEASE_TICK` (11 R299). -/
def execReleaseTick (c slot : Nat) (s : State) : Host.Outcome State Fault Refusal := onCtx c s (fun n => releaseTick c slot n.escrowFirst)

/-- `RESULT_RECEIVED` (12 R345). -/
def execResultReceived (p : Nat) (s : State) : Host.Outcome State Fault Refusal :=
  onNode s .tsu (s.tsu.hasPort p) (fun n => resultReceived p n.escrowFirst)

/-- `LEDGER_REPORT` (11 R301). -/
def execLedgerReport (r account bytes : Nat) (s : State) : Host.Outcome State Fault Refusal :=
  onNode s .tsu (s.tsu.hasRegion r) (fun n => ledgerReport r account bytes n.releasesFirst)

/-- `LEDGER_DECISION` (11 R304). -/
def execLedgerDecision (c slot : Nat) (s : State) : Host.Outcome State Fault Refusal := onCtx c s (fun n => ledgerDecision c slot n.releasesFirst)

/-- `TALLY_WAIT_TIMEOUT` (11 R308). -/
def execTallyWaitTimeout (span : Bool) (c tally unit : Nat) (s : State) : Host.Outcome State Fault Refusal :=
  onNode s .tsu true (fun n => n.releasesFirst.decisionsDue.timeoutOf span c tally unit)

/-! ### Entries -/

/-- An entry of a context, after what the tick owes before it (09 R232). -/
def entryRow (c op : Nat) (act : Nat → Nat → Nat → Nat → Node → Node) (s : State) : Host.Outcome State Fault Refusal :=
  onCtx c s (fun n => onEntry c op act (n.entriesBelow c))

/-- `ENTRY_NOP` (09 R226). -/
def execEntryNop (c : Nat) (s : State) : Host.Outcome State Fault Refusal := entryRow c 0 (entryNop c) s

/-- `ENTRY_WAIT` (09 R235). -/
def execEntryWait (c : Nat) (s : State) : Host.Outcome State Fault Refusal := entryRow c 3 (entryWait c) s

/-- `WAIT_RESUME` (09 R236). -/
def execWaitResume (c : Nat) (s : State) : Host.Outcome State Fault Refusal := onCtx c s (fun n => waitResume c (n.entriesBelow c))

/-- `ENTRY_SIGNAL` (09 R237). -/
def execEntrySignal (c : Nat) (s : State) : Host.Outcome State Fault Refusal := entryRow c 4 (entrySignal c) s

/-- `ENTRY_ARRIVE` (09 R237). -/
def execEntryArrive (c : Nat) (s : State) : Host.Outcome State Fault Refusal := entryRow c 5 (entryArrive c) s

/-- `ENTRY_CLEAR` (09 R240). -/
def execEntryClear (c : Nat) (s : State) : Host.Outcome State Fault Refusal := entryRow c 6 (entryClear c) s

/-- `ENTRY_BRANCH` (09 R238). -/
def execEntryBranch (c : Nat) (s : State) : Host.Outcome State Fault Refusal := entryRow c 7 (entryBranch c) s

/-- `ENTRY_GATE` (09 R241). -/
def execEntryGate (c : Nat) (s : State) : Host.Outcome State Fault Refusal := entryRow c 8 (entryGate c) s

/-- `ENTRY_MARK` (09 R242). -/
def execEntryMark (c : Nat) (s : State) : Host.Outcome State Fault Refusal := entryRow c 9 (entryMark c) s

/-- `ENTRY_AUDIT` (09 R244). -/
def execEntryAudit (c : Nat) (s : State) : Host.Outcome State Fault Refusal := entryRow c 11 (entryAudit c) s

/-- `ENTRY_PULSE` (09 R244). -/
def execEntryPulse (c : Nat) (s : State) : Host.Outcome State Fault Refusal := entryRow c 12 (entryPulse c) s

/-- `ENTRY_LOOP` (09 R244). -/
def execEntryLoop (c : Nat) (s : State) : Host.Outcome State Fault Refusal := entryRow c 13 (entryLoop c) s

/-- `ENTRY_END` (09 R244). -/
def execEntryEnd (c : Nat) (s : State) : Host.Outcome State Fault Refusal := entryRow c 14 (entryEnd c) s

/-- `ACTION_COMMIT` (09 R229). -/
def execActionCommit (c : Nat) (s : State) : Host.Outcome State Fault Refusal := onCtx c s (fun n => actionCommit c (n.entriesBelow c))

/-! ### The deadline and the end of a step -/

/-- `DEADLINE_EVALUATION` (09 R252). -/
def execDeadlineEvaluation (c : Nat) (s : State) : Host.Outcome State Fault Refusal := onCtx c s (fun n => deadlineEvaluation c n.entriesFirst)

/-- `STEP_END` (09 R254). -/
def execStepEnd (c : Nat) (s : State) : Host.Outcome State Fault Refusal :=
  onCtx c s (fun n => let m := deadlineEvaluation c n.entriesFirst; m.endNow c (m.outcomeNow c))

end Sys2Proof.Machine
end

