-- ==== Sys2Proof/Machine/HubEscrow.lean ====
section
/-! DEFINITION. Escrow at a hub: forwarding, combining, the head pair, the lead and the head entries (10 R269 to R281). -/

namespace Sys2Proof.Machine

/-! ### Combining states -/

/-- A combining state is that of an instance (10 R261). -/
def EscInst.is (i : EscInst) (span epoch ctx step attempt : Nat) : Bool :=
  i.span == span && i.epoch == epoch && i.ctx == ctx && i.step == step && i.attempt == attempt

/-- A combining state is that of a message's instance. -/
def EscInst.isOf (i : EscInst) (m : Msg) : Bool := i.is m.span m.epoch (escCtx m) (escStep m) (escAttempt m)

/-- Change the combining states that pass a test. -/
def Node.modInst (n : Node) (f : EscInst → Bool) (g : EscInst → EscInst) : Node :=
  { n with escInst := n.escInst.map (fun i => if f i then g i else i) }

/-- Open the combining state of an ARM's instance (10 R271); `setAt` is the tick on which its first copy leaves. -/
def Node.openInst (n : Node) (m : Msg) (setAt : Nat) : Node :=
  { n with escInst := n.escInst ++
      [{ span := m.span, epoch := m.epoch, ctx := escCtx m, step := escStep m, attempt := escAttempt m, table := escTable m
         hz := escFire m - escHorizon m, setAt := setAt }] }

/-- On the departure tick the expected set is the downlinks with matching entry that are MEMBER; an empty set is complete at once
(10 R271). -/
def Node.takeSets (n : Node) : Node :=
  n.modInst (fun i => !i.setDone && i.setAt ≤ n.tb1) (fun i =>
    let l := n.memberDown i.span i.epoch
    { i with setDone := true, expect := l, doneAt := if l.isEmpty then some n.tb1 else none })

/-! ### The totals and the head entry -/

/-- Fire tick, step number and attempt of a head entry's next escrow (10 R281). -/
def Node.nextFire (n : Node) (k : Nat) : Nat := n.rd (Ob.head_nextFireTick k)
/-- Step number of the next escrow. -/
def Node.nextStep (n : Node) (k : Nat) : Nat := fld (n.rd (Ob.head_nextStep k)) 47 0
/-- Attempt of the next escrow. -/
def Node.nextAttempt (n : Node) (k : Nat) : Nat := fld (n.rd (Ob.head_nextStep k)) 55 48
/-- Owner span of a head entry. -/
def Node.headSpan (n : Node) (k : Nat) : Nat := fld (n.rd (Ob.head_owner k)) 31 16
/-- Owner context of a head entry. -/
def Node.headCtx (n : Node) (k : Nat) : Nat := fld (n.rd (Ob.head_owner k)) 5 0
/-- The entry runs or is stopping. -/
def Node.headRuns (n : Node) (k : Nat) : Bool := n.rd (Ob.head_state k) == 2 || n.rd (Ob.head_state k) == 3
/-- Leave tick of the next ARM: F - L. -/
def Node.armLeave (n : Node) (k : Nat) : Nat := n.nextFire k - n.rd (Ob.head_lead k)
/-- Epoch of a head entry's span. -/
def Node.headEpoch (n : Node) (k : Nat) : Nat :=
  match n.spanEntryOf (n.headSpan k) with
  | some e => fld e 111 80
  | none => 0

/-- A twin lane is MEMBER. -/
def Node.twinUp (n : Node) : Bool := n.lst 66 == 6 || n.lst 67 == 6

/-- The running head entry of a message's span and context whose escrow held is the message's. -/
def Node.heldEntry (n : Node) (m : Msg) : Option Nat :=
  (upTo 256).find? (fun k => n.headRuns k && n.headSpan k == m.span && n.headCtx k == escCtx m &&
    (n.headOf k).fStep == escStep m && (n.headOf k).fAtt == escAttempt m && (n.headOf k).fFire != 0)

/-- The running head entry of a message's span and context. -/
def Node.runningEntry (n : Node) (m : Msg) : Option Nat :=
  (upTo 256).find? (fun k => n.headRuns k && n.headSpan k == m.span && n.headCtx k == escCtx m)

/-- A head's plane total is complete: a head that does not lead the escrow sends it to its twin (10 R272). -/
def Node.planeTotal (n : Node) (i : EscInst) : Node :=
  let probe := escMsg i.span i.epoch 5 i.ctx i.table 0 i.attempt i.step (ackCell i.ok i.nak i.nakDie i.nakWhy 1 i.high)
  match n.heldEntry probe with
  | none => n
  | some k =>
    let n1 := n.modHead k (fun h => { h with own := some (i.ok, i.nak, i.nakDie, i.nakWhy, i.high) })
    if (n.headOf k).leads then n1 else if n.twinUp then n1.sendTwin probe else n1

/-- Combining states that are complete at the head of their span become its plane total. -/
def Node.headTotals (n : Node) : Node :=
  let full := n.escInst.filter (fun i => i.doneAt.isSome && !i.sent && n.isHeadOf i.span)
  overAll full (fun n i => (n.modInst (fun j => j == i) (fun j => { j with sent := true })).planeTotal i) n

/-- The combined answer of an instance goes up on the first frame boundary at least 32 ticks after its completion, with carrier 1, and
carrier 0 on the other uplink (10 R271). -/
def Node.sendCombined (n : Node) (i : EscInst) : Node :=
  let up := n.uplink i.span i.epoch
  let other := 129 - up
  let msg := fun (cont : Nat) => escMsg i.span i.epoch 2 i.ctx i.table 0 i.attempt i.step cont
  let n0 := n.modInst (fun j => j == i) (fun j => { j with sent := true })
  if !n.memberMatch up i.span i.epoch then n0
  else
    let n1 := n0.send up (msg (ackCell i.ok i.nak i.nakDie i.nakWhy 1 i.high))
    if n.memberMatch other i.span i.epoch then n1.send other (msg (ackCell 0 0 0xFFFFF 0 0 0)) else n1

/-- What falls due on a tick: expected sets are taken, plane totals complete, combined answers leave (10 R271, R272). -/
def Node.escrowTick (n : Node) : Node :=
  let n1 := n.takeSets.headTotals
  let due := n1.escInst.filter (fun i => !i.sent && !n1.isHeadOf i.span && (match i.doneAt with
    | some t => decide (nextMul 8 (t + 32) ≤ n1.tb1)
    | none => false))
  overAll due (fun n i => n.sendCombined i) n1

/-! ### Down the trees -/

/-- The key of a down message: instance, kind and copy (10 R270); the tag 3 keeps it apart from other keys. -/
def escKey (m : Msg) : Nat :=
  ((((fld m.head 127 80 * 64 + escCtx m) * 2 ^ 48 + escStep m) * 256 + escAttempt m) * 64 + fld m.head 79 76 * 4 + escCopy m) * 8 + 3

/-- A down message: ARM, CONFIRM or RECALL. -/
def isDown (m : Msg) : Bool := isEscrowKind 1 m || isEscrowKind 3 m || isEscrowKind 4 m

/-- Stale escrow messages are dropped and counted (10 R261). -/
def Node.staleEscrow (n : Node) : Node := n.bump Ob.esc_staleMessages

/-- A hub that is not the head forwards the first copy of a down message; an ARM opens a combining state, without a free one it is not
forwarded (10 R270, R271). -/
def escrowDown (p : Nat) (n : Node) : Node :=
  n.onMsg p (fun m => isDown m && !(66 ≤ p && n.isHeadOf m.span)) (fun m n =>
    if p < 64 || n.isHeadOf m.span then n.staleEscrow
    else if !n.spanMatch p m.span m.epoch && p < 66 then n.staleEscrow
    else if !n.firstCopy (escKey m) then n
    else
      let fresh := isEscrowKind 1 m && !n.escInst.any (fun i => i.isOf m)
      if fresh && 1024 ≤ n.escInst.length then n.bump Ob.esc_instancesRefused
      else
        let n1 := n.noteCopy (escKey m)
        let n2 := if fresh then n1.openInst m (nextMul 8 (m.first + 49)) else n1
        let n3 := overAll (n2.memberDown m.span m.epoch) (fun n q => n.forward p q m) n2
        if p < 66 then overAll [66, 67] (fun n q => n.forward p q m) n3 else n3)

/-- `ESCROW_DOWN_FORWARD` (10 R270). -/
def execEscrowDownForward (p : Nat) (s : State) : Host.Outcome State Fault Refusal := onNode s .hub (s.hub.hasPort p) (escrowDown p)

/-! ### Up the trees -/

/-- An answer joins an instance (10 R271): counts are summed, the lowest nak die and the highest next step kept. -/
def EscInst.join (i : EscInst) (p : Nat) (m : Msg) : EscInst :=
  let x := m.cell 1
  let left := i.expect.filter (· != p)
  let c := bit x 63
  let die := fld x 87 68
  let nak := if c then fld x 107 88 else 0
  let lower := c && nak != 0 && die < i.nakDie
  { i with
    expect := left
    ok := i.ok + (if c then fld x 127 108 else 0)
    nak := i.nak + nak
    nakDie := if lower then die else i.nakDie
    nakWhy := if lower then fld x 67 64 else i.nakWhy
    high := max i.high (fld x 47 0)
    doneAt := if left.isEmpty then some m.first else i.doneAt }

/-- A hub takes the first ARM_ACK of an instance from each expected downlink (10 R271). -/
def ackReceived (p : Nat) (n : Node) : Node :=
  n.onMsg p (isEscrowKind 2) (fun m n0 =>
    let n := n0.takeSets
    match n.escInst.find? (fun i => i.isOf m) with
    | none => n.staleEscrow
    | some i =>
      if 64 ≤ p then n.staleEscrow
      else if !i.expect.contains p then n
      else (n.modInst (fun j => j == i) (fun j => j.join p m)).headTotals)

/-- `ARM_ACK_RECEIVED` (10 R271). -/
def execArmAckReceived (p : Nat) (s : State) : Host.Outcome State Fault Refusal := onNode s .hub (s.hub.hasPort p) (ackReceived p)

/-- A downlink out of MEMBER leaves the expected sets it is in, which can complete them (10 R271). -/
def setChange (p : Nat) (n0 : Node) : Node :=
  let n := n0.takeSets
  when (n.lst p != 6) (fun n =>
    (n.modInst (fun i => i.expect.contains p) (fun i =>
      let left := i.expect.filter (· != p)
      { i with expect := left, doneAt := if left.isEmpty then some n.tb1 else i.doneAt })).headTotals) n

/-- `ESCROW_SET_CHANGE` (10 R271). -/
def execEscrowSetChange (p : Nat) (s : State) : Host.Outcome State Fault Refusal := onNode s .hub (decide (p < 64)) (setChange p)

/-- At Hz a hub discards the instance's combining state (10 R271). -/
def escrowHorizon (span ctx step attempt : Nat) (n : Node) : Node :=
  { n with escInst := n.escInst.filter (fun i =>
      !(i.span == span && i.ctx == ctx && i.step == step && i.attempt == attempt && i.hz ≤ n.tb1)) }

/-- `ESCROW_HORIZON` (10 R271). -/
def execEscrowHorizon (span ctx step attempt : Nat) (s : State) : Host.Outcome State Fault Refusal :=
  onNode s .hub true (escrowHorizon span ctx step attempt)

/-- A leading head takes a TOTAL from its twin as the other plane's total (10 R272). -/
def totalReceived (p : Nat) (n : Node) : Node :=
  n.onMsg p (isEscrowKind 5) (fun m n =>
    match n.heldEntry m with
    | none => n.staleEscrow
    | some k =>
      let x := m.cell 1
      if p < 66 || !(n.headOf k).leads then n.staleEscrow
      else n.modHead k (fun h => { h with twin := some (fld x 127 108, fld x 107 88, fld x 87 68, fld x 67 64, fld x 47 0) }))

/-- `TOTAL_RECEIVED` (10 R272). -/
def execTotalReceived (p : Nat) (s : State) : Host.Outcome State Fault Refusal := onNode s .hub (s.hub.hasPort p) (totalReceived p)

/-! ### The head entry moves -/

/-- Set fire tick, step number and attempt of the next escrow (10 R277). -/
def Node.setNext (n : Node) (k fire step attempt : Nat) : Node :=
  (n.wr (Ob.head_nextFireTick k) (fire % 2 ^ 64)).wr (Ob.head_nextStep k) (put 47 0 step + put 55 48 attempt)

/-- A stopping entry is stopped once its escrow has ended (10 R281). -/
def Node.settleHead (n : Node) (k : Nat) : Node := if n.rd (Ob.head_state k) == 3 then n.wr (Ob.head_state k) 1 else n

/-- The totals a head holds, plane A first. -/
def Node.planeTotals (n : Node) (k : Nat) : Option (Nat × Nat × Nat × Nat × Nat) × Option (Nat × Nat × Nat × Nat × Nat) :=
  let h := n.headOf k
  if n.plane == 0 then (h.own, h.twin) else (h.twin, h.own)

/-- Ok count of a total. -/
def totOk (t : Option (Nat × Nat × Nat × Nat × Nat)) : Nat := (t.map (·.1)).getD 0
/-- Nak count of a total. -/
def totNak (t : Option (Nat × Nat × Nat × Nat × Nat)) : Nat := (t.map (·.2.1)).getD 0
/-- First nak die of a total. -/
def totDie (t : Option (Nat × Nat × Nat × Nat × Nat)) : Nat := (t.map (·.2.2.1)).getD 0xFFFFF
/-- Nak reason of a total. -/
def totWhy (t : Option (Nat × Nat × Nat × Nat × Nat)) : Nat := (t.map (·.2.2.2.1)).getD 0
/-- Highest next step of a total. -/
def totHigh (t : Option (Nat × Nat × Nat × Nat × Nat)) : Nat := (t.map (·.2.2.2.2)).getD 0

/-- The step number and attempt after a decision: 1 CONFIRM, 2 RECALL, 3 none (10 R277). -/
def Node.afterDecision (n : Node) (k dec : Nat) : Nat × Nat :=
  let h := n.headOf k
  let t := n.planeTotals k
  if dec == 2 then
    let s := max h.fStep (max (totHigh t.1) (totHigh t.2))
    (s, if s == h.fStep then (h.fAtt + 1) % 256 else 0)
  else ((h.fStep + 1) % 2 ^ 48, 0)

/-- The counts and the last decision of an entry (10 R277, R281). -/
def Node.postDecision (n : Node) (k dec basis leave : Nat) : Node :=
  let h := n.headOf k
  let t := n.planeTotals k
  let blob := putField 0 8 h.fStep + putField 8 1 h.fAtt + putField 9 1 dec + putField 10 1 basis + putField 16 4 (totOk t.1) +
    putField 20 4 (totNak t.1) + putField 24 4 (totOk t.2) + putField 28 4 (totNak t.2) + putField 32 8 n.tb1 + putField 40 8 leave
  let n1 := n.wr (Ob.head_lastDecision k) blob
  if dec == 1 then
    ((n1.bump (Ob.head_confirms k)).wr (Ob.head_consecutiveRecalls k) 0).wr (Ob.head_stepInFlight k)
      (putField 0 8 h.fStep + putField 8 8 h.fFire)
  else if dec == 2 then (n1.bump (Ob.head_recalls k)).bump (Ob.head_consecutiveRecalls k)
  else n1.bump (Ob.head_noDecision k)

/-- The entry moves to its next escrow after a decision or without one (10 R277). -/
def Node.advanceHead (n : Node) (k dec basis leave : Nat) : Node :=
  let h := n.headOf k
  let a := n.afterDecision k dec
  let n1 := (n.postDecision k dec basis leave).setNext k (h.fFire + n.rd (Ob.head_period k)) a.1 a.2
  (n1.modHead k (fun h =>
    { h with
      flight := false, isOpen := false, decided := if dec == 3 then 0 else dec, hzPassed := dec == 3, advAt := n.tb1, handed := false
      armHeld := false, missTold := false })).settleHead k

/-- The entry skips an escrow of which no ARM has left: step number and attempt stay (10 R269, R277). A follower that did not hold the ARM keeps the
escrow's instance, for the leader's decision may still come. -/
def Node.skipEscrow (n : Node) (k : Nat) : Node :=
  let n1 := (n.setNext k (n.nextFire k + n.rd (Ob.head_period k)) (n.nextStep k) (n.nextAttempt k)).bump (Ob.head_noDecision k)
  (n1.modHead k (fun h =>
    { h with
      advAt := n.tb1, handed := false, armHeld := false, missTold := false, isOpen := false, flight := false, decided := 0
      fStep := n.nextStep k, fAtt := n.nextAttempt k, fFire := n.nextFire k, own := none, twin := none, leads := n.lead.leading
      hzPassed := !n.lead.leading })).settleHead k

/-- A down message of the escrow held. -/
def Node.headMsg (n : Node) (k kind copy leave : Nat) : Msg :=
  let h := n.headOf k
  escMsg (n.headSpan k) (n.headEpoch k) kind (n.headCtx k) (n.rd (Ob.head_table k)) copy h.fAtt h.fStep
    (put 127 64 h.fFire + put 63 32 (n.rd (Ob.head_horizonLead k)) + put 31 0 (h.fFire - leave))

/-- Copies 0 and 1 leave on the downlinks at the leave tick and in the next frame (10 R269). -/
def Node.sendCopies (n : Node) (k kind leave : Nat) : Node :=
  overAll (n.memberDown (n.headSpan k) (n.headEpoch k)) (fun n p =>
    (n.sendAt p leave (n.headMsg k kind 0 leave)).sendAt p (leave + 8) (n.headMsg k kind 1 leave)) n

/-- The next escrow becomes the escrow held. -/
def Node.holdNext (n : Node) (k : Nat) (flight : Bool) : Node :=
  n.modHead k (fun h =>
    { h with
      flight := flight, isOpen := true, fStep := n.nextStep k, fAtt := n.nextAttempt k, fFire := n.nextFire k, decided := 0, own := none
      twin := none, hzPassed := false, leads := n.lead.leading })

/-- The ARM of the next escrow leaves on this plane; without a free combining state it does not, and is counted (10 R269, R271, R281). -/
def Node.armLeaves (n : Node) (k leave : Nat) : Node :=
  let n1 := n.holdNext k true
  if 1024 ≤ n.escInst.length then n1.bump Ob.esc_instancesRefused
  else (n1.sendCopies k 1 leave).openInst (n1.headMsg k 1 0 leave) leave

/-- The leader passes the ARM to its twin (10 R269). -/
def Node.handArm (n : Node) (k leave : Nat) : Node :=
  let n1 := n.holdNext k false
  let m := n1.headMsg k 1 0 leave
  (if n.twinUp then n.sendTwin m else n).modHead k (fun h => { h with handed := true })

/-- A head entry at or before its next ARM's leave tick (10 R269): from 1,024 to 48 ticks before, the leader passes the ARM to its twin; at
the leave tick both heads send the copies, the follower only an ARM it holds. A leader that came to this escrow later than 48 ticks
before its leave tick skips it. -/
def armLeave (k : Nat) (n : Node) : Node :=
  let leave := n.armLeave k
  let h := n.headOf k
  when (n.rd (Ob.head_state k) == 2 && !h.isOpen && !h.flight) (fun n =>
    if n.lead.leading then
      if n.tb1 + 48 ≤ leave then
        when (leave ≤ n.tb1 + 1024 && !h.handed) (fun n => n.handArm k leave) n
      else when (leave ≤ n.tb1) (fun n =>
        if leave < h.advAt + 48 then n.skipEscrow k
        else (if h.handed then n else n.handArm k leave).armLeaves k leave) n
    else when (leave ≤ n.tb1 && h.armHeld) (fun n => n.armLeaves k leave) n) n

/-- `HEAD_ARM_LEAVE` (10 R269). -/
def execHeadArmLeave (k : Nat) (s : State) : Host.Outcome State Fault Refusal := onNode s .hub (decide (k < 256)) (armLeave k)

/-- Cause 0x34 at a head entry (10 R269, 14 R405). -/
def Node.handoffLate (n : Node) (k kind step : Nat) : Node :=
  (n.bump Ob.esc_handoffsLate).fault
    { cause := 0x34, span := n.headSpan k, ctx := n.headCtx k, obj := k, detail := put 79 76 kind + put 47 0 step }

/-- A follower takes a handed-off ARM: it holds it until the leave tick, when it came at least 8 ticks before (10 R269, R274). -/
def Node.takeArm (n : Node) (k : Nat) (m : Msg) : Node :=
  let leave := escFire m - escBack m
  let h := n.headOf k
  if h.isOpen && h.fStep == escStep m && h.fAtt == escAttempt m then n
  else if leave < n.tb1 + 8 then n
  else (n.setNext k (escFire m) (escStep m) (escAttempt m)).modHead k (fun h => { h with armHeld := true })

/-- The basis a follower posts for a handed-off decision (log entry 35). -/
def Node.followBasis (n : Node) (k dec : Nat) : Nat :=
  let h := n.headOf k
  if dec == 1 then (if totOk h.own == n.rd (Ob.head_expectedCount k) && totNak h.own == 0 then n.plane + 1 else 2 - n.plane)
  else if totNak h.own != 0 then 3 else 4

/-- A follower applies the leader's decision in place of its advance at Hz (10 R277). -/
def Node.replaceAdvance (n : Node) (k dec leave : Nat) : Node :=
  let a := n.afterDecision k dec
  let w := 2 ^ 64
  let n1 := n.wr (Ob.head_noDecision k) ((n.rd (Ob.head_noDecision k) + w - 1) % w)
  ((n1.postDecision k dec (n.followBasis k dec) leave).setNext k (n.nextFire k) a.1 a.2).modHead k
    (fun h => { h with decided := dec, hzPassed := false })

/-- A follower takes a handed-off CONFIRM or RECALL (10 R269, R273, R277): it sends it on its plane unless it came too late or it has
decided for itself, and moves its entry. -/
def Node.takeDecision (n : Node) (k dec : Nat) (m : Msg) : Node :=
  let leave := escFire m - escBack m
  let h := n.headOf k
  if h.decided != 0 then n
  else
    let late := decide (leave < n.tb1 + 8)
    let n1 := if late then n.handoffLate k (dec + 2) (escStep m) else n.sendCopies k (dec + 2) leave
    if h.isOpen then n1.advanceHead k dec (n.followBasis k dec) leave
    else if h.hzPassed then n1.replaceAdvance k dec leave else n

/-- A follower that holds no ARM still knows its next escrow: a decision for it makes it the escrow held. -/
def Node.adoptNext (n : Node) (m : Msg) : Node :=
  match n.runningEntry m with
  | none => n
  | some k =>
    let h := n.headOf k
    if !h.isOpen && n.nextStep k == escStep m && n.nextAttempt k == escAttempt m && n.nextFire k == escFire m && !n.lead.leading then
      n.holdNext k false
    else n

/-- A follower head takes a handed-off ARM, CONFIRM or RECALL (10 R269). -/
def handoffReceived (p : Nat) (n : Node) : Node :=
  n.onMsg p (fun m => isDown m && 66 ≤ p && n.isHeadOf m.span) (fun m n =>
    if isEscrowKind 1 m then
      match n.runningEntry m with
      | some k => if n.lead.leading then n.staleEscrow else n.takeArm k m
      | none => n.staleEscrow
    else
      let dec := if isEscrowKind 3 m then 1 else 2
      let n1 := n.adoptNext m
      match n1.heldEntry m with
      | some k => if (n1.headOf k).leads then n.staleEscrow else n1.takeDecision k dec m
      | none => n.staleEscrow)

/-- `ESCROW_HANDOFF_RECEIVED` (10 R269). -/
def execEscrowHandoffReceived (p : Nat) (s : State) : Host.Outcome State Fault Refusal :=
  onNode s .hub (s.hub.hasPort p) (handoffReceived p)

/-- 8 ticks before its next ARM's leave tick a follower that holds no ARM records cause 0x34, once (10 R269). -/
def handoffMissing (k : Nat) (n : Node) : Node :=
  let h := n.headOf k
  when (n.rd (Ob.head_state k) == 2 && !n.lead.leading && !h.isOpen && !h.armHeld && !h.missTold && n.armLeave k ≤ n.tb1 + 8) (fun n =>
    (n.handoffLate k 1 (n.nextStep k)).modHead k (fun h => { h with missTold := true })) n

/-- `ESCROW_HANDOFF_MISSING` (10 R269). -/
def execEscrowHandoffMissing (k : Nat) (s : State) : Host.Outcome State Fault Refusal :=
  onNode s .hub (decide (k < 256)) (handoffMissing k)

/-! ### The decision -/

/-- A RECALL records cause 0x33 at the leader (10 R277, 14 R405). -/
def Node.recallFault (n : Node) (k : Nat) : Node :=
  let t := n.planeTotals k
  let low := if totDie t.2 < totDie t.1 then t.2 else t.1
  n.fault
    { cause := 0x33, span := n.headSpan k, ctx := n.headCtx k, obj := put 23 20 (totWhy low) + put 19 0 (totDie low)
      detail := put 79 60 (totOk t.1) + put 59 40 (totNak t.1) + put 39 20 (totOk t.2) + put 19 0 (totNak t.2) }

/-- A decision is taken: handed to the twin, sent on this plane, and the entry advances (10 R269, R273, R277). -/
def Node.decideEscrow (n : Node) (k dec basis : Nat) (leader : Bool) : Node :=
  let leave := nextMul 8 (n.tb1 + 40)
  let n1 := if leader && n.twinUp then n.sendTwin (n.headMsg k (dec + 2) 0 leave) else n
  let n2 := n1.sendCopies k (dec + 2) leave
  let n3 := if dec == 2 && leader then n2.recallFault k else n2
  n3.advanceHead k dec basis leave

/-- A head decides on proof, or at Hz (10 R273, R277): the leader always, a follower only while neither twin lane is MEMBER; RECALL at Hz
is the leader's with a twin lane. At Hz without a decision the entry advances; a follower without an ARM skips. -/
def escrowDecision (k : Nat) (n : Node) : Node :=
  let h := n.headOf k
  let want := n.rd (Ob.head_expectedCount k)
  let leader := h.leads && n.lead.leading
  let proof := fun (t : Option (Nat × Nat × Nat × Nat × Nat)) => t.isSome && totOk t == want && totNak t == 0
  let t := n.planeTotals k
  let hz := fun (fire : Nat) => decide (fire ≤ n.tb1 + n.rd (Ob.head_horizonLead k))
  if !n.headRuns k then n
  else if !h.isOpen then
    when (!n.lead.leading && !h.armHeld && hz (n.nextFire k) && n.rd (Ob.head_state k) == 2) (fun n => n.skipEscrow k) n
  else if (leader || !n.twinUp) && proof t.1 then n.decideEscrow k 1 1 leader
  else if (leader || !n.twinUp) && proof t.2 then n.decideEscrow k 1 2 leader
  else if (leader || !n.twinUp) && totNak t.1 + totNak t.2 != 0 then n.decideEscrow k 2 3 leader
  else if hz h.fFire && leader && n.twinUp then n.decideEscrow k 2 4 leader
  else if hz h.fFire then n.advanceHead k 3 4 0 else n

/-- `ESCROW_DECISION` (10 R273). -/
def execEscrowDecision (k : Nat) (s : State) : Host.Outcome State Fault Refusal := onNode s .hub (decide (k < 256)) (escrowDecision k)

/-! ### The lead -/

/-- A TWIN LEAD message leaves on both twin lanes (10 R274, 15 R434). -/
def Node.sendLead (n : Node) : Node :=
  (n.sendTwin { typ := tTwin, cells := [put 127 124 6 + put 123 123 (ofB n.lead.leading)] }).modLead (fun l => { l with lastSend := n.tb1 })

/-- The Keystone sends the hall epoch counter to its twin (15 R415, R434). -/
def Node.sendEpoch (n : Node) : Node := n.sendTwin { typ := tTwin, cells := [put 127 124 3 + put 123 92 (n.rd Ob.epo_hallEpoch)] }

/-- The leader of the pair is lost: the slots that have a single decider release nothing further in the step in flight of their span and context
(11 R311). -/
def Node.freezeSlots (n : Node) : Node :=
  { n with htal := n.htal.map (fun e =>
      let t := e.2
      match n.inFlight (cfgSpan t.cfg) (cfgCtx t.cfg), n.spanEntryOf (cfgSpan t.cfg) with
      | some f, some s => if cfgActive t.cfg && cfgMode t.cfg != mBarrier then (e.1, { t.forStep f.1 (fld s 111 80) with frozen := true }) else e
      | _, _ => e) }

/-- The lead of a hub changes: cause 0x35, and a TWIN LEAD on the change (10 R274, 14 R405); a Keystone that takes the lead adds 1,024 to the
hall epoch (15 R415). -/
def Node.changeLead (n : Node) (lead : Bool) (since : Nat) : Node :=
  let n0 := if lead then n.freezeSlots else n
  let n1 := (((n0.modLead (fun l => { l with leading := lead, zeroAt := none })).fault
    { cause := 0x35, detail := put 79 72 (if lead then 1 else 2) + put 63 0 since })).sendLead
  if lead && n.level == 3 then (n1.addTo Ob.epo_hallEpoch 1024).sendEpoch else n1

/-- After both twin lanes have been out of SYNCED for 1 ms a plane-B hub takes the lead and a plane-A hub gives it up (10 R274). -/
def twinLost (n : Node) : Node :=
  match n.lead.twinOutAt with
  | none => n
  | some t => when (t + 1562500 ≤ n.tb1 && n.lead.leading == (n.plane == 0)) (fun n => n.changeLead (n.plane != 0) t) n

/-- `TWIN_LOST` (10 R274). -/
def execTwinLost (s : State) : Host.Outcome State Fault Refusal := onNode s .hub true twinLost

/-- A TWIN LEAD: a leading plane-A hub whose twin leads gives up the lead; reports of leading 0 are counted from the first (10 R274). -/
def twinLeadReceived (p : Nat) (n : Node) : Node :=
  n.onMsg p (isTwinKind 6) (fun m n =>
    if bit m.head 123 then
      let n1 := n.modLead (fun l => { l with zeroAt := none })
      if n.lead.leading && n.plane == 0 then n1.changeLead false n.tb1 else n1
    else n.modLead (fun l => { l with zeroAt := match l.zeroAt with | some t => some t | none => some n.tb1 }))

/-- `TWIN_LEAD_RECEIVED` (10 R274). -/
def execTwinLeadReceived (p : Nat) (s : State) : Host.Outcome State Fault Refusal :=
  onNode s .hub (s.hub.hasPort p) (twinLeadReceived p)

/-- A plane-A follower with its twin lanes SYNCED whose twin has reported leading 0 for 2,048 markers takes the lead (10 R274). -/
def leadReclaim (n : Node) : Node :=
  match n.lead.zeroAt with
  | none => n
  | some t => when (n.plane == 0 && !n.lead.leading && 5 ≤ n.lst 66 && 5 ≤ n.lst 67 && t + 2048 * 512 ≤ n.tb1)
      (fun n => n.changeLead true n.tb1) n

/-- `LEAD_RECLAIM` (10 R274). -/
def execLeadReclaim (s : State) : Host.Outcome State Fault Refusal := onNode s .hub true leadReclaim

/-- Every hub sends TWIN LEAD every 1,024 markers (10 R274). -/
def twinLeadSend (n : Node) : Node :=
  when (n.tb1 % 524288 == 0 || n.lead.lastSend + 524288 ≤ n.tb1) Node.sendLead n

/-- `TWIN_LEAD_SEND` (10 R274). -/
def execTwinLeadSend (s : State) : Host.Outcome State Fault Refusal := onNode s .hub true twinLeadSend

/-! ### Commands on a head entry -/

/-- Command 1 starts an entry, unless a check fails (10 R281). -/
def Node.headStartOk (n : Node) (k : Nat) : Bool :=
  let l := n.rd (Ob.head_lead k)
  let h := n.rd (Ob.head_horizonLead k)
  n.rd (Ob.head_expectedCount k) != 0 && n.isHeadOf (n.headSpan k) && l % 8 == 0 && n.rd (Ob.head_period k) % 8 == 0 &&
  n.nextFire k % 8 == 0 && 1592 ≤ h && h < l && decide (n.tb1 + 1024 + l ≤ n.nextFire k)

/-- `HEAD_ENTRY_START` (10 R281): on an entry that runs already the command is accepted and changes nothing. -/
def headStart (k : Nat) (n : Node) : Node :=
  n.needsFn 0 (fun n => n.forSpan (n.headSpan k) none (fun n => n.accept (n.headStartOk k) (fun n =>
    if n.headRuns k then n else (n.wr (Ob.head_state k) 2).modHead k (fun _ => { advAt := n.tb1 }))))

/-- `HEAD_ENTRY_START` (10 R281). -/
def execHeadEntryStart (k : Nat) (s : State) : Host.Outcome State Fault Refusal := onObj s .hub (decide (k < 256)) (headStart k)

/-- Command 2: stop after the escrow in flight (10 R281). -/
def headStopAfter (k : Nat) (n : Node) : Node :=
  (if n.rd (Ob.head_state k) == 2 then n.wr (Ob.head_state k) (if (n.headOf k).flight then 3 else 1) else n).answer 0

/-- `HEAD_ENTRY_STOP_AFTER` (10 R281). -/
def execHeadEntryStopAfter (k : Nat) (s : State) : Host.Outcome State Fault Refusal :=
  onObj s .hub (decide (k < 256)) (headStopAfter k)

/-- Command 3: stop at once, with no further ARM (10 R281). -/
def Node.stopHead (n : Node) (k : Nat) : Node :=
  if n.headRuns k then (n.wr (Ob.head_state k) 1).modHead k (fun h => { h with flight := false, isOpen := false, armHeld := false, handed := false })
  else n

/-- `HEAD_ENTRY_STOP_NOW` (10 R281). -/
def execHeadEntryStopNow (k : Nat) (s : State) : Host.Outcome State Fault Refusal :=
  onObj s .hub (decide (k < 256)) (fun n => (n.stopHead k).answer 0)

end Sys2Proof.Machine
end

