-- ==== Sys2Proof/Machine/Determinism.lean ====
section
/-! DEFINITION. Strict mode, the Conformance Key, the Mint, result tags, the journal and replay (13). The application of a replayed
record is in `Replay`. -/

namespace Sys2Proof.Machine

/-! ### Strict -/

/-- A TSU refuses Strict while a step is held, and Strict 1 while a MEMBER lane lacks feature bit 2 (13 R357). -/
def Node.strictOk (n : Node) (v : Nat) : Bool :=
  v ≤ 1 && !n.anyHeld && !(v == 1 && [0, 1].any (fun p => n.lst p == 6 && !bit (n.rd (Ob.link_operatingFeatures p)) 2))

/-- A write of Strict (13 R357); a change is a change of a key input (13 R363). -/
def strictWrite (v : Nat) (n : Node) : Node :=
  n.journaled (fun n => n.accept (n.strictOk v) (fun n =>
    if n.rd Ob.det_strict == v then n else (n.wr Ob.det_strict v).keyInput 0))

/-- `STRICT_WRITE` (13 R357). -/
def execStrictWrite (v : Nat) (s : State) : Host.Outcome State Fault Refusal := onNode s .tsu true (strictWrite v)

/-! ### The Conformance Key -/

/-- A region is FENCED or LOST (13 R362). -/
def Node.mapped (n : Node) (r : Nat) : Bool := n.rd (Ob.reg_regionState r) == 4 || n.rd (Ob.reg_regionState r) == 5

/-- The region map: bit r in byte r/8 (13 R362, object 0x7000.0F). -/
def Node.regionMap (n : Node) : Nat := ((upTo n.regionCount).map (fun r => if n.mapped r then 2 ^ r else 0)).sum

/-- The bytes of descriptors 0 to 255, zeros for one never accepted (13 R361). -/
def Node.descBytes (n : Node) : List Nat :=
  (upTo 256).flatMap (fun d => leBytes 32 (if n.rd (Ob.dsc_valid d) == 1 then n.desc d else 0))

/-- Slot `t` of the program digests; an Edge TSU holds zeros for slots 4 to 15 (13 R361). -/
def Node.progField (n : Node) (t : Nat) : Nat := if t < n.tableSlots then n.keyProg t else 0

/-- The IP version in the key record: major, minor, patch, configuration (13 R361). -/
def Node.ipVersion (n : Node) : Nat :=
  let v := n.rd Ob.idn_version
  putField 0 1 (fld v 23 16) + putField 1 1 (fld v 15 8) + putField 2 1 (fld v 7 0) + putField 3 1 (n.rd Ob.idn_nodeKind)

/-- Major and minor of the Piers of lanes a and b (13 R361, object 0x3010+p.07). -/
def Node.hubVersions (n : Node) : Nat :=
  let v := fun (p : Nat) => n.rd (Ob.link_partnerVersion p)
  putField 0 1 (v 0 / 256) + putField 1 1 (v 0 % 256) + putField 2 1 (v 1 / 256) + putField 3 1 (v 1 % 256)

/-- The digest of the disabled-unit maps: the region map and the core map (13 R361). -/
def Node.mapDigest (n : Node) : Nat := blake3 (leBytes 128 n.regionMap ++ leBytes n.key.coreLen (n.rd Ob.det_coreMap))

/-- The key record of the inputs in force (13 R361). -/
def Node.keyRecord (n : Node) : Nat :=
  putField 0 2 1 + putField 2 1 1 + putField 3 1 (n.rd Ob.det_strict) + putField 4 4 n.ipVersion + putField 8 4 n.hubVersions +
  putField 16 16 (n.rd Ob.det_engineFirmwareVersion) + putField 32 32 (n.rd Ob.det_fuseSettingsDigest) + putField 64 32 n.mapDigest +
  putField 96 32 (blake3 n.descBytes) + ((upTo 16).map (fun t => putField (128 + 32 * t) 32 (n.progField t))).sum

/-- The part of a key record that an input of cause 0x60 fills (13 R361, 14 R405). -/
def keyPart (rec b : Nat) : Nat :=
  if b == 0 then fieldAt rec 3 1 else if b == 1 then fieldAt rec 4 8 else if b == 2 then fieldAt rec 16 16
  else if b == 3 then fieldAt rec 32 32 else if b == 4 then fieldAt rec 64 32 else if b == 5 then fieldAt rec 96 32
  else fieldAt rec 128 512

/-- An input that differs from the record in force starts a recomputation (13 R363). -/
def keyRecompute (b : Nat) (n : Node) : Node :=
  when (b < 7 && keyPart n.keyRecord b != keyPart (n.rd Ob.det_keyRecord) b) (fun n => n.keyInput b) n

/-- `KEY_RECOMPUTE` (13 R363). -/
def execKeyRecompute (reason : Nat) (s : State) : Host.Outcome State Fault Refusal := onNode s .tsu true (keyRecompute reason)

/-- The key and its record take the inputs in force (13 R361). -/
def Node.setKey (n : Node) : Node :=
  let rec_ := n.keyRecord
  ((n.wr Ob.det_keyRecord rec_).wr Ob.det_conformanceKey (blake3 (leBytes 640 rec_))).wr Ob.det_keyState 0

/-- A recomputation completes: the key is replaced, the change counted, recorded and journaled (13 R363). -/
def keyDone (n : Node) : Node :=
  when (n.rd Ob.det_keyState == 1) (fun n =>
    let n1 := (n.setKey.modKey (fun k =>
      { k with old := n.rd Ob.det_conformanceKey, doneAt := some n.tb1, dirty := 0 })).bump Ob.det_keyChanges
    let n2 := n1.fault { cause := 0x60, detail := put 79 72 n.key.dirty + put 63 0 (n1.rd Ob.det_conformanceKey) }
    n2.journalKey) n

/-- `KEY_RECOMPUTE_DONE` (13 R363). -/
def execKeyRecomputeDone (s : State) : Host.Outcome State Fault Refusal := onNode s .tsu true keyDone

/-! ### The Mint -/

/-- A manifest entry (13 R364). -/
def Node.manifest (n : Node) (e : Nat) : Nat := bits (n.rd Ob.mint_manifest) (128 * e) 128
/-- Its valid bit. -/
def mValid (w : Nat) : Bool := bit w 127
/-- Its kind: 0 weights, 1 inputs. -/
def mKind (w : Nat) : Nat := fld w 126 126
/-- Its bytes: parameters times width. -/
def mBytes (w : Nat) : Nat := fld w 75 30 * 2 ^ fld w 125 124
/-- Its chunks. -/
def mChunks (w : Nat) : Nat := (mBytes w + 1023) / 1024

/-- A node covers a chunk. -/
def MNode.covers (x : MNode) (a b : Nat) : Bool := x.chunk < b && a < x.chunk + x.len

/-- The nodes held for an entry in a step: pending chaining values, roots and segments on their lanes (13 R366). -/
def Node.mintHeld (n : Node) (c e step : Nat) : List MNode :=
  (n.mint.nodes ++ n.mint.roots ++ n.mint.lanes.map (·.2)).filter (fun x => x.ctx == c && x.entry == e && x.step == step)

/-- The run that was active in a region when a segment's header was accepted: context, step, launch, whether the gate of a kind was open
for it, and whether it still runs (13 R365, R366). -/
def Node.runAt (n : Node) (r kind tick : Nat) : Option (Nat × Nat × Nat × Bool × Bool) :=
  let live := match (n.agentOf r).run with
    | some x => if x.launch ≤ tick then some (x.ctx, x.step, x.launch, (if kind == 0 then x.gateW else x.gateI), true) else none
    | none => none
  match live with
  | some x => some x
  | none => (upTo n.ctxCount).findSome? (fun c =>
      ((n.ctxOf c).launched.find? (fun l => l.region == r && l.launch ≤ tick && (match l.fin with
        | some f => decide (tick < f)
        | none => false))).map
        (fun l => (c, (n.ctxOf c).step, l.launch, (if kind == 0 then l.gateW else l.gateI), false)))

/-- The bytes of a segment: those of its chunks (13 R365). -/
def segBytes (w i len : Nat) : Nat := min (mBytes w) (1024 * (i + len)) - 1024 * i

/-- A refused segment is counted; the record is made once per run (13 R365). -/
def Node.refuseSegment (n : Node) (r e i why : Nat) (run : Option (Nat × Nat × Nat × Bool × Bool)) : Node :=
  let n1 := n.bump Ob.mint_segmentsRefused
  let detail := put 79 72 why + put 71 34 i
  match run with
  | none => n1.fault { cause := 0x63, region := r, obj := e, detail := detail }
  | some x =>
    if n.mint.told.contains (r, x.2.2.1) then n1.countCause 0x63
    else (n1.fault { cause := 0x63, span := n.span, region := r, ctx := x.1, obj := e, detail := detail }).modMint
      (fun m => { m with told := (m.told.filter (fun y => y.1 != r)) ++ [(r, x.2.2.1)] })

/-- The case of 13 R365 under which a segment is refused, 0 when it is accepted. -/
def Node.segmentCase (n : Node) (e i ex : Nat) (run : Option (Nat × Nat × Nat × Bool × Bool)) : Nat :=
  let w := n.manifest e
  let len := min (i + 2 ^ ex) (mChunks w) - i
  if !mValid w then 1
  else if i % 2 ^ ex != 0 || mChunks w ≤ i then 2
  else match run with
  | none => 3
  | some x =>
    if !x.2.2.2.1 then 3
    else if !x.2.2.2.2 then 4
    else if (n.mintHeld x.1 e x.2.1).any (fun y => y.covers i (i + len) && !(y.chunk == i && y.len == len)) then 5
    else 0

/-- A segment of a Mint tap: entry, first chunk, size exponent, the tick on which its header was accepted and its bytes. It is hashed as a
node of its entry's tree, or refused (13 R365, R366). Bytes that are not those of the chunks named are no segment. -/
def mintSegment (r e i ex tick : Nat) (data : List Nat) (n : Node) : Node :=
  let w := n.manifest e
  let run := n.runAt r (mKind w) tick
  let why := n.segmentCase e i ex run
  let len := min (i + 2 ^ ex) (mChunks w) - i
  match run with
  | some x =>
    if why != 0 then n.refuseSegment r e i why run
    else when (data.length == segBytes w i len) (fun n =>
      let cv := cvNat (b3Tree 64 i (i == 0 && len == mChunks w) data)
      let node : MNode := { ctx := x.1, entry := e, step := x.2.1, chunk := i, len := len, cv := cv, ex := ex }
      let n1 := ((n.bump Ob.mint_segmentsAccepted).addTo Ob.mint_bytesHashed data.length).agEvents r 0x08 data.length
      n1.modMint (fun m =>
        { m with
          lanes := m.lanes ++ [(r, node)]
          touched := if m.touched.contains (x.1, e, x.2.1) then m.touched else m.touched ++ [(x.1, e, x.2.1)] })) n
  | none => n.refuseSegment r e i why none

/-- `MINT_SEGMENT` (13 R365). -/
def execMintSegment (r entry chunk ex tick : Nat) (data : List Nat) (s : State) : Host.Outcome State Fault Refusal :=
  onNode s .tsu (s.tsu.hasRegion r) (when (s.tsu.inputLive r) (mintSegment r entry chunk ex tick data))

/-- The parent of two neighbouring nodes, when they are the children of a node of a tree of `total` chunks (13 R366). -/
def joinNodes (total : Nat) (x y : MNode) : Option MNode :=
  if x.chunk + x.len == y.chunk && x.len == 2 ^ Nat.log2 x.len && x.chunk % (2 * x.len) == 0 && y.len ≤ x.len &&
      (y.len == x.len || y.chunk + y.len == total) then
    let root := x.chunk == 0 && y.chunk + y.len == total
    some { x with len := x.len + y.len, cv := cvNat (b3Parent root (cvWords x.cv) (cvWords y.cv)) }
  else none

/-- Join a node with what is held until it has no sibling: the node that results and the nodes left (13 R366). -/
def joinUp (total : Nat) : Nat → MNode → List MNode → MNode × List MNode
  | 0, x, held => (x, held)
  | fuel + 1, x, held =>
    match held.findSome? (fun y => ((joinNodes total x y) <|> (joinNodes total y x)).map (fun z => (z, y))) with
    | some (z, y) => joinUp total fuel z (held.filter (fun h => h != y))
    | none => (x, held)

/-- A chaining value enters the store and joins; the node of the whole entry is its root (13 R366). -/
def Node.mintAdd (n : Node) (x : MNode) : Node :=
  let total := mChunks (n.manifest x.entry)
  let mine := fun (y : MNode) => y.ctx == x.ctx && y.entry == x.entry && y.step == x.step
  let (top, left) := joinUp total 64 x (n.mint.nodes.filter mine)
  let rest := n.mint.nodes.filter (fun y => !mine y)
  if top.chunk == 0 && top.len == total then n.modMint (fun m => { m with nodes := rest ++ left, roots := m.roots ++ [top] })
  else n.modMint (fun m => { m with nodes := rest ++ left ++ [top] })

/-- The core takes the oldest chaining value of a region's lane: a repeat is ignored, or does not match with cause 0x64; a full store
refuses it, a case to which 13 R365 gives no number (13 R366). -/
def chainingValue (r : Nat) (n : Node) : Node :=
  match n.mint.lanes.find? (fun l => l.1 == r) with
  | none => n
  | some l =>
    let x := l.2
    let n1 := n.modMint (fun m => { m with lanes := m.lanes.erase l })
    match (n1.mint.nodes ++ n1.mint.roots).find? (fun y =>
        y.ctx == x.ctx && y.entry == x.entry && y.step == x.step && y.chunk == x.chunk && y.len == x.len) with
    | some y =>
      if y.cv == x.cv then n1
      else (n1.fault { cause := 0x64, span := n.span, region := r, ctx := x.ctx, obj := x.entry
                       detail := put 71 34 x.chunk + put 33 29 x.ex }).modMint
        (fun m => { m with bad := m.bad ++ [(x.ctx, x.entry, x.step)] })
    | none =>
      if 16384 ≤ n1.mint.nodes.length then
        let (f, n2) := n1.takeFree
        n2.refuseSegment r x.entry x.chunk f ((n2.runOf r).map (fun g => (g.ctx, g.step, g.launch, true, true)))
      else n1.mintAdd x

/-- `CHAINING_VALUE_POSTED` (13 R366). -/
def execChainingValuePosted (r : Nat) (s : State) : Host.Outcome State Fault Refusal :=
  onNode s .tsu (s.tsu.hasRegion r) (chainingValue r)

/-! ### Result tags -/

/-- The entries of a kind that completed in a step, in ascending number (13 R366, R367). -/
def Node.mintDone (n : Node) (c step kind : Nat) : List MNode :=
  (upTo 4096).filterMap (fun e => if mKind (n.manifest e) == kind && !n.mint.bad.contains (c, e, step) then
    n.mint.roots.find? (fun x => x.ctx == c && x.step == step && x.entry == e) else none)

/-- The 48-byte record of an entry (13 R367). -/
def Node.mintRecord (n : Node) (x : MNode) : List Nat :=
  leBytes 2 x.entry ++ leBytes 6 0 ++ leBytes 8 (fld (n.manifest x.entry) 121 76) ++ leBytes 32 x.cv

/-- The digest of a kind for a step (13 R367). -/
def Node.mintDigest (n : Node) (c step kind : Nat) : Nat := blake3 ((n.mintDone c step kind).flatMap n.mintRecord)

/-- Entries of a kind that received segments without completing (13 R367). -/
def Node.mintOpen (n : Node) (c step kind : Nat) : Nat :=
  (n.mint.touched.filter (fun x => x.1 == c && x.2.2 == step && mKind (n.manifest x.2.1) == kind &&
    !(n.mintDone c step kind).any (fun y => y.entry == x.2.1))).length

/-- What the tag of the step held last is formed from (13 R368). -/
def Node.tagJob (n : Node) (c : Nat) : TagJob :=
  let x := n.ctxOf c
  { step := x.step, table := x.table, key := x.keyAtF, prog := x.progAtF, taint := n.rd (Ob.tag_taintReasons c), audit := x.audit
    band := x.firedBand, cls := x.firedClass }

/-- The 144 bytes of the preimage of a full tag; an audit step has key and step number 0 (13 R368, R369). -/
def Node.preimage (n : Node) (c : Nat) (j : TagJob) : Nat :=
  let au := j.audit.isSome
  putField 0 32 (if au then 0 else j.key) + putField 32 32 j.prog + putField 64 32 (n.mintDigest c j.step 0) +
  putField 96 32 (n.mintDigest c j.step 1) + putField 128 8 (if au then 0 else j.step) + putField 136 2 (n.mintOpen c j.step 0) +
  putField 138 2 (n.mintOpen c j.step 1) + putField 140 1 (ofB (j.taint != 0))

/-- The short tag: the first 8 bytes of the full tag with bit 0 the taint bit (13 R368). -/
def shortTag (full taint : Nat) : Nat := fieldAt full 0 8 / 2 * 2 + ofB (taint != 0)

/-- A CENSUS message of a kind (15 R433). -/
def censusMsg (span epoch kind die body : Nat) (cont : List Nat) : Msg :=
  { typ := tCensus, cells := (put 127 112 span + put 111 80 epoch + put 79 76 kind + put 75 56 die + put 55 0 body) :: cont }

/-- An audit step is compared when its tag completes; a tag completed after the step's end is a mismatch (15 R425). -/
def Node.auditCompare (n : Node) (c : Nat) (j : TagJob) (short : Nat) (late : Bool) : Node :=
  match j.audit with
  | none => n
  | some want =>
    let bad := late || short != want
    let blob := putField 0 8 j.step + putField 8 1 c + putField 9 1 j.band + putField 10 1 j.cls + putField 11 1 (ofB bad) +
      putField 16 8 want + putField 24 8 short
    let n1 := (n.wr Ob.aud_lastAudit blob).bump (if bad then Ob.aud_auditMismatches else Ob.aud_auditsPassed)
    let n2 := n1.sendAll ([0, 1].filter (fun p => n.lst p == 6))
      (censusMsg n.span n.epoch 3 n.ident (put 55 53 j.band + put 52 49 j.cls + put 48 48 (ofB bad) + put 47 0 j.step) [])
    if bad then n2.ctxFault 0x95 c j.table (put 79 77 j.band + put 76 73 j.cls + put 72 72 (ofB late) + put 63 0 short) else n2

/-- The tag of a step is posted: record, history, interrupt and TAG; incomplete entries, a late tag and an audit are recorded
(13 R367, R370, R376; 15 R425). -/
def Node.postTag (n : Node) (c : Nat) (j : TagJob) (late : Bool) : Node :=
  let pre := n.preimage c j
  let full := blake3 (leBytes 144 pre)
  let short := shortTag full j.taint
  let status := 1 + 2 * ofB late + 8 * ofB j.audit.isSome
  let inc := fun (n : Node) (k : Nat) =>
    let m := n.mintOpen c j.step k
    if m == 0 then n else n.ctxFault 0x62 c k (put 79 64 m + put 47 0 j.step)
  let n1 := inc (inc n 0) 1
  let n2 := n1.wr (Ob.tag_tagRecord c) (pre + putField 144 32 full + tagTail short j.taint status)
  let n3 := ((n2.tagHistory c j.step short).irqEvent (0x0C0 + c)).sendTag c j.step short
  let n4 := if late then n3.ctxFault 0x65 c 0 (put 47 0 j.step) else n3
  (n4.auditCompare c j short late).dropMint c j.step

/-- The tag point of the step a context holds has passed: every gated run launched in it has ended (13 R370). -/
def Node.tagPoint (n : Node) (c : Nat) : Bool :=
  (n.ctxOf c).launched.all (fun r => !(r.gateW || r.gateI) || r.fin.isSome)

/-- A tag completes: that of a step whose context has been armed again first (13 R370). -/
def tagComplete (c : Nat) (n : Node) : Node :=
  match (n.ctxOf c).oldTag with
  | some j => (n.modCtx c (fun x => { x with oldTag := none })).postTag c j true
  | none => when ((n.ctxOf c).tagDue && n.tagPoint c) (fun n =>
      (n.modCtx c (fun x => { x with tagDue := false })).postTag c (n.tagJob c) (!n.fired c)) n

/-- `TAG_COMPLETE` (13 R370). -/
def execTagComplete (c : Nat) (s : State) : Host.Outcome State Fault Refusal := onCtx c s (tagComplete c)

/-! ### Journal records at a TSU -/

/-- The journaled objects whose writes are overrides (13 R371), by object key. -/
def isOverride (o : Nat) : Bool :=
  let idx := o / 256
  let sub := o % 256
  o == Ob.det_strict || o == Ob.det_engineFirmwareVersion || o == Ob.det_coreMap || o == 0x580000 ||
  (Nat.ble 0x4010 idx && Nat.blt idx 0x4020 && Nat.ble 1 sub && Nat.ble sub 4) ||
  (Nat.ble 0x5040 idx && Nat.blt idx 0x5080 && sub == 0) ||
  (Nat.ble 0x6100 idx && Nat.blt idx 0x6200 && sub == 0) ||
  (Nat.ble 0xD000 idx && Nat.blt idx 0xD400 && sub == 5) ||
  (Nat.ble 0xD800 idx && Nat.blt idx 0xE000 && Nat.ble 4 sub && Nat.ble sub 6)

/-- A write to this object is a journaled input (13 R371). -/
def isJournaled (o : Nat) : Bool :=
  isOverride o || o == Ob.mint_manifest || (Nat.ble 0x5100 (o / 256) && Nat.blt (o / 256) 0x5108 && o % 256 == 0) ||
  (Nat.ble 0x7080 (o / 256) && Nat.blt (o / 256) 0x70C0 && o % 256 == 0)

/-- The reference context of an input: the one it names, or that of object 0x7000.09 (13 R372). -/
def Node.inputCtx (n : Node) (typ addr : Nat) (data : List Nat) : Nat :=
  if typ == 1 then data.getD 1 0 else if typ == 2 then addr / 4096 - 0x7080 else n.journalCtx

/-- The payload of a record: for a manifest entry `addr` is its number, for an override the register-port address (13 R371). -/
def Node.inputPayload (n : Node) (typ addr : Nat) (data : List Nat) : List Nat :=
  if typ == 3 then leBytes 2 addr ++ leBytes 6 0 ++ data
  else if typ == 4 then leBytes 4 addr ++ data
  else if typ == 5 then leBytes 4 addr ++ leBytes 4 data.length ++ leBytes 32 (blake3 data)
  else if typ == 6 then leBytes 32 (n.rd Ob.det_conformanceKey)
  else data

/-- The size of the input a type records (13 R371). -/
def inputSize (typ : Nat) (len : Nat) : Bool :=
  if typ == 1 || typ == 2 then len == 32 else if typ == 3 then len == 16
  else if typ == 4 then 1 ≤ len && len ≤ 64 else if typ == 5 then 64 < len else typ == 6

/-- A journaled input makes a record (13 R371, R374). -/
def journalRecord (typ addr : Nat) (data : List Nat) (n : Node) : Node :=
  when (inputSize typ data.length && decide (n.inputCtx typ addr data < 64))
    (fun n => n.journal typ (n.inputCtx typ addr data) (n.inputPayload typ addr data)) n

/-- `JOURNAL_RECORD` (13 R374). -/
def execJournalRecord (typ addr : Nat) (data : List Nat) (s : State) : Host.Outcome State Fault Refusal :=
  onNode s .tsu true (journalRecord typ addr data)

/-- The record may be sent again on a lane: no acknowledgement from its head for 65,536 ticks, and fewer than 16 sends (13 R374). -/
def JRec.again (r : JRec) (p now : Nat) : Bool :=
  if p == 0 then !r.ackA && r.sendsA < 16 && decide (r.tickA + 65536 ≤ now) else !r.ackB && r.sendsB < 16 && decide (r.tickB + 65536 ≤ now)

/-- The sends on a lane are used up without an answer (13 R374). -/
def JRec.spent (r : JRec) (p now : Nat) : Bool :=
  if p == 0 then r.ackA || (16 ≤ r.sendsA && decide (r.tickA + 65536 ≤ now)) else r.ackB || (16 ≤ r.sendsB && decide (r.tickB + 65536 ≤ now))

/-- Replace a record by its number. -/
def Node.setRec (n : Node) (seq : Nat) (f : JRec → Option JRec) : Node :=
  n.modJrnl (fun j => { j with pend := j.pend.filterMap (fun r => if r.seq == seq then f r else some r) })

/-- A record without an acknowledgement for 65,536 ticks is sent again, and lost after 16 sends on each lane (13 R374). -/
def journalResend (seq : Nat) (n : Node) : Node :=
  match n.jrnl.pend.find? (fun r => r.seq == seq) with
  | none => n
  | some r =>
    let lanes := [0, 1].filter n.journalPort
    let ps := lanes.filter (fun p => r.again p n.tb1)
    if !ps.isEmpty then (overAll ps (fun n p => n.sendRecord p r) n).setRec seq (fun r => some (r.sent ps n.tb1))
    else if !lanes.isEmpty && lanes.all (fun p => r.spent p n.tb1) then
      let n1 := n.setRec seq (fun _ => none)
      if r.open then n1.loseRecord r.ctx r.seq r.typ r.refStep else n1
    else n

/-- `JOURNAL_RESEND` (13 R374). -/
def execJournalResend (seq : Nat) (s : State) : Host.Outcome State Fault Refusal := onNode s .tsu true (journalResend seq)

/-- A JOURNAL message of a kind: 1 RECORD, 2 ACK, 3 TAG, 4 REPLAY (13 R373). -/
def isJournalKind (k : Nat) (m : Msg) : Bool := m.typ == tJournal && fld m.head 79 76 == k

/-- Context of a JOURNAL message. -/
def jCtx (m : Msg) : Nat := fld m.head 75 70
/-- Die. -/
def jDie (m : Msg) : Nat := fld m.head 69 50
/-- Sequence. -/
def jSeq (m : Msg) : Nat := fld m.head 49 18
/-- Reference step of a RECORD or REPLAY. -/
def jRef (m : Msg) : Nat := fld (m.cell 1) 127 80
/-- Type. -/
def jTyp (m : Msg) : Nat := fld (m.cell 1) 79 76
/-- Length. -/
def jLen (m : Msg) : Nat := fld (m.cell 1) 75 68
/-- Offset, signed. -/
def jOff (m : Msg) : Int := toS 64 (fld (m.cell 1) 63 0)
/-- Payload bytes. -/
def jBytes (m : Msg) : List Nat := payloadBytes { m with cells := m.cells.drop 1 } (jLen m)

/-- The records of a TSU up to a number are acknowledged by a lane's head; a record counts as journaled with the first (13 R374). -/
def Node.takeAck (n : Node) (p seq : Nat) : Node :=
  let hit := fun (r : JRec) => decide (r.seq ≤ seq)
  let fresh := (n.jrnl.pend.filter (fun r => hit r && r.open)).length
  let pend := n.jrnl.pend.map (fun r => if hit r then (if p == 0 then { r with ackA := true } else { r with ackB := true }) else r)
  let keep := fun (r : JRec) => r.open || (!r.ackA && n.journalPort 0) || (!r.ackB && n.journalPort 1)
  (n.modJrnl (fun j => { j with pend := pend.filter keep })).addTo Ob.det_recordsJournaled fresh

/-- A down message for one die goes on to its downlink (13 R374, 11 R293). -/
def Node.journalDown (n : Node) (p : Nat) (m : Msg) : Node :=
  let q := n.downFor (jDie m)
  if n.memberMatch q m.span m.epoch && n.journalPort q then n.forward p q m else n

/-- An up message goes on to the uplink of its instance (13 R374, 11 R293). -/
def Node.journalUp (n : Node) (p : Nat) (m : Msg) : Node :=
  let q := n.uplink m.span m.epoch
  if n.memberMatch q m.span m.epoch && n.journalPort q then n.forward p q m else n

/-- An ACK: at its TSU the lane's head has the records; a hub passes it on, down to a die or up to its head, which counts the replayed
records of the die as taken (13 R374, R378). -/
def journalAck (p : Nat) (n : Node) : Node :=
  n.onMsg p (isJournalKind 2) (fun m n =>
    if !n.isHub then
      when (m.span == n.span && m.epoch == n.epoch && jDie m == n.ident) (fun n => n.takeAck p (jSeq m)) n
    else if 66 ≤ p then n
    else if 64 ≤ p then n.journalDown p m
    else if n.isHeadOf m.span then
      n.modReplay (fun r => { r with sent := r.sent.filter (fun x => !(x.1 == jDie m && x.2 ≤ jSeq m)) })
    else n.journalUp p m)

/-- `JOURNAL_ACK_RECEIVED` (13 R374). -/
def execJournalAckReceived (u : Who) (p : Nat) (s : State) : Host.Outcome State Fault Refusal :=
  onNode s u ((s.node u).hasPort p) (journalAck p)

/-! ### The journal of a hub -/

/-- Slots of the ring (13 R375, object 0x7200.00). -/
def ringSize : Nat := 536870912

/-- A span instance is in the pin list (13 R375, object 0x7200.04). -/
def Node.pinned (n : Node) (span epoch : Nat) : Bool :=
  (upTo 16).any (fun k =>
    let w := bits (n.rd Ob.jrnl_pinList) (64 * k) 64
    bit w 63 && fld w 47 32 == span && fld w 31 0 == epoch)

/-- Slots taken by records. -/
def slotsUsed (l : List JSlot) : Nat := (l.map (·.slots)).sum

/-- Overwrite the oldest records that are not pinned until `need` slots are free: what stays, and the place of the first one overwritten;
none when only pinned slots are left (13 R375). -/
def makeRoom (pin : JSlot → Bool) (need : Nat) : Nat → List JSlot → Option Nat → Option (List JSlot × Option Nat)
  | 0, _, _ => none
  | fuel + 1, l, at_ =>
    if slotsUsed l + need ≤ ringSize then some (l, at_)
    else match l.find? (fun x => !pin x) with
      | none => none
      | some x => makeRoom pin need fuel (l.erase x) (some (at_.getD x.pos))

/-- Store a record; cause 0x67 once per span instance when only pinned slots are found (13 R375). -/
def Node.storeSlot (n : Node) (x : JSlot) : Node × Bool :=
  let j := n.jhub
  match makeRoom (fun y => n.pinned y.span y.epoch) x.slots (j.ring.length + 1) j.ring none with
  | none =>
    let key := x.span * 2 ^ 32 + x.epoch
    if j.told.contains key then (n.countCause 0x67, false)
    else ((n.fault { cause := 0x67, span := x.span, detail := put 79 48 x.epoch }).modJhub (fun j => { j with told := j.told ++ [key] }), false)
  | some (l, at_) =>
    (n.modJhub (fun j =>
      { j with ring := l ++ [{ x with pos := at_.getD j.head }], head := min ringSize (j.head + (if at_.isNone then x.slots else 0)) }), true)

/-- The records of a die held for an instance. -/
def Node.dieRecords (n : Node) (span epoch die : Nat) : List JSlot :=
  n.jhub.ring.filter (fun x => !x.trail && x.span == span && x.epoch == epoch && x.die == die)

/-- The last number of an unbroken run from `k` on. -/
def runEnd (seqs : List Nat) : Nat → Nat → Nat
  | 0, k => k
  | fuel + 1, k => if seqs.contains (k + 1) then runEnd seqs fuel (k + 1) else k

/-- The highest number held in order, from the lowest held (13 R373; log entry 37). -/
def highestHeld (seqs : List Nat) : Option Nat :=
  match seqs with
  | [] => none
  | a :: r => some (runEnd seqs seqs.length (r.foldl min a))

/-- An ACK of a die (13 R373). -/
def ackMsg (span epoch ctx die seq : Nat) : Msg :=
  { typ := tJournal, cells := [put 127 112 span + put 111 80 epoch + put 79 76 2 + put 75 70 ctx + put 69 50 die + put 49 18 seq] }

/-- A head acknowledges a die's records (13 R374). -/
def Node.ackRecords (n : Node) (m : Msg) : Node :=
  match highestHeld ((n.dieRecords m.span m.epoch (jDie m)).map (·.seq)) with
  | none => n
  | some k =>
    let q := n.downFor (jDie m)
    if n.memberMatch q m.span m.epoch && n.journalPort q then n.send q (ackMsg m.span m.epoch (jCtx m) (jDie m) k) else n

/-- Source span and epoch of a replay (13 R377, object 0x7201.00). -/
def Node.replaySource (n : Node) : Nat × Nat := (fld (n.rd Ob.rpl_replaySource) 47 32, fld (n.rd Ob.rpl_replaySource) 31 0)

/-- This hub compares the instances of a span with a replay's source (13 R379): a source is set, for the span, and a head's replay runs. -/
def Node.comparing (n : Node) (span epoch : Nat) : Bool :=
  let s := n.replaySource
  s.1 == span && s.2 != epoch && span != 0 && (!n.isHeadOf span || n.rd Ob.rpl_replayState == 1)

/-- During a replay a head compares a key record with the source's most recent one of the same die (13 R379). -/
def Node.keyCompare (n : Node) (m : Msg) : Node :=
  let s := n.replaySource
  if jTyp m != 6 || !n.comparing m.span m.epoch then n
  else match ((n.dieRecords s.1 s.2 (jDie m)).filter (fun x => x.typ == 6)).getLast? with
  | none => n
  | some x =>
    let old := jBytes { typ := tJournal, cells := x.cells }
    if old == jBytes m then n
    else n.fault { cause := 0x6B, span := m.span, die := some (jDie m), detail := put 63 0 (leVal ((jBytes m).take 8)) }

/-- A hub takes a RECORD: it passes it up, or as the head stores the first copy and acknowledges it (13 R374, R375); an up message on an
uplink or twin lane is dropped and counted (11 R293). -/
def journalStore (p : Nat) (n : Node) : Node :=
  n.onMsg p (isJournalKind 1) (fun m n =>
    if 64 ≤ p || !n.spanMatch p m.span m.epoch then n.bump Ob.htly_messagesDropped
    else if !n.isHeadOf m.span then n.journalUp p m
    else if !n.fnEnabled 3 then n
    else if (n.dieRecords m.span m.epoch (jDie m)).any (fun x => x.seq == jSeq m) then (n.bump Ob.jrnl_duplicates).ackRecords m
    else
      let x : JSlot :=
        { span := m.span, epoch := m.epoch, die := jDie m, seq := jSeq m, ctx := jCtx m, step := jRef m, typ := jTyp m, cells := m.cells }
      let (n1, ok) := n.storeSlot x
      if ok then ((n1.bump Ob.jrnl_recordsStored).keyCompare m).ackRecords m else n1)

/-- `JOURNAL_STORE` (13 R375). -/
def execJournalStore (p : Nat) (s : State) : Host.Outcome State Fault Refusal := onNode s .hub (s.hub.hasPort p) (journalStore p)

/-! ### Trails -/

/-- A trail is that of a span, context and step. -/
def Trail.is (t : Trail) (span epoch ctx step : Nat) : Bool := t.span == span && t.epoch == epoch && t.ctx == ctx && t.step == step

/-- Change a trail. -/
def Node.modTrail (n : Node) (span epoch ctx step : Nat) (f : Trail → Trail) : Node :=
  { n with trails := n.trails.map (fun t => if t.is span epoch ctx step then f t else t) }

/-- A trail takes a TAG of a downlink; with the last expected one the tick of its close is set (13 R376). -/
def Trail.take (t : Trail) (p first tag count : Nat) (inc : Bool) : Trail :=
  if !t.expect.contains p then t
  else
    let left := t.expect.filter (· != p)
    { t with
      expect := left, tags := t.tags ++ [(p, tag, count, inc)], lastAt := first
      due := if left.isEmpty then some (nextMul 8 (first + 16)) else t.due }

/-- A hub adds a TAG to the trail of its step, which the first TAG opens; a TAG with count 0 takes its downlink out of the set
(13 R376). -/
def tagReceived (p : Nat) (n : Node) : Node :=
  n.onMsg p (isJournalKind 3) (fun m n =>
    if 64 ≤ p || !n.spanMatch p m.span m.epoch then n
    else
      let ctx := jCtx m
      let step := jSeq m
      let n1 :=
        if n.trails.any (fun t => t.is m.span m.epoch ctx step) then n
        else { n with trails := n.trails ++
          [{ span := m.span, epoch := m.epoch, ctx := ctx, step := step, firstAt := m.first, expect := n.expectedSet m.span m.epoch ctx }] }
      let count := fld (m.cell 1) 63 44
      n1.modTrail m.span m.epoch ctx step (fun t =>
        if count == 0 then { t with lastAt := m.first }.dropPort p
        else t.take p m.first (fld (m.cell 1) 127 64) count (bit (m.cell 1) 43)))

/-- `TAG_MESSAGE_RECEIVED` (13 R376). -/
def execTagMessageReceived (p : Nat) (s : State) : Host.Outcome State Fault Refusal := onNode s .hub (s.hub.hasPort p) (tagReceived p)

/-- Tag of a downlink in a trail. -/
def Trail.tagOf (t : Trail) (p : Nat) : Option Nat := (t.tags.find? (fun x => x.1 == p)).map (fun x => x.2.1)

/-- The trail record: step, present mask, 64 tags (13 R376). -/
def Trail.record (t : Trail) : Nat :=
  putField 0 8 t.step + putField 8 8 ((t.tags.map (fun x => 2 ^ x.1)).sum) +
  ((t.tags.map (fun x => putField (16 + 8 * x.1) 8 x.2.1)).sum)

/-- The lowest downlink at which two trail records differ, in presence or tag (13 R379). -/
def trailDiff (a b : Nat) : Option Nat :=
  (upTo 64).find? (fun p => bit (fieldAt a 8 8) p != bit (fieldAt b 8 8) p || fieldAt a (16 + 8 * p) 8 != fieldAt b (16 + 8 * p) 8)

/-- During a replay a trail is compared with the source trail of its context and step (13 R379). -/
def Node.trailCompare (n : Node) (t : Trail) : Node :=
  let s := n.replaySource
  if !n.comparing t.span t.epoch then n
  else match n.jhub.ring.find? (fun x => x.trail && !x.damaged && x.span == s.1 && x.epoch == s.2 && x.ctx == t.ctx && x.step == t.step) with
  | none => n
  | some x =>
    match trailDiff t.record x.data with
    | none => n
    | some p =>
      let n1 := if n.rd Ob.rpl_divergences == 0 then
          n.wr Ob.rpl_firstDivergence (putField 0 8 t.step + putField 8 1 t.ctx + putField 9 1 p) else n
      (n1.bump Ob.rpl_divergences).fault
        { cause := 0x6A, span := t.span, region := p, ctx := t.ctx, detail := put 79 48 (fieldAt t.record (16 + 8 * p) 8) + put 47 0 t.step }

/-- The die of a Pier's downlink (01 R28). -/
def Node.dieAt (n : Node) (p : Nat) : Nat := dieNumber n.arch n.pier p

/-- A Pier compares the tags of a die and its shadow when both are present, not 0 and untainted (15 R428). -/
def Node.shadowCompare (n : Node) (t : Trail) : Node :=
  if n.level != 1 then n
  else overAll (upTo 64) (fun n p =>
    let q := n.rd (Ob.hlt_shadowPort p)
    match t.tagOf p, t.tagOf q with
    | some a, some b =>
      if q != 0xFF && a != 0 && b != 0 && a % 2 == 0 && b % 2 == 0 && a != b then
        (n.modDport p (fun d => { d with xAudit := d.xAudit + 1 })).fault
          { cause := 0x92, span := t.span, die := some (n.dieAt p), detail := put 79 72 3 + put 71 62 (n.rd (Ob.hlt_score p)) }
      else n
    | _, _ => n) n

/-- A hub that is not the head sends the XOR of a trail's tags up with the counts summed, and count 0 on its other uplink (13 R376). -/
def Node.trailUp (n : Node) (t : Trail) : Node :=
  if n.isHeadOf t.span then n
  else
    let up := n.uplink t.span t.epoch
    let other := 129 - up
    let tag := (t.tags.map (fun x => x.2.1)).foldl (fun a b => a ^^^ b) 0
    let count := (t.tags.map (fun x => x.2.2.1)).sum
    let inc := !t.expect.isEmpty || t.tags.any (fun x => x.2.2.2)
    let go := fun (n : Node) (p : Nat) (m : Msg) => if n.memberMatch p t.span t.epoch && n.journalPort p then n.send p m else n
    let n1 := go n up (tagMsg t.span t.epoch t.ctx t.step tag count (ofB inc))
    go n1 other (tagMsg t.span t.epoch t.ctx t.step 0 0 0)

/-- A trail closes 16 ticks after its last expected TAG or 1 ms after its first: it is stored, compared and sent up (13 R376, R379; 15
R428). -/
def trailClose (span ctx step : Nat) (n : Node) : Node :=
  match n.trails.find? (fun t => t.span == span && t.ctx == ctx && t.step == step) with
  | none => n
  | some t =>
    when ((match t.due with
          | some d => decide (d ≤ n.tb1)
          | none => false) || decide (t.firstAt + 1562500 ≤ n.tb1)) (fun n =>
      let n1 := { n with trails := n.trails.erase t }
      let n2 := (n1.storeSlot { span := t.span, epoch := t.epoch, slots := 5, trail := true, ctx := t.ctx, step := t.step, data := t.record }).1
      ((n2.trailCompare t).shadowCompare t).trailUp t) n

/-- `TRAIL_CLOSE` (13 R376). -/
def execTrailClose (span ctx step : Nat) (s : State) : Host.Outcome State Fault Refusal := onNode s .hub true (trailClose span ctx step)

/-! ### Replay at a head and at a TSU -/

/-- Command 1: the injection of source records starts (13 R377). -/
def replayStart (n : Node) : Node :=
  n.needsFn 4 (fun n => n.accept true (fun n => (n.wr Ob.rpl_replayState 1).modReplay (fun r => { r with done := [], sent := [] })))

/-- `REPLAY_START` (13 R377). -/
def execReplayStart (s : State) : Host.Outcome State Fault Refusal := onNode s .hub true replayStart

/-- A running replay stops (13 R379). -/
def Node.stopReplay (n : Node) : Node := if n.rd Ob.rpl_replayState == 1 then n.wr Ob.rpl_replayState 3 else n

/-- `REPLAY_STOP` (13 R379): command 0. -/
def execReplayStop (s : State) : Host.Outcome State Fault Refusal := onNode s .hub true (fun n => n.stopReplay.answer 0)

/-- The source records to be injected: those at or after the first step, without the setup records (13 R377, R378). -/
def Node.sourceRecords (n : Node) : List JSlot :=
  let s := n.replaySource
  n.jhub.ring.filter (fun x => !x.trail && !x.damaged && x.span == s.1 && x.epoch == s.2 && x.step != setupStep &&
    n.rd Ob.rpl_replayFirstStep ≤ x.step && !n.replay.done.contains (x.die, x.seq))

/-- The running head entry of a context of the replayed span. -/
def Node.entryFor (n : Node) (span ctx : Nat) : Option Nat :=
  (upTo 256).find? (fun k => n.headRuns k && n.headSpan k == span && n.headCtx k == ctx)

/-- The ARM of the step before a record's step has left (13 R378). -/
def Node.armLeft (n : Node) (x : JSlot) : Bool :=
  match n.entryFor x.span x.ctx with
  | none => false
  | some k => x.step ≤ n.nextStep k || ((n.headOf k).fFire != 0 && x.step ≤ (n.headOf k).fStep + 1)

/-- A record can no longer be injected in time: its tick has passed by the escrow this head holds (13 R379). -/
def Node.tooLate (n : Node) (x : JSlot) : Bool :=
  match n.entryFor x.span x.ctx with
  | none => false
  | some k =>
    let h := n.headOf k
    h.fFire != 0 && h.fStep == x.step && decide ((h.fFire : Int) + jOff { typ := tJournal, cells := x.cells } < (n.tb1 : Int))

/-- The data of a record of type 5 are supplied from outside and must have its digest (13 R377). -/
def JSlot.dataOk (x : JSlot) (data : List Nat) : Bool :=
  x.typ != 5 || leBytes 32 (blake3 data) == ((jBytes { typ := tJournal, cells := x.cells }).drop 8).take 32

/-- A head sends one source record as a REPLAY message to its die; with none left the source is exhausted, and with one that is too late
the replay stops (13 R378, R379). -/
def replayInject (data : List Nat) (n : Node) : Node :=
  let span := n.replaySource.1
  when (n.rd Ob.rpl_replayState == 1 && n.isHeadOf span) (fun n =>
    if n.sourceRecords.isEmpty then n.wr Ob.rpl_replayState 2
    else match n.sourceRecords.find? (fun x => n.armLeft x && (n.replay.sent.filter (fun y => y.1 == x.die)).length < 256) with
    | none => n
    | some x =>
      if n.tooLate x then n.stopReplay
      else if !x.dataOk data then n
      else
        let epoch := match n.spanEntryOf span with
          | some e => fld e 111 80
          | none => 0
        let m : Msg :=
          { typ := tJournal
            cells := (put 127 112 span + put 111 80 epoch + put 79 76 4 + put 75 70 x.ctx + put 69 50 x.die + put 49 18 x.seq) :: x.cells.drop 1 }
        let q := n.downFor x.die
        let n1 := if n.memberMatch q span epoch && n.journalPort q then n.send q m else n
        n1.modReplay (fun r => { r with done := r.done ++ [(x.die, x.seq)], sent := r.sent ++ [(x.die, x.seq)] })) n

/-- `REPLAY_INJECT` (13 R378). -/
def execReplayInject (data : List Nat) (s : State) : Host.Outcome State Fault Refusal := onNode s .hub true (replayInject data)

/-- The tick of a replayed record, once the F of its reference step is known (13 R378). -/
def Node.replayDue (n : Node) (m : Msg) : Option Int :=
  ((n.ctxOf (jCtx m)).arms.find? (fun a => a.1 == jRef m)).map (fun a => (a.2 : Int) + jOff m)

/-- A record that comes too late: cause 0x68, and the wave, the abort and the stopped walk of a deadline-class fault (13 R378, R380). -/
def Node.replayLate (n : Node) (m : Msg) (ticks : Nat) : Node :=
  n.strikeStep (jCtx m) 0x68 (jSeq m) (put 79 48 ticks + put 47 0 (jRef m))

/-- A TSU holds the first copy of a record until its F is known. A record whose tick has passed is late; for a step whose F the TSU no
longer holds, the ticks are not stated (13 R378). -/
def Node.holdReplay (n : Node) (m : Msg) : Node :=
  if n.jrnl.got.contains (jSeq m) then n
  else
    let n1 := n.modJrnl (fun j => { j with got := j.got ++ [jSeq m] })
    match n1.replayDue m with
    | some t =>
      if t < (n1.tb1 : Int) then n1.replayLate m ((n1.tb1 : Int) - t).toNat
      else n1.modJrnl (fun j => { j with held := j.held ++ [(jSeq m, m)] })
    | none =>
      if (n1.ctxOf (jCtx m)).arms.any (fun a => jRef m < a.1) then
        let (f, n2) := n1.takeFree
        n2.replayLate m f
      else n1.modJrnl (fun j => { j with held := j.held ++ [(jSeq m, m)] })

/-- A REPLAY message: a hub passes it down to its die, the die's TSU takes it (13 R378). -/
def replayReceived (p : Nat) (n : Node) : Node :=
  n.onMsg p (isJournalKind 4) (fun m n =>
    if n.isHub then (if 64 ≤ p && p < 66 then n.journalDown p m else n)
    else when (m.span == n.span && m.epoch == n.epoch && jDie m == n.ident && decide (jCtx m < n.ctxCount)) (fun n => n.holdReplay m) n)

/-- `REPLAY_RECORD_RECEIVED` (13 R378). -/
def execReplayRecordReceived (u : Who) (p : Nat) (s : State) : Host.Outcome State Fault Refusal :=
  onNode s u ((s.node u).hasPort p) (replayReceived p)

/-- In replay input mode a journaled input from the port or by relay is refused with status 0x8 and counted (13 R377). -/
def suppressInput (oid : Nat) (n : Node) : Node :=
  when (isJournaled oid && n.rd Ob.det_inputMode == 1) (fun n => (n.bump Ob.det_inputsSuppressed).answer 8) n

/-- `JOURNALED_INPUT_SUPPRESS` (13 R377). -/
def execJournaledInputSuppress (oid : Nat) (s : State) : Host.Outcome State Fault Refusal := onNode s .tsu true (suppressInput oid)

end Sys2Proof.Machine
end

