-- ==== Sys2Proof/Machine/Region.lean ====
section
/-! DEFINITION. The supply of a region and its escalation ladder: what the commands of 14 R392 to R402 and 17 R476 to R486 share. -/

namespace Sys2Proof.Machine

/-- State of a region: 0 ACTIVE, 1 DOZE, 2 RETAIN, 3 OFF, 4 FENCED, 5 LOST (17 R476). -/
def Node.rst (n : Node) (r : Nat) : Nat := n.rd (Ob.reg_regionState r)

/-- A region changes state: the transition is kept, and a change of the region map is a change of a key input (17 R477, R504; 13 R362). -/
def Node.setRegion (n : Node) (r st : Nat) : Node :=
  let blob := putField 0 1 (n.rst r) + putField 1 1 st + putField 2 1 (n.rd (Ob.reg_answer r)) + putField 8 8 n.tb1
  let n1 := (n.wr (Ob.reg_regionState r) st).wr (Ob.reg_lastTransition r) blob
  if n1.mapped r == n.mapped r then n1 else n1.keyInput 4

/-- Count in a region's power counters: 0 grants, 1 refusals, 2 delays expired, 3 wakes, 4 stage timeouts (17 R504). -/
def Node.regCount (n : Node) (r k : Nat) : Node := n.bumpBits (Ob.reg_counters r) (64 * k) 64

/-- Count in a region's watch counters: 0 misses, 1 resets, 2 slow resets, 3 isolations, 4 power cycles, 5 losses, 6 heartbeats of reserved
kind (14 R407). -/
def Node.watchCount (n : Node) (r k : Nat) : Node := n.bumpBits (Ob.watch_counters r) (64 * k) 64

/-- Power-good falls: the tick bypass engages, the region's cells are severed, and a frequency change that it had asked for is over with its
request line (07 R177, R197; 08 R214; log entry 242). -/
def Node.pgFall (n : Node) (r : Nat) : Node :=
  if (n.regionOf r).pgood then
    (((n.modRegion r (fun g => { g with pgood := false })).bypassShow r).severRegion r).modAgent r (fun a =>
      { a with req := none, stopAt := none, ackAt := none, go := false, overrun := false, hung := false, marginLeft := 0 })
  else n

/-- Power-good rises: the bypass is released; the region's cells stay severed until a flush (07 R177, 08 R214). -/
def Node.pgRise (n : Node) (r : Nat) : Node :=
  if (n.regionOf r).pgood then n else ((n.severRegion r).modRegion r (fun g => { g with pgood := true })).bypassShow r

/-- The power-up order starts with the regulator (17 R483). -/
def Node.startUp (n : Node) (r : Nat) : Node :=
  n.modRegion r (fun g => { g with phase := 5, stage := 0, phaseAt := n.tb1, ret := false, puEn := g.puEn / 2 * 2 + 1 })

/-- The region is taken down without the handshake: every enable low, every isolation line high (14 R397, 17 R477). With power-good already
low, and at an Edge TSU, whose power-good is tied high, the regulator is only held off (18 R523). -/
def Node.forceDown (n : Node) (r : Nat) : Node :=
  n.modRegion r (fun g =>
    { g with
      puEn := 0, ret := false, iso := 255, pwrGo := false, req := none, delay := 0
      phase := if g.pgood && n.kind != .edge then 6 else 8, phaseAt := n.tb1 })

/-- The rolling hour of the power-cycle budget (14 R397). -/
def hourTicks : Nat := 3600 * tps

/-- A field of a region's last ladder: 0 reset request, 1 isolation, 2 power cycle, 3 end (14 R407). -/
def Node.ladderTick (n : Node) (r k t : Nat) : Node := n.wrBits (Ob.watch_lastLadder r) (64 * (2 + k)) 64 t

/-- A ladder begins: its record names the trigger, the context and the tick (14 R394, R407). -/
def Node.ladderOpen (n : Node) (r cause ctx : Nat) : Node :=
  n.wr (Ob.watch_lastLadder r) (putField 0 1 cause + putField 1 1 ctx + putField 8 8 n.tb1)

/-- The ladder ends with the region working: the watch is disarmed (14 R395, R397). -/
def Node.ladderDone (n : Node) (r : Nat) : Node :=
  ((n.wr (Ob.watch_ladderState r) 0).modRegion r (fun g => { g with ladder := 0, crstReq := false, isolated := false })).ladderTick r 3 n.tb1

/-- The active run of a region ends as aborted. -/
def Node.abortRun (n : Node) (r : Nat) : Node :=
  match n.runOf r with
  | some x => n.agentAbort r x.ctx none
  | none => n

/-- Rung 4: the region is LOST, its regulator stays off, its isolation lines high, its tick bypass engaged and its cells severed
(14 R398). -/
def Node.rung4 (n : Node) (r why : Nat) : Node :=
  let n1 := (((n.abortRun r).forceDown r).pgFall r).modRegion r (fun g => { g with phase := 0, ladder := 4, crstReq := false, isolated := false })
  let n2 := ((n1.bypassShow r).severRegion r).setRegion r 5
  let n3 := ((n2.wr (Ob.watch_ladderState r) 5).watchCount r 5).ladderTick r 3 n.tb1
  n3.regionFault 0x74 r 0 (put 79 72 why)

/-- Rung 3: a power cycle, unless the budget of the rolling hour is spent (14 R397). A LOST region stays LOST until it is done (14 R398). -/
def Node.rung3 (n : Node) (r why : Nat) : Node :=
  let past := (n.regionOf r).cycles.filter (fun t => n.tb1 < t + hourTicks)
  if n.rd (Ob.watch_cycleBudget r) ≤ past.length then (n.modRegion r (fun g => { g with cycles := past })).rung4 r 3
  else
    let n1 := (n.abortRun r).modRegion r (fun g =>
      { g with cycles := past ++ [n.tb1], ladder := 3, cycWhy := why, ladderAt := n.tb1, crstReq := false, isolated := false })
    let n2 := (((n1.wr (Ob.watch_ladderState r) 4).watchCount r 4).ladderTick r 2 n.tb1).forceDown r
    if n.rst r == 5 then n2 else n2.setRegion r 3

/-- The ladder starts at rung 1 for a context (14 R393, R394). -/
def Node.rung1 (n : Node) (r cause ctx : Nat) : Node :=
  if n.rd (Ob.watch_ladderState r) == 1 then
    ((n.ladderOpen r cause ctx).wr (Ob.watch_ladderState r) 2).modRegion r (fun g =>
      { g with ladder := 1, ladderCtx := ctx, ladderAt := n.tb1, crstReq := false })
  else n

/-- The clusters of a context at a region (14 R396). -/
def Node.clusters (n : Node) (r c : Nat) : Nat := fieldAt (n.rd (Ob.watch_clusterMap r)) c 1

/-- Rung 2 starts: the clusters of the context are isolated and stopped, cause 0x72 (14 R396). -/
def Node.rung2 (n : Node) (r : Nat) : Node :=
  let c := (n.regionOf r).ladderCtx
  let mask := n.clusters r c
  let n1 := n.modRegion r (fun g => { g with isolated := true, iso := g.iso ||| mask, cstop := g.cstop ||| mask })
  (((n1.wr (Ob.watch_ladderState r) 3).watchCount r 3).ladderTick r 1 n.tb1).fault
    { cause := 0x72, span := n.span, region := r, ctx := c, obj := mask, detail := put 79 72 1 }

/-- The abort of the faulting step has acted on the region, or none is on its way (14 R395). -/
def Node.resetDue (n : Node) (r : Nat) : Bool :=
  let g := n.regionOf r
  let a := n.agentOf r
  let hit := match a.abortHi with
    | some t => a.aborted.contains g.ladderCtx && g.ladderAt ≤ t && t < n.tb1
    | none => false
  let coming := n.bus.aborts.any (fun x => x.1 == g.ladderCtx) || (match (n.ctxOf g.ladderCtx).abortAt with
    | some t => decide (n.tb1 ≤ t)
    | none => false)
  hit || (!coming && g.ladderAt < n.tb1)

/-- What falls due at a region on a tick: `ra_pu_en[2]` rises again after the tick on which it was lowered (17 R483), the reset request on the tick after the abort (14 R395), rung 2 on the tick after rung 1 failed
(14 R394), `ra_pwr_go` two ticks after a grant (17 R480), the power-up after 1,563 ticks with the regulator off (14 R397), and a state that
is entered on the tick after its cause or two ticks after logic ready (17 R480, R481, R483). -/
def Node.regionTick (n : Node) (r : Nat) : Node :=
  let g := n.regionOf r
  let n1 :=
    if g.ladder == 1 && !g.crstReq && n.resetDue r then
      (n.modRegion r (fun g => { g with crstReq := true, ladderAt := n.tb1 })).ladderTick r 0 n.tb1
    else if g.ladder == 2 && !g.isolated && g.ladderAt ≤ n.tb1 then n.rung2 r
    else n
  if g.phase == 5 && g.stage == 2 && !bit g.puEn 2 && g.phaseAt < n.tb1 then n1.modRegion r (fun g => { g with puEn := g.puEn + 4 })
  else if g.phase == 2 && !g.pwrGo && g.phaseAt + 2 ≤ n.tb1 then n1.modRegion r (fun g => { g with pwrGo := true })
  else if g.phase == 8 && g.phaseAt + 1563 ≤ n.tb1 then n1.startUp r
  else if g.phase == 9 && g.phaseAt < n.tb1 then
    let n2 := n1.modRegion r (fun g => { g with phase := 0 })
    (if g.target == 0 then n2.regCount r 3 else n2).setRegion r g.target
  else if g.phase == 7 && g.ladder != 3 && g.phaseAt + 2 ≤ n.tb1 then
    (n1.modRegion r (fun g => { g with phase := 0, iso := 0, cstop := 0 })).setRegion r 0
  else n1

/-- The regions for which something is due. -/
def Node.regionsTick (n : Node) : Node := overAll ((n.regions.filter (fun e => e.2.phase != 0 || e.2.ladder != 0)).map (·.1)) Node.regionTick n

end Sys2Proof.Machine
end

