-- ==== Sys2Proof/Machine/Faults.lean ====
section
/-! DEFINITION. Fault records, fault waves received, the heartbeat watch and the escalation ladder (14). -/

namespace Sys2Proof.Machine

/-! ### Records -/

/-- A read of the record object returns and removes the oldest record; an empty log reads 32 zero bytes (14 R385). -/
def recordRead (n : Node) : Node := ({ n with log := n.log.drop 1 } : Node).answerData 0 (n.log.headD 0) 32

/-- `FAULT_RECORD_READ` (14 R385). -/
def execFaultRecordRead (u : Who) (s : State) : Host.Outcome State Fault Refusal := onNode s u true recordRead

/-- `CLEAR_FIRST_RECORD` (14 R406): command 1. -/
def execClearFirstRecord (u : Who) (s : State) : Host.Outcome State Fault Refusal :=
  onNode s u true (fun n => (n.wr Ob.flt_firstRecord 0).answer 0)

/-! ### Waves -/

/-- `FAULT_SLOT_RECEIVED` (02 R53). -/
def execFaultSlotReceived (u : Who) (p : Nat) (s : State) : Host.Outcome State Fault Refusal :=
  onNode s u ((s.node u).hasPort p) (slotReceived p)

/-- `FAULT_WAVE_RECEIVED` (14 R387). -/
def execFaultWaveReceived (p : Nat) (s : State) : Host.Outcome State Fault Refusal := onNode s .tsu (s.tsu.hasPort p) (waveReceived p)

/-- 2,344 ticks after a step's end its context no longer settles (14 R389). -/
def settleEnd (c : Nat) (n : Node) : Node :=
  match (n.ctxOf c).settleTo with
  | none => n
  | some t => when (t ≤ n.tb1) (fun n => n.closeSettle c) n

/-- `SETTLE_WINDOW_END` (14 R389). -/
def execSettleWindowEnd (c : Nat) (s : State) : Host.Outcome State Fault Refusal := onCtx c s (settleEnd c)

/-- On each tick a context in FIRED keeps since when neither lane has been MEMBER (14 R390). -/
def Node.pathWatch (n : Node) : Node :=
  let out := n.lst 0 != 6 && n.lst 1 != 6
  overAll (n.ctxs.map (·.1)) (fun n c =>
    let x := n.ctxOf c
    if n.fired c && out then (if x.pathLostAt.isSome then n else n.modCtx c (fun x => { x with pathLostAt := some n.tb1 }))
    else if x.pathLostAt.isSome then n.modCtx c (fun x => { x with pathLostAt := none }) else n) n

/-- A FIRED step without a MEMBER lane for 1,024 ticks is aborted with cause 0x78 and no wave (14 R390). -/
def pathLost (c : Nat) (n : Node) : Node :=
  let x := n.ctxOf c
  match x.pathLostAt with
  | none => n
  | some t => when (n.fired c && t + 1024 ≤ n.tb1 && x.cause == 0) (fun n => (n.ctxFault 0x78 c 0 (put 47 0 x.step)).abortStep c 0x78) n

/-- `SPAN_PATH_LOST` (14 R390). -/
def execSpanPathLost (c : Nat) (s : State) : Host.Outcome State Fault Refusal := onCtx c s (pathLost c)

/-! ### The heartbeat watch -/

/-- The context of a region's active run; 63 without one (14 R384). -/
def Node.runCtx (n : Node) (r : Nat) : Nat := match n.runOf r with
  | some x => x.ctx
  | none => 63

/-- A cause of a region during its run: its record and the wave of the run's context (14 R386, R393). -/
def Node.runFault (n : Node) (cause r core detail : Nat) : Node :=
  let c := n.runCtx r
  let n1 := n.fault { cause := cause, span := n.span, region := r, core := core, ctx := c, detail := detail }
  if (n.runOf r).isSome then n1.waveStep c cause else n1

/-- Power-good falls outside any grant and power-up: cause 0x80, the run is aborted with the wave, and rung 3 starts with the regulator off
(14 R401, 17 R486). In a power-up it only falls. -/
def powerGoodLost (r : Nat) (n : Node) : Node :=
  let g := n.regionOf r
  if !g.pgood || g.phase == 2 || g.phase == 3 || g.phase == 6 then n
  else if g.phase == 5 || g.phase == 7 then n.pgFall r
  else
    let c := n.runCtx r
    let n1 := (n.ladderOpen r 0x80 c).runFault 0x80 r 0xFFFFF (put 79 72 (n.rst r))
    (((n1.pgFall r).abortRun r).modRegion r (fun g => { g with phase := 0, req := none })).rung3 r 2

/-! ### The order of a tick

The commands that wait in the queue stand for events of the same tick (log entry 30), so a row sees the earlier rows of 14 R400 there. -/

/-- A command that waits on this tick meets a test. -/
def State.waits (s : State) (p : Instr → Bool) : Bool := s.pending.any p

/-- Row 1: a power-good that falls on the tick falls before anything else of the region (14 R400). -/
def State.supplyFirst (s : State) (r : Nat) (n : Node) : Node :=
  if s.waits (fun i => match i with | .powerGoodLost q => q == r | _ => false) then powerGoodLost r n else n

/-- The region's outputs are heard on the tick once its supply has been seen to (14 R400, 17 R485). -/
def State.hears (s : State) (r : Nat) : Bool := (s.supplyFirst r s.tsu).inputLive r

/-- A heartbeat, or the end of the run, on the tick on which the window expires comes before the expiry (14 R400). -/
def State.beats (s : State) (r : Nat) : Bool :=
  s.waits (fun i => match i with
    | .heartbeat q _ => q == r && s.hears r
    | .runComplete q _ => q == r
    | _ => false)

/-- An acknowledgement of the reset on the limit's tick completes rung 1 (14 R400). -/
def State.acks (s : State) (r : Nat) : Bool := s.waits (fun i => match i with | .contextResetAck q => q == r | _ => false) && s.hears r

/-- The acknowledgement of a clock stop on the tick of its timeout comes before the timeout (14 R400). -/
def State.stops (s : State) (r : Nat) : Bool := s.waits (fun i => match i with | .fchgAck q _ _ => q == r && s.hears r | _ => false)

/-- A ready on the tick on which its limit ends completes the stage (17 R484). -/
def State.readies (s : State) (r : Nat) : Bool := s.waits (fun i => match i with | .powerStageReady q => q == r | _ => false)

/-- A heartbeat: it restarts the window; a failed core raises the wave, a firmware fault also starts the ladder (14 R392, R393, R402). -/
def heartbeat (r info : Nat) (n : Node) : Node :=
  when (n.inputLive r) (fun n =>
    let kind := fld info 31 30
    let c := n.runCtx r
    let n1 := ((n.wr (Ob.watch_lastHeartbeat r) n.tb1).wr (Ob.watch_heartbeatInformation r) info).modRegion r (fun g => { g with watchAt := n.tb1 })
    if kind == 3 then n1.watchCount r 6
    else if kind == 1 then n1.runFault 0x76 r (fld info 19 0) (put 79 48 info)
    else if kind == 2 then (n1.rung1 r 0x75 c).runFault 0x75 r (fld info 19 0) (put 79 48 info)
    else n1) n

/-- `HEARTBEAT` (14 R392). -/
def execHeartbeat (r info : Nat) (s : State) : Host.Outcome State Fault Refusal :=
  onNode s .tsu (s.tsu.hasRegion r) (fun n => heartbeat r info (s.supplyFirst r n))

/-- The window elapses without a heartbeat: cause 0x70, the wave, and rung 1 (14 R393). -/
def heartbeatMissed (r : Nat) (n : Node) : Node :=
  let t := (n.regionOf r).watchAt
  when (n.rd (Ob.watch_ladderState r) == 1 && t + ticksOfUs (n.rd (Ob.watch_heartbeatWindow r)) ≤ n.tb1) (fun n =>
    ((n.watchCount r 0).rung1 r 0x70 (n.runCtx r)).runFault 0x70 r 0xFFFFF (put 63 0 t)) n

/-- `HEARTBEAT_WINDOW_EXPIRY` (14 R393). -/
def execHeartbeatWindowExpiry (r : Nat) (s : State) : Host.Outcome State Fault Refusal :=
  onNode s .tsu (s.tsu.hasRegion r && !s.beats r) (fun n => heartbeatMissed r (s.supplyFirst r n))

/-! ### The ladder -/

/-- `ra_crst_ack` completes rung 1; later than the reset target it is counted as slow (14 R395). -/
def resetAck (r : Nat) (n : Node) : Node :=
  let g := n.regionOf r
  when (n.inputLive r && g.ladder == 1 && g.crstReq) (fun n =>
    let n1 := (n.watchCount r 1).ladderDone r
    if g.ladderAt + ticksOfUs (n.rd (Ob.watch_resetTarget r)) < n.tb1 then n1.watchCount r 2 else n1) n

/-- `CONTEXT_RESET_ACK` (14 R395). -/
def execContextResetAck (r : Nat) (s : State) : Host.Outcome State Fault Refusal :=
  onNode s .tsu (s.tsu.hasRegion r) (fun n => resetAck r (s.supplyFirst r n))

/-- The reset limit ends without acknowledgement: cause 0x71; rung 2 starts on the next tick (14 R394). -/
def resetLimit (r : Nat) (n : Node) : Node :=
  let g := n.regionOf r
  when (g.ladder == 1 && g.crstReq && g.ladderAt + ticksOfUs (n.rd (Ob.watch_resetLimit r)) ≤ n.tb1) (fun n =>
    (n.modRegion r (fun g => { g with ladder := 2, ladderAt := n.tb1 + 1, crstReq := false, isolated := false })).fault
      { cause := 0x71, span := n.span, region := r, ctx := g.ladderCtx, detail := put 63 0 g.ladderAt }) n

/-- `RESET_LIMIT_EXPIRY` (14 R394). -/
def execResetLimitExpiry (r : Nat) (s : State) : Host.Outcome State Fault Refusal :=
  onNode s .tsu (s.tsu.hasRegion r && !s.acks r) (fun n => resetLimit r (s.supplyFirst r n))

/-- 64 ticks after its start rung 2 gives way to rung 3, unless it is held (14 R394, R396). -/
def isolationLimit (r : Nat) (n : Node) : Node :=
  let g := n.regionOf r
  when (g.ladder == 2 && g.isolated && g.ladderAt + 64 ≤ n.tb1 && n.rd (Ob.watch_hold r) == 0) (fun n => n.rung3 r 1) n

/-- `ISOLATION_LIMIT_EXPIRY` (14 R394). -/
def execIsolationLimitExpiry (r : Nat) (s : State) : Host.Outcome State Fault Refusal :=
  onNode s .tsu (s.tsu.hasRegion r) (isolationLimit r)

/-- Ticks of a region's power cycle limit (14 R394). -/
def Node.cycleLimit (n : Node) (r : Nat) : Nat := ticksOfUs (n.rd (Ob.watch_powerCycleLimit r))

/-- Logic became ready within the limit; two ticks later every line is lowered, the region is ACTIVE and cause 0x73 is recorded
(14 R397, 17 R483). -/
def cycleDone (r : Nat) (n : Node) : Node :=
  let g := n.regionOf r
  when (g.ladder == 3 && g.phase == 7 && g.phaseAt ≤ g.ladderAt + n.cycleLimit r && g.phaseAt + 2 ≤ n.tb1) (fun n =>
    let n1 := ((n.modRegion r (fun g => { g with phase := 0, iso := 0, cstop := 0 })).setRegion r 0).ladderDone r
    n1.regionFault 0x73 r 0 (put 79 72 g.cycWhy + put 63 0 (g.phaseAt - g.ladderAt))) n

/-- `POWER_CYCLE_DONE` (14 R397). -/
def execPowerCycleDone (r : Nat) (s : State) : Host.Outcome State Fault Refusal := onNode s .tsu (s.tsu.hasRegion r) (cycleDone r)

/-- Why a power cycle that fails loses its region: 2 when power-good was lost and has not returned, otherwise 1 (14 R401, R405). -/
def Node.cycleLoss (n : Node) (r : Nat) : Nat := if (n.regionOf r).cycWhy == 2 && !(n.regionOf r).pgood then 2 else 1

/-- A power cycle that overruns its limit makes the region LOST (14 R397, R398). -/
def cycleLimitExpiry (r : Nat) (n : Node) : Node :=
  let g := n.regionOf r
  let done := g.phase == 7 && g.phaseAt ≤ g.ladderAt + n.cycleLimit r
  when (g.ladder == 3 && g.ladderAt + n.cycleLimit r ≤ n.tb1 && !done) (fun n => n.rung4 r (n.cycleLoss r)) n

/-- `POWER_CYCLE_LIMIT_EXPIRY` (14 R398). -/
def execPowerCycleLimitExpiry (r : Nat) (s : State) : Host.Outcome State Fault Refusal :=
  onNode s .tsu (s.tsu.hasRegion r && !((s.tsu.regionOf r).stage == 3 && s.readies r)) (fun n => cycleLimitExpiry r (s.supplyFirst r n))

/-- Command 1: a power cycle, refused while a run is active (14 R407) and outside ACTIVE, which alone it may leave (17 R477). -/
def ladderCycle (r : Nat) (n : Node) : Node :=
  n.accept ((n.runOf r).isNone && n.rst r == 0) (fun n => (n.ladderOpen r 0 63).rung3 r 4)

/-- `LADDER_POWER_CYCLE` (14 R407). -/
def execLadderPowerCycle (r : Nat) (s : State) : Host.Outcome State Fault Refusal := onObj s .tsu (s.tsu.hasRegion r) (ladderCycle r)

/-- Command 2: rung 3 once on a LOST region, refused on another (14 R398, R407). -/
def ladderRestore (r : Nat) (n : Node) : Node := n.accept (n.rst r == 5) (fun n => (n.ladderOpen r 0 63).rung3 r 4)

/-- `LADDER_RESTORE_LOST` (14 R398). -/
def execLadderRestoreLost (r : Nat) (s : State) : Host.Outcome State Fault Refusal := onObj s .tsu (s.tsu.hasRegion r) (ladderRestore r)

/-- The ladder is held at rung 2 (14 R396). -/
def Node.heldAt2 (n : Node) (r : Nat) : Bool :=
  let g := n.regionOf r
  g.ladder == 2 && g.isolated && g.ladderAt + 64 ≤ n.tb1 && n.rd (Ob.watch_hold r) == 1

/-- Command 3: a ladder held at rung 2 goes on to rung 3; refused otherwise (14 R396, R405, R407). -/
def ladderRelease (r : Nat) (n : Node) : Node :=
  n.accept (n.heldAt2 r) (fun n =>
    let g := n.regionOf r
    (n.fault { cause := 0x72, span := n.span, region := r, ctx := g.ladderCtx, obj := n.clusters r g.ladderCtx, detail := put 79 72 2 }).rung3 r 1)

/-- `LADDER_RELEASE_HOLD` (14 R396). -/
def execLadderReleaseHold (r : Nat) (s : State) : Host.Outcome State Fault Refusal := onObj s .tsu (s.tsu.hasRegion r) (ladderRelease r)

/-- Command 4: the region is LOST (14 R407). -/
def ladderLost (r : Nat) (n : Node) : Node := n.accept true (fun n => if n.rst r == 5 then n else n.rung4 r 4)

/-- `LADDER_DECLARE_LOST` (14 R407). -/
def execLadderDeclareLost (r : Nat) (s : State) : Host.Outcome State Fault Refusal := onObj s .tsu (s.tsu.hasRegion r) (ladderLost r)

/-- `POWER_GOOD_LOST` (14 R401). -/
def execPowerGoodLost (r : Nat) (s : State) : Host.Outcome State Fault Refusal := onNode s .tsu (s.tsu.hasRegion r) (powerGoodLost r)

/-- No acknowledgement of a clock stop within the stop timeout: cause 0x77, the run is aborted with the wave, and rung 3 starts; `ra_stop` stays
high until the acknowledgement, or until the region loses its supply (07 R197, 14 R399; log entry 242). -/
def stopTimeout (r : Nat) (n : Node) : Node :=
  let a := n.agentOf r
  match a.stopAt with
  | none => n
  | some t => when (t + n.rd (Ob.agent_stopTimeout r) ≤ n.tb1 && a.ackAt.isNone && !a.hung) (fun n =>
      let n1 := (n.ladderOpen r 0x77 (n.runCtx r)).runFault 0x77 r 0xFFFFF (put 79 76 (a.req.getD 0) + put 63 0 t)
      ((n1.abortRun r).modAgent r (fun a => { a with hung := true })).rung3 r 3) n

/-- `STOP_TIMEOUT` (14 R399). -/
def execStopTimeout (r : Nat) (s : State) : Host.Outcome State Fault Refusal :=
  onNode s .tsu (s.tsu.hasRegion r && !s.stops r)
    (fun n => stopTimeout r (s.supplyFirst r n))

/-! ### Hub firmware -/

/-- The watchdog of a hub expires: the firmware restarts, cause 0x79; the hardware paths keep running (14 R404). -/
def watchdogExpiry (n : Node) : Node :=
  when (!n.hpwr.fwDown) (fun n =>
    let k := n.hpwr.restarts + 1
    (n.modHpwr (fun h => { h with fwDown := true, restarts := k })).fault { cause := 0x79, detail := put 63 0 k }) n

/-- `HUB_WATCHDOG_EXPIRY` (14 R404). -/
def execHubWatchdogExpiry (s : State) : Host.Outcome State Fault Refusal := onNode s .hub true watchdogExpiry

/-- After a restart an operator's sequence is accepted only above the stored value + 65,536 (16 R456). -/
def Node.seqsAfterRestart (n : Node) : Node :=
  overAll (upTo 16) (fun n op => n.wr (Ob.opr_highestSequence op) (min ((tblGet {} n.access.ops op).stored + 65536) (2 ^ 64 - 1))) n

/-- The restart of the firmware completes: GOA requests are answered again (14 R404, 16 R456). -/
def firmwareUp (n : Node) : Node := when n.hpwr.fwDown (fun n => (n.modHpwr (fun h => { h with fwDown := false })).seqsAfterRestart) n

/-- `FIRMWARE_RESTART_COMPLETE` (14 R404). -/
def execFirmwareRestartComplete (s : State) : Host.Outcome State Fault Refusal := onNode s .hub true firmwareUp

end Sys2Proof.Machine
end

