-- ==== Sys2Proof/Machine/Spans.lean ====
section
/-! DEFINITION. Span lists, Pier ports, lane entries and the hall epoch (15 R408 to R416). -/

namespace Sys2Proof.Machine

/-! ### The span list -/

/-- Span of a list entry (15 R409). -/
def eSpan (e : Nat) : Nat := fld e 127 112
/-- Epoch of a list entry. -/
def eEpoch (e : Nat) : Nat := fld e 111 80
/-- Port mask of a list entry. -/
def eMask (e : Nat) : Nat := fld e 75 8
/-- Head flag of a list entry. -/
def eHead (e : Nat) : Bool := bit e 1

/-- A valid list entry of its fields, reserved bits 0 (15 R409). -/
def listEntry (span epoch mask : Nat) (head : Bool) : Nat :=
  put 127 112 span + put 111 80 epoch + put 75 8 mask + put 1 1 (ofB head) + 1

/-- A mask with an uplink's bit is not allowed in an entry with the head flag (15 R409). -/
def maskOk (mask : Nat) (head : Bool) : Bool := !(head && (bit mask 64 || bit mask 65))

/-- The lowest free position of the list (15 R409). -/
def freePos (l : Tbl Nat) : Nat → Nat → Nat
  | 0, k => k
  | fuel + 1, k => if l.any (fun e => e.1 == k) then freePos l fuel (k + 1) else k

/-- Op 1: an entry takes the lowest free position; refused when the list is full or holds the span already (15 R409). -/
def listAdd (item : Nat) (n : Node) : Node :=
  let span := eSpan item
  match n.spanEntryOf span with
  | some e =>
    let (f, n1) := n.takeFree
    (n1.tableFault f none span span (eEpoch item) (eEpoch e)).answer 3
  | none =>
    if 4096 ≤ n.spans.length then (n.tableFault 4 none span 0 (eEpoch item) 0).answer 3
    else n.accept (span != 0 && maskOk (eMask item) (eHead item)) (fun n =>
      { n with spans := tblSet n.spans (freePos n.spans n.spans.length 0) (listEntry span (eEpoch item) (eMask item) (eHead item)) })

/-- `SPAN_LIST_ADD` (15 R409). -/
def execSpanListAdd (item : Nat) (s : State) : Host.Outcome State Fault Refusal := onNode s .hub true (listAdd item)

/-- An op that names its entry by the span: refused with cause 0x90 kind 4 without one. -/
def Node.onEntry (n : Node) (item : Nat) (f : Nat → Node → Node) : Node :=
  match n.spanEntryOf (eSpan item) with
  | some e => f e n
  | none => (n.tableFault 4 none (eSpan item) 0 (eEpoch item) 0).answer 3

/-- Replace the entry of a span. -/
def Node.setEntry (n : Node) (e : Nat) : Node := { n with spans := n.spans.map (fun x => if eSpan x.2 == eSpan e then (x.1, e) else x) }

/-- A tally slot, an engine and a head entry of a removed span are deactivated and lose their state (15 R409). -/
def Node.deactivate (n : Node) (span : Nat) : Node :=
  let off := fun (x : Nat) (b : Nat) => if bit x b then x - 2 ^ b else x
  let n1 := { n with htal := n.htal.map (fun e =>
    if cfgActive e.2.cfg && cfgSpan e.2.cfg == span then (e.1, { ({} : HTally) with cfg := off e.2.cfg 33 }) else e) }
  let n2 := overAll (upTo 16) (fun n e =>
    let cfg := n.rd (Ob.eng_configuration e)
    if engActive cfg && engSpan cfg == span then (n.wr (Ob.eng_configuration e) (off cfg 32)).modEng e (fun _ => {}) else n) n1
  overAll (upTo 256) (fun n k =>
    if n.headSpan k == span && n.rd (Ob.head_state k) != 0 then (n.wr (Ob.head_state k) 0).modHead k (fun _ => {}) else n) n2

/-- Op 2: the entry is removed and its resources are deactivated; refused while a head entry of the span runs or stops (15 R409). -/
def listRemove (item : Nat) (n : Node) : Node :=
  n.onEntry item (fun e n =>
    if (upTo 256).any (fun k => n.headRuns k && n.headSpan k == eSpan e) then
      (n.tableFault 5 none (eSpan e) (eSpan e) (eEpoch item) (eEpoch e)).answer 3
    else ({ n with spans := n.spans.filter (fun x => eSpan x.2 != eSpan e) }.deactivate (eSpan e)).answer 0)

/-- `SPAN_LIST_REMOVE` (15 R409). -/
def execSpanListRemove (item : Nat) (s : State) : Host.Outcome State Fault Refusal := onNode s .hub true (listRemove item)

/-- Op 3: the port mask is replaced (15 R409). -/
def listMask (item : Nat) (n : Node) : Node :=
  n.onEntry item (fun e n => n.accept (maskOk (eMask item) (eHead e)) (fun n =>
    n.setEntry (listEntry (eSpan e) (eEpoch e) (eMask item) (eHead e))))

/-- `SPAN_LIST_MASK` (15 R409). -/
def execSpanListMask (item : Nat) (s : State) : Host.Outcome State Fault Refusal := onNode s .hub true (listMask item)

/-- Op 4: the head flag is set or cleared (15 R409). -/
def listHead (item : Nat) (n : Node) : Node :=
  n.onEntry item (fun e n => n.accept (maskOk (eMask e) (eHead item)) (fun n =>
    n.setEntry (listEntry (eSpan e) (eEpoch e) (eMask e) (eHead item))))

/-- `SPAN_LIST_HEAD` (15 R409). -/
def execSpanListHead (item : Nat) (s : State) : Host.Outcome State Fault Refusal := onNode s .hub true (listHead item)

/-! ### Pier ports and lane entries -/

/-- Owner span of a port. -/
def Node.ownSpan (n : Node) (p : Nat) : Nat := fld (n.rd (Ob.prt_owner p)) 47 32
/-- Owner epoch of a port. -/
def Node.ownEpoch (n : Node) (p : Nat) : Nat := fld (n.rd (Ob.prt_owner p)) 31 0
/-- Release epoch of a port. -/
def Node.relEpoch (n : Node) (p : Nat) : Nat := n.rd (Ob.prt_releaseEpoch p)

/-- The lane entry a Pier writes to the TSU of a port: the owner's, or 0 (15 R412). -/
def Node.laneValue (n : Node) (p : Nat) : Nat := if n.rd (Ob.prt_portState p) == 1 then n.rd (Ob.prt_owner p) % 2 ^ 48 else 0

/-- The object that the Pier of this plane writes in its TSUs (15 R412). -/
def Node.laneObj (n : Node) : Nat := Ob.lane_laneSpanEntry n.plane

/-- A relayed write of the lane entry of a port is under way. -/
def Node.laneBusy (n : Node) (p : Nat) : Bool :=
  n.access.relays.any (fun r => r.dst == n.dieAt p && fld r.msg.head 71 56 == n.laneObj / 256 && fld r.msg.head 55 48 == n.laneObj % 256)

/-- A Pier writes a lane entry that is due, unless a write is under way or the link is below SYNCED (15 R412). -/
def Node.laneSend (n : Node) (p : Nat) : Node :=
  if (n.dportOf p).pendLane && !n.laneBusy p && 5 ≤ n.lst p then n.relayWrite (n.dieAt p) n.laneObj 8 (n.laneValue p) else n

/-- The lane entries that are due (15 R412). -/
def Node.laneTick (n : Node) : Node :=
  if n.level != 1 then n else overAll ((n.dports.filter (fun e => e.2.pendLane)).map (·.1)) Node.laneSend n

/-- The lane entry of a port has to be written (15 R412). -/
def Node.laneDue (n : Node) (p : Nat) : Node :=
  ((n.modDport p (fun d => { d with pendLane := true })).wr (Ob.prt_laneEntryWritten p) 0).laneSend p

/-- A lane entry has been written: a RESPONSE with status 0 to the value now due (15 R412). -/
def Node.laneWritten (n : Node) (r : RelayReq) : Node :=
  match (upTo 64).find? (fun p => n.dieAt p == r.dst) with
  | some p =>
    if n.level == 1 && fld r.msg.head 71 56 == n.laneObj / 256 && fld r.msg.head 55 48 == n.laneObj % 256 &&
        leVal (payloadBytes r.msg 8) == n.laneValue p then
      (n.modDport p (fun d => { d with pendLane := false })).wr (Ob.prt_laneEntryWritten p) 1
    else n
  | none => n

/-- Op own (15 R410): a FREE port that was never released, or a released one from epoch r + 2 on. -/
def portOwn (p span epoch : Nat) (n : Node) : Node :=
  let st := n.rd (Ob.prt_portState p)
  let r := n.relEpoch p
  if n.level != 1 then n.answer 3
  else if st == 1 then (n.tableFault 1 (some p) span (n.ownSpan p) epoch (n.ownEpoch p)).answer 3
  else if !n.listHolds span epoch then (n.tableFault 4 (some p) span 0 epoch r).answer 3
  else if (st == 2 || (n.dportOf p).everRel) && epoch < r + 2 then (n.tableFault 2 (some p) span 0 epoch r).answer 3
  else (((n.wr (Ob.prt_portState p) 1).wr (Ob.prt_owner p) (put 47 32 span + epoch % 2 ^ 32)).laneDue p).answer 0

/-- `PORT_OWN` (15 R410). -/
def execPortOwn (p span epoch : Nat) (s : State) : Host.Outcome State Fault Refusal := onObj s .hub (decide (p < 64)) (portOwn p span epoch)

/-- An owned port goes to QUARANTINE with a release epoch and cause 0x91, and its lane entry is written 0 (15 R410, R435). -/
def Node.quarantine (n : Node) (p r : Nat) : Node :=
  let span := n.ownSpan p
  let epoch := n.ownEpoch p
  let n1 := ((n.wr (Ob.prt_portState p) 2).wr (Ob.prt_releaseEpoch p) r).wr (Ob.prt_owner p) 0
  ((n1.modDport p (fun d => { d with everRel := true })).fault
    { cause := 0x91, span := span, region := p, obj := span, detail := put 79 48 epoch + put 47 16 r }).laneDue p

/-- Op release: r is not below the owner's epoch (15 R410). What a refusal of a port that is not OWNED names as its kind is not stated. -/
def portRelease (p r : Nat) (n : Node) : Node :=
  if n.level != 1 then n.answer 3
  else if n.rd (Ob.prt_portState p) == 1 && n.ownEpoch p ≤ r then (n.quarantine p r).answer 0
  else
    let (f, n1) := n.takeFree
    (n1.tableFault f (some p) 0 (n.ownSpan p) r (n.ownEpoch p)).answer 3

/-- `PORT_RELEASE` (15 R410). -/
def execPortRelease (p epoch : Nat) (s : State) : Host.Outcome State Fault Refusal := onObj s .hub (decide (p < 64)) (portRelease p epoch)

/-- Op free: h is at least r + 2 and not above the Pier's copy of the hall epoch (15 R410). -/
def portFree (p h : Nat) (n : Node) : Node :=
  let r := n.relEpoch p
  if n.level != 1 then n.answer 3
  else if n.rd (Ob.prt_portState p) != 2 then
    let (f, n1) := n.takeFree
    (n1.tableFault f (some p) 0 (n.ownSpan p) h r).answer 3
  else if r + 2 ≤ h && h ≤ n.rd Ob.epo_hallEpoch then (n.wr (Ob.prt_portState p) 0).answer 0
  else (n.tableFault 2 (some p) 0 0 h r).answer 3

/-- `PORT_FREE` (15 R410). -/
def execPortFree (p epoch : Nat) (s : State) : Host.Outcome State Fault Refusal := onObj s .hub (decide (p < 64)) (portFree p epoch)

/-- A TSU's lane entry is written: when its membership ends or changes, its span instance ends, and with it whatever its contexts held of another
(15 R412, 01 R33). -/
def Node.writeLane (n : Node) (p v : Nat) : Node :=
  let after := n.wr (Ob.lane_laneSpanEntry p) (v % 2 ^ 48)
  if after.spanEntry != n.spanEntry then n.endInstance.wr (Ob.lane_laneSpanEntry p) (v % 2 ^ 48) else after

/-- `LANE_ENTRY_WRITE` (15 R412): by relay from the Pier on that lane. -/
def execLaneEntryWrite (p v : Nat) (s : State) : Host.Outcome State Fault Refusal :=
  onObj s .tsu (decide (p < 2)) (fun n => (n.writeLane p v).answer 0)

/-! ### The hall epoch -/

/-- The epoch command as its object shows it: op, status 1 done or 2 refused, span, epoch, result (15 R437). -/
def Node.epochBlob (n : Node) (op status span epoch result : Nat) : Node :=
  n.wr Ob.epo_epochCommand (putField 0 1 op + putField 1 1 status + putField 2 2 span + putField 4 4 epoch + putField 8 4 result)

/-- An epoch command: only the leading Keystone accepts it (15 R415). -/
def Node.epochOp (n : Node) (op span epoch : Nat) : Node :=
  if n.level == 3 && n.lead.leading then
    let n1 := if op == 2 then n else (n.bump Ob.epo_hallEpoch).sendEpoch
    (n1.epochBlob op 1 span epoch (n1.rd Ob.epo_hallEpoch)).answer 0
  else (n.epochBlob op 2 span epoch 0).answer 3

/-- `EPOCH_CREATE` (15 R415): the counter rises and is the new instance's epoch. -/
def execEpochCreate (span epoch : Nat) (s : State) : Host.Outcome State Fault Refusal := onNode s .hub true (fun n => n.epochOp 1 span epoch)

/-- `EPOCH_RELEASE` (15 R415): the counter is the release epoch r. -/
def execEpochRelease (span epoch : Nat) (s : State) : Host.Outcome State Fault Refusal := onNode s .hub true (fun n => n.epochOp 2 span epoch)

/-- `EPOCH_ADVANCE` (15 R415): the counter rises. -/
def execEpochAdvance (span epoch : Nat) (s : State) : Host.Outcome State Fault Refusal := onNode s .hub true (fun n => n.epochOp 3 span epoch)

/-- `TWIN_EPOCH_RECEIVED` (15 R415, R434): a Keystone that does not lead takes the counter. -/
def execTwinEpochReceived (p : Nat) (s : State) : Host.Outcome State Fault Refusal :=
  onNode s .hub (s.hub.hasPort p) (fun n => n.onMsg p (isTwinKind 3) (fun m n =>
    when (n.level == 3 && !n.lead.leading) (fun n => n.wr Ob.epo_hallEpoch (fld m.head 123 92)) n))

/-- A Keystone writes its counter by relay: to every Pier and Arch of its plane once it has changed, and to those whose uplink has just reached
SYNCED (15 R415). `hubs` are the hubs that its firmware knows, and `synced` those (log entry 24). -/
def epochCopies (hubs synced : List Nat) (n : Node) : Node :=
  when (n.level == 3) (fun n =>
    let v := n.rd Ob.epo_hallEpoch
    let write := fun (n : Node) (d : Nat) => if fld d 19 18 == 1 || fld d 19 18 == 2 then n.relayWrite d Ob.epo_hallEpoch 4 v else n
    if n.kst.epochWas == some v then overAll synced write n
    else (overAll hubs write n).modKst (fun k => { k with epochWas := some v })) n

/-- `EPOCH_COPY_DISTRIBUTE` (15 R415). -/
def execEpochCopyDistribute (hubs : Targets) (s : State) : Host.Outcome State Fault Refusal := onNode s .hub true (epochCopies hubs.all hubs.synced)

end Sys2Proof.Machine
end

