-- ==== Sys2Proof/Machine/Health.lean ====
section
/-! DEFINITION. Health of the dies, audits and conditional fences (15 R417 to R428), and the census (15 R429 to R432). -/

namespace Sys2Proof.Machine

/-! ### Reports -/

/-- Ticks of the health interval (15 R418). -/
def healthTicks : Nat := 134217728

/-- The last interval end at least `d` ticks ago (15 R418, R419). -/
def intervalEnd (now d : Nat) : Nat := (now - d) / healthTicks * healthTicks

/-- A CENSUS message of a kind: 1 LATCH, 2 REPORT, 3 AUDIT, 4 EXPEL, 5 VERDICT (15 R433). -/
def isCensusKind (k : Nat) (m : Msg) : Bool := m.typ == tCensus && fld m.head 79 76 == k

/-- Die of a CENSUS message. -/
def cDie (m : Msg) : Nat := fld m.head 75 56

/-- The value of a count saturated to a field of `w` bits. -/
def sat (w x : Nat) : Nat := min x (2 ^ w - 1)

/-- The counts of the TSU that a REPORT takes over an interval: frames on lane a and on lane b, stretches, margin episodes (15 R418). -/
def Node.healthCounts (n : Node) : List (Nat × Nat) :=
  let regions := upTo n.regionCount
  [(0, n.rd (Ob.link_uncorrectableFrames 0)), (1, n.rd (Ob.link_uncorrectableFrames 1)),
   (2, (regions.map (fun r => n.rd (Ob.agent_stretches r))).sum), (3, (regions.map (fun r => n.rd (Ob.agent_marginEpisodes r))).sum)]

/-- At an interval end a member TSU sends its REPORT on each MEMBER lane; the counts of the next interval begin (15 R418, R433). -/
def healthEnd (n : Node) : Node :=
  when (n.tb1 % healthTicks == 0) (fun n =>
    let now := n.healthCounts
    let d := fun (k : Nat) => (assoc 0 now k + 2 ^ 64 - assoc 0 n.census.base k) % 2 ^ 64
    let body := put 55 53 (n.rd Ob.aud_temperatureBand) + put 47 40 (sat 8 (d 0)) + put 39 32 (sat 8 (d 1)) +
      put 31 24 (sat 8 n.census.lateSteps) + put 23 8 (sat 16 (d 2 / 256)) + put 7 4 (sat 4 (d 3)) + put 3 0 (sat 4 n.census.fencedFires)
    let n1 := if n.member then
        n.sendAll ([0, 1].filter (fun p => n.lst p == 6)) (censusMsg n.span n.epoch 2 n.ident body [])
      else n
    n1.modCensus (fun c => { c with base := now, lateSteps := 0, fencedFires := 0 })) n

/-- `HEALTH_INTERVAL_END` (15 R418). -/
def execHealthIntervalEnd (s : State) : Host.Outcome State Fault Refusal := onNode s .tsu true healthEnd

/-- At an interval end a Pier takes the uncorrectable frames of each port over the interval (15 R418, R419). -/
def Node.healthTick (n : Node) : Node :=
  if n.level == 1 && n.tb1 % healthTicks == 0 then
    overAll (upTo 64) (fun n p =>
      let x := n.rd (Ob.link_uncorrectableFrames p)
      n.modDport p (fun d => { d with xLink := (x + 2 ^ 64 - d.base09) % 2 ^ 64, base09 := x })) n
  else n

/-- A cell of a die's audit matrix: passes and fails (15 R426, object 0xC300+p.05). -/
def Node.auditCell (n : Node) (p k : Nat) : Nat × Nat :=
  (fieldAt (n.rd (Ob.hlt_auditMatrix p)) (4 * k) 2, fieldAt (n.rd (Ob.hlt_auditMatrix p)) (4 * k + 2) 2)

/-- A Pier consumes a REPORT of a downlink; a count of steps fired fenced makes the leader record cause 0x96 kind 2, whose cell the REPORT
does not name (15 R418, R427). -/
def reportReceived (p : Nat) (n : Node) : Node :=
  n.onMsg p (isCensusKind 2) (fun m n =>
    when (n.level == 1 && p < 64 && n.spanMatch p m.span m.epoch) (fun n =>
      let body := fld m.head 55 0
      let n1 := (n.modDport p (fun d => { d with report := some body })).wr (Ob.hlt_lastReport p)
        (putField 0 8 (intervalEnd n.tb1 0) + putField 8 7 body)
      if fld body 3 0 != 0 && n.lead.leading then
        let (f, n2) := n1.takeFree
        let c := n2.auditCell p (f % 128)
        n2.fault { cause := 0x96, span := m.span, die := some (n.dieAt p), obj := f % 128, detail := put 79 72 2 + put 71 56 c.2 + put 55 40 c.1 }
      else n1) n)

/-- `REPORT_RECEIVED` (15 R418). -/
def execReportReceived (p : Nat) (s : State) : Host.Outcome State Fault Refusal := onNode s .hub (s.hub.hasPort p) (reportReceived p)

/-! ### Audits -/

/-- A cell becomes fenced: fails reach the fence count and the fence ratio, and it is not fenced already (15 R426). -/
def Node.fenceDue (n : Node) (p k : Nat) : Bool :=
  let c := n.auditCell p k
  n.rd Ob.hwt_fenceCount ≤ c.2 && decide (n.rd Ob.hwt_fenceRatio * (c.1 + c.2) ≤ 100 * c.2) && !bit (n.rd (Ob.hlt_fenceMask p)) k

/-- The leader writes a die's fence mask to its TSU by relay (15 R426). -/
def Node.sendFence (n : Node) (p : Nat) : Node := n.relayWrite (n.dieAt p) Ob.aud_fenceMask 16 (n.rd (Ob.hlt_fenceMask p))

/-- The state that the leader reports for a die: 3 EXPELLED, 1 PROBATION, 2 FENCED, 0 SERVING (15 R420, R434). -/
def Node.healthState (n : Node) (p : Nat) : Nat :=
  if (n.dportOf p).expelled then 3 else if bit (n.rd (Ob.hlt_healthFlags p)) 0 then 1 else if n.rd (Ob.hlt_fenceMask p) != 0 then 2 else 0

/-- A leading Pier posts the state and its own role (15 R420, R437). -/
def Node.postHealth (n : Node) (p : Nat) : Node :=
  let n1 := n.wrBits (Ob.hlt_healthFlags p) 3 1 (ofB n.lead.leading)
  if n.lead.leading then n1.wr (Ob.hlt_healthState p) (n1.healthState p) else n1

/-- A Pier counts an AUDIT into the die's matrix; the leader fences a cell that the rule fences (15 R419, R426). -/
def auditReceived (p : Nat) (n : Node) : Node :=
  n.onMsg p (isCensusKind 3) (fun m n =>
    when (n.level == 1 && p < 64 && n.spanMatch p m.span m.epoch) (fun n =>
      let k := 16 * fld m.head 55 53 + fld m.head 52 49
      let bad := bit m.head 48
      let open_ := !bit (n.rd (Ob.hlt_fenceMask p)) k
      let c := n.auditCell p k
      let n1 := if bad then n.wrBits (Ob.hlt_auditMatrix p) (32 * k + 16) 16 (sat 16 (c.2 + 1))
        else n.wrBits (Ob.hlt_auditMatrix p) (32 * k) 16 (sat 16 (c.1 + 1))
      let n2 := if bad && open_ then n1.modDport p (fun d => { d with xAudit := d.xAudit + 1 }) else n1
      if n.lead.leading && n2.fenceDue p k then
        let d := n2.auditCell p k
        (((n2.wrBits (Ob.hlt_fenceMask p) k 1 1).sendFence p).fault
          { cause := 0x96, span := m.span, die := some (n.dieAt p), obj := k, detail := put 79 72 1 + put 71 56 d.2 + put 55 40 d.1 }).postHealth p
      else n2) n)

/-- `AUDIT_RECEIVED` (15 R426). -/
def execAuditReceived (p : Nat) (s : State) : Host.Outcome State Fault Refusal := onNode s .hub (s.hub.hasPort p) (auditReceived p)

/-- Every count of a matrix halved (15 R426). -/
def halveMatrix (x : Nat) : Nat := ((upTo 256).map (fun i => putField (2 * i) 2 (fieldAt x (2 * i) 2 / 2))).sum

/-- `AUDIT_MATRIX_HALVING` (15 R426): at each multiple of 2^41 ticks. -/
def execAuditMatrixHalving (s : State) : Host.Outcome State Fault Refusal :=
  onNode s .hub true (when (s.hub.level == 1 && s.hub.tb1 % 2 ^ 41 == 0) (fun n =>
    overAll (upTo 64) (fun n p => n.wr (Ob.hlt_auditMatrix p) (halveMatrix (n.rd (Ob.hlt_auditMatrix p)))) n))

/-! ### The score -/

/-- The penalty of a port after an evaluation, in 1/64 point (15 R419). -/
def Node.nextPenalty (n : Node) (p : Nat) : Nat :=
  let d := n.dportOf p
  let r := d.report.getD 0
  let old := n.rd (Ob.hlt_penalty p)
  let xLink := d.xLink + d.twinLink + fld r 47 40 + fld r 39 32
  let xStr := fld r 23 8 * 256
  let add := n.rd Ob.hwt_wLink * xLink + n.rd Ob.hwt_wMiss * fld r 31 24 + n.rd Ob.hwt_wAudit * d.xAudit + n.rd Ob.hwt_wMar * fld r 7 4 +
    n.rd Ob.hwt_wStr * (xStr - n.rd Ob.hwt_stretchBaseline) / 1024
  min (old - old / 2 ^ n.rd Ob.hwt_decayShift + add) 128000

/-- The score of a penalty (15 R419). -/
def scoreOf (penalty : Nat) : Nat := 1000 - min 1000 (penalty / 64)

/-- The probation flag is set with cause 0x92: kind 1 score, 2 expulsion refused (15 R420). -/
def Node.probation (n : Node) (p kind : Nat) : Node :=
  (n.wrBits (Ob.hlt_healthFlags p) 0 1 1).fault
    { cause := 0x92, span := n.ownSpan p, die := some (n.dieAt p), detail := put 79 72 kind + put 71 62 (n.rd (Ob.hlt_score p)) }

/-! ### Expulsion -/

/-- The state that a Pier shows for a die: the leader's own, or the one that a follower took (15 R417, R420). -/
def Node.shownState (n : Node) (p : Nat) : Nat := if n.lead.leading then n.healthState p else n.rd (Ob.hlt_healthState p)

/-- A Pier reports the health of a port to its twin (15 R434). -/
def Node.sendHealth (n : Node) (p : Nat) : Node :=
  let f := n.rd (Ob.hlt_healthFlags p)
  n.sendTwin { typ := tTwin, cells := [put 127 124 2 + put 123 118 p + put 117 116 (n.shownState p) + put 115 106 (n.rd (Ob.hlt_score p)) +
    put 105 105 (ofB (bit f 0)) + put 104 104 (ofB (bit f 1)) + put 103 72 (n.dportOf p).xLink] }

/-- The detail of cause 0x93: the epoch in [79:48] and the score in [71:62] overlap in 15 R435, so the bits of both are a free value. -/
def expelDetail (epoch f : Nat) : Nat := put 79 72 (epoch / 2 ^ 24) + put 71 62 f + put 61 48 epoch

/-- A Pier expels the die of an owned port: cause 0x93, QUARANTINE with r the owner's epoch + 1, and a report to the twin (15 R410, R422,
R434). -/
def Node.expel (n : Node) (p : Nat) : Node :=
  if n.rd (Ob.prt_portState p) != 1 then n
  else
    let span := n.ownSpan p
    let epoch := n.ownEpoch p
    let (f, n0) := n.takeFree
    let n1 := n0.fault { cause := 0x93, span := span, die := some (n.dieAt p), obj := span, detail := expelDetail epoch f }
    let n2 := ((n1.modDport p (fun d => { d with expelled := true })).wrBits (Ob.hlt_healthFlags p) 1 1 0).quarantine p ((epoch + 1) % 2 ^ 32)
    ((n2.wr (Ob.hlt_healthState p) 3).postHealth p).sendHealth p

/-- A VERDICT on a die (15 R421, R433). -/
def verdictMsg (span epoch die granted count : Nat) : Msg := censusMsg span epoch 5 die (put 55 55 granted + put 54 48 count) []

/-- The grants of a span in the budget window, oldest first (15 R421). -/
def Node.grantsOf (n : Node) (span : Nat) : List Grant :=
  n.grants.filter (fun g => g.span == span && n.tb1 < g.tick + n.rd Ob.bud_budgetWindow)

/-- A head records a grant (15 R421). -/
def Node.addGrant (n : Node) (span die : Nat) : Node := { n with grants := n.grants ++ [{ span := span, tick := n.tb1, die := die }] }

/-- A Pier acts on a VERDICT: a grant expels, a refusal sets the probation flag, with the leader's record (15 R420, R422). -/
def Node.takeVerdict (n : Node) (m : Msg) : Node :=
  let p := fld (cDie m) 5 0
  if n.spanMatch p m.span m.epoch then
    let n1 := n.wrBits (Ob.hlt_healthFlags p) 1 1 0
    if bit m.head 55 then n1.expel p
    else
      let n2 := n1.wrBits (Ob.hlt_healthFlags p) 2 1 1
      if n2.lead.leading then (n2.probation p 2).postHealth p else n2
  else n

/-- The leading head decides an EXPEL: granted while fewer than the budget of the span's grants lie within the window, otherwise refused
with cause 0x94; the VERDICT goes to the twin at once and down at the leave tick (15 R421). -/
def Node.decideExpel (n : Node) (span epoch die : Nat) : Node :=
  let past := n.grantsOf span
  let ok := decide (past.length < n.rd Ob.bud_expulsionBudget)
  let n1 :=
    if ok then n.addGrant span die
    else (n.bump Ob.bud_refusals).fault
      { cause := 0x94, span := span, die := some die, obj := span
        detail := put 79 72 past.length + put 63 0 ((past.head?.map (·.tick)).getD 0) }
  let m := verdictMsg span epoch die (ofB ok) (past.length + ofB ok)
  let n2 := n1.sendTwin m
  if n2.level == 1 then n2.takeVerdict m
  else
    let q := n2.downFor die
    if n2.memberMatch q span epoch then n2.sendAt q (nextMul 8 (n2.tb1 + 40)) m else n2

/-- An EXPEL: a hub below the head forwards it up, a head that does not lead passes it to its twin, the leading head answers it
(15 R421). -/
def expelReceived (p : Nat) (n : Node) : Node :=
  n.onMsg p (isCensusKind 4) (fun m n =>
    if n.isHeadOf m.span then
      if n.lead.leading then n.decideExpel m.span m.epoch (cDie m)
      else when (p < 66) (fun n => n.sendTwin m) n
    else
      let q := n.uplink m.span m.epoch
      when (p < 64 && n.spanMatch p m.span m.epoch && n.memberMatch q m.span m.epoch) (fun n => n.forward p q m) n)

/-- The port whose first waiting EXPEL names the lowest die (15 R421). -/
def Node.nextExpel (n : Node) : Option Nat :=
  ((upTo 68).filterMap (fun p => (n.peek p (isCensusKind 4)).map (fun m => (cDie m, p)))).foldl (fun (a : Option (Nat × Nat)) x =>
    match a with
    | some y => if x.1 < y.1 then some x else a
    | none => some x) none |>.map (·.2)

/-- EXPELs are taken in ascending die number up to that of a port (15 R421). -/
def expelsTo (p : Nat) : Nat → Node → Node
  | 0, n => expelReceived p n
  | fuel + 1, n =>
    match n.nextExpel with
    | none => n
    | some q => if q == p then expelReceived p n else expelsTo p fuel (expelReceived q n)

/-- The EXPEL of a port, after those of lower dies that were decoded on the tick (15 R421). -/
def expelInOrder (p : Nat) (n : Node) : Node :=
  if (n.peek p (isCensusKind 4)).isNone then n
  else expelsTo p (((upTo 68).map (fun q => ((n.linkOf q).taken.filter (isCensusKind 4)).length)).sum) n

/-- `EXPEL_RECEIVED` (15 R421). -/
def execExpelReceived (p : Nat) (s : State) : Host.Outcome State Fault Refusal := onNode s .hub (s.hub.hasPort p) (expelInOrder p)

/-- The key of a VERDICT; the tag 5 keeps it apart from other keys (10 R270, 11 R293). -/
def verdictKey (m : Msg) : Nat := m.head * 8 + 5

/-- A VERDICT: a head records its grant; a hub forwards the first copy as a targeted release; a Pier consumes it (15 R421, 11 R293). -/
def verdictReceived (p : Nat) (n : Node) : Node :=
  n.onMsg p (isCensusKind 5) (fun m n =>
    if p < 64 || !n.firstCopy (verdictKey m) then n
    else
      let n1 := n.noteCopy (verdictKey m)
      let n2 := if n1.isHeadOf m.span && bit m.head 55 then n1.addGrant m.span (cDie m) else n1
      let n3 := if p < 66 then overAll [66, 67] (fun n q => n.forward p q m) n2 else n2
      if n3.level == 1 then n3.takeVerdict m
      else
        let q := n3.downFor (cDie m)
        when (n3.memberMatch q m.span m.epoch) (fun n => n.forward p q m) n3)

/-- `VERDICT_RECEIVED` (15 R421, R422). -/
def execVerdictReceived (p : Nat) (s : State) : Host.Outcome State Fault Refusal := onNode s .hub (s.hub.hasPort p) (verdictReceived p)

/-! ### Evaluation and the twin -/

/-- The leader asks for an expulsion (15 R420). -/
def Node.requestExpel (n : Node) (p : Nat) : Node :=
  let span := n.ownSpan p
  let epoch := n.ownEpoch p
  let n1 := ((n.modDport p (fun d => { d with expelAt := some n.tb1 })).wrBits (Ob.hlt_healthFlags p) 1 1 1).wrBits (Ob.hlt_healthFlags p) 2 1 0
  if n1.isHeadOf span then (if n1.lead.leading then n1.decideExpel span epoch (n.dieAt p) else n1)
  else
    let q := n1.uplink span epoch
    if n1.memberMatch q span epoch then
      n1.send q (censusMsg span epoch 4 (n.dieAt p) (put 55 46 (n.rd (Ob.hlt_score p))) [])
    else n1

/-- No EXPEL for the die has been sent within the request interval (15 R420). -/
def Node.mayExpel (n : Node) (p : Nat) : Bool :=
  n.rd (Ob.prt_portState p) == 1 && (match (n.dportOf p).expelAt with
    | none => true
    | some t => decide (t + n.rd Ob.hwt_requestInterval * healthTicks ≤ n.tb1))

/-- What the leader does with a new score (15 R420). -/
def Node.judge (n : Node) (p : Nat) : Node :=
  let score := n.rd (Ob.hlt_score p)
  let flag := bit (n.rd (Ob.hlt_healthFlags p)) 0
  let n1 :=
    if score < n.rd Ob.hwt_probationThreshold then (if flag then n else n.probation p 1)
    else if n.rd Ob.hwt_probationThreshold + 50 ≤ score then n.wrBits (Ob.hlt_healthFlags p) 0 1 0 else n
  let n2 := if score < n.rd Ob.hwt_expulsionThreshold && n1.mayExpel p then n1.requestExpel p else n1
  n2.postHealth p

/-- A Pier evaluates a die port 1,048,576 ticks after an interval end, once; skipped while census and health are not ENABLED (15 R419,
16 R462). -/
def healthEvaluation (p : Nat) (n : Node) : Node :=
  let iv := intervalEnd n.tb1 1048576
  when (n.level == 1 && iv + 1048576 ≤ n.tb1 && (n.dportOf p).evalAt != some iv) (fun n =>
    let n0 := n.modDport p (fun d => { d with evalAt := some iv })
    if !n0.fnEnabled 5 then n0
    else
      let pen := n0.nextPenalty p
      let n1 := if (n0.dportOf p).report.isNone then n0.bump (Ob.hlt_reportsMissing p) else n0
      let n2 := (n1.wr (Ob.hlt_penalty p) pen).wr (Ob.hlt_score p) (scoreOf pen)
      let n3 := n2.modDport p (fun d => { d with xAudit := 0, twinLink := 0, report := none })
      if n3.lead.leading then n3.judge p else n3.postHealth p) n

/-- `HEALTH_EVALUATION` (15 R419, R420). -/
def execHealthEvaluation (p : Nat) (s : State) : Host.Outcome State Fault Refusal :=
  onNode s .hub (decide (p < 64)) (healthEvaluation p)

/-- A TWIN HEALTH: the twin's uncorrectable frames; a follower takes the state; a report of EXPELLED expels (15 R417, R419, R422). -/
def twinHealthReceived (p : Nat) (n : Node) : Node :=
  n.onMsg p (isTwinKind 2) (fun m n =>
    when (n.level == 1 && 66 ≤ p) (fun n =>
      let q := fld m.head 123 118
      let st := fld m.head 117 116
      let n1 := n.modDport q (fun d => { d with twinLink := fld m.head 103 72 })
      let n2 := if n1.lead.leading then n1
        else ((n1.modDport q (fun d => { d with expelled := st == 3 })).wr (Ob.hlt_healthState q) st).wrBits (Ob.hlt_healthFlags q) 0 1 (fld m.head 105 105)
      if st == 3 then n2.expel q else n2) n)

/-- `TWIN_HEALTH_RECEIVED` (15 R422, R434). -/
def execTwinHealthReceived (p : Nat) (s : State) : Host.Outcome State Fault Refusal := onNode s .hub (s.hub.hasPort p) (twinHealthReceived p)

/-- A Pier sends TWIN HEALTH for a die port 524,288 ticks after each interval end (15 R434). -/
def twinHealthSend (p : Nat) (n : Node) : Node :=
  let iv := intervalEnd n.tb1 524288
  when (n.level == 1 && iv + 524288 ≤ n.tb1 && (n.dportOf p).sentAt != some iv)
    (fun n => (n.modDport p (fun d => { d with sentAt := some iv })).sendHealth p) n

/-- `TWIN_HEALTH_SEND` (15 R434). -/
def execTwinHealthSend (p : Nat) (s : State) : Host.Outcome State Fault Refusal := onNode s .hub (decide (p < 64)) (twinHealthSend p)

/-! ### Health commands -/

/-- Command 1: P is 0, the flag is clear and the die is SERVING (15 R420). -/
def healthReinstate (p : Nat) (n : Node) : Node :=
  n.accept (n.level == 1) (fun n =>
    let n1 := ((n.wr (Ob.hlt_penalty p) 0).wr (Ob.hlt_score p) 1000).wr (Ob.hlt_healthFlags p) (8 * ofB n.lead.leading)
    (n1.modDport p (fun d => { d with expelled := false })).wr (Ob.hlt_healthState p) 0)

/-- `HEALTH_REINSTATE` (15 R420). -/
def execHealthReinstate (p : Nat) (s : State) : Host.Outcome State Fault Refusal := onObj s .hub (decide (p < 64)) (healthReinstate p)

/-- Command 2: every fence of the die is cleared, at its TSU too (15 R426). -/
def healthClearFences (p : Nat) (n : Node) : Node :=
  n.accept (n.level == 1) (fun n => ((n.wr (Ob.hlt_fenceMask p) 0).sendFence p).postHealth p)

/-- `HEALTH_CLEAR_FENCES` (15 R426). -/
def execHealthClearFences (p : Nat) (s : State) : Host.Outcome State Fault Refusal := onObj s .hub (decide (p < 64)) (healthClearFences p)

/-- Command 3: every count of the die's audit matrix is 0 (15 R437). -/
def execHealthClearMatrix (p : Nat) (s : State) : Host.Outcome State Fault Refusal :=
  onObj s .hub (decide (p < 64)) (fun n => n.accept (n.level == 1) (fun n => n.wr (Ob.hlt_auditMatrix p) 0))

/-! ### Census -/

/-- The LATCH of a span census: mask, number, and latch tick in its CONT cell (15 R432, R433). -/
def latchMsg (span epoch mask number tick : Nat) : Msg := censusMsg span epoch 1 0 (put 55 40 mask + put 39 8 number) [put 127 64 tick]

/-- Latch tick of a LATCH. -/
def latchTick (m : Msg) : Nat := fld (m.cell 1) 127 64

/-- A unit will latch at a tick, its Agents with it unless they are missed. -/
def Node.latchDue (n : Node) (m : Msg) (missed : Bool) : Node :=
  n.modCensus (fun c => { c with latchAt := c.latchAt ++ [(latchTick m, fld m.head 55 40, fld m.head 39 8, missed)] })

/-- The leave tick of a LATCH: T - 4,096 rounded down to a frame boundary (15 R432). -/
def latchLeave (t : Nat) : Nat := (t - 4096) / 8 * 8

/-- A head sends a LATCH down at its leave tick. -/
def Node.latchDown (n : Node) (m : Msg) : Node :=
  overAll (n.memberDown m.span m.epoch) (fun n q => n.sendAt q (latchLeave (latchTick m)) m) n

/-- A span census: span, mask, number and T; refused unless this hub leads the span's head, T is at least 8,192 ticks away and the mask
sets no reserved bit (15 R429, R432). -/
def censusCommand (v : Nat) (n : Node) : Node :=
  n.needsFn 5 (fun n =>
    let span := fieldAt v 0 2
    let mask := fieldAt v 2 2
    let t := fieldAt v 8 8
    match n.spanEntryOf span with
    | none => n.answer 3
    | some e => n.accept (eHead e && n.lead.leading && mask < 64 && decide (n.tb1 + 8192 ≤ t)) (fun n =>
        let m := latchMsg span (eEpoch e) mask (fieldAt v 4 4) t
        ((n.sendTwin m).latchDown m).latchDue m false))

/-- `CENSUS_COMMAND` (15 R432). -/
def execCensusCommand (v : Nat) (s : State) : Host.Outcome State Fault Refusal := onNode s .hub true (censusCommand v)

/-- The key of a LATCH; the tag 4 keeps it apart from other keys (10 R270, 15 R432). -/
def latchKey (m : Msg) : Nat := (m.head * 2 ^ 64 + latchTick m) * 8 + 4

/-- A unit that decodes a LATCH after T latches nothing and counts it; a TSU that decodes it after T - 1,544 misses its Agents (15 R432). -/
def Node.takeLatch (n : Node) (m : Msg) : Node :=
  if latchTick m < n.tb1 then n.bump Ob.cen_lATCHesMissed else n.latchDue m (!n.isHub && decide (latchTick m < n.tb1 + 1544))

/-- A LATCH at a hub: forwarded as an ARM, a head's from its twin at the leave tick; at a member TSU: counted as missed while its census
function is not ENABLED (15 R432, 16 R461). -/
def latchReceived (p : Nat) (n : Node) : Node :=
  n.onMsg p (isCensusKind 1) (fun m n =>
    if n.isHub then
      if p < 64 || !n.firstCopy (latchKey m) then n
      else
        let n1 := n.noteCopy (latchKey m)
        if n1.isHeadOf m.span then (n1.latchDown m).takeLatch m
        else if p < 66 && !n1.spanMatch p m.span m.epoch then n
        else
          let n2 := overAll (n1.memberDown m.span m.epoch) (fun n q => n.forward p q m) n1
          let n3 := if p < 66 then overAll [66, 67] (fun n q => n.forward p q m) n2 else n2
          n3.takeLatch m
    else if !n.spanMatch p m.span m.epoch then n
    else if !n.member || m.span != n.span || m.epoch != n.epoch || !n.firstCopy (latchKey m) then n
    else
      let n1 := n.noteCopy (latchKey m)
      if !n1.fnEnabled 8 then n1.bump Ob.cen_lATCHesMissed else n1.takeLatch m)

/-- `LATCH_RECEIVED` (15 R432). -/
def execLatchReceived (u : Who) (p : Nat) (s : State) : Host.Outcome State Fault Refusal :=
  onNode s u ((s.node u).hasPort p) (latchReceived p)

/-- At the commit tick of T the census action for group 63 takes slot 3 after every context, or shares the action already there for T
(15 R432, 09 R233). -/
def Node.placeCensus (n : Node) : Node :=
  overAll (n.census.latchAt.filter (fun l => !n.isHub && !l.2.2.2 && commitTick l.1 == n.tb1)) (fun n l =>
    match n.bus.placed.find? (fun b => b.op == 4 && markerFor b.tick0 == markerFor l.1) with
    | some b =>
      if b.tick0 == l.1 then n
      else n.modCensus (fun c => { c with latchAt := c.latchAt.map (fun x => if x == l then (l.1, l.2.1, l.2.2.1, true) else x) })
    | none => n.modBus (fun b => { b with placed := b.placed ++ [{ op := 4, grp := 63, tick0 := l.1 }] })) n

/-- Objects of the counter sets 3, 4 and 5 (15 R429). -/
def Node.setObjects (n : Node) (mask : Nat) : List Nat :=
  let ports := (upTo n.portCount).flatMap (fun p =>
    [Ob.link_correctedSymbols p, Ob.link_uncorrectableFrames p, Ob.link_spanMessagesDropped p, Ob.link_malformedCells p, Ob.link_faultSlotDrops p])
  let tallies := [Ob.tly_waitTimeouts, Ob.tly_misdirectedTimeouts, Ob.tly_unitsDiscarded, Ob.tly_orphanCredits, Ob.tly_requestsRefusedAndStaleMessages,
    Ob.htly_messagesDropped, Ob.htly_lateMessages]
  let clearing := [Ob.clr_issues, Ob.clr_resultsPresent, Ob.clr_contributionsRefused, Ob.clr_messagesDropped, Ob.clr_resultTimeouts,
    Ob.esc_staleMessages, Ob.esc_handoffsLate, Ob.esc_instancesHeld, Ob.esc_instancesRefused]
  ((if bit mask 3 then ports else []) ++ (if bit mask 4 then tallies else []) ++ (if bit mask 5 then clearing else [])).filter n.hasObj

/-- A counter as a census finds it; object 0x4800.02 is the count of the combining states (10 R279). -/
def Node.counterNow (n : Node) (o : Nat) : Nat := if o == Ob.esc_instancesHeld then n.escInst.length else n.rd o

/-- A unit latches the sets of a mask that it holds (15 R429, R436). -/
def Node.latch (n : Node) (mask number flags : Nat) : Node :=
  let k := if n.isHub then 64 else 32
  let n1 := if bit mask 0 then overAll (upTo k) (fun n i => n.wr (Ob.ecnt_shadow i) (n.rd (Ob.ecnt_value i))) n else n
  let sh := (n.setObjects mask).map (fun o => (o, n.counterNow o))
  let n2 := n1.modCensus (fun c => { c with linkSh := c.linkSh.filter (fun e => !sh.any (fun x => x.1 == e.1)) ++ sh })
  (((n2.wr Ob.cen_censusNumber number).wr Ob.cen_latchTick n.tb1).wr Ob.cen_latchedMask mask).wr Ob.cen_censusFlags flags |>.bump Ob.cen_latches

/-- A step's census has been latched on this tick. -/
def Node.stepLatched (n : Node) : Bool := n.rd Ob.cen_latchTick == n.tb1 && bit (n.rd Ob.cen_censusFlags) 1

/-- The census entry whose action is on this tick latches the core's sets of its mask, once; its number is the step number [31:0]
(15 R431). -/
def Node.stepLatch (n : Node) : Node :=
  if n.stepLatched then n else
  match n.bus.known.find? (fun a => a.op == 4 && a.tick0 == n.tb1 && a.work != 0) with
  | some a => n.latch a.work (a.step % 2 ^ 32) 6
  | none => n

/-- The span censuses due latch, with flag bit 2 when the Agents latch too and bit 3 when they are missed (15 R432, R436). -/
def Node.spanLatch (n : Node) : Node :=
  (overAll (n.census.latchAt.filter (·.1 == n.tb1)) (fun n l =>
    n.latch l.2.1 l.2.2.1 ((if n.isHub then 1 else if l.2.2.2 then 9 else 5) + 2 * ofB n.stepLatched)) n).modCensus
      (fun c => { c with latchAt := c.latchAt.filter (·.1 != n.tb1) })

/-- `CENSUS_LATCH` (15 R431, R432): a step's latch and a span's latch on one tick both take place, the span's last. -/
def execCensusLatch (u : Who) (s : State) : Host.Outcome State Fault Refusal := onNode s u true (fun n => n.stepLatch.spanLatch)

/-- A census action at an Agent latches sets 1 and 2 into its shadows (15 R429, R431). -/
def agentCensus (r : Nat) (n : Node) : Node :=
  match n.actionNow r 4 with
  | none => n
  | some a =>
    let sets := [Ob.agent_stretches r, Ob.agent_marginEpisodes r, Ob.agent_marginTicks r, Ob.agent_frequencyChanges r]
    let two := ((upTo 4).map (fun i => putField (64 + 8 * i) 8 (n.rd (sets.getD i 0)))).sum
    (n.wr (Ob.agc_agentShadows r) (n.rd (Ob.agc_agentValues r) % 2 ^ 512 + two)).dropAction r a

/-- `AGENT_CENSUS` (15 R429). -/
def execAgentCensus (r : Nat) (s : State) : Host.Outcome State Fault Refusal := onNode s .tsu (s.tsu.hasRegion r) (agentCensus r)

/-! ### Event counter sources -/

/-- The events of the TSU core, of a hub and of a Region Agent (15 R430). -/
def heldEvents (hub agent : Bool) : List Nat :=
  if agent then [0, 2, 3, 4, 5, 6, 7, 8, 9]
  else if hub then [0, 1, 0x14, 0x15, 0x17, 0x18, 0x19, 0x20, 0x21, 0x22, 0x23, 0x24]
  else [0, 1, 0x10, 0x11, 0x12, 0x13, 0x14, 0x15, 0x16, 0x17, 0x18, 0x19, 0x20, 0x21, 0x22, 0x23, 0x24]

/-- A source names an event that the unit holds, with a port or 0xFF as the qualifier of a link event and 0 otherwise (15 R430). -/
def Node.sourceOk (n : Node) (agent : Bool) (v : Nat) : Bool :=
  let q := v / 256
  (heldEvents n.isHub agent).contains (v % 256) && (if 0x20 ≤ v % 256 then q < n.portCount || q == 0xFF else q == 0)

/-- A source is written: counter `k` of the core or hub, or counter n of the Agent of region r as 64 + 8r + n; it takes effect at the next
marker (15 R430). -/
def eventSourceWrite (k v : Nat) (n : Node) : Node :=
  let o := if k < 64 then Ob.ecnt_source k else Ob.agc_agentSources ((k - 64) / 8)
  let n1 := if k < 64 then n.wr o v else n.wrBits o (16 * (k % 8)) 16 v
  n.rwsWrite (n.sourceOk (64 ≤ k) v) o (n1.rd o) (fun _ => n1)

/-- A unit holds the counter (15 R430). -/
def Node.hasCounter (n : Node) (k : Nat) : Bool :=
  if n.isHub then decide (k < 64) else if k < 64 then decide (k < 32) else n.hasRegion ((k - 64) / 8)

/-- `EVENT_SOURCE_WRITE` (15 R430). -/
def execEventSourceWrite (u : Who) (k v : Nat) (s : State) : Host.Outcome State Fault Refusal :=
  onNode s u ((s.node u).hasCounter k) (eventSourceWrite k v)

/-- At a marker the sources written are in force; those that count nothing are not listed (15 R430). -/
def Node.newSources (n : Node) : Node :=
  let core := (upTo 64).map (fun k => (k, if n.hasCounter k then n.rd (Ob.ecnt_source k) else 0))
  let ag := (upTo n.regionCount).flatMap (fun r => (upTo 8).map (fun i => (64 + 8 * r + i, fieldAt (n.rd (Ob.agc_agentSources r)) (2 * i) 2)))
  n.modCensus (fun c => { c with srcs := (core ++ ag).filter (fun e => e.2 % 256 != 0) })

end Sys2Proof.Machine
end

