-- ==== Sys2Proof/Machine/Checks.lean ====
section
/-! DEFINITION. The values that the descriptions of RW and RWS objects allow, for writes (16 R443) and for the records of a configuration
image (17 R492). -/

namespace Sys2Proof.Machine

/-- A range of values of an object: first index, number of indices, subindex, least and greatest value. -/
structure VRange where
  base : Nat
  count : Nat
  sub : Nat
  lo : Nat
  hi : Nat
  deriving DecidableEq, Repr

/-- The largest U32. -/
def maxU32 : Nat := 2 ^ 32 - 1

/-- Objects whose descriptions give a range of values. -/
def ranges : List VRange := [
  ⟨0x3000, 1, 3, 64, maxU32⟩, ⟨0x3010, 80, 1, 0, 2⟩, ⟨0x3001, 1, 3, 0, 2⟩, ⟨0x3001, 1, 7, 1, 16⟩, ⟨0x3001, 1, 8, 1, 64⟩,
  ⟨0x3001, 1, 0xD, 16, 4096⟩, ⟨0x3001, 1, 0x14, 256, 65536⟩, ⟨0x3001, 1, 0x17, 0, 1⟩, ⟨0x3060, 80, 7, 0, 3⟩, ⟨0x3800, 1, 2, 15625000, maxU32⟩,
  ⟨0x3810, 8, 0, 0, 1⟩, ⟨0x3810, 8, 1, 0, 1⟩, ⟨0x3810, 8, 2, 0, 2⟩, ⟨0x3810, 8, 3, 1, 255⟩, ⟨0x3810, 8, 4, 0, 4⟩,
  ⟨0x3840, 4, 0, 0, 7⟩, ⟨0x3840, 4, 1, 1, 1000000⟩,
  ⟨0xB000, 1, 2, 0, 1⟩, ⟨0xB000, 1, 3, 0, 1⟩, ⟨0xB000, 1, 4, 0, 720⟩, ⟨0xB000, 1, 5, 0, 60⟩, ⟨0xB000, 1, 7, 1, 2⟩, ⟨0xB000, 1, 8, 1, 8⟩,
  ⟨0xB000, 1, 9, 1, 1000⟩, ⟨0xB000, 1, 0xC, 4, 1024⟩, ⟨0xB000, 1, 0xD, 1, 1000⟩, ⟨0xB000, 1, 0x11, 0, 2⟩, ⟨0xB000, 1, 0x15, 60, 3600⟩,
  ⟨0xB000, 1, 0x19, 0, 1⟩, ⟨0xB001, 1, 6, 0, 1⟩, ⟨0xB010, 8, 1, 0, 2⟩, ⟨0xB010, 8, 6, 1, 200000⟩, ⟨0xB010, 8, 7, 1000, 1000000⟩,
  ⟨0xB040, 6, 2, 0, 781249999⟩, ⟨0xB040, 6, 3, 1, 3⟩, ⟨0x2000, 8, 4, 1, 2 ^ 40⟩, ⟨0x2010, 1, 2, 1, 100000⟩, ⟨0x2810, 8, 0, 0, 1⟩,
  ⟨0x2840, 4, 2, 0, 781249999⟩, ⟨0x2840, 4, 3, 2, maxU32⟩, ⟨0xD000, 1024, 1, 0, 1⟩, ⟨0xD000, 1024, 0x11, 64, 156250⟩,
  ⟨0xD800, 2048, 4, 0, 2⟩, ⟨0xD800, 2048, 6, 0, 63⟩, ⟨0x5040, 64, 1, 1, 10000000⟩, ⟨0x5800, 1, 1, 0, 4095⟩, ⟨0x7000, 1, 1, 0, 1⟩,
  ⟨0x7000, 1, 9, 0, 63⟩, ⟨0x8000, 1, 0xC, 10, 10000⟩, ⟨0x8400, 1024, 1, 1, 1000⟩, ⟨0x8400, 1024, 2, 1, 1000⟩, ⟨0x8400, 1024, 3, 5, 1000⟩,
  ⟨0x8400, 1024, 4, 100, 100000⟩, ⟨0x8400, 1024, 5, 1, 16⟩, ⟨0x8400, 1024, 7, 0, 1⟩, ⟨0xA100, 1, 0, 0, 7⟩, ⟨0xC400, 1, 6, 4, 24⟩,
  ⟨0xC400, 1, 0xA, 1, 100⟩, ⟨0xC500, 1, 0, 1, 16⟩, ⟨0x1100, 9, 1, 0, 1⟩, ⟨0x1100, 9, 2, 1, 600000⟩, ⟨0x1910, 1, 0, 1024, 65535⟩,
  ⟨0x9000, 1024, 3, 64, 15625000⟩, ⟨0x9000, 1024, 4, 0, 1⟩, ⟨0x9000, 1024, 6, 10, 10000⟩, ⟨0x9000, 1024, 7, 16, 1563⟩,
  ⟨0x9800, 1, 2, 1, 1000⟩, ⟨0x9800, 1, 3, 0, 67⟩, ⟨0x9880, 68, 0, 0, 1⟩, ⟨0x9C00, 1, 4, 0, 1⟩, ⟨0xD400, 1, 0, 1, 1024⟩, ⟨0xD401, 1, 0, 0, 2048⟩,
  ⟨0xD800, 2048, 2, 2, 256⟩, ⟨0xD800, 2048, 3, 1, 1024⟩]

/-- A value lies in the ranges of its object. -/
def rangeOk (o v : Nat) : Bool :=
  ranges.all (fun r => !(r.sub == o % 256 && Nat.ble r.base (o / 256) && Nat.blt (o / 256) (r.base + r.count)) || (Nat.ble r.lo v && Nat.ble v r.hi))

/-- Every byte of a blob passes a test. -/
def bytesAll (n v : Nat) (f : Nat → Bool) : Bool := (leBytes n v).all f

/-- The nominal period of an event input under a code and an own period, in time units (04 R107). -/
def nominalPeriod (code own : Nat) : Nat :=
  if code == 0 then 102400000000000 else if code == 1 then 10240000 else if code == 2 then 4096000 else if code == 3 then 655360 else own

/-- A write to the conditioning of input `i` keeps the hold-off below half the nominal period (04 R107); a hub refuses code 4 for an input
that an enabled entry of the priority table names (05 R122). -/
def Node.evOk (n : Node) (i sub v : Nat) : Bool :=
  let h := if sub == 3 then v else n.rd (Ob.ev_holdOff i)
  let code := if sub == 4 then v else n.rd (Ob.ev_nominalCode i)
  let own := if sub == 5 then v else n.rd (Ob.ev_nominalPeriod i)
  let named := n.isHub && (upTo 8).any (fun j => entryOn (n.prioEntry j) && entryRef (n.prioEntry j) == i)
  holdOffOk h (nominalPeriod code own) && !(sub == 4 && v == 4 && named)

/-- The source code of a general slot (04 R109). -/
def slotCodeOk (v : Nat) : Bool :=
  v ≤ 0x43 || (0x60 ≤ v && v ≤ 0x67) || (0x70 ≤ v && v ≤ 0x74) || (0x80 ≤ v && v ≤ 0xC3) || v == 0xFF

/-- The offset of an output lies within half a second (05 R148). -/
def offsetOk (v : Nat) : Bool := decide ((toS 64 v).natAbs ≤ 32768000000000)

/-- The source of a hub output (05 R147). -/
def Node.outSourceOk (n : Node) (k v : Nat) : Bool :=
  v ≤ 1 || (v == 2 && k < 4) || (v == 3 && n.level == 3) ||
  (0x10 ≤ v && v ≤ 0x17 && k < 4 && n.rd (Ob.ev_nominalCode (v - 0x10)) == 0)

/-- The source of a TSU pulse output: a code of the table (06 R167). -/
def pulseSourceOk (v : Nat) : Bool := v ≤ 3 || v == 8 || (10 ≤ v && v ≤ 15) || (0x10 ≤ v && v ≤ 0x17)

/-- A base selection of a capture record (06 R164). -/
def baseOk (v : Nat) : Bool := v == 0 || (2 ≤ v && v ≤ 7) || v == 0xF

/-- A reference object of a Keystone (05 R125, R127, R137, R141, R149). -/
def Node.refValueOk (n : Node) (sub v : Nat) : Bool :=
  if sub == 6 then v ≤ 7 || v == 0xFF
  else if sub == 0xB then n.rd Ob.ref_lockWindow ≤ v
  else if sub == 0x10 then decide ((toS 64 v).natAbs ≤ 2 ^ 48 / 5000)
  else if sub == 0x19 then !(v == 1 && n.rd Ob.ref_dacGain == 0)
  else true

/-- The limits that hold between an object's value and the unit as it stands, beyond the ranges of single values. -/
def Node.contextOk (n : Node) (o v : Nat) : Bool :=
  let idx := o / 256
  let sub := o % 256
  let at_ := fun (base count : Nat) => Nat.ble base idx && Nat.blt idx (base + count)
  if at_ 0x3001 1 then
    (if sub == 3 || sub == 4 then !n.isHub
     else if sub == 0xB then n.rd Ob.time_lockWindow ≤ v else true)
  else if at_ 0x3060 80 && sub == 1 then n.role (idx - 0x3060) != 1
  else if at_ 0x3800 1 && sub == 3 then v == 2 ^ Nat.log2 v && 65536 ≤ v && v ≤ 2 ^ 24
  else if at_ 0x3810 8 then (if sub == 2 then n.isHub else if 3 ≤ sub && sub ≤ 5 then n.evOk (idx - 0x3810) sub v else true)
  else if at_ 0x3820 16 then slotCodeOk v
  else if at_ 0xB000 1 then n.level == 3 && n.refValueOk sub v
  else if at_ 0xB001 15 then n.level == 3
  else if at_ 0xB010 8 then
    n.level == 3 && (if sub == 2 then (1 ≤ v && v ≤ 8) || v == 15 else true)
  else if at_ 0xB040 6 then
    (if sub == 0 then n.outSourceOk (idx - 0xB040) v else if sub == 1 then offsetOk v else true)
  else if at_ 0x2810 8 then (if sub == 1 || sub == 2 then baseOk v else true)
  else if at_ 0x2840 4 then (if sub == 0 then pulseSourceOk v else if sub == 1 then offsetOk v else true)
  else if at_ 0xD800 2048 && sub == 5 then n.rd Ob.vds_crossingLatency ≤ v && v ≤ 4096
  else if o == Ob.det_journalContext then v < n.ctxCount
  else if o == Ob.flt_firmwareWatch then n.isHub
  else if at_ 0x8400 1024 && sub == 3 then n.rd (Ob.watch_resetTarget (idx - 0x8400)) ≤ v
  else if o == Ob.aud_loadClasses then bytesAll 16 v (fun b => b < 16)
  else if at_ 0xC300 64 && sub == 7 then n.level == 1 && (v < 64 || v == 0xFF)
  else if o == Ob.hwt_expulsionThreshold then v ≤ n.rd Ob.hwt_probationThreshold
  else if o == Ob.pwr_wakeEnables then bytesAll 68 v (fun b => b ≤ 2)
  else if o == Ob.mdl_oscillatorNominal then v == 10000000 || v == 20000000 || v == 25000000 || v == 100000000
  else if at_ 0xA020 64 then n.sourceOk false v
  else if at_ 0xA400 1024 && sub == 0 then (upTo 8).all (fun i => n.sourceOk true (fieldAt v (2 * i) 2))
  else true

/-- The object's description allows the value. -/
def Node.valueOk (n : Node) (o v : Nat) : Bool := rangeOk o v && n.contextOk o v

/-! ### Reserved bits -/

/-- Every byte of an `n`-byte value under a mask. -/
def maskBytes (n m v : Nat) : Nat := leVal ((leBytes n v).map (fun b => b &&& m))

/-- Every entry of a table of `n` entries of 8 bytes without its bits 62 to 48 (13 R382). -/
def maskPins (v : Nat) : Nat := leVal ((upTo 16).flatMap (fun i => let e := fieldAt v (8 * i) 8; leBytes 8 (put 63 63 (fld e 63 63) + e % 2 ^ 48)))

/-- Every manifest entry without its reserved bits (13 R364). -/
def maskManifest (v : Nat) : Nat := v - put 123 122 (fld v 123 122) - v % 2 ^ 30

/-- The value without the bits that the object's description reserves: they are ignored (16 R440, 00 R12). -/
def keepBits (o v : Nat) : Nat :=
  let idx := o / 256
  let sub := o % 256
  let at_ := fun (base count s : Nat) => sub == s && Nat.ble base idx && Nat.blt idx (base + count)
  if o == Ob.irq_interruptRouting then maskBytes 512 0x87 v
  else if o == Ob.prio_priorityTable then tableMask v
  else if o == Ob.mint_manifest then (if v == 0 then 0 else leVal ((upTo 4096).flatMap (fun e => leBytes 16 (maskManifest (bits v (128 * e) 128)))))
  else if o == Ob.hall_hallAnchor then v % 2 ^ 144
  else if at_ 0x4900 256 1 then v - put 15 6 (fld v 15 6)
  else if at_ 0x4900 256 8 then v % 2 ^ 56
  else if o == Ob.ssel_spanSelect then put 21 16 (fld v 21 16) + v % 2 ^ 12
  else if o == Ob.lsel_localSelect then v % 2 ^ 46
  else if o == Ob.jrnl_pinList then maskPins v
  else if o == Ob.jrnl_readSelect then v - putField 2 2 (fieldAt v 2 2)
  else if o == Ob.rpl_replaySource || o == Ob.rpl_replayFirstStep then v % 2 ^ 48
  else if at_ 0xB010 8 3 then v % 2 ^ 50
  else if at_ 0x1900 16 0 then v % 2 ^ 16
  else if at_ 0xD000 1024 5 then v % 2 ^ 63
  else if o == Ob.htly_slotConfiguration then v % 2 ^ 34 + putField 8 20 (fieldAt v 8 20)
  else v

end Sys2Proof.Machine
end

