-- ==== Sys2Proof/Machine/Power.lean ====
section
/-! DEFINITION. Power states of a region: requests, grants, the handshake and the power-up order (17 R476 to R486). -/

namespace Sys2Proof.Machine

/-! ### The parties -/

/-- A context holds a step whose table has a LAUNCH of a group with the region (17 R479, party 1). -/
def Node.stepLaunches (n : Node) (r : Nat) : Bool :=
  (upTo n.ctxCount).any (fun c => n.stepHeld c && (n.launchRegions (n.entries (n.ctxOf c).table)).contains r)

/-- A local tally of the region has a waiter, or a core of the region waits on a span tally (17 R479, party 2). -/
def Node.tallyWaits (n : Node) (r : Nat) : Bool :=
  (n.agentOf r).locals.any (fun e => !e.2.waiters.isEmpty) ||
  n.tally.waits.any (fun w => unitRegion w.unit == r && !isHostUnit w.unit && !isSeqUnit w.unit)

/-- The answer code of the party that refuses, 0 when none does (17 R479). -/
def Node.refuses (n : Node) (r : Nat) : Nat :=
  let a := n.agentOf r
  if n.stepLaunches r then 1
  else if n.tallyWaits r then 2
  else if a.run.isSome then 3
  else if a.req.isSome || a.stopAt.isSome then 4
  else if n.rd (Ob.watch_ladderState r) != 0 then 5
  else 0

/-- The answer code of the party that delays, 0 when none does (17 R479). A report is applied on the tick on which it is taken, so the
Arrival Ledger never delays. -/
def Node.delays (n : Node) (r : Nat) : Nat :=
  let mine := fun (c : Nat) => (n.ctxOf c).lastLaunch.contains r
  if n.clr.dieAccs.any (fun a => mine a.ctx) || n.clr.issues.any (fun i => i.live && mine i.ctx) then 6
  else if n.mint.lanes.any (fun l => l.1 == r) then 7
  else 0

/-! ### Requests -/

/-- The transitions that a request may ask for (17 R477): 0 ACTIVE, 1 DOZE, 2 RETAIN, 3 OFF, 4 fence, 5 forced fence, 6 unfence. -/
def requestAllowed (st code : Nat) : Bool :=
  if code == 0 then st == 1 || st == 2 || st == 3
  else if code == 1 then st == 0
  else if code == 2 then st ≤ 1
  else if code == 3 then st ≤ 2
  else if code ≤ 5 then st != 5
  else st == 4

/-- A request is refused: answer, cause 0x81 and, for the region's own, the pulse (17 R478, R479). -/
def Node.refuseRequest (n : Node) (r code why at_ : Nat) (own : Bool) : Node :=
  let n1 := ((n.wr (Ob.reg_answer r) why).regCount r 1).modRegion r (fun g =>
    { g with req := none, delay := 0, refuse := if own then some n.tb1 else g.refuse })
  n1.regionFault 0x81 r 0 (put 79 72 why + put 71 64 code + put 63 0 at_)

/-- The lines on a grant: DOZE raises `ra_pwr_go`; the others isolate and lower their enables, and `ra_pwr_go` rises two ticks later
(17 R480). -/
def Region.granted (g : Region) (code now : Nat) : Region :=
  let g1 := { g with req := none, delay := 0, target := code, phaseAt := now }
  if code == 1 then { g1 with pwrGo := true, pwrSel := 1, phase := 1 }
  else if code == 2 then { g1 with iso := 255, ret := true, puEn := g.puEn &&& 5, pwrSel := 2, phase := 2 }
  else { g1 with iso := 255, ret := false, puEn := 0, pwrSel := 3, phase := 2 }

/-- The state of a granted request is entered; `ra_pwr_go` falls with a state whose clocks no longer run. -/
def Node.enterLow (n : Node) (r : Nat) : Node :=
  (n.modRegion r (fun g => { g with phase := 0, pwrGo := false })).setRegion r (n.regionOf r).target

/-- A request is granted (17 R480); with power-good low already the state is entered at once. -/
def Node.grant (n : Node) (r code : Nat) : Node :=
  let n1 := ((n.wr (Ob.reg_answer r) 0).regCount r 0).modRegion r (fun g => g.granted code n.tb1)
  if code != 1 && !(n.regionOf r).pgood then n1.enterLow r else n1

/-- The parties are asked: a refusal ends the request, a delay leaves it pending, otherwise it is granted (17 R479). -/
def Node.tryGrant (n : Node) (r : Nat) : Node :=
  let g := n.regionOf r
  match g.req with
  | none => n
  | some code =>
    let no := n.refuses r
    let late := n.delays r
    if no != 0 then n.refuseRequest r code no g.reqAt g.reqOwn
    else if late != 0 then (n.wr (Ob.reg_answer r) 10).modRegion r (fun g => { g with delay := late })
    else n.grant r code

/-- A region leaves DOZE: `ra_pwr_go` falls (17 R481). -/
def Node.wake (n : Node) (r : Nat) : Node := n.modRegion r (fun g => { g with pwrGo := false, phase := 4, phaseAt := n.tb1, target := 0 })

/-- A request to ACTIVE, never refused while it is allowed (17 R479, R481, R483). -/
def Node.toActive (n : Node) (r : Nat) : Node :=
  let n1 := ((n.wr (Ob.reg_answer r) 0).regCount r 0).modRegion r (fun g => { g with req := none, delay := 0 })
  if n.rst r == 1 then n1.wake r else n1.startUp r

/-- What a region that was taken down waits for: 6 the fall of power-good, which an Edge TSU's, tied high, never does (18 R523). -/
def Node.fallPhase (n : Node) (g : Region) : Nat := if g.pgood && n.kind != .edge then 6 else 0

/-- A forced fence: the region is taken down without the handshake and is FENCED at once (17 R477). -/
def Node.forceFence (n : Node) (r : Nat) : Node :=
  let n1 := ((n.wr (Ob.reg_answer r) 0).regCount r 0).abortRun r
  let n2 := n1.forceDown r
  (n2.modRegion r (fun g => { g with phase := n.fallPhase g, ladder := 0 })).setRegion r 4

/-- A request by software or by the region (17 R477 to R479). A request that the table does not allow, or one made during a transition,
is refused with answer 9; a forced fence waits for no transition. -/
def Node.request (n : Node) (r code : Nat) (own : Bool) : Node :=
  let st := n.rst r
  if !requestAllowed st code || ((n.regionOf r).phase != 0 && code != 5) then n.refuseRequest r code 9 n.tb1 own
  else if code == 0 then n.toActive r
  else if code == 5 then n.forceFence r
  else if code == 6 then ((n.wr (Ob.reg_answer r) 0).regCount r 0).setRegion r 3
  else (n.modRegion r (fun g => { g with req := some code, reqAt := n.tb1, reqOwn := own, delay := 0 })).tryGrant r

/-- A request by software ends its access with status 0: its answer is in object 0x9000+r.02 (17 R478). The escrow messages of the tick come
first (17 R486). -/
def regionRequest (r code : Nat) (n : Node) : Node := (n.escrowFirst.request r code false).answer 0

/-- `REGION_REQ_ACTIVE` (17 R477). -/
def execRegionReqActive (r : Nat) (s : State) : Host.Outcome State Fault Refusal := onObj s .tsu (s.tsu.hasRegion r) (regionRequest r 0)
/-- `REGION_REQ_DOZE` (17 R479). -/
def execRegionReqDoze (r : Nat) (s : State) : Host.Outcome State Fault Refusal := onObj s .tsu (s.tsu.hasRegion r) (regionRequest r 1)
/-- `REGION_REQ_RETAIN` (17 R479). -/
def execRegionReqRetain (r : Nat) (s : State) : Host.Outcome State Fault Refusal := onObj s .tsu (s.tsu.hasRegion r) (regionRequest r 2)
/-- `REGION_REQ_OFF` (17 R479). -/
def execRegionReqOff (r : Nat) (s : State) : Host.Outcome State Fault Refusal := onObj s .tsu (s.tsu.hasRegion r) (regionRequest r 3)
/-- `REGION_REQ_FENCE` (17 R479). -/
def execRegionReqFence (r : Nat) (s : State) : Host.Outcome State Fault Refusal := onObj s .tsu (s.tsu.hasRegion r) (regionRequest r 4)
/-- `REGION_FORCED_FENCE` (17 R477). -/
def execRegionForcedFence (r : Nat) (s : State) : Host.Outcome State Fault Refusal := onObj s .tsu (s.tsu.hasRegion r) (regionRequest r 5)
/-- `REGION_UNFENCE` (17 R477). -/
def execRegionUnfence (r : Nat) (s : State) : Host.Outcome State Fault Refusal := onObj s .tsu (s.tsu.hasRegion r) (regionRequest r 6)

/-- A change of level on `ra_pwr_req` is the region's own request; while a line of its isolation is high the level is held (17 R478,
R485). -/
def pwrReqChange (r v : Nat) (n : Node) : Node :=
  let g := n.regionOf r
  when (g.iso == 0 && g.pwrReq != v % 4) (fun n => (n.modRegion r (fun g => { g with pwrReq := v % 4 })).escrowFirst.request r (v % 4) true) n

/-- `REGION_PWR_REQ_CHANGE` (17 R478). -/
def execRegionPwrReqChange (r v : Nat) (s : State) : Host.Outcome State Fault Refusal :=
  onNode s .tsu (s.tsu.hasRegion r) (pwrReqChange r v)

/-- `POWER_GRANT` (17 R479): a pending request is evaluated again, after the escrow messages of the tick (17 R486). -/
def execPowerGrant (r : Nat) (s : State) : Host.Outcome State Fault Refusal :=
  onNode s .tsu (s.tsu.hasRegion r) (fun n => n.escrowFirst.tryGrant r)

/-- A delay that still stands when the delay limit has passed becomes a refusal with its code (17 R479). -/
def delayExpiry (r : Nat) (n : Node) : Node :=
  let g := n.regionOf r
  match g.req with
  | none => n
  | some code => when (g.delay != 0 && g.reqAt + n.rd (Ob.reg_delayLimit r) ≤ n.tb1) (fun n =>
      let no := n.refuses r
      let late := n.delays r
      if no != 0 then n.refuseRequest r code no g.reqAt g.reqOwn
      else if late != 0 then (n.regCount r 2).refuseRequest r code late g.reqAt g.reqOwn
      else n.grant r code) n

/-- `POWER_DELAY_EXPIRY` (17 R479). -/
def execPowerDelayExpiry (r : Nat) (s : State) : Host.Outcome State Fault Refusal :=
  onNode s .tsu (s.tsu.hasRegion r) (fun n => delayExpiry r n.escrowFirst)

/-! ### The handshake -/

/-- `ra_pwr_rdy` rises on the way into DOZE or falls on the way out of it: the state changes on the tick after (17 R480, R481). -/
def rdyChange (r : Nat) (high : Bool) (n : Node) : Node :=
  let g := n.regionOf r
  when ((g.phase == 1 && high) || (g.phase == 4 && !high)) (fun n => n.modRegion r (fun g => { g with phase := 9, phaseAt := n.tb1 })) n

/-- `PWR_RDY_CHANGE` (17 R480, R481). -/
def execPwrRdyChange (r : Nat) (high : Bool) (s : State) : Host.Outcome State Fault Refusal :=
  onNode s .tsu (s.tsu.hasRegion r) (rdyChange r high)

/-- Cause 0x82: the stage, whether a request or the ladder ran, and the limit (17 R503). -/
def Node.stageFault (n : Node) (r stage by_ limit : Nat) : Node :=
  (n.regCount r 4).regionFault 0x82 r 0 (put 79 72 stage + put 71 64 by_ + put 63 0 limit)

/-- No change of `ra_pwr_rdy` within the handshake limit: into DOZE the region stays ACTIVE, out of DOZE it enters the ladder at rung 3
(17 R480, R481). -/
def handshakeLimit (r : Nat) (n : Node) : Node :=
  let g := n.regionOf r
  let limit := n.rd (Ob.reg_handshakeLimit r)
  when ((g.phase == 1 || g.phase == 4) && g.phaseAt + limit ≤ n.tb1) (fun n =>
    let n1 := n.stageFault r 5 1 limit
    if g.phase == 1 then n1.modRegion r (fun g => { g with pwrGo := false, phase := 0 })
    else ((n1.modRegion r (fun g => { g with phase := 0 })).ladderOpen r 0x82 63).rung3 r 1) n

/-- A change of `ra_pwr_rdy` of the region waits on the tick. -/
def State.handshakes (s : State) (r : Nat) : Bool := s.waits (fun i => match i with | .pwrRdyChange q _ => q == r | _ => false)

/-- `HANDSHAKE_LIMIT_EXPIRY` (17 R480): a change on the tick comes first. -/
def execHandshakeLimitExpiry (r : Nat) (s : State) : Host.Outcome State Fault Refusal :=
  onNode s .tsu (s.tsu.hasRegion r && !s.handshakes r) (handshakeLimit r)

/-- Power-good falls as a grant, a forced fence or the ladder asked for (14 R397; 17 R480). -/
def pgoodFell (r : Nat) (n : Node) : Node :=
  let g := n.regionOf r
  if !g.pgood then n
  else if g.phase == 2 || g.phase == 3 then (n.pgFall r).enterLow r
  else if g.phase == 6 then
    (n.pgFall r).modRegion r (fun g => { g with phase := if g.ladder == 3 then 8 else 0, phaseAt := n.tb1 })
  else n

/-- `PGOOD_FALL_GRANTED` (17 R480). -/
def execPgoodFallGranted (r : Nat) (s : State) : Host.Outcome State Fault Refusal := onNode s .tsu (s.tsu.hasRegion r) (pgoodFell r)

/-- Power-good has not fallen in time: cause 0x82 and every enable low; after a second limit rung 4, for a reason that 14 R405 does not
list (17 R480). -/
def pgoodLimit (r : Nat) (n : Node) : Node :=
  let g := n.regionOf r
  let limit := ticksOfUs (n.rd (Ob.reg_powerGoodFallLimit r))
  when ((g.phase == 2 || g.phase == 3) && g.pgood && g.phaseAt + limit ≤ n.tb1) (fun n =>
    if g.phase == 2 then
      (n.stageFault r 4 1 limit).modRegion r (fun g => { g with puEn := 0, ret := false, phase := 3, phaseAt := n.tb1 })
    else
      let (f, n1) := n.takeFree
      n1.rung4 r f) n

/-- `PGOOD_FALL_LIMIT_EXPIRY` (17 R480). -/
def execPgoodFallLimitExpiry (r : Nat) (s : State) : Host.Outcome State Fault Refusal := onNode s .tsu (s.tsu.hasRegion r) (pgoodLimit r)

/-! ### The power-up order -/

/-- Limit of a stage in ticks (17 R483). -/
def Node.stageLimit (n : Node) (r k : Nat) : Nat := ticksOfUs (fieldAt (n.rd (Ob.reg_stageLimits r)) (4 * k) 4)

/-- A stage's ready, within its limit, completes it and starts the next by raising its enable; from RETAIN the memory's is high already and is
lowered for one tick. The regulator's ready comes with power-good (17 R483, R484). -/
def stageReady (r : Nat) (n : Node) : Node :=
  let g := n.regionOf r
  when (g.phase == 5 && n.tb1 ≤ g.phaseAt + n.stageLimit r g.stage) (fun n =>
    let n1 := if g.stage == 0 then n.pgRise r else n
    n1.modRegion r (fun g =>
      if g.stage == 3 then { g with phase := 7, phaseAt := n.tb1 }
      else { g with stage := g.stage + 1, phaseAt := n.tb1, puEn := if g.stage == 1 && bit g.puEn 2 then g.puEn - 4 else g.puEn ||| 2 ^ (g.stage + 1) })) n

/-- `POWER_STAGE_READY` (17 R483). -/
def execPowerStageReady (r : Nat) (s : State) : Host.Outcome State Fault Refusal := onNode s .tsu (s.tsu.hasRegion r) (stageReady r)

/-- A stage passes its limit: cause 0x82; a requested power-up leaves the region OFF with every enable low, in rung 3 rung 4 follows
(17 R484). -/
def stageTimeout (r : Nat) (n : Node) : Node :=
  let g := n.regionOf r
  let limit := n.stageLimit r g.stage
  when (g.phase == 5 && g.phaseAt + limit ≤ n.tb1) (fun n =>
    if g.ladder == 3 then (n.stageFault r g.stage 2 limit).rung4 r (n.cycleLoss r)
    else
      ((n.stageFault r g.stage 1 limit).modRegion r (fun g => { g with puEn := 0, ret := false, iso := 255, phase := n.fallPhase g })).setRegion
        r 3) n

/-- `POWER_STAGE_TIMEOUT` (17 R484): a ready on the tick comes first. -/
def execPowerStageTimeout (r : Nat) (s : State) : Host.Outcome State Fault Refusal :=
  onNode s .tsu (s.tsu.hasRegion r && !s.readies r) (stageTimeout r)

end Sys2Proof.Machine
end

