-- ==== Sys2Proof/Machine/Start.lean ====
section
/-! DEFINITION. The Vault, sleep and the start-up of a TSU; configuration images (17 R487 to R493; 18 R513, R514). -/

namespace Sys2Proof.Machine

/-! ### Records and images -/

/-- A record of the Vault or of an image: object, kind and data (17 R487). -/
structure CfgRec where
  obj : Nat
  kind : Nat
  data : List Nat
  deriving DecidableEq, Repr

/-- The records of a body; none when the bytes are not whole records (17 R487, R492). -/
def parseRecs : Nat → List Nat → Option (List CfgRec)
  | 0, _ => none
  | fuel + 1, b =>
    if b.isEmpty then some []
    else if b.length < 8 then none
    else
      let h := leVal (b.take 8)
      let len := fieldAt h 4 2
      let full := (len + 7) / 8 * 8
      let rest := b.drop 8
      if rest.length < full then none
      else (parseRecs fuel (rest.drop full)).map (fun l =>
        { obj := oidOf (fieldAt h 0 2) (fieldAt h 2 1), kind := fieldAt h 3 1, data := rest.take len } :: l)

/-- Image generation of an image. -/
def imgGen (b : List Nat) : Nat := leVal ((b.drop 4).take 4)
/-- Body length of an image. -/
def imgLen (b : List Nat) : Nat := leVal ((b.drop 8).take 4)
/-- Body of an image. -/
def imgBody (b : List Nat) : List Nat := (b.drop 64).take (imgLen b)

/-- The header of an image is valid (17 R492). -/
def Node.imgHeaderOk (n : Node) (b : List Nat) : Bool :=
  decide (64 ≤ b.length) && leVal (b.take 2) == 1 && b.getD 2 0 == n.rd Ob.idn_nodeKind && decide (imgLen b ≤ 4194304) && decide (64 + imgLen b ≤ b.length)

/-- A value enters its object from an image, the Vault or flash, without its reserved bits; the settings of an output are in force with it, and
a Region Agent starts with entry 0 of its period table (00 R12; 05 R148; 07 R201). -/
def Node.restored (n : Node) (o v : Nat) : Node :=
  let idx := o / 256
  let sub := o % 256
  let v1 := keepBits o v
  let n1 := n.wr o v1
  let set := fun (p : PulseSt) => { p with now := p.now.written [(0, sub, v1)] }
  if Nat.ble 0xB040 idx && Nat.blt idx 0xB046 && Nat.ble sub 4 then n1.modOut (idx - 0xB040) set
  else if Nat.ble 0x2840 idx && Nat.blt idx 0x2844 && Nat.ble sub 4 then n1.modPulse (idx - 0x2840) set
  else if Nat.ble 0xD000 idx && Nat.blt idx 0xD400 && sub == 7 then n1.wr (Ob.agent_period (idx - 0xD000)) (v1 % 2 ^ 32)
  else n1

/-- A record's value enters its object; the length of the core map goes with it (13 R381). -/
def Node.loadRec (n : Node) (r : CfgRec) : Node :=
  let n1 := n.restored r.obj (leVal r.data % 2 ^ widthOf n.kind r.obj)
  if r.obj == Ob.det_coreMap then n1.modKey (fun k => { k with coreLen := r.data.length }) else n1

/-- A recomputation of the Conformance Key starts for every input that what was loaded has changed (13 R363). -/
def Node.keyInputs (n : Node) : Node := overAll (upTo 7) (fun n b => keyRecompute b n) n

/-- What a placed Viaduct cell reports of its regions, depth or width is what the record gives (18 R522). -/
def placedAs (o v : Nat) : Bool :=
  !(Nat.ble 0xD800 (o / 256) && Nat.ble 1 (o % 256) && Nat.ble (o % 256) 3) || v == Config.placedCell (o / 256 - 0xD800) (o % 256)

/-- A record names an object that the unit holds, with a length and a value that its description allows and that the placed cell reports
(17 R492; 18 R522, R528). -/
def Node.recOk (n : Node) (r : CfgRec) : Bool :=
  let sized := if r.obj == Ob.det_coreMap then decide (1 ≤ r.data.length) && decide (r.data.length ≤ 65536) else 8 * r.data.length == widthOf n.kind r.obj
  n.hasObj r.obj && sized && n.valueOk r.obj (leVal r.data) && (n.isHub || placedAs r.obj (leVal r.data)) && !(r.obj == Ob.bus_regionAgents && n.kind == .edge && leVal r.data != 1)

/-- Every record of an image applied. -/
def Node.loadAll (n : Node) (l : List CfgRec) : Node := overAll l Node.loadRec n

/-- The refusal kind of an image, 0 when it is accepted: 1 no answer, 2 header, 3 digest, 4 a record (17 R492). -/
def Node.imageCheck (n : Node) (b : List Nat) : Nat :=
  if b.isEmpty then 1
  else if !n.imgHeaderOk b then 2
  else if blake3 (imgBody b) != leVal ((b.drop 32).take 32) then 3
  else match parseRecs (imgLen b + 1) (imgBody b) with
    | none => 4
    | some l => if l.all (n.loadAll l).recOk then 0 else 4

/-- The records of an accepted image. -/
def imageRecs (b : List Nat) : List CfgRec := (parseRecs (imgLen b + 1) (imgBody b)).getD []

/-- An image refused: cause 0x9A (17 R492, R503). -/
def Node.imageFault (n : Node) (kind : Nat) (b : List Nat) : Node := n.fault { cause := 0x9A, detail := put 79 72 kind + put 63 32 (imgGen b) }

/-! ### The Vault -/

/-- Bytes used in the record area (17 R487, R489). -/
def Node.vaultUsed (n : Node) : Nat :=
  ((n.vault.recs.filter (fun r => r.2.1 != 2)).map (fun r => recBytes (n.sizeOf r.1))).sum + n.savedBytes

/-- The kind-1 record of an object, when its value is not the default (17 R488). -/
def Node.putVault (n : Node) (o : Nat) : Node :=
  let rest := n.vault.recs.filter (fun r => !(r.1 == o && r.2.1 == 1))
  let v := n.rd o
  n.modVault (fun x =>
    { x with
      recs := if v == dfltOf n.kind o then rest else rest ++ [(o, 1, v)]
      gen := n.start.imageGen })

/-- The Vault does not hold what it should of an RWS object (17 R488). -/
def Node.vaultDue (n : Node) (o : Nat) : Bool :=
  let v := n.rd o
  rwsObj n.kind o && ((n.vault.recs.find? (fun r => r.1 == o && r.2.1 == 1)).map (fun r => r.2.2)) != (if v == dfltOf n.kind o then none else some v)

/-- The record of an RWS object is written or removed (17 R488); an empty Vault becomes persistent only. -/
def vaultThrough (o : Nat) (n : Node) : Node :=
  when (n.vaultDue o) (fun n =>
    let n1 := n.putVault o
    if n1.rd Ob.vlt_vaultState == 0 then n1.wr Ob.vlt_vaultState 1 else n1) n

/-- `VAULT_WRITE_THROUGH` (17 R488). -/
def execVaultWriteThrough (obj : Nat) (s : State) : Host.Outcome State Fault Refusal := onNode s .tsu true (vaultThrough obj)

/-! ### Sleep -/

/-- Objects that sleep saves as kind-2 records (17 R489). -/
def sleepObjs : List Nat :=
  ([0, 2, 3, 4, 5, 6, 7].flatMap (fun k => [Ob.tb_mode k, Ob.tb_increment k, Ob.tb_slewRate k])) ++
  [Ob.hall_hallAnchor, Ob.det_engineFirmwareVersion, Ob.aud_temperatureBand, Ob.aud_loadClasses, Ob.aud_fenceMask]

/-- Both lanes go DARK and are held there, their enables unchanged (17 R489). -/
def Node.holdDark (n : Node) : Node := (overAll [0, 1] (fun n p => if n.lst p == 0 then n else n.setLink p 0) n).modStart (fun s => { s with darkHold := true })

/-- `tsu_sleep_req` rises: the span instance ends, the lanes go DARK, the records are saved and `tsu_sleep_ack` rises (17 R489). -/
def sleepRequest (n : Node) : Node :=
  let n1 := n.endInstance.holdDark
  let regions := (upTo n1.regionCount).map (fun r => (r, n1.rst r))
  ((n1.modVault (fun x =>
    { x with
      recs := x.recs.filter (fun r => r.2.1 != 2) ++ sleepObjs.map (fun o => (o, 2, n1.rd o))
      regions := regions, gen := n1.start.imageGen, saveTick := n1.tb1, checkOk := true, sleepAck := true })).wr Ob.vlt_vaultState 2).bump Ob.vlt_saves

/-- `SLEEP_REQUEST` (17 R489). -/
def execSleepRequest (s : State) : Host.Outcome State Fault Refusal := onNode s .tsu true sleepRequest

/-- `tsu_sleep_req` falls: the records stay and the lanes restart under their enables (17 R489). -/
def sleepWithdraw (n : Node) : Node :=
  when n.vault.sleepAck (fun n =>
    let n1 := (n.modVault (fun x => { x with sleepAck := false })).modStart (fun s => { s with darkHold := false })
    overAll [0, 1] (fun n p => if n.rd (Ob.link_enable p) == 0 then n else n.modLink p (fun l => { l with restart := some n.tb1 })) n1) n

/-- `SLEEP_WITHDRAW` (17 R489). -/
def execSleepWithdraw (s : State) : Host.Outcome State Fault Refusal := onNode s .tsu true sleepWithdraw

/-! ### Start-up of a TSU -/

/-- `tsu_rst_n` rises: the TSU starts its stages; the Vault keeps what it holds, and the regions are without supply, but for the host part of an
Edge TSU, whose power-good is tied high (17 R487, R491; 18 R523). -/
def Node.tsuReset (n : Node) : Node :=
  { ({ kind := n.kind } : Node) with fresh := n.fresh, vault := { n.vault with sleepAck := false }
                                     regions := if n.kind == .edge then [(0, { pgood := true })] else []
                                     objs := storeSet (dfltOf n.kind Ob.vlt_vaultState) [] Ob.vlt_vaultState (n.rd Ob.vlt_vaultState) }

/-- `TSU_RESET` (17 R491). -/
def execTsuReset (s : State) : Host.Outcome State Fault Refusal := onNode s .tsu true Node.tsuReset

/-- A stage ends: its tick is kept and the next state starts (17 R491, R505). -/
def Node.stageEnd (n : Node) (next : Nat) : Node :=
  let k := n.rd Ob.su_startUpState
  ((n.wrBits Ob.su_startUpRecord (64 * k) 64 n.tb1).wr Ob.su_startUpState next).modStart (fun s => { s with stageAt := n.tb1 })

/-- Stage 0: the fuse words are loaded and the first key is formed (17 R491, 18 R513, 13 R362, R363). -/
def Node.fuseStage (n : Node) (b : List Nat) : Node :=
  let word := fun (i : Nat) => leVal ((b.drop (4 * i)).take 4)
  let len := min 1007 (word 16 % 1024)
  let table := (upTo (4 * len)).map (fun i => b.getD (68 + i) 0)
  let n1 := ((n.wr Ob.idn_uniqueNumber (word 0 + word 1 * 2 ^ 32)).wr Ob.idn_stepping (word 2 % 65536)).wr Ob.idn_integrator (word 3)
  ((n1.wr Ob.det_fuseSettingsDigest (blake3 table)).setKey).stageEnd 1

/-- Stage 1: a Vault whose check fails is empty, with cause 0x83; the saved region states are restored (17 R490). -/
def Node.vaultStage (n : Node) : Node :=
  let n1 :=
    if n.vault.checkOk then n
    else ((n.modVault (fun x => { x with recs := [], regions := [], gen := 0, saveTick := 0, checkOk := true })).wr Ob.vlt_vaultState 0).fault
      { cause := 0x83, detail := put 79 72 1 }
  let held := n1.vault.regions
  let n2 := overAll (held.filter (fun r => r.2 == 4 || r.2 == 5)) (fun n r => n.setRegion r.1 r.2) n1
  (n2.modStart (fun s => { s with toWake := (held.filter (fun r => r.2 ≤ 1)).map (·.1) })).stageEnd 2

/-- A kind-2 record of a start-up: the hall anchor is applied as an anchor write, a time base setting as it stands (17 R490). -/
def Node.restoreRec (n : Node) (r : Nat × Nat × Nat) : Node :=
  if r.1 == Ob.hall_hallAnchor then { anchorWrite r.2.2 n with answers := n.answers, objs := ((anchorWrite r.2.2 n).wr Ob.acc_registerPortStatus (n.rd Ob.acc_registerPortStatus)).objs }
  else n.restored r.1 r.2.2

/-- After the image: the kind-1 records unless the image generation differs, the kind-2 records, and the power-ups marked in stage 1
(17 R490). -/
def Node.vaultApply (n : Node) : Node :=
  let same := n.vault.gen == n.start.imageGen
  let ones := n.vault.recs.filter (fun r => r.2.1 == 1)
  let twos := n.vault.recs.filter (fun r => r.2.1 == 2)
  let n1 := if same then overAll ones (fun n r => n.restored r.1 r.2.2) n else n
  let n2 := overAll twos Node.restoreRec n1
  let any := !ones.isEmpty || !twos.isEmpty
  let n3 := n2.modVault (fun x => { x with recs := if same then ones else [], regions := [], gen := n.start.imageGen })
  let n4 := if any then (n3.wr Ob.vlt_vaultState 1).bump Ob.vlt_restores else n3
  (overAll n.start.toWake (fun n r => n.startUp r) n4).modStart (fun s => { s with toWake := [] })

/-- Stage 2: the image is applied whole, and the Agents of its regions report their bypass (07 R201), or refused; refused, the TSU is unconfigured with its lanes held DARK (17 R491 to R493). -/
def Node.configStage (n : Node) (b : List Nat) : Node :=
  let why := n.imageCheck b
  if why != 0 then (n.imageFault why b).stageEnd 4
  else
    let n1 := ((n.loadAll (imageRecs b)).wr Ob.su_imageHeader (leVal (b.take 64))).modStart (fun s => { s with imageGen := imgGen b })
    (overAll (upTo n1.regionCount) Node.bypassShow n1).vaultApply.keyInputs.stageEnd 3

/-- Stage 3: ready; the lanes follow their enables (17 R491). -/
def Node.readyStage (n : Node) : Node :=
  if n.start.ready then n else (n.stageEnd 3).modStart (fun s => { s with ready := true, darkHold := false })

/-- A start-up stage completes: the fuse words in stage 0, the bytes of the fetch port in stage 2, none when it does not answer (17 R491,
R492). An unconfigured TSU has no stage under way. -/
def tsuStage (img : List Nat) (n : Node) : Node :=
  let st := n.rd Ob.su_startUpState
  if st == 0 then n.fuseStage img
  else if st == 1 then n.vaultStage
  else if st == 2 then n.configStage img
  else if st == 3 then n.readyStage
  else n

/-- `TSU_STARTUP_STAGE_DONE` (17 R491). -/
def execTsuStartupStageDone (img : List Nat) (s : State) : Host.Outcome State Fault Refusal := onNode s .tsu true (tsuStage img)

/-- Command 1: the configuration is fetched again; refused unless the state is 4 (17 R493, R505). -/
def configRefetch (n : Node) : Node :=
  n.accept (n.rd Ob.su_startUpState == 4) (fun n => (n.wr Ob.su_startUpState 2).modStart (fun s => { s with stageAt := n.tb1 }))

/-- `CONFIG_REFETCH` (17 R493). -/
def execConfigRefetch (s : State) : Host.Outcome State Fault Refusal := onNode s .tsu true configRefetch

/-- Limit and code of a start-up stage: of a TSU (17 R491), of a hub (17 R499). -/
def stageCode (hub : Bool) (st : Nat) : Option (Nat × Nat) :=
  if hub then (if st == 0 then some (1562500, 8) else if st == 1 then some (781250000, 9) else if st == 2 then some (156250000, 10) else none)
  else (if st ≤ 1 then some (65536, 11) else if st == 2 then some (156250000, 12) else none)

/-- A start-up stage passes its limit: cause 0x82 with its code, once; a hub whose firmware does not run yet keeps the record until it does
(17 R491, R499). Neither a request nor the ladder runs, so that field is 0. -/
def startupTimeout (n : Node) : Node :=
  let st := if n.isHub then n.rd Ob.fw_startUpState else n.rd Ob.su_startUpState
  match stageCode n.isHub st with
  | none => n
  | some (limit, code) => when (n.start.stageAt + limit < n.tb1 && !n.start.told.contains st) (fun n =>
      let n1 := n.modStart (fun s => { s with told := st :: s.told })
      let detail := put 79 72 code + put 63 0 limit
      if n1.isHub && st ≤ 1 then n1.modHpwr (fun h => { h with latent := h.latent ++ [(0x82, detail)] })
      else n1.fault { cause := 0x82, detail := detail }) n

/-- `STARTUP_STAGE_TIMEOUT` (17 R491, R499). -/
def execStartupStageTimeout (u : Who) (s : State) : Host.Outcome State Fault Refusal := onNode s u true startupTimeout

end Sys2Proof.Machine
end

