-- ==== Sys2Proof/Machine/Functions.lean ====
section
/-! DEFINITION. Functions that drain and retire (16 R460 to R464). -/

namespace Sys2Proof.Machine

/-- Functions of a unit: 9 on a TSU, 6 on a hub (16 R461, R462). -/
def Node.fnCount (n : Node) : Nat := if n.isHub then 6 else 9

/-- Committed census actions whose tick has not come (16 R461). -/
def Node.censusActions (n : Node) : Nat :=
  (((n.bus.placed ++ n.bus.known).filter (fun a => a.op == 4 && n.tb1 ≤ a.tick0)).map (·.tick0)).eraseDups.length

/-- Operations in flight of a TSU function (16 R461). -/
def Node.inFlightTsu (n : Node) (f : Nat) : Nat :=
  if f == 0 then ((upTo n.ctxCount).filter (fun c => 1 ≤ n.rd (Ob.ctx_escrowState c) && n.rd (Ob.ctx_escrowState c) ≤ 3)).length
  else if f == 1 then n.tally.waits.length
  else if f == 2 then n.unmet
  else if f == 3 then (n.clr.issues.filter Issue.live).length + n.clr.dieAccs.length + n.clr.defAccs.length
  else if f == 4 then n.mint.lanes.length + n.mint.nodes.length
  else if f == 5 then (n.jrnl.pend.filter JRec.open).length
  else if f == 6 then ((upTo 8).map (fun i => (n.capOf i).recs.length + (n.capOf i).inflight.length)).sum
  else if f == 7 then ((upTo 4).map (fun k => (n.pulseOf k).placed.length)).sum
  else n.censusActions

/-- Active slots of a hub (11 R317). -/
def Node.activeSlots (n : Node) : Nat := (n.htal.filter (fun e => cfgActive e.2.cfg)).length

/-- Active engines of a hub (12 R355). -/
def Node.activeEngines (n : Node) : Nat := ((upTo 16).filter (fun e => engActive (n.rd (Ob.eng_configuration e)))).length

/-- Operations in flight of a hub function (16 R462); a record is stored on the tick that takes it, so none is ever being stored. -/
def Node.inFlightHub (n : Node) (f : Nat) : Nat :=
  if f == 0 then ((upTo 256).filter n.headRuns).length
  else if f == 1 then n.activeSlots
  else if f == 2 then n.activeEngines
  else if f == 3 then 0
  else if f == 4 then ofB (n.rd Ob.rpl_replayState == 1)
  else n.census.latchAt.length

/-- Object 0x1100+f.04 (16 R471). -/
def Node.fnInFlight (n : Node) (f : Nat) : Nat := if n.isHub then n.inFlightHub f else n.inFlightTsu f

/-- A draining function with nothing in flight becomes DISABLED; a TSU asserts "function drained" (16 R460, R464). -/
def drained (f : Nat) (n : Node) : Node :=
  when (n.rd (Ob.fn_functionState f) == 1 && n.fnInFlight f == 0) (fun n => (n.wr (Ob.fn_functionState f) 2).irqEvent 0x132) n

/-- `FUNCTION_DRAINED` (16 R460). -/
def execFunctionDrained (u : Who) (f : Nat) (s : State) : Host.Outcome State Fault Refusal :=
  onNode s u (decide (f < (s.node u).fnCount)) (drained f)

/-- A write of 0: an ENABLED function drains; a change to DISABLED that falls on the tick comes first (16 R460). -/
def fnDisable (f : Nat) (n : Node) : Node :=
  n.rwsWrite true (Ob.fn_enable f) 0 (fun n =>
    let n1 := (drained f n).wr (Ob.fn_enable f) 0
    if n1.fnEnabled f then (n1.wr (Ob.fn_functionState f) 1).wr (Ob.fn_drainStart f) n.tb1 else n1)

/-- `FUNCTION_DISABLE` (16 R460). -/
def execFunctionDisable (u : Who) (f : Nat) (s : State) : Host.Outcome State Fault Refusal :=
  onObj s u (decide (f < (s.node u).fnCount)) (fnDisable f)

/-- A write of 1: the function is ENABLED, and nothing is retired (16 R460). -/
def fnEnable (f : Nat) (n : Node) : Node :=
  n.rwsWrite true (Ob.fn_enable f) 1 (fun n => ((drained f n).wr (Ob.fn_enable f) 1).wr (Ob.fn_functionState f) 0)

/-- `FUNCTION_ENABLE` (16 R460). -/
def execFunctionEnable (u : Who) (f : Nat) (s : State) : Host.Outcome State Fault Refusal :=
  onObj s u (decide (f < (s.node u).fnCount)) (fnEnable f)

/-- An accumulator that the step in flight of its context does not use: none of its CLEAR entries names the handle (16 R461). -/
def Node.looseAcc (n : Node) (a : Acc) : Bool :=
  let st := n.rd (Ob.ctx_escrowState a.ctx)
  !(1 ≤ st && st ≤ 3 && (clearEntries (n.entries (n.ctxOf a.ctx).table)).any (fun e => fld e 79 76 == a.hnd))

/-- A chaining value of no step in flight (16 R461). -/
def Node.looseNode (n : Node) (x : MNode) : Bool := !(n.fired x.ctx && (n.ctxOf x.ctx).step == x.step)

/-- What a TSU function retires at the drain timeout, and how many operations (16 R461). -/
def Node.retireTsu (n : Node) (f : Nat) : Nat × Node :=
  if f == 1 then
    let hosts := n.tally.waits.filter (fun w => isHostUnit w.unit)
    (hosts.length, overAll hosts (fun n w => n.endWait w 2 4) n)
  else if f == 3 then
    let a := n.clr.dieAccs.filter n.looseAcc
    let b := n.clr.defAccs.filter n.looseAcc
    (a.length + b.length, n.modClr (fun k =>
      { k with dieAccs := k.dieAccs.filter (fun x => !n.looseAcc x), defAccs := k.defAccs.filter (fun x => !n.looseAcc x) }))
  else if f == 4 then
    let k := (n.mint.nodes.filter n.looseNode).length + (n.mint.lanes.filter (fun x => n.looseNode x.2)).length
    (k, n.modMint (fun m => { m with nodes := m.nodes.filter (fun x => !n.looseNode x), lanes := m.lanes.filter (fun x => !n.looseNode x.2) }))
  else if f == 5 then
    let k := (n.jrnl.pend.filter JRec.open).length
    (k, (n.modJrnl (fun j => { j with pend := j.pend.filter (fun r => !r.open) })).addTo Ob.det_recordsLost k)
  else if f == 6 then
    (n.inFlightTsu 6, overAll (upTo 8) (fun n i => n.modCap i (fun q => { q with recs := [], inflight := [] })) n)
  else if f == 7 then
    (n.inFlightTsu 7, overAll (upTo 4) (fun n k => n.modPulse k (fun o => { o with placed := [], high := false })) n)
  else (0, n)

/-- A bit of a configuration cleared. -/
def clearBit (x b : Nat) : Nat := if bit x b then x - 2 ^ b else x

/-- What a hub function retires at the drain timeout, and how many operations (16 R462). -/
def Node.retireHub (n : Node) (f : Nat) : Nat × Node :=
  let k := n.inFlightHub f
  if f == 0 then (k, overAll (upTo 256) Node.stopHead n)
  else if f == 1 then
    (k, { n with htal := n.htal.map (fun e => if cfgActive e.2.cfg then (e.1, { cfg := clearBit e.2.cfg 33 }) else e) })
  else if f == 2 then
    (k, overAll (upTo 16) (fun n e =>
      if engActive (n.rd (Ob.eng_configuration e)) then
        (n.wr (Ob.eng_configuration e) (clearBit (n.rd (Ob.eng_configuration e)) 32)).modEng e (fun _ => {})
      else n) n)
  else if f == 4 then (k, n.stopReplay)
  else if f == 5 then (k, n.modCensus (fun c => { c with latchAt := [] }))
  else (0, n)

/-- The drain timeout: the function retires its work; what it retires is counted and recorded with cause 0x99 (16 R464, R473). -/
def drainTimeout (f : Nat) (n : Node) : Node :=
  when (n.rd (Ob.fn_functionState f) == 1 && n.rd (Ob.fn_drainStart f) + ticksOfMs (n.rd (Ob.fn_drainTimeout f)) ≤ n.tb1) (fun n =>
    let (k, n1) := if n.isHub then n.retireHub f else n.retireTsu f
    if k == 0 then n1
    else (n1.addTo (Ob.fn_retired f) k).fault
      { cause := 0x99, obj := put 7 0 f, detail := put 79 64 (min k 65535) + put 63 0 (n.rd (Ob.fn_drainStart f)) }) n

/-- `DRAIN_TIMEOUT` (16 R464). -/
def execDrainTimeout (u : Who) (f : Nat) (s : State) : Host.Outcome State Fault Refusal :=
  onNode s u (decide (f < (s.node u).fnCount)) (drainTimeout f)

end Sys2Proof.Machine
end

