-- ==== Sys2Proof/Machine/Tap.lean ====
section
/-! DEFINITION. The test access port of the hub chip (18 R526): IEEE 1149.1 with `TRST_N` and the instructions BYPASS, IDCODE, SAMPLE/PRELOAD and
EXTEST. No command carries a test clock, so these operations stand for what the port's pins ask; what the standard gives and the specification
does not is log entry 250. -/

namespace Sys2Proof.Machine

/-- `TRST_N` low: IDCODE is in force, and the pins are the chip's own. -/
def Tap.reset (_ : Tap) : Tap := {}

/-- An instruction comes into force. -/
def Tap.load (t : Tap) (i : TapInstr) : Tap := { t with instr := i }

/-- The bits of a number from its lowest. -/
def bitList (k v : Nat) : List Bool := (List.range k).map (bit v)

/-- The register of the instruction in force is captured: one bit of 0 for BYPASS, the 32-bit identification code with its lowest bit 1 for IDCODE,
and the levels at the pins of the boundary for the others. The code is a free value. -/
def Tap.capture (t : Tap) (pins : List Bool) (code : Nat) : Tap :=
  { t with
    shift := match t.instr with
      | .bypass => [false]
      | .idcode => true :: bitList 31 code
      | .samplePreload => pins
      | .extest => pins }

/-- A test clock shifts the register: the bit that leaves at `TDO`, and the port after `TDI` has entered. -/
def Tap.clock (t : Tap) (tdi : Bool) : Bool × Tap := (t.shift.headD false, { t with shift := t.shift.drop 1 ++ [tdi] })

/-- The shifted bits are taken into the boundary cells, by the instructions that use them. -/
def Tap.update (t : Tap) : Tap :=
  match t.instr with
  | .samplePreload => { t with cells := t.shift }
  | .extest => { t with cells := t.shift }
  | .bypass => t
  | .idcode => t

/-- The levels of the boundary's pins: those of the cells under EXTEST, otherwise the chip's own. The span lanes and the `MGT` pins lie outside. -/
def Tap.drives (t : Tap) (own : List Bool) : List Bool := if t.instr == .extest then t.cells else own

/-- The test access port of a hub chip that comes up is reset. -/
def Node.tapReset (n : Node) : Node := n.modHpwr (fun h => { h with tap := h.tap.reset })

end Sys2Proof.Machine
end

