-- ==== Sys2Proof/Machine/Module.lean ====
section
/-! DEFINITION. Hub power states, start-up, firmware, flash and the module's housekeeping (17 R494 to R502; 18 R510, R527 to R534). -/

namespace Sys2Proof.Machine

/-! ### Power states -/

/-- A hub may leave ACTIVE: no span list entry, every port DARK with enable 0, not the root Keystone (17 R494). -/
def Node.mayRest (n : Node) : Bool :=
  n.spans.isEmpty && (upTo 68).all (fun p => n.lst p == 0 && n.rd (Ob.link_enable p) == 0) && !n.isRoot

/-- Power command 1: to SENTINEL, with the delay of the sentinel port kept (17 R494, R495). -/
def toSentinel (n : Node) : Node :=
  let p := n.rd Ob.pwr_sentinelPort
  n.accept (n.mayRest && n.rd (Ob.tport_exchanges p) != 0) (fun n =>
    let d := (n.rdS 64 (Ob.tport_roundTrip p) + n.rdS 32 (Ob.tport_asymmetry p)) / 2
    (n.wrS 64 Ob.pwr_sentinelDelay d).modHpwr (fun h => { h with state := 1, sentAt := n.tb1, pingAt := none, missRun := 0 }))

/-- `HUB_SENTINEL_COMMAND` (17 R494). -/
def execHubSentinelCommand (s : State) : Host.Outcome State Fault Refusal := onNode s .hub true toSentinel

/-- Power command 2: to OFF; the controller removes the chip supply (17 R494, R495). -/
def toOff (n : Node) : Node := n.accept n.mayRest (fun n => n.modHpwr (fun h => { h with state := 2, chipOn := false }))

/-- `HUB_OFF_COMMAND` (17 R494). -/
def execHubOffCommand (s : State) : Host.Outcome State Fault Refusal := onNode s .hub true toOff

/-- The offset a pong shows, in time units: less than 2^19 ticks from a multiple of 2^20 ticks (17 R496). -/
def pongOffset (t4 d : Int) : Int :=
  let m : Int := 2 ^ 36
  let x := (t4 - d) % m
  if x < 2 ^ 35 then x else x - m

/-- Wake steps of the sentinel record: the visits, the misses, the last offset and the last visit (17 R506). -/
def Node.visitCount (n : Node) (k : Nat) : Node := n.bumpBits Ob.pwr_sentinelRecord (32 * k) 32

/-- A pong: TB1 and the phase interpolator move by the offset, and the hub is acquiring (17 R496). -/
def Node.pong (n : Node) (stamp : Nat) : Node :=
  let theta := pongOffset stamp (n.rdS 64 Ob.pwr_sentinelDelay)
  let ticks := theta / 65536
  let steps := roundRat (((theta - ticks * 65536 : Int) : Rat) / 128)
  let n1 := n.stepTb1 ticks
  let n2 := (n1.wrS 64 Ob.time_phaseMoved (n1.rdS 64 Ob.time_phaseMoved + steps)).wrBits Ob.pwr_sentinelRecord 64 64 (ofS 64 theta)
  ((n2.wrBits Ob.pwr_sentinelRecord 208 16 steps.toNat).modHpwr (fun h => { h with pingAt := none, missRun := 0, sentAt := n2.tb1 })).setTimeState 1

/-- A visit without a pong: the third in a row makes the time state invalid (17 R496). -/
def Node.visitMiss (n : Node) : Node :=
  let n1 := (n.visitCount 1).modHpwr (fun h => { h with pingAt := none, missRun := h.missRun + 1, sentAt := n.tb1 })
  if 3 ≤ n1.hpwr.missRun then n1.setTimeState 0 else n1

/-- A sentinel visit: the ping, then its pong or the miss; `stamp` is the stamp of the pong's first edge, 0 without one (17 R496). -/
def visit (stamp : Nat) (n : Node) : Node :=
  when (n.hpwr.state == 1) (fun n =>
    match n.hpwr.pingAt with
    | none => when (n.hpwr.sentAt + ticksOfMs (n.rd Ob.pwr_sentinelInterval) ≤ n.tb1 && n.tb1 % 1048576 == 1048576 - 16384) (fun n =>
        ((n.visitCount 0).wrBits Ob.pwr_sentinelRecord 128 64 n.tb1).modHpwr (fun h => { h with pingAt := some n.tb1 })) n
    | some t =>
      if stamp != 0 && n.tb1 < t + 2097152 then n.pong stamp
      else when (t + 2097152 ≤ n.tb1) Node.visitMiss n) n

/-- `SENTINEL_VISIT` (17 R496). -/
def execSentinelVisit (stamp : Nat) (s : State) : Host.Outcome State Fault Refusal := onHub s true (visit stamp)

/-- A ping on a DARK port with sentinel service: the pong is due at a multiple of 2^20 (17 R497). -/
def answerPing (p periods : Nat) (n : Node) : Node :=
  when (n.lst p == 0 && n.rd (Ob.link_enable p) == 0 && n.rd (Ob.sent_sentinelService p) == 1 && decide (4 ≤ periods) && decide (periods ≤ 15) &&
      n.rd Ob.time_timeState == 2) (fun n =>
    n.modHpwr (fun h => { h with pongs := h.pongs ++ [(p, nextMul 1048576 (n.tb1 + 2048))] })) n

/-- `SENTINEL_PONG` (17 R497). -/
def execSentinelPong (p periods : Nat) (s : State) : Host.Outcome State Fault Refusal := onNode s .hub true (answerPing p periods)

/-- A hub wakes: 1 signal, 2 wake pattern, 3 housekeeping; the wake enables go to the ports (17 R498). -/
def wake (cause p : Nat) (n : Node) : Node :=
  when (n.hpwr.state == 1 && cause != 0) (fun n =>
    let en := n.rd Ob.pwr_wakeEnables
    let n1 := overAll (upTo 68) (fun n q => n.wr (Ob.link_enable q) (fieldAt en q 1)) n
    (n1.wrBits Ob.pwr_sentinelRecord 192 16 (cause + 256 * p)).modHpwr (fun h => { h with state := 0, pingAt := none })) n

/-- `SENTINEL_WAKE` (17 R498). -/
def execSentinelWake (cause p : Nat) (s : State) : Host.Outcome State Fault Refusal := onHub s true (wake cause p)

/-! ### Start-up -/

/-- A stage of a hub ends (17 R499). -/
def Node.hubStageEnd (n : Node) (next : Nat) : Node := (n.wr Ob.fw_startUpState next).modStart (fun s => { s with stageAt := n.tb1 })

/-- Stage 0: the fuses and the bay's memory. The bytes are the serial number U64, the stepping U16, the hardware revision U8, the bay slot U8,
four bytes of padding, the transmit and the receive constant I32 of each port, the output and the input path constants, and the asymmetry
constants I32 of `TW0` and `TW1` (17 R499; 18 R530, R537; 03 R77, R90). -/
def Node.hubFuses (n : Node) (b : List Nat) : Node :=
  let at_ := fun (i k : Nat) => leVal ((b.drop i).take k)
  let serial := at_ 0 8
  let n1 := ((n.wr Ob.idn_uniqueNumber serial).wr Ob.idn_stepping (at_ 8 2)).wr Ob.mdl_moduleIdentity
    (putField 0 8 serial + putField 8 1 (at_ 10 1) + putField 9 1 (at_ 11 1))
  let n2 := overAll (upTo 68) (fun n p =>
    (n.wr (Ob.tport_transmitConstant p) (at_ (16 + 8 * p) 4)).wr (Ob.tport_receiveConstant p) (at_ (20 + 8 * p) 4)) n1
  let n3 := (n2.wr Ob.mdl_outputPathConstants (at_ 560 24)).wr Ob.mdl_inputPathConstants (at_ 584 32)
  (overAll [0, 1] (fun n i => (n.wr (Ob.tport_asymmetry (66 + i)) (at_ (616 + 4 * i) 4)).wr (Ob.tport_calibration (66 + i)) 3) n3).hubStageEnd 1

/-- The records that waited for the firmware (17 R499; 18 R532, R534). -/
def Node.recordLatent (n : Node) : Node :=
  (overAll n.hpwr.latent (fun n r => n.fault { cause := r.1, detail := r.2 }) n).modHpwr (fun h => { h with latent := [] })

/-- Ask the twin for its firmware at an offset (17 R500). -/
def Node.askFirmware (n : Node) (off : Nat) : Node :=
  (n.sendTwin { typ := tTwin, cells := [put 127 124 4 + put 123 92 off] }).modHpwr (fun h => { h with fwAsked := some n.tb1 })

/-- The offset at which a twin reports the digest of its image (17 R500). -/
def digestOffset : Nat := 0xFFFFFFFF

/-- Stage 1: the firmware image is checked against its digest; a failed image is asked of the twin, again after a second (17 R499, R500). -/
def Node.firmwareStage (n : Node) : Node :=
  if blake3 n.hpwr.fwImg == n.hpwr.fwDig then
    (((n.modStart (fun s => { s with fwOk := true })).wr Ob.idn_version n.hpwr.fwVer).recordLatent).hubStageEnd 2
  else
    let n1 := n.modStart (fun s => { s with fwOk := false })
    let late := match n.hpwr.fwAsked with
      | some t => decide (t + tps ≤ n.tb1)
      | none => true
    if late then (n1.modHpwr (fun h => { h with recov := [] })).askFirmware digestOffset else n1

/-- The level and the position of a hub follow the identity its image gives it (01 R24, 02 R66). -/
def Node.placeHub (n : Node) : Node :=
  if n.ident == 0xFFFFF then n else { n with level := fld n.ident 19 18, arch := fld n.ident 17 12, pier := fld n.ident 11 6 }

/-- An accepted image and the stored RWS values under the rule of the image generation (17 R499, R490). -/
def Node.hubConfig (n : Node) (b : List Nat) : Node :=
  let n1 := ((n.loadAll (imageRecs b)).placeHub).modStart (fun s => { s with imageGen := imgGen b })
  let n2 := n1.modHpwr (fun h =>
    { h with cfgImg := b, cfgOk := true, flash := if h.flashGen == imgGen b then h.flash else [], flashGen := imgGen b })
  let n3 := overAll n2.hpwr.flash (fun n e => n.restored e.1 e.2) n2
  n3.modHpwr (fun h => { h with flash := n3.rwsHeld ++ h.flash.filter (fun e => n3.rd e.1 == dfltOf n3.kind e.1) })

/-- Stage 2: the image in flash, or the twin's with its plane field inverted (kind 5); without one every port but the twin lanes stays DARK
(17 R499, R492). -/
def Node.hubConfigStage (n : Node) (img : List Nat) : Node :=
  let own := n.hpwr.cfgImg
  let why := n.imageCheck own
  if why == 0 then (n.hubConfig own).hubStageEnd 3
  else
    let n1 := n.imageFault why own
    if n1.imageCheck img == 0 then ((n1.hubConfig img).imageFault 5 img).hubStageEnd 3 else n1.hubStageEnd 3

/-- A stage of a hub completes; `img` holds the fuses in stage 0 and the twin's image in stage 2 (17 R499). -/
def hubStage (img : List Nat) (n : Node) : Node :=
  let st := n.rd Ob.fw_startUpState
  if st == 0 then n.hubFuses img
  else if st == 1 then n.firmwareStage
  else if st == 2 then n.hubConfigStage img
  else if n.start.ready then n
  else n.modStart (fun s => { s with ready := true, darkHold := s.darkHold && !n.hpwr.cfgOk })

/-- `HUB_STARTUP_STAGE_DONE` (17 R499). -/
def execHubStartupStageDone (img : List Nat) (s : State) : Host.Outcome State Fault Refusal := onNode s .hub true (hubStage img)

/-- The hub starts the sequence of 17 R499: everything but its flash, its place and its causes not yet recorded is at reset. At power-up the plane-A
hub leads; a hub that restarts follows, and records the change of its lead (10 R274). -/
def Node.restartHub (n : Node) (powerUp : Bool) : Node :=
  let keep := [Ob.fla_eraseCounts, Ob.fla_highestCount, Ob.fla_wearFlag] ++ (if n.isKeystone then [Ob.epo_hallEpoch] else [])
  let n0 : Node :=
    { kind := n.kind, plane := n.plane, level := n.level, arch := n.arch, pier := n.pier, threeLevel := n.threeLevel, fresh := n.fresh
      lead := { leading := powerUp && n.plane == 0 }
      hpwr := { fwImg := n.hpwr.fwImg, fwDig := n.hpwr.fwDig, fwVer := n.hpwr.fwVer, cfgImg := n.hpwr.cfgImg, flash := n.hpwr.flash
                flashGen := n.hpwr.flashGen, latent := n.hpwr.latent, partnerReq := n.hpwr.partnerReq, button := n.hpwr.button
                tap := n.hpwr.tap }
      access := { ops := n.access.ops.map (fun e => (e.1, { key := e.2.key, stored := e.2.stored })) } }
  let n1 := (overAll keep (fun x o => x.wr o (n.rd o)) n0).seqsAfterRestart
  if !powerUp && n.lead.leading then n1.fault { cause := 0x35, detail := put 79 72 2 + put 63 0 n.tb1 } else n1

/-! ### Firmware -/

/-- Update op 1: the length and the digest (17 R500). -/
def updateBegin (len dig : Nat) (n : Node) : Node :=
  n.accept true (fun n => (n.wr Ob.fw_updateState 1).modHpwr (fun h => { h with segs := [], updLen := len, updDig := dig }))

/-- `FIRMWARE_UPDATE_BEGIN` (17 R500). -/
def execFirmwareUpdateBegin (len dig : Nat) (s : State) : Host.Outcome State Fault Refusal := onNode s .hub true (updateBegin len dig)

/-- The selected segment is written: 65,536 bytes, while an update receives (17 R500). -/
def segmentWrite (data : List Nat) (n : Node) : Node :=
  if data.length != 65536 then n.answer 4
  else n.accept (n.rd Ob.fw_updateState == 1) (fun n =>
    let k := n.rd Ob.fw_segmentSelect
    n.modHpwr (fun h => { h with segs := h.segs.filter (fun e => e.1 != k) ++ [(k, data)] }))

/-- `FIRMWARE_SEGMENT_WRITE` (17 R500). -/
def execFirmwareSegmentWrite (data : List Nat) (s : State) : Host.Outcome State Fault Refusal := onNode s .hub true (segmentWrite data)

/-- The bytes of a segment; one that was not written holds a free value. -/
def Node.addSegment (x : List Nat × Node) (k : Nat) : List Nat × Node :=
  match x.2.hpwr.segs.find? (fun e => e.1 == k) with
  | some e => (x.1 ++ e.2, x.2)
  | none => (x.1 ++ leBytes 65536 x.2.takeFree.1, x.2.takeFree.2)

/-- A firmware image enters flash; the version it carries is its own (a free value: log entry 167). -/
def Node.storeFirmware (n : Node) (img : List Nat) (dig : Nat) : Node :=
  let x := n.takeFree
  x.2.modHpwr (fun h => { h with fwImg := img, fwDig := dig, fwVer := 0x00010000 + x.1 % 256 * 256 })

/-- Update op 2: the image is written to flash and checked (17 R500). -/
def updateCommit (n : Node) : Node :=
  n.accept (n.rd Ob.fw_updateState == 1) (fun n =>
    let x := (upTo ((n.hpwr.updLen + 65535) / 65536)).foldl Node.addSegment ([], n)
    let img := x.1.take n.hpwr.updLen
    let n1 := (x.2.storeFirmware img n.hpwr.updDig).modHpwr (fun h => { h with segs := [] })
    n1.wr Ob.fw_updateState (if blake3 img == n.hpwr.updDig then 0 else 3))

/-- `FIRMWARE_UPDATE_COMMIT` (17 R500). -/
def execFirmwareUpdateCommit (s : State) : Host.Outcome State Fault Refusal := onNode s .hub true updateCommit

/-- Update op 3: the update is abandoned (17 R506). -/
def updateAbandon (n : Node) : Node :=
  n.accept true (fun n => (n.wr Ob.fw_updateState 0).modHpwr (fun h => { h with segs := [], updLen := 0, updDig := 0 }))

/-- `FIRMWARE_UPDATE_ABANDON` (17 R506). -/
def execFirmwareUpdateAbandon (s : State) : Host.Outcome State Fault Refusal := onNode s .hub true updateAbandon

/-- The next piece of the twin's image, or the end: checked against the reported digest, written, and the hub restarts with cause 0x9B
(17 R500, R503). -/
def Node.recoverNext (n : Node) (off : Nat) : Node :=
  let len := n.hpwr.fwImg.length
  let next := if off == digestOffset then 0 else off + 96
  if next < len then n.askFirmware next
  else
    let piece := fun (k : Nat) => match n.hpwr.recov.find? (fun e => e.1 == 96 * k) with
      | some e => e.2
      | none => []
    let img := ((upTo ((len + 95) / 96)).flatMap piece).take len
    let dig := match n.hpwr.recov.find? (fun e => e.1 == digestOffset) with
      | some e => leVal (e.2.take 32)
      | none => 0
    if img.length == len && blake3 img == dig then
      let n1 := n.storeFirmware img dig
      (n1.modHpwr (fun h => { h with recov := [], latent := h.latent ++ [(0x9B, put 79 72 1 + put 63 32 h.fwVer)] })).restartHub false
    else (n.modHpwr (fun h => { h with recov := [] })).askFirmware digestOffset

/-- A TWIN reply of kind 5 while the firmware in flash has failed its check: 96 bytes at an offset (17 R500). -/
def twinRecovery (p : Nat) (n : Node) : Node :=
  n.onMsg p (isTwinKind 5) (fun m n =>
    when (n.rd Ob.fw_startUpState == 1 && !n.start.fwOk) (fun n =>
      let off := fld m.head 123 92
      (n.modHpwr (fun h => { h with recov := h.recov.filter (fun e => e.1 != off) ++ [(off, payloadBytes m 96)] })).recoverNext off) n)

/-- `FIRMWARE_TWIN_RECOVERY` (17 R500). -/
def execFirmwareTwinRecovery (p : Nat) (s : State) : Host.Outcome State Fault Refusal := onNode s .hub true (twinRecovery p)

/-- A TWIN request of kind 4 is answered with 96 bytes of the image, or with its digest (17 R500). -/
def twinFirmware (p : Nat) (n : Node) : Node :=
  n.onMsg p (isTwinKind 4) (fun m n =>
    let off := fld m.head 123 92
    let b := if off == digestOffset then leBytes 32 n.hpwr.fwDig else (n.hpwr.fwImg.drop off).take 96
    n.sendTwin { typ := tTwin, cells := (put 127 124 5 + put 123 92 off) :: payloadCells (b ++ List.replicate (96 - b.length) 0) })

/-- `TWIN_FIRMWARE_REQUEST` (17 R500). -/
def execTwinFirmwareRequest (p : Nat) (s : State) : Host.Outcome State Fault Refusal := onNode s .hub true (twinFirmware p)

/-! ### Background work -/

/-- The flash does not hold the value of an RWS object (17 R502). -/
def Node.flashDue (n : Node) (o : Nat) : Bool := rwsObj n.kind o && assoc (dfltOf n.kind o) n.hpwr.flash o != n.rd o

/-- The RWS values waiting for flash (17 R506, object 0x9A00.04). -/
def Node.flashWaiting (n : Node) : Nat :=
  ((n.rwsHeld.map (·.1) ++ n.hpwr.flash.map (·.1)).eraseDups.filter n.flashDue).length

/-- The least time between two writes of an object to flash: a minute with the wear flag set, and an hour for the DAC word (17 R502, 05 R141). -/
def Node.flashRest (n : Node) (obj : Nat) : Nat :=
  if obj == Ob.ref_dacWord then 3600 * tps else if n.rd Ob.fla_wearFlag == 1 then 60 * tps else 0

/-- A changed RWS value goes to flash: a sector is erased and counted; with the wear flag set each object goes at most once per minute, and the
DAC word at most once per hour (17 R502, 05 R141). -/
def flashWrite (obj : Nat) (n : Node) : Node :=
  let rested := match n.hpwr.lastFlash.find? (fun e => e.1 == obj) with
    | some e => n.flashRest obj == 0 || decide (e.2 + n.flashRest obj ≤ n.tb1)
    | none => true
  when (n.flashDue obj && rested) (fun n =>
    let x := n.takeFree
    let sector := x.1 % 1024
    let count := fieldAt (n.rd Ob.fla_eraseCounts) (4 * sector) 4 + 1
    let n1 := x.2.wrBits Ob.fla_eraseCounts (32 * sector) 32 count
    let n2 := if n1.rd Ob.fla_highestCount < count then n1.wr Ob.fla_highestCount count else n1
    let n3 := if n2.rd Ob.fla_warningLevel ≤ count then n2.wr Ob.fla_wearFlag 1 else n2
    n3.modHpwr (fun h =>
      { h with
        flash := assocSet h.flash obj (n.rd obj), flashGen := n.start.imageGen
        lastFlash := assocSet h.lastFlash obj n.tb1 })) n

/-- `FLASH_WRITE_BACK` (17 R502). -/
def execFlashWriteBack (obj : Nat) (s : State) : Host.Outcome State Fault Refusal := onNode s .hub true (flashWrite obj)

/-- Telemetry every 2^24 ticks; the reserved bytes read 0 (17 R501, R505, R506). -/
def telemetry (v : Nat) (n : Node) : Node :=
  when (n.tb1 % 16777216 == 0) (fun n =>
    if n.isHub then n.wr Ob.tel_telemetry (v % 2 ^ 128) else n.wr Ob.su_telemetry (v % 2 ^ 48)) n

/-- `TELEMETRY_UPDATE` (17 R501). -/
def execTelemetryUpdate (u : Who) (v : Nat) (s : State) : Host.Outcome State Fault Refusal := onNode s u true (telemetry v)

/-- A journal slot with an uncorrectable error is marked damaged and counted, cause 0x69 (13 R375). -/
def scrubbed (slot : Nat) (n : Node) : Node :=
  let n1 := n.modJhub (fun j =>
    { j with ring := j.ring.map (fun x => if x.pos ≤ slot && slot < x.pos + x.slots then { x with damaged := true } else x) })
  (n1.bump Ob.jrnl_damagedSlots).fault { cause := 0x69, obj := put 28 0 slot }

/-- `SCRUB_ERROR` (13 R375). -/
def execScrubError (slot : Nat) (s : State) : Host.Outcome State Fault Refusal := onNode s .hub true (scrubbed slot)

/-! ### Housekeeping -/

/-- The controller removes the chip supply; the record waits for the next start-up (18 R532, R534). -/
def Node.supplyOff (n : Node) (cause detail : Nat) : Node :=
  n.modHpwr (fun h => { h with chipOn := false, latent := h.latent ++ [(cause, detail)] })

/-- A supply fault of kind 1 to 4 that has lasted 1 ms (18 R532). -/
def supplyFault (kind mv ma : Nat) (n : Node) : Node :=
  let real := (kind == 1 && decide (mv < 38000)) || (kind == 2 && decide (62000 < mv)) || (kind == 3 && decide (11000 < ma)) || kind == 4
  let detail := put 79 72 kind + put 71 40 mv + put 39 8 ma
  let remove := (kind == 1 && decide (mv < 36000)) || (kind == 2 && decide (64000 < mv)) || kind == 4
  when real (fun n =>
    if remove || !n.hpwr.chipOn then n.supplyOff 0x85 detail else n.fault { cause := 0x85, detail := detail }) n

/-- `MODULE_SUPPLY_FAULT` (18 R532). -/
def execModuleSupplyFault (kind mv ma : Nat) (s : State) : Host.Outcome State Fault Refusal := onHub s true (supplyFault kind mv ma)

/-- Threshold of a kind and the temperature at which it may act again, in 1/16 degree (18 R534). -/
def thermalLimits (hub : Bool) (kind : Nat) : Option (Int × Int) :=
  if hub then
    (if kind == 1 then some (1600, 1520) else if kind == 2 then some (1760, 1680) else if kind == 3 then some (1120, 1040)
     else if kind == 4 then some (1200, 1040) else none)
  else if kind == 1 then some (1680, 1600) else none

/-- The thermal objects follow the thresholds that are crossed (18 R537). -/
def Node.showThermal (n : Node) : Node :=
  if !n.isHub then n
  else
    let any := fun (k : Nat) => n.hpwr.hot.any (fun x => x / 128 == k)
    let ports := (n.hpwr.hot.filter (fun x => x / 128 == 4)).foldl (fun a x => a + 2 ^ (x % 128)) 0
    (n.wr Ob.mdl_thermalState (ofB (any 1) + 2 * ofB (any 3) + 4 * ofB (any 4))).wr Ob.mdl_squelchedPorts ports

/-- A temperature crosses a threshold upward, or falls below its hysteresis (18 R534). -/
def thermal (kind port : Nat) (temp : Nat) (n : Node) : Node :=
  match thermalLimits n.isHub kind with
  | none => n
  | some (high, low) =>
    let t := toS 16 temp
    let unit := if 3 ≤ kind then port else 0
    let key := kind * 128 + unit
    let detail := put 79 72 kind + put 63 48 temp
    if high ≤ t && !n.hpwr.hot.contains key then
      let n1 := n.modHpwr (fun h => { h with hot := h.hot ++ [key] })
      let n2 := if kind == 4 then n1.modLink port (fun l => { l with sqThermal := true }) else n1
      if kind == 2 then n2.supplyOff 0x86 detail
      else (if 3 ≤ kind then n2.portFault 0x86 port detail else n2.fault { cause := 0x86, detail := detail }).showThermal
    else if t ≤ low && n.hpwr.hot.contains key then
      let n1 := n.modHpwr (fun h => { h with hot := h.hot.filter (· != key) })
      (if kind == 4 then n1.modLink port (fun l => { l with sqThermal := false }) else n1).showThermal
    else n

/-- `THERMAL_THRESHOLD` (18 R534). -/
def execThermalThreshold (u : Who) (kind port temp : Nat) (s : State) : Host.Outcome State Fault Refusal := onNode s u true (thermal kind port temp)

/-- Command 1 on the partner power object: the request goes over the bay sideband (18 R533). -/
def execPartnerPower (s : State) : Host.Outcome State Fault Refusal :=
  onNode s .hub true (fun n => n.accept true (fun n => n.modHpwr (fun h => { h with partnerReq := h.partnerReq + 1 })))

/-- The button, the sideband or the input starts the sequence of a hub that is OFF or without its supply (18 R533). -/
def powerButton (n : Node) : Node :=
  when (n.hpwr.state == 2 || !n.hpwr.chipOn) (fun n => ((n.restartHub true).tapReset).modHpwr (fun h => { h with button := h.button + 1 })) n

/-- `MODULE_POWER_BUTTON` (18 R533). -/
def execModulePowerButton (s : State) : Host.Outcome State Fault Refusal := onHub s true powerButton

/-- The coupling of a reference input follows its nominal code: AC for the frequencies (18 R527). -/
def coupling (i : Nat) (n : Node) : Node :=
  let c := n.rd (Ob.ev_nominalCode i)
  n.wrBits Ob.mdl_coupling i 1 (ofB (decide (1 ≤ c) && decide (c ≤ 3)))

/-- `REFIN_COUPLING_SET` (18 R527). -/
def execRefinCouplingSet (i : Nat) (s : State) : Host.Outcome State Fault Refusal := onNode s .hub true (coupling i)

/-- The latency codes of a lane show at once and take effect on the stamp constants at the next marker (18 R510, 03 R77). -/
def latencyCodes (p tx rx : Nat) (n : Node) : Node :=
  (n.wr (Ob.tport_hostLatencyCodes p) (put 31 16 tx + put 15 0 rx)).modLink p (fun l => { l with latNext := some (toS 16 tx, toS 16 rx) })

/-- `HOST_LATENCY_CODES_VALID` (18 R510). -/
def execHostLatencyCodesValid (p tx rx : Nat) (s : State) : Host.Outcome State Fault Refusal := onNode s .tsu true (latencyCodes p tx rx)

end Sys2Proof.Machine
end

