-- ==== Sys2Proof/Machine/Views.lean ====
section
/-! DEFINITION. What a read of an object returns (16 R440): the objects that show other state, the rest as they are held. -/

namespace Sys2Proof.Machine

/-- The value of a select object on a route of access (11 R313). -/
def Node.selOf (n : Node) (route o : Nat) : Nat := assoc 0 (n.routeOf route).sels o

/-- The select objects that each route holds on its own (11 R313). -/
def isSelect (o : Nat) : Bool :=
  o == Ob.lsel_localSelect || o == Ob.ssel_spanSelect || o == Ob.acct_accountSelect || o == Ob.htly_slotSelect

/-- The value the specification leaves open in a view: the next free value, which the read takes. -/
def Node.openBits (n : Node) (i k : Nat) : Nat := putField i k (Config.freeValue n.fresh)

/-- The view of a local tally (11 R313); its flags are not described. -/
def Node.localView (n : Node) (sel : Nat) : Nat :=
  let t := (n.agentOf (fld sel 45 36)).local (fld sel 25 0)
  let list := (t.waiters.take 56).map (·.1)
  putField 0 4 t.value + putField 4 1 t.mode + n.openBits 5 1 + putField 6 2 t.waiters.length + putField 8 4 t.parts + putField 12 4 t.sigCore +
  putField 16 8 t.sigTick + putField 24 8 t.sigCyc + ((upTo list.length).map (fun i => putField (32 + 4 * i) 4 (list.getD i 0))).sum

/-- The signaller of the last release: all ones for a BARRIER; a RELEASE names no more of it than its die (11 R292, R313). -/
def Node.lastSignaller (n : Node) (t : STally) (mode : Nat) : Nat :=
  if mode == mBarrier then 2 ^ 64 - 1
  else match t.relDie with
  | some d => put 49 30 d + Config.freeValue n.fresh % 2 ^ 30
  | none => Config.freeValue n.fresh % 2 ^ 50

/-- The view of a span tally at a TSU (11 R313). -/
def Node.spanView (n : Node) (sel : Nat) : Nat :=
  let c := fld sel 21 16
  let e := n.transEntry c (fld sel 11 0)
  let slot := entrySlot e
  let t := n.stally c slot
  let ws := n.waitsOn c slot
  let list := (ws.take 28).map (fun w => put 49 0 w.unit + put 63 50 w.arg)
  putField 0 4 e + putField 4 4 t.value + putField 8 2 ws.length + putField 10 2 (n.unmetOf t) + putField 16 8 t.relTick +
  putField 24 8 (n.lastSignaller t (entryMode e)) + ((upTo list.length).map (fun i => putField (32 + 8 * i) 8 (list.getD i 0))).sum

/-- The state of a physical slot at a hub (11 R317), the value of a COUNT slot being its units not yet used; its flags are not described. -/
def Node.slotState (n : Node) (slot : Nat) : Nat :=
  let t := n.htalOf slot
  let value := if cfgMode t.cfg == mCount then (t.units.map (·.n)).sum else t.value
  putField 0 8 t.step + putField 8 4 value + putField 12 2 t.used + n.openBits 14 2 + putField 16 4 (assoc 0 t.arrive (t.used + 1)) +
  putField 20 4 t.waiters.length + putField 24 8 t.sigUnit + putField 32 8 t.sigTick + putField 40 8 t.relTick + putField 48 8 t.rels

/-- The registered waiters of a physical slot (11 R317). -/
def Node.waiterList (n : Node) (slot : Nat) : Nat :=
  let l := ((n.htalOf slot).waiters.take 8191).map (·.unit)
  putField 0 4 l.length + ((upTo l.length).map (fun i => putField (4 + 8 * i) 8 (l.getD i 0))).sum

/-- The 128-byte slots of a stored record: the cells of its RECORD message, or the record of a trail (13 R375, R376). -/
def JSlot.blocks (x : JSlot) : List Nat := if x.trail then leBytes 528 x.data else x.cells.flatMap (leBytes 16)

/-- The slots of a stored record; bytes beyond its content are not described. -/
def Node.slotBytes (n : Node) (x : JSlot) : List Nat :=
  let b := x.blocks
  b ++ leBytes (128 * x.slots - b.length) (Config.freeValue n.fresh)

/-- The journal window: 64 slots of the selected instance from the selected position; what lies beyond its last slot is not described
(13 R382). -/
def Node.readWindow (n : Node) : Nat :=
  let sel := n.rd Ob.jrnl_readSelect
  let mine := n.jhub.ring.filter (fun x => x.span == fieldAt sel 0 2 && x.epoch == fieldAt sel 4 4)
  let b := ((mine.flatMap n.slotBytes).drop (128 * fieldAt sel 8 8)).take 8192
  leVal (b ++ leBytes (8192 - b.length) (Config.freeValue n.fresh))

/-- The limits of the configuration (16 R469). -/
def Node.limits (n : Node) : Nat :=
  let edge := n.kind == .edge
  let one := fun (full few hub : Nat) => if n.isHub then hub else if edge then few else full
  putField 0 2 (if n.isHub then 0 else n.rd Ob.bus_regionAgents) + putField 2 2 (if n.isHub then 0 else n.rd Ob.vds_viaducts) +
  putField 4 1 n.ctxCount + putField 5 1 (one 16 4 0) + putField 6 1 (one 8 2 0) + putField 7 1 (one 8 2 0) + putField 8 1 (one 16 4 0) +
  putField 9 1 (one 8 8 1) + putField 10 1 (one 32 32 64) + putField 11 1 (one 8 8 0)

/-- The image of the Vault: header, then records (17 R487). -/
def Node.vaultImage (n : Node) : Nat :=
  let rec1 := fun (r : Nat × Nat × Nat) =>
    let len := n.sizeOf r.1
    leBytes 2 (r.1 / 256) ++ [r.1 % 256, r.2.1] ++ leBytes 2 len ++ [0, 0] ++ leBytes ((len + 7) / 8 * 8) r.2.2
  let states := n.vault.regions.foldl (fun a r => a + r.2 % 16 * 16 ^ r.1) 0
  let len := (n.vault.regions.length + 1) / 2
  let regs := if n.vault.regions.isEmpty then [] else
    leBytes 2 (Ob.reg_regionState 0 / 256) ++ [0, 2] ++ leBytes 2 len ++ [0, 0] ++ leBytes ((len + 7) / 8 * 8) states
  let area := n.vault.recs.flatMap rec1 ++ regs
  let head := leBytes 2 1 ++ [n.rd Ob.vlt_vaultState, 0] ++ leBytes 4 n.vaultUsed ++ leBytes 4 n.vault.gen ++ leBytes 4 0 ++ leBytes 8 n.vault.saveTick ++
    leBytes 8 0 ++ leBytes 32 (blake3 area)
  leVal (head ++ area)

/-- The grants of a span (15 R437). -/
def Node.grantView (n : Node) (span : Nat) : Nat :=
  let l := ((n.grantsOf span).map (·.tick)).take 16
  putField 0 1 l.length + ((upTo l.length).map (fun i => putField (8 + 8 * i) 8 (l.getD i 0))).sum

/-- Object 0x1801.00: the route of the read (16 R470). -/
def routeView (route : Nat) : Nat := if route ≤ 1 then route else 2 + route % 2

/-- The span list as entries (15 R409). -/
def Node.spanTable (n : Node) : Nat := (n.spans.map (fun e => e.2 * 2 ^ (128 * e.1))).sum

/-- Views by object of the node as a whole. -/
def Node.nodeView (n : Node) (route o : Nat) : Option Nat :=
  if o == Ob.irq_pending then some n.pendingBits
  else if o == Ob.flt_recordsHeld then some n.log.length
  else if o == Ob.flt_record then some (n.log.headD 0)
  else if o == Ob.tabs_residentSlots then some n.residentSlots
  else if o == Ob.tabs_accumulatorsFree then some (n.accCount - n.clr.defAccs.length)
  else if o == Ob.tly_spanWaitsHeld then some n.tally.waits.length
  else if o == Ob.tly_ledgerConditionsHeld then some n.unmet
  else if o == Ob.lsel_localView then some (n.localView (n.selOf route Ob.lsel_localSelect))
  else if o == Ob.ssel_spanView then some (n.spanView (n.selOf route Ob.ssel_spanSelect))
  else if o == Ob.acct_accountValue then some (n.acct (n.selOf route Ob.acct_accountSelect)).value
  else if o == Ob.acct_allAccounts then some ((n.tally.accts.map (fun e => e.2.value % 2 ^ 64 * 2 ^ (64 * e.1))).sum)
  else if o == Ob.htly_slotConfiguration then some (n.htalOf (n.selOf route Ob.htly_slotSelect)).cfg
  else if o == Ob.htly_slotState then some (n.slotState (n.selOf route Ob.htly_slotSelect))
  else if o == Ob.htly_waiterList then some (n.waiterList (n.selOf route Ob.htly_slotSelect))
  else if o == Ob.htly_slotsActive then some n.activeSlots
  else if o == Ob.htly_waiterEntriesFree then some (131072 - n.waitersHeld)
  else if o == Ob.clr_dieAccumulatorsFree then some (if n.isHub then 0 else n.accCount - n.clr.dieAccs.length)
  else if o == Ob.esc_instancesHeld then some (if n.isHub then n.escInst.length else 0)
  else if o == Ob.det_recordsPending then some (n.jrnl.pend.filter JRec.open).length
  else if o == Ob.det_regionMap then some n.regionMap
  else if o == Ob.mint_chainingValuesPending then some n.mint.nodes.length
  else if o == Ob.jrnl_slotsFree then some (ringSize - n.jhub.head)
  else if o == Ob.jrnl_readWindow then some n.readWindow
  else if o == Ob.lst_listEntriesHeld then some n.spans.length
  else if o == Ob.spn_spanList then some n.spanTable
  else if o == Ob.bud_grants then some (n.grantView (n.rd Ob.bud_budgetSelect))
  else if o == Ob.idn_limits then some n.limits
  else if o == Ob.acc_route then some (routeView route)
  else if o == Ob.vlt_vaultBytesUsed then some n.vaultUsed
  else if o == Ob.vlt_vaultImage then some n.vaultImage
  else if o == Ob.fla_writesDeferred then some n.flashWaiting
  else none

/-- Views by object of one unit of many: the unit is the index above the base. -/
def Node.unitView (n : Node) (o : Nat) : Option Nat :=
  let idx := o / 256
  let sub := o % 256
  let at_ := fun (base count s : Nat) => sub == s && Nat.ble base idx && Nat.blt idx (base + count)
  if at_ 0x2000 8 0 then some (n.tbValue (idx - 0x2000))
  else if at_ 0x2000 8 5 then some (ofS 64 ((n.baseOf (idx - 0x2000)).remain))
  else if at_ 0xD800 2048 0 then (let v := idx - 0xD800; some (n.rd o / 2 * 2 + ofB (decide (v < n.vdCount) && n.vdSevered v)))
  else if at_ 0x2810 8 3 then some ((n.capOf (idx - 0x2810)).recs.headD 0)
  else if at_ 0x2810 8 4 then some (n.capOf (idx - 0x2810)).recs.length
  else if at_ 0x4010 16 7 then some (n.slotUse (idx - 0x4010))
  else if at_ 0x4040 64 2 then some (n.stepStatus (idx - 0x4040))
  else if at_ 0x4040 64 5 then some ((n.ctxOf (idx - 0x4040)).marks.headD 0)
  else if at_ 0x4040 64 6 then some (n.ctxOf (idx - 0x4040)).marks.length
  else if at_ 0x4900 256 0xF then some (ofB n.lead.leading)
  else if at_ 0x6200 1024 3 then
    some (match n.dieAcc ((idx - 0x6200) / 16) ((idx - 0x6200) % 16) with
      | some a => a.desc
      | none => 0xFFFF)
  else if at_ 0x6600 16 0 then some (n.bankValues (idx - 0x6600))
  else if at_ 0x6600 16 1 then some (n.bankCensus (idx - 0x6600))
  else if at_ 0x6600 16 3 then some (n.bankState (idx - 0x6600))
  else if at_ 0x6800 16 1 then some (n.engState (idx - 0x6800))
  else if at_ 0x6800 16 2 then some (n.engInstance (idx - 0x6800))
  else if at_ 0x1100 9 4 then some (n.fnInFlight (idx - 0x1100))
  else if at_ 0xD000 1024 5 then some (n.rd o % 2 ^ 63 + 2 ^ 63)
  else none

/-- What a read of an object returns on a route (16 R440); a write-only object reads 0 (00 R17). -/
def Node.view (n : Node) (route o : Nat) : Nat :=
  match findRow n.kind o with
  | none => 0
  | some r =>
    if r.right == .wo then 0
    else if isSelect o then n.selOf route o
    else match n.nodeView route o with
    | some v => v
    | none => match n.unitView o with
      | some v => v
      | none => n.rd o

/-- A view with bits that the specification leaves open: the read takes a free value. -/
def openView (o : Nat) : Bool := o == Ob.lsel_localView || o == Ob.ssel_spanView || o == Ob.htly_slotState || o == Ob.jrnl_readWindow

/-- A read removes what the object's description says: a mark, a capture record, a fault record (09 R242, 06 R166, 14 R385). -/
def Node.afterRead (n : Node) (o : Nat) : Node :=
  let idx := o / 256
  let sub := o % 256
  if o == Ob.flt_record then { n with log := n.log.drop 1 }
  else if sub == 3 && Nat.ble 0x2810 idx && Nat.blt idx 0x2818 then
    n.modCap (idx - 0x2810) (fun q => { q with recs := q.recs.drop 1 })
  else if sub == 5 && Nat.ble 0x4040 idx && Nat.blt idx 0x4080 then
    n.modCtx (idx - 0x4040) (fun x => { x with marks := x.marks.drop 1 })
  else if openView o then n.takeFree.2
  else n

end Sys2Proof.Machine
end

