-- ==== Sys2Proof/Machine/Writes.lean ====
section
/-! DEFINITION. What a write of an object does, whichever route brings it (16 R440 to R443, R538): the operation of the object's own row
where it has one, and the plain replacement of the value otherwise. -/

namespace Sys2Proof.Machine

/-! ### Writes that need more than a range check -/

/-- A commanded value: 0 is accepted and starts nothing, and a value that is not listed is refused (16 R538). -/
def unlisted (v : Nat) (n : Node) : Node := n.accept (v == 0) (fun n => n)

/-- A write of a table slot's header, entries or digest: refused while a context holds the slot; the slot becomes loading (09 R221, R222). -/
def tableWrite (t o v : Nat) (n : Node) : Node :=
  n.journaled (fun n => n.accept (n.slotUse t == 0) (fun n => (n.touchSlot t).wr o v))

/-- A write of a head entry's settings: refused while the entry runs or stops; an owner in place of the one it runs for is a refused
activation (10 R281, 15 R411). -/
def headWrite (k o v : Nat) (n : Node) : Node :=
  if n.headRuns k then
    (if o == Ob.head_owner k && fld v 31 16 != n.headSpan k then n.tableFault 3 none (fld v 31 16) (n.headSpan k) 0 0 else n).answer 3
  else n.accept true (fun n => n.wr o v)

/-- A slot configuration: refused unless the slot is inactive or becomes inactive, which discards its state; an active one is a write for a
span of the list, and new work of function 1 (11 R317, 15 R411, 16 R462). -/
def slotWrite (slot v : Nat) (n : Node) : Node :=
  let was := (n.htalOf slot).cfg
  let write := fun (n : Node) =>
    n.accept (!cfgActive was || !cfgActive v) (fun n => n.modHtal slot (fun t => if cfgActive v then { t with cfg := v } else { cfg := v }))
  if cfgActive v then n.needsFn 1 (fun n => n.forSpan (cfgSpan v) (if cfgActive was then some (cfgSpan was) else none) write) else write n

/-- A segment of a manifest entry is pending: received, without the entry's digest (13 R364, R366). -/
def Node.entryPending (n : Node) (e : Nat) : Bool := (n.mint.nodes ++ n.mint.lanes.map (·.2)).any (fun x => x.entry == e)

/-- A manifest entry that is in use has from 1 to 2^46 - 1 parameters and at most 2^48 bytes (13 R364). -/
def manifestOk (v : Nat) : Bool :=
  !bit v 127 || (decide (1 ≤ fld v 75 30) && decide (fld v 75 30 * 2 ^ fld v 125 124 ≤ 2 ^ 48))

/-- A write of manifest entries: a value that the layout does not allow is refused, as is an entry with a segment pending (13 R364, 16 R443). -/
def manifestWrite (first : Nat) (vals : List Nat) (n : Node) : Node :=
  n.journaled (fun n => n.accept (vals.all manifestOk && (upTo vals.length).all (fun i => !n.entryPending (first + i))) (fun n =>
    n.wr Ob.mint_manifest ((vals.zipIdx).foldl (fun x e =>
      x - bits x (128 * (first + e.2)) 128 * 2 ^ (128 * (first + e.2)) + maskManifest e.1 * 2 ^ (128 * (first + e.2))) (n.rd Ob.mint_manifest))))

/-- A key input that the host writes (13 R362, R363). -/
def keyWrite (o b v : Nat) (n : Node) : Node :=
  n.journaled (fun n => n.accept true (fun n => if n.rd o == v then n else (n.wr o v).keyInput b))

/-- The core map takes the value and the length of the write (13 R362, 16 R439). -/
def coreMapWrite (data : List Nat) (n : Node) : Node :=
  n.journaled (fun n => n.accept true (fun n =>
    ((n.wr Ob.det_coreMap (leVal data)).modKey (fun k => { k with coreLen := data.length })).keyInput 4))

/-- Strict spans: a change of bit s is refused while a head entry of span s runs (13 R357). -/
def strictSpansWrite (v : Nat) (n : Node) : Node :=
  let old := n.rd Ob.strict_strictSpans
  n.accept (!(upTo 256).any (fun k => n.rd (Ob.head_state k) == 2 && bit old (n.headSpan k) != bit v (n.headSpan k)))
    (fun n => n.wr Ob.strict_strictSpans v)

/-- The enable of an event input: an engine and a monitor whose input is disabled in a gate end it with status 3; one enabled before the
gate opens does not (04 R106, R114). -/
def evEnableWrite (i v : Nat) (n : Node) : Node :=
  n.rwsWrite (n.valueOk (Ob.ev_enable i) v) (Ob.ev_enable i) v (fun n =>
    let n1 := n.wr (Ob.ev_enable i) v
    if v == 1 then
      { n1 with regrs := n1.regrs.map (fun e => (e.1, if e.2.input == i && decide (n1.tb1 ≤ e.2.opened) then { e.2 with disabled := false } else e.2)) }
    else
      { n1 with
        regrs := n1.regrs.map (fun e => (e.1, if e.2.mode != 0 && e.2.input == i then { e.2 with disabled := true } else e.2))
        monitors := n1.monitors.map (fun e => (e.1, if e.1 == i then { e.2 with disabled := true } else e.2)) })

/-- The settings of an output come into force with the first instant at least 1 ms after the write, which completed on the tick before it
takes effect (05 R148, 06 R167; 16 R440). -/
def outputWrite (hub : Bool) (k o v : Nat) (n : Node) : Node :=
  let later := fun (p : PulseSt) => { p with pend := p.pend ++ [(n.tb1 - 1 + ticksOfMs 1, o % 256, v)] }
  n.rwsWrite (n.valueOk o v) o v (fun n => if hub then (n.wr o v).modOut k later else (n.wr o v).modPulse k later)

/-- The oscillator class loads the holdover figures of a class that has them (05 R140). -/
def oscillatorWrite (v : Nat) (n : Node) : Node :=
  n.rwsWrite (n.valueOk Ob.ref_oscillatorClass v) Ob.ref_oscillatorClass v (fun n =>
    let n1 := n.wr Ob.ref_oscillatorClass v
    if v == 1 then (n1.wr Ob.ref_holdoverInitialError 100000).wr Ob.ref_holdoverAging 1157407
    else if v == 2 then (n1.wr Ob.ref_holdoverInitialError 1000).wr Ob.ref_holdoverAging 19290
    else n1)

/-- An operator's entry: a role of R455, and some valid operator of role 2 remains (16 R455). -/
def operatorWrite (op v : Nat) (n : Node) : Node :=
  let n1 := n.wr (Ob.opr_operator op) v
  let admin := (upTo 16).any (fun i => fieldAt (n1.rd (Ob.opr_operator i)) 0 1 != 0 && fieldAt (n1.rd (Ob.opr_operator i)) 1 1 == 2)
  n.rwsWrite (admin && fieldAt v 1 1 ≤ 2) (Ob.opr_operator op) v (fun _ => n1)

/-- The GOA operator of a number. -/
def Node.operator (n : Node) (op : Nat) : Operator := tblGet {} n.access.ops op

/-- Change a GOA operator. -/
def Node.modOperator (n : Node) (op : Nat) (f : Operator → Operator) : Node :=
  n.modAccess (fun a => { a with ops := tblSet a.ops op (f (n.operator op)) })

/-- Sequence of a GOA request (16 R453). -/
def GoaReq.seq (q : GoaReq) : Nat := leVal ((q.bytes.drop 8).take 8)

/-- An operator's key: while the request that wrote it is unanswered, the key waits for its response (16 R455). The source of a write
through GOA is the sequence of its request. -/
def keyOfOperator (w : PendWrite) (op v : Nat) (n : Node) : Node :=
  let writer := (w.via - 2) / 2
  n.accept true (fun n =>
    if 2 ≤ w.via && n.access.reqs.any (fun q => q.op == writer && q.seq == w.src) then
      n.modOperator op (fun x => { x with newKey := some v, keyBy := (writer, w.src) })
    else n.modOperator op (fun x => { x with key := v, newKey := none }))

/-- The lane entry of a TSU: by relay from the Pier on that lane, and refused from any other (15 R412). -/
def laneWrite (w : PendWrite) (p v : Nat) (n : Node) : Node :=
  if w.via == 1 && w.port == p && fld w.src 19 18 == 1 then (n.writeLane p v).answer 0 else n.answer 3

/-- The hall epoch of a Pier or an Arch: by relay from a Keystone (15 R415, R437). -/
def epochWrite (w : PendWrite) (v : Nat) (n : Node) : Node :=
  n.accept (w.via == 1 && (n.level == 1 || n.level == 2) && fld w.src 19 18 == 3) (fun n => n.wr Ob.epo_hallEpoch v)

/-! ### Commands -/

/-- Commands of the link and of the time hierarchy (02 R70; 03 R91; 04 R105, R114; 05 R143). -/
def linkCommands (o v : Nat) : Option (Node → Node) :=
  let idx := o / 256
  let sub := o % 256
  let at_ := fun (base count s : Nat) => sub == s && Nat.ble base idx && Nat.blt idx (base + count)
  if at_ 0x3010 80 2 then some (if v == 1 then linkRestart (idx - 0x3010) else if v == 2 then sendWake (idx - 0x3010) else unlisted v)
  else if o == Ob.time_closure then
    some (fun n => if (v == 1 || v == 2) && n.isHub then closureStart v n else if n.isHub then unlisted v n else n.answer 3)
  else if o == Ob.tdc_calibrate then some (if v == 1 then calibrate else unlisted v)
  else if at_ 0x3840 4 2 then
    some (if v == 0 then regrStop (idx - 0x3840) else if v ≤ 2 then regrStart v (idx - 0x3840) else unlisted v)
  else if o == Ob.khall_realign then
    some (fun n => n.accept (n.isKeystone && v ≤ 1) (fun n => (n.modKst (fun k => { k with realign := v == 1 })).wr Ob.khall_realign v))
  else if at_ 0x2000 8 3 then
    some (if 1 ≤ fieldAt v 0 1 && fieldAt v 0 1 ≤ 4 then tbCommand (idx - 0x2000) (fieldAt v 0 1) (fieldAt v 8 8) (if fieldAt v 0 1 == 4 then 0 else fieldAt v 16 16)
      else unlisted (fieldAt v 0 1))
  else none

/-- Commands of a TSU's engines (07 R177; 09 R221, R261; 11 R312; 14 R398; 17 R477, R493). -/
def tsuCommands (o v : Nat) : Option (Node → Node) :=
  let idx := o / 256
  let sub := o % 256
  let at_ := fun (base count s : Nat) => sub == s && Nat.ble base idx && Nat.blt idx (base + count)
  if at_ 0xD000 1024 0x12 then
    some (if v == 1 || v == 2 then (fun n => (n.bypass (idx - 0xD000) (v == 1)).answer 0) else unlisted v)
  else if o == Ob.tabs_releaseAccumulator then some (releaseAccumulator v)
  else if at_ 0x4010 16 4 then
    some (if v == 1 then tableCommit (idx - 0x4010) else if v == 2 then tableEmpty (idx - 0x4010) else (fun n => n.journaled (fun n => n.accept (v == 0 && n.slotUse (idx - 0x4010) == 0) (fun n => n))))
  else if at_ 0x5100 8 0 then
    let h := idx - 0x5100
    let op := fieldAt v 0 1
    some (if 1 ≤ op && op ≤ 3 then (fun n => hostCommand h v (op + 1) (n.tb1 - 1) n)
      else if op == 4 then (fun n => n.journaled (fun n => n.needsFn 1 (fun n => n.accept true (fun n => n.hostCancel h))))
      else (fun n => n.journaled (unlisted op)))
  else if at_ 0x8400 1024 0xB then
    let r := idx - 0x8400
    some (if v == 1 then ladderCycle r else if v == 2 then ladderRestore r else if v == 3 then ladderRelease r
      else if v == 4 then ladderLost r else unlisted v)
  else if at_ 0x9000 1024 1 then some (if v ≤ 6 then regionRequest (idx - 0x9000) v else unlisted v)
  else if o == Ob.su_startUpCommand then some (if v == 1 then configRefetch else unlisted v)
  else none

/-- Commands of a hub (10 R281; 13 R377; 15 R409, R410, R415, R432, R437; 17 R494, R500; 18 R533). -/
def hubCommands (o v : Nat) : Option (Node → Node) :=
  let idx := o / 256
  let sub := o % 256
  let at_ := fun (base count s : Nat) => sub == s && Nat.ble base idx && Nat.blt idx (base + count)
  let op := fieldAt v 0 1
  if at_ 0x4900 256 9 then
    let k := idx - 0x4900
    some (if v == 1 then headStart k else if v == 2 then headStopAfter k else if v == 3 then (fun n => (n.stopHead k).answer 0) else unlisted v)
  else if o == Ob.rpl_replayCommand then
    some (if v == 1 then replayStart else if v == 0 then (fun n => n.stopReplay.answer 0) else unlisted v)
  else if o == Ob.cenCmd_censusCommand then some (censusCommand v)
  else if o == Ob.epo_epochCommand then
    some (if 1 ≤ op && op ≤ 3 then (fun n => n.epochOp op (fieldAt v 2 2) (fieldAt v 4 4)) else unlisted op)
  else if o == Ob.spn_spanCommand then
    let e := fieldAt v 4 16
    some (if op == 1 then listAdd e else if op == 2 then listRemove e else if op == 3 then listMask e else if op == 4 then listHead e else unlisted op)
  else if at_ 0xC200 64 4 then
    let p := idx - 0xC200
    some (if op == 1 then portOwn p (fieldAt v 2 2) (fieldAt v 4 4) else if op == 2 then portRelease p (fieldAt v 8 4)
      else if op == 3 then portFree p (fieldAt v 8 4) else (fun n => n.accept (op == 0 && n.level == 1) (fun n => n)))
  else if at_ 0xC300 64 8 then
    let p := idx - 0xC300
    some (if v == 1 then healthReinstate p else if v == 2 then healthClearFences p
      else if v == 3 then (fun n => n.accept (n.level == 1) (fun n => n.wr (Ob.hlt_auditMatrix p) 0)) else unlisted v)
  else if o == Ob.pwr_powerCommand then some (if v == 1 then toSentinel else if v == 2 then toOff else unlisted v)
  else if o == Ob.fw_updateCommand then
    some (if op == 1 then updateBegin (fieldAt v 4 4) (fieldAt v 8 32) else if op == 2 then updateCommit else if op == 3 then updateAbandon
      else unlisted op)
  else if o == Ob.mdl_partnerPower then
    some (if v == 1 then (fun n => n.accept true (fun n => n.modHpwr (fun h => { h with partnerReq := h.partnerReq + 1 }))) else unlisted v)
  else none

/-- What a written command value does (16 R538). -/
def commandWrite (o v : Nat) (n : Node) : Node :=
  if o == Ob.flt_clearFirst then (if v == 1 then (n.wr Ob.flt_firstRecord 0).answer 0 else unlisted v n)
  else match linkCommands o v with
  | some f => f n
  | none => match (if n.isHub then hubCommands o v else tsuCommands o v) with
    | some f => f n
    | none => n.answer 3

/-! ### Values -/

/-- Writes of the link, the clocks and the measurements with an effect of their own (02 to 06, 15 R412). -/
def linkWrites (w : PendWrite) (o v : Nat) : Option (Node → Node) :=
  let idx := o / 256
  let sub := o % 256
  let at_ := fun (base count s : Nat) => sub == s && Nat.ble base idx && Nat.blt idx (base + count)
  if at_ 0x3010 80 1 then some (linkEnable (idx - 0x3010) v)
  else if at_ 0x3060 80 0xC then some (podWrite (idx - 0x3060) v)
  else if at_ 0x30B0 2 0 then some (laneWrite w (idx - 0x30B0) v)
  else if at_ 0x3810 8 0 then some (evEnableWrite (idx - 0x3810) v)
  else if at_ 0x3840 4 0 || at_ 0x3840 4 1 then
    some (fun n => n.accept ((n.regrOf (idx - 0x3840)).mode == 0 && n.valueOk o v) (fun n => n.wr o v))
  else if o == Ob.khall_label then some (labelWrite v)
  else if o == Ob.prio_priorityTable then some (priorityWrite v)
  else if o == Ob.ref_oscillatorClass then some (oscillatorWrite v)
  else if idx < 0xB046 && 0xB040 ≤ idx && sub ≤ 4 then some (outputWrite true (idx - 0xB040) o v)
  else if at_ 0x2000 8 1 then
    some (if idx == 0x2000 then modeChange v else fun n => n.rwsWrite (v == (if idx == 0x2001 then 2 else 1)) o v (fun n => n))
  else if at_ 0x2000 8 2 then some (incrementWrite (idx - 0x2000) v)
  else if o == Ob.hall_hallAnchor then some (anchorWrite v)
  else if 0x2840 ≤ idx && idx < 0x2844 && sub ≤ 4 then some (outputWrite false (idx - 0x2840) o v)
  else none

/-- Writes of a TSU's engines with an effect of their own (09, 11 to 13, 16 R467). -/
def tsuWrites (w : PendWrite) (o v : Nat) : Option (Node → Node) :=
  let idx := o / 256
  let sub := o % 256
  let at_ := fun (base count s : Nat) => sub == s && Nat.ble base idx && Nat.blt idx (base + count)
  let words := fun (k : Nat) => (upTo (w.data.length / k)).map (fun i => leVal ((w.data.drop (k * i)).take k))
  if at_ 0xD000 1024 1 then some (preferredWrite (idx - 0xD000) v)
  else if at_ 0x4010 16 1 || at_ 0x4010 16 2 || at_ 0x4010 16 3 then some (tableWrite (idx - 0x4010) o v)
  else if at_ 0x5040 64 0 then some (translationWrite (idx - 0x5040) (w.off / 4) (words 4))
  else if o == Ob.acct_accountTable then some (accountWrite (w.off / 4) (words 4))
  else if at_ 0x6100 256 0 then some (descriptorWrite (idx - 0x6100) v)
  else if at_ 0x6200 1024 0 then some (contributionWrite ((idx - 0x6200) / 16) ((idx - 0x6200) % 16) w.data)
  else if o == Ob.det_strict then some (strictWrite v)
  else if o == Ob.det_engineFirmwareVersion then some (keyWrite o 2 v)
  else if o == Ob.det_coreMap then some (coreMapWrite w.data)
  else if o == Ob.mint_manifest then some (manifestWrite (w.off / 16) (words 16))
  else if o == Ob.irq_acknowledge then some (irqAck v)
  else if o == Ob.irq_interruptRouting then some (fun n => n.rwsWrite true o v (fun n => n.wr o v))
  else if o == Ob.aud_fenceMask then some (fun n => n.accept (w.via == 1) (fun n => n.wr o v))
  else none

/-- Writes of a hub's objects with an effect of their own (10 R281; 11 R317; 12 R355; 13 R357; 15 R415; 16 R472; 17 R500). -/
def hubWrites (w : PendWrite) (o v : Nat) : Option (Node → Node) :=
  let idx := o / 256
  let sub := o % 256
  let at_ := fun (base count s : Nat) => sub == s && Nat.ble base idx && Nat.blt idx (base + count)
  if Nat.ble 0x4900 idx && Nat.blt idx 0x4A00 && Nat.ble 1 sub && Nat.ble sub 8 then some (headWrite (idx - 0x4900) o v)
  else if o == Ob.htly_slotConfiguration then some (fun n => slotWrite (n.selOf w.via Ob.htly_slotSelect) v n)
  else if at_ 0x6800 16 0 then some (fun n => n.engWrite (idx - 0x6800) v)
  else if o == Ob.strict_strictSpans then some (strictSpansWrite v)
  else if o == Ob.epo_hallEpoch then some (epochWrite w v)
  else if at_ 0x1900 16 0 then some (operatorWrite (idx - 0x1900) v)
  else if at_ 0x1900 16 1 then some (keyOfOperator w (idx - 0x1900) v)
  else if o == Ob.fw_segment then some (segmentWrite w.data)
  else none

/-- Writes that every node holds with an effect of their own (15 R430, 16 R460), and the select objects of a route (11 R313). -/
def commonWrites (w : PendWrite) (o v : Nat) : Option (Node → Node) :=
  let idx := o / 256
  let sub := o % 256
  if sub == 1 && Nat.ble 0x1100 idx && Nat.blt idx 0x1109 then
    some (if v == 0 then fnDisable (idx - 0x1100) else if v == 1 then fnEnable (idx - 0x1100) else fun n => n.answer 3)
  else if sub == 0 && Nat.ble 0xA020 idx && Nat.blt idx 0xA060 then some (eventSourceWrite (idx - 0xA020) v)
  else if isSelect o then
    some (fun n => n.accept (n.valueOk o v) (fun n => n.modRoute w.via (fun r => { r with sels := assocSet r.sels o v })))
  else none

/-- A write whose only effect is the new value (16 R440): the value is one the description allows; a stored one must have room. -/
def plainWrite (right : Right) (o v : Nat) (n : Node) : Node :=
  let go := fun (n : Node) => if right == .rws then n.rwsWrite (n.valueOk o v) o v (fun n => n.wr o v) else n.accept (n.valueOk o v) (fun n => n.wr o v)
  if !n.isHub && isJournaled o then n.journaled go else go n

/-- The object after a write of a range of its bytes (16 R441). -/
def merged (old off : Nat) (data : List Nat) : Nat :=
  old - fieldAt old off data.length * 256 ^ off + leVal data * 256 ^ off

/-- The range of a write is one that the object's kind admits (16 R441): the whole of a short object or a fixed BLOB, whole entries of a
long TBL, and from 0 for a BLOB with a range of lengths. -/
def rangeAllowed (r : ORow) (o off len : Nat) : Bool :=
  let size := r.width / 8
  if o == Ob.det_coreMap then off == 0 && 1 ≤ len && len ≤ size
  else if r.right == .wo && Nat.ble 0x6200 (o / 256) && Nat.blt (o / 256) 0x6600 then off == 0 && len ≤ size
  else if r.entry != 0 && 16 < size then off % r.entry == 0 && len % r.entry == 0 && off + len ≤ size
  else off == 0 && len == size

/-- A write is denied by the object's right: a read-only object, or a LOCK object whose function is not DISABLED (00 R17, 16 R465). -/
def Node.writeDenied (n : Node) (right : Right) : Bool :=
  match right with
  | .ro => true
  | .lock f => n.rd (Ob.fn_functionState f) != 2
  | _ => false

/-- A write as it takes effect, with its answer (16 R440 to R443): no such object, no right to write, a length not allowed, and then what
the object's description says. -/
def Node.routeWrite (w : PendWrite) (n : Node) : Node :=
  let o := w.obj
  match findRow n.kind o with
  | none => n.answer 1
  | some r =>
    if !n.hasObj o then n.answer 1
    else if n.writeDenied r.right then n.answer 2
    else if !rangeAllowed r o w.off w.data.length then n.answer 4
    else
      let v := keepBits o (merged (if r.entry != 0 then n.rd o else 0) w.off w.data)
      if n.isHub && n.level != 3 && (o / 256 == 0xB000 || (0xB001 ≤ o / 256 && o / 256 < 0xB018)) then n.answer 3
      else if r.right == .cmd then commandWrite o v n
      else match commonWrites w o v with
      | some f => f n
      | none => match linkWrites w o v with
        | some f => f n
        | none => match (if n.isHub then hubWrites w o v else tsuWrites w o v) with
          | some f => f n
          | none => plainWrite r.right o v n

/-- Writes that the tick of their completion already sees (06 R157; 12 R323). -/
def sameTick (o : Nat) : Bool :=
  (o % 256 == 3 && Nat.ble 0x2000 (o / 256) && Nat.blt (o / 256) 0x2008) || (o % 256 == 0 && Nat.ble 0x6200 (o / 256) && Nat.blt (o / 256) 0x6600)

/-- An operation whose own answer is not the answer of an access: the access objects and the counts of accesses stay. -/
def Node.quietly (n : Node) (f : Node → Node) : Node :=
  let m := f (n.modCensus (fun c => { c with srcs := c.srcs.filter (fun e => !srcHits e.2 0x19 0) }))
  let m1 := (m.wr Ob.acc_registerPortStatus (n.rd Ob.acc_registerPortStatus)).wr Ob.acc_accessesRefused (n.rd Ob.acc_accessesRefused)
  { (m1.modCensus (fun c => { c with srcs := n.census.srcs })) with answers := n.answers }

/-- A write as it takes effect; a replayed input is not suppressed (13 R377, R378). -/
def Node.runWrite (w : PendWrite) (n : Node) : Node :=
  if w.replayed then (Node.routeWrite w (n.wr Ob.det_inputMode 0)).wr Ob.det_inputMode (n.rd Ob.det_inputMode) else n.routeWrite w

/-- The order of writes that complete on one tick: at a TSU the register port before relay (01 R36); at a hub relay, then each management
port by operator (16 R458). -/
def writeRank (hub : Bool) (w : PendWrite) : Nat := if hub && 2 ≤ w.via then 2 + 16 * (w.via % 2) + (w.via - 2) / 2 else w.via

/-- A completed write takes its place among those of its tick. -/
def insertWrite (hub : Bool) (q : List PendWrite) (w : PendWrite) : List PendWrite :=
  match q with
  | [] => [w]
  | x :: r => if writeRank hub x ≤ writeRank hub w then x :: insertWrite hub r w else w :: x :: r

/-- A write that completes on this tick: refused, with what a refusal records, or accepted and in force from the next tick (16 R440). -/
def Node.tryWrite (w : PendWrite) (n : Node) : Node × Nat :=
  let st := ((n.runWrite w).answerOf 0).status
  if st != 0 || sameTick w.obj then (n.quietly (Node.runWrite w), st)
  else ({ n with deferred := insertWrite n.isHub n.deferred w }, 0)

/-- The writes of the tick before take effect in their order (16 R440). -/
def Node.applyDeferred (n : Node) : Node :=
  overAll n.deferred (fun n w => n.quietly (Node.runWrite w)) { n with deferred := [] }

/-- The status of an access on a route: counted, and shown in the object of the route (16 R443, R470). -/
def Node.accessEnd (n : Node) (route st : Nat) : Node :=
  let n1 := n.events 0x19 0 1
  let n2 := if isRefusal st then n1.bump Ob.acc_accessesRefused else n1
  if route == 1 then n2.wr Ob.acc_relayStatus st else if n2.isHub then n2 else n2.wr Ob.acc_registerPortStatus st

/-- The register port of a TSU serves accesses from the end of stage 0 (17 R491). -/
def Node.served (n : Node) : Bool := n.isHub || n.rd Ob.su_startUpState != 0

/-- A write of an object through the register port of a TSU, or by the management of a hub (16 R440, R441). -/
def objectWrite (obj off : Nat) (data : List Nat) (n : Node) : Node :=
  when n.served (fun n =>
    let route := if n.isHub then 2 else 0
    let (n1, st) := n.tryWrite { via := route, obj := obj, off := off, data := data }
    (n1.accessEnd route st).modAnswer 0 (fun _ => { status := st })) n

/-- `OBJECT_WRITE` (16 R440). -/
def execObjectWrite (u : Who) (obj off : Nat) (data : List Nat) (s : State) : Host.Outcome State Fault Refusal :=
  onNode s u true (objectWrite obj off data)

end Sys2Proof.Machine
end

