-- ==== Sys2Proof/Machine/Replay.lean ====
section
/-! DEFINITION. A replayed input takes effect at its TSU (13 R378). -/

namespace Sys2Proof.Machine

/-- The bytes of a replayed record that are written, its object and its first byte: by type 1 a host tally command, 2 a seed, 3 a manifest
entry, 4 an override and 5 an override whose data are served again. The record of a host command names no channel, and that of a part of a
long table no position: both are free. A record of another type writes nothing (13 R371, R378). -/
def replayWrite (kind : Kind) (free typ ctx : Nat) (b data : List Nat) : Option PendWrite :=
  let override := fun (bytes : List Nat) =>
    let o := leVal (b.take 4) / 16 % 2 ^ 24
    let row := findRow kind o
    let size := (row.map (·.width)).getD 0 / 8
    let entry := (row.map (·.entry)).getD 0
    let off := if 0 < entry && 16 < size && bytes.length < size then free % ((size - bytes.length) / entry + 1) * entry else 0
    some { obj := o, off := off, data := bytes, replayed := true }
  if typ == 1 then some { obj := Ob.hch_hostCommand (free % 8), data := b, replayed := true }
  else if typ == 2 then some { obj := Ob.seed_seed ctx, data := b, replayed := true }
  else if typ == 3 then some { obj := Ob.mint_manifest, off := 16 * leVal (b.take 2), data := b.drop 8, replayed := true }
  else if typ == 4 then override (b.drop 4)
  else if typ == 5 then override data
  else none

/-- The data served again for a record of type 5 are those of its length and digest (13 R371, R378). -/
def replayData (typ : Nat) (b data : List Nat) : Bool :=
  typ != 5 || (data.length == leVal ((b.drop 4).take 4) && leBytes 32 (blake3 data) == (b.drop 8).take 32)

/-- The records taken and applied, acknowledged on both lanes (13 R378). -/
def Node.ackReplay (n : Node) (m : Msg) : Node :=
  match highestHeld (n.jrnl.got.filter (fun s => !n.jrnl.held.any (fun e => e.1 == s))) with
  | none => n
  | some k => n.sendAll ([0, 1].filter n.journalPort) (ackMsg m.span m.epoch (jCtx m) (jDie m) k)

/-- A held record whose tick F + offset has come is applied as a write that completes on it, counted and acknowledged; one whose tick has
passed is late (13 R378). -/
def replayApply (seq : Nat) (data : List Nat) (n : Node) : Node :=
  match n.jrnl.held.find? (fun e => e.1 == seq) with
  | none => n
  | some e =>
    let m := e.2
    let done := fun (n : Node) => n.modJrnl (fun j => { j with held := j.held.filter (fun x => x.1 != seq) })
    match n.replayDue m with
    | none => n
    | some t =>
      if t < (n.tb1 : Int) then (done n).replayLate m ((n.tb1 : Int) - t).toNat
      else when (t == (n.tb1 : Int) && replayData (jTyp m) (jBytes m) data) (fun n =>
        let (f, n1) := (done n).takeFree
        let n2 := match replayWrite n.kind f (jTyp m) (jCtx m) (jBytes m) data with
          | some w => (n1.tryWrite w).1
          | none => n1
        (n2.bump Ob.det_replayRecordsApplied).ackReplay m) n

/-- `REPLAY_APPLY` (13 R378). -/
def execReplayApply (seq : Nat) (data : List Nat) (s : State) : Host.Outcome State Fault Refusal := onNode s .tsu true (replayApply seq data)

end Sys2Proof.Machine
end

