-- ==== Sys2Proof/Machine/Access.lean ====
section
/-! DEFINITION. The routes of access: the register port with its short latches and long windows (16 R444 to R446), segments of transfers on
the relay route and on GOA routes (16 R441, R442), and relay over the span links (16 R447 to R451). -/

namespace Sys2Proof.Machine

/-- An object whose size can exceed 16 bytes is long (16 R441). -/
def isLong (r : ORow) : Bool := Nat.blt 128 r.width

/-- The row of an object that the node holds in its configuration (16 R443). -/
def Node.objRow (n : Node) (o : Nat) : Option ORow := if n.hasObj o then findRow n.kind o else none

/-- Bytes of a transfer buffer (16 R442). -/
def bufferSize : Nat := 65536

/-- Ticks without a segment after which a transfer is abandoned (16 R442). -/
def transferIdle : Nat := tps

/-! ### Transfers of a route -/

/-- The open transfer of a route is abandoned under R442: counted, and its later segments are answered 0xB. -/
def Node.abandon (n : Node) (route : Nat) : Node :=
  let r := n.routeOf route
  if r.mode == 0 then n
  else (n.modRoute route (fun r =>
    { r with mode := 0, buf := 0, len := 0, lo := none, hi := 0, dead := r.dead.filter (· != (r.src, r.tag)) ++ [(r.src, r.tag)] })).bump Ob.acc_transfersAbandoned

/-- The open transfer of a route ends. -/
def Node.closeTransfer (n : Node) (route : Nat) : Node :=
  n.modRoute route (fun r => { r with mode := 0, buf := 0, len := 0, lo := none, hi := 0 })

/-- A read transfer opens with its snapshot (16 R441); the read acts on the object as its description says. -/
def Node.openRead (n : Node) (route o : Nat) (key : Nat × Nat) : Node :=
  let v := n.view route o
  (n.afterRead o).modRoute route (fun r =>
    { r with mode := 1, oid := o, buf := v, len := n.sizeOf o, lo := none, hi := 0, touched := n.tb1, src := key.1, tag := key.2
             dead := r.dead.filter (· != key) })

/-- A write transfer opens empty (16 R441). -/
def Node.openWrite (n : Node) (route o : Nat) (key : Nat × Nat) : Node :=
  n.modRoute route (fun r =>
    { r with mode := 2, oid := o, buf := 0, len := 0, lo := none, hi := 0, touched := n.tb1, src := key.1, tag := key.2
             dead := r.dead.filter (· != key) })

/-- Bytes go into the write buffer after those it holds (16 R441). -/
def Route.gather (r : Route) (off now : Nat) (data : List Nat) : Route :=
  { r with
    buf := merged r.buf off data, lo := some (r.lo.getD off), hi := off + data.length, touched := now }

/-- The bytes gathered by the open write transfer. -/
def Route.gathered (r : Route) : List Nat :=
  match r.lo with
  | none => []
  | some lo => leBytes (r.hi - lo) (r.buf / 256 ^ lo)

/-! ### Segments on the relay route and on GOA routes -/

/-- What a segment is answered: status, end of the object, data. -/
structure SegAns where
  /-- Status (16 R443). -/
  status : Nat
  /-- A read reached the object's end (16 R447). -/
  last : Bool := false
  /-- Bytes read. -/
  data : List Nat := []
  deriving DecidableEq, Repr

/-- An access of a route ends with a status; an intermediate segment only shows it. -/
def Node.segEnd (n : Node) (route st : Nat) (whole : Bool) : Node :=
  if whole || st != 0 then n.accessEnd route st else if route == 1 then n.wr Ob.acc_relayStatus st else n

/-- A transfer of the route other than this one is open. -/
def Node.otherOpen (n : Node) (route o mode : Nat) (key : Nat × Nat) : Bool :=
  let r := n.routeOf route
  r.mode != 0 && !(r.mode == mode && r.oid == o && (r.src, r.tag) == key)

/-- A segment that would open a transfer beside an open one: busy on the relay route, and elsewhere the open one is abandoned
(16 R442). -/
def Node.opening (n : Node) (route o mode : Nat) (key : Nat × Nat) (f : Node → Node × SegAns) : Node × SegAns :=
  if !n.otherOpen route o mode key then f n
  else if route == 1 then (n, { status := 5 })
  else f (n.abandon route)

/-- Bytes of the open snapshot from an offset; the transfer ends with the segment that reaches its end. -/
def Node.readOpen (n : Node) (route off len : Nat) : Node × SegAns :=
  let r := n.routeOf route
  let k := min len (r.len - off)
  let n1 := n.modRoute route (fun r => { r with touched := n.tb1 })
  if r.len ≤ off && 0 < r.len then (n, { status := 4 })
  else
    let fin := r.len ≤ off + k
    (if fin then n1.closeTransfer route else n1, { status := 0, last := fin, data := leBytes k (r.buf / 256 ^ off) })

/-- A read segment (16 R441, R442, R447): the whole of a short object, or bytes of the snapshot of a long one, which the segment at offset 0
opens. `key` names the transfer on its route. -/
def Node.readSeg (n : Node) (route o off len : Nat) (key : Nat × Nat) : Node × SegAns :=
  match n.objRow o with
  | none => (n, { status := 1 })
  | some row =>
    if !isLong row then
      (if off == 0 && n.sizeOf o ≤ len then
        (n.afterRead o, { status := 0, last := true, data := leBytes (n.sizeOf o) (n.view route o) })
      else (n, { status := 4 }))
    else if off == 0 then
      n.opening route o 1 key (fun n => (if (n.routeOf route).mode == 0 then n.openRead route o key else n).readOpen route off len)
    else if (n.routeOf route).mode == 1 && !n.otherOpen route o 1 key then n.readOpen route off len
    else if (n.routeOf route).dead.contains key then (n, { status := 0xB })
    else (n, { status := 4 })

/-- The write that a route completes. -/
def routedWrite (route src lane o off : Nat) (data : List Nat) : PendWrite :=
  { via := route, src := src, port := lane, obj := o, off := off, data := data }

/-- A segment of an open write transfer: in order, gathered, and with the last one the write completes (16 R441). -/
def Node.writeOpen (n : Node) (route src lane off : Nat) (data : List Nat) (last : Bool) : Node × SegAns :=
  let r := n.routeOf route
  if (r.lo.isSome && off != r.hi) || bufferSize < off + data.length then (n, { status := 4 })
  else
    let g := r.gather off n.tb1 data
    if last then
      let (n1, st) := (n.closeTransfer route).tryWrite (routedWrite route src lane r.oid (g.lo.getD 0) g.gathered)
      (n1, { status := st })
    else (n.modRoute route (fun _ => g), { status := 0 })

/-- A write segment (16 R441, R442, R447): the whole of a short object, or a segment gathered for a long one, completed by the last. -/
def Node.writeSeg (n : Node) (route src lane o off : Nat) (data : List Nat) (last : Bool) (key : Nat × Nat) : Node × SegAns :=
  match n.objRow o with
  | none => (n, { status := 1 })
  | some row =>
    if !isLong row then
      (if last then
        let (n1, st) := n.tryWrite (routedWrite route src lane o off data)
        (n1, { status := st })
      else (n, { status := 4 }))
    else if (n.routeOf route).dead.contains key then
      (if last then n.modRoute route (fun r => { r with dead := r.dead.filter (· != key) }) else n, { status := 0xB })
    else n.opening route o 2 key (fun n =>
      (if (n.routeOf route).mode == 0 then n.openWrite route o key else n).writeOpen route src lane off data last)

/-! ### The register port -/

/-- A word access of the register port ends: its status is on the port and in object 0x1801.01, and a transfer that ends is an access
(16 R443, R444). -/
def Node.portEnd (n : Node) (st data : Nat) (whole : Bool) : Node :=
  let n1 := if whole || st != 0 then n.accessEnd 0 st else n.wr Ob.acc_registerPortStatus st
  n1.modAnswer 0 (fun _ => { status := st, data := if st == 0 then data else 0, len := if st == 0 then 4 else 0 })

/-- The route of the register port keeps the last status of its long transfers (16 R446). -/
def Node.longEnd (n : Node) (st data : Nat) (whole : Bool) : Node := (n.modRoute 0 (fun r => { r with stat := st })).portEnd st data whole

/-- The word at a position of a number of bytes. -/
def wordAt (v pos : Nat) : Nat := v / 256 ^ pos % 2 ^ 32

/-- The window of a long object takes an access of `f`; an object that is not there answers 0x1, and in the window of a short one these
words hold nothing (16 R444 to R446). -/
def Node.longWindow (n : Node) (o : Nat) (f : Node → Node) : Node :=
  match n.objRow o with
  | none => n.portEnd 1 0 false
  | some row => if isLong row then f (n.modRoute 0 (fun r => { r with wrOid := if r.wrOid == some o then r.wrOid else none })) else n.portEnd 0 0 false

/-- Control 1: the open transfer is abandoned and a read opens with its snapshot; the position stays (16 R442, R446). -/
def longOpenRead (o : Nat) (n : Node) : Node :=
  when n.served (fun n => n.longWindow o (fun n => ((n.abandon 0).openRead 0 o (o, 0)).longEnd 0 0 true)) n

/-- Control 2: the open transfer is abandoned and a write opens (16 R442, R446). -/
def longOpenWrite (o : Nat) (n : Node) : Node :=
  when n.served (fun n => n.longWindow o (fun n => ((n.abandon 0).openWrite 0 o (o, 0)).longEnd 0 0 false)) n

/-- A transfer of a mode is open for this object on the register port. -/
def Node.longOpen (n : Node) (o mode : Nat) : Bool := (n.routeOf 0).mode == mode && (n.routeOf 0).oid == o

/-- An access outside an open transfer: 0xB for one that was abandoned, otherwise 0x4 (16 R442, R446). -/
def Node.notOpen (n : Node) (o : Nat) : Node := n.longEnd (if (n.routeOf 0).dead.contains (o, 0) then 0xB else 4) 0 false

/-- Control 3: the gathered range is committed (16 R441, R446). -/
def longCommit (o : Nat) (n : Node) : Node :=
  when n.served (fun n => n.longWindow o (fun n =>
    if !n.longOpen o 2 then n.notOpen o
    else
      let r := n.routeOf 0
      let size := n.sizeOf o
      let data := if size < r.hi && r.hi < size + 4 && o != Ob.det_coreMap then r.gathered.take (size - r.lo.getD 0) else r.gathered
      let (n1, st) := (n.closeTransfer 0).tryWrite (routedWrite 0 0 0 o (r.lo.getD 0) data)
      n1.longEnd st 0 true)) n

/-- Control 0: the open transfer is abandoned (16 R446). -/
def longAbandon (o : Nat) (n : Node) : Node :=
  when n.served (fun n => n.longWindow o (fun n => (if (n.routeOf 0).oid == o then n.closeTransfer 0 else n).longEnd 0 0 false)) n

/-- The data register: 4 bytes of the snapshot at the position, or 4 bytes into the write buffer; the position advances (16 R446). -/
def longDataAccess (o : Nat) (write : Bool) (v : Nat) (n : Node) : Node :=
  when n.served (fun n => n.longWindow o (fun n =>
    let r := n.routeOf 0
    if write then
      (if !n.longOpen o 2 then n.notOpen o
      else if (r.lo.isSome && r.pos != r.hi) || bufferSize < r.pos + 4 then n.longEnd 4 0 false
      else (n.modRoute 0 (fun r => { r.gather r.pos n.tb1 (leBytes 4 v) with pos := r.pos + 4 })).longEnd 0 0 false)
    else if !n.longOpen o 1 then n.notOpen o
    else if r.len ≤ r.pos then n.longEnd 4 0 false
    else (n.modRoute 0 (fun r => { r with pos := r.pos + 4, touched := n.tb1 })).longEnd 0 (wordAt r.buf r.pos) false)) n

/-- The position register: a multiple of 4 (16 R446). -/
def longPosition (o v : Nat) (n : Node) : Node :=
  when n.served (fun n => n.longWindow o (fun n =>
    if v % 4 != 0 || bufferSize < v then n.longEnd 4 0 false else (n.modRoute 0 (fun r => { r with pos := v })).longEnd 0 0 false)) n

/-- The control register: state and last status (16 R446). -/
def Node.control (n : Node) (o : Nat) : Nat :=
  let r := n.routeOf 0
  put 31 28 (if r.oid == o then r.mode else 0) + r.stat % 16

/-- A read of a word of a short object: word 0 takes a snapshot of the object, a higher word returns the latch when it holds this object
(16 R445). -/
def shortRead (o word : Nat) (n : Node) : Node :=
  let r := n.routeOf 0
  if word != 0 && r.rdOid == some o then n.portEnd 0 (wordAt r.rdLatch (4 * word)) false
  else
    let v := n.view 0 o
    ((n.afterRead o).modRoute 0 (fun r => { r with rdOid := some o, rdLatch := v })).portEnd 0 (wordAt v (4 * word)) true

/-- A word access has the width and the alignment of the port (16 R444). -/
def wordOk (addr width : Nat) : Bool := width == 4 && addr % 4 == 0

/-- A read of a word at the register port (16 R444 to R446). -/
def regWordRead (addr width : Nat) (n : Node) : Node :=
  when n.served (fun n =>
    let o := addr / 16
    let word := addr / 4 % 4
    if !wordOk addr width then n.portEnd 4 0 false
    else match n.objRow o with
    | none => n.portEnd 1 0 false
    | some row =>
      if !isLong row then shortRead o word n
      else if word == 0 then longDataAccess o false 0 n
      else if word == 1 then n.portEnd 0 (n.routeOf 0).pos false
      else if word == 2 then n.portEnd 0 (if n.longOpen o 1 then (n.routeOf 0).len else n.sizeOf o) false
      else n.portEnd 0 (n.control o) false) n

/-- `REG_WORD_READ` (16 R445). -/
def execRegWordRead (addr width : Nat) (s : State) : Host.Outcome State Fault Refusal := onNode s .tsu true (regWordRead addr width)

/-- A word of a value replaced. -/
def putWord (v word x : Nat) : Nat := v - bits v (32 * word) 32 * 2 ^ (32 * word) + x % 2 ^ 32 * 2 ^ (32 * word)

/-- A word written to a short object: merged into the write latch, which starts from the object's value; the word of the highest byte
completes the write, and a word beyond the object is ignored (16 R445). -/
def shortWrite (o word v : Nat) (n : Node) : Node :=
  let size := n.sizeOf o
  if size ≤ 4 * word then n.portEnd 0 0 false
  else
    let r := n.routeOf 0
    let x := putWord (if r.wrOid == some o then r.wrLatch else n.view 0 o) word v
    if (size - 1) / 4 == word then
      let (n1, st) := (n.modRoute 0 (fun r => { r with wrOid := none, wrLatch := 0 })).tryWrite (routedWrite 0 0 0 o 0 (leBytes size x))
      n1.portEnd st 0 true
    else (n.modRoute 0 (fun r => { r with wrOid := some o, wrLatch := x })).portEnd 0 0 false

/-- A write of a word at the register port; a word for another object's window discards the write latch (16 R444 to R446). -/
def regWordWrite (addr width v : Nat) (n : Node) : Node :=
  when n.served (fun n =>
    let o := addr / 16
    let word := addr / 4 % 4
    if !wordOk addr width then n.portEnd 4 0 false
    else
      let n0 := if (n.routeOf 0).wrOid == some o then n else n.modRoute 0 (fun r => { r with wrOid := none, wrLatch := 0 })
      match n0.objRow o with
      | none => n0.portEnd 1 0 false
      | some row =>
        if !isLong row then shortWrite o word v n0
        else if word == 0 then longDataAccess o true v n0
        else if word == 1 then longPosition o v n0
        else if word == 2 then n0.portEnd 0 0 false
        else if v == 1 then longOpenRead o n0
        else if v == 2 then longOpenWrite o n0
        else if v == 3 then longCommit o n0
        else if v == 0 then longAbandon o n0
        else n0.portEnd 3 0 false) n

/-- `REG_WORD_WRITE` (16 R445). -/
def execRegWordWrite (addr width v : Nat) (s : State) : Host.Outcome State Fault Refusal := onNode s .tsu true (regWordWrite addr width v)

/-- `LONG_OPEN_READ` (16 R446). -/
def execLongOpenRead (obj : Nat) (s : State) : Host.Outcome State Fault Refusal := onNode s .tsu true (longOpenRead obj)

/-- `LONG_OPEN_WRITE` (16 R446). -/
def execLongOpenWrite (obj : Nat) (s : State) : Host.Outcome State Fault Refusal := onNode s .tsu true (longOpenWrite obj)

/-- `LONG_COMMIT` (16 R441). -/
def execLongCommit (obj : Nat) (s : State) : Host.Outcome State Fault Refusal := onNode s .tsu true (longCommit obj)

/-- `LONG_ABANDON` (16 R446). -/
def execLongAbandon (obj : Nat) (s : State) : Host.Outcome State Fault Refusal := onNode s .tsu true (longAbandon obj)

/-- `LONG_DATA_ACCESS` (16 R446). -/
def execLongDataAccess (obj : Nat) (write : Bool) (v : Nat) (s : State) : Host.Outcome State Fault Refusal :=
  onNode s .tsu true (longDataAccess obj write v)

/-- `LONG_POSITION_WRITE` (16 R446). -/
def execLongPositionWrite (obj v : Nat) (s : State) : Host.Outcome State Fault Refusal := onNode s .tsu true (longPosition obj v)

/-- A transfer without a segment for 1 s is abandoned (16 R442). -/
def transferTimeout (route : Nat) (n : Node) : Node :=
  when ((n.routeOf route).mode != 0 && (n.routeOf route).touched + transferIdle ≤ n.tb1) (fun n => n.abandon route) n

/-- `TRANSFER_ABANDON_TIMEOUT` (16 R442): routes of a TSU are 0 and 1, of a hub 1 and 2 + 2 o + m. -/
def execTransferAbandonTimeout (u : Who) (route : Nat) (s : State) : Host.Outcome State Fault Refusal :=
  onNode s u (if u == .tsu then decide (route < 2) else decide (1 ≤ route) && decide (route < 34)) (transferTimeout route)

/-! ### Relay -/

/-- Fields of an OBJECT message's head (16 R447). -/
def oKind (m : Msg) : Nat := fld m.head 127 124
/-- Destination. -/
def oDst (m : Msg) : Nat := fld m.head 123 104
/-- Source. -/
def oSrc (m : Msg) : Nat := fld m.head 103 84
/-- Tag. -/
def oTag (m : Msg) : Nat := fld m.head 83 72
/-- Object. -/
def oObj (m : Msg) : Nat := fld m.head 71 48
/-- Offset. -/
def oOff (m : Msg) : Nat := fld m.head 47 32
/-- Length. -/
def oLen (m : Msg) : Nat := fld m.head 31 25
/-- Last. -/
def oLast (m : Msg) : Bool := bit m.head 24
/-- Status. -/
def oStatus (m : Msg) : Nat := fld m.head 23 20

/-- Where an OBJECT message is bound: a request to its destination, a RESPONSE back to its source (16 R447, R449). -/
def oTarget (m : Msg) : Nat := if oKind m == 3 then oSrc m else oDst m

/-- An OBJECT message of a kind that this node serves: at a hub one bound for it that did not come over a twin lane (16 R449, R450). -/
def Node.servesObj (n : Node) (p kind : Nat) (m : Msg) : Bool :=
  m.typ == tObject && oKind m == kind && (!n.isHub || (p < 66 && oTarget m == n.ident))

/-- A RESPONSE goes back: from a TSU on the lane that delivered the request, or on the other one while that is below SYNCED; from a hub on
the route to the source (16 R449, R450). -/
def Node.respond (n : Node) (p : Nat) (req : Msg) (a : SegAns) : Node :=
  let m := objResponse req.head a.data.length (ofB a.last) a.status (payloadCells a.data)
  if !n.isHub then n.send (if 5 ≤ n.lst p then p else 1 - p) m
  else match n.relayHop (oSrc req) with
  | .port q => if 5 ≤ n.lst q then n.send q m else n.bump Ob.acc_relayDropped
  | _ => n.bump Ob.acc_relayDropped

/-- A READ is served on the relay route and answered (16 R447, R450). -/
def objectReadRequest (p : Nat) (n : Node) : Node :=
  n.onMsg p (n.servesObj p 1) (fun m n =>
    let (n1, a) := if 96 < oLen m then (n, { status := 4 }) else n.readSeg 1 (oObj m) (oOff m) (oLen m) (oSrc m, oTag m)
    (n1.segEnd 1 a.status a.last).respond p m a)

/-- `OBJECT_READ_REQUEST` (16 R447). -/
def execObjectReadRequest (u : Who) (p : Nat) (s : State) : Host.Outcome State Fault Refusal :=
  onNode s u ((s.node u).hasPort p) (objectReadRequest p)

/-- A WRITE segment is gathered, or completes the write, and is answered without payload (16 R447, R450). -/
def objectWriteRequest (p : Nat) (n : Node) : Node :=
  n.onMsg p (n.servesObj p 2) (fun m n =>
    let (n1, a) :=
      if 96 < oLen m then (n, { status := 4 })
      else n.writeSeg 1 (oSrc m) p (oObj m) (oOff m) (payloadBytes m (oLen m)) (oLast m) (oSrc m, oTag m)
    (n1.segEnd 1 a.status (oLast m)).respond p m a)

/-- `OBJECT_WRITE_REQUEST` (16 R447). -/
def execObjectWriteRequest (u : Who) (p : Nat) (s : State) : Host.Outcome State Fault Refusal :=
  onNode s u ((s.node u).hasPort p) (objectWriteRequest p)

/-- An ABANDON ends the source's open transfer with its tag, unanswered (16 R447). -/
def objectAbandon (p : Nat) (n : Node) : Node :=
  n.onMsg p (n.servesObj p 4) (fun m n =>
    let r := n.routeOf 1
    if r.mode != 0 && r.src == oSrc m && r.tag == oTag m then n.closeTransfer 1 else n)

/-- `OBJECT_ABANDON` (16 R447). -/
def execObjectAbandon (u : Who) (p : Nat) (s : State) : Host.Outcome State Fault Refusal :=
  onNode s u ((s.node u).hasPort p) (objectAbandon p)

/-- An OBJECT message that is not for this hub is passed on towards its target; over a twin lane, above a Keystone and to a link below
SYNCED it is dropped, and a request dropped at a downlink is answered with route lost (16 R449). -/
def relayForward (p : Nat) (n : Node) : Node :=
  n.onMsg p (fun m => m.typ == tObject && (66 ≤ p || oTarget m != n.ident)) (fun m n =>
    let lost := n.bump Ob.acc_relayDropped
    if 66 ≤ p then lost
    else match n.relayHop (oTarget m) with
    | .port q =>
      if 5 ≤ n.lst q then n.forward p q m
      else if q < 64 && (oKind m == 1 || oKind m == 2) then lost.respond p m { status := 7 }
      else lost
    | _ => lost)

/-- `OBJECT_RELAY_FORWARD` (16 R449). -/
def execObjectRelayForward (p : Nat) (s : State) : Host.Outcome State Fault Refusal := onNode s .hub (s.hub.hasPort p) (relayForward p)

end Sys2Proof.Machine
end

