-- ==== Sys2Proof/Machine/Goa.lean ====
section
/-! DEFINITION. Grennu Object Access at a hub (16 R452 to R458): requests are authenticated, kept apart by their sequence, executed operation by
operation, here or by relay, and answered. -/

namespace Sys2Proof.Machine

/-! ### Payloads -/

/-- Flags, operation count, operator and target of a payload (16 R453). -/
def goaCount (b : List Nat) : Nat := b.getD 3 0
/-- Operator field. -/
def goaOperator (b : List Nat) : Nat := leVal ((b.drop 4).take 2)
/-- Sequence. -/
def goaSeq (b : List Nat) : Nat := leVal ((b.drop 8).take 8)
/-- Target: a die number or hub identity, 0xF_FFFF for the receiving hub. -/
def goaTarget (b : List Nat) : Nat := leVal ((b.drop 16).take 4) % 2 ^ 20

/-- One operation of a request (16 R453). -/
structure GoaOp where
  /-- 1 read, 2 write, 3 abandon. -/
  op : Nat
  /-- Completes the transfer. -/
  last : Bool
  /-- Object. -/
  oid : Nat
  /-- Bytes wanted or written. -/
  len : Nat
  /-- Byte offset. -/
  off : Nat
  /-- Data of a write. -/
  data : List Nat
  deriving DecidableEq, Repr

/-- Bytes padded with zeros to a multiple of 4 (16 R453). -/
def pad4 (b : List Nat) : List Nat := b ++ List.replicate ((4 - b.length % 4) % 4) 0

/-- The header of an operation and the bytes of data that follow it. -/
def goaOpAt (b : List Nat) : GoaOp :=
  let len := leVal ((b.drop 6).take 2)
  let op := b.getD 0 0
  { op := op, last := bit (b.getD 1 0) 0, oid := leVal ((b.drop 2).take 2) * 256 + b.getD 4 0, len := len
    off := leVal ((b.drop 8).take 2), data := if op == 2 then (b.drop 12).take len else [] }

/-- The operations of a payload; none where its length does not agree with their count (16 R454). -/
def parseOps : Nat → List Nat → Option (List GoaOp)
  | 0, b => if b.isEmpty then some [] else none
  | k + 1, b =>
    let o := goaOpAt b
    let size := 12 + (if o.op == 2 then (o.len + 3) / 4 * 4 else 0)
    if b.length < size then none else (parseOps k (b.drop size)).map (o :: ·)

/-- The operations of a request: what lies between its header and its tag. -/
def goaOps (b : List Nat) : Option (List GoaOp) := parseOps (goaCount b) ((b.drop 24).take (b.length - 56))

/-- The tag of payload bytes under an operator's key (16 R454). -/
def goaTag (key : Nat) (b : List Nat) : List Nat := hmacSha256 (leBytes 32 key) b

/-- An operation of a response: its status, and the data, returned length and end of a read (16 R453). -/
def goaOpOut (o : GoaOp) (r : Nat × Bool × List Nat) : List Nat :=
  [o.op, ofB r.2.1] ++ leBytes 2 (o.oid / 256) ++ [o.oid % 256, r.1] ++ leBytes 2 r.2.2.length ++ leBytes 4 o.off ++ pad4 r.2.2

/-- A response without its tag: the request's header fields with flag bit 0 set, and the operations (16 R453). -/
def goaResponse (b : List Nat) (ops : List GoaOp) (outs : List (Nat × Bool × List Nat)) : List Nat :=
  leBytes 2 1 ++ [1, goaCount b] ++ leBytes 2 (goaOperator b) ++ [0, 0] ++ leBytes 8 (goaSeq b) ++ leBytes 4 (goaTarget b) ++ leBytes 4 0 ++
  (ops.zip outs).flatMap (fun x => goaOpOut x.1 x.2)

/-! ### Executing operations -/

/-- An operator's role allows the operation (16 R455). -/
def roleAllows (role : Nat) (o : GoaOp) : Bool :=
  let idx := o.oid / 256
  role == 2 || o.op != 2 || (role == 1 && !(0x1900 ≤ idx && idx ≤ 0x1FFF) && !(0xF000 ≤ idx))

/-- The route of an operator on a management port (16 R442). -/
def goaRoute (q : GoaReq) : Nat := 2 + 2 * q.op + q.port

/-- An operation on the receiving hub. -/
def Node.goaHere (n : Node) (q : GoaReq) (o : GoaOp) : Node × SegAns :=
  let route := goaRoute q
  let key := (o.oid, 0)
  if o.op == 1 then n.readSeg route o.oid o.off o.len key
  else if o.op == 2 then n.writeSeg route q.seq 0 o.oid o.off o.data o.last key
  else (if (n.routeOf route).oid == o.oid then n.closeTransfer route else n, { status := 0 })

/-- The relayed transfer that an operation goes on with (16 R457): a read at offset 0 starts another. -/
def Node.xferOf (n : Node) (q : GoaReq) (o : GoaOp) : Option GoaXfer :=
  if o.op == 1 && o.off == 0 && q.part.isEmpty then none
  else n.access.xfers.find? (fun x => x.op == q.op && x.port == q.port && x.dst == goaTarget q.bytes && x.oid == o.oid && (o.op == 3 || x.write == (o.op == 2)))

/-- A relayed transfer is over. -/
def Node.endXfer (n : Node) (tag : Nat) : Node := n.modAccess (fun a => { a with xfers := a.xfers.filter (fun x => x.tag != tag) })

/-- The tag of the transfer of an operation; a new transfer takes the next one (16 R447, R457). -/
def Node.xferTag (n : Node) (q : GoaReq) (o : GoaOp) : Nat × Node :=
  match n.xferOf q o with
  | some x => (x.tag, n)
  | none =>
    let tag := n.freeTag
    let same := fun (x : GoaXfer) => x.op == q.op && x.port == q.port && x.dst == goaTarget q.bytes && x.oid == o.oid && x.write == (o.op == 2)
    (tag, n.modAccess (fun a =>
      { a with
        nextTag := (tag + 1) % 4096
        xfers := a.xfers.filter (fun x => !same x) ++ [{ op := q.op, port := q.port, dst := goaTarget q.bytes, oid := o.oid, write := o.op == 2, tag := tag }] }))

/-- The segment of an operation that is relayed next: at most 96 bytes from what has been moved; the last one carries the operation's `last`
(16 R457). A request without a route ends with status 0x7, as waits show by their absence. -/
def Node.relaySegment (n : Node) (q : GoaReq) (o : GoaOp) : Node × GoaReq × Option (Nat × Bool × List Nat) :=
  let (tag, n1) := n.xferTag q o
  let k := q.part.length
  let len := min 96 (o.len - k)
  let bytes := (o.data.drop k).take len
  let fin := o.last && k + len == o.len
  let (n2, left) := n1.sendRelay o.op (goaTarget q.bytes) tag o.oid (o.off + k) len (if o.op == 2 then ofB fin else 0) (if o.op == 2 then bytes else [])
  if left then (n2, { q with wait := some tag }, none) else (n2.endXfer tag, { q with part := [] }, some (7, false, []))

/-- An operation on another node (16 R457); an abandon is not answered (16 R447). -/
def Node.goaThere (n : Node) (q : GoaReq) (o : GoaOp) : Node × GoaReq × Option (Nat × Bool × List Nat) :=
  if o.op == 3 then
    match n.xferOf q o with
    | none => (n, q, some (0, false, []))
    | some x => (((n.sendRelay 4 x.dst x.tag o.oid 0 0 0 []).1).endXfer x.tag, q, some (0, false, []))
  else n.relaySegment q o

/-- An operation of a request begins or goes on: what its role forbids, what its length forbids, and then its execution (16 R453, R455,
R457). -/
def Node.goaOne (n : Node) (q : GoaReq) (o : GoaOp) : Node × GoaReq × Option (Nat × Bool × List Nat) :=
  let t := goaTarget q.bytes
  if o.op == 0 || 3 < o.op then (n, q, some (3, false, []))
  else if !roleAllows (fieldAt (n.rd (Ob.opr_operator q.op)) 1 1) o then (n.accessEnd (goaRoute q) 0xA, q, some (0xA, false, []))
  else if 1024 < o.len || (o.op == 1 && o.len == 0) then (n.accessEnd (goaRoute q) 4, q, some (4, false, []))
  else if t == 0xFFFFF || t == n.ident then
    let (n1, a) := n.goaHere q o
    (n1.segEnd (goaRoute q) a.status (o.op != 3 && (a.last || o.last)), q, some (a.status, a.last, a.data))
  else n.goaThere q o

/-- Bytes of a response with an operation's data added (16 R457). -/
def goaSize (q : GoaReq) (data : List Nat) : Nat :=
  56 + 12 * goaCount q.bytes + (q.outs.map (fun r => (pad4 r.2.2).length)).sum + (pad4 data).length

/-- An operation has its status; one whose response would be too long is answered with 0x4 (16 R457). -/
def GoaReq.ended (q : GoaReq) (r : Nat × Bool × List Nat) : GoaReq :=
  { q with outs := q.outs ++ [if 1232 < goaSize q r.2.2 then (4, false, []) else r], part := [], wait := none }

/-- The operations of a request in order, up to one that waits for a RESPONSE; after one that failed the others are answered with status 0x5
(16 R457). -/
def Node.goaRun : Nat → Node → GoaReq → Node × GoaReq
  | 0, n, q => (n, q)
  | fuel + 1, n, q =>
    if q.wait.isSome then (n, q)
    else match (((goaOps q.bytes).getD []).drop q.outs.length) with
    | [] => (n, q)
    | o :: _ =>
      if q.outs.any (fun r => r.1 != 0) then Node.goaRun fuel n (q.ended (5, false, []))
      else
        match n.goaOne q o with
        | (n1, q1, some r) => Node.goaRun fuel n1 (q1.ended r)
        | (n1, q1, none) => (n1, q1)

/-- What a RESPONSE, or the end of waiting for one, does to the operation that waits: the next segment, or its status (16 R457). -/
def Node.goaAnswer (n : Node) (q : GoaReq) (a : RelayAns) : Node × GoaReq :=
  match ((goaOps q.bytes).getD []).drop q.outs.length with
  | [] => (n, { q with wait := none })
  | o :: _ =>
    if a.status != 0 then (if a.status == 4 then n else n.endXfer a.tag, q.ended (a.status, false, []))
    else
      let moved := if o.op == 1 then q.part ++ a.data else o.data.take (q.part.length + 96)
      let fin := moved.length ≥ o.len || (o.op == 1 && (a.last || a.data.isEmpty))
      if fin then
        (if (o.op == 1 && a.last) || (o.op == 2 && o.last) then n.endXfer a.tag else n,
          q.ended (0, o.op == 1 && a.last, if o.op == 1 then moved else []))
      else (n, { q with part := moved, wait := none })

/-- One request goes on as far as it can: with the answer it waited for, and then with its next operations. -/
def Node.goaOn (n : Node) (q : GoaReq) : Node × GoaReq :=
  let (n1, q1) := match q.wait with
    | none => (n, q)
    | some tag => match n.access.replies.find? (fun (a : RelayAns) => a.tag == tag) with
      | none => (n, q)
      | some a => (n.modAccess (fun x => { x with replies := x.replies.filter (fun y => y.tag != tag) })).goaAnswer q a
  n1.goaRun 17 q1

/-- Every request that is being executed goes on, relay before management port 0 before management port 1, by operator (16 R458). -/
def Node.goaStep (n : Node) : Node :=
  if n.hpwr.fwDown then n
  else
    let order := sortBy (fun a b => decide (a.port * 16 + a.op ≤ b.port * 16 + b.op)) n.access.reqs
    overAll order (fun n q =>
      let (n1, q1) := n.goaOn q
      n1.modAccess (fun a => { a with reqs := a.reqs.map (fun x => if x.op == q.op && x.seq == q.seq then q1 else x) })) n

/-! ### Requests -/

/-- A refusal that is recorded at most once per operator and port in a second, and otherwise only counted (16 R454, 14 R385). -/
def Node.oncePerSecond (n : Node) (told : List (Nat × Nat)) (port : Nat) (r : FRec) (note : List (Nat × Nat) → Node → Node) : Node :=
  if told.any (fun e => e.1 == port && decide (n.tb1 < e.2 + tps)) then n.countCause r.cause
  else note (assocSet told port n.tb1) (n.fault r)

/-- A request that fails authentication is dropped without answer: counted, and cause 0x97 (16 R454, R473). -/
def Node.goaRefuse (n : Node) (port addr op kind : Nat) : Node :=
  (if op < 16 then n.bump (Ob.opr_authenticationFailures op) else n).oncePerSecond (n.operator op).toldAuth port
    { cause := 0x97, obj := put 15 0 op, detail := put 79 72 port + put 71 64 kind + put 63 0 addr }
    (fun t n => n.modOperator op (fun x => { x with toldAuth := t }))

/-- Why a request fails authentication: 1 format, 2 operator not valid, 3 tag, 4 length; 0 it does not (16 R454, R473). -/
def Node.goaCheck (n : Node) (b : List Nat) : Nat :=
  let op := goaOperator b
  let body := b.take (b.length - 32)
  if leVal (b.take 2) != 1 then 1
  else if 16 ≤ op || fieldAt (n.rd (Ob.opr_operator op)) 0 1 == 0 then 2
  else if b.length < 56 || goaTag (n.operator op).key body != b.drop (b.length - 32) then 3
  else if goaCount b == 0 || 16 < goaCount b || (goaOps b).isNone then 4
  else 0

/-- A stale request is dropped without answer: counted, and cause 0x98 (16 R456, R473). -/
def Node.goaStale (n : Node) (port op seq : Nat) : Node :=
  (n.bump (Ob.opr_staleRequests op)).oncePerSecond (n.operator op).toldStale port
    { cause := 0x98, obj := put 15 0 op, detail := put 79 72 port + put 63 0 seq }
    (fun t n => n.modOperator op (fun x => { x with toldStale := t }))

/-- A GOA payload leaves on a management port for an address (16 R452). -/
def Node.goaSend (n : Node) (port addr : Nat) (b : List Nat) : Node := n.modAccess (fun a => { a with goaOut := a.goaOut ++ [(port, addr, b)] })

/-- An accepted request: H takes its sequence, which is stored once 65,536 have passed, and it is to be executed (16 R456, R457). -/
def Node.goaAccept (n : Node) (port addr op : Nat) (b : List Nat) : Node :=
  let seq := goaSeq b
  let n1 := (n.wr (Ob.opr_highestSequence op) seq).bump (Ob.opr_requestsAccepted op)
  let n2 := if (n.operator op).stored + 65536 ≤ seq then n1.modOperator op (fun x => { x with stored := seq }) else n1
  n2.modAccess (fun a => { a with reqs := a.reqs ++ [{ op := op, port := port, addr := addr, bytes := b }] })

/-- A GOA datagram: dropped when it is too long or while the firmware restarts; authenticated; kept apart by its sequence; taken to be executed
(16 R452, R454, R456). -/
def goaRequest (port addr : Nat) (b : List Nat) (n : Node) : Node :=
  when (!n.hpwr.fwDown && b.length ≤ 1232) (fun n =>
    let op := goaOperator b
    let why := n.goaCheck b
    if why != 0 then n.goaRefuse port addr op why
    else if n.rd (Ob.opr_highestSequence op) < goaSeq b then n.goaAccept port addr op b
    else match (n.operator op).cache.find? (fun e => e.1 == goaSeq b) with
    | some e =>
      let again := e.2.take 2 ++ [3] ++ e.2.drop 3
      n.goaSend port addr (again ++ goaTag (n.operator op).key again)
    | none => n.goaStale port op (goaSeq b)) n

/-- The relayed request that a port has first is served (16 R447). -/
def serveObject (p : Nat) (n : Node) : Node :=
  match n.peek p (fun m => n.servesObj p 1 m || n.servesObj p 2 m || n.servesObj p 4 m) with
  | none => n
  | some m => if oKind m == 1 then objectReadRequest p n else if oKind m == 2 then objectWriteRequest p n else objectAbandon p n

/-- Relayed accesses complete before the GOA accesses of their tick (16 R458). -/
def Node.relayFirst (n : Node) : Node :=
  overAll (upTo 66) (fun n p => overAll (n.linkOf p).taken (fun n _ => serveObject p n) n) n

/-- A request that waits on this tick comes first: one on `MGT0`, or one of a lower operator on the same port (16 R458). -/
def State.goaWaits (s : State) (port op : Nat) : Bool :=
  s.waits (fun i => match i with
    | .goaRequest q _ d => decide (q < 2) && decide (q * 65536 + goaOperator d < port * 65536 + op)
    | _ => false)

/-- `GOA_REQUEST` (16 R454): what it asks is executed after the relayed accesses of the tick and the requests that come first (16 R458). -/
def execGoaRequest (port addr : Nat) (dgram : List Nat) (s : State) : Host.Outcome State Fault Refusal :=
  onNode s .hub (decide (port < 2)) (fun n =>
    let n1 := goaRequest port addr dgram n.relayFirst
    if s.goaWaits port (goaOperator dgram) then n1 else n1.goaStep)

/-- Every operation of a request has its status (16 R457). -/
def GoaReq.whole (q : GoaReq) : Bool := q.wait.isNone && q.outs.length == goaCount q.bytes

/-- Keys written by a request take effect once its response has been sent (16 R455). -/
def Node.newKeys (n : Node) (op seq : Nat) : Node :=
  n.modAccess (fun a =>
    { a with ops := a.ops.map (fun e => match e.2.newKey with
      | some k => (e.1, if e.2.keyBy == (op, seq) then { e.2 with key := k, newKey := none } else e.2)
      | none => e) })

/-- A request whose operations have their statuses is answered: the response is tagged with the operator's key, sent to the request's address
on its port, and held among the operator's last 32 (16 R452, R454 to R457). -/
def goaResponseSend (op : Nat) (n : Node) : Node :=
  when (!n.hpwr.fwDown) (fun n =>
    let n0 := n.relayFirst.goaStep
    match n0.access.reqs.find? (fun q => q.op == op && q.whole) with
    | none => n0
    | some q =>
      let b := goaResponse q.bytes ((goaOps q.bytes).getD []) q.outs
      let n1 := n0.goaSend q.port q.addr (b ++ goaTag (n0.operator op).key b)
      let n2 := n1.modOperator op (fun x => { x with cache := (x.cache ++ [(q.seq, b)]).drop (x.cache.length + 1 - 32) })
      (n2.modAccess (fun a => { a with reqs := a.reqs.filter (fun x => !(x.op == op && x.seq == q.seq)) })).newKeys op q.seq) n

/-- `GOA_RESPONSE_SEND` (16 R457). -/
def execGoaResponseSend (op : Nat) (s : State) : Host.Outcome State Fault Refusal := onNode s .hub (decide (op < 16)) (goaResponseSend op)

/-! ### Answers of relayed requests -/

/-- A RESPONSE completes the relayed request of its tag; a lane entry that it wrote is current, and a GOA request that waited goes on
(16 R451, R457; 15 R412). -/
def responseReceived (p : Nat) (n : Node) : Node :=
  n.onMsg p (n.servesObj p 3) (fun m n =>
    match n.access.relays.find? (fun r => r.tag == oTag m) with
    | none => n
    | some r =>
      let n1 := n.relayEnded r (oStatus m) (oLast m) (payloadBytes m (oLen m))
      (if oStatus m == 0 then n1.laneWritten r else n1).goaStep)

/-- `OBJECT_RESPONSE_RECEIVED` (16 R451). -/
def execObjectResponseReceived (p : Nat) (s : State) : Host.Outcome State Fault Refusal :=
  onNode s .hub (s.hub.hasPort p) (responseReceived p)

/-- A relayed request without a RESPONSE for 1 s ends with status 0x9 (16 R451). -/
def relayTimeout (tag : Nat) (n : Node) : Node :=
  match n.access.relays.find? (fun r => r.tag == tag) with
  | none => n
  | some r => when (r.tick0 + tps ≤ n.tb1) (fun n => (n.relayEnded r 9 false []).goaStep) n

/-- `RELAY_TIMEOUT` (16 R451). -/
def execRelayTimeout (tag : Nat) (s : State) : Host.Outcome State Fault Refusal := onNode s .hub true (relayTimeout tag)

end Sys2Proof.Machine
end

