-- ==== Sys2Proof/Machine/Dispatch.lean ====
section
/-! DEFINITION. The dispatch: one arm per command. -/

namespace Sys2Proof.Machine

/-- The effect of a command on everything but the queue. -/
def exec (i : Instr) (s : State) : Host.Outcome State Fault Refusal :=
  match i with
  | .linkEnableWrite u p v => Sys2Proof.Machine.execLinkEnableWrite u p v s
  | .linkRestart u p => Sys2Proof.Machine.execLinkRestart u p s
  | .sendWakePattern u p => Sys2Proof.Machine.execSendWakePattern u p s
  | .lossOfSignal u p => Sys2Proof.Machine.execLossOfSignal u p s
  | .frameLockLost u p => Sys2Proof.Machine.execFrameLockLost u p s
  | .darkRetry u p sig => Sys2Proof.Machine.execDarkRetry u p sig s
  | .wakeComplete u p => Sys2Proof.Machine.execWakeComplete u p s
  | .trainLock u p => Sys2Proof.Machine.execTrainLock u p s
  | .linkStateTimeout u p => Sys2Proof.Machine.execLinkStateTimeout u p s
  | .helloReceived u p => Sys2Proof.Machine.execHelloReceived u p s
  | .linkSynced u p => Sys2Proof.Machine.execLinkSynced u p s
  | .memberHoldReached u p => Sys2Proof.Machine.execMemberHoldReached u p s
  | .memberLockLoss u p => Sys2Proof.Machine.execMemberLockLoss u p s
  | .frameReceived u p frame stamp sym => Sys2Proof.Machine.execFrameReceived u p frame stamp sym s
  | .frameSend u p => Sys2Proof.Machine.execFrameSend u p s
  | .uncorrectableWindowEnd u p => Sys2Proof.Machine.execUncorrectableWindowEnd u p s
  | .faultSlotReceived u p => Sys2Proof.Machine.execFaultSlotReceived u p s
  | .timeMessageReceived u p => Sys2Proof.Machine.execTimeMessageReceived u p s
  | .markerServo u built => Sys2Proof.Machine.execMarkerServo u built s
  | .revertHoldExpiry u built => Sys2Proof.Machine.execRevertHoldExpiry u built s
  | .keystoneRootWaitExpiry => Sys2Proof.Machine.execKeystoneRootWaitExpiry s
  | .planeDisagreement u => Sys2Proof.Machine.execPlaneDisagreement u s
  | .closureApply => Sys2Proof.Machine.execClosureApply s
  | .closureMeasure => Sys2Proof.Machine.execClosureMeasure s
  | .closureDone meas => Sys2Proof.Machine.execClosureDone meas s
  | .closureTrackingRun meas => Sys2Proof.Machine.execClosureTrackingRun meas s
  | .podOffsetWrite u p v => Sys2Proof.Machine.execPodOffsetWrite u p v s
  | .podEvaluationDone u p => Sys2Proof.Machine.execPodEvaluationDone u p s
  | .tdcEdge u c code edge => Sys2Proof.Machine.execTdcEdge u c code edge s
  | .dllLockChange u c locked => Sys2Proof.Machine.execDllLockChange u c locked s
  | .calibrationPeriodStart u c => Sys2Proof.Machine.execCalibrationPeriodStart u c s
  | .calibrateCommand u => Sys2Proof.Machine.execCalibrateCommand u s
  | .calibrationCollectionEnd u c counts => Sys2Proof.Machine.execCalibrationCollectionEnd u c counts s
  | .slotClose u k => Sys2Proof.Machine.execSlotClose u k s
  | .regressionStop u g => Sys2Proof.Machine.execRegressionStop u g s
  | .regressionOneGate u g => Sys2Proof.Machine.execRegressionOneGate u g s
  | .regressionContinuous u g => Sys2Proof.Machine.execRegressionContinuous u g s
  | .regressionGateEnd u g => Sys2Proof.Machine.execRegressionGateEnd u g s
  | .keystoneMarker ranks track => Sys2Proof.Machine.execKeystoneMarker ranks track s
  | .monitorGateEnd input => Sys2Proof.Machine.execMonitorGateEnd input s
  | .esmcPduReceived port pdu => Sys2Proof.Machine.execEsmcPduReceived port pdu s
  | .esmcTimeout input => Sys2Proof.Machine.execEsmcTimeout input s
  | .waitToRestoreExpiry input => Sys2Proof.Machine.execWaitToRestoreExpiry input s
  | .referenceServoUpdate => Sys2Proof.Machine.execReferenceServoUpdate s
  | .holdoverBudgetReached => Sys2Proof.Machine.execHoldoverBudgetReached s
  | .dcoHistoryRecord => Sys2Proof.Machine.execDcoHistoryRecord s
  | .dacDiscipline => Sys2Proof.Machine.execDacDiscipline s
  | .priorityTableWrite v => Sys2Proof.Machine.execPriorityTableWrite v s
  | .hallSecondRoll => Sys2Proof.Machine.execHallSecondRoll s
  | .hallLabelWrite v => Sys2Proof.Machine.execHallLabelWrite v s
  | .timeSourceEdge stamp => Sys2Proof.Machine.execTimeSourceEdge stamp s
  | .realignStart => Sys2Proof.Machine.execRealignStart s
  | .realignStop => Sys2Proof.Machine.execRealignStop s
  | .twinKeystoneReceived p => Sys2Proof.Machine.execTwinKeystoneReceived p s
  | .keystoneTakeover => Sys2Proof.Machine.execKeystoneTakeover s
  | .outputPulse k => Sys2Proof.Machine.execOutputPulse k s
  | .outputSettingEffective k => Sys2Proof.Machine.execOutputSettingEffective k s
  | .tbSet k apply arg => Sys2Proof.Machine.execTbSet k apply arg s
  | .tbStep k apply arg => Sys2Proof.Machine.execTbStep k apply arg s
  | .tbSlew k apply arg => Sys2Proof.Machine.execTbSlew k apply arg s
  | .tbCancelSlew k apply => Sys2Proof.Machine.execTbCancelSlew k apply s
  | .tbCommandApply k => Sys2Proof.Machine.execTbCommandApply k s
  | .tbSlewEnd k => Sys2Proof.Machine.execTbSlewEnd k s
  | .tbIncrementWrite k v => Sys2Proof.Machine.execTbIncrementWrite k v s
  | .tbModeChange v => Sys2Proof.Machine.execTbModeChange v s
  | .hallAnchorWrite v => Sys2Proof.Machine.execHallAnchorWrite v s
  | .anchorDistribution dies => Sys2Proof.Machine.execAnchorDistribution dies s
  | .captureRecordRead input => Sys2Proof.Machine.execCaptureRecordRead input s
  | .pulseOutputPlace k => Sys2Proof.Machine.execPulseOutputPlace k s
  | .interruptEvent src => Sys2Proof.Machine.execInterruptEvent src s
  | .interruptAcknowledge v => Sys2Proof.Machine.execInterruptAcknowledge v s
  | .busFrameSend ringX ringY => Sys2Proof.Machine.execBusFrameSend ringX ringY s
  | .agentLaunch r edge => Sys2Proof.Machine.execAgentLaunch r edge s
  | .agentCut r => Sys2Proof.Machine.execAgentCut r s
  | .agentAbort r => Sys2Proof.Machine.execAgentAbort r s
  | .agentCensus r => Sys2Proof.Machine.execAgentCensus r s
  | .busFrameReceived r lane frame built => Sys2Proof.Machine.execBusFrameReceived r lane frame built s
  | .tickLaneLost r lane noClock built => Sys2Proof.Machine.execTickLaneLost r lane noClock built s
  | .noLaneExpiry r => Sys2Proof.Machine.execNoLaneExpiry r s
  | .bypassEngage r => Sys2Proof.Machine.execBypassEngage r s
  | .bypassRelease r => Sys2Proof.Machine.execBypassRelease r s
  | .agentMarker r cyc edge diff => Sys2Proof.Machine.execAgentMarker r cyc edge diff s
  | .agentLanesDisagree r => Sys2Proof.Machine.execAgentLanesDisagree r s
  | .runComplete r edge => Sys2Proof.Machine.execRunComplete r edge s
  | .runDeadline r => Sys2Proof.Machine.execRunDeadline r s
  | .stretchPulse r => Sys2Proof.Machine.execStretchPulse r s
  | .marginWarnEpisode r ticks => Sys2Proof.Machine.execMarginWarnEpisode r ticks s
  | .fchgRequest r e => Sys2Proof.Machine.execFchgRequest r e s
  | .fchgGrant r => Sys2Proof.Machine.execFchgGrant r s
  | .fchgAck r cyc edge => Sys2Proof.Machine.execFchgAck r cyc edge s
  | .fchgReqLow r => Sys2Proof.Machine.execFchgReqLow r s
  | .stopWindowOverrun r => Sys2Proof.Machine.execStopWindowOverrun r s
  | .stopTimeout r => Sys2Proof.Machine.execStopTimeout r s
  | .viaductWrite v data => Sys2Proof.Machine.execViaductWrite v data s
  | .viaductRead v cycle => Sys2Proof.Machine.execViaductRead v cycle s
  | .viaductStalledDelivery v => Sys2Proof.Machine.execViaductStalledDelivery v s
  | .viaductTickDelivery v => Sys2Proof.Machine.execViaductTickDelivery v s
  | .viaductSever v => Sys2Proof.Machine.execViaductSever v s
  | .tableCommit t => Sys2Proof.Machine.execTableCommit t s
  | .tableCommitDone t => Sys2Proof.Machine.execTableCommitDone t s
  | .tableEmpty t => Sys2Proof.Machine.execTableEmpty t s
  | .tableStorageError t k => Sys2Proof.Machine.execTableStorageError t k s
  | .actionCommit c => Sys2Proof.Machine.execActionCommit c s
  | .entryNop c => Sys2Proof.Machine.execEntryNop c s
  | .entryWait c => Sys2Proof.Machine.execEntryWait c s
  | .waitResume c => Sys2Proof.Machine.execWaitResume c s
  | .entrySignal c => Sys2Proof.Machine.execEntrySignal c s
  | .entryArrive c => Sys2Proof.Machine.execEntryArrive c s
  | .entryClear c => Sys2Proof.Machine.execEntryClear c s
  | .entryBranch c => Sys2Proof.Machine.execEntryBranch c s
  | .entryGate c => Sys2Proof.Machine.execEntryGate c s
  | .entryMark c => Sys2Proof.Machine.execEntryMark c s
  | .entryAudit c => Sys2Proof.Machine.execEntryAudit c s
  | .entryPulse c => Sys2Proof.Machine.execEntryPulse c s
  | .entryLoop c => Sys2Proof.Machine.execEntryLoop c s
  | .entryEnd c => Sys2Proof.Machine.execEntryEnd c s
  | .markRead c => Sys2Proof.Machine.execMarkRead c s
  | .releaseAccumulator v => Sys2Proof.Machine.execReleaseAccumulator v s
  | .deadlineEvaluation c => Sys2Proof.Machine.execDeadlineEvaluation c s
  | .stepEnd c => Sys2Proof.Machine.execStepEnd c s
  | .armReceived p => Sys2Proof.Machine.execArmReceived p s
  | .armAckHeldRelease c => Sys2Proof.Machine.execArmAckHeldRelease c s
  | .confirmReceived p => Sys2Proof.Machine.execConfirmReceived p s
  | .recallReceived p => Sys2Proof.Machine.execRecallReceived p s
  | .escrowGuardExpiry c => Sys2Proof.Machine.execEscrowGuardExpiry c s
  | .stepFire c => Sys2Proof.Machine.execStepFire c s
  | .recalledFReached c => Sys2Proof.Machine.execRecalledFReached c s
  | .headArmLeave k => Sys2Proof.Machine.execHeadArmLeave k s
  | .escrowHandoffReceived p => Sys2Proof.Machine.execEscrowHandoffReceived p s
  | .escrowHandoffMissing k => Sys2Proof.Machine.execEscrowHandoffMissing k s
  | .escrowDownForward p => Sys2Proof.Machine.execEscrowDownForward p s
  | .armAckReceived p => Sys2Proof.Machine.execArmAckReceived p s
  | .escrowSetChange p => Sys2Proof.Machine.execEscrowSetChange p s
  | .escrowHorizon span ctx step attempt => Sys2Proof.Machine.execEscrowHorizon span ctx step attempt s
  | .totalReceived p => Sys2Proof.Machine.execTotalReceived p s
  | .escrowDecision k => Sys2Proof.Machine.execEscrowDecision k s
  | .twinLost => Sys2Proof.Machine.execTwinLost s
  | .twinLeadReceived p => Sys2Proof.Machine.execTwinLeadReceived p s
  | .leadReclaim => Sys2Proof.Machine.execLeadReclaim s
  | .twinLeadSend => Sys2Proof.Machine.execTwinLeadSend s
  | .headEntryStart k => Sys2Proof.Machine.execHeadEntryStart k s
  | .headEntryStopAfter k => Sys2Proof.Machine.execHeadEntryStopAfter k s
  | .headEntryStopNow k => Sys2Proof.Machine.execHeadEntryStopNow k s
  | .tallyInit r core req cyc inside => Sys2Proof.Machine.execTallyInit r core req cyc inside s
  | .tallySignal r core req cyc inside => Sys2Proof.Machine.execTallySignal r core req cyc inside s
  | .tallyArrive r core req cyc inside => Sys2Proof.Machine.execTallyArrive r core req cyc inside s
  | .tallyWait r core req cyc inside => Sys2Proof.Machine.execTallyWait r core req cyc inside s
  | .tallyUpMessage p => Sys2Proof.Machine.execTallyUpMessage p s
  | .arriveCombineSend slot => Sys2Proof.Machine.execArriveCombineSend slot s
  | .slotDecision slot => Sys2Proof.Machine.execSlotDecision slot s
  | .immediateDecision slot => Sys2Proof.Machine.execImmediateDecision slot s
  | .tallyReleaseReceived p moved => Sys2Proof.Machine.execTallyReleaseReceived p moved s
  | .tallyDownForward p => Sys2Proof.Machine.execTallyDownForward p s
  | .ledgerDecision c slot => Sys2Proof.Machine.execLedgerDecision c slot s
  | .releaseTick c slot => Sys2Proof.Machine.execReleaseTick c slot s
  | .ledgerReport r account bytes => Sys2Proof.Machine.execLedgerReport r account bytes s
  | .accountTableWrite first vals => Sys2Proof.Machine.execAccountTableWrite first vals s
  | .translationWrite c first vals => Sys2Proof.Machine.execTranslationWrite c first vals s
  | .tallyWaitTimeout span c tally unit => Sys2Proof.Machine.execTallyWaitTimeout span c tally unit s
  | .hostTallySignal h cmd => Sys2Proof.Machine.execHostTallySignal h cmd s
  | .hostTallyArrive h cmd => Sys2Proof.Machine.execHostTallyArrive h cmd s
  | .hostTallyWait h cmd => Sys2Proof.Machine.execHostTallyWait h cmd s
  | .hostCancelWait h => Sys2Proof.Machine.execHostCancelWait h s
  | .descriptorWrite d v => Sys2Proof.Machine.execDescriptorWrite d v s
  | .contributionWrite c h block => Sys2Proof.Machine.execContributionWrite c h block s
  | .partialReceived p => Sys2Proof.Machine.execPartialReceived p s
  | .elementSendUp e => Sys2Proof.Machine.execElementSendUp e s
  | .headRoundElement e => Sys2Proof.Machine.execHeadRoundElement e s
  | .headSendEnd e => Sys2Proof.Machine.execHeadSendEnd e s
  | .resultForward p => Sys2Proof.Machine.execResultForward p s
  | .resultReceived p => Sys2Proof.Machine.execResultReceived p s
  | .clearingResultTimeout c h => Sys2Proof.Machine.execClearingResultTimeout c h s
  | .engineConfigure e v => Sys2Proof.Machine.execEngineConfigure e v s
  | .clearingStorageError u x k => Sys2Proof.Machine.execClearingStorageError u x k s
  | .strictWrite v => Sys2Proof.Machine.execStrictWrite v s
  | .keyRecompute reason => Sys2Proof.Machine.execKeyRecompute reason s
  | .keyRecomputeDone => Sys2Proof.Machine.execKeyRecomputeDone s
  | .mintSegment r entry chunk ex tick data => Sys2Proof.Machine.execMintSegment r entry chunk ex tick data s
  | .chainingValuePosted r => Sys2Proof.Machine.execChainingValuePosted r s
  | .tagComplete c => Sys2Proof.Machine.execTagComplete c s
  | .journalRecord typ addr data => Sys2Proof.Machine.execJournalRecord typ addr data s
  | .journalResend seq => Sys2Proof.Machine.execJournalResend seq s
  | .journalAckReceived u p => Sys2Proof.Machine.execJournalAckReceived u p s
  | .journalStore p => Sys2Proof.Machine.execJournalStore p s
  | .tagMessageReceived p => Sys2Proof.Machine.execTagMessageReceived p s
  | .trailClose span ctx step => Sys2Proof.Machine.execTrailClose span ctx step s
  | .replayStart => Sys2Proof.Machine.execReplayStart s
  | .replayStop => Sys2Proof.Machine.execReplayStop s
  | .replayInject data => Sys2Proof.Machine.execReplayInject data s
  | .replayRecordReceived u p => Sys2Proof.Machine.execReplayRecordReceived u p s
  | .replayApply seq data => Sys2Proof.Machine.execReplayApply seq data s
  | .journaledInputSuppress oid => Sys2Proof.Machine.execJournaledInputSuppress oid s
  | .faultRecordRead u => Sys2Proof.Machine.execFaultRecordRead u s
  | .clearFirstRecord u => Sys2Proof.Machine.execClearFirstRecord u s
  | .faultWaveReceived p => Sys2Proof.Machine.execFaultWaveReceived p s
  | .settleWindowEnd c => Sys2Proof.Machine.execSettleWindowEnd c s
  | .spanPathLost c => Sys2Proof.Machine.execSpanPathLost c s
  | .heartbeat r info => Sys2Proof.Machine.execHeartbeat r info s
  | .heartbeatWindowExpiry r => Sys2Proof.Machine.execHeartbeatWindowExpiry r s
  | .contextResetAck r => Sys2Proof.Machine.execContextResetAck r s
  | .resetLimitExpiry r => Sys2Proof.Machine.execResetLimitExpiry r s
  | .isolationLimitExpiry r => Sys2Proof.Machine.execIsolationLimitExpiry r s
  | .powerCycleDone r => Sys2Proof.Machine.execPowerCycleDone r s
  | .powerCycleLimitExpiry r => Sys2Proof.Machine.execPowerCycleLimitExpiry r s
  | .ladderPowerCycle r => Sys2Proof.Machine.execLadderPowerCycle r s
  | .ladderRestoreLost r => Sys2Proof.Machine.execLadderRestoreLost r s
  | .ladderReleaseHold r => Sys2Proof.Machine.execLadderReleaseHold r s
  | .ladderDeclareLost r => Sys2Proof.Machine.execLadderDeclareLost r s
  | .powerGoodLost r => Sys2Proof.Machine.execPowerGoodLost r s
  | .hubWatchdogExpiry => Sys2Proof.Machine.execHubWatchdogExpiry s
  | .spanListAdd item => Sys2Proof.Machine.execSpanListAdd item s
  | .spanListRemove item => Sys2Proof.Machine.execSpanListRemove item s
  | .spanListMask item => Sys2Proof.Machine.execSpanListMask item s
  | .spanListHead item => Sys2Proof.Machine.execSpanListHead item s
  | .portOwn p span epoch => Sys2Proof.Machine.execPortOwn p span epoch s
  | .portRelease p epoch => Sys2Proof.Machine.execPortRelease p epoch s
  | .portFree p epoch => Sys2Proof.Machine.execPortFree p epoch s
  | .laneEntryWrite p v => Sys2Proof.Machine.execLaneEntryWrite p v s
  | .epochCreate span epoch => Sys2Proof.Machine.execEpochCreate span epoch s
  | .epochRelease span epoch => Sys2Proof.Machine.execEpochRelease span epoch s
  | .epochAdvance span epoch => Sys2Proof.Machine.execEpochAdvance span epoch s
  | .twinEpochReceived p => Sys2Proof.Machine.execTwinEpochReceived p s
  | .epochCopyDistribute hubs => Sys2Proof.Machine.execEpochCopyDistribute hubs s
  | .healthIntervalEnd => Sys2Proof.Machine.execHealthIntervalEnd s
  | .reportReceived p => Sys2Proof.Machine.execReportReceived p s
  | .auditReceived p => Sys2Proof.Machine.execAuditReceived p s
  | .healthEvaluation p => Sys2Proof.Machine.execHealthEvaluation p s
  | .expelReceived p => Sys2Proof.Machine.execExpelReceived p s
  | .verdictReceived p => Sys2Proof.Machine.execVerdictReceived p s
  | .twinHealthReceived p => Sys2Proof.Machine.execTwinHealthReceived p s
  | .auditMatrixHalving => Sys2Proof.Machine.execAuditMatrixHalving s
  | .healthReinstate p => Sys2Proof.Machine.execHealthReinstate p s
  | .healthClearFences p => Sys2Proof.Machine.execHealthClearFences p s
  | .healthClearMatrix p => Sys2Proof.Machine.execHealthClearMatrix p s
  | .censusCommand v => Sys2Proof.Machine.execCensusCommand v s
  | .latchReceived u p => Sys2Proof.Machine.execLatchReceived u p s
  | .censusLatch u => Sys2Proof.Machine.execCensusLatch u s
  | .eventSourceWrite u k v => Sys2Proof.Machine.execEventSourceWrite u k v s
  | .regWordRead addr width => Sys2Proof.Machine.execRegWordRead addr width s
  | .regWordWrite addr width v => Sys2Proof.Machine.execRegWordWrite addr width v s
  | .longOpenRead obj => Sys2Proof.Machine.execLongOpenRead obj s
  | .longOpenWrite obj => Sys2Proof.Machine.execLongOpenWrite obj s
  | .longCommit obj => Sys2Proof.Machine.execLongCommit obj s
  | .longAbandon obj => Sys2Proof.Machine.execLongAbandon obj s
  | .longDataAccess obj write v => Sys2Proof.Machine.execLongDataAccess obj write v s
  | .longPositionWrite obj v => Sys2Proof.Machine.execLongPositionWrite obj v s
  | .transferAbandonTimeout u route => Sys2Proof.Machine.execTransferAbandonTimeout u route s
  | .objectWrite u obj off data => Sys2Proof.Machine.execObjectWrite u obj off data s
  | .objectReadRequest u p => Sys2Proof.Machine.execObjectReadRequest u p s
  | .objectWriteRequest u p => Sys2Proof.Machine.execObjectWriteRequest u p s
  | .objectResponseReceived p => Sys2Proof.Machine.execObjectResponseReceived p s
  | .objectAbandon u p => Sys2Proof.Machine.execObjectAbandon u p s
  | .objectRelayForward p => Sys2Proof.Machine.execObjectRelayForward p s
  | .relayTimeout tag => Sys2Proof.Machine.execRelayTimeout tag s
  | .goaRequest port addr dgram => Sys2Proof.Machine.execGoaRequest port addr dgram s
  | .goaResponseSend op => Sys2Proof.Machine.execGoaResponseSend op s
  | .functionDisable u f => Sys2Proof.Machine.execFunctionDisable u f s
  | .functionEnable u f => Sys2Proof.Machine.execFunctionEnable u f s
  | .functionDrained u f => Sys2Proof.Machine.execFunctionDrained u f s
  | .drainTimeout u f => Sys2Proof.Machine.execDrainTimeout u f s
  | .regionReqActive r => Sys2Proof.Machine.execRegionReqActive r s
  | .regionReqDoze r => Sys2Proof.Machine.execRegionReqDoze r s
  | .regionReqRetain r => Sys2Proof.Machine.execRegionReqRetain r s
  | .regionReqOff r => Sys2Proof.Machine.execRegionReqOff r s
  | .regionReqFence r => Sys2Proof.Machine.execRegionReqFence r s
  | .regionForcedFence r => Sys2Proof.Machine.execRegionForcedFence r s
  | .regionUnfence r => Sys2Proof.Machine.execRegionUnfence r s
  | .regionPwrReqChange r v => Sys2Proof.Machine.execRegionPwrReqChange r v s
  | .powerGrant r => Sys2Proof.Machine.execPowerGrant r s
  | .powerDelayExpiry r => Sys2Proof.Machine.execPowerDelayExpiry r s
  | .pwrRdyChange r high => Sys2Proof.Machine.execPwrRdyChange r high s
  | .handshakeLimitExpiry r => Sys2Proof.Machine.execHandshakeLimitExpiry r s
  | .pgoodFallGranted r => Sys2Proof.Machine.execPgoodFallGranted r s
  | .pgoodFallLimitExpiry r => Sys2Proof.Machine.execPgoodFallLimitExpiry r s
  | .powerStageReady r => Sys2Proof.Machine.execPowerStageReady r s
  | .powerStageTimeout r => Sys2Proof.Machine.execPowerStageTimeout r s
  | .vaultWriteThrough obj => Sys2Proof.Machine.execVaultWriteThrough obj s
  | .sleepRequest => Sys2Proof.Machine.execSleepRequest s
  | .sleepWithdraw => Sys2Proof.Machine.execSleepWithdraw s
  | .tsuReset => Sys2Proof.Machine.execTsuReset s
  | .tsuStartupStageDone img => Sys2Proof.Machine.execTsuStartupStageDone img s
  | .startupStageTimeout u => Sys2Proof.Machine.execStartupStageTimeout u s
  | .configRefetch => Sys2Proof.Machine.execConfigRefetch s
  | .hubSentinelCommand => Sys2Proof.Machine.execHubSentinelCommand s
  | .hubOffCommand => Sys2Proof.Machine.execHubOffCommand s
  | .sentinelVisit stamp => Sys2Proof.Machine.execSentinelVisit stamp s
  | .sentinelPong p periods => Sys2Proof.Machine.execSentinelPong p periods s
  | .sentinelWake cause p => Sys2Proof.Machine.execSentinelWake cause p s
  | .hubStartupStageDone img => Sys2Proof.Machine.execHubStartupStageDone img s
  | .firmwareUpdateBegin len dig => Sys2Proof.Machine.execFirmwareUpdateBegin len dig s
  | .firmwareSegmentWrite data => Sys2Proof.Machine.execFirmwareSegmentWrite data s
  | .firmwareUpdateCommit => Sys2Proof.Machine.execFirmwareUpdateCommit s
  | .firmwareUpdateAbandon => Sys2Proof.Machine.execFirmwareUpdateAbandon s
  | .firmwareTwinRecovery p => Sys2Proof.Machine.execFirmwareTwinRecovery p s
  | .twinFirmwareRequest p => Sys2Proof.Machine.execTwinFirmwareRequest p s
  | .flashWriteBack obj => Sys2Proof.Machine.execFlashWriteBack obj s
  | .telemetryUpdate u v => Sys2Proof.Machine.execTelemetryUpdate u v s
  | .scrubError slot => Sys2Proof.Machine.execScrubError slot s
  | .moduleSupplyFault kind mv ma => Sys2Proof.Machine.execModuleSupplyFault kind mv ma s
  | .thermalThreshold u kind port temp => Sys2Proof.Machine.execThermalThreshold u kind port temp s
  | .partnerPower => Sys2Proof.Machine.execPartnerPower s
  | .modulePowerButton => Sys2Proof.Machine.execModulePowerButton s
  | .refinCouplingSet input => Sys2Proof.Machine.execRefinCouplingSet input s
  | .hostLatencyCodesValid p tx rx => Sys2Proof.Machine.execHostLatencyCodesValid p tx rx s
  | .twinHealthSend p => Sys2Proof.Machine.execTwinHealthSend p s
  | .firmwareRestartComplete => Sys2Proof.Machine.execFirmwareRestartComplete s

end Sys2Proof.Machine
end

