-- ==== Sys2Proof/Machine/Tick.lean ====
section
/-! DEFINITION. One tick of 640 ps, which passes when no command waits (log entry 4): TB1 advances, and what the specification ties to every
tick happens in the order of 06 R159. -/

namespace Sys2Proof.Machine

/-- At a marker the latency codes of a lane take effect on its stamps (18 R510, 03 R77). -/
def Node.newLatency (n : Node) : Node :=
  { n with links := n.links.map (fun e => (e.1, match e.2.latNext with
    | some x => { e.2 with latTx := x.1, latRx := x.2, latNext := none }
    | none => e.2)) }

/-- What happens at every marker (04 R104, 15 R430, 18 R510). -/
def Node.marker (n : Node) : Node := if n.tb1 % 512 == 0 then n.newTables.newSources.newLatency.reservedSlot else n

/-- A tick of the clock: the writes of the tick before take effect (16 R440), and the tick counts as an event (15 R430). -/
def Node.clock (n : Node) : Node := (({ n with tb1 := (n.tb1 + 1) % 2 ^ 64 } : Node).applyDeferred.marker).events 0x01 0 1

/-- The end of a tick of a TSU: records in flight take the values of the bases, and the interrupt lines follow their sources, after everything
else of the tick (06 R159 action 6, R165, R169). -/
def Node.tickEnd (n : Node) : Node := n.captureTake.lines

/-- A tick of a TSU: the tick before ends; the writes of it take effect, the time bases accumulate and their commands act, captures and pulses
follow, then the engines with something due (06 R159; 09 R232; 14 R390, R394, R395; 17 R480; 15 R432). -/
def tsuTick (n : Node) : Node :=
  let n1 := n.tickEnd.basesMark.clock.basesTick.commandsTick
  let n2 := overAll (upTo 4) Node.pulseTick (overAll (upTo 8) Node.captureDue n1)
  n2.restartTick.agentsTick.busTick.regionsTick.pathWatch.placeCensus

/-- Pongs whose tick has passed have been sent (17 R497). -/
def Node.pongsSent (n : Node) : Node := n.modHpwr (fun h => { h with pongs := h.pongs.filter (fun e => decide (n.tb1 ≤ e.2)) })

/-- A tick of a hub: its oscillator and its anchor move, outputs fall, and its engines, lane entries and relayed requests go on
(05 R132, R143, R148; 10 R271; 15 R412, R418; 16 R458). In SENTINEL only its tick count runs, and without a chip supply nothing does
(17 R495, 18 R533). -/
def hubTick (n : Node) : Node :=
  if n.running then n.clock.dcoTick.realignTick.outsFall.restartTick.escrowTick.healthTick.laneTick.goaStep.pongsSent
  else if n.hpwr.chipOn then { n with tb1 := (n.tb1 + 1) % 2 ^ 64 }
  else n

/-- One tick of both units. -/
def State.tick (s : State) : State := { s with tsu := tsuTick s.tsu, hub := hubTick s.hub }

end Sys2Proof.Machine
end

