-- ==== Sys2Proof/WellFormed.lean ====
section
/-! DEFINITION. Well-formed commands: every operand fits the field the specification gives it. -/

namespace Sys2Proof

/-- A list of bytes. -/
def bytesOk (l : List Nat) : Bool := l.all (fun b => decide (b < 256))

/-- The check of each command, by constructor. -/
def wellFormed (i : Instr) : Bool :=
  match i with
  | .linkEnableWrite _ p v => decide (p < 128) && decide (v < 256)
  | .linkRestart _ p => decide (p < 128)
  | .sendWakePattern _ p => decide (p < 128)
  | .lossOfSignal _ p => decide (p < 128)
  | .frameLockLost _ p => decide (p < 128)
  | .darkRetry _ p _ => decide (p < 128)
  | .wakeComplete _ p => decide (p < 128)
  | .trainLock _ p => decide (p < 128)
  | .linkStateTimeout _ p => decide (p < 128)
  | .helloReceived _ p => decide (p < 128)
  | .linkSynced _ p => decide (p < 128)
  | .memberHoldReached _ p => decide (p < 128)
  | .memberLockLoss _ p => decide (p < 128)
  | .frameReceived _ p frame stamp sym => decide (p < 128) && decide (frame < 2^1152) && decide (stamp.first < 2 ^ 64) && decide (stamp.code < 512) && decide (sym < 72)
  | .frameSend _ p => decide (p < 128)
  | .uncorrectableWindowEnd _ p => decide (p < 128)
  | .faultSlotReceived _ p => decide (p < 128)
  | .timeMessageReceived _ p => decide (p < 128)
  | .markerServo _ built => decide (built < 65536)
  | .revertHoldExpiry _ built => decide (built < 65536)
  | .keystoneRootWaitExpiry => true
  | .planeDisagreement _ => true
  | .closureApply => true
  | .closureMeasure => true
  | .closureDone _ => true
  | .closureTrackingRun _ => true
  | .podOffsetWrite _ p v => decide (p < 128) && decide (v < 2 ^ 64)
  | .podEvaluationDone _ p => decide (p < 128)
  | .tdcEdge _ c code _ => decide (c < 104) && decide (code < 512)
  | .dllLockChange _ c _ => decide (c < 104)
  | .calibrationPeriodStart _ c => decide (c < 104)
  | .calibrateCommand _ => true
  | .calibrationCollectionEnd _ c _ => decide (c < 104)
  | .slotClose _ k => decide (k < 16)
  | .regressionStop _ g => decide (g < 4)
  | .regressionOneGate _ g => decide (g < 4)
  | .regressionContinuous _ g => decide (g < 4)
  | .regressionGateEnd _ g => decide (g < 4)
  | .keystoneMarker _ track => decide (track < 2^64)
  | .monitorGateEnd i => decide (i < 8)
  | .esmcPduReceived port _ => decide (port < 2)
  | .esmcTimeout i => decide (i < 8)
  | .waitToRestoreExpiry i => decide (i < 8)
  | .referenceServoUpdate => true
  | .holdoverBudgetReached => true
  | .dcoHistoryRecord => true
  | .dacDiscipline => true
  | .priorityTableWrite v => decide (v < 2^256)
  | .hallSecondRoll => true
  | .hallLabelWrite v => decide (v < 2 ^ 64)
  | .timeSourceEdge stamp => decide (stamp < 2 ^ 80)
  | .realignStart => true
  | .realignStop => true
  | .twinKeystoneReceived p => decide (p < 128)
  | .keystoneTakeover => true
  | .outputPulse k => decide (k < 6)
  | .outputSettingEffective k => decide (k < 6)
  | .tbSet k apply arg => decide (k < 8) && decide (apply < 2^64) && decide (arg < 2^128)
  | .tbStep k apply arg => decide (k < 8) && decide (apply < 2^64) && decide (arg < 2^128)
  | .tbSlew k apply arg => decide (k < 8) && decide (apply < 2^64) && decide (arg < 2^128)
  | .tbCancelSlew k apply => decide (k < 8) && decide (apply < 2^64)
  | .tbCommandApply k => decide (k < 8)
  | .tbSlewEnd k => decide (k < 8)
  | .tbIncrementWrite k v => decide (k < 8) && decide (v < 2 ^ 64)
  | .tbModeChange v => decide (v < 256)
  | .hallAnchorWrite v => decide (v < 2^192)
  | .anchorDistribution _ => true
  | .captureRecordRead i => decide (i < 8)
  | .pulseOutputPlace k => decide (k < 4)
  | .interruptEvent src => decide (src < 512)
  | .interruptAcknowledge v => decide (v < 2^512)
  | .busFrameSend ringX ringY => decide (ringX < 2^64) && decide (ringY < 2^64)
  | .agentLaunch r edge => decide (r < 1024) && decide (edge.stamp < 2 ^ 68) && decide (edge.cyc < 2 ^ 64)
  | .agentCut r => decide (r.region < 1024) && decide (r.cyc < 2 ^ 64)
  | .agentAbort r => decide (r.region < 1024) && decide (r.cyc < 2 ^ 64)
  | .agentCensus r => decide (r < 1024)
  | .busFrameReceived r lane frame built => decide (r < 1024) && decide (lane < 2) && decide (frame < 2^256) && decide (built < 2^32)
  | .tickLaneLost r lane _ built => decide (r < 1024) && decide (lane < 2) && decide (built < 2^32)
  | .noLaneExpiry r => decide (r.region < 1024) && decide (r.cyc < 2 ^ 64)
  | .bypassEngage r => decide (r < 1024)
  | .bypassRelease r => decide (r < 1024)
  | .agentMarker r cyc edge diff => decide (r < 1024) && decide (cyc.run < 2 ^ 64) && decide (cyc.new < 2 ^ 64) && decide (edge < 2^68) && decide (diff < 2^32)
  | .agentLanesDisagree r => decide (r < 1024)
  | .runComplete r edge => decide (r < 1024) && decide (edge < 2^68)
  | .runDeadline r => decide (r.region < 1024) && decide (r.cyc < 2 ^ 64)
  | .stretchPulse r => decide (r < 1024)
  | .marginWarnEpisode r ticks => decide (r < 1024) && decide (ticks < 2^64)
  | .fchgRequest r e => decide (r < 1024) && decide (e < 16)
  | .fchgGrant r => decide (r < 1024)
  | .fchgAck r cyc edge => decide (r < 1024) && decide (cyc < 2^64) && decide (edge < 2^68)
  | .fchgReqLow r => decide (r < 1024)
  | .stopWindowOverrun r => decide (r < 1024)
  | .stopTimeout r => decide (r < 1024)
  | .viaductWrite v data => decide (v < 2048) && decide (data < 2^1024)
  | .viaductRead v cycle => decide (v < 2048) && decide (cycle < 2^64)
  | .viaductStalledDelivery v => decide (v < 2048)
  | .viaductTickDelivery v => decide (v < 2048)
  | .viaductSever v => decide (v < 2048)
  | .tableCommit t => decide (t < 16)
  | .tableCommitDone t => decide (t < 16)
  | .tableEmpty t => decide (t < 16)
  | .tableStorageError t k => decide (t < 16) && decide (k < 4096)
  | .actionCommit c => decide (c < 64)
  | .entryNop c => decide (c < 64)
  | .entryWait c => decide (c < 64)
  | .waitResume c => decide (c < 64)
  | .entrySignal c => decide (c < 64)
  | .entryArrive c => decide (c < 64)
  | .entryClear c => decide (c < 64)
  | .entryBranch c => decide (c < 64)
  | .entryGate c => decide (c < 64)
  | .entryMark c => decide (c < 64)
  | .entryAudit c => decide (c < 64)
  | .entryPulse c => decide (c < 64)
  | .entryLoop c => decide (c < 64)
  | .entryEnd c => decide (c < 64)
  | .markRead c => decide (c < 64)
  | .releaseAccumulator v => decide (v < 2 ^ 64)
  | .deadlineEvaluation c => decide (c < 64)
  | .stepEnd c => decide (c < 64)
  | .armReceived p => decide (p < 128)
  | .armAckHeldRelease c => decide (c < 64)
  | .confirmReceived p => decide (p < 128)
  | .recallReceived p => decide (p < 128)
  | .escrowGuardExpiry c => decide (c < 64)
  | .stepFire c => decide (c < 64)
  | .recalledFReached c => decide (c < 64)
  | .headArmLeave k => decide (k < 256)
  | .escrowHandoffReceived p => decide (p < 128)
  | .escrowHandoffMissing k => decide (k < 256)
  | .escrowDownForward p => decide (p < 128)
  | .armAckReceived p => decide (p < 128)
  | .escrowSetChange p => decide (p < 128)
  | .escrowHorizon span ctx step attempt => decide (span < 65536) && decide (ctx < 64) && decide (step < 2 ^ 48) && decide (attempt < 256)
  | .totalReceived p => decide (p < 128)
  | .escrowDecision k => decide (k < 256)
  | .twinLost => true
  | .twinLeadReceived p => decide (p < 128)
  | .leadReclaim => true
  | .twinLeadSend => true
  | .headEntryStart k => decide (k < 256)
  | .headEntryStopAfter k => decide (k < 256)
  | .headEntryStopNow k => decide (k < 256)
  | .tallyInit r core req cyc _ => decide (r < 1024) && decide (core < 2^20) && decide (req < 2^190) && decide (cyc < 2^64)
  | .tallySignal r core req cyc _ => decide (r < 1024) && decide (core < 2^20) && decide (req < 2^190) && decide (cyc < 2^64)
  | .tallyArrive r core req cyc _ => decide (r < 1024) && decide (core < 2^20) && decide (req < 2^190) && decide (cyc < 2^64)
  | .tallyWait r core req cyc _ => decide (r < 1024) && decide (core < 2^20) && decide (req < 2^190) && decide (cyc < 2^64)
  | .tallyUpMessage p => decide (p < 128)
  | .arriveCombineSend slot => decide (slot < 65536)
  | .slotDecision slot => decide (slot < 65536)
  | .immediateDecision slot => decide (slot < 65536)
  | .tallyReleaseReceived p _ => decide (p < 128)
  | .tallyDownForward p => decide (p < 128)
  | .ledgerDecision c slot => decide (c < 64) && decide (slot < 65536)
  | .releaseTick c slot => decide (c < 64) && decide (slot < 65536)
  | .ledgerReport r account bytes => decide (r < 1024) && decide (account < 4096) && decide (bytes < 2^32)
  | .accountTableWrite first _ => decide (first < 4096)
  | .translationWrite c first _ => decide (c < 64) && decide (first < 4096)
  | .tallyWaitTimeout _ c tally unit => decide (c < 64) && decide (tally < 2^26) && decide (unit < 2 ^ 50)
  | .hostTallySignal h cmd => decide (h < 8) && decide (cmd < 2^256)
  | .hostTallyArrive h cmd => decide (h < 8) && decide (cmd < 2^256)
  | .hostTallyWait h cmd => decide (h < 8) && decide (cmd < 2^256)
  | .hostCancelWait h => decide (h < 8)
  | .descriptorWrite d v => decide (d < 256) && decide (v < 2^256)
  | .contributionWrite c h _ => decide (c < 64) && decide (h < 16)
  | .partialReceived p => decide (p < 128)
  | .elementSendUp e => decide (e < 16)
  | .headRoundElement e => decide (e < 16)
  | .headSendEnd e => decide (e < 16)
  | .resultForward p => decide (p < 128)
  | .resultReceived p => decide (p < 128)
  | .clearingResultTimeout c h => decide (c < 64) && decide (h < 16)
  | .engineConfigure e v => decide (e < 16) && decide (v < 2^320)
  | .clearingStorageError _ x k => decide (x < 1024) && decide (k < 4096)
  | .strictWrite v => decide (v < 2 ^ 64)
  | .keyRecompute reason => decide (reason < 7)
  | .keyRecomputeDone => true
  | .mintSegment r entry chunk ex tick data => decide (r < 1024) && decide (entry < 4096) && decide (chunk < 2^38) && decide (ex < 21) && decide (tick < 2^64) && bytesOk data
  | .chainingValuePosted r => decide (r < 1024)
  | .tagComplete c => decide (c < 64)
  | .journalRecord typ addr data => decide (typ < 7) && decide (addr < 2^32) && bytesOk data
  | .journalResend seq => decide (seq < 2^32)
  | .journalAckReceived _ p => decide (p < 128)
  | .journalStore p => decide (p < 128)
  | .tagMessageReceived p => decide (p < 128)
  | .trailClose span ctx step => decide (span < 65536) && decide (ctx < 64) && decide (step < 2 ^ 48)
  | .replayStart => true
  | .replayStop => true
  | .replayInject data => bytesOk data
  | .replayRecordReceived _ p => decide (p < 128)
  | .replayApply seq data => decide (seq < 2^32) && bytesOk data
  | .journaledInputSuppress oid => decide (oid < 2^24)
  | .faultRecordRead _ => true
  | .clearFirstRecord _ => true
  | .faultWaveReceived p => decide (p < 128)
  | .settleWindowEnd c => decide (c < 64)
  | .spanPathLost c => decide (c < 64)
  | .heartbeat r info => decide (r < 1024) && decide (info < 2^32)
  | .heartbeatWindowExpiry r => decide (r < 1024)
  | .contextResetAck r => decide (r < 1024)
  | .resetLimitExpiry r => decide (r < 1024)
  | .isolationLimitExpiry r => decide (r < 1024)
  | .powerCycleDone r => decide (r < 1024)
  | .powerCycleLimitExpiry r => decide (r < 1024)
  | .ladderPowerCycle r => decide (r < 1024)
  | .ladderRestoreLost r => decide (r < 1024)
  | .ladderReleaseHold r => decide (r < 1024)
  | .ladderDeclareLost r => decide (r < 1024)
  | .powerGoodLost r => decide (r < 1024)
  | .hubWatchdogExpiry => true
  | .spanListAdd item => decide (item < 2^128)
  | .spanListRemove item => decide (item < 2^128)
  | .spanListMask item => decide (item < 2^128)
  | .spanListHead item => decide (item < 2^128)
  | .portOwn p span epoch => decide (p < 128) && decide (span < 65536) && decide (epoch < 2 ^ 32)
  | .portRelease p epoch => decide (p < 128) && decide (epoch < 2 ^ 32)
  | .portFree p epoch => decide (p < 128) && decide (epoch < 2 ^ 32)
  | .laneEntryWrite p v => decide (p < 128) && decide (v < 2 ^ 64)
  | .epochCreate span epoch => decide (span < 65536) && decide (epoch < 2 ^ 32)
  | .epochRelease span epoch => decide (span < 65536) && decide (epoch < 2 ^ 32)
  | .epochAdvance span epoch => decide (span < 65536) && decide (epoch < 2 ^ 32)
  | .twinEpochReceived p => decide (p < 128)
  | .epochCopyDistribute _ => true
  | .healthIntervalEnd => true
  | .reportReceived p => decide (p < 128)
  | .auditReceived p => decide (p < 128)
  | .healthEvaluation p => decide (p < 128)
  | .expelReceived p => decide (p < 128)
  | .verdictReceived p => decide (p < 128)
  | .twinHealthReceived p => decide (p < 128)
  | .auditMatrixHalving => true
  | .healthReinstate p => decide (p < 128)
  | .healthClearFences p => decide (p < 128)
  | .healthClearMatrix p => decide (p < 128)
  | .censusCommand v => decide (v < 2^192)
  | .latchReceived _ p => decide (p < 128)
  | .censusLatch _ => true
  | .eventSourceWrite _ k v => decide (k < 8256) && decide (v < 65536)
  | .regWordRead addr width => decide (addr < 2^28) && decide (width < 17)
  | .regWordWrite addr width v => decide (addr < 2^28) && decide (width < 17) && decide (v < 2^32)
  | .longOpenRead obj => decide (obj < 2^24)
  | .longOpenWrite obj => decide (obj < 2^24)
  | .longCommit obj => decide (obj < 2^24)
  | .longAbandon obj => decide (obj < 2^24)
  | .longDataAccess obj _ v => decide (obj < 2^24) && decide (v < 2^32)
  | .longPositionWrite obj v => decide (obj < 2^24) && decide (v < 2^32)
  | .transferAbandonTimeout _ route => decide (route < 34)
  | .objectWrite _ obj off data => decide (obj < 2^24) && decide (off < 65536) && bytesOk data
  | .objectReadRequest _ p => decide (p < 128)
  | .objectWriteRequest _ p => decide (p < 128)
  | .objectResponseReceived p => decide (p < 128)
  | .objectAbandon _ p => decide (p < 128)
  | .objectRelayForward p => decide (p < 128)
  | .relayTimeout tag => decide (tag < 4096)
  | .goaRequest port addr dgram => decide (port < 2) && decide (addr < 2^128) && bytesOk dgram
  | .goaResponseSend op => decide (op < 16)
  | .functionDisable _ f => decide (f < 9)
  | .functionEnable _ f => decide (f < 9)
  | .functionDrained _ f => decide (f < 9)
  | .drainTimeout _ f => decide (f < 9)
  | .regionReqActive r => decide (r < 1024)
  | .regionReqDoze r => decide (r < 1024)
  | .regionReqRetain r => decide (r < 1024)
  | .regionReqOff r => decide (r < 1024)
  | .regionReqFence r => decide (r < 1024)
  | .regionForcedFence r => decide (r < 1024)
  | .regionUnfence r => decide (r < 1024)
  | .regionPwrReqChange r v => decide (r < 1024) && decide (v < 4)
  | .powerGrant r => decide (r < 1024)
  | .powerDelayExpiry r => decide (r < 1024)
  | .pwrRdyChange r _ => decide (r < 1024)
  | .handshakeLimitExpiry r => decide (r < 1024)
  | .pgoodFallGranted r => decide (r < 1024)
  | .pgoodFallLimitExpiry r => decide (r < 1024)
  | .powerStageReady r => decide (r < 1024)
  | .powerStageTimeout r => decide (r < 1024)
  | .vaultWriteThrough obj => decide (obj < 2^24)
  | .sleepRequest => true
  | .sleepWithdraw => true
  | .tsuReset => true
  | .tsuStartupStageDone img => bytesOk img
  | .startupStageTimeout _ => true
  | .configRefetch => true
  | .hubSentinelCommand => true
  | .hubOffCommand => true
  | .sentinelVisit stamp => decide (stamp < 2^80)
  | .sentinelPong p periods => decide (p < 128) && decide (periods < 65536)
  | .sentinelWake cause p => decide (cause < 4) && decide (p < 128)
  | .hubStartupStageDone img => bytesOk img
  | .firmwareUpdateBegin len dig => decide (len < 2^32) && decide (dig < 2^256)
  | .firmwareSegmentWrite data => bytesOk data
  | .firmwareUpdateCommit => true
  | .firmwareUpdateAbandon => true
  | .firmwareTwinRecovery p => decide (p < 128)
  | .twinFirmwareRequest p => decide (p < 128)
  | .flashWriteBack obj => decide (obj < 2^24)
  | .telemetryUpdate _ v => decide (v < 2^256)
  | .scrubError slot => decide (slot < 2^29)
  | .moduleSupplyFault kind mv ma => decide (kind < 5) && decide (mv < 2^32) && decide (ma < 2^32)
  | .thermalThreshold _ kind port temp => decide (kind < 5) && decide (port < 68) && decide (temp < 65536)
  | .partnerPower => true
  | .modulePowerButton => true
  | .refinCouplingSet i => decide (i < 8)
  | .hostLatencyCodesValid p tx rx => decide (p < 2) && decide (tx < 65536) && decide (rx < 65536)
  | .twinHealthSend p => decide (p < 128)
  | .firmwareRestartComplete => true

/-- The command is well formed. -/
abbrev WellFormed (i : Instr) : Prop := wellFormed i = true

end Sys2Proof
end

