-- ==== Sys2Proof/Safety.lean ====
section
/-! DEFINITION. What a sound state of the block is, in the terms that claims use, and what a run without a stop is. -/

namespace Sys2Proof.Machine

/-- A unit is sound: its objects are held in canonical form (16 R438, 00 R18), and TB1 is a count of 64 bits (06 R154). -/
def Node.Sound (n : Node) : Prop := storeWf n.kind n.objs = true ∧ n.tb1 < 2 ^ 64

/-- The TSU is a TSU and the hub is a hub (16 R469: the node kind is read-only). -/
def State.KindsLegal (s : State) : Prop := s.tsu.kind ≠ .hub ∧ s.hub.kind = .hub

/-- A sound state: units of legal kinds, each sound, and commands in the queue whose operands are in range. -/
def State.Sound (s : State) : Prop :=
  s.KindsLegal ∧ s.tsu.Sound ∧ s.hub.Sound ∧ ∀ c ∈ s.pending, WellFormed c

/-- A step that answers a next state. -/
def stepsTo (s t : State) : Prop := step s = .next t

/-- A command answers a next state, whose unit has a property. -/
def RunsOn (u : Who) (i : Instr) (s : State) (P : Node → Prop) : Prop := ∃ t, exec i s = .next t ∧ P (t.node u)

/-- Commands reach the unit's logic (17 R494, R495; 18 R532). -/
def Works (s : State) (u : Who) : Prop := (s.node u).running = true

/-- The answer that an access ended with (16 R443). -/
def Node.answered (n : Node) (st : Nat) : Prop := (n.answerOf 0).status = st

/-- How often a cause has been recorded (14 R385, object 0x8001.00). -/
def Node.causeCount (n : Node) (cause : Nat) : Nat := bits (n.rd Ob.cause_causeCounts) (32 * cause) 32

/-- A unit that has recorded a cause once more (14 R385). -/
def Node.recorded (n m : Node) (cause : Nat) : Prop := m.causeCount cause = (n.causeCount cause + 1) % 2 ^ 32

/-- Objects outside a list read as before. -/
def Node.sameObjsBut (n m : Node) (os : List Nat) : Prop := ∀ o, o ∉ os → m.rd o = n.rd o

end Sys2Proof.Machine
end

