-- ==== Sys2Proof/Certificates/Slice0/Obligations.lean ====
section
/-! DEFINITION. The statements for the provers, in the order of the specification's chapters. -/

open Sys2Proof Sys2Proof.Machine

/-- A step is the command at the front of the queue run on the state with the queue's rest; with an empty queue one tick passes
(log entry 4) (00 Scope, parts and notation, 01 Spans, planes and the tick). -/
def Obligations.AStepRunsTheFrontCommand : Prop :=
  (∀ (c : Instr) (s : State) (q : List Instr), step { s with pending := c :: q } = exec c { s with pending := q }) ∧
  (∀ (s : State), s.pending = [] → step s = .next s.tick ∧ s.tick.pending = [] ∧ s.tick.tsu = tsuTick s.tsu ∧ s.tick.hub = hubTick s.hub) ∧
  (∀ (s : State), s.hub.running = false → s.hub.hpwr.chipOn = true → (hubTick s.hub).tb1 = (s.hub.tb1 + 1) % 2 ^ 64 ∧ (hubTick s.hub).objs = s.hub.objs) ∧
  (∀ (s : State), s.hub.running = false → s.hub.hpwr.chipOn = false → hubTick s.hub = s.hub)

/-- The state after reset is sound, its queue is empty, and the objects named hold the defaults that the specification gives (00
Scope, parts and notation, 01 Spans, planes and the tick, 16 The object dictionary and Grennu Object Access, R438, 17 Power
states, retention and start-up, R504, R505). -/
def Obligations.ResetIsSound : Prop :=
  State.reset.Sound ∧ State.reset.pending = [] ∧
  (∀ r, r < 1024 → State.reset.tsu.rst r = 3 ∧ State.reset.tsu.rd (Ob.reg_delayLimit r) = 15625 ∧ State.reset.tsu.rd (Ob.reg_autoWake r) = 1 ∧
    State.reset.tsu.rd (Ob.reg_powerGoodFallLimit r) = 100 ∧ State.reset.tsu.rd (Ob.reg_handshakeLimit r) = 64) ∧
  State.reset.tsu.rd Ob.su_startUpState = 0 ∧ State.reset.tsu.rd Ob.vlt_vaultState = 0 ∧ State.reset.tsu.vault.recs = [] ∧
  State.reset.tsu.log = [] ∧ State.reset.hub.log = []

/-- Every step from a sound state answers a sound state; no step stops, and a command keeps to one unit (00 Scope, parts and
notation, 06 Time bases, event capture and interrupt stamps, R154, 16 The object dictionary and Grennu Object Access, R438,
R469). -/
def Obligations.EveryStepKeepsTheBlockSound : Prop :=
  (∀ (s t : State), s.Sound → step s = .next t → t.Sound) ∧
  (∀ (s : State), ∃ t, step s = .next t) ∧
  (∀ (i : Instr) (s t : State), exec i s = .next t → t.pending = s.pending ∧ (t.tsu = s.tsu ∨ t.hub = s.hub))

/-- What a change of state below SYNCED leaves: every other component of the unit (but the lead's watch of the twin lanes, 10 R274), every
other object and every other link end. -/
def LinkRiseFrame (p : Nat) (n m : Node) : Prop :=
  { m with objs := n.objs, links := n.links, lead := n.lead } = n ∧
  n.sameObjsBut m [Ob.link_state p, Ob.link_lastChange p] ∧ ∀ q, q ≠ p → m.linkOf q = n.linkOf q

/-- A link end rises from DARK to HELLO by the triggers of the state table, and only its state and the tick of its last change
move (02 The span link, R62, R63, R70). -/
def Obligations.LinkEndFollowsItsTriggers : Prop :=
  ∀ (s : State) (u : Who) (p : Nat), Works s u → p < (s.node u).portCount →
    (∀ sig, (s.node u).lst p = 0 → (s.node u).rd (Ob.link_enable p) ≠ 0 → (s.node u).start.darkHold = false →
      (s.node u).restartDue p = true ∨
        (((s.node u).linkOf p).held = false ∧ (sig = true ∨ ((s.node u).linkOf p).lastTry + 1562500 ≤ (s.node u).tb1)) →
      RunsOn u (.darkRetry u p sig) s (fun m =>
        m.lst p = 1 ∧ m.rd (Ob.link_lastChange p) = (s.node u).tb1 ∧ LinkRiseFrame p (s.node u) m)) ∧
    ((s.node u).lst p = 1 → ((s.node u).linkOf p).since + 32000 ≤ (s.node u).tb1 →
      RunsOn u (.wakeComplete u p) s (fun m =>
        m.lst p = 2 ∧ m.rd (Ob.link_lastChange p) = (s.node u).tb1 ∧ LinkRiseFrame p (s.node u) m)) ∧
    ((s.node u).lst p = 2 → 8 ≤ ((s.node u).linkOf p).goodRun →
      RunsOn u (.trainLock u p) s (fun m =>
        m.lst p = 3 ∧ m.rd (Ob.link_lastChange p) = (s.node u).tb1 ∧ LinkRiseFrame p (s.node u) m)) ∧
    RunsOn u (.linkRestart u p) s (fun m =>
      m.lst p = 0 ∧ (m.linkOf p).restart = some (s.node u).tb1 ∧ (m.linkOf p).held = false ∧ m.answered 0) ∧
    ((s.node u).lst p = 0 →
      RunsOn u (.sendWakePattern u p) s (fun m =>
        m.lst p = 0 ∧ (m.linkOf p).wakeAt = some (s.node u).tb1 ∧ m.answered 0 ∧ ∀ q, q ≠ p → m.linkOf q = (s.node u).linkOf q))

/-- A write of the enable object: 0 takes the end to DARK, 1 takes MEMBER to SYNCED, 2 leaves the state, other values are refused
(02 The span link, R63, R70). -/
def Obligations.LinkEnableSetsTheHighestState : Prop :=
  ∀ (s : State) (u : Who) (p v : Nat), Works s u → p < (s.node u).portCount →
    ((s.node u).vaultFits (Ob.link_enable p) v = true → v ≤ 2 →
      RunsOn u (.linkEnableWrite u p v) s (fun m =>
        m.rd (Ob.link_enable p) = v ∧ m.answered 0 ∧
        (v = 0 → m.lst p = 0) ∧
        (v = 1 → m.lst p = if (s.node u).lst p = 6 then 5 else (s.node u).lst p) ∧
        (v = 2 → m.lst p = (s.node u).lst p))) ∧
    (2 < v →
      RunsOn u (.linkEnableWrite u p v) s (fun m =>
        m.answered 3 ∧ m.rd (Ob.link_enable p) = (s.node u).rd (Ob.link_enable p) ∧ m.lst p = (s.node u).lst p))

/-- Loss of signal, lost frame lock and expired timeouts move a link end down and record causes 0x10, 0x11 and 0x15 (02 The span
link, R52, R63, R71). -/
def Obligations.LinkLossesRecordTheirCause : Prop :=
  ∀ (s : State) (u : Who) (p : Nat), Works s u → p < (s.node u).portCount →
    (2 ≤ (s.node u).lst p →
      RunsOn u (.lossOfSignal u p) s (fun m =>
        m.lst p = 0 ∧ m.rd (Ob.link_lastChange p) = (s.node u).tb1 ∧ m.rd (Ob.link_lastExitCause p) = 0x10 ∧
        (s.node u).recorded m 0x10 ∧ (m.linkOf p).sigDet = false)) ∧
    (3 ≤ (s.node u).lst p → 4 ≤ ((s.node u).linkOf p).badRun →
      RunsOn u (.frameLockLost u p) s (fun m =>
        m.lst p = 2 ∧ m.rd (Ob.link_lastChange p) = (s.node u).tb1 ∧ m.rd (Ob.link_lastExitCause p) = 0x11 ∧
        (s.node u).recorded m 0x11 ∧ (m.linkOf p).badRun = 0)) ∧
    (2 ≤ (s.node u).lst p → (s.node u).lst p ≤ 4 →
      ((s.node u).linkOf p).since + (s.node u).stateTimeout ((s.node u).lst p) ≤ (s.node u).tb1 →
      (s.node u).rowAbove p = false → (s.node u).syncedDue p = false →
      RunsOn u (.linkStateTimeout u p) s (fun m =>
        m.lst p = 0 ∧ m.rd (Ob.link_lastChange p) = (s.node u).tb1 ∧ m.rd (Ob.link_lastExitCause p) = 0x15 ∧
        (s.node u).recorded m 0x15)) ∧
    ((s.node u).rd Ob.linkCfg_window ≤ ((s.node u).linkOf p).winFrames →
      RunsOn u (.uncorrectableWindowEnd u p) s (fun m =>
        m.lst p = (s.node u).lst p ∧ (m.linkOf p).winFrames = 0 ∧ (m.linkOf p).winBad = 0 ∧
        ((m.linkOf p).degraded = true ↔
          (s.node u).rd Ob.linkCfg_uncorrectableThreshold ≤ ((s.node u).linkOf p).winBad) ∧
        ((s.node u).rd Ob.linkCfg_uncorrectableThreshold ≤ ((s.node u).linkOf p).winBad → (s.node u).recorded m 0x12) ∧
        ∀ q, q ≠ p → m.linkOf q = (s.node u).linkOf q))

/-- Lock at both ends takes MEASURE to SYNCED and, held long enough with enable 2, to MEMBER; its loss takes MEMBER to SYNCED (02
The span link, R63, R68, R69). -/
def Obligations.TimeLockMovesBetweenMeasureAndMember : Prop :=
  ∀ (s : State) (u : Who) (p : Nat), Works s u → p < (s.node u).portCount →
    ((s.node u).lst p = 4 → ((s.node u).portOf p).bothLocked = true → (s.node u).rowAbove p = false →
      RunsOn u (.linkSynced u p) s (fun m => m.lst p = 5 ∧ m.rd (Ob.link_lastChange p) = (s.node u).tb1)) ∧
    ((s.node u).lst p = 5 → (s.node u).rd (Ob.link_enable p) = 2 → ((s.node u).portOf p).bothLocked = true →
      (s.node u).tb1 % 512 = 0 → ((s.node u).portOf p).lockSince + 512 * (s.node u).rd Ob.linkCfg_memberHold ≤ (s.node u).tb1 →
      (s.node u).rowAbove p = false →
      RunsOn u (.memberHoldReached u p) s (fun m => m.lst p = 6 ∧ m.rd (Ob.link_lastChange p) = (s.node u).tb1)) ∧
    ((s.node u).lst p = 6 → ((s.node u).portOf p).bothLocked = false → (s.node u).rowAbove p = false →
      RunsOn u (.memberLockLoss u p) s (fun m => m.lst p = 5 ∧ m.rd (Ob.link_lastChange p) = (s.node u).tb1)) ∧
    (∀ h, (s.node u).peek p (fun m => m.typ == tHello) = some h → ((s.node u).linkOf p).badRun < 4 →
      ((s.node u).lst p = 3 → (s.node u).helloCase p h.head = 0 → (s.node u).dieClash p h.head = false → fld h.head 104 104 = 1 →
        RunsOn u (.helloReceived u p) s (fun m =>
          m.lst p = 4 ∧ m.rd (Ob.link_partnerIdentity p) = fld h.head 103 84 ∧ m.rd (Ob.link_partnerPort p) = fld h.head 83 77 ∧
          m.rd (Ob.link_operatingFeatures p) = ((s.node u).rd Ob.linkCfg_localFeatures &&& fld (h.cell 1) 127 64) &&& 0xF ∧
          (m.linkOf p).credC2 = fld h.head 76 69 ∧ (m.linkOf p).credC3 = fld h.head 68 61 ∧ (m.linkOf p).repeats = 64)) ∧
      ((s.node u).lst p = 3 → (s.node u).helloCase p h.head ≠ 0 →
        RunsOn u (.helloReceived u p) s (fun m =>
          m.lst p = 0 ∧ (m.linkOf p).held = true ∧ m.rd (Ob.link_lastExitCause p) = 0x13 ∧
          (s.node u).recorded m 0x13)) ∧
      (4 ≤ (s.node u).lst p → fld h.head 104 104 = 0 →
        RunsOn u (.helloReceived u p) s (fun m => m.lst p = 3 ∧ (m.linkOf p).stored = none)))

/-- The messages that the cells of an accepted frame come to (02 R50, R56, R57). -/
def frameMsgs (n : Node) (p : Nat) (cells : List Nat) (first : Nat) : List Msg :=
  (((typedCells cells).foldl (parseCell (n.lst p) (n.isTwinPort p) (fld (cells.getD 0 0) 127 122 == 0) first) {}).flush first).msgs

/-- A frame is accepted, trained on or discarded by its decoding and its index; a link end sends what it assembles; a first wave
is spread (02 The span link, R45, R49, R53, R58, R59, R62). -/
def Obligations.FramesAreSentAndReceivedWhole : Prop :=
  ∀ (s : State) (u : Who) (p : Nat), Works s u → p < (s.node u).portCount →
    (∀ frame first code sym, 2 ≤ (s.node u).lst p → decodeFrame frame = none →
      RunsOn u (.frameReceived u p frame ⟨first, code⟩ sym) s (fun m =>
        m.rd (Ob.link_uncorrectableFrames p) = ((s.node u).rd (Ob.link_uncorrectableFrames p) + 1) % 2 ^ 64 ∧
        (m.linkOf p).taken = ((s.node u).linkOf p).taken ∧ (m.linkOf p).slotIn = ((s.node u).linkOf p).slotIn ∧
        (m.linkOf p).badRun = ((s.node u).linkOf p).badRun + 1 ∧ m.lst p = (s.node u).lst p)) ∧
    (∀ frame first code sym cells k, 2 ≤ (s.node u).lst p → decodeFrame frame = some (cells, k) →
      RunsOn u (.frameReceived u p frame ⟨first, code⟩ sym) s (fun m =>
        m.lst p = (s.node u).lst p ∧ (m.linkOf p).winFrames = ((s.node u).linkOf p).winFrames + 1 ∧
        m.rd (Ob.link_correctedSymbols p) = ((s.node u).rd (Ob.link_correctedSymbols p) + k) % 2 ^ 64 ∧
        ((s.node u).lst p = 2 →
          (m.linkOf p).expIdx = (fld (cells.getD 0 0) 127 122 + 1) % 64 ∧ (m.linkOf p).badRun = 0 ∧
          (m.linkOf p).goodRun =
            if ((s.node u).linkOf p).goodRun = 0 ∨ fld (cells.getD 0 0) 127 122 = ((s.node u).linkOf p).expIdx then ((s.node u).linkOf p).goodRun + 1
            else 1) ∧
        (3 ≤ (s.node u).lst p → fld (cells.getD 0 0) 127 122 ≠ ((s.node u).linkOf p).expIdx →
          m.rd (Ob.link_uncorrectableFrames p) = ((s.node u).rd (Ob.link_uncorrectableFrames p) + 1) % 2 ^ 64 ∧
          (m.linkOf p).taken = ((s.node u).linkOf p).taken ∧ (m.linkOf p).badRun = ((s.node u).linkOf p).badRun + 1 ∧
          (m.linkOf p).expIdx = (((s.node u).linkOf p).expIdx + 1) % 64) ∧
        (3 ≤ (s.node u).lst p → fld (cells.getD 0 0) 127 122 = ((s.node u).linkOf p).expIdx →
          (m.linkOf p).expIdx = (((s.node u).linkOf p).expIdx + 1) % 64 ∧ (m.linkOf p).badRun = 0 ∧
          (m.linkOf p).partnerDegraded = bit (cells.getD 0 0) 120 ∧
          (4 ≤ (s.node u).lst p →
            (m.linkOf p).credC2 = min (((s.node u).linkOf p).credC2 + fld (cells.getD 0 0) 119 116) ((s.node u).linkOf p).advC2 ∧
            (m.linkOf p).credC3 = min (((s.node u).linkOf p).credC3 + fld (cells.getD 0 0) 115 112) ((s.node u).linkOf p).advC3) ∧
          (m.linkOf p).slotIn = ((s.node u).linkOf p).slotIn ++
            (if bit (fld (cells.getD 0 0) 83 0) 83 = true ∧ (s.node u).lst p = 6 then [(fld (cells.getD 0 0) 83 0, first)] else []) ∧
          ∀ x ∈ frameMsgs (s.node u) p cells first, (isSpanType x.typ = false ∨ (s.node u).spanMatch p x.span x.epoch = true) →
            x ∈ (m.linkOf p).taken))) ∧
    ((s.node u).tb1 % 8 = 0 → 2 ≤ (s.node u).lst p → ((s.node u).linkOf p).sqThermal = false →
      RunsOn u (.frameSend u p) s (fun m =>
        m.linkOf p = { ((s.node u).assemble p).2 with
          lastTx := encodeFrame ((s.node u).assemble p).1, lastSym := some (frameSymbols (encodeFrame ((s.node u).assemble p).1)) })) ∧
    ((s.node u).tb1 % 8 = 0 → ((s.node u).lst p < 2 ∨ ((s.node u).linkOf p).sqThermal = true) →
      RunsOn u (.frameSend u p) s (fun m =>
        m.linkOf p = { (s.node u).linkOf p with lastTx := 0, lastSym := (s.node u).wakeOut p })) ∧
    ((s.node u).tb1 % 8 ≠ 0 → exec (.frameSend u p) s = .next s) ∧
    (∀ slot first rest, ((s.node u).linkOf p).slotIn = (slot, first) :: rest →
      (s.node u).seen.all (fun e => e.1 != waveKey slot) = true →
      RunsOn u (.faultSlotReceived u p) s (fun m =>
        m.seen.any (fun e => e == (waveKey slot, (s.node u).tb1)) = true ∧ (m.linkOf p).slotIn = rest ∧
        (u = .tsu → (m.linkOf p).waveIn = ((s.node u).linkOf p).waveIn ++ [(slot, first)])))

/-- A complete exchange posts the offset ((t2 - t1) - (t4 - t3) - A) / 2 and the round trip; a missed one is counted and keeps
the offset (03 Carrying time down the tree, R80, R81, R82, R90). -/
def Obligations.ExchangeGivesTheOffset : Prop :=
  ∀ (s : State) (u : Who) (p : Nat) (h : Msg), Works s u → p < (s.node u).portCount →
    (s.node u).peek p (fun m => m.typ == tTime) = some h →
    (∀ own t1 t2 t3 t4, ((s.node u).portOf p).sent.find? (fun e => e.1 == fld (h.cell 1) 47 16 && (s.node u).recentMarker e.1) =
        some (fld (h.cell 1) 47 16, own) →
      bit (h.cell 1) 15 = true → ((s.node u).portOf p).rxValid = true →
      (s.node u).exchangeStamps p ((s.node u).portOf p).rxStamp (fld h.head 127 64 * 65536 + fld h.head 63 48) own
        (fld (h.cell 1) 127 64 * 65536 + fld (h.cell 1) 63 48) = (t1, t2, t3, t4) →
      RunsOn u (.timeMessageReceived u p) s (fun m =>
        m.rd (Ob.tport_offset p) =
          ofS 64 ((((t2 : Int) - t1) - ((t4 : Int) - t3) - (s.node u).asymmetry p).tdiv 2) ∧
        m.rd (Ob.tport_roundTrip p) = ofS 64 (((t2 : Int) - t1) + ((t4 : Int) - t3)) ∧
        m.rd (Ob.tport_exchanges p) = ((s.node u).rd (Ob.tport_exchanges p) + 1) % 2 ^ 64 ∧
        (m.portOf p).missed = 0 ∧ m.tb1 = (s.node u).tb1 ∧ ∀ q, q < 68 → m.lst q = (s.node u).lst q)) ∧
    (((s.node u).portOf p).sent.find? (fun e => e.1 == fld (h.cell 1) 47 16 && (s.node u).recentMarker e.1) = none ∨ bit (h.cell 1) 15 = false ∨
      ((s.node u).portOf p).rxValid = false →
      RunsOn u (.timeMessageReceived u p) s (fun m =>
        m.rd (Ob.tport_offset p) = (s.node u).rd (Ob.tport_offset p) ∧
        m.rd (Ob.tport_missedExchanges p) = ((s.node u).rd (Ob.tport_missedExchanges p) + 1) % 2 ^ 64 ∧
        (m.portOf p).missed = ((s.node u).portOf p).missed + 1 ∧ m.tb1 = (s.node u).tb1 ∧ ∀ q, q < 68 → m.lst q = (s.node u).lst q))

/-- At a marker lock, source and servo follow each other; a node that is not acquiring never steps TB1; off a marker nothing
changes (03 Carrying time down the tree, R75, R83, R84, R85). -/
def Obligations.ServoMovesWithinItsLimit : Prop :=
  (∀ (s : State) (u : Who) (built : Nat), Works s u → (s.node u).tb1 % 512 ≠ 0 → exec (.markerServo u built) s = .next s) ∧
  (∀ (s : State) (u : Who) (built : Nat), Works s u → (s.node u).tb1 % 512 = 0 →
    RunsOn u (.markerServo u built) s (fun m =>
      (m.rd Ob.time_timeState ≠ 1 → m.tb1 = (s.node u).tb1) ∧
      (m.tb1 ≠ (s.node u).tb1 → m.tnode.servoI = 0 ∧ m.tnode.stepPending = false ∧
        m.rd Ob.time_timeSteps = ((s.node u).rd Ob.time_timeSteps + 1) % 2 ^ 32) ∧
      ((s.node u).isKeystone = true → (s.node u).rd Ob.time_source = 0x7E →
        m.rd Ob.time_source = 0x7E ∧ m.rd Ob.time_phaseMoved = (s.node u).rd Ob.time_phaseMoved))) ∧
  (∀ n : Node, ∃ k : Int,
    n.servoStep.rd Ob.time_phaseMoved = ofS 64 (n.rdS 64 Ob.time_phaseMoved + k) ∧
    k.natAbs ≤ if n.rd Ob.time_timeState = 2 then n.rd Ob.time_slewLimit else n.rd Ob.time_acquisitionSlew)

/-- A port earlier in the order takes over after the revert hold, the waiting plane-B Keystone becomes root, a plane disagreement
is told once (03 Carrying time down the tree, R74, R75, R86, R88). -/
def Obligations.SourcesChangeByTheirRules : Prop :=
  (∀ (s : State) (u : Who) (p built : Nat), Works s u → (s.node u).tb1 % 512 = 0 → (s.node u).rd Ob.time_source ∈ (s.node u).candidates →
    ((s.node u).candidates.takeWhile (· != (s.node u).rd Ob.time_source)).find? (fun p => (s.node u).eligible p && (s.node u).locked p &&
      decide (((s.node u).portOf p).readySince + 512 * (s.node u).rd Ob.time_revertHold ≤ (s.node u).tb1)) = some p →
    RunsOn u (.revertHoldExpiry u built) s (fun m => m.rd Ob.time_source = p ∧ m.rd Ob.time_timeState = 2 ∧ (s.node u).recorded m 0x22)) ∧
  (∀ (s : State) (t0 : Nat), Works s .hub → s.hub.isKeystone = true → s.hub.rd Ob.time_timeState = 0 → s.hub.tnode.rootWait = some t0 →
    t0 + 15625000 ≤ s.hub.tb1 → s.hub.tb1 % 512 = 0 → s.hub.candidates.any s.hub.eligible = false →
    RunsOn .hub .keystoneRootWaitExpiry s (fun m =>
      m.rd Ob.time_source = 0x7E ∧ m.rd Ob.time_timeState = 2 ∧ m.rd Ob.time_depth = 0 ∧ m.tnode.rootWait = none)) ∧
  (∀ (s : State) (u : Who), Works s u → 16 ≤ (s.node u).tnode.planeRun → (s.node u).tnode.planeTold = false →
    RunsOn u (.planeDisagreement u) s (fun m =>
      m.tnode.planeTold = true ∧ (s.node u).recorded m 0x21 ∧ m.rd Ob.time_source = (s.node u).rd Ob.time_source ∧
      ((s.node u).isHub = false → (s.node u).rd Ob.time_planeMode = 2 →
        m.tnode.soleLane = some (if ((s.node u).portOf 1).pDepth < ((s.node u).portOf 0).pDepth then 1 else 0)))) ∧
  (∀ (s : State) (u : Who), Works s u → (s.node u).tnode.planeTold = true → exec (.planeDisagreement u) s = .next s)

/-- Loop closure stores the residual of every measured downlink and answers 2 or 3; a pod evaluation adds twice the error to the
constant (03 Carrying time down the tree, R91, R92, R93, R96). -/
def Obligations.ClosureAndPodCalibrate : Prop :=
  (∀ (s : State), Works s .hub →
    RunsOn .hub .closureApply s (fun m => m.rd Ob.time_closure = 1 ∧ m.tnode.closing = 1 ∧ m.tnode.closeStart = s.hub.tb1 ∧ m.answered 0) ∧
    RunsOn .hub .closureMeasure s (fun m => m.rd Ob.time_closure = 1 ∧ m.tnode.closing = 2 ∧ m.tnode.closeStart = s.hub.tb1 ∧ m.answered 0)) ∧
  (∀ (s : State) (meas : List ClosureMeas), Works s .hub → s.hub.tnode.closing ≠ 0 →
    s.hub.tnode.closeStart + 512 * s.hub.rd Ob.time_closureLength ≤ s.hub.tb1 → meas.Pairwise (fun a b => a.port ≠ b.port) →
    RunsOn .hub (.closureDone meas) s (fun m =>
      m.tnode.closing = 0 ∧ (∀ x ∈ meas, s.hub.closureOn x = true → m.rd (Ob.tport_closureResidual x.port) = ofS 64 (x.thA - x.thB + x.tauC - x.tauP)) ∧
      m.rd Ob.time_closure =
        if s.hub.tnode.closing = 1 ∧ ∃ x ∈ meas, s.hub.closureOn x = true ∧ closureSplit x (x.thA - x.thB + x.tauC - x.tauP) = none then 3 else 2)) ∧
  (∀ (s : State) (meas : List ClosureMeas), Works s .hub → meas.Pairwise (fun a b => a.port ≠ b.port) →
    s.hub.tnode.trackStart + 512 * 65536 ≤ s.hub.tb1 →
    RunsOn .hub (.closureTrackingRun meas) s (fun m =>
      m.tnode.trackStart = s.hub.tb1 ∧ ∀ x ∈ meas, s.hub.closureOn x = true → m.rd (Ob.tport_closureResidual x.port) = ofS 64 (x.thA - x.thB + x.tauC - x.tauP))) ∧
  (∀ (s : State) (u : Who) (p v : Nat), Works s u → p < (s.node u).portCount →
    ((s.node u).isChildEnd p = true ∨ (s.node u).isTwinPort p = true →
      RunsOn u (.podOffsetWrite u p v) s (fun m =>
        m.answered 0 ∧ (m.portOf p).podOn = true ∧ (m.portOf p).podN = 4096 ∧ (m.portOf p).podSum = 0 ∧ (m.portOf p).podOff = toS 64 v)) ∧
    ((s.node u).isChildEnd p = false → (s.node u).isTwinPort p = false →
      RunsOn u (.podOffsetWrite u p v) s (fun m => m.answered 3 ∧ m.portOf p = (s.node u).portOf p))) ∧
  (∀ (s : State) (u : Who) (p : Nat), Works s u → p < (s.node u).portCount → ((s.node u).portOf p).podOn = true →
    ((s.node u).portOf p).podN = 0 →
    RunsOn u (.podEvaluationDone u p) s (fun m =>
      m.rd (Ob.tport_asymmetry p) = ofS 32 ((s.node u).rdS 32 (Ob.tport_asymmetry p) +
        2 * (roundRat ((((s.node u).portOf p).podSum : Rat) / 4096) - ((s.node u).portOf p).podOff)) ∧
      m.rd (Ob.tport_calibration p) = 2 ∧ (m.portOf p).podOn = false))

/-- An event edge is counted and stamped, rejected in the hold-off or ignored; hits fill the bins; DLL losses are told (04
Measuring edges finer than a tick, R100, R102, R106, R108). -/
def Obligations.EdgesAreConditionedAndStamped : Prop :=
  ∀ (s : State) (u : Who), Works s u →
    (∀ i code falling, i < 8 →
      ((s.node u).rd (Ob.ev_enable i) = 1 → ((s.node u).rd (Ob.ev_edge i) = 1 ↔ falling = true) → ((s.node u).evOf i).holdTo ≤ (s.node u).tb1 →
        ((s.node u).chanOf (0x60 + i)).convAt = some ((s.node u).tb1, true) →
        RunsOn u (.tdcEdge u (0x60 + i) code ⟨falling, false⟩) s (fun m =>
          m.rd (Ob.ev_edgeCount i) = ((s.node u).rd (Ob.ev_edgeCount i) + 1) % 2 ^ 48 ∧ (m.evOf i).last = ((s.node u).evOf i).last ∧
          m.mslots = (s.node u).mslots ∧ m.regrs = (s.node u).regrs ∧ m.caps = (s.node u).caps)) ∧
      ((s.node u).rd (Ob.ev_enable i) = 1 → ((s.node u).rd (Ob.ev_edge i) = 1 ↔ falling = true) → ((s.node u).evOf i).holdTo ≤ (s.node u).tb1 →
        ((s.node u).chanOf (0x60 + i)).convAt ≠ some ((s.node u).tb1, true) →
        RunsOn u (.tdcEdge u (0x60 + i) code ⟨falling, false⟩) s (fun m =>
          m.rd (Ob.ev_edgeCount i) = ((s.node u).rd (Ob.ev_edgeCount i) + 1) % 2 ^ 48 ∧
          (m.evOf i).last = (s.node u).tb1 * 65536 +
            (if ((s.node u).chanOf (0x60 + i)).dll then fieldAt ((s.node u).rd (Ob.chan_calibrationTable (0x60 + i))) (2 * code) 2
             else 4096 * (code / 32) + 2048) ∧
          (m.evOf i).holdTo = (s.node u).tb1 + (s.node u).rd (Ob.ev_holdOff i) ∧ m.tb1 = (s.node u).tb1)) ∧
      ((s.node u).rd (Ob.ev_enable i) = 1 → ((s.node u).rd (Ob.ev_edge i) = 1 ↔ falling = true) → (s.node u).tb1 < ((s.node u).evOf i).holdTo →
        RunsOn u (.tdcEdge u (0x60 + i) code ⟨falling, false⟩) s (fun m =>
          m.rd (Ob.ev_rejectedEdges i) = ((s.node u).rd (Ob.ev_rejectedEdges i) + 1) % 2 ^ 64 ∧
          m.rd (Ob.ev_edgeCount i) = (s.node u).rd (Ob.ev_edgeCount i) ∧ m.evins = (s.node u).evins ∧ m.mslots = (s.node u).mslots)) ∧
      ((s.node u).rd (Ob.ev_enable i) ≠ 1 ∨ ¬((s.node u).rd (Ob.ev_edge i) = 1 ↔ falling = true) →
        exec (.tdcEdge u (0x60 + i) code ⟨falling, false⟩) s = .next s)) ∧
    (∀ c code falling, (s.node u).hasChan c = true →
      (((s.node u).chanOf c).collecting = true → ((s.node u).chanOf c).hits < (s.node u).rd Ob.tdc_calibrationHits →
        (s.node u).chanIdle c = true → ((s.node u).chanOf c).convAt = none →
        RunsOn u (.tdcEdge u c code ⟨falling, true⟩) s (fun m =>
          (m.chanOf c).hits = ((s.node u).chanOf c).hits + 1 ∧
          tblGet 0 (m.chanOf c).bins code = tblGet 0 ((s.node u).chanOf c).bins code + 1 ∧ m.objs = (s.node u).objs ∧
          ∀ d, d ≠ c → m.chanOf d = (s.node u).chanOf d)) ∧
      (c < 0x60 →
        RunsOn u (.tdcEdge u c code ⟨falling, false⟩) s (fun m =>
          (m.chanOf c).firstEdge = some (((s.node u).chanOf c).firstEdge.getD ((s.node u).stampOf c code)) ∧ m.objs = (s.node u).objs ∧
          ∀ d, d ≠ c → m.chanOf d = (s.node u).chanOf d))) ∧
    (∀ c locked, (s.node u).hasChan c = true → (locked = true → ((s.node u).chanOf c).opAt + 16384 ≤ (s.node u).tb1) →
      RunsOn u (.dllLockChange u c locked) s (fun m =>
        (m.chanOf c).dll = locked ∧ (((s.node u).chanOf c).dll = true → locked = false → (s.node u).recorded m 0x26) ∧
        ∀ d, d ≠ c → m.chanOf d = (s.node u).chanOf d))

/-- The table that the hits of a channel's collection give (04 R103). -/
def newEntries (n : Node) (c : Nat) : List Nat :=
  tableEntries (n.chanOf c).hits 0 ((upTo 512).map (tblGet 0 (n.chanOf c).bins))

/-- A full collection whose table is near the ideal one waits for the next marker; another is discarded, counted and followed by
a new collection (04 Measuring edges finer than a tick, R103, R104, R105). -/
def Obligations.CalibrationByCodeDensity : Prop :=
  ∀ (s : State) (u : Who), Works s u →
    RunsOn u (.calibrateCommand u) s (fun m => m.answered 0 ∧
      ∀ c ∈ (s.node u).chanList, (m.chanOf c).collecting = true ∧ (m.chanOf c).started = (s.node u).tb1) ∧
    (∀ c, (s.node u).hasChan c = true →
      (((s.node u).chanOf c).collecting = false → ((s.node u).chanOf c).started + (s.node u).rd Ob.tdc_calibrationPeriod ≤ (s.node u).tb1 →
        RunsOn u (.calibrationPeriodStart u c) s (fun m =>
          (m.chanOf c).collecting = true ∧ (m.chanOf c).started = (s.node u).tb1 ∧ (m.chanOf c).clean = ((s.node u).chanOf c).dll ∧
          ∀ d, d ≠ c → m.chanOf d = (s.node u).chanOf d)) ∧
      (∀ counts, let q := (s.node u).bulkHits c counts;
      ((q.chanOf c).collecting = true → q.rd Ob.tdc_calibrationHits ≤ (q.chanOf c).hits →
        ((q.chanOf c).clean = true →
          tableOk (q.rd Ob.tdc_calibrationTolerance) (newEntries q c) = true →
          RunsOn u (.calibrationCollectionEnd u c counts) s (fun m =>
            (m.chanOf c).newTable = some (leVal (((newEntries q c).map (leBytes 2)).flatten)) ∧
            (m.chanOf c).collecting = false ∧ (m.chanOf c).rejects = 0 ∧
            m.rd (Ob.chan_calibrationTable c) = q.rd (Ob.chan_calibrationTable c) ∧
            m.rd Ob.tdc_calibrationsAccepted = (q.rd Ob.tdc_calibrationsAccepted + 1) % 2 ^ 64)) ∧
        ((q.chanOf c).clean = false ∨
          tableOk (q.rd Ob.tdc_calibrationTolerance) (newEntries q c) = false →
          RunsOn u (.calibrationCollectionEnd u c counts) s (fun m =>
            (m.chanOf c).rejects = (q.chanOf c).rejects + 1 ∧ (m.chanOf c).collecting = true ∧
            (m.chanOf c).started = q.tb1 ∧ (m.chanOf c).newTable = (q.chanOf c).newTable ∧
            m.rd Ob.tdc_calibrationsRejected = (q.rd Ob.tdc_calibrationsRejected + 1) % 2 ^ 64 ∧
            ((q.chanOf c).rejects = 2 → q.recorded m 0x26))))))

/-- A slot posts its interval at the end of its marker period and opens again; the regression commands open, stop and close gates
(04 Measuring edges finer than a tick, R109, R111, R112, R114). -/
def Obligations.SlotsAndGatesPostWholeResults : Prop :=
  ∀ (s : State) (u : Who), Works s u →
    (∀ k, k < (s.node u).slotCount → (s.node u).tb1 % 512 = 0 → ((s.node u).mslotOf k).opened + 512 = (s.node u).tb1 →
      ((s.node u).mslotOf k).src0 ≠ 0xFF → ((s.node u).mslotOf k).src1 ≠ 0xFF →
      RunsOn u (.slotClose u k) s (fun m =>
        m.rd (Ob.mslot_status k) % 4 =
          (if ((s.node u).mslotOf k).start = none then 1 else if ((s.node u).mslotOf k).stop = none then 2 else 0) ∧
        (∀ a b ca cb na nb, ((s.node u).mslotOf k).start = some (a, ca, na) → ((s.node u).mslotOf k).stop = some (b, cb, nb) →
          m.rd (Ob.mslot_result k) =
            putField 0 8 ((s.node u).mslotOf k).opened + stampField 8 a + stampField 18 b + putField 28 4 (b - a) ∧
          m.rd (Ob.mslot_status k) = (if ca || cb then 4 else 0) ∧
          m.rd (Ob.mslot_completed k) = ((s.node u).rd (Ob.mslot_completed k) + 1) % 2 ^ 64) ∧
        (m.mslotOf k).opened = (s.node u).tb1 ∧ (m.mslotOf k).src0 = (s.node u).rd (Ob.mslot_startSource k) ∧
        (m.mslotOf k).src1 = (s.node u).rd (Ob.mslot_stopSource k) ∧ (m.mslotOf k).stop = none ∧
        ∀ j, j ≠ k → m.mslotOf j = (s.node u).mslotOf j)) ∧
    (∀ g, g < 4 →
      RunsOn u (.regressionOneGate u g) s (fun m => m.answered 0 ∧ (m.regrOf g).mode = 1 ∧
        (m.regrOf g).opened = nextMul 512 ((s.node u).tb1 + 1) ∧ (m.regrOf g).input = (s.node u).rd (Ob.regr_input g) ∧ (m.regrOf g).kept = []) ∧
      RunsOn u (.regressionContinuous u g) s (fun m => m.answered 0 ∧ (m.regrOf g).mode = 2 ∧
        (m.regrOf g).opened = nextMul 512 ((s.node u).tb1 + 1) ∧ (m.regrOf g).input = (s.node u).rd (Ob.regr_input g) ∧ (m.regrOf g).kept = []) ∧
      (((s.node u).regrOf g).mode = 1 ∨ ((s.node u).regrOf g).mode = 2 →
        RunsOn u (.regressionStop u g) s (fun m => m.answered 0 ∧ (m.regrOf g).mode = 3 ∧
          (m.regrOf g).stopAt = nextMul 512 ((s.node u).tb1 + 1) ∧
          (((s.node u).regrOf g).mode = 1 ∨ (s.node u).tb1 < (s.node u).gateEnd g → (m.regrOf g).kept = ((s.node u).regrOf g).kept))) ∧
      (((s.node u).regrOf g).mode = 0 ∨ ((s.node u).regrOf g).mode = 3 →
        RunsOn u (.regressionStop u g) s (fun m => m.answered 0 ∧ m.regrOf g = (s.node u).regrOf g)) ∧
      (((s.node u).regrOf g).mode = 3 → ((s.node u).regrOf g).closed = none → ((s.node u).regrOf g).stopAt ≤ (s.node u).tb1 →
        RunsOn u (.regressionGateEnd u g) s (fun m => (m.regrOf g).mode = 0 ∧
          bits (m.rd (Ob.regr_result g)) 224 32 = 4 ∧ ∀ h, h ≠ g → m.regrOf h = (s.node u).regrOf h)) ∧
      (∀ c, ((s.node u).regrOf g).closed = some c →
        RunsOn u (.regressionGateEnd u g) s (fun m =>
          m.regrOf g = { (s.node u).regrOf g with closed := none } ∧ bits (m.rd (Ob.regr_result g)) 0 64 = c.opened % 2 ^ 64 ∧
          bits (m.rd (Ob.regr_result g)) 128 32 = c.kept.length % 2 ^ 32)) ∧
      (((s.node u).regrOf g).mode = 1 ∨ ((s.node u).regrOf g).mode = 2 → ((s.node u).regrOf g).closed = none →
        (s.node u).gateEnd g ≤ (s.node u).tb1 →
        RunsOn u (.regressionGateEnd u g) s (fun m =>
          (m.regrOf g).mode = (if ((s.node u).regrOf g).mode = 2 then 2 else 0) ∧
          (((s.node u).regrOf g).mode = 2 → (m.regrOf g).opened = (s.node u).gateEnd g) ∧
          bits (m.rd (Ob.regr_result g)) 0 64 = ((s.node u).regrOf g).opened % 2 ^ 64 ∧
          bits (m.rd (Ob.regr_result g)) 128 32 = ((s.node u).regrOf g).kept.length % 2 ^ 32)))

/-- ESMC PDUs set the code of the references that name them, silence fails it, a monitor gate posts its offset, a wait ends, a
bad table is refused (05 Keystone: choosing and holding the hall's reference, R123, R126, R127, R128, R129). -/
def Obligations.ReferencesAreJudgedByTheirSignals : Prop :=
  ∀ (s : State), Works s .hub → s.hub.isKeystone = true →
    (∀ port pdu, port < 2 →
      (esmcOk pdu = true → (∃ i, i < 8 ∧ s.hub.esmcMatch port (numBE ((pdu.drop 6).take 6)) i = true) →
        RunsOn .hub (.esmcPduReceived port pdu) s (fun m =>
          ∀ i, i < 8 →
            if s.hub.esmcMatch port (numBE ((pdu.drop 6).take 6)) i then
              m.rd (Ob.rin_receivedSSM i) = pdu.getD 27 0 % 16 ∧
              m.rd (Ob.rin_esmcReceived i) = (s.hub.rd (Ob.rin_esmcReceived i) + 1) % 2 ^ 64 ∧ (m.refOf i).pduAt = some s.hub.tb1
            else m.rd (Ob.rin_receivedSSM i) = s.hub.rd (Ob.rin_receivedSSM i) ∧ m.refOf i = s.hub.refOf i)) ∧
      (esmcOk pdu = false ∨ (∀ i, i < 8 → s.hub.esmcMatch port (numBE ((pdu.drop 6).take 6)) i = false) →
        RunsOn .hub (.esmcPduReceived port pdu) s (fun m =>
          m.rd Ob.ref_esmcDropped = (s.hub.rd Ob.ref_esmcDropped + 1) % 2 ^ 64 ∧
          (∀ i, i < 8 → m.rd (Ob.rin_receivedSSM i) = s.hub.rd (Ob.rin_receivedSSM i)) ∧ m.refs = s.hub.refs))) ∧
    (∀ i t, i < 8 → (s.hub.refOf i).pduAt = some t → t + 7812500000 ≤ s.hub.tb1 →
      RunsOn .hub (.esmcTimeout i) s (fun m =>
        m.rd (Ob.rin_receivedSSM i) = 0xFF ∧ (s.hub.rd (Ob.rin_qualitySource i) = 1 → m.rd (Ob.rin_rank i) = 15) ∧
        s.hub.sameObjsBut m [Ob.rin_receivedSSM i, Ob.rin_rank i] ∧ ∀ j, j ≠ i → m.refOf j = s.hub.refOf j)) ∧
    (∀ i c, i < 8 → (s.hub.monOf i).closed = some c ∨ ((s.hub.monOf i).closed = none ∧ s.hub.monGateEnd i ≤ s.hub.tb1 ∧ c = (s.hub.monOf i).gate) →
      RunsOn .hub (.monitorGateEnd i) s (fun m =>
        m.rd (Ob.rin_monitorOffset i) =
          (if c.status false = 0 ∨ c.status false = 2 then ofS 64 (regrFit (s.hub.nomPeriod i) c.kept).1 else s.hub.rd (Ob.rin_monitorOffset i)) ∧
        (bit (m.rd (Ob.rin_status i)) 1 = true ↔ (c.status false = 0 ∨ c.status false = 2) ∧
          (m.rdS 64 (Ob.rin_monitorOffset i) + m.rdS 64 Ob.ref_dcoWord).natAbs * 1000000000 ≤ m.rd (Ob.rin_frequencyWindow i) * 2 ^ 48) ∧
        (m.monOf i).closed = none ∧
        ((s.hub.monOf i).closed = none → (m.monOf i).opened = s.hub.monGateEnd i ∧ (m.monOf i).kept = []) ∧
        ∀ j, j ≠ i → m.monOf j = s.hub.monOf j)) ∧
    (∀ i, i < 8 → (s.hub.refOf i).waiting = true → (s.hub.refOf i).waitTo ≤ s.hub.tb1 →
      RunsOn .hub (.waitToRestoreExpiry i) s (fun m =>
        (m.refOf i).waiting = false ∧ (m.refOf i).qual = (s.hub.refOf i).qual ∧ s.hub.sameObjsBut m [Ob.rin_status i] ∧
        ∀ j, j ≠ i → m.refOf j = s.hub.refOf j)) ∧
    (∀ v, (s.hub.tableAllowed v = true →
        RunsOn .hub (.priorityTableWrite v) s (fun m =>
          m.answered 0 ∧ m.kst.tableAt = some (nextMul 512 (s.hub.tb1 + 1), tableMask v) ∧
          m.rd Ob.prio_priorityTable = s.hub.rd Ob.prio_priorityTable)) ∧
      (s.hub.tableAllowed v = false →
        RunsOn .hub (.priorityTableWrite v) s (fun m => m.answered 3 ∧ m.kst = s.hub.kst ∧
          m.rd Ob.prio_priorityTable = s.hub.rd Ob.prio_priorityTable)))

/-- Selection keeps or changes the entry by the four steps, and the reference state follows it; TB1 is never stepped by a
Keystone's marker (05 Keystone: choosing and holding the hall's reference, R130, R131, R137, R139, R145, R146). -/
def Obligations.SelectionDrivesTheReferenceState : Prop :=
  (∀ (n : Node) (a : Nat),
    (n.rd Ob.ref_forcedEntry < 8 → n.entryQual (n.rd Ob.ref_forcedEntry) = true → n.select a = some (n.rd Ob.ref_forcedEntry)) ∧
    ((8 ≤ n.rd Ob.ref_forcedEntry ∨ n.entryQual (n.rd Ob.ref_forcedEntry) = false) →
      ((8 ≤ a ∨ n.entryQual a = false) → n.select a = n.candidate) ∧
      (a < 8 → n.entryQual a = true → n.rd Ob.ref_revertive ≠ 1 → ∀ c, n.candidate = some c →
        n.select a = some (if n.rd Ob.ref_selectionMode = 0 ∧ n.entryRank c < n.entryRank a then c else a)) ∧
      (a < 8 → n.entryQual a = true → n.rd Ob.ref_revertive = 1 → ∀ c, n.candidate = some c → n.select a = some c))) ∧
  (∀ (n : Node) (j : Nat),
    (n.rd Ob.ref_referenceState = 0 ∨ n.rd Ob.ref_referenceState = 3 ∨ n.rd Ob.ref_referenceState = 4 →
      (n.transition (some j)).rd Ob.ref_referenceState = 1 ∧ (n.transition (some j)).rd Ob.ref_activeEntry = j) ∧
    (n.rd Ob.ref_referenceState = 1 → (n.transition (some j)).rd Ob.ref_referenceState = 1 ∧
      (n.transition (some j)).rd Ob.ref_activeEntry = j)) ∧
  (∀ n : Node, (n.transition none).rd Ob.ref_activeEntry = 0xFF ∧
    (n.rd Ob.ref_referenceState = 1 → (n.transition none).rd Ob.ref_referenceState =
      if n.kst.histValid then (if n.overBudget then 4 else 3) else 0) ∧
    (n.rd Ob.ref_referenceState = 2 → n.histWindow.length < 60 → (n.transition none).rd Ob.ref_referenceState = 0) ∧
    (n.rd Ob.ref_referenceState = 2 → 60 ≤ n.histWindow.length → (n.transition none).rd Ob.ref_referenceState = 3 ∧
      (n.transition none).rd Ob.ref_leftLocked = n.tb1)) ∧
  (∀ (s : State) (ranks : List Nat) (track : Nat), Works s .hub → s.hub.isKeystone = true → s.hub.tb1 % 512 = 0 →
    RunsOn .hub (.keystoneMarker ranks track) s (fun m =>
      m.tb1 = s.hub.tb1 ∧ (∀ t v, s.hub.kst.tableAt = some (t, v) → t ≤ s.hub.tb1 → m.rd Ob.prio_priorityTable = v ∧ m.kst.tableAt = none) ∧
      (s.hub.isFollower = true → m.rd Ob.ref_follower = 1 ∧ m.rd Ob.ref_trackedWord = track ∧
        m.rd Ob.ref_referenceState = s.hub.rd Ob.ref_referenceState ∧ m.rd Ob.ref_activeEntry = s.hub.rd Ob.ref_activeEntry))) ∧
  (∀ (s : State) (p : Nat) (h : Msg), Works s .hub → s.hub.isKeystone = true → p = 66 ∨ p = 67 → s.hub.isFollower = true →
    s.hub.peek p (isTwinKind 1) = some h →
    RunsOn .hub (.twinKeystoneReceived p) s (fun m =>
      m.rd Ob.ref_referenceState = fld h.head 123 121 ∧ m.rd Ob.ref_activeEntry = fld h.head 120 113 ∧
      m.kst.ancT = fld (h.cell 1) 127 64 * 65536 + fld (h.cell 1) 63 48 ∧ m.kst.ancS = fld (h.cell 1) 47 0 ∧ m.tb1 = s.hub.tb1)) ∧
  (∀ s : State, Works s .hub → s.hub.isKeystone = true → s.hub.rd Ob.time_source = 0x7E → s.hub.rd Ob.ref_follower = 1 →
    RunsOn .hub .keystoneTakeover s (fun m =>
      m.rd Ob.ref_follower = 0 ∧ m.rd Ob.ref_dcoWord = ofS 64 (s.hub.rdS 64 Ob.ref_trackedWord) ∧
      m.kst.servoI = (s.hub.rdS 64 Ob.ref_trackedWord : Rat) / (2 ^ 48 : Nat) ∧ m.kst.ancT = s.hub.kst.ancT ∧ m.kst.ancS = s.hub.kst.ancS ∧
      m.rd Ob.ref_referenceState =
        (if (s.hub.kst.rootState = 1 ∨ s.hub.kst.rootState = 2 ∨ s.hub.kst.rootState = 3) ∧ s.hub.kst.rootHist = true then 3
         else if s.hub.kst.rootState = 4 then 4 else 0) ∧ m.tb1 = s.hub.tb1))

/-- A servo update moves I by the loop's terms and keeps d within 200 ppm and the slew limit; history, DAC and budget act once
due (05 Keystone: choosing and holding the hall's reference, R132, R134, R136, R137, R141). -/
def Obligations.ReferenceServoSteersWithinItsRange : Prop :=
  (∀ (s : State), Works s .hub → s.hub.isRoot = true →
    s.hub.rd Ob.ref_referenceState = 1 ∨ s.hub.rd Ob.ref_referenceState = 2 → s.hub.rd Ob.ref_activeEntry < 8 →
    let i := entryRef (s.hub.prioEntry (s.hub.rd Ob.ref_activeEntry))
    let pps := s.hub.rd (Ob.ev_nominalCode i) == 0
    let tu : Rat := if pps then 1 else 33554432 / 100000000000
    (s.hub.refOf i).errN ≠ 0 → pps = true ∨ s.hub.kst.updAt + 1024 * 512 ≤ s.hub.tb1 →
    RunsOn .hub .referenceServoUpdate s (fun m =>
      m.kst.servoI = s.hub.kst.servoI - servoWn (s.hub.loopB pps) * servoWn (s.hub.loopB pps) * tu *
        ((((s.hub.refOf i).errSum : Rat) / (s.hub.refOf i).errN) / (tps * 65536 : Nat)) ∧
      m.kst.lastErr = roundRat (((s.hub.refOf i).errSum : Rat) / (s.hub.refOf i).errN) ∧ m.kst.updAt = s.hub.tb1 ∧ (m.refOf i).errN = 0 ∧
      ((s.hub.rdS 64 Ob.ref_dcoWord).natAbs ≤ 56294995342 →
        (m.rdS 64 Ob.ref_dcoWord).natAbs ≤ 56294995342 ∧
        ((m.rdS 64 Ob.ref_dcoWord - s.hub.rdS 64 Ob.ref_dcoWord).natAbs : Rat) ≤
          (s.hub.rd Ob.ref_frequencySlew : Nat) * tu * (2 ^ 48 : Nat) / 1000000000))) ∧
  (∀ (s : State), Works s .hub → s.hub.isRoot = true → s.hub.rd Ob.ref_referenceState = 2 →
    (s.hub.kst.histAt + tps ≤ s.hub.tb1 →
      RunsOn .hub .dcoHistoryRecord s (fun m =>
        m.kst.histAt = s.hub.tb1 ∧ (s.hub.tb1, s.hub.rdS 64 Ob.ref_dcoWord) ∈ m.kst.hist ∧ { m with kst := s.hub.kst } = s.hub)) ∧
    (s.hub.rd Ob.ref_dacMode = 1 → s.hub.rdS 32 Ob.ref_dacGain ≠ 0 → s.hub.kst.dacAt + tps ≤ s.hub.tb1 → s.hub.rd Ob.ref_dacWord ≤ 65535 →
      RunsOn .hub .dacDiscipline s (fun m =>
        m.rd Ob.ref_dacWord ≤ 65535 ∧ m.kst.dacAt = s.hub.tb1 ∧
        m.kst.servoI = s.hub.kst.servoI -
          ((((m.rd Ob.ref_dacWord : Nat) : Int) - ((s.hub.rd Ob.ref_dacWord : Nat) : Int)) * s.hub.rdS 32 Ob.ref_dacGain : Int) / (2 ^ 48 : Nat) ∧
        s.hub.sameObjsBut m [Ob.ref_dacWord]))) ∧
  (∀ (s : State), Works s .hub → s.hub.isRoot = true → s.hub.rd Ob.ref_referenceState = 3 → s.hub.overBudget = true →
    RunsOn .hub .holdoverBudgetReached s (fun m => m.rd Ob.ref_referenceState = 4 ∧ s.hub.recorded m 0x2A ∧
      m.rd Ob.ref_leftLocked = s.hub.rd Ob.ref_leftLocked))

/-- The anchor advances by whole seconds, a label is applied at the time source's next edge, realignment starts and stops;
outputs fire as placed (05 Keystone: choosing and holding the hall's reference, R142, R143, R147, R148). -/
def Obligations.HallTimeMovesOnlyAsCommanded : Prop :=
  (∀ (s : State), Works s .hub → s.hub.isKeystone = true →
    (s.hub.kst.ancT + 1562500000 * 65536 ≤ s.hub.tb1 * 65536 →
      RunsOn .hub .hallSecondRoll s (fun m =>
        m.kst.ancT = s.hub.kst.ancT + 1562500000 * 65536 ∧ m.kst.ancS = (s.hub.kst.ancS + 1) % 2 ^ 48 ∧
        s.hub.sameObjsBut m [Ob.khall_anchor] ∧ { m with objs := s.hub.objs, kst := s.hub.kst } = s.hub)) ∧
    (∀ stamp j, s.hub.timeSource = some j → (s.hub.evOf j).seen = true → (s.hub.evOf j).last = stamp →
      RunsOn .hub (.timeSourceEdge stamp) s (fun m =>
        (∀ sec, s.hub.kst.label = some sec →
          m.kst.ancT = ((stamp : Int) - s.hub.rdS 64 (Ob.rin_inputDelay j)).toNat ∧ m.kst.ancS = sec ∧ m.kst.label = none ∧
          m.kst.labelled = true ∧ m.rdS 64 Ob.khall_timeOffset = 0) ∧
        (s.hub.kst.label = none → m.kst.ancT = s.hub.kst.ancT ∧ m.kst.ancS = s.hub.kst.ancS ∧
          m.rd Ob.khall_timeOffset = ofS 64 (wrapPeriod (1562500000 * 65536)
            ((((stamp : Int) - s.hub.rdS 64 (Ob.rin_inputDelay j)).toNat : Int) - s.hub.kst.ancT))) ∧ m.tb1 = s.hub.tb1))) ∧
  (∀ (s : State), Works s .hub →
    (∀ v, (s.hub.timeSource.isSome = true →
        RunsOn .hub (.hallLabelWrite v) s (fun m => m.answered 0 ∧ m.kst.label = some (v % 2 ^ 48) ∧ m.kst.ancT = s.hub.kst.ancT)) ∧
      (s.hub.timeSource = none → RunsOn .hub (.hallLabelWrite v) s (fun m => m.answered 3 ∧ m.kst = s.hub.kst))) ∧
    (s.hub.isKeystone = true →
      RunsOn .hub .realignStart s (fun m => m.answered 0 ∧ m.kst.realign = true ∧ m.kst.ancT = s.hub.kst.ancT) ∧
      RunsOn .hub .realignStop s (fun m => m.answered 0 ∧ m.kst.realign = false ∧ m.kst.ancT = s.hub.kst.ancT)) ∧
    (s.hub.isKeystone = false →
      RunsOn .hub .realignStart s (fun m => m.answered 3 ∧ m.kst = s.hub.kst) ∧
      RunsOn .hub .realignStop s (fun m => m.answered 3 ∧ m.kst = s.hub.kst))) ∧
  (∀ (s : State) (k : Nat), Works s .hub → k < 6 →
    (∀ x, (s.hub.outOf k).pend = [] → s.hub.outPlaced (s.hub.outOf k).now = some x → (s.hub.outOf k).lastAt ≠ some x →
      RunsOn .hub (.outputPulse k) s (fun m =>
        m.rd (Ob.out_pulses k) = (s.hub.rd (Ob.out_pulses k) + 1) % 2 ^ 64 ∧ (m.outOf k).lastAt = some x ∧ (m.outOf k).now = (s.hub.outOf k).now ∧
        (k < 4 → ((m.outOf k).high = true ↔ 0 < (s.hub.outOf k).now.wid) ∧ (m.outOf k).fallAt = s.hub.tb1 + (s.hub.outOf k).now.wid) ∧
        (4 ≤ k → (m.outOf k).edgeAt = some x) ∧ ∀ j, j ≠ k → m.outOf j = s.hub.outOf j)) ∧
    ((s.hub.outOf k).pend = [] → s.hub.outPlaced (s.hub.outOf k).now = none ∨ s.hub.outPlaced (s.hub.outOf k).now = (s.hub.outOf k).lastAt →
      exec (.outputPulse k) s = .next s) ∧
    (∀ w, (s.hub.outOf k).pend = [w] →
      let set := (s.hub.outOf k).now.written [w]
      (set.src = 0 ∧ w.1 ≤ s.hub.tb1) ∨ (set.src ≠ 0 ∧ ∃ x, s.hub.outPlaced set = some x ∧ w.1 * 512 ≤ x) →
      RunsOn .hub (.outputSettingEffective k) s (fun m =>
        (m.outOf k).now = set ∧ (m.outOf k).pend = [] ∧ ∀ j, j ≠ k → m.outOf j = s.hub.outOf j)))

/-- The nominal increment is every T96 base's default; a write beyond 1,000 ppm of it is refused; a written increment counts from
the next tick (R156). -/
def Obligations.IncrementsStayNearNominal : Prop :=
  (∀ k, k < 8 → k ≠ 1 → dfltOf .full (Ob.tb_increment k) = 180143985094820 ∧ dfltOf .edge (Ob.tb_increment k) = 180143985094820) ∧
  (∀ (s : State) (k v : Nat), k < 8 → s.tsu.isHub = false →
    (180143985095 < ((v : Int) - 180143985094820).natAbs →
      RunsOn .tsu (.tbIncrementWrite k v) s (fun m =>
        m.answered 3 ∧ m.rd (Ob.tb_increment k) = s.tsu.rd (Ob.tb_increment k) ∧ m.bases = s.tsu.bases)) ∧
    (k ≠ 1 → ((v : Int) - 180143985094820).natAbs ≤ 180143985095 →
      RunsOn .tsu (.tbIncrementWrite k v) s (fun m =>
        m.answered 0 ∧ m.rd (Ob.tb_increment k) = v ∧ m.bases = s.tsu.bases ∧
        ((m.baseTick k).baseOf k).total =
          ((((m.baseOf k).total : Int) + v + slewPart (m.rd (Ob.tb_slewRate k)) (m.baseOf k).remain).toNat) % (2 ^ 48 * perSec48))))

/-- A command written to a base: pending where it is allowed, refused where it is not (06 R157, R158). -/
def CommandWritten (i : Instr) (s : State) (k op apply arg : Nat) : Prop :=
  (s.tsu.cmdOk k op apply arg = true →
    RunsOn .tsu i s (fun m =>
      m.answered 0 ∧ (m.baseOf k).cmdOp = op ∧ (m.baseOf k).cmdAt = (if apply = 0 then s.tsu.tb1 + 1 else apply) ∧ (m.baseOf k).cmdArg = arg ∧
      (m.baseOf k).total = (s.tsu.baseOf k).total ∧ (m.baseOf k).remain = (s.tsu.baseOf k).remain ∧
      ∀ j, j ≠ k → m.baseOf j = s.tsu.baseOf j)) ∧
  (s.tsu.cmdOk k op apply arg = false →
    RunsOn .tsu i s (fun m => m.answered 3 ∧ m.rd (Ob.tb_command k) = 3 ∧ m.bases = s.tsu.bases))

/-- An allowed command to a base waits for its apply tick; set, step, slew and cancel then do what they say; a refused one leaves
the base (06 Time bases, event capture and interrupt stamps, R157, R158, R159). -/
def Obligations.TimeBaseCommandsWaitAndAct : Prop :=
  ∀ (s : State) (k : Nat), k < 8 → s.tsu.isHub = false →
    (∀ apply arg, CommandWritten (.tbSet k apply arg) s k 1 apply arg ∧ CommandWritten (.tbStep k apply arg) s k 2 apply arg ∧
      CommandWritten (.tbSlew k apply arg) s k 3 apply arg ∧ CommandWritten (.tbCancelSlew k apply) s k 4 apply 0) ∧
    ((s.tsu.baseOf k).cmdAt ≤ s.tsu.tb1 →
      ((s.tsu.baseOf k).cmdOp = 1 → t96Ok ((s.tsu.baseOf k).cmdArg % 2 ^ 96) = true →
        RunsOn .tsu (.tbCommandApply k) s (fun m =>
          (m.baseOf k).t96 = (s.tsu.baseOf k).cmdArg % 2 ^ 96 ∧ (m.baseOf k).remain = 0 ∧ (m.baseOf k).cmdOp = 0 ∧
          m.rd (Ob.tb_lastChange k) = s.tsu.tb1 ∧ m.rd (Ob.tb_command k) = 2 ∧ ∀ j, j ≠ k → m.baseOf j = s.tsu.baseOf j)) ∧
      ((s.tsu.baseOf k).cmdOp = 2 → 0 ≤ ((s.tsu.baseOf k).total : Int) + amount48 (s.tsu.baseOf k).cmdArg →
        RunsOn .tsu (.tbCommandApply k) s (fun m =>
          (m.baseOf k).total = (((s.tsu.baseOf k).total : Int) + amount48 (s.tsu.baseOf k).cmdArg).toNat % (2 ^ 48 * perSec48) ∧
          (m.baseOf k).remain = 0 ∧ (m.baseOf k).cmdOp = 0 ∧ m.rd (Ob.tb_lastChange k) = s.tsu.tb1 ∧ m.rd (Ob.tb_command k) = 2)) ∧
      ((s.tsu.baseOf k).cmdOp = 3 →
        RunsOn .tsu (.tbCommandApply k) s (fun m =>
          (m.baseOf k).remain = amount48 (s.tsu.baseOf k).cmdArg -
            slewPart (s.tsu.rd (Ob.tb_slewRate k)) (amount48 (s.tsu.baseOf k).cmdArg) ∧
          (m.baseOf k).slewing = true ∧ (m.baseOf k).cmdOp = 0 ∧ m.rd (Ob.tb_command k) = 2)) ∧
      ((s.tsu.baseOf k).cmdOp = 4 →
        RunsOn .tsu (.tbCommandApply k) s (fun m => (m.baseOf k).remain = 0 ∧ (m.baseOf k).cmdOp = 0 ∧ m.rd (Ob.tb_command k) = 2))) ∧
    ((s.tsu.baseOf k).slewing = true → (s.tsu.baseOf k).remain = 0 →
      RunsOn .tsu (.tbSlewEnd k) s (fun m => (m.baseOf k).slewing = false ∧ m.rd (Ob.tb_lastChange k) = (s.tsu.baseOf k).endAt ∧
        (m.baseOf k).total = (s.tsu.baseOf k).total ∧ s.tsu.sameObjsBut m [Ob.tb_lastChange k]))

/-- A new hall anchor within the slew limit leaves TB0 where it is, a larger change steps it with cause 0x2C; mode changes carry
TB0 over (06 Time bases, event capture and interrupt stamps, R160, R161, R162, R163). -/
def Obligations.HallTimeNeitherJumpsNorStepsUnrecorded : Prop :=
  (∀ (s : State) (v : Nat), s.tsu.isHub = false →
    RunsOn .tsu (.hallAnchorWrite v) s (fun m =>
      m.answered 0 ∧ m.rd Ob.hall_hallAnchor = v % 2 ^ 144 ∧ m.rd Ob.hall_anchorWrites = (s.tsu.rd Ob.hall_anchorWrites + 1) % 2 ^ 64 ∧
      (s.tsu.hallMode = false → m.hall = s.tsu.tb0Tick.hall) ∧
      (s.tsu.hallMode = true →
        let new : Int := ((fieldAt v 10 6 * perSec16 : Nat) : Int) + (((s.tsu.tb1 * 65536 : Nat) : Int) - (anchorA v : Int)) * 16 / 25
        let d := s.tsu.tb0Tick.hallAt (s.tsu.tb1 * 65536) - new
        m.hall.ancT = anchorA v ∧ m.hall.ancS = fieldAt v 10 6 ∧ m.rd Ob.hall_hallFlags = fieldAt v 17 1 * 256 + fieldAt v 16 1 ∧
        (d.natAbs ≤ s.tsu.rd Ob.hall_hallSlewLimit * 65536 →
          m.hall.resid = d ∧ m.hallAt (m.tb1 * 65536) = s.tsu.tb0Tick.hallAt (s.tsu.tb1 * 65536)) ∧
        (s.tsu.rd Ob.hall_hallSlewLimit * 65536 < d.natAbs → m.hall.resid = 0 ∧ s.tsu.recorded m 0x2C)))) ∧
  (∀ (s : State), s.tsu.isHub = false →
    (s.tsu.hallMode = true → s.tsu.vaultFits (Ob.tb_mode 0) 1 = true →
      RunsOn .tsu (.tbModeChange 1) s (fun m => m.answered 0 ∧ m.rd (Ob.tb_mode 0) = 1 ∧ m.hall = s.tsu.tb0Tick.hall ∧
        (m.baseOf 0).t96 = t96Of16 (s.tsu.tb0Tick.hallAt (s.tsu.tb1 * 65536)))) ∧
    (∀ v, 1 < v → RunsOn .tsu (.tbModeChange v) s (fun m =>
      m.answered 3 ∧ m.rd (Ob.tb_mode 0) = s.tsu.rd (Ob.tb_mode 0) ∧ m.bases = s.tsu.bases))) ∧
  (∀ (s : State) (dies synced : List Nat), Works s .hub → s.hub.isRoot = true →
    RunsOn .hub (.anchorDistribution ⟨dies, synced⟩) s (fun m =>
      (s.hub.anchorDue = true → m.kst.distAt = some s.hub.tb1) ∧
      ∀ d ∈ (if s.hub.anchorDue then dies else synced), ∀ p, s.hub.relayHop d = .port p → 5 ≤ s.hub.lst p →
        ∃ r ∈ m.access.relays, r.dst = d ∧ fld r.msg.head 127 124 = 2 ∧ fld r.msg.head 123 104 = d % 2 ^ 20 ∧
          fld r.msg.head 71 48 = 0x201000 ∧ (m.linkOf p).c3.any (fun q => q.msg == r.msg) = true))

/-- A record read takes the oldest capture, a placed pulse is driven and counted, an event sets its pending bit and an
acknowledge clears it (06 Time bases, event capture and interrupt stamps, R166, R167, R169, 16 The object dictionary and
Grennu Object Access, R467). -/
def Obligations.CapturesPulsesAndInterruptsFollowTheTick : Prop :=
  ∀ (s : State), s.tsu.isHub = false →
    (∀ i, i < 8 →
      (∀ r rest, (s.tsu.capOf i).recs = r :: rest →
        RunsOn .tsu (.captureRecordRead i) s (fun m =>
          m.answerOf 0 = { status := 0, data := r, len := 48 } ∧ (m.capOf i).recs = rest ∧ ∀ j, j ≠ i → m.capOf j = s.tsu.capOf j)) ∧
      ((s.tsu.capOf i).recs = [] →
        RunsOn .tsu (.captureRecordRead i) s (fun m => m.answerOf 0 = { status := 0, data := 0, len := 48 } ∧ m.caps = s.tsu.caps))) ∧
    (∀ k x, k < 4 → (s.tsu.pulseOf k).pend = [] → (s.tsu.pulseOf k).next = none → s.tsu.placeNow (s.tsu.pulseOf k).now = some x →
      (s.tsu.pulseOf k).lastAt ≠ some x → x ∉ (s.tsu.pulseOf k).placed →
      RunsOn .tsu (.pulseOutputPlace k) s (fun m =>
        (s.tsu.fnEnabled 7 = true → x < s.tsu.tb1 * 512 + 512 →
          m.rd (Ob.pulse_pulses k) = (s.tsu.rd (Ob.pulse_pulses k) + 1) % 2 ^ 64 ∧ (m.pulseOf k).lastAt = some x ∧
          ((∀ u, (s.tsu.pulseOf k).highTo = some u → u < x) →
            ((m.pulseOf k).high = true ↔ 0 < (s.tsu.pulseOf k).now.wid) ∧ (m.pulseOf k).fallAt = s.tsu.tb1 + (s.tsu.pulseOf k).now.wid) ∧
          (∀ u, (s.tsu.pulseOf k).highTo = some u → x ≤ u → (m.pulseOf k).high = false)) ∧
        (s.tsu.fnEnabled 7 = true → s.tsu.tb1 * 512 + 512 ≤ x → x ∈ (m.pulseOf k).placed ∧ (m.pulseOf k).high = (s.tsu.pulseOf k).high) ∧
        (s.tsu.fnEnabled 7 = false → m.rd (Ob.fn_refused 7) = (s.tsu.rd (Ob.fn_refused 7) + 1) % 2 ^ 64 ∧ m.pulses = s.tsu.pulses) ∧
        ∀ j, j ≠ k → m.pulseOf j = s.tsu.pulseOf j)) ∧
    (∀ e, e < 0x133 → isCondition e = false →
      RunsOn .tsu (.interruptEvent e) s (fun m => bit (m.rd Ob.irq_pending) e = true ∧
        ∀ f, f ≠ e → bit (m.rd Ob.irq_pending) f = bit (s.tsu.rd Ob.irq_pending) f)) ∧
    (∀ e, 0x133 ≤ e ∨ isCondition e = true → exec (.interruptEvent e) s = .next s) ∧
    (∀ v, RunsOn .tsu (.interruptAcknowledge v) s (fun m => m.answered 0 ∧
      ∀ e, e < 512 → bit (m.rd Ob.irq_pending) e = (bit (s.tsu.rd Ob.irq_pending) e && !(bit v e && !isCondition e))))

/-- No action waits twice at an Agent (07 R182). -/
def ActsOnce (l : List Action) : Prop :=
  l.Pairwise (fun x y => (x.op, x.ctx, x.grp, x.tick0) ≠ (y.op, y.ctx, y.grp, y.tick0))

/-- A bus frame carries the marker and the lowest due abort; a locked lane's actions wait once; a lost lane and no lane act as
stated (07 Time inside a wafer: Region Agents and the Slack Ledger, R178, R180, R181, R182, R183, R542). -/
def Obligations.BusFramesCarryActionsOnce : Prop :=
  ∀ (s : State), s.tsu.isHub = false →
    (∀ x y, s.tsu.tb1 % 512 = 0 →
      RunsOn .tsu (.busFrameSend x y) s (fun m =>
        fld m.bus.sent 255 252 = 0xB ∧ fld m.bus.sent 251 197 = s.tsu.tb1 / 512 % 2 ^ 55 ∧ m.tb1 = s.tsu.tb1 ∧
        (∀ c t, (c, t) ∈ s.tsu.bus.aborts → t + 8 ≤ s.tsu.tb1 →
          (∀ d u, (d, u) ∈ s.tsu.bus.aborts → u + 8 ≤ s.tsu.tb1 → c ≤ d) →
          fld m.bus.sent 63 32 = 2 ^ 31 + 3 * 2 ^ 28 + c % 64 * 2 ^ 22 + 63 * 2 ^ 16 ∧ (s.tsu.escrow c ≠ 1 → s.tsu.escrow c ≠ 2 → (m.ctxOf c).abortAt = some (s.tsu.tb1 + 1024)) ∧
          (s.tsu.escrow c = 1 ∨ s.tsu.escrow c = 2 → m.ctxs = s.tsu.ctxs) ∧
          ∀ a, a ∈ m.bus.aborts ↔ a ∈ s.tsu.bus.aborts ∧ a.1 ≠ c) ∧
        ((∀ a ∈ s.tsu.bus.aborts, s.tsu.tb1 < a.2 + 8) → fld m.bus.sent 63 32 = 0 ∧ m.bus.aborts = s.tsu.bus.aborts ∧ m.ctxs = s.tsu.ctxs))) ∧
    (∀ r lane frame built, r < s.tsu.regionCount → r < 1024 → lane < 2 →
      (fld frame 31 16 ≠ busCheck frame →
        RunsOn .tsu (.busFrameReceived r lane frame built) s (fun m =>
          m.rd Ob.bus_busFrameErrors = (s.tsu.rd Ob.bus_busFrameErrors + 1) % 2 ^ 64 ∧ (m.agentOf r).acts = (s.tsu.agentOf r).acts ∧
          ((m.agentOf r).lane lane).bad = ((s.tsu.agentOf r).lane lane).bad + 1 ∧ ∀ j, j ≠ r → m.agentOf j = s.tsu.agentOf j)) ∧
      (fld frame 31 16 = busCheck frame → fld frame 251 197 = (((s.tsu.agentOf r).lane lane).marker + 1) % 2 ^ 55 →
        3 ≤ ((s.tsu.agentOf r).lane lane).good ∨ ((s.tsu.agentOf r).lane lane).locked = true →
        RunsOn .tsu (.busFrameReceived r lane frame built) s (fun m =>
          ((m.agentOf r).lane lane).locked = true ∧ (ActsOnce (s.tsu.agentOf r).acts → ActsOnce (m.agentOf r).acts) ∧
          (∀ a ∈ frameActions frame s.tsu.bus.known, s.tsu.inGroup r a.grp = true → s.tsu.tb1 ≤ a.tick0 →
            ∃ b ∈ (m.agentOf r).acts, (b.op, b.ctx, b.grp, b.tick0) = (a.op, a.ctx, a.grp, a.tick0)) ∧
          ∀ a ∈ (s.tsu.agentOf r).acts, a ∈ (m.agentOf r).acts)) ∧
      (∀ noClock, ((s.tsu.agentOf r).lane lane).locked = true → (noClock = true ∨ 2 ≤ ((s.tsu.agentOf r).lane lane).bad) →
        RunsOn .tsu (.tickLaneLost r lane noClock built) s (fun m =>
          ((m.agentOf r).lane lane).locked = false ∧ (m.agentOf r).lane (1 - lane) = (s.tsu.agentOf r).lane (1 - lane) ∧
          bit (m.rd (Ob.agent_laneStatus r)) lane = false ∧ s.tsu.recorded m 0x2E ∧ (m.agentOf r).run = (s.tsu.agentOf r).run ∧
          ∀ j, j ≠ r → m.agentOf j = s.tsu.agentOf j))) ∧
    (∀ r t cyc, r < s.tsu.regionCount → r < 1024 → (s.tsu.agentOf r).noLaneAt = some t → t + 16 ≤ s.tsu.tb1 →
      bit (s.tsu.rd (Ob.agent_laneStatus r)) 4 = false →
      RunsOn .tsu (.noLaneExpiry ⟨r, cyc⟩) s (fun m =>
        bit (m.rd (Ob.agent_laneStatus r)) 4 = true ∧ m.runOf r = none ∧ m.tb1 = s.tsu.tb1 ∧
        ((s.tsu.runOf r).isSome = true → (m.agentOf r).abortHi = some s.tsu.tb1 ∧
          m.rd (Ob.agent_recordsPosted r) = (s.tsu.rd (Ob.agent_recordsPosted r) + 1) % 2 ^ 64 ∧
          fieldAt (m.rd (Ob.agent_ledgerRecord r)) 32 8 = cyc % 2 ^ 64)))

/-- The flags byte of the ledger record last posted (07 R194). -/
def postedFlags (m : Node) (r : Nat) : Nat := fieldAt (m.rd (Ob.agent_ledgerRecord r)) 1 1

/-- One more record posted, the run over, other Agents as before (07 R191, R194). -/
def RunOver (n m : Node) (r : Nat) : Prop :=
  m.runOf r = none ∧ m.rd (Ob.agent_recordsPosted r) = (n.rd (Ob.agent_recordsPosted r) + 1) % 2 ^ 64 ∧
  m.rd (Ob.agent_ledgerStatus r) = 0 ∧ m.tb1 = n.tb1 ∧ ∀ j, j ≠ r → m.agentOf j = n.agentOf j

/-- The record of a run whose cycle W had the stamp `edge`: completed, late beyond the deadline, W cycles, its debt and the stamp rounded up
(07 R192 to R194). -/
def CompletedRecord (b : Nat) (n : Node) (x : Run) (edge : Nat) : Prop :=
  bit (fieldAt b 1 1) 1 = true ∧
  bit (fieldAt b 1 1) 5 = ((x.late && decide (x.lateAt ≠ some n.tb1)) || decide (x.dead * 2 ^ 24 < edge * 2 ^ 20)) ∧
  fieldAt b 32 8 = x.work % 2 ^ 64 ∧
  fieldAt b 40 8 = ofS 64 (to16 ((edge * 2 ^ 20 : Nat) - (x.ebase + ((x.work : Int) - x.cbase) * x.per))) ∧
  fieldAt b 56 8 = (edge + 15) / 16 % 2 ^ 64

/-- A launch starts a run and supersedes the one before; completion, cut, abort and deadline post the record with their flag; an
abort silences a launch (07 Time inside a wafer: Region Agents and the Slack Ledger, R180, R191, R192, R193, R194). -/
def Obligations.RunsStartAndEndWithARecord : Prop :=
  ∀ (s : State) (r : Nat), r < s.tsu.regionCount → r < 1024 →
    (∀ a edge cyc, s.tsu.actionNow r 3 = none → s.tsu.actionNow r 2 = none → s.tsu.actionNow r 1 = some a →
      (s.tsu.abortNow r a.ctx = false →
        RunsOn .tsu (.agentLaunch r ⟨edge, cyc⟩) s (fun m =>
          (∃ x, m.runOf r = some x ∧ x.ctx = a.ctx ∧ x.step = a.step ∧ x.launch = s.tsu.tb1 ∧ x.dead = a.dead ∧ x.work = a.work ∧
            x.ebase = edge24 edge ∧ x.debt = 0 ∧ x.peak = 0 ∧ x.per = s.tsu.rd (Ob.agent_period r)) ∧
          (m.agentOf r).launchHi = some s.tsu.tb1 ∧ (m.agentOf r).actCtx = a.ctx ∧ (m.agentOf r).locals = [] ∧
          ((s.tsu.runOf r).isSome = true → bit (postedFlags m r) 7 = true ∧ fieldAt (m.rd (Ob.agent_ledgerRecord r)) 32 8 = cyc % 2 ^ 64 ∧
            m.rd (Ob.agent_recordsPosted r) = (s.tsu.rd (Ob.agent_recordsPosted r) + 1) % 2 ^ 64) ∧
          (s.tsu.runOf r = none → m.rd (Ob.agent_recordsPosted r) = s.tsu.rd (Ob.agent_recordsPosted r)) ∧
          m.tb1 = s.tsu.tb1 ∧ ∀ j, j ≠ r → m.agentOf j = s.tsu.agentOf j)) ∧
      (s.tsu.abortNow r a.ctx = true →
        RunsOn .tsu (.agentLaunch r ⟨edge, cyc⟩) s (fun m => m.runOf r = s.tsu.runOf r ∧ m.objs = s.tsu.objs ∧ m.ctxs = s.tsu.ctxs))) ∧
    (∀ a x cyc, s.tsu.runOf r = some x → s.tsu.actionNow r 3 = none → s.tsu.actionNow r 2 = some a →
      (x.ctx = a.ctx → RunsOn .tsu (.agentCut ⟨r, cyc⟩) s (fun m =>
        RunOver s.tsu m r ∧ bit (postedFlags m r) 2 = true ∧ bit (postedFlags m r) 5 = (x.late || decide (x.dead ≤ s.tsu.tb1)) ∧
        fieldAt (m.rd (Ob.agent_ledgerRecord r)) 56 8 = 0 ∧ fieldAt (m.rd (Ob.agent_ledgerRecord r)) 32 8 = cyc % 2 ^ 64 ∧ (m.agentOf r).cutHi = some s.tsu.tb1)) ∧
      (x.ctx ≠ a.ctx → RunsOn .tsu (.agentCut ⟨r, cyc⟩) s (fun m => m.runOf r = some x ∧
        m.rd (Ob.agent_recordsPosted r) = s.tsu.rd (Ob.agent_recordsPosted r)))) ∧
    (∀ a x cyc, s.tsu.runOf r = some x → s.tsu.actionNow r 3 = some a →
      (x.ctx = a.ctx → RunsOn .tsu (.agentAbort ⟨r, cyc⟩) s (fun m =>
        RunOver s.tsu m r ∧ bit (postedFlags m r) 3 = true ∧ fieldAt (m.rd (Ob.agent_ledgerRecord r)) 56 8 = 0 ∧
        fieldAt (m.rd (Ob.agent_ledgerRecord r)) 32 8 = cyc % 2 ^ 64 ∧
        (m.agentOf r).abortHi = some s.tsu.tb1 ∧ (m.agentOf r).locals = [])) ∧
      (x.ctx ≠ a.ctx → RunsOn .tsu (.agentAbort ⟨r, cyc⟩) s (fun m => m.runOf r = some x ∧ (m.agentOf r).abortHi = some s.tsu.tb1))) ∧
    (∀ x edge, s.tsu.runOf r = some x →
      RunsOn .tsu (.runComplete r edge) s (fun m =>
        m.runOf r = none ∧ m.rd (Ob.agent_ledgerStatus r) = 0 ∧ m.tb1 = s.tsu.tb1 ∧ (∀ j, j ≠ r → m.agentOf j = s.tsu.agentOf j) ∧
        (if (edge + 15) / 16 ≤ s.tsu.tb1 then
          CompletedRecord (m.rd (Ob.agent_ledgerRecord r)) s.tsu x edge ∧
          m.rd (Ob.agent_recordsPosted r) = (s.tsu.rd (Ob.agent_recordsPosted r) + (if x.lateAt = some s.tsu.tb1 then 0 else 1)) % 2 ^ 64
        else ∃ b, (m.agentOf r).postAt = some ((edge + 15) / 16, b) ∧ CompletedRecord b s.tsu x edge))) ∧
    (∀ x cyc, s.tsu.runOf r = some x → x.dead ≤ s.tsu.tb1 → x.lateAt = none →
      RunsOn .tsu (.runDeadline ⟨r, cyc⟩) s (fun m =>
        bit (postedFlags m r) 5 = true ∧ bit (postedFlags m r) 0 = true ∧ m.runOf r = some { x with late := true, lateAt := some s.tsu.tb1 } ∧
        fieldAt (m.rd (Ob.agent_ledgerRecord r)) 32 8 = cyc % 2 ^ 64 ∧
        m.rd (Ob.agent_recordsPosted r) = (s.tsu.rd (Ob.agent_recordsPosted r) + 1) % 2 ^ 64 ∧ m.tb1 = s.tsu.tb1 ∧
        ∀ j, j ≠ r → m.agentOf j = s.tsu.agentOf j))

/-- A marker sets debt, peak and projection and warns once; lanes apart for 16 markers, stretches and margin episodes count; the
bypass obeys (07 Time inside a wafer: Region Agents and the Slack Ledger, R177, R185, R187, R190, R192, R194, R195). -/
def Obligations.TheLedgerFollowsTheCycles : Prop :=
  ∀ (s : State) (r : Nat), r < s.tsu.regionCount → r < 1024 →
    (∀ (cyc edge diff new : Nat) (x : Run), s.tsu.tb1 % 512 = 0 → s.tsu.runOf r = some x → (∀ op, op < 4 → s.tsu.actionNow r op = none) →
      cyc < x.work ∨ edge / 16 ≠ s.tsu.tb1 →
      let d : Int := edge24 edge - (x.ebase + ((cyc : Int) - x.cbase) * x.per)
      let proj : Int := edge24 edge + ((x.work : Int) - cyc) * x.per
      let low := decide ((x.dead * 2 ^ 24 : Nat) - proj < (s.tsu.rd (Ob.agent_warnThreshold r) * 2 ^ 24 : Nat))
      RunsOn .tsu (.agentMarker r ⟨cyc, new⟩ edge diff) s (fun m =>
        (∃ y, m.runOf r = some y ∧ y.debt = d ∧ y.peak = max x.peak d ∧ y.proj = proj ∧ y.cyc = cyc ∧ y.warned = (x.warned || low) ∧
          y.late = x.late ∧ y.ebase = x.ebase ∧
          (m.agentOf r).statAt = some (max (s.tsu.tb1 + 8) (edge / 16 + 1), ledgerBlob y 1 (ceilTick proj))) ∧
        (∀ l, s.tsu.followed r = some l → m.agentTick r = 512 * (((s.tsu.agentOf r).lane l).marker + 1) % 2 ^ 64) ∧
        (m.agentOf r).cycles = ((s.tsu.agentOf r).cycles + new) % 2 ^ 64 ∧
        (x.warned = false → low = true → s.tsu.recorded m 0x36 ∧ bit (m.rd Ob.irq_pending) 0x131 = true) ∧
        (x.warned = true ∨ low = false → m.rd Ob.cause_causeCounts = s.tsu.rd Ob.cause_causeCounts) ∧
        m.tb1 = s.tsu.tb1 ∧ ∀ j, j ≠ r → m.agentOf j = s.tsu.agentOf j)) ∧
    (16 ≤ (s.tsu.agentOf r).disRun → (s.tsu.agentOf r).disTold = false →
      RunsOn .tsu (.agentLanesDisagree r) s (fun m =>
        s.tsu.recorded m 0x2F ∧ (m.agentOf r).disTold = true ∧ m.followed r = s.tsu.followed r ∧ ∀ j, j ≠ r → m.agentOf j = s.tsu.agentOf j)) ∧
    ((s.tsu.agentOf r).disRun < 16 ∨ (s.tsu.agentOf r).disTold = true → exec (.agentLanesDisagree r) s = .next s) ∧
    (s.tsu.inputLive r = true →
      RunsOn .tsu (.stretchPulse r) s (fun m =>
        m.rd (Ob.agent_stretches r) = (s.tsu.rd (Ob.agent_stretches r) + 1) % 2 ^ 64 ∧ m.agents = s.tsu.agents) ∧
      ∀ ticks, RunsOn .tsu (.marginWarnEpisode r ticks) s (fun m =>
        m.rd (Ob.agent_marginEpisodes r) = (s.tsu.rd (Ob.agent_marginEpisodes r) + 1) % 2 ^ 64 ∧
        m.rd (Ob.agent_marginTicks r) = (s.tsu.rd (Ob.agent_marginTicks r) + min 1 ticks) % 2 ^ 64 ∧ (m.agentOf r).marginLeft = ticks - 1 ∧
        ∀ x, s.tsu.runOf r = some x →
          let tell := s.tsu.rd (Ob.agent_marginThreshold r) ≠ 0 ∧ s.tsu.rd (Ob.agent_marginThreshold r) ≤ x.episodes + 1 ∧ x.epTold = false
          (tell → s.tsu.recorded m 0x84) ∧ (¬tell → m.rd Ob.cause_causeCounts = s.tsu.rd Ob.cause_causeCounts) ∧
          ∃ y, m.runOf r = some y ∧ y.episodes = x.episodes + 1 ∧ (y.epTold = true ↔ tell ∨ x.epTold = true) ∧ y.ctx = x.ctx ∧ y.debt = x.debt)) ∧
    RunsOn .tsu (.bypassEngage r) s (fun m => m.answered 0 ∧ bit (m.rd (Ob.agent_laneStatus r)) 3 = true ∧ m.bypassed r = true ∧
      ∀ j, j ≠ r → m.agentOf j = s.tsu.agentOf j) ∧
    RunsOn .tsu (.bypassRelease r) s (fun m => m.answered 0 ∧ bit (m.rd (Ob.agent_laneStatus r)) 3 = !(s.tsu.regionOf r).pgood ∧
      ∀ j, j ≠ r → m.agentOf j = s.tsu.agentOf j)

/-- What a grant of a frequency change needs (07 R198). -/
def grantReady (n : Node) (r : Nat) : Bool :=
  (n.agentOf r).req.isSome && (n.agentOf r).stopAt.isNone && !(n.agentOf r).go &&
  !n.actionSoon r (n.tb1 + (32 * n.rd (Ob.agent_period r) + 2 ^ 24 - 1) / 2 ^ 24 + 16) && (n.rd Ob.det_strict != 1 || n.stepBoundary r)

/-- A request waits; a grant stops the clock only with no action near and, under Strict, at a step boundary; the acknowledgement
brings go and the new period (07 Time inside a wafer: Region Agents and the Slack Ledger, R196, R197, R198, 13 Strict mode,
the Mint and replay, R360). -/
def Obligations.AFrequencyChangeWaitsForItsGrant : Prop :=
  ∀ (s : State) (r : Nat), r < s.tsu.regionCount → r < 1024 →
    (∀ e, s.tsu.inputLive r = true →
      RunsOn .tsu (.fchgRequest r e) s (fun m =>
        m.agentOf r = { s.tsu.agentOf r with req := some (e % 16) } ∧ m.objs = s.tsu.objs ∧ m.tb1 = s.tsu.tb1 ∧
        ∀ j, j ≠ r → m.agentOf j = s.tsu.agentOf j)) ∧
    (grantReady s.tsu r = true → RunsOn .tsu (.fchgGrant r) s (fun m =>
        (m.agentOf r).stopAt = some s.tsu.tb1 ∧ m.runOf r = s.tsu.runOf r ∧ (s.tsu.runOf r = none → m.objs = s.tsu.objs) ∧
        (∀ x, s.tsu.runOf r = some x → s.tsu.fired x.ctx = true → bit (m.rd (Ob.tag_taintReasons x.ctx)) 6 = true) ∧
        ∀ j, j ≠ r → m.agentOf j = s.tsu.agentOf j)) ∧
    (grantReady s.tsu r = false → exec (.fchgGrant r) s = .next s) ∧
    (∀ (t e cyc edge : Nat), s.tsu.inputLive r = true → (s.tsu.agentOf r).stopAt = some t → (s.tsu.agentOf r).req = some e →
      (s.tsu.agentOf r).ackAt = none →
      RunsOn .tsu (.fchgAck r cyc edge) s (fun m =>
        m.agentOf r = { s.tsu.agentOf r with ackAt := some (s.tsu.tb1, cyc, edge) } ∧ m.objs = s.tsu.objs ∧
        ∀ j, j ≠ r → m.agentOf j = s.tsu.agentOf j)) ∧
    (∀ (n : Node) (t e cyc edge : Nat), (n.agentOf r).ackAt = some (t, cyc, edge) → (n.agentOf r).stopAt.isSome = true →
      (n.agentOf r).req = some e → t < n.tb1 →
      ((n.agentTicks r).agentOf r).stopAt = none ∧ ((n.agentTicks r).agentOf r).go = true ∧
      (n.tb1 < edge / 16 → (n.agentTicks r).rd (Ob.agent_period r) = n.rd (Ob.agent_period r) ∧ (n.agentTicks r).runOf r = n.runOf r) ∧
      (edge / 16 ≤ n.tb1 →
        (n.agentTicks r).rd (Ob.agent_period r) = fieldAt (n.rd (Ob.agent_periodTable r)) (4 * e) 4 ∧ ((n.agentTicks r).agentOf r).ackAt = none ∧
        ∀ x, n.runOf r = some x → ∃ y, (n.agentTicks r).runOf r = some y ∧ y.ebase = x.ebase + ((cyc : Int) - x.cbase) * x.per ∧
          y.cbase = cyc ∧ y.per = (n.agentTicks r).rd (Ob.agent_period r) ∧ y.debt = edge24 edge - y.ebase ∧ y.peak = x.peak ∧
          y.rebased = true ∧ y.work = x.work)) ∧
    ((s.tsu.agentOf r).go = true →
      RunsOn .tsu (.fchgReqLow r) s (fun m =>
        (m.agentOf r).go = false ∧ (m.agentOf r).req = none ∧ ((s.tsu.agentOf r).ackAt = none → m.runOf r = s.tsu.runOf r) ∧
        m.rd (Ob.agent_frequencyChanges r) = (s.tsu.rd (Ob.agent_frequencyChanges r) + 1) % 2 ^ 64 ∧
        ∀ j, j ≠ r → m.agentOf j = s.tsu.agentOf j)) ∧
    (∀ t, (s.tsu.agentOf r).stopAt = some t →
      (t + s.tsu.stopWindow r ≤ s.tsu.tb1 → (s.tsu.agentOf r).overrun = false →
        RunsOn .tsu (.stopWindowOverrun r) s (fun m =>
          s.tsu.recorded m 0x38 ∧ m.agentOf r = { s.tsu.agentOf r with overrun := true } ∧ ∀ j, j ≠ r → m.agentOf j = s.tsu.agentOf j)) ∧
      (s.tsu.tb1 < t + s.tsu.stopWindow r ∨ (s.tsu.agentOf r).overrun = true → exec (.stopWindowOverrun r) s = .next s))

/-- The oldest entry of a cell is delivered on this edge, its slot free K ticks on (08 R207, R209). -/
def Delivered (n m : Node) (v : Nat) (e : VEntry) (rest : List VEntry) : Prop :=
  (m.cellOf v).held = rest ∧ (m.cellOf v).rdValid = true ∧ (m.cellOf v).rdData = e.data ∧ n.vdTick v + 2 ∈ (m.cellOf v).freeing ∧
  (m.cellOf v).pendRead = none ∧ m.rd (Ob.vd_occupancy v) = rest.length ∧ ∀ w, w ≠ v → m.cellOf w = n.cellOf w

/-- No action of this tick waits at the reader Agent of a cell, whose flush would act first (08 R205). -/
def noActionNow (n : Node) (v : Nat) : Prop := ∀ a ∈ (n.agentOf (n.vdReader v)).acts, a.tick0 ≠ n.tb1

/-- A cell takes entries in order, delivers the oldest visible one, and reports a late crossing or an overflow instead of
slipping by a cycle (08 Viaducts: crossing between regions, R205, R207, R208, R209, R210, R213, R214). -/
def Obligations.ViaductsDeliverInOrderOrReport : Prop :=
  ∀ (s : State) (v : Nat), s.tsu.isHub = false → v < s.tsu.vdCount → v < 2048 →
    (noActionNow s.tsu v → s.tsu.vdSevered v = false → (s.tsu.cellOf v).mode ≠ 0 → ∀ data,
      (bit (s.tsu.rd (Ob.vd_status v)) 1 = false → s.tsu.vdTaken v < s.tsu.rd (Ob.vd_physicalDepth v) →
        RunsOn .tsu (.viaductWrite v data) s (fun m =>
          (m.cellOf v).held = (s.tsu.cellOf v).held ++ [{ wtick := s.tsu.vdTick v, data := data % 2 ^ s.tsu.rd (Ob.vd_width v) }] ∧
          m.rd (Ob.vd_writes v) = (s.tsu.rd (Ob.vd_writes v) + 1) % 2 ^ 64 ∧ m.rd (Ob.vd_status v) = s.tsu.rd (Ob.vd_status v) ∧
          m.rd Ob.cause_causeCounts = s.tsu.rd Ob.cause_causeCounts ∧ ∀ w, w ≠ v → m.cellOf w = s.tsu.cellOf w)) ∧
      (bit (s.tsu.rd (Ob.vd_status v)) 1 = true ∨ s.tsu.rd (Ob.vd_physicalDepth v) ≤ s.tsu.vdTaken v →
        RunsOn .tsu (.viaductWrite v data) s (fun m =>
          (m.cellOf v).held = (s.tsu.cellOf v).held ∧ m.rd (Ob.vd_overflows v) = (s.tsu.rd (Ob.vd_overflows v) + 1) % 2 ^ 64 ∧
          bit (m.rd (Ob.vd_status v)) 1 = true ∧ bit (m.rd (Ob.vd_status v)) 3 = true ∧ (m.cellOf v).fullTold = true ∧
          ((s.tsu.cellOf v).fullTold = false → s.tsu.recorded m 0x3B) ∧
          ((s.tsu.cellOf v).fullTold = true → m.rd Ob.cause_causeCounts = s.tsu.rd Ob.cause_causeCounts) ∧
          ∀ w, w ≠ v → m.cellOf w = s.tsu.cellOf w))) ∧
    (noActionNow s.tsu v → s.tsu.vdSevered v = false → (s.tsu.cellOf v).mode = 1 → (s.tsu.cellOf v).pendRead = none → ∀ cycle,
      (∀ e rest, (s.tsu.cellOf v).held = e :: rest → e.wtick + 2 ≤ s.tsu.vdTick v →
        RunsOn .tsu (.viaductRead v cycle) s (fun m =>
          Delivered s.tsu m v e rest ∧ m.rd Ob.cause_causeCounts = s.tsu.rd Ob.cause_causeCounts)) ∧
      ((∀ e ∈ (s.tsu.cellOf v).held.head?, s.tsu.vdTick v < e.wtick + 2) →
        RunsOn .tsu (.viaductRead v cycle) s (fun m =>
          (m.cellOf v).rdValid = false ∧ (m.cellOf v).held = (s.tsu.cellOf v).held ∧ bit (m.rd (Ob.vd_status v)) 2 = true ∧
          m.rd (Ob.vd_lateCrossings v) = (s.tsu.rd (Ob.vd_lateCrossings v) + 1) % 2 ^ 64 ∧
          (s.tsu.rd Ob.det_strict ≠ 1 → s.tsu.recorded m 0x3A ∧ (m.cellOf v).pendRead = some (s.tsu.vdTick v, cycle) ∧
            (s.tsu.fired (s.tsu.cellOf v).ctx = true → bit (m.rd (Ob.tag_taintReasons (s.tsu.cellOf v).ctx)) 1 = true)) ∧
          (s.tsu.rd Ob.det_strict = 1 → (m.cellOf v).pendRead = none) ∧ ∀ w, w ≠ v → m.cellOf w = s.tsu.cellOf w))) ∧
    (∀ e rest, noActionNow s.tsu v → s.tsu.vdSevered v = false → (s.tsu.cellOf v).held = e :: rest →
      ((s.tsu.cellOf v).pendRead.isSome = true → e.wtick + 2 ≤ s.tsu.vdTick v →
        RunsOn .tsu (.viaductStalledDelivery v) s (fun m => Delivered s.tsu m v e rest ∧
          (s.tsu.fired (s.tsu.cellOf v).ctx = true → bit (m.rd (Ob.tag_taintReasons (s.tsu.cellOf v).ctx)) 1 = true))) ∧
      ((s.tsu.cellOf v).mode = 2 → e.wtick + (s.tsu.cellOf v).lag ≤ s.tsu.vdTick v →
        RunsOn .tsu (.viaductTickDelivery v) s (fun m => Delivered s.tsu m v e rest ∧
          (s.tsu.fired (s.tsu.cellOf v).ctx = true → bit (m.rd (Ob.tag_taintReasons (s.tsu.cellOf v).ctx)) 2 = true))) ∧
      ((s.tsu.cellOf v).mode = 2 → s.tsu.vdTick v < e.wtick + (s.tsu.cellOf v).lag →
        RunsOn .tsu (.viaductTickDelivery v) s (fun m =>
          (m.cellOf v).rdValid = false ∧ (m.cellOf v).held = e :: rest ∧ m.objs = s.tsu.objs))) ∧
    ((s.tsu.regionOf (s.tsu.vdReader v)).pgood = false ∨ (s.tsu.regionOf (s.tsu.vdWriter v)).pgood = false →
      RunsOn .tsu (.viaductSever v) s (fun m =>
        m.vdSevered v = true ∧ (m.cellOf v).held = [] ∧ (m.cellOf v).rdValid = false ∧ (m.cellOf v).rdData = 0 ∧
        bit (m.rd (Ob.vd_status v)) 3 = false ∧ m.rd Ob.cause_causeCounts = s.tsu.rd Ob.cause_causeCounts ∧
        ∀ w, w ≠ v → m.cellOf w = s.tsu.cellOf w))

/-- A commit posts the digest and makes the slot resident exactly when digest and checks pass; a slot in use is refused; an
emptied slot reads its defaults (09 Step tables and the sequencer, R221, R222, R223, R245). -/
def Obligations.TablesBecomeResidentByDigestAndChecks : Prop :=
  ∀ (s : State) (t : Nat), s.tsu.isHub = false → t < s.tsu.tableSlots →
    (s.tsu.rd Ob.det_inputMode ≠ 1 →
      (s.tsu.slotUse t = 0 →
        (s.tsu.fnEnabled 0 = true → RunsOn .tsu (.tableCommit t) s (fun m =>
          m.answered 0 ∧ m.rd (Ob.tab_state t) = 1 ∧ (m.tslotOf t).commitAt = some s.tsu.tb1 ∧
          m.rd (Ob.tab_header t) = s.tsu.rd (Ob.tab_header t) ∧ ∀ u, u ≠ t → u < 16 → m.rd (Ob.tab_state u) = s.tsu.rd (Ob.tab_state u))) ∧
        RunsOn .tsu (.tableEmpty t) s (fun m =>
          m.answered 0 ∧ (m.tslotOf t).commitAt = none ∧
          ∀ o ∈ [Ob.tab_state t, Ob.tab_header t, Ob.tab_entries t, Ob.tab_digest t, Ob.tab_refusal t, Ob.tab_computedDigest t],
            m.rd o = dfltOf s.tsu.kind o)) ∧
      (s.tsu.slotUse t ≠ 0 →
        (s.tsu.fnEnabled 0 = true → RunsOn .tsu (.tableCommit t) s (fun m =>
          m.answered 3 ∧ m.rd (Ob.tab_state t) = s.tsu.rd (Ob.tab_state t) ∧ m.tslots = s.tsu.tslots)) ∧
        RunsOn .tsu (.tableEmpty t) s (fun m =>
          m.answered 3 ∧ m.rd (Ob.tab_state t) = s.tsu.rd (Ob.tab_state t) ∧ m.rd (Ob.tab_header t) = s.tsu.rd (Ob.tab_header t)))) ∧
    ((s.tsu.tslotOf t).commitAt.isSome = true →
      let dig := blake3 (tableBytes (s.tsu.header t) (s.tsu.entries t))
      let r := loadCheck (dig == s.tsu.rd (Ob.tab_digest t)) (s.tsu.header t) (s.tsu.entries t)
      RunsOn .tsu (.tableCommitDone t) s (fun m =>
        m.rd (Ob.tab_computedDigest t) = dig ∧ (m.tslotOf t).commitAt = none ∧ m.rd (Ob.tab_refusal t) % 2 ^ 16 = r.1 % 2 ^ 16 ∧
        (r.1 = 0 → m.rd (Ob.tab_state t) = 2 ∧ m.rd Ob.cause_causeCounts = s.tsu.rd Ob.cause_causeCounts) ∧
        (r.1 ≠ 0 → m.rd (Ob.tab_state t) = 3 ∧ s.tsu.recorded m 0x39) ∧
        ∀ u, u ≠ t → u < 16 → m.rd (Ob.tab_state u) = s.tsu.rd (Ob.tab_state u))) ∧
    (s.tsu.rd (Ob.tab_state t) = 2 → ∀ k,
      RunsOn .tsu (.tableStorageError t k) s (fun m =>
        m.rd (Ob.tab_state t) = 3 ∧ m.rd (Ob.tab_refusal t) % 2 ^ 16 = 13 ∧
        ((∀ c, c < s.tsu.ctxCount → s.tsu.holdsSlot t c = false) → s.tsu.recorded m 0x3F) ∧
        ∀ c, c < s.tsu.ctxCount → s.tsu.holdsSlot t c = true →
          (s.tsu.fired c = true → (m.ctxOf c).cause ≠ 0 ∧ m.walk c ≠ 1 ∧ m.walk c ≠ 2) ∧ (s.tsu.fired c = false → m.escrow c = 0)))

/-- The walk of a FIRED context stands at entry `e`, index `i`, iteration `it`, of an opcode, effective tick `t` (09 R228, R229). -/
def StandsAt (n : Node) (c op e i it t : Nat) : Prop :=
  n.fired c = true ∧ n.walk c = 1 ∧ n.walkAt c = (i, it) ∧ i < (n.stepEntries c).length ∧ (n.stepEntries c).getD i 0 = e ∧ eOp e = op ∧
  n.effTick c (n.stepEntries c) i it = t

/-- The walk of a context goes to a place; the places of the other contexts stay. -/
def GoesTo (n m : Node) (c : Nat) (p : Nat × Nat) : Prop :=
  (m.ctxOf c).entry = p.1 ∧ (m.ctxOf c).iter = p.2 ∧ ∀ d, d ≠ c → m.ctxOf d = n.ctxOf d

/-- The deadline-class fault of a FIRED step: the walk has stopped, the wave is out and the abort placed (09 R256). -/
def StepStruck (m : Node) (c : Nat) : Prop :=
  m.walk c = 3 ∧ (m.ctxOf c).waveSent = true ∧ (m.ctxOf c).cause ≠ 0 ∧
  ((m.ctxOf c).abortAt.isSome = true ∨ m.bus.aborts.any (fun a => a.1 == c) = true)

/-- An entry at the walk's place acts on its effective tick: gates, marks, audits, pulses, loops, branches and the end, and the
walk moves as stated (09 Step tables and the sequencer, R224, R228, R229, R238, R239, R241, R242, R244). -/
def Obligations.EntriesActOnTheirEffectiveTick : Prop :=
  ∀ (s : State) (c : Nat), c < s.tsu.ctxCount →
    let n := s.tsu.entriesBelow c
    (∀ op e i it t, StandsAt n c op e i it t →
      (n.tb1 < t → ∀ x ∈ [Instr.entryNop c, .entryGate c, .entryMark c, .entryAudit c, .entryPulse c, .entryLoop c, .entryEnd c,
        .entryBranch c, .entryWait c, .entrySignal c, .entryArrive c, .entryClear c], exec x s = .next { s with tsu := n }) ∧
      (t ≤ n.tb1 →
        let es := n.stepEntries c
        let on := nextPos es i it none
        let flag := fun (m : Node) => eIrq e = true → bit (m.rd Ob.irq_pending) (0x40 + c) = true
        (op = 0 → RunsOn .tsu (.entryNop c) s (fun m => GoesTo n m c on ∧ flag m ∧ (eIrq e = false → m.objs = n.objs))) ∧
        (op = 8 → RunsOn .tsu (.entryGate c) s (fun m => GoesTo n m c on ∧ flag m ∧
          (m.ctxOf c).gates = (n.ctxOf c).gates ++ [(eGroup e, fld e 73 72, bit e 71, t + 1544)])) ∧
        (op = 9 → RunsOn .tsu (.entryMark c) s (fun m => GoesTo n m c on ∧ flag m ∧
          ((n.ctxOf c).marks.length < 16 → (m.ctxOf c).marks = (n.ctxOf c).marks ++
            [putField 0 6 (n.ctxOf c).step + putField 6 2 i + putField 8 8 t + putField 16 2 (fld e 79 64) + putField 18 2 it]) ∧
          (16 ≤ (n.ctxOf c).marks.length → (m.ctxOf c).marks = (n.ctxOf c).marks ∧
            m.rd (Ob.seq_marksDropped c) = (n.rd (Ob.seq_marksDropped c) + 1) % 2 ^ 64))) ∧
        (op = 11 → RunsOn .tsu (.entryAudit c) s (fun m => GoesTo n m c on ∧ flag m ∧ (m.ctxOf c).audit = some (fld e 63 0))) ∧
        (op = 12 → RunsOn .tsu (.entryPulse c) s (fun m => GoesTo n m c on ∧ flag m ∧
          bit (m.rd Ob.irq_pending) (0x100 + fld e 79 76) = true)) ∧
        (op = 13 → RunsOn .tsu (.entryLoop c) s (fun m => flag m ∧
          (it < lpCount e → GoesTo n m c (lpTarget e, it + 1)) ∧ (lpCount e ≤ it → GoesTo n m c (i + 1, 0)))) ∧
        (op = 14 → RunsOn .tsu (.entryEnd c) s (fun m => flag m ∧ m.walk c = 3 ∧ m.ctxs = n.ctxs)) ∧
        (op = 7 →
          (eAlways e = true → RunsOn .tsu (.entryBranch c) s (fun m => GoesTo n m c (nextPos es i it (some (brTarget e))))) ∧
          (eAlways e = false → ∀ b, n.branchResult c (fld e 79 76) = some b → RunsOn .tsu (.entryBranch c) s (fun m =>
            GoesTo n m c (nextPos es i it (if branchHolds b e then some (brTarget e) else none)))) ∧
          (eAlways e = false → n.branchResult c (fld e 79 76) = none → RunsOn .tsu (.entryBranch c) s (fun m =>
            n.recorded m 0x3C ∧ StepStruck m c ∧ (m.ctxOf c).entry = (n.ctxOf c).entry))))) ∧
    (∀ x rest, (s.tsu.ctxOf c).marks = x :: rest →
      RunsOn .tsu (.markRead c) s (fun m => m.answerOf 0 = { status := 0, data := x, len := 24 } ∧ (m.ctxOf c).marks = rest ∧
        ∀ d, d ≠ c → m.ctxOf d = s.tsu.ctxOf d)) ∧
    ((s.tsu.ctxOf c).marks = [] →
      RunsOn .tsu (.markRead c) s (fun m => m.answerOf 0 = { status := 0, data := 0, len := 24 } ∧ (m.ctxOf c).marks = []))

/-- A WAIT passes when its condition holds, faults under Strict, or holds the walk with slip; SIGNAL, ARRIVE and CLEAR make the
sequencer's request (09 Step tables and the sequencer, R232, R235, R236, R237, R240, R246, R256, 11 Tallies: waiting,
counting, releasing, R291). -/
def Obligations.WaitsHoldOrFaultAndRequestsAreMade : Prop :=
  ∀ (s : State) (c : Nat), c < s.tsu.ctxCount →
    let n := s.tsu.entriesBelow c
    (∀ op e i it t, StandsAt n c op e i it t → t ≤ n.tb1 →
      let on := nextPos (n.stepEntries c) i it none
      (op = 3 →
        (n.waitCase c e ≠ 0 → RunsOn .tsu (.entryWait c) s (fun m =>
          n.recorded m 0x44 ∧ StepStruck m c ∧ (m.ctxOf c).entry = (n.ctxOf c).entry)) ∧
        (n.waitCase c e = 0 → n.waitHolds c e t = true → RunsOn .tsu (.entryWait c) s (fun m => GoesTo n m c on ∧ m.walk c = 1)) ∧
        (n.waitCase c e = 0 → n.waitHolds c e t = false → n.rd Ob.det_strict = 1 → RunsOn .tsu (.entryWait c) s (fun m =>
          n.recorded m 0x3D ∧ StepStruck m c ∧ (m.ctxOf c).entry = (n.ctxOf c).entry)) ∧
        (n.waitCase c e = 0 → n.waitHolds c e t = false → n.rd Ob.det_strict ≠ 1 → RunsOn .tsu (.entryWait c) s (fun m =>
          m.walk c = 2 ∧ m.ctxOf c = { n.ctxOf c with waitE := some t } ∧ ∀ d, d ≠ c → m.ctxOf d = n.ctxOf d))) ∧
      (op = 4 → eIrq e = false → RunsOn .tsu (.entrySignal c) s (fun m =>
        m = (n.seqTally c 2 (fld e 79 68) (fld e 67 52) t).advance c i it none)) ∧
      (op = 5 → eIrq e = false → RunsOn .tsu (.entryArrive c) s (fun m =>
        m = (n.seqTally c 3 (fld e 79 68) 0 t).advance c i it none)) ∧
      (op = 6 →
        (clearSends (fld e 67 62 + 1) (n.ctxOf c).step = true → ((n.issueOf c (fld e 79 76)).map Issue.live).getD false = true →
          RunsOn .tsu (.entryClear c) s (fun m => n.recorded m 0x3C ∧ StepStruck m c ∧ m.clr = n.clr)) ∧
        (((n.issueOf c (fld e 79 76)).map Issue.live).getD false = false → eIrq e = false →
          RunsOn .tsu (.entryClear c) s (fun m =>
            m = (n.clearAt c (fld e 79 76) (fld e 75 68) t (fld e 67 62 + 1)).advance c i it none)))) ∧
    (∀ t, (n.ctxOf c).waitE = some t → n.fired c = true → n.walk c = 2 →
      let p := n.walkAt c
      n.waitHolds c ((n.stepEntries c).getD p.1 0) n.tb1 = true →
      RunsOn .tsu (.waitResume c) s (fun m =>
        m.walk c = 1 ∧ (m.ctxOf c).slip = (n.ctxOf c).slip + (n.tb1 - t) ∧ (m.ctxOf c).waitE = none ∧
        bit (m.rd (Ob.tag_taintReasons c)) 0 = true ∧ m.rd (Ob.seq_slip c) = (n.rd (Ob.seq_slip c) + (n.tb1 - t)) % 2 ^ 64 ∧
        GoesTo n m c (nextPos (n.stepEntries c) p.1 p.2 none))) ∧
    (∀ e tick, fld e 79 78 = 1 →
      (n.waitHolds c e tick = true ↔
        ∀ r ∈ (n.ctxOf c).launched, n.inGroup r.region (fld e 77 66) = true → ∃ f, r.fin = some f ∧ f + 1024 ≤ tick))

/-- The step of a context has ended with an outcome (09 R254). -/
def StepEnded (n m : Node) (c oc : Nat) : Prop :=
  m.escrow c = 0 ∧ m.walk c = 0 ∧ fieldAt (m.rd (Ob.seq_lastOutcome c)) 0 8 = (n.ctxOf c).step % 2 ^ 64 ∧
  fieldAt (m.rd (Ob.seq_lastOutcome c)) 8 1 = oc ∧ m.rd (outcomeCounter c oc) = (n.rd (outcomeCounter c oc) + 1) % 2 ^ 64 ∧
  bit (m.rd Ob.irq_pending) c = true ∧ m.rd (Ob.seq_nextStepNumber c) = n.rd (Ob.seq_nextStepNumber c)

/-- Actions are committed at their commit tick, lateness is decided once by the policy, and the end of a step posts its outcome
(09 Step tables and the sequencer, R229, R230, R233, R251, R252, R253, R254, R255, R258). -/
def Obligations.ActionsDeadlinesAndTheEndOfAStep : Prop :=
  (∀ e, 1536 ≤ e → markerFor e % 512 = 0 ∧ markerFor e + 1024 ≤ e ∧ e < markerFor e + 1536 ∧ commitTick e + 1032 ≤ e ∧
    e ≤ commitTick e + 1543) ∧
  (∀ (n : Node) (c : Nat), ∀ a ∈ n.actionsDue c, commitTick a.2.2 ≤ n.tb1 ∧ (a.1, a.2.1) ∉ (n.ctxOf c).committed) ∧
  (∀ (s : State) (v : Nat), s.tsu.isHub = false →
    RunsOn .tsu (.releaseAccumulator v) s (fun m => m.answered 0 ∧
      ∀ a, a ∈ m.clr.defAccs ↔ a ∈ s.tsu.clr.defAccs ∧
        if v = 0xFFFF then s.tsu.stepHeld a.ctx = true else ¬(a.ctx = fld v 13 8 ∧ a.hnd = fld v 3 0))) ∧
  (∀ (n : Node) (c t : Nat), c < n.ctxCount → n.fired c = true → (n.ctxOf c).abortAt = some t → t ≤ n.tb1 → StepEnded n (n.endAborted c) c 5) ∧
  (∀ (n : Node) (c : Nat), c < n.ctxCount → n.escrow c = 1 → n.firstCommitPassed c = true →
    let m := guardExpiry c n
    m.escrow c = 0 ∧ n.recorded m 0x31 ∧ m.bus.placed = n.bus.placed ∧
    m.rd (Ob.seq_nextStepNumber c) = ((n.ctxOf c).step + 1) % 2 ^ 48 ∧ fieldAt (m.rd (Ob.seq_lastOutcome c)) 8 1 = 5) ∧
  ∀ (s : State) (c : Nat), c < s.tsu.ctxCount →
    (let n := s.tsu.entriesBelow c
    (∀ a, n.actionsDue c = [a] → n.escrow c = 2 ∨ (n.escrow c = 3 ∧ n.dueOp c = none ∧ n.walk c ≠ 2) → (n.ctxOf c).cause = 0 →
      (n.slotTaken (n.actionOf c a) = none → RunsOn .tsu (.actionCommit c) s (fun m =>
        m.bus.placed = n.bus.placed ++ [n.actionOf c a] ∧ (a.1, a.2.1) ∈ (m.ctxOf c).committed ∧
        m.rd Ob.cause_causeCounts = n.rd Ob.cause_causeCounts ∧ ∀ d, d ≠ c → m.ctxOf d = n.ctxOf d)) ∧
      (∀ o, n.slotTaken (n.actionOf c a) = some o → RunsOn .tsu (.actionCommit c) s (fun m =>
        m.bus.placed = n.bus.placed ∧ n.recorded m 0x3E ∧
        m.rd Ob.tabs_actionConflicts = (n.rd Ob.tabs_actionConflicts + 1) % 2 ^ 64 ∧
        (n.fired c = true → (m.ctxOf c).waveSent = true ∧ (m.ctxOf c).cause ≠ 0))))) ∧
    (let n := s.tsu.entriesFirst
    n.fired c = true →
      let x := n.ctxOf c
      let d := x.fire + hDead (n.stepHeader c)
      let late := x.launched.any (fun r => r.cutLate || r.fin.isNone || decide (d < r.fin.getD 0)) || x.lateWalk
      (d ≤ n.tb1 → n.tb1 < d + 1024 → n.walk c = 1 ∨ n.walk c = 2 → RunsOn .tsu (.deadlineEvaluation c) s (fun m =>
        m.walk c = 3 ∧ ((m.ctxOf c).lateWalk = true ↔ x.cause = 0) ∧ (m.ctxOf c).entry = x.entry)) ∧
      (d + 1024 ≤ n.tb1 → x.verdict = 0 → x.cause = 0 → n.walk c = 3 →
        (late = false → RunsOn .tsu (.deadlineEvaluation c) s (fun m => m.ctxOf c = { x with verdict := 1 } ∧ m.objs = n.objs)) ∧
        (late = true → n.policyOf c = 2 → RunsOn .tsu (.deadlineEvaluation c) s (fun m =>
          n.recorded m 0x30 ∧ StepStruck m c ∧ (m.ctxOf c).cause = 0x30)) ∧
        (late = true → n.policyOf c = 0 → RunsOn .tsu (.deadlineEvaluation c) s (fun m =>
          n.recorded m 0x30 ∧ bit (m.rd (Ob.tag_taintReasons c)) 7 = true ∧ m.ctxOf c = { x with verdict := 2 })) ∧
        (late = true → n.policyOf c = 1 → RunsOn .tsu (.deadlineEvaluation c) s (fun m =>
          n.recorded m 0x30 ∧ bit (m.rd (Ob.tag_taintReasons c)) 7 = true ∧ m.walk c = 4 ∧
          m.ctxOf c = { x with verdict := 3, dead := x.fire + hExt (n.stepHeader c) })))) ∧
    (let n := deadlineEvaluation c s.tsu.entriesFirst
      let x := n.ctxOf c
      n.fired c = true →
      (x.abortAt = none → x.cause = 0 →
        (x.verdict = 1 → RunsOn .tsu (.stepEnd c) s (fun m => StepEnded n m c 1)) ∧
        (x.verdict = 2 → RunsOn .tsu (.stepEnd c) s (fun m => StepEnded n m c 2)) ∧
        (x.verdict = 3 → (∀ r ∈ x.launched, r.fin.isSome = true ∧ r.cutLate = false) → RunsOn .tsu (.stepEnd c) s (fun m => StepEnded n m c 3)) ∧
        (x.verdict = 3 → (∃ r ∈ x.launched, r.fin = none) → x.dead ≤ n.tb1 → RunsOn .tsu (.stepEnd c) s (fun m => StepEnded n m c 4)) ∧
        (x.verdict = 3 → (∃ r ∈ x.launched, r.fin = none) → n.tb1 < x.dead → exec (.stepEnd c) s = .next { s with tsu := n })))

/-- A step that never fired has ended with outcome 5 (10 R265). -/
def EndedUnfired (n m : Node) (c cause : Nat) : Prop :=
  m.escrow c = 0 ∧ n.recorded m cause ∧ fieldAt (m.rd (Ob.seq_lastOutcome c)) 8 1 = 5 ∧
  m.rd (Ob.seq_nextStepNumber c) = ((n.ctxOf c).step + 1) % 2 ^ 48 ∧ m.bus.placed = n.bus.placed

/-- The escrow message that a TSU takes next on its two lanes (10 R266). -/
def NextIs (n : Node) (p : Nat) (a : Msg) : Prop := n.nextEscrow = some p ∧ n.peek p isVerdict = some a

/-- A context moves between IDLE, ARMED, CONFIRMED, FIRED and RECALLED as the table says, answers with the lowest nak reason, and
never fires unconfirmed (10 Escrow: launching a span on one tick, R261, R265, R266, R267, R268, 07 Time inside a wafer:
Region Agents and the Slack Ledger, R199, 09 Step tables and the sequencer, R249, 01 Spans, planes and the tick, R41). -/
def Obligations.EscrowStatesFollowTheirTable : Prop :=
  (∀ (s : State) (p : Nat) (a : Msg), s.tsu.isHub = false → p < 2 → escCtx a < s.tsu.ctxCount →
    let c := escCtx a
    let n := s.tsu.abortsFirst
    NextIs n p a →
    (isEscrowKind 1 a = true → (s.tsu.peek p (isEscrowKind 1)).isSome = true →
      (n.sameInstance c a = false → n.stepHeld c = false → n.drained = false →
        let why := n.readiness c a
        RunsOn .tsu (.armReceived p) s (fun m =>
          m.escrow c = 1 ∧ (m.ctxOf c).step = escStep a ∧ (m.ctxOf c).attempt = escAttempt a ∧ (m.ctxOf c).table = escTable a ∧
          (m.ctxOf c).fire = escFire a ∧ (m.ctxOf c).span = a.span ∧ (m.ctxOf c).epoch = a.epoch ∧ m.rd (Ob.ctx_armTick c) = n.tb1 ∧
          m.rd (Ob.seq_nextStepNumber c) = n.rd (Ob.seq_nextStepNumber c) ∧
          (why ≠ 0 → m.rd (Ob.ctx_answer c) = why ∧ (m.ctxOf c).ackHeld = none ∧
            m.rd (Ob.ctx_answeredNak c) = (n.rd (Ob.ctx_answeredNak c) + 1) % 2 ^ 64) ∧
          (why = 0 → n.regionWait (n.entries (escTable a)) = false → m.rd (Ob.ctx_answer c) = 0 ∧
            m.rd (Ob.ctx_answeredOk c) = (n.rd (Ob.ctx_answeredOk c) + 1) % 2 ^ 64) ∧
          (why = 0 → n.regionWait (n.entries (escTable a)) = true → (m.ctxOf c).ackHeld = some n.tb1))) ∧
      (n.sameInstance c a = false → n.stepHeld c = true →
        RunsOn .tsu (.armReceived p) s (fun m =>
          m.escrow c = n.escrow c ∧ (m.ctxOf c).step = (n.ctxOf c).step ∧
          ((n.ctxOf c).refused ≠ some (instKey a) → m.rd (Ob.seq_nakReason c) = 6 ∧
            m.rd (Ob.ctx_answeredNak c) = (n.rd (Ob.ctx_answeredNak c) + 1) % 2 ^ 64) ∧
          ((n.ctxOf c).refused = some (instKey a) → m.rd (Ob.ctx_answeredNak c) = n.rd (Ob.ctx_answeredNak c)))) ∧
      (n.sameInstance c a = true → n.escrow c = 1 →
        ((n.ctxOf c).table = escTable a → (n.ctxOf c).arm0 = a.cell 1 →
          RunsOn .tsu (.armReceived p) s (fun m => m.ctxs = n.ctxs ∧ m.objs = n.objs)) ∧
        ((n.ctxOf c).table ≠ escTable a ∨ (n.ctxOf c).arm0 ≠ a.cell 1 →
          RunsOn .tsu (.armReceived p) s (fun m => EndedUnfired n m c 0x32)))) ∧
    (∀ k, k = 3 ∨ k = 4 → isEscrowKind k a = true → (s.tsu.peek p (isEscrowKind k)).isSome = true →
      let i := if k = 3 then Instr.confirmReceived p else Instr.recallReceived p
      (n.sameInstance c a = true → n.escrow c = 1 → RunsOn .tsu i s (fun m =>
        m.escrow c = (if k = 3 then 2 else 4) ∧ (k = 3 → m.rd (Ob.ctx_confirmTick c) = n.tb1) ∧
        (k = 4 → m.rd (Ob.ctx_recalled c) = (n.rd (Ob.ctx_recalled c) + 1) % 2 ^ 64) ∧
        m.rd (Ob.seq_nextStepNumber c) = n.rd (Ob.seq_nextStepNumber c) ∧ ∀ d, d ≠ c → d < 64 → m.escrow d = n.escrow d)) ∧
      (n.sameInstance c a = false ∨ n.escrow c = 0 → RunsOn .tsu i s (fun m =>
        m.rd Ob.esc_staleMessages = (n.rd Ob.esc_staleMessages + 1) % 2 ^ 64 ∧ ∀ d, d < 64 → m.escrow d = n.escrow d)))) ∧
  (∀ (s : State) (c : Nat), c < s.tsu.ctxCount →
    (∀ t, (s.tsu.ctxOf c).ackHeld = some t → s.tsu.escrow c = 1 →
      let es := s.tsu.stepEntries c
      (s.tsu.regionWait es = false → s.tsu.regionReason es = false → RunsOn .tsu (.armAckHeldRelease c) s (fun m =>
        m.rd (Ob.ctx_answer c) = 0 ∧ (m.ctxOf c).ackHeld = none ∧ m.escrow c = 1)) ∧
      (s.tsu.regionWait es = true → t + 256 ≤ s.tsu.tb1 → RunsOn .tsu (.armAckHeldRelease c) s (fun m =>
        m.rd (Ob.ctx_answer c) = 9 ∧ (m.ctxOf c).ackHeld = none ∧ m.escrow c = 1)) ∧
      (s.tsu.regionWait es = true → s.tsu.tb1 < t + 256 → exec (.armAckHeldRelease c) s = .next s)) ∧
    (let n := s.tsu.messagesFirst;
      (n.escrow c = 1 →
        (n.firstCommitPassed c = true ∨ (n.ctxOf c).fire ≤ n.tb1 + 64 → RunsOn .tsu (.escrowGuardExpiry c) s (fun m => EndedUnfired n m c 0x31)) ∧
        (n.firstCommitPassed c = false → n.tb1 + 64 < (n.ctxOf c).fire → exec (.escrowGuardExpiry c) s = .next { s with tsu := n })) ∧
      (n.escrow c = 4 → (n.ctxOf c).fire ≤ n.tb1 → RunsOn .tsu (.recalledFReached c) s (fun m =>
        m.escrow c = 0 ∧ m.ctxs = n.ctxs ∧ n.sameObjsBut m [Ob.ctx_escrowState c])) ∧
      (n.tb1 < (n.ctxOf c).fire → exec (.recalledFReached c) s = .next { s with tsu := n })) ∧
    (let n := guardExpiry c s.tsu.messagesFirst;
      (n.escrow c = 2 → (n.ctxOf c).fire ≤ n.tb1 → RunsOn .tsu (.stepFire c) s (fun m =>
        m.escrow c = 3 ∧ m.walk c = 1 ∧ m.rd (Ob.seq_nextStepNumber c) = ((n.ctxOf c).step + 1) % 2 ^ 48 ∧
        m.rd (Ob.tag_taintReasons c) = (if n.looseLane then 2 ^ 9 else 0) ∧ (m.ctxOf c).entry = (n.ctxOf c).entry ∧
        ∀ d, d ≠ c → d < 64 → m.escrow d = n.escrow d ∧ m.ctxOf d = n.ctxOf d)) ∧
      (n.escrow c ≠ 2 ∨ n.tb1 < (n.ctxOf c).fire → exec (.stepFire c) s = .next { s with tsu := n })))

/-- A message of class C1 waits to be sent at a port, ready at a tick or later. -/
def Queued (m : Node) (p : Nat) (x : Msg) (t : Nat) : Prop := ∃ q ∈ (m.linkOf p).c1, q.msg = x ∧ q.ready = t

/-- The first copy of a down message goes to every member downlink, answers of expected downlinks sum up, and Hz ends the
combining state (10 Escrow: launching a span on one tick, R262, R264, R270, R271, R272). -/
def Obligations.AnswersCombineAndDownMessagesSpread : Prop :=
  (∀ (s : State) (p : Nat) (a : Msg), Works s .hub → s.hub.isHub = true → s.hub.isHeadOf a.span = false →
    s.hub.peek p (fun m => isDown m && !(66 ≤ p && s.hub.isHeadOf m.span)) = some a →
    (p = 64 ∨ p = 65 → s.hub.spanMatch p a.span a.epoch = true →
      (s.hub.firstCopy (escKey a) = true → s.hub.escInst.length < 1024 ∨ isEscrowKind 1 a = false →
        RunsOn .hub (.escrowDownForward p) s (fun m =>
          (∀ q, q < 64 → s.hub.memberMatch q a.span a.epoch = true → Queued m q a (a.first + 49)) ∧
          m.firstCopy (escKey a) = false ∧ (isEscrowKind 1 a = true → m.escInst.any (fun i => i.isOf a) = true) ∧
          (isEscrowKind 1 a = false → m.escInst = s.hub.escInst))) ∧
      (s.hub.firstCopy (escKey a) = false → RunsOn .hub (.escrowDownForward p) s (fun m =>
        m.escInst = s.hub.escInst ∧ ∀ q, q ≠ p → m.linkOf q = s.hub.linkOf q))) ∧
    (p < 64 → RunsOn .hub (.escrowDownForward p) s (fun m =>
      m.rd Ob.esc_staleMessages = (s.hub.rd Ob.esc_staleMessages + 1) % 2 ^ 64 ∧ m.escInst = s.hub.escInst ∧
      ∀ q, q ≠ p → m.linkOf q = s.hub.linkOf q))) ∧
  (∀ (s : State) (p : Nat) (a : Msg) (i : EscInst), Works s .hub → s.hub.isHub = true → p < 64 →
    s.hub.peek p (isEscrowKind 2) = some a → s.hub.takeSets.escInst.find? (fun j => j.isOf a) = some i → i.expect.contains p = true →
    let x := a.cell 1
    let on := bit x 63
    RunsOn .hub (.armAckReceived p) s (fun m => ∃ j ∈ m.escInst, j.isOf a = true ∧
      j.expect = i.expect.filter (· != p) ∧ j.ok = i.ok + (if on then fld x 127 108 else 0) ∧ j.nak = i.nak + (if on then fld x 107 88 else 0) ∧
      j.high = max i.high (fld x 47 0) ∧ (on = true → fld x 107 88 ≠ 0 → j.nakDie = min i.nakDie (fld x 87 68)) ∧
      (i.expect.filter (· != p) = [] → j.doneAt = some a.first))) ∧
  (∀ (s : State) (p : Nat), Works s .hub → p < 64 → s.hub.lst p ≠ 6 →
    RunsOn .hub (.escrowSetChange p) s (fun m => ∀ i ∈ m.escInst, i.expect.contains p = false)) ∧
  (∀ (s : State) (span ctx step attempt : Nat), Works s .hub →
    RunsOn .hub (.escrowHorizon span ctx step attempt) s (fun m =>
      m.objs = s.hub.objs ∧ m.links = s.hub.links ∧
      ∀ i, i ∈ m.escInst ↔ i ∈ s.hub.escInst ∧
        ¬(i.span = span ∧ i.ctx = ctx ∧ i.step = step ∧ i.attempt = attempt ∧ i.hz ≤ s.hub.tb1))) ∧
  (∀ (s : State) (p : Nat) (a : Msg), Works s .hub → s.hub.isHub = true → p < 68 → s.hub.peek p (isEscrowKind 5) = some a →
    (∀ k, s.hub.heldEntry a = some k → 66 ≤ p → (s.hub.headOf k).leads = true →
      RunsOn .hub (.totalReceived p) s (fun m =>
        (m.headOf k).twin = some (fld (a.cell 1) 127 108, fld (a.cell 1) 107 88, fld (a.cell 1) 87 68, fld (a.cell 1) 67 64, fld (a.cell 1) 47 0) ∧
        (m.headOf k).own = (s.hub.headOf k).own ∧ m.objs = s.hub.objs)) ∧
    (s.hub.heldEntry a = none → RunsOn .hub (.totalReceived p) s (fun m =>
      m.rd Ob.esc_staleMessages = (s.hub.rd Ob.esc_staleMessages + 1) % 2 ^ 64 ∧ m.heads = s.hub.heads)))

/-- ARM copies leave F - L before F, a head confirms only on a complete count, recalls on a nak or at Hz, and every escrow's F is
one period later (10 Escrow: launching a span on one tick, R269, R272, R273, R277, R281). -/
def Obligations.TheHeadDecidesOnProofAndAdvances : Prop :=
  ∀ (s : State) (k : Nat), Works s .hub → k < 256 →
    let n := s.hub
    let h := n.headOf k
    let downs := n.memberDown (n.headSpan k) (n.headEpoch k)
    let moved := fun (m : Node) => m.nextFire k = (h.fFire + n.rd (Ob.head_period k)) % 2 ^ 64 ∧ (m.headOf k).isOpen = false ∧
      ∀ j, j ≠ k → j < 256 → m.headOf j = n.headOf j ∧ m.rd (Ob.head_state j) = n.rd (Ob.head_state j)
    (n.rd (Ob.head_state k) = 2 → h.isOpen = false → h.flight = false →
      (∀ lead, n.lead.leading = lead → n.armLeave k ≤ n.tb1 →
        (lead = true → h.advAt + 48 ≤ n.armLeave k) → (lead = false → h.armHeld = true) → n.isHub = true →
        (1024 ≤ n.escInst.length → RunsOn .hub (.headArmLeave k) s (fun m =>
          m.rd Ob.esc_instancesRefused = (n.rd Ob.esc_instancesRefused + 1) % 2 ^ 64 ∧ ∀ p, p < 64 → m.linkOf p = n.linkOf p)) ∧
        (n.escInst.length < 1024 →
        RunsOn .hub (.headArmLeave k) s (fun m =>
          (m.headOf k).isOpen = true ∧ (m.headOf k).flight = true ∧ (m.headOf k).fStep = n.nextStep k ∧ (m.headOf k).fFire = n.nextFire k ∧
          (m.headOf k).leads = lead ∧
          ∀ p ∈ downs, (∃ q ∈ (m.linkOf p).c1, q.msg = m.headMsg k 1 0 (n.armLeave k) ∧ q.ready = n.armLeave k) ∧
            ∃ q ∈ (m.linkOf p).c1, q.msg = m.headMsg k 1 1 (n.armLeave k) ∧ q.ready = n.armLeave k + 8))) ∧
      (n.lead.leading = true → h.handed = false → n.tb1 + 48 ≤ n.armLeave k → n.armLeave k ≤ n.tb1 + 1024 →
        RunsOn .hub (.headArmLeave k) s (fun m =>
          (m.headOf k).handed = true ∧ (m.headOf k).isOpen = false ∧ m.nextFire k = n.nextFire k ∧ m.escInst = n.escInst)) ∧
      (n.lead.leading = true → n.armLeave k ≤ n.tb1 → n.armLeave k < h.advAt + 48 →
        RunsOn .hub (.headArmLeave k) s (fun m =>
          m.nextFire k = (n.nextFire k + n.rd (Ob.head_period k)) % 2 ^ 64 ∧ m.nextStep k = n.nextStep k ∧ m.nextAttempt k = n.nextAttempt k ∧
          m.rd (Ob.head_noDecision k) = (n.rd (Ob.head_noDecision k) + 1) % 2 ^ 64 ∧ m.escInst = n.escInst)) ∧
      (n.lead.leading = false → h.armHeld = false → exec (.headArmLeave k) s = .next s)) ∧
    (n.headRuns k = true → h.isOpen = true → h.leads = true → n.lead.leading = true →
      let t := n.planeTotals k
      let want := n.rd (Ob.head_expectedCount k)
      let proof := fun (x : Option (Nat × Nat × Nat × Nat × Nat)) => ∃ d, x = some (want, 0, d)
      let hz := h.fFire ≤ n.tb1 + n.rd (Ob.head_horizonLead k)
      (proof t.1 ∨ proof t.2 → RunsOn .hub (.escrowDecision k) s (fun m =>
        moved m ∧ m.rd (Ob.head_confirms k) = (n.rd (Ob.head_confirms k) + 1) % 2 ^ 64 ∧ m.rd (Ob.head_consecutiveRecalls k) = 0 ∧
        m.nextStep k = (h.fStep + 1) % 2 ^ 48 ∧ m.nextAttempt k = 0 ∧
        m.rd (Ob.head_stepInFlight k) = putField 0 8 h.fStep + putField 8 8 h.fFire)) ∧
      (¬proof t.1 → ¬proof t.2 → (totNak t.1 + totNak t.2 ≠ 0 ∨ (hz ∧ n.twinUp = true)) → RunsOn .hub (.escrowDecision k) s (fun m =>
        moved m ∧ m.rd (Ob.head_recalls k) = (n.rd (Ob.head_recalls k) + 1) % 2 ^ 64 ∧ n.recorded m 0x33 ∧
        m.rd (Ob.head_confirms k) = n.rd (Ob.head_confirms k) ∧ m.rd (Ob.head_stepInFlight k) = n.rd (Ob.head_stepInFlight k) ∧
        m.nextStep k = max h.fStep (max (totHigh t.1) (totHigh t.2)) % 2 ^ 48)) ∧
      (¬proof t.1 → ¬proof t.2 → totNak t.1 + totNak t.2 = 0 →
        (hz → n.twinUp = false → RunsOn .hub (.escrowDecision k) s (fun m =>
          moved m ∧ m.rd (Ob.head_noDecision k) = (n.rd (Ob.head_noDecision k) + 1) % 2 ^ 64 ∧ m.nextStep k = (h.fStep + 1) % 2 ^ 48)) ∧
        (¬hz → exec (.escrowDecision k) s = .next s))) ∧
    (∀ p a, n.isHub = true → (p = 66 ∨ p = 67) → n.isHeadOf a.span = true →
      n.peek p (fun m => isDown m && 66 ≤ p && n.isHeadOf m.span) = some a →
      (isEscrowKind 1 a = true → n.runningEntry a = some k → n.lead.leading = false → h.isOpen = false → n.tb1 + 8 ≤ escFire a - escBack a →
        RunsOn .hub (.escrowHandoffReceived p) s (fun m =>
          (m.headOf k).armHeld = true ∧ m.nextFire k = escFire a ∧ m.nextStep k = escStep a ∧ m.nextAttempt k = escAttempt a)) ∧
      (isEscrowKind 1 a = false → n.heldEntry a = some k → h.isOpen = true → h.leads = false → h.decided = 0 → n.runningEntry a = some k →
        let dec := if isEscrowKind 3 a then 1 else 2
        (n.tb1 + 8 ≤ escFire a - escBack a → RunsOn .hub (.escrowHandoffReceived p) s (fun m =>
          moved m ∧ (m.headOf k).decided = dec ∧ m.rd Ob.cause_causeCounts = n.rd Ob.cause_causeCounts)) ∧
        (escFire a - escBack a < n.tb1 + 8 → RunsOn .hub (.escrowHandoffReceived p) s (fun m =>
          moved m ∧ n.recorded m 0x34 ∧ m.rd Ob.esc_handoffsLate = (n.rd Ob.esc_handoffsLate + 1) % 2 ^ 64 ∧
          ∀ q, q < 64 → m.linkOf q = n.linkOf q))) ∧
      (isEscrowKind 1 a = false → n.heldEntry a = some k → n.runningEntry a = some k → h.isOpen = false → h.leads = false → h.hzPassed = true →
        h.decided = 0 → n.nextStep k ≠ escStep a →
        RunsOn .hub (.escrowHandoffReceived p) s (fun m =>
          (m.headOf k).decided = (if isEscrowKind 3 a then 1 else 2) ∧ m.nextFire k = n.nextFire k ∧
          m.rd (Ob.head_noDecision k) = (n.rd (Ob.head_noDecision k) + 2 ^ 64 - 1) % 2 ^ 64))) ∧
    (n.rd (Ob.head_state k) = 2 → n.lead.leading = false → h.isOpen = false → h.armHeld = false → h.missTold = false →
      n.armLeave k ≤ n.tb1 + 8 → RunsOn .hub (.escrowHandoffMissing k) s (fun m => n.recorded m 0x34 ∧ (m.headOf k).missTold = true)) ∧
    (n.fnEnabled 0 = true → (n.spanEntryOf (n.headSpan k)).isSome = true → n.headRuns k = false →
      (n.headStartOk k = true → RunsOn .hub (.headEntryStart k) s (fun m => m.answered 0 ∧ m.rd (Ob.head_state k) = 2)) ∧
      (n.headStartOk k = false → RunsOn .hub (.headEntryStart k) s (fun m => m.answered 3 ∧ m.rd (Ob.head_state k) = n.rd (Ob.head_state k)))) ∧
    RunsOn .hub (.headEntryStopAfter k) s (fun m => m.answered 0 ∧ m.heads = n.heads ∧
      m.rd (Ob.head_state k) = if n.rd (Ob.head_state k) = 2 then (if h.flight then 3 else 1) else n.rd (Ob.head_state k)) ∧
    RunsOn .hub (.headEntryStopNow k) s (fun m => m.answered 0 ∧
      (n.headRuns k = true → m.rd (Ob.head_state k) = 1 ∧ (m.headOf k).flight = false) ∧ (n.headRuns k = false → m.heads = n.heads))

/-- A hub changes its lead only after 1 ms without its twin, on a leading twin, or after 2,048 markers without a leader, and
records cause 0x35 (10 Escrow: launching a span on one tick, R274, 15 Spans, health and census, R434). -/
def Obligations.TheLeadMovesOnlyAsStated : Prop :=
  ∀ (s : State), Works s .hub →
    let n := s.hub
    (∀ t, n.lead.twinOutAt = some t → t + 1562500 ≤ n.tb1 →
      (n.lead.leading = true → n.plane = 0 → RunsOn .hub .twinLost s (fun m => m.lead.leading = false ∧ n.recorded m 0x35)) ∧
      (n.lead.leading = false → n.plane ≠ 0 → RunsOn .hub .twinLost s (fun m => m.lead.leading = true ∧ n.recorded m 0x35))) ∧
    ((∀ t, n.lead.twinOutAt = some t → n.tb1 < t + 1562500 ∨ (n.lead.leading = true ∧ n.plane ≠ 0) ∨ (n.lead.leading = false ∧ n.plane = 0)) →
      exec .twinLost s = .next s) ∧
    (∀ p a, n.isHub = true → p < 68 → n.peek p (isTwinKind 6) = some a →
      (bit a.head 123 = true → n.lead.leading = true → n.plane = 0 → RunsOn .hub (.twinLeadReceived p) s (fun m =>
        m.lead.leading = false ∧ n.recorded m 0x35)) ∧
      (bit a.head 123 = true → n.lead.leading = false ∨ n.plane ≠ 0 → RunsOn .hub (.twinLeadReceived p) s (fun m =>
        m.lead.leading = n.lead.leading ∧ m.lead.zeroAt = none ∧ m.objs = n.objs)) ∧
      (bit a.head 123 = false → RunsOn .hub (.twinLeadReceived p) s (fun m =>
        m.lead.leading = n.lead.leading ∧ m.lead.zeroAt = some (n.lead.zeroAt.getD n.tb1) ∧ m.objs = n.objs))) ∧
    (∀ t, n.lead.zeroAt = some t → n.lead.leading = false →
      (n.plane = 0 → 5 ≤ n.lst 66 → 5 ≤ n.lst 67 → t + 1048576 ≤ n.tb1 → RunsOn .hub .leadReclaim s (fun m =>
        m.lead.leading = true ∧ n.recorded m 0x35)) ∧
      (n.plane ≠ 0 ∨ n.tb1 < t + 1048576 → exec .leadReclaim s = .next s)) ∧
    (n.tb1 % 524288 = 0 → RunsOn .hub .twinLeadSend s (fun m => m.lead = { n.lead with lastSend := n.tb1 } ∧ m.heads = n.heads ∧
      ∀ p, p = 66 ∨ p = 67 → 5 ≤ n.lst p → (m.linkOf p).c3.any (fun q => q.msg.typ == tTwin && fld q.msg.head 127 124 == 6 &&
        bit q.msg.head 123 == n.lead.leading) = true))

/-- A local request with room in its cycle, at an Agent that its region reaches (11 R286, R287). -/
def LocalReq (n : Node) (r core req cyc op : Nat) : Prop :=
  n.hasRegion r = true ∧ r < 1023 ∧ core < 2 ^ 20 ∧ n.inputLive r = true ∧ (n.agentOf r).busHeld = [] ∧
  ¬((n.agentOf r).reqCyc = cyc ∧ 4 ≤ (n.agentOf r).cycReq) ∧ fld req 189 187 = op ∧ bit req 186 = false ∧ fld req 179 154 % 64 < 48

/-- The command of the tally bus that stands for an op: 1 INIT, 2 SIGNAL, 3 ARRIVE, 4 WAIT (11 R286). -/
def busRow (op r core req cyc : Nat) (inside : Bool) : Instr :=
  if op = 1 then .tallyInit r core req cyc inside else if op = 2 then .tallySignal r core req cyc inside
  else if op = 3 then .tallyArrive r core req cyc inside else .tallyWait r core req cyc inside

/-- The waiters of a tally afterwards are those of a list that are not released; the released ones are presented on cycle
c + 4 (11 R287). -/
def Released (n : Node) (r t cyc : Nat) (go left : List (Nat × Nat × Nat × Nat)) : Prop :=
  ((n.agentOf r).local t).waiters = left ∧ ∀ w ∈ go, (w.1, 0, cyc + 4) ∈ (n.agentOf r).rls

/-- A COUNT tally after `add` units came with waiters `ws`: the units present go to the waiters in ascending core number, those that
got one in the same cycle among them (11 R284, R287). -/
def CountShared (n m : Node) (r t cyc add : Nat) (ws : List (Nat × Nat × Nat × Nat)) : Prop :=
  let x := (n.agentOf r).local t
  let g := if x.givenCyc = cyc then x.given else []
  let all := g.foldl insertWaiter ws
  let k := min (x.value + add + g.length) all.length
  Released m r t cyc (all.take k) (all.drop k) ∧ ((m.agentOf r).local t).value = x.value + add + g.length - k

/-- The other local tallies of a region, and those of the other regions, stay. -/
def OtherLocals (n m : Node) (r t : Nat) : Prop :=
  (∀ i, i ≠ t → (m.agentOf r).local i = (n.agentOf r).local i) ∧ ∀ q, q ≠ r → m.agentOf q = n.agentOf q

/-- A local tally request acts in its cycle by the tally's mode, its releases come on cycle c + 4, and a bad request or a timeout
ends as stated (11 Tallies, barriers and the Arrival Ledger, R284, R286, R287, R307, R308, R310). -/
def Obligations.LocalTalliesActInTheirCycle : Prop :=
  ∀ (s : State) (r core req cyc : Nat), s.tsu.isHub = false →
    let t := fld req 179 154
    let x := (s.tsu.agentOf r).local t
    let cnt := fld req 137 122
    let n := s.tsu
    (LocalReq n r core req cyc 1 →
      (x.waiters = [] → RunsOn .tsu (.tallyInit r core req cyc true) s (fun m =>
        (m.agentOf r).local t = { mode := fld req 153 152, parts := fld req 151 122 } ∧ (m.agentOf r).rls = (n.agentOf r).rls ∧ OtherLocals n m r t)) ∧
      (x.waiters ≠ [] → RunsOn .tsu (.tallyInit r core req cyc true) s (fun m =>
        (m.agentOf r).local t = x ∧ (m.agentOf r).rls = (n.agentOf r).rls ++ [(core, 3, cyc + 4)] ∧ OtherLocals n m r t))) ∧
    (LocalReq n r core req cyc 2 →
      (x.mode = 1 → x.value + cnt < 2 ^ 32 → RunsOn .tsu (.tallySignal r core req cyc true) s (fun m =>
        CountShared n m r t cyc cnt x.waiters ∧ OtherLocals n m r t ∧ ((m.agentOf r).local t).sigCore = core)) ∧
      (x.mode = 3 → x.value + cnt < 2 ^ 32 → RunsOn .tsu (.tallySignal r core req cyc true) s (fun m =>
        ((m.agentOf r).local t).value = x.value + cnt ∧ OtherLocals n m r t ∧
        Released m r t cyc (x.waiters.filter (fun w => w.2.1 ≤ x.value + cnt)) (x.waiters.filter (fun w => !decide (w.2.1 ≤ x.value + cnt))))) ∧
      (x.mode = 2 →
        (x.waiters = [] → RunsOn .tsu (.tallySignal r core req cyc true) s (fun m =>
          assoc 0 ((m.agentOf r).local t).credits (fld req 121 72 % 2 ^ 20) = assoc 0 x.credits (fld req 121 72 % 2 ^ 20) + cnt ∧ OtherLocals n m r t)) ∧
        (0 < cnt → RunsOn .tsu (.tallySignal r core req cyc true) s (fun m =>
          OtherLocals n m r t ∧ (∀ w ∈ x.waiters, w.1 = fld req 121 72 % 2 ^ 20 → (w.1, 0, cyc + 4) ∈ (m.agentOf r).rls) ∧
          ∀ w ∈ ((m.agentOf r).local t).waiters, w.1 ≠ fld req 121 72 % 2 ^ 20))) ∧
      (x.mode ≠ 2 → 2 ^ 32 ≤ x.value + cnt → RunsOn .tsu (.tallySignal r core req cyc true) s (fun m =>
        n.recorded m 0x42 ∧ (n.fired (fld req 185 180) = true → (m.ctxOf (fld req 185 180)).waveSent = true)))) ∧
    (LocalReq n r core req cyc 3 → x.mode = 0 →
      let j := assoc 0 x.arrived core + 1
      let k := assoc 0 x.counts j
      (x.parts ≤ k → RunsOn .tsu (.tallyArrive r core req cyc true) s (fun m =>
        n.recorded m 0x46 ∧ ((m.agentOf r).local t).counts = x.counts ∧ ((m.agentOf r).local t).used = x.used)) ∧
      (k < x.parts → RunsOn .tsu (.tallyArrive r core req cyc true) s (fun m =>
        let use := if k + 1 = x.parts then max x.used j else x.used
        assoc 0 ((m.agentOf r).local t).counts j = k + 1 ∧ ((m.agentOf r).local t).used = use ∧ OtherLocals n m r t ∧
        assoc 0 ((m.agentOf r).local t).arrived core = j ∧
        Released m r t cyc (x.waiters.filter (fun w => w.2.1 ≤ use)) (x.waiters.filter (fun w => !decide (w.2.1 ≤ use)))))) ∧
    (LocalReq n r core req cyc 4 →
      let use := if x.mode = 0 ∧ cnt = 0 then max 1 (assoc 0 x.arrived core) else cnt
      let w := (core, use, n.tb1, fld req 185 180)
      let met := (x.mode = 0 ∧ use ≤ x.used) ∨ (x.mode = 2 ∧ 0 < assoc 0 x.credits core) ∨ (x.mode = 3 ∧ use ≤ x.value)
      (x.mode = 1 → RunsOn .tsu (.tallyWait r core req cyc true) s (fun m =>
        CountShared n m r t cyc 0 (insertWaiter x.waiters w) ∧ OtherLocals n m r t)) ∧
      (met → RunsOn .tsu (.tallyWait r core req cyc true) s (fun m => (core, 0, cyc + 4) ∈ (m.agentOf r).rls ∧ OtherLocals n m r t)) ∧
      (¬met → x.mode = 0 ∨ x.mode = 2 ∨ x.mode = 3 → RunsOn .tsu (.tallyWait r core req cyc true) s (fun m =>
        w ∈ ((m.agentOf r).local t).waiters ∧ OtherLocals n m r t))) ∧
    (∀ op (inside : Bool), 1 ≤ op → op ≤ 4 → n.hasRegion r = true → r < 1023 → n.inputLive r = true → (n.agentOf r).busHeld = [] →
      let i := busRow op r core req cyc inside
      let o := fld req 189 187
      let full := (n.agentOf r).reqCyc = cyc ∧ 4 ≤ (n.agentOf r).cycReq
      let reserved := o = 0 ∨ 5 ≤ o
      (full → o = op ∨ reserved → RunsOn .tsu i s (fun m =>
        (m.agentOf r).busHeld = [(core, req, inside)] ∧ (m.agentOf r).locals = (n.agentOf r).locals ∧
        (m.agentOf r).rls = (n.agentOf r).rls ∧ ∀ q, q ≠ r → m.agentOf q = n.agentOf q)) ∧
      (o ≠ op → ¬reserved → exec i s = .next s) ∧
      (¬full → reserved ∨ (o = op ∧ op = 1 ∧ bit req 186 = true) ∨
          (o = op ∧ bit req 186 = false ∧ (inside = false ∨ 48 ≤ fld req 179 154 % 64)) → RunsOn .tsu i s (fun m =>
        (m.agentOf r).locals = (n.agentOf r).locals ∧ (m.agentOf r).rls = (n.agentOf r).rls ++ [(core, 3, cyc + 4)] ∧
        m.rd Ob.tly_requestsRefusedAndStaleMessages = (n.rd Ob.tly_requestsRefusedAndStaleMessages + 1) % 2 ^ 64))) ∧
    (let n := s.tsu.releasesFirst.decisionsDue
      ∀ c i u w, unitRegion u < 1023 → ((n.agentOf (unitRegion u)).local i).waiters.find? (fun w => w.1 == unitCore u) = some w →
        (w.2.2.1 + n.waitLimit w.2.2.2 ≤ n.tb1 → RunsOn .tsu (.tallyWaitTimeout false c i u) s (fun m =>
          n.recorded m 0x40 ∧ (unitCore u, 1, n.tb1) ∈ (m.agentOf (unitRegion u)).rls ∧
          (∀ y ∈ ((m.agentOf (unitRegion u)).local i).waiters, y.1 ≠ unitCore u) ∧
          m.rd Ob.tly_waitTimeouts = (n.rd Ob.tly_waitTimeouts + 1) % 2 ^ 64)) ∧
        (n.tb1 < w.2.2.1 + n.waitLimit w.2.2.2 → exec (.tallyWaitTimeout false c i u) s = .next { s with tsu := n }))

/-- A core's request on a span tally with room in its cycle (11 R286). -/
def SpanBus (n : Node) (r core req cyc op : Nat) : Prop :=
  n.hasRegion r = true ∧ r < 1023 ∧ core < 2 ^ 20 ∧ n.inputLive r = true ∧ (n.agentOf r).busHeld = [] ∧
  ¬((n.agentOf r).reqCyc = cyc ∧ 4 ≤ (n.agentOf r).cycReq) ∧ fld req 189 187 = op ∧ bit req 186 = true

/-- The entry allows an operation by a core or a host (11 R291). -/
def Allowed (n : Node) (op c vid : Nat) : Prop :=
  let e := n.transEntry c vid
  bit e 31 = true ∧ (op = 2 → entryMode e ≠ 0) ∧ (op = 3 → entryMode e = 0) ∧ (entrySlotted e = true ∨ n.rd Ob.det_strict ≠ 1)

/-- A TALLY message waits to be sent on every lane that is MEMBER (11 R293). -/
def TallySent (n m : Node) (kind c slot unit : Nat) (rest : List Nat) : Prop :=
  ∀ p, p < 2 → n.lst p = 6 → ∃ q ∈ (m.linkOf p).c2, q.msg =
    { typ := tTally
      cells := tallyHead n.span n.epoch kind c slot (n.ctxOf c).step :: (put 127 64 n.tb1 + put 63 14 unit) :: rest }

/-- The effect of an allowed SIGNAL, ARRIVE or COUNT wait of a unit on the messages (11 R284, R292). -/
def RequestSent (n m : Node) (q : SpanReq) (op : Nat) : Prop :=
  let slot := entrySlot (n.transEntry q.ctx q.vid)
  let seq := assoc 0 (n.stally q.ctx slot).seqs q.unit
  let use := assoc 0 (n.stally q.ctx slot).arrivals q.unit + 1
  (op = 2 → TallySent n m 1 q.ctx slot q.unit
      [put 127 112 q.arg + put 111 96 seq + put 95 88 q.chan, put 127 64 q.tab + put 63 14 (if entryMode (n.transEntry q.ctx q.vid) = 2 then q.target else 0)]) ∧
  (op = 3 → TallySent n m 2 q.ctx slot q.unit [put 127 96 1 + put 95 80 use]) ∧
  (op = 4 → TallySent n m 3 q.ctx slot q.unit [put 111 96 seq]) ∧
  (op = 2 ∨ op = 4 → assoc 0 (m.stally q.ctx slot).seqs q.unit = (seq + 1) % 65536) ∧
  (op = 3 → assoc 0 (m.stally q.ctx slot).arrivals q.unit = use)

/-- A span request of a core or host needs a FIRED step and an entry that allows it, and then sends its message, opens a wait or
is released (11 Tallies, barriers and the Arrival Ledger, R284, R286, R291, R292, R293, R295, R310, R312, R540). -/
def Obligations.SpanRequestsNeedTheirStepAndEntry : Prop :=
  ∀ (s : State), s.tsu.isHub = false →
    let n := s.tsu
    (∀ r core req cyc op, SpanBus n r core req cyc op → op = 2 ∨ op = 3 ∨ op = 4 →
      let i := if op = 2 then Instr.tallySignal r core req cyc true else if op = 3 then .tallyArrive r core req cyc true
        else .tallyWait r core req cyc true
      let q := n.busReq r core req op
      let e := n.transEntry q.ctx q.vid
      (n.fired q.ctx = false → RunsOn .tsu i s (fun m =>
        (m.agentOf r).rls = (n.agentOf r).rls ++ [(core, 3, n.tb1)] ∧ m.links = n.links ∧ m.tally = n.tally ∧
        m.rd Ob.tly_requestsRefusedAndStaleMessages = (n.rd Ob.tly_requestsRefusedAndStaleMessages + 1) % 2 ^ 64)) ∧
      (n.fired q.ctx = true →
        (¬Allowed n op q.ctx q.vid → RunsOn .tsu i s (fun m =>
          n.recorded m 0x44 ∧ (core, 3, n.tb1) ∈ (m.agentOf r).rls ∧ (m.ctxOf q.ctx).waveSent = true ∧ (m.ctxOf q.ctx).cause ≠ 0 ∧
          m.tally = n.tally)) ∧
        (Allowed n op q.ctx q.vid →
          (op ≠ 4 → RunsOn .tsu i s (fun m =>
            RequestSent n m q op ∧ (m.agentOf r).rls = (n.agentOf r).rls ∧ m.tally.waits = n.tally.waits ∧ m.ctxs = n.ctxs)) ∧
          (op = 4 →
            let w : SWait := { ctx := q.ctx, vid := q.vid, unit := q.unit, tick := n.tb1, limit := n.waitLimit q.ctx }
            let taken := n.tally.waits.any (fun x => x.ctx == q.ctx && x.vid == q.vid && x.unit == q.unit)
            (taken = true → RunsOn .tsu i s (fun m =>
              (m.agentOf r).rls = (n.agentOf r).rls ++ [(core, 3, n.tb1)] ∧ m.tally = n.tally ∧ m.links = n.links)) ∧
            (taken = false → 4096 ≤ n.tally.waits.length → RunsOn .tsu i s (fun m =>
              n.recorded m 0x42 ∧ (m.ctxOf q.ctx).waveSent = true ∧ m.tally = n.tally ∧ (core, 3, n.tb1) ∈ (m.agentOf r).rls)) ∧
            (taken = false → n.tally.waits.length < 4096 →
              (entryMode e = 1 → RunsOn .tsu i s (fun m =>
                RequestSent n m q 4 ∧ m.ctxs = n.ctxs ∧ m.tally.waits = n.tally.waits ++
                  [{ w with arg := q.arg, seq := assoc 0 (n.stally q.ctx (entrySlot e)).seqs q.unit }])) ∧
              (entryMode e = 0 → q.arg ≠ 0 →
                ((n.stally q.ctx (entrySlot e)).value < q.arg → RunsOn .tsu i s (fun m =>
                  m.tally.waits = n.tally.waits ++ [{ w with arg := q.arg }] ∧ m.links = n.links ∧ (m.agentOf r).rls = (n.agentOf r).rls)) ∧
                (q.arg ≤ (n.stally q.ctx (entrySlot e)).value → RunsOn .tsu i s (fun m =>
                  (core, 0, n.tb1) ∈ (m.agentOf r).rls ∧ m.links = n.links)))))))) ∧
    (∀ h cmd, h < 8 →
      let wait := Instr.hostTallyWait h cmd
      let u := n.unitOf 1023 (hostCore + h)
      let c := fieldAt cmd 1 1
      let vid := fieldAt cmd 4 2
      let us := fieldAt cmd 20 4
      let free := n.rd (Ob.hch_hostStatus h) ≠ 1 ∧ n.rd (Ob.hch_hostStatus h) ≠ 6
      n.rd Ob.det_inputMode ≠ 1 → n.fnEnabled 1 = true →
      (∀ i ∈ [Instr.hostTallySignal h cmd, .hostTallyArrive h cmd, wait],
        (¬free → RunsOn .tsu i s (fun m =>
          m.answered 3 ∧ m.rd (Ob.hch_hostStatus h) = n.rd (Ob.hch_hostStatus h) ∧ m.tally = n.tally ∧ m.links = n.links)) ∧
        (free → vid < 4096 → c < n.ctxCount → (i = wait → 1 ≤ us ∧ us ≤ 10000000) → n.fired c = false → RunsOn .tsu i s (fun m =>
          m.answered 0 ∧ m.rd (Ob.hch_hostStatus h) = 5 ∧ m.tally = n.tally ∧ m.links = n.links ∧
          m.rd Ob.tly_requestsRefusedAndStaleMessages = (n.rd Ob.tly_requestsRefusedAndStaleMessages + 1) % 2 ^ 64))) ∧
      (free → vid < 4096 → c < n.ctxCount → n.fired c = true →
        (Allowed n 2 c vid → RunsOn .tsu (.hostTallySignal h cmd) s (fun m =>
          m.answered 0 ∧ m.rd (Ob.hch_hostStatus h) = 0 ∧ RequestSent n m (n.hostReq h cmd 2 n.tb1) 2 ∧ m.tally.waits = n.tally.waits)) ∧
        (Allowed n 3 c vid → RunsOn .tsu (.hostTallyArrive h cmd) s (fun m =>
          m.answered 0 ∧ m.rd (Ob.hch_hostStatus h) = 0 ∧ RequestSent n m (n.hostReq h cmd 3 n.tb1) 3 ∧ m.tally.waits = n.tally.waits)) ∧
        (¬Allowed n 2 c vid → RunsOn .tsu (.hostTallySignal h cmd) s (fun m =>
          m.answered 0 ∧ m.rd (Ob.hch_hostStatus h) = 5 ∧ n.recorded m 0x44 ∧ m.ctxs = n.ctxs ∧ m.links = n.links)) ∧
        (Allowed n 4 c vid → 1 ≤ us → us ≤ 10000000 → entryMode (n.transEntry c vid) = 1 → n.tally.waits.length < 4096 →
          (∀ w ∈ n.tally.waits, w.unit ≠ u) → RunsOn .tsu wait s (fun m =>
            m.answered 0 ∧ m.rd (Ob.hch_hostStatus h) = 1 ∧ RequestSent n m (n.hostReq h cmd 4 n.tb1) 4 ∧
            ∃ w ∈ m.tally.waits, w.unit = u ∧ w.ctx = c ∧ w.vid = vid ∧ w.tick = n.tb1 ∧ w.limit = ticksOfUs us))) ∧
      (∀ w, n.tally.waits.find? (fun w => w.unit == u) = some w → RunsOn .tsu (.hostCancelWait h) s (fun m =>
        m.answered 0 ∧ m.rd (Ob.hch_hostStatus h) = 0 ∧ w ∉ m.tally.waits ∧ ∀ y ∈ n.tally.waits, y ≠ w → y ∈ m.tally.waits)) ∧
      (n.tally.waits.find? (fun w => w.unit == u) = none → RunsOn .tsu (.hostCancelWait h) s (fun m =>
        m.answered 0 ∧ m.tally = n.tally ∧ m.rd (Ob.hch_hostStatus h) = n.rd (Ob.hch_hostStatus h))))

/-- A RELEASE of a FIRED step that has not been taken, and what a COUNT tally's core waits for (11 R293, R303). -/
def TakesRel (n : Node) (p : Nat) (a : Msg) : Prop :=
  n.peek p (isTallyKind 5) = some a ∧ n.fired (relOf a).ctx = true ∧ fld a.head 53 6 = (n.ctxOf (relOf a).ctx).step ∧
  (n.stally (relOf a).ctx (relOf a).slot).rels.any (fun e => e.num == (relOf a).num) = false

/-- A core waits for a release of a COUNT tally (11 R284). -/
def CoreWaits (n : Node) (x : Rel) (w : SWait) : Prop :=
  n.slotMode x.ctx x.slot = 1 ∧ (n.waitsOn x.ctx x.slot).find? (fun w => w.unit == x.unit) = some w ∧ isHostUnit w.unit = false ∧
  unitRegion w.unit < 1023

/-- One release waits on a slot of a context, and a core waits for it. -/
def OneRel (n : Node) (c slot : Nat) (x : Rel) (w : SWait) : Prop :=
  n.tally.rels.filter (fun y => y.ctx == c && y.slot == slot) = [x] ∧ CoreWaits n x w

/-- A wait has ended released: its core is presented the release, and it is open no more (11 R299). -/
def CoreReleased (m : Node) (w : SWait) (t : Nat) : Prop :=
  (unitCore w.unit, 0, t) ∈ (m.agentOf (unitRegion w.unit)).rls ∧ w ∉ m.tally.waits

/-- A release is taken once in its FIRED step, acts on its tick when the ledger allows, and a short or late one faults under
Strict and taints without (11 Tallies, barriers and the Arrival Ledger, R289, R293, R294, R298, R299, R300, R301, R303, R304,
R305, R308). -/
def Obligations.ReleasesWaitForTheirTickAndLedger : Prop :=
  ∀ (s : State), s.tsu.isHub = false →
    (let n := s.tsu.escrowFirst;
      (∀ p a, p < 2 → n.peek p (isTallyKind 5) = some a →
        let x := relOf a
        let got := fun (b : Bool) => Instr.tallyReleaseReceived p b
        (n.fired x.ctx = false ∨ fld a.head 53 6 ≠ (n.ctxOf x.ctx).step → ∀ b, RunsOn .tsu (got b) s (fun m =>
          m.tally = n.tally ∧ m.agents = n.agents ∧
          m.rd Ob.tly_requestsRefusedAndStaleMessages = (n.rd Ob.tly_requestsRefusedAndStaleMessages + 1) % 2 ^ 64)) ∧
        (n.fired x.ctx = true → fld a.head 53 6 = (n.ctxOf x.ctx).step →
          (n.stally x.ctx x.slot).rels.any (fun e => e.num == x.num) = true → ∀ b, RunsOn .tsu (got b) s (fun m =>
            m.tally = n.tally ∧ m.agents = n.agents ∧ m.objs = n.objs)) ∧
        (TakesRel n p a → ∀ w, CoreWaits n x w → x.tab = 0 →
          (x.tick = 0 → ∀ b, RunsOn .tsu (got b) s (fun m =>
            CoreReleased m w n.tb1 ∧ bit (m.rd (Ob.tag_taintReasons x.ctx)) 3 = true ∧ m.tally.rels = n.tally.rels ∧
            m.rd (Ob.tctx_releases x.ctx) = (n.rd (Ob.tctx_releases x.ctx) + 1) % 2 ^ 64)) ∧
          (n.tb1 + 1024 ≤ x.tick → ∀ b, RunsOn .tsu (got b) s (fun m =>
            m.tally.rels = n.tally.rels ++ [x] ∧ m.tally.waits = n.tally.waits ∧ m.agents = n.agents ∧
            bit (m.rd (Ob.tag_taintReasons x.ctx)) 4 = ((b && !n.strict) || bit (n.rd (Ob.tag_taintReasons x.ctx)) 4))) ∧
          (x.tick ≠ 0 → x.tick < n.tb1 + 1024 → ∀ b,
            (n.strict = true → RunsOn .tsu (got b) s (fun m =>
              n.recorded m 0x45 ∧ (m.ctxOf x.ctx).waveSent = true ∧ (m.ctxOf x.ctx).cause ≠ 0 ∧ m.tally.waits = n.tally.waits)) ∧
            (n.strict = false → RunsOn .tsu (got b) s (fun m =>
              bit (m.rd (Ob.tag_taintReasons x.ctx)) 4 = true ∧ (x.tick ≤ n.tb1 → CoreReleased m w n.tb1) ∧
              (n.tb1 < x.tick → m.tally.waits = n.tally.waits ∧
                m.tally.rels = n.tally.rels ++ [{ x with late := true, decided := true, okd := true }])))))) ∧
      (∀ c slot x w, c < s.tsu.ctxCount → OneRel n c slot x w → x.decided = true → x.tick ≠ 0 →
        let now := x.okd || (!n.strict && n.condHolds x.die x.chan x.tab n.tb1)
        (x.tick ≤ n.tb1 → now = true → RunsOn .tsu (.releaseTick c slot) s (fun m =>
          CoreReleased m w n.tb1 ∧ x ∉ m.tally.rels ∧
          (n.fired c = true → x.okd = false → x.late = false → (n.stally c slot).rels.any (fun e => e.num == x.num) = true →
            bit (m.rd (Ob.tag_taintReasons c)) 5 = true))) ∧
        (x.tick ≤ n.tb1 → now = false → RunsOn .tsu (.releaseTick c slot) s (fun m =>
          m.tally.rels = n.tally.rels ∧ m.agents = n.agents ∧ m.tally.waits.length = n.tally.waits.length)) ∧
        (n.tb1 < x.tick → exec (.releaseTick c slot) s = .next { s with tsu := n }))) ∧
    (let n := s.tsu.releasesFirst;
      (∀ c slot x w, c < s.tsu.ctxCount → OneRel n c slot x w → x.decided = false →
        let ok := n.condHolds x.die x.chan x.tab (x.tick - 2048)
        let mapped := (n.acctOf x.die x.chan).isSome
        (x.tick ≤ n.tb1 + 1024 → n.fired c = true →
          (ok = true → RunsOn .tsu (.ledgerDecision c slot) s (fun m =>
            { x with decided := true, okd := true } ∈ m.tally.rels ∧ x ∉ m.tally.rels ∧ m.objs = n.objs ∧ m.tally.waits = n.tally.waits)) ∧
          (ok = false → mapped = true → n.strict = true → RunsOn .tsu (.ledgerDecision c slot) s (fun m =>
            n.recorded m 0x43 ∧ (m.ctxOf c).waveSent = true ∧ (m.ctxOf c).cause ≠ 0)) ∧
          (ok = false → mapped = true → n.strict = false → RunsOn .tsu (.ledgerDecision c slot) s (fun m =>
            { x with decided := true, okd := false } ∈ m.tally.rels ∧ m.objs = n.objs ∧ m.tally.waits = n.tally.waits)) ∧
          (ok = false → mapped = false → RunsOn .tsu (.ledgerDecision c slot) s (fun m =>
            n.recorded m 0x44 ∧ x ∉ m.tally.rels ∧ m.tally.waits = n.tally.waits))) ∧
        (n.tb1 + 1024 < x.tick → exec (.ledgerDecision c slot) s = .next { s with tsu := n })) ∧
      (∀ r a bytes, s.tsu.hasRegion r = true → r < 1024 →
        let free := n.inputLive r = true ∧ (n.agentOf r).repAt ≠ some n.tb1
        (free → bit (n.acctEntry a) 31 = true → RunsOn .tsu (.ledgerReport r a bytes) s (fun m =>
          (m.acct a).value = ((n.acct a).value + bytes) % 2 ^ 64 ∧ (n.tb1, bytes) ∈ (m.acct a).reports ∧ (∀ b, b ≠ a → m.acct b = n.acct b) ∧
          m.rd Ob.acct_reports = (n.rd Ob.acct_reports + 1) % 2 ^ 64)) ∧
        (free → bit (n.acctEntry a) 31 = false → RunsOn .tsu (.ledgerReport r a bytes) s (fun m =>
          m.tally = n.tally ∧ m.rd Ob.acct_reportsDropped = (n.rd Ob.acct_reportsDropped + 1) % 2 ^ 64)) ∧
        (¬free → exec (.ledgerReport r a bytes) s = .next { s with tsu := n }))) ∧
    (let n := s.tsu;
      n.rd Ob.det_inputMode ≠ 1 → ∀ first vals,
      let x := putWords (n.rd Ob.acct_accountTable) first (vals.map (fun v => v - fld v 30 28 * 2 ^ 28))
      let ok := first + vals.length ≤ 4096 ∧ acctsDistinct x = true
      (ok → RunsOn .tsu (.accountTableWrite first vals) s (fun m => m.answered 0 ∧ (∀ a, a < 4096 → m.acctEntry a = bits x (32 * a) 32) ∧
        ∀ a, (first ≤ a → a < first + vals.length → m.acct a = {}) ∧ (a < first ∨ first + vals.length ≤ a → m.acct a = n.acct a))) ∧
      (¬ok → RunsOn .tsu (.accountTableWrite first vals) s (fun m =>
        m.answered 3 ∧ m.rd Ob.acct_accountTable = n.rd Ob.acct_accountTable ∧ m.tally = n.tally)) ∧
      ∀ c, c < n.ctxCount →
        (n.stepHeld c = false → first + vals.length ≤ 4096 → RunsOn .tsu (.translationWrite c first vals) s (fun m =>
          m.answered 0 ∧ ∀ v, v < 4096 → m.transEntry c v =
            bits (putWords (n.rd (Ob.tctx_translationTable c)) first (vals.map (fun v => v - fld v 27 16 * 2 ^ 16))) (32 * v) 32)) ∧
        (n.stepHeld c = true → RunsOn .tsu (.translationWrite c first vals) s (fun m =>
          m.answered 3 ∧ m.rd (Ob.tctx_translationTable c) = n.rd (Ob.tctx_translationTable c)))) ∧
    (let n := s.tsu.releasesFirst.decisionsDue
      ∀ c vid u w, n.tally.waits.find? (fun w => w.ctx == c && w.vid == vid && w.unit == u) = some w → isHostUnit u = false → c < 64 →
        (w.tick + w.limit ≤ n.tb1 → RunsOn .tsu (.tallyWaitTimeout true c vid u) s (fun m =>
          (unitCore u, 1, n.tb1) ∈ (m.agentOf (unitRegion u)).rls ∧ w ∉ m.tally.waits ∧
          n.recorded m (if w.ledgerShort then 0x41 else 0x40) ∧ m.rd Ob.tly_waitTimeouts = (n.rd Ob.tly_waitTimeouts + 1) % 2 ^ 64 ∧
          (n.fired c = true → (m.ctxOf c).waveSent = true))) ∧
        (n.tb1 < w.tick + w.limit → exec (.tallyWaitTimeout true c vid u) s = .next { s with tsu := n }))

/-- A slot is active for the span of a message and uses its kind (11 R290, R293). -/
def SlotTakes (n : Node) (a : Msg) : Prop :=
  let cfg := (n.htalOf (fld a.head 69 54)).cfg
  cfgActive cfg = true ∧ cfgSpan cfg = a.span ∧ kindUnused (cfgMode cfg) (fld a.head 79 76) = false

/-- A message waits in class C2 of a port, ready at a tick. -/
def QueuedC2 (m : Node) (p : Nat) (x : Msg) (t : Nat) : Prop := ∃ q ∈ (m.linkOf p).c2, q.msg = x ∧ q.ready = t

/-- A hub combines ARRIVEs, passes other kinds up, counts at the head, decides a slot at R - delta or at once, and sends releases
down once (11 Tallies, barriers and the Arrival Ledger, R284, R290, R292, R293, R294, R296, R297, R298, R317, 02 The span
link, R61). -/
def Obligations.HubsCombineDecideAndForwardTallies : Prop :=
  (∀ us ws, (∀ u ∈ us, 1 ≤ u.n) →
    let k := min (us.map (·.n)).sum ws.length
    (assignUnits us ws).1.map (·.2) = (ws.take k).map (·.unit) ∧ (assignUnits us ws).2.2 = ws.drop k) ∧
  ∀ (s : State), Works s .hub → s.hub.isHub = true →
    let n := s.hub
    (∀ p a, p < 68 → n.peek p (fun m => m.typ == tTally && 1 ≤ fld m.head 79 76 && fld m.head 79 76 ≤ 4) = some a →
      let slot := fld a.head 69 54
      let t := n.htalOf slot
      let step := fld a.head 53 6
      let up := n.uplink a.span a.epoch
      (¬SlotTakes n a → RunsOn .hub (.tallyUpMessage p) s (fun m =>
        m.rd Ob.htly_messagesDropped = (n.rd Ob.htly_messagesDropped + 1) % 2 ^ 64 ∧ m.htal = n.htal ∧
        ∀ q, q ≠ p → m.linkOf q = n.linkOf q)) ∧
      (SlotTakes n a → n.isHeadOf a.span = false → p < 64 → n.spanMatch p a.span a.epoch = true → t.stale step a.epoch = false →
        (fld a.head 79 76 ≠ 2 → n.lst up = 6 → a.typ = tTally → RunsOn .hub (.tallyUpMessage p) s (fun m =>
          QueuedC2 m up a (a.first + 49) ∧ ∀ q, q ≠ p → q ≠ up → m.linkOf q = n.linkOf q)) ∧
        (fld a.head 79 76 = 2 →
          let use := fld (a.cell 2) 95 80
          let k := fld (a.cell 2) 127 96
          let tick := fld (a.cell 1) 127 64
          ((t.forStep step a.epoch).hold = [] → RunsOn .hub (.tallyUpMessage p) s (fun m =>
            (m.htalOf slot).hold = [(step, use, k, tick, nextMul 8 (a.first + 49))] ∧ ∀ q, q ≠ p → m.linkOf q = n.linkOf q)) ∧
          (∀ k0 t0 due, (t.forStep step a.epoch).hold = [(step, use, k0, t0, due)] → RunsOn .hub (.tallyUpMessage p) s (fun m =>
            (m.htalOf slot).hold = [(step, use, k0 + k, max t0 tick, due)] ∧ ∀ q, q ≠ p → m.linkOf q = n.linkOf q)))) ∧
      (SlotTakes n a → n.isHeadOf a.span = true → p < 64 →
        (cfgMode t.cfg = 0 → cfgSlotted t.cfg = false → t.stale step a.epoch = false →
          let use := fld (a.cell 2) 95 80
          let cnt := assoc 0 (t.forStep step a.epoch).arrive use
          let sum := cnt + fld (a.cell 2) 127 96
          (sum ≤ cfgParts t.cfg → RunsOn .hub (.tallyUpMessage p) s (fun m =>
            assoc 0 (m.htalOf slot).arrive use = sum ∧ (m.htalOf slot).dirty = true ∧ m.objs = n.objs)) ∧
          (cfgParts t.cfg < sum → 0 < fld (a.cell 2) 127 96 → RunsOn .hub (.tallyUpMessage p) s (fun m =>
            n.recorded m 0x46 ∧ assoc 0 (m.htalOf slot).arrive use = max cnt (cfgParts t.cfg)))) ∧
        (cfgMode t.cfg = 0 → cfgSlotted t.cfg = true → (n.inFlight a.span (cfgCtx t.cfg)).map (·.1) ≠ some step →
          RunsOn .hub (.tallyUpMessage p) s (fun m =>
            m.rd Ob.htly_lateMessages = (n.rd Ob.htly_lateMessages + 1) % 2 ^ 64 ∧ (t.nextK = 0 → m.htal = n.htal))))) ∧
    (∀ slot, slot < 65536 →
      let t := n.htalOf slot
      let span := cfgSpan t.cfg
      ∀ st use k tick due, t.hold = [(st, use, k, tick, due)] → n.lst (n.uplink span t.epoch) = 6 →
        (due ≤ n.tb1 → RunsOn .hub (.arriveCombineSend slot) s (fun m =>
          (m.htalOf slot).hold = [] ∧ m.objs = n.objs ∧ QueuedC2 m (n.uplink span t.epoch)
            { typ := tTally
              cells := [tallyHead span t.epoch 2 (cfgCtx t.cfg) slot st, put 127 64 tick + put 63 14 n.hubUnit, put 127 96 k + put 95 80 use] }
            n.tb1)) ∧
        (n.tb1 < due → RunsOn .hub (.arriveCombineSend slot) s (fun m => m.htalOf slot = t ∧ m.links = n.links ∧ m.objs = n.objs))) ∧
    (let n := s.hub.takeUps
      ∀ slot, slot < 65536 →
      let t := n.htalOf slot
      let span := cfgSpan t.cfg
      (∀ e step fire, cfgActive t.cfg = true → cfgSlotted t.cfg = true → cfgMode t.cfg = 0 → cfgRp t.cfg = 0 → n.isHeadOf span = true →
        n.inFlight span (cfgCtx t.cfg) = some (step, fire) → n.spanEntryOf span = some e → t.epoch = fld e 111 80 → t.step = step →
        t.nextK = 0 → t.used = 0 → t.moved = [] → ∀ k, t.arrive = [(1, k)] →
          (fire + cfgRo t.cfg ≤ n.tb1 + cfgDelta t.cfg →
            (k = cfgParts t.cfg → RunsOn .hub (.slotDecision slot) s (fun m =>
              (m.htalOf slot).used = 1 ∧ (m.htalOf slot).nextK = 1 ∧ m.objs = n.objs ∧
              ∀ q, q < 64 → n.memberMatch q span t.epoch = true →
                QueuedC2 m q (releaseMsg t slot (fire + cfgRo t.cfg) everyUnit 1 1 0 0 0) n.tb1)) ∧
            (k ≠ cfgParts t.cfg → n.strictSpan span = true → RunsOn .hub (.slotDecision slot) s (fun m =>
              n.recorded m 0x45 ∧ (m.htalOf slot).used = 0))) ∧
          (n.tb1 + cfgDelta t.cfg < fire + cfgRo t.cfg → RunsOn .hub (.slotDecision slot) s (fun m =>
            m.htalOf slot = t ∧ m.links = n.links ∧ m.objs = n.objs))) ∧
      (cfgActive t.cfg = true → cfgSlotted t.cfg = false → cfgMode t.cfg = 1 → n.lead.leading = true → t.frozen = false → t.dirty = true →
        (n.tb1 % 8 = 0 → (∀ u ∈ t.units, 1 ≤ u.n ∧ u.k ≤ 65535) → (∀ w ∈ t.waiters, w.k ≤ 65535 ∧ w.gone = none) →
          let k := min (t.units.map (·.n)).sum t.waiters.length
          RunsOn .hub (.immediateDecision slot) s (fun m =>
            (m.htalOf slot).waiters = t.waiters.drop k ∧ (m.htalOf slot).rels = t.rels + k ∧ (m.htalOf slot).dirty = false)) ∧
        (n.tb1 % 8 ≠ 0 → exec (.immediateDecision slot) s = .next { s with hub := n })) ∧
      (t.dirty = false → exec (.immediateDecision slot) s = .next { s with hub := n })) ∧
    (∀ p a, p < 68 → n.peek p (isTallyKind 5) = some a →
      let t := n.htalOf (fld a.head 69 54)
      let head := n.isHeadOf a.span
      let takes := 64 ≤ p ∧ cfgActive t.cfg = true ∧ cfgSpan t.cfg = a.span ∧ (p < 66 → n.spanMatch p a.span a.epoch = true) ∧
        t.stale (fld a.head 53 6) a.epoch = false ∧ (head = true → 66 ≤ p ∧ n.lead.leading = false ∧ cfgMode t.cfg ≠ 0)
      let tick := fld (a.cell 1) 127 64
      let leave := nextMul 8 (tick - cfgDelta t.cfg + 40)
      (takes → head = false → n.firstCopy (releaseKey a) = true → RunsOn .hub (.tallyDownForward p) s (fun m =>
        m.firstCopy (releaseKey a) = false ∧
        (∀ q ∈ n.releasePorts a, q < 64 → QueuedC2 m q a (a.first + 49)) ∧
        (p < 66 → ∀ q, q = 66 ∨ q = 67 → n.lst q = 6 → QueuedC2 m q a (a.first + 49)) ∧
        (66 ≤ p → ∀ q, q = 66 ∨ q = 67 → q ≠ p → m.linkOf q = n.linkOf q))) ∧
      (takes → head = true → n.firstCopy (releaseKey a) = true →
        (tick = 0 → RunsOn .hub (.tallyDownForward p) s (fun m => ∀ q ∈ n.releasePorts a, q < 64 → QueuedC2 m q a n.tb1)) ∧
        (tick ≠ 0 → n.tb1 + 8 ≤ leave → RunsOn .hub (.tallyDownForward p) s (fun m =>
          m.objs = n.objs ∧ ∀ q ∈ n.releasePorts a, q < 64 → QueuedC2 m q a leave)) ∧
        (tick ≠ 0 → leave < n.tb1 + 8 → RunsOn .hub (.tallyDownForward p) s (fun m =>
          n.recorded m 0x34 ∧ ∀ q, q ≠ p → m.linkOf q = n.linkOf q))) ∧
      (takes → n.firstCopy (releaseKey a) = false → RunsOn .hub (.tallyDownForward p) s (fun m =>
        m.objs = n.objs ∧ ∀ q, q ≠ p → m.linkOf q = n.linkOf q)) ∧
      (¬takes → RunsOn .hub (.tallyDownForward p) s (fun m =>
        m.rd Ob.htly_messagesDropped = (n.rd Ob.htly_messagesDropped + 1) % 2 ^ 64 ∧ ∀ q, q ≠ p → m.linkOf q = n.linkOf q)))

/-- The fields of an element state of a SUM (12 R325). -/
def sumFields (e : Elem) : Int × Nat × Nat × Nat × Nat × Nat := (e.a, e.nan, e.nanDie, e.pinf, e.ninf, e.z)

/-- The counts of an element state are within their fields (12 R325). -/
def ElemOk (e : Elem) : Prop := e.nan ≤ 65535 ∧ e.pinf ≤ 4095 ∧ e.ninf ≤ 4095 ∧ e.z ≤ 2 ∧ e.nanDie ≤ 0xFFFFF

/-- The state after contributions of a format, each a die and a pattern, in the order of the list (12 R327). -/
def sumOf (f : Nat) (l : List (Nat × Nat)) : Elem := l.foldl (fun e x => Elem.add 0 f x.1 x.2 e) {}

/-- Adding and combining element states of a SUM follow the definition, do not depend on the order, and A never overflows (R327). -/
def Obligations.ClearingStatesDoNotDependOnOrder : Prop :=
  (∀ (f die x : Nat) (e : Elem), ElemOk e → die ≤ 0xFFFFF →
    let r := Elem.add 0 f die x e
    (valOf f x = .nan → sumFields r = (e.a, min 65535 (e.nan + 1), min e.nanDie die, e.pinf, e.ninf, e.z)) ∧
    (valOf f x = .inf false → sumFields r = (e.a, e.nan, e.nanDie, min 4095 (e.pinf + 1), e.ninf, e.z)) ∧
    (valOf f x = .inf true → sumFields r = (e.a, e.nan, e.nanDie, e.pinf, min 4095 (e.ninf + 1), e.z)) ∧
    (∀ neg v, valOf f x = .fin neg v →
      let zx := if neg = true ∧ v = 0 then 1 else 2
      sumFields r = (e.a + v, e.nan, e.nanDie, e.pinf, e.ninf, if e.z = 0 then zx else if e.z = 1 ∧ zx = 1 then 1 else 2))) ∧
  (∀ (f : Nat) (a b : Elem), sumFields (a.combine 0 f b) =
    (a.a + b.a, min 65535 (a.nan + b.nan), min a.nanDie b.nanDie, min 4095 (a.pinf + b.pinf), min 4095 (a.ninf + b.ninf),
      if 0 < min a.z b.z then max a.z b.z else a.z + b.z)) ∧
  (∀ (f : Nat) (a b c : Elem), sumFields (a.combine 0 f b) = sumFields (b.combine 0 f a) ∧
    sumFields ((a.combine 0 f b).combine 0 f c) = sumFields (a.combine 0 f (b.combine 0 f c))) ∧
  (∀ (f : Nat) (l₁ l₂ : List (Nat × Nat)), l₁.Perm l₂ → sumFields (sumOf f l₁) = sumFields (sumOf f l₂)) ∧
  (∀ (f : Nat) (l₁ l₂ : List (Nat × Nat)), (∀ x ∈ l₁ ++ l₂, x.1 ≤ 0xFFFFF) →
    sumFields (sumOf f (l₁ ++ l₂)) = sumFields ((sumOf f l₁).combine 0 f (sumOf f l₂))) ∧
  ∀ (f : Nat) (l : List (Nat × Nat)), f ≤ 6 → l.length ≤ 2 ^ 42 →
    -(2 ^ 319 : Int) ≤ (sumOf f l).a ∧ (sumOf f l).a < 2 ^ 319

/-- An element state as a SUM holds it (12 R325). -/
def SumState (e : Elem) : Prop :=
  ElemOk e ∧ (e.nan = 0 → e.nanDie = 0xFFFFF) ∧ -(2 ^ 319 : Int) ≤ e.a ∧ e.a < 2 ^ 319

/-- The element states that a part of a message carries (12 R330 to R332). -/
def chunkElems (c : Chunk) : List Elem :=
  if c.form = 2 then c.cells.flatMap compactCell
  else [fullElem 0 (c.cells.getD 0 0 * 2 ^ 256 + c.cells.getD 1 0 * 2 ^ 128 + c.cells.getD 2 0)]

/-- The compact, paired and full forms of a SUM give back the states they carry, and a value the output format holds is delivered
unchanged (12 Clearing: exact global reductions, R326, R331, R332, R333, R340, R341). -/
def Obligations.ClearingFormsCarryStatesAndExactValues : Prop :=
  (∀ (k who : Nat) (x : Elem), SumState x → (chunkElems (sumSingle k x who)).map sumFields = [sumFields x]) ∧
  (∀ (k who : Nat) (x y : Elem), SumState x → SumState y → pairOk x y = true →
    (chunkElems (sumPair k x y who)).map sumFields = [sumFields x, sumFields y]) ∧
  (∀ l : List (Nat × Elem × Nat), (∀ x ∈ l, SumState x.2.1) →
    (packSum l).flatMap (fun c => (chunkElems c).map sumFields) = l.map (fun x => sumFields x.2.1)) ∧
  ∀ (d die x : Nat), dOp d = 0 → dScale d = 0 → dMean d = false → dNan d = 0 →
    (dIn d ≤ 2 ∧ dOut d = dIn d) ∨ (dIn d = 6 ∧ dOut d = 3) → x < 2 ^ inWidth (dIn d) →
    (valOf (dIn d) x = .nan → elemResult d (Elem.single 0 (dIn d) die x) = (nanPat (dOut d), 8, false)) ∧
    (valOf (dIn d) x ≠ .nan → elemResult d (Elem.single 0 (dIn d) die x) = (x, 0, false))

/-- A CLEAR message of a chunk waits at a port for a tick. -/
def ClearQueued (m : Node) (p : Nat) (x : Msg) (t : Nat) : Prop := ∃ q ∈ (m.linkOf p).c2, q.msg = x ∧ q.ready = t

/-- A TSU adds a contribution block exactly or refuses it, an issue sends its partial at E, and a whole result becomes present
once or times out (12 Clearing: exact global reductions, R319, R321, R322, R323, R324, R333, R345, R346, R347, R352, R353). -/
def Obligations.ContributionsFreezeAndResultsBecomePresent : Prop :=
  (∀ (old new : List (Nat × Nat)) (k : Nat) (e : Nat × Nat), old.find? (fun x => x.1 == k) = some e →
    (firstVals old new).find? (fun x => x.1 == k) = some e) ∧
  (∀ (n : Node) (c h d e : Nat), n.isHub = false → c < 64 → h < 16 → d < 256 →
    let w := n.desc d
    let states := fun (l : List (Nat × Elem)) => (upTo (dLen w)).map (fun k => (tblGet {} l k).filled (dOp w) (dIn w) n.ident)
    let i : Issue := { ctx := c, hnd := h, desc := d, descW := w, step := (n.ctxOf c).step, tick := e }
    ∀ l : List (Nat × Elem), (n.dieAcc c h = none ∧ l = []) ∨ (∃ a, n.dieAcc c h = some a ∧ a.desc = d ∧ l = a.elems) →
      (dNan w ≠ 2 ∨ (∀ x ∈ states l, x.nan = 0) →
        let m := n.clearAt c h d e 1
        m.dieAcc c h = none ∧ m.clr.issues = i :: n.clr.issues ∧ m.ctxs = n.ctxs ∧
        ∀ p, p < 2 → n.lst p = 6 → ∀ k ∈ partialChunks w false (n.compactOn p) (states l),
          ClearQueued m p (clearMsg n.span n.epoch 1 c h (dEng w) (n.ctxOf c).step k) (nextMul 8 (e + 8))) ∧
      (dNan w = 2 → (∃ x ∈ states l, x.nan ≠ 0) →
        let m := n.clearAt c h d e 1
        m.dieAcc c h = none ∧ n.recorded m 0x54 ∧ (∀ p, (m.linkOf p).c2 = (n.linkOf p).c2) ∧ (m.ctxOf c).waveSent = true)) ∧
  (∀ (n : Node) (c h d e : Nat) (a : Acc), n.isHub = false → c < 64 → h < 16 → d < 256 → n.dieAcc c h = some a → a.desc ≠ d → n.rd Ob.det_strict ≠ 1 →
    dNan (n.desc d) ≠ 2 → let m := n.clearAt c h d e 1
      m.dieAcc c h = none ∧ n.recorded m 0x53 ∧ m.rd Ob.clr_contributionsRefused = (n.rd Ob.clr_contributionsRefused + 1) % 2 ^ 64) ∧
  ∀ (s : State), s.tsu.isHub = false →
    let n := s.tsu
    (∀ d v, d < 256 → v < 2 ^ 256 → n.rd Ob.det_inputMode ≠ 1 →
      (descOk (n.kind == .edge) v = true → n.descUsed d = false → RunsOn .tsu (.descriptorWrite d v) s (fun m =>
        m.answered 0 ∧ m.desc d = v ∧ m.rd (Ob.dsc_valid d) = 1 ∧ ∀ q, q ≠ d → q < 256 → m.desc q = n.desc q)) ∧
      (descOk (n.kind == .edge) v = false ∨ n.descUsed d = true → RunsOn .tsu (.descriptorWrite d v) s (fun m =>
        m.answered 3 ∧ m.desc d = n.desc d ∧ m.rd (Ob.dsc_valid d) = n.rd (Ob.dsc_valid d)))) ∧
    (∀ c h block, c < n.ctxCount → h < 16 → n.fnEnabled 3 = true →
      let d := block.headD 0
      let w := n.desc d
      let first := leVal ((block.drop 2).take 2)
      let st := n.contribStatus c h block
      (n.blockLength block = true → RunsOn .tsu (.contributionWrite c h block) s (fun m =>
        m.answered 4 ∧ m.clr = n.clr ∧ m.rd (Ob.contrib_status c h) = n.rd (Ob.contrib_status c h))) ∧
      (n.blockLength block = false → st ≠ 0 → RunsOn .tsu (.contributionWrite c h block) s (fun m =>
        m.answered 3 ∧ m.rd (Ob.contrib_status c h) = st ∧ (n.rd Ob.det_strict ≠ 1 ∨ n.fired c = true → n.recorded m 0x53) ∧ (n.rd Ob.det_strict ≠ 1 → m.clr = n.clr) ∧
        (n.fired c = true → n.rd Ob.det_strict ≠ 1 → bit (m.rd (Ob.tag_taintReasons c)) 8 = true) ∧
        (n.fired c = true → n.rd Ob.det_strict = 1 → (m.ctxOf c).waveSent = true ∧ (m.ctxOf c).cause ≠ 0))) ∧
      (n.blockLength block = false → st = 0 → RunsOn .tsu (.contributionWrite c h block) s (fun m =>
        m.answered 0 ∧ m.rd (Ob.contrib_status c h) = 0 ∧
        (∃ a, m.dieAcc c h = some a ∧ a.blocks = ((n.dieAcc c h).map (·.blocks)).getD 0 + 1 ∧
          ∀ k, tblGet ({} : Elem) a.elems k =
            if first ≤ k ∧ k < first + (blockPats (dIn w) block).length then
              Elem.add (dOp w) (dIn w) n.ident ((blockPats (dIn w) block).getD (k - first) 0) (accElem (n.dieAcc c h) k)
            else accElem (n.dieAcc c h) k) ∧
        (∀ c2 h2, (c2, h2) ≠ (c, h) → m.dieAcc c2 h2 = n.dieAcc c2 h2) ∧ m.clr.issues = n.clr.issues ∧ m.ctxs = n.ctxs))) ∧
    (let n := s.tsu.escrowFirst
      ∀ p a, p < 2 → n.peek p isResult = some a →
      let same := fun (i : Issue) => i.ctx == clearCtx a && i.hnd == clearHnd a && i.step % 2 ^ 19 == clearStep a
      (n.clr.issues.find? same = none ∨ (∃ i, n.clr.issues.find? same = some i ∧ i.dropped = true) →
        RunsOn .tsu (.resultReceived p) s (fun m =>
          m.clr = n.clr ∧ m.rd Ob.clr_messagesDropped = (n.rd Ob.clr_messagesDropped + 1) % 2 ^ 64)) ∧
      (∀ i, n.clr.issues.find? same = some i → i.dropped = false → i.present = true → RunsOn .tsu (.resultReceived p) s (fun m =>
        m.clr = n.clr ∧ m.objs = n.objs)) ∧
      ∀ i, n.clr.issues.find? same = some i → i.live = true →
        (∀ x, n.clr.issues.find? (fun x => x.fills (dBank i.descW) && !(x.ctx == i.ctx && x.hnd == i.hnd)) = some x →
          fld a.head 79 76 = 2 → RunsOn .tsu (.resultReceived p) s (fun m => n.recorded m 0x55 ∧
            (n.fired i.ctx = true → (m.ctxOf i.ctx).waveSent = true ∧ (m.ctxOf i.ctx).cause ≠ 0))) ∧
        (n.clr.issues.find? (fun x => x.fills (dBank i.descW) && !(x.ctx == i.ctx && x.hnd == i.hnd)) = none →
          ((i.take p a).whole = false → RunsOn .tsu (.resultReceived p) s (fun m =>
            m.clr.banks = n.clr.banks ∧ m.clr.issues = changeFirst same (fun _ => i.take p a) n.clr.issues ∧ m.objs = n.objs)) ∧
          ((i.take p a).whole = true → RunsOn .tsu (.resultReceived p) s (fun m =>
            tblGet ({} : Bank) m.clr.banks (dBank i.descW) = { ctx := i.ctx, hnd := i.hnd, desc := i.desc, descW := i.descW, step := i.step
                                                               vals := (i.take p a).vals, cens := (i.take p a).cens } ∧
            (∀ b, b ≠ dBank i.descW → tblGet ({} : Bank) m.clr.banks b = tblGet {} n.clr.banks b) ∧
            bit (m.rd Ob.irq_pending) (0x120 + dBank i.descW) = true ∧
            m.rd Ob.clr_resultsPresent = (n.rd Ob.clr_resultsPresent + 1) % 2 ^ 64)))) ∧
    (∀ c h i, c < n.ctxCount → h < 16 → n.issueOf c h = some i →
      (i.live = true → i.tick + dTimeout i.descW ≤ n.tb1 → RunsOn .tsu (.clearingResultTimeout c h) s (fun m =>
        n.recorded m 0x50 ∧ m.rd Ob.clr_resultTimeouts = (n.rd Ob.clr_resultTimeouts + 1) % 2 ^ 64 ∧
        (∃ j, m.issueOf c h = some j ∧ j.dropped = true ∧ j.vals = [] ∧ j.present = false) ∧
        (n.fired c = true → (m.ctxOf c).waveSent = true ∧ (m.ctxOf c).cause ≠ 0))) ∧
      (i.live = false ∨ n.tb1 < i.tick + dTimeout i.descW → exec (.clearingResultTimeout c h) s = .next s)) ∧
    (∀ x k, x / 16 < n.ctxCount → RunsOn .tsu (.clearingStorageError .tsu x k) s (fun m => n.recorded m 0x56 ∧
      (n.fired (x / 16) = true → (m.ctxOf (x / 16)).waveSent = true ∧ (m.ctxOf (x / 16)).cause ≠ 0)))

/-- An engine combines the partials of its instance, sends complete elements up, or rounds them once at the head and ends;
results go down once (12 Clearing: exact global reductions, R319, R334, R335, R336, R337, R338, R339, R343, R355, R541). -/
def Obligations.EnginesCombineRoundOnceAndReport : Prop :=
  (∀ (n : Node) (span ctx k b : Nat), n.headFor span ctx = some k → b < 2 ^ 19 →
    let s := fieldAt (n.rd (Ob.head_stepInFlight k)) 0 8
    b ≤ s → (n.endStepNo span ctx b).1 ≤ s ∧ s < (n.endStepNo span ctx b).1 + 2 ^ 19 ∧ (n.endStepNo span ctx b).1 % 2 ^ 19 = b) ∧
  (∀ (n : Node) (span ctx b : Nat), n.headFor span ctx = none → n.endStepNo span ctx b = (b, n)) ∧
  ∀ (s : State), Works s .hub → s.hub.isHub = true →
    let n := s.hub
    (∀ p a, p < 68 →
      let n := s.hub.partialsBelow p;
      n.peek p (isClearKind 1) = some a →
      let e := clearEng a
      let cfg := n.rd (Ob.eng_configuration e)
      let g := n.engOf e
      let d := n.engDesc e
      let owned := engActive cfg = true ∧ engSpan cfg = a.span ∧ engCtx cfg = clearCtx a ∧ engHnd cfg = clearHnd a
      (¬owned → RunsOn .hub (.partialReceived p) s (fun m => n.recorded m 0x52 ∧ m.engines = n.engines)) ∧
      (owned → 64 ≤ p → RunsOn .hub (.partialReceived p) s (fun m => n.recorded m 0x57 ∧ m.engines = n.engines)) ∧
      (owned → p < 64 → g.live = true → g.step = clearStep a →
        (g.ins.find? (fun i => i.port == p && !i.gone) = none → RunsOn .hub (.partialReceived p) s (fun m =>
          m.engines = n.engines ∧ m.rd Ob.clr_messagesDropped = (n.rd Ob.clr_messagesDropped + 1) % 2 ^ 64)) ∧
        ∀ i, g.ins.find? (fun i => i.port == p && !i.gone) = some i → clearForm a ≠ 0 →
          (clearFirst a ≠ i.nxt → RunsOn .hub (.partialReceived p) s (fun m => n.recorded m 0x57 ∧ m.engines = n.engines)) ∧
          (clearFirst a = i.nxt → clearFirst a + clearCnt a ≤ dLen d → formOk n.level (dOp d) (clearForm a) = true →
            let l := partialElems d (n.rd (Ob.link_partnerIdentity p)) a
            RunsOn .hub (.partialReceived p) s (fun m =>
              (∀ k, let x : EngEl := tblGet {} g.elems k; let y : EngEl := tblGet {} (m.engOf e).elems k
                if clearFirst a ≤ k ∧ k < clearFirst a + l.length then
                  y.st = x.st.combine (dOp d) (dIn d) (l.getD (k - clearFirst a) {}) ∧ y.contrib = x.contrib + fld a.head 38 19
                else y.st = x.st ∧ y.contrib = x.contrib) ∧
              (∀ j ∈ (m.engOf e).ins, j.port = p → j.nxt = clearFirst a + l.length) ∧ m.objs = n.objs ∧
              ∀ q, q ≠ e → m.engOf q = n.engOf q))) ∧
      (owned → p < 64 → g.live = true → g.step ≠ clearStep a → n.tb1 < g.firstAt + 16384 → RunsOn .hub (.partialReceived p) s (fun m =>
        m.engines = n.engines ∧ m.rd Ob.clr_messagesDropped = (n.rd Ob.clr_messagesDropped + 1) % 2 ^ 64)) ∧
      (owned → p < 64 → (g.live = false ∨ (g.step ≠ clearStep a ∧ g.firstAt + 16384 ≤ n.tb1)) → RunsOn .hub (.partialReceived p) s (fun m =>
        (m.engOf e).live = true ∧ (m.engOf e).step = clearStep a ∧ (m.engOf e).firstAt = n.tb1 ∧
        m.rd Ob.clr_issues = (n.rd Ob.clr_issues + 1) % 2 ^ 64 ∧
        (m.engOf e).ins.map (·.port) = n.expectedSet a.span a.epoch (clearCtx a)))) ∧
    (let n := s.hub.partialsFirst
      ∀ e, e < 16 →
      let cfg := n.rd (Ob.eng_configuration e)
      let g := n.engOf e
      let d := n.engDesc e
      let span := engSpan cfg
      (∀ t l, g.live = true → g.dueGroups n.tb1 = [(t, l)] →
        (n.isHeadOf span = false → n.memberMatch (n.uplink span g.epoch) span g.epoch = true → RunsOn .hub (.elementSendUp e) s (fun m =>
          (m.engOf e).sent = g.sent + l.length ∧ (m.engOf e).elems = g.elems ∧
          ((m.engOf e).live = true ↔ g.sent + l.length < dLen d) ∧
          (∀ c ∈ packOver (n.compactOn (n.uplink span g.epoch)) (dOp d) (l.map (fun x => (x.1, x.2.st, x.2.contrib))),
            ClearQueued m (n.uplink span g.epoch) (clearMsg span g.epoch 1 (engCtx cfg) (engHnd cfg) e g.step c) t) ∧
          (g.alt = false → n.memberMatch (129 - n.uplink span g.epoch) span g.epoch = true →
            ClearQueued m (129 - n.uplink span g.epoch) (clearMsg span g.epoch 1 (engCtx cfg) (engHnd cfg) e g.step
              { form := 0, who := 0, first := 0, cnt := 0, cells := [0] }) t))) ∧
        (n.isHeadOf span = true → g.short = false → l ≠ [] →
          ((∀ x ∈ l, x.2.contrib = dExp d) → RunsOn .hub (.headRoundElement e) s (fun m =>
            let res := l.map (fun x => (x.1, elemResult d x.2.st, x.2.st))
            (m.engOf e).sent = g.sent + l.length ∧ (m.engOf e).short = false ∧ (m.engOf e).elems = g.elems ∧
            (m.engOf e).rounded = g.rounded + (res.filter (fun r => r.2.1.2.2)).length ∧
            (m.engOf e).cens = g.cens ++ (res.filter (fun r => r.2.2.nan != 0 || r.2.1.2.1 != 0)).map (fun r => censusEntry r.1 r.2.2 r.2.1.2.1) ∧
            ∀ p, p < 64 → n.memberMatch p span g.epoch = true → span < 2 ^ 16 → g.epoch < 2 ^ 32 → dOut d ≤ 3 →
              ∃ q ∈ (m.linkOf p).c2, q.ready = t ∧ isClearKind 2 q.msg = true ∧ clearFirst q.msg = (l.headD (0, {})).1 % 4096 ∧
                cellVal q.msg (outWidth (dOut d)) 0 = (elemResult d (l.headD (0, {})).2.st).1 % 2 ^ outWidth (dOut d))) ∧
          ((l.headD (0, {})).2.contrib ≠ dExp d → RunsOn .hub (.headRoundElement e) s (fun m =>
            n.recorded m 0x51 ∧ (m.engOf e).short = true ∧ (m.engOf e).sent = g.sent ∧ m.links = n.links)))) ∧
      (g.live = true → g.short = false → n.isHeadOf span = true →
        (n.headFor span (engCtx cfg) = none → dLen d ≤ g.sent → RunsOn .hub (.headSendEnd e) s (fun m =>
          (m.engOf e).live = false ∧ m.rd Ob.clr_resultsPresent = (n.rd Ob.clr_resultsPresent + 1) % 2 ^ 64 ∧
          m.rd (Ob.eng_completed e) = (n.rd (Ob.eng_completed e) + 1) % 2 ^ 64 ∧
          ∀ p, p < 64 → n.memberMatch p span g.epoch = true → span < 2 ^ 16 → g.epoch < 2 ^ 32 →
            ClearQueued m p (clearMsg span g.epoch 4 (engCtx cfg) (engHnd cfg) e g.step
              { form := 0, who := 0, first := 0, cnt := 0
                cells := [put 127 80 g.step + put 79 67 g.cens.length + put 66 54 g.rounded + put 53 34 g.lastContrib] }) n.tb1)) ∧
        (g.sent < dLen d → exec (.headSendEnd e) s = .next { s with hub := n }))) ∧
    (∀ e, e < 16 →
      let cfg := n.rd (Ob.eng_configuration e)
      let g := n.engOf e
      (∀ v, engActive (engMask v) = false → RunsOn .hub (.engineConfigure e v) s (fun m =>
        m.answered 0 ∧ m.rd (Ob.eng_configuration e) = engMask v ∧ m.engOf e = {} ∧ ∀ q, q ≠ e → m.engOf q = n.engOf q)) ∧
      (∀ v, engActive (engMask v) = true → n.fnEnabled 2 = true →
        (engActive cfg = false → (n.spanEntryOf (engSpan (engMask v))).isSome = true →
          (descOk false (bits (engMask v) 64 256) = true → RunsOn .hub (.engineConfigure e v) s (fun m =>
            m.answered 0 ∧ m.rd (Ob.eng_configuration e) = engMask v ∧ m.engOf e = g)) ∧
          (descOk false (bits (engMask v) 64 256) = false → RunsOn .hub (.engineConfigure e v) s (fun m =>
            m.answered 3 ∧ m.rd (Ob.eng_configuration e) = cfg ∧ m.engines = n.engines))) ∧
        (engActive cfg = true ∨ n.spanEntryOf (engSpan (engMask v)) = none → RunsOn .hub (.engineConfigure e v) s (fun m =>
          m.answered 3 ∧ m.rd (Ob.eng_configuration e) = cfg ∧ m.engines = n.engines))) ∧
      (∀ k, RunsOn .hub (.clearingStorageError .hub e k) s (fun m => n.recorded m 0x56 ∧ m.engines = n.engines))) ∧
    (∀ p a, p < 68 → n.peek p isResult = some a →
      (p = 64 ∨ p = 65 → n.fwd.any (fun e => e.1 == resultKey a) = false → RunsOn .hub (.resultForward p) s (fun m =>
        m.fwd.any (fun e => e.1 == resultKey a) = true ∧
        (∀ q, q < 64 → n.memberMatch q a.span a.epoch = true → ClearQueued m q a (nextMul 8 (a.first + 16))) ∧
        ∀ q, q = 66 ∨ q = 67 → m.linkOf q = n.linkOf q)) ∧
      ((p ≠ 64 ∧ p ≠ 65) ∨ n.fwd.any (fun e => e.1 == resultKey a) = true → RunsOn .hub (.resultForward p) s (fun m =>
        m.rd Ob.clr_messagesDropped = (n.rd Ob.clr_messagesDropped + 1) % 2 ^ 64 ∧ m.fwd = n.fwd ∧ ∀ q, q ≠ p → m.linkOf q = n.linkOf q)))

/-- Strict moves only with no step held and a fit path, a changed key input starts a recomputation, and the key becomes the hash
of its record (13 Strict mode, the Mint and replay, R357, R361, R363, R377). -/
def Obligations.StrictAndTheKeyFollowTheirInputs : Prop :=
  ∀ (s : State), s.tsu.isHub = false →
    let n := s.tsu
    (∀ v, n.rd Ob.det_inputMode ≠ 1 →
      let ok := v ≤ 1 ∧ (∀ c, c < n.ctxCount → n.stepHeld c = false) ∧
        (v = 1 → ∀ p, p < 2 → n.lst p = 6 → bit (n.rd (Ob.link_operatingFeatures p)) 2 = true)
      (ok → RunsOn .tsu (.strictWrite v) s (fun m =>
        m.answered 0 ∧ m.rd Ob.det_strict = v ∧ (n.rd Ob.det_strict ≠ v → m.rd Ob.det_keyState = 1) ∧
        (n.rd Ob.det_strict = v → m.rd Ob.det_keyState = n.rd Ob.det_keyState) ∧ m.ctxs = n.ctxs)) ∧
      (¬ok → RunsOn .tsu (.strictWrite v) s (fun m =>
        m.answered 3 ∧ m.rd Ob.det_strict = n.rd Ob.det_strict ∧ m.rd Ob.det_keyState = n.rd Ob.det_keyState))) ∧
    (∀ v, n.rd Ob.det_inputMode = 1 → RunsOn .tsu (.strictWrite v) s (fun m =>
      m.answered 8 ∧ m.rd Ob.det_strict = n.rd Ob.det_strict ∧ m.rd Ob.det_inputsSuppressed = (n.rd Ob.det_inputsSuppressed + 1) % 2 ^ 64)) ∧
    (∀ b,
      (b < 7 → keyPart n.keyRecord b ≠ keyPart (n.rd Ob.det_keyRecord) b → RunsOn .tsu (.keyRecompute b) s (fun m =>
        m.rd Ob.det_keyState = 1 ∧ m.rd Ob.det_conformanceKey = n.rd Ob.det_conformanceKey ∧ m.rd Ob.det_keyRecord = n.rd Ob.det_keyRecord)) ∧
      (7 ≤ b ∨ keyPart n.keyRecord b = keyPart (n.rd Ob.det_keyRecord) b → exec (.keyRecompute b) s = .next s)) ∧
    (n.rd Ob.det_keyState = 1 → RunsOn .tsu .keyRecomputeDone s (fun m =>
      m.rd Ob.det_keyRecord = n.keyRecord % 2 ^ 5120 ∧ m.rd Ob.det_conformanceKey = blake3 (leBytes 640 n.keyRecord) % 2 ^ 256 ∧
      m.rd Ob.det_keyState = 0 ∧ m.rd Ob.det_keyChanges = (n.rd Ob.det_keyChanges + 1) % 2 ^ 64 ∧ n.recorded m 0x60 ∧
      m.key.old = n.rd Ob.det_conformanceKey ∧ m.jrnl.nxt = (if n.member then (n.jrnl.nxt + 1) % 2 ^ 32 else n.jrnl.nxt))) ∧
    (n.rd Ob.det_keyState ≠ 1 → exec .keyRecomputeDone s = .next s) ∧
    (∀ o,
      (isJournaled o = true → n.rd Ob.det_inputMode = 1 → RunsOn .tsu (.journaledInputSuppress o) s (fun m =>
        m.answered 8 ∧ m.rd Ob.det_inputsSuppressed = (n.rd Ob.det_inputsSuppressed + 1) % 2 ^ 64 ∧ m.jrnl = n.jrnl)) ∧
      (isJournaled o = false ∨ n.rd Ob.det_inputMode ≠ 1 → exec (.journaledInputSuppress o) s = .next s))

/-- A segment of an open gate is hashed or refused, chaining values join to the entry's root, and the tag is the hash of the
step's preimage (13 Strict mode, the Mint and replay, R365, R366, R367, R368, R370). -/
def Obligations.IngressIsHashedIntoTheTag : Prop :=
  (∀ full taint, shortTag full taint % 2 = (if taint = 0 then 0 else 1) ∧ shortTag full taint / 2 = full % 2 ^ 64 / 2) ∧
  ∀ (s : State), s.tsu.isHub = false →
    let n := s.tsu
    (∀ r e i ex tick data, n.hasRegion r = true → r < 1024 →
      let w := n.manifest e
      let run := n.runAt r (mKind w) tick
      let why := n.segmentCase e i ex run
      let len := min (i + 2 ^ ex) (mChunks w) - i
      (n.inputLive r = true →
        (∀ x, run = some x → why = 0 → data.length = segBytes w i len → RunsOn .tsu (.mintSegment r e i ex tick data) s (fun m =>
          m.mint.lanes = n.mint.lanes ++ [(r, { ctx := x.1, entry := e, step := x.2.1, chunk := i, len := len, ex := ex
                                                cv := cvNat (b3Tree 64 i (i == 0 && len == mChunks w) data) })] ∧
          (x.1, e, x.2.1) ∈ m.mint.touched ∧ m.mint.nodes = n.mint.nodes ∧
          m.rd Ob.mint_segmentsAccepted = (n.rd Ob.mint_segmentsAccepted + 1) % 2 ^ 64 ∧
          m.rd Ob.mint_bytesHashed = (n.rd Ob.mint_bytesHashed + data.length) % 2 ^ 64)) ∧
        (why ≠ 0 → RunsOn .tsu (.mintSegment r e i ex tick data) s (fun m =>
          m.rd Ob.mint_segmentsRefused = (n.rd Ob.mint_segmentsRefused + 1) % 2 ^ 64 ∧ m.mint.lanes = n.mint.lanes ∧
          m.mint.nodes = n.mint.nodes ∧ n.recorded m 0x63 ∧
          (∀ x, run = some x → n.mint.told.contains (r, x.2.2.1) = true → m.rd Ob.flt_recordsMade = n.rd Ob.flt_recordsMade) ∧
          (∀ x, run = some x → n.mint.told.contains (r, x.2.2.1) = false →
            m.rd Ob.flt_recordsMade = (n.rd Ob.flt_recordsMade + 1) % 2 ^ 64 ∧ (r, x.2.2.1) ∈ m.mint.told)))) ∧
      (n.inputLive r = false → exec (.mintSegment r e i ex tick data) s = .next s)) ∧
    (∀ r, n.hasRegion r = true →
      (n.mint.lanes.find? (fun l => l.1 == r) = none → exec (.chainingValuePosted r) s = .next s) ∧
      ∀ l, n.mint.lanes.find? (fun l => l.1 == r) = some l →
        let x := l.2
        let mine := fun (y : MNode) => y.ctx == x.ctx && y.entry == x.entry && y.step == x.step
        let twin := (n.mint.nodes ++ n.mint.roots).find? (fun y =>
          y.ctx == x.ctx && y.entry == x.entry && y.step == x.step && y.chunk == x.chunk && y.len == x.len)
        let total := mChunks (n.manifest x.entry)
        (∀ y, twin = some y → RunsOn .tsu (.chainingValuePosted r) s (fun m =>
          m.mint.nodes = n.mint.nodes ∧ m.mint.roots = n.mint.roots ∧ m.mint.lanes = n.mint.lanes.erase l ∧
          (y.cv = x.cv → m.mint.bad = n.mint.bad ∧ m.objs = n.objs) ∧
          (y.cv ≠ x.cv → n.recorded m 0x64 ∧ (x.ctx, x.entry, x.step) ∈ m.mint.bad))) ∧
        (twin = none → 16384 ≤ n.mint.nodes.length → RunsOn .tsu (.chainingValuePosted r) s (fun m =>
          m.mint.nodes = n.mint.nodes ∧ m.mint.roots = n.mint.roots ∧
          m.rd Ob.mint_segmentsRefused = (n.rd Ob.mint_segmentsRefused + 1) % 2 ^ 64)) ∧
        (twin = none → n.mint.nodes.length < 16384 →
          (n.mint.nodes.filter mine = [] →
            (x.chunk = 0 → x.len = total → RunsOn .tsu (.chainingValuePosted r) s (fun m =>
              m.mint.roots = n.mint.roots ++ [x] ∧ m.mint.nodes = n.mint.nodes ∧ m.objs = n.objs)) ∧
            (¬(x.chunk = 0 ∧ x.len = total) → RunsOn .tsu (.chainingValuePosted r) s (fun m =>
              m.mint.roots = n.mint.roots ∧ m.mint.nodes = n.mint.nodes ++ [x] ∧ m.objs = n.objs))) ∧
          (∀ y z, n.mint.nodes.filter mine = [y] → joinNodes total x y = none → joinNodes total y x = some z →
            z.chunk = 0 → z.len = total → RunsOn .tsu (.chainingValuePosted r) s (fun m =>
              m.mint.roots = n.mint.roots ++ [z] ∧ m.mint.nodes = n.mint.nodes.filter (fun v => !mine v) ∧ m.objs = n.objs)))) ∧
    (∀ c, c < n.ctxCount → (n.ctxOf c).oldTag = none →
      (((n.ctxOf c).tagDue && n.tagPoint c) = false → exec (.tagComplete c) s = .next s) ∧
      (((n.ctxOf c).tagDue && n.tagPoint c) = true → (n.ctxOf c).audit = none →
        let j := n.tagJob c
        let pre := n.preimage c j
        let full := blake3 (leBytes 144 pre)
        RunsOn .tsu (.tagComplete c) s (fun m =>
          m.rd (Ob.tag_tagRecord c) = (pre + putField 144 32 full +
            tagTail (shortTag full j.taint) j.taint (1 + 2 * ofB (!n.fired c))) % 2 ^ 1536 ∧
          bits (m.rd (Ob.tag_tagHistory c)) (128 * (j.step % 64)) 128 = (putField 0 8 j.step + putField 8 8 (shortTag full j.taint)) % 2 ^ 128 ∧
          bit (m.rd Ob.irq_pending) (0x0C0 + c) = true ∧ (m.ctxOf c).tagDue = false ∧ (n.fired c = false → n.recorded m 0x65) ∧
          (∀ x ∈ m.mint.nodes ++ m.mint.roots, ¬(x.ctx = c ∧ x.step = j.step)) ∧ ∀ d, d ≠ c → m.ctxOf d = n.ctxOf d)))

/-- A message waits in class C3 of a port. -/
def QueuedC3 (m : Node) (p : Nat) (x : Msg) : Prop := ∃ q ∈ (m.linkOf p).c3, q.msg = x

/-- A journaled input becomes one numbered record, sent until acknowledged or lost; hubs store, trail and replay as the rules say
(13 Strict mode, the Mint and replay, R371, R372, R373, R374, R375, R376, R377, R378, R379). -/
def Obligations.TheJournalKeepsAndReplaysRecords : Prop :=
  (∀ (s : State), s.tsu.isHub = false →
    let n := s.tsu
    (∀ typ addr data, n.member = true → inputSize typ data.length = true → n.inputCtx typ addr data < n.ctxCount →
      let c := n.inputCtx typ addr data
      let ref := ((n.lastArm c).map (·.1)).getD setupStep
      let off := ((n.lastArm c).map (fun a => ofS 64 ((n.tb1 : Int) - (a.2 : Int)))).getD 0
      let b := n.inputPayload typ addr data
      let msg := recordMsg n.span n.epoch 1 c n.ident n.jrnl.nxt ref typ (max 16 b.length) off
        (b ++ List.replicate (max 16 b.length - b.length) 0)
      let full := 256 ≤ (n.jrnl.pend.filter JRec.open).length ∨ (n.journalPort 0 = false ∧ n.journalPort 1 = false)
      (¬full → RunsOn .tsu (.journalRecord typ addr data) s (fun m =>
        m.jrnl.nxt = (n.jrnl.nxt + 1) % 2 ^ 32 ∧ (∀ p, p < 2 → n.journalPort p = true → QueuedC3 m p msg) ∧
        (∃ r, m.jrnl.pend = n.jrnl.pend ++ [r] ∧ r.msg = msg ∧ r.seq = n.jrnl.nxt ∧ r.open = true) ∧
        m.rd Ob.det_recordsLost = n.rd Ob.det_recordsLost)) ∧
      (full → RunsOn .tsu (.journalRecord typ addr data) s (fun m =>
        m.jrnl.nxt = (n.jrnl.nxt + 1) % 2 ^ 32 ∧ m.jrnl.pend = n.jrnl.pend ∧ n.recorded m 0x66 ∧
        m.rd Ob.det_recordsLost = (n.rd Ob.det_recordsLost + 1) % 2 ^ 64 ∧
        (n.fired c = true → bit (m.rd (Ob.tag_taintReasons c)) 10 = true)))) ∧
    (∀ seq r, n.jrnl.pend.find? (fun r => r.seq == seq) = some r → r.ctx < 64 →
      (∀ p, p < 2 → n.journalPort p = true → r.again p n.tb1 = true → RunsOn .tsu (.journalResend seq) s (fun m =>
        QueuedC3 m p r.msg ∧ m.jrnl.pend.length = n.jrnl.pend.length)) ∧
      ((n.journalPort 0 = true ∨ n.journalPort 1 = true) →
        (∀ p, p < 2 → n.journalPort p = true → r.again p n.tb1 = false ∧ r.spent p n.tb1 = true) → r.open = true →
        RunsOn .tsu (.journalResend seq) s (fun m =>
          (∀ x ∈ m.jrnl.pend, x.seq ≠ seq) ∧ n.recorded m 0x66 ∧ m.rd Ob.det_recordsLost = (n.rd Ob.det_recordsLost + 1) % 2 ^ 64))) ∧
    (∀ p a, p < 2 → n.peek p (isJournalKind 2) = some a → a.span = n.span → a.epoch = n.epoch → jDie a = n.ident →
      RunsOn .tsu (.journalAckReceived .tsu p) s (fun m =>
        (∀ r ∈ m.jrnl.pend, r.seq ≤ jSeq a → if p = 0 then r.ackA = true else r.ackB = true) ∧
        m.rd Ob.det_recordsJournaled =
          (n.rd Ob.det_recordsJournaled + (n.jrnl.pend.filter (fun r => decide (r.seq ≤ jSeq a) && r.open)).length) % 2 ^ 64)) ∧
    (∀ p a, p < 2 → n.peek p (isJournalKind 4) = some a → a.span = n.span → a.epoch = n.epoch → jDie a = n.ident → jCtx a < n.ctxCount →
      (n.jrnl.got.contains (jSeq a) = true → RunsOn .tsu (.replayRecordReceived .tsu p) s (fun m => m.jrnl = n.jrnl ∧ m.objs = n.objs)) ∧
      (n.jrnl.got.contains (jSeq a) = false →
        (∀ t, n.replayDue a = some t → (n.tb1 : Int) ≤ t → RunsOn .tsu (.replayRecordReceived .tsu p) s (fun m =>
          m.jrnl.held = n.jrnl.held ++ [(jSeq a, a)] ∧ m.jrnl.got.contains (jSeq a) = true ∧ m.objs = n.objs)) ∧
        (∀ t, n.replayDue a = some t → t < (n.tb1 : Int) → RunsOn .tsu (.replayRecordReceived .tsu p) s (fun m =>
          n.recorded m 0x68 ∧ m.jrnl.held = n.jrnl.held ∧
          (n.fired (jCtx a) = true → (m.ctxOf (jCtx a)).waveSent = true ∧ (m.ctxOf (jCtx a)).cause ≠ 0))))) ∧
    (∀ seq data e t, n.jrnl.held.find? (fun e => e.1 == seq) = some e → n.replayDue e.2 = some t →
      (t = (n.tb1 : Int) → jTyp e.2 = 2 → jCtx e.2 < n.ctxCount → RunsOn .tsu (.replayApply seq data) s (fun m =>
        m.jrnl.held = n.jrnl.held.filter (fun x => x.1 != seq) ∧
        m.rd Ob.det_replayRecordsApplied = (n.rd Ob.det_replayRecordsApplied + 1) % 2 ^ 64)) ∧
      ((n.tb1 : Int) < t → exec (.replayApply seq data) s = .next s) ∧
      (t < (n.tb1 : Int) → RunsOn .tsu (.replayApply seq data) s (fun m =>
        n.recorded m 0x68 ∧ m.jrnl.held = n.jrnl.held.filter (fun x => x.1 != seq))))) ∧
  ∀ (s : State), Works s .hub → s.hub.isHub = true →
    let n := s.hub
    (∀ p a, p < 64 → n.peek p (isJournalKind 1) = some a → n.spanMatch p a.span a.epoch = true →
      let have_ := (n.dieRecords a.span a.epoch (jDie a)).any (fun x => x.seq == jSeq a)
      (n.isHeadOf a.span = false → n.memberMatch (n.uplink a.span a.epoch) a.span a.epoch = true →
        n.journalPort (n.uplink a.span a.epoch) = true → RunsOn .hub (.journalStore p) s (fun m =>
          QueuedC3 m (n.uplink a.span a.epoch) a ∧ m.jhub = n.jhub)) ∧
      (n.isHeadOf a.span = true → n.fnEnabled 3 = true →
        (have_ = true → RunsOn .hub (.journalStore p) s (fun m =>
          m.jhub.ring = n.jhub.ring ∧ m.rd Ob.jrnl_duplicates = (n.rd Ob.jrnl_duplicates + 1) % 2 ^ 64)) ∧
        (have_ = false → slotsUsed n.jhub.ring + 1 ≤ ringSize → RunsOn .hub (.journalStore p) s (fun m =>
          m.jhub.ring = n.jhub.ring ++ [{ span := a.span, epoch := a.epoch, die := jDie a, seq := jSeq a, ctx := jCtx a, step := jRef a
                                          typ := jTyp a, cells := a.cells, pos := n.jhub.head }] ∧
          m.rd Ob.jrnl_recordsStored = (n.rd Ob.jrnl_recordsStored + 1) % 2 ^ 64)))) ∧
    (∀ p a, p < 64 → n.peek p (isJournalKind 3) = some a → n.spanMatch p a.span a.epoch = true →
      (∀ t ∈ n.trails, t.is a.span a.epoch (jCtx a) (jSeq a) = false) → fld (a.cell 1) 63 44 ≠ 0 →
        (n.expectedSet a.span a.epoch (jCtx a)).contains p = true → RunsOn .hub (.tagMessageReceived p) s (fun m =>
          ∃ t ∈ m.trails, t.is a.span a.epoch (jCtx a) (jSeq a) = true ∧ t.firstAt = a.first ∧
            t.expect = (n.expectedSet a.span a.epoch (jCtx a)).filter (· != p) ∧ t.tagOf p = some (fld (a.cell 1) 127 64) ∧
            (t.expect = [] → t.due = some (nextMul 8 (a.first + 16))))) ∧
    (∀ t, n.trails = [t] →
      let due := (∃ d, t.due = some d ∧ d ≤ n.tb1) ∨ t.firstAt + 1562500 ≤ n.tb1
      (due → slotsUsed n.jhub.ring + 5 ≤ ringSize → RunsOn .hub (.trailClose t.span t.ctx t.step) s (fun m =>
        m.trails = [] ∧ (∃ x ∈ m.jhub.ring, x.trail = true ∧ x.span = t.span ∧ x.ctx = t.ctx ∧ x.step = t.step ∧ x.data = t.record) ∧
        ∀ x ∈ n.jhub.ring, x ∈ m.jhub.ring)) ∧
      (¬due → exec (.trailClose t.span t.ctx t.step) s = .next s)) ∧
    (n.fnEnabled 4 = true → RunsOn .hub .replayStart s (fun m => m.answered 0 ∧ m.rd Ob.rpl_replayState = 1 ∧ m.replay.done = [])) ∧
    RunsOn .hub .replayStop s (fun m =>
      m.answered 0 ∧ m.rd Ob.rpl_replayState = (if n.rd Ob.rpl_replayState = 1 then 3 else n.rd Ob.rpl_replayState)) ∧
    (∀ data,
      (n.rd Ob.rpl_replayState = 1 → n.isHeadOf n.replaySource.1 = true →
        (n.sourceRecords = [] → RunsOn .hub (.replayInject data) s (fun m => m.rd Ob.rpl_replayState = 2 ∧ m.links = n.links)) ∧
        (∀ x, n.sourceRecords.find? (fun x => n.armLeft x && (n.replay.sent.filter (fun y => y.1 == x.die)).length < 256) = some x →
          (n.tooLate x = true → RunsOn .hub (.replayInject data) s (fun m => m.rd Ob.rpl_replayState = 3 ∧ m.links = n.links)) ∧
          (n.tooLate x = false → x.dataOk data = false → exec (.replayInject data) s = .next s) ∧
          (n.tooLate x = false → x.dataOk data = true → RunsOn .hub (.replayInject data) s (fun m =>
            (x.die, x.seq) ∈ m.replay.done ∧ m.rd Ob.rpl_replayState = 1 ∧ ∀ y ∈ n.replay.done, y ∈ m.replay.done)))) ∧
      (n.rd Ob.rpl_replayState ≠ 1 → exec (.replayInject data) s = .next s))

/-- Records queue and overflow, a wave acts by the escrow state, settling revises once, and a lost path, a watchdog and a damaged
slot act as stated (14 Hangs, faults and recovery, R385, R387, R389, R390, R402, R404, R406, 13 Strict mode, the Mint and
replay, R375). -/
def Obligations.RecordsWavesAndSettlingActAsStated : Prop :=
  (∀ (n : Node) (r : FRec), r.cause < 256 →
    let m := n.fault r
    m.rd Ob.flt_recordsMade = (n.rd Ob.flt_recordsMade + 1) % 2 ^ 64 ∧ n.recorded m r.cause ∧
    m.rd Ob.flt_firstRecord = (if n.rd Ob.flt_firstRecord = 0 then n.recordBits r % 2 ^ 256 else n.rd Ob.flt_firstRecord) ∧
    (n.log.length < n.logSize → m.log = n.log ++ [n.recordBits r] ∧ m.rd Ob.flt_recordsDropped = n.rd Ob.flt_recordsDropped) ∧
    (n.logSize ≤ n.log.length → m.log = n.log ∧ m.rd Ob.flt_recordsDropped = (n.rd Ob.flt_recordsDropped + 1) % 2 ^ 64) ∧
    (n.isHub = false → bit (n.rd Ob.flt_interruptMask) r.cause = true → bit (m.rd Ob.irq_pending) 0x130 = true)) ∧
  (∀ (s : State) (u : Who), Works s u →
    RunsOn u (.faultRecordRead u) s (fun m =>
      m.log = (s.node u).log.drop 1 ∧ (m.answerOf 0).data = (s.node u).log.headD 0 ∧ (m.answerOf 0).len = 32 ∧ m.answered 0 ∧
      m.rd Ob.flt_firstRecord = (s.node u).rd Ob.flt_firstRecord) ∧
    RunsOn u (.clearFirstRecord u) s (fun m => m.rd Ob.flt_firstRecord = 0 ∧ m.answered 0 ∧ m.log = (s.node u).log)) ∧
  (∀ (s : State) (p slot first : Nat) (rest : List (Nat × Nat)), p < 2 → (s.tsu.linkOf p).waveIn = (slot, first) :: rest →
    s.tsu.member = true → slotSpan slot = s.tsu.span → slotEpoch slot = s.tsu.epoch → slotCtx slot < s.tsu.ctxCount →
    let n := s.tsu
    let c := slotCtx slot
    (n.escrow c = 1 ∨ n.escrow c = 2 → RunsOn .tsu (.faultWaveReceived p) s (fun m =>
      m.escrow c = 0 ∧ fieldAt (m.rd (Ob.seq_lastOutcome c)) 8 1 = 5 ∧ fieldAt (m.rd (Ob.seq_lastOutcome c)) 9 1 = slotCause slot ∧
      m.rd (Ob.seq_nextStepNumber c) = ((n.ctxOf c).step + 1) % 2 ^ 48 ∧
      m.rd Ob.flt_wavesReceived = (n.rd Ob.flt_wavesReceived + 1) % 2 ^ 64)) ∧
    (n.escrow c = 3 → n.walk c = 1 ∨ n.walk c = 2 → RunsOn .tsu (.faultWaveReceived p) s (fun m =>
      m.escrow c = 3 ∧ m.walk c = 3 ∧ (m.ctxOf c).cause = (if (n.ctxOf c).cause = 0 then slotCause slot else (n.ctxOf c).cause) ∧
      ((m.ctxOf c).abortAt.isSome = true ∨ m.bus.aborts.any (fun a => a.1 == c) = true) ∧ m.log = n.log ∧
      m.rd Ob.flt_recordsMade = n.rd Ob.flt_recordsMade ∧ m.rd Ob.flt_wavesReceived = (n.rd Ob.flt_wavesReceived + 1) % 2 ^ 64 ∧
      m.rd Ob.flt_wavesOriginated = n.rd Ob.flt_wavesOriginated)) ∧
    (n.escrow c = 0 ∨ n.escrow c = 4 →
      (bit (n.rd Ob.flt_settling) c = false → RunsOn .tsu (.faultWaveReceived p) s (fun m =>
        m.ctxs = n.ctxs ∧ m.log = n.log ∧ m.rd Ob.flt_wavesIgnored = (n.rd Ob.flt_wavesIgnored + 1) % 2 ^ 64 ∧
        m.rd (Ob.seq_lastOutcome c) = n.rd (Ob.seq_lastOutcome c))) ∧
      (bit (n.rd Ob.flt_settling) c = true → fieldAt (n.rd (Ob.seq_lastOutcome c)) 8 1 = 1 →
        RunsOn .tsu (.faultWaveReceived p) s (fun m =>
          let o := n.rd (Ob.seq_lastOutcome c)
          let q := m.rd (Ob.seq_lastOutcome c)
          fieldAt q 8 1 = 5 ∧ fieldAt q 9 1 = slotCause slot ∧ fieldAt q 0 8 = fieldAt o 0 8 ∧ fieldAt q 24 8 = fieldAt o 24 8 ∧
          m.rd (Ob.seq_stepsAborted c) = (n.rd (Ob.seq_stepsAborted c) + 1) % 2 ^ 64 ∧
          (m.rd (Ob.seq_stepsCompleted c) + 1) % 2 ^ 64 = n.rd (Ob.seq_stepsCompleted c) % 2 ^ 64 ∧
          bit (m.rd Ob.flt_settling) c = false ∧ n.recorded m 0x7A ∧ bit (m.rd Ob.irq_pending) c = true ∧ m.escrow c = n.escrow c)))) ∧
  (∀ (s : State) (c t : Nat), c < s.tsu.ctxCount → (s.tsu.ctxOf c).settleTo = some t →
    (t ≤ s.tsu.tb1 → RunsOn .tsu (.settleWindowEnd c) s (fun m =>
      bit (m.rd Ob.flt_settling) c = false ∧ (m.ctxOf c).settleTo = none ∧ s.tsu.sameObjsBut m [Ob.flt_settling] ∧
      ∀ d, d < 64 → d ≠ c → bit (m.rd Ob.flt_settling) d = bit (s.tsu.rd Ob.flt_settling) d ∧ m.ctxOf d = s.tsu.ctxOf d)) ∧
    (s.tsu.tb1 < t → exec (.settleWindowEnd c) s = .next s)) ∧
  (∀ (s : State) (c : Nat), c < s.tsu.ctxCount →
    (∀ t, (s.tsu.ctxOf c).pathLostAt = some t → t + 1024 ≤ s.tsu.tb1 → s.tsu.fired c = true → (s.tsu.ctxOf c).cause = 0 →
      s.tsu.walk c = 1 ∨ s.tsu.walk c = 2 → RunsOn .tsu (.spanPathLost c) s (fun m =>
        s.tsu.recorded m 0x78 ∧ m.walk c = 3 ∧ (m.ctxOf c).cause = 0x78 ∧
        ((m.ctxOf c).abortAt.isSome = true ∨ m.bus.aborts.any (fun a => a.1 == c) = true) ∧
        m.rd Ob.flt_wavesOriginated = s.tsu.rd Ob.flt_wavesOriginated ∧ m.links = s.tsu.links)) ∧
    ((s.tsu.ctxOf c).pathLostAt = none ∨ s.tsu.fired c = false → exec (.spanPathLost c) s = .next s)) ∧
  (∀ (s : State), Works s .hub → s.hub.isHub = true →
    (s.hub.hpwr.fwDown = false → RunsOn .hub .hubWatchdogExpiry s (fun m =>
      m.hpwr.fwDown = true ∧ m.hpwr.restarts = s.hub.hpwr.restarts + 1 ∧ s.hub.recorded m 0x79 ∧ m.links = s.hub.links ∧
      m.heads = s.hub.heads ∧ m.escInst = s.hub.escInst ∧ m.jhub = s.hub.jhub ∧ m.spans = s.hub.spans)) ∧
    (s.hub.hpwr.fwDown = true → exec .hubWatchdogExpiry s = .next s) ∧
    (s.hub.hpwr.fwDown = true → RunsOn .hub .firmwareRestartComplete s (fun m => m.hpwr.fwDown = false ∧ m.log = s.hub.log ∧
      ∀ op, op < 16 → m.rd (Ob.opr_highestSequence op) = min ((s.hub.operator op).stored + 65536) (2 ^ 64 - 1))) ∧
    (s.hub.hpwr.fwDown = false → exec .firmwareRestartComplete s = .next s) ∧
    (∀ slot, RunsOn .hub (.scrubError slot) s (fun m =>
      s.hub.recorded m 0x69 ∧ m.rd Ob.jrnl_damagedSlots = (s.hub.rd Ob.jrnl_damagedSlots + 1) % 2 ^ 64 ∧
      m.jhub.ring.length = s.hub.jhub.ring.length ∧
      (∀ x ∈ s.hub.jhub.ring, x.pos ≤ slot → slot < x.pos + x.slots → { x with damaged := true } ∈ m.jhub.ring) ∧
      (∀ x ∈ s.hub.jhub.ring, ¬(x.pos ≤ slot ∧ slot < x.pos + x.slots) → x ∈ m.jhub.ring))))

/-- A power cycle of a region has begun for a reason (14 R397). -/
def PowerCycled (n m : Node) (r why : Nat) : Prop :=
  m.rd (Ob.watch_ladderState r) = 4 ∧ (m.regionOf r).ladder = 3 ∧ (m.regionOf r).cycWhy = why ∧ (m.regionOf r).puEn = 0 ∧
  (m.regionOf r).iso = 255 ∧ m.rst r = (if n.rst r = 5 then 5 else 3) ∧ m.runOf r = none ∧ (m.regionOf r).ladderAt = n.tb1 ∧
  bits (m.rd (Ob.watch_counters r)) 256 64 = (bits (n.rd (Ob.watch_counters r)) 256 64 + 1) % 2 ^ 64 ∧ m.tb1 = n.tb1 ∧
  ∀ j, j ≠ r → m.regionOf j = n.regionOf j ∧ m.runOf j = n.runOf j

/-- A region has been lost (14 R398). -/
def RegionLost (n m : Node) (r : Nat) : Prop :=
  m.rst r = 5 ∧ m.rd (Ob.watch_ladderState r) = 5 ∧ (m.regionOf r).iso = 255 ∧ (m.regionOf r).puEn = 0 ∧ (m.regionOf r).pgood = false ∧
  m.runOf r = none ∧ n.recorded m 0x74 ∧ bit (m.rd (Ob.agent_laneStatus r)) 3 = true ∧
  bits (m.rd (Ob.watch_counters r)) 320 64 = (bits (n.rd (Ob.watch_counters r)) 320 64 + 1) % 2 ^ 64 ∧ m.tb1 = n.tb1 ∧
  ∀ j, j ≠ r → m.regionOf j = n.regionOf j ∧ m.runOf j = n.runOf j

/-- The power cycles of the last hour leave room in the budget of a region (14 R397). -/
def InBudget (n : Node) (r : Nat) : Prop :=
  ((n.regionOf r).cycles.filter (fun t => n.tb1 < t + hourTicks)).length < n.rd (Ob.watch_cycleBudget r)

/-- Rung 1 has begun for the context of the run (14 R393). -/
def AtRung1 (n m : Node) (r : Nat) : Prop :=
  m.rd (Ob.watch_ladderState r) = 2 ∧ (m.regionOf r).ladder = 1 ∧ (m.regionOf r).ladderCtx = n.runCtx r ∧ (m.regionOf r).crstReq = false ∧
  ∀ x, n.runOf r = some x → n.fired x.ctx = true → (m.ctxOf x.ctx).waveSent = true

/-- Heartbeats and their window start the ladder, each rung ends as its row says, and a power cycle spends the budget or loses
the region (14 Hangs, faults and recovery, R392, R393, R394, R395, R396, R397, R398, R399, R401, R402, R407). -/
def Obligations.TheWatchAndTheLadderActAsStated : Prop :=
  ∀ (s : State) (r : Nat), r < s.tsu.regionCount → r < 1024 →
    (let n := s.supplyFirst r s.tsu;
      (∀ x, n.runOf r = some x → x.ctx < 64) →
      let g := n.regionOf r
      let st := n.rd (Ob.watch_ladderState r)
      let same := Host.Outcome.next { s with tsu := n };
      (∀ info, n.inputLive r = true →
        let kind := fld info 31 30
        RunsOn .tsu (.heartbeat r info) s (fun m =>
          m.rd (Ob.watch_lastHeartbeat r) = n.tb1 ∧ m.rd (Ob.watch_heartbeatInformation r) = info ∧ (m.regionOf r).watchAt = n.tb1 ∧
          (kind = 0 ∨ kind = 3 → m.log = n.log ∧ m.ctxs = n.ctxs ∧ m.rd (Ob.watch_ladderState r) = st) ∧
          (kind = 3 → bits (m.rd (Ob.watch_counters r)) 384 64 = (bits (n.rd (Ob.watch_counters r)) 384 64 + 1) % 2 ^ 64) ∧
          (kind = 1 → n.recorded m 0x76 ∧ m.rd (Ob.watch_ladderState r) = st ∧ (m.regionOf r).ladder = g.ladder ∧
            ∀ x, n.runOf r = some x → n.fired x.ctx = true → (m.ctxOf x.ctx).waveSent = true) ∧
          (kind = 2 → n.recorded m 0x75 ∧ (st = 1 → AtRung1 n m r)))) ∧
      (∀ info, n.inputLive r = false → exec (.heartbeat r info) s = same) ∧
      (s.beats r = false →
        (st = 1 → g.watchAt + ticksOfUs (n.rd (Ob.watch_heartbeatWindow r)) ≤ n.tb1 → RunsOn .tsu (.heartbeatWindowExpiry r) s (fun m =>
          n.recorded m 0x70 ∧ AtRung1 n m r ∧
          bits (m.rd (Ob.watch_counters r)) 0 64 = (bits (n.rd (Ob.watch_counters r)) 0 64 + 1) % 2 ^ 64)) ∧
        (st ≠ 1 ∨ n.tb1 < g.watchAt + ticksOfUs (n.rd (Ob.watch_heartbeatWindow r)) → exec (.heartbeatWindowExpiry r) s = same)) ∧
      (s.beats r = true → exec (.heartbeatWindowExpiry r) s = .next s) ∧
      (n.inputLive r = true → g.ladder = 1 → g.crstReq = true → RunsOn .tsu (.contextResetAck r) s (fun m =>
        m.rd (Ob.watch_ladderState r) = 0 ∧ (m.regionOf r).ladder = 0 ∧ (m.regionOf r).crstReq = false ∧ m.rst r = n.rst r ∧
        bits (m.rd (Ob.watch_counters r)) 64 64 = (bits (n.rd (Ob.watch_counters r)) 64 64 + 1) % 2 ^ 64 ∧
        bits (m.rd (Ob.watch_counters r)) 128 64 =
          (bits (n.rd (Ob.watch_counters r)) 128 64 + ofB (decide (g.ladderAt + ticksOfUs (n.rd (Ob.watch_resetTarget r)) < n.tb1))) % 2 ^ 64)) ∧
      (g.ladder ≠ 1 ∨ g.crstReq = false → exec (.contextResetAck r) s = same) ∧
      (s.acks r = false →
        (g.ladder = 1 → g.crstReq = true → g.ladderAt + ticksOfUs (n.rd (Ob.watch_resetLimit r)) ≤ n.tb1 →
          RunsOn .tsu (.resetLimitExpiry r) s (fun m =>
            n.recorded m 0x71 ∧ (m.regionOf r).ladder = 2 ∧ (m.regionOf r).ladderAt = n.tb1 + 1 ∧ (m.regionOf r).isolated = false)) ∧
        (g.ladder ≠ 1 ∨ g.crstReq = false → exec (.resetLimitExpiry r) s = same)) ∧
      (s.acks r = true → exec (.resetLimitExpiry r) s = .next s) ∧
      (¬((s.tsu.regionOf r).stage = 3 ∧ s.readies r = true) → g.ladder = 3 →
        (g.phase ≠ 7 ∨ g.ladderAt + n.cycleLimit r < g.phaseAt → g.ladderAt + n.cycleLimit r ≤ n.tb1 →
          RunsOn .tsu (.powerCycleLimitExpiry r) s (fun m => RegionLost n m r)) ∧
        ((g.phase = 7 ∧ g.phaseAt ≤ g.ladderAt + n.cycleLimit r) ∨ n.tb1 < g.ladderAt + n.cycleLimit r →
          exec (.powerCycleLimitExpiry r) s = same)) ∧
      (s.stops r = true → exec (.stopTimeout r) s = .next s) ∧
      (s.stops r = false →
        (∀ t, (n.agentOf r).stopAt = some t →
          (t + n.rd (Ob.agent_stopTimeout r) ≤ n.tb1 → (n.agentOf r).ackAt = none → (n.agentOf r).hung = false → InBudget n r →
            RunsOn .tsu (.stopTimeout r) s (fun m =>
              n.recorded m 0x77 ∧ PowerCycled n m r 3 ∧ (m.agentOf r).hung = true ∧ (m.agentOf r).stopAt = some t ∧
              ∀ x, n.runOf r = some x → n.fired x.ctx = true → (m.ctxOf x.ctx).waveSent = true)) ∧
          (n.tb1 < t + n.rd (Ob.agent_stopTimeout r) ∨ (n.agentOf r).ackAt ≠ none ∨ (n.agentOf r).hung = true → exec (.stopTimeout r) s = same)) ∧
        ((n.agentOf r).stopAt = none → exec (.stopTimeout r) s = same))) ∧
    (let n := s.tsu;
      (∀ x, n.runOf r = some x → x.ctx < 64) →
      let g := n.regionOf r;
      (g.ladder = 2 → g.isolated = false → g.ladderAt ≤ n.tb1 → g.phase = 0 →
        let m := n.regionTick r
        m.rd (Ob.watch_ladderState r) = 3 ∧ (m.regionOf r).iso = g.iso ||| n.clusters r g.ladderCtx ∧
        (m.regionOf r).cstop = g.cstop ||| n.clusters r g.ladderCtx ∧ n.recorded m 0x72) ∧
      (g.ladder = 2 → g.isolated = true →
        (n.rd (Ob.watch_hold r) = 0 → g.ladderAt + 64 ≤ n.tb1 → InBudget n r → RunsOn .tsu (.isolationLimitExpiry r) s (fun m => PowerCycled n m r 1)) ∧
        (n.rd (Ob.watch_hold r) ≠ 0 ∨ n.tb1 < g.ladderAt + 64 → exec (.isolationLimitExpiry r) s = .next s)) ∧
      (g.ladder = 3 → g.phase = 7 → g.phaseAt ≤ g.ladderAt + n.cycleLimit r →
        (g.phaseAt + 2 ≤ n.tb1 → RunsOn .tsu (.powerCycleDone r) s (fun m =>
          m.rst r = 0 ∧ (m.regionOf r).iso = 0 ∧ (m.regionOf r).cstop = 0 ∧ m.rd (Ob.watch_ladderState r) = 0 ∧ (m.regionOf r).ladder = 0 ∧
          n.recorded m 0x73 ∧ ∀ j, j ≠ r → m.regionOf j = n.regionOf j)) ∧
        (n.tb1 < g.phaseAt + 2 → exec (.powerCycleDone r) s = .next s)) ∧
      (g.ladder = 3 → g.phase ≠ 7 → exec (.powerCycleDone r) s = .next s) ∧
      (let ok := n.runOf r = none ∧ n.rst r = 0
       (ok → InBudget n r → RunsOn .tsu (.ladderPowerCycle r) s (fun m => m.answered 0 ∧ PowerCycled n m r 4)) ∧
       (ok → ¬InBudget n r → RunsOn .tsu (.ladderPowerCycle r) s (fun m => m.answered 0 ∧ RegionLost n m r)) ∧
       (¬ok → RunsOn .tsu (.ladderPowerCycle r) s (fun m => m.answered 3 ∧ m.regions = n.regions))) ∧
      (n.rst r = 5 → InBudget n r → RunsOn .tsu (.ladderRestoreLost r) s (fun m => m.answered 0 ∧ PowerCycled n m r 4)) ∧
      (n.rst r ≠ 5 → RunsOn .tsu (.ladderRestoreLost r) s (fun m => m.answered 3 ∧ m.regions = n.regions)) ∧
      (n.heldAt2 r = true → InBudget n r → RunsOn .tsu (.ladderReleaseHold r) s (fun m =>
        m.answered 0 ∧ n.recorded m 0x72 ∧ PowerCycled n m r 1)) ∧
      (n.heldAt2 r = false → RunsOn .tsu (.ladderReleaseHold r) s (fun m => m.answered 3 ∧ m.regions = n.regions)) ∧
      (n.rst r ≠ 5 → RunsOn .tsu (.ladderDeclareLost r) s (fun m => m.answered 0 ∧ RegionLost n m r)) ∧
      (n.rst r = 5 → RunsOn .tsu (.ladderDeclareLost r) s (fun m => m.answered 0 ∧ m.regions = n.regions)) ∧
      (g.pgood = true → g.phase ∉ [2, 3, 5, 6, 7] → InBudget n r → RunsOn .tsu (.powerGoodLost r) s (fun m =>
        n.recorded m 0x80 ∧ PowerCycled n m r 2 ∧ (m.regionOf r).pgood = false ∧ bit (m.rd (Ob.agent_laneStatus r)) 3 = true ∧
        (m.regionOf r).req = none ∧ (m.agentOf r).req = none ∧ (m.agentOf r).stopAt = none ∧
        ∀ x, n.runOf r = some x → n.fired x.ctx = true → (m.ctxOf x.ctx).waveSent = true)) ∧
      (g.pgood = false ∨ g.phase ∈ [2, 3, 6] → exec (.powerGoodLost r) s = .next s))

/-- Span list ops, port commands, lane entries and epoch commands act or are refused as their rules say, and a changed membership
ends the instance (15 Spans, health and census, R408, R409, R410, R411, R412, R415, R435, R437). -/
def Obligations.SpanListsPortsAndEpochsFollowTheirRules : Prop :=
  (∀ (s : State) (item : Nat), Works s .hub → s.hub.isHub = true →
    let n := s.hub
    let sp := eSpan item
    let refused := fun (m : Node) => m.answered 3 ∧ n.recorded m 0x90 ∧ m.spans = n.spans ∧
      m.rd Ob.lst_conflicts = (n.rd Ob.lst_conflicts + 1) % 2 ^ 64 ∧ m.htal = n.htal ∧ m.heads = n.heads
    (n.spanEntryOf sp = none →
      (n.spans.length < 4096 → sp ≠ 0 → maskOk (eMask item) (eHead item) = true → RunsOn .hub (.spanListAdd item) s (fun m =>
        let e := listEntry sp (eEpoch item) (eMask item) (eHead item)
        m.answered 0 ∧ m.spanEntryOf sp = some e ∧ m.listHolds sp (eEpoch item) = true ∧ m.isHeadOf sp = eHead item ∧
        m.spans.length = n.spans.length + 1 ∧ (∀ x ∈ n.spans, x ∈ m.spans) ∧
        ∃ k, (k, e) ∈ m.spans ∧ (∀ x ∈ n.spans, x.1 ≠ k) ∧ ∀ j, j < k → ∃ x ∈ n.spans, x.1 = j)) ∧
      (n.spans.length < 4096 → sp = 0 ∨ maskOk (eMask item) (eHead item) = false →
        RunsOn .hub (.spanListAdd item) s (fun m => m.answered 3 ∧ m.spans = n.spans)) ∧
      (4096 ≤ n.spans.length → RunsOn .hub (.spanListAdd item) s refused) ∧
      RunsOn .hub (.spanListRemove item) s refused ∧ RunsOn .hub (.spanListMask item) s refused ∧
      RunsOn .hub (.spanListHead item) s refused) ∧
    (∀ e, n.spanEntryOf sp = some e →
      RunsOn .hub (.spanListAdd item) s refused ∧
      ((∃ k, k < 256 ∧ n.headRuns k = true ∧ n.headSpan k = sp) → RunsOn .hub (.spanListRemove item) s refused) ∧
      ((∀ k, k < 256 → n.headRuns k = true → n.headSpan k ≠ sp) → RunsOn .hub (.spanListRemove item) s (fun m =>
        m.answered 0 ∧ m.spanEntryOf sp = none ∧ (∀ o, o ≠ sp → m.spanEntryOf o = n.spanEntryOf o) ∧
        (∀ x ∈ m.htal, cfgActive x.2.cfg = true → cfgSpan x.2.cfg ≠ sp) ∧
        (∀ i, i < 16 → engActive (m.rd (Ob.eng_configuration i)) = true → engSpan (m.rd (Ob.eng_configuration i)) ≠ sp) ∧
        (∀ k, k < 256 → n.headSpan k = sp → m.rd (Ob.head_state k) = 0) ∧
        ∀ k, k < 256 → n.headSpan k ≠ sp → m.rd (Ob.head_state k) = n.rd (Ob.head_state k) ∧ m.headOf k = n.headOf k)) ∧
      (∀ op, op = 3 ∨ op = 4 →
        let i := if op = 3 then Instr.spanListMask item else .spanListHead item
        let mask := if op = 3 then eMask item else eMask e
        let head := if op = 3 then eHead e else eHead item
        (maskOk mask head = true → RunsOn .hub i s (fun m =>
          m.answered 0 ∧ m.spanEntryOf sp = some (listEntry sp (eEpoch e) mask head) ∧ m.spans.length = n.spans.length ∧
          ∀ o, o ≠ sp → m.spanEntryOf o = n.spanEntryOf o)) ∧
        (maskOk mask head = false → RunsOn .hub i s (fun m => m.answered 3 ∧ m.spans = n.spans))))) ∧
  (∀ (s : State) (p : Nat), Works s .hub → s.hub.isHub = true → p < 64 →
    let n := s.hub
    let st := n.rd (Ob.prt_portState p)
    let r := n.relEpoch p
    let kept := fun (m : Node) => m.answered 3 ∧ m.rd (Ob.prt_portState p) = st ∧ m.rd (Ob.prt_owner p) = n.rd (Ob.prt_owner p) ∧
      m.relEpoch p = r ∧ (n.level = 1 → n.recorded m 0x90)
    (∀ span epoch,
      let ok := n.level = 1 ∧ st ≠ 1 ∧ n.listHolds span epoch = true ∧ (st = 2 ∨ (n.dportOf p).everRel = true → r + 2 ≤ epoch)
      (ok → RunsOn .hub (.portOwn p span epoch) s (fun m => m.answered 0 ∧ m.rd (Ob.prt_portState p) = 1 ∧
        m.ownSpan p = span % 2 ^ 16 ∧ m.ownEpoch p = epoch % 2 ^ 32 ∧ m.rd (Ob.prt_laneEntryWritten p) = 0 ∧ (m.dportOf p).pendLane = true ∧
        ∀ q, q < 64 → q ≠ p → m.rd (Ob.prt_portState q) = n.rd (Ob.prt_portState q))) ∧
      (¬ok → RunsOn .hub (.portOwn p span epoch) s kept)) ∧
    (∀ e,
      let ok := n.level = 1 ∧ st = 1 ∧ n.ownEpoch p ≤ e
      (ok → RunsOn .hub (.portRelease p e) s (fun m => m.answered 0 ∧ m.rd (Ob.prt_portState p) = 2 ∧ m.relEpoch p = e ∧
        m.rd (Ob.prt_owner p) = 0 ∧ n.recorded m 0x91 ∧ (m.dportOf p).everRel = true ∧ (m.dportOf p).pendLane = true ∧ m.laneValue p = 0)) ∧
      (¬ok → RunsOn .hub (.portRelease p e) s kept)) ∧
    (∀ h,
      let ok := n.level = 1 ∧ st = 2 ∧ r + 2 ≤ h ∧ h ≤ n.rd Ob.epo_hallEpoch
      (ok → RunsOn .hub (.portFree p h) s (fun m => m.answered 0 ∧ m.rd (Ob.prt_portState p) = 0 ∧ m.relEpoch p = r)) ∧
      (¬ok → RunsOn .hub (.portFree p h) s kept))) ∧
  (∀ (s : State) (p v : Nat), s.tsu.isHub = false → p < 2 →
    let n := s.tsu
    let now := n.wr (Ob.lane_laneSpanEntry p) (v % 2 ^ 48)
    let ends := now.spanEntry ≠ n.spanEntry
    RunsOn .tsu (.laneEntryWrite p v) s (fun m =>
      m.answered 0 ∧ m.rd (Ob.lane_laneSpanEntry p) = v % 2 ^ 48 ∧
      m.rd (Ob.lane_laneSpanEntry (1 - p)) = n.rd (Ob.lane_laneSpanEntry (1 - p)) ∧ m.log = n.log ∧
      m.rd Ob.flt_wavesOriginated = n.rd Ob.flt_wavesOriginated ∧
      (ends → m.tally.waits = [] ∧ m.tally.tal = [] ∧ m.clr.dieAccs = [] ∧ m.clr.defAccs = [] ∧ m.jrnl.pend = [] ∧ m.rd Ob.flt_settling = 0 ∧
        (∀ c, c < n.ctxCount → m.escrow c = 0 ∧ m.walk c = 0 ∧ m.rd (Ob.seq_nextStepNumber c) = 0 ∧ (m.ctxOf c).gates = [] ∧
          m.rd (Ob.seq_lastOutcome c) = n.rd (Ob.seq_lastOutcome c)) ∧
        (∀ c, c < n.ctxCount → n.fired c = true → (n.ctxOf c).abortAt = none → m.bus.aborts.any (fun a => a.1 == c) = true) ∧
        ∀ t, t < 16 → m.entries t = n.entries t) ∧
      (¬ends → m.ctxs = n.ctxs ∧ m.bus = n.bus ∧ m.tally = n.tally ∧ m.clr = n.clr ∧ m.jrnl = n.jrnl))) ∧
  (∀ (s : State) (span epoch : Nat), Works s .hub → s.hub.isHub = true →
    let n := s.hub
    let ok := n.level = 3 ∧ n.lead.leading = true
    ∀ op, op = 1 ∨ op = 2 ∨ op = 3 →
      let i := if op = 1 then Instr.epochCreate span epoch else if op = 2 then .epochRelease span epoch else .epochAdvance span epoch
      let next := if op = 2 then n.rd Ob.epo_hallEpoch else (n.rd Ob.epo_hallEpoch + 1) % 2 ^ 32
      (ok → RunsOn .hub i s (fun m => m.answered 0 ∧ m.rd Ob.epo_hallEpoch = next ∧ fieldAt (m.rd Ob.epo_epochCommand) 0 1 = op ∧
        fieldAt (m.rd Ob.epo_epochCommand) 1 1 = 1 ∧ fieldAt (m.rd Ob.epo_epochCommand) 8 4 = next % 2 ^ 32)) ∧
      (¬ok → RunsOn .hub i s (fun m => m.answered 3 ∧ m.rd Ob.epo_hallEpoch = n.rd Ob.epo_hallEpoch ∧
        fieldAt (m.rd Ob.epo_epochCommand) 1 1 = 2))) ∧
  (∀ (s : State) (p : Nat) (x : Msg), Works s .hub → s.hub.isHub = true → p < 68 → s.hub.peek p (isTwinKind 3) = some x → s.hub.level = 3 →
    RunsOn .hub (.twinEpochReceived p) s (fun m =>
      m.rd Ob.epo_hallEpoch = (if s.hub.lead.leading = true then s.hub.rd Ob.epo_hallEpoch else fld x.head 123 92))) ∧
  (∀ (s : State) (hubs synced : List Nat), Works s .hub → s.hub.isHub = true →
    let n := s.hub
    (n.level ≠ 3 → exec (.epochCopyDistribute ⟨hubs, synced⟩) s = .next s) ∧
    (n.level = 3 → RunsOn .hub (.epochCopyDistribute ⟨hubs, synced⟩) s (fun m => m.rd Ob.epo_hallEpoch = n.rd Ob.epo_hallEpoch ∧
      m.kst.epochWas = some (n.rd Ob.epo_hallEpoch) ∧
      ∀ d ∈ (if n.kst.epochWas = some (n.rd Ob.epo_hallEpoch) then synced else hubs), ∀ q, fld d 19 18 = 1 ∨ fld d 19 18 = 2 →
        n.relayHop d = .port q → 5 ≤ n.lst q →
        ∃ r ∈ m.access.relays, r.dst = d ∧ r.tick0 = n.tb1 ∧ fld r.msg.head 71 56 * 256 + fld r.msg.head 55 48 = Ob.epo_hallEpoch ∧
          payloadBytes r.msg 4 = leBytes 4 (n.rd Ob.epo_hallEpoch))))

/-- A member reports its counts, a Pier scores each die from them, a leading head grants EXPELs in its budget, and a granted
VERDICT quarantines the port (15 Spans, health and census, R417, R418, R419, R420, R421, R422, R434, R437). -/
def Obligations.HealthIsScoredAndDiesExpelledWithinTheBudget : Prop :=
  (∀ x, scoreOf x ≤ 1000 ∧ (64000 ≤ x → scoreOf x = 0)) ∧
  (∀ (s : State), s.tsu.isHub = false →
    (s.tsu.tb1 % healthTicks = 0 → RunsOn .tsu .healthIntervalEnd s (fun m =>
      m.census.base = s.tsu.healthCounts ∧ m.census.lateSteps = 0 ∧ m.census.fencedFires = 0 ∧
      (s.tsu.member = true → ∀ p, p < 2 → s.tsu.lst p = 6 → ∃ q ∈ (m.linkOf p).c2, isCensusKind 2 q.msg = true ∧
        q.msg.span = s.tsu.span ∧ fld q.msg.head 31 24 = min s.tsu.census.lateSteps 255 ∧ fld q.msg.head 3 0 = min s.tsu.census.fencedFires 15))) ∧
    (s.tsu.tb1 % healthTicks ≠ 0 → exec .healthIntervalEnd s = .next s)) ∧
  (∀ (s : State) (p : Nat), Works s .hub → s.hub.isHub = true → s.hub.level = 1 → p < 64 →
    let n := s.hub
    let iv := intervalEnd n.tb1 1048576
    let due := iv + 1048576 ≤ n.tb1 ∧ (n.dportOf p).evalAt ≠ some iv
    let score := scoreOf (n.nextPenalty p)
    let low := n.rd Ob.hwt_probationThreshold
    let out := score < n.rd Ob.hwt_expulsionThreshold ∧ n.mayExpel p = true
    (due → n.fnEnabled 5 = true → n.rd Ob.hwt_expulsionThreshold ≤ low → RunsOn .hub (.healthEvaluation p) s (fun m =>
      m.rd (Ob.hlt_penalty p) = n.nextPenalty p ∧ m.rd (Ob.hlt_penalty p) ≤ 128000 ∧ m.rd (Ob.hlt_score p) = score ∧
      (m.dportOf p).xAudit = 0 ∧ (m.dportOf p).report = none ∧ (m.dportOf p).evalAt = some iv ∧
      m.rd (Ob.hlt_reportsMissing p) = (if (n.dportOf p).report = none then (n.rd (Ob.hlt_reportsMissing p) + 1) % 2 ^ 64
        else n.rd (Ob.hlt_reportsMissing p)) ∧
      (n.lead.leading = true →
        (score < low → bit (m.rd (Ob.hlt_healthFlags p)) 0 = true) ∧ (low + 50 ≤ score → bit (m.rd (Ob.hlt_healthFlags p)) 0 = false) ∧
        (low ≤ score → score < low + 50 → bit (m.rd (Ob.hlt_healthFlags p)) 0 = bit (n.rd (Ob.hlt_healthFlags p)) 0) ∧
        (out → (m.dportOf p).expelAt = some n.tb1) ∧
        (¬out → (m.dportOf p).expelAt = (n.dportOf p).expelAt ∧ m.rd (Ob.prt_portState p) = n.rd (Ob.prt_portState p)) ∧
        m.rd (Ob.hlt_healthState p) = m.healthState p) ∧
      (n.lead.leading = false → m.rd (Ob.hlt_healthState p) = n.rd (Ob.hlt_healthState p) ∧ (m.dportOf p).expelAt = (n.dportOf p).expelAt))) ∧
    (¬due → exec (.healthEvaluation p) s = .next s) ∧
    (let sent := intervalEnd n.tb1 524288
     (sent + 524288 ≤ n.tb1 → (n.dportOf p).sentAt ≠ some sent → RunsOn .hub (.twinHealthSend p) s (fun m =>
       (m.dportOf p).sentAt = some sent ∧ ∀ q, q = 66 ∨ q = 67 → 5 ≤ n.lst q → ∃ x ∈ (m.linkOf q).c3, isTwinKind 2 x.msg = true ∧
         fld x.msg.head 123 118 = p ∧ fld x.msg.head 117 116 = n.shownState p % 4)) ∧
     ((n.dportOf p).sentAt = some sent → exec (.twinHealthSend p) s = .next s))) ∧
  (∀ (s : State) (p : Nat) (x : Msg), Works s .hub → s.hub.isHub = true → p < 68 →
    let n := s.hub
    (∀ q, n.peek p (isCensusKind 4) = some x → n.nextExpel = some q → q ≠ p →
      exec (.expelReceived p) s = exec (.expelReceived p) { s with hub := expelReceived q n }) ∧
    (n.peek p (isCensusKind 4) = some x → n.nextExpel = some p →
      let past := n.grantsOf x.span
      (n.isHeadOf x.span = true → n.lead.leading = true →
        (past.length < n.rd Ob.bud_expulsionBudget → RunsOn .hub (.expelReceived p) s (fun m =>
          m.grants = n.grants ++ [{ span := x.span, tick := n.tb1, die := cDie x }] ∧ m.rd Ob.bud_refusals = n.rd Ob.bud_refusals)) ∧
        (n.rd Ob.bud_expulsionBudget ≤ past.length → RunsOn .hub (.expelReceived p) s (fun m =>
          m.grants = n.grants ∧ m.rd Ob.bud_refusals = (n.rd Ob.bud_refusals + 1) % 2 ^ 64 ∧ n.recorded m 0x94))) ∧
      (n.isHeadOf x.span = false ∨ n.lead.leading = false → RunsOn .hub (.expelReceived p) s (fun m => m.grants = n.grants ∧ m.log = n.log))) ∧
    (n.peek p (isCensusKind 5) = some x → 64 ≤ p →
      let d := fld (cDie x) 5 0
      (n.firstCopy (verdictKey x) = true →
        (n.isHeadOf x.span = true → RunsOn .hub (.verdictReceived p) s (fun m =>
          m.grants = n.grants ++ (if bit x.head 55 = true then [{ span := x.span, tick := n.tb1, die := cDie x }] else []))) ∧
        (n.level = 1 → n.spanMatch d x.span x.epoch = true →
          (bit x.head 55 = true → RunsOn .hub (.verdictReceived p) s (fun m =>
            m.rd (Ob.prt_portState d) = 2 ∧ m.relEpoch d = (n.ownEpoch d + 1) % 2 ^ 32 ∧ m.rd (Ob.prt_owner d) = 0 ∧ n.recorded m 0x93 ∧
            n.recorded m 0x91 ∧ (m.dportOf d).expelled = true ∧ m.rd (Ob.hlt_healthState d) = 3 ∧ (m.dportOf d).pendLane = true)) ∧
          (bit x.head 55 = false → RunsOn .hub (.verdictReceived p) s (fun m =>
            m.rd (Ob.prt_portState d) = 1 ∧ bit (m.rd (Ob.hlt_healthFlags d)) 2 = true ∧ bit (m.rd (Ob.hlt_healthFlags d)) 1 = false ∧
            (n.lead.leading = true → n.recorded m 0x92 ∧ bit (m.rd (Ob.hlt_healthFlags d)) 0 = true))))) ∧
      (n.firstCopy (verdictKey x) = false → RunsOn .hub (.verdictReceived p) s (fun m => m.objs = n.objs ∧ m.grants = n.grants))) ∧
    (n.peek p (isTwinKind 2) = some x → 66 ≤ p → n.level = 1 →
      let q := fld x.head 123 118
      let st := fld x.head 117 116
      RunsOn .hub (.twinHealthReceived p) s (fun m =>
        (m.dportOf q).twinLink = fld x.head 103 72 ∧ (n.lead.leading = false → m.rd (Ob.hlt_healthState q) = st) ∧
        (n.lead.leading = true → st ≠ 3 → m.objs = n.objs) ∧
        (st = 3 → n.rd (Ob.prt_portState q) = 1 → m.rd (Ob.prt_portState q) = 2 ∧ n.recorded m 0x93) ∧
        (st ≠ 3 → m.rd (Ob.prt_portState q) = n.rd (Ob.prt_portState q))))) ∧
  (∀ (s : State) (p : Nat), Works s .hub → s.hub.isHub = true → p < 64 →
    (s.hub.level = 1 →
      RunsOn .hub (.healthReinstate p) s (fun m => m.answered 0 ∧ m.rd (Ob.hlt_penalty p) = 0 ∧ m.rd (Ob.hlt_score p) = 1000 ∧
        m.rd (Ob.hlt_healthState p) = 0 ∧ bit (m.rd (Ob.hlt_healthFlags p)) 0 = false ∧ (m.dportOf p).expelled = false ∧
        m.rd (Ob.prt_portState p) = s.hub.rd (Ob.prt_portState p)) ∧
      RunsOn .hub (.healthClearFences p) s (fun m => m.answered 0 ∧ m.rd (Ob.hlt_fenceMask p) = 0 ∧
        m.rd (Ob.hlt_auditMatrix p) = s.hub.rd (Ob.hlt_auditMatrix p)) ∧
      RunsOn .hub (.healthClearMatrix p) s (fun m => m.answered 0 ∧ m.rd (Ob.hlt_auditMatrix p) = 0 ∧
        m.rd (Ob.hlt_fenceMask p) = s.hub.rd (Ob.hlt_fenceMask p))) ∧
    (s.hub.level ≠ 1 → ∀ i ∈ [Instr.healthReinstate p, .healthClearFences p, .healthClearMatrix p], RunsOn .hub i s (fun m =>
      m.answered 3 ∧ m.dports = s.hub.dports)))

/-- Audits pass or fail, fill their cell and fence it by the rule; a census latches the named sets on its tick, and event sources
change when allowed (15 Spans, health and census, R418, R425, R426, R427, R429, R430, R431, R432, R436). -/
def Obligations.AuditsFenceCellsAndCensusesLatch : Prop :=
  (∀ (s : State) (c want : Nat), c < s.tsu.ctxCount → (s.tsu.ctxOf c).oldTag = none → ((s.tsu.ctxOf c).tagDue && s.tsu.tagPoint c) = true →
    (s.tsu.ctxOf c).audit = some want →
    let n := s.tsu
    let j := n.tagJob c
    let short := shortTag (blake3 (leBytes 144 (n.preimage c j))) j.taint
    let bad := n.fired c = false ∨ short ≠ want
    RunsOn .tsu (.tagComplete c) s (fun m =>
      fieldAt (m.rd Ob.aud_lastAudit) 0 8 = j.step % 2 ^ 64 ∧ fieldAt (m.rd Ob.aud_lastAudit) 16 8 = want % 2 ^ 64 ∧
      (bad → fieldAt (m.rd Ob.aud_lastAudit) 11 1 = 1 ∧ n.recorded m 0x95 ∧
        m.rd Ob.aud_auditMismatches = (n.rd Ob.aud_auditMismatches + 1) % 2 ^ 64 ∧ m.rd Ob.aud_auditsPassed = n.rd Ob.aud_auditsPassed) ∧
      (¬bad → fieldAt (m.rd Ob.aud_lastAudit) 11 1 = 0 ∧ m.causeCount 0x95 = n.causeCount 0x95 ∧
        m.rd Ob.aud_auditsPassed = (n.rd Ob.aud_auditsPassed + 1) % 2 ^ 64 ∧ m.rd Ob.aud_auditMismatches = n.rd Ob.aud_auditMismatches))) ∧
  (∀ (s : State) (p : Nat) (x : Msg), Works s .hub → s.hub.isHub = true → s.hub.level = 1 → p < 64 → s.hub.spanMatch p x.span x.epoch = true →
    let n := s.hub
    (n.peek p (isCensusKind 2) = some x → RunsOn .hub (.reportReceived p) s (fun m =>
      (m.dportOf p).report = some (fld x.head 55 0) ∧ fieldAt (m.rd (Ob.hlt_lastReport p)) 8 7 = fld x.head 55 0 ∧
      (fld x.head 3 0 ≠ 0 → n.lead.leading = true → n.recorded m 0x96) ∧
      (fld x.head 3 0 = 0 ∨ n.lead.leading = false → m.log = n.log ∧ m.causeCount 0x96 = n.causeCount 0x96))) ∧
    (n.peek p (isCensusKind 3) = some x →
      let k := 16 * fld x.head 55 53 + fld x.head 52 49
      let bad := bit x.head 48
      let open_ := bit (n.rd (Ob.hlt_fenceMask p)) k = false
      let c := n.auditCell p k
      let d := if bad then (c.1, min (c.2 + 1) 65535) else (min (c.1 + 1) 65535, c.2)
      let due := n.lead.leading = true ∧ open_ ∧ n.rd Ob.hwt_fenceCount ≤ d.2 ∧ n.rd Ob.hwt_fenceRatio * (d.1 + d.2) ≤ 100 * d.2
      RunsOn .hub (.auditReceived p) s (fun m =>
        m.auditCell p k = d ∧ (∀ j, j < 128 → j ≠ k → m.auditCell p j = n.auditCell p j) ∧
        (m.dportOf p).xAudit = (n.dportOf p).xAudit + (if bad = true ∧ bit (n.rd (Ob.hlt_fenceMask p)) k = false then 1 else 0) ∧
        (due → bit (m.rd (Ob.hlt_fenceMask p)) k = true ∧ n.recorded m 0x96) ∧
        (¬due → m.rd (Ob.hlt_fenceMask p) = n.rd (Ob.hlt_fenceMask p) ∧ m.causeCount 0x96 = n.causeCount 0x96)))) ∧
  (∀ (s : State), Works s .hub → s.hub.isHub = true →
    (s.hub.level = 1 → s.hub.tb1 % 2 ^ 41 = 0 → RunsOn .hub .auditMatrixHalving s (fun m => ∀ p k, p < 64 → k < 128 →
      m.auditCell p k = ((s.hub.auditCell p k).1 / 2, (s.hub.auditCell p k).2 / 2))) ∧
    (s.hub.level ≠ 1 ∨ s.hub.tb1 % 2 ^ 41 ≠ 0 → exec .auditMatrixHalving s = .next s) ∧
    (∀ v, s.hub.fnEnabled 5 = true →
      let n := s.hub
      let span := fieldAt v 0 2
      let ok := (∃ e, n.spanEntryOf span = some e) ∧ n.isHeadOf span = true ∧ n.lead.leading = true ∧ fieldAt v 2 2 < 64 ∧
        n.tb1 + 8192 ≤ fieldAt v 8 8
      (ok → RunsOn .hub (.censusCommand v) s (fun m => m.answered 0 ∧ m.census.latchAt = n.census.latchAt ++ [(fieldAt v 8 8, fieldAt v 2 2, fieldAt v 4 4, false)])) ∧
      (¬ok → RunsOn .hub (.censusCommand v) s (fun m => m.answered 3 ∧ m.census = n.census)))) ∧
  (∀ (s : State) (u : Who) (p : Nat) (x : Msg), Works s u → (s.node u).hasPort p = true → (s.node u).peek p (isCensusKind 1) = some x →
    let n := s.node u
    n.firstCopy (latchKey x) = true → n.spanMatch p x.span x.epoch = true →
    (n.isHub = true → 64 ≤ p) → (n.isHub = false → x.span = n.span ∧ x.epoch = n.epoch ∧ n.fnEnabled 8 = true) →
    (latchTick x < n.tb1 → RunsOn u (.latchReceived u p) s (fun m =>
      m.rd Ob.cen_lATCHesMissed = (n.rd Ob.cen_lATCHesMissed + 1) % 2 ^ 64 ∧ m.census.latchAt = n.census.latchAt)) ∧
    (n.tb1 ≤ latchTick x → RunsOn u (.latchReceived u p) s (fun m =>
      m.census.latchAt = n.census.latchAt ++ [(latchTick x, fld x.head 55 40, fld x.head 39 8, !n.isHub && decide (latchTick x < n.tb1 + 1544))] ∧
      m.rd Ob.cen_lATCHesMissed = n.rd Ob.cen_lATCHesMissed))) ∧
  (∀ (s : State) (u : Who), Works s u →
    let n := s.node u
    (∀ mask number b, n.census.latchAt.filter (·.1 == n.tb1) = [(n.tb1, mask, number, b)] → RunsOn u (.censusLatch u) s (fun m =>
      m.rd Ob.cen_censusNumber = number ∧ m.rd Ob.cen_latchTick = n.tb1 ∧ m.rd Ob.cen_latchedMask = mask ∧
      m.census.latchAt = n.census.latchAt.filter (·.1 != n.tb1) ∧ bit (m.rd Ob.cen_censusFlags) 0 = true ∧
      bit (m.rd Ob.cen_censusFlags) 3 = (!n.isHub && b) ∧
      (bit mask 0 = true → ∀ i, i < (if n.isHub then 64 else 32) → m.rd (Ob.ecnt_shadow i) = n.rd (Ob.ecnt_value i)) ∧
      (∀ o ∈ n.setObjects mask, (o, n.counterNow o) ∈ m.census.linkSh))) ∧
    (n.census.latchAt.filter (·.1 == n.tb1) = [] → n.bus.known.all (fun a => a.op != 4 || a.tick0 != n.tb1 || a.work == 0) = true →
      exec (.censusLatch u) s = .next s) ∧
    (∀ k v, n.hasCounter k = true →
      let o := if k < 64 then Ob.ecnt_source k else Ob.agc_agentSources ((k - 64) / 8)
      let n1 := if k < 64 then n.wr o v else n.wrBits o (16 * (k % 8)) 16 v
      (n.sourceOk (decide (64 ≤ k)) v = true → n.vaultFits o (n1.rd o) = true → RunsOn u (.eventSourceWrite u k v) s (fun m =>
        m.answered 0 ∧ m.rd o = n1.rd o ∧ m.census = n.census)) ∧
      (n.sourceOk (decide (64 ≤ k)) v = false → RunsOn u (.eventSourceWrite u k v) s (fun m =>
        m.answered 3 ∧ m.rd o = n.rd o ∧ m.census = n.census)))) ∧
  (∀ (s : State) (r : Nat), r < s.tsu.regionCount → r < 1024 →
    (∀ a, s.tsu.actionNow r 4 = some a → RunsOn .tsu (.agentCensus r) s (fun m =>
      (∀ i, i < 8 → fieldAt (m.rd (Ob.agc_agentShadows r)) (8 * i) 8 = fieldAt (s.tsu.rd (Ob.agc_agentValues r)) (8 * i) 8) ∧
      fieldAt (m.rd (Ob.agc_agentShadows r)) 64 8 = s.tsu.rd (Ob.agent_stretches r) % 2 ^ 64 ∧
      fieldAt (m.rd (Ob.agc_agentShadows r)) 72 8 = s.tsu.rd (Ob.agent_marginEpisodes r) % 2 ^ 64 ∧
      fieldAt (m.rd (Ob.agc_agentShadows r)) 80 8 = s.tsu.rd (Ob.agent_marginTicks r) % 2 ^ 64 ∧
      fieldAt (m.rd (Ob.agc_agentShadows r)) 88 8 = s.tsu.rd (Ob.agent_frequencyChanges r) % 2 ^ 64 ∧ a ∉ (m.agentOf r).acts)) ∧
    (s.tsu.actionNow r 4 = none → exec (.agentCensus r) s = .next s))

/-- Accesses of a TSU's register port end with the status of the first rule that stops them, latches and windows work as stated,
writes act a tick later (16 The object dictionary and Grennu Object Access, R438, R440, R441, R442, R443, R444, R445, R446). -/
def Obligations.ObjectsAreReadAndWrittenByTheirKind : Prop :=
  (∀ (s : State) (u : Who) (obj off : Nat) (data : List Nat), Works s u → (s.node u).served = true →
    let n := s.node u
    let w : PendWrite := { via := if n.isHub then 2 else 0, obj := obj, off := off, data := data }
    let st := ((n.runWrite w).answerOf 0).status
    (findRow n.kind obj = none ∨ n.hasObj obj = false → st = 1) ∧
    (∀ r, findRow n.kind obj = some r → n.hasObj obj = true →
      (r.right = .ro → st = 2) ∧ (∀ f, r.right = .lock f → n.rd (Ob.fn_functionState f) ≠ 2 → st = 2) ∧
      (n.writeDenied r.right = false → rangeAllowed r obj off data.length = false → st = 4)) ∧
    RunsOn u (.objectWrite u obj off data) s (fun m => m.answered st ∧
      (st = 0 → sameTick obj = false → m.deferred = insertWrite n.isHub n.deferred w ∧ m.log = n.log ∧ m.ctxs = n.ctxs ∧ m.links = n.links))) ∧
  (∀ (s : State) (b : Nat), s.tsu.isHub = false → s.tsu.served = true →
    (b ≤ 7 → s.tsu.deferred = [] → RunsOn .tsu (.objectWrite .tsu Ob.aud_temperatureBand 0 [b]) s (fun m =>
      m.answered 0 ∧ m.rd Ob.aud_temperatureBand = s.tsu.rd Ob.aud_temperatureBand ∧ m.clock.rd Ob.aud_temperatureBand = b)) ∧
    (7 < b → b < 256 → RunsOn .tsu (.objectWrite .tsu Ob.aud_temperatureBand 0 [b]) s (fun m =>
      m.answered 3 ∧ m.rd Ob.aud_temperatureBand = s.tsu.rd Ob.aud_temperatureBand))) ∧
  (∀ (s : State), s.tsu.isHub = false → s.tsu.served = true →
    let n := s.tsu
    let r := n.routeOf 0
    (∀ addr width v, wordOk addr width = false →
      RunsOn .tsu (.regWordRead addr width) s (fun m => m.answered 4 ∧ m.log = n.log ∧ m.routes = n.routes) ∧
      RunsOn .tsu (.regWordWrite addr width v) s (fun m => m.answered 4 ∧ m.deferred = n.deferred ∧ m.routes = n.routes)) ∧
    (∀ addr v, wordOk addr 4 = true → n.objRow (addr / 16) = none →
      RunsOn .tsu (.regWordRead addr 4) s (fun m => m.answered 1) ∧
      RunsOn .tsu (.regWordWrite addr 4 v) s (fun m => m.answered 1 ∧ m.deferred = n.deferred)) ∧
    (∀ addr row, wordOk addr 4 = true → n.objRow (addr / 16) = some row → isLong row = false →
      let o := addr / 16
      let word := addr / 4 % 4
      let size := n.sizeOf o
      (word = 0 ∨ r.rdOid ≠ some o → RunsOn .tsu (.regWordRead addr 4) s (fun m =>
        m.answered 0 ∧ (m.answerOf 0).data = wordAt (n.view 0 o) (4 * word) ∧ (m.routeOf 0).rdOid = some o ∧ (m.routeOf 0).rdLatch = n.view 0 o)) ∧
      (word ≠ 0 → r.rdOid = some o → RunsOn .tsu (.regWordRead addr 4) s (fun m =>
        m.answered 0 ∧ (m.answerOf 0).data = wordAt r.rdLatch (4 * word) ∧ m.log = n.log ∧ m.routes = n.routes)) ∧
      (∀ v,
        let x := putWord (if r.wrOid = some o then r.wrLatch else n.view 0 o) word v
        (size ≤ 4 * word → RunsOn .tsu (.regWordWrite addr 4 v) s (fun m => m.answered 0 ∧ m.deferred = n.deferred)) ∧
        (4 * word < size → r.wrOid = some o →
          ((size - 1) / 4 ≠ word → RunsOn .tsu (.regWordWrite addr 4 v) s (fun m =>
            m.answered 0 ∧ (m.routeOf 0).wrOid = some o ∧ (m.routeOf 0).wrLatch = x ∧ m.deferred = n.deferred)) ∧
          ((size - 1) / 4 = word →
            let c := n.modRoute 0 (fun r => { r with wrOid := none, wrLatch := 0 })
            let w := routedWrite 0 0 0 o 0 (leBytes size x)
            let st := ((c.runWrite w).answerOf 0).status
            RunsOn .tsu (.regWordWrite addr 4 v) s (fun m => m.answered st ∧
              (st = 0 → sameTick o = false → m.deferred = insertWrite n.isHub n.deferred w ∧ (m.routeOf 0).wrOid = none)))))) ∧
    (∀ o row, n.objRow o = some row → isLong row = true →
      let c := n.modRoute 0 (fun r => { r with wrOid := if r.wrOid == some o then r.wrOid else none })
      RunsOn .tsu (.longOpenRead o) s (fun m => m.answered 0 ∧ m.longOpen o 1 = true ∧ (m.routeOf 0).buf = (c.abandon 0).view 0 o ∧
        (m.routeOf 0).len = (c.abandon 0).sizeOf o ∧ (m.routeOf 0).pos = r.pos) ∧
      RunsOn .tsu (.longOpenWrite o) s (fun m => m.answered 0 ∧ m.longOpen o 2 = true ∧ (m.routeOf 0).lo = none ∧ (m.routeOf 0).pos = r.pos ∧
        (r.mode ≠ 0 → m.rd Ob.acc_transfersAbandoned = (n.rd Ob.acc_transfersAbandoned + 1) % 2 ^ 64)) ∧
      RunsOn .tsu (.longAbandon o) s (fun m => m.answered 0 ∧ (r.oid = o → (m.routeOf 0).mode = 0)) ∧
      (∀ v, v % 4 = 0 → v ≤ 65536 → RunsOn .tsu (.longPositionWrite o v) s (fun m => m.answered 0 ∧ (m.routeOf 0).pos = v)) ∧
      (∀ v, v % 4 ≠ 0 → RunsOn .tsu (.longPositionWrite o v) s (fun m => m.answered 4 ∧ (m.routeOf 0).pos = r.pos)) ∧
      (∀ v, n.longOpen o 2 = true → (r.lo.isSome = true → r.pos = r.hi) → r.pos + 4 ≤ 65536 →
        RunsOn .tsu (.longDataAccess o true v) s (fun m => m.answered 0 ∧ (m.routeOf 0).pos = r.pos + 4 ∧ (m.routeOf 0).hi = r.pos + 4 ∧
          (m.routeOf 0).lo = some (r.lo.getD r.pos) ∧ fieldAt (m.routeOf 0).buf r.pos 4 = v % 2 ^ 32)) ∧
      (∀ v, n.longOpen o 1 = true → r.pos < r.len → RunsOn .tsu (.longDataAccess o false v) s (fun m =>
        m.answered 0 ∧ (m.answerOf 0).data = wordAt r.buf r.pos ∧ (m.routeOf 0).pos = r.pos + 4)) ∧
      (∀ write v, n.longOpen o (if write = true then 2 else 1) = false → RunsOn .tsu (.longDataAccess o write v) s (fun m =>
        m.answered (if r.dead.contains (o, 0) = true then 0xB else 4) ∧ (m.routeOf 0).pos = r.pos)) ∧
      (n.longOpen o 2 = true → r.hi ≤ n.sizeOf o →
        let st := (((c.closeTransfer 0).runWrite (routedWrite 0 0 0 o (r.lo.getD 0) r.gathered)).answerOf 0).status
        RunsOn .tsu (.longCommit o) s (fun m => m.answered st ∧
          (st = 0 → sameTick o = false → (m.routeOf 0).mode = 0 ∧
            m.deferred = insertWrite n.isHub n.deferred (routedWrite 0 0 0 o (r.lo.getD 0) r.gathered)))) ∧
      (n.longOpen o 2 = false → RunsOn .tsu (.longCommit o) s (fun m =>
        m.answered (if r.dead.contains (o, 0) = true then 0xB else 4) ∧ m.deferred = n.deferred)))) ∧
  (∀ (s : State) (u : Who) (route : Nat), Works s u → (if u = .tsu then route < 2 else 1 ≤ route ∧ route < 34) →
    let n := s.node u
    let r := n.routeOf route
    (r.mode ≠ 0 → r.touched + tps ≤ n.tb1 → RunsOn u (.transferAbandonTimeout u route) s (fun m =>
      (m.routeOf route).mode = 0 ∧ (r.src, r.tag) ∈ (m.routeOf route).dead ∧
      m.rd Ob.acc_transfersAbandoned = (n.rd Ob.acc_transfersAbandoned + 1) % 2 ^ 64)) ∧
    (r.mode = 0 ∨ n.tb1 < r.touched + tps → exec (.transferAbandonTimeout u route) s = .next s))

/-- Relayed reads and writes are served and answered, others go one hop towards their target or are dropped, and a request ends
with its response or in a second (16 The object dictionary and Grennu Object Access, R442, R447, R448, R449, R450, R451, 15
Spans, health and census, R412). -/
def Obligations.RelayServesPassesOnAndTimesOut : Prop :=
  (∀ (kind dst src tag idx sub off len : Nat) (l a st : Nat) (p : List Nat), kind < 16 → dst < 2 ^ 20 → src < 2 ^ 20 → tag < 4096 → idx < 65536 →
    sub < 256 → off < 65536 →
    let h := (objResponse (objHead kind dst src tag idx sub off len l) a 1 st p).head
    fld h 127 124 = 3 ∧ fld h 123 104 = dst ∧ fld h 103 84 = src ∧ fld h 83 72 = tag ∧ fld h 71 56 = idx ∧ fld h 55 48 = sub ∧ fld h 47 32 = off ∧
    fld h 31 25 = a % 128 ∧ bit h 24 = true ∧ fld h 23 20 = st % 16 ∧ fld h 19 0 = 0) ∧
  (∀ (s : State) (p : Nat), s.tsu.isHub = false → p < 2 →
    let n := s.tsu
    let q := if 5 ≤ n.lst p then p else 1 - p
    (∀ x, n.peek p (n.servesObj p 1) = some x → oLen x ≤ 96 →
      let c := n.consume p (n.servesObj p 1)
      (∀ row, n.objRow (oObj x) = some row → isLong row = false → oOff x = 0 → n.sizeOf (oObj x) ≤ oLen x →
        RunsOn .tsu (.objectReadRequest .tsu p) s (fun m =>
          let b := leBytes (n.sizeOf (oObj x)) (c.view 1 (oObj x))
          m.rd Ob.acc_relayStatus = 0 ∧ (5 ≤ n.lst q → QueuedC3 m q (objResponse x.head b.length 1 0 (payloadCells b))))) ∧
      (∀ row, n.objRow (oObj x) = some row → isLong row = true → oOff x = 0 → n.otherOpen 1 (oObj x) 1 (oSrc x, oTag x) = true →
        RunsOn .tsu (.objectReadRequest .tsu p) s (fun m => m.rd Ob.acc_relayStatus = 5 ∧ m.routeOf 1 = n.routeOf 1 ∧
          (5 ≤ n.lst q → QueuedC3 m q (objResponse x.head 0 0 5 [])))) ∧
      (n.objRow (oObj x) = none → RunsOn .tsu (.objectReadRequest .tsu p) s (fun m =>
        m.rd Ob.acc_relayStatus = 1 ∧ (5 ≤ n.lst q → QueuedC3 m q (objResponse x.head 0 0 1 []))))) ∧
    (∀ x row, n.peek p (n.servesObj p 2) = some x → oLen x ≤ 96 → oLast x = true → n.objRow (oObj x) = some row → isLong row = false →
      let w := routedWrite 1 (oSrc x) p (oObj x) (oOff x) (payloadBytes x (oLen x))
      let st := (((n.consume p (n.servesObj p 2)).runWrite w).answerOf 0).status
      RunsOn .tsu (.objectWriteRequest .tsu p) s (fun m => m.rd Ob.acc_relayStatus = st ∧
        (st = 0 → sameTick (oObj x) = false → m.deferred = insertWrite n.isHub n.deferred w ∧
          (5 ≤ n.lst q → QueuedC3 m q (objResponse x.head 0 0 0 []))))) ∧
    (∀ x, n.peek p (n.servesObj p 4) = some x →
      let r := n.routeOf 1
      RunsOn .tsu (.objectAbandon .tsu p) s (fun m =>
        m.objs = n.objs ∧ (∀ k, (m.linkOf k).c3 = (n.linkOf k).c3) ∧
        (r.mode ≠ 0 → r.src = oSrc x → r.tag = oTag x → (m.routeOf 1).mode = 0) ∧
        (r.src ≠ oSrc x ∨ r.tag ≠ oTag x → m.routes = n.routes)))) ∧
  (∀ (s : State) (p : Nat) (x : Msg), Works s .hub → s.hub.isHub = true → p < 68 →
    s.hub.peek p (fun m => m.typ == tObject && (66 ≤ p || oTarget m != s.hub.ident)) = some x →
    let n := s.hub
    let lost := (n.rd Ob.acc_relayDropped + 1) % 2 ^ 64
    (66 ≤ p → RunsOn .hub (.objectRelayForward p) s (fun m => m.rd Ob.acc_relayDropped = lost)) ∧
    (p < 66 → ∀ q, n.relayHop (oTarget x) = .port q →
      (5 ≤ n.lst q → RunsOn .hub (.objectRelayForward p) s (fun m => QueuedC3 m q x ∧ m.rd Ob.acc_relayDropped = n.rd Ob.acc_relayDropped)) ∧
      (n.lst q < 5 → q < 64 → oKind x = 1 ∨ oKind x = 2 → ∀ b, n.relayHop (oSrc x) = .port b → 5 ≤ n.lst b →
        RunsOn .hub (.objectRelayForward p) s (fun m => m.rd Ob.acc_relayDropped = lost ∧ QueuedC3 m b (objResponse x.head 0 0 7 []))) ∧
      (n.lst q < 5 → 64 ≤ q → RunsOn .hub (.objectRelayForward p) s (fun m => m.rd Ob.acc_relayDropped = lost))) ∧
    (p < 66 → n.relayHop (oTarget x) = .drop → RunsOn .hub (.objectRelayForward p) s (fun m => m.rd Ob.acc_relayDropped = lost))) ∧
  (∀ (s : State), Works s .hub → s.hub.isHub = true → s.hub.access.reqs = [] →
    let n := s.hub
    (∀ p x, p < 66 → n.peek p (n.servesObj p 3) = some x →
      (∀ r, n.access.relays.find? (fun r => r.tag == oTag x) = some r → r.tag = oTag x → RunsOn .hub (.objectResponseReceived p) s (fun m =>
        m.access.relays = n.access.relays.filter (fun y => y.tag != r.tag) ∧
        (oStatus x = 0 → n.level = 1 → ∀ d, d < 64 → n.dieAt d = r.dst → fld r.msg.head 71 56 = n.laneObj / 256 →
          fld r.msg.head 55 48 = n.laneObj % 256 → leVal (payloadBytes r.msg 8) = n.laneValue d →
          m.rd (Ob.prt_laneEntryWritten d) = 1 ∧ (m.dportOf d).pendLane = false) ∧
        (oStatus x ≠ 0 → m.objs = n.objs ∧ m.dports = n.dports))) ∧
      (n.access.relays.find? (fun r => r.tag == oTag x) = none → RunsOn .hub (.objectResponseReceived p) s (fun m =>
        m.access = n.access ∧ m.objs = n.objs))) ∧
    (∀ tag,
      (∀ r, n.access.relays.find? (fun r => r.tag == tag) = some r →
        (r.tick0 + tps ≤ n.tb1 → RunsOn .hub (.relayTimeout tag) s (fun m =>
          m.access.relays = n.access.relays.filter (fun y => y.tag != tag) ∧ m.objs = n.objs)) ∧
        (n.tb1 < r.tick0 + tps → exec (.relayTimeout tag) s = .next s)) ∧
      (n.access.relays.find? (fun r => r.tag == tag) = none → exec (.relayTimeout tag) s = .next s)))

/-- GOA answers an authentic request once and a held one from its cache, and a function drains, is disabled when idle and retires
at its timeout (16 The object dictionary and Grennu Object Access, R454, R455, R456, R457, R460, R461, R462, R464, 14 Hangs,
faults and recovery, R404). -/
def Obligations.GoaAnswersAuthenticRequestsOnceAndFunctionsDrain : Prop :=
  (∀ (s : State) (port addr : Nat) (b : List Nat), Works s .hub → s.hub.isHub = true → port < 2 →
    let n := s.hub.relayFirst
    let op := goaOperator b
    let m := goaRequest port addr b n
    exec (.goaRequest port addr b) s = .next { s with hub := if s.goaWaits port op = true then m else m.goaStep } ∧
    (m.access.reqs = [] → m.goaStep = m) ∧
    (n.hpwr.fwDown = true ∨ 1232 < b.length → m = n) ∧
    (n.hpwr.fwDown = false → b.length ≤ 1232 →
      (n.goaCheck b ≠ 0 → m.access.goaOut = n.access.goaOut ∧ m.access.reqs = n.access.reqs ∧ n.recorded m 0x97 ∧
        (op < 16 → m.rd (Ob.opr_authenticationFailures op) = (n.rd (Ob.opr_authenticationFailures op) + 1) % 2 ^ 64) ∧
        ∀ k, k < 16 → m.rd (Ob.opr_highestSequence k) = n.rd (Ob.opr_highestSequence k)) ∧
      (n.goaCheck b = 0 → goaSeq b ≤ n.rd (Ob.opr_highestSequence op) →
        (∀ e, (n.operator op).cache.find? (fun e => e.1 == goaSeq b) = some e →
          let again := e.2.take 2 ++ [3] ++ e.2.drop 3
          m.objs = n.objs ∧ m.access.reqs = n.access.reqs ∧
            m.access.goaOut = n.access.goaOut ++ [(port, addr, again ++ goaTag (n.operator op).key again)]) ∧
        ((n.operator op).cache.find? (fun e => e.1 == goaSeq b) = none →
          m.access.goaOut = n.access.goaOut ∧ m.access.reqs = n.access.reqs ∧ n.recorded m 0x98 ∧
          m.rd (Ob.opr_highestSequence op) = n.rd (Ob.opr_highestSequence op) ∧
          m.rd (Ob.opr_staleRequests op) = (n.rd (Ob.opr_staleRequests op) + 1) % 2 ^ 64)) ∧
      (n.goaCheck b = 0 → n.rd (Ob.opr_highestSequence op) < goaSeq b → n.access.reqs = [] → s.goaWaits port op = false →
        ∀ o row, goaOps b = some [o] → o.op = 1 → o.off = 0 → goaTarget b = 0xFFFFF → n.objRow o.oid = some row → isLong row = false →
          n.sizeOf o.oid ≤ o.len → o.len ≤ 1024 → 0 < o.len →
          RunsOn .hub (.goaRequest port addr b) s (fun m =>
            m.rd (Ob.opr_highestSequence op) = goaSeq b ∧
            m.rd (Ob.opr_requestsAccepted op) = (n.rd (Ob.opr_requestsAccepted op) + 1) % 2 ^ 64 ∧
            ∃ q, m.access.reqs = [q] ∧ q.bytes = b ∧ q.op = op ∧ q.port = port ∧ q.addr = addr ∧ q.whole = true ∧
              q.outs.map (fun r => (r.1, r.2.1, r.2.2.length)) = [(0, true, n.sizeOf o.oid)])))) ∧
  (∀ (s : State) (op : Nat) (q : GoaReq), Works s .hub → s.hub.isHub = true → op < 16 →
    let n := s.hub.relayFirst.goaStep
    (s.hub.hpwr.fwDown = true → exec (.goaResponseSend op) s = .next s) ∧
    (s.hub.hpwr.fwDown = false → (∀ x ∈ n.access.reqs, ¬(x.op = op ∧ x.whole = true)) → exec (.goaResponseSend op) s = .next { s with hub := n }) ∧
    (s.hub.hpwr.fwDown = false → n.access.reqs = [q] → q.op = op → q.whole = true → ∀ ops, goaOps q.bytes = some ops →
      let b := goaResponse q.bytes ops q.outs
      RunsOn .hub (.goaResponseSend op) s (fun m =>
        m.access.goaOut = n.access.goaOut ++ [(q.port, q.addr, b ++ goaTag (n.operator op).key b)] ∧ m.access.reqs = [] ∧
        (m.operator op).cache.getLast? = some (q.seq, b) ∧
        (∀ k, (n.operator op).newKey = some k → (n.operator op).keyBy = (op, q.seq) → (m.operator op).key = k ∧ (m.operator op).newKey = none)))) ∧
  (∀ (s : State) (u : Who) (f : Nat), Works s u → f < (s.node u).fnCount →
    let n := s.node u
    let st := n.rd (Ob.fn_functionState f)
    let idle := n.fnInFlight f = 0
    (n.vaultFits (Ob.fn_enable f) 0 = true → RunsOn u (.functionDisable u f) s (fun m => m.answered 0 ∧ m.rd (Ob.fn_enable f) = 0 ∧
      (st = 0 → m.rd (Ob.fn_functionState f) = 1 ∧ m.rd (Ob.fn_drainStart f) = n.tb1) ∧
      (st = 1 → idle → m.rd (Ob.fn_functionState f) = 2) ∧ (st = 1 → ¬idle → m.rd (Ob.fn_functionState f) = 1 ∧
        m.rd (Ob.fn_drainStart f) = n.rd (Ob.fn_drainStart f)) ∧ (st = 2 → m.rd (Ob.fn_functionState f) = 2))) ∧
    (n.vaultFits (Ob.fn_enable f) 1 = true → RunsOn u (.functionEnable u f) s (fun m =>
      m.answered 0 ∧ m.fnEnabled f = true ∧ m.rd (Ob.fn_enable f) = 1 ∧ m.rd (Ob.fn_retired f) = n.rd (Ob.fn_retired f) ∧ m.log = n.log)) ∧
    (st = 1 → idle → RunsOn u (.functionDrained u f) s (fun m =>
      m.rd (Ob.fn_functionState f) = 2 ∧ (n.isHub = false → bit (m.rd Ob.irq_pending) 0x132 = true))) ∧
    (st ≠ 1 ∨ ¬idle → exec (.functionDrained u f) s = .next s) ∧
    (let k := (if n.isHub = true then n.retireHub f else n.retireTsu f).1
     let out := n.rd (Ob.fn_drainStart f) + ticksOfMs (n.rd (Ob.fn_drainTimeout f)) ≤ n.tb1
     (st = 1 → out → RunsOn u (.drainTimeout u f) s (fun m =>
       (k ≠ 0 → m.rd (Ob.fn_retired f) = (n.rd (Ob.fn_retired f) + k) % 2 ^ 64 ∧ n.recorded m 0x99) ∧
       (k = 0 → m.rd (Ob.fn_retired f) = n.rd (Ob.fn_retired f) ∧ m.causeCount 0x99 = n.causeCount 0x99) ∧
       (n.isHub = true → f = 1 → m.activeSlots = 0) ∧ (n.isHub = true → f = 5 → m.census.latchAt = []) ∧
       (n.isHub = false → f = 6 → ∀ i, i < 8 → (m.capOf i).recs = []) ∧
       (n.isHub = false → f = 7 → ∀ i, i < 4 → (m.pulseOf i).placed = [] ∧ (m.pulseOf i).high = false) ∧
       (n.isHub = false → f = 0 ∨ f = 2 ∨ f = 8 → m.objs = n.objs))) ∧
     (st ≠ 1 ∨ ¬out → exec (.drainTimeout u f) s = .next s)))

/-- The power counter `k` of a region (0 grants, 1 refusals, 2 delays expired, 3 wakes, 4 stage timeouts) has gone up by one. -/
def powerCounted (n m : Node) (r k : Nat) : Prop :=
  fieldAt (m.rd (Ob.reg_counters r)) (8 * k) 8 = (fieldAt (n.rd (Ob.reg_counters r)) (8 * k) 8 + 1) % 2 ^ 64

/-- A power request was refused with an answer: counted and recorded, the region's state and lines as they were. -/
def powerRefused (n m : Node) (r why : Nat) : Prop :=
  m.rd (Ob.reg_answer r) = why ∧ m.rst r = n.rst r ∧ (m.regionOf r).req = none ∧ (m.regionOf r).puEn = (n.regionOf r).puEn ∧
  (m.regionOf r).iso = (n.regionOf r).iso ∧ powerCounted n m r 1 ∧ n.recorded m 0x81

/-- A power request was granted: DOZE asks the region by `ra_pwr_go`, the others isolate it and lower its enables; with power-good low the state is
entered at once. -/
def powerGranted (n m : Node) (r code : Nat) : Prop :=
  let g := n.regionOf r
  m.rd (Ob.reg_answer r) = 0 ∧ powerCounted n m r 0 ∧ (m.regionOf r).req = none ∧
  (code = 1 → (m.regionOf r).pwrGo = true ∧ (m.regionOf r).pwrSel = 1 ∧ (m.regionOf r).iso = g.iso ∧ (m.regionOf r).phase = 1 ∧ m.rst r = n.rst r) ∧
  (code ≠ 1 → (m.regionOf r).iso = 255 ∧ (m.regionOf r).puEn = (if code = 2 then g.puEn &&& 5 else 0) ∧ (m.regionOf r).ret = decide (code = 2) ∧
    (g.pgood = true → (m.regionOf r).phase = 2 ∧ m.rst r = n.rst r) ∧ (g.pgood = false → (m.regionOf r).phase = 0 ∧ m.rst r = code))

/-- A request that the table does not allow is refused with 9, else the parties decide; a grant drives the lines, a forced fence
and an unfence act at once (17 Power states, retention and start-up, R477, R478, R479, R480, R481, R483, R485, R504, 13
Strict mode, the Mint and replay, R363). -/
def Obligations.PowerRequestsAreGrantedDelayedOrRefused : Prop :=
  ∀ (s : State) (r : Nat), s.tsu.isHub = false → r < 1024 → s.tsu.hasRegion r = true →
    let n := s.tsu.escrowFirst
    let g := n.regionOf r
    let st := n.rst r
    let counted := fun (m : Node) (k : Nat) => powerCounted n m r k
    let refused := fun (m : Node) (why : Nat) => powerRefused n m r why
    let granted := fun (m : Node) (code : Nat) => powerGranted n m r code
    (∀ x code, x ≤ 5 → code ≤ 6 → (requestAllowed x code = true ↔ (x, code) ∈
      [(1, 0), (2, 0), (3, 0), (0, 1), (0, 2), (1, 2), (0, 3), (1, 3), (2, 3), (0, 4), (1, 4), (2, 4), (3, 4), (4, 4),
       (0, 5), (1, 5), (2, 5), (3, 5), (4, 5), (4, 6)])) ∧
    (∀ i code, (i, code) ∈ [(Instr.regionReqActive r, 0), (.regionReqDoze r, 1), (.regionReqRetain r, 2), (.regionReqOff r, 3), (.regionReqFence r, 4),
        (.regionForcedFence r, 5), (.regionUnfence r, 6)] →
      requestAllowed st code = false ∨ (g.phase ≠ 0 ∧ code ≠ 5) → RunsOn .tsu i s (fun m => m.answered 0 ∧ refused m 9)) ∧
    (∀ i code, (i, code) ∈ [(Instr.regionReqDoze r, 1), (.regionReqRetain r, 2), (.regionReqOff r, 3), (.regionReqFence r, 4)] →
      requestAllowed st code = true → g.phase = 0 →
      (n.refuses r ≠ 0 → RunsOn .tsu i s (fun m => m.answered 0 ∧ refused m (n.refuses r))) ∧
      (n.refuses r = 0 → n.delays r ≠ 0 → RunsOn .tsu i s (fun m =>
        m.answered 0 ∧ m.rd (Ob.reg_answer r) = 10 ∧ m.rst r = st ∧ (m.regionOf r).req = some code ∧ (m.regionOf r).reqAt = n.tb1 ∧
        (m.regionOf r).delay = n.delays r ∧ m.log = n.log)) ∧
      (n.refuses r = 0 → n.delays r = 0 → RunsOn .tsu i s (fun m => m.answered 0 ∧ granted m code))) ∧
    (g.phase = 0 →
      (st = 1 → RunsOn .tsu (.regionReqActive r) s (fun m => m.answered 0 ∧ m.rd (Ob.reg_answer r) = 0 ∧ counted m 0 ∧
        (m.regionOf r).pwrGo = false ∧ (m.regionOf r).phase = 4 ∧ m.rst r = 1)) ∧
      (st = 2 ∨ st = 3 → RunsOn .tsu (.regionReqActive r) s (fun m => m.answered 0 ∧ m.rd (Ob.reg_answer r) = 0 ∧ counted m 0 ∧
        (m.regionOf r).phase = 5 ∧ (m.regionOf r).stage = 0 ∧ bit (m.regionOf r).puEn 0 = true ∧ (m.regionOf r).ret = false ∧ m.rst r = st)) ∧
      (st = 4 → RunsOn .tsu (.regionUnfence r) s (fun m => m.answered 0 ∧ m.rst r = 3 ∧ m.rd (Ob.reg_answer r) = 0 ∧ m.rd Ob.det_keyState = 1))) ∧
    (st ≤ 4 → RunsOn .tsu (.regionForcedFence r) s (fun m => m.answered 0 ∧ m.rst r = 4 ∧ (m.regionOf r).puEn = 0 ∧ (m.regionOf r).iso = 255 ∧
      (m.regionOf r).req = none ∧ (st ≤ 3 → m.rd Ob.det_keyState = 1))) ∧
    (∀ v,
      let w := s.tsu.regionOf r
      let k := (s.tsu.modRegion r (fun g => { g with pwrReq := v % 4 })).escrowFirst;
      (w.iso ≠ 0 ∨ w.pwrReq = v % 4 → exec (.regionPwrReqChange r v) s = .next s) ∧
      (w.iso = 0 → w.pwrReq ≠ v % 4 →
        (requestAllowed (k.rst r) (v % 4) = false ∨ (k.regionOf r).phase ≠ 0 → RunsOn .tsu (.regionPwrReqChange r v) s (fun m =>
          powerRefused k m r 9 ∧ (m.regionOf r).refuse = some k.tb1 ∧ (m.regionOf r).pwrReq = (k.regionOf r).pwrReq)) ∧
        (requestAllowed (k.rst r) (v % 4) = true → (k.regionOf r).phase = 0 → v % 4 ≠ 0 → k.refuses r = 0 → k.delays r = 0 →
          RunsOn .tsu (.regionPwrReqChange r v) s (fun m => powerGranted k m r (v % 4) ∧ (m.regionOf r).pwrReq = (k.regionOf r).pwrReq)))) ∧
    (g.req = none → exec (.powerGrant r) s = .next { s with tsu := n } ∧ exec (.powerDelayExpiry r) s = .next { s with tsu := n }) ∧
    (∀ code, g.req = some code → code = 1 ∨ code = 2 ∨ code = 3 ∨ code = 4 →
      (n.refuses r ≠ 0 → RunsOn .tsu (.powerGrant r) s (fun m => refused m (n.refuses r))) ∧
      (n.refuses r = 0 → n.delays r = 0 → RunsOn .tsu (.powerGrant r) s (fun m => granted m code)) ∧
      (n.refuses r = 0 → n.delays r ≠ 0 → RunsOn .tsu (.powerGrant r) s (fun m =>
        m.rd (Ob.reg_answer r) = 10 ∧ (m.regionOf r).req = some code ∧ m.rst r = st ∧ m.log = n.log)) ∧
      (n.tb1 < g.reqAt + n.rd (Ob.reg_delayLimit r) → exec (.powerDelayExpiry r) s = .next { s with tsu := n }) ∧
      (g.delay ≠ 0 → g.reqAt + n.rd (Ob.reg_delayLimit r) ≤ n.tb1 → n.refuses r = 0 → n.delays r ≠ 0 →
        RunsOn .tsu (.powerDelayExpiry r) s (fun m => refused m (n.delays r) ∧ counted m 2)))

/-- A state is entered on the tick after its handshake or on the power-good fall, a power-up passes four stages within their
limits, overruns are recorded as 0x82 (17 Power states, retention and start-up, R480, R481, R483, R484, 14 Hangs, faults and
recovery, R397, R398, R406, R407). -/
def Obligations.TheHandshakeAndThePowerUpOrderFollowTheirStages : Prop :=
  (∀ (s : State) (r : Nat), s.tsu.isHub = false → r < 1024 → s.tsu.hasRegion r = true →
    let n := s.tsu
    let g := n.regionOf r
    let st := n.rst r
    let counted := fun (m : Node) (k : Nat) =>
      fieldAt (m.rd (Ob.reg_counters r)) (8 * k) 8 = (fieldAt (n.rd (Ob.reg_counters r)) (8 * k) 8 + 1) % 2 ^ 64
    (∀ high, ((g.phase = 1 ∧ high = true) ∨ (g.phase = 4 ∧ high = false) → RunsOn .tsu (.pwrRdyChange r high) s (fun m =>
        (m.regionOf r).phase = 9 ∧ (m.regionOf r).phaseAt = n.tb1 ∧ (m.regionOf r).target = g.target ∧ m.objs = n.objs)) ∧
      ((g.phase ≠ 1 ∨ high = false) → (g.phase ≠ 4 ∨ high = true) → exec (.pwrRdyChange r high) s = .next s)) ∧
    (let limit := n.rd (Ob.reg_handshakeLimit r);
      (s.handshakes r = true → exec (.handshakeLimitExpiry r) s = .next s) ∧
      (s.handshakes r = false → g.phase = 1 → g.phaseAt + limit ≤ n.tb1 → RunsOn .tsu (.handshakeLimitExpiry r) s (fun m =>
        n.recorded m 0x82 ∧ counted m 4 ∧ (m.regionOf r).pwrGo = false ∧ (m.regionOf r).phase = 0 ∧ m.rst r = st)) ∧
      (s.handshakes r = false → g.phase = 4 → g.phaseAt + limit ≤ n.tb1 → st ≠ 5 → RunsOn .tsu (.handshakeLimitExpiry r) s (fun m =>
        n.recorded m 0x82 ∧ counted m 4 ∧ fieldAt (m.rd (Ob.watch_lastLadder r)) 0 1 = 0x82 ∧ (m.regionOf r).puEn = 0 ∧
        ((g.cycles.filter (fun t => n.tb1 < t + hourTicks)).length < n.rd (Ob.watch_cycleBudget r) →
          m.rd (Ob.watch_ladderState r) = 4 ∧ m.rst r = 3) ∧
        (n.rd (Ob.watch_cycleBudget r) ≤ (g.cycles.filter (fun t => n.tb1 < t + hourTicks)).length →
          m.rd (Ob.watch_ladderState r) = 5 ∧ m.rst r = 5))) ∧
      (n.tb1 < g.phaseAt + limit → exec (.handshakeLimitExpiry r) s = .next s)) ∧
    (g.pgood = false → exec (.pgoodFallGranted r) s = .next s) ∧
    (g.pgood = true →
      (g.phase = 2 ∨ g.phase = 3 → RunsOn .tsu (.pgoodFallGranted r) s (fun m =>
        (m.regionOf r).pgood = false ∧ m.rst r = g.target ∧ (m.regionOf r).phase = 0 ∧ (m.regionOf r).pwrGo = false)) ∧
      (g.phase = 6 → RunsOn .tsu (.pgoodFallGranted r) s (fun m =>
        (m.regionOf r).pgood = false ∧ (m.regionOf r).phase = (if g.ladder = 3 then 8 else 0) ∧ (m.regionOf r).phaseAt = n.tb1 ∧ m.rst r = st)) ∧
      (g.phase ≠ 2 → g.phase ≠ 3 → g.phase ≠ 6 → exec (.pgoodFallGranted r) s = .next s)) ∧
    (let limit := ticksOfUs (n.rd (Ob.reg_powerGoodFallLimit r));
      (g.phase = 2 → g.pgood = true → g.phaseAt + limit ≤ n.tb1 → RunsOn .tsu (.pgoodFallLimitExpiry r) s (fun m =>
        n.recorded m 0x82 ∧ counted m 4 ∧ (m.regionOf r).puEn = 0 ∧ (m.regionOf r).phase = 3 ∧ (m.regionOf r).phaseAt = n.tb1 ∧ m.rst r = st)) ∧
      (g.phase = 3 → g.pgood = true → g.phaseAt + limit ≤ n.tb1 → RunsOn .tsu (.pgoodFallLimitExpiry r) s (fun m =>
        n.recorded m 0x74 ∧ m.rst r = 5 ∧ (m.regionOf r).iso = 255 ∧ (m.regionOf r).puEn = 0)) ∧
      (n.tb1 < g.phaseAt + limit ∨ g.pgood = false → exec (.pgoodFallLimitExpiry r) s = .next s)) ∧
    (let limit := n.stageLimit r g.stage;
      (g.phase = 5 → n.tb1 ≤ g.phaseAt + limit →
        (g.stage < 3 → RunsOn .tsu (.powerStageReady r) s (fun m =>
          (m.regionOf r).stage = g.stage + 1 ∧ (m.regionOf r).phaseAt = n.tb1 ∧ (m.regionOf r).phase = 5 ∧
          bit (m.regionOf r).puEn (g.stage + 1) = !(g.stage == 1 && bit g.puEn 2) ∧ (g.stage = 0 → (m.regionOf r).pgood = true) ∧ m.rst r = st)) ∧
        (g.stage = 3 → RunsOn .tsu (.powerStageReady r) s (fun m =>
          (m.regionOf r).phase = 7 ∧ (m.regionOf r).phaseAt = n.tb1 ∧ (m.regionOf r).iso = g.iso ∧ m.rst r = st))) ∧
      (g.phase ≠ 5 ∨ g.phaseAt + limit < n.tb1 → exec (.powerStageReady r) s = .next s) ∧
      (s.readies r = true → exec (.powerStageTimeout r) s = .next s) ∧
      (s.readies r = false → g.phase = 5 → g.phaseAt + limit ≤ n.tb1 →
        (g.ladder ≠ 3 → RunsOn .tsu (.powerStageTimeout r) s (fun m =>
          n.recorded m 0x82 ∧ counted m 4 ∧ (m.regionOf r).puEn = 0 ∧ (m.regionOf r).iso = 255 ∧ m.rst r = 3)) ∧
        (g.ladder = 3 → RunsOn .tsu (.powerStageTimeout r) s (fun m => n.recorded m 0x82 ∧ n.recorded m 0x74 ∧ counted m 4 ∧ m.rst r = 5))) ∧
      (g.phase ≠ 5 ∨ n.tb1 < g.phaseAt + limit → exec (.powerStageTimeout r) s = .next s))) ∧
  (∀ (n : Node) (r : Nat), r < 1024 → (n.regionOf r).ladder = 0 →
    let g := n.regionOf r
    let m := n.regionTick r
    (g.phase = 9 → g.phaseAt < n.tb1 → m.rst r = g.target ∧ (m.regionOf r).phase = 0) ∧
    (g.phase = 5 → g.stage = 2 → bit g.puEn 2 = false → g.phaseAt < n.tb1 → bit (m.regionOf r).puEn 2 = true ∧ m.objs = n.objs) ∧
    (g.phase = 2 → g.pwrGo = false → g.phaseAt + 2 ≤ n.tb1 → (m.regionOf r).pwrGo = true ∧ m.objs = n.objs) ∧
    (g.phase = 7 → g.phaseAt + 2 ≤ n.tb1 → m.rst r = 0 ∧ (m.regionOf r).iso = 0 ∧ (m.regionOf r).cstop = 0) ∧
    (g.phase = 9 → n.tb1 ≤ g.phaseAt → m = n) ∧ (g.phase = 2 ∨ g.phase = 7 → n.tb1 < g.phaseAt + 2 → m = n))

/-- The Vault holds each stored value that differs from its default, sleep saves and holds the lanes, and start-up loads fuses,
Vault and image in order (17 Power states, retention and start-up, R487, R488, R489, R490, R491, R492, R493, R499, R505, 18
Integration and physical data, R513). -/
def Obligations.TheVaultSleepsRestoresAndATsuStarts : Prop :=
  (∀ (s : State), s.tsu.isHub = false →
    let n := s.tsu
    (∀ o, rwsObj n.kind o = true → RunsOn .tsu (.vaultWriteThrough o) s (fun m =>
      (m.vault.recs.find? (fun e => e.1 == o && e.2.1 == 1)).map (fun e => e.2.2) = (if n.rd o = dfltOf n.kind o then none else some (n.rd o)) ∧
      m.vault.recs.filter (fun e => !(e.1 == o && e.2.1 == 1)) = n.vault.recs.filter (fun e => !(e.1 == o && e.2.1 == 1)) ∧ m.rd o = n.rd o)) ∧
    RunsOn .tsu .sleepRequest s (fun m =>
      m.vault.sleepAck = true ∧ m.rd Ob.vlt_vaultState = 2 ∧ m.rd Ob.vlt_saves = (n.rd Ob.vlt_saves + 1) % 2 ^ 64 ∧ m.vault.saveTick = n.tb1 ∧
      (∀ p, p < 2 → m.lst p = 0 ∧ m.rd (Ob.link_enable p) = n.rd (Ob.link_enable p)) ∧ m.start.darkHold = true ∧
      m.vault.recs.filter (fun e => e.2.1 == 2) = sleepObjs.map (fun o => (o, 2, m.rd o)) ∧
      m.vault.recs.filter (fun e => e.2.1 != 2) = n.vault.recs.filter (fun e => e.2.1 != 2) ∧
      (n.regionCount ≤ 1024 → m.vault.regions = (upTo n.regionCount).map (fun r => (r, n.rst r)))) ∧
    (n.vault.sleepAck = true → RunsOn .tsu .sleepWithdraw s (fun m =>
      m.vault = { n.vault with sleepAck := false } ∧ m.start.darkHold = false ∧ m.objs = n.objs ∧
      ∀ p, p < 2 → n.rd (Ob.link_enable p) ≠ 0 → (m.linkOf p).restart = some n.tb1)) ∧
    (n.vault.sleepAck = false → exec .sleepWithdraw s = .next s) ∧
    RunsOn .tsu .tsuReset s (fun m => m.rd Ob.su_startUpState = 0 ∧ m.tb1 = 0 ∧ m.vault = { n.vault with sleepAck := false } ∧
      m.rd Ob.vlt_vaultState = n.rd Ob.vlt_vaultState ∧ m.start.ready = false ∧ m.log = [] ∧ m.kind = n.kind ∧
      ∀ r, (m.regionOf r).pgood = (n.kind == .edge && r == 0)) ∧
    (n.rd Ob.su_startUpState = 0 → ∀ b, RunsOn .tsu (.tsuStartupStageDone b) s (fun m =>
      let word := fun (i : Nat) => leVal ((b.drop (4 * i)).take 4)
      m.rd Ob.su_startUpState = 1 ∧ m.rd Ob.idn_uniqueNumber = word 0 + word 1 * 2 ^ 32 ∧ m.rd Ob.idn_stepping = word 2 % 65536 ∧
      m.rd Ob.idn_integrator = word 3 ∧
      m.rd Ob.det_fuseSettingsDigest = blake3 ((upTo (4 * min 1007 (word 16 % 1024))).map (fun i => b.getD (68 + i) 0)) ∧
      m.start.stageAt = n.tb1)) ∧
    (n.rd Ob.su_startUpState = 1 → ∀ b,
      (n.vault.checkOk = false → RunsOn .tsu (.tsuStartupStageDone b) s (fun m =>
        m.rd Ob.su_startUpState = 2 ∧ m.vault.recs = [] ∧ m.rd Ob.vlt_vaultState = 0 ∧ n.recorded m 0x83)) ∧
      (n.vault.checkOk = true → (n.vault.regions.map (·.1)).Nodup → (∀ e ∈ n.vault.regions, e.1 < 1024) → RunsOn .tsu (.tsuStartupStageDone b) s (fun m =>
        m.rd Ob.su_startUpState = 2 ∧ m.vault = n.vault ∧ (∀ e ∈ n.vault.regions, e.2 = 4 ∨ e.2 = 5 → m.rst e.1 = e.2) ∧
        (∀ r, (r ∈ m.start.toWake ↔ (r, 0) ∈ n.vault.regions ∨ (r, 1) ∈ n.vault.regions))))) ∧
    (n.rd Ob.su_startUpState = 2 → ∀ b,
      (n.imageCheck b ≠ 0 → RunsOn .tsu (.tsuStartupStageDone b) s (fun m =>
        m.rd Ob.su_startUpState = 4 ∧ n.recorded m 0x9A ∧ m.vault = n.vault ∧ m.start.ready = n.start.ready ∧ m.start.darkHold = n.start.darkHold)) ∧
      (n.imageCheck b = 0 → RunsOn .tsu (.tsuStartupStageDone b) s (fun m =>
        m.rd Ob.su_startUpState = 3 ∧ m.start.imageGen = imgGen b ∧ m.start.toWake = [] ∧
        (∀ r ∈ n.start.toWake, (m.regionOf r).phase = 5 ∧ (m.regionOf r).stage = 0) ∧
        m.vault.recs = (if n.vault.gen = imgGen b then n.vault.recs.filter (fun e => e.2.1 == 1) else []) ∧
        (∀ o v, n.vault.recs = [(o, 1, v)] → rwsObj n.kind o = true → n.vault.gen = imgGen b → m.rd o = keepBits o v ∧ m.rd Ob.vlt_vaultState = 1) ∧
        (∀ o v w, n.vault.recs = [(o, 1, v), (o, 2, w)] → o ∈ sleepObjs → o ≠ Ob.hall_hallAnchor → m.rd o = keepBits o w)))) ∧
    (n.rd Ob.su_startUpState = 3 → ∀ b,
      (n.start.ready = false → RunsOn .tsu (.tsuStartupStageDone b) s (fun m =>
        m.start.ready = true ∧ m.start.darkHold = false ∧ m.rd Ob.su_startUpState = 3)) ∧
      (n.start.ready = true → exec (.tsuStartupStageDone b) s = .next s)) ∧
    (n.rd Ob.su_startUpState = 4 → (∀ b, exec (.tsuStartupStageDone b) s = .next s) ∧
      RunsOn .tsu .configRefetch s (fun m => m.rd Ob.su_startUpState = 2 ∧ m.answered 0)) ∧
    (n.rd Ob.su_startUpState ≠ 4 → RunsOn .tsu .configRefetch s (fun m =>
      m.rd Ob.su_startUpState = n.rd Ob.su_startUpState ∧ m.answered 3))) ∧
  (∀ (s : State) (u : Who) (limit code : Nat), Works s u →
    let n := s.node u
    let st := n.rd (if n.isHub = true then Ob.fw_startUpState else Ob.su_startUpState)
    stageCode n.isHub st = some (limit, code) →
    (n.start.stageAt + limit < n.tb1 → st ∉ n.start.told →
      ((n.isHub = false ∨ st = 2) → RunsOn u (.startupStageTimeout u) s (fun m => n.recorded m 0x82 ∧ st ∈ m.start.told)) ∧
      (n.isHub = true → st < 2 → RunsOn u (.startupStageTimeout u) s (fun m =>
        m.hpwr.latent = n.hpwr.latent ++ [(0x82, put 79 72 code + put 63 0 limit)] ∧ st ∈ m.start.told ∧ m.log = n.log))) ∧
    (n.tb1 ≤ n.start.stageAt + limit ∨ st ∈ n.start.told → exec (.startupStageTimeout u) s = .next s))

/-- A hub rests only without spans, lit ports or root duty, visits its sentinel port and moves TB1 by the offset, answers pings,
wakes, and is restored from OFF (17 Power states, retention and start-up, R494, R495, R496, R497, R498, R506, 03 Carrying
time down the tree, R73, R81, 18 Integration and physical data, R533). -/
def Obligations.HubsRestVisitTheirTickAndWake : Prop :=
  (∀ (s : State), Works s .hub → s.hub.isHub = true →
    let n := s.hub
    let port := n.rd Ob.pwr_sentinelPort
    let quiet := n.spans = [] ∧ (∀ p, p < 68 → n.lst p = 0 ∧ n.rd (Ob.link_enable p) = 0) ∧ n.isRoot = false
    (quiet → RunsOn .hub .hubOffCommand s (fun m => m.hpwr.state = 2 ∧ m.hpwr.chipOn = false ∧ m.answered 0)) ∧
    (quiet → n.rd (Ob.tport_exchanges port) ≠ 0 → RunsOn .hub .hubSentinelCommand s (fun m =>
      m.hpwr.state = 1 ∧ m.rd Ob.pwr_sentinelDelay = ofS 64 ((n.rdS 64 (Ob.tport_roundTrip port) + n.rdS 32 (Ob.tport_asymmetry port)) / 2) ∧
      m.hpwr.missRun = 0 ∧ m.answered 0 ∧ m.links = n.links)) ∧
    (¬ quiet → RunsOn .hub .hubOffCommand s (fun m => m.hpwr = n.hpwr ∧ m.answered 3)) ∧
    (¬ quiet ∨ n.rd (Ob.tport_exchanges port) = 0 → RunsOn .hub .hubSentinelCommand s (fun m => m.hpwr = n.hpwr ∧ m.answered 3)) ∧
    (∀ p periods, p < 68 →
      (n.lst p = 0 → n.rd (Ob.link_enable p) = 0 → n.rd (Ob.sent_sentinelService p) = 1 → n.rd Ob.time_timeState = 2 → 4 ≤ periods → periods ≤ 15 →
        RunsOn .hub (.sentinelPong p periods) s (fun m => m.links = n.links ∧ m.objs = n.objs ∧
          ∃ t, m.hpwr.pongs = n.hpwr.pongs ++ [(p, t)] ∧ t % 1048576 = 0 ∧ n.tb1 + 2048 ≤ t ∧ t < n.tb1 + 2048 + 1048576)) ∧
      (n.lst p ≠ 0 ∨ n.rd (Ob.link_enable p) ≠ 0 ∨ n.rd (Ob.sent_sentinelService p) ≠ 1 ∨ n.rd Ob.time_timeState ≠ 2 ∨ periods < 4 ∨ 15 < periods →
        exec (.sentinelPong p periods) s = .next s))) ∧
  (∀ (s : State) (stamp : Nat),
    let n := s.hub
    let due := n.hpwr.sentAt + ticksOfMs (n.rd Ob.pwr_sentinelInterval) ≤ n.tb1 ∧ n.tb1 % 1048576 = 1048576 - 16384
    let record := n.rd Ob.pwr_sentinelRecord
    (n.hpwr.state ≠ 1 → exec (.sentinelVisit stamp) s = .next s) ∧
    (n.hpwr.state = 1 → n.hpwr.pingAt = none →
      (due → n.tb1 < 2 ^ 64 → RunsOn .hub (.sentinelVisit stamp) s (fun m =>
        m.hpwr.pingAt = some n.tb1 ∧ fieldAt (m.rd Ob.pwr_sentinelRecord) 0 4 = (fieldAt record 0 4 + 1) % 2 ^ 32 ∧
        fieldAt (m.rd Ob.pwr_sentinelRecord) 16 8 = n.tb1 ∧ m.log = n.log ∧ m.tb1 = n.tb1)) ∧
      (¬ due → exec (.sentinelVisit stamp) s = .next s)) ∧
    (∀ t, n.hpwr.state = 1 → n.hpwr.pingAt = some t →
      (stamp ≠ 0 → n.tb1 < t + 2097152 → RunsOn .hub (.sentinelVisit stamp) s (fun m => ∃ theta j k : Int,
        theta = (stamp : Int) - n.rdS 64 Ob.pwr_sentinelDelay - j * 2 ^ 36 ∧ -(2 ^ 35) ≤ theta ∧ theta < 2 ^ 35 ∧
        m.tb1 = (((n.tb1 : Int) - theta / 65536) % (2 ^ 64)).toNat ∧ 128 * k - 64 ≤ theta % 65536 ∧ theta % 65536 ≤ 128 * k + 64 ∧
        m.rd Ob.time_phaseMoved = ofS 64 (n.rdS 64 Ob.time_phaseMoved + k) ∧ toS 64 (fieldAt (m.rd Ob.pwr_sentinelRecord) 8 8) = theta ∧
        m.rd Ob.time_timeState = 1 ∧ m.hpwr.pingAt = none ∧ m.hpwr.missRun = 0 ∧ m.log = n.log)) ∧
      (stamp = 0 → n.tb1 < t + 2097152 → exec (.sentinelVisit stamp) s = .next s) ∧
      (t + 2097152 ≤ n.tb1 → RunsOn .hub (.sentinelVisit stamp) s (fun m =>
        m.hpwr.pingAt = none ∧ m.hpwr.missRun = n.hpwr.missRun + 1 ∧ m.log = n.log ∧ m.tb1 = n.tb1 ∧
        fieldAt (m.rd Ob.pwr_sentinelRecord) 4 4 = (fieldAt record 4 4 + 1) % 2 ^ 32 ∧
        m.rd Ob.time_timeState = (if 2 ≤ n.hpwr.missRun then 0 else n.rd Ob.time_timeState))))) ∧
  (∀ (s : State) (cause p : Nat), cause < 256 → p < 68 →
    let n := s.hub
    (n.hpwr.state = 1 → cause ≠ 0 → RunsOn .hub (.sentinelWake cause p) s (fun m =>
      m.hpwr.state = 0 ∧ (∀ q, q < 68 → m.rd (Ob.link_enable q) = fieldAt (n.rd Ob.pwr_wakeEnables) q 1) ∧
      fieldAt (m.rd Ob.pwr_sentinelRecord) 24 1 = cause ∧ fieldAt (m.rd Ob.pwr_sentinelRecord) 25 1 = p ∧ m.tb1 = n.tb1)) ∧
    (n.hpwr.state ≠ 1 ∨ cause = 0 → exec (.sentinelWake cause p) s = .next s)) ∧
  (∀ (s : State), s.hub.isHub = true →
    let n := s.hub
    (n.hpwr.state = 2 ∨ n.hpwr.chipOn = false → RunsOn .hub .modulePowerButton s (fun m =>
      m.rd Ob.fw_startUpState = 0 ∧ m.running = true ∧ m.lead.leading = (n.plane == 0) ∧ m.hpwr.flash = n.hpwr.flash ∧ m.hpwr.fwImg = n.hpwr.fwImg ∧ m.hpwr.cfgImg = n.hpwr.cfgImg ∧
      m.hpwr.latent = n.hpwr.latent ∧ m.spans = [] ∧ ∀ op, (m.operator op).stored = (n.operator op).stored)) ∧
    (n.hpwr.state ≠ 2 → n.hpwr.chipOn = true → exec .modulePowerButton s = .next s))

/-- A hub starts in stages and recovers images from its twin; updates, flash, telemetry, supply, thermal limits, couplings and
latency codes act as stated (17 Power states, retention and start-up, R499, R500, R501, R502, R503, 18 Integration and
physical data, R510, R527, R532, R533, R534). -/
def Obligations.HubsStartUpdateTheirFirmwareAndKeepTheirModule : Prop :=
  (∀ (s : State), Works s .hub → s.hub.isHub = true →
    let n := s.hub
    let st := n.rd Ob.fw_startUpState
    (∀ b,
      (st = 0 → RunsOn .hub (.hubStartupStageDone b) s (fun m => m.rd Ob.fw_startUpState = 1 ∧ m.rd Ob.idn_uniqueNumber = leVal (b.take 8) ∧
        (∀ i, i < 2 → m.rd (Ob.tport_asymmetry (66 + i)) = leVal ((b.drop (616 + 4 * i)).take 4) ∧ m.rd (Ob.tport_calibration (66 + i)) = 3))) ∧
      (st = 1 → blake3 n.hpwr.fwImg = n.hpwr.fwDig → RunsOn .hub (.hubStartupStageDone b) s (fun m =>
        m.rd Ob.fw_startUpState = 2 ∧ m.rd Ob.idn_version = n.hpwr.fwVer ∧ m.hpwr.latent = [] ∧
        (∀ c d, n.hpwr.latent = [(c, d)] → c < 256 → n.recorded m c))) ∧
      (st = 1 → blake3 n.hpwr.fwImg ≠ n.hpwr.fwDig → RunsOn .hub (.hubStartupStageDone b) s (fun m =>
        m.rd Ob.fw_startUpState = 1 ∧ m.start.fwOk = false ∧ m.hpwr.latent = n.hpwr.latent ∧
        (n.hpwr.fwAsked = none → m.hpwr.fwAsked = some n.tb1) ∧
        (∀ t, n.hpwr.fwAsked = some t → m.hpwr.fwAsked = some (if t + tps ≤ n.tb1 then n.tb1 else t)))) ∧
      (st = 2 → n.imageCheck n.hpwr.cfgImg = 0 → RunsOn .hub (.hubStartupStageDone b) s (fun m =>
        m.rd Ob.fw_startUpState = 3 ∧ m.hpwr.cfgOk = true ∧ m.start.imageGen = imgGen n.hpwr.cfgImg)) ∧
      (st = 2 → n.imageCheck n.hpwr.cfgImg ≠ 0 →
        ((n.imageFault (n.imageCheck n.hpwr.cfgImg) n.hpwr.cfgImg).imageCheck b = 0 → RunsOn .hub (.hubStartupStageDone b) s (fun m =>
          m.rd Ob.fw_startUpState = 3 ∧ m.hpwr.cfgOk = true ∧ m.hpwr.cfgImg = b)) ∧
        ((n.imageFault (n.imageCheck n.hpwr.cfgImg) n.hpwr.cfgImg).imageCheck b ≠ 0 → RunsOn .hub (.hubStartupStageDone b) s (fun m =>
          m.rd Ob.fw_startUpState = 3 ∧ m.hpwr.cfgOk = n.hpwr.cfgOk ∧ n.recorded m 0x9A))) ∧
      (st = 3 → n.start.ready = false → RunsOn .hub (.hubStartupStageDone b) s (fun m =>
        m.start.ready = true ∧ (n.hpwr.cfgOk = true → m.start.darkHold = false) ∧ (n.hpwr.cfgOk = false → m.start.darkHold = n.start.darkHold)))) ∧
    (∀ len dig, RunsOn .hub (.firmwareUpdateBegin len dig) s (fun m =>
      m.answered 0 ∧ m.rd Ob.fw_updateState = 1 ∧ m.hpwr.segs = [] ∧ m.hpwr.updLen = len ∧ m.hpwr.updDig = dig ∧ m.hpwr.fwImg = n.hpwr.fwImg)) ∧
    (∀ data,
      (data.length ≠ 65536 → RunsOn .hub (.firmwareSegmentWrite data) s (fun m => m.answered 4 ∧ m.hpwr = n.hpwr)) ∧
      (data.length = 65536 → n.rd Ob.fw_updateState ≠ 1 → RunsOn .hub (.firmwareSegmentWrite data) s (fun m => m.answered 3 ∧ m.hpwr = n.hpwr)) ∧
      (data.length = 65536 → n.rd Ob.fw_updateState = 1 → RunsOn .hub (.firmwareSegmentWrite data) s (fun m => m.answered 0 ∧
        (m.hpwr.segs.find? (fun e => e.1 == n.rd Ob.fw_segmentSelect)).map (·.2) = some data ∧
        ∀ k, k ≠ n.rd Ob.fw_segmentSelect → m.hpwr.segs.find? (fun e => e.1 == k) = n.hpwr.segs.find? (fun e => e.1 == k)))) ∧
    (n.rd Ob.fw_updateState ≠ 1 → RunsOn .hub .firmwareUpdateCommit s (fun m => m.answered 3 ∧ m.hpwr = n.hpwr)) ∧
    (n.rd Ob.fw_updateState = 1 → (∀ e ∈ n.hpwr.segs, e.2.length = 65536) → RunsOn .hub .firmwareUpdateCommit s (fun m =>
      m.answered 0 ∧ m.hpwr.fwImg.length = n.hpwr.updLen ∧ m.hpwr.fwDig = n.hpwr.updDig ∧
      (∀ k e, n.hpwr.segs.find? (fun e => e.1 == k) = some e → 65536 * k < n.hpwr.updLen →
        (m.hpwr.fwImg.drop (65536 * k)).take 65536 = e.2.take (n.hpwr.updLen - 65536 * k)) ∧
      m.rd Ob.fw_updateState = (if blake3 m.hpwr.fwImg = n.hpwr.updDig then 0 else 3))) ∧
    RunsOn .hub .firmwareUpdateAbandon s (fun m => m.answered 0 ∧ m.rd Ob.fw_updateState = 0 ∧ m.hpwr.segs = [] ∧ m.hpwr.fwImg = n.hpwr.fwImg) ∧
    (∀ p x, p < 68 → n.peek p (isTwinKind 5) = some x →
      let off := fld x.head 123 92
      let held := n.hpwr.recov.filter (fun e => e.1 != off) ++ [(off, payloadBytes x 96)]
      let len := n.hpwr.fwImg.length
      let img := ((upTo ((len + 95) / 96)).flatMap (fun k => ((held.find? (fun e => e.1 == 96 * k)).map (·.2)).getD [])).take len
      let dig := ((held.find? (fun e => e.1 == digestOffset)).map (fun e => leVal (e.2.take 32))).getD 0
      let last := len ≤ (if off = digestOffset then 0 else off + 96)
      (st ≠ 1 ∨ n.start.fwOk = true → RunsOn .hub (.firmwareTwinRecovery p) s (fun m => m.hpwr = n.hpwr ∧ m.objs = n.objs)) ∧
      (st = 1 → n.start.fwOk = false →
        (¬ last → RunsOn .hub (.firmwareTwinRecovery p) s (fun m => m.hpwr.recov = held ∧ m.hpwr.fwAsked = some n.tb1 ∧ m.hpwr.fwImg = n.hpwr.fwImg)) ∧
        (last → img.length = len → blake3 img = dig → RunsOn .hub (.firmwareTwinRecovery p) s (fun m =>
          m.hpwr.fwImg = img ∧ m.hpwr.fwDig = dig ∧ m.rd Ob.fw_startUpState = 0 ∧ m.lead.leading = false ∧
          m.hpwr.latent.any (fun e => e.1 == 0x9B) = true)) ∧
        (last → img.length ≠ len ∨ blake3 img ≠ dig → RunsOn .hub (.firmwareTwinRecovery p) s (fun m =>
          m.hpwr.recov = [] ∧ m.hpwr.fwAsked = some n.tb1 ∧ m.hpwr.fwImg = n.hpwr.fwImg)))) ∧
    (∀ p x, p < 68 → n.peek p (isTwinKind 4) = some x → RunsOn .hub (.twinFirmwareRequest p) s (fun m => m.hpwr = n.hpwr ∧
      ∀ q, q = 66 ∨ q = 67 → 5 ≤ n.lst q → ∃ y ∈ (m.linkOf q).c3, isTwinKind 5 y.msg = true ∧ fld y.msg.head 123 92 = fld x.head 123 92 ∧
        y.msg.cells.length = 7)) ∧
    (∀ o,
      let rest := if o = Ob.ref_dacWord then 3600 * tps else if n.rd Ob.fla_wearFlag = 1 then 60 * tps else 0
      let rested := rest = 0 ∨ ∀ e, n.hpwr.lastFlash.find? (fun e => e.1 == o) = some e → e.2 + rest ≤ n.tb1
      (n.flashDue o = false ∨ ¬ rested → exec (.flashWriteBack o) s = .next s) ∧
      (n.flashDue o = true → rested → RunsOn .hub (.flashWriteBack o) s (fun m =>
        assoc (dfltOf n.kind o) m.hpwr.flash o = n.rd o ∧ m.rd o = n.rd o ∧
        (∀ q, q ≠ o → assoc (dfltOf n.kind q) m.hpwr.flash q = assoc (dfltOf n.kind q) n.hpwr.flash q) ∧
        ∃ k, k < 1024 ∧ fieldAt (m.rd Ob.fla_eraseCounts) (4 * k) 4 = (fieldAt (n.rd Ob.fla_eraseCounts) (4 * k) 4 + 1) % 2 ^ 32 ∧
          (∀ j, j < 1024 → j ≠ k → fieldAt (m.rd Ob.fla_eraseCounts) (4 * j) 4 = fieldAt (n.rd Ob.fla_eraseCounts) (4 * j) 4) ∧
          (n.rd Ob.fla_warningLevel ≤ fieldAt (n.rd Ob.fla_eraseCounts) (4 * k) 4 + 1 → m.rd Ob.fla_wearFlag = 1)))) ∧
    RunsOn .hub .partnerPower s (fun m => m.hpwr.partnerReq = n.hpwr.partnerReq + 1 ∧ m.answered 0) ∧
    (∀ i, i < 8 → RunsOn .hub (.refinCouplingSet i) s (fun m =>
      bit (m.rd Ob.mdl_coupling) i = (n.rd (Ob.ev_nominalCode i) == 1 || n.rd (Ob.ev_nominalCode i) == 2 || n.rd (Ob.ev_nominalCode i) == 3) ∧
      ∀ j, j < 8 → j ≠ i → bit (m.rd Ob.mdl_coupling) j = bit (n.rd Ob.mdl_coupling) j))) ∧
  (∀ (s : State) (u : Who) (v : Nat), Works s u →
    let n := s.node u
    (n.tb1 % 16777216 = 0 → RunsOn u (.telemetryUpdate u v) s (fun m =>
      (n.isHub = true → m.rd Ob.tel_telemetry = v % 2 ^ 128) ∧ (n.isHub = false → m.rd Ob.su_telemetry = v % 2 ^ 48))) ∧
    (n.tb1 % 16777216 ≠ 0 → exec (.telemetryUpdate u v) s = .next s)) ∧
  (∀ (s : State) (kind mv ma : Nat),
    let n := s.hub
    let real := (kind = 1 ∧ mv < 38000) ∨ (kind = 2 ∧ 62000 < mv) ∨ (kind = 3 ∧ 11000 < ma) ∨ kind = 4
    let off := (kind = 1 ∧ mv < 36000) ∨ (kind = 2 ∧ 64000 < mv) ∨ kind = 4
    let detail := put 79 72 kind + put 71 40 mv + put 39 8 ma
    (¬ real → exec (.moduleSupplyFault kind mv ma) s = .next s) ∧
    (real → off ∨ n.hpwr.chipOn = false → RunsOn .hub (.moduleSupplyFault kind mv ma) s (fun m =>
      m.hpwr.chipOn = false ∧ m.hpwr.latent = n.hpwr.latent ++ [(0x85, detail)] ∧ m.log = n.log)) ∧
    (real → ¬ off → n.hpwr.chipOn = true → RunsOn .hub (.moduleSupplyFault kind mv ma) s (fun m =>
      n.recorded m 0x85 ∧ m.hpwr = n.hpwr))) ∧
  (∀ (s : State) (u : Who) (port temp : Nat), Works s u → port < 68 →
    let n := s.node u
    let t := toS 16 temp
    (n.isHub = false →
      (1680 ≤ t → 128 ∉ n.hpwr.hot → RunsOn u (.thermalThreshold u 1 port temp) s (fun m => n.recorded m 0x86 ∧ 128 ∈ m.hpwr.hot)) ∧
      (1680 ≤ t → 128 ∈ n.hpwr.hot → exec (.thermalThreshold u 1 port temp) s = .next s)) ∧
    (n.isHub = true →
      (1600 ≤ t → 128 ∉ n.hpwr.hot → RunsOn u (.thermalThreshold u 1 port temp) s (fun m =>
        n.recorded m 0x86 ∧ bit (m.rd Ob.mdl_thermalState) 0 = true ∧ m.hpwr.chipOn = n.hpwr.chipOn)) ∧
      (1760 ≤ t → 256 ∉ n.hpwr.hot → RunsOn u (.thermalThreshold u 2 port temp) s (fun m =>
        m.hpwr.chipOn = false ∧ m.hpwr.latent = n.hpwr.latent ++ [(0x86, put 79 72 2 + put 63 48 temp)] ∧ m.log = n.log)) ∧
      (1120 ≤ t → 384 + port ∉ n.hpwr.hot → RunsOn u (.thermalThreshold u 3 port temp) s (fun m =>
        n.recorded m 0x86 ∧ bit (m.rd Ob.mdl_thermalState) 1 = true ∧ m.links = n.links)) ∧
      (1200 ≤ t → 512 + port ∉ n.hpwr.hot → RunsOn u (.thermalThreshold u 4 port temp) s (fun m =>
        n.recorded m 0x86 ∧ (m.linkOf port).sqThermal = true ∧ bit (m.rd Ob.mdl_thermalState) 2 = true)) ∧
      (1040 < t → t < 1200 → exec (.thermalThreshold u 4 port temp) s = .next s) ∧
      (t ≤ 1040 → 512 + port ∈ n.hpwr.hot → RunsOn u (.thermalThreshold u 4 port temp) s (fun m =>
        (m.linkOf port).sqThermal = false ∧ 512 + port ∉ m.hpwr.hot ∧ m.log = n.log)))) ∧
  (∀ (s : State) (p tx rx : Nat), s.tsu.isHub = false → p < 2 →
    RunsOn .tsu (.hostLatencyCodesValid p tx rx) s (fun m =>
      m.rd (Ob.tport_hostLatencyCodes p) = put 31 16 tx + put 15 0 rx ∧ (m.linkOf p).latTx = (s.tsu.linkOf p).latTx ∧
      (m.linkOf p).latRx = (s.tsu.linkOf p).latRx ∧ (m.newLatency.linkOf p).latTx = toS 16 tx ∧ (m.newLatency.linkOf p).latRx = toS 16 rx))
end

