-- ==== Sys2Proof/Laws/InTick.lean ====
section
/-! SUPPORT. What the rows that a tick owes first do on a TSU to which nothing is due: nothing. A prover who has no wave, no message and no
context at hand takes `s.tsu.escrowFirst` and its like away with these. -/

namespace Sys2Proof.Machine

/-- No wave waits on a lane and no context is held. -/
theorem Node.abortsFirst_idle {n : Node} (h0 : (n.linkOf 0).waveIn = []) (h1 : (n.linkOf 1).waveIn = []) (hc : n.ctxs = []) :
    n.abortsFirst = n := by
  simp [Node.abortsFirst, Node.ctxNumbers, overAll, h0, h1, hc]

/-- No message waits either. -/
theorem Node.messagesFirst_idle {n : Node} (h0 : (n.linkOf 0).waveIn = []) (h1 : (n.linkOf 1).waveIn = []) (hc : n.ctxs = [])
    (t0 : (n.linkOf 0).taken = []) (t1 : (n.linkOf 1).taken = []) : n.messagesFirst = n := by
  have h : n.waitingMsgs = 0 := by simp [Node.waitingMsgs, t0, t1]
  simp [Node.messagesFirst, Node.abortsFirst_idle h0 h1 hc, h, takeEscrows]

/-- The rows of 10 R266 then change nothing. -/
theorem Node.escrowFirst_idle {n : Node} (h0 : (n.linkOf 0).waveIn = []) (h1 : (n.linkOf 1).waveIn = []) (hc : n.ctxs = [])
    (t0 : (n.linkOf 0).taken = []) (t1 : (n.linkOf 1).taken = []) : n.escrowFirst = n := by
  simp [Node.escrowFirst, Node.messagesFirst_idle h0 h1 hc t0 t1, Node.ctxNumbers, overAll, hc]

/-- While no context is held, what precedes the entries of a context are the results and releases of the tick alone. -/
theorem Node.entriesBelow_idle {n : Node} (c : Nat) (hc : n.resultsFirst.ctxs = []) : n.entriesBelow c = n.resultsFirst := by
  simp [Node.entriesBelow, Node.ctxNumbers, overAll, hc]

end Sys2Proof.Machine
end

