-- ==== Sys2Proof/Laws/Store.lean ====
section
/-! SUPPORT. What a store and a table hold after a change, and that a write keeps a node sound. -/

namespace Sys2Proof.Machine

/-- A key that is dropped is not listed. -/
theorem storeGet_storeDrop_same (d : Nat) (st : Store) (o : Nat) : storeGet d (storeDrop st o) o = d := by
  induction st with
  | nil => rfl
  | cons e r ih =>
    obtain ⟨k, w⟩ := e
    simp only [storeDrop]
    split
    · exact ih
    · rename_i h
      simp only [storeGet, h]
      exact ih

/-- A dropped key leaves what every other key reads. -/
theorem storeGet_storeDrop_ne (d : Nat) (st : Store) {o o' : Nat} (h : o ≠ o') : storeGet d (storeDrop st o) o' = storeGet d st o' := by
  induction st with
  | nil => rfl
  | cons e r ih =>
    obtain ⟨k, w⟩ := e
    simp only [storeDrop]
    split
    · rename_i hk
      have hk : k = o := by simpa using hk
      subst hk
      simp [storeGet, h, ih]
    · simp [storeGet, ih]

/-- A listed value is what its key reads. -/
theorem storeGet_storeIns_same (d : Nat) (st : Store) (o v : Nat) : storeGet d (storeIns st o v) o = v := by
  induction st with
  | nil => simp [storeIns, storeGet]
  | cons e r ih =>
    obtain ⟨k, w⟩ := e
    simp only [storeIns]
    split
    · simp [storeGet]
    · split
      · simp [storeGet]
      · rename_i hk
        have : (k == o) = false := by simp at hk ⊢; omega
        simp [storeGet, this, ih]

/-- Listing a value leaves what every other key reads. -/
theorem storeGet_storeIns_ne (d : Nat) (st : Store) {o o' : Nat} (v : Nat) (h : o ≠ o') :
    storeGet d (storeIns st o v) o' = storeGet d st o' := by
  induction st with
  | nil => simp [storeIns, storeGet, h]
  | cons e r ih =>
    obtain ⟨k, w⟩ := e
    simp only [storeIns]
    split
    · simp [storeGet, h]
    · split
      · rename_i hk
        have hk : o = k := by simpa using hk
        subst hk
        simp [storeGet, h]
      · simp [storeGet, ih]

/-- A key reads as what was put under it. -/
theorem storeGet_storeSet_same (d : Nat) (st : Store) (o v : Nat) : storeGet d (storeSet d st o v) o = v := by
  unfold storeSet
  split
  · rename_i h
    rw [storeGet_storeDrop_same]
    exact (by simpa using h : v = d).symm
  · exact storeGet_storeIns_same ..

/-- A change under one key leaves what every other key reads. -/
theorem storeGet_storeSet_ne (d d' : Nat) (st : Store) {o o' : Nat} (v : Nat) (h : o ≠ o') :
    storeGet d' (storeSet d st o v) o' = storeGet d' st o' := by
  unfold storeSet
  split
  · exact storeGet_storeDrop_ne _ _ h
  · exact storeGet_storeIns_ne _ _ _ h

/-- A canonical store is canonical from every lower bound. -/
theorem storeWfFrom_weaken {k : Kind} {lo hi : Nat} {st : Store} (h : storeWfFrom k hi st = true) (hl : lo ≤ hi) :
    storeWfFrom k lo st = true := by
  cases st with
  | nil => rfl
  | cons e r =>
    obtain ⟨a, w⟩ := e
    simp only [storeWfFrom, Bool.and_eq_true, decide_eq_true_eq] at h ⊢
    exact ⟨⟨by omega, h.1.2⟩, h.2⟩

/-- Dropping a key keeps the canonical form. -/
theorem storeWfFrom_storeDrop {k : Kind} {lo : Nat} {st : Store} (h : storeWfFrom k lo st = true) (o : Nat) :
    storeWfFrom k lo (storeDrop st o) = true := by
  induction st generalizing lo with
  | nil => rfl
  | cons e r ih =>
    obtain ⟨a, w⟩ := e
    simp only [storeWfFrom, Bool.and_eq_true, decide_eq_true_eq] at h
    simp only [storeDrop]
    split
    · exact storeWfFrom_weaken (ih h.2) (by omega)
    · simp only [storeWfFrom, Bool.and_eq_true, decide_eq_true_eq]
      exact ⟨h.1, ih h.2⟩

/-- Listing a value that is not the default keeps the canonical form from a bound at or below its key. -/
theorem storeWfFrom_storeIns {k : Kind} {lo : Nat} {st : Store} (h : storeWfFrom k lo st = true) {o v : Nat} (hv : v ≠ dfltOf k o)
    (ho : lo ≤ o) : storeWfFrom k lo (storeIns st o v) = true := by
  have hv' : (v != dfltOf k o) = true := by simpa using hv
  induction st generalizing lo with
  | nil => simp [storeIns, storeWfFrom, hv', ho]
  | cons e r ih =>
    obtain ⟨a, w⟩ := e
    simp only [storeWfFrom, Bool.and_eq_true, decide_eq_true_eq] at h
    simp only [storeIns]
    split
    · simp only [storeWfFrom, Bool.and_eq_true, decide_eq_true_eq]
      exact ⟨⟨ho, hv'⟩, ⟨by omega, h.1.2⟩, h.2⟩
    · split
      · rename_i hk
        have hk : o = a := by simpa using hk
        subst hk
        simp only [storeWfFrom, Bool.and_eq_true, decide_eq_true_eq]
        exact ⟨⟨ho, hv'⟩, h.2⟩
      · rename_i hlt hk
        simp only [storeWfFrom, Bool.and_eq_true, decide_eq_true_eq]
        exact ⟨h.1, ih h.2 (by simp at hk; omega)⟩

/-- A change keeps the canonical form. -/
theorem storeWf_storeSet {k : Kind} {st : Store} (h : storeWf k st = true) (o v : Nat) :
    storeWf k (storeSet (dfltOf k o) st o v) = true := by
  unfold storeSet
  split
  · exact storeWfFrom_storeDrop h o
  · rename_i hv
    exact storeWfFrom_storeIns h (by simpa using hv) (Nat.zero_le _)

/-- An object reads as what was written to it (16 R438). -/
@[simp] theorem Node.rd_wr_same (n : Node) (o v : Nat) : (n.wr o v).rd o = v := storeGet_storeSet_same ..

/-- A write leaves every other object. -/
theorem Node.rd_wr_ne (n : Node) {o o' : Nat} (v : Nat) (h : o ≠ o') : (n.wr o v).rd o' = n.rd o' :=
  storeGet_storeSet_ne _ _ _ _ h

/-- What an object reads after a write. -/
theorem Node.rd_wr (n : Node) (o v o' : Nat) : (n.wr o v).rd o' = if o = o' then v else n.rd o' := by
  by_cases e : o = o'
  · subst e; simp
  · simp [e, Node.rd_wr_ne]

/-- A write keeps a node sound. -/
@[simp] theorem Node.sound_wr {n : Node} (h : n.Sound) (o v : Nat) : (n.wr o v).Sound := ⟨storeWf_storeSet h.1 o v, h.2⟩

/-- A table reads what was put under a number. -/
@[simp] theorem tblGet_tblSet_same {α : Type} (d v : α) (t : Tbl α) (i : Nat) : tblGet d (tblSet t i v) i = v := by
  induction t with
  | nil => simp [tblSet, tblGet]
  | cons e r ih =>
    obtain ⟨k, w⟩ := e
    simp only [tblSet]
    split
    · simp [tblGet]
    · split
      · simp [tblGet]
      · rename_i hk
        have : (k == i) = false := by simp at hk ⊢; omega
        simp [tblGet, this, ih]

/-- A change under one number leaves the others. -/
theorem tblGet_tblSet_ne {α : Type} (d v : α) (t : Tbl α) {i j : Nat} (h : i ≠ j) : tblGet d (tblSet t i v) j = tblGet d t j := by
  induction t with
  | nil => simp [tblSet, tblGet, h]
  | cons e r ih =>
    obtain ⟨k, w⟩ := e
    simp only [tblSet]
    split
    · simp [tblGet, h]
    · split
      · rename_i hk
        have hk : i = k := by simpa using hk
        subst hk
        simp [tblGet, h]
      · simp [tblGet, ih]

end Sys2Proof.Machine
end

