-- ==== Sys2Proof/Laws/State.lean ====
section
/-! SUPPORT. One lemma per field per update of a node, and what the two units of a state read after one of them is replaced. -/

namespace Sys2Proof.Machine

/-! ### The units of a state -/

@[simp] theorem State.node_setNode_same (s : State) (u : Who) (n : Node) : (s.setNode u n).node u = n := by cases u <;> rfl
@[simp] theorem State.node_tsu (s : State) : s.node .tsu = s.tsu := rfl
@[simp] theorem State.node_hub (s : State) : s.node .hub = s.hub := rfl
@[simp] theorem State.setNode_tsu_tsu (s : State) (n : Node) : (s.setNode .tsu n).tsu = n := rfl
@[simp] theorem State.setNode_tsu_hub (s : State) (n : Node) : (s.setNode .tsu n).hub = s.hub := rfl
@[simp] theorem State.setNode_hub_hub (s : State) (n : Node) : (s.setNode .hub n).hub = n := rfl
@[simp] theorem State.setNode_hub_tsu (s : State) (n : Node) : (s.setNode .hub n).tsu = s.tsu := rfl
@[simp] theorem State.setNode_pending (s : State) (u : Who) (n : Node) : (s.setNode u n).pending = s.pending := by cases u <;> rfl


/-! ### A write of an object -/

@[simp] theorem Node.wr_kind (n : Node) (o v : Nat) : (n.wr o v).kind = n.kind := rfl
@[simp] theorem Node.wr_plane (n : Node) (o v : Nat) : (n.wr o v).plane = n.plane := rfl
@[simp] theorem Node.wr_level (n : Node) (o v : Nat) : (n.wr o v).level = n.level := rfl
@[simp] theorem Node.wr_arch (n : Node) (o v : Nat) : (n.wr o v).arch = n.arch := rfl
@[simp] theorem Node.wr_pier (n : Node) (o v : Nat) : (n.wr o v).pier = n.pier := rfl
@[simp] theorem Node.wr_threeLevel (n : Node) (o v : Nat) : (n.wr o v).threeLevel = n.threeLevel := rfl
@[simp] theorem Node.wr_tb1 (n : Node) (o v : Nat) : (n.wr o v).tb1 = n.tb1 := rfl
@[simp] theorem Node.wr_fresh (n : Node) (o v : Nat) : (n.wr o v).fresh = n.fresh := rfl
@[simp] theorem Node.wr_deferred (n : Node) (o v : Nat) : (n.wr o v).deferred = n.deferred := rfl
@[simp] theorem Node.wr_log (n : Node) (o v : Nat) : (n.wr o v).log = n.log := rfl
@[simp] theorem Node.wr_lineLow (n : Node) (o v : Nat) : (n.wr o v).lineLow = n.lineLow := rfl
@[simp] theorem Node.wr_seen (n : Node) (o v : Nat) : (n.wr o v).seen = n.seen := rfl
@[simp] theorem Node.wr_fwd (n : Node) (o v : Nat) : (n.wr o v).fwd = n.fwd := rfl
@[simp] theorem Node.wr_links (n : Node) (o v : Nat) : (n.wr o v).links = n.links := rfl
@[simp] theorem Node.wr_tnode (n : Node) (o v : Nat) : (n.wr o v).tnode = n.tnode := rfl
@[simp] theorem Node.wr_tports (n : Node) (o v : Nat) : (n.wr o v).tports = n.tports := rfl
@[simp] theorem Node.wr_chans (n : Node) (o v : Nat) : (n.wr o v).chans = n.chans := rfl
@[simp] theorem Node.wr_evins (n : Node) (o v : Nat) : (n.wr o v).evins = n.evins := rfl
@[simp] theorem Node.wr_mslots (n : Node) (o v : Nat) : (n.wr o v).mslots = n.mslots := rfl
@[simp] theorem Node.wr_regrs (n : Node) (o v : Nat) : (n.wr o v).regrs = n.regrs := rfl
@[simp] theorem Node.wr_routes (n : Node) (o v : Nat) : (n.wr o v).routes = n.routes := rfl
@[simp] theorem Node.wr_answers (n : Node) (o v : Nat) : (n.wr o v).answers = n.answers := rfl
@[simp] theorem Node.wr_census (n : Node) (o v : Nat) : (n.wr o v).census = n.census := rfl
@[simp] theorem Node.wr_start (n : Node) (o v : Nat) : (n.wr o v).start = n.start := rfl
@[simp] theorem Node.wr_bases (n : Node) (o v : Nat) : (n.wr o v).bases = n.bases := rfl
@[simp] theorem Node.wr_hall (n : Node) (o v : Nat) : (n.wr o v).hall = n.hall := rfl
@[simp] theorem Node.wr_caps (n : Node) (o v : Nat) : (n.wr o v).caps = n.caps := rfl
@[simp] theorem Node.wr_pulses (n : Node) (o v : Nat) : (n.wr o v).pulses = n.pulses := rfl
@[simp] theorem Node.wr_bus (n : Node) (o v : Nat) : (n.wr o v).bus = n.bus := rfl
@[simp] theorem Node.wr_agents (n : Node) (o v : Nat) : (n.wr o v).agents = n.agents := rfl
@[simp] theorem Node.wr_cells (n : Node) (o v : Nat) : (n.wr o v).cells = n.cells := rfl
@[simp] theorem Node.wr_tslots (n : Node) (o v : Nat) : (n.wr o v).tslots = n.tslots := rfl
@[simp] theorem Node.wr_ctxs (n : Node) (o v : Nat) : (n.wr o v).ctxs = n.ctxs := rfl
@[simp] theorem Node.wr_clr (n : Node) (o v : Nat) : (n.wr o v).clr = n.clr := rfl
@[simp] theorem Node.wr_tally (n : Node) (o v : Nat) : (n.wr o v).tally = n.tally := rfl
@[simp] theorem Node.wr_mint (n : Node) (o v : Nat) : (n.wr o v).mint = n.mint := rfl
@[simp] theorem Node.wr_jrnl (n : Node) (o v : Nat) : (n.wr o v).jrnl = n.jrnl := rfl
@[simp] theorem Node.wr_key (n : Node) (o v : Nat) : (n.wr o v).key = n.key := rfl
@[simp] theorem Node.wr_regions (n : Node) (o v : Nat) : (n.wr o v).regions = n.regions := rfl
@[simp] theorem Node.wr_vault (n : Node) (o v : Nat) : (n.wr o v).vault = n.vault := rfl
@[simp] theorem Node.wr_kst (n : Node) (o v : Nat) : (n.wr o v).kst = n.kst := rfl
@[simp] theorem Node.wr_refs (n : Node) (o v : Nat) : (n.wr o v).refs = n.refs := rfl
@[simp] theorem Node.wr_monitors (n : Node) (o v : Nat) : (n.wr o v).monitors = n.monitors := rfl
@[simp] theorem Node.wr_outs (n : Node) (o v : Nat) : (n.wr o v).outs = n.outs := rfl
@[simp] theorem Node.wr_escInst (n : Node) (o v : Nat) : (n.wr o v).escInst = n.escInst := rfl
@[simp] theorem Node.wr_heads (n : Node) (o v : Nat) : (n.wr o v).heads = n.heads := rfl
@[simp] theorem Node.wr_lead (n : Node) (o v : Nat) : (n.wr o v).lead = n.lead := rfl
@[simp] theorem Node.wr_htal (n : Node) (o v : Nat) : (n.wr o v).htal = n.htal := rfl
@[simp] theorem Node.wr_engines (n : Node) (o v : Nat) : (n.wr o v).engines = n.engines := rfl
@[simp] theorem Node.wr_trails (n : Node) (o v : Nat) : (n.wr o v).trails = n.trails := rfl
@[simp] theorem Node.wr_jhub (n : Node) (o v : Nat) : (n.wr o v).jhub = n.jhub := rfl
@[simp] theorem Node.wr_replay (n : Node) (o v : Nat) : (n.wr o v).replay = n.replay := rfl
@[simp] theorem Node.wr_spans (n : Node) (o v : Nat) : (n.wr o v).spans = n.spans := rfl
@[simp] theorem Node.wr_dports (n : Node) (o v : Nat) : (n.wr o v).dports = n.dports := rfl
@[simp] theorem Node.wr_grants (n : Node) (o v : Nat) : (n.wr o v).grants = n.grants := rfl
@[simp] theorem Node.wr_access (n : Node) (o v : Nat) : (n.wr o v).access = n.access := rfl
@[simp] theorem Node.wr_hpwr (n : Node) (o v : Nat) : (n.wr o v).hpwr = n.hpwr := rfl
@[simp] theorem Node.wr_linkOf (n : Node) (o v i : Nat) : (n.wr o v).linkOf i = n.linkOf i := rfl
@[simp] theorem Node.wr_portOf (n : Node) (o v i : Nat) : (n.wr o v).portOf i = n.portOf i := rfl
@[simp] theorem Node.wr_chanOf (n : Node) (o v i : Nat) : (n.wr o v).chanOf i = n.chanOf i := rfl
@[simp] theorem Node.wr_evOf (n : Node) (o v i : Nat) : (n.wr o v).evOf i = n.evOf i := rfl
@[simp] theorem Node.wr_mslotOf (n : Node) (o v i : Nat) : (n.wr o v).mslotOf i = n.mslotOf i := rfl
@[simp] theorem Node.wr_regrOf (n : Node) (o v i : Nat) : (n.wr o v).regrOf i = n.regrOf i := rfl
@[simp] theorem Node.wr_routeOf (n : Node) (o v i : Nat) : (n.wr o v).routeOf i = n.routeOf i := rfl
@[simp] theorem Node.wr_answerOf (n : Node) (o v i : Nat) : (n.wr o v).answerOf i = n.answerOf i := rfl
@[simp] theorem Node.wr_baseOf (n : Node) (o v i : Nat) : (n.wr o v).baseOf i = n.baseOf i := rfl
@[simp] theorem Node.wr_capOf (n : Node) (o v i : Nat) : (n.wr o v).capOf i = n.capOf i := rfl
@[simp] theorem Node.wr_pulseOf (n : Node) (o v i : Nat) : (n.wr o v).pulseOf i = n.pulseOf i := rfl
@[simp] theorem Node.wr_agentOf (n : Node) (o v i : Nat) : (n.wr o v).agentOf i = n.agentOf i := rfl
@[simp] theorem Node.wr_cellOf (n : Node) (o v i : Nat) : (n.wr o v).cellOf i = n.cellOf i := rfl
@[simp] theorem Node.wr_tslotOf (n : Node) (o v i : Nat) : (n.wr o v).tslotOf i = n.tslotOf i := rfl
@[simp] theorem Node.wr_ctxOf (n : Node) (o v i : Nat) : (n.wr o v).ctxOf i = n.ctxOf i := rfl
@[simp] theorem Node.wr_regionOf (n : Node) (o v i : Nat) : (n.wr o v).regionOf i = n.regionOf i := rfl
@[simp] theorem Node.wr_refOf (n : Node) (o v i : Nat) : (n.wr o v).refOf i = n.refOf i := rfl
@[simp] theorem Node.wr_monOf (n : Node) (o v i : Nat) : (n.wr o v).monOf i = n.monOf i := rfl
@[simp] theorem Node.wr_outOf (n : Node) (o v i : Nat) : (n.wr o v).outOf i = n.outOf i := rfl
@[simp] theorem Node.wr_headOf (n : Node) (o v i : Nat) : (n.wr o v).headOf i = n.headOf i := rfl
@[simp] theorem Node.wr_htalOf (n : Node) (o v i : Nat) : (n.wr o v).htalOf i = n.htalOf i := rfl
@[simp] theorem Node.wr_engOf (n : Node) (o v i : Nat) : (n.wr o v).engOf i = n.engOf i := rfl
@[simp] theorem Node.wr_dportOf (n : Node) (o v i : Nat) : (n.wr o v).dportOf i = n.dportOf i := rfl

/-! ### `modLink` -/

@[simp] theorem Node.modLink_linkOf_same (n : Node) (i : Nat) (f : LinkEnd → LinkEnd) : (n.modLink i f).linkOf i = f (n.linkOf i) := tblGet_tblSet_same ..
theorem Node.modLink_linkOf_ne (n : Node) {i j : Nat} (f : LinkEnd → LinkEnd) (h : i ≠ j) : (n.modLink i f).linkOf j = n.linkOf j := tblGet_tblSet_ne _ _ _ h
@[simp] theorem Node.modLink_kind (n : Node) (i : Nat) (f : LinkEnd → LinkEnd) : (n.modLink i f).kind = n.kind := rfl
@[simp] theorem Node.modLink_plane (n : Node) (i : Nat) (f : LinkEnd → LinkEnd) : (n.modLink i f).plane = n.plane := rfl
@[simp] theorem Node.modLink_level (n : Node) (i : Nat) (f : LinkEnd → LinkEnd) : (n.modLink i f).level = n.level := rfl
@[simp] theorem Node.modLink_arch (n : Node) (i : Nat) (f : LinkEnd → LinkEnd) : (n.modLink i f).arch = n.arch := rfl
@[simp] theorem Node.modLink_pier (n : Node) (i : Nat) (f : LinkEnd → LinkEnd) : (n.modLink i f).pier = n.pier := rfl
@[simp] theorem Node.modLink_threeLevel (n : Node) (i : Nat) (f : LinkEnd → LinkEnd) : (n.modLink i f).threeLevel = n.threeLevel := rfl
@[simp] theorem Node.modLink_tb1 (n : Node) (i : Nat) (f : LinkEnd → LinkEnd) : (n.modLink i f).tb1 = n.tb1 := rfl
@[simp] theorem Node.modLink_fresh (n : Node) (i : Nat) (f : LinkEnd → LinkEnd) : (n.modLink i f).fresh = n.fresh := rfl
@[simp] theorem Node.modLink_objs (n : Node) (i : Nat) (f : LinkEnd → LinkEnd) : (n.modLink i f).objs = n.objs := rfl
@[simp] theorem Node.modLink_deferred (n : Node) (i : Nat) (f : LinkEnd → LinkEnd) : (n.modLink i f).deferred = n.deferred := rfl
@[simp] theorem Node.modLink_log (n : Node) (i : Nat) (f : LinkEnd → LinkEnd) : (n.modLink i f).log = n.log := rfl
@[simp] theorem Node.modLink_lineLow (n : Node) (i : Nat) (f : LinkEnd → LinkEnd) : (n.modLink i f).lineLow = n.lineLow := rfl
@[simp] theorem Node.modLink_seen (n : Node) (i : Nat) (f : LinkEnd → LinkEnd) : (n.modLink i f).seen = n.seen := rfl
@[simp] theorem Node.modLink_fwd (n : Node) (i : Nat) (f : LinkEnd → LinkEnd) : (n.modLink i f).fwd = n.fwd := rfl
@[simp] theorem Node.modLink_tnode (n : Node) (i : Nat) (f : LinkEnd → LinkEnd) : (n.modLink i f).tnode = n.tnode := rfl
@[simp] theorem Node.modLink_tports (n : Node) (i : Nat) (f : LinkEnd → LinkEnd) : (n.modLink i f).tports = n.tports := rfl
@[simp] theorem Node.modLink_chans (n : Node) (i : Nat) (f : LinkEnd → LinkEnd) : (n.modLink i f).chans = n.chans := rfl
@[simp] theorem Node.modLink_evins (n : Node) (i : Nat) (f : LinkEnd → LinkEnd) : (n.modLink i f).evins = n.evins := rfl
@[simp] theorem Node.modLink_mslots (n : Node) (i : Nat) (f : LinkEnd → LinkEnd) : (n.modLink i f).mslots = n.mslots := rfl
@[simp] theorem Node.modLink_regrs (n : Node) (i : Nat) (f : LinkEnd → LinkEnd) : (n.modLink i f).regrs = n.regrs := rfl
@[simp] theorem Node.modLink_routes (n : Node) (i : Nat) (f : LinkEnd → LinkEnd) : (n.modLink i f).routes = n.routes := rfl
@[simp] theorem Node.modLink_answers (n : Node) (i : Nat) (f : LinkEnd → LinkEnd) : (n.modLink i f).answers = n.answers := rfl
@[simp] theorem Node.modLink_census (n : Node) (i : Nat) (f : LinkEnd → LinkEnd) : (n.modLink i f).census = n.census := rfl
@[simp] theorem Node.modLink_start (n : Node) (i : Nat) (f : LinkEnd → LinkEnd) : (n.modLink i f).start = n.start := rfl
@[simp] theorem Node.modLink_bases (n : Node) (i : Nat) (f : LinkEnd → LinkEnd) : (n.modLink i f).bases = n.bases := rfl
@[simp] theorem Node.modLink_hall (n : Node) (i : Nat) (f : LinkEnd → LinkEnd) : (n.modLink i f).hall = n.hall := rfl
@[simp] theorem Node.modLink_caps (n : Node) (i : Nat) (f : LinkEnd → LinkEnd) : (n.modLink i f).caps = n.caps := rfl
@[simp] theorem Node.modLink_pulses (n : Node) (i : Nat) (f : LinkEnd → LinkEnd) : (n.modLink i f).pulses = n.pulses := rfl
@[simp] theorem Node.modLink_bus (n : Node) (i : Nat) (f : LinkEnd → LinkEnd) : (n.modLink i f).bus = n.bus := rfl
@[simp] theorem Node.modLink_agents (n : Node) (i : Nat) (f : LinkEnd → LinkEnd) : (n.modLink i f).agents = n.agents := rfl
@[simp] theorem Node.modLink_cells (n : Node) (i : Nat) (f : LinkEnd → LinkEnd) : (n.modLink i f).cells = n.cells := rfl
@[simp] theorem Node.modLink_tslots (n : Node) (i : Nat) (f : LinkEnd → LinkEnd) : (n.modLink i f).tslots = n.tslots := rfl
@[simp] theorem Node.modLink_ctxs (n : Node) (i : Nat) (f : LinkEnd → LinkEnd) : (n.modLink i f).ctxs = n.ctxs := rfl
@[simp] theorem Node.modLink_clr (n : Node) (i : Nat) (f : LinkEnd → LinkEnd) : (n.modLink i f).clr = n.clr := rfl
@[simp] theorem Node.modLink_tally (n : Node) (i : Nat) (f : LinkEnd → LinkEnd) : (n.modLink i f).tally = n.tally := rfl
@[simp] theorem Node.modLink_mint (n : Node) (i : Nat) (f : LinkEnd → LinkEnd) : (n.modLink i f).mint = n.mint := rfl
@[simp] theorem Node.modLink_jrnl (n : Node) (i : Nat) (f : LinkEnd → LinkEnd) : (n.modLink i f).jrnl = n.jrnl := rfl
@[simp] theorem Node.modLink_key (n : Node) (i : Nat) (f : LinkEnd → LinkEnd) : (n.modLink i f).key = n.key := rfl
@[simp] theorem Node.modLink_regions (n : Node) (i : Nat) (f : LinkEnd → LinkEnd) : (n.modLink i f).regions = n.regions := rfl
@[simp] theorem Node.modLink_vault (n : Node) (i : Nat) (f : LinkEnd → LinkEnd) : (n.modLink i f).vault = n.vault := rfl
@[simp] theorem Node.modLink_kst (n : Node) (i : Nat) (f : LinkEnd → LinkEnd) : (n.modLink i f).kst = n.kst := rfl
@[simp] theorem Node.modLink_refs (n : Node) (i : Nat) (f : LinkEnd → LinkEnd) : (n.modLink i f).refs = n.refs := rfl
@[simp] theorem Node.modLink_monitors (n : Node) (i : Nat) (f : LinkEnd → LinkEnd) : (n.modLink i f).monitors = n.monitors := rfl
@[simp] theorem Node.modLink_outs (n : Node) (i : Nat) (f : LinkEnd → LinkEnd) : (n.modLink i f).outs = n.outs := rfl
@[simp] theorem Node.modLink_escInst (n : Node) (i : Nat) (f : LinkEnd → LinkEnd) : (n.modLink i f).escInst = n.escInst := rfl
@[simp] theorem Node.modLink_heads (n : Node) (i : Nat) (f : LinkEnd → LinkEnd) : (n.modLink i f).heads = n.heads := rfl
@[simp] theorem Node.modLink_lead (n : Node) (i : Nat) (f : LinkEnd → LinkEnd) : (n.modLink i f).lead = n.lead := rfl
@[simp] theorem Node.modLink_htal (n : Node) (i : Nat) (f : LinkEnd → LinkEnd) : (n.modLink i f).htal = n.htal := rfl
@[simp] theorem Node.modLink_engines (n : Node) (i : Nat) (f : LinkEnd → LinkEnd) : (n.modLink i f).engines = n.engines := rfl
@[simp] theorem Node.modLink_trails (n : Node) (i : Nat) (f : LinkEnd → LinkEnd) : (n.modLink i f).trails = n.trails := rfl
@[simp] theorem Node.modLink_jhub (n : Node) (i : Nat) (f : LinkEnd → LinkEnd) : (n.modLink i f).jhub = n.jhub := rfl
@[simp] theorem Node.modLink_replay (n : Node) (i : Nat) (f : LinkEnd → LinkEnd) : (n.modLink i f).replay = n.replay := rfl
@[simp] theorem Node.modLink_spans (n : Node) (i : Nat) (f : LinkEnd → LinkEnd) : (n.modLink i f).spans = n.spans := rfl
@[simp] theorem Node.modLink_dports (n : Node) (i : Nat) (f : LinkEnd → LinkEnd) : (n.modLink i f).dports = n.dports := rfl
@[simp] theorem Node.modLink_grants (n : Node) (i : Nat) (f : LinkEnd → LinkEnd) : (n.modLink i f).grants = n.grants := rfl
@[simp] theorem Node.modLink_access (n : Node) (i : Nat) (f : LinkEnd → LinkEnd) : (n.modLink i f).access = n.access := rfl
@[simp] theorem Node.modLink_hpwr (n : Node) (i : Nat) (f : LinkEnd → LinkEnd) : (n.modLink i f).hpwr = n.hpwr := rfl

/-! ### `modPort` -/

@[simp] theorem Node.modPort_portOf_same (n : Node) (i : Nat) (f : TimePort → TimePort) : (n.modPort i f).portOf i = f (n.portOf i) := tblGet_tblSet_same ..
theorem Node.modPort_portOf_ne (n : Node) {i j : Nat} (f : TimePort → TimePort) (h : i ≠ j) : (n.modPort i f).portOf j = n.portOf j := tblGet_tblSet_ne _ _ _ h
@[simp] theorem Node.modPort_kind (n : Node) (i : Nat) (f : TimePort → TimePort) : (n.modPort i f).kind = n.kind := rfl
@[simp] theorem Node.modPort_plane (n : Node) (i : Nat) (f : TimePort → TimePort) : (n.modPort i f).plane = n.plane := rfl
@[simp] theorem Node.modPort_level (n : Node) (i : Nat) (f : TimePort → TimePort) : (n.modPort i f).level = n.level := rfl
@[simp] theorem Node.modPort_arch (n : Node) (i : Nat) (f : TimePort → TimePort) : (n.modPort i f).arch = n.arch := rfl
@[simp] theorem Node.modPort_pier (n : Node) (i : Nat) (f : TimePort → TimePort) : (n.modPort i f).pier = n.pier := rfl
@[simp] theorem Node.modPort_threeLevel (n : Node) (i : Nat) (f : TimePort → TimePort) : (n.modPort i f).threeLevel = n.threeLevel := rfl
@[simp] theorem Node.modPort_tb1 (n : Node) (i : Nat) (f : TimePort → TimePort) : (n.modPort i f).tb1 = n.tb1 := rfl
@[simp] theorem Node.modPort_fresh (n : Node) (i : Nat) (f : TimePort → TimePort) : (n.modPort i f).fresh = n.fresh := rfl
@[simp] theorem Node.modPort_objs (n : Node) (i : Nat) (f : TimePort → TimePort) : (n.modPort i f).objs = n.objs := rfl
@[simp] theorem Node.modPort_deferred (n : Node) (i : Nat) (f : TimePort → TimePort) : (n.modPort i f).deferred = n.deferred := rfl
@[simp] theorem Node.modPort_log (n : Node) (i : Nat) (f : TimePort → TimePort) : (n.modPort i f).log = n.log := rfl
@[simp] theorem Node.modPort_lineLow (n : Node) (i : Nat) (f : TimePort → TimePort) : (n.modPort i f).lineLow = n.lineLow := rfl
@[simp] theorem Node.modPort_seen (n : Node) (i : Nat) (f : TimePort → TimePort) : (n.modPort i f).seen = n.seen := rfl
@[simp] theorem Node.modPort_fwd (n : Node) (i : Nat) (f : TimePort → TimePort) : (n.modPort i f).fwd = n.fwd := rfl
@[simp] theorem Node.modPort_links (n : Node) (i : Nat) (f : TimePort → TimePort) : (n.modPort i f).links = n.links := rfl
@[simp] theorem Node.modPort_tnode (n : Node) (i : Nat) (f : TimePort → TimePort) : (n.modPort i f).tnode = n.tnode := rfl
@[simp] theorem Node.modPort_chans (n : Node) (i : Nat) (f : TimePort → TimePort) : (n.modPort i f).chans = n.chans := rfl
@[simp] theorem Node.modPort_evins (n : Node) (i : Nat) (f : TimePort → TimePort) : (n.modPort i f).evins = n.evins := rfl
@[simp] theorem Node.modPort_mslots (n : Node) (i : Nat) (f : TimePort → TimePort) : (n.modPort i f).mslots = n.mslots := rfl
@[simp] theorem Node.modPort_regrs (n : Node) (i : Nat) (f : TimePort → TimePort) : (n.modPort i f).regrs = n.regrs := rfl
@[simp] theorem Node.modPort_routes (n : Node) (i : Nat) (f : TimePort → TimePort) : (n.modPort i f).routes = n.routes := rfl
@[simp] theorem Node.modPort_answers (n : Node) (i : Nat) (f : TimePort → TimePort) : (n.modPort i f).answers = n.answers := rfl
@[simp] theorem Node.modPort_census (n : Node) (i : Nat) (f : TimePort → TimePort) : (n.modPort i f).census = n.census := rfl
@[simp] theorem Node.modPort_start (n : Node) (i : Nat) (f : TimePort → TimePort) : (n.modPort i f).start = n.start := rfl
@[simp] theorem Node.modPort_bases (n : Node) (i : Nat) (f : TimePort → TimePort) : (n.modPort i f).bases = n.bases := rfl
@[simp] theorem Node.modPort_hall (n : Node) (i : Nat) (f : TimePort → TimePort) : (n.modPort i f).hall = n.hall := rfl
@[simp] theorem Node.modPort_caps (n : Node) (i : Nat) (f : TimePort → TimePort) : (n.modPort i f).caps = n.caps := rfl
@[simp] theorem Node.modPort_pulses (n : Node) (i : Nat) (f : TimePort → TimePort) : (n.modPort i f).pulses = n.pulses := rfl
@[simp] theorem Node.modPort_bus (n : Node) (i : Nat) (f : TimePort → TimePort) : (n.modPort i f).bus = n.bus := rfl
@[simp] theorem Node.modPort_agents (n : Node) (i : Nat) (f : TimePort → TimePort) : (n.modPort i f).agents = n.agents := rfl
@[simp] theorem Node.modPort_cells (n : Node) (i : Nat) (f : TimePort → TimePort) : (n.modPort i f).cells = n.cells := rfl
@[simp] theorem Node.modPort_tslots (n : Node) (i : Nat) (f : TimePort → TimePort) : (n.modPort i f).tslots = n.tslots := rfl
@[simp] theorem Node.modPort_ctxs (n : Node) (i : Nat) (f : TimePort → TimePort) : (n.modPort i f).ctxs = n.ctxs := rfl
@[simp] theorem Node.modPort_clr (n : Node) (i : Nat) (f : TimePort → TimePort) : (n.modPort i f).clr = n.clr := rfl
@[simp] theorem Node.modPort_tally (n : Node) (i : Nat) (f : TimePort → TimePort) : (n.modPort i f).tally = n.tally := rfl
@[simp] theorem Node.modPort_mint (n : Node) (i : Nat) (f : TimePort → TimePort) : (n.modPort i f).mint = n.mint := rfl
@[simp] theorem Node.modPort_jrnl (n : Node) (i : Nat) (f : TimePort → TimePort) : (n.modPort i f).jrnl = n.jrnl := rfl
@[simp] theorem Node.modPort_key (n : Node) (i : Nat) (f : TimePort → TimePort) : (n.modPort i f).key = n.key := rfl
@[simp] theorem Node.modPort_regions (n : Node) (i : Nat) (f : TimePort → TimePort) : (n.modPort i f).regions = n.regions := rfl
@[simp] theorem Node.modPort_vault (n : Node) (i : Nat) (f : TimePort → TimePort) : (n.modPort i f).vault = n.vault := rfl
@[simp] theorem Node.modPort_kst (n : Node) (i : Nat) (f : TimePort → TimePort) : (n.modPort i f).kst = n.kst := rfl
@[simp] theorem Node.modPort_refs (n : Node) (i : Nat) (f : TimePort → TimePort) : (n.modPort i f).refs = n.refs := rfl
@[simp] theorem Node.modPort_monitors (n : Node) (i : Nat) (f : TimePort → TimePort) : (n.modPort i f).monitors = n.monitors := rfl
@[simp] theorem Node.modPort_outs (n : Node) (i : Nat) (f : TimePort → TimePort) : (n.modPort i f).outs = n.outs := rfl
@[simp] theorem Node.modPort_escInst (n : Node) (i : Nat) (f : TimePort → TimePort) : (n.modPort i f).escInst = n.escInst := rfl
@[simp] theorem Node.modPort_heads (n : Node) (i : Nat) (f : TimePort → TimePort) : (n.modPort i f).heads = n.heads := rfl
@[simp] theorem Node.modPort_lead (n : Node) (i : Nat) (f : TimePort → TimePort) : (n.modPort i f).lead = n.lead := rfl
@[simp] theorem Node.modPort_htal (n : Node) (i : Nat) (f : TimePort → TimePort) : (n.modPort i f).htal = n.htal := rfl
@[simp] theorem Node.modPort_engines (n : Node) (i : Nat) (f : TimePort → TimePort) : (n.modPort i f).engines = n.engines := rfl
@[simp] theorem Node.modPort_trails (n : Node) (i : Nat) (f : TimePort → TimePort) : (n.modPort i f).trails = n.trails := rfl
@[simp] theorem Node.modPort_jhub (n : Node) (i : Nat) (f : TimePort → TimePort) : (n.modPort i f).jhub = n.jhub := rfl
@[simp] theorem Node.modPort_replay (n : Node) (i : Nat) (f : TimePort → TimePort) : (n.modPort i f).replay = n.replay := rfl
@[simp] theorem Node.modPort_spans (n : Node) (i : Nat) (f : TimePort → TimePort) : (n.modPort i f).spans = n.spans := rfl
@[simp] theorem Node.modPort_dports (n : Node) (i : Nat) (f : TimePort → TimePort) : (n.modPort i f).dports = n.dports := rfl
@[simp] theorem Node.modPort_grants (n : Node) (i : Nat) (f : TimePort → TimePort) : (n.modPort i f).grants = n.grants := rfl
@[simp] theorem Node.modPort_access (n : Node) (i : Nat) (f : TimePort → TimePort) : (n.modPort i f).access = n.access := rfl
@[simp] theorem Node.modPort_hpwr (n : Node) (i : Nat) (f : TimePort → TimePort) : (n.modPort i f).hpwr = n.hpwr := rfl

/-! ### `modChan` -/

@[simp] theorem Node.modChan_chanOf_same (n : Node) (i : Nat) (f : TdcChan → TdcChan) : (n.modChan i f).chanOf i = f (n.chanOf i) := tblGet_tblSet_same ..
theorem Node.modChan_chanOf_ne (n : Node) {i j : Nat} (f : TdcChan → TdcChan) (h : i ≠ j) : (n.modChan i f).chanOf j = n.chanOf j := tblGet_tblSet_ne _ _ _ h
@[simp] theorem Node.modChan_kind (n : Node) (i : Nat) (f : TdcChan → TdcChan) : (n.modChan i f).kind = n.kind := rfl
@[simp] theorem Node.modChan_plane (n : Node) (i : Nat) (f : TdcChan → TdcChan) : (n.modChan i f).plane = n.plane := rfl
@[simp] theorem Node.modChan_level (n : Node) (i : Nat) (f : TdcChan → TdcChan) : (n.modChan i f).level = n.level := rfl
@[simp] theorem Node.modChan_arch (n : Node) (i : Nat) (f : TdcChan → TdcChan) : (n.modChan i f).arch = n.arch := rfl
@[simp] theorem Node.modChan_pier (n : Node) (i : Nat) (f : TdcChan → TdcChan) : (n.modChan i f).pier = n.pier := rfl
@[simp] theorem Node.modChan_threeLevel (n : Node) (i : Nat) (f : TdcChan → TdcChan) : (n.modChan i f).threeLevel = n.threeLevel := rfl
@[simp] theorem Node.modChan_tb1 (n : Node) (i : Nat) (f : TdcChan → TdcChan) : (n.modChan i f).tb1 = n.tb1 := rfl
@[simp] theorem Node.modChan_fresh (n : Node) (i : Nat) (f : TdcChan → TdcChan) : (n.modChan i f).fresh = n.fresh := rfl
@[simp] theorem Node.modChan_objs (n : Node) (i : Nat) (f : TdcChan → TdcChan) : (n.modChan i f).objs = n.objs := rfl
@[simp] theorem Node.modChan_deferred (n : Node) (i : Nat) (f : TdcChan → TdcChan) : (n.modChan i f).deferred = n.deferred := rfl
@[simp] theorem Node.modChan_log (n : Node) (i : Nat) (f : TdcChan → TdcChan) : (n.modChan i f).log = n.log := rfl
@[simp] theorem Node.modChan_lineLow (n : Node) (i : Nat) (f : TdcChan → TdcChan) : (n.modChan i f).lineLow = n.lineLow := rfl
@[simp] theorem Node.modChan_seen (n : Node) (i : Nat) (f : TdcChan → TdcChan) : (n.modChan i f).seen = n.seen := rfl
@[simp] theorem Node.modChan_fwd (n : Node) (i : Nat) (f : TdcChan → TdcChan) : (n.modChan i f).fwd = n.fwd := rfl
@[simp] theorem Node.modChan_links (n : Node) (i : Nat) (f : TdcChan → TdcChan) : (n.modChan i f).links = n.links := rfl
@[simp] theorem Node.modChan_tnode (n : Node) (i : Nat) (f : TdcChan → TdcChan) : (n.modChan i f).tnode = n.tnode := rfl
@[simp] theorem Node.modChan_tports (n : Node) (i : Nat) (f : TdcChan → TdcChan) : (n.modChan i f).tports = n.tports := rfl
@[simp] theorem Node.modChan_evins (n : Node) (i : Nat) (f : TdcChan → TdcChan) : (n.modChan i f).evins = n.evins := rfl
@[simp] theorem Node.modChan_mslots (n : Node) (i : Nat) (f : TdcChan → TdcChan) : (n.modChan i f).mslots = n.mslots := rfl
@[simp] theorem Node.modChan_regrs (n : Node) (i : Nat) (f : TdcChan → TdcChan) : (n.modChan i f).regrs = n.regrs := rfl
@[simp] theorem Node.modChan_routes (n : Node) (i : Nat) (f : TdcChan → TdcChan) : (n.modChan i f).routes = n.routes := rfl
@[simp] theorem Node.modChan_answers (n : Node) (i : Nat) (f : TdcChan → TdcChan) : (n.modChan i f).answers = n.answers := rfl
@[simp] theorem Node.modChan_census (n : Node) (i : Nat) (f : TdcChan → TdcChan) : (n.modChan i f).census = n.census := rfl
@[simp] theorem Node.modChan_start (n : Node) (i : Nat) (f : TdcChan → TdcChan) : (n.modChan i f).start = n.start := rfl
@[simp] theorem Node.modChan_bases (n : Node) (i : Nat) (f : TdcChan → TdcChan) : (n.modChan i f).bases = n.bases := rfl
@[simp] theorem Node.modChan_hall (n : Node) (i : Nat) (f : TdcChan → TdcChan) : (n.modChan i f).hall = n.hall := rfl
@[simp] theorem Node.modChan_caps (n : Node) (i : Nat) (f : TdcChan → TdcChan) : (n.modChan i f).caps = n.caps := rfl
@[simp] theorem Node.modChan_pulses (n : Node) (i : Nat) (f : TdcChan → TdcChan) : (n.modChan i f).pulses = n.pulses := rfl
@[simp] theorem Node.modChan_bus (n : Node) (i : Nat) (f : TdcChan → TdcChan) : (n.modChan i f).bus = n.bus := rfl
@[simp] theorem Node.modChan_agents (n : Node) (i : Nat) (f : TdcChan → TdcChan) : (n.modChan i f).agents = n.agents := rfl
@[simp] theorem Node.modChan_cells (n : Node) (i : Nat) (f : TdcChan → TdcChan) : (n.modChan i f).cells = n.cells := rfl
@[simp] theorem Node.modChan_tslots (n : Node) (i : Nat) (f : TdcChan → TdcChan) : (n.modChan i f).tslots = n.tslots := rfl
@[simp] theorem Node.modChan_ctxs (n : Node) (i : Nat) (f : TdcChan → TdcChan) : (n.modChan i f).ctxs = n.ctxs := rfl
@[simp] theorem Node.modChan_clr (n : Node) (i : Nat) (f : TdcChan → TdcChan) : (n.modChan i f).clr = n.clr := rfl
@[simp] theorem Node.modChan_tally (n : Node) (i : Nat) (f : TdcChan → TdcChan) : (n.modChan i f).tally = n.tally := rfl
@[simp] theorem Node.modChan_mint (n : Node) (i : Nat) (f : TdcChan → TdcChan) : (n.modChan i f).mint = n.mint := rfl
@[simp] theorem Node.modChan_jrnl (n : Node) (i : Nat) (f : TdcChan → TdcChan) : (n.modChan i f).jrnl = n.jrnl := rfl
@[simp] theorem Node.modChan_key (n : Node) (i : Nat) (f : TdcChan → TdcChan) : (n.modChan i f).key = n.key := rfl
@[simp] theorem Node.modChan_regions (n : Node) (i : Nat) (f : TdcChan → TdcChan) : (n.modChan i f).regions = n.regions := rfl
@[simp] theorem Node.modChan_vault (n : Node) (i : Nat) (f : TdcChan → TdcChan) : (n.modChan i f).vault = n.vault := rfl
@[simp] theorem Node.modChan_kst (n : Node) (i : Nat) (f : TdcChan → TdcChan) : (n.modChan i f).kst = n.kst := rfl
@[simp] theorem Node.modChan_refs (n : Node) (i : Nat) (f : TdcChan → TdcChan) : (n.modChan i f).refs = n.refs := rfl
@[simp] theorem Node.modChan_monitors (n : Node) (i : Nat) (f : TdcChan → TdcChan) : (n.modChan i f).monitors = n.monitors := rfl
@[simp] theorem Node.modChan_outs (n : Node) (i : Nat) (f : TdcChan → TdcChan) : (n.modChan i f).outs = n.outs := rfl
@[simp] theorem Node.modChan_escInst (n : Node) (i : Nat) (f : TdcChan → TdcChan) : (n.modChan i f).escInst = n.escInst := rfl
@[simp] theorem Node.modChan_heads (n : Node) (i : Nat) (f : TdcChan → TdcChan) : (n.modChan i f).heads = n.heads := rfl
@[simp] theorem Node.modChan_lead (n : Node) (i : Nat) (f : TdcChan → TdcChan) : (n.modChan i f).lead = n.lead := rfl
@[simp] theorem Node.modChan_htal (n : Node) (i : Nat) (f : TdcChan → TdcChan) : (n.modChan i f).htal = n.htal := rfl
@[simp] theorem Node.modChan_engines (n : Node) (i : Nat) (f : TdcChan → TdcChan) : (n.modChan i f).engines = n.engines := rfl
@[simp] theorem Node.modChan_trails (n : Node) (i : Nat) (f : TdcChan → TdcChan) : (n.modChan i f).trails = n.trails := rfl
@[simp] theorem Node.modChan_jhub (n : Node) (i : Nat) (f : TdcChan → TdcChan) : (n.modChan i f).jhub = n.jhub := rfl
@[simp] theorem Node.modChan_replay (n : Node) (i : Nat) (f : TdcChan → TdcChan) : (n.modChan i f).replay = n.replay := rfl
@[simp] theorem Node.modChan_spans (n : Node) (i : Nat) (f : TdcChan → TdcChan) : (n.modChan i f).spans = n.spans := rfl
@[simp] theorem Node.modChan_dports (n : Node) (i : Nat) (f : TdcChan → TdcChan) : (n.modChan i f).dports = n.dports := rfl
@[simp] theorem Node.modChan_grants (n : Node) (i : Nat) (f : TdcChan → TdcChan) : (n.modChan i f).grants = n.grants := rfl
@[simp] theorem Node.modChan_access (n : Node) (i : Nat) (f : TdcChan → TdcChan) : (n.modChan i f).access = n.access := rfl
@[simp] theorem Node.modChan_hpwr (n : Node) (i : Nat) (f : TdcChan → TdcChan) : (n.modChan i f).hpwr = n.hpwr := rfl

/-! ### `modEv` -/

@[simp] theorem Node.modEv_evOf_same (n : Node) (i : Nat) (f : EvIn → EvIn) : (n.modEv i f).evOf i = f (n.evOf i) := tblGet_tblSet_same ..
theorem Node.modEv_evOf_ne (n : Node) {i j : Nat} (f : EvIn → EvIn) (h : i ≠ j) : (n.modEv i f).evOf j = n.evOf j := tblGet_tblSet_ne _ _ _ h
@[simp] theorem Node.modEv_kind (n : Node) (i : Nat) (f : EvIn → EvIn) : (n.modEv i f).kind = n.kind := rfl
@[simp] theorem Node.modEv_plane (n : Node) (i : Nat) (f : EvIn → EvIn) : (n.modEv i f).plane = n.plane := rfl
@[simp] theorem Node.modEv_level (n : Node) (i : Nat) (f : EvIn → EvIn) : (n.modEv i f).level = n.level := rfl
@[simp] theorem Node.modEv_arch (n : Node) (i : Nat) (f : EvIn → EvIn) : (n.modEv i f).arch = n.arch := rfl
@[simp] theorem Node.modEv_pier (n : Node) (i : Nat) (f : EvIn → EvIn) : (n.modEv i f).pier = n.pier := rfl
@[simp] theorem Node.modEv_threeLevel (n : Node) (i : Nat) (f : EvIn → EvIn) : (n.modEv i f).threeLevel = n.threeLevel := rfl
@[simp] theorem Node.modEv_tb1 (n : Node) (i : Nat) (f : EvIn → EvIn) : (n.modEv i f).tb1 = n.tb1 := rfl
@[simp] theorem Node.modEv_fresh (n : Node) (i : Nat) (f : EvIn → EvIn) : (n.modEv i f).fresh = n.fresh := rfl
@[simp] theorem Node.modEv_objs (n : Node) (i : Nat) (f : EvIn → EvIn) : (n.modEv i f).objs = n.objs := rfl
@[simp] theorem Node.modEv_deferred (n : Node) (i : Nat) (f : EvIn → EvIn) : (n.modEv i f).deferred = n.deferred := rfl
@[simp] theorem Node.modEv_log (n : Node) (i : Nat) (f : EvIn → EvIn) : (n.modEv i f).log = n.log := rfl
@[simp] theorem Node.modEv_lineLow (n : Node) (i : Nat) (f : EvIn → EvIn) : (n.modEv i f).lineLow = n.lineLow := rfl
@[simp] theorem Node.modEv_seen (n : Node) (i : Nat) (f : EvIn → EvIn) : (n.modEv i f).seen = n.seen := rfl
@[simp] theorem Node.modEv_fwd (n : Node) (i : Nat) (f : EvIn → EvIn) : (n.modEv i f).fwd = n.fwd := rfl
@[simp] theorem Node.modEv_links (n : Node) (i : Nat) (f : EvIn → EvIn) : (n.modEv i f).links = n.links := rfl
@[simp] theorem Node.modEv_tnode (n : Node) (i : Nat) (f : EvIn → EvIn) : (n.modEv i f).tnode = n.tnode := rfl
@[simp] theorem Node.modEv_tports (n : Node) (i : Nat) (f : EvIn → EvIn) : (n.modEv i f).tports = n.tports := rfl
@[simp] theorem Node.modEv_chans (n : Node) (i : Nat) (f : EvIn → EvIn) : (n.modEv i f).chans = n.chans := rfl
@[simp] theorem Node.modEv_mslots (n : Node) (i : Nat) (f : EvIn → EvIn) : (n.modEv i f).mslots = n.mslots := rfl
@[simp] theorem Node.modEv_regrs (n : Node) (i : Nat) (f : EvIn → EvIn) : (n.modEv i f).regrs = n.regrs := rfl
@[simp] theorem Node.modEv_routes (n : Node) (i : Nat) (f : EvIn → EvIn) : (n.modEv i f).routes = n.routes := rfl
@[simp] theorem Node.modEv_answers (n : Node) (i : Nat) (f : EvIn → EvIn) : (n.modEv i f).answers = n.answers := rfl
@[simp] theorem Node.modEv_census (n : Node) (i : Nat) (f : EvIn → EvIn) : (n.modEv i f).census = n.census := rfl
@[simp] theorem Node.modEv_start (n : Node) (i : Nat) (f : EvIn → EvIn) : (n.modEv i f).start = n.start := rfl
@[simp] theorem Node.modEv_bases (n : Node) (i : Nat) (f : EvIn → EvIn) : (n.modEv i f).bases = n.bases := rfl
@[simp] theorem Node.modEv_hall (n : Node) (i : Nat) (f : EvIn → EvIn) : (n.modEv i f).hall = n.hall := rfl
@[simp] theorem Node.modEv_caps (n : Node) (i : Nat) (f : EvIn → EvIn) : (n.modEv i f).caps = n.caps := rfl
@[simp] theorem Node.modEv_pulses (n : Node) (i : Nat) (f : EvIn → EvIn) : (n.modEv i f).pulses = n.pulses := rfl
@[simp] theorem Node.modEv_bus (n : Node) (i : Nat) (f : EvIn → EvIn) : (n.modEv i f).bus = n.bus := rfl
@[simp] theorem Node.modEv_agents (n : Node) (i : Nat) (f : EvIn → EvIn) : (n.modEv i f).agents = n.agents := rfl
@[simp] theorem Node.modEv_cells (n : Node) (i : Nat) (f : EvIn → EvIn) : (n.modEv i f).cells = n.cells := rfl
@[simp] theorem Node.modEv_tslots (n : Node) (i : Nat) (f : EvIn → EvIn) : (n.modEv i f).tslots = n.tslots := rfl
@[simp] theorem Node.modEv_ctxs (n : Node) (i : Nat) (f : EvIn → EvIn) : (n.modEv i f).ctxs = n.ctxs := rfl
@[simp] theorem Node.modEv_clr (n : Node) (i : Nat) (f : EvIn → EvIn) : (n.modEv i f).clr = n.clr := rfl
@[simp] theorem Node.modEv_tally (n : Node) (i : Nat) (f : EvIn → EvIn) : (n.modEv i f).tally = n.tally := rfl
@[simp] theorem Node.modEv_mint (n : Node) (i : Nat) (f : EvIn → EvIn) : (n.modEv i f).mint = n.mint := rfl
@[simp] theorem Node.modEv_jrnl (n : Node) (i : Nat) (f : EvIn → EvIn) : (n.modEv i f).jrnl = n.jrnl := rfl
@[simp] theorem Node.modEv_key (n : Node) (i : Nat) (f : EvIn → EvIn) : (n.modEv i f).key = n.key := rfl
@[simp] theorem Node.modEv_regions (n : Node) (i : Nat) (f : EvIn → EvIn) : (n.modEv i f).regions = n.regions := rfl
@[simp] theorem Node.modEv_vault (n : Node) (i : Nat) (f : EvIn → EvIn) : (n.modEv i f).vault = n.vault := rfl
@[simp] theorem Node.modEv_kst (n : Node) (i : Nat) (f : EvIn → EvIn) : (n.modEv i f).kst = n.kst := rfl
@[simp] theorem Node.modEv_refs (n : Node) (i : Nat) (f : EvIn → EvIn) : (n.modEv i f).refs = n.refs := rfl
@[simp] theorem Node.modEv_monitors (n : Node) (i : Nat) (f : EvIn → EvIn) : (n.modEv i f).monitors = n.monitors := rfl
@[simp] theorem Node.modEv_outs (n : Node) (i : Nat) (f : EvIn → EvIn) : (n.modEv i f).outs = n.outs := rfl
@[simp] theorem Node.modEv_escInst (n : Node) (i : Nat) (f : EvIn → EvIn) : (n.modEv i f).escInst = n.escInst := rfl
@[simp] theorem Node.modEv_heads (n : Node) (i : Nat) (f : EvIn → EvIn) : (n.modEv i f).heads = n.heads := rfl
@[simp] theorem Node.modEv_lead (n : Node) (i : Nat) (f : EvIn → EvIn) : (n.modEv i f).lead = n.lead := rfl
@[simp] theorem Node.modEv_htal (n : Node) (i : Nat) (f : EvIn → EvIn) : (n.modEv i f).htal = n.htal := rfl
@[simp] theorem Node.modEv_engines (n : Node) (i : Nat) (f : EvIn → EvIn) : (n.modEv i f).engines = n.engines := rfl
@[simp] theorem Node.modEv_trails (n : Node) (i : Nat) (f : EvIn → EvIn) : (n.modEv i f).trails = n.trails := rfl
@[simp] theorem Node.modEv_jhub (n : Node) (i : Nat) (f : EvIn → EvIn) : (n.modEv i f).jhub = n.jhub := rfl
@[simp] theorem Node.modEv_replay (n : Node) (i : Nat) (f : EvIn → EvIn) : (n.modEv i f).replay = n.replay := rfl
@[simp] theorem Node.modEv_spans (n : Node) (i : Nat) (f : EvIn → EvIn) : (n.modEv i f).spans = n.spans := rfl
@[simp] theorem Node.modEv_dports (n : Node) (i : Nat) (f : EvIn → EvIn) : (n.modEv i f).dports = n.dports := rfl
@[simp] theorem Node.modEv_grants (n : Node) (i : Nat) (f : EvIn → EvIn) : (n.modEv i f).grants = n.grants := rfl
@[simp] theorem Node.modEv_access (n : Node) (i : Nat) (f : EvIn → EvIn) : (n.modEv i f).access = n.access := rfl
@[simp] theorem Node.modEv_hpwr (n : Node) (i : Nat) (f : EvIn → EvIn) : (n.modEv i f).hpwr = n.hpwr := rfl

/-! ### `modMslot` -/

@[simp] theorem Node.modMslot_mslotOf_same (n : Node) (i : Nat) (f : MSlot → MSlot) : (n.modMslot i f).mslotOf i = f (n.mslotOf i) := tblGet_tblSet_same ..
theorem Node.modMslot_mslotOf_ne (n : Node) {i j : Nat} (f : MSlot → MSlot) (h : i ≠ j) : (n.modMslot i f).mslotOf j = n.mslotOf j := tblGet_tblSet_ne _ _ _ h
@[simp] theorem Node.modMslot_kind (n : Node) (i : Nat) (f : MSlot → MSlot) : (n.modMslot i f).kind = n.kind := rfl
@[simp] theorem Node.modMslot_plane (n : Node) (i : Nat) (f : MSlot → MSlot) : (n.modMslot i f).plane = n.plane := rfl
@[simp] theorem Node.modMslot_level (n : Node) (i : Nat) (f : MSlot → MSlot) : (n.modMslot i f).level = n.level := rfl
@[simp] theorem Node.modMslot_arch (n : Node) (i : Nat) (f : MSlot → MSlot) : (n.modMslot i f).arch = n.arch := rfl
@[simp] theorem Node.modMslot_pier (n : Node) (i : Nat) (f : MSlot → MSlot) : (n.modMslot i f).pier = n.pier := rfl
@[simp] theorem Node.modMslot_threeLevel (n : Node) (i : Nat) (f : MSlot → MSlot) : (n.modMslot i f).threeLevel = n.threeLevel := rfl
@[simp] theorem Node.modMslot_tb1 (n : Node) (i : Nat) (f : MSlot → MSlot) : (n.modMslot i f).tb1 = n.tb1 := rfl
@[simp] theorem Node.modMslot_fresh (n : Node) (i : Nat) (f : MSlot → MSlot) : (n.modMslot i f).fresh = n.fresh := rfl
@[simp] theorem Node.modMslot_objs (n : Node) (i : Nat) (f : MSlot → MSlot) : (n.modMslot i f).objs = n.objs := rfl
@[simp] theorem Node.modMslot_deferred (n : Node) (i : Nat) (f : MSlot → MSlot) : (n.modMslot i f).deferred = n.deferred := rfl
@[simp] theorem Node.modMslot_log (n : Node) (i : Nat) (f : MSlot → MSlot) : (n.modMslot i f).log = n.log := rfl
@[simp] theorem Node.modMslot_lineLow (n : Node) (i : Nat) (f : MSlot → MSlot) : (n.modMslot i f).lineLow = n.lineLow := rfl
@[simp] theorem Node.modMslot_seen (n : Node) (i : Nat) (f : MSlot → MSlot) : (n.modMslot i f).seen = n.seen := rfl
@[simp] theorem Node.modMslot_fwd (n : Node) (i : Nat) (f : MSlot → MSlot) : (n.modMslot i f).fwd = n.fwd := rfl
@[simp] theorem Node.modMslot_links (n : Node) (i : Nat) (f : MSlot → MSlot) : (n.modMslot i f).links = n.links := rfl
@[simp] theorem Node.modMslot_tnode (n : Node) (i : Nat) (f : MSlot → MSlot) : (n.modMslot i f).tnode = n.tnode := rfl
@[simp] theorem Node.modMslot_tports (n : Node) (i : Nat) (f : MSlot → MSlot) : (n.modMslot i f).tports = n.tports := rfl
@[simp] theorem Node.modMslot_chans (n : Node) (i : Nat) (f : MSlot → MSlot) : (n.modMslot i f).chans = n.chans := rfl
@[simp] theorem Node.modMslot_evins (n : Node) (i : Nat) (f : MSlot → MSlot) : (n.modMslot i f).evins = n.evins := rfl
@[simp] theorem Node.modMslot_regrs (n : Node) (i : Nat) (f : MSlot → MSlot) : (n.modMslot i f).regrs = n.regrs := rfl
@[simp] theorem Node.modMslot_routes (n : Node) (i : Nat) (f : MSlot → MSlot) : (n.modMslot i f).routes = n.routes := rfl
@[simp] theorem Node.modMslot_answers (n : Node) (i : Nat) (f : MSlot → MSlot) : (n.modMslot i f).answers = n.answers := rfl
@[simp] theorem Node.modMslot_census (n : Node) (i : Nat) (f : MSlot → MSlot) : (n.modMslot i f).census = n.census := rfl
@[simp] theorem Node.modMslot_start (n : Node) (i : Nat) (f : MSlot → MSlot) : (n.modMslot i f).start = n.start := rfl
@[simp] theorem Node.modMslot_bases (n : Node) (i : Nat) (f : MSlot → MSlot) : (n.modMslot i f).bases = n.bases := rfl
@[simp] theorem Node.modMslot_hall (n : Node) (i : Nat) (f : MSlot → MSlot) : (n.modMslot i f).hall = n.hall := rfl
@[simp] theorem Node.modMslot_caps (n : Node) (i : Nat) (f : MSlot → MSlot) : (n.modMslot i f).caps = n.caps := rfl
@[simp] theorem Node.modMslot_pulses (n : Node) (i : Nat) (f : MSlot → MSlot) : (n.modMslot i f).pulses = n.pulses := rfl
@[simp] theorem Node.modMslot_bus (n : Node) (i : Nat) (f : MSlot → MSlot) : (n.modMslot i f).bus = n.bus := rfl
@[simp] theorem Node.modMslot_agents (n : Node) (i : Nat) (f : MSlot → MSlot) : (n.modMslot i f).agents = n.agents := rfl
@[simp] theorem Node.modMslot_cells (n : Node) (i : Nat) (f : MSlot → MSlot) : (n.modMslot i f).cells = n.cells := rfl
@[simp] theorem Node.modMslot_tslots (n : Node) (i : Nat) (f : MSlot → MSlot) : (n.modMslot i f).tslots = n.tslots := rfl
@[simp] theorem Node.modMslot_ctxs (n : Node) (i : Nat) (f : MSlot → MSlot) : (n.modMslot i f).ctxs = n.ctxs := rfl
@[simp] theorem Node.modMslot_clr (n : Node) (i : Nat) (f : MSlot → MSlot) : (n.modMslot i f).clr = n.clr := rfl
@[simp] theorem Node.modMslot_tally (n : Node) (i : Nat) (f : MSlot → MSlot) : (n.modMslot i f).tally = n.tally := rfl
@[simp] theorem Node.modMslot_mint (n : Node) (i : Nat) (f : MSlot → MSlot) : (n.modMslot i f).mint = n.mint := rfl
@[simp] theorem Node.modMslot_jrnl (n : Node) (i : Nat) (f : MSlot → MSlot) : (n.modMslot i f).jrnl = n.jrnl := rfl
@[simp] theorem Node.modMslot_key (n : Node) (i : Nat) (f : MSlot → MSlot) : (n.modMslot i f).key = n.key := rfl
@[simp] theorem Node.modMslot_regions (n : Node) (i : Nat) (f : MSlot → MSlot) : (n.modMslot i f).regions = n.regions := rfl
@[simp] theorem Node.modMslot_vault (n : Node) (i : Nat) (f : MSlot → MSlot) : (n.modMslot i f).vault = n.vault := rfl
@[simp] theorem Node.modMslot_kst (n : Node) (i : Nat) (f : MSlot → MSlot) : (n.modMslot i f).kst = n.kst := rfl
@[simp] theorem Node.modMslot_refs (n : Node) (i : Nat) (f : MSlot → MSlot) : (n.modMslot i f).refs = n.refs := rfl
@[simp] theorem Node.modMslot_monitors (n : Node) (i : Nat) (f : MSlot → MSlot) : (n.modMslot i f).monitors = n.monitors := rfl
@[simp] theorem Node.modMslot_outs (n : Node) (i : Nat) (f : MSlot → MSlot) : (n.modMslot i f).outs = n.outs := rfl
@[simp] theorem Node.modMslot_escInst (n : Node) (i : Nat) (f : MSlot → MSlot) : (n.modMslot i f).escInst = n.escInst := rfl
@[simp] theorem Node.modMslot_heads (n : Node) (i : Nat) (f : MSlot → MSlot) : (n.modMslot i f).heads = n.heads := rfl
@[simp] theorem Node.modMslot_lead (n : Node) (i : Nat) (f : MSlot → MSlot) : (n.modMslot i f).lead = n.lead := rfl
@[simp] theorem Node.modMslot_htal (n : Node) (i : Nat) (f : MSlot → MSlot) : (n.modMslot i f).htal = n.htal := rfl
@[simp] theorem Node.modMslot_engines (n : Node) (i : Nat) (f : MSlot → MSlot) : (n.modMslot i f).engines = n.engines := rfl
@[simp] theorem Node.modMslot_trails (n : Node) (i : Nat) (f : MSlot → MSlot) : (n.modMslot i f).trails = n.trails := rfl
@[simp] theorem Node.modMslot_jhub (n : Node) (i : Nat) (f : MSlot → MSlot) : (n.modMslot i f).jhub = n.jhub := rfl
@[simp] theorem Node.modMslot_replay (n : Node) (i : Nat) (f : MSlot → MSlot) : (n.modMslot i f).replay = n.replay := rfl
@[simp] theorem Node.modMslot_spans (n : Node) (i : Nat) (f : MSlot → MSlot) : (n.modMslot i f).spans = n.spans := rfl
@[simp] theorem Node.modMslot_dports (n : Node) (i : Nat) (f : MSlot → MSlot) : (n.modMslot i f).dports = n.dports := rfl
@[simp] theorem Node.modMslot_grants (n : Node) (i : Nat) (f : MSlot → MSlot) : (n.modMslot i f).grants = n.grants := rfl
@[simp] theorem Node.modMslot_access (n : Node) (i : Nat) (f : MSlot → MSlot) : (n.modMslot i f).access = n.access := rfl
@[simp] theorem Node.modMslot_hpwr (n : Node) (i : Nat) (f : MSlot → MSlot) : (n.modMslot i f).hpwr = n.hpwr := rfl

/-! ### `modRegr` -/

@[simp] theorem Node.modRegr_regrOf_same (n : Node) (i : Nat) (f : Regr → Regr) : (n.modRegr i f).regrOf i = f (n.regrOf i) := tblGet_tblSet_same ..
theorem Node.modRegr_regrOf_ne (n : Node) {i j : Nat} (f : Regr → Regr) (h : i ≠ j) : (n.modRegr i f).regrOf j = n.regrOf j := tblGet_tblSet_ne _ _ _ h
@[simp] theorem Node.modRegr_kind (n : Node) (i : Nat) (f : Regr → Regr) : (n.modRegr i f).kind = n.kind := rfl
@[simp] theorem Node.modRegr_plane (n : Node) (i : Nat) (f : Regr → Regr) : (n.modRegr i f).plane = n.plane := rfl
@[simp] theorem Node.modRegr_level (n : Node) (i : Nat) (f : Regr → Regr) : (n.modRegr i f).level = n.level := rfl
@[simp] theorem Node.modRegr_arch (n : Node) (i : Nat) (f : Regr → Regr) : (n.modRegr i f).arch = n.arch := rfl
@[simp] theorem Node.modRegr_pier (n : Node) (i : Nat) (f : Regr → Regr) : (n.modRegr i f).pier = n.pier := rfl
@[simp] theorem Node.modRegr_threeLevel (n : Node) (i : Nat) (f : Regr → Regr) : (n.modRegr i f).threeLevel = n.threeLevel := rfl
@[simp] theorem Node.modRegr_tb1 (n : Node) (i : Nat) (f : Regr → Regr) : (n.modRegr i f).tb1 = n.tb1 := rfl
@[simp] theorem Node.modRegr_fresh (n : Node) (i : Nat) (f : Regr → Regr) : (n.modRegr i f).fresh = n.fresh := rfl
@[simp] theorem Node.modRegr_objs (n : Node) (i : Nat) (f : Regr → Regr) : (n.modRegr i f).objs = n.objs := rfl
@[simp] theorem Node.modRegr_deferred (n : Node) (i : Nat) (f : Regr → Regr) : (n.modRegr i f).deferred = n.deferred := rfl
@[simp] theorem Node.modRegr_log (n : Node) (i : Nat) (f : Regr → Regr) : (n.modRegr i f).log = n.log := rfl
@[simp] theorem Node.modRegr_lineLow (n : Node) (i : Nat) (f : Regr → Regr) : (n.modRegr i f).lineLow = n.lineLow := rfl
@[simp] theorem Node.modRegr_seen (n : Node) (i : Nat) (f : Regr → Regr) : (n.modRegr i f).seen = n.seen := rfl
@[simp] theorem Node.modRegr_fwd (n : Node) (i : Nat) (f : Regr → Regr) : (n.modRegr i f).fwd = n.fwd := rfl
@[simp] theorem Node.modRegr_links (n : Node) (i : Nat) (f : Regr → Regr) : (n.modRegr i f).links = n.links := rfl
@[simp] theorem Node.modRegr_tnode (n : Node) (i : Nat) (f : Regr → Regr) : (n.modRegr i f).tnode = n.tnode := rfl
@[simp] theorem Node.modRegr_tports (n : Node) (i : Nat) (f : Regr → Regr) : (n.modRegr i f).tports = n.tports := rfl
@[simp] theorem Node.modRegr_chans (n : Node) (i : Nat) (f : Regr → Regr) : (n.modRegr i f).chans = n.chans := rfl
@[simp] theorem Node.modRegr_evins (n : Node) (i : Nat) (f : Regr → Regr) : (n.modRegr i f).evins = n.evins := rfl
@[simp] theorem Node.modRegr_mslots (n : Node) (i : Nat) (f : Regr → Regr) : (n.modRegr i f).mslots = n.mslots := rfl
@[simp] theorem Node.modRegr_routes (n : Node) (i : Nat) (f : Regr → Regr) : (n.modRegr i f).routes = n.routes := rfl
@[simp] theorem Node.modRegr_answers (n : Node) (i : Nat) (f : Regr → Regr) : (n.modRegr i f).answers = n.answers := rfl
@[simp] theorem Node.modRegr_census (n : Node) (i : Nat) (f : Regr → Regr) : (n.modRegr i f).census = n.census := rfl
@[simp] theorem Node.modRegr_start (n : Node) (i : Nat) (f : Regr → Regr) : (n.modRegr i f).start = n.start := rfl
@[simp] theorem Node.modRegr_bases (n : Node) (i : Nat) (f : Regr → Regr) : (n.modRegr i f).bases = n.bases := rfl
@[simp] theorem Node.modRegr_hall (n : Node) (i : Nat) (f : Regr → Regr) : (n.modRegr i f).hall = n.hall := rfl
@[simp] theorem Node.modRegr_caps (n : Node) (i : Nat) (f : Regr → Regr) : (n.modRegr i f).caps = n.caps := rfl
@[simp] theorem Node.modRegr_pulses (n : Node) (i : Nat) (f : Regr → Regr) : (n.modRegr i f).pulses = n.pulses := rfl
@[simp] theorem Node.modRegr_bus (n : Node) (i : Nat) (f : Regr → Regr) : (n.modRegr i f).bus = n.bus := rfl
@[simp] theorem Node.modRegr_agents (n : Node) (i : Nat) (f : Regr → Regr) : (n.modRegr i f).agents = n.agents := rfl
@[simp] theorem Node.modRegr_cells (n : Node) (i : Nat) (f : Regr → Regr) : (n.modRegr i f).cells = n.cells := rfl
@[simp] theorem Node.modRegr_tslots (n : Node) (i : Nat) (f : Regr → Regr) : (n.modRegr i f).tslots = n.tslots := rfl
@[simp] theorem Node.modRegr_ctxs (n : Node) (i : Nat) (f : Regr → Regr) : (n.modRegr i f).ctxs = n.ctxs := rfl
@[simp] theorem Node.modRegr_clr (n : Node) (i : Nat) (f : Regr → Regr) : (n.modRegr i f).clr = n.clr := rfl
@[simp] theorem Node.modRegr_tally (n : Node) (i : Nat) (f : Regr → Regr) : (n.modRegr i f).tally = n.tally := rfl
@[simp] theorem Node.modRegr_mint (n : Node) (i : Nat) (f : Regr → Regr) : (n.modRegr i f).mint = n.mint := rfl
@[simp] theorem Node.modRegr_jrnl (n : Node) (i : Nat) (f : Regr → Regr) : (n.modRegr i f).jrnl = n.jrnl := rfl
@[simp] theorem Node.modRegr_key (n : Node) (i : Nat) (f : Regr → Regr) : (n.modRegr i f).key = n.key := rfl
@[simp] theorem Node.modRegr_regions (n : Node) (i : Nat) (f : Regr → Regr) : (n.modRegr i f).regions = n.regions := rfl
@[simp] theorem Node.modRegr_vault (n : Node) (i : Nat) (f : Regr → Regr) : (n.modRegr i f).vault = n.vault := rfl
@[simp] theorem Node.modRegr_kst (n : Node) (i : Nat) (f : Regr → Regr) : (n.modRegr i f).kst = n.kst := rfl
@[simp] theorem Node.modRegr_refs (n : Node) (i : Nat) (f : Regr → Regr) : (n.modRegr i f).refs = n.refs := rfl
@[simp] theorem Node.modRegr_monitors (n : Node) (i : Nat) (f : Regr → Regr) : (n.modRegr i f).monitors = n.monitors := rfl
@[simp] theorem Node.modRegr_outs (n : Node) (i : Nat) (f : Regr → Regr) : (n.modRegr i f).outs = n.outs := rfl
@[simp] theorem Node.modRegr_escInst (n : Node) (i : Nat) (f : Regr → Regr) : (n.modRegr i f).escInst = n.escInst := rfl
@[simp] theorem Node.modRegr_heads (n : Node) (i : Nat) (f : Regr → Regr) : (n.modRegr i f).heads = n.heads := rfl
@[simp] theorem Node.modRegr_lead (n : Node) (i : Nat) (f : Regr → Regr) : (n.modRegr i f).lead = n.lead := rfl
@[simp] theorem Node.modRegr_htal (n : Node) (i : Nat) (f : Regr → Regr) : (n.modRegr i f).htal = n.htal := rfl
@[simp] theorem Node.modRegr_engines (n : Node) (i : Nat) (f : Regr → Regr) : (n.modRegr i f).engines = n.engines := rfl
@[simp] theorem Node.modRegr_trails (n : Node) (i : Nat) (f : Regr → Regr) : (n.modRegr i f).trails = n.trails := rfl
@[simp] theorem Node.modRegr_jhub (n : Node) (i : Nat) (f : Regr → Regr) : (n.modRegr i f).jhub = n.jhub := rfl
@[simp] theorem Node.modRegr_replay (n : Node) (i : Nat) (f : Regr → Regr) : (n.modRegr i f).replay = n.replay := rfl
@[simp] theorem Node.modRegr_spans (n : Node) (i : Nat) (f : Regr → Regr) : (n.modRegr i f).spans = n.spans := rfl
@[simp] theorem Node.modRegr_dports (n : Node) (i : Nat) (f : Regr → Regr) : (n.modRegr i f).dports = n.dports := rfl
@[simp] theorem Node.modRegr_grants (n : Node) (i : Nat) (f : Regr → Regr) : (n.modRegr i f).grants = n.grants := rfl
@[simp] theorem Node.modRegr_access (n : Node) (i : Nat) (f : Regr → Regr) : (n.modRegr i f).access = n.access := rfl
@[simp] theorem Node.modRegr_hpwr (n : Node) (i : Nat) (f : Regr → Regr) : (n.modRegr i f).hpwr = n.hpwr := rfl

/-! ### `modRoute` -/

@[simp] theorem Node.modRoute_routeOf_same (n : Node) (i : Nat) (f : Route → Route) : (n.modRoute i f).routeOf i = f (n.routeOf i) := tblGet_tblSet_same ..
theorem Node.modRoute_routeOf_ne (n : Node) {i j : Nat} (f : Route → Route) (h : i ≠ j) : (n.modRoute i f).routeOf j = n.routeOf j := tblGet_tblSet_ne _ _ _ h
@[simp] theorem Node.modRoute_kind (n : Node) (i : Nat) (f : Route → Route) : (n.modRoute i f).kind = n.kind := rfl
@[simp] theorem Node.modRoute_plane (n : Node) (i : Nat) (f : Route → Route) : (n.modRoute i f).plane = n.plane := rfl
@[simp] theorem Node.modRoute_level (n : Node) (i : Nat) (f : Route → Route) : (n.modRoute i f).level = n.level := rfl
@[simp] theorem Node.modRoute_arch (n : Node) (i : Nat) (f : Route → Route) : (n.modRoute i f).arch = n.arch := rfl
@[simp] theorem Node.modRoute_pier (n : Node) (i : Nat) (f : Route → Route) : (n.modRoute i f).pier = n.pier := rfl
@[simp] theorem Node.modRoute_threeLevel (n : Node) (i : Nat) (f : Route → Route) : (n.modRoute i f).threeLevel = n.threeLevel := rfl
@[simp] theorem Node.modRoute_tb1 (n : Node) (i : Nat) (f : Route → Route) : (n.modRoute i f).tb1 = n.tb1 := rfl
@[simp] theorem Node.modRoute_fresh (n : Node) (i : Nat) (f : Route → Route) : (n.modRoute i f).fresh = n.fresh := rfl
@[simp] theorem Node.modRoute_objs (n : Node) (i : Nat) (f : Route → Route) : (n.modRoute i f).objs = n.objs := rfl
@[simp] theorem Node.modRoute_deferred (n : Node) (i : Nat) (f : Route → Route) : (n.modRoute i f).deferred = n.deferred := rfl
@[simp] theorem Node.modRoute_log (n : Node) (i : Nat) (f : Route → Route) : (n.modRoute i f).log = n.log := rfl
@[simp] theorem Node.modRoute_lineLow (n : Node) (i : Nat) (f : Route → Route) : (n.modRoute i f).lineLow = n.lineLow := rfl
@[simp] theorem Node.modRoute_seen (n : Node) (i : Nat) (f : Route → Route) : (n.modRoute i f).seen = n.seen := rfl
@[simp] theorem Node.modRoute_fwd (n : Node) (i : Nat) (f : Route → Route) : (n.modRoute i f).fwd = n.fwd := rfl
@[simp] theorem Node.modRoute_links (n : Node) (i : Nat) (f : Route → Route) : (n.modRoute i f).links = n.links := rfl
@[simp] theorem Node.modRoute_tnode (n : Node) (i : Nat) (f : Route → Route) : (n.modRoute i f).tnode = n.tnode := rfl
@[simp] theorem Node.modRoute_tports (n : Node) (i : Nat) (f : Route → Route) : (n.modRoute i f).tports = n.tports := rfl
@[simp] theorem Node.modRoute_chans (n : Node) (i : Nat) (f : Route → Route) : (n.modRoute i f).chans = n.chans := rfl
@[simp] theorem Node.modRoute_evins (n : Node) (i : Nat) (f : Route → Route) : (n.modRoute i f).evins = n.evins := rfl
@[simp] theorem Node.modRoute_mslots (n : Node) (i : Nat) (f : Route → Route) : (n.modRoute i f).mslots = n.mslots := rfl
@[simp] theorem Node.modRoute_regrs (n : Node) (i : Nat) (f : Route → Route) : (n.modRoute i f).regrs = n.regrs := rfl
@[simp] theorem Node.modRoute_answers (n : Node) (i : Nat) (f : Route → Route) : (n.modRoute i f).answers = n.answers := rfl
@[simp] theorem Node.modRoute_census (n : Node) (i : Nat) (f : Route → Route) : (n.modRoute i f).census = n.census := rfl
@[simp] theorem Node.modRoute_start (n : Node) (i : Nat) (f : Route → Route) : (n.modRoute i f).start = n.start := rfl
@[simp] theorem Node.modRoute_bases (n : Node) (i : Nat) (f : Route → Route) : (n.modRoute i f).bases = n.bases := rfl
@[simp] theorem Node.modRoute_hall (n : Node) (i : Nat) (f : Route → Route) : (n.modRoute i f).hall = n.hall := rfl
@[simp] theorem Node.modRoute_caps (n : Node) (i : Nat) (f : Route → Route) : (n.modRoute i f).caps = n.caps := rfl
@[simp] theorem Node.modRoute_pulses (n : Node) (i : Nat) (f : Route → Route) : (n.modRoute i f).pulses = n.pulses := rfl
@[simp] theorem Node.modRoute_bus (n : Node) (i : Nat) (f : Route → Route) : (n.modRoute i f).bus = n.bus := rfl
@[simp] theorem Node.modRoute_agents (n : Node) (i : Nat) (f : Route → Route) : (n.modRoute i f).agents = n.agents := rfl
@[simp] theorem Node.modRoute_cells (n : Node) (i : Nat) (f : Route → Route) : (n.modRoute i f).cells = n.cells := rfl
@[simp] theorem Node.modRoute_tslots (n : Node) (i : Nat) (f : Route → Route) : (n.modRoute i f).tslots = n.tslots := rfl
@[simp] theorem Node.modRoute_ctxs (n : Node) (i : Nat) (f : Route → Route) : (n.modRoute i f).ctxs = n.ctxs := rfl
@[simp] theorem Node.modRoute_clr (n : Node) (i : Nat) (f : Route → Route) : (n.modRoute i f).clr = n.clr := rfl
@[simp] theorem Node.modRoute_tally (n : Node) (i : Nat) (f : Route → Route) : (n.modRoute i f).tally = n.tally := rfl
@[simp] theorem Node.modRoute_mint (n : Node) (i : Nat) (f : Route → Route) : (n.modRoute i f).mint = n.mint := rfl
@[simp] theorem Node.modRoute_jrnl (n : Node) (i : Nat) (f : Route → Route) : (n.modRoute i f).jrnl = n.jrnl := rfl
@[simp] theorem Node.modRoute_key (n : Node) (i : Nat) (f : Route → Route) : (n.modRoute i f).key = n.key := rfl
@[simp] theorem Node.modRoute_regions (n : Node) (i : Nat) (f : Route → Route) : (n.modRoute i f).regions = n.regions := rfl
@[simp] theorem Node.modRoute_vault (n : Node) (i : Nat) (f : Route → Route) : (n.modRoute i f).vault = n.vault := rfl
@[simp] theorem Node.modRoute_kst (n : Node) (i : Nat) (f : Route → Route) : (n.modRoute i f).kst = n.kst := rfl
@[simp] theorem Node.modRoute_refs (n : Node) (i : Nat) (f : Route → Route) : (n.modRoute i f).refs = n.refs := rfl
@[simp] theorem Node.modRoute_monitors (n : Node) (i : Nat) (f : Route → Route) : (n.modRoute i f).monitors = n.monitors := rfl
@[simp] theorem Node.modRoute_outs (n : Node) (i : Nat) (f : Route → Route) : (n.modRoute i f).outs = n.outs := rfl
@[simp] theorem Node.modRoute_escInst (n : Node) (i : Nat) (f : Route → Route) : (n.modRoute i f).escInst = n.escInst := rfl
@[simp] theorem Node.modRoute_heads (n : Node) (i : Nat) (f : Route → Route) : (n.modRoute i f).heads = n.heads := rfl
@[simp] theorem Node.modRoute_lead (n : Node) (i : Nat) (f : Route → Route) : (n.modRoute i f).lead = n.lead := rfl
@[simp] theorem Node.modRoute_htal (n : Node) (i : Nat) (f : Route → Route) : (n.modRoute i f).htal = n.htal := rfl
@[simp] theorem Node.modRoute_engines (n : Node) (i : Nat) (f : Route → Route) : (n.modRoute i f).engines = n.engines := rfl
@[simp] theorem Node.modRoute_trails (n : Node) (i : Nat) (f : Route → Route) : (n.modRoute i f).trails = n.trails := rfl
@[simp] theorem Node.modRoute_jhub (n : Node) (i : Nat) (f : Route → Route) : (n.modRoute i f).jhub = n.jhub := rfl
@[simp] theorem Node.modRoute_replay (n : Node) (i : Nat) (f : Route → Route) : (n.modRoute i f).replay = n.replay := rfl
@[simp] theorem Node.modRoute_spans (n : Node) (i : Nat) (f : Route → Route) : (n.modRoute i f).spans = n.spans := rfl
@[simp] theorem Node.modRoute_dports (n : Node) (i : Nat) (f : Route → Route) : (n.modRoute i f).dports = n.dports := rfl
@[simp] theorem Node.modRoute_grants (n : Node) (i : Nat) (f : Route → Route) : (n.modRoute i f).grants = n.grants := rfl
@[simp] theorem Node.modRoute_access (n : Node) (i : Nat) (f : Route → Route) : (n.modRoute i f).access = n.access := rfl
@[simp] theorem Node.modRoute_hpwr (n : Node) (i : Nat) (f : Route → Route) : (n.modRoute i f).hpwr = n.hpwr := rfl

/-! ### `modAnswer` -/

@[simp] theorem Node.modAnswer_answerOf_same (n : Node) (i : Nat) (f : Answer → Answer) : (n.modAnswer i f).answerOf i = f (n.answerOf i) := tblGet_tblSet_same ..
theorem Node.modAnswer_answerOf_ne (n : Node) {i j : Nat} (f : Answer → Answer) (h : i ≠ j) : (n.modAnswer i f).answerOf j = n.answerOf j := tblGet_tblSet_ne _ _ _ h
@[simp] theorem Node.modAnswer_kind (n : Node) (i : Nat) (f : Answer → Answer) : (n.modAnswer i f).kind = n.kind := rfl
@[simp] theorem Node.modAnswer_plane (n : Node) (i : Nat) (f : Answer → Answer) : (n.modAnswer i f).plane = n.plane := rfl
@[simp] theorem Node.modAnswer_level (n : Node) (i : Nat) (f : Answer → Answer) : (n.modAnswer i f).level = n.level := rfl
@[simp] theorem Node.modAnswer_arch (n : Node) (i : Nat) (f : Answer → Answer) : (n.modAnswer i f).arch = n.arch := rfl
@[simp] theorem Node.modAnswer_pier (n : Node) (i : Nat) (f : Answer → Answer) : (n.modAnswer i f).pier = n.pier := rfl
@[simp] theorem Node.modAnswer_threeLevel (n : Node) (i : Nat) (f : Answer → Answer) : (n.modAnswer i f).threeLevel = n.threeLevel := rfl
@[simp] theorem Node.modAnswer_tb1 (n : Node) (i : Nat) (f : Answer → Answer) : (n.modAnswer i f).tb1 = n.tb1 := rfl
@[simp] theorem Node.modAnswer_fresh (n : Node) (i : Nat) (f : Answer → Answer) : (n.modAnswer i f).fresh = n.fresh := rfl
@[simp] theorem Node.modAnswer_objs (n : Node) (i : Nat) (f : Answer → Answer) : (n.modAnswer i f).objs = n.objs := rfl
@[simp] theorem Node.modAnswer_deferred (n : Node) (i : Nat) (f : Answer → Answer) : (n.modAnswer i f).deferred = n.deferred := rfl
@[simp] theorem Node.modAnswer_log (n : Node) (i : Nat) (f : Answer → Answer) : (n.modAnswer i f).log = n.log := rfl
@[simp] theorem Node.modAnswer_lineLow (n : Node) (i : Nat) (f : Answer → Answer) : (n.modAnswer i f).lineLow = n.lineLow := rfl
@[simp] theorem Node.modAnswer_seen (n : Node) (i : Nat) (f : Answer → Answer) : (n.modAnswer i f).seen = n.seen := rfl
@[simp] theorem Node.modAnswer_fwd (n : Node) (i : Nat) (f : Answer → Answer) : (n.modAnswer i f).fwd = n.fwd := rfl
@[simp] theorem Node.modAnswer_links (n : Node) (i : Nat) (f : Answer → Answer) : (n.modAnswer i f).links = n.links := rfl
@[simp] theorem Node.modAnswer_tnode (n : Node) (i : Nat) (f : Answer → Answer) : (n.modAnswer i f).tnode = n.tnode := rfl
@[simp] theorem Node.modAnswer_tports (n : Node) (i : Nat) (f : Answer → Answer) : (n.modAnswer i f).tports = n.tports := rfl
@[simp] theorem Node.modAnswer_chans (n : Node) (i : Nat) (f : Answer → Answer) : (n.modAnswer i f).chans = n.chans := rfl
@[simp] theorem Node.modAnswer_evins (n : Node) (i : Nat) (f : Answer → Answer) : (n.modAnswer i f).evins = n.evins := rfl
@[simp] theorem Node.modAnswer_mslots (n : Node) (i : Nat) (f : Answer → Answer) : (n.modAnswer i f).mslots = n.mslots := rfl
@[simp] theorem Node.modAnswer_regrs (n : Node) (i : Nat) (f : Answer → Answer) : (n.modAnswer i f).regrs = n.regrs := rfl
@[simp] theorem Node.modAnswer_routes (n : Node) (i : Nat) (f : Answer → Answer) : (n.modAnswer i f).routes = n.routes := rfl
@[simp] theorem Node.modAnswer_census (n : Node) (i : Nat) (f : Answer → Answer) : (n.modAnswer i f).census = n.census := rfl
@[simp] theorem Node.modAnswer_start (n : Node) (i : Nat) (f : Answer → Answer) : (n.modAnswer i f).start = n.start := rfl
@[simp] theorem Node.modAnswer_bases (n : Node) (i : Nat) (f : Answer → Answer) : (n.modAnswer i f).bases = n.bases := rfl
@[simp] theorem Node.modAnswer_hall (n : Node) (i : Nat) (f : Answer → Answer) : (n.modAnswer i f).hall = n.hall := rfl
@[simp] theorem Node.modAnswer_caps (n : Node) (i : Nat) (f : Answer → Answer) : (n.modAnswer i f).caps = n.caps := rfl
@[simp] theorem Node.modAnswer_pulses (n : Node) (i : Nat) (f : Answer → Answer) : (n.modAnswer i f).pulses = n.pulses := rfl
@[simp] theorem Node.modAnswer_bus (n : Node) (i : Nat) (f : Answer → Answer) : (n.modAnswer i f).bus = n.bus := rfl
@[simp] theorem Node.modAnswer_agents (n : Node) (i : Nat) (f : Answer → Answer) : (n.modAnswer i f).agents = n.agents := rfl
@[simp] theorem Node.modAnswer_cells (n : Node) (i : Nat) (f : Answer → Answer) : (n.modAnswer i f).cells = n.cells := rfl
@[simp] theorem Node.modAnswer_tslots (n : Node) (i : Nat) (f : Answer → Answer) : (n.modAnswer i f).tslots = n.tslots := rfl
@[simp] theorem Node.modAnswer_ctxs (n : Node) (i : Nat) (f : Answer → Answer) : (n.modAnswer i f).ctxs = n.ctxs := rfl
@[simp] theorem Node.modAnswer_clr (n : Node) (i : Nat) (f : Answer → Answer) : (n.modAnswer i f).clr = n.clr := rfl
@[simp] theorem Node.modAnswer_tally (n : Node) (i : Nat) (f : Answer → Answer) : (n.modAnswer i f).tally = n.tally := rfl
@[simp] theorem Node.modAnswer_mint (n : Node) (i : Nat) (f : Answer → Answer) : (n.modAnswer i f).mint = n.mint := rfl
@[simp] theorem Node.modAnswer_jrnl (n : Node) (i : Nat) (f : Answer → Answer) : (n.modAnswer i f).jrnl = n.jrnl := rfl
@[simp] theorem Node.modAnswer_key (n : Node) (i : Nat) (f : Answer → Answer) : (n.modAnswer i f).key = n.key := rfl
@[simp] theorem Node.modAnswer_regions (n : Node) (i : Nat) (f : Answer → Answer) : (n.modAnswer i f).regions = n.regions := rfl
@[simp] theorem Node.modAnswer_vault (n : Node) (i : Nat) (f : Answer → Answer) : (n.modAnswer i f).vault = n.vault := rfl
@[simp] theorem Node.modAnswer_kst (n : Node) (i : Nat) (f : Answer → Answer) : (n.modAnswer i f).kst = n.kst := rfl
@[simp] theorem Node.modAnswer_refs (n : Node) (i : Nat) (f : Answer → Answer) : (n.modAnswer i f).refs = n.refs := rfl
@[simp] theorem Node.modAnswer_monitors (n : Node) (i : Nat) (f : Answer → Answer) : (n.modAnswer i f).monitors = n.monitors := rfl
@[simp] theorem Node.modAnswer_outs (n : Node) (i : Nat) (f : Answer → Answer) : (n.modAnswer i f).outs = n.outs := rfl
@[simp] theorem Node.modAnswer_escInst (n : Node) (i : Nat) (f : Answer → Answer) : (n.modAnswer i f).escInst = n.escInst := rfl
@[simp] theorem Node.modAnswer_heads (n : Node) (i : Nat) (f : Answer → Answer) : (n.modAnswer i f).heads = n.heads := rfl
@[simp] theorem Node.modAnswer_lead (n : Node) (i : Nat) (f : Answer → Answer) : (n.modAnswer i f).lead = n.lead := rfl
@[simp] theorem Node.modAnswer_htal (n : Node) (i : Nat) (f : Answer → Answer) : (n.modAnswer i f).htal = n.htal := rfl
@[simp] theorem Node.modAnswer_engines (n : Node) (i : Nat) (f : Answer → Answer) : (n.modAnswer i f).engines = n.engines := rfl
@[simp] theorem Node.modAnswer_trails (n : Node) (i : Nat) (f : Answer → Answer) : (n.modAnswer i f).trails = n.trails := rfl
@[simp] theorem Node.modAnswer_jhub (n : Node) (i : Nat) (f : Answer → Answer) : (n.modAnswer i f).jhub = n.jhub := rfl
@[simp] theorem Node.modAnswer_replay (n : Node) (i : Nat) (f : Answer → Answer) : (n.modAnswer i f).replay = n.replay := rfl
@[simp] theorem Node.modAnswer_spans (n : Node) (i : Nat) (f : Answer → Answer) : (n.modAnswer i f).spans = n.spans := rfl
@[simp] theorem Node.modAnswer_dports (n : Node) (i : Nat) (f : Answer → Answer) : (n.modAnswer i f).dports = n.dports := rfl
@[simp] theorem Node.modAnswer_grants (n : Node) (i : Nat) (f : Answer → Answer) : (n.modAnswer i f).grants = n.grants := rfl
@[simp] theorem Node.modAnswer_access (n : Node) (i : Nat) (f : Answer → Answer) : (n.modAnswer i f).access = n.access := rfl
@[simp] theorem Node.modAnswer_hpwr (n : Node) (i : Nat) (f : Answer → Answer) : (n.modAnswer i f).hpwr = n.hpwr := rfl

/-! ### `modBase` -/

@[simp] theorem Node.modBase_baseOf_same (n : Node) (i : Nat) (f : TBase → TBase) : (n.modBase i f).baseOf i = f (n.baseOf i) := tblGet_tblSet_same ..
theorem Node.modBase_baseOf_ne (n : Node) {i j : Nat} (f : TBase → TBase) (h : i ≠ j) : (n.modBase i f).baseOf j = n.baseOf j := tblGet_tblSet_ne _ _ _ h
@[simp] theorem Node.modBase_kind (n : Node) (i : Nat) (f : TBase → TBase) : (n.modBase i f).kind = n.kind := rfl
@[simp] theorem Node.modBase_plane (n : Node) (i : Nat) (f : TBase → TBase) : (n.modBase i f).plane = n.plane := rfl
@[simp] theorem Node.modBase_level (n : Node) (i : Nat) (f : TBase → TBase) : (n.modBase i f).level = n.level := rfl
@[simp] theorem Node.modBase_arch (n : Node) (i : Nat) (f : TBase → TBase) : (n.modBase i f).arch = n.arch := rfl
@[simp] theorem Node.modBase_pier (n : Node) (i : Nat) (f : TBase → TBase) : (n.modBase i f).pier = n.pier := rfl
@[simp] theorem Node.modBase_threeLevel (n : Node) (i : Nat) (f : TBase → TBase) : (n.modBase i f).threeLevel = n.threeLevel := rfl
@[simp] theorem Node.modBase_tb1 (n : Node) (i : Nat) (f : TBase → TBase) : (n.modBase i f).tb1 = n.tb1 := rfl
@[simp] theorem Node.modBase_fresh (n : Node) (i : Nat) (f : TBase → TBase) : (n.modBase i f).fresh = n.fresh := rfl
@[simp] theorem Node.modBase_objs (n : Node) (i : Nat) (f : TBase → TBase) : (n.modBase i f).objs = n.objs := rfl
@[simp] theorem Node.modBase_deferred (n : Node) (i : Nat) (f : TBase → TBase) : (n.modBase i f).deferred = n.deferred := rfl
@[simp] theorem Node.modBase_log (n : Node) (i : Nat) (f : TBase → TBase) : (n.modBase i f).log = n.log := rfl
@[simp] theorem Node.modBase_lineLow (n : Node) (i : Nat) (f : TBase → TBase) : (n.modBase i f).lineLow = n.lineLow := rfl
@[simp] theorem Node.modBase_seen (n : Node) (i : Nat) (f : TBase → TBase) : (n.modBase i f).seen = n.seen := rfl
@[simp] theorem Node.modBase_fwd (n : Node) (i : Nat) (f : TBase → TBase) : (n.modBase i f).fwd = n.fwd := rfl
@[simp] theorem Node.modBase_links (n : Node) (i : Nat) (f : TBase → TBase) : (n.modBase i f).links = n.links := rfl
@[simp] theorem Node.modBase_tnode (n : Node) (i : Nat) (f : TBase → TBase) : (n.modBase i f).tnode = n.tnode := rfl
@[simp] theorem Node.modBase_tports (n : Node) (i : Nat) (f : TBase → TBase) : (n.modBase i f).tports = n.tports := rfl
@[simp] theorem Node.modBase_chans (n : Node) (i : Nat) (f : TBase → TBase) : (n.modBase i f).chans = n.chans := rfl
@[simp] theorem Node.modBase_evins (n : Node) (i : Nat) (f : TBase → TBase) : (n.modBase i f).evins = n.evins := rfl
@[simp] theorem Node.modBase_mslots (n : Node) (i : Nat) (f : TBase → TBase) : (n.modBase i f).mslots = n.mslots := rfl
@[simp] theorem Node.modBase_regrs (n : Node) (i : Nat) (f : TBase → TBase) : (n.modBase i f).regrs = n.regrs := rfl
@[simp] theorem Node.modBase_routes (n : Node) (i : Nat) (f : TBase → TBase) : (n.modBase i f).routes = n.routes := rfl
@[simp] theorem Node.modBase_answers (n : Node) (i : Nat) (f : TBase → TBase) : (n.modBase i f).answers = n.answers := rfl
@[simp] theorem Node.modBase_census (n : Node) (i : Nat) (f : TBase → TBase) : (n.modBase i f).census = n.census := rfl
@[simp] theorem Node.modBase_start (n : Node) (i : Nat) (f : TBase → TBase) : (n.modBase i f).start = n.start := rfl
@[simp] theorem Node.modBase_hall (n : Node) (i : Nat) (f : TBase → TBase) : (n.modBase i f).hall = n.hall := rfl
@[simp] theorem Node.modBase_caps (n : Node) (i : Nat) (f : TBase → TBase) : (n.modBase i f).caps = n.caps := rfl
@[simp] theorem Node.modBase_pulses (n : Node) (i : Nat) (f : TBase → TBase) : (n.modBase i f).pulses = n.pulses := rfl
@[simp] theorem Node.modBase_bus (n : Node) (i : Nat) (f : TBase → TBase) : (n.modBase i f).bus = n.bus := rfl
@[simp] theorem Node.modBase_agents (n : Node) (i : Nat) (f : TBase → TBase) : (n.modBase i f).agents = n.agents := rfl
@[simp] theorem Node.modBase_cells (n : Node) (i : Nat) (f : TBase → TBase) : (n.modBase i f).cells = n.cells := rfl
@[simp] theorem Node.modBase_tslots (n : Node) (i : Nat) (f : TBase → TBase) : (n.modBase i f).tslots = n.tslots := rfl
@[simp] theorem Node.modBase_ctxs (n : Node) (i : Nat) (f : TBase → TBase) : (n.modBase i f).ctxs = n.ctxs := rfl
@[simp] theorem Node.modBase_clr (n : Node) (i : Nat) (f : TBase → TBase) : (n.modBase i f).clr = n.clr := rfl
@[simp] theorem Node.modBase_tally (n : Node) (i : Nat) (f : TBase → TBase) : (n.modBase i f).tally = n.tally := rfl
@[simp] theorem Node.modBase_mint (n : Node) (i : Nat) (f : TBase → TBase) : (n.modBase i f).mint = n.mint := rfl
@[simp] theorem Node.modBase_jrnl (n : Node) (i : Nat) (f : TBase → TBase) : (n.modBase i f).jrnl = n.jrnl := rfl
@[simp] theorem Node.modBase_key (n : Node) (i : Nat) (f : TBase → TBase) : (n.modBase i f).key = n.key := rfl
@[simp] theorem Node.modBase_regions (n : Node) (i : Nat) (f : TBase → TBase) : (n.modBase i f).regions = n.regions := rfl
@[simp] theorem Node.modBase_vault (n : Node) (i : Nat) (f : TBase → TBase) : (n.modBase i f).vault = n.vault := rfl
@[simp] theorem Node.modBase_kst (n : Node) (i : Nat) (f : TBase → TBase) : (n.modBase i f).kst = n.kst := rfl
@[simp] theorem Node.modBase_refs (n : Node) (i : Nat) (f : TBase → TBase) : (n.modBase i f).refs = n.refs := rfl
@[simp] theorem Node.modBase_monitors (n : Node) (i : Nat) (f : TBase → TBase) : (n.modBase i f).monitors = n.monitors := rfl
@[simp] theorem Node.modBase_outs (n : Node) (i : Nat) (f : TBase → TBase) : (n.modBase i f).outs = n.outs := rfl
@[simp] theorem Node.modBase_escInst (n : Node) (i : Nat) (f : TBase → TBase) : (n.modBase i f).escInst = n.escInst := rfl
@[simp] theorem Node.modBase_heads (n : Node) (i : Nat) (f : TBase → TBase) : (n.modBase i f).heads = n.heads := rfl
@[simp] theorem Node.modBase_lead (n : Node) (i : Nat) (f : TBase → TBase) : (n.modBase i f).lead = n.lead := rfl
@[simp] theorem Node.modBase_htal (n : Node) (i : Nat) (f : TBase → TBase) : (n.modBase i f).htal = n.htal := rfl
@[simp] theorem Node.modBase_engines (n : Node) (i : Nat) (f : TBase → TBase) : (n.modBase i f).engines = n.engines := rfl
@[simp] theorem Node.modBase_trails (n : Node) (i : Nat) (f : TBase → TBase) : (n.modBase i f).trails = n.trails := rfl
@[simp] theorem Node.modBase_jhub (n : Node) (i : Nat) (f : TBase → TBase) : (n.modBase i f).jhub = n.jhub := rfl
@[simp] theorem Node.modBase_replay (n : Node) (i : Nat) (f : TBase → TBase) : (n.modBase i f).replay = n.replay := rfl
@[simp] theorem Node.modBase_spans (n : Node) (i : Nat) (f : TBase → TBase) : (n.modBase i f).spans = n.spans := rfl
@[simp] theorem Node.modBase_dports (n : Node) (i : Nat) (f : TBase → TBase) : (n.modBase i f).dports = n.dports := rfl
@[simp] theorem Node.modBase_grants (n : Node) (i : Nat) (f : TBase → TBase) : (n.modBase i f).grants = n.grants := rfl
@[simp] theorem Node.modBase_access (n : Node) (i : Nat) (f : TBase → TBase) : (n.modBase i f).access = n.access := rfl
@[simp] theorem Node.modBase_hpwr (n : Node) (i : Nat) (f : TBase → TBase) : (n.modBase i f).hpwr = n.hpwr := rfl

/-! ### `modCap` -/

@[simp] theorem Node.modCap_capOf_same (n : Node) (i : Nat) (f : CapQ → CapQ) : (n.modCap i f).capOf i = f (n.capOf i) := tblGet_tblSet_same ..
theorem Node.modCap_capOf_ne (n : Node) {i j : Nat} (f : CapQ → CapQ) (h : i ≠ j) : (n.modCap i f).capOf j = n.capOf j := tblGet_tblSet_ne _ _ _ h
@[simp] theorem Node.modCap_kind (n : Node) (i : Nat) (f : CapQ → CapQ) : (n.modCap i f).kind = n.kind := rfl
@[simp] theorem Node.modCap_plane (n : Node) (i : Nat) (f : CapQ → CapQ) : (n.modCap i f).plane = n.plane := rfl
@[simp] theorem Node.modCap_level (n : Node) (i : Nat) (f : CapQ → CapQ) : (n.modCap i f).level = n.level := rfl
@[simp] theorem Node.modCap_arch (n : Node) (i : Nat) (f : CapQ → CapQ) : (n.modCap i f).arch = n.arch := rfl
@[simp] theorem Node.modCap_pier (n : Node) (i : Nat) (f : CapQ → CapQ) : (n.modCap i f).pier = n.pier := rfl
@[simp] theorem Node.modCap_threeLevel (n : Node) (i : Nat) (f : CapQ → CapQ) : (n.modCap i f).threeLevel = n.threeLevel := rfl
@[simp] theorem Node.modCap_tb1 (n : Node) (i : Nat) (f : CapQ → CapQ) : (n.modCap i f).tb1 = n.tb1 := rfl
@[simp] theorem Node.modCap_fresh (n : Node) (i : Nat) (f : CapQ → CapQ) : (n.modCap i f).fresh = n.fresh := rfl
@[simp] theorem Node.modCap_objs (n : Node) (i : Nat) (f : CapQ → CapQ) : (n.modCap i f).objs = n.objs := rfl
@[simp] theorem Node.modCap_deferred (n : Node) (i : Nat) (f : CapQ → CapQ) : (n.modCap i f).deferred = n.deferred := rfl
@[simp] theorem Node.modCap_log (n : Node) (i : Nat) (f : CapQ → CapQ) : (n.modCap i f).log = n.log := rfl
@[simp] theorem Node.modCap_lineLow (n : Node) (i : Nat) (f : CapQ → CapQ) : (n.modCap i f).lineLow = n.lineLow := rfl
@[simp] theorem Node.modCap_seen (n : Node) (i : Nat) (f : CapQ → CapQ) : (n.modCap i f).seen = n.seen := rfl
@[simp] theorem Node.modCap_fwd (n : Node) (i : Nat) (f : CapQ → CapQ) : (n.modCap i f).fwd = n.fwd := rfl
@[simp] theorem Node.modCap_links (n : Node) (i : Nat) (f : CapQ → CapQ) : (n.modCap i f).links = n.links := rfl
@[simp] theorem Node.modCap_tnode (n : Node) (i : Nat) (f : CapQ → CapQ) : (n.modCap i f).tnode = n.tnode := rfl
@[simp] theorem Node.modCap_tports (n : Node) (i : Nat) (f : CapQ → CapQ) : (n.modCap i f).tports = n.tports := rfl
@[simp] theorem Node.modCap_chans (n : Node) (i : Nat) (f : CapQ → CapQ) : (n.modCap i f).chans = n.chans := rfl
@[simp] theorem Node.modCap_evins (n : Node) (i : Nat) (f : CapQ → CapQ) : (n.modCap i f).evins = n.evins := rfl
@[simp] theorem Node.modCap_mslots (n : Node) (i : Nat) (f : CapQ → CapQ) : (n.modCap i f).mslots = n.mslots := rfl
@[simp] theorem Node.modCap_regrs (n : Node) (i : Nat) (f : CapQ → CapQ) : (n.modCap i f).regrs = n.regrs := rfl
@[simp] theorem Node.modCap_routes (n : Node) (i : Nat) (f : CapQ → CapQ) : (n.modCap i f).routes = n.routes := rfl
@[simp] theorem Node.modCap_answers (n : Node) (i : Nat) (f : CapQ → CapQ) : (n.modCap i f).answers = n.answers := rfl
@[simp] theorem Node.modCap_census (n : Node) (i : Nat) (f : CapQ → CapQ) : (n.modCap i f).census = n.census := rfl
@[simp] theorem Node.modCap_start (n : Node) (i : Nat) (f : CapQ → CapQ) : (n.modCap i f).start = n.start := rfl
@[simp] theorem Node.modCap_bases (n : Node) (i : Nat) (f : CapQ → CapQ) : (n.modCap i f).bases = n.bases := rfl
@[simp] theorem Node.modCap_hall (n : Node) (i : Nat) (f : CapQ → CapQ) : (n.modCap i f).hall = n.hall := rfl
@[simp] theorem Node.modCap_pulses (n : Node) (i : Nat) (f : CapQ → CapQ) : (n.modCap i f).pulses = n.pulses := rfl
@[simp] theorem Node.modCap_bus (n : Node) (i : Nat) (f : CapQ → CapQ) : (n.modCap i f).bus = n.bus := rfl
@[simp] theorem Node.modCap_agents (n : Node) (i : Nat) (f : CapQ → CapQ) : (n.modCap i f).agents = n.agents := rfl
@[simp] theorem Node.modCap_cells (n : Node) (i : Nat) (f : CapQ → CapQ) : (n.modCap i f).cells = n.cells := rfl
@[simp] theorem Node.modCap_tslots (n : Node) (i : Nat) (f : CapQ → CapQ) : (n.modCap i f).tslots = n.tslots := rfl
@[simp] theorem Node.modCap_ctxs (n : Node) (i : Nat) (f : CapQ → CapQ) : (n.modCap i f).ctxs = n.ctxs := rfl
@[simp] theorem Node.modCap_clr (n : Node) (i : Nat) (f : CapQ → CapQ) : (n.modCap i f).clr = n.clr := rfl
@[simp] theorem Node.modCap_tally (n : Node) (i : Nat) (f : CapQ → CapQ) : (n.modCap i f).tally = n.tally := rfl
@[simp] theorem Node.modCap_mint (n : Node) (i : Nat) (f : CapQ → CapQ) : (n.modCap i f).mint = n.mint := rfl
@[simp] theorem Node.modCap_jrnl (n : Node) (i : Nat) (f : CapQ → CapQ) : (n.modCap i f).jrnl = n.jrnl := rfl
@[simp] theorem Node.modCap_key (n : Node) (i : Nat) (f : CapQ → CapQ) : (n.modCap i f).key = n.key := rfl
@[simp] theorem Node.modCap_regions (n : Node) (i : Nat) (f : CapQ → CapQ) : (n.modCap i f).regions = n.regions := rfl
@[simp] theorem Node.modCap_vault (n : Node) (i : Nat) (f : CapQ → CapQ) : (n.modCap i f).vault = n.vault := rfl
@[simp] theorem Node.modCap_kst (n : Node) (i : Nat) (f : CapQ → CapQ) : (n.modCap i f).kst = n.kst := rfl
@[simp] theorem Node.modCap_refs (n : Node) (i : Nat) (f : CapQ → CapQ) : (n.modCap i f).refs = n.refs := rfl
@[simp] theorem Node.modCap_monitors (n : Node) (i : Nat) (f : CapQ → CapQ) : (n.modCap i f).monitors = n.monitors := rfl
@[simp] theorem Node.modCap_outs (n : Node) (i : Nat) (f : CapQ → CapQ) : (n.modCap i f).outs = n.outs := rfl
@[simp] theorem Node.modCap_escInst (n : Node) (i : Nat) (f : CapQ → CapQ) : (n.modCap i f).escInst = n.escInst := rfl
@[simp] theorem Node.modCap_heads (n : Node) (i : Nat) (f : CapQ → CapQ) : (n.modCap i f).heads = n.heads := rfl
@[simp] theorem Node.modCap_lead (n : Node) (i : Nat) (f : CapQ → CapQ) : (n.modCap i f).lead = n.lead := rfl
@[simp] theorem Node.modCap_htal (n : Node) (i : Nat) (f : CapQ → CapQ) : (n.modCap i f).htal = n.htal := rfl
@[simp] theorem Node.modCap_engines (n : Node) (i : Nat) (f : CapQ → CapQ) : (n.modCap i f).engines = n.engines := rfl
@[simp] theorem Node.modCap_trails (n : Node) (i : Nat) (f : CapQ → CapQ) : (n.modCap i f).trails = n.trails := rfl
@[simp] theorem Node.modCap_jhub (n : Node) (i : Nat) (f : CapQ → CapQ) : (n.modCap i f).jhub = n.jhub := rfl
@[simp] theorem Node.modCap_replay (n : Node) (i : Nat) (f : CapQ → CapQ) : (n.modCap i f).replay = n.replay := rfl
@[simp] theorem Node.modCap_spans (n : Node) (i : Nat) (f : CapQ → CapQ) : (n.modCap i f).spans = n.spans := rfl
@[simp] theorem Node.modCap_dports (n : Node) (i : Nat) (f : CapQ → CapQ) : (n.modCap i f).dports = n.dports := rfl
@[simp] theorem Node.modCap_grants (n : Node) (i : Nat) (f : CapQ → CapQ) : (n.modCap i f).grants = n.grants := rfl
@[simp] theorem Node.modCap_access (n : Node) (i : Nat) (f : CapQ → CapQ) : (n.modCap i f).access = n.access := rfl
@[simp] theorem Node.modCap_hpwr (n : Node) (i : Nat) (f : CapQ → CapQ) : (n.modCap i f).hpwr = n.hpwr := rfl

/-! ### `modPulse` -/

@[simp] theorem Node.modPulse_pulseOf_same (n : Node) (i : Nat) (f : PulseSt → PulseSt) : (n.modPulse i f).pulseOf i = f (n.pulseOf i) := tblGet_tblSet_same ..
theorem Node.modPulse_pulseOf_ne (n : Node) {i j : Nat} (f : PulseSt → PulseSt) (h : i ≠ j) : (n.modPulse i f).pulseOf j = n.pulseOf j := tblGet_tblSet_ne _ _ _ h
@[simp] theorem Node.modPulse_kind (n : Node) (i : Nat) (f : PulseSt → PulseSt) : (n.modPulse i f).kind = n.kind := rfl
@[simp] theorem Node.modPulse_plane (n : Node) (i : Nat) (f : PulseSt → PulseSt) : (n.modPulse i f).plane = n.plane := rfl
@[simp] theorem Node.modPulse_level (n : Node) (i : Nat) (f : PulseSt → PulseSt) : (n.modPulse i f).level = n.level := rfl
@[simp] theorem Node.modPulse_arch (n : Node) (i : Nat) (f : PulseSt → PulseSt) : (n.modPulse i f).arch = n.arch := rfl
@[simp] theorem Node.modPulse_pier (n : Node) (i : Nat) (f : PulseSt → PulseSt) : (n.modPulse i f).pier = n.pier := rfl
@[simp] theorem Node.modPulse_threeLevel (n : Node) (i : Nat) (f : PulseSt → PulseSt) : (n.modPulse i f).threeLevel = n.threeLevel := rfl
@[simp] theorem Node.modPulse_tb1 (n : Node) (i : Nat) (f : PulseSt → PulseSt) : (n.modPulse i f).tb1 = n.tb1 := rfl
@[simp] theorem Node.modPulse_fresh (n : Node) (i : Nat) (f : PulseSt → PulseSt) : (n.modPulse i f).fresh = n.fresh := rfl
@[simp] theorem Node.modPulse_objs (n : Node) (i : Nat) (f : PulseSt → PulseSt) : (n.modPulse i f).objs = n.objs := rfl
@[simp] theorem Node.modPulse_deferred (n : Node) (i : Nat) (f : PulseSt → PulseSt) : (n.modPulse i f).deferred = n.deferred := rfl
@[simp] theorem Node.modPulse_log (n : Node) (i : Nat) (f : PulseSt → PulseSt) : (n.modPulse i f).log = n.log := rfl
@[simp] theorem Node.modPulse_lineLow (n : Node) (i : Nat) (f : PulseSt → PulseSt) : (n.modPulse i f).lineLow = n.lineLow := rfl
@[simp] theorem Node.modPulse_seen (n : Node) (i : Nat) (f : PulseSt → PulseSt) : (n.modPulse i f).seen = n.seen := rfl
@[simp] theorem Node.modPulse_fwd (n : Node) (i : Nat) (f : PulseSt → PulseSt) : (n.modPulse i f).fwd = n.fwd := rfl
@[simp] theorem Node.modPulse_links (n : Node) (i : Nat) (f : PulseSt → PulseSt) : (n.modPulse i f).links = n.links := rfl
@[simp] theorem Node.modPulse_tnode (n : Node) (i : Nat) (f : PulseSt → PulseSt) : (n.modPulse i f).tnode = n.tnode := rfl
@[simp] theorem Node.modPulse_tports (n : Node) (i : Nat) (f : PulseSt → PulseSt) : (n.modPulse i f).tports = n.tports := rfl
@[simp] theorem Node.modPulse_chans (n : Node) (i : Nat) (f : PulseSt → PulseSt) : (n.modPulse i f).chans = n.chans := rfl
@[simp] theorem Node.modPulse_evins (n : Node) (i : Nat) (f : PulseSt → PulseSt) : (n.modPulse i f).evins = n.evins := rfl
@[simp] theorem Node.modPulse_mslots (n : Node) (i : Nat) (f : PulseSt → PulseSt) : (n.modPulse i f).mslots = n.mslots := rfl
@[simp] theorem Node.modPulse_regrs (n : Node) (i : Nat) (f : PulseSt → PulseSt) : (n.modPulse i f).regrs = n.regrs := rfl
@[simp] theorem Node.modPulse_routes (n : Node) (i : Nat) (f : PulseSt → PulseSt) : (n.modPulse i f).routes = n.routes := rfl
@[simp] theorem Node.modPulse_answers (n : Node) (i : Nat) (f : PulseSt → PulseSt) : (n.modPulse i f).answers = n.answers := rfl
@[simp] theorem Node.modPulse_census (n : Node) (i : Nat) (f : PulseSt → PulseSt) : (n.modPulse i f).census = n.census := rfl
@[simp] theorem Node.modPulse_start (n : Node) (i : Nat) (f : PulseSt → PulseSt) : (n.modPulse i f).start = n.start := rfl
@[simp] theorem Node.modPulse_bases (n : Node) (i : Nat) (f : PulseSt → PulseSt) : (n.modPulse i f).bases = n.bases := rfl
@[simp] theorem Node.modPulse_hall (n : Node) (i : Nat) (f : PulseSt → PulseSt) : (n.modPulse i f).hall = n.hall := rfl
@[simp] theorem Node.modPulse_caps (n : Node) (i : Nat) (f : PulseSt → PulseSt) : (n.modPulse i f).caps = n.caps := rfl
@[simp] theorem Node.modPulse_bus (n : Node) (i : Nat) (f : PulseSt → PulseSt) : (n.modPulse i f).bus = n.bus := rfl
@[simp] theorem Node.modPulse_agents (n : Node) (i : Nat) (f : PulseSt → PulseSt) : (n.modPulse i f).agents = n.agents := rfl
@[simp] theorem Node.modPulse_cells (n : Node) (i : Nat) (f : PulseSt → PulseSt) : (n.modPulse i f).cells = n.cells := rfl
@[simp] theorem Node.modPulse_tslots (n : Node) (i : Nat) (f : PulseSt → PulseSt) : (n.modPulse i f).tslots = n.tslots := rfl
@[simp] theorem Node.modPulse_ctxs (n : Node) (i : Nat) (f : PulseSt → PulseSt) : (n.modPulse i f).ctxs = n.ctxs := rfl
@[simp] theorem Node.modPulse_clr (n : Node) (i : Nat) (f : PulseSt → PulseSt) : (n.modPulse i f).clr = n.clr := rfl
@[simp] theorem Node.modPulse_tally (n : Node) (i : Nat) (f : PulseSt → PulseSt) : (n.modPulse i f).tally = n.tally := rfl
@[simp] theorem Node.modPulse_mint (n : Node) (i : Nat) (f : PulseSt → PulseSt) : (n.modPulse i f).mint = n.mint := rfl
@[simp] theorem Node.modPulse_jrnl (n : Node) (i : Nat) (f : PulseSt → PulseSt) : (n.modPulse i f).jrnl = n.jrnl := rfl
@[simp] theorem Node.modPulse_key (n : Node) (i : Nat) (f : PulseSt → PulseSt) : (n.modPulse i f).key = n.key := rfl
@[simp] theorem Node.modPulse_regions (n : Node) (i : Nat) (f : PulseSt → PulseSt) : (n.modPulse i f).regions = n.regions := rfl
@[simp] theorem Node.modPulse_vault (n : Node) (i : Nat) (f : PulseSt → PulseSt) : (n.modPulse i f).vault = n.vault := rfl
@[simp] theorem Node.modPulse_kst (n : Node) (i : Nat) (f : PulseSt → PulseSt) : (n.modPulse i f).kst = n.kst := rfl
@[simp] theorem Node.modPulse_refs (n : Node) (i : Nat) (f : PulseSt → PulseSt) : (n.modPulse i f).refs = n.refs := rfl
@[simp] theorem Node.modPulse_monitors (n : Node) (i : Nat) (f : PulseSt → PulseSt) : (n.modPulse i f).monitors = n.monitors := rfl
@[simp] theorem Node.modPulse_outs (n : Node) (i : Nat) (f : PulseSt → PulseSt) : (n.modPulse i f).outs = n.outs := rfl
@[simp] theorem Node.modPulse_escInst (n : Node) (i : Nat) (f : PulseSt → PulseSt) : (n.modPulse i f).escInst = n.escInst := rfl
@[simp] theorem Node.modPulse_heads (n : Node) (i : Nat) (f : PulseSt → PulseSt) : (n.modPulse i f).heads = n.heads := rfl
@[simp] theorem Node.modPulse_lead (n : Node) (i : Nat) (f : PulseSt → PulseSt) : (n.modPulse i f).lead = n.lead := rfl
@[simp] theorem Node.modPulse_htal (n : Node) (i : Nat) (f : PulseSt → PulseSt) : (n.modPulse i f).htal = n.htal := rfl
@[simp] theorem Node.modPulse_engines (n : Node) (i : Nat) (f : PulseSt → PulseSt) : (n.modPulse i f).engines = n.engines := rfl
@[simp] theorem Node.modPulse_trails (n : Node) (i : Nat) (f : PulseSt → PulseSt) : (n.modPulse i f).trails = n.trails := rfl
@[simp] theorem Node.modPulse_jhub (n : Node) (i : Nat) (f : PulseSt → PulseSt) : (n.modPulse i f).jhub = n.jhub := rfl
@[simp] theorem Node.modPulse_replay (n : Node) (i : Nat) (f : PulseSt → PulseSt) : (n.modPulse i f).replay = n.replay := rfl
@[simp] theorem Node.modPulse_spans (n : Node) (i : Nat) (f : PulseSt → PulseSt) : (n.modPulse i f).spans = n.spans := rfl
@[simp] theorem Node.modPulse_dports (n : Node) (i : Nat) (f : PulseSt → PulseSt) : (n.modPulse i f).dports = n.dports := rfl
@[simp] theorem Node.modPulse_grants (n : Node) (i : Nat) (f : PulseSt → PulseSt) : (n.modPulse i f).grants = n.grants := rfl
@[simp] theorem Node.modPulse_access (n : Node) (i : Nat) (f : PulseSt → PulseSt) : (n.modPulse i f).access = n.access := rfl
@[simp] theorem Node.modPulse_hpwr (n : Node) (i : Nat) (f : PulseSt → PulseSt) : (n.modPulse i f).hpwr = n.hpwr := rfl

/-! ### `modAgent` -/

@[simp] theorem Node.modAgent_agentOf_same (n : Node) (i : Nat) (f : Agent → Agent) : (n.modAgent i f).agentOf i = f (n.agentOf i) := tblGet_tblSet_same ..
theorem Node.modAgent_agentOf_ne (n : Node) {i j : Nat} (f : Agent → Agent) (h : i ≠ j) : (n.modAgent i f).agentOf j = n.agentOf j := tblGet_tblSet_ne _ _ _ h
@[simp] theorem Node.modAgent_kind (n : Node) (i : Nat) (f : Agent → Agent) : (n.modAgent i f).kind = n.kind := rfl
@[simp] theorem Node.modAgent_plane (n : Node) (i : Nat) (f : Agent → Agent) : (n.modAgent i f).plane = n.plane := rfl
@[simp] theorem Node.modAgent_level (n : Node) (i : Nat) (f : Agent → Agent) : (n.modAgent i f).level = n.level := rfl
@[simp] theorem Node.modAgent_arch (n : Node) (i : Nat) (f : Agent → Agent) : (n.modAgent i f).arch = n.arch := rfl
@[simp] theorem Node.modAgent_pier (n : Node) (i : Nat) (f : Agent → Agent) : (n.modAgent i f).pier = n.pier := rfl
@[simp] theorem Node.modAgent_threeLevel (n : Node) (i : Nat) (f : Agent → Agent) : (n.modAgent i f).threeLevel = n.threeLevel := rfl
@[simp] theorem Node.modAgent_tb1 (n : Node) (i : Nat) (f : Agent → Agent) : (n.modAgent i f).tb1 = n.tb1 := rfl
@[simp] theorem Node.modAgent_fresh (n : Node) (i : Nat) (f : Agent → Agent) : (n.modAgent i f).fresh = n.fresh := rfl
@[simp] theorem Node.modAgent_objs (n : Node) (i : Nat) (f : Agent → Agent) : (n.modAgent i f).objs = n.objs := rfl
@[simp] theorem Node.modAgent_deferred (n : Node) (i : Nat) (f : Agent → Agent) : (n.modAgent i f).deferred = n.deferred := rfl
@[simp] theorem Node.modAgent_log (n : Node) (i : Nat) (f : Agent → Agent) : (n.modAgent i f).log = n.log := rfl
@[simp] theorem Node.modAgent_lineLow (n : Node) (i : Nat) (f : Agent → Agent) : (n.modAgent i f).lineLow = n.lineLow := rfl
@[simp] theorem Node.modAgent_seen (n : Node) (i : Nat) (f : Agent → Agent) : (n.modAgent i f).seen = n.seen := rfl
@[simp] theorem Node.modAgent_fwd (n : Node) (i : Nat) (f : Agent → Agent) : (n.modAgent i f).fwd = n.fwd := rfl
@[simp] theorem Node.modAgent_links (n : Node) (i : Nat) (f : Agent → Agent) : (n.modAgent i f).links = n.links := rfl
@[simp] theorem Node.modAgent_tnode (n : Node) (i : Nat) (f : Agent → Agent) : (n.modAgent i f).tnode = n.tnode := rfl
@[simp] theorem Node.modAgent_tports (n : Node) (i : Nat) (f : Agent → Agent) : (n.modAgent i f).tports = n.tports := rfl
@[simp] theorem Node.modAgent_chans (n : Node) (i : Nat) (f : Agent → Agent) : (n.modAgent i f).chans = n.chans := rfl
@[simp] theorem Node.modAgent_evins (n : Node) (i : Nat) (f : Agent → Agent) : (n.modAgent i f).evins = n.evins := rfl
@[simp] theorem Node.modAgent_mslots (n : Node) (i : Nat) (f : Agent → Agent) : (n.modAgent i f).mslots = n.mslots := rfl
@[simp] theorem Node.modAgent_regrs (n : Node) (i : Nat) (f : Agent → Agent) : (n.modAgent i f).regrs = n.regrs := rfl
@[simp] theorem Node.modAgent_routes (n : Node) (i : Nat) (f : Agent → Agent) : (n.modAgent i f).routes = n.routes := rfl
@[simp] theorem Node.modAgent_answers (n : Node) (i : Nat) (f : Agent → Agent) : (n.modAgent i f).answers = n.answers := rfl
@[simp] theorem Node.modAgent_census (n : Node) (i : Nat) (f : Agent → Agent) : (n.modAgent i f).census = n.census := rfl
@[simp] theorem Node.modAgent_start (n : Node) (i : Nat) (f : Agent → Agent) : (n.modAgent i f).start = n.start := rfl
@[simp] theorem Node.modAgent_bases (n : Node) (i : Nat) (f : Agent → Agent) : (n.modAgent i f).bases = n.bases := rfl
@[simp] theorem Node.modAgent_hall (n : Node) (i : Nat) (f : Agent → Agent) : (n.modAgent i f).hall = n.hall := rfl
@[simp] theorem Node.modAgent_caps (n : Node) (i : Nat) (f : Agent → Agent) : (n.modAgent i f).caps = n.caps := rfl
@[simp] theorem Node.modAgent_pulses (n : Node) (i : Nat) (f : Agent → Agent) : (n.modAgent i f).pulses = n.pulses := rfl
@[simp] theorem Node.modAgent_bus (n : Node) (i : Nat) (f : Agent → Agent) : (n.modAgent i f).bus = n.bus := rfl
@[simp] theorem Node.modAgent_cells (n : Node) (i : Nat) (f : Agent → Agent) : (n.modAgent i f).cells = n.cells := rfl
@[simp] theorem Node.modAgent_tslots (n : Node) (i : Nat) (f : Agent → Agent) : (n.modAgent i f).tslots = n.tslots := rfl
@[simp] theorem Node.modAgent_ctxs (n : Node) (i : Nat) (f : Agent → Agent) : (n.modAgent i f).ctxs = n.ctxs := rfl
@[simp] theorem Node.modAgent_clr (n : Node) (i : Nat) (f : Agent → Agent) : (n.modAgent i f).clr = n.clr := rfl
@[simp] theorem Node.modAgent_tally (n : Node) (i : Nat) (f : Agent → Agent) : (n.modAgent i f).tally = n.tally := rfl
@[simp] theorem Node.modAgent_mint (n : Node) (i : Nat) (f : Agent → Agent) : (n.modAgent i f).mint = n.mint := rfl
@[simp] theorem Node.modAgent_jrnl (n : Node) (i : Nat) (f : Agent → Agent) : (n.modAgent i f).jrnl = n.jrnl := rfl
@[simp] theorem Node.modAgent_key (n : Node) (i : Nat) (f : Agent → Agent) : (n.modAgent i f).key = n.key := rfl
@[simp] theorem Node.modAgent_regions (n : Node) (i : Nat) (f : Agent → Agent) : (n.modAgent i f).regions = n.regions := rfl
@[simp] theorem Node.modAgent_vault (n : Node) (i : Nat) (f : Agent → Agent) : (n.modAgent i f).vault = n.vault := rfl
@[simp] theorem Node.modAgent_kst (n : Node) (i : Nat) (f : Agent → Agent) : (n.modAgent i f).kst = n.kst := rfl
@[simp] theorem Node.modAgent_refs (n : Node) (i : Nat) (f : Agent → Agent) : (n.modAgent i f).refs = n.refs := rfl
@[simp] theorem Node.modAgent_monitors (n : Node) (i : Nat) (f : Agent → Agent) : (n.modAgent i f).monitors = n.monitors := rfl
@[simp] theorem Node.modAgent_outs (n : Node) (i : Nat) (f : Agent → Agent) : (n.modAgent i f).outs = n.outs := rfl
@[simp] theorem Node.modAgent_escInst (n : Node) (i : Nat) (f : Agent → Agent) : (n.modAgent i f).escInst = n.escInst := rfl
@[simp] theorem Node.modAgent_heads (n : Node) (i : Nat) (f : Agent → Agent) : (n.modAgent i f).heads = n.heads := rfl
@[simp] theorem Node.modAgent_lead (n : Node) (i : Nat) (f : Agent → Agent) : (n.modAgent i f).lead = n.lead := rfl
@[simp] theorem Node.modAgent_htal (n : Node) (i : Nat) (f : Agent → Agent) : (n.modAgent i f).htal = n.htal := rfl
@[simp] theorem Node.modAgent_engines (n : Node) (i : Nat) (f : Agent → Agent) : (n.modAgent i f).engines = n.engines := rfl
@[simp] theorem Node.modAgent_trails (n : Node) (i : Nat) (f : Agent → Agent) : (n.modAgent i f).trails = n.trails := rfl
@[simp] theorem Node.modAgent_jhub (n : Node) (i : Nat) (f : Agent → Agent) : (n.modAgent i f).jhub = n.jhub := rfl
@[simp] theorem Node.modAgent_replay (n : Node) (i : Nat) (f : Agent → Agent) : (n.modAgent i f).replay = n.replay := rfl
@[simp] theorem Node.modAgent_spans (n : Node) (i : Nat) (f : Agent → Agent) : (n.modAgent i f).spans = n.spans := rfl
@[simp] theorem Node.modAgent_dports (n : Node) (i : Nat) (f : Agent → Agent) : (n.modAgent i f).dports = n.dports := rfl
@[simp] theorem Node.modAgent_grants (n : Node) (i : Nat) (f : Agent → Agent) : (n.modAgent i f).grants = n.grants := rfl
@[simp] theorem Node.modAgent_access (n : Node) (i : Nat) (f : Agent → Agent) : (n.modAgent i f).access = n.access := rfl
@[simp] theorem Node.modAgent_hpwr (n : Node) (i : Nat) (f : Agent → Agent) : (n.modAgent i f).hpwr = n.hpwr := rfl

/-! ### `modCell` -/

@[simp] theorem Node.modCell_cellOf_same (n : Node) (i : Nat) (f : Viaduct → Viaduct) : (n.modCell i f).cellOf i = f (n.cellOf i) := tblGet_tblSet_same ..
theorem Node.modCell_cellOf_ne (n : Node) {i j : Nat} (f : Viaduct → Viaduct) (h : i ≠ j) : (n.modCell i f).cellOf j = n.cellOf j := tblGet_tblSet_ne _ _ _ h
@[simp] theorem Node.modCell_kind (n : Node) (i : Nat) (f : Viaduct → Viaduct) : (n.modCell i f).kind = n.kind := rfl
@[simp] theorem Node.modCell_plane (n : Node) (i : Nat) (f : Viaduct → Viaduct) : (n.modCell i f).plane = n.plane := rfl
@[simp] theorem Node.modCell_level (n : Node) (i : Nat) (f : Viaduct → Viaduct) : (n.modCell i f).level = n.level := rfl
@[simp] theorem Node.modCell_arch (n : Node) (i : Nat) (f : Viaduct → Viaduct) : (n.modCell i f).arch = n.arch := rfl
@[simp] theorem Node.modCell_pier (n : Node) (i : Nat) (f : Viaduct → Viaduct) : (n.modCell i f).pier = n.pier := rfl
@[simp] theorem Node.modCell_threeLevel (n : Node) (i : Nat) (f : Viaduct → Viaduct) : (n.modCell i f).threeLevel = n.threeLevel := rfl
@[simp] theorem Node.modCell_tb1 (n : Node) (i : Nat) (f : Viaduct → Viaduct) : (n.modCell i f).tb1 = n.tb1 := rfl
@[simp] theorem Node.modCell_fresh (n : Node) (i : Nat) (f : Viaduct → Viaduct) : (n.modCell i f).fresh = n.fresh := rfl
@[simp] theorem Node.modCell_objs (n : Node) (i : Nat) (f : Viaduct → Viaduct) : (n.modCell i f).objs = n.objs := rfl
@[simp] theorem Node.modCell_deferred (n : Node) (i : Nat) (f : Viaduct → Viaduct) : (n.modCell i f).deferred = n.deferred := rfl
@[simp] theorem Node.modCell_log (n : Node) (i : Nat) (f : Viaduct → Viaduct) : (n.modCell i f).log = n.log := rfl
@[simp] theorem Node.modCell_lineLow (n : Node) (i : Nat) (f : Viaduct → Viaduct) : (n.modCell i f).lineLow = n.lineLow := rfl
@[simp] theorem Node.modCell_seen (n : Node) (i : Nat) (f : Viaduct → Viaduct) : (n.modCell i f).seen = n.seen := rfl
@[simp] theorem Node.modCell_fwd (n : Node) (i : Nat) (f : Viaduct → Viaduct) : (n.modCell i f).fwd = n.fwd := rfl
@[simp] theorem Node.modCell_links (n : Node) (i : Nat) (f : Viaduct → Viaduct) : (n.modCell i f).links = n.links := rfl
@[simp] theorem Node.modCell_tnode (n : Node) (i : Nat) (f : Viaduct → Viaduct) : (n.modCell i f).tnode = n.tnode := rfl
@[simp] theorem Node.modCell_tports (n : Node) (i : Nat) (f : Viaduct → Viaduct) : (n.modCell i f).tports = n.tports := rfl
@[simp] theorem Node.modCell_chans (n : Node) (i : Nat) (f : Viaduct → Viaduct) : (n.modCell i f).chans = n.chans := rfl
@[simp] theorem Node.modCell_evins (n : Node) (i : Nat) (f : Viaduct → Viaduct) : (n.modCell i f).evins = n.evins := rfl
@[simp] theorem Node.modCell_mslots (n : Node) (i : Nat) (f : Viaduct → Viaduct) : (n.modCell i f).mslots = n.mslots := rfl
@[simp] theorem Node.modCell_regrs (n : Node) (i : Nat) (f : Viaduct → Viaduct) : (n.modCell i f).regrs = n.regrs := rfl
@[simp] theorem Node.modCell_routes (n : Node) (i : Nat) (f : Viaduct → Viaduct) : (n.modCell i f).routes = n.routes := rfl
@[simp] theorem Node.modCell_answers (n : Node) (i : Nat) (f : Viaduct → Viaduct) : (n.modCell i f).answers = n.answers := rfl
@[simp] theorem Node.modCell_census (n : Node) (i : Nat) (f : Viaduct → Viaduct) : (n.modCell i f).census = n.census := rfl
@[simp] theorem Node.modCell_start (n : Node) (i : Nat) (f : Viaduct → Viaduct) : (n.modCell i f).start = n.start := rfl
@[simp] theorem Node.modCell_bases (n : Node) (i : Nat) (f : Viaduct → Viaduct) : (n.modCell i f).bases = n.bases := rfl
@[simp] theorem Node.modCell_hall (n : Node) (i : Nat) (f : Viaduct → Viaduct) : (n.modCell i f).hall = n.hall := rfl
@[simp] theorem Node.modCell_caps (n : Node) (i : Nat) (f : Viaduct → Viaduct) : (n.modCell i f).caps = n.caps := rfl
@[simp] theorem Node.modCell_pulses (n : Node) (i : Nat) (f : Viaduct → Viaduct) : (n.modCell i f).pulses = n.pulses := rfl
@[simp] theorem Node.modCell_bus (n : Node) (i : Nat) (f : Viaduct → Viaduct) : (n.modCell i f).bus = n.bus := rfl
@[simp] theorem Node.modCell_agents (n : Node) (i : Nat) (f : Viaduct → Viaduct) : (n.modCell i f).agents = n.agents := rfl
@[simp] theorem Node.modCell_tslots (n : Node) (i : Nat) (f : Viaduct → Viaduct) : (n.modCell i f).tslots = n.tslots := rfl
@[simp] theorem Node.modCell_ctxs (n : Node) (i : Nat) (f : Viaduct → Viaduct) : (n.modCell i f).ctxs = n.ctxs := rfl
@[simp] theorem Node.modCell_clr (n : Node) (i : Nat) (f : Viaduct → Viaduct) : (n.modCell i f).clr = n.clr := rfl
@[simp] theorem Node.modCell_tally (n : Node) (i : Nat) (f : Viaduct → Viaduct) : (n.modCell i f).tally = n.tally := rfl
@[simp] theorem Node.modCell_mint (n : Node) (i : Nat) (f : Viaduct → Viaduct) : (n.modCell i f).mint = n.mint := rfl
@[simp] theorem Node.modCell_jrnl (n : Node) (i : Nat) (f : Viaduct → Viaduct) : (n.modCell i f).jrnl = n.jrnl := rfl
@[simp] theorem Node.modCell_key (n : Node) (i : Nat) (f : Viaduct → Viaduct) : (n.modCell i f).key = n.key := rfl
@[simp] theorem Node.modCell_regions (n : Node) (i : Nat) (f : Viaduct → Viaduct) : (n.modCell i f).regions = n.regions := rfl
@[simp] theorem Node.modCell_vault (n : Node) (i : Nat) (f : Viaduct → Viaduct) : (n.modCell i f).vault = n.vault := rfl
@[simp] theorem Node.modCell_kst (n : Node) (i : Nat) (f : Viaduct → Viaduct) : (n.modCell i f).kst = n.kst := rfl
@[simp] theorem Node.modCell_refs (n : Node) (i : Nat) (f : Viaduct → Viaduct) : (n.modCell i f).refs = n.refs := rfl
@[simp] theorem Node.modCell_monitors (n : Node) (i : Nat) (f : Viaduct → Viaduct) : (n.modCell i f).monitors = n.monitors := rfl
@[simp] theorem Node.modCell_outs (n : Node) (i : Nat) (f : Viaduct → Viaduct) : (n.modCell i f).outs = n.outs := rfl
@[simp] theorem Node.modCell_escInst (n : Node) (i : Nat) (f : Viaduct → Viaduct) : (n.modCell i f).escInst = n.escInst := rfl
@[simp] theorem Node.modCell_heads (n : Node) (i : Nat) (f : Viaduct → Viaduct) : (n.modCell i f).heads = n.heads := rfl
@[simp] theorem Node.modCell_lead (n : Node) (i : Nat) (f : Viaduct → Viaduct) : (n.modCell i f).lead = n.lead := rfl
@[simp] theorem Node.modCell_htal (n : Node) (i : Nat) (f : Viaduct → Viaduct) : (n.modCell i f).htal = n.htal := rfl
@[simp] theorem Node.modCell_engines (n : Node) (i : Nat) (f : Viaduct → Viaduct) : (n.modCell i f).engines = n.engines := rfl
@[simp] theorem Node.modCell_trails (n : Node) (i : Nat) (f : Viaduct → Viaduct) : (n.modCell i f).trails = n.trails := rfl
@[simp] theorem Node.modCell_jhub (n : Node) (i : Nat) (f : Viaduct → Viaduct) : (n.modCell i f).jhub = n.jhub := rfl
@[simp] theorem Node.modCell_replay (n : Node) (i : Nat) (f : Viaduct → Viaduct) : (n.modCell i f).replay = n.replay := rfl
@[simp] theorem Node.modCell_spans (n : Node) (i : Nat) (f : Viaduct → Viaduct) : (n.modCell i f).spans = n.spans := rfl
@[simp] theorem Node.modCell_dports (n : Node) (i : Nat) (f : Viaduct → Viaduct) : (n.modCell i f).dports = n.dports := rfl
@[simp] theorem Node.modCell_grants (n : Node) (i : Nat) (f : Viaduct → Viaduct) : (n.modCell i f).grants = n.grants := rfl
@[simp] theorem Node.modCell_access (n : Node) (i : Nat) (f : Viaduct → Viaduct) : (n.modCell i f).access = n.access := rfl
@[simp] theorem Node.modCell_hpwr (n : Node) (i : Nat) (f : Viaduct → Viaduct) : (n.modCell i f).hpwr = n.hpwr := rfl

/-! ### `modTslot` -/

@[simp] theorem Node.modTslot_tslotOf_same (n : Node) (i : Nat) (f : TSlot → TSlot) : (n.modTslot i f).tslotOf i = f (n.tslotOf i) := tblGet_tblSet_same ..
theorem Node.modTslot_tslotOf_ne (n : Node) {i j : Nat} (f : TSlot → TSlot) (h : i ≠ j) : (n.modTslot i f).tslotOf j = n.tslotOf j := tblGet_tblSet_ne _ _ _ h
@[simp] theorem Node.modTslot_kind (n : Node) (i : Nat) (f : TSlot → TSlot) : (n.modTslot i f).kind = n.kind := rfl
@[simp] theorem Node.modTslot_plane (n : Node) (i : Nat) (f : TSlot → TSlot) : (n.modTslot i f).plane = n.plane := rfl
@[simp] theorem Node.modTslot_level (n : Node) (i : Nat) (f : TSlot → TSlot) : (n.modTslot i f).level = n.level := rfl
@[simp] theorem Node.modTslot_arch (n : Node) (i : Nat) (f : TSlot → TSlot) : (n.modTslot i f).arch = n.arch := rfl
@[simp] theorem Node.modTslot_pier (n : Node) (i : Nat) (f : TSlot → TSlot) : (n.modTslot i f).pier = n.pier := rfl
@[simp] theorem Node.modTslot_threeLevel (n : Node) (i : Nat) (f : TSlot → TSlot) : (n.modTslot i f).threeLevel = n.threeLevel := rfl
@[simp] theorem Node.modTslot_tb1 (n : Node) (i : Nat) (f : TSlot → TSlot) : (n.modTslot i f).tb1 = n.tb1 := rfl
@[simp] theorem Node.modTslot_fresh (n : Node) (i : Nat) (f : TSlot → TSlot) : (n.modTslot i f).fresh = n.fresh := rfl
@[simp] theorem Node.modTslot_objs (n : Node) (i : Nat) (f : TSlot → TSlot) : (n.modTslot i f).objs = n.objs := rfl
@[simp] theorem Node.modTslot_deferred (n : Node) (i : Nat) (f : TSlot → TSlot) : (n.modTslot i f).deferred = n.deferred := rfl
@[simp] theorem Node.modTslot_log (n : Node) (i : Nat) (f : TSlot → TSlot) : (n.modTslot i f).log = n.log := rfl
@[simp] theorem Node.modTslot_lineLow (n : Node) (i : Nat) (f : TSlot → TSlot) : (n.modTslot i f).lineLow = n.lineLow := rfl
@[simp] theorem Node.modTslot_seen (n : Node) (i : Nat) (f : TSlot → TSlot) : (n.modTslot i f).seen = n.seen := rfl
@[simp] theorem Node.modTslot_fwd (n : Node) (i : Nat) (f : TSlot → TSlot) : (n.modTslot i f).fwd = n.fwd := rfl
@[simp] theorem Node.modTslot_links (n : Node) (i : Nat) (f : TSlot → TSlot) : (n.modTslot i f).links = n.links := rfl
@[simp] theorem Node.modTslot_tnode (n : Node) (i : Nat) (f : TSlot → TSlot) : (n.modTslot i f).tnode = n.tnode := rfl
@[simp] theorem Node.modTslot_tports (n : Node) (i : Nat) (f : TSlot → TSlot) : (n.modTslot i f).tports = n.tports := rfl
@[simp] theorem Node.modTslot_chans (n : Node) (i : Nat) (f : TSlot → TSlot) : (n.modTslot i f).chans = n.chans := rfl
@[simp] theorem Node.modTslot_evins (n : Node) (i : Nat) (f : TSlot → TSlot) : (n.modTslot i f).evins = n.evins := rfl
@[simp] theorem Node.modTslot_mslots (n : Node) (i : Nat) (f : TSlot → TSlot) : (n.modTslot i f).mslots = n.mslots := rfl
@[simp] theorem Node.modTslot_regrs (n : Node) (i : Nat) (f : TSlot → TSlot) : (n.modTslot i f).regrs = n.regrs := rfl
@[simp] theorem Node.modTslot_routes (n : Node) (i : Nat) (f : TSlot → TSlot) : (n.modTslot i f).routes = n.routes := rfl
@[simp] theorem Node.modTslot_answers (n : Node) (i : Nat) (f : TSlot → TSlot) : (n.modTslot i f).answers = n.answers := rfl
@[simp] theorem Node.modTslot_census (n : Node) (i : Nat) (f : TSlot → TSlot) : (n.modTslot i f).census = n.census := rfl
@[simp] theorem Node.modTslot_start (n : Node) (i : Nat) (f : TSlot → TSlot) : (n.modTslot i f).start = n.start := rfl
@[simp] theorem Node.modTslot_bases (n : Node) (i : Nat) (f : TSlot → TSlot) : (n.modTslot i f).bases = n.bases := rfl
@[simp] theorem Node.modTslot_hall (n : Node) (i : Nat) (f : TSlot → TSlot) : (n.modTslot i f).hall = n.hall := rfl
@[simp] theorem Node.modTslot_caps (n : Node) (i : Nat) (f : TSlot → TSlot) : (n.modTslot i f).caps = n.caps := rfl
@[simp] theorem Node.modTslot_pulses (n : Node) (i : Nat) (f : TSlot → TSlot) : (n.modTslot i f).pulses = n.pulses := rfl
@[simp] theorem Node.modTslot_bus (n : Node) (i : Nat) (f : TSlot → TSlot) : (n.modTslot i f).bus = n.bus := rfl
@[simp] theorem Node.modTslot_agents (n : Node) (i : Nat) (f : TSlot → TSlot) : (n.modTslot i f).agents = n.agents := rfl
@[simp] theorem Node.modTslot_cells (n : Node) (i : Nat) (f : TSlot → TSlot) : (n.modTslot i f).cells = n.cells := rfl
@[simp] theorem Node.modTslot_ctxs (n : Node) (i : Nat) (f : TSlot → TSlot) : (n.modTslot i f).ctxs = n.ctxs := rfl
@[simp] theorem Node.modTslot_clr (n : Node) (i : Nat) (f : TSlot → TSlot) : (n.modTslot i f).clr = n.clr := rfl
@[simp] theorem Node.modTslot_tally (n : Node) (i : Nat) (f : TSlot → TSlot) : (n.modTslot i f).tally = n.tally := rfl
@[simp] theorem Node.modTslot_mint (n : Node) (i : Nat) (f : TSlot → TSlot) : (n.modTslot i f).mint = n.mint := rfl
@[simp] theorem Node.modTslot_jrnl (n : Node) (i : Nat) (f : TSlot → TSlot) : (n.modTslot i f).jrnl = n.jrnl := rfl
@[simp] theorem Node.modTslot_key (n : Node) (i : Nat) (f : TSlot → TSlot) : (n.modTslot i f).key = n.key := rfl
@[simp] theorem Node.modTslot_regions (n : Node) (i : Nat) (f : TSlot → TSlot) : (n.modTslot i f).regions = n.regions := rfl
@[simp] theorem Node.modTslot_vault (n : Node) (i : Nat) (f : TSlot → TSlot) : (n.modTslot i f).vault = n.vault := rfl
@[simp] theorem Node.modTslot_kst (n : Node) (i : Nat) (f : TSlot → TSlot) : (n.modTslot i f).kst = n.kst := rfl
@[simp] theorem Node.modTslot_refs (n : Node) (i : Nat) (f : TSlot → TSlot) : (n.modTslot i f).refs = n.refs := rfl
@[simp] theorem Node.modTslot_monitors (n : Node) (i : Nat) (f : TSlot → TSlot) : (n.modTslot i f).monitors = n.monitors := rfl
@[simp] theorem Node.modTslot_outs (n : Node) (i : Nat) (f : TSlot → TSlot) : (n.modTslot i f).outs = n.outs := rfl
@[simp] theorem Node.modTslot_escInst (n : Node) (i : Nat) (f : TSlot → TSlot) : (n.modTslot i f).escInst = n.escInst := rfl
@[simp] theorem Node.modTslot_heads (n : Node) (i : Nat) (f : TSlot → TSlot) : (n.modTslot i f).heads = n.heads := rfl
@[simp] theorem Node.modTslot_lead (n : Node) (i : Nat) (f : TSlot → TSlot) : (n.modTslot i f).lead = n.lead := rfl
@[simp] theorem Node.modTslot_htal (n : Node) (i : Nat) (f : TSlot → TSlot) : (n.modTslot i f).htal = n.htal := rfl
@[simp] theorem Node.modTslot_engines (n : Node) (i : Nat) (f : TSlot → TSlot) : (n.modTslot i f).engines = n.engines := rfl
@[simp] theorem Node.modTslot_trails (n : Node) (i : Nat) (f : TSlot → TSlot) : (n.modTslot i f).trails = n.trails := rfl
@[simp] theorem Node.modTslot_jhub (n : Node) (i : Nat) (f : TSlot → TSlot) : (n.modTslot i f).jhub = n.jhub := rfl
@[simp] theorem Node.modTslot_replay (n : Node) (i : Nat) (f : TSlot → TSlot) : (n.modTslot i f).replay = n.replay := rfl
@[simp] theorem Node.modTslot_spans (n : Node) (i : Nat) (f : TSlot → TSlot) : (n.modTslot i f).spans = n.spans := rfl
@[simp] theorem Node.modTslot_dports (n : Node) (i : Nat) (f : TSlot → TSlot) : (n.modTslot i f).dports = n.dports := rfl
@[simp] theorem Node.modTslot_grants (n : Node) (i : Nat) (f : TSlot → TSlot) : (n.modTslot i f).grants = n.grants := rfl
@[simp] theorem Node.modTslot_access (n : Node) (i : Nat) (f : TSlot → TSlot) : (n.modTslot i f).access = n.access := rfl
@[simp] theorem Node.modTslot_hpwr (n : Node) (i : Nat) (f : TSlot → TSlot) : (n.modTslot i f).hpwr = n.hpwr := rfl

/-! ### `modCtx` -/

@[simp] theorem Node.modCtx_ctxOf_same (n : Node) (i : Nat) (f : Ctx → Ctx) : (n.modCtx i f).ctxOf i = f (n.ctxOf i) := tblGet_tblSet_same ..
theorem Node.modCtx_ctxOf_ne (n : Node) {i j : Nat} (f : Ctx → Ctx) (h : i ≠ j) : (n.modCtx i f).ctxOf j = n.ctxOf j := tblGet_tblSet_ne _ _ _ h
@[simp] theorem Node.modCtx_kind (n : Node) (i : Nat) (f : Ctx → Ctx) : (n.modCtx i f).kind = n.kind := rfl
@[simp] theorem Node.modCtx_plane (n : Node) (i : Nat) (f : Ctx → Ctx) : (n.modCtx i f).plane = n.plane := rfl
@[simp] theorem Node.modCtx_level (n : Node) (i : Nat) (f : Ctx → Ctx) : (n.modCtx i f).level = n.level := rfl
@[simp] theorem Node.modCtx_arch (n : Node) (i : Nat) (f : Ctx → Ctx) : (n.modCtx i f).arch = n.arch := rfl
@[simp] theorem Node.modCtx_pier (n : Node) (i : Nat) (f : Ctx → Ctx) : (n.modCtx i f).pier = n.pier := rfl
@[simp] theorem Node.modCtx_threeLevel (n : Node) (i : Nat) (f : Ctx → Ctx) : (n.modCtx i f).threeLevel = n.threeLevel := rfl
@[simp] theorem Node.modCtx_tb1 (n : Node) (i : Nat) (f : Ctx → Ctx) : (n.modCtx i f).tb1 = n.tb1 := rfl
@[simp] theorem Node.modCtx_fresh (n : Node) (i : Nat) (f : Ctx → Ctx) : (n.modCtx i f).fresh = n.fresh := rfl
@[simp] theorem Node.modCtx_objs (n : Node) (i : Nat) (f : Ctx → Ctx) : (n.modCtx i f).objs = n.objs := rfl
@[simp] theorem Node.modCtx_deferred (n : Node) (i : Nat) (f : Ctx → Ctx) : (n.modCtx i f).deferred = n.deferred := rfl
@[simp] theorem Node.modCtx_log (n : Node) (i : Nat) (f : Ctx → Ctx) : (n.modCtx i f).log = n.log := rfl
@[simp] theorem Node.modCtx_lineLow (n : Node) (i : Nat) (f : Ctx → Ctx) : (n.modCtx i f).lineLow = n.lineLow := rfl
@[simp] theorem Node.modCtx_seen (n : Node) (i : Nat) (f : Ctx → Ctx) : (n.modCtx i f).seen = n.seen := rfl
@[simp] theorem Node.modCtx_fwd (n : Node) (i : Nat) (f : Ctx → Ctx) : (n.modCtx i f).fwd = n.fwd := rfl
@[simp] theorem Node.modCtx_links (n : Node) (i : Nat) (f : Ctx → Ctx) : (n.modCtx i f).links = n.links := rfl
@[simp] theorem Node.modCtx_tnode (n : Node) (i : Nat) (f : Ctx → Ctx) : (n.modCtx i f).tnode = n.tnode := rfl
@[simp] theorem Node.modCtx_tports (n : Node) (i : Nat) (f : Ctx → Ctx) : (n.modCtx i f).tports = n.tports := rfl
@[simp] theorem Node.modCtx_chans (n : Node) (i : Nat) (f : Ctx → Ctx) : (n.modCtx i f).chans = n.chans := rfl
@[simp] theorem Node.modCtx_evins (n : Node) (i : Nat) (f : Ctx → Ctx) : (n.modCtx i f).evins = n.evins := rfl
@[simp] theorem Node.modCtx_mslots (n : Node) (i : Nat) (f : Ctx → Ctx) : (n.modCtx i f).mslots = n.mslots := rfl
@[simp] theorem Node.modCtx_regrs (n : Node) (i : Nat) (f : Ctx → Ctx) : (n.modCtx i f).regrs = n.regrs := rfl
@[simp] theorem Node.modCtx_routes (n : Node) (i : Nat) (f : Ctx → Ctx) : (n.modCtx i f).routes = n.routes := rfl
@[simp] theorem Node.modCtx_answers (n : Node) (i : Nat) (f : Ctx → Ctx) : (n.modCtx i f).answers = n.answers := rfl
@[simp] theorem Node.modCtx_census (n : Node) (i : Nat) (f : Ctx → Ctx) : (n.modCtx i f).census = n.census := rfl
@[simp] theorem Node.modCtx_start (n : Node) (i : Nat) (f : Ctx → Ctx) : (n.modCtx i f).start = n.start := rfl
@[simp] theorem Node.modCtx_bases (n : Node) (i : Nat) (f : Ctx → Ctx) : (n.modCtx i f).bases = n.bases := rfl
@[simp] theorem Node.modCtx_hall (n : Node) (i : Nat) (f : Ctx → Ctx) : (n.modCtx i f).hall = n.hall := rfl
@[simp] theorem Node.modCtx_caps (n : Node) (i : Nat) (f : Ctx → Ctx) : (n.modCtx i f).caps = n.caps := rfl
@[simp] theorem Node.modCtx_pulses (n : Node) (i : Nat) (f : Ctx → Ctx) : (n.modCtx i f).pulses = n.pulses := rfl
@[simp] theorem Node.modCtx_bus (n : Node) (i : Nat) (f : Ctx → Ctx) : (n.modCtx i f).bus = n.bus := rfl
@[simp] theorem Node.modCtx_agents (n : Node) (i : Nat) (f : Ctx → Ctx) : (n.modCtx i f).agents = n.agents := rfl
@[simp] theorem Node.modCtx_cells (n : Node) (i : Nat) (f : Ctx → Ctx) : (n.modCtx i f).cells = n.cells := rfl
@[simp] theorem Node.modCtx_tslots (n : Node) (i : Nat) (f : Ctx → Ctx) : (n.modCtx i f).tslots = n.tslots := rfl
@[simp] theorem Node.modCtx_clr (n : Node) (i : Nat) (f : Ctx → Ctx) : (n.modCtx i f).clr = n.clr := rfl
@[simp] theorem Node.modCtx_tally (n : Node) (i : Nat) (f : Ctx → Ctx) : (n.modCtx i f).tally = n.tally := rfl
@[simp] theorem Node.modCtx_mint (n : Node) (i : Nat) (f : Ctx → Ctx) : (n.modCtx i f).mint = n.mint := rfl
@[simp] theorem Node.modCtx_jrnl (n : Node) (i : Nat) (f : Ctx → Ctx) : (n.modCtx i f).jrnl = n.jrnl := rfl
@[simp] theorem Node.modCtx_key (n : Node) (i : Nat) (f : Ctx → Ctx) : (n.modCtx i f).key = n.key := rfl
@[simp] theorem Node.modCtx_regions (n : Node) (i : Nat) (f : Ctx → Ctx) : (n.modCtx i f).regions = n.regions := rfl
@[simp] theorem Node.modCtx_vault (n : Node) (i : Nat) (f : Ctx → Ctx) : (n.modCtx i f).vault = n.vault := rfl
@[simp] theorem Node.modCtx_kst (n : Node) (i : Nat) (f : Ctx → Ctx) : (n.modCtx i f).kst = n.kst := rfl
@[simp] theorem Node.modCtx_refs (n : Node) (i : Nat) (f : Ctx → Ctx) : (n.modCtx i f).refs = n.refs := rfl
@[simp] theorem Node.modCtx_monitors (n : Node) (i : Nat) (f : Ctx → Ctx) : (n.modCtx i f).monitors = n.monitors := rfl
@[simp] theorem Node.modCtx_outs (n : Node) (i : Nat) (f : Ctx → Ctx) : (n.modCtx i f).outs = n.outs := rfl
@[simp] theorem Node.modCtx_escInst (n : Node) (i : Nat) (f : Ctx → Ctx) : (n.modCtx i f).escInst = n.escInst := rfl
@[simp] theorem Node.modCtx_heads (n : Node) (i : Nat) (f : Ctx → Ctx) : (n.modCtx i f).heads = n.heads := rfl
@[simp] theorem Node.modCtx_lead (n : Node) (i : Nat) (f : Ctx → Ctx) : (n.modCtx i f).lead = n.lead := rfl
@[simp] theorem Node.modCtx_htal (n : Node) (i : Nat) (f : Ctx → Ctx) : (n.modCtx i f).htal = n.htal := rfl
@[simp] theorem Node.modCtx_engines (n : Node) (i : Nat) (f : Ctx → Ctx) : (n.modCtx i f).engines = n.engines := rfl
@[simp] theorem Node.modCtx_trails (n : Node) (i : Nat) (f : Ctx → Ctx) : (n.modCtx i f).trails = n.trails := rfl
@[simp] theorem Node.modCtx_jhub (n : Node) (i : Nat) (f : Ctx → Ctx) : (n.modCtx i f).jhub = n.jhub := rfl
@[simp] theorem Node.modCtx_replay (n : Node) (i : Nat) (f : Ctx → Ctx) : (n.modCtx i f).replay = n.replay := rfl
@[simp] theorem Node.modCtx_spans (n : Node) (i : Nat) (f : Ctx → Ctx) : (n.modCtx i f).spans = n.spans := rfl
@[simp] theorem Node.modCtx_dports (n : Node) (i : Nat) (f : Ctx → Ctx) : (n.modCtx i f).dports = n.dports := rfl
@[simp] theorem Node.modCtx_grants (n : Node) (i : Nat) (f : Ctx → Ctx) : (n.modCtx i f).grants = n.grants := rfl
@[simp] theorem Node.modCtx_access (n : Node) (i : Nat) (f : Ctx → Ctx) : (n.modCtx i f).access = n.access := rfl
@[simp] theorem Node.modCtx_hpwr (n : Node) (i : Nat) (f : Ctx → Ctx) : (n.modCtx i f).hpwr = n.hpwr := rfl

/-! ### `modRegion` -/

@[simp] theorem Node.modRegion_regionOf_same (n : Node) (i : Nat) (f : Region → Region) : (n.modRegion i f).regionOf i = f (n.regionOf i) := tblGet_tblSet_same ..
theorem Node.modRegion_regionOf_ne (n : Node) {i j : Nat} (f : Region → Region) (h : i ≠ j) : (n.modRegion i f).regionOf j = n.regionOf j := tblGet_tblSet_ne _ _ _ h
@[simp] theorem Node.modRegion_kind (n : Node) (i : Nat) (f : Region → Region) : (n.modRegion i f).kind = n.kind := rfl
@[simp] theorem Node.modRegion_plane (n : Node) (i : Nat) (f : Region → Region) : (n.modRegion i f).plane = n.plane := rfl
@[simp] theorem Node.modRegion_level (n : Node) (i : Nat) (f : Region → Region) : (n.modRegion i f).level = n.level := rfl
@[simp] theorem Node.modRegion_arch (n : Node) (i : Nat) (f : Region → Region) : (n.modRegion i f).arch = n.arch := rfl
@[simp] theorem Node.modRegion_pier (n : Node) (i : Nat) (f : Region → Region) : (n.modRegion i f).pier = n.pier := rfl
@[simp] theorem Node.modRegion_threeLevel (n : Node) (i : Nat) (f : Region → Region) : (n.modRegion i f).threeLevel = n.threeLevel := rfl
@[simp] theorem Node.modRegion_tb1 (n : Node) (i : Nat) (f : Region → Region) : (n.modRegion i f).tb1 = n.tb1 := rfl
@[simp] theorem Node.modRegion_fresh (n : Node) (i : Nat) (f : Region → Region) : (n.modRegion i f).fresh = n.fresh := rfl
@[simp] theorem Node.modRegion_objs (n : Node) (i : Nat) (f : Region → Region) : (n.modRegion i f).objs = n.objs := rfl
@[simp] theorem Node.modRegion_deferred (n : Node) (i : Nat) (f : Region → Region) : (n.modRegion i f).deferred = n.deferred := rfl
@[simp] theorem Node.modRegion_log (n : Node) (i : Nat) (f : Region → Region) : (n.modRegion i f).log = n.log := rfl
@[simp] theorem Node.modRegion_lineLow (n : Node) (i : Nat) (f : Region → Region) : (n.modRegion i f).lineLow = n.lineLow := rfl
@[simp] theorem Node.modRegion_seen (n : Node) (i : Nat) (f : Region → Region) : (n.modRegion i f).seen = n.seen := rfl
@[simp] theorem Node.modRegion_fwd (n : Node) (i : Nat) (f : Region → Region) : (n.modRegion i f).fwd = n.fwd := rfl
@[simp] theorem Node.modRegion_links (n : Node) (i : Nat) (f : Region → Region) : (n.modRegion i f).links = n.links := rfl
@[simp] theorem Node.modRegion_tnode (n : Node) (i : Nat) (f : Region → Region) : (n.modRegion i f).tnode = n.tnode := rfl
@[simp] theorem Node.modRegion_tports (n : Node) (i : Nat) (f : Region → Region) : (n.modRegion i f).tports = n.tports := rfl
@[simp] theorem Node.modRegion_chans (n : Node) (i : Nat) (f : Region → Region) : (n.modRegion i f).chans = n.chans := rfl
@[simp] theorem Node.modRegion_evins (n : Node) (i : Nat) (f : Region → Region) : (n.modRegion i f).evins = n.evins := rfl
@[simp] theorem Node.modRegion_mslots (n : Node) (i : Nat) (f : Region → Region) : (n.modRegion i f).mslots = n.mslots := rfl
@[simp] theorem Node.modRegion_regrs (n : Node) (i : Nat) (f : Region → Region) : (n.modRegion i f).regrs = n.regrs := rfl
@[simp] theorem Node.modRegion_routes (n : Node) (i : Nat) (f : Region → Region) : (n.modRegion i f).routes = n.routes := rfl
@[simp] theorem Node.modRegion_answers (n : Node) (i : Nat) (f : Region → Region) : (n.modRegion i f).answers = n.answers := rfl
@[simp] theorem Node.modRegion_census (n : Node) (i : Nat) (f : Region → Region) : (n.modRegion i f).census = n.census := rfl
@[simp] theorem Node.modRegion_start (n : Node) (i : Nat) (f : Region → Region) : (n.modRegion i f).start = n.start := rfl
@[simp] theorem Node.modRegion_bases (n : Node) (i : Nat) (f : Region → Region) : (n.modRegion i f).bases = n.bases := rfl
@[simp] theorem Node.modRegion_hall (n : Node) (i : Nat) (f : Region → Region) : (n.modRegion i f).hall = n.hall := rfl
@[simp] theorem Node.modRegion_caps (n : Node) (i : Nat) (f : Region → Region) : (n.modRegion i f).caps = n.caps := rfl
@[simp] theorem Node.modRegion_pulses (n : Node) (i : Nat) (f : Region → Region) : (n.modRegion i f).pulses = n.pulses := rfl
@[simp] theorem Node.modRegion_bus (n : Node) (i : Nat) (f : Region → Region) : (n.modRegion i f).bus = n.bus := rfl
@[simp] theorem Node.modRegion_agents (n : Node) (i : Nat) (f : Region → Region) : (n.modRegion i f).agents = n.agents := rfl
@[simp] theorem Node.modRegion_cells (n : Node) (i : Nat) (f : Region → Region) : (n.modRegion i f).cells = n.cells := rfl
@[simp] theorem Node.modRegion_tslots (n : Node) (i : Nat) (f : Region → Region) : (n.modRegion i f).tslots = n.tslots := rfl
@[simp] theorem Node.modRegion_ctxs (n : Node) (i : Nat) (f : Region → Region) : (n.modRegion i f).ctxs = n.ctxs := rfl
@[simp] theorem Node.modRegion_clr (n : Node) (i : Nat) (f : Region → Region) : (n.modRegion i f).clr = n.clr := rfl
@[simp] theorem Node.modRegion_tally (n : Node) (i : Nat) (f : Region → Region) : (n.modRegion i f).tally = n.tally := rfl
@[simp] theorem Node.modRegion_mint (n : Node) (i : Nat) (f : Region → Region) : (n.modRegion i f).mint = n.mint := rfl
@[simp] theorem Node.modRegion_jrnl (n : Node) (i : Nat) (f : Region → Region) : (n.modRegion i f).jrnl = n.jrnl := rfl
@[simp] theorem Node.modRegion_key (n : Node) (i : Nat) (f : Region → Region) : (n.modRegion i f).key = n.key := rfl
@[simp] theorem Node.modRegion_vault (n : Node) (i : Nat) (f : Region → Region) : (n.modRegion i f).vault = n.vault := rfl
@[simp] theorem Node.modRegion_kst (n : Node) (i : Nat) (f : Region → Region) : (n.modRegion i f).kst = n.kst := rfl
@[simp] theorem Node.modRegion_refs (n : Node) (i : Nat) (f : Region → Region) : (n.modRegion i f).refs = n.refs := rfl
@[simp] theorem Node.modRegion_monitors (n : Node) (i : Nat) (f : Region → Region) : (n.modRegion i f).monitors = n.monitors := rfl
@[simp] theorem Node.modRegion_outs (n : Node) (i : Nat) (f : Region → Region) : (n.modRegion i f).outs = n.outs := rfl
@[simp] theorem Node.modRegion_escInst (n : Node) (i : Nat) (f : Region → Region) : (n.modRegion i f).escInst = n.escInst := rfl
@[simp] theorem Node.modRegion_heads (n : Node) (i : Nat) (f : Region → Region) : (n.modRegion i f).heads = n.heads := rfl
@[simp] theorem Node.modRegion_lead (n : Node) (i : Nat) (f : Region → Region) : (n.modRegion i f).lead = n.lead := rfl
@[simp] theorem Node.modRegion_htal (n : Node) (i : Nat) (f : Region → Region) : (n.modRegion i f).htal = n.htal := rfl
@[simp] theorem Node.modRegion_engines (n : Node) (i : Nat) (f : Region → Region) : (n.modRegion i f).engines = n.engines := rfl
@[simp] theorem Node.modRegion_trails (n : Node) (i : Nat) (f : Region → Region) : (n.modRegion i f).trails = n.trails := rfl
@[simp] theorem Node.modRegion_jhub (n : Node) (i : Nat) (f : Region → Region) : (n.modRegion i f).jhub = n.jhub := rfl
@[simp] theorem Node.modRegion_replay (n : Node) (i : Nat) (f : Region → Region) : (n.modRegion i f).replay = n.replay := rfl
@[simp] theorem Node.modRegion_spans (n : Node) (i : Nat) (f : Region → Region) : (n.modRegion i f).spans = n.spans := rfl
@[simp] theorem Node.modRegion_dports (n : Node) (i : Nat) (f : Region → Region) : (n.modRegion i f).dports = n.dports := rfl
@[simp] theorem Node.modRegion_grants (n : Node) (i : Nat) (f : Region → Region) : (n.modRegion i f).grants = n.grants := rfl
@[simp] theorem Node.modRegion_access (n : Node) (i : Nat) (f : Region → Region) : (n.modRegion i f).access = n.access := rfl
@[simp] theorem Node.modRegion_hpwr (n : Node) (i : Nat) (f : Region → Region) : (n.modRegion i f).hpwr = n.hpwr := rfl

/-! ### `modRef` -/

@[simp] theorem Node.modRef_refOf_same (n : Node) (i : Nat) (f : KRef → KRef) : (n.modRef i f).refOf i = f (n.refOf i) := tblGet_tblSet_same ..
theorem Node.modRef_refOf_ne (n : Node) {i j : Nat} (f : KRef → KRef) (h : i ≠ j) : (n.modRef i f).refOf j = n.refOf j := tblGet_tblSet_ne _ _ _ h
@[simp] theorem Node.modRef_kind (n : Node) (i : Nat) (f : KRef → KRef) : (n.modRef i f).kind = n.kind := rfl
@[simp] theorem Node.modRef_plane (n : Node) (i : Nat) (f : KRef → KRef) : (n.modRef i f).plane = n.plane := rfl
@[simp] theorem Node.modRef_level (n : Node) (i : Nat) (f : KRef → KRef) : (n.modRef i f).level = n.level := rfl
@[simp] theorem Node.modRef_arch (n : Node) (i : Nat) (f : KRef → KRef) : (n.modRef i f).arch = n.arch := rfl
@[simp] theorem Node.modRef_pier (n : Node) (i : Nat) (f : KRef → KRef) : (n.modRef i f).pier = n.pier := rfl
@[simp] theorem Node.modRef_threeLevel (n : Node) (i : Nat) (f : KRef → KRef) : (n.modRef i f).threeLevel = n.threeLevel := rfl
@[simp] theorem Node.modRef_tb1 (n : Node) (i : Nat) (f : KRef → KRef) : (n.modRef i f).tb1 = n.tb1 := rfl
@[simp] theorem Node.modRef_fresh (n : Node) (i : Nat) (f : KRef → KRef) : (n.modRef i f).fresh = n.fresh := rfl
@[simp] theorem Node.modRef_objs (n : Node) (i : Nat) (f : KRef → KRef) : (n.modRef i f).objs = n.objs := rfl
@[simp] theorem Node.modRef_deferred (n : Node) (i : Nat) (f : KRef → KRef) : (n.modRef i f).deferred = n.deferred := rfl
@[simp] theorem Node.modRef_log (n : Node) (i : Nat) (f : KRef → KRef) : (n.modRef i f).log = n.log := rfl
@[simp] theorem Node.modRef_lineLow (n : Node) (i : Nat) (f : KRef → KRef) : (n.modRef i f).lineLow = n.lineLow := rfl
@[simp] theorem Node.modRef_seen (n : Node) (i : Nat) (f : KRef → KRef) : (n.modRef i f).seen = n.seen := rfl
@[simp] theorem Node.modRef_fwd (n : Node) (i : Nat) (f : KRef → KRef) : (n.modRef i f).fwd = n.fwd := rfl
@[simp] theorem Node.modRef_links (n : Node) (i : Nat) (f : KRef → KRef) : (n.modRef i f).links = n.links := rfl
@[simp] theorem Node.modRef_tnode (n : Node) (i : Nat) (f : KRef → KRef) : (n.modRef i f).tnode = n.tnode := rfl
@[simp] theorem Node.modRef_tports (n : Node) (i : Nat) (f : KRef → KRef) : (n.modRef i f).tports = n.tports := rfl
@[simp] theorem Node.modRef_chans (n : Node) (i : Nat) (f : KRef → KRef) : (n.modRef i f).chans = n.chans := rfl
@[simp] theorem Node.modRef_evins (n : Node) (i : Nat) (f : KRef → KRef) : (n.modRef i f).evins = n.evins := rfl
@[simp] theorem Node.modRef_mslots (n : Node) (i : Nat) (f : KRef → KRef) : (n.modRef i f).mslots = n.mslots := rfl
@[simp] theorem Node.modRef_regrs (n : Node) (i : Nat) (f : KRef → KRef) : (n.modRef i f).regrs = n.regrs := rfl
@[simp] theorem Node.modRef_routes (n : Node) (i : Nat) (f : KRef → KRef) : (n.modRef i f).routes = n.routes := rfl
@[simp] theorem Node.modRef_answers (n : Node) (i : Nat) (f : KRef → KRef) : (n.modRef i f).answers = n.answers := rfl
@[simp] theorem Node.modRef_census (n : Node) (i : Nat) (f : KRef → KRef) : (n.modRef i f).census = n.census := rfl
@[simp] theorem Node.modRef_start (n : Node) (i : Nat) (f : KRef → KRef) : (n.modRef i f).start = n.start := rfl
@[simp] theorem Node.modRef_bases (n : Node) (i : Nat) (f : KRef → KRef) : (n.modRef i f).bases = n.bases := rfl
@[simp] theorem Node.modRef_hall (n : Node) (i : Nat) (f : KRef → KRef) : (n.modRef i f).hall = n.hall := rfl
@[simp] theorem Node.modRef_caps (n : Node) (i : Nat) (f : KRef → KRef) : (n.modRef i f).caps = n.caps := rfl
@[simp] theorem Node.modRef_pulses (n : Node) (i : Nat) (f : KRef → KRef) : (n.modRef i f).pulses = n.pulses := rfl
@[simp] theorem Node.modRef_bus (n : Node) (i : Nat) (f : KRef → KRef) : (n.modRef i f).bus = n.bus := rfl
@[simp] theorem Node.modRef_agents (n : Node) (i : Nat) (f : KRef → KRef) : (n.modRef i f).agents = n.agents := rfl
@[simp] theorem Node.modRef_cells (n : Node) (i : Nat) (f : KRef → KRef) : (n.modRef i f).cells = n.cells := rfl
@[simp] theorem Node.modRef_tslots (n : Node) (i : Nat) (f : KRef → KRef) : (n.modRef i f).tslots = n.tslots := rfl
@[simp] theorem Node.modRef_ctxs (n : Node) (i : Nat) (f : KRef → KRef) : (n.modRef i f).ctxs = n.ctxs := rfl
@[simp] theorem Node.modRef_clr (n : Node) (i : Nat) (f : KRef → KRef) : (n.modRef i f).clr = n.clr := rfl
@[simp] theorem Node.modRef_tally (n : Node) (i : Nat) (f : KRef → KRef) : (n.modRef i f).tally = n.tally := rfl
@[simp] theorem Node.modRef_mint (n : Node) (i : Nat) (f : KRef → KRef) : (n.modRef i f).mint = n.mint := rfl
@[simp] theorem Node.modRef_jrnl (n : Node) (i : Nat) (f : KRef → KRef) : (n.modRef i f).jrnl = n.jrnl := rfl
@[simp] theorem Node.modRef_key (n : Node) (i : Nat) (f : KRef → KRef) : (n.modRef i f).key = n.key := rfl
@[simp] theorem Node.modRef_regions (n : Node) (i : Nat) (f : KRef → KRef) : (n.modRef i f).regions = n.regions := rfl
@[simp] theorem Node.modRef_vault (n : Node) (i : Nat) (f : KRef → KRef) : (n.modRef i f).vault = n.vault := rfl
@[simp] theorem Node.modRef_kst (n : Node) (i : Nat) (f : KRef → KRef) : (n.modRef i f).kst = n.kst := rfl
@[simp] theorem Node.modRef_monitors (n : Node) (i : Nat) (f : KRef → KRef) : (n.modRef i f).monitors = n.monitors := rfl
@[simp] theorem Node.modRef_outs (n : Node) (i : Nat) (f : KRef → KRef) : (n.modRef i f).outs = n.outs := rfl
@[simp] theorem Node.modRef_escInst (n : Node) (i : Nat) (f : KRef → KRef) : (n.modRef i f).escInst = n.escInst := rfl
@[simp] theorem Node.modRef_heads (n : Node) (i : Nat) (f : KRef → KRef) : (n.modRef i f).heads = n.heads := rfl
@[simp] theorem Node.modRef_lead (n : Node) (i : Nat) (f : KRef → KRef) : (n.modRef i f).lead = n.lead := rfl
@[simp] theorem Node.modRef_htal (n : Node) (i : Nat) (f : KRef → KRef) : (n.modRef i f).htal = n.htal := rfl
@[simp] theorem Node.modRef_engines (n : Node) (i : Nat) (f : KRef → KRef) : (n.modRef i f).engines = n.engines := rfl
@[simp] theorem Node.modRef_trails (n : Node) (i : Nat) (f : KRef → KRef) : (n.modRef i f).trails = n.trails := rfl
@[simp] theorem Node.modRef_jhub (n : Node) (i : Nat) (f : KRef → KRef) : (n.modRef i f).jhub = n.jhub := rfl
@[simp] theorem Node.modRef_replay (n : Node) (i : Nat) (f : KRef → KRef) : (n.modRef i f).replay = n.replay := rfl
@[simp] theorem Node.modRef_spans (n : Node) (i : Nat) (f : KRef → KRef) : (n.modRef i f).spans = n.spans := rfl
@[simp] theorem Node.modRef_dports (n : Node) (i : Nat) (f : KRef → KRef) : (n.modRef i f).dports = n.dports := rfl
@[simp] theorem Node.modRef_grants (n : Node) (i : Nat) (f : KRef → KRef) : (n.modRef i f).grants = n.grants := rfl
@[simp] theorem Node.modRef_access (n : Node) (i : Nat) (f : KRef → KRef) : (n.modRef i f).access = n.access := rfl
@[simp] theorem Node.modRef_hpwr (n : Node) (i : Nat) (f : KRef → KRef) : (n.modRef i f).hpwr = n.hpwr := rfl

/-! ### `modMon` -/

@[simp] theorem Node.modMon_monOf_same (n : Node) (i : Nat) (f : Regr → Regr) : (n.modMon i f).monOf i = f (n.monOf i) := tblGet_tblSet_same ..
theorem Node.modMon_monOf_ne (n : Node) {i j : Nat} (f : Regr → Regr) (h : i ≠ j) : (n.modMon i f).monOf j = n.monOf j := tblGet_tblSet_ne _ _ _ h
@[simp] theorem Node.modMon_kind (n : Node) (i : Nat) (f : Regr → Regr) : (n.modMon i f).kind = n.kind := rfl
@[simp] theorem Node.modMon_plane (n : Node) (i : Nat) (f : Regr → Regr) : (n.modMon i f).plane = n.plane := rfl
@[simp] theorem Node.modMon_level (n : Node) (i : Nat) (f : Regr → Regr) : (n.modMon i f).level = n.level := rfl
@[simp] theorem Node.modMon_arch (n : Node) (i : Nat) (f : Regr → Regr) : (n.modMon i f).arch = n.arch := rfl
@[simp] theorem Node.modMon_pier (n : Node) (i : Nat) (f : Regr → Regr) : (n.modMon i f).pier = n.pier := rfl
@[simp] theorem Node.modMon_threeLevel (n : Node) (i : Nat) (f : Regr → Regr) : (n.modMon i f).threeLevel = n.threeLevel := rfl
@[simp] theorem Node.modMon_tb1 (n : Node) (i : Nat) (f : Regr → Regr) : (n.modMon i f).tb1 = n.tb1 := rfl
@[simp] theorem Node.modMon_fresh (n : Node) (i : Nat) (f : Regr → Regr) : (n.modMon i f).fresh = n.fresh := rfl
@[simp] theorem Node.modMon_objs (n : Node) (i : Nat) (f : Regr → Regr) : (n.modMon i f).objs = n.objs := rfl
@[simp] theorem Node.modMon_deferred (n : Node) (i : Nat) (f : Regr → Regr) : (n.modMon i f).deferred = n.deferred := rfl
@[simp] theorem Node.modMon_log (n : Node) (i : Nat) (f : Regr → Regr) : (n.modMon i f).log = n.log := rfl
@[simp] theorem Node.modMon_lineLow (n : Node) (i : Nat) (f : Regr → Regr) : (n.modMon i f).lineLow = n.lineLow := rfl
@[simp] theorem Node.modMon_seen (n : Node) (i : Nat) (f : Regr → Regr) : (n.modMon i f).seen = n.seen := rfl
@[simp] theorem Node.modMon_fwd (n : Node) (i : Nat) (f : Regr → Regr) : (n.modMon i f).fwd = n.fwd := rfl
@[simp] theorem Node.modMon_links (n : Node) (i : Nat) (f : Regr → Regr) : (n.modMon i f).links = n.links := rfl
@[simp] theorem Node.modMon_tnode (n : Node) (i : Nat) (f : Regr → Regr) : (n.modMon i f).tnode = n.tnode := rfl
@[simp] theorem Node.modMon_tports (n : Node) (i : Nat) (f : Regr → Regr) : (n.modMon i f).tports = n.tports := rfl
@[simp] theorem Node.modMon_chans (n : Node) (i : Nat) (f : Regr → Regr) : (n.modMon i f).chans = n.chans := rfl
@[simp] theorem Node.modMon_evins (n : Node) (i : Nat) (f : Regr → Regr) : (n.modMon i f).evins = n.evins := rfl
@[simp] theorem Node.modMon_mslots (n : Node) (i : Nat) (f : Regr → Regr) : (n.modMon i f).mslots = n.mslots := rfl
@[simp] theorem Node.modMon_regrs (n : Node) (i : Nat) (f : Regr → Regr) : (n.modMon i f).regrs = n.regrs := rfl
@[simp] theorem Node.modMon_routes (n : Node) (i : Nat) (f : Regr → Regr) : (n.modMon i f).routes = n.routes := rfl
@[simp] theorem Node.modMon_answers (n : Node) (i : Nat) (f : Regr → Regr) : (n.modMon i f).answers = n.answers := rfl
@[simp] theorem Node.modMon_census (n : Node) (i : Nat) (f : Regr → Regr) : (n.modMon i f).census = n.census := rfl
@[simp] theorem Node.modMon_start (n : Node) (i : Nat) (f : Regr → Regr) : (n.modMon i f).start = n.start := rfl
@[simp] theorem Node.modMon_bases (n : Node) (i : Nat) (f : Regr → Regr) : (n.modMon i f).bases = n.bases := rfl
@[simp] theorem Node.modMon_hall (n : Node) (i : Nat) (f : Regr → Regr) : (n.modMon i f).hall = n.hall := rfl
@[simp] theorem Node.modMon_caps (n : Node) (i : Nat) (f : Regr → Regr) : (n.modMon i f).caps = n.caps := rfl
@[simp] theorem Node.modMon_pulses (n : Node) (i : Nat) (f : Regr → Regr) : (n.modMon i f).pulses = n.pulses := rfl
@[simp] theorem Node.modMon_bus (n : Node) (i : Nat) (f : Regr → Regr) : (n.modMon i f).bus = n.bus := rfl
@[simp] theorem Node.modMon_agents (n : Node) (i : Nat) (f : Regr → Regr) : (n.modMon i f).agents = n.agents := rfl
@[simp] theorem Node.modMon_cells (n : Node) (i : Nat) (f : Regr → Regr) : (n.modMon i f).cells = n.cells := rfl
@[simp] theorem Node.modMon_tslots (n : Node) (i : Nat) (f : Regr → Regr) : (n.modMon i f).tslots = n.tslots := rfl
@[simp] theorem Node.modMon_ctxs (n : Node) (i : Nat) (f : Regr → Regr) : (n.modMon i f).ctxs = n.ctxs := rfl
@[simp] theorem Node.modMon_clr (n : Node) (i : Nat) (f : Regr → Regr) : (n.modMon i f).clr = n.clr := rfl
@[simp] theorem Node.modMon_tally (n : Node) (i : Nat) (f : Regr → Regr) : (n.modMon i f).tally = n.tally := rfl
@[simp] theorem Node.modMon_mint (n : Node) (i : Nat) (f : Regr → Regr) : (n.modMon i f).mint = n.mint := rfl
@[simp] theorem Node.modMon_jrnl (n : Node) (i : Nat) (f : Regr → Regr) : (n.modMon i f).jrnl = n.jrnl := rfl
@[simp] theorem Node.modMon_key (n : Node) (i : Nat) (f : Regr → Regr) : (n.modMon i f).key = n.key := rfl
@[simp] theorem Node.modMon_regions (n : Node) (i : Nat) (f : Regr → Regr) : (n.modMon i f).regions = n.regions := rfl
@[simp] theorem Node.modMon_vault (n : Node) (i : Nat) (f : Regr → Regr) : (n.modMon i f).vault = n.vault := rfl
@[simp] theorem Node.modMon_kst (n : Node) (i : Nat) (f : Regr → Regr) : (n.modMon i f).kst = n.kst := rfl
@[simp] theorem Node.modMon_refs (n : Node) (i : Nat) (f : Regr → Regr) : (n.modMon i f).refs = n.refs := rfl
@[simp] theorem Node.modMon_outs (n : Node) (i : Nat) (f : Regr → Regr) : (n.modMon i f).outs = n.outs := rfl
@[simp] theorem Node.modMon_escInst (n : Node) (i : Nat) (f : Regr → Regr) : (n.modMon i f).escInst = n.escInst := rfl
@[simp] theorem Node.modMon_heads (n : Node) (i : Nat) (f : Regr → Regr) : (n.modMon i f).heads = n.heads := rfl
@[simp] theorem Node.modMon_lead (n : Node) (i : Nat) (f : Regr → Regr) : (n.modMon i f).lead = n.lead := rfl
@[simp] theorem Node.modMon_htal (n : Node) (i : Nat) (f : Regr → Regr) : (n.modMon i f).htal = n.htal := rfl
@[simp] theorem Node.modMon_engines (n : Node) (i : Nat) (f : Regr → Regr) : (n.modMon i f).engines = n.engines := rfl
@[simp] theorem Node.modMon_trails (n : Node) (i : Nat) (f : Regr → Regr) : (n.modMon i f).trails = n.trails := rfl
@[simp] theorem Node.modMon_jhub (n : Node) (i : Nat) (f : Regr → Regr) : (n.modMon i f).jhub = n.jhub := rfl
@[simp] theorem Node.modMon_replay (n : Node) (i : Nat) (f : Regr → Regr) : (n.modMon i f).replay = n.replay := rfl
@[simp] theorem Node.modMon_spans (n : Node) (i : Nat) (f : Regr → Regr) : (n.modMon i f).spans = n.spans := rfl
@[simp] theorem Node.modMon_dports (n : Node) (i : Nat) (f : Regr → Regr) : (n.modMon i f).dports = n.dports := rfl
@[simp] theorem Node.modMon_grants (n : Node) (i : Nat) (f : Regr → Regr) : (n.modMon i f).grants = n.grants := rfl
@[simp] theorem Node.modMon_access (n : Node) (i : Nat) (f : Regr → Regr) : (n.modMon i f).access = n.access := rfl
@[simp] theorem Node.modMon_hpwr (n : Node) (i : Nat) (f : Regr → Regr) : (n.modMon i f).hpwr = n.hpwr := rfl

/-! ### `modOut` -/

@[simp] theorem Node.modOut_outOf_same (n : Node) (i : Nat) (f : PulseSt → PulseSt) : (n.modOut i f).outOf i = f (n.outOf i) := tblGet_tblSet_same ..
theorem Node.modOut_outOf_ne (n : Node) {i j : Nat} (f : PulseSt → PulseSt) (h : i ≠ j) : (n.modOut i f).outOf j = n.outOf j := tblGet_tblSet_ne _ _ _ h
@[simp] theorem Node.modOut_kind (n : Node) (i : Nat) (f : PulseSt → PulseSt) : (n.modOut i f).kind = n.kind := rfl
@[simp] theorem Node.modOut_plane (n : Node) (i : Nat) (f : PulseSt → PulseSt) : (n.modOut i f).plane = n.plane := rfl
@[simp] theorem Node.modOut_level (n : Node) (i : Nat) (f : PulseSt → PulseSt) : (n.modOut i f).level = n.level := rfl
@[simp] theorem Node.modOut_arch (n : Node) (i : Nat) (f : PulseSt → PulseSt) : (n.modOut i f).arch = n.arch := rfl
@[simp] theorem Node.modOut_pier (n : Node) (i : Nat) (f : PulseSt → PulseSt) : (n.modOut i f).pier = n.pier := rfl
@[simp] theorem Node.modOut_threeLevel (n : Node) (i : Nat) (f : PulseSt → PulseSt) : (n.modOut i f).threeLevel = n.threeLevel := rfl
@[simp] theorem Node.modOut_tb1 (n : Node) (i : Nat) (f : PulseSt → PulseSt) : (n.modOut i f).tb1 = n.tb1 := rfl
@[simp] theorem Node.modOut_fresh (n : Node) (i : Nat) (f : PulseSt → PulseSt) : (n.modOut i f).fresh = n.fresh := rfl
@[simp] theorem Node.modOut_objs (n : Node) (i : Nat) (f : PulseSt → PulseSt) : (n.modOut i f).objs = n.objs := rfl
@[simp] theorem Node.modOut_deferred (n : Node) (i : Nat) (f : PulseSt → PulseSt) : (n.modOut i f).deferred = n.deferred := rfl
@[simp] theorem Node.modOut_log (n : Node) (i : Nat) (f : PulseSt → PulseSt) : (n.modOut i f).log = n.log := rfl
@[simp] theorem Node.modOut_lineLow (n : Node) (i : Nat) (f : PulseSt → PulseSt) : (n.modOut i f).lineLow = n.lineLow := rfl
@[simp] theorem Node.modOut_seen (n : Node) (i : Nat) (f : PulseSt → PulseSt) : (n.modOut i f).seen = n.seen := rfl
@[simp] theorem Node.modOut_fwd (n : Node) (i : Nat) (f : PulseSt → PulseSt) : (n.modOut i f).fwd = n.fwd := rfl
@[simp] theorem Node.modOut_links (n : Node) (i : Nat) (f : PulseSt → PulseSt) : (n.modOut i f).links = n.links := rfl
@[simp] theorem Node.modOut_tnode (n : Node) (i : Nat) (f : PulseSt → PulseSt) : (n.modOut i f).tnode = n.tnode := rfl
@[simp] theorem Node.modOut_tports (n : Node) (i : Nat) (f : PulseSt → PulseSt) : (n.modOut i f).tports = n.tports := rfl
@[simp] theorem Node.modOut_chans (n : Node) (i : Nat) (f : PulseSt → PulseSt) : (n.modOut i f).chans = n.chans := rfl
@[simp] theorem Node.modOut_evins (n : Node) (i : Nat) (f : PulseSt → PulseSt) : (n.modOut i f).evins = n.evins := rfl
@[simp] theorem Node.modOut_mslots (n : Node) (i : Nat) (f : PulseSt → PulseSt) : (n.modOut i f).mslots = n.mslots := rfl
@[simp] theorem Node.modOut_regrs (n : Node) (i : Nat) (f : PulseSt → PulseSt) : (n.modOut i f).regrs = n.regrs := rfl
@[simp] theorem Node.modOut_routes (n : Node) (i : Nat) (f : PulseSt → PulseSt) : (n.modOut i f).routes = n.routes := rfl
@[simp] theorem Node.modOut_answers (n : Node) (i : Nat) (f : PulseSt → PulseSt) : (n.modOut i f).answers = n.answers := rfl
@[simp] theorem Node.modOut_census (n : Node) (i : Nat) (f : PulseSt → PulseSt) : (n.modOut i f).census = n.census := rfl
@[simp] theorem Node.modOut_start (n : Node) (i : Nat) (f : PulseSt → PulseSt) : (n.modOut i f).start = n.start := rfl
@[simp] theorem Node.modOut_bases (n : Node) (i : Nat) (f : PulseSt → PulseSt) : (n.modOut i f).bases = n.bases := rfl
@[simp] theorem Node.modOut_hall (n : Node) (i : Nat) (f : PulseSt → PulseSt) : (n.modOut i f).hall = n.hall := rfl
@[simp] theorem Node.modOut_caps (n : Node) (i : Nat) (f : PulseSt → PulseSt) : (n.modOut i f).caps = n.caps := rfl
@[simp] theorem Node.modOut_pulses (n : Node) (i : Nat) (f : PulseSt → PulseSt) : (n.modOut i f).pulses = n.pulses := rfl
@[simp] theorem Node.modOut_bus (n : Node) (i : Nat) (f : PulseSt → PulseSt) : (n.modOut i f).bus = n.bus := rfl
@[simp] theorem Node.modOut_agents (n : Node) (i : Nat) (f : PulseSt → PulseSt) : (n.modOut i f).agents = n.agents := rfl
@[simp] theorem Node.modOut_cells (n : Node) (i : Nat) (f : PulseSt → PulseSt) : (n.modOut i f).cells = n.cells := rfl
@[simp] theorem Node.modOut_tslots (n : Node) (i : Nat) (f : PulseSt → PulseSt) : (n.modOut i f).tslots = n.tslots := rfl
@[simp] theorem Node.modOut_ctxs (n : Node) (i : Nat) (f : PulseSt → PulseSt) : (n.modOut i f).ctxs = n.ctxs := rfl
@[simp] theorem Node.modOut_clr (n : Node) (i : Nat) (f : PulseSt → PulseSt) : (n.modOut i f).clr = n.clr := rfl
@[simp] theorem Node.modOut_tally (n : Node) (i : Nat) (f : PulseSt → PulseSt) : (n.modOut i f).tally = n.tally := rfl
@[simp] theorem Node.modOut_mint (n : Node) (i : Nat) (f : PulseSt → PulseSt) : (n.modOut i f).mint = n.mint := rfl
@[simp] theorem Node.modOut_jrnl (n : Node) (i : Nat) (f : PulseSt → PulseSt) : (n.modOut i f).jrnl = n.jrnl := rfl
@[simp] theorem Node.modOut_key (n : Node) (i : Nat) (f : PulseSt → PulseSt) : (n.modOut i f).key = n.key := rfl
@[simp] theorem Node.modOut_regions (n : Node) (i : Nat) (f : PulseSt → PulseSt) : (n.modOut i f).regions = n.regions := rfl
@[simp] theorem Node.modOut_vault (n : Node) (i : Nat) (f : PulseSt → PulseSt) : (n.modOut i f).vault = n.vault := rfl
@[simp] theorem Node.modOut_kst (n : Node) (i : Nat) (f : PulseSt → PulseSt) : (n.modOut i f).kst = n.kst := rfl
@[simp] theorem Node.modOut_refs (n : Node) (i : Nat) (f : PulseSt → PulseSt) : (n.modOut i f).refs = n.refs := rfl
@[simp] theorem Node.modOut_monitors (n : Node) (i : Nat) (f : PulseSt → PulseSt) : (n.modOut i f).monitors = n.monitors := rfl
@[simp] theorem Node.modOut_escInst (n : Node) (i : Nat) (f : PulseSt → PulseSt) : (n.modOut i f).escInst = n.escInst := rfl
@[simp] theorem Node.modOut_heads (n : Node) (i : Nat) (f : PulseSt → PulseSt) : (n.modOut i f).heads = n.heads := rfl
@[simp] theorem Node.modOut_lead (n : Node) (i : Nat) (f : PulseSt → PulseSt) : (n.modOut i f).lead = n.lead := rfl
@[simp] theorem Node.modOut_htal (n : Node) (i : Nat) (f : PulseSt → PulseSt) : (n.modOut i f).htal = n.htal := rfl
@[simp] theorem Node.modOut_engines (n : Node) (i : Nat) (f : PulseSt → PulseSt) : (n.modOut i f).engines = n.engines := rfl
@[simp] theorem Node.modOut_trails (n : Node) (i : Nat) (f : PulseSt → PulseSt) : (n.modOut i f).trails = n.trails := rfl
@[simp] theorem Node.modOut_jhub (n : Node) (i : Nat) (f : PulseSt → PulseSt) : (n.modOut i f).jhub = n.jhub := rfl
@[simp] theorem Node.modOut_replay (n : Node) (i : Nat) (f : PulseSt → PulseSt) : (n.modOut i f).replay = n.replay := rfl
@[simp] theorem Node.modOut_spans (n : Node) (i : Nat) (f : PulseSt → PulseSt) : (n.modOut i f).spans = n.spans := rfl
@[simp] theorem Node.modOut_dports (n : Node) (i : Nat) (f : PulseSt → PulseSt) : (n.modOut i f).dports = n.dports := rfl
@[simp] theorem Node.modOut_grants (n : Node) (i : Nat) (f : PulseSt → PulseSt) : (n.modOut i f).grants = n.grants := rfl
@[simp] theorem Node.modOut_access (n : Node) (i : Nat) (f : PulseSt → PulseSt) : (n.modOut i f).access = n.access := rfl
@[simp] theorem Node.modOut_hpwr (n : Node) (i : Nat) (f : PulseSt → PulseSt) : (n.modOut i f).hpwr = n.hpwr := rfl

/-! ### `modHead` -/

@[simp] theorem Node.modHead_headOf_same (n : Node) (i : Nat) (f : Head → Head) : (n.modHead i f).headOf i = f (n.headOf i) := tblGet_tblSet_same ..
theorem Node.modHead_headOf_ne (n : Node) {i j : Nat} (f : Head → Head) (h : i ≠ j) : (n.modHead i f).headOf j = n.headOf j := tblGet_tblSet_ne _ _ _ h
@[simp] theorem Node.modHead_kind (n : Node) (i : Nat) (f : Head → Head) : (n.modHead i f).kind = n.kind := rfl
@[simp] theorem Node.modHead_plane (n : Node) (i : Nat) (f : Head → Head) : (n.modHead i f).plane = n.plane := rfl
@[simp] theorem Node.modHead_level (n : Node) (i : Nat) (f : Head → Head) : (n.modHead i f).level = n.level := rfl
@[simp] theorem Node.modHead_arch (n : Node) (i : Nat) (f : Head → Head) : (n.modHead i f).arch = n.arch := rfl
@[simp] theorem Node.modHead_pier (n : Node) (i : Nat) (f : Head → Head) : (n.modHead i f).pier = n.pier := rfl
@[simp] theorem Node.modHead_threeLevel (n : Node) (i : Nat) (f : Head → Head) : (n.modHead i f).threeLevel = n.threeLevel := rfl
@[simp] theorem Node.modHead_tb1 (n : Node) (i : Nat) (f : Head → Head) : (n.modHead i f).tb1 = n.tb1 := rfl
@[simp] theorem Node.modHead_fresh (n : Node) (i : Nat) (f : Head → Head) : (n.modHead i f).fresh = n.fresh := rfl
@[simp] theorem Node.modHead_objs (n : Node) (i : Nat) (f : Head → Head) : (n.modHead i f).objs = n.objs := rfl
@[simp] theorem Node.modHead_deferred (n : Node) (i : Nat) (f : Head → Head) : (n.modHead i f).deferred = n.deferred := rfl
@[simp] theorem Node.modHead_log (n : Node) (i : Nat) (f : Head → Head) : (n.modHead i f).log = n.log := rfl
@[simp] theorem Node.modHead_lineLow (n : Node) (i : Nat) (f : Head → Head) : (n.modHead i f).lineLow = n.lineLow := rfl
@[simp] theorem Node.modHead_seen (n : Node) (i : Nat) (f : Head → Head) : (n.modHead i f).seen = n.seen := rfl
@[simp] theorem Node.modHead_fwd (n : Node) (i : Nat) (f : Head → Head) : (n.modHead i f).fwd = n.fwd := rfl
@[simp] theorem Node.modHead_links (n : Node) (i : Nat) (f : Head → Head) : (n.modHead i f).links = n.links := rfl
@[simp] theorem Node.modHead_tnode (n : Node) (i : Nat) (f : Head → Head) : (n.modHead i f).tnode = n.tnode := rfl
@[simp] theorem Node.modHead_tports (n : Node) (i : Nat) (f : Head → Head) : (n.modHead i f).tports = n.tports := rfl
@[simp] theorem Node.modHead_chans (n : Node) (i : Nat) (f : Head → Head) : (n.modHead i f).chans = n.chans := rfl
@[simp] theorem Node.modHead_evins (n : Node) (i : Nat) (f : Head → Head) : (n.modHead i f).evins = n.evins := rfl
@[simp] theorem Node.modHead_mslots (n : Node) (i : Nat) (f : Head → Head) : (n.modHead i f).mslots = n.mslots := rfl
@[simp] theorem Node.modHead_regrs (n : Node) (i : Nat) (f : Head → Head) : (n.modHead i f).regrs = n.regrs := rfl
@[simp] theorem Node.modHead_routes (n : Node) (i : Nat) (f : Head → Head) : (n.modHead i f).routes = n.routes := rfl
@[simp] theorem Node.modHead_answers (n : Node) (i : Nat) (f : Head → Head) : (n.modHead i f).answers = n.answers := rfl
@[simp] theorem Node.modHead_census (n : Node) (i : Nat) (f : Head → Head) : (n.modHead i f).census = n.census := rfl
@[simp] theorem Node.modHead_start (n : Node) (i : Nat) (f : Head → Head) : (n.modHead i f).start = n.start := rfl
@[simp] theorem Node.modHead_bases (n : Node) (i : Nat) (f : Head → Head) : (n.modHead i f).bases = n.bases := rfl
@[simp] theorem Node.modHead_hall (n : Node) (i : Nat) (f : Head → Head) : (n.modHead i f).hall = n.hall := rfl
@[simp] theorem Node.modHead_caps (n : Node) (i : Nat) (f : Head → Head) : (n.modHead i f).caps = n.caps := rfl
@[simp] theorem Node.modHead_pulses (n : Node) (i : Nat) (f : Head → Head) : (n.modHead i f).pulses = n.pulses := rfl
@[simp] theorem Node.modHead_bus (n : Node) (i : Nat) (f : Head → Head) : (n.modHead i f).bus = n.bus := rfl
@[simp] theorem Node.modHead_agents (n : Node) (i : Nat) (f : Head → Head) : (n.modHead i f).agents = n.agents := rfl
@[simp] theorem Node.modHead_cells (n : Node) (i : Nat) (f : Head → Head) : (n.modHead i f).cells = n.cells := rfl
@[simp] theorem Node.modHead_tslots (n : Node) (i : Nat) (f : Head → Head) : (n.modHead i f).tslots = n.tslots := rfl
@[simp] theorem Node.modHead_ctxs (n : Node) (i : Nat) (f : Head → Head) : (n.modHead i f).ctxs = n.ctxs := rfl
@[simp] theorem Node.modHead_clr (n : Node) (i : Nat) (f : Head → Head) : (n.modHead i f).clr = n.clr := rfl
@[simp] theorem Node.modHead_tally (n : Node) (i : Nat) (f : Head → Head) : (n.modHead i f).tally = n.tally := rfl
@[simp] theorem Node.modHead_mint (n : Node) (i : Nat) (f : Head → Head) : (n.modHead i f).mint = n.mint := rfl
@[simp] theorem Node.modHead_jrnl (n : Node) (i : Nat) (f : Head → Head) : (n.modHead i f).jrnl = n.jrnl := rfl
@[simp] theorem Node.modHead_key (n : Node) (i : Nat) (f : Head → Head) : (n.modHead i f).key = n.key := rfl
@[simp] theorem Node.modHead_regions (n : Node) (i : Nat) (f : Head → Head) : (n.modHead i f).regions = n.regions := rfl
@[simp] theorem Node.modHead_vault (n : Node) (i : Nat) (f : Head → Head) : (n.modHead i f).vault = n.vault := rfl
@[simp] theorem Node.modHead_kst (n : Node) (i : Nat) (f : Head → Head) : (n.modHead i f).kst = n.kst := rfl
@[simp] theorem Node.modHead_refs (n : Node) (i : Nat) (f : Head → Head) : (n.modHead i f).refs = n.refs := rfl
@[simp] theorem Node.modHead_monitors (n : Node) (i : Nat) (f : Head → Head) : (n.modHead i f).monitors = n.monitors := rfl
@[simp] theorem Node.modHead_outs (n : Node) (i : Nat) (f : Head → Head) : (n.modHead i f).outs = n.outs := rfl
@[simp] theorem Node.modHead_escInst (n : Node) (i : Nat) (f : Head → Head) : (n.modHead i f).escInst = n.escInst := rfl
@[simp] theorem Node.modHead_lead (n : Node) (i : Nat) (f : Head → Head) : (n.modHead i f).lead = n.lead := rfl
@[simp] theorem Node.modHead_htal (n : Node) (i : Nat) (f : Head → Head) : (n.modHead i f).htal = n.htal := rfl
@[simp] theorem Node.modHead_engines (n : Node) (i : Nat) (f : Head → Head) : (n.modHead i f).engines = n.engines := rfl
@[simp] theorem Node.modHead_trails (n : Node) (i : Nat) (f : Head → Head) : (n.modHead i f).trails = n.trails := rfl
@[simp] theorem Node.modHead_jhub (n : Node) (i : Nat) (f : Head → Head) : (n.modHead i f).jhub = n.jhub := rfl
@[simp] theorem Node.modHead_replay (n : Node) (i : Nat) (f : Head → Head) : (n.modHead i f).replay = n.replay := rfl
@[simp] theorem Node.modHead_spans (n : Node) (i : Nat) (f : Head → Head) : (n.modHead i f).spans = n.spans := rfl
@[simp] theorem Node.modHead_dports (n : Node) (i : Nat) (f : Head → Head) : (n.modHead i f).dports = n.dports := rfl
@[simp] theorem Node.modHead_grants (n : Node) (i : Nat) (f : Head → Head) : (n.modHead i f).grants = n.grants := rfl
@[simp] theorem Node.modHead_access (n : Node) (i : Nat) (f : Head → Head) : (n.modHead i f).access = n.access := rfl
@[simp] theorem Node.modHead_hpwr (n : Node) (i : Nat) (f : Head → Head) : (n.modHead i f).hpwr = n.hpwr := rfl

/-! ### `modHtal` -/

@[simp] theorem Node.modHtal_htalOf_same (n : Node) (i : Nat) (f : HTally → HTally) : (n.modHtal i f).htalOf i = f (n.htalOf i) := tblGet_tblSet_same ..
theorem Node.modHtal_htalOf_ne (n : Node) {i j : Nat} (f : HTally → HTally) (h : i ≠ j) : (n.modHtal i f).htalOf j = n.htalOf j := tblGet_tblSet_ne _ _ _ h
@[simp] theorem Node.modHtal_kind (n : Node) (i : Nat) (f : HTally → HTally) : (n.modHtal i f).kind = n.kind := rfl
@[simp] theorem Node.modHtal_plane (n : Node) (i : Nat) (f : HTally → HTally) : (n.modHtal i f).plane = n.plane := rfl
@[simp] theorem Node.modHtal_level (n : Node) (i : Nat) (f : HTally → HTally) : (n.modHtal i f).level = n.level := rfl
@[simp] theorem Node.modHtal_arch (n : Node) (i : Nat) (f : HTally → HTally) : (n.modHtal i f).arch = n.arch := rfl
@[simp] theorem Node.modHtal_pier (n : Node) (i : Nat) (f : HTally → HTally) : (n.modHtal i f).pier = n.pier := rfl
@[simp] theorem Node.modHtal_threeLevel (n : Node) (i : Nat) (f : HTally → HTally) : (n.modHtal i f).threeLevel = n.threeLevel := rfl
@[simp] theorem Node.modHtal_tb1 (n : Node) (i : Nat) (f : HTally → HTally) : (n.modHtal i f).tb1 = n.tb1 := rfl
@[simp] theorem Node.modHtal_fresh (n : Node) (i : Nat) (f : HTally → HTally) : (n.modHtal i f).fresh = n.fresh := rfl
@[simp] theorem Node.modHtal_objs (n : Node) (i : Nat) (f : HTally → HTally) : (n.modHtal i f).objs = n.objs := rfl
@[simp] theorem Node.modHtal_deferred (n : Node) (i : Nat) (f : HTally → HTally) : (n.modHtal i f).deferred = n.deferred := rfl
@[simp] theorem Node.modHtal_log (n : Node) (i : Nat) (f : HTally → HTally) : (n.modHtal i f).log = n.log := rfl
@[simp] theorem Node.modHtal_lineLow (n : Node) (i : Nat) (f : HTally → HTally) : (n.modHtal i f).lineLow = n.lineLow := rfl
@[simp] theorem Node.modHtal_seen (n : Node) (i : Nat) (f : HTally → HTally) : (n.modHtal i f).seen = n.seen := rfl
@[simp] theorem Node.modHtal_fwd (n : Node) (i : Nat) (f : HTally → HTally) : (n.modHtal i f).fwd = n.fwd := rfl
@[simp] theorem Node.modHtal_links (n : Node) (i : Nat) (f : HTally → HTally) : (n.modHtal i f).links = n.links := rfl
@[simp] theorem Node.modHtal_tnode (n : Node) (i : Nat) (f : HTally → HTally) : (n.modHtal i f).tnode = n.tnode := rfl
@[simp] theorem Node.modHtal_tports (n : Node) (i : Nat) (f : HTally → HTally) : (n.modHtal i f).tports = n.tports := rfl
@[simp] theorem Node.modHtal_chans (n : Node) (i : Nat) (f : HTally → HTally) : (n.modHtal i f).chans = n.chans := rfl
@[simp] theorem Node.modHtal_evins (n : Node) (i : Nat) (f : HTally → HTally) : (n.modHtal i f).evins = n.evins := rfl
@[simp] theorem Node.modHtal_mslots (n : Node) (i : Nat) (f : HTally → HTally) : (n.modHtal i f).mslots = n.mslots := rfl
@[simp] theorem Node.modHtal_regrs (n : Node) (i : Nat) (f : HTally → HTally) : (n.modHtal i f).regrs = n.regrs := rfl
@[simp] theorem Node.modHtal_routes (n : Node) (i : Nat) (f : HTally → HTally) : (n.modHtal i f).routes = n.routes := rfl
@[simp] theorem Node.modHtal_answers (n : Node) (i : Nat) (f : HTally → HTally) : (n.modHtal i f).answers = n.answers := rfl
@[simp] theorem Node.modHtal_census (n : Node) (i : Nat) (f : HTally → HTally) : (n.modHtal i f).census = n.census := rfl
@[simp] theorem Node.modHtal_start (n : Node) (i : Nat) (f : HTally → HTally) : (n.modHtal i f).start = n.start := rfl
@[simp] theorem Node.modHtal_bases (n : Node) (i : Nat) (f : HTally → HTally) : (n.modHtal i f).bases = n.bases := rfl
@[simp] theorem Node.modHtal_hall (n : Node) (i : Nat) (f : HTally → HTally) : (n.modHtal i f).hall = n.hall := rfl
@[simp] theorem Node.modHtal_caps (n : Node) (i : Nat) (f : HTally → HTally) : (n.modHtal i f).caps = n.caps := rfl
@[simp] theorem Node.modHtal_pulses (n : Node) (i : Nat) (f : HTally → HTally) : (n.modHtal i f).pulses = n.pulses := rfl
@[simp] theorem Node.modHtal_bus (n : Node) (i : Nat) (f : HTally → HTally) : (n.modHtal i f).bus = n.bus := rfl
@[simp] theorem Node.modHtal_agents (n : Node) (i : Nat) (f : HTally → HTally) : (n.modHtal i f).agents = n.agents := rfl
@[simp] theorem Node.modHtal_cells (n : Node) (i : Nat) (f : HTally → HTally) : (n.modHtal i f).cells = n.cells := rfl
@[simp] theorem Node.modHtal_tslots (n : Node) (i : Nat) (f : HTally → HTally) : (n.modHtal i f).tslots = n.tslots := rfl
@[simp] theorem Node.modHtal_ctxs (n : Node) (i : Nat) (f : HTally → HTally) : (n.modHtal i f).ctxs = n.ctxs := rfl
@[simp] theorem Node.modHtal_clr (n : Node) (i : Nat) (f : HTally → HTally) : (n.modHtal i f).clr = n.clr := rfl
@[simp] theorem Node.modHtal_tally (n : Node) (i : Nat) (f : HTally → HTally) : (n.modHtal i f).tally = n.tally := rfl
@[simp] theorem Node.modHtal_mint (n : Node) (i : Nat) (f : HTally → HTally) : (n.modHtal i f).mint = n.mint := rfl
@[simp] theorem Node.modHtal_jrnl (n : Node) (i : Nat) (f : HTally → HTally) : (n.modHtal i f).jrnl = n.jrnl := rfl
@[simp] theorem Node.modHtal_key (n : Node) (i : Nat) (f : HTally → HTally) : (n.modHtal i f).key = n.key := rfl
@[simp] theorem Node.modHtal_regions (n : Node) (i : Nat) (f : HTally → HTally) : (n.modHtal i f).regions = n.regions := rfl
@[simp] theorem Node.modHtal_vault (n : Node) (i : Nat) (f : HTally → HTally) : (n.modHtal i f).vault = n.vault := rfl
@[simp] theorem Node.modHtal_kst (n : Node) (i : Nat) (f : HTally → HTally) : (n.modHtal i f).kst = n.kst := rfl
@[simp] theorem Node.modHtal_refs (n : Node) (i : Nat) (f : HTally → HTally) : (n.modHtal i f).refs = n.refs := rfl
@[simp] theorem Node.modHtal_monitors (n : Node) (i : Nat) (f : HTally → HTally) : (n.modHtal i f).monitors = n.monitors := rfl
@[simp] theorem Node.modHtal_outs (n : Node) (i : Nat) (f : HTally → HTally) : (n.modHtal i f).outs = n.outs := rfl
@[simp] theorem Node.modHtal_escInst (n : Node) (i : Nat) (f : HTally → HTally) : (n.modHtal i f).escInst = n.escInst := rfl
@[simp] theorem Node.modHtal_heads (n : Node) (i : Nat) (f : HTally → HTally) : (n.modHtal i f).heads = n.heads := rfl
@[simp] theorem Node.modHtal_lead (n : Node) (i : Nat) (f : HTally → HTally) : (n.modHtal i f).lead = n.lead := rfl
@[simp] theorem Node.modHtal_engines (n : Node) (i : Nat) (f : HTally → HTally) : (n.modHtal i f).engines = n.engines := rfl
@[simp] theorem Node.modHtal_trails (n : Node) (i : Nat) (f : HTally → HTally) : (n.modHtal i f).trails = n.trails := rfl
@[simp] theorem Node.modHtal_jhub (n : Node) (i : Nat) (f : HTally → HTally) : (n.modHtal i f).jhub = n.jhub := rfl
@[simp] theorem Node.modHtal_replay (n : Node) (i : Nat) (f : HTally → HTally) : (n.modHtal i f).replay = n.replay := rfl
@[simp] theorem Node.modHtal_spans (n : Node) (i : Nat) (f : HTally → HTally) : (n.modHtal i f).spans = n.spans := rfl
@[simp] theorem Node.modHtal_dports (n : Node) (i : Nat) (f : HTally → HTally) : (n.modHtal i f).dports = n.dports := rfl
@[simp] theorem Node.modHtal_grants (n : Node) (i : Nat) (f : HTally → HTally) : (n.modHtal i f).grants = n.grants := rfl
@[simp] theorem Node.modHtal_access (n : Node) (i : Nat) (f : HTally → HTally) : (n.modHtal i f).access = n.access := rfl
@[simp] theorem Node.modHtal_hpwr (n : Node) (i : Nat) (f : HTally → HTally) : (n.modHtal i f).hpwr = n.hpwr := rfl

/-! ### `modEng` -/

@[simp] theorem Node.modEng_engOf_same (n : Node) (i : Nat) (f : Engine → Engine) : (n.modEng i f).engOf i = f (n.engOf i) := tblGet_tblSet_same ..
theorem Node.modEng_engOf_ne (n : Node) {i j : Nat} (f : Engine → Engine) (h : i ≠ j) : (n.modEng i f).engOf j = n.engOf j := tblGet_tblSet_ne _ _ _ h
@[simp] theorem Node.modEng_kind (n : Node) (i : Nat) (f : Engine → Engine) : (n.modEng i f).kind = n.kind := rfl
@[simp] theorem Node.modEng_plane (n : Node) (i : Nat) (f : Engine → Engine) : (n.modEng i f).plane = n.plane := rfl
@[simp] theorem Node.modEng_level (n : Node) (i : Nat) (f : Engine → Engine) : (n.modEng i f).level = n.level := rfl
@[simp] theorem Node.modEng_arch (n : Node) (i : Nat) (f : Engine → Engine) : (n.modEng i f).arch = n.arch := rfl
@[simp] theorem Node.modEng_pier (n : Node) (i : Nat) (f : Engine → Engine) : (n.modEng i f).pier = n.pier := rfl
@[simp] theorem Node.modEng_threeLevel (n : Node) (i : Nat) (f : Engine → Engine) : (n.modEng i f).threeLevel = n.threeLevel := rfl
@[simp] theorem Node.modEng_tb1 (n : Node) (i : Nat) (f : Engine → Engine) : (n.modEng i f).tb1 = n.tb1 := rfl
@[simp] theorem Node.modEng_fresh (n : Node) (i : Nat) (f : Engine → Engine) : (n.modEng i f).fresh = n.fresh := rfl
@[simp] theorem Node.modEng_objs (n : Node) (i : Nat) (f : Engine → Engine) : (n.modEng i f).objs = n.objs := rfl
@[simp] theorem Node.modEng_deferred (n : Node) (i : Nat) (f : Engine → Engine) : (n.modEng i f).deferred = n.deferred := rfl
@[simp] theorem Node.modEng_log (n : Node) (i : Nat) (f : Engine → Engine) : (n.modEng i f).log = n.log := rfl
@[simp] theorem Node.modEng_lineLow (n : Node) (i : Nat) (f : Engine → Engine) : (n.modEng i f).lineLow = n.lineLow := rfl
@[simp] theorem Node.modEng_seen (n : Node) (i : Nat) (f : Engine → Engine) : (n.modEng i f).seen = n.seen := rfl
@[simp] theorem Node.modEng_fwd (n : Node) (i : Nat) (f : Engine → Engine) : (n.modEng i f).fwd = n.fwd := rfl
@[simp] theorem Node.modEng_links (n : Node) (i : Nat) (f : Engine → Engine) : (n.modEng i f).links = n.links := rfl
@[simp] theorem Node.modEng_tnode (n : Node) (i : Nat) (f : Engine → Engine) : (n.modEng i f).tnode = n.tnode := rfl
@[simp] theorem Node.modEng_tports (n : Node) (i : Nat) (f : Engine → Engine) : (n.modEng i f).tports = n.tports := rfl
@[simp] theorem Node.modEng_chans (n : Node) (i : Nat) (f : Engine → Engine) : (n.modEng i f).chans = n.chans := rfl
@[simp] theorem Node.modEng_evins (n : Node) (i : Nat) (f : Engine → Engine) : (n.modEng i f).evins = n.evins := rfl
@[simp] theorem Node.modEng_mslots (n : Node) (i : Nat) (f : Engine → Engine) : (n.modEng i f).mslots = n.mslots := rfl
@[simp] theorem Node.modEng_regrs (n : Node) (i : Nat) (f : Engine → Engine) : (n.modEng i f).regrs = n.regrs := rfl
@[simp] theorem Node.modEng_routes (n : Node) (i : Nat) (f : Engine → Engine) : (n.modEng i f).routes = n.routes := rfl
@[simp] theorem Node.modEng_answers (n : Node) (i : Nat) (f : Engine → Engine) : (n.modEng i f).answers = n.answers := rfl
@[simp] theorem Node.modEng_census (n : Node) (i : Nat) (f : Engine → Engine) : (n.modEng i f).census = n.census := rfl
@[simp] theorem Node.modEng_start (n : Node) (i : Nat) (f : Engine → Engine) : (n.modEng i f).start = n.start := rfl
@[simp] theorem Node.modEng_bases (n : Node) (i : Nat) (f : Engine → Engine) : (n.modEng i f).bases = n.bases := rfl
@[simp] theorem Node.modEng_hall (n : Node) (i : Nat) (f : Engine → Engine) : (n.modEng i f).hall = n.hall := rfl
@[simp] theorem Node.modEng_caps (n : Node) (i : Nat) (f : Engine → Engine) : (n.modEng i f).caps = n.caps := rfl
@[simp] theorem Node.modEng_pulses (n : Node) (i : Nat) (f : Engine → Engine) : (n.modEng i f).pulses = n.pulses := rfl
@[simp] theorem Node.modEng_bus (n : Node) (i : Nat) (f : Engine → Engine) : (n.modEng i f).bus = n.bus := rfl
@[simp] theorem Node.modEng_agents (n : Node) (i : Nat) (f : Engine → Engine) : (n.modEng i f).agents = n.agents := rfl
@[simp] theorem Node.modEng_cells (n : Node) (i : Nat) (f : Engine → Engine) : (n.modEng i f).cells = n.cells := rfl
@[simp] theorem Node.modEng_tslots (n : Node) (i : Nat) (f : Engine → Engine) : (n.modEng i f).tslots = n.tslots := rfl
@[simp] theorem Node.modEng_ctxs (n : Node) (i : Nat) (f : Engine → Engine) : (n.modEng i f).ctxs = n.ctxs := rfl
@[simp] theorem Node.modEng_clr (n : Node) (i : Nat) (f : Engine → Engine) : (n.modEng i f).clr = n.clr := rfl
@[simp] theorem Node.modEng_tally (n : Node) (i : Nat) (f : Engine → Engine) : (n.modEng i f).tally = n.tally := rfl
@[simp] theorem Node.modEng_mint (n : Node) (i : Nat) (f : Engine → Engine) : (n.modEng i f).mint = n.mint := rfl
@[simp] theorem Node.modEng_jrnl (n : Node) (i : Nat) (f : Engine → Engine) : (n.modEng i f).jrnl = n.jrnl := rfl
@[simp] theorem Node.modEng_key (n : Node) (i : Nat) (f : Engine → Engine) : (n.modEng i f).key = n.key := rfl
@[simp] theorem Node.modEng_regions (n : Node) (i : Nat) (f : Engine → Engine) : (n.modEng i f).regions = n.regions := rfl
@[simp] theorem Node.modEng_vault (n : Node) (i : Nat) (f : Engine → Engine) : (n.modEng i f).vault = n.vault := rfl
@[simp] theorem Node.modEng_kst (n : Node) (i : Nat) (f : Engine → Engine) : (n.modEng i f).kst = n.kst := rfl
@[simp] theorem Node.modEng_refs (n : Node) (i : Nat) (f : Engine → Engine) : (n.modEng i f).refs = n.refs := rfl
@[simp] theorem Node.modEng_monitors (n : Node) (i : Nat) (f : Engine → Engine) : (n.modEng i f).monitors = n.monitors := rfl
@[simp] theorem Node.modEng_outs (n : Node) (i : Nat) (f : Engine → Engine) : (n.modEng i f).outs = n.outs := rfl
@[simp] theorem Node.modEng_escInst (n : Node) (i : Nat) (f : Engine → Engine) : (n.modEng i f).escInst = n.escInst := rfl
@[simp] theorem Node.modEng_heads (n : Node) (i : Nat) (f : Engine → Engine) : (n.modEng i f).heads = n.heads := rfl
@[simp] theorem Node.modEng_lead (n : Node) (i : Nat) (f : Engine → Engine) : (n.modEng i f).lead = n.lead := rfl
@[simp] theorem Node.modEng_htal (n : Node) (i : Nat) (f : Engine → Engine) : (n.modEng i f).htal = n.htal := rfl
@[simp] theorem Node.modEng_trails (n : Node) (i : Nat) (f : Engine → Engine) : (n.modEng i f).trails = n.trails := rfl
@[simp] theorem Node.modEng_jhub (n : Node) (i : Nat) (f : Engine → Engine) : (n.modEng i f).jhub = n.jhub := rfl
@[simp] theorem Node.modEng_replay (n : Node) (i : Nat) (f : Engine → Engine) : (n.modEng i f).replay = n.replay := rfl
@[simp] theorem Node.modEng_spans (n : Node) (i : Nat) (f : Engine → Engine) : (n.modEng i f).spans = n.spans := rfl
@[simp] theorem Node.modEng_dports (n : Node) (i : Nat) (f : Engine → Engine) : (n.modEng i f).dports = n.dports := rfl
@[simp] theorem Node.modEng_grants (n : Node) (i : Nat) (f : Engine → Engine) : (n.modEng i f).grants = n.grants := rfl
@[simp] theorem Node.modEng_access (n : Node) (i : Nat) (f : Engine → Engine) : (n.modEng i f).access = n.access := rfl
@[simp] theorem Node.modEng_hpwr (n : Node) (i : Nat) (f : Engine → Engine) : (n.modEng i f).hpwr = n.hpwr := rfl

/-! ### `modDport` -/

@[simp] theorem Node.modDport_dportOf_same (n : Node) (i : Nat) (f : DPort → DPort) : (n.modDport i f).dportOf i = f (n.dportOf i) := tblGet_tblSet_same ..
theorem Node.modDport_dportOf_ne (n : Node) {i j : Nat} (f : DPort → DPort) (h : i ≠ j) : (n.modDport i f).dportOf j = n.dportOf j := tblGet_tblSet_ne _ _ _ h
@[simp] theorem Node.modDport_kind (n : Node) (i : Nat) (f : DPort → DPort) : (n.modDport i f).kind = n.kind := rfl
@[simp] theorem Node.modDport_plane (n : Node) (i : Nat) (f : DPort → DPort) : (n.modDport i f).plane = n.plane := rfl
@[simp] theorem Node.modDport_level (n : Node) (i : Nat) (f : DPort → DPort) : (n.modDport i f).level = n.level := rfl
@[simp] theorem Node.modDport_arch (n : Node) (i : Nat) (f : DPort → DPort) : (n.modDport i f).arch = n.arch := rfl
@[simp] theorem Node.modDport_pier (n : Node) (i : Nat) (f : DPort → DPort) : (n.modDport i f).pier = n.pier := rfl
@[simp] theorem Node.modDport_threeLevel (n : Node) (i : Nat) (f : DPort → DPort) : (n.modDport i f).threeLevel = n.threeLevel := rfl
@[simp] theorem Node.modDport_tb1 (n : Node) (i : Nat) (f : DPort → DPort) : (n.modDport i f).tb1 = n.tb1 := rfl
@[simp] theorem Node.modDport_fresh (n : Node) (i : Nat) (f : DPort → DPort) : (n.modDport i f).fresh = n.fresh := rfl
@[simp] theorem Node.modDport_objs (n : Node) (i : Nat) (f : DPort → DPort) : (n.modDport i f).objs = n.objs := rfl
@[simp] theorem Node.modDport_deferred (n : Node) (i : Nat) (f : DPort → DPort) : (n.modDport i f).deferred = n.deferred := rfl
@[simp] theorem Node.modDport_log (n : Node) (i : Nat) (f : DPort → DPort) : (n.modDport i f).log = n.log := rfl
@[simp] theorem Node.modDport_lineLow (n : Node) (i : Nat) (f : DPort → DPort) : (n.modDport i f).lineLow = n.lineLow := rfl
@[simp] theorem Node.modDport_seen (n : Node) (i : Nat) (f : DPort → DPort) : (n.modDport i f).seen = n.seen := rfl
@[simp] theorem Node.modDport_fwd (n : Node) (i : Nat) (f : DPort → DPort) : (n.modDport i f).fwd = n.fwd := rfl
@[simp] theorem Node.modDport_links (n : Node) (i : Nat) (f : DPort → DPort) : (n.modDport i f).links = n.links := rfl
@[simp] theorem Node.modDport_tnode (n : Node) (i : Nat) (f : DPort → DPort) : (n.modDport i f).tnode = n.tnode := rfl
@[simp] theorem Node.modDport_tports (n : Node) (i : Nat) (f : DPort → DPort) : (n.modDport i f).tports = n.tports := rfl
@[simp] theorem Node.modDport_chans (n : Node) (i : Nat) (f : DPort → DPort) : (n.modDport i f).chans = n.chans := rfl
@[simp] theorem Node.modDport_evins (n : Node) (i : Nat) (f : DPort → DPort) : (n.modDport i f).evins = n.evins := rfl
@[simp] theorem Node.modDport_mslots (n : Node) (i : Nat) (f : DPort → DPort) : (n.modDport i f).mslots = n.mslots := rfl
@[simp] theorem Node.modDport_regrs (n : Node) (i : Nat) (f : DPort → DPort) : (n.modDport i f).regrs = n.regrs := rfl
@[simp] theorem Node.modDport_routes (n : Node) (i : Nat) (f : DPort → DPort) : (n.modDport i f).routes = n.routes := rfl
@[simp] theorem Node.modDport_answers (n : Node) (i : Nat) (f : DPort → DPort) : (n.modDport i f).answers = n.answers := rfl
@[simp] theorem Node.modDport_census (n : Node) (i : Nat) (f : DPort → DPort) : (n.modDport i f).census = n.census := rfl
@[simp] theorem Node.modDport_start (n : Node) (i : Nat) (f : DPort → DPort) : (n.modDport i f).start = n.start := rfl
@[simp] theorem Node.modDport_bases (n : Node) (i : Nat) (f : DPort → DPort) : (n.modDport i f).bases = n.bases := rfl
@[simp] theorem Node.modDport_hall (n : Node) (i : Nat) (f : DPort → DPort) : (n.modDport i f).hall = n.hall := rfl
@[simp] theorem Node.modDport_caps (n : Node) (i : Nat) (f : DPort → DPort) : (n.modDport i f).caps = n.caps := rfl
@[simp] theorem Node.modDport_pulses (n : Node) (i : Nat) (f : DPort → DPort) : (n.modDport i f).pulses = n.pulses := rfl
@[simp] theorem Node.modDport_bus (n : Node) (i : Nat) (f : DPort → DPort) : (n.modDport i f).bus = n.bus := rfl
@[simp] theorem Node.modDport_agents (n : Node) (i : Nat) (f : DPort → DPort) : (n.modDport i f).agents = n.agents := rfl
@[simp] theorem Node.modDport_cells (n : Node) (i : Nat) (f : DPort → DPort) : (n.modDport i f).cells = n.cells := rfl
@[simp] theorem Node.modDport_tslots (n : Node) (i : Nat) (f : DPort → DPort) : (n.modDport i f).tslots = n.tslots := rfl
@[simp] theorem Node.modDport_ctxs (n : Node) (i : Nat) (f : DPort → DPort) : (n.modDport i f).ctxs = n.ctxs := rfl
@[simp] theorem Node.modDport_clr (n : Node) (i : Nat) (f : DPort → DPort) : (n.modDport i f).clr = n.clr := rfl
@[simp] theorem Node.modDport_tally (n : Node) (i : Nat) (f : DPort → DPort) : (n.modDport i f).tally = n.tally := rfl
@[simp] theorem Node.modDport_mint (n : Node) (i : Nat) (f : DPort → DPort) : (n.modDport i f).mint = n.mint := rfl
@[simp] theorem Node.modDport_jrnl (n : Node) (i : Nat) (f : DPort → DPort) : (n.modDport i f).jrnl = n.jrnl := rfl
@[simp] theorem Node.modDport_key (n : Node) (i : Nat) (f : DPort → DPort) : (n.modDport i f).key = n.key := rfl
@[simp] theorem Node.modDport_regions (n : Node) (i : Nat) (f : DPort → DPort) : (n.modDport i f).regions = n.regions := rfl
@[simp] theorem Node.modDport_vault (n : Node) (i : Nat) (f : DPort → DPort) : (n.modDport i f).vault = n.vault := rfl
@[simp] theorem Node.modDport_kst (n : Node) (i : Nat) (f : DPort → DPort) : (n.modDport i f).kst = n.kst := rfl
@[simp] theorem Node.modDport_refs (n : Node) (i : Nat) (f : DPort → DPort) : (n.modDport i f).refs = n.refs := rfl
@[simp] theorem Node.modDport_monitors (n : Node) (i : Nat) (f : DPort → DPort) : (n.modDport i f).monitors = n.monitors := rfl
@[simp] theorem Node.modDport_outs (n : Node) (i : Nat) (f : DPort → DPort) : (n.modDport i f).outs = n.outs := rfl
@[simp] theorem Node.modDport_escInst (n : Node) (i : Nat) (f : DPort → DPort) : (n.modDport i f).escInst = n.escInst := rfl
@[simp] theorem Node.modDport_heads (n : Node) (i : Nat) (f : DPort → DPort) : (n.modDport i f).heads = n.heads := rfl
@[simp] theorem Node.modDport_lead (n : Node) (i : Nat) (f : DPort → DPort) : (n.modDport i f).lead = n.lead := rfl
@[simp] theorem Node.modDport_htal (n : Node) (i : Nat) (f : DPort → DPort) : (n.modDport i f).htal = n.htal := rfl
@[simp] theorem Node.modDport_engines (n : Node) (i : Nat) (f : DPort → DPort) : (n.modDport i f).engines = n.engines := rfl
@[simp] theorem Node.modDport_trails (n : Node) (i : Nat) (f : DPort → DPort) : (n.modDport i f).trails = n.trails := rfl
@[simp] theorem Node.modDport_jhub (n : Node) (i : Nat) (f : DPort → DPort) : (n.modDport i f).jhub = n.jhub := rfl
@[simp] theorem Node.modDport_replay (n : Node) (i : Nat) (f : DPort → DPort) : (n.modDport i f).replay = n.replay := rfl
@[simp] theorem Node.modDport_spans (n : Node) (i : Nat) (f : DPort → DPort) : (n.modDport i f).spans = n.spans := rfl
@[simp] theorem Node.modDport_grants (n : Node) (i : Nat) (f : DPort → DPort) : (n.modDport i f).grants = n.grants := rfl
@[simp] theorem Node.modDport_access (n : Node) (i : Nat) (f : DPort → DPort) : (n.modDport i f).access = n.access := rfl
@[simp] theorem Node.modDport_hpwr (n : Node) (i : Nat) (f : DPort → DPort) : (n.modDport i f).hpwr = n.hpwr := rfl

/-! ### `modTnode` -/

@[simp] theorem Node.modTnode_kind (n : Node) (f : TimeNode → TimeNode) : (n.modTnode f).kind = n.kind := rfl
@[simp] theorem Node.modTnode_plane (n : Node) (f : TimeNode → TimeNode) : (n.modTnode f).plane = n.plane := rfl
@[simp] theorem Node.modTnode_level (n : Node) (f : TimeNode → TimeNode) : (n.modTnode f).level = n.level := rfl
@[simp] theorem Node.modTnode_arch (n : Node) (f : TimeNode → TimeNode) : (n.modTnode f).arch = n.arch := rfl
@[simp] theorem Node.modTnode_pier (n : Node) (f : TimeNode → TimeNode) : (n.modTnode f).pier = n.pier := rfl
@[simp] theorem Node.modTnode_threeLevel (n : Node) (f : TimeNode → TimeNode) : (n.modTnode f).threeLevel = n.threeLevel := rfl
@[simp] theorem Node.modTnode_tb1 (n : Node) (f : TimeNode → TimeNode) : (n.modTnode f).tb1 = n.tb1 := rfl
@[simp] theorem Node.modTnode_fresh (n : Node) (f : TimeNode → TimeNode) : (n.modTnode f).fresh = n.fresh := rfl
@[simp] theorem Node.modTnode_objs (n : Node) (f : TimeNode → TimeNode) : (n.modTnode f).objs = n.objs := rfl
@[simp] theorem Node.modTnode_deferred (n : Node) (f : TimeNode → TimeNode) : (n.modTnode f).deferred = n.deferred := rfl
@[simp] theorem Node.modTnode_log (n : Node) (f : TimeNode → TimeNode) : (n.modTnode f).log = n.log := rfl
@[simp] theorem Node.modTnode_lineLow (n : Node) (f : TimeNode → TimeNode) : (n.modTnode f).lineLow = n.lineLow := rfl
@[simp] theorem Node.modTnode_seen (n : Node) (f : TimeNode → TimeNode) : (n.modTnode f).seen = n.seen := rfl
@[simp] theorem Node.modTnode_fwd (n : Node) (f : TimeNode → TimeNode) : (n.modTnode f).fwd = n.fwd := rfl
@[simp] theorem Node.modTnode_links (n : Node) (f : TimeNode → TimeNode) : (n.modTnode f).links = n.links := rfl
@[simp] theorem Node.modTnode_tnode (n : Node) (f : TimeNode → TimeNode) : (n.modTnode f).tnode = f n.tnode := rfl
@[simp] theorem Node.modTnode_tports (n : Node) (f : TimeNode → TimeNode) : (n.modTnode f).tports = n.tports := rfl
@[simp] theorem Node.modTnode_chans (n : Node) (f : TimeNode → TimeNode) : (n.modTnode f).chans = n.chans := rfl
@[simp] theorem Node.modTnode_evins (n : Node) (f : TimeNode → TimeNode) : (n.modTnode f).evins = n.evins := rfl
@[simp] theorem Node.modTnode_mslots (n : Node) (f : TimeNode → TimeNode) : (n.modTnode f).mslots = n.mslots := rfl
@[simp] theorem Node.modTnode_regrs (n : Node) (f : TimeNode → TimeNode) : (n.modTnode f).regrs = n.regrs := rfl
@[simp] theorem Node.modTnode_routes (n : Node) (f : TimeNode → TimeNode) : (n.modTnode f).routes = n.routes := rfl
@[simp] theorem Node.modTnode_answers (n : Node) (f : TimeNode → TimeNode) : (n.modTnode f).answers = n.answers := rfl
@[simp] theorem Node.modTnode_census (n : Node) (f : TimeNode → TimeNode) : (n.modTnode f).census = n.census := rfl
@[simp] theorem Node.modTnode_start (n : Node) (f : TimeNode → TimeNode) : (n.modTnode f).start = n.start := rfl
@[simp] theorem Node.modTnode_bases (n : Node) (f : TimeNode → TimeNode) : (n.modTnode f).bases = n.bases := rfl
@[simp] theorem Node.modTnode_hall (n : Node) (f : TimeNode → TimeNode) : (n.modTnode f).hall = n.hall := rfl
@[simp] theorem Node.modTnode_caps (n : Node) (f : TimeNode → TimeNode) : (n.modTnode f).caps = n.caps := rfl
@[simp] theorem Node.modTnode_pulses (n : Node) (f : TimeNode → TimeNode) : (n.modTnode f).pulses = n.pulses := rfl
@[simp] theorem Node.modTnode_bus (n : Node) (f : TimeNode → TimeNode) : (n.modTnode f).bus = n.bus := rfl
@[simp] theorem Node.modTnode_agents (n : Node) (f : TimeNode → TimeNode) : (n.modTnode f).agents = n.agents := rfl
@[simp] theorem Node.modTnode_cells (n : Node) (f : TimeNode → TimeNode) : (n.modTnode f).cells = n.cells := rfl
@[simp] theorem Node.modTnode_tslots (n : Node) (f : TimeNode → TimeNode) : (n.modTnode f).tslots = n.tslots := rfl
@[simp] theorem Node.modTnode_ctxs (n : Node) (f : TimeNode → TimeNode) : (n.modTnode f).ctxs = n.ctxs := rfl
@[simp] theorem Node.modTnode_clr (n : Node) (f : TimeNode → TimeNode) : (n.modTnode f).clr = n.clr := rfl
@[simp] theorem Node.modTnode_tally (n : Node) (f : TimeNode → TimeNode) : (n.modTnode f).tally = n.tally := rfl
@[simp] theorem Node.modTnode_mint (n : Node) (f : TimeNode → TimeNode) : (n.modTnode f).mint = n.mint := rfl
@[simp] theorem Node.modTnode_jrnl (n : Node) (f : TimeNode → TimeNode) : (n.modTnode f).jrnl = n.jrnl := rfl
@[simp] theorem Node.modTnode_key (n : Node) (f : TimeNode → TimeNode) : (n.modTnode f).key = n.key := rfl
@[simp] theorem Node.modTnode_regions (n : Node) (f : TimeNode → TimeNode) : (n.modTnode f).regions = n.regions := rfl
@[simp] theorem Node.modTnode_vault (n : Node) (f : TimeNode → TimeNode) : (n.modTnode f).vault = n.vault := rfl
@[simp] theorem Node.modTnode_kst (n : Node) (f : TimeNode → TimeNode) : (n.modTnode f).kst = n.kst := rfl
@[simp] theorem Node.modTnode_refs (n : Node) (f : TimeNode → TimeNode) : (n.modTnode f).refs = n.refs := rfl
@[simp] theorem Node.modTnode_monitors (n : Node) (f : TimeNode → TimeNode) : (n.modTnode f).monitors = n.monitors := rfl
@[simp] theorem Node.modTnode_outs (n : Node) (f : TimeNode → TimeNode) : (n.modTnode f).outs = n.outs := rfl
@[simp] theorem Node.modTnode_escInst (n : Node) (f : TimeNode → TimeNode) : (n.modTnode f).escInst = n.escInst := rfl
@[simp] theorem Node.modTnode_heads (n : Node) (f : TimeNode → TimeNode) : (n.modTnode f).heads = n.heads := rfl
@[simp] theorem Node.modTnode_lead (n : Node) (f : TimeNode → TimeNode) : (n.modTnode f).lead = n.lead := rfl
@[simp] theorem Node.modTnode_htal (n : Node) (f : TimeNode → TimeNode) : (n.modTnode f).htal = n.htal := rfl
@[simp] theorem Node.modTnode_engines (n : Node) (f : TimeNode → TimeNode) : (n.modTnode f).engines = n.engines := rfl
@[simp] theorem Node.modTnode_trails (n : Node) (f : TimeNode → TimeNode) : (n.modTnode f).trails = n.trails := rfl
@[simp] theorem Node.modTnode_jhub (n : Node) (f : TimeNode → TimeNode) : (n.modTnode f).jhub = n.jhub := rfl
@[simp] theorem Node.modTnode_replay (n : Node) (f : TimeNode → TimeNode) : (n.modTnode f).replay = n.replay := rfl
@[simp] theorem Node.modTnode_spans (n : Node) (f : TimeNode → TimeNode) : (n.modTnode f).spans = n.spans := rfl
@[simp] theorem Node.modTnode_dports (n : Node) (f : TimeNode → TimeNode) : (n.modTnode f).dports = n.dports := rfl
@[simp] theorem Node.modTnode_grants (n : Node) (f : TimeNode → TimeNode) : (n.modTnode f).grants = n.grants := rfl
@[simp] theorem Node.modTnode_access (n : Node) (f : TimeNode → TimeNode) : (n.modTnode f).access = n.access := rfl
@[simp] theorem Node.modTnode_hpwr (n : Node) (f : TimeNode → TimeNode) : (n.modTnode f).hpwr = n.hpwr := rfl

/-! ### `modCensus` -/

@[simp] theorem Node.modCensus_kind (n : Node) (f : CensusSt → CensusSt) : (n.modCensus f).kind = n.kind := rfl
@[simp] theorem Node.modCensus_plane (n : Node) (f : CensusSt → CensusSt) : (n.modCensus f).plane = n.plane := rfl
@[simp] theorem Node.modCensus_level (n : Node) (f : CensusSt → CensusSt) : (n.modCensus f).level = n.level := rfl
@[simp] theorem Node.modCensus_arch (n : Node) (f : CensusSt → CensusSt) : (n.modCensus f).arch = n.arch := rfl
@[simp] theorem Node.modCensus_pier (n : Node) (f : CensusSt → CensusSt) : (n.modCensus f).pier = n.pier := rfl
@[simp] theorem Node.modCensus_threeLevel (n : Node) (f : CensusSt → CensusSt) : (n.modCensus f).threeLevel = n.threeLevel := rfl
@[simp] theorem Node.modCensus_tb1 (n : Node) (f : CensusSt → CensusSt) : (n.modCensus f).tb1 = n.tb1 := rfl
@[simp] theorem Node.modCensus_fresh (n : Node) (f : CensusSt → CensusSt) : (n.modCensus f).fresh = n.fresh := rfl
@[simp] theorem Node.modCensus_objs (n : Node) (f : CensusSt → CensusSt) : (n.modCensus f).objs = n.objs := rfl
@[simp] theorem Node.modCensus_deferred (n : Node) (f : CensusSt → CensusSt) : (n.modCensus f).deferred = n.deferred := rfl
@[simp] theorem Node.modCensus_log (n : Node) (f : CensusSt → CensusSt) : (n.modCensus f).log = n.log := rfl
@[simp] theorem Node.modCensus_lineLow (n : Node) (f : CensusSt → CensusSt) : (n.modCensus f).lineLow = n.lineLow := rfl
@[simp] theorem Node.modCensus_seen (n : Node) (f : CensusSt → CensusSt) : (n.modCensus f).seen = n.seen := rfl
@[simp] theorem Node.modCensus_fwd (n : Node) (f : CensusSt → CensusSt) : (n.modCensus f).fwd = n.fwd := rfl
@[simp] theorem Node.modCensus_links (n : Node) (f : CensusSt → CensusSt) : (n.modCensus f).links = n.links := rfl
@[simp] theorem Node.modCensus_tnode (n : Node) (f : CensusSt → CensusSt) : (n.modCensus f).tnode = n.tnode := rfl
@[simp] theorem Node.modCensus_tports (n : Node) (f : CensusSt → CensusSt) : (n.modCensus f).tports = n.tports := rfl
@[simp] theorem Node.modCensus_chans (n : Node) (f : CensusSt → CensusSt) : (n.modCensus f).chans = n.chans := rfl
@[simp] theorem Node.modCensus_evins (n : Node) (f : CensusSt → CensusSt) : (n.modCensus f).evins = n.evins := rfl
@[simp] theorem Node.modCensus_mslots (n : Node) (f : CensusSt → CensusSt) : (n.modCensus f).mslots = n.mslots := rfl
@[simp] theorem Node.modCensus_regrs (n : Node) (f : CensusSt → CensusSt) : (n.modCensus f).regrs = n.regrs := rfl
@[simp] theorem Node.modCensus_routes (n : Node) (f : CensusSt → CensusSt) : (n.modCensus f).routes = n.routes := rfl
@[simp] theorem Node.modCensus_answers (n : Node) (f : CensusSt → CensusSt) : (n.modCensus f).answers = n.answers := rfl
@[simp] theorem Node.modCensus_census (n : Node) (f : CensusSt → CensusSt) : (n.modCensus f).census = f n.census := rfl
@[simp] theorem Node.modCensus_start (n : Node) (f : CensusSt → CensusSt) : (n.modCensus f).start = n.start := rfl
@[simp] theorem Node.modCensus_bases (n : Node) (f : CensusSt → CensusSt) : (n.modCensus f).bases = n.bases := rfl
@[simp] theorem Node.modCensus_hall (n : Node) (f : CensusSt → CensusSt) : (n.modCensus f).hall = n.hall := rfl
@[simp] theorem Node.modCensus_caps (n : Node) (f : CensusSt → CensusSt) : (n.modCensus f).caps = n.caps := rfl
@[simp] theorem Node.modCensus_pulses (n : Node) (f : CensusSt → CensusSt) : (n.modCensus f).pulses = n.pulses := rfl
@[simp] theorem Node.modCensus_bus (n : Node) (f : CensusSt → CensusSt) : (n.modCensus f).bus = n.bus := rfl
@[simp] theorem Node.modCensus_agents (n : Node) (f : CensusSt → CensusSt) : (n.modCensus f).agents = n.agents := rfl
@[simp] theorem Node.modCensus_cells (n : Node) (f : CensusSt → CensusSt) : (n.modCensus f).cells = n.cells := rfl
@[simp] theorem Node.modCensus_tslots (n : Node) (f : CensusSt → CensusSt) : (n.modCensus f).tslots = n.tslots := rfl
@[simp] theorem Node.modCensus_ctxs (n : Node) (f : CensusSt → CensusSt) : (n.modCensus f).ctxs = n.ctxs := rfl
@[simp] theorem Node.modCensus_clr (n : Node) (f : CensusSt → CensusSt) : (n.modCensus f).clr = n.clr := rfl
@[simp] theorem Node.modCensus_tally (n : Node) (f : CensusSt → CensusSt) : (n.modCensus f).tally = n.tally := rfl
@[simp] theorem Node.modCensus_mint (n : Node) (f : CensusSt → CensusSt) : (n.modCensus f).mint = n.mint := rfl
@[simp] theorem Node.modCensus_jrnl (n : Node) (f : CensusSt → CensusSt) : (n.modCensus f).jrnl = n.jrnl := rfl
@[simp] theorem Node.modCensus_key (n : Node) (f : CensusSt → CensusSt) : (n.modCensus f).key = n.key := rfl
@[simp] theorem Node.modCensus_regions (n : Node) (f : CensusSt → CensusSt) : (n.modCensus f).regions = n.regions := rfl
@[simp] theorem Node.modCensus_vault (n : Node) (f : CensusSt → CensusSt) : (n.modCensus f).vault = n.vault := rfl
@[simp] theorem Node.modCensus_kst (n : Node) (f : CensusSt → CensusSt) : (n.modCensus f).kst = n.kst := rfl
@[simp] theorem Node.modCensus_refs (n : Node) (f : CensusSt → CensusSt) : (n.modCensus f).refs = n.refs := rfl
@[simp] theorem Node.modCensus_monitors (n : Node) (f : CensusSt → CensusSt) : (n.modCensus f).monitors = n.monitors := rfl
@[simp] theorem Node.modCensus_outs (n : Node) (f : CensusSt → CensusSt) : (n.modCensus f).outs = n.outs := rfl
@[simp] theorem Node.modCensus_escInst (n : Node) (f : CensusSt → CensusSt) : (n.modCensus f).escInst = n.escInst := rfl
@[simp] theorem Node.modCensus_heads (n : Node) (f : CensusSt → CensusSt) : (n.modCensus f).heads = n.heads := rfl
@[simp] theorem Node.modCensus_lead (n : Node) (f : CensusSt → CensusSt) : (n.modCensus f).lead = n.lead := rfl
@[simp] theorem Node.modCensus_htal (n : Node) (f : CensusSt → CensusSt) : (n.modCensus f).htal = n.htal := rfl
@[simp] theorem Node.modCensus_engines (n : Node) (f : CensusSt → CensusSt) : (n.modCensus f).engines = n.engines := rfl
@[simp] theorem Node.modCensus_trails (n : Node) (f : CensusSt → CensusSt) : (n.modCensus f).trails = n.trails := rfl
@[simp] theorem Node.modCensus_jhub (n : Node) (f : CensusSt → CensusSt) : (n.modCensus f).jhub = n.jhub := rfl
@[simp] theorem Node.modCensus_replay (n : Node) (f : CensusSt → CensusSt) : (n.modCensus f).replay = n.replay := rfl
@[simp] theorem Node.modCensus_spans (n : Node) (f : CensusSt → CensusSt) : (n.modCensus f).spans = n.spans := rfl
@[simp] theorem Node.modCensus_dports (n : Node) (f : CensusSt → CensusSt) : (n.modCensus f).dports = n.dports := rfl
@[simp] theorem Node.modCensus_grants (n : Node) (f : CensusSt → CensusSt) : (n.modCensus f).grants = n.grants := rfl
@[simp] theorem Node.modCensus_access (n : Node) (f : CensusSt → CensusSt) : (n.modCensus f).access = n.access := rfl
@[simp] theorem Node.modCensus_hpwr (n : Node) (f : CensusSt → CensusSt) : (n.modCensus f).hpwr = n.hpwr := rfl

/-! ### `modStart` -/

@[simp] theorem Node.modStart_kind (n : Node) (f : StartSt → StartSt) : (n.modStart f).kind = n.kind := rfl
@[simp] theorem Node.modStart_plane (n : Node) (f : StartSt → StartSt) : (n.modStart f).plane = n.plane := rfl
@[simp] theorem Node.modStart_level (n : Node) (f : StartSt → StartSt) : (n.modStart f).level = n.level := rfl
@[simp] theorem Node.modStart_arch (n : Node) (f : StartSt → StartSt) : (n.modStart f).arch = n.arch := rfl
@[simp] theorem Node.modStart_pier (n : Node) (f : StartSt → StartSt) : (n.modStart f).pier = n.pier := rfl
@[simp] theorem Node.modStart_threeLevel (n : Node) (f : StartSt → StartSt) : (n.modStart f).threeLevel = n.threeLevel := rfl
@[simp] theorem Node.modStart_tb1 (n : Node) (f : StartSt → StartSt) : (n.modStart f).tb1 = n.tb1 := rfl
@[simp] theorem Node.modStart_fresh (n : Node) (f : StartSt → StartSt) : (n.modStart f).fresh = n.fresh := rfl
@[simp] theorem Node.modStart_objs (n : Node) (f : StartSt → StartSt) : (n.modStart f).objs = n.objs := rfl
@[simp] theorem Node.modStart_deferred (n : Node) (f : StartSt → StartSt) : (n.modStart f).deferred = n.deferred := rfl
@[simp] theorem Node.modStart_log (n : Node) (f : StartSt → StartSt) : (n.modStart f).log = n.log := rfl
@[simp] theorem Node.modStart_lineLow (n : Node) (f : StartSt → StartSt) : (n.modStart f).lineLow = n.lineLow := rfl
@[simp] theorem Node.modStart_seen (n : Node) (f : StartSt → StartSt) : (n.modStart f).seen = n.seen := rfl
@[simp] theorem Node.modStart_fwd (n : Node) (f : StartSt → StartSt) : (n.modStart f).fwd = n.fwd := rfl
@[simp] theorem Node.modStart_links (n : Node) (f : StartSt → StartSt) : (n.modStart f).links = n.links := rfl
@[simp] theorem Node.modStart_tnode (n : Node) (f : StartSt → StartSt) : (n.modStart f).tnode = n.tnode := rfl
@[simp] theorem Node.modStart_tports (n : Node) (f : StartSt → StartSt) : (n.modStart f).tports = n.tports := rfl
@[simp] theorem Node.modStart_chans (n : Node) (f : StartSt → StartSt) : (n.modStart f).chans = n.chans := rfl
@[simp] theorem Node.modStart_evins (n : Node) (f : StartSt → StartSt) : (n.modStart f).evins = n.evins := rfl
@[simp] theorem Node.modStart_mslots (n : Node) (f : StartSt → StartSt) : (n.modStart f).mslots = n.mslots := rfl
@[simp] theorem Node.modStart_regrs (n : Node) (f : StartSt → StartSt) : (n.modStart f).regrs = n.regrs := rfl
@[simp] theorem Node.modStart_routes (n : Node) (f : StartSt → StartSt) : (n.modStart f).routes = n.routes := rfl
@[simp] theorem Node.modStart_answers (n : Node) (f : StartSt → StartSt) : (n.modStart f).answers = n.answers := rfl
@[simp] theorem Node.modStart_census (n : Node) (f : StartSt → StartSt) : (n.modStart f).census = n.census := rfl
@[simp] theorem Node.modStart_start (n : Node) (f : StartSt → StartSt) : (n.modStart f).start = f n.start := rfl
@[simp] theorem Node.modStart_bases (n : Node) (f : StartSt → StartSt) : (n.modStart f).bases = n.bases := rfl
@[simp] theorem Node.modStart_hall (n : Node) (f : StartSt → StartSt) : (n.modStart f).hall = n.hall := rfl
@[simp] theorem Node.modStart_caps (n : Node) (f : StartSt → StartSt) : (n.modStart f).caps = n.caps := rfl
@[simp] theorem Node.modStart_pulses (n : Node) (f : StartSt → StartSt) : (n.modStart f).pulses = n.pulses := rfl
@[simp] theorem Node.modStart_bus (n : Node) (f : StartSt → StartSt) : (n.modStart f).bus = n.bus := rfl
@[simp] theorem Node.modStart_agents (n : Node) (f : StartSt → StartSt) : (n.modStart f).agents = n.agents := rfl
@[simp] theorem Node.modStart_cells (n : Node) (f : StartSt → StartSt) : (n.modStart f).cells = n.cells := rfl
@[simp] theorem Node.modStart_tslots (n : Node) (f : StartSt → StartSt) : (n.modStart f).tslots = n.tslots := rfl
@[simp] theorem Node.modStart_ctxs (n : Node) (f : StartSt → StartSt) : (n.modStart f).ctxs = n.ctxs := rfl
@[simp] theorem Node.modStart_clr (n : Node) (f : StartSt → StartSt) : (n.modStart f).clr = n.clr := rfl
@[simp] theorem Node.modStart_tally (n : Node) (f : StartSt → StartSt) : (n.modStart f).tally = n.tally := rfl
@[simp] theorem Node.modStart_mint (n : Node) (f : StartSt → StartSt) : (n.modStart f).mint = n.mint := rfl
@[simp] theorem Node.modStart_jrnl (n : Node) (f : StartSt → StartSt) : (n.modStart f).jrnl = n.jrnl := rfl
@[simp] theorem Node.modStart_key (n : Node) (f : StartSt → StartSt) : (n.modStart f).key = n.key := rfl
@[simp] theorem Node.modStart_regions (n : Node) (f : StartSt → StartSt) : (n.modStart f).regions = n.regions := rfl
@[simp] theorem Node.modStart_vault (n : Node) (f : StartSt → StartSt) : (n.modStart f).vault = n.vault := rfl
@[simp] theorem Node.modStart_kst (n : Node) (f : StartSt → StartSt) : (n.modStart f).kst = n.kst := rfl
@[simp] theorem Node.modStart_refs (n : Node) (f : StartSt → StartSt) : (n.modStart f).refs = n.refs := rfl
@[simp] theorem Node.modStart_monitors (n : Node) (f : StartSt → StartSt) : (n.modStart f).monitors = n.monitors := rfl
@[simp] theorem Node.modStart_outs (n : Node) (f : StartSt → StartSt) : (n.modStart f).outs = n.outs := rfl
@[simp] theorem Node.modStart_escInst (n : Node) (f : StartSt → StartSt) : (n.modStart f).escInst = n.escInst := rfl
@[simp] theorem Node.modStart_heads (n : Node) (f : StartSt → StartSt) : (n.modStart f).heads = n.heads := rfl
@[simp] theorem Node.modStart_lead (n : Node) (f : StartSt → StartSt) : (n.modStart f).lead = n.lead := rfl
@[simp] theorem Node.modStart_htal (n : Node) (f : StartSt → StartSt) : (n.modStart f).htal = n.htal := rfl
@[simp] theorem Node.modStart_engines (n : Node) (f : StartSt → StartSt) : (n.modStart f).engines = n.engines := rfl
@[simp] theorem Node.modStart_trails (n : Node) (f : StartSt → StartSt) : (n.modStart f).trails = n.trails := rfl
@[simp] theorem Node.modStart_jhub (n : Node) (f : StartSt → StartSt) : (n.modStart f).jhub = n.jhub := rfl
@[simp] theorem Node.modStart_replay (n : Node) (f : StartSt → StartSt) : (n.modStart f).replay = n.replay := rfl
@[simp] theorem Node.modStart_spans (n : Node) (f : StartSt → StartSt) : (n.modStart f).spans = n.spans := rfl
@[simp] theorem Node.modStart_dports (n : Node) (f : StartSt → StartSt) : (n.modStart f).dports = n.dports := rfl
@[simp] theorem Node.modStart_grants (n : Node) (f : StartSt → StartSt) : (n.modStart f).grants = n.grants := rfl
@[simp] theorem Node.modStart_access (n : Node) (f : StartSt → StartSt) : (n.modStart f).access = n.access := rfl
@[simp] theorem Node.modStart_hpwr (n : Node) (f : StartSt → StartSt) : (n.modStart f).hpwr = n.hpwr := rfl

/-! ### `modHall` -/

@[simp] theorem Node.modHall_kind (n : Node) (f : HallSt → HallSt) : (n.modHall f).kind = n.kind := rfl
@[simp] theorem Node.modHall_plane (n : Node) (f : HallSt → HallSt) : (n.modHall f).plane = n.plane := rfl
@[simp] theorem Node.modHall_level (n : Node) (f : HallSt → HallSt) : (n.modHall f).level = n.level := rfl
@[simp] theorem Node.modHall_arch (n : Node) (f : HallSt → HallSt) : (n.modHall f).arch = n.arch := rfl
@[simp] theorem Node.modHall_pier (n : Node) (f : HallSt → HallSt) : (n.modHall f).pier = n.pier := rfl
@[simp] theorem Node.modHall_threeLevel (n : Node) (f : HallSt → HallSt) : (n.modHall f).threeLevel = n.threeLevel := rfl
@[simp] theorem Node.modHall_tb1 (n : Node) (f : HallSt → HallSt) : (n.modHall f).tb1 = n.tb1 := rfl
@[simp] theorem Node.modHall_fresh (n : Node) (f : HallSt → HallSt) : (n.modHall f).fresh = n.fresh := rfl
@[simp] theorem Node.modHall_objs (n : Node) (f : HallSt → HallSt) : (n.modHall f).objs = n.objs := rfl
@[simp] theorem Node.modHall_deferred (n : Node) (f : HallSt → HallSt) : (n.modHall f).deferred = n.deferred := rfl
@[simp] theorem Node.modHall_log (n : Node) (f : HallSt → HallSt) : (n.modHall f).log = n.log := rfl
@[simp] theorem Node.modHall_lineLow (n : Node) (f : HallSt → HallSt) : (n.modHall f).lineLow = n.lineLow := rfl
@[simp] theorem Node.modHall_seen (n : Node) (f : HallSt → HallSt) : (n.modHall f).seen = n.seen := rfl
@[simp] theorem Node.modHall_fwd (n : Node) (f : HallSt → HallSt) : (n.modHall f).fwd = n.fwd := rfl
@[simp] theorem Node.modHall_links (n : Node) (f : HallSt → HallSt) : (n.modHall f).links = n.links := rfl
@[simp] theorem Node.modHall_tnode (n : Node) (f : HallSt → HallSt) : (n.modHall f).tnode = n.tnode := rfl
@[simp] theorem Node.modHall_tports (n : Node) (f : HallSt → HallSt) : (n.modHall f).tports = n.tports := rfl
@[simp] theorem Node.modHall_chans (n : Node) (f : HallSt → HallSt) : (n.modHall f).chans = n.chans := rfl
@[simp] theorem Node.modHall_evins (n : Node) (f : HallSt → HallSt) : (n.modHall f).evins = n.evins := rfl
@[simp] theorem Node.modHall_mslots (n : Node) (f : HallSt → HallSt) : (n.modHall f).mslots = n.mslots := rfl
@[simp] theorem Node.modHall_regrs (n : Node) (f : HallSt → HallSt) : (n.modHall f).regrs = n.regrs := rfl
@[simp] theorem Node.modHall_routes (n : Node) (f : HallSt → HallSt) : (n.modHall f).routes = n.routes := rfl
@[simp] theorem Node.modHall_answers (n : Node) (f : HallSt → HallSt) : (n.modHall f).answers = n.answers := rfl
@[simp] theorem Node.modHall_census (n : Node) (f : HallSt → HallSt) : (n.modHall f).census = n.census := rfl
@[simp] theorem Node.modHall_start (n : Node) (f : HallSt → HallSt) : (n.modHall f).start = n.start := rfl
@[simp] theorem Node.modHall_bases (n : Node) (f : HallSt → HallSt) : (n.modHall f).bases = n.bases := rfl
@[simp] theorem Node.modHall_hall (n : Node) (f : HallSt → HallSt) : (n.modHall f).hall = f n.hall := rfl
@[simp] theorem Node.modHall_caps (n : Node) (f : HallSt → HallSt) : (n.modHall f).caps = n.caps := rfl
@[simp] theorem Node.modHall_pulses (n : Node) (f : HallSt → HallSt) : (n.modHall f).pulses = n.pulses := rfl
@[simp] theorem Node.modHall_bus (n : Node) (f : HallSt → HallSt) : (n.modHall f).bus = n.bus := rfl
@[simp] theorem Node.modHall_agents (n : Node) (f : HallSt → HallSt) : (n.modHall f).agents = n.agents := rfl
@[simp] theorem Node.modHall_cells (n : Node) (f : HallSt → HallSt) : (n.modHall f).cells = n.cells := rfl
@[simp] theorem Node.modHall_tslots (n : Node) (f : HallSt → HallSt) : (n.modHall f).tslots = n.tslots := rfl
@[simp] theorem Node.modHall_ctxs (n : Node) (f : HallSt → HallSt) : (n.modHall f).ctxs = n.ctxs := rfl
@[simp] theorem Node.modHall_clr (n : Node) (f : HallSt → HallSt) : (n.modHall f).clr = n.clr := rfl
@[simp] theorem Node.modHall_tally (n : Node) (f : HallSt → HallSt) : (n.modHall f).tally = n.tally := rfl
@[simp] theorem Node.modHall_mint (n : Node) (f : HallSt → HallSt) : (n.modHall f).mint = n.mint := rfl
@[simp] theorem Node.modHall_jrnl (n : Node) (f : HallSt → HallSt) : (n.modHall f).jrnl = n.jrnl := rfl
@[simp] theorem Node.modHall_key (n : Node) (f : HallSt → HallSt) : (n.modHall f).key = n.key := rfl
@[simp] theorem Node.modHall_regions (n : Node) (f : HallSt → HallSt) : (n.modHall f).regions = n.regions := rfl
@[simp] theorem Node.modHall_vault (n : Node) (f : HallSt → HallSt) : (n.modHall f).vault = n.vault := rfl
@[simp] theorem Node.modHall_kst (n : Node) (f : HallSt → HallSt) : (n.modHall f).kst = n.kst := rfl
@[simp] theorem Node.modHall_refs (n : Node) (f : HallSt → HallSt) : (n.modHall f).refs = n.refs := rfl
@[simp] theorem Node.modHall_monitors (n : Node) (f : HallSt → HallSt) : (n.modHall f).monitors = n.monitors := rfl
@[simp] theorem Node.modHall_outs (n : Node) (f : HallSt → HallSt) : (n.modHall f).outs = n.outs := rfl
@[simp] theorem Node.modHall_escInst (n : Node) (f : HallSt → HallSt) : (n.modHall f).escInst = n.escInst := rfl
@[simp] theorem Node.modHall_heads (n : Node) (f : HallSt → HallSt) : (n.modHall f).heads = n.heads := rfl
@[simp] theorem Node.modHall_lead (n : Node) (f : HallSt → HallSt) : (n.modHall f).lead = n.lead := rfl
@[simp] theorem Node.modHall_htal (n : Node) (f : HallSt → HallSt) : (n.modHall f).htal = n.htal := rfl
@[simp] theorem Node.modHall_engines (n : Node) (f : HallSt → HallSt) : (n.modHall f).engines = n.engines := rfl
@[simp] theorem Node.modHall_trails (n : Node) (f : HallSt → HallSt) : (n.modHall f).trails = n.trails := rfl
@[simp] theorem Node.modHall_jhub (n : Node) (f : HallSt → HallSt) : (n.modHall f).jhub = n.jhub := rfl
@[simp] theorem Node.modHall_replay (n : Node) (f : HallSt → HallSt) : (n.modHall f).replay = n.replay := rfl
@[simp] theorem Node.modHall_spans (n : Node) (f : HallSt → HallSt) : (n.modHall f).spans = n.spans := rfl
@[simp] theorem Node.modHall_dports (n : Node) (f : HallSt → HallSt) : (n.modHall f).dports = n.dports := rfl
@[simp] theorem Node.modHall_grants (n : Node) (f : HallSt → HallSt) : (n.modHall f).grants = n.grants := rfl
@[simp] theorem Node.modHall_access (n : Node) (f : HallSt → HallSt) : (n.modHall f).access = n.access := rfl
@[simp] theorem Node.modHall_hpwr (n : Node) (f : HallSt → HallSt) : (n.modHall f).hpwr = n.hpwr := rfl

/-! ### `modBus` -/

@[simp] theorem Node.modBus_kind (n : Node) (f : BusSt → BusSt) : (n.modBus f).kind = n.kind := rfl
@[simp] theorem Node.modBus_plane (n : Node) (f : BusSt → BusSt) : (n.modBus f).plane = n.plane := rfl
@[simp] theorem Node.modBus_level (n : Node) (f : BusSt → BusSt) : (n.modBus f).level = n.level := rfl
@[simp] theorem Node.modBus_arch (n : Node) (f : BusSt → BusSt) : (n.modBus f).arch = n.arch := rfl
@[simp] theorem Node.modBus_pier (n : Node) (f : BusSt → BusSt) : (n.modBus f).pier = n.pier := rfl
@[simp] theorem Node.modBus_threeLevel (n : Node) (f : BusSt → BusSt) : (n.modBus f).threeLevel = n.threeLevel := rfl
@[simp] theorem Node.modBus_tb1 (n : Node) (f : BusSt → BusSt) : (n.modBus f).tb1 = n.tb1 := rfl
@[simp] theorem Node.modBus_fresh (n : Node) (f : BusSt → BusSt) : (n.modBus f).fresh = n.fresh := rfl
@[simp] theorem Node.modBus_objs (n : Node) (f : BusSt → BusSt) : (n.modBus f).objs = n.objs := rfl
@[simp] theorem Node.modBus_deferred (n : Node) (f : BusSt → BusSt) : (n.modBus f).deferred = n.deferred := rfl
@[simp] theorem Node.modBus_log (n : Node) (f : BusSt → BusSt) : (n.modBus f).log = n.log := rfl
@[simp] theorem Node.modBus_lineLow (n : Node) (f : BusSt → BusSt) : (n.modBus f).lineLow = n.lineLow := rfl
@[simp] theorem Node.modBus_seen (n : Node) (f : BusSt → BusSt) : (n.modBus f).seen = n.seen := rfl
@[simp] theorem Node.modBus_fwd (n : Node) (f : BusSt → BusSt) : (n.modBus f).fwd = n.fwd := rfl
@[simp] theorem Node.modBus_links (n : Node) (f : BusSt → BusSt) : (n.modBus f).links = n.links := rfl
@[simp] theorem Node.modBus_tnode (n : Node) (f : BusSt → BusSt) : (n.modBus f).tnode = n.tnode := rfl
@[simp] theorem Node.modBus_tports (n : Node) (f : BusSt → BusSt) : (n.modBus f).tports = n.tports := rfl
@[simp] theorem Node.modBus_chans (n : Node) (f : BusSt → BusSt) : (n.modBus f).chans = n.chans := rfl
@[simp] theorem Node.modBus_evins (n : Node) (f : BusSt → BusSt) : (n.modBus f).evins = n.evins := rfl
@[simp] theorem Node.modBus_mslots (n : Node) (f : BusSt → BusSt) : (n.modBus f).mslots = n.mslots := rfl
@[simp] theorem Node.modBus_regrs (n : Node) (f : BusSt → BusSt) : (n.modBus f).regrs = n.regrs := rfl
@[simp] theorem Node.modBus_routes (n : Node) (f : BusSt → BusSt) : (n.modBus f).routes = n.routes := rfl
@[simp] theorem Node.modBus_answers (n : Node) (f : BusSt → BusSt) : (n.modBus f).answers = n.answers := rfl
@[simp] theorem Node.modBus_census (n : Node) (f : BusSt → BusSt) : (n.modBus f).census = n.census := rfl
@[simp] theorem Node.modBus_start (n : Node) (f : BusSt → BusSt) : (n.modBus f).start = n.start := rfl
@[simp] theorem Node.modBus_bases (n : Node) (f : BusSt → BusSt) : (n.modBus f).bases = n.bases := rfl
@[simp] theorem Node.modBus_hall (n : Node) (f : BusSt → BusSt) : (n.modBus f).hall = n.hall := rfl
@[simp] theorem Node.modBus_caps (n : Node) (f : BusSt → BusSt) : (n.modBus f).caps = n.caps := rfl
@[simp] theorem Node.modBus_pulses (n : Node) (f : BusSt → BusSt) : (n.modBus f).pulses = n.pulses := rfl
@[simp] theorem Node.modBus_bus (n : Node) (f : BusSt → BusSt) : (n.modBus f).bus = f n.bus := rfl
@[simp] theorem Node.modBus_agents (n : Node) (f : BusSt → BusSt) : (n.modBus f).agents = n.agents := rfl
@[simp] theorem Node.modBus_cells (n : Node) (f : BusSt → BusSt) : (n.modBus f).cells = n.cells := rfl
@[simp] theorem Node.modBus_tslots (n : Node) (f : BusSt → BusSt) : (n.modBus f).tslots = n.tslots := rfl
@[simp] theorem Node.modBus_ctxs (n : Node) (f : BusSt → BusSt) : (n.modBus f).ctxs = n.ctxs := rfl
@[simp] theorem Node.modBus_clr (n : Node) (f : BusSt → BusSt) : (n.modBus f).clr = n.clr := rfl
@[simp] theorem Node.modBus_tally (n : Node) (f : BusSt → BusSt) : (n.modBus f).tally = n.tally := rfl
@[simp] theorem Node.modBus_mint (n : Node) (f : BusSt → BusSt) : (n.modBus f).mint = n.mint := rfl
@[simp] theorem Node.modBus_jrnl (n : Node) (f : BusSt → BusSt) : (n.modBus f).jrnl = n.jrnl := rfl
@[simp] theorem Node.modBus_key (n : Node) (f : BusSt → BusSt) : (n.modBus f).key = n.key := rfl
@[simp] theorem Node.modBus_regions (n : Node) (f : BusSt → BusSt) : (n.modBus f).regions = n.regions := rfl
@[simp] theorem Node.modBus_vault (n : Node) (f : BusSt → BusSt) : (n.modBus f).vault = n.vault := rfl
@[simp] theorem Node.modBus_kst (n : Node) (f : BusSt → BusSt) : (n.modBus f).kst = n.kst := rfl
@[simp] theorem Node.modBus_refs (n : Node) (f : BusSt → BusSt) : (n.modBus f).refs = n.refs := rfl
@[simp] theorem Node.modBus_monitors (n : Node) (f : BusSt → BusSt) : (n.modBus f).monitors = n.monitors := rfl
@[simp] theorem Node.modBus_outs (n : Node) (f : BusSt → BusSt) : (n.modBus f).outs = n.outs := rfl
@[simp] theorem Node.modBus_escInst (n : Node) (f : BusSt → BusSt) : (n.modBus f).escInst = n.escInst := rfl
@[simp] theorem Node.modBus_heads (n : Node) (f : BusSt → BusSt) : (n.modBus f).heads = n.heads := rfl
@[simp] theorem Node.modBus_lead (n : Node) (f : BusSt → BusSt) : (n.modBus f).lead = n.lead := rfl
@[simp] theorem Node.modBus_htal (n : Node) (f : BusSt → BusSt) : (n.modBus f).htal = n.htal := rfl
@[simp] theorem Node.modBus_engines (n : Node) (f : BusSt → BusSt) : (n.modBus f).engines = n.engines := rfl
@[simp] theorem Node.modBus_trails (n : Node) (f : BusSt → BusSt) : (n.modBus f).trails = n.trails := rfl
@[simp] theorem Node.modBus_jhub (n : Node) (f : BusSt → BusSt) : (n.modBus f).jhub = n.jhub := rfl
@[simp] theorem Node.modBus_replay (n : Node) (f : BusSt → BusSt) : (n.modBus f).replay = n.replay := rfl
@[simp] theorem Node.modBus_spans (n : Node) (f : BusSt → BusSt) : (n.modBus f).spans = n.spans := rfl
@[simp] theorem Node.modBus_dports (n : Node) (f : BusSt → BusSt) : (n.modBus f).dports = n.dports := rfl
@[simp] theorem Node.modBus_grants (n : Node) (f : BusSt → BusSt) : (n.modBus f).grants = n.grants := rfl
@[simp] theorem Node.modBus_access (n : Node) (f : BusSt → BusSt) : (n.modBus f).access = n.access := rfl
@[simp] theorem Node.modBus_hpwr (n : Node) (f : BusSt → BusSt) : (n.modBus f).hpwr = n.hpwr := rfl

/-! ### `modClr` -/

@[simp] theorem Node.modClr_kind (n : Node) (f : ClearSt → ClearSt) : (n.modClr f).kind = n.kind := rfl
@[simp] theorem Node.modClr_plane (n : Node) (f : ClearSt → ClearSt) : (n.modClr f).plane = n.plane := rfl
@[simp] theorem Node.modClr_level (n : Node) (f : ClearSt → ClearSt) : (n.modClr f).level = n.level := rfl
@[simp] theorem Node.modClr_arch (n : Node) (f : ClearSt → ClearSt) : (n.modClr f).arch = n.arch := rfl
@[simp] theorem Node.modClr_pier (n : Node) (f : ClearSt → ClearSt) : (n.modClr f).pier = n.pier := rfl
@[simp] theorem Node.modClr_threeLevel (n : Node) (f : ClearSt → ClearSt) : (n.modClr f).threeLevel = n.threeLevel := rfl
@[simp] theorem Node.modClr_tb1 (n : Node) (f : ClearSt → ClearSt) : (n.modClr f).tb1 = n.tb1 := rfl
@[simp] theorem Node.modClr_fresh (n : Node) (f : ClearSt → ClearSt) : (n.modClr f).fresh = n.fresh := rfl
@[simp] theorem Node.modClr_objs (n : Node) (f : ClearSt → ClearSt) : (n.modClr f).objs = n.objs := rfl
@[simp] theorem Node.modClr_deferred (n : Node) (f : ClearSt → ClearSt) : (n.modClr f).deferred = n.deferred := rfl
@[simp] theorem Node.modClr_log (n : Node) (f : ClearSt → ClearSt) : (n.modClr f).log = n.log := rfl
@[simp] theorem Node.modClr_lineLow (n : Node) (f : ClearSt → ClearSt) : (n.modClr f).lineLow = n.lineLow := rfl
@[simp] theorem Node.modClr_seen (n : Node) (f : ClearSt → ClearSt) : (n.modClr f).seen = n.seen := rfl
@[simp] theorem Node.modClr_fwd (n : Node) (f : ClearSt → ClearSt) : (n.modClr f).fwd = n.fwd := rfl
@[simp] theorem Node.modClr_links (n : Node) (f : ClearSt → ClearSt) : (n.modClr f).links = n.links := rfl
@[simp] theorem Node.modClr_tnode (n : Node) (f : ClearSt → ClearSt) : (n.modClr f).tnode = n.tnode := rfl
@[simp] theorem Node.modClr_tports (n : Node) (f : ClearSt → ClearSt) : (n.modClr f).tports = n.tports := rfl
@[simp] theorem Node.modClr_chans (n : Node) (f : ClearSt → ClearSt) : (n.modClr f).chans = n.chans := rfl
@[simp] theorem Node.modClr_evins (n : Node) (f : ClearSt → ClearSt) : (n.modClr f).evins = n.evins := rfl
@[simp] theorem Node.modClr_mslots (n : Node) (f : ClearSt → ClearSt) : (n.modClr f).mslots = n.mslots := rfl
@[simp] theorem Node.modClr_regrs (n : Node) (f : ClearSt → ClearSt) : (n.modClr f).regrs = n.regrs := rfl
@[simp] theorem Node.modClr_routes (n : Node) (f : ClearSt → ClearSt) : (n.modClr f).routes = n.routes := rfl
@[simp] theorem Node.modClr_answers (n : Node) (f : ClearSt → ClearSt) : (n.modClr f).answers = n.answers := rfl
@[simp] theorem Node.modClr_census (n : Node) (f : ClearSt → ClearSt) : (n.modClr f).census = n.census := rfl
@[simp] theorem Node.modClr_start (n : Node) (f : ClearSt → ClearSt) : (n.modClr f).start = n.start := rfl
@[simp] theorem Node.modClr_bases (n : Node) (f : ClearSt → ClearSt) : (n.modClr f).bases = n.bases := rfl
@[simp] theorem Node.modClr_hall (n : Node) (f : ClearSt → ClearSt) : (n.modClr f).hall = n.hall := rfl
@[simp] theorem Node.modClr_caps (n : Node) (f : ClearSt → ClearSt) : (n.modClr f).caps = n.caps := rfl
@[simp] theorem Node.modClr_pulses (n : Node) (f : ClearSt → ClearSt) : (n.modClr f).pulses = n.pulses := rfl
@[simp] theorem Node.modClr_bus (n : Node) (f : ClearSt → ClearSt) : (n.modClr f).bus = n.bus := rfl
@[simp] theorem Node.modClr_agents (n : Node) (f : ClearSt → ClearSt) : (n.modClr f).agents = n.agents := rfl
@[simp] theorem Node.modClr_cells (n : Node) (f : ClearSt → ClearSt) : (n.modClr f).cells = n.cells := rfl
@[simp] theorem Node.modClr_tslots (n : Node) (f : ClearSt → ClearSt) : (n.modClr f).tslots = n.tslots := rfl
@[simp] theorem Node.modClr_ctxs (n : Node) (f : ClearSt → ClearSt) : (n.modClr f).ctxs = n.ctxs := rfl
@[simp] theorem Node.modClr_clr (n : Node) (f : ClearSt → ClearSt) : (n.modClr f).clr = f n.clr := rfl
@[simp] theorem Node.modClr_tally (n : Node) (f : ClearSt → ClearSt) : (n.modClr f).tally = n.tally := rfl
@[simp] theorem Node.modClr_mint (n : Node) (f : ClearSt → ClearSt) : (n.modClr f).mint = n.mint := rfl
@[simp] theorem Node.modClr_jrnl (n : Node) (f : ClearSt → ClearSt) : (n.modClr f).jrnl = n.jrnl := rfl
@[simp] theorem Node.modClr_key (n : Node) (f : ClearSt → ClearSt) : (n.modClr f).key = n.key := rfl
@[simp] theorem Node.modClr_regions (n : Node) (f : ClearSt → ClearSt) : (n.modClr f).regions = n.regions := rfl
@[simp] theorem Node.modClr_vault (n : Node) (f : ClearSt → ClearSt) : (n.modClr f).vault = n.vault := rfl
@[simp] theorem Node.modClr_kst (n : Node) (f : ClearSt → ClearSt) : (n.modClr f).kst = n.kst := rfl
@[simp] theorem Node.modClr_refs (n : Node) (f : ClearSt → ClearSt) : (n.modClr f).refs = n.refs := rfl
@[simp] theorem Node.modClr_monitors (n : Node) (f : ClearSt → ClearSt) : (n.modClr f).monitors = n.monitors := rfl
@[simp] theorem Node.modClr_outs (n : Node) (f : ClearSt → ClearSt) : (n.modClr f).outs = n.outs := rfl
@[simp] theorem Node.modClr_escInst (n : Node) (f : ClearSt → ClearSt) : (n.modClr f).escInst = n.escInst := rfl
@[simp] theorem Node.modClr_heads (n : Node) (f : ClearSt → ClearSt) : (n.modClr f).heads = n.heads := rfl
@[simp] theorem Node.modClr_lead (n : Node) (f : ClearSt → ClearSt) : (n.modClr f).lead = n.lead := rfl
@[simp] theorem Node.modClr_htal (n : Node) (f : ClearSt → ClearSt) : (n.modClr f).htal = n.htal := rfl
@[simp] theorem Node.modClr_engines (n : Node) (f : ClearSt → ClearSt) : (n.modClr f).engines = n.engines := rfl
@[simp] theorem Node.modClr_trails (n : Node) (f : ClearSt → ClearSt) : (n.modClr f).trails = n.trails := rfl
@[simp] theorem Node.modClr_jhub (n : Node) (f : ClearSt → ClearSt) : (n.modClr f).jhub = n.jhub := rfl
@[simp] theorem Node.modClr_replay (n : Node) (f : ClearSt → ClearSt) : (n.modClr f).replay = n.replay := rfl
@[simp] theorem Node.modClr_spans (n : Node) (f : ClearSt → ClearSt) : (n.modClr f).spans = n.spans := rfl
@[simp] theorem Node.modClr_dports (n : Node) (f : ClearSt → ClearSt) : (n.modClr f).dports = n.dports := rfl
@[simp] theorem Node.modClr_grants (n : Node) (f : ClearSt → ClearSt) : (n.modClr f).grants = n.grants := rfl
@[simp] theorem Node.modClr_access (n : Node) (f : ClearSt → ClearSt) : (n.modClr f).access = n.access := rfl
@[simp] theorem Node.modClr_hpwr (n : Node) (f : ClearSt → ClearSt) : (n.modClr f).hpwr = n.hpwr := rfl

/-! ### `modTally` -/

@[simp] theorem Node.modTally_kind (n : Node) (f : TallySt → TallySt) : (n.modTally f).kind = n.kind := rfl
@[simp] theorem Node.modTally_plane (n : Node) (f : TallySt → TallySt) : (n.modTally f).plane = n.plane := rfl
@[simp] theorem Node.modTally_level (n : Node) (f : TallySt → TallySt) : (n.modTally f).level = n.level := rfl
@[simp] theorem Node.modTally_arch (n : Node) (f : TallySt → TallySt) : (n.modTally f).arch = n.arch := rfl
@[simp] theorem Node.modTally_pier (n : Node) (f : TallySt → TallySt) : (n.modTally f).pier = n.pier := rfl
@[simp] theorem Node.modTally_threeLevel (n : Node) (f : TallySt → TallySt) : (n.modTally f).threeLevel = n.threeLevel := rfl
@[simp] theorem Node.modTally_tb1 (n : Node) (f : TallySt → TallySt) : (n.modTally f).tb1 = n.tb1 := rfl
@[simp] theorem Node.modTally_fresh (n : Node) (f : TallySt → TallySt) : (n.modTally f).fresh = n.fresh := rfl
@[simp] theorem Node.modTally_objs (n : Node) (f : TallySt → TallySt) : (n.modTally f).objs = n.objs := rfl
@[simp] theorem Node.modTally_deferred (n : Node) (f : TallySt → TallySt) : (n.modTally f).deferred = n.deferred := rfl
@[simp] theorem Node.modTally_log (n : Node) (f : TallySt → TallySt) : (n.modTally f).log = n.log := rfl
@[simp] theorem Node.modTally_lineLow (n : Node) (f : TallySt → TallySt) : (n.modTally f).lineLow = n.lineLow := rfl
@[simp] theorem Node.modTally_seen (n : Node) (f : TallySt → TallySt) : (n.modTally f).seen = n.seen := rfl
@[simp] theorem Node.modTally_fwd (n : Node) (f : TallySt → TallySt) : (n.modTally f).fwd = n.fwd := rfl
@[simp] theorem Node.modTally_links (n : Node) (f : TallySt → TallySt) : (n.modTally f).links = n.links := rfl
@[simp] theorem Node.modTally_tnode (n : Node) (f : TallySt → TallySt) : (n.modTally f).tnode = n.tnode := rfl
@[simp] theorem Node.modTally_tports (n : Node) (f : TallySt → TallySt) : (n.modTally f).tports = n.tports := rfl
@[simp] theorem Node.modTally_chans (n : Node) (f : TallySt → TallySt) : (n.modTally f).chans = n.chans := rfl
@[simp] theorem Node.modTally_evins (n : Node) (f : TallySt → TallySt) : (n.modTally f).evins = n.evins := rfl
@[simp] theorem Node.modTally_mslots (n : Node) (f : TallySt → TallySt) : (n.modTally f).mslots = n.mslots := rfl
@[simp] theorem Node.modTally_regrs (n : Node) (f : TallySt → TallySt) : (n.modTally f).regrs = n.regrs := rfl
@[simp] theorem Node.modTally_routes (n : Node) (f : TallySt → TallySt) : (n.modTally f).routes = n.routes := rfl
@[simp] theorem Node.modTally_answers (n : Node) (f : TallySt → TallySt) : (n.modTally f).answers = n.answers := rfl
@[simp] theorem Node.modTally_census (n : Node) (f : TallySt → TallySt) : (n.modTally f).census = n.census := rfl
@[simp] theorem Node.modTally_start (n : Node) (f : TallySt → TallySt) : (n.modTally f).start = n.start := rfl
@[simp] theorem Node.modTally_bases (n : Node) (f : TallySt → TallySt) : (n.modTally f).bases = n.bases := rfl
@[simp] theorem Node.modTally_hall (n : Node) (f : TallySt → TallySt) : (n.modTally f).hall = n.hall := rfl
@[simp] theorem Node.modTally_caps (n : Node) (f : TallySt → TallySt) : (n.modTally f).caps = n.caps := rfl
@[simp] theorem Node.modTally_pulses (n : Node) (f : TallySt → TallySt) : (n.modTally f).pulses = n.pulses := rfl
@[simp] theorem Node.modTally_bus (n : Node) (f : TallySt → TallySt) : (n.modTally f).bus = n.bus := rfl
@[simp] theorem Node.modTally_agents (n : Node) (f : TallySt → TallySt) : (n.modTally f).agents = n.agents := rfl
@[simp] theorem Node.modTally_cells (n : Node) (f : TallySt → TallySt) : (n.modTally f).cells = n.cells := rfl
@[simp] theorem Node.modTally_tslots (n : Node) (f : TallySt → TallySt) : (n.modTally f).tslots = n.tslots := rfl
@[simp] theorem Node.modTally_ctxs (n : Node) (f : TallySt → TallySt) : (n.modTally f).ctxs = n.ctxs := rfl
@[simp] theorem Node.modTally_clr (n : Node) (f : TallySt → TallySt) : (n.modTally f).clr = n.clr := rfl
@[simp] theorem Node.modTally_tally (n : Node) (f : TallySt → TallySt) : (n.modTally f).tally = f n.tally := rfl
@[simp] theorem Node.modTally_mint (n : Node) (f : TallySt → TallySt) : (n.modTally f).mint = n.mint := rfl
@[simp] theorem Node.modTally_jrnl (n : Node) (f : TallySt → TallySt) : (n.modTally f).jrnl = n.jrnl := rfl
@[simp] theorem Node.modTally_key (n : Node) (f : TallySt → TallySt) : (n.modTally f).key = n.key := rfl
@[simp] theorem Node.modTally_regions (n : Node) (f : TallySt → TallySt) : (n.modTally f).regions = n.regions := rfl
@[simp] theorem Node.modTally_vault (n : Node) (f : TallySt → TallySt) : (n.modTally f).vault = n.vault := rfl
@[simp] theorem Node.modTally_kst (n : Node) (f : TallySt → TallySt) : (n.modTally f).kst = n.kst := rfl
@[simp] theorem Node.modTally_refs (n : Node) (f : TallySt → TallySt) : (n.modTally f).refs = n.refs := rfl
@[simp] theorem Node.modTally_monitors (n : Node) (f : TallySt → TallySt) : (n.modTally f).monitors = n.monitors := rfl
@[simp] theorem Node.modTally_outs (n : Node) (f : TallySt → TallySt) : (n.modTally f).outs = n.outs := rfl
@[simp] theorem Node.modTally_escInst (n : Node) (f : TallySt → TallySt) : (n.modTally f).escInst = n.escInst := rfl
@[simp] theorem Node.modTally_heads (n : Node) (f : TallySt → TallySt) : (n.modTally f).heads = n.heads := rfl
@[simp] theorem Node.modTally_lead (n : Node) (f : TallySt → TallySt) : (n.modTally f).lead = n.lead := rfl
@[simp] theorem Node.modTally_htal (n : Node) (f : TallySt → TallySt) : (n.modTally f).htal = n.htal := rfl
@[simp] theorem Node.modTally_engines (n : Node) (f : TallySt → TallySt) : (n.modTally f).engines = n.engines := rfl
@[simp] theorem Node.modTally_trails (n : Node) (f : TallySt → TallySt) : (n.modTally f).trails = n.trails := rfl
@[simp] theorem Node.modTally_jhub (n : Node) (f : TallySt → TallySt) : (n.modTally f).jhub = n.jhub := rfl
@[simp] theorem Node.modTally_replay (n : Node) (f : TallySt → TallySt) : (n.modTally f).replay = n.replay := rfl
@[simp] theorem Node.modTally_spans (n : Node) (f : TallySt → TallySt) : (n.modTally f).spans = n.spans := rfl
@[simp] theorem Node.modTally_dports (n : Node) (f : TallySt → TallySt) : (n.modTally f).dports = n.dports := rfl
@[simp] theorem Node.modTally_grants (n : Node) (f : TallySt → TallySt) : (n.modTally f).grants = n.grants := rfl
@[simp] theorem Node.modTally_access (n : Node) (f : TallySt → TallySt) : (n.modTally f).access = n.access := rfl
@[simp] theorem Node.modTally_hpwr (n : Node) (f : TallySt → TallySt) : (n.modTally f).hpwr = n.hpwr := rfl

/-! ### `modMint` -/

@[simp] theorem Node.modMint_kind (n : Node) (f : MintSt → MintSt) : (n.modMint f).kind = n.kind := rfl
@[simp] theorem Node.modMint_plane (n : Node) (f : MintSt → MintSt) : (n.modMint f).plane = n.plane := rfl
@[simp] theorem Node.modMint_level (n : Node) (f : MintSt → MintSt) : (n.modMint f).level = n.level := rfl
@[simp] theorem Node.modMint_arch (n : Node) (f : MintSt → MintSt) : (n.modMint f).arch = n.arch := rfl
@[simp] theorem Node.modMint_pier (n : Node) (f : MintSt → MintSt) : (n.modMint f).pier = n.pier := rfl
@[simp] theorem Node.modMint_threeLevel (n : Node) (f : MintSt → MintSt) : (n.modMint f).threeLevel = n.threeLevel := rfl
@[simp] theorem Node.modMint_tb1 (n : Node) (f : MintSt → MintSt) : (n.modMint f).tb1 = n.tb1 := rfl
@[simp] theorem Node.modMint_fresh (n : Node) (f : MintSt → MintSt) : (n.modMint f).fresh = n.fresh := rfl
@[simp] theorem Node.modMint_objs (n : Node) (f : MintSt → MintSt) : (n.modMint f).objs = n.objs := rfl
@[simp] theorem Node.modMint_deferred (n : Node) (f : MintSt → MintSt) : (n.modMint f).deferred = n.deferred := rfl
@[simp] theorem Node.modMint_log (n : Node) (f : MintSt → MintSt) : (n.modMint f).log = n.log := rfl
@[simp] theorem Node.modMint_lineLow (n : Node) (f : MintSt → MintSt) : (n.modMint f).lineLow = n.lineLow := rfl
@[simp] theorem Node.modMint_seen (n : Node) (f : MintSt → MintSt) : (n.modMint f).seen = n.seen := rfl
@[simp] theorem Node.modMint_fwd (n : Node) (f : MintSt → MintSt) : (n.modMint f).fwd = n.fwd := rfl
@[simp] theorem Node.modMint_links (n : Node) (f : MintSt → MintSt) : (n.modMint f).links = n.links := rfl
@[simp] theorem Node.modMint_tnode (n : Node) (f : MintSt → MintSt) : (n.modMint f).tnode = n.tnode := rfl
@[simp] theorem Node.modMint_tports (n : Node) (f : MintSt → MintSt) : (n.modMint f).tports = n.tports := rfl
@[simp] theorem Node.modMint_chans (n : Node) (f : MintSt → MintSt) : (n.modMint f).chans = n.chans := rfl
@[simp] theorem Node.modMint_evins (n : Node) (f : MintSt → MintSt) : (n.modMint f).evins = n.evins := rfl
@[simp] theorem Node.modMint_mslots (n : Node) (f : MintSt → MintSt) : (n.modMint f).mslots = n.mslots := rfl
@[simp] theorem Node.modMint_regrs (n : Node) (f : MintSt → MintSt) : (n.modMint f).regrs = n.regrs := rfl
@[simp] theorem Node.modMint_routes (n : Node) (f : MintSt → MintSt) : (n.modMint f).routes = n.routes := rfl
@[simp] theorem Node.modMint_answers (n : Node) (f : MintSt → MintSt) : (n.modMint f).answers = n.answers := rfl
@[simp] theorem Node.modMint_census (n : Node) (f : MintSt → MintSt) : (n.modMint f).census = n.census := rfl
@[simp] theorem Node.modMint_start (n : Node) (f : MintSt → MintSt) : (n.modMint f).start = n.start := rfl
@[simp] theorem Node.modMint_bases (n : Node) (f : MintSt → MintSt) : (n.modMint f).bases = n.bases := rfl
@[simp] theorem Node.modMint_hall (n : Node) (f : MintSt → MintSt) : (n.modMint f).hall = n.hall := rfl
@[simp] theorem Node.modMint_caps (n : Node) (f : MintSt → MintSt) : (n.modMint f).caps = n.caps := rfl
@[simp] theorem Node.modMint_pulses (n : Node) (f : MintSt → MintSt) : (n.modMint f).pulses = n.pulses := rfl
@[simp] theorem Node.modMint_bus (n : Node) (f : MintSt → MintSt) : (n.modMint f).bus = n.bus := rfl
@[simp] theorem Node.modMint_agents (n : Node) (f : MintSt → MintSt) : (n.modMint f).agents = n.agents := rfl
@[simp] theorem Node.modMint_cells (n : Node) (f : MintSt → MintSt) : (n.modMint f).cells = n.cells := rfl
@[simp] theorem Node.modMint_tslots (n : Node) (f : MintSt → MintSt) : (n.modMint f).tslots = n.tslots := rfl
@[simp] theorem Node.modMint_ctxs (n : Node) (f : MintSt → MintSt) : (n.modMint f).ctxs = n.ctxs := rfl
@[simp] theorem Node.modMint_clr (n : Node) (f : MintSt → MintSt) : (n.modMint f).clr = n.clr := rfl
@[simp] theorem Node.modMint_tally (n : Node) (f : MintSt → MintSt) : (n.modMint f).tally = n.tally := rfl
@[simp] theorem Node.modMint_mint (n : Node) (f : MintSt → MintSt) : (n.modMint f).mint = f n.mint := rfl
@[simp] theorem Node.modMint_jrnl (n : Node) (f : MintSt → MintSt) : (n.modMint f).jrnl = n.jrnl := rfl
@[simp] theorem Node.modMint_key (n : Node) (f : MintSt → MintSt) : (n.modMint f).key = n.key := rfl
@[simp] theorem Node.modMint_regions (n : Node) (f : MintSt → MintSt) : (n.modMint f).regions = n.regions := rfl
@[simp] theorem Node.modMint_vault (n : Node) (f : MintSt → MintSt) : (n.modMint f).vault = n.vault := rfl
@[simp] theorem Node.modMint_kst (n : Node) (f : MintSt → MintSt) : (n.modMint f).kst = n.kst := rfl
@[simp] theorem Node.modMint_refs (n : Node) (f : MintSt → MintSt) : (n.modMint f).refs = n.refs := rfl
@[simp] theorem Node.modMint_monitors (n : Node) (f : MintSt → MintSt) : (n.modMint f).monitors = n.monitors := rfl
@[simp] theorem Node.modMint_outs (n : Node) (f : MintSt → MintSt) : (n.modMint f).outs = n.outs := rfl
@[simp] theorem Node.modMint_escInst (n : Node) (f : MintSt → MintSt) : (n.modMint f).escInst = n.escInst := rfl
@[simp] theorem Node.modMint_heads (n : Node) (f : MintSt → MintSt) : (n.modMint f).heads = n.heads := rfl
@[simp] theorem Node.modMint_lead (n : Node) (f : MintSt → MintSt) : (n.modMint f).lead = n.lead := rfl
@[simp] theorem Node.modMint_htal (n : Node) (f : MintSt → MintSt) : (n.modMint f).htal = n.htal := rfl
@[simp] theorem Node.modMint_engines (n : Node) (f : MintSt → MintSt) : (n.modMint f).engines = n.engines := rfl
@[simp] theorem Node.modMint_trails (n : Node) (f : MintSt → MintSt) : (n.modMint f).trails = n.trails := rfl
@[simp] theorem Node.modMint_jhub (n : Node) (f : MintSt → MintSt) : (n.modMint f).jhub = n.jhub := rfl
@[simp] theorem Node.modMint_replay (n : Node) (f : MintSt → MintSt) : (n.modMint f).replay = n.replay := rfl
@[simp] theorem Node.modMint_spans (n : Node) (f : MintSt → MintSt) : (n.modMint f).spans = n.spans := rfl
@[simp] theorem Node.modMint_dports (n : Node) (f : MintSt → MintSt) : (n.modMint f).dports = n.dports := rfl
@[simp] theorem Node.modMint_grants (n : Node) (f : MintSt → MintSt) : (n.modMint f).grants = n.grants := rfl
@[simp] theorem Node.modMint_access (n : Node) (f : MintSt → MintSt) : (n.modMint f).access = n.access := rfl
@[simp] theorem Node.modMint_hpwr (n : Node) (f : MintSt → MintSt) : (n.modMint f).hpwr = n.hpwr := rfl

/-! ### `modJrnl` -/

@[simp] theorem Node.modJrnl_kind (n : Node) (f : JournalSt → JournalSt) : (n.modJrnl f).kind = n.kind := rfl
@[simp] theorem Node.modJrnl_plane (n : Node) (f : JournalSt → JournalSt) : (n.modJrnl f).plane = n.plane := rfl
@[simp] theorem Node.modJrnl_level (n : Node) (f : JournalSt → JournalSt) : (n.modJrnl f).level = n.level := rfl
@[simp] theorem Node.modJrnl_arch (n : Node) (f : JournalSt → JournalSt) : (n.modJrnl f).arch = n.arch := rfl
@[simp] theorem Node.modJrnl_pier (n : Node) (f : JournalSt → JournalSt) : (n.modJrnl f).pier = n.pier := rfl
@[simp] theorem Node.modJrnl_threeLevel (n : Node) (f : JournalSt → JournalSt) : (n.modJrnl f).threeLevel = n.threeLevel := rfl
@[simp] theorem Node.modJrnl_tb1 (n : Node) (f : JournalSt → JournalSt) : (n.modJrnl f).tb1 = n.tb1 := rfl
@[simp] theorem Node.modJrnl_fresh (n : Node) (f : JournalSt → JournalSt) : (n.modJrnl f).fresh = n.fresh := rfl
@[simp] theorem Node.modJrnl_objs (n : Node) (f : JournalSt → JournalSt) : (n.modJrnl f).objs = n.objs := rfl
@[simp] theorem Node.modJrnl_deferred (n : Node) (f : JournalSt → JournalSt) : (n.modJrnl f).deferred = n.deferred := rfl
@[simp] theorem Node.modJrnl_log (n : Node) (f : JournalSt → JournalSt) : (n.modJrnl f).log = n.log := rfl
@[simp] theorem Node.modJrnl_lineLow (n : Node) (f : JournalSt → JournalSt) : (n.modJrnl f).lineLow = n.lineLow := rfl
@[simp] theorem Node.modJrnl_seen (n : Node) (f : JournalSt → JournalSt) : (n.modJrnl f).seen = n.seen := rfl
@[simp] theorem Node.modJrnl_fwd (n : Node) (f : JournalSt → JournalSt) : (n.modJrnl f).fwd = n.fwd := rfl
@[simp] theorem Node.modJrnl_links (n : Node) (f : JournalSt → JournalSt) : (n.modJrnl f).links = n.links := rfl
@[simp] theorem Node.modJrnl_tnode (n : Node) (f : JournalSt → JournalSt) : (n.modJrnl f).tnode = n.tnode := rfl
@[simp] theorem Node.modJrnl_tports (n : Node) (f : JournalSt → JournalSt) : (n.modJrnl f).tports = n.tports := rfl
@[simp] theorem Node.modJrnl_chans (n : Node) (f : JournalSt → JournalSt) : (n.modJrnl f).chans = n.chans := rfl
@[simp] theorem Node.modJrnl_evins (n : Node) (f : JournalSt → JournalSt) : (n.modJrnl f).evins = n.evins := rfl
@[simp] theorem Node.modJrnl_mslots (n : Node) (f : JournalSt → JournalSt) : (n.modJrnl f).mslots = n.mslots := rfl
@[simp] theorem Node.modJrnl_regrs (n : Node) (f : JournalSt → JournalSt) : (n.modJrnl f).regrs = n.regrs := rfl
@[simp] theorem Node.modJrnl_routes (n : Node) (f : JournalSt → JournalSt) : (n.modJrnl f).routes = n.routes := rfl
@[simp] theorem Node.modJrnl_answers (n : Node) (f : JournalSt → JournalSt) : (n.modJrnl f).answers = n.answers := rfl
@[simp] theorem Node.modJrnl_census (n : Node) (f : JournalSt → JournalSt) : (n.modJrnl f).census = n.census := rfl
@[simp] theorem Node.modJrnl_start (n : Node) (f : JournalSt → JournalSt) : (n.modJrnl f).start = n.start := rfl
@[simp] theorem Node.modJrnl_bases (n : Node) (f : JournalSt → JournalSt) : (n.modJrnl f).bases = n.bases := rfl
@[simp] theorem Node.modJrnl_hall (n : Node) (f : JournalSt → JournalSt) : (n.modJrnl f).hall = n.hall := rfl
@[simp] theorem Node.modJrnl_caps (n : Node) (f : JournalSt → JournalSt) : (n.modJrnl f).caps = n.caps := rfl
@[simp] theorem Node.modJrnl_pulses (n : Node) (f : JournalSt → JournalSt) : (n.modJrnl f).pulses = n.pulses := rfl
@[simp] theorem Node.modJrnl_bus (n : Node) (f : JournalSt → JournalSt) : (n.modJrnl f).bus = n.bus := rfl
@[simp] theorem Node.modJrnl_agents (n : Node) (f : JournalSt → JournalSt) : (n.modJrnl f).agents = n.agents := rfl
@[simp] theorem Node.modJrnl_cells (n : Node) (f : JournalSt → JournalSt) : (n.modJrnl f).cells = n.cells := rfl
@[simp] theorem Node.modJrnl_tslots (n : Node) (f : JournalSt → JournalSt) : (n.modJrnl f).tslots = n.tslots := rfl
@[simp] theorem Node.modJrnl_ctxs (n : Node) (f : JournalSt → JournalSt) : (n.modJrnl f).ctxs = n.ctxs := rfl
@[simp] theorem Node.modJrnl_clr (n : Node) (f : JournalSt → JournalSt) : (n.modJrnl f).clr = n.clr := rfl
@[simp] theorem Node.modJrnl_tally (n : Node) (f : JournalSt → JournalSt) : (n.modJrnl f).tally = n.tally := rfl
@[simp] theorem Node.modJrnl_mint (n : Node) (f : JournalSt → JournalSt) : (n.modJrnl f).mint = n.mint := rfl
@[simp] theorem Node.modJrnl_jrnl (n : Node) (f : JournalSt → JournalSt) : (n.modJrnl f).jrnl = f n.jrnl := rfl
@[simp] theorem Node.modJrnl_key (n : Node) (f : JournalSt → JournalSt) : (n.modJrnl f).key = n.key := rfl
@[simp] theorem Node.modJrnl_regions (n : Node) (f : JournalSt → JournalSt) : (n.modJrnl f).regions = n.regions := rfl
@[simp] theorem Node.modJrnl_vault (n : Node) (f : JournalSt → JournalSt) : (n.modJrnl f).vault = n.vault := rfl
@[simp] theorem Node.modJrnl_kst (n : Node) (f : JournalSt → JournalSt) : (n.modJrnl f).kst = n.kst := rfl
@[simp] theorem Node.modJrnl_refs (n : Node) (f : JournalSt → JournalSt) : (n.modJrnl f).refs = n.refs := rfl
@[simp] theorem Node.modJrnl_monitors (n : Node) (f : JournalSt → JournalSt) : (n.modJrnl f).monitors = n.monitors := rfl
@[simp] theorem Node.modJrnl_outs (n : Node) (f : JournalSt → JournalSt) : (n.modJrnl f).outs = n.outs := rfl
@[simp] theorem Node.modJrnl_escInst (n : Node) (f : JournalSt → JournalSt) : (n.modJrnl f).escInst = n.escInst := rfl
@[simp] theorem Node.modJrnl_heads (n : Node) (f : JournalSt → JournalSt) : (n.modJrnl f).heads = n.heads := rfl
@[simp] theorem Node.modJrnl_lead (n : Node) (f : JournalSt → JournalSt) : (n.modJrnl f).lead = n.lead := rfl
@[simp] theorem Node.modJrnl_htal (n : Node) (f : JournalSt → JournalSt) : (n.modJrnl f).htal = n.htal := rfl
@[simp] theorem Node.modJrnl_engines (n : Node) (f : JournalSt → JournalSt) : (n.modJrnl f).engines = n.engines := rfl
@[simp] theorem Node.modJrnl_trails (n : Node) (f : JournalSt → JournalSt) : (n.modJrnl f).trails = n.trails := rfl
@[simp] theorem Node.modJrnl_jhub (n : Node) (f : JournalSt → JournalSt) : (n.modJrnl f).jhub = n.jhub := rfl
@[simp] theorem Node.modJrnl_replay (n : Node) (f : JournalSt → JournalSt) : (n.modJrnl f).replay = n.replay := rfl
@[simp] theorem Node.modJrnl_spans (n : Node) (f : JournalSt → JournalSt) : (n.modJrnl f).spans = n.spans := rfl
@[simp] theorem Node.modJrnl_dports (n : Node) (f : JournalSt → JournalSt) : (n.modJrnl f).dports = n.dports := rfl
@[simp] theorem Node.modJrnl_grants (n : Node) (f : JournalSt → JournalSt) : (n.modJrnl f).grants = n.grants := rfl
@[simp] theorem Node.modJrnl_access (n : Node) (f : JournalSt → JournalSt) : (n.modJrnl f).access = n.access := rfl
@[simp] theorem Node.modJrnl_hpwr (n : Node) (f : JournalSt → JournalSt) : (n.modJrnl f).hpwr = n.hpwr := rfl

/-! ### `modKey` -/

@[simp] theorem Node.modKey_kind (n : Node) (f : KeySt → KeySt) : (n.modKey f).kind = n.kind := rfl
@[simp] theorem Node.modKey_plane (n : Node) (f : KeySt → KeySt) : (n.modKey f).plane = n.plane := rfl
@[simp] theorem Node.modKey_level (n : Node) (f : KeySt → KeySt) : (n.modKey f).level = n.level := rfl
@[simp] theorem Node.modKey_arch (n : Node) (f : KeySt → KeySt) : (n.modKey f).arch = n.arch := rfl
@[simp] theorem Node.modKey_pier (n : Node) (f : KeySt → KeySt) : (n.modKey f).pier = n.pier := rfl
@[simp] theorem Node.modKey_threeLevel (n : Node) (f : KeySt → KeySt) : (n.modKey f).threeLevel = n.threeLevel := rfl
@[simp] theorem Node.modKey_tb1 (n : Node) (f : KeySt → KeySt) : (n.modKey f).tb1 = n.tb1 := rfl
@[simp] theorem Node.modKey_fresh (n : Node) (f : KeySt → KeySt) : (n.modKey f).fresh = n.fresh := rfl
@[simp] theorem Node.modKey_objs (n : Node) (f : KeySt → KeySt) : (n.modKey f).objs = n.objs := rfl
@[simp] theorem Node.modKey_deferred (n : Node) (f : KeySt → KeySt) : (n.modKey f).deferred = n.deferred := rfl
@[simp] theorem Node.modKey_log (n : Node) (f : KeySt → KeySt) : (n.modKey f).log = n.log := rfl
@[simp] theorem Node.modKey_lineLow (n : Node) (f : KeySt → KeySt) : (n.modKey f).lineLow = n.lineLow := rfl
@[simp] theorem Node.modKey_seen (n : Node) (f : KeySt → KeySt) : (n.modKey f).seen = n.seen := rfl
@[simp] theorem Node.modKey_fwd (n : Node) (f : KeySt → KeySt) : (n.modKey f).fwd = n.fwd := rfl
@[simp] theorem Node.modKey_links (n : Node) (f : KeySt → KeySt) : (n.modKey f).links = n.links := rfl
@[simp] theorem Node.modKey_tnode (n : Node) (f : KeySt → KeySt) : (n.modKey f).tnode = n.tnode := rfl
@[simp] theorem Node.modKey_tports (n : Node) (f : KeySt → KeySt) : (n.modKey f).tports = n.tports := rfl
@[simp] theorem Node.modKey_chans (n : Node) (f : KeySt → KeySt) : (n.modKey f).chans = n.chans := rfl
@[simp] theorem Node.modKey_evins (n : Node) (f : KeySt → KeySt) : (n.modKey f).evins = n.evins := rfl
@[simp] theorem Node.modKey_mslots (n : Node) (f : KeySt → KeySt) : (n.modKey f).mslots = n.mslots := rfl
@[simp] theorem Node.modKey_regrs (n : Node) (f : KeySt → KeySt) : (n.modKey f).regrs = n.regrs := rfl
@[simp] theorem Node.modKey_routes (n : Node) (f : KeySt → KeySt) : (n.modKey f).routes = n.routes := rfl
@[simp] theorem Node.modKey_answers (n : Node) (f : KeySt → KeySt) : (n.modKey f).answers = n.answers := rfl
@[simp] theorem Node.modKey_census (n : Node) (f : KeySt → KeySt) : (n.modKey f).census = n.census := rfl
@[simp] theorem Node.modKey_start (n : Node) (f : KeySt → KeySt) : (n.modKey f).start = n.start := rfl
@[simp] theorem Node.modKey_bases (n : Node) (f : KeySt → KeySt) : (n.modKey f).bases = n.bases := rfl
@[simp] theorem Node.modKey_hall (n : Node) (f : KeySt → KeySt) : (n.modKey f).hall = n.hall := rfl
@[simp] theorem Node.modKey_caps (n : Node) (f : KeySt → KeySt) : (n.modKey f).caps = n.caps := rfl
@[simp] theorem Node.modKey_pulses (n : Node) (f : KeySt → KeySt) : (n.modKey f).pulses = n.pulses := rfl
@[simp] theorem Node.modKey_bus (n : Node) (f : KeySt → KeySt) : (n.modKey f).bus = n.bus := rfl
@[simp] theorem Node.modKey_agents (n : Node) (f : KeySt → KeySt) : (n.modKey f).agents = n.agents := rfl
@[simp] theorem Node.modKey_cells (n : Node) (f : KeySt → KeySt) : (n.modKey f).cells = n.cells := rfl
@[simp] theorem Node.modKey_tslots (n : Node) (f : KeySt → KeySt) : (n.modKey f).tslots = n.tslots := rfl
@[simp] theorem Node.modKey_ctxs (n : Node) (f : KeySt → KeySt) : (n.modKey f).ctxs = n.ctxs := rfl
@[simp] theorem Node.modKey_clr (n : Node) (f : KeySt → KeySt) : (n.modKey f).clr = n.clr := rfl
@[simp] theorem Node.modKey_tally (n : Node) (f : KeySt → KeySt) : (n.modKey f).tally = n.tally := rfl
@[simp] theorem Node.modKey_mint (n : Node) (f : KeySt → KeySt) : (n.modKey f).mint = n.mint := rfl
@[simp] theorem Node.modKey_jrnl (n : Node) (f : KeySt → KeySt) : (n.modKey f).jrnl = n.jrnl := rfl
@[simp] theorem Node.modKey_key (n : Node) (f : KeySt → KeySt) : (n.modKey f).key = f n.key := rfl
@[simp] theorem Node.modKey_regions (n : Node) (f : KeySt → KeySt) : (n.modKey f).regions = n.regions := rfl
@[simp] theorem Node.modKey_vault (n : Node) (f : KeySt → KeySt) : (n.modKey f).vault = n.vault := rfl
@[simp] theorem Node.modKey_kst (n : Node) (f : KeySt → KeySt) : (n.modKey f).kst = n.kst := rfl
@[simp] theorem Node.modKey_refs (n : Node) (f : KeySt → KeySt) : (n.modKey f).refs = n.refs := rfl
@[simp] theorem Node.modKey_monitors (n : Node) (f : KeySt → KeySt) : (n.modKey f).monitors = n.monitors := rfl
@[simp] theorem Node.modKey_outs (n : Node) (f : KeySt → KeySt) : (n.modKey f).outs = n.outs := rfl
@[simp] theorem Node.modKey_escInst (n : Node) (f : KeySt → KeySt) : (n.modKey f).escInst = n.escInst := rfl
@[simp] theorem Node.modKey_heads (n : Node) (f : KeySt → KeySt) : (n.modKey f).heads = n.heads := rfl
@[simp] theorem Node.modKey_lead (n : Node) (f : KeySt → KeySt) : (n.modKey f).lead = n.lead := rfl
@[simp] theorem Node.modKey_htal (n : Node) (f : KeySt → KeySt) : (n.modKey f).htal = n.htal := rfl
@[simp] theorem Node.modKey_engines (n : Node) (f : KeySt → KeySt) : (n.modKey f).engines = n.engines := rfl
@[simp] theorem Node.modKey_trails (n : Node) (f : KeySt → KeySt) : (n.modKey f).trails = n.trails := rfl
@[simp] theorem Node.modKey_jhub (n : Node) (f : KeySt → KeySt) : (n.modKey f).jhub = n.jhub := rfl
@[simp] theorem Node.modKey_replay (n : Node) (f : KeySt → KeySt) : (n.modKey f).replay = n.replay := rfl
@[simp] theorem Node.modKey_spans (n : Node) (f : KeySt → KeySt) : (n.modKey f).spans = n.spans := rfl
@[simp] theorem Node.modKey_dports (n : Node) (f : KeySt → KeySt) : (n.modKey f).dports = n.dports := rfl
@[simp] theorem Node.modKey_grants (n : Node) (f : KeySt → KeySt) : (n.modKey f).grants = n.grants := rfl
@[simp] theorem Node.modKey_access (n : Node) (f : KeySt → KeySt) : (n.modKey f).access = n.access := rfl
@[simp] theorem Node.modKey_hpwr (n : Node) (f : KeySt → KeySt) : (n.modKey f).hpwr = n.hpwr := rfl

/-! ### `modVault` -/

@[simp] theorem Node.modVault_kind (n : Node) (f : VaultSt → VaultSt) : (n.modVault f).kind = n.kind := rfl
@[simp] theorem Node.modVault_plane (n : Node) (f : VaultSt → VaultSt) : (n.modVault f).plane = n.plane := rfl
@[simp] theorem Node.modVault_level (n : Node) (f : VaultSt → VaultSt) : (n.modVault f).level = n.level := rfl
@[simp] theorem Node.modVault_arch (n : Node) (f : VaultSt → VaultSt) : (n.modVault f).arch = n.arch := rfl
@[simp] theorem Node.modVault_pier (n : Node) (f : VaultSt → VaultSt) : (n.modVault f).pier = n.pier := rfl
@[simp] theorem Node.modVault_threeLevel (n : Node) (f : VaultSt → VaultSt) : (n.modVault f).threeLevel = n.threeLevel := rfl
@[simp] theorem Node.modVault_tb1 (n : Node) (f : VaultSt → VaultSt) : (n.modVault f).tb1 = n.tb1 := rfl
@[simp] theorem Node.modVault_fresh (n : Node) (f : VaultSt → VaultSt) : (n.modVault f).fresh = n.fresh := rfl
@[simp] theorem Node.modVault_objs (n : Node) (f : VaultSt → VaultSt) : (n.modVault f).objs = n.objs := rfl
@[simp] theorem Node.modVault_deferred (n : Node) (f : VaultSt → VaultSt) : (n.modVault f).deferred = n.deferred := rfl
@[simp] theorem Node.modVault_log (n : Node) (f : VaultSt → VaultSt) : (n.modVault f).log = n.log := rfl
@[simp] theorem Node.modVault_lineLow (n : Node) (f : VaultSt → VaultSt) : (n.modVault f).lineLow = n.lineLow := rfl
@[simp] theorem Node.modVault_seen (n : Node) (f : VaultSt → VaultSt) : (n.modVault f).seen = n.seen := rfl
@[simp] theorem Node.modVault_fwd (n : Node) (f : VaultSt → VaultSt) : (n.modVault f).fwd = n.fwd := rfl
@[simp] theorem Node.modVault_links (n : Node) (f : VaultSt → VaultSt) : (n.modVault f).links = n.links := rfl
@[simp] theorem Node.modVault_tnode (n : Node) (f : VaultSt → VaultSt) : (n.modVault f).tnode = n.tnode := rfl
@[simp] theorem Node.modVault_tports (n : Node) (f : VaultSt → VaultSt) : (n.modVault f).tports = n.tports := rfl
@[simp] theorem Node.modVault_chans (n : Node) (f : VaultSt → VaultSt) : (n.modVault f).chans = n.chans := rfl
@[simp] theorem Node.modVault_evins (n : Node) (f : VaultSt → VaultSt) : (n.modVault f).evins = n.evins := rfl
@[simp] theorem Node.modVault_mslots (n : Node) (f : VaultSt → VaultSt) : (n.modVault f).mslots = n.mslots := rfl
@[simp] theorem Node.modVault_regrs (n : Node) (f : VaultSt → VaultSt) : (n.modVault f).regrs = n.regrs := rfl
@[simp] theorem Node.modVault_routes (n : Node) (f : VaultSt → VaultSt) : (n.modVault f).routes = n.routes := rfl
@[simp] theorem Node.modVault_answers (n : Node) (f : VaultSt → VaultSt) : (n.modVault f).answers = n.answers := rfl
@[simp] theorem Node.modVault_census (n : Node) (f : VaultSt → VaultSt) : (n.modVault f).census = n.census := rfl
@[simp] theorem Node.modVault_start (n : Node) (f : VaultSt → VaultSt) : (n.modVault f).start = n.start := rfl
@[simp] theorem Node.modVault_bases (n : Node) (f : VaultSt → VaultSt) : (n.modVault f).bases = n.bases := rfl
@[simp] theorem Node.modVault_hall (n : Node) (f : VaultSt → VaultSt) : (n.modVault f).hall = n.hall := rfl
@[simp] theorem Node.modVault_caps (n : Node) (f : VaultSt → VaultSt) : (n.modVault f).caps = n.caps := rfl
@[simp] theorem Node.modVault_pulses (n : Node) (f : VaultSt → VaultSt) : (n.modVault f).pulses = n.pulses := rfl
@[simp] theorem Node.modVault_bus (n : Node) (f : VaultSt → VaultSt) : (n.modVault f).bus = n.bus := rfl
@[simp] theorem Node.modVault_agents (n : Node) (f : VaultSt → VaultSt) : (n.modVault f).agents = n.agents := rfl
@[simp] theorem Node.modVault_cells (n : Node) (f : VaultSt → VaultSt) : (n.modVault f).cells = n.cells := rfl
@[simp] theorem Node.modVault_tslots (n : Node) (f : VaultSt → VaultSt) : (n.modVault f).tslots = n.tslots := rfl
@[simp] theorem Node.modVault_ctxs (n : Node) (f : VaultSt → VaultSt) : (n.modVault f).ctxs = n.ctxs := rfl
@[simp] theorem Node.modVault_clr (n : Node) (f : VaultSt → VaultSt) : (n.modVault f).clr = n.clr := rfl
@[simp] theorem Node.modVault_tally (n : Node) (f : VaultSt → VaultSt) : (n.modVault f).tally = n.tally := rfl
@[simp] theorem Node.modVault_mint (n : Node) (f : VaultSt → VaultSt) : (n.modVault f).mint = n.mint := rfl
@[simp] theorem Node.modVault_jrnl (n : Node) (f : VaultSt → VaultSt) : (n.modVault f).jrnl = n.jrnl := rfl
@[simp] theorem Node.modVault_key (n : Node) (f : VaultSt → VaultSt) : (n.modVault f).key = n.key := rfl
@[simp] theorem Node.modVault_regions (n : Node) (f : VaultSt → VaultSt) : (n.modVault f).regions = n.regions := rfl
@[simp] theorem Node.modVault_vault (n : Node) (f : VaultSt → VaultSt) : (n.modVault f).vault = f n.vault := rfl
@[simp] theorem Node.modVault_kst (n : Node) (f : VaultSt → VaultSt) : (n.modVault f).kst = n.kst := rfl
@[simp] theorem Node.modVault_refs (n : Node) (f : VaultSt → VaultSt) : (n.modVault f).refs = n.refs := rfl
@[simp] theorem Node.modVault_monitors (n : Node) (f : VaultSt → VaultSt) : (n.modVault f).monitors = n.monitors := rfl
@[simp] theorem Node.modVault_outs (n : Node) (f : VaultSt → VaultSt) : (n.modVault f).outs = n.outs := rfl
@[simp] theorem Node.modVault_escInst (n : Node) (f : VaultSt → VaultSt) : (n.modVault f).escInst = n.escInst := rfl
@[simp] theorem Node.modVault_heads (n : Node) (f : VaultSt → VaultSt) : (n.modVault f).heads = n.heads := rfl
@[simp] theorem Node.modVault_lead (n : Node) (f : VaultSt → VaultSt) : (n.modVault f).lead = n.lead := rfl
@[simp] theorem Node.modVault_htal (n : Node) (f : VaultSt → VaultSt) : (n.modVault f).htal = n.htal := rfl
@[simp] theorem Node.modVault_engines (n : Node) (f : VaultSt → VaultSt) : (n.modVault f).engines = n.engines := rfl
@[simp] theorem Node.modVault_trails (n : Node) (f : VaultSt → VaultSt) : (n.modVault f).trails = n.trails := rfl
@[simp] theorem Node.modVault_jhub (n : Node) (f : VaultSt → VaultSt) : (n.modVault f).jhub = n.jhub := rfl
@[simp] theorem Node.modVault_replay (n : Node) (f : VaultSt → VaultSt) : (n.modVault f).replay = n.replay := rfl
@[simp] theorem Node.modVault_spans (n : Node) (f : VaultSt → VaultSt) : (n.modVault f).spans = n.spans := rfl
@[simp] theorem Node.modVault_dports (n : Node) (f : VaultSt → VaultSt) : (n.modVault f).dports = n.dports := rfl
@[simp] theorem Node.modVault_grants (n : Node) (f : VaultSt → VaultSt) : (n.modVault f).grants = n.grants := rfl
@[simp] theorem Node.modVault_access (n : Node) (f : VaultSt → VaultSt) : (n.modVault f).access = n.access := rfl
@[simp] theorem Node.modVault_hpwr (n : Node) (f : VaultSt → VaultSt) : (n.modVault f).hpwr = n.hpwr := rfl

/-! ### `modKst` -/

@[simp] theorem Node.modKst_kind (n : Node) (f : Keystone → Keystone) : (n.modKst f).kind = n.kind := rfl
@[simp] theorem Node.modKst_plane (n : Node) (f : Keystone → Keystone) : (n.modKst f).plane = n.plane := rfl
@[simp] theorem Node.modKst_level (n : Node) (f : Keystone → Keystone) : (n.modKst f).level = n.level := rfl
@[simp] theorem Node.modKst_arch (n : Node) (f : Keystone → Keystone) : (n.modKst f).arch = n.arch := rfl
@[simp] theorem Node.modKst_pier (n : Node) (f : Keystone → Keystone) : (n.modKst f).pier = n.pier := rfl
@[simp] theorem Node.modKst_threeLevel (n : Node) (f : Keystone → Keystone) : (n.modKst f).threeLevel = n.threeLevel := rfl
@[simp] theorem Node.modKst_tb1 (n : Node) (f : Keystone → Keystone) : (n.modKst f).tb1 = n.tb1 := rfl
@[simp] theorem Node.modKst_fresh (n : Node) (f : Keystone → Keystone) : (n.modKst f).fresh = n.fresh := rfl
@[simp] theorem Node.modKst_objs (n : Node) (f : Keystone → Keystone) : (n.modKst f).objs = n.objs := rfl
@[simp] theorem Node.modKst_deferred (n : Node) (f : Keystone → Keystone) : (n.modKst f).deferred = n.deferred := rfl
@[simp] theorem Node.modKst_log (n : Node) (f : Keystone → Keystone) : (n.modKst f).log = n.log := rfl
@[simp] theorem Node.modKst_lineLow (n : Node) (f : Keystone → Keystone) : (n.modKst f).lineLow = n.lineLow := rfl
@[simp] theorem Node.modKst_seen (n : Node) (f : Keystone → Keystone) : (n.modKst f).seen = n.seen := rfl
@[simp] theorem Node.modKst_fwd (n : Node) (f : Keystone → Keystone) : (n.modKst f).fwd = n.fwd := rfl
@[simp] theorem Node.modKst_links (n : Node) (f : Keystone → Keystone) : (n.modKst f).links = n.links := rfl
@[simp] theorem Node.modKst_tnode (n : Node) (f : Keystone → Keystone) : (n.modKst f).tnode = n.tnode := rfl
@[simp] theorem Node.modKst_tports (n : Node) (f : Keystone → Keystone) : (n.modKst f).tports = n.tports := rfl
@[simp] theorem Node.modKst_chans (n : Node) (f : Keystone → Keystone) : (n.modKst f).chans = n.chans := rfl
@[simp] theorem Node.modKst_evins (n : Node) (f : Keystone → Keystone) : (n.modKst f).evins = n.evins := rfl
@[simp] theorem Node.modKst_mslots (n : Node) (f : Keystone → Keystone) : (n.modKst f).mslots = n.mslots := rfl
@[simp] theorem Node.modKst_regrs (n : Node) (f : Keystone → Keystone) : (n.modKst f).regrs = n.regrs := rfl
@[simp] theorem Node.modKst_routes (n : Node) (f : Keystone → Keystone) : (n.modKst f).routes = n.routes := rfl
@[simp] theorem Node.modKst_answers (n : Node) (f : Keystone → Keystone) : (n.modKst f).answers = n.answers := rfl
@[simp] theorem Node.modKst_census (n : Node) (f : Keystone → Keystone) : (n.modKst f).census = n.census := rfl
@[simp] theorem Node.modKst_start (n : Node) (f : Keystone → Keystone) : (n.modKst f).start = n.start := rfl
@[simp] theorem Node.modKst_bases (n : Node) (f : Keystone → Keystone) : (n.modKst f).bases = n.bases := rfl
@[simp] theorem Node.modKst_hall (n : Node) (f : Keystone → Keystone) : (n.modKst f).hall = n.hall := rfl
@[simp] theorem Node.modKst_caps (n : Node) (f : Keystone → Keystone) : (n.modKst f).caps = n.caps := rfl
@[simp] theorem Node.modKst_pulses (n : Node) (f : Keystone → Keystone) : (n.modKst f).pulses = n.pulses := rfl
@[simp] theorem Node.modKst_bus (n : Node) (f : Keystone → Keystone) : (n.modKst f).bus = n.bus := rfl
@[simp] theorem Node.modKst_agents (n : Node) (f : Keystone → Keystone) : (n.modKst f).agents = n.agents := rfl
@[simp] theorem Node.modKst_cells (n : Node) (f : Keystone → Keystone) : (n.modKst f).cells = n.cells := rfl
@[simp] theorem Node.modKst_tslots (n : Node) (f : Keystone → Keystone) : (n.modKst f).tslots = n.tslots := rfl
@[simp] theorem Node.modKst_ctxs (n : Node) (f : Keystone → Keystone) : (n.modKst f).ctxs = n.ctxs := rfl
@[simp] theorem Node.modKst_clr (n : Node) (f : Keystone → Keystone) : (n.modKst f).clr = n.clr := rfl
@[simp] theorem Node.modKst_tally (n : Node) (f : Keystone → Keystone) : (n.modKst f).tally = n.tally := rfl
@[simp] theorem Node.modKst_mint (n : Node) (f : Keystone → Keystone) : (n.modKst f).mint = n.mint := rfl
@[simp] theorem Node.modKst_jrnl (n : Node) (f : Keystone → Keystone) : (n.modKst f).jrnl = n.jrnl := rfl
@[simp] theorem Node.modKst_key (n : Node) (f : Keystone → Keystone) : (n.modKst f).key = n.key := rfl
@[simp] theorem Node.modKst_regions (n : Node) (f : Keystone → Keystone) : (n.modKst f).regions = n.regions := rfl
@[simp] theorem Node.modKst_vault (n : Node) (f : Keystone → Keystone) : (n.modKst f).vault = n.vault := rfl
@[simp] theorem Node.modKst_kst (n : Node) (f : Keystone → Keystone) : (n.modKst f).kst = f n.kst := rfl
@[simp] theorem Node.modKst_refs (n : Node) (f : Keystone → Keystone) : (n.modKst f).refs = n.refs := rfl
@[simp] theorem Node.modKst_monitors (n : Node) (f : Keystone → Keystone) : (n.modKst f).monitors = n.monitors := rfl
@[simp] theorem Node.modKst_outs (n : Node) (f : Keystone → Keystone) : (n.modKst f).outs = n.outs := rfl
@[simp] theorem Node.modKst_escInst (n : Node) (f : Keystone → Keystone) : (n.modKst f).escInst = n.escInst := rfl
@[simp] theorem Node.modKst_heads (n : Node) (f : Keystone → Keystone) : (n.modKst f).heads = n.heads := rfl
@[simp] theorem Node.modKst_lead (n : Node) (f : Keystone → Keystone) : (n.modKst f).lead = n.lead := rfl
@[simp] theorem Node.modKst_htal (n : Node) (f : Keystone → Keystone) : (n.modKst f).htal = n.htal := rfl
@[simp] theorem Node.modKst_engines (n : Node) (f : Keystone → Keystone) : (n.modKst f).engines = n.engines := rfl
@[simp] theorem Node.modKst_trails (n : Node) (f : Keystone → Keystone) : (n.modKst f).trails = n.trails := rfl
@[simp] theorem Node.modKst_jhub (n : Node) (f : Keystone → Keystone) : (n.modKst f).jhub = n.jhub := rfl
@[simp] theorem Node.modKst_replay (n : Node) (f : Keystone → Keystone) : (n.modKst f).replay = n.replay := rfl
@[simp] theorem Node.modKst_spans (n : Node) (f : Keystone → Keystone) : (n.modKst f).spans = n.spans := rfl
@[simp] theorem Node.modKst_dports (n : Node) (f : Keystone → Keystone) : (n.modKst f).dports = n.dports := rfl
@[simp] theorem Node.modKst_grants (n : Node) (f : Keystone → Keystone) : (n.modKst f).grants = n.grants := rfl
@[simp] theorem Node.modKst_access (n : Node) (f : Keystone → Keystone) : (n.modKst f).access = n.access := rfl
@[simp] theorem Node.modKst_hpwr (n : Node) (f : Keystone → Keystone) : (n.modKst f).hpwr = n.hpwr := rfl

/-! ### `modLead` -/

@[simp] theorem Node.modLead_kind (n : Node) (f : LeadSt → LeadSt) : (n.modLead f).kind = n.kind := rfl
@[simp] theorem Node.modLead_plane (n : Node) (f : LeadSt → LeadSt) : (n.modLead f).plane = n.plane := rfl
@[simp] theorem Node.modLead_level (n : Node) (f : LeadSt → LeadSt) : (n.modLead f).level = n.level := rfl
@[simp] theorem Node.modLead_arch (n : Node) (f : LeadSt → LeadSt) : (n.modLead f).arch = n.arch := rfl
@[simp] theorem Node.modLead_pier (n : Node) (f : LeadSt → LeadSt) : (n.modLead f).pier = n.pier := rfl
@[simp] theorem Node.modLead_threeLevel (n : Node) (f : LeadSt → LeadSt) : (n.modLead f).threeLevel = n.threeLevel := rfl
@[simp] theorem Node.modLead_tb1 (n : Node) (f : LeadSt → LeadSt) : (n.modLead f).tb1 = n.tb1 := rfl
@[simp] theorem Node.modLead_fresh (n : Node) (f : LeadSt → LeadSt) : (n.modLead f).fresh = n.fresh := rfl
@[simp] theorem Node.modLead_objs (n : Node) (f : LeadSt → LeadSt) : (n.modLead f).objs = n.objs := rfl
@[simp] theorem Node.modLead_deferred (n : Node) (f : LeadSt → LeadSt) : (n.modLead f).deferred = n.deferred := rfl
@[simp] theorem Node.modLead_log (n : Node) (f : LeadSt → LeadSt) : (n.modLead f).log = n.log := rfl
@[simp] theorem Node.modLead_lineLow (n : Node) (f : LeadSt → LeadSt) : (n.modLead f).lineLow = n.lineLow := rfl
@[simp] theorem Node.modLead_seen (n : Node) (f : LeadSt → LeadSt) : (n.modLead f).seen = n.seen := rfl
@[simp] theorem Node.modLead_fwd (n : Node) (f : LeadSt → LeadSt) : (n.modLead f).fwd = n.fwd := rfl
@[simp] theorem Node.modLead_links (n : Node) (f : LeadSt → LeadSt) : (n.modLead f).links = n.links := rfl
@[simp] theorem Node.modLead_tnode (n : Node) (f : LeadSt → LeadSt) : (n.modLead f).tnode = n.tnode := rfl
@[simp] theorem Node.modLead_tports (n : Node) (f : LeadSt → LeadSt) : (n.modLead f).tports = n.tports := rfl
@[simp] theorem Node.modLead_chans (n : Node) (f : LeadSt → LeadSt) : (n.modLead f).chans = n.chans := rfl
@[simp] theorem Node.modLead_evins (n : Node) (f : LeadSt → LeadSt) : (n.modLead f).evins = n.evins := rfl
@[simp] theorem Node.modLead_mslots (n : Node) (f : LeadSt → LeadSt) : (n.modLead f).mslots = n.mslots := rfl
@[simp] theorem Node.modLead_regrs (n : Node) (f : LeadSt → LeadSt) : (n.modLead f).regrs = n.regrs := rfl
@[simp] theorem Node.modLead_routes (n : Node) (f : LeadSt → LeadSt) : (n.modLead f).routes = n.routes := rfl
@[simp] theorem Node.modLead_answers (n : Node) (f : LeadSt → LeadSt) : (n.modLead f).answers = n.answers := rfl
@[simp] theorem Node.modLead_census (n : Node) (f : LeadSt → LeadSt) : (n.modLead f).census = n.census := rfl
@[simp] theorem Node.modLead_start (n : Node) (f : LeadSt → LeadSt) : (n.modLead f).start = n.start := rfl
@[simp] theorem Node.modLead_bases (n : Node) (f : LeadSt → LeadSt) : (n.modLead f).bases = n.bases := rfl
@[simp] theorem Node.modLead_hall (n : Node) (f : LeadSt → LeadSt) : (n.modLead f).hall = n.hall := rfl
@[simp] theorem Node.modLead_caps (n : Node) (f : LeadSt → LeadSt) : (n.modLead f).caps = n.caps := rfl
@[simp] theorem Node.modLead_pulses (n : Node) (f : LeadSt → LeadSt) : (n.modLead f).pulses = n.pulses := rfl
@[simp] theorem Node.modLead_bus (n : Node) (f : LeadSt → LeadSt) : (n.modLead f).bus = n.bus := rfl
@[simp] theorem Node.modLead_agents (n : Node) (f : LeadSt → LeadSt) : (n.modLead f).agents = n.agents := rfl
@[simp] theorem Node.modLead_cells (n : Node) (f : LeadSt → LeadSt) : (n.modLead f).cells = n.cells := rfl
@[simp] theorem Node.modLead_tslots (n : Node) (f : LeadSt → LeadSt) : (n.modLead f).tslots = n.tslots := rfl
@[simp] theorem Node.modLead_ctxs (n : Node) (f : LeadSt → LeadSt) : (n.modLead f).ctxs = n.ctxs := rfl
@[simp] theorem Node.modLead_clr (n : Node) (f : LeadSt → LeadSt) : (n.modLead f).clr = n.clr := rfl
@[simp] theorem Node.modLead_tally (n : Node) (f : LeadSt → LeadSt) : (n.modLead f).tally = n.tally := rfl
@[simp] theorem Node.modLead_mint (n : Node) (f : LeadSt → LeadSt) : (n.modLead f).mint = n.mint := rfl
@[simp] theorem Node.modLead_jrnl (n : Node) (f : LeadSt → LeadSt) : (n.modLead f).jrnl = n.jrnl := rfl
@[simp] theorem Node.modLead_key (n : Node) (f : LeadSt → LeadSt) : (n.modLead f).key = n.key := rfl
@[simp] theorem Node.modLead_regions (n : Node) (f : LeadSt → LeadSt) : (n.modLead f).regions = n.regions := rfl
@[simp] theorem Node.modLead_vault (n : Node) (f : LeadSt → LeadSt) : (n.modLead f).vault = n.vault := rfl
@[simp] theorem Node.modLead_kst (n : Node) (f : LeadSt → LeadSt) : (n.modLead f).kst = n.kst := rfl
@[simp] theorem Node.modLead_refs (n : Node) (f : LeadSt → LeadSt) : (n.modLead f).refs = n.refs := rfl
@[simp] theorem Node.modLead_monitors (n : Node) (f : LeadSt → LeadSt) : (n.modLead f).monitors = n.monitors := rfl
@[simp] theorem Node.modLead_outs (n : Node) (f : LeadSt → LeadSt) : (n.modLead f).outs = n.outs := rfl
@[simp] theorem Node.modLead_escInst (n : Node) (f : LeadSt → LeadSt) : (n.modLead f).escInst = n.escInst := rfl
@[simp] theorem Node.modLead_heads (n : Node) (f : LeadSt → LeadSt) : (n.modLead f).heads = n.heads := rfl
@[simp] theorem Node.modLead_lead (n : Node) (f : LeadSt → LeadSt) : (n.modLead f).lead = f n.lead := rfl
@[simp] theorem Node.modLead_htal (n : Node) (f : LeadSt → LeadSt) : (n.modLead f).htal = n.htal := rfl
@[simp] theorem Node.modLead_engines (n : Node) (f : LeadSt → LeadSt) : (n.modLead f).engines = n.engines := rfl
@[simp] theorem Node.modLead_trails (n : Node) (f : LeadSt → LeadSt) : (n.modLead f).trails = n.trails := rfl
@[simp] theorem Node.modLead_jhub (n : Node) (f : LeadSt → LeadSt) : (n.modLead f).jhub = n.jhub := rfl
@[simp] theorem Node.modLead_replay (n : Node) (f : LeadSt → LeadSt) : (n.modLead f).replay = n.replay := rfl
@[simp] theorem Node.modLead_spans (n : Node) (f : LeadSt → LeadSt) : (n.modLead f).spans = n.spans := rfl
@[simp] theorem Node.modLead_dports (n : Node) (f : LeadSt → LeadSt) : (n.modLead f).dports = n.dports := rfl
@[simp] theorem Node.modLead_grants (n : Node) (f : LeadSt → LeadSt) : (n.modLead f).grants = n.grants := rfl
@[simp] theorem Node.modLead_access (n : Node) (f : LeadSt → LeadSt) : (n.modLead f).access = n.access := rfl
@[simp] theorem Node.modLead_hpwr (n : Node) (f : LeadSt → LeadSt) : (n.modLead f).hpwr = n.hpwr := rfl

/-! ### `modJhub` -/

@[simp] theorem Node.modJhub_kind (n : Node) (f : JournalHub → JournalHub) : (n.modJhub f).kind = n.kind := rfl
@[simp] theorem Node.modJhub_plane (n : Node) (f : JournalHub → JournalHub) : (n.modJhub f).plane = n.plane := rfl
@[simp] theorem Node.modJhub_level (n : Node) (f : JournalHub → JournalHub) : (n.modJhub f).level = n.level := rfl
@[simp] theorem Node.modJhub_arch (n : Node) (f : JournalHub → JournalHub) : (n.modJhub f).arch = n.arch := rfl
@[simp] theorem Node.modJhub_pier (n : Node) (f : JournalHub → JournalHub) : (n.modJhub f).pier = n.pier := rfl
@[simp] theorem Node.modJhub_threeLevel (n : Node) (f : JournalHub → JournalHub) : (n.modJhub f).threeLevel = n.threeLevel := rfl
@[simp] theorem Node.modJhub_tb1 (n : Node) (f : JournalHub → JournalHub) : (n.modJhub f).tb1 = n.tb1 := rfl
@[simp] theorem Node.modJhub_fresh (n : Node) (f : JournalHub → JournalHub) : (n.modJhub f).fresh = n.fresh := rfl
@[simp] theorem Node.modJhub_objs (n : Node) (f : JournalHub → JournalHub) : (n.modJhub f).objs = n.objs := rfl
@[simp] theorem Node.modJhub_deferred (n : Node) (f : JournalHub → JournalHub) : (n.modJhub f).deferred = n.deferred := rfl
@[simp] theorem Node.modJhub_log (n : Node) (f : JournalHub → JournalHub) : (n.modJhub f).log = n.log := rfl
@[simp] theorem Node.modJhub_lineLow (n : Node) (f : JournalHub → JournalHub) : (n.modJhub f).lineLow = n.lineLow := rfl
@[simp] theorem Node.modJhub_seen (n : Node) (f : JournalHub → JournalHub) : (n.modJhub f).seen = n.seen := rfl
@[simp] theorem Node.modJhub_fwd (n : Node) (f : JournalHub → JournalHub) : (n.modJhub f).fwd = n.fwd := rfl
@[simp] theorem Node.modJhub_links (n : Node) (f : JournalHub → JournalHub) : (n.modJhub f).links = n.links := rfl
@[simp] theorem Node.modJhub_tnode (n : Node) (f : JournalHub → JournalHub) : (n.modJhub f).tnode = n.tnode := rfl
@[simp] theorem Node.modJhub_tports (n : Node) (f : JournalHub → JournalHub) : (n.modJhub f).tports = n.tports := rfl
@[simp] theorem Node.modJhub_chans (n : Node) (f : JournalHub → JournalHub) : (n.modJhub f).chans = n.chans := rfl
@[simp] theorem Node.modJhub_evins (n : Node) (f : JournalHub → JournalHub) : (n.modJhub f).evins = n.evins := rfl
@[simp] theorem Node.modJhub_mslots (n : Node) (f : JournalHub → JournalHub) : (n.modJhub f).mslots = n.mslots := rfl
@[simp] theorem Node.modJhub_regrs (n : Node) (f : JournalHub → JournalHub) : (n.modJhub f).regrs = n.regrs := rfl
@[simp] theorem Node.modJhub_routes (n : Node) (f : JournalHub → JournalHub) : (n.modJhub f).routes = n.routes := rfl
@[simp] theorem Node.modJhub_answers (n : Node) (f : JournalHub → JournalHub) : (n.modJhub f).answers = n.answers := rfl
@[simp] theorem Node.modJhub_census (n : Node) (f : JournalHub → JournalHub) : (n.modJhub f).census = n.census := rfl
@[simp] theorem Node.modJhub_start (n : Node) (f : JournalHub → JournalHub) : (n.modJhub f).start = n.start := rfl
@[simp] theorem Node.modJhub_bases (n : Node) (f : JournalHub → JournalHub) : (n.modJhub f).bases = n.bases := rfl
@[simp] theorem Node.modJhub_hall (n : Node) (f : JournalHub → JournalHub) : (n.modJhub f).hall = n.hall := rfl
@[simp] theorem Node.modJhub_caps (n : Node) (f : JournalHub → JournalHub) : (n.modJhub f).caps = n.caps := rfl
@[simp] theorem Node.modJhub_pulses (n : Node) (f : JournalHub → JournalHub) : (n.modJhub f).pulses = n.pulses := rfl
@[simp] theorem Node.modJhub_bus (n : Node) (f : JournalHub → JournalHub) : (n.modJhub f).bus = n.bus := rfl
@[simp] theorem Node.modJhub_agents (n : Node) (f : JournalHub → JournalHub) : (n.modJhub f).agents = n.agents := rfl
@[simp] theorem Node.modJhub_cells (n : Node) (f : JournalHub → JournalHub) : (n.modJhub f).cells = n.cells := rfl
@[simp] theorem Node.modJhub_tslots (n : Node) (f : JournalHub → JournalHub) : (n.modJhub f).tslots = n.tslots := rfl
@[simp] theorem Node.modJhub_ctxs (n : Node) (f : JournalHub → JournalHub) : (n.modJhub f).ctxs = n.ctxs := rfl
@[simp] theorem Node.modJhub_clr (n : Node) (f : JournalHub → JournalHub) : (n.modJhub f).clr = n.clr := rfl
@[simp] theorem Node.modJhub_tally (n : Node) (f : JournalHub → JournalHub) : (n.modJhub f).tally = n.tally := rfl
@[simp] theorem Node.modJhub_mint (n : Node) (f : JournalHub → JournalHub) : (n.modJhub f).mint = n.mint := rfl
@[simp] theorem Node.modJhub_jrnl (n : Node) (f : JournalHub → JournalHub) : (n.modJhub f).jrnl = n.jrnl := rfl
@[simp] theorem Node.modJhub_key (n : Node) (f : JournalHub → JournalHub) : (n.modJhub f).key = n.key := rfl
@[simp] theorem Node.modJhub_regions (n : Node) (f : JournalHub → JournalHub) : (n.modJhub f).regions = n.regions := rfl
@[simp] theorem Node.modJhub_vault (n : Node) (f : JournalHub → JournalHub) : (n.modJhub f).vault = n.vault := rfl
@[simp] theorem Node.modJhub_kst (n : Node) (f : JournalHub → JournalHub) : (n.modJhub f).kst = n.kst := rfl
@[simp] theorem Node.modJhub_refs (n : Node) (f : JournalHub → JournalHub) : (n.modJhub f).refs = n.refs := rfl
@[simp] theorem Node.modJhub_monitors (n : Node) (f : JournalHub → JournalHub) : (n.modJhub f).monitors = n.monitors := rfl
@[simp] theorem Node.modJhub_outs (n : Node) (f : JournalHub → JournalHub) : (n.modJhub f).outs = n.outs := rfl
@[simp] theorem Node.modJhub_escInst (n : Node) (f : JournalHub → JournalHub) : (n.modJhub f).escInst = n.escInst := rfl
@[simp] theorem Node.modJhub_heads (n : Node) (f : JournalHub → JournalHub) : (n.modJhub f).heads = n.heads := rfl
@[simp] theorem Node.modJhub_lead (n : Node) (f : JournalHub → JournalHub) : (n.modJhub f).lead = n.lead := rfl
@[simp] theorem Node.modJhub_htal (n : Node) (f : JournalHub → JournalHub) : (n.modJhub f).htal = n.htal := rfl
@[simp] theorem Node.modJhub_engines (n : Node) (f : JournalHub → JournalHub) : (n.modJhub f).engines = n.engines := rfl
@[simp] theorem Node.modJhub_trails (n : Node) (f : JournalHub → JournalHub) : (n.modJhub f).trails = n.trails := rfl
@[simp] theorem Node.modJhub_jhub (n : Node) (f : JournalHub → JournalHub) : (n.modJhub f).jhub = f n.jhub := rfl
@[simp] theorem Node.modJhub_replay (n : Node) (f : JournalHub → JournalHub) : (n.modJhub f).replay = n.replay := rfl
@[simp] theorem Node.modJhub_spans (n : Node) (f : JournalHub → JournalHub) : (n.modJhub f).spans = n.spans := rfl
@[simp] theorem Node.modJhub_dports (n : Node) (f : JournalHub → JournalHub) : (n.modJhub f).dports = n.dports := rfl
@[simp] theorem Node.modJhub_grants (n : Node) (f : JournalHub → JournalHub) : (n.modJhub f).grants = n.grants := rfl
@[simp] theorem Node.modJhub_access (n : Node) (f : JournalHub → JournalHub) : (n.modJhub f).access = n.access := rfl
@[simp] theorem Node.modJhub_hpwr (n : Node) (f : JournalHub → JournalHub) : (n.modJhub f).hpwr = n.hpwr := rfl

/-! ### `modReplay` -/

@[simp] theorem Node.modReplay_kind (n : Node) (f : ReplaySt → ReplaySt) : (n.modReplay f).kind = n.kind := rfl
@[simp] theorem Node.modReplay_plane (n : Node) (f : ReplaySt → ReplaySt) : (n.modReplay f).plane = n.plane := rfl
@[simp] theorem Node.modReplay_level (n : Node) (f : ReplaySt → ReplaySt) : (n.modReplay f).level = n.level := rfl
@[simp] theorem Node.modReplay_arch (n : Node) (f : ReplaySt → ReplaySt) : (n.modReplay f).arch = n.arch := rfl
@[simp] theorem Node.modReplay_pier (n : Node) (f : ReplaySt → ReplaySt) : (n.modReplay f).pier = n.pier := rfl
@[simp] theorem Node.modReplay_threeLevel (n : Node) (f : ReplaySt → ReplaySt) : (n.modReplay f).threeLevel = n.threeLevel := rfl
@[simp] theorem Node.modReplay_tb1 (n : Node) (f : ReplaySt → ReplaySt) : (n.modReplay f).tb1 = n.tb1 := rfl
@[simp] theorem Node.modReplay_fresh (n : Node) (f : ReplaySt → ReplaySt) : (n.modReplay f).fresh = n.fresh := rfl
@[simp] theorem Node.modReplay_objs (n : Node) (f : ReplaySt → ReplaySt) : (n.modReplay f).objs = n.objs := rfl
@[simp] theorem Node.modReplay_deferred (n : Node) (f : ReplaySt → ReplaySt) : (n.modReplay f).deferred = n.deferred := rfl
@[simp] theorem Node.modReplay_log (n : Node) (f : ReplaySt → ReplaySt) : (n.modReplay f).log = n.log := rfl
@[simp] theorem Node.modReplay_lineLow (n : Node) (f : ReplaySt → ReplaySt) : (n.modReplay f).lineLow = n.lineLow := rfl
@[simp] theorem Node.modReplay_seen (n : Node) (f : ReplaySt → ReplaySt) : (n.modReplay f).seen = n.seen := rfl
@[simp] theorem Node.modReplay_fwd (n : Node) (f : ReplaySt → ReplaySt) : (n.modReplay f).fwd = n.fwd := rfl
@[simp] theorem Node.modReplay_links (n : Node) (f : ReplaySt → ReplaySt) : (n.modReplay f).links = n.links := rfl
@[simp] theorem Node.modReplay_tnode (n : Node) (f : ReplaySt → ReplaySt) : (n.modReplay f).tnode = n.tnode := rfl
@[simp] theorem Node.modReplay_tports (n : Node) (f : ReplaySt → ReplaySt) : (n.modReplay f).tports = n.tports := rfl
@[simp] theorem Node.modReplay_chans (n : Node) (f : ReplaySt → ReplaySt) : (n.modReplay f).chans = n.chans := rfl
@[simp] theorem Node.modReplay_evins (n : Node) (f : ReplaySt → ReplaySt) : (n.modReplay f).evins = n.evins := rfl
@[simp] theorem Node.modReplay_mslots (n : Node) (f : ReplaySt → ReplaySt) : (n.modReplay f).mslots = n.mslots := rfl
@[simp] theorem Node.modReplay_regrs (n : Node) (f : ReplaySt → ReplaySt) : (n.modReplay f).regrs = n.regrs := rfl
@[simp] theorem Node.modReplay_routes (n : Node) (f : ReplaySt → ReplaySt) : (n.modReplay f).routes = n.routes := rfl
@[simp] theorem Node.modReplay_answers (n : Node) (f : ReplaySt → ReplaySt) : (n.modReplay f).answers = n.answers := rfl
@[simp] theorem Node.modReplay_census (n : Node) (f : ReplaySt → ReplaySt) : (n.modReplay f).census = n.census := rfl
@[simp] theorem Node.modReplay_start (n : Node) (f : ReplaySt → ReplaySt) : (n.modReplay f).start = n.start := rfl
@[simp] theorem Node.modReplay_bases (n : Node) (f : ReplaySt → ReplaySt) : (n.modReplay f).bases = n.bases := rfl
@[simp] theorem Node.modReplay_hall (n : Node) (f : ReplaySt → ReplaySt) : (n.modReplay f).hall = n.hall := rfl
@[simp] theorem Node.modReplay_caps (n : Node) (f : ReplaySt → ReplaySt) : (n.modReplay f).caps = n.caps := rfl
@[simp] theorem Node.modReplay_pulses (n : Node) (f : ReplaySt → ReplaySt) : (n.modReplay f).pulses = n.pulses := rfl
@[simp] theorem Node.modReplay_bus (n : Node) (f : ReplaySt → ReplaySt) : (n.modReplay f).bus = n.bus := rfl
@[simp] theorem Node.modReplay_agents (n : Node) (f : ReplaySt → ReplaySt) : (n.modReplay f).agents = n.agents := rfl
@[simp] theorem Node.modReplay_cells (n : Node) (f : ReplaySt → ReplaySt) : (n.modReplay f).cells = n.cells := rfl
@[simp] theorem Node.modReplay_tslots (n : Node) (f : ReplaySt → ReplaySt) : (n.modReplay f).tslots = n.tslots := rfl
@[simp] theorem Node.modReplay_ctxs (n : Node) (f : ReplaySt → ReplaySt) : (n.modReplay f).ctxs = n.ctxs := rfl
@[simp] theorem Node.modReplay_clr (n : Node) (f : ReplaySt → ReplaySt) : (n.modReplay f).clr = n.clr := rfl
@[simp] theorem Node.modReplay_tally (n : Node) (f : ReplaySt → ReplaySt) : (n.modReplay f).tally = n.tally := rfl
@[simp] theorem Node.modReplay_mint (n : Node) (f : ReplaySt → ReplaySt) : (n.modReplay f).mint = n.mint := rfl
@[simp] theorem Node.modReplay_jrnl (n : Node) (f : ReplaySt → ReplaySt) : (n.modReplay f).jrnl = n.jrnl := rfl
@[simp] theorem Node.modReplay_key (n : Node) (f : ReplaySt → ReplaySt) : (n.modReplay f).key = n.key := rfl
@[simp] theorem Node.modReplay_regions (n : Node) (f : ReplaySt → ReplaySt) : (n.modReplay f).regions = n.regions := rfl
@[simp] theorem Node.modReplay_vault (n : Node) (f : ReplaySt → ReplaySt) : (n.modReplay f).vault = n.vault := rfl
@[simp] theorem Node.modReplay_kst (n : Node) (f : ReplaySt → ReplaySt) : (n.modReplay f).kst = n.kst := rfl
@[simp] theorem Node.modReplay_refs (n : Node) (f : ReplaySt → ReplaySt) : (n.modReplay f).refs = n.refs := rfl
@[simp] theorem Node.modReplay_monitors (n : Node) (f : ReplaySt → ReplaySt) : (n.modReplay f).monitors = n.monitors := rfl
@[simp] theorem Node.modReplay_outs (n : Node) (f : ReplaySt → ReplaySt) : (n.modReplay f).outs = n.outs := rfl
@[simp] theorem Node.modReplay_escInst (n : Node) (f : ReplaySt → ReplaySt) : (n.modReplay f).escInst = n.escInst := rfl
@[simp] theorem Node.modReplay_heads (n : Node) (f : ReplaySt → ReplaySt) : (n.modReplay f).heads = n.heads := rfl
@[simp] theorem Node.modReplay_lead (n : Node) (f : ReplaySt → ReplaySt) : (n.modReplay f).lead = n.lead := rfl
@[simp] theorem Node.modReplay_htal (n : Node) (f : ReplaySt → ReplaySt) : (n.modReplay f).htal = n.htal := rfl
@[simp] theorem Node.modReplay_engines (n : Node) (f : ReplaySt → ReplaySt) : (n.modReplay f).engines = n.engines := rfl
@[simp] theorem Node.modReplay_trails (n : Node) (f : ReplaySt → ReplaySt) : (n.modReplay f).trails = n.trails := rfl
@[simp] theorem Node.modReplay_jhub (n : Node) (f : ReplaySt → ReplaySt) : (n.modReplay f).jhub = n.jhub := rfl
@[simp] theorem Node.modReplay_replay (n : Node) (f : ReplaySt → ReplaySt) : (n.modReplay f).replay = f n.replay := rfl
@[simp] theorem Node.modReplay_spans (n : Node) (f : ReplaySt → ReplaySt) : (n.modReplay f).spans = n.spans := rfl
@[simp] theorem Node.modReplay_dports (n : Node) (f : ReplaySt → ReplaySt) : (n.modReplay f).dports = n.dports := rfl
@[simp] theorem Node.modReplay_grants (n : Node) (f : ReplaySt → ReplaySt) : (n.modReplay f).grants = n.grants := rfl
@[simp] theorem Node.modReplay_access (n : Node) (f : ReplaySt → ReplaySt) : (n.modReplay f).access = n.access := rfl
@[simp] theorem Node.modReplay_hpwr (n : Node) (f : ReplaySt → ReplaySt) : (n.modReplay f).hpwr = n.hpwr := rfl

/-! ### `modAccess` -/

@[simp] theorem Node.modAccess_kind (n : Node) (f : Access → Access) : (n.modAccess f).kind = n.kind := rfl
@[simp] theorem Node.modAccess_plane (n : Node) (f : Access → Access) : (n.modAccess f).plane = n.plane := rfl
@[simp] theorem Node.modAccess_level (n : Node) (f : Access → Access) : (n.modAccess f).level = n.level := rfl
@[simp] theorem Node.modAccess_arch (n : Node) (f : Access → Access) : (n.modAccess f).arch = n.arch := rfl
@[simp] theorem Node.modAccess_pier (n : Node) (f : Access → Access) : (n.modAccess f).pier = n.pier := rfl
@[simp] theorem Node.modAccess_threeLevel (n : Node) (f : Access → Access) : (n.modAccess f).threeLevel = n.threeLevel := rfl
@[simp] theorem Node.modAccess_tb1 (n : Node) (f : Access → Access) : (n.modAccess f).tb1 = n.tb1 := rfl
@[simp] theorem Node.modAccess_fresh (n : Node) (f : Access → Access) : (n.modAccess f).fresh = n.fresh := rfl
@[simp] theorem Node.modAccess_objs (n : Node) (f : Access → Access) : (n.modAccess f).objs = n.objs := rfl
@[simp] theorem Node.modAccess_deferred (n : Node) (f : Access → Access) : (n.modAccess f).deferred = n.deferred := rfl
@[simp] theorem Node.modAccess_log (n : Node) (f : Access → Access) : (n.modAccess f).log = n.log := rfl
@[simp] theorem Node.modAccess_lineLow (n : Node) (f : Access → Access) : (n.modAccess f).lineLow = n.lineLow := rfl
@[simp] theorem Node.modAccess_seen (n : Node) (f : Access → Access) : (n.modAccess f).seen = n.seen := rfl
@[simp] theorem Node.modAccess_fwd (n : Node) (f : Access → Access) : (n.modAccess f).fwd = n.fwd := rfl
@[simp] theorem Node.modAccess_links (n : Node) (f : Access → Access) : (n.modAccess f).links = n.links := rfl
@[simp] theorem Node.modAccess_tnode (n : Node) (f : Access → Access) : (n.modAccess f).tnode = n.tnode := rfl
@[simp] theorem Node.modAccess_tports (n : Node) (f : Access → Access) : (n.modAccess f).tports = n.tports := rfl
@[simp] theorem Node.modAccess_chans (n : Node) (f : Access → Access) : (n.modAccess f).chans = n.chans := rfl
@[simp] theorem Node.modAccess_evins (n : Node) (f : Access → Access) : (n.modAccess f).evins = n.evins := rfl
@[simp] theorem Node.modAccess_mslots (n : Node) (f : Access → Access) : (n.modAccess f).mslots = n.mslots := rfl
@[simp] theorem Node.modAccess_regrs (n : Node) (f : Access → Access) : (n.modAccess f).regrs = n.regrs := rfl
@[simp] theorem Node.modAccess_routes (n : Node) (f : Access → Access) : (n.modAccess f).routes = n.routes := rfl
@[simp] theorem Node.modAccess_answers (n : Node) (f : Access → Access) : (n.modAccess f).answers = n.answers := rfl
@[simp] theorem Node.modAccess_census (n : Node) (f : Access → Access) : (n.modAccess f).census = n.census := rfl
@[simp] theorem Node.modAccess_start (n : Node) (f : Access → Access) : (n.modAccess f).start = n.start := rfl
@[simp] theorem Node.modAccess_bases (n : Node) (f : Access → Access) : (n.modAccess f).bases = n.bases := rfl
@[simp] theorem Node.modAccess_hall (n : Node) (f : Access → Access) : (n.modAccess f).hall = n.hall := rfl
@[simp] theorem Node.modAccess_caps (n : Node) (f : Access → Access) : (n.modAccess f).caps = n.caps := rfl
@[simp] theorem Node.modAccess_pulses (n : Node) (f : Access → Access) : (n.modAccess f).pulses = n.pulses := rfl
@[simp] theorem Node.modAccess_bus (n : Node) (f : Access → Access) : (n.modAccess f).bus = n.bus := rfl
@[simp] theorem Node.modAccess_agents (n : Node) (f : Access → Access) : (n.modAccess f).agents = n.agents := rfl
@[simp] theorem Node.modAccess_cells (n : Node) (f : Access → Access) : (n.modAccess f).cells = n.cells := rfl
@[simp] theorem Node.modAccess_tslots (n : Node) (f : Access → Access) : (n.modAccess f).tslots = n.tslots := rfl
@[simp] theorem Node.modAccess_ctxs (n : Node) (f : Access → Access) : (n.modAccess f).ctxs = n.ctxs := rfl
@[simp] theorem Node.modAccess_clr (n : Node) (f : Access → Access) : (n.modAccess f).clr = n.clr := rfl
@[simp] theorem Node.modAccess_tally (n : Node) (f : Access → Access) : (n.modAccess f).tally = n.tally := rfl
@[simp] theorem Node.modAccess_mint (n : Node) (f : Access → Access) : (n.modAccess f).mint = n.mint := rfl
@[simp] theorem Node.modAccess_jrnl (n : Node) (f : Access → Access) : (n.modAccess f).jrnl = n.jrnl := rfl
@[simp] theorem Node.modAccess_key (n : Node) (f : Access → Access) : (n.modAccess f).key = n.key := rfl
@[simp] theorem Node.modAccess_regions (n : Node) (f : Access → Access) : (n.modAccess f).regions = n.regions := rfl
@[simp] theorem Node.modAccess_vault (n : Node) (f : Access → Access) : (n.modAccess f).vault = n.vault := rfl
@[simp] theorem Node.modAccess_kst (n : Node) (f : Access → Access) : (n.modAccess f).kst = n.kst := rfl
@[simp] theorem Node.modAccess_refs (n : Node) (f : Access → Access) : (n.modAccess f).refs = n.refs := rfl
@[simp] theorem Node.modAccess_monitors (n : Node) (f : Access → Access) : (n.modAccess f).monitors = n.monitors := rfl
@[simp] theorem Node.modAccess_outs (n : Node) (f : Access → Access) : (n.modAccess f).outs = n.outs := rfl
@[simp] theorem Node.modAccess_escInst (n : Node) (f : Access → Access) : (n.modAccess f).escInst = n.escInst := rfl
@[simp] theorem Node.modAccess_heads (n : Node) (f : Access → Access) : (n.modAccess f).heads = n.heads := rfl
@[simp] theorem Node.modAccess_lead (n : Node) (f : Access → Access) : (n.modAccess f).lead = n.lead := rfl
@[simp] theorem Node.modAccess_htal (n : Node) (f : Access → Access) : (n.modAccess f).htal = n.htal := rfl
@[simp] theorem Node.modAccess_engines (n : Node) (f : Access → Access) : (n.modAccess f).engines = n.engines := rfl
@[simp] theorem Node.modAccess_trails (n : Node) (f : Access → Access) : (n.modAccess f).trails = n.trails := rfl
@[simp] theorem Node.modAccess_jhub (n : Node) (f : Access → Access) : (n.modAccess f).jhub = n.jhub := rfl
@[simp] theorem Node.modAccess_replay (n : Node) (f : Access → Access) : (n.modAccess f).replay = n.replay := rfl
@[simp] theorem Node.modAccess_spans (n : Node) (f : Access → Access) : (n.modAccess f).spans = n.spans := rfl
@[simp] theorem Node.modAccess_dports (n : Node) (f : Access → Access) : (n.modAccess f).dports = n.dports := rfl
@[simp] theorem Node.modAccess_grants (n : Node) (f : Access → Access) : (n.modAccess f).grants = n.grants := rfl
@[simp] theorem Node.modAccess_access (n : Node) (f : Access → Access) : (n.modAccess f).access = f n.access := rfl
@[simp] theorem Node.modAccess_hpwr (n : Node) (f : Access → Access) : (n.modAccess f).hpwr = n.hpwr := rfl

/-! ### `modHpwr` -/

@[simp] theorem Node.modHpwr_kind (n : Node) (f : HubPower → HubPower) : (n.modHpwr f).kind = n.kind := rfl
@[simp] theorem Node.modHpwr_plane (n : Node) (f : HubPower → HubPower) : (n.modHpwr f).plane = n.plane := rfl
@[simp] theorem Node.modHpwr_level (n : Node) (f : HubPower → HubPower) : (n.modHpwr f).level = n.level := rfl
@[simp] theorem Node.modHpwr_arch (n : Node) (f : HubPower → HubPower) : (n.modHpwr f).arch = n.arch := rfl
@[simp] theorem Node.modHpwr_pier (n : Node) (f : HubPower → HubPower) : (n.modHpwr f).pier = n.pier := rfl
@[simp] theorem Node.modHpwr_threeLevel (n : Node) (f : HubPower → HubPower) : (n.modHpwr f).threeLevel = n.threeLevel := rfl
@[simp] theorem Node.modHpwr_tb1 (n : Node) (f : HubPower → HubPower) : (n.modHpwr f).tb1 = n.tb1 := rfl
@[simp] theorem Node.modHpwr_fresh (n : Node) (f : HubPower → HubPower) : (n.modHpwr f).fresh = n.fresh := rfl
@[simp] theorem Node.modHpwr_objs (n : Node) (f : HubPower → HubPower) : (n.modHpwr f).objs = n.objs := rfl
@[simp] theorem Node.modHpwr_deferred (n : Node) (f : HubPower → HubPower) : (n.modHpwr f).deferred = n.deferred := rfl
@[simp] theorem Node.modHpwr_log (n : Node) (f : HubPower → HubPower) : (n.modHpwr f).log = n.log := rfl
@[simp] theorem Node.modHpwr_lineLow (n : Node) (f : HubPower → HubPower) : (n.modHpwr f).lineLow = n.lineLow := rfl
@[simp] theorem Node.modHpwr_seen (n : Node) (f : HubPower → HubPower) : (n.modHpwr f).seen = n.seen := rfl
@[simp] theorem Node.modHpwr_fwd (n : Node) (f : HubPower → HubPower) : (n.modHpwr f).fwd = n.fwd := rfl
@[simp] theorem Node.modHpwr_links (n : Node) (f : HubPower → HubPower) : (n.modHpwr f).links = n.links := rfl
@[simp] theorem Node.modHpwr_tnode (n : Node) (f : HubPower → HubPower) : (n.modHpwr f).tnode = n.tnode := rfl
@[simp] theorem Node.modHpwr_tports (n : Node) (f : HubPower → HubPower) : (n.modHpwr f).tports = n.tports := rfl
@[simp] theorem Node.modHpwr_chans (n : Node) (f : HubPower → HubPower) : (n.modHpwr f).chans = n.chans := rfl
@[simp] theorem Node.modHpwr_evins (n : Node) (f : HubPower → HubPower) : (n.modHpwr f).evins = n.evins := rfl
@[simp] theorem Node.modHpwr_mslots (n : Node) (f : HubPower → HubPower) : (n.modHpwr f).mslots = n.mslots := rfl
@[simp] theorem Node.modHpwr_regrs (n : Node) (f : HubPower → HubPower) : (n.modHpwr f).regrs = n.regrs := rfl
@[simp] theorem Node.modHpwr_routes (n : Node) (f : HubPower → HubPower) : (n.modHpwr f).routes = n.routes := rfl
@[simp] theorem Node.modHpwr_answers (n : Node) (f : HubPower → HubPower) : (n.modHpwr f).answers = n.answers := rfl
@[simp] theorem Node.modHpwr_census (n : Node) (f : HubPower → HubPower) : (n.modHpwr f).census = n.census := rfl
@[simp] theorem Node.modHpwr_start (n : Node) (f : HubPower → HubPower) : (n.modHpwr f).start = n.start := rfl
@[simp] theorem Node.modHpwr_bases (n : Node) (f : HubPower → HubPower) : (n.modHpwr f).bases = n.bases := rfl
@[simp] theorem Node.modHpwr_hall (n : Node) (f : HubPower → HubPower) : (n.modHpwr f).hall = n.hall := rfl
@[simp] theorem Node.modHpwr_caps (n : Node) (f : HubPower → HubPower) : (n.modHpwr f).caps = n.caps := rfl
@[simp] theorem Node.modHpwr_pulses (n : Node) (f : HubPower → HubPower) : (n.modHpwr f).pulses = n.pulses := rfl
@[simp] theorem Node.modHpwr_bus (n : Node) (f : HubPower → HubPower) : (n.modHpwr f).bus = n.bus := rfl
@[simp] theorem Node.modHpwr_agents (n : Node) (f : HubPower → HubPower) : (n.modHpwr f).agents = n.agents := rfl
@[simp] theorem Node.modHpwr_cells (n : Node) (f : HubPower → HubPower) : (n.modHpwr f).cells = n.cells := rfl
@[simp] theorem Node.modHpwr_tslots (n : Node) (f : HubPower → HubPower) : (n.modHpwr f).tslots = n.tslots := rfl
@[simp] theorem Node.modHpwr_ctxs (n : Node) (f : HubPower → HubPower) : (n.modHpwr f).ctxs = n.ctxs := rfl
@[simp] theorem Node.modHpwr_clr (n : Node) (f : HubPower → HubPower) : (n.modHpwr f).clr = n.clr := rfl
@[simp] theorem Node.modHpwr_tally (n : Node) (f : HubPower → HubPower) : (n.modHpwr f).tally = n.tally := rfl
@[simp] theorem Node.modHpwr_mint (n : Node) (f : HubPower → HubPower) : (n.modHpwr f).mint = n.mint := rfl
@[simp] theorem Node.modHpwr_jrnl (n : Node) (f : HubPower → HubPower) : (n.modHpwr f).jrnl = n.jrnl := rfl
@[simp] theorem Node.modHpwr_key (n : Node) (f : HubPower → HubPower) : (n.modHpwr f).key = n.key := rfl
@[simp] theorem Node.modHpwr_regions (n : Node) (f : HubPower → HubPower) : (n.modHpwr f).regions = n.regions := rfl
@[simp] theorem Node.modHpwr_vault (n : Node) (f : HubPower → HubPower) : (n.modHpwr f).vault = n.vault := rfl
@[simp] theorem Node.modHpwr_kst (n : Node) (f : HubPower → HubPower) : (n.modHpwr f).kst = n.kst := rfl
@[simp] theorem Node.modHpwr_refs (n : Node) (f : HubPower → HubPower) : (n.modHpwr f).refs = n.refs := rfl
@[simp] theorem Node.modHpwr_monitors (n : Node) (f : HubPower → HubPower) : (n.modHpwr f).monitors = n.monitors := rfl
@[simp] theorem Node.modHpwr_outs (n : Node) (f : HubPower → HubPower) : (n.modHpwr f).outs = n.outs := rfl
@[simp] theorem Node.modHpwr_escInst (n : Node) (f : HubPower → HubPower) : (n.modHpwr f).escInst = n.escInst := rfl
@[simp] theorem Node.modHpwr_heads (n : Node) (f : HubPower → HubPower) : (n.modHpwr f).heads = n.heads := rfl
@[simp] theorem Node.modHpwr_lead (n : Node) (f : HubPower → HubPower) : (n.modHpwr f).lead = n.lead := rfl
@[simp] theorem Node.modHpwr_htal (n : Node) (f : HubPower → HubPower) : (n.modHpwr f).htal = n.htal := rfl
@[simp] theorem Node.modHpwr_engines (n : Node) (f : HubPower → HubPower) : (n.modHpwr f).engines = n.engines := rfl
@[simp] theorem Node.modHpwr_trails (n : Node) (f : HubPower → HubPower) : (n.modHpwr f).trails = n.trails := rfl
@[simp] theorem Node.modHpwr_jhub (n : Node) (f : HubPower → HubPower) : (n.modHpwr f).jhub = n.jhub := rfl
@[simp] theorem Node.modHpwr_replay (n : Node) (f : HubPower → HubPower) : (n.modHpwr f).replay = n.replay := rfl
@[simp] theorem Node.modHpwr_spans (n : Node) (f : HubPower → HubPower) : (n.modHpwr f).spans = n.spans := rfl
@[simp] theorem Node.modHpwr_dports (n : Node) (f : HubPower → HubPower) : (n.modHpwr f).dports = n.dports := rfl
@[simp] theorem Node.modHpwr_grants (n : Node) (f : HubPower → HubPower) : (n.modHpwr f).grants = n.grants := rfl
@[simp] theorem Node.modHpwr_access (n : Node) (f : HubPower → HubPower) : (n.modHpwr f).access = n.access := rfl
@[simp] theorem Node.modHpwr_hpwr (n : Node) (f : HubPower → HubPower) : (n.modHpwr f).hpwr = f n.hpwr := rfl

/-! ### What every such update leaves of the objects -/

@[simp] theorem Node.modLink_rd (n : Node) (i : Nat) (f : LinkEnd → LinkEnd) (o : Nat) : (n.modLink i f).rd o = n.rd o := rfl
@[simp] theorem Node.modLink_sound {n : Node} (h : n.Sound) (i : Nat) (f : LinkEnd → LinkEnd) : (n.modLink i f).Sound := h
@[simp] theorem Node.modPort_rd (n : Node) (i : Nat) (f : TimePort → TimePort) (o : Nat) : (n.modPort i f).rd o = n.rd o := rfl
@[simp] theorem Node.modPort_sound {n : Node} (h : n.Sound) (i : Nat) (f : TimePort → TimePort) : (n.modPort i f).Sound := h
@[simp] theorem Node.modChan_rd (n : Node) (i : Nat) (f : TdcChan → TdcChan) (o : Nat) : (n.modChan i f).rd o = n.rd o := rfl
@[simp] theorem Node.modChan_sound {n : Node} (h : n.Sound) (i : Nat) (f : TdcChan → TdcChan) : (n.modChan i f).Sound := h
@[simp] theorem Node.modEv_rd (n : Node) (i : Nat) (f : EvIn → EvIn) (o : Nat) : (n.modEv i f).rd o = n.rd o := rfl
@[simp] theorem Node.modEv_sound {n : Node} (h : n.Sound) (i : Nat) (f : EvIn → EvIn) : (n.modEv i f).Sound := h
@[simp] theorem Node.modMslot_rd (n : Node) (i : Nat) (f : MSlot → MSlot) (o : Nat) : (n.modMslot i f).rd o = n.rd o := rfl
@[simp] theorem Node.modMslot_sound {n : Node} (h : n.Sound) (i : Nat) (f : MSlot → MSlot) : (n.modMslot i f).Sound := h
@[simp] theorem Node.modRegr_rd (n : Node) (i : Nat) (f : Regr → Regr) (o : Nat) : (n.modRegr i f).rd o = n.rd o := rfl
@[simp] theorem Node.modRegr_sound {n : Node} (h : n.Sound) (i : Nat) (f : Regr → Regr) : (n.modRegr i f).Sound := h
@[simp] theorem Node.modRoute_rd (n : Node) (i : Nat) (f : Route → Route) (o : Nat) : (n.modRoute i f).rd o = n.rd o := rfl
@[simp] theorem Node.modRoute_sound {n : Node} (h : n.Sound) (i : Nat) (f : Route → Route) : (n.modRoute i f).Sound := h
@[simp] theorem Node.modAnswer_rd (n : Node) (i : Nat) (f : Answer → Answer) (o : Nat) : (n.modAnswer i f).rd o = n.rd o := rfl
@[simp] theorem Node.modAnswer_sound {n : Node} (h : n.Sound) (i : Nat) (f : Answer → Answer) : (n.modAnswer i f).Sound := h
@[simp] theorem Node.modBase_rd (n : Node) (i : Nat) (f : TBase → TBase) (o : Nat) : (n.modBase i f).rd o = n.rd o := rfl
@[simp] theorem Node.modBase_sound {n : Node} (h : n.Sound) (i : Nat) (f : TBase → TBase) : (n.modBase i f).Sound := h
@[simp] theorem Node.modCap_rd (n : Node) (i : Nat) (f : CapQ → CapQ) (o : Nat) : (n.modCap i f).rd o = n.rd o := rfl
@[simp] theorem Node.modCap_sound {n : Node} (h : n.Sound) (i : Nat) (f : CapQ → CapQ) : (n.modCap i f).Sound := h
@[simp] theorem Node.modPulse_rd (n : Node) (i : Nat) (f : PulseSt → PulseSt) (o : Nat) : (n.modPulse i f).rd o = n.rd o := rfl
@[simp] theorem Node.modPulse_sound {n : Node} (h : n.Sound) (i : Nat) (f : PulseSt → PulseSt) : (n.modPulse i f).Sound := h
@[simp] theorem Node.modAgent_rd (n : Node) (i : Nat) (f : Agent → Agent) (o : Nat) : (n.modAgent i f).rd o = n.rd o := rfl
@[simp] theorem Node.modAgent_sound {n : Node} (h : n.Sound) (i : Nat) (f : Agent → Agent) : (n.modAgent i f).Sound := h
@[simp] theorem Node.modCell_rd (n : Node) (i : Nat) (f : Viaduct → Viaduct) (o : Nat) : (n.modCell i f).rd o = n.rd o := rfl
@[simp] theorem Node.modCell_sound {n : Node} (h : n.Sound) (i : Nat) (f : Viaduct → Viaduct) : (n.modCell i f).Sound := h
@[simp] theorem Node.modTslot_rd (n : Node) (i : Nat) (f : TSlot → TSlot) (o : Nat) : (n.modTslot i f).rd o = n.rd o := rfl
@[simp] theorem Node.modTslot_sound {n : Node} (h : n.Sound) (i : Nat) (f : TSlot → TSlot) : (n.modTslot i f).Sound := h
@[simp] theorem Node.modCtx_rd (n : Node) (i : Nat) (f : Ctx → Ctx) (o : Nat) : (n.modCtx i f).rd o = n.rd o := rfl
@[simp] theorem Node.modCtx_sound {n : Node} (h : n.Sound) (i : Nat) (f : Ctx → Ctx) : (n.modCtx i f).Sound := h
@[simp] theorem Node.modRegion_rd (n : Node) (i : Nat) (f : Region → Region) (o : Nat) : (n.modRegion i f).rd o = n.rd o := rfl
@[simp] theorem Node.modRegion_sound {n : Node} (h : n.Sound) (i : Nat) (f : Region → Region) : (n.modRegion i f).Sound := h
@[simp] theorem Node.modRef_rd (n : Node) (i : Nat) (f : KRef → KRef) (o : Nat) : (n.modRef i f).rd o = n.rd o := rfl
@[simp] theorem Node.modRef_sound {n : Node} (h : n.Sound) (i : Nat) (f : KRef → KRef) : (n.modRef i f).Sound := h
@[simp] theorem Node.modMon_rd (n : Node) (i : Nat) (f : Regr → Regr) (o : Nat) : (n.modMon i f).rd o = n.rd o := rfl
@[simp] theorem Node.modMon_sound {n : Node} (h : n.Sound) (i : Nat) (f : Regr → Regr) : (n.modMon i f).Sound := h
@[simp] theorem Node.modOut_rd (n : Node) (i : Nat) (f : PulseSt → PulseSt) (o : Nat) : (n.modOut i f).rd o = n.rd o := rfl
@[simp] theorem Node.modOut_sound {n : Node} (h : n.Sound) (i : Nat) (f : PulseSt → PulseSt) : (n.modOut i f).Sound := h
@[simp] theorem Node.modHead_rd (n : Node) (i : Nat) (f : Head → Head) (o : Nat) : (n.modHead i f).rd o = n.rd o := rfl
@[simp] theorem Node.modHead_sound {n : Node} (h : n.Sound) (i : Nat) (f : Head → Head) : (n.modHead i f).Sound := h
@[simp] theorem Node.modHtal_rd (n : Node) (i : Nat) (f : HTally → HTally) (o : Nat) : (n.modHtal i f).rd o = n.rd o := rfl
@[simp] theorem Node.modHtal_sound {n : Node} (h : n.Sound) (i : Nat) (f : HTally → HTally) : (n.modHtal i f).Sound := h
@[simp] theorem Node.modEng_rd (n : Node) (i : Nat) (f : Engine → Engine) (o : Nat) : (n.modEng i f).rd o = n.rd o := rfl
@[simp] theorem Node.modEng_sound {n : Node} (h : n.Sound) (i : Nat) (f : Engine → Engine) : (n.modEng i f).Sound := h
@[simp] theorem Node.modDport_rd (n : Node) (i : Nat) (f : DPort → DPort) (o : Nat) : (n.modDport i f).rd o = n.rd o := rfl
@[simp] theorem Node.modDport_sound {n : Node} (h : n.Sound) (i : Nat) (f : DPort → DPort) : (n.modDport i f).Sound := h
@[simp] theorem Node.modTnode_rd (n : Node) (f : TimeNode → TimeNode) (o : Nat) : (n.modTnode f).rd o = n.rd o := rfl
@[simp] theorem Node.modTnode_sound {n : Node} (h : n.Sound) (f : TimeNode → TimeNode) : (n.modTnode f).Sound := h
@[simp] theorem Node.modCensus_rd (n : Node) (f : CensusSt → CensusSt) (o : Nat) : (n.modCensus f).rd o = n.rd o := rfl
@[simp] theorem Node.modCensus_sound {n : Node} (h : n.Sound) (f : CensusSt → CensusSt) : (n.modCensus f).Sound := h
@[simp] theorem Node.modStart_rd (n : Node) (f : StartSt → StartSt) (o : Nat) : (n.modStart f).rd o = n.rd o := rfl
@[simp] theorem Node.modStart_sound {n : Node} (h : n.Sound) (f : StartSt → StartSt) : (n.modStart f).Sound := h
@[simp] theorem Node.modHall_rd (n : Node) (f : HallSt → HallSt) (o : Nat) : (n.modHall f).rd o = n.rd o := rfl
@[simp] theorem Node.modHall_sound {n : Node} (h : n.Sound) (f : HallSt → HallSt) : (n.modHall f).Sound := h
@[simp] theorem Node.modBus_rd (n : Node) (f : BusSt → BusSt) (o : Nat) : (n.modBus f).rd o = n.rd o := rfl
@[simp] theorem Node.modBus_sound {n : Node} (h : n.Sound) (f : BusSt → BusSt) : (n.modBus f).Sound := h
@[simp] theorem Node.modClr_rd (n : Node) (f : ClearSt → ClearSt) (o : Nat) : (n.modClr f).rd o = n.rd o := rfl
@[simp] theorem Node.modClr_sound {n : Node} (h : n.Sound) (f : ClearSt → ClearSt) : (n.modClr f).Sound := h
@[simp] theorem Node.modTally_rd (n : Node) (f : TallySt → TallySt) (o : Nat) : (n.modTally f).rd o = n.rd o := rfl
@[simp] theorem Node.modTally_sound {n : Node} (h : n.Sound) (f : TallySt → TallySt) : (n.modTally f).Sound := h
@[simp] theorem Node.modMint_rd (n : Node) (f : MintSt → MintSt) (o : Nat) : (n.modMint f).rd o = n.rd o := rfl
@[simp] theorem Node.modMint_sound {n : Node} (h : n.Sound) (f : MintSt → MintSt) : (n.modMint f).Sound := h
@[simp] theorem Node.modJrnl_rd (n : Node) (f : JournalSt → JournalSt) (o : Nat) : (n.modJrnl f).rd o = n.rd o := rfl
@[simp] theorem Node.modJrnl_sound {n : Node} (h : n.Sound) (f : JournalSt → JournalSt) : (n.modJrnl f).Sound := h
@[simp] theorem Node.modKey_rd (n : Node) (f : KeySt → KeySt) (o : Nat) : (n.modKey f).rd o = n.rd o := rfl
@[simp] theorem Node.modKey_sound {n : Node} (h : n.Sound) (f : KeySt → KeySt) : (n.modKey f).Sound := h
@[simp] theorem Node.modVault_rd (n : Node) (f : VaultSt → VaultSt) (o : Nat) : (n.modVault f).rd o = n.rd o := rfl
@[simp] theorem Node.modVault_sound {n : Node} (h : n.Sound) (f : VaultSt → VaultSt) : (n.modVault f).Sound := h
@[simp] theorem Node.modKst_rd (n : Node) (f : Keystone → Keystone) (o : Nat) : (n.modKst f).rd o = n.rd o := rfl
@[simp] theorem Node.modKst_sound {n : Node} (h : n.Sound) (f : Keystone → Keystone) : (n.modKst f).Sound := h
@[simp] theorem Node.modLead_rd (n : Node) (f : LeadSt → LeadSt) (o : Nat) : (n.modLead f).rd o = n.rd o := rfl
@[simp] theorem Node.modLead_sound {n : Node} (h : n.Sound) (f : LeadSt → LeadSt) : (n.modLead f).Sound := h
@[simp] theorem Node.modJhub_rd (n : Node) (f : JournalHub → JournalHub) (o : Nat) : (n.modJhub f).rd o = n.rd o := rfl
@[simp] theorem Node.modJhub_sound {n : Node} (h : n.Sound) (f : JournalHub → JournalHub) : (n.modJhub f).Sound := h
@[simp] theorem Node.modReplay_rd (n : Node) (f : ReplaySt → ReplaySt) (o : Nat) : (n.modReplay f).rd o = n.rd o := rfl
@[simp] theorem Node.modReplay_sound {n : Node} (h : n.Sound) (f : ReplaySt → ReplaySt) : (n.modReplay f).Sound := h
@[simp] theorem Node.modAccess_rd (n : Node) (f : Access → Access) (o : Nat) : (n.modAccess f).rd o = n.rd o := rfl
@[simp] theorem Node.modAccess_sound {n : Node} (h : n.Sound) (f : Access → Access) : (n.modAccess f).Sound := h
@[simp] theorem Node.modHpwr_rd (n : Node) (f : HubPower → HubPower) (o : Nat) : (n.modHpwr f).rd o = n.rd o := rfl
@[simp] theorem Node.modHpwr_sound {n : Node} (h : n.Sound) (f : HubPower → HubPower) : (n.modHpwr f).Sound := h

end Sys2Proof.Machine
end

