-- ==== Sys2Proof/Laws/Ops.lean ====
section
/-! SUPPORT. What each shared operation over a node can do: what it writes, what it leaves, and that it keeps the node sound. -/

namespace Sys2Proof.Machine

/-! ### Objects that records and events write -/

/-- The event counters of a census (15 R430). -/
def isEcnt (o : Nat) : Bool := decide (0xA020 ≤ o / 256 ∧ o / 256 < 0xA060)

/-- The objects that an event, a fault record or an interrupt writes besides its own: event counters, the fault log objects, the
pending sources, lines and stamps, and the access counters (14 R385, 15 R430, 16 R467). -/
def isRecObj (o : Nat) : Bool :=
  isEcnt o || o / 256 == 0x8000 || o / 256 == 0x8001 || o / 256 == 0x1800 || decide (0x2880 ≤ o / 256 ∧ o / 256 < 0x2888)

/-- The objects that an answer writes (16 R470). -/
def isAccObj (o : Nat) : Bool := o / 256 == 0x1801

theorem ne_of_rec {a o : Nat} (ha : isRecObj a = true) (ho : isRecObj o = false) : a ≠ o := by rintro rfl; simp_all
theorem ne_of_acc {a o : Nat} (ha : isAccObj a = true) (ho : isAccObj o = false) : a ≠ o := by rintro rfl; simp_all

theorem isEcnt_of_not_rec {o : Nat} (h : isRecObj o = false) : isEcnt o = false := by
  simp only [isRecObj, Bool.or_eq_false_iff] at h; exact h.1.1.1.1

/-- Folding an operation that keeps a property keeps it. -/
theorem overAll_keeps {α : Type} {P : Node → Prop} (l : List α) (f : Node → α → Node) (hf : ∀ m x, x ∈ l → P m → P (f m x)) {n : Node}
    (h : P n) : P (overAll l f n) := by
  induction l generalizing n with
  | nil => exact h
  | cons x r ih => exact ih (fun m y hy => hf m y (List.mem_cons_of_mem _ hy)) (hf n x List.mem_cons_self h)

/-- A fold over a list keeps what each of its operations keeps. -/
theorem foldl_keeps {α : Type} {P : Node → Prop} (l : List α) (f : Node → α → Node) (hf : ∀ m x, x ∈ l → P m → P (f m x)) {n : Node}
    (h : P n) : P (l.foldl f n) := overAll_keeps l f hf h

@[simp] theorem when_true (f : Node → Node) (n : Node) : when true f n = f n := rfl
@[simp] theorem when_false (f : Node → Node) (n : Node) : when false f n = n := rfl

/-- A node that differs from another in its objects only. -/
def objsOnly (n m : Node) : Prop := { m with objs := n.objs } = n

theorem objsOnly.refl (n : Node) : objsOnly n n := rfl
theorem objsOnly.wr {n m : Node} (h : objsOnly n m) (o v : Nat) : objsOnly n (m.wr o v) := h
theorem objsOnly.trans {a b c : Node} (h : objsOnly a b) (g : objsOnly b c) : objsOnly a c := by
  unfold objsOnly at *
  rw [← h, ← g]

/-! ### Bits of objects, events and counters -/

@[simp] theorem Node.wrBits_sound {n : Node} (h : n.Sound) (o lo w v : Nat) : (n.wrBits o lo w v).Sound := Node.sound_wr h ..
theorem Node.rd_wrBits_ne (n : Node) {o o' : Nat} (lo w v : Nat) (h : o ≠ o') : (n.wrBits o lo w v).rd o' = n.rd o' :=
  Node.rd_wr_ne _ _ h
@[simp] theorem Node.bumpBits_sound {n : Node} (h : n.Sound) (o lo w : Nat) : (n.bumpBits o lo w).Sound := Node.sound_wr h ..
theorem Node.rd_bumpBits_ne (n : Node) {o o' : Nat} (lo w : Nat) (h : o ≠ o') : (n.bumpBits o lo w).rd o' = n.rd o' :=
  Node.rd_wr_ne _ _ h

/-- An event writes event counters only (15 R430). -/
theorem Node.events_frame (n : Node) (code q k : Nat) : objsOnly n (n.events code q k) := by
  refine foldl_keeps (P := objsOnly n) _ _ (fun m e _ h => ?_) (objsOnly.refl n)
  split
  · exact h.wr ..
  · exact h

@[simp] theorem Node.events_sound {n : Node} (h : n.Sound) (code q k : Nat) : (n.events code q k).Sound := by
  refine foldl_keeps (P := Node.Sound) _ _ (fun m e _ h => ?_) h
  split
  · exact Node.wrBits_sound h ..
  · exact h

theorem Node.rd_events (n : Node) (code q k : Nat) {o : Nat} (ho : isEcnt o = false) : (n.events code q k).rd o = n.rd o := by
  refine foldl_keeps (P := fun m => m.rd o = n.rd o) _ _ (fun m e _ h => ?_) rfl
  split
  · rename_i hc
    rw [Node.rd_wrBits_ne]
    · exact h
    · rintro rfl
      simp only [Bool.and_eq_true, decide_eq_true_eq] at hc
      have h2 : (0xA02001 + e.1 * 256) / 256 = 0xA020 + e.1 := by omega
      simp only [isEcnt, h2, decide_eq_false_iff_not] at ho
      omega
  · exact h

/-- Counting writes the counter and event counters only (00 R17, 15 R430). -/
theorem Node.addTo_frame (n : Node) (o k : Nat) : objsOnly n (n.addTo o k) := by
  unfold Node.addTo
  dsimp only
  split
  · exact ((objsOnly.refl n).wr ..).trans (Node.events_frame ..)
  · exact (objsOnly.refl n).wr ..

@[simp] theorem Node.addTo_sound {n : Node} (h : n.Sound) (o k : Nat) : (n.addTo o k).Sound := by
  unfold Node.addTo
  dsimp only
  split
  · exact Node.events_sound (Node.sound_wr h ..) ..
  · exact Node.sound_wr h ..

theorem Node.rd_addTo_ne (n : Node) {o o' : Nat} (k : Nat) (he : isEcnt o' = false) (h : o ≠ o') : (n.addTo o k).rd o' = n.rd o' := by
  unfold Node.addTo
  dsimp only
  split
  · rw [Node.rd_events _ _ _ _ he, Node.rd_wr_ne _ _ h]
  · rw [Node.rd_wr_ne _ _ h]

/-- A counter counts modulo its width (00 R17). -/
theorem Node.rd_addTo_same (n : Node) (o k : Nat) (he : isEcnt o = false) :
    (n.addTo o k).rd o = (n.rd o + k) % 2 ^ widthOf n.kind o := by
  unfold Node.addTo
  dsimp only
  split
  · rw [Node.rd_events _ _ _ _ he, Node.rd_wr_same]
  · rw [Node.rd_wr_same]

theorem Node.bump_frame (n : Node) (o : Nat) : objsOnly n (n.bump o) := Node.addTo_frame ..
@[simp] theorem Node.bump_sound {n : Node} (h : n.Sound) (o : Nat) : (n.bump o).Sound := Node.addTo_sound h ..
theorem Node.rd_bump_ne (n : Node) {o o' : Nat} (he : isEcnt o' = false) (h : o ≠ o') : (n.bump o).rd o' = n.rd o' :=
  Node.rd_addTo_ne _ _ he h
theorem Node.rd_bump_same (n : Node) (o : Nat) (he : isEcnt o = false) :
    (n.bump o).rd o = (n.rd o + 1) % 2 ^ widthOf n.kind o := Node.rd_addTo_same _ _ _ he

/-! ### Interrupts and fault records -/

/-- A node that differs from another in its objects, its log and the ticks of its interrupt lines only. -/
def recOnly (n m : Node) : Prop := { m with objs := n.objs, log := n.log, lineLow := n.lineLow } = n

theorem recOnly.refl (n : Node) : recOnly n n := rfl
theorem recOnly.of_objs {n m : Node} (h : objsOnly n m) : recOnly n m := by unfold objsOnly recOnly at *; rw [← h]
theorem recOnly.trans {a b c : Node} (h : recOnly a b) (g : recOnly b c) : recOnly a c := by
  unfold recOnly at *
  rw [← h, ← g]

theorem recOnly.wr {n m : Node} (h : recOnly n m) (o v : Nat) : recOnly n (m.wr o v) := h

theorem recOnly.low {n m : Node} (h : recOnly n m) (x : List (Nat × Nat)) : recOnly n { m with lineLow := x } := h
theorem recOnly.log {n m : Node} (h : recOnly n m) (x : List Nat) : recOnly n { m with log := x } := h

theorem Node.lineStep_frame (n : Node) (l : Nat) : recOnly n (n.lineStep l) := by
  have rise : recOnly n (n.lineRise l) := by
    have h : recOnly n (n.wrBits Ob.irq_lines l 1 1) := by unfold Node.wrBits; exact (recOnly.refl n).wr _ _
    unfold Node.lineRise
    dsimp only
    generalize n.wrBits Ob.irq_lines l 1 1 = m at h ⊢
    exact h.wr _ _
  have fall : recOnly n (n.lineFall l) := by
    have h : recOnly n (n.wrBits Ob.irq_lines l 1 0) := by unfold Node.wrBits; exact (recOnly.refl n).wr _ _
    unfold Node.lineFall
    generalize n.wrBits Ob.irq_lines l 1 0 = m at h ⊢
    exact h.low _
  unfold Node.lineStep
  dsimp only
  split
  · split
    · exact recOnly.refl n
    · split <;> split
      · exact rise
      · exact recOnly.refl n
      · exact rise
      · exact recOnly.refl n
  · split
    · exact fall
    · exact recOnly.refl n

@[simp] theorem Node.lineStep_sound {n : Node} (h : n.Sound) (l : Nat) : (n.lineStep l).Sound := by
  have rise : (n.lineRise l).Sound := by unfold Node.lineRise; dsimp only; exact Node.sound_wr (Node.wrBits_sound h _ _ _ _) _ _
  have fall : (n.lineFall l).Sound := by
    have := Node.wrBits_sound h Ob.irq_lines l 1 0
    unfold Node.lineFall; exact this
  unfold Node.lineStep
  dsimp only
  split
  · split
    · exact h
    · split <;> split <;> (first | exact rise | exact h)
  · split
    · exact fall
    · exact h

theorem Node.rd_lineStep (n : Node) {l : Nat} (hl : l < 8) {o : Nat} (ho : isRecObj o = false) : (n.lineStep l).rd o = n.rd o := by
  have h1 : Ob.irq_lines ≠ o := ne_of_rec rfl ho
  have h2 : Ob.irqLine_interruptStamp l ≠ o := by
    rintro rfl
    have h3 : (0x288000 + l * 256) / 256 = 0x2880 + l := by omega
    simp only [isRecObj, h3, Bool.or_eq_false_iff, decide_eq_false_iff_not] at ho
    omega
  have rise : (n.lineRise l).rd o = n.rd o := by
    unfold Node.lineRise; dsimp only; rw [Node.rd_wr_ne _ _ h2, Node.rd_wrBits_ne _ _ _ _ h1]
  have fall : (n.lineFall l).rd o = n.rd o := by
    have := Node.rd_wrBits_ne n l 1 0 h1
    unfold Node.lineFall; exact this
  unfold Node.lineStep
  dsimp only
  split
  · split
    · rfl
    · split <;> split <;> (first | exact rise | rfl)
  · split
    · exact fall
    · rfl

theorem Node.lines_frame (n : Node) : recOnly n n.lines := by
  unfold Node.lines
  split
  · rfl
  · exact overAll_keeps (P := recOnly n) _ _ (fun m l _ h => h.trans (m.lineStep_frame l)) (recOnly.refl n)

@[simp] theorem Node.lines_sound {n : Node} (h : n.Sound) : n.lines.Sound := by
  unfold Node.lines
  split
  · exact h
  · exact overAll_keeps (P := Node.Sound) _ _ (fun m l _ h => Node.lineStep_sound h l) h

theorem Node.rd_lines (n : Node) {o : Nat} (ho : isRecObj o = false) : n.lines.rd o = n.rd o := by
  unfold Node.lines
  split
  · rfl
  · refine overAll_keeps (P := fun m => m.rd o = n.rd o) _ _ (fun m l hl h => ?_) rfl
    rw [m.rd_lineStep (by simpa [upTo] using hl) ho, h]

theorem Node.irqEvent_frame (n : Node) (s : Nat) : recOnly n (n.irqEvent s) := by
  unfold Node.irqEvent
  split
  · rfl
  · split
    · rfl
    · exact recOnly.of_objs ((objsOnly.refl n).wr ..)

@[simp] theorem Node.irqEvent_sound {n : Node} (h : n.Sound) (s : Nat) : (n.irqEvent s).Sound := by
  unfold Node.irqEvent
  split
  · exact h
  · split
    · exact h
    · exact Node.sound_wr h ..

theorem Node.rd_irqEvent (n : Node) (s : Nat) {o : Nat} (ho : isRecObj o = false) : (n.irqEvent s).rd o = n.rd o := by
  have h1 : Ob.irq_pending ≠ o := ne_of_rec rfl ho
  unfold Node.irqEvent
  split
  · rfl
  · split
    · rfl
    · rw [Node.rd_wr_ne _ _ h1]

/-- A fault record writes its log, its counters and what its interrupt writes, and nothing else (14 R385). -/
theorem Node.fault_frame (n : Node) (r : FRec) : recOnly n (n.fault r) := by
  have a : recOnly n ((n.countCause r.cause).bump Ob.flt_recordsMade) := by
    unfold Node.countCause Node.bumpBits Node.wrBits
    exact recOnly.of_objs (((objsOnly.refl n).wr _ _).trans (Node.bump_frame _ _))
  unfold Node.fault
  generalize (n.countCause r.cause).bump Ob.flt_recordsMade = n1 at a ⊢
  dsimp only
  have b : ∀ m, recOnly n m → recOnly n (if m.log.length < m.logSize then { m with log := m.log ++ [n.recordBits r] } else m.bump Ob.flt_recordsDropped) := by
    intro m h
    split
    · exact h.log _
    · exact h.trans (recOnly.of_objs (Node.bump_frame ..))
  have c : ∀ m, recOnly n m → recOnly n (if bit (m.rd Ob.flt_interruptMask) r.cause then m.irqEvent 0x130 else m) := by
    intro m h
    split
    · exact h.trans (Node.irqEvent_frame ..)
    · exact h
  apply c; apply b
  split
  · exact a.wr _ _
  · exact a

@[simp] theorem Node.fault_sound {n : Node} (h : n.Sound) (r : FRec) : (n.fault r).Sound := by
  have a : ((n.countCause r.cause).bump Ob.flt_recordsMade).Sound := Node.bump_sound (Node.bumpBits_sound h ..) _
  unfold Node.fault
  generalize (n.countCause r.cause).bump Ob.flt_recordsMade = n1 at a ⊢
  dsimp only
  have b : ∀ m : Node, m.Sound → (if m.log.length < m.logSize then { m with log := m.log ++ [n.recordBits r] } else m.bump Ob.flt_recordsDropped : Node).Sound := by
    intro m h
    split
    · exact h
    · exact Node.bump_sound h _
  have c : ∀ m : Node, m.Sound → (if bit (m.rd Ob.flt_interruptMask) r.cause then m.irqEvent 0x130 else m).Sound := by
    intro m h
    split
    · exact Node.irqEvent_sound h _
    · exact h
  apply c; apply b
  split
  · exact Node.sound_wr a ..
  · exact a

theorem Node.rd_fault (n : Node) (r : FRec) {o : Nat} (ho : isRecObj o = false) : (n.fault r).rd o = n.rd o := by
  have he := isEcnt_of_not_rec ho
  have h1 : Ob.cause_causeCounts ≠ o := ne_of_rec rfl ho
  have h2 : Ob.flt_recordsMade ≠ o := ne_of_rec rfl ho
  have h3 : Ob.flt_firstRecord ≠ o := ne_of_rec rfl ho
  have h4 : Ob.flt_recordsDropped ≠ o := ne_of_rec rfl ho
  have a : ((n.countCause r.cause).bump Ob.flt_recordsMade).rd o = n.rd o := by
    rw [Node.rd_bump_ne _ he h2]; exact Node.rd_bumpBits_ne n _ _ h1
  unfold Node.fault
  generalize (n.countCause r.cause).bump Ob.flt_recordsMade = n1 at a ⊢
  dsimp only
  have b : ∀ m : Node, m.rd o = n.rd o → (if m.log.length < m.logSize then { m with log := m.log ++ [n.recordBits r] } else m.bump Ob.flt_recordsDropped : Node).rd o = n.rd o := by
    intro m h
    split
    · exact h
    · rw [Node.rd_bump_ne _ he h4, h]
  have c : ∀ m : Node, m.rd o = n.rd o → (if bit (m.rd Ob.flt_interruptMask) r.cause then m.irqEvent 0x130 else m).rd o = n.rd o := by
    intro m h
    split
    · rw [Node.rd_irqEvent _ _ ho, h]
    · exact h
  apply c; apply b
  split
  · rw [Node.rd_wr_ne _ _ h3, a]
  · exact a

/-! ### Answers -/

/-- A node that differs from another in its objects and its answers only. -/
def accOnly (n m : Node) : Prop := { m with objs := n.objs, answers := n.answers } = n

theorem accOnly.refl (n : Node) : accOnly n n := rfl
theorem accOnly.of_objs {n m : Node} (h : objsOnly n m) : accOnly n m := by unfold objsOnly accOnly at *; rw [← h]
theorem accOnly.trans {a b c : Node} (h : accOnly a b) (g : accOnly b c) : accOnly a c := by
  unfold accOnly at *
  rw [← h, ← g]

/-- An answer writes the answer of route 0 and counts, and nothing else (16 R443). -/
theorem Node.answerData_frame (n : Node) (st data len : Nat) : accOnly n (n.answerData st data len) := by
  have a : accOnly n ((n.events 0x19 0 1).modAnswer 0 (fun _ => { status := st, data := if st == 0 then data else 0, len := if st == 0 then len else 0 })) :=
    (accOnly.of_objs (n.events_frame 0x19 0 1)).trans rfl
  unfold Node.answerData
  generalize (n.events 0x19 0 1).modAnswer 0 _ = n1 at a ⊢
  dsimp only
  have b : accOnly n (if n.isHub then n1 else n1.wr Ob.acc_registerPortStatus st) := by
    split
    · exact a
    · exact a.trans rfl
  generalize (if n.isHub then n1 else n1.wr Ob.acc_registerPortStatus st) = n2 at b ⊢
  split
  · exact b.trans (accOnly.of_objs (n2.bump_frame _))
  · exact b

@[simp] theorem Node.answerData_sound {n : Node} (h : n.Sound) (st data len : Nat) : (n.answerData st data len).Sound := by
  have a : ((n.events 0x19 0 1).modAnswer 0 (fun _ => { status := st, data := if st == 0 then data else 0, len := if st == 0 then len else 0 })).Sound :=
    Node.events_sound h ..
  unfold Node.answerData
  generalize (n.events 0x19 0 1).modAnswer 0 _ = n1 at a ⊢
  dsimp only
  have b : (if n.isHub then n1 else n1.wr Ob.acc_registerPortStatus st).Sound := by
    split
    · exact a
    · exact Node.sound_wr a ..
  split
  · exact Node.bump_sound b _
  · exact b

theorem Node.rd_answerData (n : Node) (st data len : Nat) {o : Nat} (he : isEcnt o = false) (ho : isAccObj o = false) :
    (n.answerData st data len).rd o = n.rd o := by
  have h1 : Ob.acc_registerPortStatus ≠ o := ne_of_acc rfl ho
  have h2 : Ob.acc_accessesRefused ≠ o := ne_of_acc rfl ho
  have a : ((n.events 0x19 0 1).modAnswer 0 (fun _ => { status := st, data := if st == 0 then data else 0, len := if st == 0 then len else 0 })).rd o = n.rd o :=
    n.rd_events 0x19 0 1 he
  unfold Node.answerData
  generalize (n.events 0x19 0 1).modAnswer 0 _ = n1 at a ⊢
  dsimp only
  have b : (if n.isHub then n1 else n1.wr Ob.acc_registerPortStatus st).rd o = n.rd o := by
    split
    · exact a
    · rw [Node.rd_wr_ne _ _ h1, a]
  split
  · rw [Node.rd_bump_ne _ he h2, b]
  · exact b

@[simp] theorem Node.answer_sound {n : Node} (h : n.Sound) (st : Nat) : (n.answer st).Sound := Node.answerData_sound h ..
theorem Node.rd_answer (n : Node) (st : Nat) {o : Nat} (he : isEcnt o = false) (ho : isAccObj o = false) :
    (n.answer st).rd o = n.rd o := Node.rd_answerData _ _ _ _ he ho

/-- The answer that route 0 then holds (16 R443). -/
theorem Node.answerOf_answerData (n : Node) (st data len : Nat) :
    (n.answerData st data len).answerOf 0 = { status := st, data := if st == 0 then data else 0, len := if st == 0 then len else 0 } := by
  have hb : ∀ (m : Node) (o : Nat), (m.bump o).answerOf 0 = m.answerOf 0 := fun m o => by
    have := congrArg (fun x : Node => x.answerOf 0) (m.bump_frame o)
    exact this
  unfold Node.answerData
  dsimp only
  by_cases hh : n.isHub = true <;> by_cases hr : isRefusal st = true
  all_goals simp only [hh, hr, if_true, Bool.false_eq_true, if_false, hb]
  all_goals simp only [Node.wr_answerOf, Node.modAnswer_answerOf_same]

end Sys2Proof.Machine
end

