-- ==== Sys2Proof/Laws/PerInstr.lean ====
section
/-! SUPPORT. What well-formedness says of every command: each numeric operand fits one frame of 1,152 bits, the widest value the block takes. -/

set_option Elab.async false

namespace Sys2Proof.Laws

/-- One more than the largest value of a frame (02 R44). -/
def cap : Nat := 2 ^ 1152

/-- Every numeric operand of a command is below the cap. -/
def inCap (i : Instr) : Prop :=
  match i with
  | .linkEnableWrite _ p v => p < cap ∧ v < cap
  | .linkRestart _ p => p < cap
  | .sendWakePattern _ p => p < cap
  | .lossOfSignal _ p => p < cap
  | .frameLockLost _ p => p < cap
  | .darkRetry _ p _ => p < cap
  | .wakeComplete _ p => p < cap
  | .trainLock _ p => p < cap
  | .linkStateTimeout _ p => p < cap
  | .helloReceived _ p => p < cap
  | .linkSynced _ p => p < cap
  | .memberHoldReached _ p => p < cap
  | .memberLockLoss _ p => p < cap
  | .frameReceived _ p frame stamp sym => p < cap ∧ frame < cap ∧ stamp.first < cap ∧ stamp.code < cap ∧ sym < cap
  | .frameSend _ p => p < cap
  | .uncorrectableWindowEnd _ p => p < cap
  | .faultSlotReceived _ p => p < cap
  | .timeMessageReceived _ p => p < cap
  | .markerServo _ built => built < cap
  | .revertHoldExpiry _ built => built < cap
  | .keystoneRootWaitExpiry => True
  | .planeDisagreement _ => True
  | .closureApply => True
  | .closureMeasure => True
  | .closureDone _ => True
  | .closureTrackingRun _ => True
  | .podOffsetWrite _ p v => p < cap ∧ v < cap
  | .podEvaluationDone _ p => p < cap
  | .tdcEdge _ c code _ => c < cap ∧ code < cap
  | .dllLockChange _ c _ => c < cap
  | .calibrationPeriodStart _ c => c < cap
  | .calibrateCommand _ => True
  | .calibrationCollectionEnd _ c _ => c < cap
  | .slotClose _ k => k < cap
  | .regressionStop _ g => g < cap
  | .regressionOneGate _ g => g < cap
  | .regressionContinuous _ g => g < cap
  | .regressionGateEnd _ g => g < cap
  | .keystoneMarker _ track => track < cap
  | .monitorGateEnd i => i < cap
  | .esmcPduReceived port _ => port < cap
  | .esmcTimeout i => i < cap
  | .waitToRestoreExpiry i => i < cap
  | .referenceServoUpdate => True
  | .holdoverBudgetReached => True
  | .dcoHistoryRecord => True
  | .dacDiscipline => True
  | .priorityTableWrite v => v < cap
  | .hallSecondRoll => True
  | .hallLabelWrite v => v < cap
  | .timeSourceEdge stamp => stamp < cap
  | .realignStart => True
  | .realignStop => True
  | .twinKeystoneReceived p => p < cap
  | .keystoneTakeover => True
  | .outputPulse k => k < cap
  | .outputSettingEffective k => k < cap
  | .tbSet k apply arg => k < cap ∧ apply < cap ∧ arg < cap
  | .tbStep k apply arg => k < cap ∧ apply < cap ∧ arg < cap
  | .tbSlew k apply arg => k < cap ∧ apply < cap ∧ arg < cap
  | .tbCancelSlew k apply => k < cap ∧ apply < cap
  | .tbCommandApply k => k < cap
  | .tbSlewEnd k => k < cap
  | .tbIncrementWrite k v => k < cap ∧ v < cap
  | .tbModeChange v => v < cap
  | .hallAnchorWrite v => v < cap
  | .anchorDistribution _ => True
  | .captureRecordRead i => i < cap
  | .pulseOutputPlace k => k < cap
  | .interruptEvent src => src < cap
  | .interruptAcknowledge v => v < cap
  | .busFrameSend ringX ringY => ringX < cap ∧ ringY < cap
  | .agentLaunch r edge => r < cap ∧ edge.stamp < cap ∧ edge.cyc < cap
  | .agentCut r => r.region < cap ∧ r.cyc < cap
  | .agentAbort r => r.region < cap ∧ r.cyc < cap
  | .agentCensus r => r < cap
  | .busFrameReceived r lane frame built => r < cap ∧ lane < cap ∧ frame < cap ∧ built < cap
  | .tickLaneLost r lane _ built => r < cap ∧ lane < cap ∧ built < cap
  | .noLaneExpiry r => r.region < cap ∧ r.cyc < cap
  | .bypassEngage r => r < cap
  | .bypassRelease r => r < cap
  | .agentMarker r cyc edge diff => r < cap ∧ cyc.run < cap ∧ cyc.new < cap ∧ edge < cap ∧ diff < cap
  | .agentLanesDisagree r => r < cap
  | .runComplete r edge => r < cap ∧ edge < cap
  | .runDeadline r => r.region < cap ∧ r.cyc < cap
  | .stretchPulse r => r < cap
  | .marginWarnEpisode r ticks => r < cap ∧ ticks < cap
  | .fchgRequest r e => r < cap ∧ e < cap
  | .fchgGrant r => r < cap
  | .fchgAck r cyc edge => r < cap ∧ cyc < cap ∧ edge < cap
  | .fchgReqLow r => r < cap
  | .stopWindowOverrun r => r < cap
  | .stopTimeout r => r < cap
  | .viaductWrite v data => v < cap ∧ data < cap
  | .viaductRead v cycle => v < cap ∧ cycle < cap
  | .viaductStalledDelivery v => v < cap
  | .viaductTickDelivery v => v < cap
  | .viaductSever v => v < cap
  | .tableCommit t => t < cap
  | .tableCommitDone t => t < cap
  | .tableEmpty t => t < cap
  | .tableStorageError t k => t < cap ∧ k < cap
  | .actionCommit c => c < cap
  | .entryNop c => c < cap
  | .entryWait c => c < cap
  | .waitResume c => c < cap
  | .entrySignal c => c < cap
  | .entryArrive c => c < cap
  | .entryClear c => c < cap
  | .entryBranch c => c < cap
  | .entryGate c => c < cap
  | .entryMark c => c < cap
  | .entryAudit c => c < cap
  | .entryPulse c => c < cap
  | .entryLoop c => c < cap
  | .entryEnd c => c < cap
  | .markRead c => c < cap
  | .releaseAccumulator v => v < cap
  | .deadlineEvaluation c => c < cap
  | .stepEnd c => c < cap
  | .armReceived p => p < cap
  | .armAckHeldRelease c => c < cap
  | .confirmReceived p => p < cap
  | .recallReceived p => p < cap
  | .escrowGuardExpiry c => c < cap
  | .stepFire c => c < cap
  | .recalledFReached c => c < cap
  | .headArmLeave k => k < cap
  | .escrowHandoffReceived p => p < cap
  | .escrowHandoffMissing k => k < cap
  | .escrowDownForward p => p < cap
  | .armAckReceived p => p < cap
  | .escrowSetChange p => p < cap
  | .escrowHorizon span ctx step attempt => span < cap ∧ ctx < cap ∧ step < cap ∧ attempt < cap
  | .totalReceived p => p < cap
  | .escrowDecision k => k < cap
  | .twinLost => True
  | .twinLeadReceived p => p < cap
  | .leadReclaim => True
  | .twinLeadSend => True
  | .headEntryStart k => k < cap
  | .headEntryStopAfter k => k < cap
  | .headEntryStopNow k => k < cap
  | .tallyInit r core req cyc _ => r < cap ∧ core < cap ∧ req < cap ∧ cyc < cap
  | .tallySignal r core req cyc _ => r < cap ∧ core < cap ∧ req < cap ∧ cyc < cap
  | .tallyArrive r core req cyc _ => r < cap ∧ core < cap ∧ req < cap ∧ cyc < cap
  | .tallyWait r core req cyc _ => r < cap ∧ core < cap ∧ req < cap ∧ cyc < cap
  | .tallyUpMessage p => p < cap
  | .arriveCombineSend slot => slot < cap
  | .slotDecision slot => slot < cap
  | .immediateDecision slot => slot < cap
  | .tallyReleaseReceived p _ => p < cap
  | .tallyDownForward p => p < cap
  | .ledgerDecision c slot => c < cap ∧ slot < cap
  | .releaseTick c slot => c < cap ∧ slot < cap
  | .ledgerReport r account bytes => r < cap ∧ account < cap ∧ bytes < cap
  | .accountTableWrite first _ => first < cap
  | .translationWrite c first _ => c < cap ∧ first < cap
  | .tallyWaitTimeout _ c tally unit => c < cap ∧ tally < cap ∧ unit < cap
  | .hostTallySignal h cmd => h < cap ∧ cmd < cap
  | .hostTallyArrive h cmd => h < cap ∧ cmd < cap
  | .hostTallyWait h cmd => h < cap ∧ cmd < cap
  | .hostCancelWait h => h < cap
  | .descriptorWrite d v => d < cap ∧ v < cap
  | .contributionWrite c h _ => c < cap ∧ h < cap
  | .partialReceived p => p < cap
  | .elementSendUp e => e < cap
  | .headRoundElement e => e < cap
  | .headSendEnd e => e < cap
  | .resultForward p => p < cap
  | .resultReceived p => p < cap
  | .clearingResultTimeout c h => c < cap ∧ h < cap
  | .engineConfigure e v => e < cap ∧ v < cap
  | .clearingStorageError _ x k => x < cap ∧ k < cap
  | .strictWrite v => v < cap
  | .keyRecompute reason => reason < cap
  | .keyRecomputeDone => True
  | .mintSegment r entry chunk ex tick _ => r < cap ∧ entry < cap ∧ chunk < cap ∧ ex < cap ∧ tick < cap
  | .chainingValuePosted r => r < cap
  | .tagComplete c => c < cap
  | .journalRecord typ addr _ => typ < cap ∧ addr < cap
  | .journalResend seq => seq < cap
  | .journalAckReceived _ p => p < cap
  | .journalStore p => p < cap
  | .tagMessageReceived p => p < cap
  | .trailClose span ctx step => span < cap ∧ ctx < cap ∧ step < cap
  | .replayStart => True
  | .replayStop => True
  | .replayInject _ => True
  | .replayRecordReceived _ p => p < cap
  | .replayApply seq _ => seq < cap
  | .journaledInputSuppress oid => oid < cap
  | .faultRecordRead _ => True
  | .clearFirstRecord _ => True
  | .faultWaveReceived p => p < cap
  | .settleWindowEnd c => c < cap
  | .spanPathLost c => c < cap
  | .heartbeat r info => r < cap ∧ info < cap
  | .heartbeatWindowExpiry r => r < cap
  | .contextResetAck r => r < cap
  | .resetLimitExpiry r => r < cap
  | .isolationLimitExpiry r => r < cap
  | .powerCycleDone r => r < cap
  | .powerCycleLimitExpiry r => r < cap
  | .ladderPowerCycle r => r < cap
  | .ladderRestoreLost r => r < cap
  | .ladderReleaseHold r => r < cap
  | .ladderDeclareLost r => r < cap
  | .powerGoodLost r => r < cap
  | .hubWatchdogExpiry => True
  | .spanListAdd item => item < cap
  | .spanListRemove item => item < cap
  | .spanListMask item => item < cap
  | .spanListHead item => item < cap
  | .portOwn p span epoch => p < cap ∧ span < cap ∧ epoch < cap
  | .portRelease p epoch => p < cap ∧ epoch < cap
  | .portFree p epoch => p < cap ∧ epoch < cap
  | .laneEntryWrite p v => p < cap ∧ v < cap
  | .epochCreate span epoch => span < cap ∧ epoch < cap
  | .epochRelease span epoch => span < cap ∧ epoch < cap
  | .epochAdvance span epoch => span < cap ∧ epoch < cap
  | .twinEpochReceived p => p < cap
  | .epochCopyDistribute _ => True
  | .healthIntervalEnd => True
  | .reportReceived p => p < cap
  | .auditReceived p => p < cap
  | .healthEvaluation p => p < cap
  | .expelReceived p => p < cap
  | .verdictReceived p => p < cap
  | .twinHealthReceived p => p < cap
  | .auditMatrixHalving => True
  | .healthReinstate p => p < cap
  | .healthClearFences p => p < cap
  | .healthClearMatrix p => p < cap
  | .censusCommand v => v < cap
  | .latchReceived _ p => p < cap
  | .censusLatch _ => True
  | .eventSourceWrite _ k v => k < cap ∧ v < cap
  | .regWordRead addr width => addr < cap ∧ width < cap
  | .regWordWrite addr width v => addr < cap ∧ width < cap ∧ v < cap
  | .longOpenRead obj => obj < cap
  | .longOpenWrite obj => obj < cap
  | .longCommit obj => obj < cap
  | .longAbandon obj => obj < cap
  | .longDataAccess obj _ v => obj < cap ∧ v < cap
  | .longPositionWrite obj v => obj < cap ∧ v < cap
  | .transferAbandonTimeout _ route => route < cap
  | .objectWrite _ obj off _ => obj < cap ∧ off < cap
  | .objectReadRequest _ p => p < cap
  | .objectWriteRequest _ p => p < cap
  | .objectResponseReceived p => p < cap
  | .objectAbandon _ p => p < cap
  | .objectRelayForward p => p < cap
  | .relayTimeout tag => tag < cap
  | .goaRequest port addr _ => port < cap ∧ addr < cap
  | .goaResponseSend op => op < cap
  | .functionDisable _ f => f < cap
  | .functionEnable _ f => f < cap
  | .functionDrained _ f => f < cap
  | .drainTimeout _ f => f < cap
  | .regionReqActive r => r < cap
  | .regionReqDoze r => r < cap
  | .regionReqRetain r => r < cap
  | .regionReqOff r => r < cap
  | .regionReqFence r => r < cap
  | .regionForcedFence r => r < cap
  | .regionUnfence r => r < cap
  | .regionPwrReqChange r v => r < cap ∧ v < cap
  | .powerGrant r => r < cap
  | .powerDelayExpiry r => r < cap
  | .pwrRdyChange r _ => r < cap
  | .handshakeLimitExpiry r => r < cap
  | .pgoodFallGranted r => r < cap
  | .pgoodFallLimitExpiry r => r < cap
  | .powerStageReady r => r < cap
  | .powerStageTimeout r => r < cap
  | .vaultWriteThrough obj => obj < cap
  | .sleepRequest => True
  | .sleepWithdraw => True
  | .tsuReset => True
  | .tsuStartupStageDone _ => True
  | .startupStageTimeout _ => True
  | .configRefetch => True
  | .hubSentinelCommand => True
  | .hubOffCommand => True
  | .sentinelVisit stamp => stamp < cap
  | .sentinelPong p periods => p < cap ∧ periods < cap
  | .sentinelWake cause p => cause < cap ∧ p < cap
  | .hubStartupStageDone _ => True
  | .firmwareUpdateBegin len dig => len < cap ∧ dig < cap
  | .firmwareSegmentWrite _ => True
  | .firmwareUpdateCommit => True
  | .firmwareUpdateAbandon => True
  | .firmwareTwinRecovery p => p < cap
  | .twinFirmwareRequest p => p < cap
  | .flashWriteBack obj => obj < cap
  | .telemetryUpdate _ v => v < cap
  | .scrubError slot => slot < cap
  | .moduleSupplyFault kind mv ma => kind < cap ∧ mv < cap ∧ ma < cap
  | .thermalThreshold _ kind port temp => kind < cap ∧ port < cap ∧ temp < cap
  | .partnerPower => True
  | .modulePowerButton => True
  | .refinCouplingSet i => i < cap
  | .hostLatencyCodesValid p tx rx => p < cap ∧ tx < cap ∧ rx < cap
  | .twinHealthSend p => p < cap
  | .firmwareRestartComplete => True

/-- A well-formed command has every numeric operand in range. -/
def Operands.Statement (i : Instr) : Prop := WellFormed i → inCap i

/-- A value below a bound that fits is below the cap. -/
theorem lt_cap {x b : Nat} (h : x < b) (hb : b ≤ cap) : x < cap := Nat.lt_of_lt_of_le h hb

theorem cap_128 : 128 ≤ cap := by decide +kernel
theorem cap_256 : 256 ≤ cap := by decide +kernel
theorem cap_2p1152 : 2^1152 ≤ cap := by decide +kernel
theorem cap_2p64 : 2 ^ 64 ≤ cap := by decide +kernel
theorem cap_512 : 512 ≤ cap := by decide +kernel
theorem cap_72 : 72 ≤ cap := by decide +kernel
theorem cap_65536 : 65536 ≤ cap := by decide +kernel
theorem cap_104 : 104 ≤ cap := by decide +kernel
theorem cap_16 : 16 ≤ cap := by decide +kernel
theorem cap_4 : 4 ≤ cap := by decide +kernel
theorem cap_8 : 8 ≤ cap := by decide +kernel
theorem cap_2 : 2 ≤ cap := by decide +kernel
theorem cap_2p256 : 2^256 ≤ cap := by decide +kernel
theorem cap_2p80 : 2^80 ≤ cap := by decide +kernel
theorem cap_6 : 6 ≤ cap := by decide +kernel
theorem cap_2p128 : 2^128 ≤ cap := by decide +kernel
theorem cap_2p192 : 2^192 ≤ cap := by decide +kernel
theorem cap_2p512 : 2^512 ≤ cap := by decide +kernel
theorem cap_1024 : 1024 ≤ cap := by decide +kernel
theorem cap_2p68 : 2^68 ≤ cap := by decide +kernel
theorem cap_2p32 : 2^32 ≤ cap := by decide +kernel
theorem cap_2048 : 2048 ≤ cap := by decide +kernel
theorem cap_2p1024 : 2^1024 ≤ cap := by decide +kernel
theorem cap_4096 : 4096 ≤ cap := by decide +kernel
theorem cap_64 : 64 ≤ cap := by decide +kernel
theorem cap_2p48 : 2 ^ 48 ≤ cap := by decide +kernel
theorem cap_2p20 : 2^20 ≤ cap := by decide +kernel
theorem cap_2p190 : 2^190 ≤ cap := by decide +kernel
theorem cap_2p26 : 2^26 ≤ cap := by decide +kernel
theorem cap_2p50 : 2 ^ 50 ≤ cap := by decide +kernel
theorem cap_2p320 : 2^320 ≤ cap := by decide +kernel
theorem cap_7 : 7 ≤ cap := by decide +kernel
theorem cap_2p38 : 2^38 ≤ cap := by decide +kernel
theorem cap_21 : 21 ≤ cap := by decide +kernel
theorem cap_2p24 : 2^24 ≤ cap := by decide +kernel
theorem cap_8256 : 8256 ≤ cap := by decide +kernel
theorem cap_2p28 : 2^28 ≤ cap := by decide +kernel
theorem cap_17 : 17 ≤ cap := by decide +kernel
theorem cap_34 : 34 ≤ cap := by decide +kernel
theorem cap_9 : 9 ≤ cap := by decide +kernel
theorem cap_2p29 : 2^29 ≤ cap := by decide +kernel
theorem cap_5 : 5 ≤ cap := by decide +kernel
theorem cap_68 : 68 ≤ cap := by decide +kernel

theorem Operands.linkEnableWrite (u : Who) (p : Nat) (v : Nat) : Operands.Statement (.linkEnableWrite u p v) := by
  intro h
  simp only [WellFormed, wellFormed, Bool.and_eq_true, decide_eq_true_eq] at h
  exact ⟨lt_cap h.1 cap_128, lt_cap h.2 cap_256⟩
theorem Operands.linkRestart (u : Who) (p : Nat) : Operands.Statement (.linkRestart u p) :=
  fun h => lt_cap (of_decide_eq_true h) cap_128
theorem Operands.sendWakePattern (u : Who) (p : Nat) : Operands.Statement (.sendWakePattern u p) :=
  fun h => lt_cap (of_decide_eq_true h) cap_128
theorem Operands.lossOfSignal (u : Who) (p : Nat) : Operands.Statement (.lossOfSignal u p) :=
  fun h => lt_cap (of_decide_eq_true h) cap_128
theorem Operands.frameLockLost (u : Who) (p : Nat) : Operands.Statement (.frameLockLost u p) :=
  fun h => lt_cap (of_decide_eq_true h) cap_128
theorem Operands.darkRetry (u : Who) (p : Nat) (sig : Bool) : Operands.Statement (.darkRetry u p sig) :=
  fun h => lt_cap (of_decide_eq_true h) cap_128
theorem Operands.wakeComplete (u : Who) (p : Nat) : Operands.Statement (.wakeComplete u p) :=
  fun h => lt_cap (of_decide_eq_true h) cap_128
theorem Operands.trainLock (u : Who) (p : Nat) : Operands.Statement (.trainLock u p) :=
  fun h => lt_cap (of_decide_eq_true h) cap_128
theorem Operands.linkStateTimeout (u : Who) (p : Nat) : Operands.Statement (.linkStateTimeout u p) :=
  fun h => lt_cap (of_decide_eq_true h) cap_128
theorem Operands.helloReceived (u : Who) (p : Nat) : Operands.Statement (.helloReceived u p) :=
  fun h => lt_cap (of_decide_eq_true h) cap_128
theorem Operands.linkSynced (u : Who) (p : Nat) : Operands.Statement (.linkSynced u p) :=
  fun h => lt_cap (of_decide_eq_true h) cap_128
theorem Operands.memberHoldReached (u : Who) (p : Nat) : Operands.Statement (.memberHoldReached u p) :=
  fun h => lt_cap (of_decide_eq_true h) cap_128
theorem Operands.memberLockLoss (u : Who) (p : Nat) : Operands.Statement (.memberLockLoss u p) :=
  fun h => lt_cap (of_decide_eq_true h) cap_128
theorem Operands.frameReceived (u : Who) (p : Nat) (frame : Nat) (stamp : WordStamp) (sym : Nat) : Operands.Statement (.frameReceived u p frame stamp sym) := by
  intro h
  simp only [WellFormed, wellFormed, Bool.and_eq_true, decide_eq_true_eq] at h
  exact ⟨lt_cap h.1.1.1.1 cap_128, lt_cap h.1.1.1.2 cap_2p1152, lt_cap h.1.1.2 cap_2p64, lt_cap h.1.2 cap_512, lt_cap h.2 cap_72⟩
theorem Operands.frameSend (u : Who) (p : Nat) : Operands.Statement (.frameSend u p) :=
  fun h => lt_cap (of_decide_eq_true h) cap_128
theorem Operands.uncorrectableWindowEnd (u : Who) (p : Nat) : Operands.Statement (.uncorrectableWindowEnd u p) :=
  fun h => lt_cap (of_decide_eq_true h) cap_128
theorem Operands.faultSlotReceived (u : Who) (p : Nat) : Operands.Statement (.faultSlotReceived u p) :=
  fun h => lt_cap (of_decide_eq_true h) cap_128
theorem Operands.timeMessageReceived (u : Who) (p : Nat) : Operands.Statement (.timeMessageReceived u p) :=
  fun h => lt_cap (of_decide_eq_true h) cap_128
theorem Operands.markerServo (u : Who) (built : Nat) : Operands.Statement (.markerServo u built) :=
  fun h => lt_cap (of_decide_eq_true h) cap_65536
theorem Operands.revertHoldExpiry (u : Who) (built : Nat) : Operands.Statement (.revertHoldExpiry u built) :=
  fun h => lt_cap (of_decide_eq_true h) cap_65536
theorem Operands.keystoneRootWaitExpiry : Operands.Statement (.keystoneRootWaitExpiry) :=
  fun _ => trivial
theorem Operands.planeDisagreement (u : Who) : Operands.Statement (.planeDisagreement u) :=
  fun _ => trivial
theorem Operands.closureApply : Operands.Statement (.closureApply) :=
  fun _ => trivial
theorem Operands.closureMeasure : Operands.Statement (.closureMeasure) :=
  fun _ => trivial
theorem Operands.closureDone (meas : List ClosureMeas) : Operands.Statement (.closureDone meas) :=
  fun _ => trivial
theorem Operands.closureTrackingRun (meas : List ClosureMeas) : Operands.Statement (.closureTrackingRun meas) :=
  fun _ => trivial
theorem Operands.podOffsetWrite (u : Who) (p : Nat) (v : Nat) : Operands.Statement (.podOffsetWrite u p v) := by
  intro h
  simp only [WellFormed, wellFormed, Bool.and_eq_true, decide_eq_true_eq] at h
  exact ⟨lt_cap h.1 cap_128, lt_cap h.2 cap_2p64⟩
theorem Operands.podEvaluationDone (u : Who) (p : Nat) : Operands.Statement (.podEvaluationDone u p) :=
  fun h => lt_cap (of_decide_eq_true h) cap_128
theorem Operands.tdcEdge (u : Who) (c : Nat) (code : Nat) (edge : EdgeKind) : Operands.Statement (.tdcEdge u c code edge) := by
  intro h
  simp only [WellFormed, wellFormed, Bool.and_eq_true, decide_eq_true_eq] at h
  exact ⟨lt_cap h.1 cap_104, lt_cap h.2 cap_512⟩
theorem Operands.dllLockChange (u : Who) (c : Nat) (locked : Bool) : Operands.Statement (.dllLockChange u c locked) :=
  fun h => lt_cap (of_decide_eq_true h) cap_104
theorem Operands.calibrationPeriodStart (u : Who) (c : Nat) : Operands.Statement (.calibrationPeriodStart u c) :=
  fun h => lt_cap (of_decide_eq_true h) cap_104
theorem Operands.calibrateCommand (u : Who) : Operands.Statement (.calibrateCommand u) :=
  fun _ => trivial
theorem Operands.calibrationCollectionEnd (u : Who) (c : Nat) (counts : List Nat) : Operands.Statement (.calibrationCollectionEnd u c counts) :=
  fun h => lt_cap (of_decide_eq_true h) cap_104
theorem Operands.slotClose (u : Who) (k : Nat) : Operands.Statement (.slotClose u k) :=
  fun h => lt_cap (of_decide_eq_true h) cap_16
theorem Operands.regressionStop (u : Who) (g : Nat) : Operands.Statement (.regressionStop u g) :=
  fun h => lt_cap (of_decide_eq_true h) cap_4
theorem Operands.regressionOneGate (u : Who) (g : Nat) : Operands.Statement (.regressionOneGate u g) :=
  fun h => lt_cap (of_decide_eq_true h) cap_4
theorem Operands.regressionContinuous (u : Who) (g : Nat) : Operands.Statement (.regressionContinuous u g) :=
  fun h => lt_cap (of_decide_eq_true h) cap_4
theorem Operands.regressionGateEnd (u : Who) (g : Nat) : Operands.Statement (.regressionGateEnd u g) :=
  fun h => lt_cap (of_decide_eq_true h) cap_4
theorem Operands.keystoneMarker (ranks : List Nat) (track : Nat) : Operands.Statement (.keystoneMarker ranks track) :=
  fun h => lt_cap (of_decide_eq_true h) cap_2p64
theorem Operands.monitorGateEnd (i : Nat) : Operands.Statement (.monitorGateEnd i) :=
  fun h => lt_cap (of_decide_eq_true h) cap_8
theorem Operands.esmcPduReceived (port : Nat) (pdu : List Nat) : Operands.Statement (.esmcPduReceived port pdu) :=
  fun h => lt_cap (of_decide_eq_true h) cap_2
theorem Operands.esmcTimeout (i : Nat) : Operands.Statement (.esmcTimeout i) :=
  fun h => lt_cap (of_decide_eq_true h) cap_8
theorem Operands.waitToRestoreExpiry (i : Nat) : Operands.Statement (.waitToRestoreExpiry i) :=
  fun h => lt_cap (of_decide_eq_true h) cap_8
theorem Operands.referenceServoUpdate : Operands.Statement (.referenceServoUpdate) :=
  fun _ => trivial
theorem Operands.holdoverBudgetReached : Operands.Statement (.holdoverBudgetReached) :=
  fun _ => trivial
theorem Operands.dcoHistoryRecord : Operands.Statement (.dcoHistoryRecord) :=
  fun _ => trivial
theorem Operands.dacDiscipline : Operands.Statement (.dacDiscipline) :=
  fun _ => trivial
theorem Operands.priorityTableWrite (v : Nat) : Operands.Statement (.priorityTableWrite v) :=
  fun h => lt_cap (of_decide_eq_true h) cap_2p256
theorem Operands.hallSecondRoll : Operands.Statement (.hallSecondRoll) :=
  fun _ => trivial
theorem Operands.hallLabelWrite (v : Nat) : Operands.Statement (.hallLabelWrite v) :=
  fun h => lt_cap (of_decide_eq_true h) cap_2p64
theorem Operands.timeSourceEdge (stamp : Nat) : Operands.Statement (.timeSourceEdge stamp) :=
  fun h => lt_cap (of_decide_eq_true h) cap_2p80
theorem Operands.realignStart : Operands.Statement (.realignStart) :=
  fun _ => trivial
theorem Operands.realignStop : Operands.Statement (.realignStop) :=
  fun _ => trivial
theorem Operands.twinKeystoneReceived (p : Nat) : Operands.Statement (.twinKeystoneReceived p) :=
  fun h => lt_cap (of_decide_eq_true h) cap_128
theorem Operands.keystoneTakeover : Operands.Statement (.keystoneTakeover) :=
  fun _ => trivial
theorem Operands.outputPulse (k : Nat) : Operands.Statement (.outputPulse k) :=
  fun h => lt_cap (of_decide_eq_true h) cap_6
theorem Operands.outputSettingEffective (k : Nat) : Operands.Statement (.outputSettingEffective k) :=
  fun h => lt_cap (of_decide_eq_true h) cap_6
theorem Operands.tbSet (k : Nat) (apply : Nat) (arg : Nat) : Operands.Statement (.tbSet k apply arg) := by
  intro h
  simp only [WellFormed, wellFormed, Bool.and_eq_true, decide_eq_true_eq] at h
  exact ⟨lt_cap h.1.1 cap_8, lt_cap h.1.2 cap_2p64, lt_cap h.2 cap_2p128⟩
theorem Operands.tbStep (k : Nat) (apply : Nat) (arg : Nat) : Operands.Statement (.tbStep k apply arg) := by
  intro h
  simp only [WellFormed, wellFormed, Bool.and_eq_true, decide_eq_true_eq] at h
  exact ⟨lt_cap h.1.1 cap_8, lt_cap h.1.2 cap_2p64, lt_cap h.2 cap_2p128⟩
theorem Operands.tbSlew (k : Nat) (apply : Nat) (arg : Nat) : Operands.Statement (.tbSlew k apply arg) := by
  intro h
  simp only [WellFormed, wellFormed, Bool.and_eq_true, decide_eq_true_eq] at h
  exact ⟨lt_cap h.1.1 cap_8, lt_cap h.1.2 cap_2p64, lt_cap h.2 cap_2p128⟩
theorem Operands.tbCancelSlew (k : Nat) (apply : Nat) : Operands.Statement (.tbCancelSlew k apply) := by
  intro h
  simp only [WellFormed, wellFormed, Bool.and_eq_true, decide_eq_true_eq] at h
  exact ⟨lt_cap h.1 cap_8, lt_cap h.2 cap_2p64⟩
theorem Operands.tbCommandApply (k : Nat) : Operands.Statement (.tbCommandApply k) :=
  fun h => lt_cap (of_decide_eq_true h) cap_8
theorem Operands.tbSlewEnd (k : Nat) : Operands.Statement (.tbSlewEnd k) :=
  fun h => lt_cap (of_decide_eq_true h) cap_8
theorem Operands.tbIncrementWrite (k : Nat) (v : Nat) : Operands.Statement (.tbIncrementWrite k v) := by
  intro h
  simp only [WellFormed, wellFormed, Bool.and_eq_true, decide_eq_true_eq] at h
  exact ⟨lt_cap h.1 cap_8, lt_cap h.2 cap_2p64⟩
theorem Operands.tbModeChange (v : Nat) : Operands.Statement (.tbModeChange v) :=
  fun h => lt_cap (of_decide_eq_true h) cap_256
theorem Operands.hallAnchorWrite (v : Nat) : Operands.Statement (.hallAnchorWrite v) :=
  fun h => lt_cap (of_decide_eq_true h) cap_2p192
theorem Operands.anchorDistribution (dies : Targets) : Operands.Statement (.anchorDistribution dies) :=
  fun _ => trivial
theorem Operands.captureRecordRead (i : Nat) : Operands.Statement (.captureRecordRead i) :=
  fun h => lt_cap (of_decide_eq_true h) cap_8
theorem Operands.pulseOutputPlace (k : Nat) : Operands.Statement (.pulseOutputPlace k) :=
  fun h => lt_cap (of_decide_eq_true h) cap_4
theorem Operands.interruptEvent (src : Nat) : Operands.Statement (.interruptEvent src) :=
  fun h => lt_cap (of_decide_eq_true h) cap_512
theorem Operands.interruptAcknowledge (v : Nat) : Operands.Statement (.interruptAcknowledge v) := by
  intro h
  simp only [WellFormed, wellFormed, decide_eq_true_eq] at h
  exact lt_cap h cap_2p512
theorem Operands.busFrameSend (ringX : Nat) (ringY : Nat) : Operands.Statement (.busFrameSend ringX ringY) := by
  intro h
  simp only [WellFormed, wellFormed, Bool.and_eq_true, decide_eq_true_eq] at h
  exact ⟨lt_cap h.1 cap_2p64, lt_cap h.2 cap_2p64⟩
theorem Operands.agentLaunch (r : Nat) (edge : LocalEdge) : Operands.Statement (.agentLaunch r edge) := by
  intro h
  simp only [WellFormed, wellFormed, Bool.and_eq_true, decide_eq_true_eq] at h
  exact ⟨lt_cap h.1.1 cap_1024, lt_cap h.1.2 cap_2p68, lt_cap h.2 cap_2p64⟩
theorem Operands.agentCut (r : RegionCycles) : Operands.Statement (.agentCut r) := by
  intro h
  simp only [WellFormed, wellFormed, Bool.and_eq_true, decide_eq_true_eq] at h
  exact ⟨lt_cap h.1 cap_1024, lt_cap h.2 cap_2p64⟩
theorem Operands.agentAbort (r : RegionCycles) : Operands.Statement (.agentAbort r) := by
  intro h
  simp only [WellFormed, wellFormed, Bool.and_eq_true, decide_eq_true_eq] at h
  exact ⟨lt_cap h.1 cap_1024, lt_cap h.2 cap_2p64⟩
theorem Operands.agentCensus (r : Nat) : Operands.Statement (.agentCensus r) :=
  fun h => lt_cap (of_decide_eq_true h) cap_1024
theorem Operands.busFrameReceived (r : Nat) (lane : Nat) (frame : Nat) (built : Nat) : Operands.Statement (.busFrameReceived r lane frame built) := by
  intro h
  simp only [WellFormed, wellFormed, Bool.and_eq_true, decide_eq_true_eq] at h
  exact ⟨lt_cap h.1.1.1 cap_1024, lt_cap h.1.1.2 cap_2, lt_cap h.1.2 cap_2p256, lt_cap h.2 cap_2p32⟩
theorem Operands.tickLaneLost (r : Nat) (lane : Nat) (noClock : Bool) (built : Nat) : Operands.Statement (.tickLaneLost r lane noClock built) := by
  intro h
  simp only [WellFormed, wellFormed, Bool.and_eq_true, decide_eq_true_eq] at h
  exact ⟨lt_cap h.1.1 cap_1024, lt_cap h.1.2 cap_2, lt_cap h.2 cap_2p32⟩
theorem Operands.noLaneExpiry (r : RegionCycles) : Operands.Statement (.noLaneExpiry r) := by
  intro h
  simp only [WellFormed, wellFormed, Bool.and_eq_true, decide_eq_true_eq] at h
  exact ⟨lt_cap h.1 cap_1024, lt_cap h.2 cap_2p64⟩
theorem Operands.bypassEngage (r : Nat) : Operands.Statement (.bypassEngage r) :=
  fun h => lt_cap (of_decide_eq_true h) cap_1024
theorem Operands.bypassRelease (r : Nat) : Operands.Statement (.bypassRelease r) :=
  fun h => lt_cap (of_decide_eq_true h) cap_1024
theorem Operands.agentMarker (r : Nat) (cyc : MarkerCycles) (edge : Nat) (diff : Nat) : Operands.Statement (.agentMarker r cyc edge diff) := by
  intro h
  simp only [WellFormed, wellFormed, Bool.and_eq_true, decide_eq_true_eq] at h
  exact ⟨lt_cap h.1.1.1.1 cap_1024, lt_cap h.1.1.1.2 cap_2p64, lt_cap h.1.1.2 cap_2p64, lt_cap h.1.2 cap_2p68, lt_cap h.2 cap_2p32⟩
theorem Operands.agentLanesDisagree (r : Nat) : Operands.Statement (.agentLanesDisagree r) :=
  fun h => lt_cap (of_decide_eq_true h) cap_1024
theorem Operands.runComplete (r : Nat) (edge : Nat) : Operands.Statement (.runComplete r edge) := by
  intro h
  simp only [WellFormed, wellFormed, Bool.and_eq_true, decide_eq_true_eq] at h
  exact ⟨lt_cap h.1 cap_1024, lt_cap h.2 cap_2p68⟩
theorem Operands.runDeadline (r : RegionCycles) : Operands.Statement (.runDeadline r) := by
  intro h
  simp only [WellFormed, wellFormed, Bool.and_eq_true, decide_eq_true_eq] at h
  exact ⟨lt_cap h.1 cap_1024, lt_cap h.2 cap_2p64⟩
theorem Operands.stretchPulse (r : Nat) : Operands.Statement (.stretchPulse r) :=
  fun h => lt_cap (of_decide_eq_true h) cap_1024
theorem Operands.marginWarnEpisode (r : Nat) (ticks : Nat) : Operands.Statement (.marginWarnEpisode r ticks) := by
  intro h
  simp only [WellFormed, wellFormed, Bool.and_eq_true, decide_eq_true_eq] at h
  exact ⟨lt_cap h.1 cap_1024, lt_cap h.2 cap_2p64⟩
theorem Operands.fchgRequest (r : Nat) (e : Nat) : Operands.Statement (.fchgRequest r e) := by
  intro h
  simp only [WellFormed, wellFormed, Bool.and_eq_true, decide_eq_true_eq] at h
  exact ⟨lt_cap h.1 cap_1024, lt_cap h.2 cap_16⟩
theorem Operands.fchgGrant (r : Nat) : Operands.Statement (.fchgGrant r) :=
  fun h => lt_cap (of_decide_eq_true h) cap_1024
theorem Operands.fchgAck (r : Nat) (cyc : Nat) (edge : Nat) : Operands.Statement (.fchgAck r cyc edge) := by
  intro h
  simp only [WellFormed, wellFormed, Bool.and_eq_true, decide_eq_true_eq] at h
  exact ⟨lt_cap h.1.1 cap_1024, lt_cap h.1.2 cap_2p64, lt_cap h.2 cap_2p68⟩
theorem Operands.fchgReqLow (r : Nat) : Operands.Statement (.fchgReqLow r) :=
  fun h => lt_cap (of_decide_eq_true h) cap_1024
theorem Operands.stopWindowOverrun (r : Nat) : Operands.Statement (.stopWindowOverrun r) :=
  fun h => lt_cap (of_decide_eq_true h) cap_1024
theorem Operands.stopTimeout (r : Nat) : Operands.Statement (.stopTimeout r) :=
  fun h => lt_cap (of_decide_eq_true h) cap_1024
theorem Operands.viaductWrite (v : Nat) (data : Nat) : Operands.Statement (.viaductWrite v data) := by
  intro h
  simp only [WellFormed, wellFormed, Bool.and_eq_true, decide_eq_true_eq] at h
  exact ⟨lt_cap h.1 cap_2048, lt_cap h.2 cap_2p1024⟩
theorem Operands.viaductRead (v : Nat) (cycle : Nat) : Operands.Statement (.viaductRead v cycle) := by
  intro h
  simp only [WellFormed, wellFormed, Bool.and_eq_true, decide_eq_true_eq] at h
  exact ⟨lt_cap h.1 cap_2048, lt_cap h.2 cap_2p64⟩
theorem Operands.viaductStalledDelivery (v : Nat) : Operands.Statement (.viaductStalledDelivery v) :=
  fun h => lt_cap (of_decide_eq_true h) cap_2048
theorem Operands.viaductTickDelivery (v : Nat) : Operands.Statement (.viaductTickDelivery v) :=
  fun h => lt_cap (of_decide_eq_true h) cap_2048
theorem Operands.viaductSever (v : Nat) : Operands.Statement (.viaductSever v) :=
  fun h => lt_cap (of_decide_eq_true h) cap_2048
theorem Operands.tableCommit (t : Nat) : Operands.Statement (.tableCommit t) :=
  fun h => lt_cap (of_decide_eq_true h) cap_16
theorem Operands.tableCommitDone (t : Nat) : Operands.Statement (.tableCommitDone t) :=
  fun h => lt_cap (of_decide_eq_true h) cap_16
theorem Operands.tableEmpty (t : Nat) : Operands.Statement (.tableEmpty t) :=
  fun h => lt_cap (of_decide_eq_true h) cap_16
theorem Operands.tableStorageError (t : Nat) (k : Nat) : Operands.Statement (.tableStorageError t k) := by
  intro h
  simp only [WellFormed, wellFormed, Bool.and_eq_true, decide_eq_true_eq] at h
  exact ⟨lt_cap h.1 cap_16, lt_cap h.2 cap_4096⟩
theorem Operands.actionCommit (c : Nat) : Operands.Statement (.actionCommit c) :=
  fun h => lt_cap (of_decide_eq_true h) cap_64
theorem Operands.entryNop (c : Nat) : Operands.Statement (.entryNop c) :=
  fun h => lt_cap (of_decide_eq_true h) cap_64
theorem Operands.entryWait (c : Nat) : Operands.Statement (.entryWait c) :=
  fun h => lt_cap (of_decide_eq_true h) cap_64
theorem Operands.waitResume (c : Nat) : Operands.Statement (.waitResume c) :=
  fun h => lt_cap (of_decide_eq_true h) cap_64
theorem Operands.entrySignal (c : Nat) : Operands.Statement (.entrySignal c) :=
  fun h => lt_cap (of_decide_eq_true h) cap_64
theorem Operands.entryArrive (c : Nat) : Operands.Statement (.entryArrive c) :=
  fun h => lt_cap (of_decide_eq_true h) cap_64
theorem Operands.entryClear (c : Nat) : Operands.Statement (.entryClear c) :=
  fun h => lt_cap (of_decide_eq_true h) cap_64
theorem Operands.entryBranch (c : Nat) : Operands.Statement (.entryBranch c) :=
  fun h => lt_cap (of_decide_eq_true h) cap_64
theorem Operands.entryGate (c : Nat) : Operands.Statement (.entryGate c) :=
  fun h => lt_cap (of_decide_eq_true h) cap_64
theorem Operands.entryMark (c : Nat) : Operands.Statement (.entryMark c) :=
  fun h => lt_cap (of_decide_eq_true h) cap_64
theorem Operands.entryAudit (c : Nat) : Operands.Statement (.entryAudit c) :=
  fun h => lt_cap (of_decide_eq_true h) cap_64
theorem Operands.entryPulse (c : Nat) : Operands.Statement (.entryPulse c) :=
  fun h => lt_cap (of_decide_eq_true h) cap_64
theorem Operands.entryLoop (c : Nat) : Operands.Statement (.entryLoop c) :=
  fun h => lt_cap (of_decide_eq_true h) cap_64
theorem Operands.entryEnd (c : Nat) : Operands.Statement (.entryEnd c) :=
  fun h => lt_cap (of_decide_eq_true h) cap_64
theorem Operands.markRead (c : Nat) : Operands.Statement (.markRead c) :=
  fun h => lt_cap (of_decide_eq_true h) cap_64
theorem Operands.releaseAccumulator (v : Nat) : Operands.Statement (.releaseAccumulator v) :=
  fun h => lt_cap (of_decide_eq_true h) cap_2p64
theorem Operands.deadlineEvaluation (c : Nat) : Operands.Statement (.deadlineEvaluation c) :=
  fun h => lt_cap (of_decide_eq_true h) cap_64
theorem Operands.stepEnd (c : Nat) : Operands.Statement (.stepEnd c) :=
  fun h => lt_cap (of_decide_eq_true h) cap_64
theorem Operands.armReceived (p : Nat) : Operands.Statement (.armReceived p) :=
  fun h => lt_cap (of_decide_eq_true h) cap_128
theorem Operands.armAckHeldRelease (c : Nat) : Operands.Statement (.armAckHeldRelease c) :=
  fun h => lt_cap (of_decide_eq_true h) cap_64
theorem Operands.confirmReceived (p : Nat) : Operands.Statement (.confirmReceived p) :=
  fun h => lt_cap (of_decide_eq_true h) cap_128
theorem Operands.recallReceived (p : Nat) : Operands.Statement (.recallReceived p) :=
  fun h => lt_cap (of_decide_eq_true h) cap_128
theorem Operands.escrowGuardExpiry (c : Nat) : Operands.Statement (.escrowGuardExpiry c) :=
  fun h => lt_cap (of_decide_eq_true h) cap_64
theorem Operands.stepFire (c : Nat) : Operands.Statement (.stepFire c) :=
  fun h => lt_cap (of_decide_eq_true h) cap_64
theorem Operands.recalledFReached (c : Nat) : Operands.Statement (.recalledFReached c) :=
  fun h => lt_cap (of_decide_eq_true h) cap_64
theorem Operands.headArmLeave (k : Nat) : Operands.Statement (.headArmLeave k) :=
  fun h => lt_cap (of_decide_eq_true h) cap_256
theorem Operands.escrowHandoffReceived (p : Nat) : Operands.Statement (.escrowHandoffReceived p) :=
  fun h => lt_cap (of_decide_eq_true h) cap_128
theorem Operands.escrowHandoffMissing (k : Nat) : Operands.Statement (.escrowHandoffMissing k) :=
  fun h => lt_cap (of_decide_eq_true h) cap_256
theorem Operands.escrowDownForward (p : Nat) : Operands.Statement (.escrowDownForward p) :=
  fun h => lt_cap (of_decide_eq_true h) cap_128
theorem Operands.armAckReceived (p : Nat) : Operands.Statement (.armAckReceived p) :=
  fun h => lt_cap (of_decide_eq_true h) cap_128
theorem Operands.escrowSetChange (p : Nat) : Operands.Statement (.escrowSetChange p) :=
  fun h => lt_cap (of_decide_eq_true h) cap_128
theorem Operands.escrowHorizon (span : Nat) (ctx : Nat) (step : Nat) (attempt : Nat) : Operands.Statement (.escrowHorizon span ctx step attempt) := by
  intro h
  simp only [WellFormed, wellFormed, Bool.and_eq_true, decide_eq_true_eq] at h
  exact ⟨lt_cap h.1.1.1 cap_65536, lt_cap h.1.1.2 cap_64, lt_cap h.1.2 cap_2p48, lt_cap h.2 cap_256⟩
theorem Operands.totalReceived (p : Nat) : Operands.Statement (.totalReceived p) :=
  fun h => lt_cap (of_decide_eq_true h) cap_128
theorem Operands.escrowDecision (k : Nat) : Operands.Statement (.escrowDecision k) :=
  fun h => lt_cap (of_decide_eq_true h) cap_256
theorem Operands.twinLost : Operands.Statement (.twinLost) :=
  fun _ => trivial
theorem Operands.twinLeadReceived (p : Nat) : Operands.Statement (.twinLeadReceived p) :=
  fun h => lt_cap (of_decide_eq_true h) cap_128
theorem Operands.leadReclaim : Operands.Statement (.leadReclaim) :=
  fun _ => trivial
theorem Operands.twinLeadSend : Operands.Statement (.twinLeadSend) :=
  fun _ => trivial
theorem Operands.headEntryStart (k : Nat) : Operands.Statement (.headEntryStart k) :=
  fun h => lt_cap (of_decide_eq_true h) cap_256
theorem Operands.headEntryStopAfter (k : Nat) : Operands.Statement (.headEntryStopAfter k) :=
  fun h => lt_cap (of_decide_eq_true h) cap_256
theorem Operands.headEntryStopNow (k : Nat) : Operands.Statement (.headEntryStopNow k) :=
  fun h => lt_cap (of_decide_eq_true h) cap_256
theorem Operands.tallyInit (r : Nat) (core : Nat) (req : Nat) (cyc : Nat) (inside : Bool) : Operands.Statement (.tallyInit r core req cyc inside) := by
  intro h
  simp only [WellFormed, wellFormed, Bool.and_eq_true, decide_eq_true_eq] at h
  exact ⟨lt_cap h.1.1.1 cap_1024, lt_cap h.1.1.2 cap_2p20, lt_cap h.1.2 cap_2p190, lt_cap h.2 cap_2p64⟩
theorem Operands.tallySignal (r : Nat) (core : Nat) (req : Nat) (cyc : Nat) (inside : Bool) : Operands.Statement (.tallySignal r core req cyc inside) := by
  intro h
  simp only [WellFormed, wellFormed, Bool.and_eq_true, decide_eq_true_eq] at h
  exact ⟨lt_cap h.1.1.1 cap_1024, lt_cap h.1.1.2 cap_2p20, lt_cap h.1.2 cap_2p190, lt_cap h.2 cap_2p64⟩
theorem Operands.tallyArrive (r : Nat) (core : Nat) (req : Nat) (cyc : Nat) (inside : Bool) : Operands.Statement (.tallyArrive r core req cyc inside) := by
  intro h
  simp only [WellFormed, wellFormed, Bool.and_eq_true, decide_eq_true_eq] at h
  exact ⟨lt_cap h.1.1.1 cap_1024, lt_cap h.1.1.2 cap_2p20, lt_cap h.1.2 cap_2p190, lt_cap h.2 cap_2p64⟩
theorem Operands.tallyWait (r : Nat) (core : Nat) (req : Nat) (cyc : Nat) (inside : Bool) : Operands.Statement (.tallyWait r core req cyc inside) := by
  intro h
  simp only [WellFormed, wellFormed, Bool.and_eq_true, decide_eq_true_eq] at h
  exact ⟨lt_cap h.1.1.1 cap_1024, lt_cap h.1.1.2 cap_2p20, lt_cap h.1.2 cap_2p190, lt_cap h.2 cap_2p64⟩
theorem Operands.tallyUpMessage (p : Nat) : Operands.Statement (.tallyUpMessage p) :=
  fun h => lt_cap (of_decide_eq_true h) cap_128
theorem Operands.arriveCombineSend (slot : Nat) : Operands.Statement (.arriveCombineSend slot) :=
  fun h => lt_cap (of_decide_eq_true h) cap_65536
theorem Operands.slotDecision (slot : Nat) : Operands.Statement (.slotDecision slot) :=
  fun h => lt_cap (of_decide_eq_true h) cap_65536
theorem Operands.immediateDecision (slot : Nat) : Operands.Statement (.immediateDecision slot) :=
  fun h => lt_cap (of_decide_eq_true h) cap_65536
theorem Operands.tallyReleaseReceived (p : Nat) (moved : Bool) : Operands.Statement (.tallyReleaseReceived p moved) :=
  fun h => lt_cap (of_decide_eq_true h) cap_128
theorem Operands.tallyDownForward (p : Nat) : Operands.Statement (.tallyDownForward p) :=
  fun h => lt_cap (of_decide_eq_true h) cap_128
theorem Operands.ledgerDecision (c : Nat) (slot : Nat) : Operands.Statement (.ledgerDecision c slot) := by
  intro h
  simp only [WellFormed, wellFormed, Bool.and_eq_true, decide_eq_true_eq] at h
  exact ⟨lt_cap h.1 cap_64, lt_cap h.2 cap_65536⟩
theorem Operands.releaseTick (c : Nat) (slot : Nat) : Operands.Statement (.releaseTick c slot) := by
  intro h
  simp only [WellFormed, wellFormed, Bool.and_eq_true, decide_eq_true_eq] at h
  exact ⟨lt_cap h.1 cap_64, lt_cap h.2 cap_65536⟩
theorem Operands.ledgerReport (r : Nat) (account : Nat) (bytes : Nat) : Operands.Statement (.ledgerReport r account bytes) := by
  intro h
  simp only [WellFormed, wellFormed, Bool.and_eq_true, decide_eq_true_eq] at h
  exact ⟨lt_cap h.1.1 cap_1024, lt_cap h.1.2 cap_4096, lt_cap h.2 cap_2p32⟩
theorem Operands.accountTableWrite (first : Nat) (vals : List Nat) : Operands.Statement (.accountTableWrite first vals) :=
  fun h => lt_cap (of_decide_eq_true h) cap_4096
theorem Operands.translationWrite (c : Nat) (first : Nat) (vals : List Nat) : Operands.Statement (.translationWrite c first vals) := by
  intro h
  simp only [WellFormed, wellFormed, Bool.and_eq_true, decide_eq_true_eq] at h
  exact ⟨lt_cap h.1 cap_64, lt_cap h.2 cap_4096⟩
theorem Operands.tallyWaitTimeout (span : Bool) (c : Nat) (tally : Nat) (unit : Nat) : Operands.Statement (.tallyWaitTimeout span c tally unit) := by
  intro h
  simp only [WellFormed, wellFormed, Bool.and_eq_true, decide_eq_true_eq] at h
  exact ⟨lt_cap h.1.1 cap_64, lt_cap h.1.2 cap_2p26, lt_cap h.2 cap_2p50⟩
theorem Operands.hostTallySignal (h : Nat) (cmd : Nat) : Operands.Statement (.hostTallySignal h cmd) := by
  intro h
  simp only [WellFormed, wellFormed, Bool.and_eq_true, decide_eq_true_eq] at h
  exact ⟨lt_cap h.1 cap_8, lt_cap h.2 cap_2p256⟩
theorem Operands.hostTallyArrive (h : Nat) (cmd : Nat) : Operands.Statement (.hostTallyArrive h cmd) := by
  intro h
  simp only [WellFormed, wellFormed, Bool.and_eq_true, decide_eq_true_eq] at h
  exact ⟨lt_cap h.1 cap_8, lt_cap h.2 cap_2p256⟩
theorem Operands.hostTallyWait (h : Nat) (cmd : Nat) : Operands.Statement (.hostTallyWait h cmd) := by
  intro h
  simp only [WellFormed, wellFormed, Bool.and_eq_true, decide_eq_true_eq] at h
  exact ⟨lt_cap h.1 cap_8, lt_cap h.2 cap_2p256⟩
theorem Operands.hostCancelWait (h : Nat) : Operands.Statement (.hostCancelWait h) :=
  fun h => lt_cap (of_decide_eq_true h) cap_8
theorem Operands.descriptorWrite (d : Nat) (v : Nat) : Operands.Statement (.descriptorWrite d v) := by
  intro h
  simp only [WellFormed, wellFormed, Bool.and_eq_true, decide_eq_true_eq] at h
  exact ⟨lt_cap h.1 cap_256, lt_cap h.2 cap_2p256⟩
theorem Operands.contributionWrite (c : Nat) (h : Nat) (block : List Nat) : Operands.Statement (.contributionWrite c h block) := by
  intro h
  simp only [WellFormed, wellFormed, Bool.and_eq_true, decide_eq_true_eq] at h
  exact ⟨lt_cap h.1 cap_64, lt_cap h.2 cap_16⟩
theorem Operands.partialReceived (p : Nat) : Operands.Statement (.partialReceived p) :=
  fun h => lt_cap (of_decide_eq_true h) cap_128
theorem Operands.elementSendUp (e : Nat) : Operands.Statement (.elementSendUp e) :=
  fun h => lt_cap (of_decide_eq_true h) cap_16
theorem Operands.headRoundElement (e : Nat) : Operands.Statement (.headRoundElement e) :=
  fun h => lt_cap (of_decide_eq_true h) cap_16
theorem Operands.headSendEnd (e : Nat) : Operands.Statement (.headSendEnd e) :=
  fun h => lt_cap (of_decide_eq_true h) cap_16
theorem Operands.resultForward (p : Nat) : Operands.Statement (.resultForward p) :=
  fun h => lt_cap (of_decide_eq_true h) cap_128
theorem Operands.resultReceived (p : Nat) : Operands.Statement (.resultReceived p) :=
  fun h => lt_cap (of_decide_eq_true h) cap_128
theorem Operands.clearingResultTimeout (c : Nat) (h : Nat) : Operands.Statement (.clearingResultTimeout c h) := by
  intro h
  simp only [WellFormed, wellFormed, Bool.and_eq_true, decide_eq_true_eq] at h
  exact ⟨lt_cap h.1 cap_64, lt_cap h.2 cap_16⟩
theorem Operands.engineConfigure (e : Nat) (v : Nat) : Operands.Statement (.engineConfigure e v) := by
  intro h
  simp only [WellFormed, wellFormed, Bool.and_eq_true, decide_eq_true_eq] at h
  exact ⟨lt_cap h.1 cap_16, lt_cap h.2 cap_2p320⟩
theorem Operands.clearingStorageError (u : Who) (x : Nat) (k : Nat) : Operands.Statement (.clearingStorageError u x k) := by
  intro h
  simp only [WellFormed, wellFormed, Bool.and_eq_true, decide_eq_true_eq] at h
  exact ⟨lt_cap h.1 cap_1024, lt_cap h.2 cap_4096⟩
theorem Operands.strictWrite (v : Nat) : Operands.Statement (.strictWrite v) :=
  fun h => lt_cap (of_decide_eq_true h) cap_2p64
theorem Operands.keyRecompute (reason : Nat) : Operands.Statement (.keyRecompute reason) :=
  fun h => lt_cap (of_decide_eq_true h) cap_7
theorem Operands.keyRecomputeDone : Operands.Statement (.keyRecomputeDone) :=
  fun _ => trivial
theorem Operands.mintSegment (r : Nat) (entry : Nat) (chunk : Nat) (ex : Nat) (tick : Nat) (data : List Nat) : Operands.Statement (.mintSegment r entry chunk ex tick data) := by
  intro h
  simp only [WellFormed, wellFormed, Bool.and_eq_true, decide_eq_true_eq] at h
  exact ⟨lt_cap h.1.1.1.1.1 cap_1024, lt_cap h.1.1.1.1.2 cap_4096, lt_cap h.1.1.1.2 cap_2p38, lt_cap h.1.1.2 cap_21, lt_cap h.1.2 cap_2p64⟩
theorem Operands.chainingValuePosted (r : Nat) : Operands.Statement (.chainingValuePosted r) :=
  fun h => lt_cap (of_decide_eq_true h) cap_1024
theorem Operands.tagComplete (c : Nat) : Operands.Statement (.tagComplete c) :=
  fun h => lt_cap (of_decide_eq_true h) cap_64
theorem Operands.journalRecord (typ : Nat) (addr : Nat) (data : List Nat) : Operands.Statement (.journalRecord typ addr data) := by
  intro h
  simp only [WellFormed, wellFormed, Bool.and_eq_true, decide_eq_true_eq] at h
  exact ⟨lt_cap h.1.1 cap_7, lt_cap h.1.2 cap_2p32⟩
theorem Operands.journalResend (seq : Nat) : Operands.Statement (.journalResend seq) :=
  fun h => lt_cap (of_decide_eq_true h) cap_2p32
theorem Operands.journalAckReceived (u : Who) (p : Nat) : Operands.Statement (.journalAckReceived u p) :=
  fun h => lt_cap (of_decide_eq_true h) cap_128
theorem Operands.journalStore (p : Nat) : Operands.Statement (.journalStore p) :=
  fun h => lt_cap (of_decide_eq_true h) cap_128
theorem Operands.tagMessageReceived (p : Nat) : Operands.Statement (.tagMessageReceived p) :=
  fun h => lt_cap (of_decide_eq_true h) cap_128
theorem Operands.trailClose (span : Nat) (ctx : Nat) (step : Nat) : Operands.Statement (.trailClose span ctx step) := by
  intro h
  simp only [WellFormed, wellFormed, Bool.and_eq_true, decide_eq_true_eq] at h
  exact ⟨lt_cap h.1.1 cap_65536, lt_cap h.1.2 cap_64, lt_cap h.2 cap_2p48⟩
theorem Operands.replayStart : Operands.Statement (.replayStart) :=
  fun _ => trivial
theorem Operands.replayStop : Operands.Statement (.replayStop) :=
  fun _ => trivial
theorem Operands.replayInject (data : List Nat) : Operands.Statement (.replayInject data) :=
  fun _ => trivial
theorem Operands.replayRecordReceived (u : Who) (p : Nat) : Operands.Statement (.replayRecordReceived u p) :=
  fun h => lt_cap (of_decide_eq_true h) cap_128
theorem Operands.replayApply (seq : Nat) (data : List Nat) : Operands.Statement (.replayApply seq data) := by
  intro h
  simp only [WellFormed, wellFormed, Bool.and_eq_true, decide_eq_true_eq] at h
  exact lt_cap h.1 cap_2p32
theorem Operands.journaledInputSuppress (oid : Nat) : Operands.Statement (.journaledInputSuppress oid) :=
  fun h => lt_cap (of_decide_eq_true h) cap_2p24
theorem Operands.faultRecordRead (u : Who) : Operands.Statement (.faultRecordRead u) :=
  fun _ => trivial
theorem Operands.clearFirstRecord (u : Who) : Operands.Statement (.clearFirstRecord u) :=
  fun _ => trivial
theorem Operands.faultWaveReceived (p : Nat) : Operands.Statement (.faultWaveReceived p) :=
  fun h => lt_cap (of_decide_eq_true h) cap_128
theorem Operands.settleWindowEnd (c : Nat) : Operands.Statement (.settleWindowEnd c) :=
  fun h => lt_cap (of_decide_eq_true h) cap_64
theorem Operands.spanPathLost (c : Nat) : Operands.Statement (.spanPathLost c) :=
  fun h => lt_cap (of_decide_eq_true h) cap_64
theorem Operands.heartbeat (r : Nat) (info : Nat) : Operands.Statement (.heartbeat r info) := by
  intro h
  simp only [WellFormed, wellFormed, Bool.and_eq_true, decide_eq_true_eq] at h
  exact ⟨lt_cap h.1 cap_1024, lt_cap h.2 cap_2p32⟩
theorem Operands.heartbeatWindowExpiry (r : Nat) : Operands.Statement (.heartbeatWindowExpiry r) :=
  fun h => lt_cap (of_decide_eq_true h) cap_1024
theorem Operands.contextResetAck (r : Nat) : Operands.Statement (.contextResetAck r) :=
  fun h => lt_cap (of_decide_eq_true h) cap_1024
theorem Operands.resetLimitExpiry (r : Nat) : Operands.Statement (.resetLimitExpiry r) :=
  fun h => lt_cap (of_decide_eq_true h) cap_1024
theorem Operands.isolationLimitExpiry (r : Nat) : Operands.Statement (.isolationLimitExpiry r) :=
  fun h => lt_cap (of_decide_eq_true h) cap_1024
theorem Operands.powerCycleDone (r : Nat) : Operands.Statement (.powerCycleDone r) :=
  fun h => lt_cap (of_decide_eq_true h) cap_1024
theorem Operands.powerCycleLimitExpiry (r : Nat) : Operands.Statement (.powerCycleLimitExpiry r) :=
  fun h => lt_cap (of_decide_eq_true h) cap_1024
theorem Operands.ladderPowerCycle (r : Nat) : Operands.Statement (.ladderPowerCycle r) :=
  fun h => lt_cap (of_decide_eq_true h) cap_1024
theorem Operands.ladderRestoreLost (r : Nat) : Operands.Statement (.ladderRestoreLost r) :=
  fun h => lt_cap (of_decide_eq_true h) cap_1024
theorem Operands.ladderReleaseHold (r : Nat) : Operands.Statement (.ladderReleaseHold r) :=
  fun h => lt_cap (of_decide_eq_true h) cap_1024
theorem Operands.ladderDeclareLost (r : Nat) : Operands.Statement (.ladderDeclareLost r) :=
  fun h => lt_cap (of_decide_eq_true h) cap_1024
theorem Operands.powerGoodLost (r : Nat) : Operands.Statement (.powerGoodLost r) :=
  fun h => lt_cap (of_decide_eq_true h) cap_1024
theorem Operands.hubWatchdogExpiry : Operands.Statement (.hubWatchdogExpiry) :=
  fun _ => trivial
theorem Operands.spanListAdd (item : Nat) : Operands.Statement (.spanListAdd item) :=
  fun h => lt_cap (of_decide_eq_true h) cap_2p128
theorem Operands.spanListRemove (item : Nat) : Operands.Statement (.spanListRemove item) :=
  fun h => lt_cap (of_decide_eq_true h) cap_2p128
theorem Operands.spanListMask (item : Nat) : Operands.Statement (.spanListMask item) :=
  fun h => lt_cap (of_decide_eq_true h) cap_2p128
theorem Operands.spanListHead (item : Nat) : Operands.Statement (.spanListHead item) :=
  fun h => lt_cap (of_decide_eq_true h) cap_2p128
theorem Operands.portOwn (p : Nat) (span : Nat) (epoch : Nat) : Operands.Statement (.portOwn p span epoch) := by
  intro h
  simp only [WellFormed, wellFormed, Bool.and_eq_true, decide_eq_true_eq] at h
  exact ⟨lt_cap h.1.1 cap_128, lt_cap h.1.2 cap_65536, lt_cap h.2 cap_2p32⟩
theorem Operands.portRelease (p : Nat) (epoch : Nat) : Operands.Statement (.portRelease p epoch) := by
  intro h
  simp only [WellFormed, wellFormed, Bool.and_eq_true, decide_eq_true_eq] at h
  exact ⟨lt_cap h.1 cap_128, lt_cap h.2 cap_2p32⟩
theorem Operands.portFree (p : Nat) (epoch : Nat) : Operands.Statement (.portFree p epoch) := by
  intro h
  simp only [WellFormed, wellFormed, Bool.and_eq_true, decide_eq_true_eq] at h
  exact ⟨lt_cap h.1 cap_128, lt_cap h.2 cap_2p32⟩
theorem Operands.laneEntryWrite (p : Nat) (v : Nat) : Operands.Statement (.laneEntryWrite p v) := by
  intro h
  simp only [WellFormed, wellFormed, Bool.and_eq_true, decide_eq_true_eq] at h
  exact ⟨lt_cap h.1 cap_128, lt_cap h.2 cap_2p64⟩
theorem Operands.epochCreate (span : Nat) (epoch : Nat) : Operands.Statement (.epochCreate span epoch) := by
  intro h
  simp only [WellFormed, wellFormed, Bool.and_eq_true, decide_eq_true_eq] at h
  exact ⟨lt_cap h.1 cap_65536, lt_cap h.2 cap_2p32⟩
theorem Operands.epochRelease (span : Nat) (epoch : Nat) : Operands.Statement (.epochRelease span epoch) := by
  intro h
  simp only [WellFormed, wellFormed, Bool.and_eq_true, decide_eq_true_eq] at h
  exact ⟨lt_cap h.1 cap_65536, lt_cap h.2 cap_2p32⟩
theorem Operands.epochAdvance (span : Nat) (epoch : Nat) : Operands.Statement (.epochAdvance span epoch) := by
  intro h
  simp only [WellFormed, wellFormed, Bool.and_eq_true, decide_eq_true_eq] at h
  exact ⟨lt_cap h.1 cap_65536, lt_cap h.2 cap_2p32⟩
theorem Operands.twinEpochReceived (p : Nat) : Operands.Statement (.twinEpochReceived p) :=
  fun h => lt_cap (of_decide_eq_true h) cap_128
theorem Operands.epochCopyDistribute (hubs : Targets) : Operands.Statement (.epochCopyDistribute hubs) :=
  fun _ => trivial
theorem Operands.healthIntervalEnd : Operands.Statement (.healthIntervalEnd) :=
  fun _ => trivial
theorem Operands.reportReceived (p : Nat) : Operands.Statement (.reportReceived p) :=
  fun h => lt_cap (of_decide_eq_true h) cap_128
theorem Operands.auditReceived (p : Nat) : Operands.Statement (.auditReceived p) :=
  fun h => lt_cap (of_decide_eq_true h) cap_128
theorem Operands.healthEvaluation (p : Nat) : Operands.Statement (.healthEvaluation p) :=
  fun h => lt_cap (of_decide_eq_true h) cap_128
theorem Operands.expelReceived (p : Nat) : Operands.Statement (.expelReceived p) :=
  fun h => lt_cap (of_decide_eq_true h) cap_128
theorem Operands.verdictReceived (p : Nat) : Operands.Statement (.verdictReceived p) :=
  fun h => lt_cap (of_decide_eq_true h) cap_128
theorem Operands.twinHealthReceived (p : Nat) : Operands.Statement (.twinHealthReceived p) :=
  fun h => lt_cap (of_decide_eq_true h) cap_128
theorem Operands.auditMatrixHalving : Operands.Statement (.auditMatrixHalving) :=
  fun _ => trivial
theorem Operands.healthReinstate (p : Nat) : Operands.Statement (.healthReinstate p) :=
  fun h => lt_cap (of_decide_eq_true h) cap_128
theorem Operands.healthClearFences (p : Nat) : Operands.Statement (.healthClearFences p) :=
  fun h => lt_cap (of_decide_eq_true h) cap_128
theorem Operands.healthClearMatrix (p : Nat) : Operands.Statement (.healthClearMatrix p) :=
  fun h => lt_cap (of_decide_eq_true h) cap_128
theorem Operands.censusCommand (v : Nat) : Operands.Statement (.censusCommand v) :=
  fun h => lt_cap (of_decide_eq_true h) cap_2p192
theorem Operands.latchReceived (u : Who) (p : Nat) : Operands.Statement (.latchReceived u p) :=
  fun h => lt_cap (of_decide_eq_true h) cap_128
theorem Operands.censusLatch (u : Who) : Operands.Statement (.censusLatch u) :=
  fun _ => trivial
theorem Operands.eventSourceWrite (u : Who) (k : Nat) (v : Nat) : Operands.Statement (.eventSourceWrite u k v) := by
  intro h
  simp only [WellFormed, wellFormed, Bool.and_eq_true, decide_eq_true_eq] at h
  exact ⟨lt_cap h.1 cap_8256, lt_cap h.2 cap_65536⟩
theorem Operands.regWordRead (addr : Nat) (width : Nat) : Operands.Statement (.regWordRead addr width) := by
  intro h
  simp only [WellFormed, wellFormed, Bool.and_eq_true, decide_eq_true_eq] at h
  exact ⟨lt_cap h.1 cap_2p28, lt_cap h.2 cap_17⟩
theorem Operands.regWordWrite (addr : Nat) (width : Nat) (v : Nat) : Operands.Statement (.regWordWrite addr width v) := by
  intro h
  simp only [WellFormed, wellFormed, Bool.and_eq_true, decide_eq_true_eq] at h
  exact ⟨lt_cap h.1.1 cap_2p28, lt_cap h.1.2 cap_17, lt_cap h.2 cap_2p32⟩
theorem Operands.longOpenRead (obj : Nat) : Operands.Statement (.longOpenRead obj) :=
  fun h => lt_cap (of_decide_eq_true h) cap_2p24
theorem Operands.longOpenWrite (obj : Nat) : Operands.Statement (.longOpenWrite obj) :=
  fun h => lt_cap (of_decide_eq_true h) cap_2p24
theorem Operands.longCommit (obj : Nat) : Operands.Statement (.longCommit obj) :=
  fun h => lt_cap (of_decide_eq_true h) cap_2p24
theorem Operands.longAbandon (obj : Nat) : Operands.Statement (.longAbandon obj) :=
  fun h => lt_cap (of_decide_eq_true h) cap_2p24
theorem Operands.longDataAccess (obj : Nat) (write : Bool) (v : Nat) : Operands.Statement (.longDataAccess obj write v) := by
  intro h
  simp only [WellFormed, wellFormed, Bool.and_eq_true, decide_eq_true_eq] at h
  exact ⟨lt_cap h.1 cap_2p24, lt_cap h.2 cap_2p32⟩
theorem Operands.longPositionWrite (obj : Nat) (v : Nat) : Operands.Statement (.longPositionWrite obj v) := by
  intro h
  simp only [WellFormed, wellFormed, Bool.and_eq_true, decide_eq_true_eq] at h
  exact ⟨lt_cap h.1 cap_2p24, lt_cap h.2 cap_2p32⟩
theorem Operands.transferAbandonTimeout (u : Who) (route : Nat) : Operands.Statement (.transferAbandonTimeout u route) :=
  fun h => lt_cap (of_decide_eq_true h) cap_34
theorem Operands.objectWrite (u : Who) (obj : Nat) (off : Nat) (data : List Nat) : Operands.Statement (.objectWrite u obj off data) := by
  intro h
  simp only [WellFormed, wellFormed, Bool.and_eq_true, decide_eq_true_eq] at h
  exact ⟨lt_cap h.1.1 cap_2p24, lt_cap h.1.2 cap_65536⟩
theorem Operands.objectReadRequest (u : Who) (p : Nat) : Operands.Statement (.objectReadRequest u p) :=
  fun h => lt_cap (of_decide_eq_true h) cap_128
theorem Operands.objectWriteRequest (u : Who) (p : Nat) : Operands.Statement (.objectWriteRequest u p) :=
  fun h => lt_cap (of_decide_eq_true h) cap_128
theorem Operands.objectResponseReceived (p : Nat) : Operands.Statement (.objectResponseReceived p) :=
  fun h => lt_cap (of_decide_eq_true h) cap_128
theorem Operands.objectAbandon (u : Who) (p : Nat) : Operands.Statement (.objectAbandon u p) :=
  fun h => lt_cap (of_decide_eq_true h) cap_128
theorem Operands.objectRelayForward (p : Nat) : Operands.Statement (.objectRelayForward p) :=
  fun h => lt_cap (of_decide_eq_true h) cap_128
theorem Operands.relayTimeout (tag : Nat) : Operands.Statement (.relayTimeout tag) :=
  fun h => lt_cap (of_decide_eq_true h) cap_4096
theorem Operands.goaRequest (port : Nat) (addr : Nat) (dgram : List Nat) : Operands.Statement (.goaRequest port addr dgram) := by
  intro h
  simp only [WellFormed, wellFormed, Bool.and_eq_true, decide_eq_true_eq] at h
  exact ⟨lt_cap h.1.1 cap_2, lt_cap h.1.2 cap_2p128⟩
theorem Operands.goaResponseSend (op : Nat) : Operands.Statement (.goaResponseSend op) :=
  fun h => lt_cap (of_decide_eq_true h) cap_16
theorem Operands.functionDisable (u : Who) (f : Nat) : Operands.Statement (.functionDisable u f) :=
  fun h => lt_cap (of_decide_eq_true h) cap_9
theorem Operands.functionEnable (u : Who) (f : Nat) : Operands.Statement (.functionEnable u f) :=
  fun h => lt_cap (of_decide_eq_true h) cap_9
theorem Operands.functionDrained (u : Who) (f : Nat) : Operands.Statement (.functionDrained u f) :=
  fun h => lt_cap (of_decide_eq_true h) cap_9
theorem Operands.drainTimeout (u : Who) (f : Nat) : Operands.Statement (.drainTimeout u f) :=
  fun h => lt_cap (of_decide_eq_true h) cap_9
theorem Operands.regionReqActive (r : Nat) : Operands.Statement (.regionReqActive r) :=
  fun h => lt_cap (of_decide_eq_true h) cap_1024
theorem Operands.regionReqDoze (r : Nat) : Operands.Statement (.regionReqDoze r) :=
  fun h => lt_cap (of_decide_eq_true h) cap_1024
theorem Operands.regionReqRetain (r : Nat) : Operands.Statement (.regionReqRetain r) :=
  fun h => lt_cap (of_decide_eq_true h) cap_1024
theorem Operands.regionReqOff (r : Nat) : Operands.Statement (.regionReqOff r) :=
  fun h => lt_cap (of_decide_eq_true h) cap_1024
theorem Operands.regionReqFence (r : Nat) : Operands.Statement (.regionReqFence r) :=
  fun h => lt_cap (of_decide_eq_true h) cap_1024
theorem Operands.regionForcedFence (r : Nat) : Operands.Statement (.regionForcedFence r) :=
  fun h => lt_cap (of_decide_eq_true h) cap_1024
theorem Operands.regionUnfence (r : Nat) : Operands.Statement (.regionUnfence r) :=
  fun h => lt_cap (of_decide_eq_true h) cap_1024
theorem Operands.regionPwrReqChange (r : Nat) (v : Nat) : Operands.Statement (.regionPwrReqChange r v) := by
  intro h
  simp only [WellFormed, wellFormed, Bool.and_eq_true, decide_eq_true_eq] at h
  exact ⟨lt_cap h.1 cap_1024, lt_cap h.2 cap_4⟩
theorem Operands.powerGrant (r : Nat) : Operands.Statement (.powerGrant r) :=
  fun h => lt_cap (of_decide_eq_true h) cap_1024
theorem Operands.powerDelayExpiry (r : Nat) : Operands.Statement (.powerDelayExpiry r) :=
  fun h => lt_cap (of_decide_eq_true h) cap_1024
theorem Operands.pwrRdyChange (r : Nat) (high : Bool) : Operands.Statement (.pwrRdyChange r high) :=
  fun h => lt_cap (of_decide_eq_true h) cap_1024
theorem Operands.handshakeLimitExpiry (r : Nat) : Operands.Statement (.handshakeLimitExpiry r) :=
  fun h => lt_cap (of_decide_eq_true h) cap_1024
theorem Operands.pgoodFallGranted (r : Nat) : Operands.Statement (.pgoodFallGranted r) :=
  fun h => lt_cap (of_decide_eq_true h) cap_1024
theorem Operands.pgoodFallLimitExpiry (r : Nat) : Operands.Statement (.pgoodFallLimitExpiry r) :=
  fun h => lt_cap (of_decide_eq_true h) cap_1024
theorem Operands.powerStageReady (r : Nat) : Operands.Statement (.powerStageReady r) :=
  fun h => lt_cap (of_decide_eq_true h) cap_1024
theorem Operands.powerStageTimeout (r : Nat) : Operands.Statement (.powerStageTimeout r) :=
  fun h => lt_cap (of_decide_eq_true h) cap_1024
theorem Operands.vaultWriteThrough (obj : Nat) : Operands.Statement (.vaultWriteThrough obj) :=
  fun h => lt_cap (of_decide_eq_true h) cap_2p24
theorem Operands.sleepRequest : Operands.Statement (.sleepRequest) :=
  fun _ => trivial
theorem Operands.sleepWithdraw : Operands.Statement (.sleepWithdraw) :=
  fun _ => trivial
theorem Operands.tsuReset : Operands.Statement (.tsuReset) :=
  fun _ => trivial
theorem Operands.tsuStartupStageDone (img : List Nat) : Operands.Statement (.tsuStartupStageDone img) :=
  fun _ => trivial
theorem Operands.startupStageTimeout (u : Who) : Operands.Statement (.startupStageTimeout u) :=
  fun _ => trivial
theorem Operands.configRefetch : Operands.Statement (.configRefetch) :=
  fun _ => trivial
theorem Operands.hubSentinelCommand : Operands.Statement (.hubSentinelCommand) :=
  fun _ => trivial
theorem Operands.hubOffCommand : Operands.Statement (.hubOffCommand) :=
  fun _ => trivial
theorem Operands.sentinelVisit (stamp : Nat) : Operands.Statement (.sentinelVisit stamp) :=
  fun h => lt_cap (of_decide_eq_true h) cap_2p80
theorem Operands.sentinelPong (p : Nat) (periods : Nat) : Operands.Statement (.sentinelPong p periods) := by
  intro h
  simp only [WellFormed, wellFormed, Bool.and_eq_true, decide_eq_true_eq] at h
  exact ⟨lt_cap h.1 cap_128, lt_cap h.2 cap_65536⟩
theorem Operands.sentinelWake (cause : Nat) (p : Nat) : Operands.Statement (.sentinelWake cause p) := by
  intro h
  simp only [WellFormed, wellFormed, Bool.and_eq_true, decide_eq_true_eq] at h
  exact ⟨lt_cap h.1 cap_4, lt_cap h.2 cap_128⟩
theorem Operands.hubStartupStageDone (img : List Nat) : Operands.Statement (.hubStartupStageDone img) :=
  fun _ => trivial
theorem Operands.firmwareUpdateBegin (len : Nat) (dig : Nat) : Operands.Statement (.firmwareUpdateBegin len dig) := by
  intro h
  simp only [WellFormed, wellFormed, Bool.and_eq_true, decide_eq_true_eq] at h
  exact ⟨lt_cap h.1 cap_2p32, lt_cap h.2 cap_2p256⟩
theorem Operands.firmwareSegmentWrite (data : List Nat) : Operands.Statement (.firmwareSegmentWrite data) :=
  fun _ => trivial
theorem Operands.firmwareUpdateCommit : Operands.Statement (.firmwareUpdateCommit) :=
  fun _ => trivial
theorem Operands.firmwareUpdateAbandon : Operands.Statement (.firmwareUpdateAbandon) :=
  fun _ => trivial
theorem Operands.firmwareTwinRecovery (p : Nat) : Operands.Statement (.firmwareTwinRecovery p) :=
  fun h => lt_cap (of_decide_eq_true h) cap_128
theorem Operands.twinFirmwareRequest (p : Nat) : Operands.Statement (.twinFirmwareRequest p) :=
  fun h => lt_cap (of_decide_eq_true h) cap_128
theorem Operands.flashWriteBack (obj : Nat) : Operands.Statement (.flashWriteBack obj) :=
  fun h => lt_cap (of_decide_eq_true h) cap_2p24
theorem Operands.telemetryUpdate (u : Who) (v : Nat) : Operands.Statement (.telemetryUpdate u v) :=
  fun h => lt_cap (of_decide_eq_true h) cap_2p256
theorem Operands.scrubError (slot : Nat) : Operands.Statement (.scrubError slot) :=
  fun h => lt_cap (of_decide_eq_true h) cap_2p29
theorem Operands.moduleSupplyFault (kind : Nat) (mv : Nat) (ma : Nat) : Operands.Statement (.moduleSupplyFault kind mv ma) := by
  intro h
  simp only [WellFormed, wellFormed, Bool.and_eq_true, decide_eq_true_eq] at h
  exact ⟨lt_cap h.1.1 cap_5, lt_cap h.1.2 cap_2p32, lt_cap h.2 cap_2p32⟩
theorem Operands.thermalThreshold (u : Who) (kind : Nat) (port : Nat) (temp : Nat) : Operands.Statement (.thermalThreshold u kind port temp) := by
  intro h
  simp only [WellFormed, wellFormed, Bool.and_eq_true, decide_eq_true_eq] at h
  exact ⟨lt_cap h.1.1 cap_5, lt_cap h.1.2 cap_68, lt_cap h.2 cap_65536⟩
theorem Operands.partnerPower : Operands.Statement (.partnerPower) :=
  fun _ => trivial
theorem Operands.modulePowerButton : Operands.Statement (.modulePowerButton) :=
  fun _ => trivial
theorem Operands.refinCouplingSet (i : Nat) : Operands.Statement (.refinCouplingSet i) :=
  fun h => lt_cap (of_decide_eq_true h) cap_8
theorem Operands.hostLatencyCodesValid (p : Nat) (tx : Nat) (rx : Nat) : Operands.Statement (.hostLatencyCodesValid p tx rx) := by
  intro h
  simp only [WellFormed, wellFormed, Bool.and_eq_true, decide_eq_true_eq] at h
  exact ⟨lt_cap h.1.1 cap_2, lt_cap h.1.2 cap_65536, lt_cap h.2 cap_65536⟩
theorem Operands.twinHealthSend (p : Nat) : Operands.Statement (.twinHealthSend p) :=
  fun h => lt_cap (of_decide_eq_true h) cap_128
theorem Operands.firmwareRestartComplete : Operands.Statement (.firmwareRestartComplete) :=
  fun _ => trivial

end Sys2Proof.Laws
end

