-- ==== Sys2Proof/Tests/Slice0.lean ====
section
/-! SUPPORT. Small tests, each a named theorem: the checks of well-formedness, worked examples of the specification, and for every statement
with hypotheses a state that meets them. -/

set_option Elab.async false

namespace Sys2Proof.Tests

open Sys2Proof.Machine

/-- The state after reset with objects of the TSU set and its node changed. -/
def tsuAt (os : List (Nat × Nat)) (f : Node → Node := id) : State :=
  { State.reset with tsu := f (os.foldl (fun n e => n.wr e.1 e.2) State.reset.tsu) }

/-- The state after reset with objects of the hub set and its node changed. -/
def hubAt (os : List (Nat × Nat)) (f : Node → Node := id) : State :=
  { State.reset with hub := f (os.foldl (fun n e => n.wr e.1 e.2) State.reset.hub) }

/-- The state that an outcome answers. -/
def after (o : Host.Outcome State Fault Refusal) : State :=
  match o with
  | .next t => t
  | _ => State.reset

/-- An outcome is a next state. -/
def goesOn (o : Host.Outcome State Fault Refusal) : Bool :=
  match o with
  | .next _ => true
  | _ => false

/-! ### Well-formedness -/

/-- One operand out of its range makes a command ill-formed, part 1. -/
theorem test_illFormed_1 : [
    .linkEnableWrite .tsu (128) 0, .linkEnableWrite .tsu 0 (256), .linkRestart .tsu (128), .sendWakePattern .tsu (128),
    .lossOfSignal .tsu (128), .frameLockLost .tsu (128), .darkRetry .tsu (128) false, .wakeComplete .tsu (128),
    .trainLock .tsu (128), .linkStateTimeout .tsu (128), .helloReceived .tsu (128), .linkSynced .tsu (128),
    .memberHoldReached .tsu (128), .memberLockLoss .tsu (128), .frameReceived .tsu (128) 0 ⟨0, 0⟩ 0, .frameReceived .tsu 0 (2^1152) ⟨0, 0⟩ 0,
    .frameReceived .tsu 0 0 ⟨2 ^ 64, 0⟩ 0, .frameReceived .tsu 0 0 ⟨0, 512⟩ 0, .frameReceived .tsu 0 0 ⟨0, 0⟩ (72), .markerServo .tsu 65536,
    .revertHoldExpiry .tsu 65536, .frameSend .tsu (128), .uncorrectableWindowEnd .tsu (128),
    .faultSlotReceived .tsu (128), .timeMessageReceived .tsu (128),
    .podOffsetWrite .tsu (128) 0, .podOffsetWrite .tsu 0 (2 ^ 64), .podEvaluationDone .tsu (128), .tdcEdge .tsu (104) 0 ⟨false, false⟩,
    .tdcEdge .tsu 0 (512) ⟨false, false⟩, .dllLockChange .tsu (104) false, .calibrationPeriodStart .tsu (104), .calibrationCollectionEnd .tsu (104) [],
    .slotClose .tsu (16), .regressionStop .tsu (4), .regressionOneGate .tsu (4), .regressionContinuous .tsu (4),
    .regressionGateEnd .tsu (4), .keystoneMarker [] (2^64), .monitorGateEnd (8), .esmcPduReceived (2) [],
    .esmcTimeout (8), .waitToRestoreExpiry (8), .priorityTableWrite (2^256), .hallLabelWrite (2 ^ 64),
    .timeSourceEdge (2 ^ 80), .twinKeystoneReceived (128), .outputPulse (6), .outputSettingEffective (6),
    .tbSet (8) 0 0, .tbSet 0 (2^64) 0, .tbSet 0 0 (2^128), .tbStep (8) 0 0,
    .tbStep 0 (2^64) 0, .tbStep 0 0 (2^128), .tbSlew (8) 0 0, .tbSlew 0 (2^64) 0,
    .tbSlew 0 0 (2^128), .tbCancelSlew (8) 0, .tbCancelSlew 0 (2^64), .tbCommandApply (8)].all (fun (i : Instr) => !wellFormed i) = true := by decide +kernel

/-- One operand out of its range makes a command ill-formed, part 2. -/
theorem test_illFormed_2 : [
    .tbSlewEnd (8), .tbIncrementWrite (8) 0, .tbIncrementWrite 0 (2 ^ 64), .tbModeChange (256),
    .hallAnchorWrite (2^192), .captureRecordRead (8), .pulseOutputPlace (4), .interruptEvent (512),
    .interruptAcknowledge (2^512), .busFrameSend (2^64) 0, .busFrameSend 0 (2^64), .agentLaunch (1024) ⟨0, 0⟩, .agentLaunch 0 ⟨0, 2^64⟩,
    .agentLaunch 0 ⟨2^68, 0⟩, .agentCut ⟨1024, 0⟩, .agentCut ⟨0, 2^64⟩, .agentAbort ⟨1024, 0⟩, .agentAbort ⟨0, 2^64⟩, .agentCensus (1024),
    .busFrameReceived (1024) 0 0 0, .busFrameReceived 0 (2) 0 0, .busFrameReceived 0 0 (2^256) 0, .busFrameReceived 0 0 0 (2^32),
    .tickLaneLost (1024) 0 false 0, .tickLaneLost 0 (2) false 0, .tickLaneLost 0 0 false (2^32), .noLaneExpiry ⟨1024, 0⟩, .noLaneExpiry ⟨0, 2^64⟩,
    .bypassEngage (1024), .bypassRelease (1024), .agentMarker (1024) ⟨0, 0⟩ 0 0, .agentMarker 0 ⟨2^64, 0⟩ 0 0,
    .agentMarker 0 ⟨0, 0⟩ (2^68) 0, .agentMarker 0 ⟨0, 0⟩ 0 (2^32), .agentMarker 0 ⟨0, 2^64⟩ 0 0, .agentLanesDisagree (1024), .runComplete (1024) 0,
    .runComplete 0 (2^68), .runDeadline ⟨1024, 0⟩, .runDeadline ⟨0, 2^64⟩, .stretchPulse (1024), .marginWarnEpisode (1024) 0,
    .marginWarnEpisode 0 (2^64), .fchgRequest (1024) 0, .fchgRequest 0 (16), .fchgGrant (1024),
    .fchgAck (1024) 0 0, .fchgAck 0 (2^64) 0, .fchgAck 0 0 (2^68), .fchgReqLow (1024),
    .stopWindowOverrun (1024), .stopTimeout (1024), .viaductWrite (2048) 0, .viaductWrite 0 (2^1024),
    .viaductRead (2048) 0, .viaductRead 0 (2^64), .viaductStalledDelivery (2048), .viaductTickDelivery (2048),
    .viaductSever (2048), .tableCommit (16), .tableCommitDone (16), .tableEmpty (16),
    .tableStorageError (16) 0, .tableStorageError 0 (4096), .actionCommit (64), .entryNop (64)].all (fun (i : Instr) => !wellFormed i) = true := by decide +kernel

/-- One operand out of its range makes a command ill-formed, part 3. -/
theorem test_illFormed_3 : [
    .entryWait (64), .waitResume (64), .entrySignal (64), .entryArrive (64),
    .entryClear (64), .entryBranch (64), .entryGate (64), .entryMark (64),
    .entryAudit (64), .entryPulse (64), .entryLoop (64), .entryEnd (64),
    .markRead (64), .releaseAccumulator (2 ^ 64), .deadlineEvaluation (64), .stepEnd (64),
    .armReceived (128), .armAckHeldRelease (64), .confirmReceived (128), .recallReceived (128),
    .escrowGuardExpiry (64), .stepFire (64), .recalledFReached (64), .headArmLeave (256),
    .escrowHandoffReceived (128), .escrowHandoffMissing (256), .escrowDownForward (128), .armAckReceived (128),
    .escrowSetChange (128), .escrowHorizon (65536) 0 0 0, .escrowHorizon 0 (64) 0 0, .escrowHorizon 0 0 (2 ^ 48) 0,
    .escrowHorizon 0 0 0 (256), .totalReceived (128), .escrowDecision (256), .twinLeadReceived (128),
    .headEntryStart (256), .headEntryStopAfter (256), .headEntryStopNow (256), .tallyInit (1024) 0 0 0 false,
    .tallyInit 0 (2^20) 0 0 false, .tallyInit 0 0 (2^190) 0 false, .tallyInit 0 0 0 (2^64) false, .tallySignal (1024) 0 0 0 false,
    .tallySignal 0 (2^20) 0 0 false, .tallySignal 0 0 (2^190) 0 false, .tallySignal 0 0 0 (2^64) false, .tallyArrive (1024) 0 0 0 false,
    .tallyArrive 0 (2^20) 0 0 false, .tallyArrive 0 0 (2^190) 0 false, .tallyArrive 0 0 0 (2^64) false, .tallyWait (1024) 0 0 0 false,
    .tallyWait 0 (2^20) 0 0 false, .tallyWait 0 0 (2^190) 0 false, .tallyWait 0 0 0 (2^64) false, .tallyUpMessage (128),
    .arriveCombineSend (65536), .slotDecision (65536), .immediateDecision (65536), .tallyReleaseReceived (128) false].all (fun (i : Instr) => !wellFormed i) = true := by decide +kernel

/-- One operand out of its range makes a command ill-formed, part 4. -/
theorem test_illFormed_4 : [
    .tallyDownForward (128), .ledgerDecision (64) 0, .ledgerDecision 0 (65536), .releaseTick (64) 0,
    .releaseTick 0 (65536), .ledgerReport (1024) 0 0, .ledgerReport 0 (4096) 0, .ledgerReport 0 0 (2^32),
    .accountTableWrite (4096) [], .translationWrite (64) 0 [], .translationWrite 0 (4096) [], .tallyWaitTimeout false (64) 0 0,
    .tallyWaitTimeout false 0 (2^26) 0, .tallyWaitTimeout false 0 0 (2 ^ 50), .hostTallySignal (8) 0, .hostTallySignal 0 (2^256),
    .hostTallyArrive (8) 0, .hostTallyArrive 0 (2^256), .hostTallyWait (8) 0, .hostTallyWait 0 (2^256),
    .hostCancelWait (8), .descriptorWrite (256) 0, .descriptorWrite 0 (2^256), .contributionWrite (64) 0 [],
    .contributionWrite 0 (16) [], .partialReceived (128), .elementSendUp (16), .headRoundElement (16),
    .headSendEnd (16), .resultForward (128), .resultReceived (128), .clearingResultTimeout (64) 0,
    .clearingResultTimeout 0 (16), .engineConfigure (16) 0, .engineConfigure 0 (2^320), .clearingStorageError .tsu (1024) 0,
    .clearingStorageError .tsu 0 (4096), .strictWrite (2 ^ 64), .keyRecompute (7), .mintSegment (1024) 0 0 0 0 [],
    .mintSegment 0 (4096) 0 0 0 [], .mintSegment 0 0 (2^38) 0 0 [], .mintSegment 0 0 0 (21) 0 [], .mintSegment 0 0 0 0 (2^64) [],
    .mintSegment 0 0 0 0 0 [256], .chainingValuePosted (1024), .tagComplete (64), .journalRecord (7) 0 [],
    .journalRecord 0 (2^32) [], .journalRecord 0 0 [256], .journalResend (2^32), .journalAckReceived .tsu (128),
    .journalStore (128), .tagMessageReceived (128), .trailClose (65536) 0 0, .trailClose 0 (64) 0,
    .trailClose 0 0 (2 ^ 48), .replayInject [256], .replayRecordReceived .tsu (128), .replayApply (2^32) []].all (fun (i : Instr) => !wellFormed i) = true := by decide +kernel

/-- One operand out of its range makes a command ill-formed, part 5. -/
theorem test_illFormed_5 : [
    .replayApply 0 [256], .journaledInputSuppress (2^24), .faultWaveReceived (128), .settleWindowEnd (64),
    .spanPathLost (64), .heartbeat (1024) 0, .heartbeat 0 (2^32), .heartbeatWindowExpiry (1024),
    .contextResetAck (1024), .resetLimitExpiry (1024), .isolationLimitExpiry (1024), .powerCycleDone (1024),
    .powerCycleLimitExpiry (1024), .ladderPowerCycle (1024), .ladderRestoreLost (1024), .ladderReleaseHold (1024),
    .ladderDeclareLost (1024), .powerGoodLost (1024), .spanListAdd (2^128), .spanListRemove (2^128),
    .spanListMask (2^128), .spanListHead (2^128), .portOwn (128) 0 0, .portOwn 0 (65536) 0,
    .portOwn 0 0 (2 ^ 32), .portRelease (128) 0, .portRelease 0 (2 ^ 32), .portFree (128) 0,
    .portFree 0 (2 ^ 32), .laneEntryWrite (128) 0, .laneEntryWrite 0 (2 ^ 64), .epochCreate (65536) 0,
    .epochCreate 0 (2 ^ 32), .epochRelease (65536) 0, .epochRelease 0 (2 ^ 32), .epochAdvance (65536) 0,
    .epochAdvance 0 (2 ^ 32), .twinEpochReceived (128), .reportReceived (128), .auditReceived (128),
    .healthEvaluation (128), .expelReceived (128), .verdictReceived (128), .twinHealthReceived (128),
    .healthReinstate (128), .healthClearFences (128), .healthClearMatrix (128), .censusCommand (2^192),
    .latchReceived .tsu (128), .eventSourceWrite .tsu (8256) 0, .eventSourceWrite .tsu 0 (65536), .regWordRead (2^28) 0,
    .regWordRead 0 (17), .regWordWrite (2^28) 0 0, .regWordWrite 0 (17) 0, .regWordWrite 0 0 (2^32),
    .longOpenRead (2^24), .longOpenWrite (2^24), .longCommit (2^24), .longAbandon (2^24)].all (fun (i : Instr) => !wellFormed i) = true := by decide +kernel

/-- One operand out of its range makes a command ill-formed, part 6. -/
theorem test_illFormed_6 : [
    .longDataAccess (2^24) false 0, .longDataAccess 0 false (2^32), .longPositionWrite (2^24) 0, .longPositionWrite 0 (2^32),
    .transferAbandonTimeout .tsu (34), .objectWrite .tsu (2^24) 0 [], .objectWrite .tsu 0 (65536) [], .objectWrite .tsu 0 0 [256],
    .objectReadRequest .tsu (128), .objectWriteRequest .tsu (128), .objectResponseReceived (128), .objectAbandon .tsu (128),
    .objectRelayForward (128), .relayTimeout (4096), .goaRequest (2) 0 [], .goaRequest 0 (2^128) [],
    .goaRequest 0 0 [256], .goaResponseSend (16), .functionDisable .tsu (9), .functionEnable .tsu (9),
    .functionDrained .tsu (9), .drainTimeout .tsu (9), .regionReqActive (1024), .regionReqDoze (1024),
    .regionReqRetain (1024), .regionReqOff (1024), .regionReqFence (1024), .regionForcedFence (1024),
    .regionUnfence (1024), .regionPwrReqChange (1024) 0, .regionPwrReqChange 0 (4), .powerGrant (1024),
    .powerDelayExpiry (1024), .pwrRdyChange (1024) false, .handshakeLimitExpiry (1024), .pgoodFallGranted (1024),
    .pgoodFallLimitExpiry (1024), .powerStageReady (1024), .powerStageTimeout (1024), .vaultWriteThrough (2^24),
    .tsuStartupStageDone [256], .sentinelVisit (2^80), .sentinelPong (128) 0, .sentinelPong 0 (65536),
    .sentinelWake (4) 0, .sentinelWake 0 (128), .hubStartupStageDone [256], .firmwareUpdateBegin (2^32) 0,
    .firmwareUpdateBegin 0 (2^256), .firmwareSegmentWrite [256], .firmwareTwinRecovery (128), .twinFirmwareRequest (128),
    .flashWriteBack (2^24), .telemetryUpdate .tsu (2^256), .scrubError (2^29), .moduleSupplyFault (5) 0 0,
    .moduleSupplyFault 0 (2^32) 0, .moduleSupplyFault 0 0 (2^32), .thermalThreshold .tsu (5) 0 0, .thermalThreshold .tsu 0 (68) 0].all (fun (i : Instr) => !wellFormed i) = true := by decide +kernel

/-- One operand out of its range makes a command ill-formed, part 7. -/
theorem test_illFormed_7 : [
    .thermalThreshold .tsu 0 0 (65536), .refinCouplingSet (8), .hostLatencyCodesValid (2) 0 0, .hostLatencyCodesValid 0 (65536) 0,
    .hostLatencyCodesValid 0 0 (65536), .twinHealthSend (128)].all (fun (i : Instr) => !wellFormed i) = true := by decide +kernel

/-- Operands at the top of their ranges are well formed. -/
theorem test_wellFormed : [Instr.linkEnableWrite .tsu 127 255, .tbSet 7 (2 ^ 64 - 1) (2 ^ 128 - 1), .slotClose .hub 15,
    .regionReqDoze 1023, .journalRecord 6 (2 ^ 32 - 1) [255]].all wellFormed = true := by decide +kernel

/-! ### Worked examples of the specification -/

/-- Cell 0 of the marker frame that a Pier of plane B sends up with a TIME message, 3 C2 credits and a wave (02, worked header cell). -/
theorem test_header_cell :
    ((((hubAt [(Ob.link_state 64, 6)] (fun n => { (n.modLink 64 (fun l =>
        { l with freeC2 := 3, faultQ := [{ slot := slotOf 0x31 0xA3 0x17 0x2A11 2 }] })) with plane := 1, tb1 := 512 })).hub.assemble 64).1).getD 0 0) =
      0x02302F00000988051800 * 2 ^ 48 + 0x0000B8150884 := by decide +kernel

/-- Eight cells survive the line code, and so they do with three symbols in error (02 R45 to R48). -/
theorem test_frame_code :
    decodeFrame (encodeFrame [1, 2, 3, 4, 5, 6, 7, 8]) = some ([1, 2, 3, 4, 5, 6, 7, 8], 0) ∧
    decodeFrame (encodeFrame [1, 2, 3, 4, 5, 6, 7, 8] ^^^ (2 ^ 5 + 2 ^ 300 + 2 ^ 1150)) = some ([1, 2, 3, 4, 5, 6, 7, 8], 3) := by decide +kernel

/-- Phase 11 and tap 19 of channel 0x62 with T[371] = 47,530 make the fraction 0xB9AA (04, worked conversion). -/
theorem test_stamp :
    (tsuAt [] (fun n => { ((n.wr (Ob.chan_calibrationTable 0x62) (47530 * 256 ^ 742)).modChan 0x62 (fun c => { c with dll := true })) with
      tb1 := 0x127A401C88 })).tsu.stampOf 0x62 (11 * 32 + 19) = 0x127A401C88 * 65536 + 0xB9AA := by decide +kernel

/-- A step table's entry: opcode, offset and operands (09 R224). -/
def wEntry (op off operands : Nat) : Nat := put 127 122 op + put 111 80 off + operands

/-- The step of 09, entry by entry. -/
def wStep : List Nat :=
  [wEntry 1 0 1280000, wEntry 9 0 (put 79 64 1), wEntry 5 1600000 (put 79 68 16), wEntry 3 1603125 (put 77 66 16), wEntry 3 1603125 (put 79 78 1),
   wEntry 6 1640625 (put 79 76 0 + put 75 70 0x10 + put 69 62 1), wEntry 6 1640625 (put 79 76 1 + put 75 70 0x11 + put 69 62 1),
   wEntry 6 1640625 (put 79 76 2 + put 75 70 0x12 + put 69 62 1), wEntry 6 1640625 (put 79 76 3 + put 75 70 0x13 + put 69 62 8),
   wEntry 3 1646875 (put 79 78 2)] ++
  [wEntry 7 1650000 (put 75 64 4095 + put 63 60 6 + put 59 48 14),
   wEntry 7 1650000 (put 75 64 4095 + put 63 60 4 + put 59 48 14 + 0x461C4000), wEntry 1 1656250 (put 79 74 2 + 96000),
   wEntry 7 1656250 (put 63 60 8 + put 59 48 15), wEntry 1 1656250 (put 79 74 3 + 8000), wEntry 10 1700000 (put 79 74 63 + put 73 58 1),
   wEntry 3 1780000 (put 79 78 1 + put 77 66 63), wEntry 12 1780000 0, wEntry 14 1780000 0]

/-- Its header. -/
def wStepHeader : Nat := put 511 496 1 + put 495 484 18 + put 479 448 1875000 + put 447 416 1796875 + put 383 376 2

/-- The step encodes as the specification shows and passes every load check; one entry out of order fails reason 6 (09, R245). -/
theorem test_step_table :
    wStep.getD 0 0 = 0x04000000000000000000000000138800 ∧ wStep.getD 11 0 = 0x1C0000192D500FFF400E0000461C4000 ∧
    loadCheck true wStepHeader wStep = (0, 0xFFFF) ∧ loadCheck false wStepHeader wStep = (1, 0xFFFF) ∧
    loadCheck true wStepHeader (wStep.set 9 (wEntry 3 1600000 (put 79 78 2))) = (6, 9) := by decide +kernel

/-- Entry 12 of the example commits at F + 1,654,776 (09 R229). -/
theorem test_commit_tick : commitTick (5120 * 512 + 1656250) = 5120 * 512 + 1654776 := by decide +kernel

/-- The sum of 2^24, 1.0 and -2^24 is 1.0, travels in one compact cell, and its third rounds once (12, cancellation). -/
theorem test_cancellation :
    let e := (Elem.add 0 0 0x2A12 0xCB800000 (Elem.add 0 0 0x2A11 0x3F800000 (Elem.add 0 0 0x2A10 0x4B800000 {})))
    let third := fun (mode : Nat) => 2 ^ 218 + put 243 242 mode + put 189 158 3
    (sumSingle 0 e 64).cells = [0x4A800000000000000000000000000001] ∧ elemResult 0 e = (0x3F800000, 0, false) ∧
    (elemResult (third 0) e).1 = 0x3EAAAAAB ∧ (elemResult (third 1) e).1 = 0x3EAAAAAA ∧
    (clearMsg 0xA3 0x17 1 2 0 0 0x4B7 { form := 2, who := 64, first := 0, cnt := 6, cells := [] }).head = 0x00A3000000171080080003 * 2 ^ 40 + 0x00020004B7 := by
  decide +kernel

/-- Two NaNs of four contributions: the full form, the census entry, and the sum without them (12, one NaN-bearing element). -/
theorem test_nan_element :
    let e := (Elem.add 0 0 0x2A13 0xFFC00001 (Elem.add 0 0 0x2A12 0x3FC00000 (Elem.add 0 0 0x2A11 0x7FA00000 (Elem.add 0 0 0x2A10 0x40200000 {}))))
    cells3 (e.full 0) = [0, 2 ^ 87, 0x0000000000000000000202A110000008] ∧ elemResult 0 e = (0x7FC00000, 8, false) ∧
    censusEntry 7 e 8 = 0x007000202A110008 ∧ (elemResult (put 241 240 1) e).1 = 0x40800000 ∧ censusEntry 7 e 16 = 0x007000202A110010 ∧
    (elemResult (put 241 240 1 + 2 ^ 218 + put 189 158 4) e).1 = 0x40000000 := by decide +kernel

/-- Zeros and a pair of BF16 elements: their cells and results (12, zeros and a pair). -/
theorem test_pair :
    let sum := fun (l : List Nat) => l.foldl (fun e x => Elem.add 0 1 0x2A10 x e) ({} : Elem)
    let es := [sum [0x8000, 0x8000, 0x8000], sum [0x3F80, 0xBF80, 0x8000], sum [0x3F00, 0x3E80, 0x3E00], sum [0x4040, 0x4040, 0x4040]]
    let d := put 251 248 1 + put 247 244 1 + put 243 242 3
    (packSum ((es.zipIdx).map (fun x => (20 + x.2, x.1, 3)))).map (fun c => c.cells) =
      [[0xFF8 * 2 ^ 116], [0x494 * 2 ^ 116 + 7], [0x4A8 * 2 ^ 116 + 9]] ∧
    es.map (fun e => (elemResult d e).1) = [0x8000, 0, 0x3F60, 0x4110] := by decide +kernel

/-- The write of the increment of TB2: its head cell and its CONT cell (16, a relayed write). -/
theorem test_object_write :
    objHead 2 0x02A11 0x42A00 5 0x2002 2 0 8 1 = 0x202A1142A00005200202000011000000 ∧
    payloadCells (leBytes 8 180143981131652) = [0x84F7000AD7A3 * 2 ^ 80] := by decide +kernel

/-- The pong of the example: TB1 moves back 94 ticks and the interpolator 128 steps, and the hub is acquiring (17, a visit). -/
theorem test_sentinel_visit :
    let n := (after (exec (.sentinelVisit ((2 ^ 30) * 65536 + 23822336)) (hubAt [] (fun n =>
      { ((n.wrS 64 Ob.pwr_sentinelDelay 17645568).modHpwr (fun h => { h with state := 1, pingAt := some (2 ^ 30 - 16384) })) with
        tb1 := 2 ^ 30 + 364 })))).hub
    n.tb1 = 2 ^ 30 + 270 ∧ n.rd Ob.time_phaseMoved = 128 ∧ n.rd Ob.time_timeState = 1 := by decide +kernel

/-- The digests of published test vectors: BLAKE3 of the empty string, SHA-256 of "abc". -/
theorem test_hashes :
    leBytes 4 (blake3 []) = [0xAF, 0x13, 0x49, 0xB9] ∧ (sha256 [0x61, 0x62, 0x63]).take 4 = [0xBA, 0x78, 0x16, 0xBF] := by decide +kernel

/-- The scores of the example's three intervals (15 R419). -/
theorem test_scores : [9600, 9600 - 9600 / 2 ^ 14 + 9600, 19199].map scoreOf = [850, 700, 701] := by decide +kernel
/-- Meets the hypotheses of `AStepRunsTheFrontCommand`, clause by clause. -/
theorem wit_AStepRunsTheFrontCommand :
    State.reset.pending = [] ∧ (hubAt [] (fun n => n.modHpwr (fun h => { h with state := 1 }))).hub.running = false ∧
    (hubAt [] (fun n => n.modHpwr (fun h => { h with state := 1 }))).hub.hpwr.chipOn = true ∧
    (hubAt [] (fun n => n.modHpwr (fun h => { h with chipOn := false }))).hub.running = false := by decide +kernel

/-- Meets the hypotheses of `EveryStepKeepsTheBlockSound`: a sound state whose step runs a command. -/
theorem wit_EveryStepKeepsTheBlockSound :
    storeWf State.reset.tsu.kind State.reset.tsu.objs = true ∧ storeWf State.reset.hub.kind State.reset.hub.objs = true ∧
    State.reset.tsu.kind ≠ .hub ∧ State.reset.hub.kind = .hub ∧ WellFormed (.modulePowerButton) ∧
    goesOn (step { State.reset with pending := [.modulePowerButton] }) = true ∧
    goesOn (step { State.reset with pending := [.regionUnfence 1] }) = true := by decide +kernel

def wLink (st : Nat) (l : LinkEnd) : State := tsuAt [(Ob.link_state 1, st)] (fun n => { (n.modLink 1 (fun _ => l)).modStart (fun x => { x with darkHold := false }) with tb1 := 40000 })

/-- Meets the hypotheses of `LinkEndFollowsItsTriggers`, clause by clause. -/
theorem wit_LinkEndFollowsItsTriggers :
    (wLink 0 {}).tsu.running = true ∧ 1 < (wLink 0 {}).tsu.portCount ∧ (wLink 0 {}).tsu.lst 1 = 0 ∧
    (wLink 0 {}).tsu.rd (Ob.link_enable 1) ≠ 0 ∧ (wLink 0 {}).tsu.start.darkHold = false ∧ ((wLink 0 {}).tsu.linkOf 1).held = false ∧
    ((wLink 1 {}).tsu.linkOf 1).since + 32000 ≤ (wLink 1 {}).tsu.tb1 ∧ (wLink 0 { restart := some 39999 }).tsu.restartDue 1 = true ∧
    (wLink 2 { goodRun := 8 }).tsu.lst 1 = 2 ∧ 8 ≤ ((wLink 2 { goodRun := 8 }).tsu.linkOf 1).goodRun := by decide +kernel

/-- Meets the hypotheses of `LinkEnableSetsTheHighestState`. -/
theorem wit_LinkEnableSetsTheHighestState :
    (wLink 6 {}).tsu.running = true ∧ 1 < (wLink 6 {}).tsu.portCount ∧ (wLink 6 {}).tsu.vaultFits (Ob.link_enable 1) 0 = true ∧
    (wLink 6 {}).tsu.vaultFits (Ob.link_enable 1) 1 = true ∧ (wLink 6 {}).tsu.vaultFits (Ob.link_enable 1) 2 = true := by decide +kernel

/-- Meets the hypotheses of `LinkLossesRecordTheirCause`, clause by clause. -/
theorem wit_LinkLossesRecordTheirCause :
    (wLink 6 { badRun := 4 }).tsu.lst 1 = 6 ∧ 4 ≤ ((wLink 6 { badRun := 4 }).tsu.linkOf 1).badRun ∧
    (let n := ({ (wLink 2 {}).tsu with tb1 := 156250 } : Node)
     (n.linkOf 1).since + n.stateTimeout (n.lst 1) ≤ n.tb1 ∧ n.rowAbove 1 = false ∧ n.syncedDue 1 = false) ∧
    (wLink 6 { winFrames := 65536 }).tsu.rd Ob.linkCfg_window ≤ ((wLink 6 { winFrames := 65536 }).tsu.linkOf 1).winFrames := by decide +kernel

def wHello (ack gen : Nat) : Msg :=
  { typ := 1
    cells := [put 127 126 gen + put 109 108 3 + put 107 106 1 + put 105 105 1 + put 104 104 ack + put 103 84 (hubIdentity 1 2 3) +
              put 83 77 5 + put 76 69 9 + put 68 61 7, put 127 64 5] }
def wTime (st : Nat) (b : Bool) (ack gen : Nat) (wait : Bool := true) : State :=
  tsuAt [(Ob.link_state 1, st)] (fun n =>
    { (n.modPort 1 (fun t => { t with bothLocked := b })).modLink 1 (fun l => { l with taken := if wait then [wHello ack gen] else [] }) with tb1 := 600064 })

/-- Meets the hypotheses of `TimeLockMovesBetweenMeasureAndMember`, clause by clause. -/
theorem wit_TimeLockMovesBetweenMeasureAndMember :
    ((wTime 4 true 1 1).tsu.portOf 1).bothLocked = true ∧ (wTime 4 true 1 1).tsu.lst 1 = 4 ∧
    (wTime 5 true 1 1).tsu.rd (Ob.link_enable 1) = 2 ∧
    (wTime 5 true 1 1 false).tsu.tb1 % 512 = 0 ∧ (wTime 5 true 1 1 false).tsu.rowAbove 1 = false ∧ (wTime 4 true 1 1 false).tsu.rowAbove 1 = false ∧
    (wTime 6 false 1 1 false).tsu.rowAbove 1 = false ∧ ((wTime 3 false 1 1).tsu.linkOf 1).badRun < 4 ∧
    ((wTime 5 true 1 1).tsu.portOf 1).lockSince + 512 * (wTime 5 true 1 1).tsu.rd Ob.linkCfg_memberHold ≤ (wTime 5 true 1 1).tsu.tb1 ∧
    ((wTime 6 false 1 1).tsu.portOf 1).bothLocked = false ∧
    ((wTime 3 false 1 1).tsu.peek 1 (fun m => m.typ == tHello)).map (fun h =>
      ((wTime 3 false 1 1).tsu.helloCase 1 h.head, (wTime 3 false 1 1).tsu.dieClash 1 h.head, fld h.head 104 104)) = some (0, false, 1) ∧
    ((wTime 3 false 1 0).tsu.peek 1 (fun m => m.typ == tHello)).map (fun h => (wTime 3 false 1 0).tsu.helloCase 1 h.head) = some 1 ∧
    ((wTime 6 false 0 1).tsu.peek 1 (fun m => m.typ == tHello)).map (fun h => fld h.head 104 104) = some 0 := by decide +kernel

/-- Meets the hypotheses of `FramesAreSentAndReceivedWhole`, clause by clause: a frame of six errors, one of another index, one of the index
expected, a frame boundary, a tick that is none, a squelched transmitter and a waiting fault slot. -/
theorem wit_FramesAreSentAndReceivedWhole :
    decodeFrame (encodeFrame (List.replicate 8 0) ^^^ 0x010101010101) = none ∧
    decodeFrame (encodeFrame (put 127 122 7 :: List.replicate 7 0)) = some (put 127 122 7 :: List.replicate 7 0, 0) ∧
    fld (put 127 122 7) 127 122 ≠ ((wLink 6 {}).tsu.linkOf 1).expIdx ∧ (wLink 6 {}).tsu.tb1 % 8 = 0 ∧
    fld (put 127 122 7) 127 122 = ((wLink 6 { expIdx := 7 }).tsu.linkOf 1).expIdx ∧
    ((wLink 6 {}).tsu.linkOf 1).sqThermal = false ∧ ((wLink 6 { sqThermal := true }).tsu.linkOf 1).sqThermal = true ∧ (wLink 1 {}).tsu.lst 1 < 2 ∧
    (({ (wLink 6 {}).tsu with tb1 := 40001 } : Node)).tb1 % 8 ≠ 0 ∧
    ((wLink 6 { slotIn := [(slotOf 0x31 0xA3 0x17 0x2A11 2, 40)] }).tsu.linkOf 1).slotIn = (slotOf 0x31 0xA3 0x17 0x2A11 2, 40) :: [] ∧
    (wLink 6 {}).tsu.seen.all (fun e => e.1 != waveKey (slotOf 0x31 0xA3 0x17 0x2A11 2)) = true := by decide +kernel

def wExch (rx : Nat) : State :=
  tsuAt [(Ob.tport_asymmetry 0, ofS 32 (-4037))] (fun n =>
    ({ n.modPort 0 (fun t => { t with rxStamp := 5000000, rxValid := true, sent := [(3, 4000000)] }) with tb1 := 2048 } : Node).modLink 0 (fun l =>
      { l with taken := [⟨2, [put 127 64 70 + put 47 47 1, put 127 64 80 + put 47 16 3 + put 15 15 rx], 0⟩] }))

/-- Meets the hypotheses of `ExchangeGivesTheOffset`, clause by clause. -/
theorem wit_ExchangeGivesTheOffset :
    ((wExch 1).tsu.peek 0 (fun m => m.typ == tTime)).map (fun h =>
      (((wExch 1).tsu.portOf 0).sent.find? (fun e => e.1 == fld (h.cell 1) 47 16 && (wExch 1).tsu.recentMarker e.1), bit (h.cell 1) 15)) =
        some (some (3, 4000000), true) ∧
    ((wExch 1).tsu.portOf 0).rxValid = true ∧
    ((wExch 0).tsu.peek 0 (fun m => m.typ == tTime)).map (fun h => bit (h.cell 1) 15) = some false := by decide +kernel

def wMarker : State := hubAt [(Ob.time_source, 0x7E)] (fun n => { n with level := 3, tb1 := 1024 })

/-- Meets the hypotheses of `ServoMovesWithinItsLimit`, clause by clause. -/
theorem wit_ServoMovesWithinItsLimit :
    wMarker.hub.running = true ∧ wMarker.hub.tb1 % 512 = 0 ∧ wMarker.hub.isKeystone = true ∧ wMarker.hub.rd Ob.time_source = 0x7E ∧
    ({ wMarker.hub with tb1 := 3 } : Node).tb1 % 512 ≠ 0 := by decide +kernel

def wRevert : State :=
  hubAt [(Ob.time_source, 65), (Ob.link_state 64, 6), (Ob.tport_timeLock 64, 1)] (fun n =>
    { n.modPort 64 (fun t => { t with heard := true, pValid := true, pDepth := 1 }) with tb1 := 600064 })
def wRoot : State :=
  hubAt [] (fun n => { n.modTnode (fun t => { t with rootWait := some 0 }) with tb1 := 15625216, level := 3, plane := 1 })

/-- Meets the hypotheses of `SourcesChangeByTheirRules`, clause by clause. -/
theorem wit_SourcesChangeByTheirRules :
    wRevert.hub.rd Ob.time_source ∈ wRevert.hub.candidates ∧ wRevert.hub.tb1 % 512 = 0 ∧ wRoot.hub.tb1 % 512 = 0 ∧
    (wRevert.hub.candidates.takeWhile (· != wRevert.hub.rd Ob.time_source)).find? (fun p => wRevert.hub.eligible p && wRevert.hub.locked p &&
      decide ((wRevert.hub.portOf p).readySince + 512 * wRevert.hub.rd Ob.time_revertHold ≤ wRevert.hub.tb1)) = some 64 ∧
    wRoot.hub.isKeystone = true ∧ wRoot.hub.rd Ob.time_timeState = 0 ∧ wRoot.hub.tnode.rootWait = some 0 ∧
    0 + 15625000 ≤ wRoot.hub.tb1 ∧ wRoot.hub.candidates.any wRoot.hub.eligible = false ∧
    (tsuAt [] (fun n => n.modTnode (fun t => { t with planeRun := 16 }))).tsu.tnode.planeTold = false ∧
    (tsuAt []).tsu.rd Ob.time_planeMode = 2 := by decide +kernel

def wMeas (c : Nat) : ClosureMeas := ⟨c, 1331, -1167, 430, 0, 0, 0, 3, 3, true, true⟩
def wClose : State :=
  hubAt [] (fun n => { ((n.modTnode (fun t => { t with closing := 1 })).modPort 0 (fun t => { t with pLock := true })).modPort 63 (fun t =>
    { t with pLock := true }) with tb1 := 512 * 65536 })

/-- Meets the hypotheses of `ClosureAndPodCalibrate`, clause by clause. -/
theorem wit_ClosureAndPodCalibrate :
    wClose.hub.running = true ∧ wClose.hub.tnode.closing ≠ 0 ∧
    wClose.hub.tnode.closeStart + 512 * wClose.hub.rd Ob.time_closureLength ≤ wClose.hub.tb1 ∧
    [wMeas 0, wMeas 63].Pairwise (fun a b => a.port ≠ b.port) ∧ (∀ x ∈ [wMeas 0, wMeas 63], wClose.hub.closureOn x = true) ∧
    wClose.hub.tnode.trackStart + 512 * 65536 ≤ wClose.hub.tb1 ∧
    wClose.hub.isChildEnd 64 = true ∧ wClose.hub.isTwinPort 66 = true ∧ wClose.hub.isChildEnd 5 = false ∧
    wClose.hub.isTwinPort 5 = false ∧
    ((tsuAt [] (fun n => n.modPort 0 (fun t => { t with podOn := true }))).tsu.portOf 0).podN = 0 := by decide +kernel

def wCal (clean : Bool) (st : Nat := 0) (hits : Nat := 65536) : State :=
  tsuAt [(Ob.tdc_calibrationHits, 65536)] (fun n => (n.wr (Ob.link_state 1) st).modChan 1 (fun c =>
    { c with collecting := true, clean := clean, hits := hits, bins := (upTo 512).map (fun j => (j, 128)) }))
def wEdge (en hold : Nat) : State :=
  hubAt [(Ob.ev_enable 2, en)] (fun n => { n.modEv 2 (fun e => { e with holdTo := hold }) with tb1 := 100 })

/-- Meets the hypotheses of `EdgesAreConditionedAndStamped`, clause by clause. -/
theorem wit_EdgesAreConditionedAndStamped :
    (wEdge 1 100).hub.rd (Ob.ev_enable 2) = 1 ∧ ((wEdge 1 100).hub.rd (Ob.ev_edge 2) = 1 ↔ false = true) ∧
    ((wEdge 1 100).hub.evOf 2).holdTo ≤ (wEdge 1 100).hub.tb1 ∧ (wEdge 1 101).hub.tb1 < ((wEdge 1 101).hub.evOf 2).holdTo ∧
    ((wEdge 1 100).hub.chanOf 0x62).convAt ≠ some (100, true) ∧
    ((wEdge 1 100).hub.modChan 0x62 (fun c => { c with convAt := some (100, true) })).chanOf 0x62 = { convAt := some (100, true) } ∧
    (wCal true 3 65535).tsu.hasChan 1 = true ∧ ((wCal true 3 65535).tsu.chanOf 1).collecting = true ∧
    ((wCal true 3 65535).tsu.chanOf 1).hits < (wCal true 3 65535).tsu.rd Ob.tdc_calibrationHits ∧
    (wCal true 3 65535).tsu.chanIdle 1 = true ∧ ((wCal true 3 65535).tsu.chanOf 1).convAt = none ∧
    ((tsuAt [] (fun n => { n with tb1 := 16384 })).tsu.chanOf 1).opAt + 16384 ≤ (tsuAt [] (fun n => { n with tb1 := 16384 })).tsu.tb1 ∧
    (wEdge 0 0).hub.rd (Ob.ev_enable 2) ≠ 1 ∧ (wEdge 0 0).hub.hasChan 67 = true ∧ (wEdge 0 0).hub.hasChan 0x67 = true := by decide +kernel

/-- Meets the hypotheses of `CalibrationByCodeDensity`, clause by clause: 128 hits in each bin. -/
theorem wit_CalibrationByCodeDensity :
    (wCal true).tsu.hasChan 1 = true ∧ ((tsuAt [] (fun n => { n with tb1 := 156250000 })).tsu.chanOf 1).collecting = false ∧
    ((tsuAt [] (fun n => { n with tb1 := 156250000 })).tsu.chanOf 1).started +
      (tsuAt [] (fun n => { n with tb1 := 156250000 })).tsu.rd Ob.tdc_calibrationPeriod ≤ 156250000 ∧
    ((wCal true).tsu.chanOf 1).collecting = true ∧ ((wCal false).tsu.chanOf 1).clean = false ∧
    ((wCal true).tsu.bulkHits 1 []).rd Ob.tdc_calibrationHits ≤ (((wCal true).tsu.bulkHits 1 []).chanOf 1).hits ∧
    tableOk ((wCal true).tsu.rd Ob.tdc_calibrationTolerance)
      (tableEntries ((wCal true).tsu.chanOf 1).hits 0 ((upTo 512).map (tblGet 0 ((wCal true).tsu.chanOf 1).bins))) = true := by decide +kernel

def wSlot : State :=
  tsuAt [(Ob.mslot_startSource 7, 0x61)] (fun n =>
    { (n.modMslot 7 (fun _ => { opened := 512, src0 := 0x60, src1 := 0x61, start := some (33554440, false, some 5), stop := some (33554500, true, none) })).modRegr 3
        (fun r => { r with mode := 3, stopAt := 1024 }) with tb1 := 1024 })

/-- Meets the hypotheses of `SlotsAndGatesPostWholeResults`, clause by clause. -/
theorem wit_SlotsAndGatesPostWholeResults :
    7 < wSlot.tsu.slotCount ∧ wSlot.tsu.tb1 % 512 = 0 ∧ (wSlot.tsu.mslotOf 7).opened + 512 = wSlot.tsu.tb1 ∧ (wSlot.tsu.mslotOf 7).src0 ≠ 0xFF ∧
    (wSlot.tsu.mslotOf 7).src1 ≠ 0xFF ∧ (wSlot.tsu.regrOf 3).mode = 3 ∧ (wSlot.tsu.regrOf 3).closed = none ∧ (wSlot.tsu.regrOf 3).stopAt ≤ wSlot.tsu.tb1 ∧
    ((wSlot.tsu.modRegr 3 (fun r => { r with closed := some { opened := 512 } })).regrOf 3).closed = some { opened := 512 } ∧
    (let n := { wSlot.tsu.modRegr 3 (fun r => { r with mode := 1 }) with tb1 := 1562500000 }; n.gateEnd 3 ≤ n.tb1) := by decide +kernel

def wPdu (ver : Nat) : List Nat :=
  [0x01, 0x80, 0xC2, 0, 0, 2, 1, 2, 3, 4, 5, 6, 0x88, 0x09, 0x0A, 0x00, 0x19, 0xA7, 0x00, 0x01, 16 * ver, 0, 0, 0, 1, 0, 4, 2]
def wKey : State :=
  hubAt [(Ob.rin_esmcAssociation 3, 2 * 2 ^ 48 + 0x010203040506), (Ob.time_source, 0x7E)] (fun n =>
    { (n.modRef 7 (fun r => { r with pduAt := some 0, waiting := true })).modMon 2 (fun r =>
        { r with kept := [(4, 30730240), (2, 20490240), (1, 10250240)] }) with level := 3, tb1 := 25000000000 })

/-- Meets the hypotheses of `ReferencesAreJudgedByTheirSignals`, clause by clause. -/
theorem wit_ReferencesAreJudgedByTheirSignals :
    wKey.hub.running = true ∧ wKey.hub.isKeystone = true ∧ esmcOk (wPdu 1) = true ∧ esmcOk (wPdu 2) = false ∧
    wKey.hub.esmcMatch 1 (numBE (((wPdu 1).drop 6).take 6)) 3 = true ∧ (wKey.hub.refOf 7).pduAt = some 0 ∧
    0 + 7812500000 ≤ wKey.hub.tb1 ∧ wKey.hub.monGateEnd 2 ≤ wKey.hub.tb1 ∧ (wKey.hub.monOf 2).closed = none ∧
    (wKey.hub.monOf 2).gate.status false = 0 ∧
    ((wKey.hub.modMon 3 (fun r => { r with closed := some {} })).monOf 3).closed = some {} ∧
    (wKey.hub.refOf 7).waiting = true ∧ (wKey.hub.refOf 7).waitTo ≤ wKey.hub.tb1 ∧
    wKey.hub.tableAllowed (2 ^ 31 + 2 * 2 ^ 24 + (2 ^ 31 + 5 * 2 ^ 24) * 2 ^ 32) = true ∧
    wKey.hub.tableAllowed (2 ^ 31 + 2 * 2 ^ 24 + (2 ^ 31 + 2 * 2 ^ 24) * 2 ^ 32) = false := by decide +kernel

def wSel : State :=
  hubAt [(Ob.prio_priorityTable, 2 ^ 31 + (2 ^ 31 + 5 * 2 ^ 24) * 2 ^ 32), (Ob.rin_rank 5, 1), (Ob.rin_rank 0, 2), (Ob.time_source, 66)] (fun n =>
    { (((n.modRef 0 (fun r => { r with qual := true })).modRef 5 (fun r => { r with qual := true })).modLink 66 (fun l =>
        { l with taken := [⟨9, [put 127 124 1 + put 123 121 2, 0], 0⟩] })).modKst (fun k => { k with tableAt := some (512, 7) }) with
      level := 3, tb1 := 1024 })

/-- Meets the hypotheses of `SelectionDrivesTheReferenceState`, clause by clause. -/
theorem wit_SelectionDrivesTheReferenceState :
    wSel.hub.entryQual 0 = true ∧ wSel.hub.candidate = some 1 ∧ wSel.hub.rd Ob.ref_forcedEntry = 0xFF ∧ wSel.hub.rd Ob.ref_revertive ≠ 1 ∧
    (wSel.hub.wr Ob.ref_forcedEntry 1).entryQual ((wSel.hub.wr Ob.ref_forcedEntry 1).rd Ob.ref_forcedEntry) = true ∧
    wSel.hub.rd Ob.ref_referenceState = 0 ∧ (wSel.hub.wr Ob.ref_referenceState 2).histWindow.length < 60 ∧
    60 ≤ ({ wSel.hub.modKst (fun k => { k with hist := List.replicate 60 (100, 5) }) with tb1 := 20000000000 } : Node).histWindow.length ∧
    wSel.hub.isKeystone = true ∧ wSel.hub.tb1 % 512 = 0 ∧ wSel.hub.kst.tableAt = some (512, 7) ∧ wSel.hub.isFollower = true ∧
    (wSel.hub.peek 66 (isTwinKind 1)).isSome = true ∧
    ((wSel.hub.wr Ob.time_source 0x7E).wr Ob.ref_follower 1).rd Ob.ref_follower = 1 := by decide +kernel

def wServo (st : Nat) : State :=
  hubAt [(Ob.time_source, 0x7E), (Ob.ref_referenceState, st), (Ob.ref_activeEntry, 0), (Ob.prio_priorityTable, 2 ^ 31 + 2 * 2 ^ 24),
         (Ob.ref_dacMode, 1), (Ob.ref_dacGain, 5)] (fun n =>
    { (n.modRef 2 (fun r => { r with errSum := 3840, errN := 1 })).modKst (fun k => { k with left := true }) with
      level := 3, tb1 := 100000000000000 })

/-- Meets the hypotheses of `ReferenceServoSteersWithinItsRange`, clause by clause. -/
theorem wit_ReferenceServoSteersWithinItsRange :
    (wServo 2).hub.isRoot = true ∧ (wServo 2).hub.rd Ob.ref_activeEntry < 8 ∧
    entryRef ((wServo 2).hub.prioEntry ((wServo 2).hub.rd Ob.ref_activeEntry)) = 2 ∧ ((wServo 2).hub.refOf 2).errN ≠ 0 ∧
    (wServo 2).hub.rd (Ob.ev_nominalCode 2) = 0 ∧ (wServo 2).hub.kst.histAt + tps ≤ (wServo 2).hub.tb1 ∧
    (wServo 2).hub.rd Ob.ref_dacMode = 1 ∧ (wServo 2).hub.rdS 32 Ob.ref_dacGain ≠ 0 ∧ (wServo 2).hub.rd Ob.ref_dacWord ≤ 65535 ∧
    (wServo 3).hub.overBudget = true ∧ (wServo 3).hub.rd Ob.ref_referenceState = 3 := by decide +kernel

def wHall (src tb : Nat) : State :=
  hubAt [(Ob.time_source, 0x7E), (Ob.ref_activeEntry, 0), (Ob.prio_priorityTable, 2 ^ 31), (Ob.out_source 4, 1)] (fun n =>
    { (((n.modKst (fun k => { k with label := some 9 })).modEv 0 (fun e => { e with seen := true, last := 70 })).modOut 5 (fun o =>
        { o with now := { o.now with src := src } })).modOut 4 (fun o => { o with pend := [(20, 0, 1)] }) with level := 3, tb1 := tb })

/-- Meets the hypotheses of `HallTimeMovesOnlyAsCommanded`, clause by clause. -/
theorem wit_HallTimeMovesOnlyAsCommanded :
    (wHall 1 1562500000).hub.isKeystone = true ∧
    (wHall 1 1562500000).hub.kst.ancT + 1562500000 * 65536 ≤ (wHall 1 1562500000).hub.tb1 * 65536 ∧
    (wHall 1 0).hub.timeSource = some 0 ∧ ((wHall 1 0).hub.evOf 0).seen = true ∧ ((wHall 1 0).hub.evOf 0).last = 70 ∧
    (wHall 1 0).hub.kst.label = some 9 ∧ (hubAt []).hub.timeSource = none ∧ (hubAt []).hub.isKeystone = false ∧
    ((wHall 1 0).hub.outOf 5).pend = [] ∧ ((wHall 1 0).hub.outOf 5).lastAt = none ∧
    (wHall 1 1562500000).hub.outPlaced ((wHall 1 0).hub.outOf 5).now = some 800000000000 ∧
    (wHall 1 7).hub.outPlaced ((wHall 1 0).hub.outOf 5).now = none ∧
    ((wHall 1 1562500000).hub.outOf 4).pend = [(20, 0, 1)] ∧ 20 * 512 ≤ 800000000000 ∧
    (wHall 1 1562500000).hub.outPlaced (((wHall 1 0).hub.outOf 4).now.written [(20, 0, 1)]) = some 800000000000 := by
  decide +kernel

/-- Meets the hypotheses of `IncrementsStayNearNominal`: the greatest and the first refused increment. -/
theorem wit_IncrementsStayNearNominal :
    State.reset.tsu.isHub = false ∧ (((180143985094820 + 180143985095 : Nat) : Int) - 180143985094820).natAbs ≤ 180143985095 ∧
    180143985095 < (((180143985094820 - 180143985096 : Nat) : Int) - 180143985094820).natAbs := by decide +kernel

def wBase (op arg : Nat) : State := tsuAt [] (fun n => { n.modBase 7 (fun b => { b with cmdOp := op, cmdAt := 50, cmdArg := arg, slewing := true }) with tb1 := 60 })

/-- Meets the hypotheses of `TimeBaseCommandsWaitAndAct`, clause by clause: an apply tick of TB1 + 1 is allowed, of TB1 not. -/
theorem wit_TimeBaseCommandsWaitAndAct :
    (wBase 0 0).tsu.isHub = false ∧ (wBase 0 0).tsu.cmdOk 7 1 61 5 = true ∧ (wBase 0 0).tsu.cmdOk 7 1 60 5 = false ∧
    (wBase 0 0).tsu.cmdOk 7 2 0 5 = true ∧ (wBase 0 0).tsu.cmdOk 1 3 0 5 = false ∧ ((wBase 1 (2 ^ 48 + 7)).tsu.baseOf 7).cmdAt ≤ 60 ∧
    t96Ok ((2 ^ 48 + 7) % 2 ^ 96) = true ∧ 0 ≤ (((wBase 2 9).tsu.baseOf 7).total : Int) + amount48 ((wBase 2 9).tsu.baseOf 7).cmdArg ∧
    ((wBase 3 9).tsu.baseOf 7).cmdOp = 3 ∧ ((wBase 4 9).tsu.baseOf 7).cmdOp = 4 ∧ ((wBase 0 0).tsu.baseOf 7).remain = 0 := by decide +kernel

def wAnchor : State := tsuAt [] (fun n => { n with tb1 := 1000 })
def wDist : State := hubAt [(Ob.time_source, 0x7E), (Ob.link_state 9, 5)] (fun n => { n with level := 3 })

/-- Meets the hypotheses of `HallTimeNeitherJumpsNorStepsUnrecorded`, clause by clause: an anchor of the instant 999 ticks and one of 5 s. -/
theorem wit_HallTimeNeitherJumpsNorStepsUnrecorded :
    wAnchor.tsu.hallMode = true ∧ (wAnchor.tsu.wr (Ob.tb_mode 0) 1).hallMode = false ∧ wAnchor.tsu.vaultFits (Ob.tb_mode 0) 1 = true ∧
    (wAnchor.tsu.hallAt (1000 * 65536) - (((0 * perSec16 : Nat) : Int) + (((1000 * 65536 : Nat) : Int) - (65536 : Int)) * 16 / 25)).natAbs ≤
      wAnchor.tsu.rd Ob.hall_hallSlewLimit * 65536 ∧
    wAnchor.tsu.rd Ob.hall_hallSlewLimit * 65536 <
      (wAnchor.tsu.hallAt (1000 * 65536) - (((5 * perSec16 : Nat) : Int) + (((1000 * 65536 : Nat) : Int) - (0 : Int)) * 16 / 25)).natAbs ∧
    wDist.hub.isRoot = true ∧ wDist.hub.anchorDue = true ∧
    (wDist.hub.modKst (fun k => { k with distAt := some 0, distWas := wDist.hub.anchorKey })).anchorDue = false ∧ wDist.hub.relayHop (hubIdentity 2 9 0) = .port 9 ∧ 5 ≤ wDist.hub.lst 9 := by decide +kernel

def wCap : State :=
  tsuAt [] (fun n => { (n.modCap 7 (fun q => { q with recs := [5, 6] })).modPulse 3 (fun o => { o with now := { o.now with src := 1, wid := 4 } }) with tb1 := 1562500000 })

/-- Meets the hypotheses of `CapturesPulsesAndInterruptsFollowTheTick`, clause by clause. -/
theorem wit_CapturesPulsesAndInterruptsFollowTheTick :
    wCap.tsu.isHub = false ∧ (wCap.tsu.capOf 7).recs = [5, 6] ∧ (wCap.tsu.capOf 0).recs = [] ∧ (wCap.tsu.pulseOf 3).pend = [] ∧ (wCap.tsu.pulseOf 3).next = none ∧
    wCap.tsu.placeNow (wCap.tsu.pulseOf 3).now = some 800000000000 ∧ (wCap.tsu.pulseOf 3).lastAt = none ∧ (wCap.tsu.pulseOf 3).placed = [] ∧
    800000000000 < wCap.tsu.tb1 * 512 + 512 ∧ wCap.tsu.fnEnabled 7 = true ∧ (wCap.tsu.pulseOf 3).highTo = none ∧
    (wCap.tsu.wr (Ob.fn_functionState 7) 2).fnEnabled 7 = false ∧
    isCondition 0x132 = false ∧ isCondition 0x117 = true := by decide +kernel

def w07Frame : Nat := busFrame 1024 [{ op := 1, ctx := 2, grp := 63, tick0 := 2048 }] none none
def wBus : State :=
  tsuAt [] (fun n => { (n.modAgent 0 (fun a =>
      { a with laneX := { good := 3, marker := 1 }, laneY := { locked := true, good := 4, bad := 2 }, noLaneAt := some 8, run := some {} })).modBus
    (fun b => { b with aborts := [(5, 1016), (3, 1000), (2, 1020)] }) with tb1 := 1024 })

/-- Meets the hypotheses of `BusFramesCarryActionsOnce`, clause by clause: contexts 5 and 3 are due, 2 is not yet. -/
theorem wit_BusFramesCarryActionsOnce :
    wBus.tsu.isHub = false ∧ wBus.tsu.tb1 % 512 = 0 ∧ (3, 1000) ∈ wBus.tsu.bus.aborts ∧ 1016 + 8 ≤ wBus.tsu.tb1 ∧ ¬1020 + 8 ≤ wBus.tsu.tb1 ∧
    0 < wBus.tsu.regionCount ∧ fld w07Frame 31 16 = busCheck w07Frame ∧ fld (w07Frame + 65536) 31 16 ≠ busCheck (w07Frame + 65536) ∧
    fld w07Frame 251 197 = (((wBus.tsu.agentOf 0).lane 0).marker + 1) % 2 ^ 55 ∧ 3 ≤ ((wBus.tsu.agentOf 0).lane 0).good ∧
    ((wBus.tsu.agentOf 0).lane 1).locked = true ∧ 2 ≤ ((wBus.tsu.agentOf 0).lane 1).bad ∧ 8 + 16 ≤ wBus.tsu.tb1 ∧
    bit (wBus.tsu.rd (Ob.agent_laneStatus 0)) 4 = false := by decide +kernel

def wRun (acts : List Action) (run : Option Run) : State :=
  tsuAt [] (fun n => { n.modAgent 0 (fun a => { a with acts := acts, run := run }) with tb1 := 2048 })

/-- Meets the hypotheses of `RunsStartAndEndWithARecord`, clause by clause. -/
theorem wit_RunsStartAndEndWithARecord :
    let l : Action := { op := 1, ctx := 2, grp := 63, tick0 := 2048 }
    0 < (wRun [l] none).tsu.regionCount ∧ (wRun [l] none).tsu.actionNow 0 3 = none ∧ (wRun [l] none).tsu.actionNow 0 2 = none ∧
    (wRun [l] none).tsu.actionNow 0 1 = some l ∧ (wRun [l] none).tsu.abortNow 0 2 = false ∧
    ((wRun [l] none).tsu.modAgent 0 (fun a => { a with abortHi := some 2048, aborted := [2] })).abortNow 0 2 = true ∧
    (wRun [{ l with op := 2 }] (some { ctx := 2 })).tsu.actionNow 0 2 = some { l with op := 2 } ∧
    (wRun [{ l with op := 3 }] (some { ctx := 4 })).tsu.actionNow 0 3 = some { l with op := 3 } ∧
    (wRun [] (some { ctx := 4, dead := 2048 })).tsu.runOf 0 = some { ctx := 4, dead := 2048 } := by decide +kernel

def wLedger : State :=
  tsuAt [] (fun n => { ((n.modAgent 0 (fun a => { a with run := some { dead := 2048, work := 10, per := 2 ^ 24 }, disRun := 16 })).modRegion 0
    (fun g => { g with pgood := true, iso := 0 })) with tb1 := 1024 })

/-- Meets the hypotheses of `TheLedgerFollowsTheCycles`, clause by clause. -/
theorem wit_TheLedgerFollowsTheCycles :
    0 < wLedger.tsu.regionCount ∧ wLedger.tsu.tb1 % 512 = 0 ∧ (wLedger.tsu.runOf 0).isSome = true ∧ (∀ op, op < 4 → wLedger.tsu.actionNow 0 op = none) ∧ 16 ≤ (wLedger.tsu.agentOf 0).disRun ∧
    (wLedger.tsu.agentOf 0).disTold = false ∧ wLedger.tsu.inputLive 0 = true ∧ State.reset.tsu.followed 0 = none ∧
    0 + 1 = wLedger.tsu.rd (Ob.agent_marginThreshold 0) := by decide +kernel

def wFchg (f : Agent → Agent) : State :=
  tsuAt [] (fun n => { ((n.modAgent 0 f).modRegion 0 (fun g => { g with pgood := true, iso := 0 })) with tb1 := 1024 })

/-- Meets the hypotheses of `AFrequencyChangeWaitsForItsGrant`, clause by clause. -/
theorem wit_AFrequencyChangeWaitsForItsGrant :
    let a := wFchg (fun a => { a with req := some 5 })
    let b := wFchg (fun a => { a with req := some 5, stopAt := some 512, run := some {} })
    let c := wFchg (fun a => { a with req := some 5, acts := [{ op := 1, grp := 63, tick0 := 1040 }] })
    0 < a.tsu.regionCount ∧ a.tsu.inputLive 0 = true ∧ (a.tsu.agentOf 0).req.isSome = true ∧ (a.tsu.agentOf 0).go = false ∧
    a.tsu.actionSoon 0 (1024 + 16) = false ∧ c.tsu.actionSoon 0 (1024 + 16) = true ∧ a.tsu.stepBoundary 0 = true ∧
    b.tsu.stepBoundary 0 = false ∧ (b.tsu.agentOf 0).stopAt = some 512 ∧ 512 + b.tsu.stopWindow 0 ≤ b.tsu.tb1 ∧
    (let d := wFchg (fun a => { a with req := some 5, stopAt := some 512, ackAt := some (1020, 7, 16384) }); (d.tsu.agentOf 0).ackAt = some (1020, 7, 16384) ∧
      1020 < d.tsu.tb1 ∧ 16384 / 16 ≤ d.tsu.tb1) ∧
    (wFchg (fun a => { a with go := true })).tsu.inputLive 0 = true := by decide +kernel

def wCell (st : Nat) (c : Viaduct) : State :=
  tsuAt [(Ob.vds_viaducts, 6), (Ob.vd_physicalDepth 5, 2), (Ob.vd_width 5, 64), (Ob.vd_status 5, st), (Ob.vd_endpoints 5, 17 * 65536 + 18)]
    (fun n => { ((n.modCell 5 (fun _ => c)).modRegion 17 (fun g => { g with pgood := true })).modRegion 18 (fun g => { g with pgood := true }) with
      tb1 := 130 })

/-- Meets the hypotheses of `ViaductsDeliverInOrderOrReport`, clause by clause: an entry of tick 128 is visible at 130, one of 129 is not. -/
theorem wit_ViaductsDeliverInOrderOrReport :
    let a := wCell 0 { mode := 1, held := [{ wtick := 128, data := 7 }] }
    let b := wCell 0 { mode := 1, held := [{ wtick := 128, data := 7 }, { wtick := 129, data := 8 }] }
    let c := wCell 0 { mode := 1, held := [{ wtick := 129, data := 7 }] }
    let d := wCell 0 { mode := 2, lag := 2, held := [{ wtick := 128, data := 7 }], pendRead := some (120, 4) }
    a.tsu.isHub = false ∧ (a.tsu.agentOf (a.tsu.vdReader 5)).acts = [] ∧ 5 < a.tsu.vdCount ∧ a.tsu.vdSevered 5 = false ∧ bit (a.tsu.rd (Ob.vd_status 5)) 1 = false ∧
    a.tsu.vdTaken 5 < a.tsu.rd (Ob.vd_physicalDepth 5) ∧ b.tsu.rd (Ob.vd_physicalDepth 5) ≤ b.tsu.vdTaken 5 ∧
    bit ((wCell 2 { mode := 1 }).tsu.rd (Ob.vd_status 5)) 1 = true ∧ (∀ e ∈ (c.tsu.cellOf 5).held.head?, c.tsu.vdTick 5 < e.wtick + 2) ∧
    (d.tsu.cellOf 5).pendRead.isSome = true ∧ 128 + 2 ≤ d.tsu.vdTick 5 ∧ (d.tsu.cellOf 5).mode = 2 ∧ a.tsu.rd Ob.det_strict ≠ 1 ∧
    ((a.tsu.modRegion 17 (fun g => { g with pgood := false })).regionOf ((a.tsu.modRegion 17 (fun g => { g with pgood := false })).vdWriter 5)).pgood = false := by decide +kernel

def wTab (st : Nat) (esc : Nat) : State :=
  tsuAt [(Ob.tab_state 3, st), (Ob.ctx_escrowState 5, esc)] (fun n =>
    (n.modTslot 3 (fun x => { x with commitAt := some 4 })).modCtx 5 (fun x => { x with table := 3 }))

/-- Meets the hypotheses of `TablesBecomeResidentByDigestAndChecks`, clause by clause. -/
theorem wit_TablesBecomeResidentByDigestAndChecks :
    (wTab 2 0).tsu.isHub = false ∧ 3 < (wTab 2 0).tsu.tableSlots ∧ (wTab 2 0).tsu.rd Ob.det_inputMode ≠ 1 ∧ (wTab 2 0).tsu.slotUse 3 = 0 ∧
    (wTab 2 0).tsu.fnEnabled 0 = true ∧ (wTab 2 3).tsu.slotUse 3 ≠ 0 ∧ ((wTab 1 0).tsu.tslotOf 3).commitAt.isSome = true ∧
    (wTab 2 0).tsu.rd (Ob.tab_state 3) = 2 ∧ (wTab 2 3).tsu.holdsSlot 3 5 = true ∧ (wTab 2 3).tsu.fired 5 = true ∧
    (wTab 2 2).tsu.holdsSlot 3 5 = true ∧ (wTab 2 2).tsu.fired 5 = false := by decide +kernel

/-- A table of two entries in slot 0, the walk of context 2 at the first one, F = 1,000 and the tick. -/
def wWalk (e : Nat) (tick : Nat) (os : List (Nat × Nat) := []) : State :=
  tsuAt ([(Ob.tab_header 0, 2 ^ 484), (Ob.tab_entries 0, e + 14 * 2 ^ 122 * 2 ^ 128), (Ob.ctx_escrowState 2, 3), (Ob.seq_walkState 2, 1)] ++ os)
    (fun n => { n.modCtx 2 (fun x => { x with fire := 1000, marks := [7, 8] }) with tb1 := tick })

/-- Meets the hypotheses of `EntriesActOnTheirEffectiveTick`, clause by clause: an entry of every opcode stands at tick 1,000. -/
theorem wit_EntriesActOnTheirEffectiveTick :
    (∀ op ∈ [0, 7, 8, 9, 11, 12, 13, 14, 3, 4, 5, 6], let n := (wWalk (op * 2 ^ 122) 1000).tsu.entriesBelow 2
      n.fired 2 = true ∧ n.walk 2 = 1 ∧ n.walkAt 2 = (0, 0) ∧ 0 < (n.stepEntries 2).length ∧ eOp ((n.stepEntries 2).getD 0 0) = op ∧
      n.effTick 2 (n.stepEntries 2) 0 0 = 1000) ∧ 2 < (wWalk 0 1000).tsu.ctxCount ∧ ((wWalk 0 999).tsu.entriesBelow 2).tb1 < 1000 ∧
    eAlways (7 * 2 ^ 122 + 8 * 2 ^ 60) = true ∧ eAlways (7 * 2 ^ 122) = false ∧ ((wWalk (7 * 2 ^ 122) 1000).tsu.entriesBelow 2).branchResult 2 0 = none ∧
    (((wWalk 0 1000).tsu.modClr (fun k => { k with last := [(32, 1)], banks := [(1, { ctx := 2 })] })).entriesBelow 2).branchResult 2 0 =
      some { ctx := 2 } ∧
    ((wWalk 0 1000).tsu.ctxOf 2).marks = [7, 8] ∧ ((wWalk 0 1000).tsu.ctxOf 3).marks = [] := by decide +kernel

/-- Meets the hypotheses of `WaitsHoldOrFaultAndRequestsAreMade`, clause by clause. -/
theorem wit_WaitsHoldOrFaultAndRequestsAreMade :
    let e := 3 * 2 ^ 122 + 2 ^ 78 + 63 * 2 ^ 66
    let n := (wWalk e 1000).tsu.entriesBelow 2
    let r : LRun := { region := 0, launch := 1000 }
    n.waitCase 2 e = 0 ∧ n.waitCase 2 (3 * 2 ^ 122 + 7 * 2 ^ 66) ≠ 0 ∧ n.waitHolds 2 e 1000 = true ∧ (n.modCtx 2 (fun x => { x with launched := [r] })).waitHolds 2 e 1000 = false ∧ n.rd Ob.det_strict ≠ 1 ∧
    ((wWalk e 1000 [(Ob.det_strict, 1)]).tsu.entriesBelow 2).rd Ob.det_strict = 1 ∧ eIrq (4 * 2 ^ 122) = false ∧ clearSends 1 5 = true ∧
    (((n.modClr (fun k => { k with issues := [{ ctx := 2, hnd := 1 }] })).issueOf 2 1).map Issue.live).getD false = true ∧
    ((n.issueOf 2 1).map Issue.live).getD false = false ∧
    ((wWalk e 1010 [(Ob.seq_walkState 2, 2)]).tsu.entriesBelow 2).walk 2 = 2 ∧
    ((wWalk e 1010 [(Ob.seq_walkState 2, 2)]).tsu.entriesBelow 2).waitHolds 2 e 1010 = true := by decide +kernel

/-- One LAUNCH entry at offset 5,000 in slot 0 with D = 6,000, context 2 with F = 1,000. -/
def wAct (esc walk : Nat) (tick : Nat) (f : Ctx → Ctx := id) : State :=
  tsuAt [(Ob.tab_header 0, 2 ^ 484 + 6000 * 2 ^ 416 + 2 * 2 ^ 376), (Ob.tab_entries 0, 2 ^ 122 + 5000 * 2 ^ 80 + 14 * 2 ^ 122 * 2 ^ 128 + 5000 * 2 ^ 208),
    (Ob.ctx_escrowState 2, esc), (Ob.seq_walkState 2, walk)] (fun n => { n.modCtx 2 (fun x => f { x with fire := 1000 }) with tb1 := tick })

/-- The same for a LAUNCH at offset 500 and F = 5,500: its commit tick lies before F. -/
def wEarly (esc : Nat) : State :=
  tsuAt [(Ob.tab_header 0, 2 ^ 484 + 6000 * 2 ^ 416 + 2 * 2 ^ 376), (Ob.tab_entries 0, 2 ^ 122 + 500 * 2 ^ 80 + 14 * 2 ^ 122 * 2 ^ 128 + 500 * 2 ^ 208),
    (Ob.ctx_escrowState 2, esc)] (fun n => { n.modCtx 2 (fun x => { x with fire := 5500 }) with tb1 := 4600 })

/-- Meets the hypotheses of `ActionsDeadlinesAndTheEndOfAStep`, clause by clause: M(6,000) is 4,608 and its commit tick 4,600. -/
theorem wit_ActionsDeadlinesAndTheEndOfAStep :
    ((wEarly 2).tsu.entriesBelow 2).actionsDue 2 = [(0, 0, 6000)] ∧ (wAct 2 0 4599).tsu.actionsDue 2 = [] ∧
    (wEarly 1).tsu.firstCommitPassed 2 = true ∧ (wEarly 1).tsu.escrow 2 = 1 ∧
    ((wEarly 2).tsu.entriesBelow 2).escrow 2 = 2 ∧
    ((wAct 3 1 4600).tsu.entriesBelow 2).actionsDue 2 = [(0, 0, 6000)] ∧ ((wAct 3 1 4600).tsu.entriesBelow 2).dueOp 2 = none ∧
    (wAct 3 1 7000).tsu.entriesFirst.fired 2 = true ∧ (deadlineEvaluation 2 (wAct 3 3 8024).tsu.entriesFirst).fired 2 = true ∧
    ((deadlineEvaluation 2 (wAct 3 3 8024).tsu.entriesFirst).ctxOf 2).verdict = 1 ∧
    (wAct 2 0 4600).tsu.slotTaken ((wAct 2 0 4600).tsu.actionOf 2 (0, 0, 6000)) = none ∧ (wAct 3 1 7000).tsu.fired 2 = true ∧
    ((wAct 2 0 4600).tsu.modBus (fun b => { b with placed := [{ tick0 := 5700 }, { tick0 := 5800 }, { tick0 := 6100, ctx := 7 }] })).slotTaken
      ((wAct 2 0 4600).tsu.actionOf 2 (0, 0, 6000)) = some [{ tick0 := 5700 }, { tick0 := 5800 }, { tick0 := 6100, ctx := 7 }] ∧ 2 < (wAct 2 0 4600).tsu.ctxCount ∧
    1000 + hDead ((wAct 3 1 7000).tsu.stepHeader 2) = 7000 ∧ (wAct 3 3 8024).tsu.policyOf 2 = 2 ∧
    ((wAct 3 3 8024 (fun x => { x with launched := [{ region := 0, fin := some 7001 }] })).tsu.ctxOf 2).launched.length = 1 ∧
    ((wAct 3 3 8024 (fun x => { x with abortAt := some 8000 })).tsu.ctxOf 2).abortAt = some 8000 := by decide +kernel

def wArm (kind step : Nat) (esc : Nat) (f : Ctx → Ctx := id) : State :=
  tsuAt [(Ob.ctx_escrowState 2, esc)] (fun n => { (n.modCtx 2 (fun x =>
    f { x with armed := true, span := 163, epoch := 1, step := 7, fire := 9000 })).modLink 0 (fun l =>
    { l with taken := if kind == 0 then [] else [escMsg 163 1 kind 2 0 0 0 step (put 127 64 9000 + put 63 32 2480)] }) with tb1 := 8936 })

/-- Meets the hypotheses of `EscrowStatesFollowTheirTable`, clause by clause. -/
theorem wit_EscrowStatesFollowTheirTable :
    let a := escMsg 163 1 1 2 0 0 0 8 (put 127 64 9000 + put 63 32 2480)
    let b := escMsg 163 1 1 2 0 0 0 7 (put 127 64 9000 + put 63 32 2480)
    let n := (wArm 1 8 0).tsu.abortsFirst
    escCtx a = 2 ∧ (wArm 1 8 0).tsu.peek 0 (isEscrowKind 1) = some a ∧ n.nextEscrow = some 0 ∧ n.peek 0 isVerdict = some a ∧
    n.sameInstance 2 a = false ∧ n.stepHeld 2 = false ∧ n.drained = false ∧ n.readiness 2 a = 1 ∧
    (wArm 1 8 3).tsu.abortsFirst.stepHeld 2 = true ∧ (wArm 1 7 1).tsu.abortsFirst.sameInstance 2 b = true ∧
    ((wArm 1 7 1).tsu.abortsFirst.ctxOf 2).arm0 ≠ b.cell 1 ∧
    (wArm 3 7 1).tsu.abortsFirst.nextEscrow = some 0 ∧ (wArm 4 7 1).tsu.abortsFirst.nextEscrow = some 0 ∧
    (wArm 3 7 1).tsu.abortsFirst.escrow 2 = 1 ∧ ((wArm 3 7 1).tsu.peek 0 (isEscrowKind 3)).isSome = true ∧
    ((wArm 1 7 1 (fun x => { x with ackHeld := some 8680 })).tsu.ctxOf 2).ackHeld = some 8680 ∧ 8680 + 256 ≤ (wArm 1 7 1).tsu.tb1 ∧
    (wArm 1 7 1).tsu.regionWait [] = false ∧ (wArm 0 7 1).tsu.messagesFirst.escrow 2 = 1 ∧
    ((wArm 0 7 1).tsu.messagesFirst.ctxOf 2).fire ≤ (wArm 0 7 1).tsu.messagesFirst.tb1 + 64 ∧
    (guardExpiry 2 (wArm 0 7 2 (fun x => { x with fire := 8936 })).tsu.messagesFirst).escrow 2 = 2 ∧
    ((guardExpiry 2 (wArm 0 7 2 (fun x => { x with fire := 8936 })).tsu.messagesFirst).ctxOf 2).fire ≤ 8936 ∧
    (wArm 0 7 4).tsu.messagesFirst.escrow 2 = 4 ∧ (wArm 1 7 1).tsu.firstCommitPassed 2 = false := by decide +kernel

/-- A Pier with a port of span 163, epoch 1, at die 3 and an uplink of the same entry, with a message at a port. -/
def wPier (p : Nat) (a : Msg) (insts : List EscInst := []) : State :=
  hubAt [(Ob.link_state 3, 6), (Ob.prt_portState 3, 1),
    (Ob.prt_owner 3, 163 * 2 ^ 32 + 1)] (fun n => { (n.modLink p (fun l => { l with taken := [a] })) with escInst := insts, tb1 := 9000, spans := [(0, put 127 112 163 + put 111 80 1 + 2 ^ 72 + 1)] })

/-- Meets the hypotheses of `AnswersCombineAndDownMessagesSpread`, clause by clause. -/
theorem wit_AnswersCombineAndDownMessagesSpread :
    let a := escMsg 163 1 1 2 0 0 0 7 (put 127 64 9000)
    let b := escMsg 163 1 2 2 0 0 0 7 (ackCell 1 0 0xFFFFF 0 1 7)
    let i : EscInst := { span := 163, epoch := 1, ctx := 2, step := 7, setDone := true, expect := [3] }
    (wPier 64 a).hub.running = true ∧ (wPier 64 a).hub.isHeadOf 163 = false ∧
    (wPier 64 a).hub.peek 64 (fun m => isDown m && !(66 ≤ 64 && (wPier 64 a).hub.isHeadOf m.span)) = some a ∧
    (wPier 64 a).hub.spanMatch 64 163 1 = true ∧ (wPier 64 a).hub.memberMatch 3 163 1 = true ∧
    (wPier 64 a).hub.firstCopy (escKey a) = true ∧ ((wPier 64 a).hub.noteCopy (escKey a)).firstCopy (escKey a) = false ∧
    (wPier 3 b [i]).hub.peek 3 (isEscrowKind 2) = some b ∧ (wPier 3 b [i]).hub.takeSets.escInst.find? (fun j => j.isOf b) = some i ∧
    i.expect.contains 3 = true ∧ (wPier 3 b).hub.lst 4 ≠ 6 ∧
    (wPier 66 (escMsg 163 1 5 2 0 0 0 7 0)).hub.heldEntry (escMsg 163 1 5 2 0 0 0 7 0) = none ∧
    (let h := ((wPier 66 (escMsg 163 1 5 2 0 0 0 7 0)).hub.wr (Ob.head_state 0) 2).wr (Ob.head_owner 0) (163 * 65536 + 2)
     (h.modHead 0 (fun x => { x with fStep := 7, fFire := 9000, leads := true })).heldEntry (escMsg 163 1 5 2 0 0 0 7 0)) = some 0 := by
  decide +kernel

/-- A hub at the head of span 163: entry 5 for context 2 with F = 20,000, L = 4,096, h = 2,480. -/
def wHead (st : Nat) (h : Head) (lead : Bool) (a : Option Msg := none) (tick : Nat := 16000) : State :=
  hubAt [(Ob.head_state 5, st), (Ob.head_owner 5, 163 * 65536 + 2),
    (Ob.head_expectedCount 5, 4), (Ob.head_nextFireTick 5, 20000), (Ob.head_period 5, 100000)] (fun n =>
      { ((n.modHead 5 (fun _ => h)).modLink 66 (fun l => { l with taken := a.toList })).modLead (fun l => { l with leading := lead }) with
        tb1 := tick, spans := [(0, put 127 112 163 + put 111 80 1 + 3)] })

/-- Meets the hypotheses of `TheHeadDecidesOnProofAndAdvances`, clause by clause. -/
theorem wit_TheHeadDecidesOnProofAndAdvances :
    let open4 : Head := { isOpen := true, fStep := 7, fFire := 20000, leads := true }
    let conf := escMsg 163 1 3 2 0 0 0 7 (put 127 64 20000 + put 31 0 3500)
    (wHead 2 {} true).hub.running = true ∧ (wHead 2 {} true).hub.armLeave 5 ≤ (wHead 2 {} true).hub.tb1 ∧ (wHead 2 {} true).hub.escInst.length < 1024 ∧
    (wHead 2 {} true none 15000).hub.tb1 + 48 ≤ (wHead 2 {} true none 15000).hub.armLeave 5 ∧
    (wHead 2 { open4 with isOpen := false, leads := false, hzPassed := true } false (some conf)).hub.heldEntry conf = some 5 ∧
    (wHead 2 { open4 with isOpen := false, leads := false, hzPassed := true } false (some conf)).hub.nextStep 5 ≠ escStep conf ∧ (wHead 2 {} true).hub.headRuns 5 = true ∧
    totOk ((wHead 2 { open4 with own := some (4, 0, 0xFFFFF, 0, 7) } true).hub.planeTotals 5).1 = 4 ∧
    totNak ((wHead 2 { open4 with own := some (3, 1, 9, 8, 7) } true).hub.planeTotals 5).1 = 1 ∧
    20000 ≤ (wHead 2 open4 true none 17520).hub.tb1 + (wHead 2 open4 true none 17520).hub.rd (Ob.head_horizonLead 5) ∧
    (wHead 2 open4 true).hub.twinUp = false ∧ (wHead 2 { open4 with leads := false } false (some conf)).hub.heldEntry conf = some 5 ∧
    (wHead 2 { open4 with leads := false } false (some conf)).hub.isHeadOf 163 = true ∧
    (wHead 2 {} false (some (escMsg 163 1 1 2 0 0 0 7 (put 127 64 20000)))).hub.runningEntry (escMsg 163 1 1 2 0 0 0 7 0) = some 5 ∧
    (wHead 1 {} true none 14000).hub.headStartOk 5 = true ∧ (wHead 1 {} true none 15000).hub.headStartOk 5 = false ∧
    (wHead 1 {} true).hub.fnEnabled 0 = true ∧ ((wHead 1 {} true).hub.spanEntryOf 163).isSome = true := by decide +kernel

def wLead (plane : Nat) (lead : Bool) (l : LeadSt) (x : Nat := 0) : State :=
  hubAt [(Ob.link_state 66, 5), (Ob.link_state 67, 5)] (fun n =>
    { (n.modLink 66 (fun k => { k with taken := [{ typ := tTwin, cells := [put 127 124 6 + put 123 123 x] }] })).modLead (fun _ => { l with leading := lead })
      with plane := plane, tb1 := 2097152 })

/-- Meets the hypotheses of `TheLeadMovesOnlyAsStated`, clause by clause. -/
theorem wit_TheLeadMovesOnlyAsStated :
    (wLead 0 true { twinOutAt := some 5 }).hub.running = true ∧ (wLead 1 false { twinOutAt := some 534652 }).hub.lead.twinOutAt = some 534652 ∧
    534652 + 1562500 ≤ (wLead 1 false {}).hub.tb1 ∧ ((wLead 0 true {} 1).hub.peek 66 (isTwinKind 6)).map (fun a => bit a.head 123) = some true ∧
    ((wLead 0 true {} 0).hub.peek 66 (isTwinKind 6)).map (fun a => bit a.head 123) = some false ∧ (wLead 0 true {}).hub.isHub = true ∧
    (wLead 0 false { zeroAt := some 1048576 }).hub.lead.zeroAt = some 1048576 ∧ 1048576 + 1048576 ≤ (wLead 0 false {}).hub.tb1 ∧
    5 ≤ (wLead 0 false {}).hub.lst 66 ∧ (wLead 0 false {}).hub.tb1 % 524288 = 0 := by decide +kernel

/-- Core 5 of region 0 has tally 7, and the region is on. -/
def wLocal (x : LTally) (tick : Nat := 100) : State :=
  tsuAt [] (fun n => { (n.modRegion 0 (fun g => { g with pgood := true, iso := 0 })).modAgent 0 (fun a => { a with locals := [(5 * 64 + 7, x)], reqCyc := 4, cycReq := 3 }) with tb1 := tick })

/-- A request word of the tally bus. -/
def wReq (op scope tally operand : Nat) : Nat := op * 2 ^ 187 + scope * 2 ^ 186 + 2 * 2 ^ 180 + tally * 2 ^ 154 + operand * 2 ^ 122

/-- Meets the hypotheses of `LocalTalliesActInTheirCycle`, clause by clause. -/
theorem wit_LocalTalliesActInTheirCycle :
    (∀ op ∈ [1, 2, 3, 4], let n := (wLocal {}).tsu; let q := wReq op 0 (5 * 64 + 7) 3
      n.hasRegion 0 = true ∧ n.inputLive 0 = true ∧ ((n.agentOf 0).reqCyc, (n.agentOf 0).cycReq) = (4, 3) ∧ (n.agentOf 0).busHeld = [] ∧ fld q 189 187 = op ∧
      bit q 186 = false ∧ fld q 179 154 % 64 = 7 ∧ fld q 137 122 = 3) ∧
    (((wLocal { waiters := [(6, 1, 90, 2)] }).tsu.agentOf 0).local 327).waiters ≠ [] ∧
    (((wLocal { value := 2 ^ 32 - 1 }).tsu.agentOf 0).local 327).value + 3 = 2 ^ 32 + 2 ∧
    (((wLocal { mode := 0, parts := 1 }).tsu.agentOf 0).local 327).parts = 1 ∧ fld (wReq 1 1 0 0) 189 187 = 1 ∧
    bit (wReq 1 1 0 0) 186 = true ∧ fld (wReq 2 0 48 0) 179 154 % 64 = 48 ∧ 5 ≤ fld (wReq 6 0 0 0) 189 187 ∧
    (wLocal { waiters := [(6, 1, 90, 2)] }).tsu.waitLimit 2 = 1562500 ∧
    ((((wLocal { waiters := [(6, 1, 90, 2)] }).tsu.releasesFirst.decisionsDue.agentOf 0).local 327).waiters.find? (fun w => w.1 == 6)) = some (6, 1, 90, 2) ∧
    unitRegion (put 29 20 2 + 6) = 2 ∧ unitCore (put 29 20 2 + 6) = 6 := by decide +kernel

/-- Context 2 FIRED or not, virtual identifier 33 mapped by an entry, the region on and lane 0 MEMBER. -/
def wSpan (esc e : Nat) (os : List (Nat × Nat) := []) (f : Node → Node := id) : State :=
  tsuAt ([(Ob.ctx_escrowState 2, esc), (Ob.tctx_translationTable 2, e * 2 ^ (32 * 33)), (Ob.link_state 0, 6)] ++ os)
    (fun n => { f (n.modRegion 0 (fun g => { g with pgood := true, iso := 0 })) with tb1 := 100 })

/-- Meets the hypotheses of `SpanRequestsNeedTheirStepAndEntry`, clause by clause: entry 0x8000_0400 is BARRIER, 0xA000_0400 COUNT. -/
theorem wit_SpanRequestsNeedTheirStepAndEntry :
    let q := wReq 2 1 33 3
    let n := (wSpan 3 0xA0000400).tsu
    n.hasRegion 0 = true ∧ n.inputLive 0 = true ∧ (n.agentOf 0).cycReq = 0 ∧ fld q 189 187 = 2 ∧ bit q 186 = true ∧
    (n.busReq 0 5 q 2).ctx = 2 ∧ (n.busReq 0 5 q 2).vid = 33 ∧ n.fired 2 = true ∧ (wSpan 2 0).tsu.fired 2 = false ∧
    bit (n.transEntry 2 33) 31 = true ∧ entryMode (n.transEntry 2 33) = 1 ∧ entryMode ((wSpan 3 0x80000400).tsu.transEntry 2 33) = 0 ∧
    entrySlotted (n.transEntry 2 33) = false ∧ n.lst 0 = 6 ∧ (wSpan 3 0xA0000400 [(Ob.det_strict, 1)]).tsu.rd Ob.det_strict = 1 ∧
    n.rd Ob.det_strict ≠ 1 ∧ n.rd Ob.det_inputMode ≠ 1 ∧ n.fnEnabled 1 = true ∧ 2 < n.ctxCount ∧
    n.rd (Ob.hch_hostStatus 3) ≠ 1 ∧ n.rd (Ob.hch_hostStatus 3) ≠ 6 ∧ (wSpan 3 0 [(Ob.hch_hostStatus 3, 1)]).tsu.rd (Ob.hch_hostStatus 3) = 1 ∧
    ((wSpan 3 0xA0000400 [] (fun n => n.modTally (fun t => { t with waits := [{ unit := n.unitOf 1023 (hostCore + 3) }] }))).tsu.tally.waits.find?
      (fun w => w.unit == n.unitOf 1023 (hostCore + 3))).isSome = true := by
  decide +kernel

/-- Context 2 FIRED in step 7, core 5 of region 0 waiting on slot 0x400 (COUNT) since tick 90, a RELEASE at lane 0. -/
def wRel (x : Rel) (os : List (Nat × Nat) := []) (rels : List Rel := []) : State :=
  let u := State.reset.tsu.unitOf 0 5
  let t : HTally := { cfg := putField 0 2 163 + putField 2 1 2, epoch := 1, step := 7 }
  wSpan 3 0xB0000400 os (fun n => ((n.modCtx 2 (fun k => { k with step := 7 })).modTally (fun k =>
    { k with waits := [{ ctx := 2, vid := 33, unit := u, tick := 90, limit := 10 }], rels := rels })).modLink 0 (fun l =>
    { l with taken := [releaseMsg t 0x400 x.tick u x.num 1 x.chan x.die x.tab] }))

/-- Meets the hypotheses of `ReleasesWaitForTheirTickAndLedger`, clause by clause. -/
theorem wit_ReleasesWaitForTheirTickAndLedger :
    let n := (wRel {}).tsu.escrowFirst
    let a := releaseMsg { cfg := putField 0 2 163 + putField 2 1 2, epoch := 1, step := 7 } 0x400 0 (n.unitOf 0 5) 0 1 0 0 0
    let x : Rel := { ctx := 2, slot := 0x400, unit := n.unitOf 0 5, tick := 1100, tab := 9 }
    let b := (wRel {} [(Ob.acct_accountTable, 2 ^ 31)] [x]).tsu.releasesFirst
    let d := (wRel {} [] [{ x with tick := 95, decided := true, okd := true }]).tsu.escrowFirst
    n.peek 0 (isTallyKind 5) = some a ∧ n.fired 2 = true ∧ (relOf a).ctx = 2 ∧ fld a.head 53 6 = (n.ctxOf 2).step ∧
    (n.stally 2 0x400).rels.any (fun e => e.num == 0) = false ∧ n.slotMode 2 0x400 = 1 ∧
    (n.waitsOn 2 0x400).find? (fun w => w.unit == (relOf a).unit) = some { ctx := 2, vid := 33, unit := n.unitOf 0 5, tick := 90, limit := 10 } ∧
    isHostUnit (n.unitOf 0 5) = false ∧ unitRegion (n.unitOf 0 5) = 0 ∧ (relOf a).tab = 0 ∧ 90 + 10 ≤ n.tb1 ∧ x.tick ≤ b.tb1 + 1024 ∧
    b.tally.rels = [x] ∧ d.tally.rels = [{ x with tick := 95, decided := true, okd := true }] ∧ (n.agentOf 0).repAt ≠ some n.tb1 ∧
    b.acctOf 0 0 = some 0 ∧ b.condHolds 0 0 9 (1100 - 2048) = false ∧ bit (b.acctEntry 0) 31 = true ∧ n.inputLive 0 = true ∧
    acctsDistinct (putWords 0 4 [2 ^ 31 + 5, 2 ^ 31 + 6]) = true ∧ acctsDistinct (putWords 0 4 [2 ^ 31 + 5, 2 ^ 31 + 5]) = false ∧
    n.stepHeld 2 = true ∧ n.stepHeld 3 = false ∧ n.rd Ob.det_inputMode ≠ 1 := by decide +kernel

/-- The configuration of a slot of span 163, context 2, 4 participants, ro = 900, delta = 100. -/
def wSlotCfg (mode flags : Nat) : Nat :=
  putField 0 2 163 + putField 2 1 2 + putField 3 1 mode + putField 4 1 flags + putField 8 4 4 + putField 12 4 900 + putField 24 4 100

/-- Slot 0x400 of span 163, context 2, 4 participants, ro = 900, delta = 100, by its mode and flags, at a Pier that heads the span or not. -/
def wHubSlot (mode flags : Nat) (head : Bool) (t : HTally) (p : Nat) (a : Option Msg) (os : List (Nat × Nat) := []) (tick : Nat := 9000) : State :=
  hubAt ([(Ob.link_state 64, 6), (Ob.link_state 3, 6), (Ob.prt_portState 3, 1), (Ob.prt_owner 3, 163 * 2 ^ 32 + 1)] ++ os) (fun n =>
    { (n.modLink p (fun l => { l with taken := a.toList })) with
      tb1 := tick
      spans := [(0, put 127 112 163 + put 111 80 1 + 2 ^ 72 + 1 + (if head then 2 else 0))]
      htal := [(0x400, { t with epoch := 1, cfg := wSlotCfg mode flags })] })

/-- An up message of a kind for slot 0x400, step 7. -/
def upMsg (kind : Nat) (rest : List Nat) : Msg :=
  { typ := tTally, cells := [tallyHead 163 1 kind 2 0x400 7, put 127 64 8000 + put 63 14 5] ++ rest }

/-- Meets the hypotheses of `HubsCombineDecideAndForwardTallies`, clause by clause. -/
theorem wit_HubsCombineDecideAndForwardTallies :
    let a := upMsg 2 [put 127 96 1 + put 95 80 1]
    let h := (wHubSlot 0 2 false { step := 7 } 3 (some a)).hub
    let d := (wHubSlot 0 3 true { step := 7, arrive := [(1, 4)] } 3 none
      [(Ob.head_owner 5, 163 * 65536 + 2), (Ob.head_stepInFlight 5, putField 0 8 7 + putField 8 8 8200)]).hub
    let r := (wHubSlot 0 2 false { step := 7 } 64 (some (releaseMsg (h.htalOf 0x400) 0x400 0 everyUnit 1 1 0 0 0))).hub
    h.running = true ∧ h.peek 3 (fun m => m.typ == tTally && 1 ≤ fld m.head 79 76 && fld m.head 79 76 ≤ 4) = some a ∧
    cfgActive (h.htalOf 0x400).cfg = true ∧ cfgSpan (h.htalOf 0x400).cfg = a.span ∧ kindUnused 0 2 = false ∧ kindUnused 0 1 = true ∧
    h.isHeadOf 163 = false ∧ h.spanMatch 3 163 1 = true ∧ (h.htalOf 0x400).stale 7 1 = false ∧ h.uplink 163 1 = 64 ∧ h.lst 64 = 6 ∧
    ((h.htalOf 0x400).forStep 7 1).hold = [] ∧ d.isHeadOf 163 = true ∧ d.inFlight 163 2 = some (7, 8200) ∧
    cfgSlotted (d.htalOf 0x400).cfg = true ∧ 8200 + cfgRo (d.htalOf 0x400).cfg ≤ d.tb1 + cfgDelta (d.htalOf 0x400).cfg ∧
    d.memberMatch 3 163 1 = true ∧ cfgParts (d.htalOf 0x400).cfg = 4 ∧
    (d.wr Ob.strict_strictSpans (2 ^ 163)).strictSpan 163 = true ∧ d.lead.leading = true ∧ d.tb1 % 8 = 0 ∧
    d.takeUps.htalOf 0x400 = d.htalOf 0x400 ∧ r.spanMatch 64 163 1 = true ∧ (d.htalOf 0x400).frozen = false ∧
    r.firstCopy (releaseKey (releaseMsg (h.htalOf 0x400) 0x400 0 everyUnit 1 1 0 0 0)) = true ∧ (r.peek 64 (isTallyKind 5)).isSome = true := by
  decide +kernel

/-- Meets the hypotheses of `ClearingStatesDoNotDependOnOrder`, clause by clause: a NaN, both infinities, -0 and the greatest finite value
of FP32, at counts one below saturation. -/
theorem wit_ClearingStatesDoNotDependOnOrder :
    (valOf 0 0x7FA00000 = .nan) ∧ valOf 0 0x7F800000 = .inf false ∧ valOf 0 0xFF800000 = .inf true ∧ valOf 0 0x80000000 = .fin true 0 ∧
    (match valOf 0 0x7F7FFFFF with | .fin neg v => !neg && v == (((2 ^ 24 - 1) * 2 ^ 253 : Nat) : Int) | _ => false) = true ∧
    (let e : Elem := { nan := 65534, pinf := 4094, ninf := 4095, z := 1 }
     e.nan ≤ 65535 ∧ e.pinf ≤ 4095 ∧ e.ninf ≤ 4095 ∧ e.z ≤ 2 ∧ e.nanDie ≤ 0xFFFFF) ∧
    [(1, 0x4B800000), (2, 0x3F800000)].isPerm [(2, 0x3F800000), (1, 0x4B800000)] = true := by decide +kernel

/-- Meets the hypotheses of `ClearingFormsCarryStatesAndExactValues`, clause by clause; descriptor 0 is a SUM of FP32 to FP32, and the two
states are elements 21 and 22 of the third worked example. -/
theorem wit_ClearingFormsCarryStatesAndExactValues :
    (dOp 0, dIn 0, dOut 0, dMean 0, dNan 0) = (0, 0, 0, false, 0) ∧ dScale 0 = 0 ∧
    (let d := 6 * 2 ^ 248 + 3 * 2 ^ 244; dIn d = 6 ∧ dOut d = 3 ∧ dOp d = 0) ∧ valOf 0 0x7FA00000 = .nan ∧ valOf 0 0x3F800000 ≠ .nan ∧
    pairOk { a := 0, z := 2 } { a := 7 * 2 ^ 146, z := 2 } = true ∧
    (let e : Elem := { a := -(2 ^ 319 : Int), nan := 2, nanDie := 0x02A11, z := 2 }
     e.nan ≤ 65535 ∧ e.nanDie ≤ 0xFFFFF ∧ -(2 ^ 319 : Int) ≤ e.a ∧ e.a < 2 ^ 319) := by decide +kernel

/-- Descriptor 1 is a SUM of 2 FP32 elements for 4 dies, bank 3; context 2 is FIRED in step 7. -/
def wDesc : Nat := 3 * 2 ^ 232 + 2 * 2 ^ 219 + 4 * 2 ^ 190 + 2000 * 2 ^ 124

/-- A TSU with that descriptor, and issues of handle 0. -/
def wClr (is : List Issue) (a : Option Msg := none) (accs : List Acc := []) : State :=
  tsuAt [(Ob.dsc_descriptor 1, wDesc), (Ob.dsc_valid 1, 1), (Ob.ctx_escrowState 2, 3), (Ob.link_state 0, 6)] (fun n =>
    { (((n.modCtx 2 (fun k => { k with step := 7 })).modClr (fun k => { k with issues := is, dieAccs := accs })).modLink 0 (fun l =>
      { l with taken := a.toList })) with tb1 := 5000 })

/-- Meets the hypotheses of `ContributionsFreezeAndResultsBecomePresent`, clause by clause. -/
theorem wit_ContributionsFreezeAndResultsBecomePresent :
    let i : Issue := { ctx := 2, hnd := 0, desc := 1, descW := wDesc, step := 7, tick := 3000 }
    let r := clearMsg 163 1 2 2 0 0 7 { form := 5, who := 0, first := 0, cnt := 2, cells := [0x3F8000003F800000 * 2 ^ 64] }
    let f := clearMsg 163 1 4 2 0 0 7 { form := 0, who := 0, first := 0, cnt := 0, cells := [put 127 80 7] }
    let n := (wClr [i] (some r)).tsu
    let block := [1, 0, 0, 0, 2, 0, 0, 0, 0, 0, 128, 63, 0, 0, 128, 75]
    descOk false wDesc = true ∧ n.descUsed 1 = true ∧ n.descUsed 2 = false ∧ descOk false 0 = false ∧ n.rd Ob.det_inputMode ≠ 1 ∧
    n.fnEnabled 3 = true ∧ n.blockLength block = false ∧ n.blockLength [1, 0] = true ∧ n.contribStatus 2 0 block = 0 ∧
    n.contribStatus 2 0 [9, 0, 0, 0, 0, 0, 0, 0] = 3 ∧ n.fired 2 = true ∧ (blockPats 0 block).length = 2 ∧
    n.escrowFirst.peek 0 isResult = some r ∧ n.escrowFirst.clr.issues = [i] ∧ i.live = true ∧ (i.take 0 r).whole = false ∧
    ({ (i.take 0 r) with fin := some (f.cell 1, 0) } : Issue).whole = true ∧ 3000 + dTimeout wDesc = n.tb1 ∧ n.issueOf 2 0 = some i ∧
    ({ i with vals := [(0, 1)] } : Issue).fills 3 = true ∧ dNan wDesc = 0 ∧ dNan (wDesc + 2 * 2 ^ 240) = 2 ∧
    (Elem.single 0 0 5 0x7FC00000).nan = 1 ∧ (wClr [] none [{ ctx := 2, hnd := 0, desc := 4 }]).tsu.dieAcc 2 0 =
      some { ctx := 2, hnd := 0, desc := 4 } := by decide +kernel

/-- Engine 0 of a hub serves span 163, context 2, handle 0 with descriptor `wDesc`; port 3 carries the span. -/
def wEng (head : Bool) (g : Engine) (p : Nat := 3) (a : Option Msg := none) : State :=
  hubAt [(Ob.link_state 64, 6), (Ob.link_state 3, 6), (Ob.prt_portState 3, 1), (Ob.prt_owner 3, 163 * 2 ^ 32 + 1),
    (Ob.eng_configuration 0, putField 0 2 163 + putField 2 1 2 + 2 ^ 32 + wDesc * 2 ^ 64)] (fun n =>
    { ((n.modLink p (fun l => { l with taken := a.toList })).modEng 0 (fun _ => { g with epoch := 1 })) with
      tb1 := 20000, spans := [(0, put 127 112 163 + put 111 80 1 + 2 ^ 72 + 1 + (if head then 2 else 0))] })

/-- Meets the hypotheses of `EnginesCombineRoundOnceAndReport`, clause by clause. -/
theorem wit_EnginesCombineRoundOnceAndReport :
    let a := clearMsg 163 1 1 2 0 0 7 { form := 1, who := 1, first := 0, cnt := 2, cells := [0x3F8000003F800000 * 2 ^ 64] }
    let f := clearMsg 163 1 4 2 0 0 7 { form := 0, who := 0, first := 0, cnt := 0, cells := [put 127 80 7] }
    let e1 : EngEl := { st := { a := 2 ^ 149, z := 2 }, contrib := 4, doneAt := 19900 }
    let g : Engine := { live := true, step := 7, firstAt := 19000, ins := [{ port := 3 }] }
    let full : Engine := { g with elems := [(0, e1), (1, e1)], comp := 2 }
    let n := (wEng false g 3 (some a)).hub
    n.running = true ∧ (n.partialsBelow 3).peek 3 (isClearKind 1) = some a ∧ engActive (n.rd (Ob.eng_configuration 0)) = true ∧
    engSpan (n.rd (Ob.eng_configuration 0)) = 163 ∧ n.engDesc 0 = wDesc ∧ clearStep a = 7 ∧ formOk n.level 0 1 = true ∧
    (n.engOf 0).ins.find? (fun i => i.port == 3 && !i.gone) = some { port := 3 } ∧ n.tb1 < 19000 + 16384 ∧
    (full.dueGroups 20000).length = 1 ∧ ((wEng true full).hub.partialsFirst.engOf 0).comp = 2 ∧ n.uplink 163 1 = 64 ∧ n.memberMatch 64 163 1 = true ∧ n.memberMatch 3 163 1 = true ∧
    (wEng true full).hub.isHeadOf 163 = true ∧ (wEng true full).hub.headFor 163 2 = none ∧ dExp wDesc = 4 ∧ n.fnEnabled 2 = true ∧
    engActive (engMask (putField 0 2 163 + 2 ^ 32 + wDesc * 2 ^ 64)) = true ∧ descOk false wDesc = true ∧
    (wEng false g 64 (some f)).hub.peek 64 isResult = some f ∧ (n.fwd.any (fun e => e.1 == resultKey f)) = false ∧
    ((wEng false g).hub.wr (Ob.head_owner 5) (163 * 65536 + 2)).headFor 163 2 = some 5 := by decide +kernel

/-- Meets the hypotheses of `StrictAndTheKeyFollowTheirInputs`, clause by clause; a seed object is journaled, the wait timeout is not. -/
theorem wit_StrictAndTheKeyFollowTheirInputs :
    let n := State.reset.tsu
    n.isHub = false ∧ n.rd Ob.det_inputMode ≠ 1 ∧ (tsuAt [(Ob.det_inputMode, 1)]).tsu.rd Ob.det_inputMode = 1 ∧ n.anyHeld = false ∧
    (tsuAt [(Ob.ctx_escrowState 5, 2)]).tsu.stepHeld 5 = true ∧ (tsuAt [(Ob.det_keyState, 1)]).tsu.rd Ob.det_keyState = 1 ∧
    n.rd Ob.det_keyState ≠ 1 ∧ isJournaled (Ob.seed_seed 3) = true ∧ isJournaled (Ob.tctx_waitTimeout 3) = false ∧
    keyPart (2 ^ 24) 0 ≠ keyPart 0 0 := by decide +kernel

/-- Entry 3 of the manifest holds 2,048 inputs of one byte, and region 0 runs with the gate of inputs open for context 2, step 7. -/
def wMint (f : MintSt → MintSt := id) (g : Ctx → Ctx := id) (esc : Nat := 3) : State :=
  tsuAt [(Ob.mint_manifest, (2 ^ 127 + 2 ^ 126 + 2048 * 2 ^ 30) * 2 ^ 384), (Ob.ctx_escrowState 2, esc)] (fun n =>
    { (((n.modRegion 0 (fun g => { g with pgood := true, iso := 0 })).modAgent 0 (fun a =>
        { a with run := some { ctx := 2, step := 7, launch := 100, gateI := true } })).modMint f).modCtx 2 g with tb1 := 900 })

/-- Meets the hypotheses of `IngressIsHashedIntoTheTag`, clause by clause. -/
theorem wit_IngressIsHashedIntoTheTag :
    let n := (wMint).tsu
    let x : MNode := { ctx := 2, entry := 3, step := 7, chunk := 1, len := 1, cv := 5 }
    let y : MNode := { x with chunk := 0, cv := 6 }
    n.hasRegion 0 = true ∧ n.inputLive 0 = true ∧ n.runAt 0 1 200 = some (2, 7, 100, true, true) ∧ mChunks (n.manifest 3) = 2 ∧
    n.segmentCase 3 1 0 (n.runAt 0 1 200) = 0 ∧ segBytes (n.manifest 3) 1 1 = 1024 ∧ n.segmentCase 4 0 0 none = 1 ∧
    n.segmentCase 3 1 0 (n.runAt 0 1 50) = 3 ∧ n.mint.told.contains (0, 100) = false ∧
    (wMint (fun m => { m with lanes := [(0, x)], nodes := [y] })).tsu.mint.lanes.find? (fun l => l.1 == 0) = some (0, x) ∧
    (joinNodes 2 x y).isNone = true ∧ (joinNodes 2 y x).map (fun z => (z.chunk, z.len)) = some (0, 2) ∧
    ((wMint id (fun k => { k with tagDue := true })).tsu.ctxOf 2).tagDue = true ∧
    (wMint id (fun k => { k with tagDue := true })).tsu.tagPoint 2 = true ∧ (wMint id id 0).tsu.fired 2 = false ∧
    (n.ctxOf 2).audit = none ∧ (n.ctxOf 2).oldTag = none := by decide +kernel

/-- A TSU of span 163, epoch 1, with lane 0 MEMBER and feature bit 1, context 2 FIRED in step 7 with F = 1,000. -/
def wJrn (j : JournalSt) (a : Option Msg := none) (esc : Nat := 3) : State :=
  tsuAt [(Ob.lane_laneSpanEntry 0, 163 * 2 ^ 32 + 1), (Ob.lane_laneSpanEntry 1, 163 * 2 ^ 32 + 1), (Ob.link_state 0, 6),
    (Ob.link_operatingFeatures 0, 2), (Ob.ctx_escrowState 2, esc)] (fun n =>
    { (({ n with jrnl := j }.modCtx 2 (fun k => { k with arms := [(7, 1000)] })).modLink 0 (fun l => { l with taken := a.toList })) with
      tb1 := 70000 })

/-- A hub of span 163 with its port 3, a message there, and what it holds. -/
def wJHub (head : Bool) (a : Option Msg := none) (t : List Trail := []) (os : List (Nat × Nat) := []) : State :=
  hubAt ([(Ob.link_state 64, 6), (Ob.link_operatingFeatures 64, 2), (Ob.link_state 3, 6), (Ob.prt_portState 3, 1),
    (Ob.prt_owner 3, 163 * 2 ^ 32 + 1)] ++ os) (fun n =>
    { (n.modLink 3 (fun l => { l with taken := a.toList })) with
      tb1 := 2000000, trails := t, spans := [(0, put 127 112 163 + put 111 80 1 + 2 ^ 72 + 1 + (if head then 2 else 0))] })

/-- Meets the hypotheses of `TheJournalKeepsAndReplaysRecords`, clause by clause. -/
theorem wit_TheJournalKeepsAndReplaysRecords :
    let n := (wJrn {}).tsu
    let die := n.ident
    let r : JRec := { seq := 4, sendsA := 1, tickA := 100 }
    let rp := recordMsg 163 1 4 2 die 9 7 2 32 69000 []
    let rec_ := recordMsg 163 1 1 2 5 9 7 2 32 0 []
    let t : Trail := { span := 163, epoch := 1, ctx := 2, step := 7, firstAt := 5 }
    n.member = true ∧ inputSize 2 32 = true ∧ n.inputCtx 2 (Ob.seed_seed 2 * 16) [] = 2 ∧ 2 < n.ctxCount ∧ n.journalPort 0 = true ∧
    n.journalPort 1 = false ∧ r.again 0 n.tb1 = true ∧ ({ r with sendsA := 16 } : JRec).spent 0 n.tb1 = true ∧
    ({ r with sendsA := 16 } : JRec).again 0 n.tb1 = false ∧ r.open = true ∧
    (wJrn {} (some rp)).tsu.peek 0 (isJournalKind 4) = some rp ∧ rp.span = n.span ∧ rp.epoch = n.epoch ∧ jDie rp = die ∧
    n.replayDue rp = some 70000 ∧ jTyp rp = 2 ∧ (wJrn {} (some (ackMsg 163 1 2 die 4))).tsu.peek 0 (isJournalKind 2) = some (ackMsg 163 1 2 die 4) ∧
    (wJHub true (some rec_)).hub.peek 3 (isJournalKind 1) = some rec_ ∧ (wJHub true).hub.spanMatch 3 163 1 = true ∧
    (wJHub true).hub.isHeadOf 163 = true ∧ (wJHub false).hub.isHeadOf 163 = false ∧ (wJHub true).hub.fnEnabled 3 = true ∧
    (wJHub true).hub.fnEnabled 4 = true ∧ (wJHub false).hub.memberMatch 64 163 1 = true ∧ (wJHub false).hub.uplink 163 1 = 64 ∧
    (wJHub false).hub.expectedSet 163 1 2 = [3] ∧ fld ((tagMsg 163 1 2 7 5 1 0).cell 1) 63 44 ≠ 0 ∧
    5 + 1562500 ≤ (wJHub true none [t]).hub.tb1 ∧ slotsUsed [] + 5 ≤ ringSize ∧
    (wJHub true none [] [(Ob.rpl_replayState, 1), (Ob.rpl_replaySource, 163 * 2 ^ 32 + 9)]).hub.replaySource.1 = 163 ∧
    (wJHub true none [] [(Ob.rpl_replayState, 1)]).hub.sourceRecords.length = 0 := by decide +kernel

/-- A TSU of span 163, epoch 1, whose context 2 is in an escrow state, with a wave of a cause at lane 1. -/
def wWave (esc walk : Nat) (os : List (Nat × Nat) := []) (f : Ctx → Ctx := id) : State :=
  tsuAt ([(Ob.lane_laneSpanEntry 0, 163 * 2 ^ 32 + 1), (Ob.lane_laneSpanEntry 1, 163 * 2 ^ 32 + 1), (Ob.ctx_escrowState 2, esc),
    (Ob.seq_walkState 2, walk)] ++ os) (fun n =>
    { (n.modCtx 2 f).modLink 1 (fun l => { l with waveIn := [(slotOf 0x31 163 1 0x2A11 2, 40)] }) with tb1 := 9000 })

/-- Meets the hypotheses of `RecordsWavesAndSettlingActAsStated`, clause by clause. -/
theorem wit_RecordsWavesAndSettlingActAsStated :
    let slot := slotOf 0x31 163 1 0x2A11 2
    let settled := [(Ob.flt_settling, 4), (Ob.seq_lastOutcome 2, outcomeBlob 7 1 0 0 100 200)]
    slotCtx slot = 2 ∧ slotCause slot = 0x31 ∧ (wWave 3 1).tsu.member = true ∧ slotSpan slot = (wWave 3 1).tsu.span ∧
    slotEpoch slot = (wWave 3 1).tsu.epoch ∧ slotCtx slot < (wWave 3 1).tsu.ctxCount ∧
    ((wWave 3 1).tsu.linkOf 1).waveIn = [(slot, 40)] ∧ (wWave 1 0).tsu.escrow 2 = 1 ∧ (wWave 3 1).tsu.escrow 2 = 3 ∧ (wWave 3 1).tsu.walk 2 = 1 ∧
    (wWave 0 0).tsu.escrow 2 = 0 ∧ bit ((wWave 0 0).tsu.rd Ob.flt_settling) 2 = false ∧ bit ((wWave 0 0 settled).tsu.rd Ob.flt_settling) 2 = true ∧
    fieldAt ((wWave 0 0 settled).tsu.rd (Ob.seq_lastOutcome 2)) 8 1 = 1 ∧
    ((wWave 0 0 [] (fun x => { x with settleTo := some 9000 })).tsu.ctxOf 2).settleTo = some 9000 ∧
    ((wWave 3 1 [] (fun x => { x with pathLostAt := some 7976 })).tsu.ctxOf 2).pathLostAt = some 7976 ∧ (wWave 3 1).tsu.fired 2 = true ∧
    ((wWave 3 1).tsu.ctxOf 2).cause = 0 ∧ State.reset.hub.running = true ∧ State.reset.hub.hpwr.fwDown = false ∧
    State.reset.tsu.log.length < State.reset.tsu.logSize ∧ bit (State.reset.tsu.rd Ob.flt_interruptMask) 0x31 = true := by decide +kernel

/-- A TSU whose region 0 is on and runs a step of context 2. -/
def wLad (os : List (Nat × Nat)) (g : Region → Region) (run : Option Run := some { ctx := 2 }) (stop : Option Nat := none) : State :=
  tsuAt ((Ob.ctx_escrowState 2, 3) :: os) (fun n =>
    { (n.modRegion 0 (fun x => g { x with pgood := true, iso := 0 })).modAgent 0 (fun a => { a with run := run, stopAt := stop }) with tb1 := 40000000 })

/-- Meets the hypotheses of `TheWatchAndTheLadderActAsStated`, clause by clause. -/
theorem wit_TheWatchAndTheLadderActAsStated :
    let on := (wLad [(Ob.watch_ladderState 0, 1)] (fun x => { x with watchAt := 39968750 })).tsu
    let two := (wLad [] (fun x => { x with ladder := 2, isolated := true, ladderAt := 39999936 })).tsu
    let held := (wLad [(Ob.watch_hold 0, 1)] (fun x => { x with ladder := 2, isolated := true, ladderAt := 39999936 })).tsu
    0 < on.regionCount ∧ on.inputLive 0 = true ∧ State.reset.tsu.inputLive 0 = false ∧ on.rd (Ob.watch_ladderState 0) = 1 ∧ on.fired 2 = true ∧
    (on.regionOf 0).watchAt + ticksOfUs (on.rd (Ob.watch_heartbeatWindow 0)) ≤ on.tb1 ∧
    ((wLad [] (fun x => { x with ladder := 1, crstReq := true, ladderAt := 39968750 })).tsu.regionOf 0).crstReq = true ∧
    39968750 + ticksOfUs (on.rd (Ob.watch_resetLimit 0)) ≤ on.tb1 ∧ 39968750 + ticksOfUs (on.rd (Ob.watch_resetTarget 0)) < on.tb1 ∧
    (two.regionOf 0).ladderAt + 64 ≤ two.tb1 ∧ two.rd (Ob.watch_hold 0) = 0 ∧ two.heldAt2 0 = false ∧ held.heldAt2 0 = true ∧
    ((two.regionOf 0).cycles.filter (fun t => two.tb1 < t + hourTicks)).length < two.rd (Ob.watch_cycleBudget 0) ∧
    ¬((wLad [] (fun x => { x with cycles := [1, 2, 3, 4, 5] })).tsu.regionOf 0).cycles.length < 5 ∧
    40000000 - 2 ≤ 36874999 + on.cycleLimit 0 ∧ 36875000 + on.cycleLimit 0 ≤ on.tb1 ∧
    (wLad [] id none).tsu.runOf 0 = none ∧ (wLad [] id none).tsu.rst 0 = 3 ∧ (wLad [(Ob.reg_regionState 0, 0)] id none).tsu.rst 0 = 0 ∧
    (wLad [(Ob.reg_regionState 0, 5)] id none).tsu.rst 0 = 5 ∧ ((wLad [] id).tsu.regionOf 0).pgood = true ∧ ((wLad [] id).tsu.regionOf 0).phase = 0 ∧
    ((wLad [] id (some {}) (some 100)).tsu.agentOf 0).stopAt = some 100 ∧ 100 + on.rd (Ob.agent_stopTimeout 0) ≤ on.tb1 ∧
    (let s := wLad [(Ob.watch_ladderState 0, 1)] (fun x => { x with watchAt := 39968750 })
     (s.supplyFirst 0 s.tsu).tb1 = s.tsu.tb1 ∧ s.beats 0 = false ∧ s.acks 0 = false ∧ s.stops 0 = false ∧
     { s with pending := [.heartbeat 0 0] }.beats 0 = true) := by decide +kernel

/-- A hub whose list holds span 163, epoch 1, with some objects and its node changed. -/
def w15Span (os : List (Nat × Nat)) (f : Node → Node := id) : State := hubAt os (fun n => f { n with spans := [(0, listEntry 163 1 (2 ^ 64) true)] })

/-- Meets the hypotheses of `SpanListsPortsAndEpochsFollowTheirRules`, clause by clause; a free port of epoch 3 may be owned again from 5. -/
theorem wit_SpanListsPortsAndEpochsFollowTheirRules :
    let h := (w15Span []).hub
    let q := (w15Span [(Ob.prt_portState 2, 2), (Ob.prt_releaseEpoch 2, 3), (Ob.epo_hallEpoch, 5)]).hub
    let t := tsuAt [(Ob.lane_laneSpanEntry 0, 163 * 2 ^ 32 + 1), (Ob.lane_laneSpanEntry 1, 163 * 2 ^ 32 + 1), (Ob.ctx_escrowState 2, 3)]
    h.running = true ∧ h.isHub = true ∧ h.spanEntryOf 163 = some (listEntry 163 1 (2 ^ 64) true) ∧ h.spanEntryOf 164 = none ∧
    eSpan (listEntry 164 2 1 false) = 164 ∧ maskOk 1 false = true ∧ maskOk (2 ^ 64) true = false ∧ maskOk (2 ^ 64) false = true ∧ h.spans.length < 4096 ∧
    ((w15Span [(Ob.head_owner 5, 163), (Ob.head_state 5, 2)]).hub.headRuns 5 = true) ∧ h.headRuns 5 = false ∧ h.level = 1 ∧
    h.listHolds 163 1 = true ∧ h.rd (Ob.prt_portState 2) = 0 ∧ (w15Span [(Ob.prt_portState 2, 1)]).hub.rd (Ob.prt_portState 2) = 1 ∧
    q.rd (Ob.prt_portState 2) = 2 ∧ q.relEpoch 2 + 2 ≤ 5 ∧ 5 ≤ q.rd Ob.epo_hallEpoch ∧ t.tsu.member = true ∧ t.tsu.fired 2 = true ∧
    (t.tsu.wr (Ob.lane_laneSpanEntry 1) 0).spanEntry ≠ t.tsu.spanEntry ∧
    (w15Span [] (fun n => { n with level := 3 })).hub.lead.leading = true ∧
    ((w15Span [] (fun n => n.modLink 66 (fun l => { l with taken := [{ typ := tTwin, cells := [put 127 124 3 + put 123 92 9] }] }))).hub.peek 66
      (isTwinKind 3)).isSome = true ∧
    (w15Span [(Ob.link_state 0, 5)] (fun n => { n with level := 3 })).hub.relayHop (hubIdentity 2 0 0) = .port 0 := by decide +kernel

/-- A Pier that owns port 3 for span 163, epoch 1, at a tick, with a message at a port. -/
def wHealth (os : List (Nat × Nat)) (p : Nat) (l : List Msg) (f : Node → Node := id) : State :=
  hubAt ([(Ob.prt_portState 3, 1), (Ob.prt_owner 3, 163 * 2 ^ 32 + 1), (Ob.link_state 66, 5)] ++ os) (fun n =>
    { f (n.modLink p (fun l' => { l' with taken := l })) with tb1 := 135266304, spans := [(0, listEntry 163 1 (2 ^ 64) false)] })

/-- Meets the hypotheses of `HealthIsScoredAndDiesExpelledWithinTheBudget`, clause by clause. -/
theorem wit_HealthIsScoredAndDiesExpelledWithinTheBudget :
    let v1 := verdictMsg 163 1 3 1 2
    let v0 := verdictMsg 163 1 3 0 2
    let ex := censusMsg 163 1 4 3 (put 55 46 390) []
    let th := { typ := tTwin, cells := [put 127 124 2 + put 123 118 3 + put 117 116 3] : Msg }
    let n := (wHealth [] 64 [v1]).hub
    n.running = true ∧ n.isHub = true ∧ n.level = 1 ∧ n.lead.leading = true ∧ n.fnEnabled 5 = true ∧
    intervalEnd n.tb1 1048576 + 1048576 ≤ n.tb1 ∧ (n.dportOf 3).evalAt ≠ some (intervalEnd n.tb1 1048576) ∧
    n.rd Ob.hwt_expulsionThreshold ≤ n.rd Ob.hwt_probationThreshold ∧ n.mayExpel 3 = true ∧ scoreOf (n.nextPenalty 3) = 1000 ∧
    intervalEnd n.tb1 524288 + 524288 ≤ n.tb1 ∧ 5 ≤ n.lst 66 ∧ n.peek 64 (isCensusKind 5) = some v1 ∧ n.firstCopy (verdictKey v1) = true ∧
    fld (cDie v1) 5 0 = 3 ∧ n.spanMatch 3 v1.span v1.epoch = true ∧ bit v1.head 55 = true ∧ bit v0.head 55 = false ∧
    (wHealth [] 64 [v0]).hub.peek 64 (isCensusKind 5) = some v0 ∧ (wHealth [] 3 [ex]).hub.peek 3 (isCensusKind 4) = some ex ∧ (wHealth [] 3 [ex]).hub.nextExpel = some 3 ∧
    n.isHeadOf 163 = false ∧ (wHealth [] 3 [ex] (fun n => { n with spans := [] })).hub.isHeadOf 163 = false ∧
    (hubAt [] (fun n => { n with spans := [(0, listEntry 163 1 1 true)] })).hub.isHeadOf 163 = true ∧ (n.grantsOf 163).length < n.rd Ob.bud_expulsionBudget ∧
    (wHealth [] 66 [th]).hub.peek 66 (isTwinKind 2) = some th ∧ fld th.head 123 118 = 3 ∧ fld th.head 117 116 = 3 ∧
    (tsuAt [] (fun n => { n with tb1 := healthTicks })).tsu.tb1 % healthTicks = 0 := by decide +kernel

/-- A member TSU with a message at lane 0 and an audit step of context 2 whose tag is due. -/
def wCen (l : List Msg) (f : Node → Node := id) : State :=
  tsuAt [(Ob.lane_laneSpanEntry 0, 163 * 2 ^ 32 + 1), (Ob.lane_laneSpanEntry 1, 163 * 2 ^ 32 + 1)] (fun n =>
    { f ((n.modLink 0 (fun l' => { l' with taken := l })).modCtx 2 (fun x => { x with tagDue := true, audit := some 5 })) with tb1 := 9000 })

/-- Meets the hypotheses of `AuditsFenceCellsAndCensusesLatch`, clause by clause. -/
theorem wit_AuditsFenceCellsAndCensusesLatch :
    let rep := censusMsg 163 1 2 3 (put 3 0 1) []
    let aud := censusMsg 163 1 3 3 (put 55 53 6 + put 52 49 3 + put 48 48 1) []
    let la := latchMsg 163 1 9 77 20000
    let n := (wCen [la]).tsu
    let src := fun (t : Tbl Nat) => hubAt [] (fun n => { n with spans := t })
    (2 < n.ctxCount ∧ (n.ctxOf 2).oldTag = none ∧ ((n.ctxOf 2).tagDue && n.tagPoint 2) = true ∧ (n.ctxOf 2).audit = some 5) ∧
    ((wHealth [] 3 [rep]).hub.peek 3 (isCensusKind 2) = some rep ∧ (wHealth [] 3 [rep]).hub.spanMatch 3 163 1 = true ∧ fld rep.head 3 0 = 1 ∧
      (wHealth [] 3 [aud]).hub.peek 3 (isCensusKind 3) = some aud ∧ 16 * fld aud.head 55 53 + fld aud.head 52 49 = 99) ∧
    ((src [(0, listEntry 163 1 1 true)]).hub.isHeadOf 163 = true ∧ (src []).hub.fnEnabled 5 = true ∧ State.reset.hub.tb1 % 2 ^ 41 = 0) ∧
    (n.hasPort 0 = true ∧ n.peek 0 (isCensusKind 1) = some la ∧ n.firstCopy (latchKey la) = true ∧ n.spanMatch 0 la.span la.epoch = true ∧
      la.span = n.span ∧ n.fnEnabled 8 = true ∧ n.tb1 ≤ latchTick la) ∧
    ((wCen [] (fun n => n.modCensus (fun c => { c with latchAt := [(9000, 9, 77, false)] }))).tsu.census.latchAt.filter (·.1 == 9000) = [(9000, 9, 77, false)] ∧
      n.census.latchAt = [] ∧ n.bus.known.all (fun a => a.op != 4 || a.tick0 != n.tb1 || a.work == 0) = true ∧ n.hasCounter 3 = true ∧
      n.sourceOk false 0x12 = true ∧ n.sourceOk false 0x02 = false ∧ n.vaultFits (Ob.ecnt_source 3) 0x12 = true) ∧
    (wCen [] (fun n => n.modAgent 0 (fun a => { a with acts := [{ op := 4, grp := 63, tick0 := 9000 }] }))).tsu.actionNow 0 4 =
      some { op := 4, grp := 63, tick0 := 9000 } := by decide +kernel

/-- A TSU past stage 0 of its start, with its register port's route changed. -/
def wPort (f : Route → Route := id) : State := tsuAt [(Ob.su_startUpState, 3)] (fun n => { (n.modRoute 0 f) with tb1 := 2000000000 })

/-- Meets the hypotheses of `ObjectsAreReadAndWrittenByTheirKind`, clause by clause: a U64 is short, a mint manifest long. -/
theorem wit_ObjectsAreReadAndWrittenByTheirKind :
    let n := (wPort).tsu
    let a := 16 * Ob.tb_increment 2
    n.isHub = false ∧ n.served = true ∧ (findRow n.kind 0).isNone = true ∧ ((findRow n.kind Ob.idn_nodeKind).map (fun r => r.right)) = some .ro ∧
    n.hasObj Ob.idn_nodeKind = true ∧ ((findRow n.kind Ob.aud_temperatureBand).map (fun r => rangeAllowed r Ob.aud_temperatureBand 0 2)) = some false ∧
    n.deferred = [] ∧ wordOk a 4 = true ∧ wordOk a 2 = false ∧ wordOk (a + 2) 4 = false ∧ (n.objRow 0).isNone = true ∧
    ((n.objRow (a / 16)).map isLong) = some false ∧ n.sizeOf (a / 16) = 8 ∧ a / 4 % 4 = 0 ∧ (a + 4) / 4 % 4 = 1 ∧ (a + 12) / 4 % 4 = 3 ∧
    ((wPort (fun r => { r with rdOid := some (a / 16), wrOid := some (a / 16) })).tsu.routeOf 0).rdOid = some (a / 16) ∧
    ((n.objRow Ob.mint_manifest).map isLong) = some true ∧
    (wPort (fun r => { r with mode := 2, oid := Ob.mint_manifest, pos := 16 })).tsu.longOpen Ob.mint_manifest 2 = true ∧
    (wPort (fun r => { r with mode := 1, oid := Ob.mint_manifest, len := 65536 })).tsu.longOpen Ob.mint_manifest 1 = true ∧
    n.longOpen Ob.mint_manifest 1 = false ∧ 1 + tps ≤ n.tb1 ∧
    ((wPort (fun r => { r with mode := 2, touched := 1 })).tsu.routeOf 0).mode = 2 := by decide +kernel

/-- An object request of a Pier for die 3 and its place at lane 0 of a TSU in MEMBER, or at a port of a hub. -/
def wObj (kind len oid : Nat) (dst : Nat := 3) : Msg := { typ := tObject, cells := [objHead kind dst (hubIdentity 1 0 0) 5 (oid / 256) (oid % 256) 0 len 1, 0] }
def w16Rel (x : Msg) (f : Node → Node := id) : State :=
  tsuAt [(Ob.link_state 0, 6)] (fun n => f (n.modLink 0 (fun l => { l with taken := [x] })))
def w16RelHub (p : Nat) (x : Msg) (os : List (Nat × Nat) := []) (f : Node → Node := id) : State :=
  hubAt ((Ob.idn_identity, hubIdentity 1 0 0) :: os) (fun n => { f (n.modLink p (fun l => { l with taken := [x] })) with tb1 := 2000000000 })

/-- Meets the hypotheses of `RelayServesPassesOnAndTimesOut`, clause by clause. -/
theorem wit_RelayServesPassesOnAndTimesOut :
    let rd := wObj 1 1 Ob.aud_temperatureBand
    let wrt := wObj 2 1 Ob.aud_temperatureBand
    let resp := objResponse (objHead 2 3 (hubIdentity 1 0 0) 5 0x30B0 0 0 8 1) 0 0 0 []
    let req : RelayReq := { tag := 5, dst := 3, msg := { typ := tObject, cells := [objHead 2 3 (hubIdentity 1 0 0) 5 0x30B0 0 0 8 1, 0] }, tick0 := 4 }
    ((w16Rel rd).tsu.peek 0 ((w16Rel rd).tsu.servesObj 0 1) = some rd ∧ oLen rd ≤ 96 ∧ oOff rd = 0 ∧ (w16Rel rd).tsu.sizeOf (oObj rd) ≤ oLen rd ∧
      ((w16Rel rd).tsu.objRow (oObj rd)).map isLong = some false ∧ 5 ≤ (w16Rel rd).tsu.lst 0) ∧
    (((w16Rel rd).tsu.objRow Ob.mint_manifest).map isLong = some true ∧
      (w16Rel rd (fun n => n.modRoute 1 (fun r => { r with mode := 1 }))).tsu.otherOpen 1 Ob.mint_manifest 1 (7, 5) = true) ∧
    ((w16Rel wrt).tsu.peek 0 ((w16Rel wrt).tsu.servesObj 0 2) = some wrt ∧ oLast wrt = true) ∧
    ((w16Rel (wObj 4 0 7)).tsu.peek 0 ((w16Rel (wObj 4 0 7)).tsu.servesObj 0 4)).isSome = true ∧
    ((w16RelHub 64 rd).hub.peek 64 (fun m => m.typ == tObject && (decide (66 ≤ 64) || oTarget m != (w16RelHub 64 rd).hub.ident)) = some rd ∧
      (w16RelHub 64 rd).hub.relayHop (oTarget rd) = .port 3 ∧ (w16RelHub 64 rd [(Ob.link_state 3, 6)]).hub.lst 3 = 6 ∧ (w16RelHub 64 rd).hub.lst 3 < 5 ∧
      (w16RelHub 64 rd).hub.relayHop (hubIdentity 2 0 0) = .port 65 ∧ (w16RelHub 64 rd [] (fun n => { n with level := 3 })).hub.relayHop (hubIdentity 3 0 1) = .drop) ∧
    ((w16RelHub 3 resp).hub.peek 3 ((w16RelHub 3 resp).hub.servesObj 3 3) = some resp ∧ oTag resp = 5 ∧ oStatus resp = 0 ∧
      (w16RelHub 3 resp).hub.access.reqs = [] ∧ (w16RelHub 3 resp).hub.laneObj = 0x30B000 ∧ (w16RelHub 3 resp).hub.dieAt 3 = 3 ∧ req.tick0 + tps ≤ 2000000000 ∧
      leVal (payloadBytes req.msg 8) = (w16RelHub 3 resp).hub.laneValue 3) := by decide +kernel

/-- A request of operator 0 with a sequence, to read the node kind of the receiving hub, under the key 0. -/
def wGoa (seq : Nat) (tag : List Nat → List Nat := goaTag 0) : List Nat :=
  let b := leBytes 2 1 ++ [0, 1] ++ leBytes 4 0 ++ leBytes 8 seq ++ leBytes 4 0xFFFFF ++ leBytes 4 0 ++ [1, 0, 0, 0x10, 0, 0, 1, 0, 0, 0, 0, 0]
  b ++ tag b
def wGoaHub (os : List (Nat × Nat) := []) (f : Node → Node := id) : State := hubAt ([(Ob.opr_operator 0, 0x0201)] ++ os) f

/-- Meets the hypotheses of `GoaAnswersAuthenticRequestsOnceAndFunctionsDrain`, clause by clause. -/
theorem wit_GoaAnswersAuthenticRequestsOnceAndFunctionsDrain :
    let n := (wGoaHub).hub.relayFirst
    let q : GoaReq := { op := 0, bytes := wGoa 7 (fun _ => List.replicate 32 0), outs := [(0, true, [3])] }
    (n.running = true ∧ n.isHub = true ∧ n.hpwr.fwDown = false ∧ (wGoa 7).length = 68 ∧ n.goaCheck (wGoa 7) = 0 ∧
      n.goaCheck (wGoa 7 (fun _ => List.replicate 32 0)) = 3 ∧ goaOperator (wGoa 7) = 0 ∧ goaSeq (wGoa 7) = 7) ∧
    (n.rd (Ob.opr_highestSequence 0) < 7 ∧ n.access.reqs = [] ∧ goaTarget (wGoa 7) = 0xFFFFF ∧
      (goaOps (wGoa 7)).map (fun l => l.map (fun o => (o.op, o.oid, o.off, o.len))) = some [(1, Ob.idn_nodeKind, 0, 1)] ∧
      (n.objRow Ob.idn_nodeKind).map isLong = some false ∧ n.sizeOf Ob.idn_nodeKind = 1) ∧
    ((wGoaHub [(Ob.opr_highestSequence 0, 7)] (fun n => n.modOperator 0 (fun x => { x with cache := [(7, [1])] }))).hub.operator 0).cache.find?
      (fun e => e.1 == 7) = some (7, [1]) ∧
    ((wGoaHub).goaWaits 0 0 = false ∧ q.whole = true ∧ q.seq = 7 ∧ (goaOps q.bytes).isSome = true) ∧
    (0 < n.fnCount ∧ State.reset.tsu.vaultFits (Ob.fn_enable 6) 0 = true ∧ (tsuAt [(Ob.fn_functionState 6, 1)]).tsu.rd (Ob.fn_functionState 6) = 1 ∧
      State.reset.tsu.fnInFlight 6 = 0 ∧ (tsuAt [] (fun n => n.modCap 0 (fun q => { q with recs := [5] }))).tsu.fnInFlight 6 = 1 ∧
      State.reset.tsu.rd (Ob.fn_drainStart 6) + ticksOfMs (State.reset.tsu.rd (Ob.fn_drainTimeout 6)) ≤ 1562500000) := by decide +kernel

/-- A TSU whose region 0 is in a state, its region and its Mint lanes changed. -/
def wPower (st : Nat) (f : Region → Region := id) (lanes : List (Nat × MNode) := []) : State :=
  tsuAt [(Ob.reg_regionState 0, st)] (fun n => { (n.modRegion 0 f) with tb1 := 100000, mint := { n.mint with lanes := lanes } })

/-- Meets the hypotheses of `PowerRequestsAreGrantedDelayedOrRefused`, clause by clause. -/
theorem wit_PowerRequestsAreGrantedDelayedOrRefused :
    let n := (wPower 0).tsu.escrowFirst
    let late := (wPower 0 (fun g => { g with req := some 1, reqAt := 10, delay := 7 }) [(0, ({} : MNode))]).tsu.escrowFirst
    n.isHub = false ∧ n.hasRegion 0 = true ∧ requestAllowed (n.rst 0) 0 = false ∧ requestAllowed (n.rst 0) 4 = true ∧ (n.regionOf 0).phase = 0 ∧
    ((wPower 0 (fun g => { g with phase := 2 })).tsu.regionOf 0).phase ≠ 0 ∧ n.refuses 0 = 0 ∧ n.delays 0 = 0 ∧
    (tsuAt [(Ob.watch_ladderState 0, 1)]).tsu.refuses 0 = 5 ∧ late.refuses 0 = 0 ∧ late.delays 0 = 7 ∧ (late.regionOf 0).req = some 1 ∧
    (late.regionOf 0).delay ≠ 0 ∧ (late.regionOf 0).reqAt + late.rd (Ob.reg_delayLimit 0) ≤ late.tb1 ∧ (n.regionOf 0).req = none ∧
    (wPower 1).tsu.rst 0 = 1 ∧ (wPower 3).tsu.rst 0 = 3 ∧ (wPower 4).tsu.rst 0 = 4 ∧ (n.regionOf 0).iso ≠ 0 ∧ (n.regionOf 0).pgood = false ∧ (wPower 0).tsu.hasRegion 0 = true ∧ (wPower 0).tsu.isHub = false ∧
    ((wPower 0 (fun g => { g with iso := 0, pgood := true })).tsu.regionOf 0).iso = 0 ∧
    ((wPower 0 (fun g => { g with iso := 0, pgood := true })).tsu.modRegion 0 (fun g => { g with pwrReq := 1 })).escrowFirst.refuses 0 = 0 ∧ (n.regionOf 0).pwrReq ≠ 1 % 4 ∧
    requestAllowed (n.rst 0) (1 % 4) = true ∧ requestAllowed (n.rst 0) (0 % 4) = false ∧
    ((wPower 0 (fun g => { g with pwrReq := 1 })).tsu.regionOf 0).pwrReq ≠ 0 % 4 := by decide +kernel

/-- Meets the hypotheses of `TheHandshakeAndThePowerUpOrderFollowTheirStages`, clause by clause. -/
theorem wit_TheHandshakeAndThePowerUpOrderFollowTheirStages :
    let at_ := fun (ph stg lad : Nat) => (wPower 0 (fun g => { g with phase := ph, stage := stg, ladder := lad, phaseAt := 99999, pgood := true })).tsu
    let n := (wPower 0 (fun g => { g with phase := 1, pgood := true })).tsu
    n.isHub = false ∧ n.hasRegion 0 = true ∧ (n.regionOf 0).phase = 1 ∧ (n.regionOf 0).phaseAt + n.rd (Ob.reg_handshakeLimit 0) ≤ n.tb1 ∧ n.rst 0 ≠ 5 ∧
    ((n.regionOf 0).cycles.filter (fun t => n.tb1 < t + hourTicks)).length < n.rd (Ob.watch_cycleBudget 0) ∧
    (tsuAt [(Ob.watch_cycleBudget 0, 0)]).tsu.rd (Ob.watch_cycleBudget 0) ≤
      (((tsuAt []).tsu.regionOf 0).cycles.filter (fun t => n.tb1 < t + hourTicks)).length ∧
    ((at_ 1 0 0).regionOf 0).pgood = true ∧ (at_ 1 0 0).tb1 < ((at_ 1 0 0).regionOf 0).phaseAt + (at_ 1 0 0).rd (Ob.reg_handshakeLimit 0) ∧
    ((tsuAt []).tsu.regionOf 0).pgood = false ∧ ticksOfUs (n.rd (Ob.reg_powerGoodFallLimit 0)) = 156250 ∧
    (tsuAt [(Ob.reg_powerGoodFallLimit 0, 10)] (fun n => { n with tb1 := 100000 })).tsu.rd (Ob.reg_powerGoodFallLimit 0) = 10 ∧
    ticksOfUs 10 ≤ 100000 ∧ (at_ 5 3 3).tb1 ≤ ((at_ 5 3 3).regionOf 0).phaseAt + (at_ 5 3 3).stageLimit 0 3 ∧ n.stageLimit 0 3 = 78125 ∧
    n.stageLimit 0 3 ≤ n.tb1 ∧ ((at_ 9 0 0).regionOf 0).phaseAt < (at_ 9 0 0).tb1 ∧ ((at_ 7 0 0).regionOf 0).ladder = 0 ∧
    2 ≤ n.tb1 ∧ ((at_ 2 0 0).regionOf 0).pwrGo = false ∧ (wPower 0).handshakes 0 = false ∧ (wPower 0).readies 0 = false ∧
    { (wPower 0) with pending := [.pwrRdyChange 0 true] }.handshakes 0 = true ∧ { (wPower 0) with pending := [.powerStageReady 0] }.readies 0 = true ∧
    bit ((at_ 5 2 0).regionOf 0).puEn 2 = false ∧ ((at_ 5 2 0).regionOf 0).phaseAt < (at_ 5 2 0).tb1 := by decide +kernel

/-- A configuration image without records. -/
def wImage : List Nat := [1, 0, 2, 0] ++ List.replicate 28 0 ++ leBytes 32 (blake3 [])

/-- A TSU in a start-up state, its Vault changed. -/
def wStart (st : Nat) (f : VaultSt → VaultSt := id) : State := tsuAt [(Ob.su_startUpState, st)] (fun n => { (n.modVault f) with tb1 := 200000000 })

/-- Meets the hypotheses of `TheVaultSleepsRestoresAndATsuStarts`, clause by clause. -/
theorem wit_TheVaultSleepsRestoresAndATsuStarts :
    let n := (wStart 2).tsu
    let image := [1, 0, n.rd Ob.idn_nodeKind, 0] ++ List.replicate 28 0 ++ leBytes 32 (blake3 [])
    n.isHub = false ∧ rwsObj n.kind (Ob.link_enable 0) = true ∧ (wStart 2 (fun v => { v with sleepAck := true })).tsu.vault.sleepAck = true ∧
    n.vault.sleepAck = false ∧ (wStart 0).tsu.rd Ob.su_startUpState = 0 ∧ (wStart 1).tsu.vault.checkOk = true ∧
    (wStart 1 (fun v => { v with checkOk := false })).tsu.vault.checkOk = false ∧ n.imageCheck [] = 1 ∧ n.imageCheck image = 0 ∧
    n.vault.gen = imgGen image ∧ ((wStart 2 (fun v => { v with regions := [(0, 4), (1, 1)] })).tsu.vault.regions.map (·.1)).Nodup ∧
    Ob.aud_temperatureBand ∈ sleepObjs ∧ Ob.aud_temperatureBand ≠ Ob.hall_hallAnchor ∧ (wStart 3).tsu.start.ready = false ∧
    (wStart 4).tsu.rd Ob.su_startUpState = 4 ∧ stageCode false 2 = some (156250000, 12) ∧ n.start.stageAt + 156250000 < n.tb1 ∧ 2 ∉ n.start.told ∧
    (hubAt [(Ob.fw_startUpState, 1)]).hub.running = true ∧ stageCode true 1 = some (781250000, 9) := by decide +kernel

/-- A hub with every port closed, and its power state changed. -/
def wRest (os : List (Nat × Nat) := []) (f : HubPower → HubPower := id) (t : Nat := 2 * 2 ^ 30 - 16384) : State :=
  hubAt ((List.range 68).map (fun p => (Ob.link_enable p, 0)) ++ os) (fun n => { (n.modHpwr f) with tb1 := t })

/-- Meets the hypotheses of `HubsRestVisitTheirTickAndWake`, clause by clause. -/
theorem wit_HubsRestVisitTheirTickAndWake :
    let n := (wRest [(Ob.tport_exchanges 64, 1), (Ob.time_timeState, 2)]).hub
    let v := (wRest [] (fun h => { h with state := 1 })).hub
    n.running = true ∧ n.isHub = true ∧ n.spans = [] ∧ (upTo 68).all (fun p => n.lst p == 0 && n.rd (Ob.link_enable p) == 0) = true ∧ n.isRoot = false ∧
    n.rd Ob.pwr_sentinelPort = 64 ∧ n.rd (Ob.tport_exchanges 64) ≠ 0 ∧ (wRest).hub.rd (Ob.tport_exchanges 64) = 0 ∧
    (wRest [(Ob.link_enable 3, 2)]).hub.rd (Ob.link_enable 3) ≠ 0 ∧ n.rd (Ob.sent_sentinelService 3) = 1 ∧ n.rd Ob.time_timeState = 2 ∧
    v.hpwr.state = 1 ∧ v.hpwr.pingAt = none ∧ v.hpwr.sentAt + ticksOfMs (v.rd Ob.pwr_sentinelInterval) ≤ v.tb1 ∧ v.tb1 % 1048576 = 1048576 - 16384 ∧
    v.tb1 < 2 ^ 64 ∧ (wRest [] (fun h => { h with state := 1, pingAt := some 5 }) 9).hub.hpwr.pingAt = some 5 ∧ 9 < 5 + 2097152 ∧ 5 + 2097152 ≤ v.tb1 ∧
    (wRest [] (fun h => { h with chipOn := false })).hub.hpwr.chipOn = false := by decide +kernel

/-- A hub in a start-up state, with a wear flag, messages at port 66 and its power state changed. -/
def wHubStart (st : Nat) (os : List (Nat × Nat) := []) (msgs : List Msg := []) (f : HubPower → HubPower := id) (t : Nat := 16777216) : State :=
  hubAt ([(Ob.fw_startUpState, st)] ++ os) (fun n =>
    { (((n.modHpwr f).modLink 66 (fun l => { l with taken := msgs })).modStart (fun x => { x with fwOk := false })) with tb1 := t })

/-- Meets the hypotheses of `HubsStartUpdateTheirFirmwareAndKeepTheirModule`, clause by clause. -/
theorem wit_HubsStartUpdateTheirFirmwareAndKeepTheirModule :
    let x5 := { typ := tTwin, cells := [put 127 124 5 + put 123 92 0] : Msg }
    let x4 := { typ := tTwin, cells := [put 127 124 4 + put 123 92 0] : Msg }
    let n := (wHubStart 1 [] [x5, x4]).hub
    let image := [1, 0, n.rd Ob.idn_nodeKind, 0] ++ List.replicate 28 0 ++ leBytes 32 (blake3 [])
    let due := (wHubStart 3 [(Ob.link_enable 3, 1)]).hub
    let worn := (wHubStart 3 [(Ob.link_enable 3, 1), (Ob.fla_wearFlag, 1)] [] (fun h => { h with lastFlash := [(Ob.link_enable 3, 16777000)] })).hub
    n.running = true ∧ n.isHub = true ∧ n.rd Ob.fw_startUpState = 1 ∧ blake3 n.hpwr.fwImg = n.hpwr.fwDig ∧
    (wHubStart 1 [] [] (fun h => { h with fwDig := 1 })).hub.hpwr.fwAsked = none ∧ n.imageCheck n.hpwr.cfgImg = 1 ∧
    (n.imageFault 1 n.hpwr.cfgImg).imageCheck image = 0 ∧ (n.imageFault 1 n.hpwr.cfgImg).imageCheck [] ≠ 0 ∧
    (wHubStart 2 [] [] (fun h => { h with cfgImg := image })).hub.imageCheck image = 0 ∧ (wHubStart 3).hub.start.ready = false ∧
    n.rd Ob.fw_updateState ≠ 1 ∧ (wHubStart 3 [(Ob.fw_updateState, 1)]).hub.rd Ob.fw_updateState = 1 ∧ n.peek 66 (isTwinKind 5) = some x5 ∧
    n.peek 66 (isTwinKind 4) = some x4 ∧ n.start.fwOk = false ∧ (wHubStart 1 [] [] (fun h => { h with fwImg := List.replicate 200 0 })).hub.hpwr.fwImg.length = 200 ∧
    due.flashDue (Ob.link_enable 3) = true ∧ n.flashDue (Ob.link_enable 3) = false ∧ due.rd Ob.fla_wearFlag = 0 ∧ worn.rd Ob.fla_wearFlag = 1 ∧ Ob.link_enable 3 ≠ Ob.ref_dacWord ∧
    worn.hpwr.lastFlash.any (fun e => decide (worn.tb1 < e.2 + 60 * tps)) = true ∧ n.tb1 % 16777216 = 0 ∧ n.hpwr.hot = [] ∧
    toS 16 1760 = 1760 ∧ toS 16 0 = 0 ∧ (wHubStart 3 [] [] (fun h => { h with hot := [512 + 5] })).hub.hpwr.hot = [512 + 5] ∧
    (tsuAt []).tsu.isHub = false := by decide +kernel

end Sys2Proof.Tests
end

/-! The span link (02): every change of a link end's state is one use of `Node.setLink`. What that operation writes, discards and leaves is
said once below, and the statements follow from it, command by command. -/

namespace Sys2Proof.Machine

/-! ### Commands of a port -/

theorem Node.portCount_le (n : Node) : n.portCount ≤ 68 := by
  unfold Node.portCount
  split <;> omega

/-- What a command of a port that the unit holds answers where the unit works. -/
theorem exec_port {s : State} {u : Who} {p : Nat} {i : Instr} {f : Node → Node} (hw : Works s u) (hp : p < (s.node u).portCount)
    (hi : exec i s = onNode s u ((s.node u).hasPort p) f) : exec i s = .next (s.setNode u (f (s.node u))) := by
  have hr : (s.node u).running = true := hw
  rw [hi]
  simp [onNode, Node.hasPort, hp, hr]

/-- A command of a port that the unit holds runs where the unit works. -/
theorem runsOn_port {s : State} {u : Who} {p : Nat} {i : Instr} {f : Node → Node} {P : Node → Prop} (hw : Works s u)
    (hp : p < (s.node u).portCount) (hi : exec i s = onNode s u ((s.node u).hasPort p) f) (h : P (f (s.node u))) : RunsOn u i s P :=
  ⟨_, exec_port hw hp hi, by rwa [State.node_setNode_same]⟩

/-- A write of an object of a port that the unit holds runs where the unit works. -/
theorem runsOn_portObj {s : State} {u : Who} {p : Nat} {i : Instr} {f : Node → Node} {P : Node → Prop} (hw : Works s u)
    (hp : p < (s.node u).portCount) (hi : exec i s = onObj s u ((s.node u).hasPort p) f) (h : P (f (s.node u))) : RunsOn u i s P := by
  have hr : (s.node u).running = true := hw
  exact ⟨_, hi, by simpa [Node.hasPort, hp, hr] using h⟩

/-! ### The objects of a link end -/

/-- The objects 0x3010+p.k of the link ends (02 R70). -/
def isLinkObj (o : Nat) : Prop := 0x3010 ≤ o / 256 ∧ o / 256 < 0x3060

theorem isLinkObj_of_port {p k : Nat} (hp : p < 68) (hk : k < 256) : isLinkObj (0x301000 + k + p * 256) := by
  unfold isLinkObj
  omega

theorem isEcnt_of_linkObj {o : Nat} (h : isLinkObj o) : isEcnt o = false := by
  obtain ⟨-, hi⟩ := h
  simp only [isEcnt, decide_eq_false_iff_not]
  omega

theorem isRecObj_of_linkObj {o : Nat} (h : isLinkObj o) : isRecObj o = false := by
  have he := isEcnt_of_linkObj h
  obtain ⟨lo, hi⟩ := h
  simp only [isRecObj, he, Bool.false_or, Bool.or_eq_false_iff, beq_eq_false_iff_ne, decide_eq_false_iff_not]
  omega

theorem isAccObj_of_linkObj {o : Nat} (h : isLinkObj o) : isAccObj o = false := by
  obtain ⟨lo, hi⟩ := h
  simp only [isAccObj, beq_eq_false_iff_ne]
  omega

/-- A link end's objects are those of no answer. -/
theorem Node.rd_answer_link (n : Node) (st : Nat) {o : Nat} (h : isLinkObj o) : (n.answer st).rd o = n.rd o :=
  n.rd_answer st (isEcnt_of_linkObj h) (isAccObj_of_linkObj h)

@[simp] theorem Node.lst_modLink (n : Node) (q : Nat) (f : LinkEnd → LinkEnd) (p : Nat) : (n.modLink q f).lst p = n.lst p := rfl

theorem Node.lst_answer (n : Node) (st : Nat) {p : Nat} (hp : p < 68) : (n.answer st).lst p = n.lst p :=
  n.rd_answer_link st (isLinkObj_of_port (k := 0) hp (by decide))

/-! ### What leaves the link ends as they are -/

theorem objsOnly.links {n m : Node} (h : objsOnly n m) : m.links = n.links := by have := congrArg Node.links h; exact this
theorem recOnly.links {n m : Node} (h : recOnly n m) : m.links = n.links := by have := congrArg Node.links h; exact this
theorem accOnly.links {n m : Node} (h : accOnly n m) : m.links = n.links := by have := congrArg Node.links h; exact this

theorem Node.linkOf_of_links {n m : Node} (h : m.links = n.links) (q : Nat) : m.linkOf q = n.linkOf q := by
  unfold Node.linkOf
  rw [h]

@[simp] theorem Node.linkOf_addTo (n : Node) (o k q : Nat) : (n.addTo o k).linkOf q = n.linkOf q :=
  Node.linkOf_of_links (n.addTo_frame o k).links q
@[simp] theorem Node.linkOf_fault (n : Node) (r : FRec) (q : Nat) : (n.fault r).linkOf q = n.linkOf q :=
  Node.linkOf_of_links (n.fault_frame r).links q
@[simp] theorem Node.linkOf_answer (n : Node) (st q : Nat) : (n.answer st).linkOf q = n.linkOf q :=
  Node.linkOf_of_links (n.answerData_frame st 0 0).links q

theorem Node.answered_answer (n : Node) (st : Nat) : (n.answer st).answered st := by
  unfold Node.answered Node.answer
  rw [Node.answerOf_answerData]

/-! ### Leaving MEMBER and SYNCED -/

/-- The counters of what a link end discards: messages and waves dropped (02 R64), and the event counters (15 R430). -/
def isDropObj (o : Nat) : Bool := isEcnt o || o % 256 == 0x0A || o % 256 == 0x0E

/-- What a link end leaves when it discards what waits: every object but the counters, and signal detect. -/
structure Node.Discards (n m : Node) : Prop where
  rd : ∀ o, isDropObj o = false → m.rd o = n.rd o
  sigDet : ∀ q, (m.linkOf q).sigDet = (n.linkOf q).sigDet

theorem Node.Discards.refl (n : Node) : n.Discards n := ⟨fun _ _ => rfl, fun _ => rfl⟩

theorem Node.Discards.trans {a b c : Node} (h : a.Discards b) (g : b.Discards c) : a.Discards c :=
  ⟨fun o ho => (g.rd o ho).trans (h.rd o ho), fun q => (g.sigDet q).trans (h.sigDet q)⟩

theorem Node.discards_addTo (n : Node) {o : Nat} (k : Nat) (ho : isDropObj o = true) : n.Discards (n.addTo o k) where
  rd o' ho' := by
    have hne : o ≠ o' := by rintro rfl; simp_all
    have he : isEcnt o' = false := by simp_all [isDropObj]
    exact n.rd_addTo_ne k he hne
  sigDet q := by rw [Node.linkOf_addTo]

theorem isDropObj_spanMessagesDropped (p : Nat) : isDropObj (Ob.link_spanMessagesDropped p) = true := by
  simp only [isDropObj, Ob.link_spanMessagesDropped, Bool.or_eq_true, beq_iff_eq]
  omega

theorem isDropObj_faultSlotDrops (p : Nat) : isDropObj (Ob.link_faultSlotDrops p) = true := by
  simp only [isDropObj, Ob.link_faultSlotDrops, Bool.or_eq_true, beq_iff_eq]
  omega

theorem Node.discards_modLink (n : Node) (p : Nat) {f : LinkEnd → LinkEnd} (hf : ∀ l, (f l).sigDet = l.sigDet) :
    n.Discards (n.modLink p f) where
  rd _ _ := rfl
  sigDet q := by
    by_cases h : p = q
    · subst h
      rw [Node.modLink_linkOf_same, hf]
    · rw [Node.modLink_linkOf_ne _ _ h]

theorem Node.discards_enqueue (n : Node) (p : Nat) (x : QMsg) : n.Discards (n.enqueue p x) := by
  unfold Node.enqueue
  dsimp only
  split
  · exact n.discards_addTo 1 (isDropObj_spanMessagesDropped p)
  split
  · exact n.discards_addTo 1 (isDropObj_spanMessagesDropped p)
  · exact n.discards_modLink p fun l => by split_ifs <;> rfl

theorem Node.discards_discardQueued (n : Node) (p : Nat) (f : Nat → Bool) : n.Discards (n.discardQueued p f) := by
  unfold Node.discardQueued
  refine .trans ?_ (Node.discards_addTo _ _ (isDropObj_spanMessagesDropped p))
  exact n.discards_modLink p fun _ => rfl

theorem Node.discards_routeLost (n : Node) (p : Nat) : n.Discards (n.routeLost p) := by
  refine overAll_keeps (P := n.Discards) _ _ (fun m x _ h => ?_) ?_
  · split
    · split
      · exact h
      · exact h.trans (m.discards_enqueue _ _)
    · exact h
  · exact overAll_keeps (P := n.Discards) _ (fun n r => n.relayEnded r 7 false [])
      (fun m r _ h => h.trans ⟨fun _ _ => rfl, fun _ => rfl⟩) (.refl n)

theorem Node.discards_leaveMember (n : Node) (p : Nat) : n.Discards (n.leaveMember p) := by
  have sets : n.Discards (n.leaveSets p) := ⟨fun _ _ => rfl, fun _ => rfl⟩
  unfold Node.leaveMember
  refine .trans (sets.trans (Node.discards_discardQueued _ p isSpanType)) (.trans ?_ (Node.discards_addTo _ _ (isDropObj_faultSlotDrops p)))
  exact Node.discards_modLink _ p fun _ => rfl

theorem Node.discards_leaveSynced (n : Node) (p : Nat) : n.Discards (n.leaveSynced p) :=
  (n.discards_routeLost p).trans (Node.discards_discardQueued _ p _)

/-! ### A change of state -/

/-- A unit whose link end has discarded what a change to a state discards (02 R64). -/
def Node.leaveFor (n : Node) (p st : Nat) : Node :=
  let n1 := if n.lst p == 6 then n.leaveMember p else n
  if 5 ≤ n.lst p && st < 5 then n1.leaveSynced p else n1

/-- A link end as it enters a state (02 R63, R65). -/
def LinkEnd.enter (l : LinkEnd) (st tick : Nat) : LinkEnd :=
  { l with
    since := tick
    stored := if st == 3 then none else l.stored
    ackSend := l.ackSend && st != 3 && st != 0
    repeats := if st == 0 then 0 else l.repeats
    lastTry := if st == 0 then tick else l.lastTry
    wakeAt := none }

/-- A change of state: what it discards, then the state and the tick, the watch of the twin lanes, and the link end. -/
theorem Node.enterLink_eq (n : Node) (p st : Nat) :
    n.enterLink p st = (((n.leaveFor p st).wr (Ob.link_state p) st).wr (Ob.link_lastChange p) n.tb1).twinWatch.modLink p (·.enter st n.tb1) :=
  rfl

theorem Node.discards_leaveFor (n : Node) (p st : Nat) : n.Discards (n.leaveFor p st) := by
  have member : n.Discards (if n.lst p == 6 then n.leaveMember p else n) := by
    split
    · exact n.discards_leaveMember p
    · exact .refl n
  unfold Node.leaveFor
  dsimp only
  split
  · exact member.trans (Node.discards_leaveSynced _ p)
  · exact member

/-- Below SYNCED a link end discards nothing. -/
theorem Node.leaveFor_of_low {n : Node} {p : Nat} (h : n.lst p < 5) (st : Nat) : n.leaveFor p st = n := by
  have h6 : (n.lst p == 6) = false := by simp; omega
  have h5 : decide (5 ≤ n.lst p) = false := by simp; omega
  simp [Node.leaveFor, h6, h5]

theorem Node.twinWatch_frame (n : Node) : { n.twinWatch with lead := n.lead } = n := by
  unfold Node.twinWatch
  dsimp only
  split_ifs <;> rfl

@[simp] theorem Node.rd_twinWatch (n : Node) (o : Nat) : n.twinWatch.rd o = n.rd o := by
  have := congrArg (Node.rd · o) n.twinWatch_frame
  exact this

@[simp] theorem Node.linkOf_twinWatch (n : Node) (q : Nat) : n.twinWatch.linkOf q = n.linkOf q := by
  have := congrArg (Node.linkOf · q) n.twinWatch_frame
  exact this

theorem Node.lst_enterLink (n : Node) (p st : Nat) : (n.enterLink p st).lst p = st := by
  have hne : Ob.link_lastChange p ≠ Ob.link_state p := by unfold Ob.link_lastChange Ob.link_state; omega
  rw [Node.enterLink_eq, Node.lst_modLink, Node.lst, Node.rd_twinWatch, Node.rd_wr_ne _ _ hne, Node.rd_wr_same]

theorem Node.rd_lastChange_enterLink (n : Node) (p st : Nat) : (n.enterLink p st).rd (Ob.link_lastChange p) = n.tb1 := by
  rw [Node.enterLink_eq, Node.modLink_rd, Node.rd_twinWatch, Node.rd_wr_same]

theorem Node.rd_enterLink (n : Node) (p st : Nat) {o : Nat} (hd : isDropObj o = false) (hs : Ob.link_state p ≠ o)
    (hc : Ob.link_lastChange p ≠ o) : (n.enterLink p st).rd o = n.rd o := by
  rw [Node.enterLink_eq, Node.modLink_rd, Node.rd_twinWatch, Node.rd_wr_ne _ _ hc, Node.rd_wr_ne _ _ hs, (n.discards_leaveFor p st).rd o hd]

theorem Node.linkOf_enterLink (n : Node) (p st : Nat) : (n.enterLink p st).linkOf p = ((n.leaveFor p st).linkOf p).enter st n.tb1 := by
  rw [Node.enterLink_eq, Node.modLink_linkOf_same, Node.linkOf_twinWatch, Node.wr_linkOf, Node.wr_linkOf]


theorem linkObj_ne {p j k : Nat} (h : j ≠ k) : 0x301000 + j + p * 256 ≠ 0x301000 + k + p * 256 := by omega

theorem isDropObj_of_port {p k : Nat} (hp : p < 68) (hk : k < 256) (ha : k ≠ 0x0A) (he : k ≠ 0x0E) :
    isDropObj (0x301000 + k + p * 256) = false := by
  have hc := isEcnt_of_linkObj (isLinkObj_of_port hp hk)
  simp only [isDropObj, hc, Bool.false_or, Bool.or_eq_false_iff, beq_eq_false_iff_ne]
  omega

theorem Node.setLink_of_ne {n : Node} {p st : Nat} (h : n.lst p ≠ st) :
    n.setLink p st = if st = 2 then (n.enterLink p st).modLink p (fun l => { l with goodRun := 0, badRun := 0 }) else n.enterLink p st := by
  simp [Node.setLink, h]

theorem Node.rd_setLink_of_ne {n : Node} {p st : Nat} (h : n.lst p ≠ st) (o : Nat) : (n.setLink p st).rd o = (n.enterLink p st).rd o := by
  rw [Node.setLink_of_ne h]
  split_ifs <;> rfl

@[simp] theorem Node.lst_setLink (n : Node) (p st : Nat) : (n.setLink p st).lst p = st := by
  by_cases h : n.lst p = st
  · unfold Node.setLink
    split_ifs <;> simp_all
  · exact (Node.rd_setLink_of_ne h _).trans (n.lst_enterLink p st)

theorem Node.rd_lastChange_setLink {n : Node} {p st : Nat} (h : n.lst p ≠ st) : (n.setLink p st).rd (Ob.link_lastChange p) = n.tb1 :=
  (Node.rd_setLink_of_ne h _).trans (n.rd_lastChange_enterLink p st)

theorem Node.rd_setLink (n : Node) (p st : Nat) {o : Nat} (hd : isDropObj o = false) (hs : Ob.link_state p ≠ o)
    (hc : Ob.link_lastChange p ≠ o) : (n.setLink p st).rd o = n.rd o := by
  by_cases h : n.lst p = st
  · unfold Node.setLink
    split_ifs <;> simp_all
  · exact (Node.rd_setLink_of_ne h _).trans (n.rd_enterLink p st hd hs hc)

/-- The other objects of a link end stay through a change of its state. -/
theorem Node.rd_setLink_port (n : Node) (p st : Nat) {k : Nat} (hp : p < 68) (hk : k < 0x10) (ha : k ≠ 0x0A) (he : k ≠ 0x0E) (h0 : k ≠ 0)
    (hc : k ≠ 0x0C) : (n.setLink p st).rd (0x301000 + k + p * 256) = n.rd (0x301000 + k + p * 256) :=
  n.rd_setLink p st (isDropObj_of_port hp (by omega) ha he) (linkObj_ne (j := 0) (Ne.symm h0)) (linkObj_ne (j := 0x0C) (Ne.symm hc))

theorem Node.linkOf_setLink {n : Node} {p st : Nat} (h : n.lst p ≠ st) (h2 : st ≠ 2) :
    (n.setLink p st).linkOf p = ((n.leaveFor p st).linkOf p).enter st n.tb1 := by
  rw [Node.setLink_of_ne h, if_neg h2, Node.linkOf_enterLink]

/-- TRAIN looks for an alignment afresh. -/
theorem Node.badRun_setLink_train (n : Node) (p : Nat) : ((n.setLink p 2).linkOf p).badRun = 0 := by
  simp [Node.setLink]

/-! ### The frame of a change below SYNCED -/

theorem linkRiseFrame_trans {p : Nat} {a b c : Node} (h : LinkRiseFrame p a b) (g : LinkRiseFrame p b c) : LinkRiseFrame p a c := by
  obtain ⟨hn, ho, hl⟩ := h
  obtain ⟨gn, go, gl⟩ := g
  refine ⟨?_, fun o h => (go o h).trans (ho o h), fun q h => (gl q h).trans (hl q h)⟩
  rw [← gn] at hn
  exact hn

theorem linkRiseFrame_modLink (p : Nat) (n : Node) (f : LinkEnd → LinkEnd) : LinkRiseFrame p n (n.modLink p f) :=
  ⟨rfl, fun _ _ => rfl, fun _ h => Node.modLink_linkOf_ne _ _ (Ne.symm h)⟩

theorem linkRiseFrame_twinWatch (p : Nat) (n : Node) : LinkRiseFrame p n n.twinWatch := by
  refine ⟨?_, fun o _ => n.rd_twinWatch o, fun q _ => n.linkOf_twinWatch q⟩
  have := congrArg (fun m : Node => { m with objs := n.objs, links := n.links }) n.twinWatch_frame
  exact this

theorem linkRiseFrame_enterLink {p : Nat} {n : Node} (h : n.lst p < 5) (st : Nat) : LinkRiseFrame p n (n.enterLink p st) := by
  have write : LinkRiseFrame p n ((n.wr (Ob.link_state p) st).wr (Ob.link_lastChange p) n.tb1) := by
    refine ⟨rfl, fun o ho => ?_, fun _ _ => rfl⟩
    simp only [List.mem_cons, List.not_mem_nil, or_false, not_or] at ho
    rw [Node.rd_wr_ne _ _ (Ne.symm ho.2), Node.rd_wr_ne _ _ (Ne.symm ho.1)]
  rw [Node.enterLink_eq, Node.leaveFor_of_low h]
  exact linkRiseFrame_trans (linkRiseFrame_trans write (linkRiseFrame_twinWatch p _)) (linkRiseFrame_modLink p _ _)

theorem linkRiseFrame_setLink {p st : Nat} {n : Node} (h : n.lst p < 5) (hst : n.lst p ≠ st) : LinkRiseFrame p n (n.setLink p st) := by
  rw [Node.setLink_of_ne hst]
  split_ifs
  · exact linkRiseFrame_trans (linkRiseFrame_enterLink h st) (linkRiseFrame_modLink p _ _)
  · exact linkRiseFrame_enterLink h st

/-- A link end below SYNCED changes its state on this tick, and the rest of the unit stays (02 R63). -/
def Node.Rises (n : Node) (p st : Nat) (m : Node) : Prop :=
  m.lst p = st ∧ m.rd (Ob.link_lastChange p) = n.tb1 ∧ LinkRiseFrame p n m

theorem Node.rises_setLink {n : Node} {p st : Nat} (h : n.lst p < 5) (hst : n.lst p ≠ st) : n.Rises p st (n.setLink p st) :=
  ⟨n.lst_setLink p st, Node.rd_lastChange_setLink hst, linkRiseFrame_setLink h hst⟩

/-! ### The triggers of the rise -/

theorem darkRetry_rises {n : Node} {p : Nat} {sig : Bool} (h0 : n.lst p = 0) (he : n.rd (Ob.link_enable p) ≠ 0)
    (hd : n.start.darkHold = false)
    (hc : n.restartDue p = true ∨ ((n.linkOf p).held = false ∧ (sig = true ∨ (n.linkOf p).lastTry + 1562500 ≤ n.tb1))) :
    n.Rises p 1 (darkRetry p sig n) := by
  have may : n.mayWake p = true := by simp [Node.mayWake, h0, he, hd]
  have due : (n.restartDue p || (!(n.linkOf p).held && (sig || decide ((n.linkOf p).lastTry + 1562500 ≤ n.tb1)))) = true := by
    simpa [Bool.or_eq_true] using hc
  have run : darkRetry p sig n = (n.modLink p fun l => { l with sigDet := sig }).enterWake p := by
    simp only [darkRetry, may, due, Bool.and_self, when_true]
  obtain ⟨st, chg, frame⟩ := Node.rises_setLink (n := n.modLink p fun l => { l with sigDet := sig }) (p := p) (st := 1)
    (by rw [Node.lst_modLink]; omega) (by rw [Node.lst_modLink]; omega)
  rw [run]
  exact ⟨st, chg, linkRiseFrame_trans (linkRiseFrame_trans (linkRiseFrame_modLink p n _) frame) (linkRiseFrame_modLink p _ _)⟩

theorem wakeComplete_rises {n : Node} {p : Nat} (h1 : n.lst p = 1) (hs : (n.linkOf p).since + 32000 ≤ n.tb1) :
    n.Rises p 2 (wakeComplete p n) := by
  have run : wakeComplete p n = n.setLink p 2 := by simp [wakeComplete, h1, hs]
  rw [run]
  exact Node.rises_setLink (by omega) (by omega)

theorem trainLock_rises {n : Node} {p : Nat} (h2 : n.lst p = 2) (hg : 8 ≤ (n.linkOf p).goodRun) : n.Rises p 3 (trainLock p n) := by
  have run : trainLock p n = n.setLink p 3 := by simp [trainLock, h2, hg]
  rw [run]
  exact Node.rises_setLink (by omega) (by omega)

theorem linkRestart_spec (n : Node) {p : Nat} (hp : p < 68) :
    (linkRestart p n).lst p = 0 ∧ ((linkRestart p n).linkOf p).restart = some n.tb1 ∧ ((linkRestart p n).linkOf p).held = false ∧
      (linkRestart p n).answered 0 := by
  refine ⟨?_, ?_, ?_, Node.answered_answer ..⟩
  · rw [linkRestart, Node.lst_answer _ _ hp, Node.lst_modLink, Node.lst_setLink]
  · simp [linkRestart]
  · simp [linkRestart]

theorem sendWake_spec {n : Node} {p : Nat} (hp : p < 68) (h0 : n.lst p = 0) :
    (sendWake p n).lst p = 0 ∧ ((sendWake p n).linkOf p).wakeAt = some n.tb1 ∧ (sendWake p n).answered 0 ∧
      ∀ q, q ≠ p → (sendWake p n).linkOf q = n.linkOf q := by
  have run : sendWake p n = (n.modLink p fun l => { l with wakeAt := some n.tb1 }).answer 0 := by simp [sendWake, h0]
  rw [run]
  refine ⟨?_, ?_, Node.answered_answer .., fun q hq => ?_⟩
  · rw [Node.lst_answer _ _ hp, Node.lst_modLink, h0]
  · simp
  · rw [Node.linkOf_answer, Node.modLink_linkOf_ne _ _ (Ne.symm hq)]

/-- Settles O4: each trigger of 02 R63 changes the state once, through `Node.setLink`. -/
theorem linkEndFollowsItsTriggers : Obligations.LinkEndFollowsItsTriggers := by
  intro s u p hw hp
  have hp68 : p < 68 := lt_of_lt_of_le hp (Node.portCount_le _)
  refine ⟨fun sig h0 he hd hc => ?_, fun h1 hs => ?_, fun h2 hg => ?_, ?_, fun h0 => ?_⟩
  · exact runsOn_port hw hp rfl (darkRetry_rises h0 he hd hc)
  · exact runsOn_port hw hp rfl (wakeComplete_rises h1 hs)
  · exact runsOn_port hw hp rfl (trainLock_rises h2 hg)
  · exact runsOn_portObj hw hp rfl (linkRestart_spec _ hp68)
  · exact runsOn_portObj hw hp rfl (sendWake_spec hp68 h0)

/-! ### The enable object -/

theorem Node.rwsWrite_accepted {n : Node} {o v : Nat} (hv : n.vaultFits o v = true) (f : Node → Node) :
    n.rwsWrite true o v f = (f n).answer 0 := by
  simp [Node.rwsWrite, hv]

theorem Node.rwsWrite_refused (n : Node) (o v : Nat) (f : Node → Node) : n.rwsWrite false o v f = n.answer 3 := by
  simp [Node.rwsWrite]

/-- What an accepted value of the enable object does to the unit (02 R63). -/
def Node.enabled (n : Node) (p v : Nat) : Node :=
  let n1 := n.wr (Ob.link_enable p) v
  if v = 0 then n1.setLink p 0 else if v = 1 ∧ n.lst p = 6 then n1.setLink p 5 else n1

@[simp] theorem Node.lst_wr_enable (n : Node) (p v : Nat) : (n.wr (Ob.link_enable p) v).lst p = n.lst p :=
  n.rd_wr_ne v (linkObj_ne (j := 1) (k := 0) (by decide))

theorem linkEnable_accepted {n : Node} {p v : Nat} (hf : n.vaultFits (Ob.link_enable p) v = true) (hv : v ≤ 2) :
    linkEnable p v n = (n.enabled p v).answer 0 := by
  unfold linkEnable
  rw [decide_eq_true hv, Node.rwsWrite_accepted hf]
  simp [Node.enabled]

theorem Node.rd_enable_enabled (n : Node) {p : Nat} (v : Nat) (hp : p < 68) : (n.enabled p v).rd (Ob.link_enable p) = v := by
  have keep : ∀ st, ((n.wr (Ob.link_enable p) v).setLink p st).rd (Ob.link_enable p) = v := fun st =>
    (Node.rd_setLink_port _ p st (k := 1) hp (by decide) (by decide) (by decide) (by decide) (by decide)).trans (n.rd_wr_same _ v)
  unfold Node.enabled
  dsimp only
  split_ifs
  · exact keep 0
  · exact keep 5
  · exact n.rd_wr_same _ v

theorem Node.lst_enabled (n : Node) (p v : Nat) :
    (n.enabled p v).lst p = if v = 0 then 0 else if v = 1 ∧ n.lst p = 6 then 5 else n.lst p := by
  unfold Node.enabled
  dsimp only
  split_ifs <;> simp

/-- Settles O5: an accepted value is written and then moves the state at most once; a refused one is answered only. -/
theorem linkEnableSetsTheHighestState : Obligations.LinkEnableSetsTheHighestState := by
  intro s u p v hw hp
  have hp68 : p < 68 := lt_of_lt_of_le hp (Node.portCount_le _)
  have enableObj : isLinkObj (Ob.link_enable p) := isLinkObj_of_port (k := 1) hp68 (by decide)
  refine ⟨fun hf hv => runsOn_portObj hw hp rfl ?_, fun hv => runsOn_portObj hw hp rfl ?_⟩
  · rw [linkEnable_accepted hf hv]
    simp only [Node.rd_answer_link _ _ enableObj, Node.lst_answer _ _ hp68, Node.rd_enable_enabled _ _ hp68, Node.lst_enabled]
    exact ⟨trivial, Node.answered_answer .., by simp +contextual, by simp +contextual, by simp +contextual⟩
  · have run : linkEnable p v (s.node u) = (s.node u).answer 3 := by
      unfold linkEnable
      rw [decide_eq_false (by omega), Node.rwsWrite_refused]
    rw [run]
    exact ⟨Node.answered_answer .., Node.rd_answer_link _ _ enableObj, Node.lst_answer _ _ hp68⟩

/-! ### Records of a change of state -/

/-- The field that replaces another holds its new value. -/
theorem bits_replace (x lo w v : Nat) : bits (x - bits x lo w * 2 ^ lo + v % 2 ^ w * 2 ^ lo) lo w = v % 2 ^ w := by
  unfold bits
  have hx := Nat.div_add_mod x (2 ^ lo)
  have hq := Nat.div_add_mod (x / 2 ^ lo) (2 ^ w)
  have hpos : 0 < 2 ^ lo := by positivity
  generalize x / 2 ^ lo = q at *
  have split : x - q % 2 ^ w * 2 ^ lo + v % 2 ^ w * 2 ^ lo = x % 2 ^ lo + 2 ^ lo * (2 ^ w * (q / 2 ^ w) + v % 2 ^ w) := by
    have : x = 2 ^ lo * (2 ^ w * (q / 2 ^ w)) + q % 2 ^ w * 2 ^ lo + x % 2 ^ lo := by
      nth_rewrite 1 [← hx, ← hq]
      ring
    rw [Nat.mul_add, Nat.mul_comm (v % 2 ^ w)]
    omega
  rw [split, Nat.add_mul_div_left _ _ hpos, Nat.div_eq_of_lt (Nat.mod_lt _ hpos), Nat.zero_add, Nat.mul_add_mod, Nat.mod_mod]

theorem Node.bits_bumpBits (n : Node) (o lo w : Nat) : bits ((n.bumpBits o lo w).rd o) lo w = (bits (n.rd o) lo w + 1) % 2 ^ w := by
  unfold Node.bumpBits Node.wrBits
  rw [Node.rd_wr_same, bits_replace]

theorem Node.rd_causeCounts_irqEvent (n : Node) (s : Nat) : (n.irqEvent s).rd Ob.cause_causeCounts = n.rd Ob.cause_causeCounts := by
  unfold Node.irqEvent
  split_ifs
  · rfl
  · rfl
  · exact n.rd_wr_ne _ (by decide)

/-- Of what a record writes, only its cause's own count changes the counts of causes (14 R385). -/
theorem Node.rd_causeCounts_fault (n : Node) (r : FRec) :
    (n.fault r).rd Ob.cause_causeCounts = (n.countCause r.cause).rd Ob.cause_causeCounts := by
  have bump : ∀ (m : Node) (o : Nat), o ≠ Ob.cause_causeCounts → (m.bump o).rd Ob.cause_causeCounts = m.rd Ob.cause_causeCounts :=
    fun m o ho => m.rd_bump_ne (by decide) ho
  have log : ∀ (m : Node) (l : List Nat), ({ m with log := l } : Node).rd Ob.cause_causeCounts = m.rd Ob.cause_causeCounts := fun _ _ => rfl
  have made : Ob.flt_recordsMade ≠ Ob.cause_causeCounts := by decide
  have dropped : Ob.flt_recordsDropped ≠ Ob.cause_causeCounts := by decide
  have first : Ob.flt_firstRecord ≠ Ob.cause_causeCounts := by decide
  unfold Node.fault
  dsimp only
  split_ifs <;> simp only [Node.rd_causeCounts_irqEvent, bump _ _ made, bump _ _ dropped, Node.rd_wr_ne _ _ first, log]

theorem Node.recorded_fault (n : Node) (r : FRec) : n.recorded (n.fault r) r.cause := by
  unfold Node.recorded Node.causeCount
  rw [Node.rd_causeCounts_fault, Node.countCause, Node.bits_bumpBits]

theorem Node.recorded_of_rd {n m k : Node} {c : Nat} (hn : n.rd Ob.cause_causeCounts = m.rd Ob.cause_causeCounts) (h : m.recorded k c) :
    n.recorded k c := by
  unfold Node.recorded Node.causeCount at *
  rw [hn, h]

/-- A link end goes to another state and its cause is recorded: the state, the tick, the last exit cause and the count (02 R63, R70). -/
def Node.Falls (n : Node) (p st cause : Nat) (m : Node) : Prop :=
  m.lst p = st ∧ m.rd (Ob.link_lastChange p) = n.tb1 ∧ m.rd (Ob.link_lastExitCause p) = cause ∧ n.recorded m cause

@[simp] theorem Node.linkOf_linkCause (n : Node) (p cause d q : Nat) : (n.linkCause p cause d).linkOf q = n.linkOf q := by
  simp [Node.linkCause, Node.portFault]

/-- A record of a cause leaves the other objects of the link ends. -/
theorem Node.rd_linkCause (n : Node) (p cause d : Nat) {o : Nat} (h : isLinkObj o) (hne : Ob.link_lastExitCause p ≠ o) :
    (n.linkCause p cause d).rd o = n.rd o := by
  rw [Node.linkCause, Node.rd_wr_ne _ _ hne, Node.portFault, Node.rd_fault _ _ (isRecObj_of_linkObj h)]

theorem Node.lst_linkCause (n : Node) {p : Nat} (cause d : Nat) (hp : p < 68) : (n.linkCause p cause d).lst p = n.lst p :=
  n.rd_linkCause p cause d (isLinkObj_of_port (k := 0) hp (by decide)) (linkObj_ne (j := 0x0D) (k := 0) (by decide))

theorem Node.recorded_linkCause (n : Node) {p : Nat} (cause d : Nat) (hp : p < 68) : n.recorded (n.linkCause p cause d) cause := by
  have hne : Ob.link_lastExitCause p ≠ Ob.cause_causeCounts := by unfold Ob.link_lastExitCause Ob.cause_causeCounts; omega
  have count := n.recorded_fault { cause := cause, region := p, detail := d }
  unfold Node.recorded Node.causeCount at *
  rw [Node.linkCause, Node.portFault, Node.rd_wr_ne _ _ hne]
  exact count

theorem Node.falls_linkCause {n m : Node} {p st : Nat} (cause d : Nat) (hp : p < 68) (hs : m.lst p = st)
    (hc : m.rd (Ob.link_lastChange p) = n.tb1) (hr : m.rd Ob.cause_causeCounts = n.rd Ob.cause_causeCounts) :
    n.Falls p st cause (m.linkCause p cause d) := by
  refine ⟨(m.lst_linkCause cause d hp).trans hs, ?_, Node.rd_wr_same .., Node.recorded_of_rd hr.symm (m.recorded_linkCause cause d hp)⟩
  rw [m.rd_linkCause p cause d (isLinkObj_of_port (k := 0x0C) hp (by decide)) (linkObj_ne (j := 0x0D) (k := 0x0C) (by decide)), hc]

theorem Node.rd_causeCounts_setLink (n : Node) {p : Nat} (st : Nat) (hp : p < 68) :
    (n.setLink p st).rd Ob.cause_causeCounts = n.rd Ob.cause_causeCounts := by
  refine n.rd_setLink p st (by decide) ?_ ?_
  · unfold Ob.link_state Ob.cause_causeCounts; omega
  · unfold Ob.link_lastChange Ob.cause_causeCounts; omega

theorem Node.falls_setLink {n : Node} {p st : Nat} (cause d : Nat) (hp : p < 68) (h : n.lst p ≠ st) :
    n.Falls p st cause ((n.setLink p st).linkCause p cause d) :=
  Node.falls_linkCause cause d hp (n.lst_setLink p st) (Node.rd_lastChange_setLink h) (n.rd_causeCounts_setLink st hp)

theorem Node.falls_of_modLink {n m : Node} {p q st cause : Nat} {f : LinkEnd → LinkEnd} (h : (n.modLink q f).Falls p st cause m) :
    n.Falls p st cause m := by
  obtain ⟨hs, chg, exit, count⟩ := h
  exact ⟨hs, chg, exit, Node.recorded_of_rd (n.modLink_rd q f _).symm count⟩

theorem Node.sigDet_setLink_dark {n : Node} {p : Nat} (h : n.lst p ≠ 0) : ((n.setLink p 0).linkOf p).sigDet = (n.linkOf p).sigDet := by
  rw [Node.linkOf_setLink h (by decide)]
  exact (n.discards_leaveFor p 0).sigDet p

/-! ### The losses -/

theorem lossOfSignal_falls {n : Node} {p : Nat} (hp : p < 68) (h : 2 ≤ n.lst p) :
    n.Falls p 0 0x10 (lossOfSignal p n) ∧ ((lossOfSignal p n).linkOf p).sigDet = false := by
  have ne : (n.modLink p fun l => { l with sigDet := false }).lst p ≠ 0 := by rw [Node.lst_modLink]; omega
  have run : lossOfSignal p n = ((n.modLink p fun l => { l with sigDet := false }).setLink p 0).linkCause p 0x10 (put 79 72 (n.lst p)) := by
    simp [lossOfSignal, h]
  rw [run]
  refine ⟨Node.falls_of_modLink (Node.falls_setLink 0x10 _ hp ne), ?_⟩
  rw [Node.linkOf_linkCause, Node.sigDet_setLink_dark ne, Node.modLink_linkOf_same]

theorem frameLockLost_falls {n : Node} {p : Nat} (hp : p < 68) (h : 3 ≤ n.lst p) (hb : 4 ≤ (n.linkOf p).badRun) :
    n.Falls p 2 0x11 (frameLockLost p n) ∧ ((frameLockLost p n).linkOf p).badRun = 0 := by
  have h2 : 2 ≤ n.lst p := by omega
  have ne : n.lst p ≠ 2 := by omega
  have run : frameLockLost p n =
      (n.setLink p 2).linkCause p 0x11 (put 79 72 (n.lst p) + put 63 0 (n.rd (Ob.link_uncorrectableFrames p))) := by
    simp [frameLockLost, h2, hb, ne]
  rw [run]
  exact ⟨Node.falls_setLink 0x11 _ hp ne, by rw [Node.linkOf_linkCause, Node.badRun_setLink_train]⟩

theorem linkTimeout_falls {n : Node} {p : Nat} (hp : p < 68) (h2 : 2 ≤ n.lst p) (h4 : n.lst p ≤ 4)
    (ht : (n.linkOf p).since + n.stateTimeout (n.lst p) ≤ n.tb1) (hr : n.rowAbove p = false) (hs : n.syncedDue p = false) :
    n.Falls p 0 0x15 (linkTimeout p n) := by
  have run : linkTimeout p n =
      (n.setLink p 0).linkCause p 0x15 (put 79 72 (n.lst p) + put 63 32 (n.stateTimeout (n.lst p))) := by
    simp [linkTimeout, h2, h4, ht, hr, hs]
  rw [run]
  exact Node.falls_setLink 0x15 _ hp (by omega)

/-- A link end whose window of uncorrectable frames ends (02 R52). -/
def LinkEnd.nextWindow (l : LinkEnd) (thr : Nat) : LinkEnd := { l with winFrames := 0, winBad := 0, degraded := decide (thr ≤ l.winBad) }

theorem linkOf_windowEnd {n : Node} {p : Nat} (h : n.rd Ob.linkCfg_window ≤ (n.linkOf p).winFrames) (q : Nat) :
    (windowEnd p n).linkOf q = (n.modLink p (·.nextWindow (n.rd Ob.linkCfg_uncorrectableThreshold))).linkOf q := by
  simp only [windowEnd, decide_eq_true h, when_true]
  split_ifs
  · exact Node.linkOf_fault ..
  · rfl

theorem lst_windowEnd (n : Node) {p : Nat} (hp : p < 68) : (windowEnd p n).lst p = n.lst p := by
  by_cases h : n.rd Ob.linkCfg_window ≤ (n.linkOf p).winFrames
  · simp only [windowEnd, decide_eq_true h, when_true]
    split_ifs
    · exact Node.rd_fault _ _ (isRecObj_of_linkObj (isLinkObj_of_port (k := 0) hp (by decide)))
    · rfl
  · simp only [windowEnd, decide_eq_false h, when_false]

theorem recorded_windowEnd {n : Node} {p : Nat} (h : n.rd Ob.linkCfg_window ≤ (n.linkOf p).winFrames)
    (hb : n.rd Ob.linkCfg_uncorrectableThreshold ≤ (n.linkOf p).winBad) : n.recorded (windowEnd p n) 0x12 := by
  simp only [windowEnd, decide_eq_true h, when_true, hb, if_true]
  exact Node.recorded_fault (n.modLink p _) _

/-- Settles O6: every loss is `Node.setLink` with a record of its cause, and a window of frames records without a change of state. -/
theorem linkLossesRecordTheirCause : Obligations.LinkLossesRecordTheirCause := by
  intro s u p hw hp
  have hp68 : p < 68 := lt_of_lt_of_le hp (Node.portCount_le _)
  refine ⟨fun h => runsOn_port hw hp rfl ?_, fun h hb => runsOn_port hw hp rfl ?_, fun h2 h4 ht hr hs => runsOn_port hw hp rfl ?_,
    fun h => runsOn_port hw hp rfl ?_⟩
  · obtain ⟨⟨st, chg, exit, count⟩, sig⟩ := lossOfSignal_falls hp68 h
    exact ⟨st, chg, exit, count, sig⟩
  · obtain ⟨⟨st, chg, exit, count⟩, bad⟩ := frameLockLost_falls hp68 h hb
    exact ⟨st, chg, exit, count, bad⟩
  · exact linkTimeout_falls hp68 h2 h4 ht hr hs
  · simp only [linkOf_windowEnd h, Node.modLink_linkOf_same]
    exact ⟨lst_windowEnd _ hp68, rfl, rfl, by simp [LinkEnd.nextWindow], recorded_windowEnd h,
      fun q hq => Node.modLink_linkOf_ne _ _ (Ne.symm hq)⟩

/-! ### Time lock -/

/-- A link end changes its state on this tick (02 R63). -/
def Node.Moves (n : Node) (p st : Nat) (m : Node) : Prop := m.lst p = st ∧ m.rd (Ob.link_lastChange p) = n.tb1

theorem Node.moves_setLink {n : Node} {p st : Nat} (h : n.lst p ≠ st) : n.Moves p st (n.setLink p st) :=
  ⟨n.lst_setLink p st, Node.rd_lastChange_setLink h⟩

theorem Node.moves_reachSynced {n : Node} {p : Nat} (h : n.lst p ≠ 5) : n.Moves p 5 (n.reachSynced p) := by
  obtain ⟨st, chg⟩ := Node.moves_setLink h
  have hs : Ob.prt_laneEntryWritten p ≠ Ob.link_state p := by unfold Ob.prt_laneEntryWritten Ob.link_state; omega
  have hc : Ob.prt_laneEntryWritten p ≠ Ob.link_lastChange p := by unfold Ob.prt_laneEntryWritten Ob.link_lastChange; omega
  unfold Node.reachSynced
  dsimp only
  split_ifs
  · exact ⟨(Node.rd_wr_ne _ _ hs).trans st, (Node.rd_wr_ne _ _ hc).trans chg⟩
  · exact ⟨st, chg⟩

theorem linkSynced_moves {n : Node} {p : Nat} (h : n.lst p = 4) (hl : (n.portOf p).bothLocked = true) (hr : n.rowAbove p = false) :
    n.Moves p 5 (linkSynced p n) := by
  have run : linkSynced p n = n.reachSynced p := by simp [linkSynced, Node.syncedDue, h, hl, hr]
  rw [run]
  exact Node.moves_reachSynced (by omega)

theorem memberLockLoss_moves {n : Node} {p : Nat} (h : n.lst p = 6) (hl : (n.portOf p).bothLocked = false) (hr : n.rowAbove p = false) :
    n.Moves p 5 (memberLockLoss p n) := by
  have run : memberLockLoss p n = n.reachSynced p := by simp [memberLockLoss, h, hl, hr]
  rw [run]
  exact Node.moves_reachSynced (by omega)

/-- Cause 0x61 of a lane that enters MEMBER under Strict leaves the change of state (13 R358). -/
theorem memberHold_moves {n : Node} {p : Nat} (hp : p < 68) (h : n.lst p = 5) (he : n.rd (Ob.link_enable p) = 2)
    (hl : (n.portOf p).bothLocked = true) (hm : n.tb1 % 512 = 0)
    (hh : (n.portOf p).lockSince + 512 * n.rd Ob.linkCfg_memberHold ≤ n.tb1) (hr : n.rowAbove p = false) :
    n.Moves p 6 (memberHold p n) := by
  obtain ⟨st, chg⟩ : n.Moves p 6 (n.setLink p 6) := Node.moves_setLink (by omega)
  have link : ∀ k, k < 256 → isRecObj (0x301000 + k + p * 256) = false := fun k hk => isRecObj_of_linkObj (isLinkObj_of_port hp hk)
  simp only [memberHold, h, he, hl, hm, hh, hr, beq_self_eq_true, decide_true, Bool.not_false, Bool.and_self, when_true]
  split_ifs
  · exact ⟨(Node.rd_fault _ _ (link 0 (by decide))).trans st, (Node.rd_fault _ _ (link 0x0C (by decide))).trans chg⟩
  · exact ⟨st, chg⟩

/-! ### HELLO -/

theorem Node.consume_frame (n : Node) (p : Nat) (f : Msg → Bool) : { n.consume p f with links := n.links } = n := by
  unfold Node.consume
  split <;> rfl

/-- Taking a message out of a port's buffer changes the messages that wait and the credits that fall due. -/
theorem Node.linkOf_consume (n : Node) (p : Nat) (f : Msg → Bool) (q : Nat) :
    ∃ t c2 c3, (n.consume p f).linkOf q = { n.linkOf q with taken := t, freeC2 := c2, freeC3 := c3 } := by
  unfold Node.consume
  split
  · exact ⟨_, _, _, rfl⟩
  · by_cases h : p = q
    · subst h
      exact ⟨_, _, _, Node.modLink_linkOf_same ..⟩
    · exact ⟨_, _, _, Node.modLink_linkOf_ne _ _ h⟩

@[simp] theorem Node.badRun_consume (n : Node) (p : Nat) (f : Msg → Bool) (q : Nat) :
    ((n.consume p f).linkOf q).badRun = (n.linkOf q).badRun := by
  obtain ⟨_, _, _, h⟩ := n.linkOf_consume p f q
  rw [h]

@[simp] theorem Node.stored_consume (n : Node) (p : Nat) (f : Msg → Bool) (q : Nat) :
    ((n.consume p f).linkOf q).stored = (n.linkOf q).stored := by
  obtain ⟨_, _, _, h⟩ := n.linkOf_consume p f q
  rw [h]

@[simp] theorem Node.rd_consume (n : Node) (p : Nat) (f : Msg → Bool) (o : Nat) : (n.consume p f).rd o = n.rd o := by
  have := congrArg (Node.rd · o) (n.consume_frame p f)
  exact this

@[simp] theorem Node.lst_consume (n : Node) (p : Nat) (f : Msg → Bool) (q : Nat) : (n.consume p f).lst q = n.lst q := n.rd_consume p f _

/-- A unit that has taken a HELLO out of a port's buffer and noted its sender (02 R66). -/
def Node.readHello (n : Node) (p h : Nat) : Node :=
  (n.consume p fun m => m.typ == tHello).modLink p fun l => { l with rxIdent := fld h 103 84, rxPort := fld h 83 77 }

theorem Node.readHello_frame (n : Node) (p h : Nat) : { n.readHello p h with links := n.links } = n := n.consume_frame p _

@[simp] theorem Node.rd_readHello (n : Node) (p h o : Nat) : (n.readHello p h).rd o = n.rd o := n.rd_consume p _ o

@[simp] theorem Node.lst_readHello (n : Node) (p h q : Nat) : (n.readHello p h).lst q = n.lst q := n.rd_readHello p h _

@[simp] theorem Node.stored_readHello (n : Node) (p h q : Nat) : ((n.readHello p h).linkOf q).stored = (n.linkOf q).stored := by
  unfold Node.readHello
  by_cases hq : p = q
  · subst hq
    rw [Node.modLink_linkOf_same]
    exact n.stored_consume p _ p
  · rw [Node.modLink_linkOf_ne _ _ hq, Node.stored_consume]

/-- The case of a refusal depends on the unit and the HELLOs stored, and on nothing else of the link ends (02 R68). -/
theorem Node.helloCase_congr {n m : Node} (hm : { m with links := n.links } = n) (hs : ∀ q, (m.linkOf q).stored = (n.linkOf q).stored)
    (p h : Nat) : m.helloCase p h = n.helloCase p h := by
  have parent : ∀ id, m.sameParent p id = n.sameParent p id := fun id => by
    unfold Node.sameParent
    rw [hs]
    have := congrArg Node.isHub hm
    rw [← this]
    rfl
  unfold Node.helloCase
  simp only [parent]
  generalize n.sameParent p = par
  generalize n.links = ls at hm
  subst hm
  rfl

theorem Node.dieClash_congr {n m : Node} (hm : { m with links := n.links } = n) (hs : ∀ q, (m.linkOf q).stored = (n.linkOf q).stored)
    (p h : Nat) : m.dieClash p h = n.dieClash p h := by
  unfold Node.dieClash
  rw [hs]
  have hub := congrArg Node.isHub hm
  have ident := congrArg Node.ident hm
  rw [← hub, ← ident]
  rfl

section
variable {n : Node} {p : Nat} {h : Msg} (hk : n.peek p (fun m => m.typ == tHello) = some h) (hb : (n.linkOf p).badRun < 4)
include hk hb

/-- A HELLO with ack = 0 takes a link end from MEASURE up back to HELLO (02 R63). -/
theorem helloReceived_breaks (h4 : 4 ≤ n.lst p) (ha : fld h.head 104 104 = 0) :
    helloReceived p n = (n.readHello p h.head).setLink p 3 := by
  have typ : (h.typ == tHello) = true := List.find?_some (p := fun m : Msg => m.typ == tHello) hk
  have breaks : (n.readHello p h.head).helloBreaks p h = true := by simp [Node.helloBreaks, typ, ha]
  have bad : ¬ 4 ≤ (n.linkOf p).badRun := by omega
  unfold Node.readHello at breaks ⊢
  simp [helloReceived, Node.onMsg, hk, bad, h4, breaks]

/-- A refused HELLO takes HELLO to DARK, held (02 R68). -/
theorem helloReceived_refused (h3 : n.lst p = 3) (hc : n.helloCase p h.head ≠ 0) :
    ∃ d, helloReceived p n = (n.readHello p h.head).refuseHello p 0x13 d := by
  have case : (n.readHello p h.head).helloCase p h.head = n.helloCase p h.head :=
    Node.helloCase_congr (n.readHello_frame p h.head) (n.stored_readHello p h.head) p h.head
  have bad : ¬ 4 ≤ (n.linkOf p).badRun := by omega
  unfold Node.readHello at case ⊢
  simp [helloReceived, Node.onMsg, hk, bad, h3, case, hc]

/-- An accepted HELLO with ack takes HELLO to MEASURE (02 R63, R68). -/
theorem helloReceived_accepted (h3 : n.lst p = 3) (hc : n.helloCase p h.head = 0) (hd : n.dieClash p h.head = false)
    (ha : fld h.head 104 104 = 1) : helloReceived p n = ((n.readHello p h.head).acceptHello p h).leaveHello p := by
  have case : (n.readHello p h.head).helloCase p h.head = 0 :=
    (Node.helloCase_congr (n.readHello_frame p h.head) (n.stored_readHello p h.head) p h.head).trans hc
  have clash : (n.readHello p h.head).dieClash p h.head = false :=
    (Node.dieClash_congr (n.readHello_frame p h.head) (n.stored_readHello p h.head) p h.head).trans hd
  have bad : ¬ 4 ≤ (n.linkOf p).badRun := by omega
  unfold Node.readHello at case clash ⊢
  simp [helloReceived, Node.onMsg, hk, bad, h3, case, clash, ha]

end

theorem Node.refuseHello_spec {n : Node} {p : Nat} (cause d : Nat) (hp : p < 68) (h : n.lst p ≠ 0) :
    n.Falls p 0 cause (n.refuseHello p cause d) ∧ ((n.refuseHello p cause d).linkOf p).held = true :=
  ⟨Node.falls_linkCause cause d hp (n.lst_setLink p 0) (Node.rd_lastChange_setLink h) (n.rd_causeCounts_setLink 0 hp),
    by rw [Node.refuseHello, Node.linkOf_linkCause, Node.modLink_linkOf_same]⟩

theorem Node.rd_versionKey (n : Node) (p h : Nat) {o : Nat} (hk : Ob.det_keyState ≠ o) : (n.versionKey p h).rd o = n.rd o := by
  unfold Node.versionKey
  split
  · rw [Node.keyInput, Node.modKey_rd, Node.rd_wr_ne _ _ hk]
  · rfl

/-- A unit that has noted what an accepted HELLO says of itself: a TSU's identity, and its key input where the version changed
(02 R68, 13 R361). -/
def Node.noteIdentity (n : Node) (p h : Nat) : Node := if n.isHub then n else (n.versionKey p h).wr Ob.idn_identity (dieFrom h)

theorem Node.rd_noteIdentity (n : Node) (p h : Nat) {o : Nat} (hk : Ob.det_keyState ≠ o) (hi : Ob.idn_identity ≠ o) :
    (n.noteIdentity p h).rd o = n.rd o := by
  unfold Node.noteIdentity
  split
  · rfl
  · rw [Node.rd_wr_ne _ _ hi, Node.rd_versionKey _ _ _ hk]

theorem Node.linkOf_acceptHello (n : Node) (p : Nat) (m : Msg) :
    ((n.acceptHello p m).linkOf p).advC2 = fld m.head 76 69 ∧ ((n.acceptHello p m).linkOf p).advC3 = fld m.head 68 61 := by
  unfold Node.acceptHello
  dsimp only
  rw [Node.modLink_linkOf_same]
  exact ⟨rfl, rfl⟩

/-- What an accepted HELLO writes into the row of its port (02 R69, R70); the state of the link end stays. -/
theorem Node.rd_acceptHello (n : Node) (p : Nat) (m : Msg) (hp : p < 68) :
    (n.acceptHello p m).rd (Ob.link_partnerIdentity p) = fld m.head 103 84 ∧
    (n.acceptHello p m).rd (Ob.link_partnerPort p) = fld m.head 83 77 ∧
    (n.acceptHello p m).rd (Ob.link_operatingFeatures p) = (n.rd Ob.linkCfg_localFeatures &&& fld (m.cell 1) 127 64) &&& 0xF ∧
    (n.acceptHello p m).lst p = n.lst p := by
  have state : (n.noteIdentity p m.head).rd (Ob.link_state p) = n.rd (Ob.link_state p) :=
    n.rd_noteIdentity p m.head (by unfold Ob.det_keyState Ob.link_state; omega) (by unfold Ob.idn_identity Ob.link_state; omega)
  have note : (if n.isHub then n else (n.versionKey p m.head).wr Ob.idn_identity (dieFrom m.head)) = n.noteIdentity p m.head := rfl
  unfold Node.acceptHello
  simp only [note, Node.lst, Node.modLink_rd, Node.rd_wr_same]
  simp [Node.rd_wr, state]

theorem Node.lst_leaveHello (n : Node) (p : Nat) : (n.leaveHello p).lst p = 4 := n.lst_setLink p 4

theorem Node.rd_leaveHello (n : Node) {p k : Nat} (hp : p < 68) (h0 : k ≠ 0) (hk : k < 8) :
    (n.leaveHello p).rd (0x301000 + k + p * 256) = n.rd (0x301000 + k + p * 256) :=
  n.rd_setLink_port p 4 hp (by omega) (by omega) (by omega) h0 (by omega)

theorem Node.linkOf_leaveHello {n : Node} {p : Nat} (h : n.lst p = 3) :
    ((n.leaveHello p).linkOf p).credC2 = (n.linkOf p).advC2 ∧ ((n.leaveHello p).linkOf p).credC3 = (n.linkOf p).advC3 ∧
      ((n.leaveHello p).linkOf p).repeats = 64 := by
  unfold Node.leaveHello
  rw [Node.modLink_linkOf_same, Node.linkOf_setLink (by omega) (by decide), Node.leaveFor_of_low (by omega)]
  exact ⟨rfl, rfl, rfl⟩

/-- Settles O7: time lock moves the state through `Node.setLink`, and a HELLO by its case. -/
theorem timeLockMovesBetweenMeasureAndMember : Obligations.TimeLockMovesBetweenMeasureAndMember := by
  intro s u p hw hp
  have hp68 : p < 68 := lt_of_lt_of_le hp (Node.portCount_le _)
  refine ⟨fun h hl hr => runsOn_port hw hp rfl (linkSynced_moves h hl hr),
    fun h he hl hm hh hr => runsOn_port hw hp rfl (memberHold_moves hp68 h he hl hm hh hr),
    fun h hl hr => runsOn_port hw hp rfl (memberLockLoss_moves h hl hr),
    fun h hk hb => ⟨fun h3 hc hd ha => runsOn_port hw hp rfl ?_, fun h3 hc => runsOn_port hw hp rfl ?_,
      fun h4 ha => runsOn_port hw hp rfl ?_⟩⟩
  · rw [helloReceived_accepted hk hb h3 hc hd ha]
    generalize hn : (s.node u).readHello p h.head = n
    have lst : n.lst p = 3 := by rw [← hn, Node.lst_readHello, h3]
    obtain ⟨ident, port, features, accepted⟩ := n.rd_acceptHello p h hp68
    obtain ⟨adv2, adv3⟩ := n.linkOf_acceptHello p h
    obtain ⟨cred2, cred3, rep⟩ := Node.linkOf_leaveHello (accepted.trans lst)
    refine ⟨Node.lst_leaveHello _ p, (Node.rd_leaveHello _ hp68 (k := 3) (by decide) (by decide)).trans ident,
      (Node.rd_leaveHello _ hp68 (k := 4) (by decide) (by decide)).trans port, (Node.rd_leaveHello _ hp68 (k := 6) (by decide) (by decide)).trans ?_,
      cred2.trans adv2, cred3.trans adv3, rep⟩
    exact features.trans (by rw [← hn, Node.rd_readHello])
  · obtain ⟨d, run⟩ := helloReceived_refused hk hb h3 hc
    rw [run]
    obtain ⟨⟨lst, -, exit, count⟩, held⟩ := Node.refuseHello_spec (n := (s.node u).readHello p h.head) 0x13 d hp68
      (by rw [Node.lst_readHello]; omega)
    exact ⟨lst, held, exit, Node.recorded_of_rd (Node.rd_readHello ..).symm count⟩
  · have ne : ((s.node u).readHello p h.head).lst p ≠ 3 := by rw [Node.lst_readHello]; omega
    rw [helloReceived_breaks hk hb h4 ha]
    refine ⟨Node.lst_setLink _ p 3, ?_⟩
    rw [Node.linkOf_setLink ne (by decide)]
    rfl

/-! ### A fault slot at a unit of the kind of a hub -/

/-- A state whose TSU side holds a unit of the kind of a hub, with a fault slot that waits at its port 0. -/
def tsuOfHubKind : State := { State.reset with tsu := { kind := .hub, links := [(0, { slotIn := [(0, 0)] })] } }

/-- A unit of the kind of a hub keeps no wave for contexts, which it has none of (02 R53). -/
theorem waveIn_slotReceived_tsuOfHubKind : ((slotReceived 0 tsuOfHubKind.tsu).linkOf 0).waveIn = [] := by decide +kernel

/-- Refutes O8: its last clause has every unit on the TSU side keep the first copy of a wave for its contexts, and asks for no TSU there.
In `tsuOfHubKind`, which is no state of `State.KindsLegal`, the unit spreads the copy and keeps none. -/
theorem not_framesAreSentAndReceivedWhole : ¬ Obligations.FramesAreSentAndReceivedWhole := by
  intro h
  have works : Works tsuOfHubKind .tsu := by unfold Works; decide
  have port : 0 < (tsuOfHubKind.node .tsu).portCount := by decide
  obtain ⟨-, -, -, -, -, firstCopy⟩ := h tsuOfHubKind .tsu 0 works port
  obtain ⟨t, run, -, -, keeps⟩ := firstCopy 0 0 [] rfl rfl
  have ran : t = tsuOfHubKind.setNode .tsu (slotReceived 0 tsuOfHubKind.tsu) :=
    Host.Outcome.next.inj (run.symm.trans (exec_port works port rfl))
  have kept := keeps rfl
  rw [ran, State.node_setNode_same, waveIn_slotReceived_tsuOfHubKind] at kept
  exact absurd kept (by decide)

end Sys2Proof.Machine

/-! Carrying time down the tree (03): what each part of a marker's work may write of the objects is said once, by `Node.Writes`, and what it
posts by one lemma per object. The statements follow from these. -/

namespace Sys2Proof.Machine

/-! ### Commands of a unit -/

/-- What a command of a unit that works answers. -/
theorem exec_node {s : State} {u : Who} {i : Instr} {ok : Bool} {f : Node → Node} (hw : Works s u) (hi : exec i s = onNode s u ok f)
    (hok : ok = true) : exec i s = .next (s.setNode u (f (s.node u))) := by
  have hr : (s.node u).running = true := hw
  rw [hi]
  simp [onNode, hok, hr]

theorem runsOn_node {s : State} {u : Who} {i : Instr} {ok : Bool} {f : Node → Node} {P : Node → Prop} (hw : Works s u)
    (hi : exec i s = onNode s u ok f) (hok : ok = true) (h : P (f (s.node u))) : RunsOn u i s P :=
  ⟨_, exec_node hw hi hok, by rwa [State.node_setNode_same]⟩

theorem runsOn_obj {s : State} {u : Who} {i : Instr} {ok : Bool} {f : Node → Node} {P : Node → Prop} (hw : Works s u)
    (hi : exec i s = onObj s u ok f) (hok : ok = true) (h : P (f (s.node u))) : RunsOn u i s P :=
  runsOn_node hw hi rfl (by simpa [hok] using h)

@[simp] theorem State.setNode_node_self (s : State) (u : Who) : s.setNode u (s.node u) = s := by cases u <;> rfl

/-- A command whose effect leaves the unit leaves the state. -/
theorem exec_node_idle {s : State} {u : Who} {i : Instr} {ok : Bool} {f : Node → Node} (hi : exec i s = onNode s u ok f)
    (h : f (s.node u) = s.node u) : exec i s = .next s := by
  simp [hi, onNode, h]

/-! ### The objects that the time transfer writes -/

/-- The objects 0x3060+p.k of the ports (03 R96). -/
def isTportObj (o : Nat) : Bool := decide (0x3060 ≤ o / 256 ∧ o / 256 < 0x30A4)

/-- The objects that a change of source or of the time state writes (03 R73 to R76). -/
def isSourceObj (o : Nat) : Bool := [Ob.time_timeState, Ob.time_source, Ob.time_depth, Ob.time_sourceChanges].contains o

/-- The objects that the lock changes, the source changes and the plane difference of a marker write (03 R83, R85, R88). -/
def isMarkerObj (o : Nat) : Bool := isTportObj o || isSourceObj o || o == Ob.time_planeDifference

theorem isTportObj_of_port {p k : Nat} (hp : p < 68) (hk : k < 256) : isTportObj (0x306000 + k + p * 256) = true := by
  simp only [isTportObj, decide_eq_true_eq]
  omega

theorem isRecObj_of_tportObj {o : Nat} (h : isTportObj o = true) : isRecObj o = false := by
  simp only [isTportObj, decide_eq_true_eq] at h
  simp only [isRecObj, isEcnt, Bool.or_eq_false_iff, beq_eq_false_iff_ne, decide_eq_false_iff_not]
  omega

theorem isRecObj_of_port {p k : Nat} (hp : p < 68) (hk : k < 256) : isRecObj (0x306000 + k + p * 256) = false :=
  isRecObj_of_tportObj (isTportObj_of_port hp hk)

theorem tportObj_ne {p j k : Nat} (h : j ≠ k) : 0x306000 + j + p * 256 ≠ 0x306000 + k + p * 256 := by omega

@[simp] theorem Node.rd_wrS_same (n : Node) (w o : Nat) (i : Int) : (n.wrS w o i).rd o = ofS w i := n.rd_wr_same ..

theorem Node.rd_wrS_ne (n : Node) (w : Nat) {o o' : Nat} (i : Int) (h : o ≠ o') : (n.wrS w o i).rd o' = n.rd o' := n.rd_wr_ne _ h

/-- The two exchange counters of a port have 64 bits on every unit that holds the port (03 R96). -/
theorem widthOf_exchangeCounters {n : Node} {p : Nat} (hp : p < n.portCount) :
    widthOf n.kind (Ob.tport_exchanges p) = 64 ∧ widthOf n.kind (Ob.tport_missedExchanges p) = 64 := by
  have hub : ∀ q < 68, widthOf .hub (Ob.tport_exchanges q) = 64 ∧ widthOf .hub (Ob.tport_missedExchanges q) = 64 := by decide +kernel
  have full : ∀ q < 2, widthOf .full (Ob.tport_exchanges q) = 64 ∧ widthOf .full (Ob.tport_missedExchanges q) = 64 := by decide +kernel
  have edge : ∀ q < 2, widthOf .edge (Ob.tport_exchanges q) = 64 ∧ widthOf .edge (Ob.tport_missedExchanges q) = 64 := by decide +kernel
  unfold Node.portCount Node.isHub at hp
  match hk : n.kind with
  | .hub => exact hub p (by simpa [hk] using hp)
  | .full => exact full p (by simpa [hk] using hp)
  | .edge => exact edge p (by simpa [hk] using hp)

theorem widthOf_timeSteps (k : Kind) : widthOf k Ob.time_timeSteps = 32 := by cases k <;> decide +kernel

/-- A unit after an operation of the time transfer: beside its objects, its log and its time transfer it is as before, and so is every
object that neither a record nor `w` names. -/
structure Node.Writes (w : Nat → Bool) (n m : Node) : Prop where
  frame : { m with objs := n.objs, log := n.log, lineLow := n.lineLow, tports := n.tports, tnode := n.tnode } = n
  rd : ∀ o, isRecObj o = false → w o = false → m.rd o = n.rd o

namespace Node.Writes

variable {w w' : Nat → Bool} {n m k : Node}

theorem tb1 (h : n.Writes w m) : m.tb1 = n.tb1 := by have := congrArg Node.tb1 h.frame; exact this
theorem kind (h : n.Writes w m) : m.kind = n.kind := by have := congrArg Node.kind h.frame; exact this
theorem level (h : n.Writes w m) : m.level = n.level := by have := congrArg Node.level h.frame; exact this

theorem isKeystone (h : n.Writes w m) : m.isKeystone = n.isKeystone := by simp only [Node.isKeystone, Node.isHub, h.kind, h.level]

/-- The states of the link ends are none of the ports' objects. -/
theorem lst (h : n.Writes isTportObj m) {q : Nat} (hq : q < 68) : m.lst q = n.lst q := by
  refine h.rd _ (isRecObj_of_linkObj (isLinkObj_of_port (k := 0) hq (by decide))) ?_
  unfold Ob.link_state isTportObj
  rw [decide_eq_false_iff_not]
  omega

protected theorem refl (w : Nat → Bool) (n : Node) : n.Writes w n := ⟨rfl, fun _ _ _ => rfl⟩

theorem trans (h : n.Writes w m) (g : m.Writes w k) : n.Writes w k where
  frame := by
    rw [← h.frame, ← g.frame]
  rd o hr ho := (g.rd o hr ho).trans (h.rd o hr ho)

theorem mono (h : n.Writes w m) (hw : ∀ o, w o = true → w' o = true) : n.Writes w' m :=
  ⟨h.frame, fun o hr ho => h.rd o hr (by by_contra hc; simp_all)⟩

theorem wr (n : Node) {o : Nat} (v : Nat) (ho : w o = true) : n.Writes w (n.wr o v) :=
  ⟨rfl, fun o' _ h => n.rd_wr_ne v (by rintro rfl; simp_all)⟩

theorem modPort (n : Node) (p : Nat) (f : TimePort → TimePort) : n.Writes w (n.modPort p f) := ⟨rfl, fun _ _ _ => rfl⟩

theorem modTnode (n : Node) (f : TimeNode → TimeNode) : n.Writes w (n.modTnode f) := ⟨rfl, fun _ _ _ => rfl⟩

theorem of_rec (h : recOnly n m) (hr : ∀ o, isRecObj o = false → w o = false → m.rd o = n.rd o) : n.Writes w m := by
  refine ⟨?_, hr⟩
  have := congrArg (fun x : Node => { x with tports := n.tports, tnode := n.tnode }) h
  exact this

theorem bump (n : Node) {o : Nat} (ho : w o = true) : n.Writes w (n.bump o) :=
  of_rec (.of_objs (n.bump_frame o)) fun _ hr h => n.rd_bump_ne (isEcnt_of_not_rec hr) (by rintro rfl; simp_all)

theorem fault (n : Node) (r : FRec) : n.Writes w (n.fault r) := of_rec (n.fault_frame r) fun _ hr _ => n.rd_fault r hr

theorem ite {c : Prop} {_ : Decidable c} {a b : Node} (ha : n.Writes w a) (hb : n.Writes w b) : n.Writes w (if c then a else b) := by
  split
  · exact ha
  · exact hb

end Node.Writes

/-! ### Exchanges -/

theorem Node.missExchange_writes (n : Node) {p : Nat} (hp : p < 68) : n.Writes isTportObj (n.missExchange p) :=
  (Node.Writes.bump n (isTportObj_of_port (k := 0x0A) hp (by decide))).trans (.modPort _ p _)

theorem Node.rd_missExchange (n : Node) {p k : Nat} (hp : p < 68) (hk : k < 256) (h : k ≠ 0x0A) :
    (n.missExchange p).rd (0x306000 + k + p * 256) = n.rd (0x306000 + k + p * 256) :=
  n.rd_bump_ne (isEcnt_of_not_rec (isRecObj_of_port hp hk)) (tportObj_ne (Ne.symm h))

theorem Node.rd_missedExchanges_missExchange {n : Node} {p : Nat} (hp : p < n.portCount) :
    (n.missExchange p).rd (Ob.tport_missedExchanges p) = (n.rd (Ob.tport_missedExchanges p) + 1) % 2 ^ 64 := by
  have he := isEcnt_of_not_rec (isRecObj_of_port (k := 0x0A) (lt_of_lt_of_le hp n.portCount_le) (by decide))
  have count := n.rd_bump_same (Ob.tport_missedExchanges p) he
  rwa [(widthOf_exchangeCounters hp).2] at count

theorem Node.missed_missExchange (n : Node) (p : Nat) : ((n.missExchange p).portOf p).missed = (n.portOf p).missed + 1 := by
  have frame : (n.bump (Ob.tport_missedExchanges p)).portOf p = n.portOf p := by
    have := congrArg (Node.portOf · p) (n.bump_frame (Ob.tport_missedExchanges p))
    exact this
  rw [Node.missExchange, Node.modPort_portOf_same, frame]

/-- The objects that a complete exchange posts (03 R81). -/
def Node.postExchange (n : Node) (p : Nat) (theta trip : Int) (stamps : Nat) : Node :=
  (((n.wrS 64 (Ob.tport_offset p) theta).wrS 64 (Ob.tport_roundTrip p) trip).wr (Ob.tport_stamps p) stamps).bump (Ob.tport_exchanges p)

theorem Node.completeExchange_eq (n : Node) (p t1 t2 t3 t4 : Nat) :
    ∃ stamps f, n.completeExchange p t1 t2 t3 t4 =
      (n.postExchange p ((((t2 : Int) - t1) - ((t4 : Int) - t3) - n.asymmetry p).tdiv 2) (((t2 : Int) - t1) + ((t4 : Int) - t3)) stamps).modPort p f ∧
        ∀ t, (f t).missed = 0 := by
  unfold Node.completeExchange
  exact ⟨_, _, rfl, fun _ => rfl⟩

theorem Node.postExchange_writes (n : Node) {p : Nat} (theta trip : Int) (stamps : Nat) (hp : p < 68) :
    n.Writes isTportObj (n.postExchange p theta trip stamps) := by
  have obj {k : Nat} (hk : k < 256) : isTportObj (0x306000 + k + p * 256) = true := isTportObj_of_port hp hk
  have offset : n.Writes isTportObj (n.wrS 64 (Ob.tport_offset p) theta) := .wr _ _ (obj (k := 4) (by decide))
  have trip := offset.trans (.wr _ (ofS 64 trip) (obj (k := 5) (by decide)))
  have stamps := trip.trans (.wr _ stamps (obj (k := 6) (by decide)))
  exact stamps.trans (.bump _ (obj (k := 9) (by decide)))

section
variable {n : Node} {p : Nat} (theta trip : Int) (stamps : Nat) (hp : p < n.portCount)
include hp

theorem Node.rd_offset_postExchange : (n.postExchange p theta trip stamps).rd (Ob.tport_offset p) = ofS 64 theta := by
  have he := isEcnt_of_not_rec (isRecObj_of_port (k := 4) (lt_of_lt_of_le hp n.portCount_le) (by decide))
  rw [Node.postExchange, Node.rd_bump_ne _ he (tportObj_ne (j := 9) (k := 4) (by decide)),
    Node.rd_wr_ne _ _ (tportObj_ne (j := 6) (k := 4) (by decide)), Node.rd_wrS_ne _ _ _ (tportObj_ne (j := 5) (k := 4) (by decide)),
    Node.rd_wrS_same]

theorem Node.rd_roundTrip_postExchange : (n.postExchange p theta trip stamps).rd (Ob.tport_roundTrip p) = ofS 64 trip := by
  have he := isEcnt_of_not_rec (isRecObj_of_port (k := 5) (lt_of_lt_of_le hp n.portCount_le) (by decide))
  rw [Node.postExchange, Node.rd_bump_ne _ he (tportObj_ne (j := 9) (k := 5) (by decide)),
    Node.rd_wr_ne _ _ (tportObj_ne (j := 6) (k := 5) (by decide)), Node.rd_wrS_same]

theorem Node.rd_exchanges_postExchange :
    (n.postExchange p theta trip stamps).rd (Ob.tport_exchanges p) = (n.rd (Ob.tport_exchanges p) + 1) % 2 ^ 64 := by
  have he := isEcnt_of_not_rec (isRecObj_of_port (k := 9) (lt_of_lt_of_le hp n.portCount_le) (by decide))
  generalize hm : ((n.wrS 64 (Ob.tport_offset p) theta).wrS 64 (Ob.tport_roundTrip p) trip).wr (Ob.tport_stamps p) stamps = m
  have kind : m.kind = n.kind := by rw [← hm]; rfl
  have keep : m.rd (Ob.tport_exchanges p) = n.rd (Ob.tport_exchanges p) := by
    rw [← hm, Node.rd_wr_ne _ _ (tportObj_ne (j := 6) (k := 9) (by decide)), Node.rd_wrS_ne _ _ _ (tportObj_ne (j := 5) (k := 9) (by decide)),
      Node.rd_wrS_ne _ _ _ (tportObj_ne (j := 4) (k := 9) (by decide))]
  rw [Node.postExchange, hm, Node.rd_bump_same _ _ he, kind, keep, (widthOf_exchangeCounters hp).1]

end

/-- A unit that has taken a TIME message out of a port's buffer and kept what it says of the partner (03 R80). -/
def Node.readTime (n : Node) (p : Nat) (h : Nat) : Node :=
  (n.consume p fun m => m.typ == tTime).modPort p fun t =>
    { t with
      heard := true, pValid := bit h 47, pLock := bit h 46, pKind := fld h 45 44, pDepth := fld h 43 40
      rxMarker := markerNumber (fld h 127 64)
      lossKind := if !bit h 47 && t.lossKind == 0 then 2 else t.lossKind }

theorem Node.readTime_frame (n : Node) (p h : Nat) : { n.readTime p h with links := n.links, tports := n.tports } = n := by
  have := congrArg (fun m : Node => { m with tports := n.tports }) (n.consume_frame p fun m => m.typ == tTime)
  exact this

@[simp] theorem Node.portOf_consume (n : Node) (p : Nat) (f : Msg → Bool) (q : Nat) : (n.consume p f).portOf q = n.portOf q := by
  have := congrArg (Node.portOf · q) (n.consume_frame p f)
  exact this

theorem Node.recentMarker_consume (n : Node) (p : Nat) (f : Msg → Bool) : (n.consume p f).recentMarker = n.recentMarker := by
  have := congrArg Node.recentMarker (n.consume_frame p f)
  exact this

theorem Node.exchangeStamps_consume (n : Node) (p : Nat) (f : Msg → Bool) : (n.consume p f).exchangeStamps = n.exchangeStamps := by
  have := congrArg Node.exchangeStamps (n.consume_frame p f)
  exact this

@[simp] theorem Node.rd_readTime (n : Node) (p h o : Nat) : (n.readTime p h).rd o = n.rd o := n.rd_consume p _ o

theorem Node.tb1_readTime (n : Node) (p h : Nat) : (n.readTime p h).tb1 = n.tb1 := by
  have := congrArg Node.tb1 (n.readTime_frame p h)
  exact this

theorem Node.portCount_readTime (n : Node) (p h : Nat) : (n.readTime p h).portCount = n.portCount := by
  have := congrArg Node.portCount (n.readTime_frame p h)
  exact this

theorem Node.asymmetry_readTime (n : Node) (p h q : Nat) : (n.readTime p h).asymmetry q = n.asymmetry q := by
  have := congrArg (Node.asymmetry · q) (n.readTime_frame p h)
  exact this

theorem Node.missed_readTime (n : Node) (p h : Nat) : ((n.readTime p h).portOf p).missed = (n.portOf p).missed := by
  rw [Node.readTime, Node.modPort_portOf_same, Node.portOf_consume]

section
variable {n : Node} {p : Nat} {h : Msg} (hk : n.peek p (fun m => m.typ == tTime) = some h)
include hk

/-- With both stamps kept a TIME message completes its exchange (03 R81). -/
theorem timeReceived_complete {own t1 t2 t3 t4 : Nat}
    (ho : (n.portOf p).sent.find? (fun e => e.1 == fld (h.cell 1) 47 16 && n.recentMarker e.1) = some (fld (h.cell 1) 47 16, own))
    (hb : bit (h.cell 1) 15 = true) (hv : (n.portOf p).rxValid = true)
    (hs : n.exchangeStamps p (n.portOf p).rxStamp (fld h.head 127 64 * 65536 + fld h.head 63 48) own
      (fld (h.cell 1) 127 64 * 65536 + fld (h.cell 1) 63 48) = (t1, t2, t3, t4)) :
    timeReceived p n = (n.readTime p h.head).completeExchange p t1 t2 t3 t4 := by
  have recent : (n.consume p fun m => m.typ == tTime).recentMarker = n.recentMarker :=
    n.recentMarker_consume p _
  have stamps : (n.consume p fun m => m.typ == tTime).exchangeStamps = n.exchangeStamps :=
    n.exchangeStamps_consume p _
  simp [timeReceived, Node.onMsg, hk, recent, stamps, ho, hb, hv, hs, Node.readTime]

/-- Without one of them the exchange is missed (03 R82). -/
theorem timeReceived_missed
    (hm : (n.portOf p).sent.find? (fun e => e.1 == fld (h.cell 1) 47 16 && n.recentMarker e.1) = none ∨ bit (h.cell 1) 15 = false ∨
      (n.portOf p).rxValid = false) :
    timeReceived p n = (n.readTime p h.head).missExchange p := by
  have recent : (n.consume p fun m => m.typ == tTime).recentMarker = n.recentMarker :=
    n.recentMarker_consume p _
  simp only [timeReceived, Node.onMsg, hk, recent, Node.portOf_consume]
  split
  next ownTx hf =>
    have miss : (bit (h.cell 1) 15 && (n.portOf p).rxValid) = false := by
      rcases hm with hn | hb | hv
      · exact absurd (hn.symm.trans hf) (by simp)
      · simp [hb]
      · simp [hv]
    rw [if_neg (by simp [miss])]
    rfl
  next => rfl

end

/-- Settles O9: a message with both stamps runs `Node.completeExchange`, any other `Node.missExchange`, on the unit that has read it. -/
theorem exchangeGivesTheOffset : Obligations.ExchangeGivesTheOffset := by
  intro s u p h hw hp hk
  have hp68 : p < 68 := lt_of_lt_of_le hp (Node.portCount_le _)
  have hp' : p < ((s.node u).readTime p h.head).portCount := by rwa [Node.portCount_readTime]
  have link {m : Node} (g : ((s.node u).readTime p h.head).Writes isTportObj m) :
      m.tb1 = (s.node u).tb1 ∧ ∀ q, q < 68 → m.lst q = (s.node u).lst q :=
    ⟨g.tb1.trans (Node.tb1_readTime ..), fun q hq => (g.lst hq).trans (Node.rd_readTime ..)⟩
  refine ⟨fun own t1 t2 t3 t4 ho hb hv hs => runsOn_port hw hp rfl ?_, fun hm => runsOn_port hw hp rfl ?_⟩
  · rw [timeReceived_complete hk ho hb hv hs]
    obtain ⟨stamps, f, run, hf⟩ := ((s.node u).readTime p h.head).completeExchange_eq p t1 t2 t3 t4
    rw [run, Node.asymmetry_readTime]
    refine ⟨Node.rd_offset_postExchange _ _ stamps hp', Node.rd_roundTrip_postExchange _ _ stamps hp',
      (Node.rd_exchanges_postExchange _ _ stamps hp').trans (by rw [Node.rd_readTime]), ?_,
      link ((Node.postExchange_writes _ _ _ stamps hp68).trans (.modPort _ p f))⟩
    rw [Node.modPort_portOf_same, hf]
  · rw [timeReceived_missed hk hm]
    refine ⟨(Node.rd_missExchange _ (k := 4) hp68 (by decide) (by decide)).trans (Node.rd_readTime ..), ?_, ?_,
      link (Node.missExchange_writes _ hp68)⟩
    · rw [Node.rd_missedExchanges_missExchange hp', Node.rd_readTime]
    · rw [Node.missed_missExchange, Node.missed_readTime]

/-! ### Locks, sources and the plane difference of a marker -/

theorem Node.loseLock_writes (n : Node) {p : Nat} (k : Nat) (hp : p < 68) : n.Writes isTportObj (n.loseLock p k) :=
  ((Node.Writes.wr n _ (isTportObj_of_port (k := 0) hp (by decide))).trans (.modPort _ p _)).trans (.fault _ _)

/-- The lock changes of a port write objects of the ports only (03 R82, R85). -/
theorem Node.lockStep_writes (n : Node) {p : Nat} (hp : p < 68) : n.Writes isTportObj (n.lockStep p) := by
  have miss : n.Writes isTportObj ((n.missExchange p).modPort p fun t => { t with gotAt := n.tb1 - 1 }) :=
    (n.missExchange_writes hp).trans (.modPort _ p _)
  have sum (m : Node) : m.Writes isTportObj (m.sumOffset p) := ⟨rfl, fun _ _ _ => rfl⟩
  have far (m : Node) : m.Writes isTportObj (m.countOver p) := ⟨rfl, fun _ _ _ => rfl⟩
  have lock (m : Node) : m.Writes isTportObj (m.wr (Ob.tport_timeLock p) 1) := .wr m _ (isTportObj_of_port (k := 0) hp (by decide))
  have note (m : Node) : m.Writes isTportObj (m.noteBoth p) := ⟨rfl, fun _ _ _ => rfl⟩
  exact ((((Node.Writes.ite miss (.refl _ n)).trans (sum _)).trans (far _)).trans
    (.ite (Node.loseLock_writes _ _ hp) (.ite (lock _) (.refl _ _)))).trans (note _)

theorem Node.lockSteps_writes (n : Node) : n.Writes isTportObj (overAll (upTo n.portCount) Node.lockStep n) :=
  overAll_keeps (P := n.Writes isTportObj) _ _
    (fun m _ hp h => h.trans (m.lockStep_writes (lt_of_lt_of_le (List.mem_range.mp hp) n.portCount_le))) (.refl _ n)

theorem Node.setTimeState_writes (n : Node) (st : Nat) : n.Writes isSourceObj (n.setTimeState st) :=
  ((Node.Writes.ite (.modTnode n _) (.refl _ n)).trans (.wr _ _ (by decide))).trans (.wr _ _ (by decide))

theorem Node.setSource_writes (n : Node) (src meas : Nat) : n.Writes isSourceObj (n.setSource src meas) :=
  .ite (.refl _ n) (((Node.Writes.wr n _ (by decide)).trans (.bump _ (by decide))).trans (.fault _ _))

theorem Node.noSource_writes (n : Node) : n.Writes isSourceObj n.noSource :=
  .ite (.refl _ n) (((Node.Writes.fault n _).trans (Node.setSource_writes _ _ _)).trans (Node.setTimeState_writes _ _))

theorem Node.becomeRoot_writes (n : Node) : n.Writes isSourceObj n.becomeRoot :=
  ((n.setSource_writes _ _).trans (Node.setTimeState_writes _ _)).trans (.modTnode _ _)

/-- A change of source writes the objects of the source only (03 R74 to R76). -/
theorem Node.sourceStep_writes (n : Node) (built : Nat) : n.Writes isSourceObj (n.sourceStep built) := by
  unfold Node.sourceStep
  refine .ite (.refl _ n) ?_
  split
  · exact (n.setSource_writes _ _).trans (Node.setTimeState_writes _ _)
  · exact .ite (.ite n.becomeRoot_writes (.ite (.modTnode n _) (.refl _ n))) n.noSource_writes

/-- A Keystone that runs on its own oscillator stays root (03 R75). -/
theorem Node.sourceStep_root {n : Node} (built : Nat) (hk : n.isKeystone = true) (hs : n.rd Ob.time_source = 0x7E) : n.sourceStep built = n := by
  simp [Node.sourceStep, hk, hs]

theorem Node.planeStep_writes (n : Node) : n.Writes (· == Ob.time_planeDifference) n.planeStep := by
  have note (x : Int) (f : TimeNode → TimeNode) :
      n.Writes (· == Ob.time_planeDifference) ((n.wrS 64 Ob.time_planeDifference x).modTnode f) :=
    (Node.Writes.wr n _ (by decide)).trans (.modTnode _ f)
  unfold Node.planeStep
  dsimp only
  split
  · exact .modTnode n _
  · exact .ite ((note _ _).trans (.modTnode _ _)) (note _ _)

/-- A unit at a marker before its servo: its locks, its source and its plane difference have moved (03 R83, R85, R88). -/
def Node.beforeServo (n : Node) (built : Nat) : Node :=
  ((overAll (upTo n.portCount) Node.lockStep n).sourceStep built).planeStep

theorem Node.beforeServo_writes (n : Node) (built : Nat) : n.Writes isMarkerObj (n.beforeServo built) := by
  have locks := n.lockSteps_writes.mono (w' := isMarkerObj) fun o ho => by simp [isMarkerObj, ho]
  have source := locks.trans ((Node.sourceStep_writes _ built).mono fun o ho => by simp [isMarkerObj, ho])
  exact source.trans ((Node.planeStep_writes _).mono fun o ho => by simp_all [isMarkerObj])

theorem Node.rd_source_beforeServo_root {n : Node} (built : Nat) (hk : n.isKeystone = true) (hs : n.rd Ob.time_source = 0x7E) :
    (n.beforeServo built).rd Ob.time_source = 0x7E := by
  have locks := n.lockSteps_writes
  have source : (overAll (upTo n.portCount) Node.lockStep n).rd Ob.time_source = 0x7E := (locks.rd _ (by decide) (by decide)).trans hs
  rw [Node.beforeServo, Node.sourceStep_root built (locks.isKeystone.trans hk) source]
  exact ((Node.planeStep_writes _).rd _ (by decide) (by decide)).trans source

/-! ### Servo and step -/

theorem Node.markSec_rd (n : Node) (o : Nat) : n.markSec.rd o = n.rd o := by
  unfold Node.markSec
  dsimp only
  split_ifs <;> rfl

theorem Node.markSec_kind (n : Node) : n.markSec.kind = n.kind := by
  unfold Node.markSec
  dsimp only
  split_ifs <;> rfl

theorem Node.stepTb1_rd (n : Node) (d : Int) (o : Nat) : (n.stepTb1 d).rd o = n.rd o := Node.markSec_rd _ o

theorem Node.stepTb1_kind (n : Node) (d : Int) : (n.stepTb1 d).kind = n.kind := Node.markSec_kind _

/-- A step of TB1 has been made: it is counted, and the integral of the servo starts again (03 R84). -/
def Node.HasStepped (n m : Node) : Prop :=
  m.tnode.servoI = 0 ∧ m.tnode.stepPending = false ∧ m.rd Ob.time_timeSteps = (n.rd Ob.time_timeSteps + 1) % 2 ^ 32 ∧
    m.rd Ob.time_timeState = n.rd Ob.time_timeState

theorem Node.hasStepped_timeStep (n : Node) (theta : Int) : n.HasStepped (n.timeStep theta) := by
  generalize hm : ((n.stepTb1 (roundRat ((theta : Rat) / 65536))).wrS 64 Ob.time_phaseMoved
    ((n.stepTb1 (roundRat ((theta : Rat) / 65536))).rdS 64 Ob.time_phaseMoved +
      roundRat (((theta - roundRat ((theta : Rat) / 65536) * 65536 : Int) : Rat) / 128))).modTnode (fun t =>
        { t with servoI := 0, stepPending := false }) = m
  have run : n.timeStep theta = (m.bump Ob.time_timeSteps).fault { cause := 0x25, detail := ofS 64 theta } := by rw [← hm]; rfl
  have rd (o : Nat) (ho : Ob.time_phaseMoved ≠ o) : m.rd o = n.rd o := by
    rw [← hm, Node.modTnode_rd, Node.rd_wrS_ne _ _ _ ho, Node.stepTb1_rd]
  have kind : m.kind = n.kind := by rw [← hm]; exact n.stepTb1_kind _
  have tnode : (n.timeStep theta).tnode = m.tnode := by
    have bump := congrArg Node.tnode (m.bump_frame Ob.time_timeSteps)
    have fault := congrArg Node.tnode ((m.bump Ob.time_timeSteps).fault_frame { cause := 0x25, detail := ofS 64 theta })
    rw [run]
    exact fault.trans bump
  refine ⟨?_, ?_, ?_, ?_⟩
  · rw [tnode, ← hm]; rfl
  · rw [tnode, ← hm]; rfl
  · rw [run, Node.rd_fault _ _ (by decide), Node.rd_bump_same _ _ (by decide), kind, widthOf_timeSteps, rd _ (by decide)]
  · rw [run, Node.rd_fault _ _ (by decide), Node.rd_bump_ne _ (by decide) (by decide), rd _ (by decide)]

theorem Node.hasStepped_showOffset {n m : Node} (h : n.HasStepped m) (e : Rat) : n.HasStepped (m.showOffset e) := by
  obtain ⟨integral, pending, count, state⟩ := h
  exact ⟨integral, pending, (m.rd_wr_ne _ (by decide)).trans count, (m.rd_wr_ne _ (by decide)).trans state⟩

/-- The servo of a marker leaves TB1, or an acquiring unit steps (03 R83, R84). -/
theorem Node.phaseStep_keeps_or_steps (n : Node) :
    n.phaseStep.tb1 = n.tb1 ∨ (n.rd Ob.time_timeState = 1 ∧ n.HasStepped n.phaseStep) := by
  unfold Node.phaseStep
  dsimp only
  split
  · exact .inl rfl
  split
  next h =>
    simp only [Bool.and_eq_true, beq_iff_eq] at h
    obtain ⟨⟨⟨acquiring, -⟩, -⟩, -⟩ := h
    exact .inr ⟨acquiring, Node.hasStepped_showOffset (n.hasStepped_timeStep _) _⟩
  · split <;> exact .inl rfl

/-- A unit on its own oscillator has no servo (03 R83). -/
theorem Node.phaseStep_root {n : Node} (h : n.rd Ob.time_source = 0x7E) : n.phaseStep = n := by
  simp [Node.phaseStep, h]

theorem markerServo_marker {n : Node} (built : Nat) (h : n.tb1 % 512 = 0) : markerServo built n = (n.beforeServo built).phaseStep := by
  simp [markerServo, h, Node.beforeServo]

theorem markerServo_idle {n : Node} (built : Nat) (h : n.tb1 % 512 ≠ 0) : markerServo built n = n := by
  simp only [markerServo, beq_eq_false_iff_ne.mpr h, when_false]

/-- A number that is limited to `lim` either way, as the servo limits its phase. -/
def clampTo (lim r : Int) : Int := if lim < r then lim else if r < -lim then -lim else r

theorem natAbs_clampTo_le (lim : Nat) (r : Int) : (clampTo lim r).natAbs ≤ lim := by
  unfold clampTo
  split_ifs <;> omega

/-- The servo of a marker moves the phase by no more than its limit (03 R83). -/
theorem Node.servoStep_moves (n : Node) : ∃ k : Int,
    n.servoStep.rd Ob.time_phaseMoved = ofS 64 (n.rdS 64 Ob.time_phaseMoved + k) ∧
    k.natAbs ≤ if n.rd Ob.time_timeState = 2 then n.rd Ob.time_slewLimit else n.rd Ob.time_acquisitionSlew := by
  generalize hl : (if n.rd Ob.time_timeState = 2 then n.rd Ob.time_slewLimit else n.rd Ob.time_acquisitionSlew) = lim
  have cast : (if n.rd Ob.time_timeState == 2 then (n.rd Ob.time_slewLimit : Int) else n.rd Ob.time_acquisitionSlew) = lim := by
    rw [← hl]
    simp only [beq_iff_eq]
    split_ifs <;> rfl
  refine ⟨clampTo lim (roundRat (((n.rd Ob.time_proportionalGain : Nat) / 65536 * n.servoOffset + n.tnode.servoI) / 512)), ?_,
    natAbs_clampTo_le lim _⟩
  unfold Node.servoStep
  dsimp only
  rw [cast, Node.modTnode_rd, Node.rd_wrS_same]
  rfl

/-- Settles O10: before the servo nothing writes TB1, the steps or the phase moved, and the servo leaves TB1 or steps as acquiring. -/
theorem servoMovesWithinItsLimit : Obligations.ServoMovesWithinItsLimit := by
  refine ⟨fun s u built hw h => exec_node_idle rfl (markerServo_idle built h), fun s u built hw h => runsOn_node hw rfl rfl ?_,
    Node.servoStep_moves⟩
  rw [markerServo_marker built h]
  have before := (s.node u).beforeServo_writes built
  have steps : ((s.node u).beforeServo built).rd Ob.time_timeSteps = (s.node u).rd Ob.time_timeSteps := before.rd _ (by decide) (by decide)
  refine ⟨fun acq => ?_, fun moved => ?_, fun hk hs => ?_⟩
  · rcases Node.phaseStep_keeps_or_steps ((s.node u).beforeServo built) with kept | ⟨acquiring, -, -, -, state⟩
    · exact kept.trans before.tb1
    · exact absurd (state.trans acquiring) acq
  · rcases Node.phaseStep_keeps_or_steps ((s.node u).beforeServo built) with kept | ⟨-, integral, pending, count, -⟩
    · exact absurd (kept.trans before.tb1) moved
    · exact ⟨integral, pending, by rw [count, steps]⟩
  · have source := Node.rd_source_beforeServo_root built hk hs
    rw [Node.phaseStep_root source]
    exact ⟨source, before.rd _ (by decide) (by decide)⟩

/-! ### Changes of source -/

theorem Node.recorded_of_rd_after {n m k : Node} {c : Nat} (hk : k.rd Ob.cause_causeCounts = m.rd Ob.cause_causeCounts) (h : n.recorded m c) :
    n.recorded k c := by
  unfold Node.recorded Node.causeCount at *
  rw [hk, h]

theorem Node.rd_source_setSource (n : Node) (src meas : Nat) : (n.setSource src meas).rd Ob.time_source = src := by
  unfold Node.setSource
  dsimp only
  split
  next h => simpa using h
  next => rw [Node.rd_fault _ _ (by decide), Node.rd_bump_ne _ (by decide) (by decide), Node.rd_wr_same]

/-- A change to another source is recorded (03 R76). -/
theorem Node.recorded_setSource {n : Node} {src : Nat} (meas : Nat) (h : n.rd Ob.time_source ≠ src) : n.recorded (n.setSource src meas) 0x22 := by
  have run : n.setSource src meas = ((n.wr Ob.time_source src).bump Ob.time_sourceChanges).fault
      { cause := 0x22, detail := put 79 72 (n.rd Ob.time_source) + put 71 64 src + put 63 0 (n.builtOut (n.rd Ob.time_source) src meas) } := by
    simp [Node.setSource, h]
  rw [run]
  refine Node.recorded_of_rd ?_ (Node.recorded_fault _ _)
  rw [Node.rd_bump_ne _ (by decide) (by decide), Node.rd_wr_ne _ _ (by decide)]

@[simp] theorem Node.rd_timeState_setTimeState (n : Node) (st : Nat) : (n.setTimeState st).rd Ob.time_timeState = st := by
  rw [Node.setTimeState, Node.rd_wr_ne _ _ (by decide), Node.rd_wr_same]

@[simp] theorem Node.rd_depth_setTimeState (n : Node) (st : Nat) :
    (n.setTimeState st).rd Ob.time_depth = n.depthFor st (n.rd Ob.time_source) := Node.rd_wr_same ..

theorem Node.rd_setTimeState (n : Node) (st : Nat) {o : Nat} (hs : Ob.time_timeState ≠ o) (hd : Ob.time_depth ≠ o) :
    (n.setTimeState st).rd o = n.rd o := by
  rw [Node.setTimeState, Node.rd_wr_ne _ _ hd, Node.rd_wr_ne _ _ hs]
  split <;> rfl

/-- The source changes to the first port before the followed one that has waited long enough (03 R74). -/
theorem revertHold_changes {n : Node} {p : Nat} (built : Nat) (hm : n.tb1 % 512 = 0) (hc : n.rd Ob.time_source ∈ n.candidates)
    (hf : (n.candidates.takeWhile (· != n.rd Ob.time_source)).find? (fun p => n.eligible p && n.locked p &&
      decide ((n.portOf p).readySince + 512 * n.rd Ob.time_revertHold ≤ n.tb1)) = some p) :
    revertHold built n = (n.setSource p built).setTimeState 2 ∧ n.rd Ob.time_source ≠ p := by
  have before := List.mem_takeWhile_imp (List.mem_of_find?_eq_some hf)
  refine ⟨by simp [revertHold, hf, hc, hm], fun e => ?_⟩
  simp [e] at before

/-- A unit that becomes root is valid at depth 0 on its own oscillator (03 R75). -/
theorem Node.becomeRoot_spec (n : Node) :
    n.becomeRoot.rd Ob.time_source = 0x7E ∧ n.becomeRoot.rd Ob.time_timeState = 2 ∧ n.becomeRoot.rd Ob.time_depth = 0 ∧
      n.becomeRoot.tnode.rootWait = none := by
  have source := n.rd_source_setSource 0x7E 0
  unfold Node.becomeRoot
  simp only [Node.modTnode_rd, Node.modTnode_tnode, Node.rd_timeState_setTimeState, Node.rd_depth_setTimeState, source,
    Node.rd_setTimeState _ _ (o := Ob.time_source) (by decide) (by decide)]
  exact ⟨trivial, trivial, rfl, trivial⟩

theorem rootWaitExpiry_root {n : Node} {t0 : Nat} (hk : n.isKeystone = true) (hs : n.rd Ob.time_timeState = 0) (hr : n.tnode.rootWait = some t0)
    (ht : t0 + 15625000 ≤ n.tb1) (hm : n.tb1 % 512 = 0) (hc : n.candidates.any n.eligible = false) : rootWaitExpiry n = n.becomeRoot := by
  simp only [rootWaitExpiry, hr, hk, hs, ht, hm, hc, beq_self_eq_true, decide_true, Bool.not_false, Bool.and_self, when_true]

/-- A unit that has noted a plane disagreement as told; a weighted TSU then uses one lane (03 R88). -/
def Node.tellPlane (n : Node) : Node :=
  n.modTnode fun t =>
    { t with
      planeTold := true
      soleLane := if !n.isHub && n.rd Ob.time_planeMode == 2 then
          some (if (n.portOf 1).pDepth < (n.portOf 0).pDepth then 1 else 0) else t.soleLane }

theorem planeDisagreement_told {n : Node} (hr : 16 ≤ n.tnode.planeRun) (ht : n.tnode.planeTold = false) :
    ∃ r : FRec, r.cause = 0x21 ∧ planeDisagreement n = n.tellPlane.fault r := by
  have run : planeDisagreement n = if n.isHub then n.tellPlane.portFault 0x21 (if n.locked 66 then 66 else 67) (n.rd Ob.time_planeDifference)
      else n.tellPlane.fault { cause := 0x21, detail := n.rd Ob.time_planeDifference } := by
    simp only [planeDisagreement, hr, ht, decide_true, Bool.not_false, Bool.and_self, when_true]
    rfl
  rw [run]
  split
  · exact ⟨_, rfl, rfl⟩
  · exact ⟨_, rfl, rfl⟩

theorem planeDisagreement_idle {n : Node} (ht : n.tnode.planeTold = true) : planeDisagreement n = n := by
  simp [planeDisagreement, ht]

theorem Node.tnode_fault (n : Node) (r : FRec) : (n.fault r).tnode = n.tnode := by
  have := congrArg Node.tnode (n.fault_frame r)
  exact this

/-- Settles O11: a change of source is `Node.setSource`, a root is `Node.becomeRoot`, a disagreement is told by `Node.tellPlane`. -/
theorem sourcesChangeByTheirRules : Obligations.SourcesChangeByTheirRules := by
  refine ⟨fun s u p built hw hm hc hf => runsOn_node hw rfl rfl ?_,
    fun s t0 hw hk hs hr ht hm hc => runsOn_node hw rfl hk ?_, fun s u hw hr ht => runsOn_node hw rfl rfl ?_,
    fun s u hw ht => exec_node_idle rfl (planeDisagreement_idle ht)⟩
  · obtain ⟨run, ne⟩ := revertHold_changes built hm hc hf
    rw [run]
    refine ⟨?_, Node.rd_timeState_setTimeState .., ?_⟩
    · rw [Node.rd_setTimeState _ _ (by decide) (by decide), Node.rd_source_setSource]
    · exact Node.recorded_of_rd_after (Node.rd_setTimeState _ _ (by decide) (by decide)) (Node.recorded_setSource built ne)
  · exact (rootWaitExpiry_root hk hs hr ht hm hc).symm ▸ Node.becomeRoot_spec s.hub
  · obtain ⟨r, cause, run⟩ := planeDisagreement_told hr ht
    rw [run, Node.tnode_fault]
    refine ⟨rfl, ?_, (Node.rd_fault _ _ (by decide)).trans rfl, fun hub weighted => ?_⟩
    · have told := Node.recorded_fault (s.node u).tellPlane r
      rw [cause] at told
      exact Node.recorded_of_rd rfl told
    · simp [Node.tellPlane, hub, weighted]

/-! ### Loop closure -/

/-- A unit whose downlinks hold the closure residuals they held (03 R96). -/
def Node.KeepsResiduals (n m : Node) : Prop := ∀ q < 64, m.rd (Ob.tport_closureResidual q) = n.rd (Ob.tport_closureResidual q)

theorem Node.KeepsResiduals.trans {n m k : Node} (h : n.KeepsResiduals m) (g : m.KeepsResiduals k) : n.KeepsResiduals k :=
  fun q hq => (g q hq).trans (h q hq)

theorem Node.Discards.keepsResiduals {n m : Node} (h : n.Discards m) : n.KeepsResiduals m := by
  intro q hq
  have he := isEcnt_of_not_rec (isRecObj_of_port (p := q) (k := 8) (by omega) (by decide))
  refine h.rd _ ?_
  simp only [isDropObj, Ob.tport_closureResidual, he, Bool.false_or, Bool.or_eq_false_iff, beq_eq_false_iff_ne]
  omega

theorem Node.keepsResiduals_portFault (n : Node) (cause p d : Nat) : n.KeepsResiduals (n.portFault cause p d) :=
  fun _ hq => n.rd_fault _ (isRecObj_of_port (k := 8) (by omega) (by decide))

theorem Node.discards_modAccess (n : Node) (f : Access → Access) : n.Discards (n.modAccess f) := ⟨fun _ _ => rfl, fun _ => rfl⟩

theorem Node.discards_send (n : Node) (p : Nat) (m : Msg) : n.Discards (n.send p m) := n.discards_enqueue p _

/-- A relayed request is kept, and its message is queued (16 R447). -/
theorem Node.discards_sendRelay (n : Node) (kind dst tag oid off len last : Nat) (bytes : List Nat) :
    n.Discards (n.sendRelay kind dst tag oid off len last bytes).1 := by
  unfold Node.sendRelay
  dsimp only
  split
  · split
    · dsimp only
      refine .trans ?_ (Node.discards_send _ _ _)
      split
      · exact .refl n
      · exact n.discards_modAccess _
    · exact .refl n
  · exact .refl n

theorem Node.discards_relayWrite (n : Node) (dst oid len v : Nat) : n.Discards (n.relayWrite dst oid len v) :=
  (n.discards_modAccess _).trans (Node.discards_sendRelay _ _ _ _ _ _ _ _ _)

theorem Node.discards_writeLink (n : Node) (port childPort cal0 cal : Nat) (c : Int) : n.Discards (n.writeLink port childPort cal0 cal c) := by
  unfold Node.writeLink
  split
  · exact .refl n
  · exact (n.discards_relayWrite _ _ _ _).trans (Node.discards_relayWrite _ _ _ _ _)

theorem Node.discards_writeChild (n : Node) (x : ClosureMeas) (dA dB : Int) (cal : Nat) : n.Discards (n.writeChild x dA dB cal) := by
  unfold Node.writeChild
  split
  · exact (n.discards_writeLink _ _ _ _ _).trans (Node.discards_writeLink _ _ _ _ _ _)
  · split
    · exact n.discards_writeLink _ _ _ _ _
    · exact n.discards_writeLink _ _ _ _ _

/-- A unit that has stored the residual of one downlink and left those of the others (03 R91). -/
def Node.StoresResidual (n : Node) (x : ClosureMeas) (m : Node) : Prop :=
  m.rd (Ob.tport_closureResidual x.port) = ofS 64 (residualOf x) ∧
    ∀ q < 64, q ≠ x.port → m.rd (Ob.tport_closureResidual q) = n.rd (Ob.tport_closureResidual q)

theorem Node.storesResidual_wrS (n : Node) (x : ClosureMeas) :
    n.StoresResidual x (n.wrS 64 (Ob.tport_closureResidual x.port) (residualOf x)) := by
  refine ⟨Node.rd_wrS_same .., fun q _ hq => Node.rd_wrS_ne _ _ _ ?_⟩
  unfold Ob.tport_closureResidual
  omega

theorem Node.StoresResidual.keeps {n m k : Node} {x : ClosureMeas} (h : n.StoresResidual x m) (g : m.KeepsResiduals k) (hx : x.port < 64) :
    n.StoresResidual x k :=
  ⟨(g _ hx).trans h.1, fun q hq hne => (g q hq).trans (h.2 q hq hne)⟩

theorem Node.StoresResidual.ite {n a b : Node} {x : ClosureMeas} {c : Prop} {_ : Decidable c} (ha : n.StoresResidual x a)
    (hb : n.StoresResidual x b) : n.StoresResidual x (if c then a else b) := by
  split
  · exact ha
  · exact hb

section
variable {n m : Node} {x : ClosureMeas} (h : n.StoresResidual x m) (hx : x.port < 64)
include h hx

/-- The constants of the child links are written by relay (03 R91). -/
theorem Node.StoresResidual.writeChild (dA dB : Int) (cal p : Nat) (f : TimePort → TimePort) :
    n.StoresResidual x ((m.writeChild x dA dB cal).modPort p f) :=
  have written : n.StoresResidual x (m.writeChild x dA dB cal) := h.keeps (m.discards_writeChild x dA dB cal).keepsResiduals hx
  written

theorem Node.StoresResidual.report (cause p d : Nat) : n.StoresResidual x (m.portFault cause p d) :=
  h.keeps (m.keepsResiduals_portFault cause p d) hx

end

theorem closeOne_storesResidual (apply : Bool) (r : Node × Bool) {x : ClosureMeas} (hx : x.port < 64) :
    r.1.StoresResidual x (closeOne apply r x).1 := by
  have stored := r.1.storesResidual_wrS x
  unfold closeOne
  dsimp only
  split
  · exact stored
  split
  · exact stored.writeChild hx _ _ _ _ _
  · exact stored.report hx _ _ _

theorem trackOne_storesResidual (n : Node) {x : ClosureMeas} (hx : x.port < 64) : n.StoresResidual x (trackOne n x) := by
  have stored := n.storesResidual_wrS x
  unfold trackOne
  extract_lets rho n1 drift n2
  have told : n.StoresResidual x n2 := .ite (stored.report hx _ _ _) stored
  exact .ite (told.writeChild hx _ _ _ _ _) told

section
variable {α : Type} {node : α → Node} {f : α → ClosureMeas → α}

/-- A run over downlinks of other numbers leaves the residual of a downlink. -/
theorem foldl_keepsResidual (hf : ∀ a x, x.port < 64 → (node a).StoresResidual x (node (f a x))) {l : List ClosureMeas} {q : Nat} (hq : q < 64)
    (hl : ∀ x ∈ l, x.port < 64 ∧ x.port ≠ q) (a : α) :
    (node (l.foldl f a)).rd (Ob.tport_closureResidual q) = (node a).rd (Ob.tport_closureResidual q) := by
  induction l generalizing a with
  | nil => rfl
  | cons x r ih =>
    obtain ⟨hx, hne⟩ := hl x List.mem_cons_self
    exact (ih (fun y hy => hl y (List.mem_cons_of_mem _ hy)) _).trans ((hf a x hx).2 q hq (Ne.symm hne))

/-- A run over distinct downlinks stores the residual of each (03 R91, R93). -/
theorem foldl_storesResiduals (hf : ∀ a x, x.port < 64 → (node a).StoresResidual x (node (f a x))) {l : List ClosureMeas}
    (hl : ∀ x ∈ l, x.port < 64) (hd : l.Pairwise fun a b => a.port ≠ b.port) (a : α) {x : ClosureMeas} (hx : x ∈ l) :
    (node (l.foldl f a)).rd (Ob.tport_closureResidual x.port) = ofS 64 (residualOf x) := by
  induction l generalizing a with
  | nil => cases hx
  | cons y r ih =>
    obtain ⟨hy, hr⟩ := List.pairwise_cons.mp hd
    have rest : ∀ z ∈ r, z.port < 64 := fun z hz => hl z (List.mem_cons_of_mem _ hz)
    rcases List.mem_cons.mp hx with rfl | hx
    · have hx64 := hl x List.mem_cons_self
      exact (foldl_keepsResidual hf hx64 (fun z hz => ⟨rest z hz, Ne.symm (hy z hz)⟩) _).trans (hf a x hx64).1
    · exact ih rest hr _ hx

end

theorem Node.port_lt_of_closureOn {n : Node} {x : ClosureMeas} (h : n.closureOn x = true) : x.port < 64 := by
  simp only [Node.closureOn, Bool.and_eq_true, decide_eq_true_eq] at h
  exact h.1.1.1

/-- The measurements that count, of distinct downlinks (03 R91). -/
theorem Node.closureMeas_filter (n : Node) {meas : List ClosureMeas} (hd : meas.Pairwise fun a b => a.port ≠ b.port) :
    (∀ x ∈ meas.filter n.closureOn, x.port < 64) ∧ (meas.filter n.closureOn).Pairwise fun a b => a.port ≠ b.port :=
  ⟨fun _ hx => Node.port_lt_of_closureOn (List.mem_filter.mp hx).2, hd.filter _⟩

/-- A closure reports a downlink when it applies and the downlink has no correction (03 R91). -/
theorem foldl_closeOne_reports (apply : Bool) (l : List ClosureMeas) (r : Node × Bool) :
    (l.foldl (closeOne apply) r).2 = (r.2 || (apply && l.any fun x => (closureSplit x (residualOf x)).isNone)) := by
  have one : ∀ (r : Node × Bool) x, (closeOne apply r x).2 = (r.2 || (apply && (closureSplit x (residualOf x)).isNone)) := by
    intro r x
    unfold closeOne
    cases apply <;> cases h : closureSplit x (residualOf x) <;> simp [h]
  induction l generalizing r with
  | nil => simp
  | cons x l ih =>
    rw [List.foldl_cons, ih, one, List.any_cons, Bool.or_assoc, ← Bool.and_or_distrib_left]

/-- The averages of a closure start again on every port (03 R91). -/
theorem closureStart_spec (mode : Nat) (n : Node) :
    (closureStart mode n).rd Ob.time_closure = 1 ∧ (closureStart mode n).tnode.closing = mode ∧
      (closureStart mode n).tnode.closeStart = n.tb1 ∧ (closureStart mode n).answered 0 := by
  generalize hm : ((overAll (upTo 68) (fun n p => n.modPort p (fun t => { t with cloN := 0, cloSum := 0 })) n).modTnode
    fun t => { t with closing := mode, closeStart := n.tb1 }).wr Ob.time_closure 1 = m
  have run : closureStart mode n = m.answer 0 := by rw [← hm]; rfl
  have tnode : (m.answer 0).tnode = m.tnode := by
    have := congrArg Node.tnode (m.answerData_frame 0 0 0)
    exact this
  rw [run, tnode, Node.rd_answer _ _ (by decide) (by decide), ← hm]
  exact ⟨Node.rd_wr_same .., rfl, rfl, Node.answered_answer ..⟩

section
variable {n : Node} {meas : List ClosureMeas} (hd : meas.Pairwise fun a b => a.port ≠ b.port)
include hd

/-- A closure at its end has stored every residual that counts and answers whether it reported one (03 R91). -/
theorem closureDone_spec (hc : n.tnode.closing ≠ 0) (ht : n.tnode.closeStart + 512 * n.rd Ob.time_closureLength ≤ n.tb1) :
    (closureDone meas n).tnode.closing = 0 ∧
    (∀ x ∈ meas, n.closureOn x = true → (closureDone meas n).rd (Ob.tport_closureResidual x.port) = ofS 64 (residualOf x)) ∧
    (closureDone meas n).rd Ob.time_closure =
      if n.tnode.closing = 1 ∧ ∃ x ∈ meas, n.closureOn x = true ∧ closureSplit x (residualOf x) = none then 3 else 2 := by
  obtain ⟨ports, distinct⟩ := n.closureMeas_filter hd
  have report := foldl_closeOne_reports (n.tnode.closing == 1) (meas.filter n.closureOn) (n, false)
  have stored := fun x hx => foldl_storesResiduals (node := Prod.fst) (fun r _ h => closeOne_storesResidual (n.tnode.closing == 1) r h) ports
    distinct (n, false) (x := x) hx
  generalize hr : (meas.filter n.closureOn).foldl (closeOne (n.tnode.closing == 1)) (n, false) = r at report stored
  have run : closureDone meas n = (r.1.modTnode fun t => { t with closing := 0 }).wr Ob.time_closure (if r.2 then 3 else 2) := by
    rw [← hr]
    simp only [closureDone, bne_iff_ne.mpr hc, ht, decide_true, Bool.and_self, when_true]
  rw [run]
  refine ⟨rfl, fun x hx on => ?_, ?_⟩
  · rw [Node.rd_wr_ne _ _ (by unfold Ob.time_closure Ob.tport_closureResidual; omega)]
    exact stored x (List.mem_filter.mpr ⟨hx, on⟩)
  · rw [Node.rd_wr_same, report]
    simp

/-- A background run at its end has stored every residual that counts, and the next begins (03 R93). -/
theorem closureTracking_spec (ht : n.tnode.trackStart + 512 * 65536 ≤ n.tb1) :
    (closureTracking meas n).tnode.trackStart = n.tb1 ∧
    ∀ x ∈ meas, n.closureOn x = true → (closureTracking meas n).rd (Ob.tport_closureResidual x.port) = ofS 64 (residualOf x) := by
  obtain ⟨ports, distinct⟩ := n.closureMeas_filter hd
  have run : closureTracking meas n =
      ((meas.filter n.closureOn).foldl trackOne n).modTnode fun t => { t with trackStart := n.tb1 } := by
    simp only [closureTracking, ht, decide_true, when_true]
    rfl
  rw [run]
  exact ⟨rfl, fun x hx on =>
    foldl_storesResiduals (node := id) (fun m _ h => trackOne_storesResidual m h) ports distinct n (List.mem_filter.mpr ⟨hx, on⟩)⟩

end

/-! ### Reference pod -/

theorem Node.portOf_answer (n : Node) (st p : Nat) : (n.answer st).portOf p = n.portOf p := by
  have := congrArg (Node.portOf · p) (n.answerData_frame st 0 0)
  exact this

theorem Node.accept_accepted {n : Node} {ok : Bool} (h : ok = true) (f : Node → Node) : n.accept ok f = (f n).answer 0 := by
  simp [Node.accept, h]

theorem Node.accept_refused {n : Node} {ok : Bool} (h : ok = false) (f : Node → Node) : n.accept ok f = n.answer 3 := by
  simp [Node.accept, h]

/-- A unit whose port's pod evaluation has ended with a mean error: the constant grows by twice it (03 R92). -/
def Node.podEnd (n : Node) (p : Nat) (eps : Int) : Node :=
  ((n.wrS 32 (Ob.tport_asymmetry p) (n.rdS 32 (Ob.tport_asymmetry p) + 2 * eps)).wr (Ob.tport_calibration p) 2).modPort p fun t =>
    { t with podOn := false }

theorem Node.podEnd_spec (n : Node) (p : Nat) (eps : Int) :
    (n.podEnd p eps).rd (Ob.tport_asymmetry p) = ofS 32 (n.rdS 32 (Ob.tport_asymmetry p) + 2 * eps) ∧
      (n.podEnd p eps).rd (Ob.tport_calibration p) = 2 ∧ ((n.podEnd p eps).portOf p).podOn = false := by
  unfold Node.podEnd
  simp only [Node.modPort_rd, Node.modPort_portOf_same, Node.rd_wr_same]
  exact ⟨(Node.rd_wr_ne _ _ (tportObj_ne (j := 7) (k := 1) (by decide))).trans (Node.rd_wrS_same ..), trivial, trivial⟩

theorem podDone_spec {n : Node} {p : Nat} (hp : p < 68) (hon : (n.portOf p).podOn = true) (hN : (n.portOf p).podN = 0) :
    (podDone p n).rd (Ob.tport_asymmetry p) = ofS 32 (n.rdS 32 (Ob.tport_asymmetry p) +
      2 * (roundRat (((n.portOf p).podSum : Rat) / 4096) - (n.portOf p).podOff)) ∧
    (podDone p n).rd (Ob.tport_calibration p) = 2 ∧ ((podDone p n).portOf p).podOn = false := by
  generalize he : roundRat (((n.portOf p).podSum : Rat) / 4096) - (n.portOf p).podOff = eps
  have run : podDone p n = if withinPs eps 100 then n.podEnd p eps else (n.podEnd p eps).portFault 0x24 p (put 79 72 2 + put 63 0 (ofS 64 eps)) := by
    simp only [podDone, hon, hN, beq_self_eq_true, Bool.and_self, when_true, he]
    rfl
  obtain ⟨const, cal, off⟩ := n.podEnd_spec p eps
  rw [run]
  split
  · exact ⟨const, cal, off⟩
  · have port (r : FRec) : ((n.podEnd p eps).fault r).portOf p = (n.podEnd p eps).portOf p := by
      have := congrArg (Node.portOf · p) ((n.podEnd p eps).fault_frame r)
      exact this
    exact ⟨(Node.rd_fault _ _ (isRecObj_of_port (k := 1) hp (by decide))).trans const,
      (Node.rd_fault _ _ (isRecObj_of_port (k := 7) hp (by decide))).trans cal, by rw [Node.portFault, port, off]⟩

/-- Settles O12: each residual is stored once by a run over distinct downlinks, and what else a run writes is none of them. -/
theorem closureAndPodCalibrate : Obligations.ClosureAndPodCalibrate := by
  refine ⟨fun s hw => ⟨runsOn_obj hw rfl rfl (closureStart_spec 1 s.hub), runsOn_obj hw rfl rfl (closureStart_spec 2 s.hub)⟩,
    fun s meas hw hc ht hd => runsOn_node hw rfl rfl (closureDone_spec hd hc ht),
    fun s meas hw hd ht => runsOn_node hw rfl rfl (closureTracking_spec hd ht),
    fun s u p v hw hp => ⟨fun h => runsOn_portObj hw hp rfl ?_, fun hc ht => runsOn_portObj hw hp rfl ?_⟩,
    fun s u p hw hp hon hN => runsOn_port hw hp rfl (podDone_spec (lt_of_lt_of_le hp (Node.portCount_le _)) hon hN)⟩
  · rw [podWrite, Node.accept_accepted (by simpa using h)]
    simp [Node.portOf_answer, Node.answered_answer]
  · rw [podWrite, Node.accept_refused (by simp [hc, ht])]
    exact ⟨Node.answered_answer .., Node.portOf_answer ..⟩

end Sys2Proof.Machine

/-! Measuring edges finer than a tick (04): what an edge, the end of a collection, the close of a slot and the end of a gate leave is said
once, as an equation of the unit after it; the statements read the fields off these. -/

namespace Sys2Proof.Machine

/-! ### The objects of the converters -/

/-- The objects of the converters, event inputs, slots, engines and tables (04 R116 to R119). -/
def isTdcObj (o : Nat) : Bool := decide (0x3800 ≤ o / 256 ∧ o / 256 < 0x3968)

theorem isRecObj_of_tdcObj {o : Nat} (h : isTdcObj o = true) : isRecObj o = false := by
  simp only [isTdcObj, decide_eq_true_eq] at h
  simp only [isRecObj, isEcnt, Bool.or_eq_false_iff, beq_eq_false_iff_ne, decide_eq_false_iff_not]
  omega

theorem isEcnt_of_tdcObj {o : Nat} (h : isTdcObj o = true) : isEcnt o = false := isEcnt_of_not_rec (isRecObj_of_tdcObj h)

theorem isTdcObj_ev {i k : Nat} (hi : i < 8) (hk : k < 256) : isTdcObj (0x381000 + k + i * 256) = true := by
  simp only [isTdcObj, decide_eq_true_eq]
  omega

theorem isTdcObj_mslot {k j : Nat} (hk : k < 16) (hj : j < 256) : isTdcObj (0x382000 + j + k * 256) = true := by
  simp only [isTdcObj, decide_eq_true_eq]
  omega

theorem isTdcObj_calibrationTable {c : Nat} (hc : c < 0x68) : isTdcObj (Ob.chan_calibrationTable c) = true := by
  simp only [isTdcObj, Ob.chan_calibrationTable, decide_eq_true_eq]
  omega

theorem evObj_ne {i j k : Nat} (h : j ≠ k) : 0x381000 + j + i * 256 ≠ 0x381000 + k + i * 256 := by omega

theorem widthOf_rejectedEdges (k : Kind) {i : Nat} (hi : i < 8) : widthOf k (Ob.ev_rejectedEdges i) = 64 := by
  have all : ∀ i < 8, widthOf k (Ob.ev_rejectedEdges i) = 64 := by cases k <;> decide +kernel
  exact all i hi

theorem widthOf_calibrations (k : Kind) : widthOf k Ob.tdc_calibrationsAccepted = 64 ∧ widthOf k Ob.tdc_calibrationsRejected = 64 := by
  cases k <;> decide +kernel

theorem Node.slotCount_le (n : Node) : n.slotCount ≤ 16 := by
  unfold Node.slotCount
  split <;> omega

theorem widthOf_completed {n : Node} {k : Nat} (hk : k < n.slotCount) : widthOf n.kind (Ob.mslot_completed k) = 64 := by
  have hub : ∀ k < 16, widthOf .hub (Ob.mslot_completed k) = 64 := by decide +kernel
  have full : ∀ k < 8, widthOf .full (Ob.mslot_completed k) = 64 := by decide +kernel
  have edge : ∀ k < 8, widthOf .edge (Ob.mslot_completed k) = 64 := by decide +kernel
  unfold Node.slotCount Node.isHub at hk
  match hn : n.kind with
  | .hub => exact hub k (by simpa [hn] using hk)
  | .full => exact full k (by simpa [hn] using hk)
  | .edge => exact edge k (by simpa [hn] using hk)

/-! ### Channels -/

theorem Node.hasChan_event (n : Node) {i : Nat} (hi : i < 8) : n.hasChan (0x60 + i) = true := by
  simp only [Node.hasChan, Bool.or_eq_true, Bool.and_eq_true, decide_eq_true_eq]
  omega

theorem Node.lt_of_hasChan {n : Node} {c : Nat} (h : n.hasChan c = true) : c < 0x68 := by
  have := n.portCount_le
  simp only [Node.hasChan, Bool.or_eq_true, Bool.and_eq_true, decide_eq_true_eq] at h
  omega

theorem recOnly.chanOf {n m : Node} (h : recOnly n m) (c : Nat) : m.chanOf c = n.chanOf c := by
  have := congrArg (Node.chanOf · c) h
  exact this

theorem objsOnly.chanOf {n m : Node} (h : objsOnly n m) (c : Nat) : m.chanOf c = n.chanOf c := (recOnly.of_objs h).chanOf c

theorem objsOnly.evins {n m : Node} (h : objsOnly n m) : m.evins = n.evins := by have := congrArg Node.evins h; exact this
theorem objsOnly.mslots {n m : Node} (h : objsOnly n m) : m.mslots = n.mslots := by have := congrArg Node.mslots h; exact this

theorem Node.chanOf_answer (n : Node) (st c : Nat) : (n.answer st).chanOf c = n.chanOf c := by
  have := congrArg (Node.chanOf · c) (n.answerData_frame st 0 0)
  exact this

theorem Node.evFlag_frame (n : Node) (c b v : Nat) : objsOnly n (n.evFlag c b v) := by
  unfold Node.evFlag
  split <;> rfl

theorem Node.rd_evFlag (n : Node) (c b v : Nat) {o : Nat} (h : Ob.ev_flags (c - 0x60) ≠ o) : (n.evFlag c b v).rd o = n.rd o := by
  unfold Node.evFlag
  split
  · exact n.rd_wrBits_ne _ _ _ h
  · rfl

theorem Node.calFlag_frame (n : Node) (c v : Nat) : objsOnly n (n.calFlag c v) := by
  unfold Node.calFlag
  split
  · exact n.evFlag_frame ..
  · rfl

theorem Node.rd_calFlag (n : Node) (c v : Nat) {o : Nat} (he : Ob.ev_flags (c - 0x60) ≠ o) (hp : Ob.tdc_portFlags ≠ o) :
    (n.calFlag c v).rd o = n.rd o := by
  unfold Node.calFlag
  split
  · exact n.rd_evFlag _ _ _ he
  · exact n.rd_wrBits_ne _ _ _ hp

/-- The flags of the event inputs are none of the counts of causes, however the channel is numbered. -/
theorem Ob.ev_flags_ne_causeCounts (i : Nat) : Ob.ev_flags i ≠ Ob.cause_causeCounts := by
  unfold Ob.ev_flags Ob.cause_causeCounts
  omega

/-! ### Edges -/

/-- A unit with its references and their monitors replaced (05 R122, R123). -/
def Node.withRefs (n : Node) (refs : Tbl KRef) (mons : Tbl Regr) : Node := { n with refs := refs, monitors := mons }

@[simp] theorem Node.rd_withRefs (n : Node) (refs : Tbl KRef) (mons : Tbl Regr) (o : Nat) : (n.withRefs refs mons).rd o = n.rd o := rfl
@[simp] theorem Node.objs_withRefs (n : Node) (refs : Tbl KRef) (mons : Tbl Regr) : (n.withRefs refs mons).objs = n.objs := rfl
@[simp] theorem Node.tb1_withRefs (n : Node) (refs : Tbl KRef) (mons : Tbl Regr) : (n.withRefs refs mons).tb1 = n.tb1 := rfl
@[simp] theorem Node.chanOf_withRefs (n : Node) (refs : Tbl KRef) (mons : Tbl Regr) (c : Nat) : (n.withRefs refs mons).chanOf c = n.chanOf c := rfl
@[simp] theorem Node.evOf_withRefs (n : Node) (refs : Tbl KRef) (mons : Tbl Regr) (i : Nat) : (n.withRefs refs mons).evOf i = n.evOf i := rfl

theorem Node.refEdge_eq (n : Node) (i stamp : Nat) (coarse : Bool) : ∃ refs mons, n.refEdge i stamp coarse = n.withRefs refs mons := by
  have roll : ∃ mons, n.rollMonitor i = n.withRefs n.refs mons := by
    unfold Node.rollMonitor when
    dsimp only
    split
    · exact ⟨_, rfl⟩
    · exact ⟨n.monitors, rfl⟩
  obtain ⟨mons, roll⟩ := roll
  unfold Node.refEdge
  rw [roll]
  dsimp only
  split
  · exact ⟨n.refs, _, rfl⟩
  · exact ⟨_, _, rfl⟩

/-- What the references of a hub make of an edge changes them and their monitors alone (05 R122, R123). -/
theorem hubEdge_eq (c code : Nat) (falling hit : Bool) (n : Node) :
    ∃ refs mons, hubEdge c code falling hit n = (tdcEdge c code falling hit n).withRefs refs mons := by
  unfold hubEdge
  dsimp only
  split
  · exact Node.refEdge_eq ..
  · exact ⟨_, _, rfl⟩

/-- An edge that the channel leaves alone is none for the references either. -/
theorem hubEdge_idle {c code : Nat} {falling hit : Bool} {n : Node} (h : tdcEdge c code falling hit n = n) :
    hubEdge c code falling hit n = n := by
  simp [hubEdge, h]

/-- An edge on a channel that the unit holds runs; what the channel makes of it holds after it, when the references and their monitors do
not matter to it. -/
theorem runsOn_edge {s : State} {u : Who} {c code : Nat} {falling hit : Bool} {P : Node → Prop} (hw : Works s u)
    (hc : (s.node u).hasChan c = true) (h : ∀ refs mons, P ((tdcEdge c code falling hit (s.node u)).withRefs refs mons)) :
    RunsOn u (.tdcEdge u c code ⟨falling, hit⟩) s P := by
  obtain ⟨refs, mons, run⟩ := hubEdge_eq c code falling hit (s.node u)
  exact runsOn_node hw rfl hc (run ▸ h refs mons)

/-- A unit whose slots, engines and capture queues have been offered an edge. -/
def Node.withTakers (n : Node) (ms : Tbl MSlot) (rs : Tbl Regr) (cs : Tbl CapQ) : Node := { n with mslots := ms, regrs := rs, caps := cs }

@[simp] theorem Node.rd_withTakers (n : Node) (ms : Tbl MSlot) (rs : Tbl Regr) (cs : Tbl CapQ) (o : Nat) :
    (n.withTakers ms rs cs).rd o = n.rd o := rfl
@[simp] theorem Node.tb1_withTakers (n : Node) (ms : Tbl MSlot) (rs : Tbl Regr) (cs : Tbl CapQ) : (n.withTakers ms rs cs).tb1 = n.tb1 := rfl
@[simp] theorem Node.evOf_withTakers (n : Node) (ms : Tbl MSlot) (rs : Tbl Regr) (cs : Tbl CapQ) (i : Nat) :
    (n.withTakers ms rs cs).evOf i = n.evOf i := rfl

theorem Node.offerRegr_eq (n : Node) (i stamp : Nat) (coarse : Bool) :
    ∃ rs, n.offerRegr i stamp coarse = n.withTakers n.mslots rs n.caps := by
  have roll (m : Node) (g : Nat) : ∃ rs, m.rollGate g = m.withTakers m.mslots rs m.caps := by
    unfold Node.rollGate when
    dsimp only
    split
    · exact ⟨_, rfl⟩
    · exact ⟨m.regrs, rfl⟩
  refine overAll_keeps (P := fun m => ∃ rs, m = n.withTakers n.mslots rs n.caps) _ _ (fun m g _ h => ?_) ⟨n.regrs, rfl⟩
  obtain ⟨rs, rfl⟩ := h
  obtain ⟨rs', roll⟩ := roll (n.withTakers n.mslots rs n.caps) g
  rw [roll]
  exact ⟨_, rfl⟩

theorem Node.capture_eq (n : Node) (i stamp : Nat) (coarse : Bool) :
    ∃ cs, n.capture i stamp coarse = n.withTakers n.mslots n.regrs cs := by
  unfold Node.capture when
  split
  · exact ⟨_, rfl⟩
  · exact ⟨n.caps, rfl⟩

/-- The slots, the engines and the capture queue that are offered an edge keep it to themselves (04 R109, R112; 06 R166). -/
theorem Node.offered_eq (n : Node) (src i stamp : Nat) (coarse : Bool) (count : Option Nat) :
    ∃ ms rs cs, ((n.offerEdge src stamp coarse count).offerRegr i stamp coarse).capture i stamp coarse = n.withTakers ms rs cs := by
  obtain ⟨rs, offer⟩ := (n.offerEdge src stamp coarse count).offerRegr_eq i stamp coarse
  rw [offer]
  obtain ⟨cs, keep⟩ := ((n.offerEdge src stamp coarse count).withTakers (n.offerEdge src stamp coarse count).mslots rs n.caps).capture_eq
    i stamp coarse
  exact ⟨_, rs, cs, keep⟩

/-- An edge that is stamped is the input's last, and its hold-off and every object stay (04 R100, R108). -/
theorem Node.stampEdge_spec (n : Node) (i code : Nat) :
    (∀ o, (n.stampEdge i code).rd o = n.rd o) ∧ (n.stampEdge i code).tb1 = n.tb1 ∧
    ((n.stampEdge i code).evOf i).last = n.stampOf (0x60 + i) code ∧ ((n.stampEdge i code).evOf i).holdTo = (n.evOf i).holdTo := by
  unfold Node.stampEdge
  dsimp only
  generalize hm : Node.modEv _ _ _ = m
  obtain ⟨ms, rs, cs, run⟩ := m.offered_eq (0x60 + i) i (n.stampOf (0x60 + i) code) (!(n.chanOf (0x60 + i)).dll)
    (some (n.rd (Ob.ev_edgeCount i)))
  rw [run, ← hm]
  simp only [Node.rd_withTakers, Node.tb1_withTakers, Node.evOf_withTakers, Node.modEv_evOf_same, Node.modEv_rd, Node.modEv_tb1]
  exact ⟨fun _ => rfl, rfl, trivial, rfl⟩

section
variable {n : Node} {i code : Nat} {falling : Bool}

/-- An edge that passes the enable and the edge select is rejected in the hold-off and accepted after it (04 R106). -/
theorem tdcEdge_selected (he : n.rd (Ob.ev_enable i) = 1) (hs : n.rd (Ob.ev_edge i) = 1 ↔ falling = true) :
    tdcEdge (0x60 + i) code falling false n =
      if n.tb1 < (n.evOf i).holdTo then n.bump (Ob.ev_rejectedEdges i) else n.acceptEdge i code := by
  have sel : (n.rd (Ob.ev_edge i) == 1) = falling := by
    rw [Bool.eq_iff_iff, beq_iff_eq]
    exact hs
  simp [tdcEdge, he, sel]

/-- A disabled input takes no edge, and an enabled one none of the other direction (04 R106). -/
theorem tdcEdge_ignored (h : n.rd (Ob.ev_enable i) ≠ 1 ∨ ¬(n.rd (Ob.ev_edge i) = 1 ↔ falling = true)) :
    tdcEdge (0x60 + i) code falling false n = n := by
  have skip : (n.rd (Ob.ev_enable i) != 1 || (n.rd (Ob.ev_edge i) == 1) != falling) = true := by
    rcases h with dis | other
    · simp [dis]
    · rw [Bool.or_eq_true, bne_iff_ne, bne_iff_ne, Ne, Ne, Bool.eq_iff_iff, beq_iff_eq]
      exact .inr other
  simp [tdcEdge, skip]

/-- An input that has counted an accepted edge and opened its hold-off (04 R106, R108). -/
def Node.countEdge (n : Node) (i : Nat) : Node :=
  (n.wr (Ob.ev_edgeCount i) ((n.rd (Ob.ev_edgeCount i) + 1) % 2 ^ 48)).modEv i (fun e =>
    { e with holdTo := n.tb1 + n.rd (Ob.ev_holdOff i) })

@[simp] theorem Node.rd_edgeCount_countEdge (n : Node) (i : Nat) :
    (n.countEdge i).rd (Ob.ev_edgeCount i) = (n.rd (Ob.ev_edgeCount i) + 1) % 2 ^ 48 := by
  rw [Node.countEdge, Node.modEv_rd, Node.rd_wr_same]

@[simp] theorem Node.evOf_countEdge (n : Node) (i : Nat) :
    (n.countEdge i).evOf i = { n.evOf i with holdTo := n.tb1 + n.rd (Ob.ev_holdOff i) } := Node.modEv_evOf_same ..

/-- The count of an input enters no stamp of its channel. -/
@[simp] theorem Node.stampOf_countEdge (n : Node) (i c code : Nat) : (n.countEdge i).stampOf c code = n.stampOf c code := by
  have table : (n.countEdge i).rd (Ob.chan_calibrationTable c) = n.rd (Ob.chan_calibrationTable c) :=
    n.rd_wr_ne _ (by unfold Ob.ev_edgeCount Ob.chan_calibrationTable; omega)
  unfold Node.stampOf Node.stampAt
  rw [table]
  rfl

theorem Node.acceptEdge_unstamped (h : (n.chanOf (0x60 + i)).convAt = some (n.tb1, true)) : n.acceptEdge i code = n.countEdge i := by
  unfold Node.acceptEdge
  rw [h, if_pos (by simp)]
  rfl

theorem Node.acceptEdge_stamped (h : (n.chanOf (0x60 + i)).convAt ≠ some (n.tb1, true)) :
    n.acceptEdge i code = (n.countEdge i).stampEdge i code := by
  unfold Node.acceptEdge
  rw [if_neg (by simpa using h)]
  rfl

end

/-- An edge on a span port is stamped as it is (04 R106). -/
theorem tdcEdge_port {c code : Nat} {falling : Bool} {n : Node} (hc : c < 0x60) : tdcEdge c code falling false n = n.portEdge c code := by
  simp [tdcEdge, hc]

/-- The hit that a running collection with room takes on an idle channel (04 R103, R110). -/
theorem Node.takeHit_taken {n : Node} {c code : Nat} (hc : (n.chanOf c).collecting = true)
    (hh : (n.chanOf c).hits < n.rd Ob.tdc_calibrationHits) (hi : n.chanIdle c = true) (hf : (n.chanOf c).convAt = none) :
    n.takeHit c code = (n.converts c true).modChan c (fun t =>
      { t with hits := t.hits + 1, bins := tblSet t.bins code (tblGet 0 t.bins code + 1) }) := by
  simp [Node.takeHit, hc, hh, hi, hf]

@[simp] theorem Node.objs_converts (n : Node) (c : Nat) (hit : Bool) : (n.converts c hit).objs = n.objs := rfl

@[simp] theorem Node.chanOf_converts_same (n : Node) (c : Nat) (hit : Bool) :
    (n.converts c hit).chanOf c = { n.chanOf c with convAt := some (n.tb1, hit) } := n.modChan_chanOf_same ..

theorem Node.chanOf_converts_ne (n : Node) {c d : Nat} (hit : Bool) (h : c ≠ d) : (n.converts c hit).chanOf d = n.chanOf d :=
  n.modChan_chanOf_ne _ h

/-- A word clock edge keeps the first stamp of its channel's marker period, and the slots are offered it (04 R109, R111). -/
theorem Node.portEdge_spec (n : Node) (c code : Nat) :
    ((n.portEdge c code).chanOf c).firstEdge = some ((n.chanOf c).firstEdge.getD (n.stampOf c code)) ∧ (n.portEdge c code).objs = n.objs ∧
    ∀ d, c ≠ d → (n.portEdge c code).chanOf d = n.chanOf d := by
  have chans (m : Node) (src stamp : Nat) (coarse : Bool) (count : Option Nat) (d : Nat) :
      (m.offerEdge src stamp coarse count).chanOf d = m.chanOf d := rfl
  simp only [Node.portEdge, chans, Node.modChan_chanOf_same, Node.chanOf_converts_same]
  exact ⟨trivial, rfl, fun d hd => by rw [Node.modChan_chanOf_ne _ _ hd, Node.chanOf_converts_ne _ _ hd]⟩

/-! ### DLLs -/

/-- A unit with the state of a channel's DLL changed, before it tells of a loss (04 R102). -/
def Node.setDll (n : Node) (c : Nat) (locked : Bool) : Node :=
  (n.modChan c (fun t =>
    { t with dll := locked, told := !locked && (t.told || t.dll), clean := t.clean && locked })).evFlag c 0 (ofB (!locked))

/-- A loss of lock is recorded with cause 0x26; a lock is taken from 16,384 ticks of operation on (04 R102). -/
theorem dllChange_eq {n : Node} {c : Nat} {locked : Bool} (h : locked = true → (n.chanOf c).opAt + 16384 ≤ n.tb1) :
    ∃ (v : Nat) (r : FRec), r.cause = 0x26 ∧ dllChange c locked n =
      if (n.chanOf c).dll = true ∧ locked = false then ((n.setDll c locked).wr Ob.tdc_dllState v).fault r
      else (n.setDll c locked).wr Ob.tdc_dllState v := by
  have ready : ¬((locked && decide (n.tb1 < (n.chanOf c).opAt + 16384)) = true) := by
    rw [Bool.and_eq_true, decide_eq_true_eq]
    rintro ⟨lock, early⟩
    have := h lock
    omega
  refine ⟨ofB ((n.setDll c locked).chanList.all fun d => ((n.setDll c locked).chanOf d).dll),
    { cause := 0x26, obj := c, detail := put 79 72 1 }, rfl, ?_⟩
  unfold dllChange
  dsimp only
  rw [if_neg ready]
  simp only [Bool.and_eq_true, Bool.not_eq_true']
  rfl

theorem Node.chanOf_setDll (n : Node) (c : Nat) (locked : Bool) :
    ((n.setDll c locked).chanOf c).dll = locked ∧ ∀ d, d ≠ c → (n.setDll c locked).chanOf d = n.chanOf d := by
  have frame := (n.modChan c fun t =>
    { t with dll := locked, told := !locked && (t.told || t.dll), clean := t.clean && locked }).evFlag_frame c 0 (ofB (!locked))
  refine ⟨?_, fun d hd => (frame.chanOf d).trans (n.modChan_chanOf_ne _ hd.symm)⟩
  rw [Node.setDll, frame.chanOf, Node.modChan_chanOf_same]

theorem dllChange_spec {n : Node} {c : Nat} {locked : Bool} (h : locked = true → (n.chanOf c).opAt + 16384 ≤ n.tb1) :
    ((dllChange c locked n).chanOf c).dll = locked ∧
    ((n.chanOf c).dll = true → locked = false → n.recorded (dllChange c locked n) 0x26) ∧
    ∀ d, d ≠ c → (dllChange c locked n).chanOf d = n.chanOf d := by
  obtain ⟨v, r, cause, run⟩ := dllChange_eq h
  obtain ⟨state, others⟩ := n.chanOf_setDll c locked
  have counts : n.rd Ob.cause_causeCounts = ((n.setDll c locked).wr Ob.tdc_dllState v).rd Ob.cause_causeCounts := by
    rw [Node.rd_wr_ne _ _ (by decide), Node.setDll, Node.rd_evFlag _ _ _ _ (Ob.ev_flags_ne_causeCounts _), Node.modChan_rd]
  rw [run]
  split
  next loss =>
    have frame := ((n.setDll c locked).wr Ob.tdc_dllState v).fault_frame r
    refine ⟨(congrArg TdcChan.dll (frame.chanOf c)).trans state, fun _ _ => ?_, fun d hd => (frame.chanOf d).trans (others d hd)⟩
    exact Node.recorded_of_rd counts (cause ▸ Node.recorded_fault _ r)
  next keep => exact ⟨state, fun was lost => absurd ⟨was, lost⟩ keep, others⟩

/-- Settles O13: an edge of an input runs `tdcEdge_selected` or nothing, a hit and a word clock edge change their channel alone. -/
theorem edgesAreConditionedAndStamped : Obligations.EdgesAreConditionedAndStamped := by
  intro s u hw
  refine ⟨fun i code falling hi => ⟨fun he hs hh conv => ?_, fun he hs hh conv => ?_, fun he hs hh => ?_, fun h => ?_⟩,
    fun c code falling hc => ⟨fun run room idle free => ?_, fun hp => ?_⟩,
    fun c locked hc ready => runsOn_node hw rfl hc (dllChange_spec ready)⟩
  · refine runsOn_edge hw (Node.hasChan_event _ hi) fun refs mons => ?_
    rw [tdcEdge_selected he hs, if_neg (by omega), Node.acceptEdge_unstamped conv]
    simp only [Node.rd_withRefs, Node.evOf_withRefs, Node.rd_edgeCount_countEdge, Node.evOf_countEdge]
    exact ⟨trivial, trivial, rfl, rfl, rfl⟩
  · refine runsOn_edge hw (Node.hasChan_event _ hi) fun refs mons => ?_
    rw [tdcEdge_selected he hs, if_neg (by omega), Node.acceptEdge_stamped conv]
    obtain ⟨objs, tick, last, hold⟩ := ((s.node u).countEdge i).stampEdge_spec i code
    simp only [Node.rd_withRefs, Node.evOf_withRefs, Node.tb1_withRefs, objs, tick, last, hold, Node.rd_edgeCount_countEdge,
      Node.evOf_countEdge, Node.stampOf_countEdge]
    exact ⟨trivial, rfl, trivial, rfl⟩
  · refine runsOn_edge hw (Node.hasChan_event _ hi) fun refs mons => ?_
    rw [tdcEdge_selected he hs, if_pos hh]
    have count := (s.node u).rd_bump_same (Ob.ev_rejectedEdges i) (isEcnt_of_tdcObj (isTdcObj_ev (k := 6) hi (by decide)))
    rw [widthOf_rejectedEdges _ hi] at count
    have edges : ((s.node u).bump (Ob.ev_rejectedEdges i)).rd (Ob.ev_edgeCount i) = (s.node u).rd (Ob.ev_edgeCount i) :=
      Node.rd_bump_ne _ (isEcnt_of_tdcObj (isTdcObj_ev (k := 8) hi (by decide))) (evObj_ne (j := 6) (k := 8) (by decide))
    have frame := (s.node u).bump_frame (Ob.ev_rejectedEdges i)
    exact ⟨count, edges, frame.evins, frame.mslots⟩
  · exact exec_node_idle rfl (hubEdge_idle (tdcEdge_ignored h))
  · refine runsOn_edge hw hc fun refs mons => ?_
    have hit : tdcEdge c code falling true (s.node u) = (s.node u).takeHit c code := rfl
    rw [hit, Node.takeHit_taken run room idle free]
    simp only [Node.chanOf_withRefs, Node.objs_withRefs, Node.modChan_chanOf_same, Node.chanOf_converts_same, Node.modChan_objs,
      Node.objs_converts, tblGet_tblSet_same]
    exact ⟨trivial, trivial, trivial, fun d hd => by rw [Node.modChan_chanOf_ne _ _ hd.symm, Node.chanOf_converts_ne _ _ hd.symm]⟩
  · refine runsOn_edge hw hc fun refs mons => ?_
    rw [tdcEdge_port hp]
    obtain ⟨first, objs, others⟩ := (s.node u).portEdge_spec c code
    exact ⟨first, objs, fun d hd => others d hd.symm⟩

/-! ### Collections -/

/-- A collection that has started at a tick. -/
def TdcChan.startedAt (t : TdcChan) (tick : Nat) : Prop := t.collecting = true ∧ t.started = tick

@[simp] theorem Node.rd_startCollection (n : Node) (c o : Nat) : (n.startCollection c).rd o = n.rd o := rfl

@[simp] theorem Node.chanOf_startCollection_same (n : Node) (c : Nat) : (n.startCollection c).chanOf c =
    { n.chanOf c with collecting := true, started := n.tb1, clean := (n.chanOf c).dll, hits := 0, bins := [] } :=
  n.modChan_chanOf_same ..

theorem Node.chanOf_startCollection_ne (n : Node) {c d : Nat} (h : c ≠ d) : (n.startCollection c).chanOf d = n.chanOf d :=
  n.modChan_chanOf_ne _ h

theorem Node.startCollection_keeps_started {n : Node} {c : Nat} (d : Nat) (h : (n.chanOf c).startedAt n.tb1) :
    ((n.startCollection d).chanOf c).startedAt n.tb1 := by
  by_cases e : d = c
  · subst e
    rw [Node.chanOf_startCollection_same]
    exact ⟨rfl, rfl⟩
  · rwa [Node.chanOf_startCollection_ne _ e]

/-- A collection that starts on every channel of a list has started on each: a later one of the list starts on its own channel (04 R105). -/
theorem Node.startCollections_started (n : Node) {l : List Nat} {c : Nat} (hc : c ∈ l) :
    ((overAll l Node.startCollection n).chanOf c).startedAt n.tb1 := by
  obtain ⟨before, after, rfl⟩ := List.append_of_mem hc
  have tick : (overAll before Node.startCollection n).tb1 = n.tb1 :=
    overAll_keeps (P := fun m => m.tb1 = n.tb1) before Node.startCollection (fun _ _ _ h => h) rfl
  have start : overAll (before ++ c :: after) Node.startCollection n =
      overAll after Node.startCollection ((overAll before Node.startCollection n).startCollection c) := by
    simp only [overAll, List.foldl_append, List.foldl_cons]
  rw [start]
  have keeps := overAll_keeps (P := fun m => m.tb1 = n.tb1 ∧ (m.chanOf c).startedAt n.tb1) after Node.startCollection (fun m d _ h => ?_)
    (n := (overAll before Node.startCollection n).startCollection c) ⟨tick, ?_⟩
  · exact keeps.2
  · obtain ⟨ticks, started⟩ := h
    exact ⟨ticks, ticks ▸ Node.startCollection_keeps_started d (ticks.symm ▸ started)⟩
  · rw [Node.chanOf_startCollection_same]
    exact ⟨rfl, tick⟩

theorem calPeriod_starts {n : Node} {c : Nat} (hc : (n.chanOf c).collecting = false)
    (ht : (n.chanOf c).started + n.rd Ob.tdc_calibrationPeriod ≤ n.tb1) : calPeriod c n = n.startCollection c := by
  simp [calPeriod, hc, ht]

/-- A unit whose collection has given a table: it waits for the next marker (04 R104). -/
def Node.acceptTable (n : Node) (c : Nat) (tab : List Nat) : Node :=
  (n.modChan c (fun t =>
    { t with collecting := false, rejects := 0, newTable := some (leVal ((tab.map (leBytes 2)).flatten)) })).bump Ob.tdc_calibrationsAccepted

/-- A unit that has discarded a collection and started the next (04 R104). -/
def Node.rejectTable (n : Node) (c : Nat) : Node :=
  ((n.modChan c (fun t => { t with rejects := t.rejects + 1 })).bump Ob.tdc_calibrationsRejected).startCollection c

section
variable {n : Node} {c : Nat} {counts : List Nat} (hc : ((n.bulkHits c counts).chanOf c).collecting = true)
  (hh : (n.bulkHits c counts).rd Ob.tdc_calibrationHits ≤ ((n.bulkHits c counts).chanOf c).hits)
include hc hh

/-- A full collection is accepted when its channel stayed locked and its table is near the ideal one (04 R104). -/
theorem collectionEnd_eq : collectionEnd c counts n =
    if ((n.bulkHits c counts).chanOf c).clean = true ∧
        tableOk ((n.bulkHits c counts).rd Ob.tdc_calibrationTolerance) (newEntries (n.bulkHits c counts) c) = true then
      ((n.bulkHits c counts).acceptTable c (newEntries (n.bulkHits c counts) c)).calFlag c 0
    else if ((n.bulkHits c counts).chanOf c).rejects = 2 then
      (((n.bulkHits c counts).rejectTable c).calFlag c 1).fault { cause := 0x26, obj := c, detail := put 79 72 2 }
    else (n.bulkHits c counts).rejectTable c := by
  unfold collectionEnd
  generalize n.bulkHits c counts = q at *
  have third : ((q.chanOf c).rejects + 1 == 3) = decide ((q.chanOf c).rejects = 2) := by
    rw [Bool.eq_iff_iff, beq_iff_eq, decide_eq_true_eq]
    omega
  simp only [hc, hh, decide_true, Bool.and_self, when_true, Bool.and_eq_true, third, decide_eq_true_eq]
  rfl

end

theorem Node.acceptTable_spec (q : Node) {c : Nat} (tab : List Nat) (hc : c < 0x68) :
    let m := (q.acceptTable c tab).calFlag c 0
    (m.chanOf c).newTable = some (leVal ((tab.map (leBytes 2)).flatten)) ∧ (m.chanOf c).collecting = false ∧ (m.chanOf c).rejects = 0 ∧
    m.rd (Ob.chan_calibrationTable c) = q.rd (Ob.chan_calibrationTable c) ∧
    m.rd Ob.tdc_calibrationsAccepted = (q.rd Ob.tdc_calibrationsAccepted + 1) % 2 ^ 64 := by
  have flag := (q.acceptTable c tab).calFlag_frame c 0
  have chan : (q.acceptTable c tab).chanOf c =
      { q.chanOf c with collecting := false, rejects := 0, newTable := some (leVal ((tab.map (leBytes 2)).flatten)) } := by
    rw [Node.acceptTable, (Node.bump_frame _ _).chanOf, Node.modChan_chanOf_same]
  have count := (q.modChan c fun t =>
    { t with collecting := false, rejects := 0, newTable := some (leVal ((tab.map (leBytes 2)).flatten)) }).rd_bump_same
    Ob.tdc_calibrationsAccepted (by decide)
  rw [(widthOf_calibrations _).1] at count
  dsimp only
  rw [flag.chanOf, chan]
  refine ⟨rfl, rfl, rfl, ?_, ?_⟩
  · rw [Node.rd_calFlag _ _ _ (by unfold Ob.ev_flags Ob.chan_calibrationTable; omega)
      (by unfold Ob.tdc_portFlags Ob.chan_calibrationTable; omega), Node.acceptTable,
      Node.rd_bump_ne _ (isEcnt_of_tdcObj (isTdcObj_calibrationTable hc))
        (by unfold Ob.tdc_calibrationsAccepted Ob.chan_calibrationTable; omega), Node.modChan_rd]
  · rw [Node.rd_calFlag _ _ _ (by unfold Ob.ev_flags Ob.tdc_calibrationsAccepted; omega) (by decide)]
    exact count

/-- What a discarded collection leaves on its channel and counts (04 R104). -/
def Node.Rejected (q : Node) (c : Nat) (m : Node) : Prop :=
  (m.chanOf c).rejects = (q.chanOf c).rejects + 1 ∧ (m.chanOf c).collecting = true ∧ (m.chanOf c).started = q.tb1 ∧
  (m.chanOf c).newTable = (q.chanOf c).newTable ∧
  m.rd Ob.tdc_calibrationsRejected = (q.rd Ob.tdc_calibrationsRejected + 1) % 2 ^ 64

theorem Node.rejected_rejectTable (q : Node) (c : Nat) : q.Rejected c (q.rejectTable c) := by
  have frame := (q.modChan c fun t => { t with rejects := t.rejects + 1 }).bump_frame Ob.tdc_calibrationsRejected
  have tick : ((q.modChan c fun t => { t with rejects := t.rejects + 1 }).bump Ob.tdc_calibrationsRejected).tb1 = q.tb1 := by
    have := congrArg Node.tb1 frame
    exact this
  have count := (q.modChan c fun t => { t with rejects := t.rejects + 1 }).rd_bump_same Ob.tdc_calibrationsRejected (by decide)
  rw [(widthOf_calibrations _).2] at count
  unfold Node.Rejected Node.rejectTable
  rw [Node.chanOf_startCollection_same, frame.chanOf, Node.modChan_chanOf_same]
  exact ⟨rfl, rfl, tick, rfl, count⟩

theorem Node.Rejected.told {q m : Node} {c : Nat} (h : q.Rejected c m) (r : FRec) : q.Rejected c ((m.calFlag c 1).fault r) := by
  have frame := (recOnly.of_objs (m.calFlag_frame c 1)).trans (Node.fault_frame _ r)
  unfold Node.Rejected at *
  rwa [frame.chanOf, Node.rd_fault _ _ (by decide),
    Node.rd_calFlag _ _ _ (by unfold Ob.ev_flags Ob.tdc_calibrationsRejected; omega) (by decide)]

theorem Node.rd_causeCounts_rejectTable (q : Node) (c : Nat) :
    ((q.rejectTable c).calFlag c 1).rd Ob.cause_causeCounts = q.rd Ob.cause_causeCounts := by
  rw [Node.rd_calFlag _ _ _ (Ob.ev_flags_ne_causeCounts _) (by decide), Node.rejectTable, Node.rd_startCollection,
    Node.rd_bump_ne _ (by decide) (by decide), Node.modChan_rd]

/-- Settles O14: a full collection ends as `Node.acceptTable` or as `Node.rejectTable`, which the third rejection in a row tells. -/
theorem calibrationByCodeDensity : Obligations.CalibrationByCodeDensity := by
  intro s u hw
  refine ⟨runsOn_obj hw rfl rfl ⟨Node.answered_answer .., fun c hc => ?_⟩,
    fun c hc => ⟨fun idle due => runsOn_node hw rfl hc ?_, fun counts => ?_⟩⟩
  · rw [calibrate, Node.chanOf_answer]
    exact Node.startCollections_started _ hc
  · rw [calPeriod_starts idle due, Node.chanOf_startCollection_same]
    exact ⟨rfl, rfl, rfl, fun d hd => Node.chanOf_startCollection_ne _ hd.symm⟩
  · intro q collecting full
    refine ⟨fun clean ok => runsOn_node hw rfl hc ?_, fun bad => runsOn_node hw rfl hc ?_⟩
    · rw [collectionEnd_eq collecting full, if_pos ⟨clean, ok⟩]
      exact q.acceptTable_spec _ (Node.lt_of_hasChan hc)
    · have discarded : ¬((q.chanOf c).clean = true ∧ tableOk (q.rd Ob.tdc_calibrationTolerance) (newEntries q c) = true) := by
        rintro ⟨clean, ok⟩
        simp [clean, ok] at bad
      have left := q.rejected_rejectTable c
      rw [collectionEnd_eq collecting full, if_neg discarded]
      split
      next third =>
        obtain ⟨row, next, start, table, count⟩ := left.told { cause := 0x26, obj := c, detail := put 79 72 2 }
        exact ⟨row, next, start, table, count, fun _ =>
          Node.recorded_of_rd (q.rd_causeCounts_rejectTable c).symm (Node.recorded_fault _ _)⟩
      next notThird =>
        obtain ⟨row, next, start, table, count⟩ := left
        exact ⟨row, next, start, table, count, fun h => absurd h notThird⟩

/-! ### Slots -/

theorem mslotObj_ne {k i j : Nat} (h : i ≠ j) : 0x382000 + i + k * 256 ≠ 0x382000 + j + k * 256 := by omega

theorem objsOnly.mslotOf {n m : Node} (h : objsOnly n m) (k : Nat) : m.mslotOf k = n.mslotOf k := by
  unfold Node.mslotOf
  rw [h.mslots]

theorem objsOnly.kind {n m : Node} (h : objsOnly n m) : m.kind = n.kind := by have := congrArg Node.kind h; exact this
theorem objsOnly.tb1 {n m : Node} (h : objsOnly n m) : m.tb1 = n.tb1 := by have := congrArg Node.tb1 h; exact this

@[simp] theorem Node.rd_openSlot (n : Node) (k o : Nat) : (n.openSlot k).rd o = n.rd o := rfl

/-- A slot opens at this tick with the sources its objects hold, and without a stop (04 R109, R111). -/
theorem Node.openSlot_spec (n : Node) (k : Nat) :
    ((n.openSlot k).mslotOf k).opened = n.tb1 ∧ ((n.openSlot k).mslotOf k).src0 = n.rd (Ob.mslot_startSource k) ∧
    ((n.openSlot k).mslotOf k).src1 = n.rd (Ob.mslot_stopSource k) ∧ ((n.openSlot k).mslotOf k).stop = none ∧
    ∀ j, j ≠ k → (n.openSlot k).mslotOf j = n.mslotOf j := by
  unfold Node.openSlot
  dsimp only
  rw [Node.modMslot_mslotOf_same]
  refine ⟨?_, ?_, ?_, ?_, fun j hj => Node.modMslot_mslotOf_ne _ _ hj.symm⟩ <;> split <;> rfl

/-- What a slot's status says of its edges: complete, no start or no stop (04 R118). -/
def MSlot.missing (m : MSlot) : Nat := if m.start.isNone then 1 else if m.stop.isNone then 2 else 0

/-- The status that a slot posts, with the coarse flag (04 R118). -/
def MSlot.status (m : MSlot) : Nat :=
  m.missing + 4 * ofB ((m.start.map (·.2.1)).getD false || (m.stop.map (·.2.1)).getD false)

/-- The result that a slot posts; a missing stamp and its interval read 0 (04 R98, R118). -/
def MSlot.result (m : MSlot) : Nat :=
  let a := (m.start.map (·.1)).getD 0
  let b := (m.stop.map (·.1)).getD 0
  putField 0 8 m.opened + stampField 8 a + stampField 18 b + putField 28 4 (if m.missing == 0 then b - a else 0)

theorem MSlot.missing_eq (m : MSlot) : m.missing = if m.start = none then 1 else if m.stop = none then 2 else 0 := by
  simp only [MSlot.missing, Option.isNone_iff_eq_none]

theorem MSlot.status_mod (m : MSlot) : m.status % 4 = m.missing := by
  have small : m.missing < 4 := by
    rw [MSlot.missing_eq]
    split_ifs <;> decide
  unfold MSlot.status
  omega

theorem MSlot.complete {m : MSlot} {a b : Nat} {ca cb : Bool} {na nb : Option Nat} (hs : m.start = some (a, ca, na))
    (hp : m.stop = some (b, cb, nb)) :
    m.missing = 0 ∧ m.status = (if ca || cb then 4 else 0) ∧
    m.result = putField 0 8 m.opened + stampField 8 a + stampField 18 b + putField 28 4 (b - a) := by
  have whole : m.missing = 0 := by simp [MSlot.missing, hs, hp]
  refine ⟨whole, ?_, by simp [MSlot.result, whole, hs, hp]⟩
  simp only [MSlot.status, whole, hs, hp, Option.map_some, Option.getD_some, ofB]
  split <;> rfl

/-- A unit whose slot has posted its result and its status, before a complete one is counted (04 R109, R118). -/
def Node.slotResult (n : Node) (k : Nat) : Node :=
  (n.wr (Ob.mslot_result k) (n.mslotOf k).result).wr (Ob.mslot_status k) (n.mslotOf k).status

theorem Node.postSlot_eq {n : Node} {k : Nat} (h0 : (n.mslotOf k).src0 ≠ 0xFF) (h1 : (n.mslotOf k).src1 ≠ 0xFF) :
    n.postSlot k = if (n.mslotOf k).missing == 0 then (n.slotResult k).bump (Ob.mslot_completed k) else n.slotResult k := by
  simp only [Node.postSlot, Bool.or_eq_true, beq_eq_false_iff_ne.mpr h0, beq_eq_false_iff_ne.mpr h1, Bool.false_eq_true, or_self, if_false,
    Node.slotResult, MSlot.result, MSlot.status, MSlot.missing]
  rfl

theorem Node.objsOnly_slotResult (n : Node) (k : Nat) : objsOnly n (n.slotResult k) := ((objsOnly.refl n).wr _ _).wr _ _

/-- What the objects of a slot read after the post: result and status are its own, the rest is as before (04 R118). -/
theorem Node.rd_slotResult (n : Node) (k : Nat) :
    (n.slotResult k).rd (Ob.mslot_status k) = (n.mslotOf k).status ∧ (n.slotResult k).rd (Ob.mslot_result k) = (n.mslotOf k).result ∧
    ∀ o, Ob.mslot_status k ≠ o → Ob.mslot_result k ≠ o → (n.slotResult k).rd o = n.rd o := by
  have apart : Ob.mslot_status k ≠ Ob.mslot_result k := mslotObj_ne (i := 3) (j := 2) (by decide)
  unfold Node.slotResult
  generalize (n.mslotOf k).status = st
  generalize (n.mslotOf k).result = res
  refine ⟨Node.rd_wr_same .., ?_, fun o hs hr => ?_⟩
  · rw [Node.rd_wr_ne _ _ apart, Node.rd_wr_same]
  · rw [Node.rd_wr_ne _ _ hs, Node.rd_wr_ne _ _ hr]

section
variable {n : Node} {k : Nat} (h0 : (n.mslotOf k).src0 ≠ 0xFF) (h1 : (n.mslotOf k).src1 ≠ 0xFF)
include h0 h1

theorem Node.objsOnly_postSlot : objsOnly n (n.postSlot k) := by
  rw [Node.postSlot_eq h0 h1]
  split
  · exact (n.objsOnly_slotResult k).trans (Node.bump_frame _ _)
  · exact n.objsOnly_slotResult k

/-- Counting what is complete leaves the other objects of the converters (04 R118). -/
theorem Node.rd_postSlot {o : Nat} (ho : isTdcObj o = true) (hne : Ob.mslot_completed k ≠ o) :
    (n.postSlot k).rd o = (n.slotResult k).rd o := by
  rw [Node.postSlot_eq h0 h1]
  split
  · exact Node.rd_bump_ne _ (isEcnt_of_tdcObj ho) hne
  · rfl

theorem Node.rd_completed_postSlot (hk : k < n.slotCount) (hm : (n.mslotOf k).missing = 0) :
    (n.postSlot k).rd (Ob.mslot_completed k) = (n.rd (Ob.mslot_completed k) + 1) % 2 ^ 64 := by
  have tdc : isTdcObj (Ob.mslot_completed k) = true := isTdcObj_mslot (j := 4) (lt_of_lt_of_le hk n.slotCount_le) (by decide)
  have apartS : Ob.mslot_status k ≠ Ob.mslot_completed k := mslotObj_ne (i := 3) (j := 4) (by decide)
  have apartR : Ob.mslot_result k ≠ Ob.mslot_completed k := mslotObj_ne (i := 2) (j := 4) (by decide)
  obtain ⟨-, -, rest⟩ := n.rd_slotResult k
  have count := (n.slotResult k).rd_bump_same (Ob.mslot_completed k) (isEcnt_of_tdcObj tdc)
  rw [(n.objsOnly_slotResult k).kind, rest _ apartS apartR, widthOf_completed hk] at count
  rw [Node.postSlot_eq h0 h1, hm, beq_self_eq_true, if_pos rfl, count]

end

/-- What the objects of a slot read after it has posted (04 R118). -/
theorem Node.postSlot_spec {n : Node} {k : Nat} (hk : k < n.slotCount) (h0 : (n.mslotOf k).src0 ≠ 0xFF) (h1 : (n.mslotOf k).src1 ≠ 0xFF) :
    (n.postSlot k).rd (Ob.mslot_status k) = (n.mslotOf k).status ∧ (n.postSlot k).rd (Ob.mslot_result k) = (n.mslotOf k).result ∧
    (n.postSlot k).rd (Ob.mslot_startSource k) = n.rd (Ob.mslot_startSource k) ∧
    (n.postSlot k).rd (Ob.mslot_stopSource k) = n.rd (Ob.mslot_stopSource k) := by
  have hk16 := lt_of_lt_of_le hk n.slotCount_le
  obtain ⟨status, result, rest⟩ := n.rd_slotResult k
  have reads {j : Nat} (hj : j < 4) : (n.postSlot k).rd (0x382000 + j + k * 256) = (n.slotResult k).rd (0x382000 + j + k * 256) :=
    Node.rd_postSlot h0 h1 (isTdcObj_mslot hk16 (by omega)) (by unfold Ob.mslot_completed; omega)
  have source {j : Nat} (hj : j < 2) : (n.postSlot k).rd (0x382000 + j + k * 256) = n.rd (0x382000 + j + k * 256) :=
    (reads (by omega)).trans (rest _ (by unfold Ob.mslot_status; omega) (by unfold Ob.mslot_result; omega))
  exact ⟨(reads (j := 3) (by decide)).trans status, (reads (j := 2) (by decide)).trans result, source (j := 0) (by decide),
    source (j := 1) (by decide)⟩

theorem slotClose_posts {n : Node} {k : Nat} (hm : n.tb1 % 512 = 0) (ho : (n.mslotOf k).opened + 512 = n.tb1) :
    slotClose k n = (n.postSlot k).openSlot k := by
  simp [slotClose, hm, ho]

/-! ### Regression -/

theorem Node.regrOf_answer (n : Node) (st g : Nat) : (n.answer st).regrOf g = n.regrOf g := by
  have := congrArg (Node.regrOf · g) (n.answerData_frame st 0 0)
  exact this

@[simp] theorem Node.regrOf_wr (n : Node) (o v g : Nat) : (n.wr o v).regrOf g = n.regrOf g := rfl

/-- The fields of a gate's result that the object shows at their bytes (04 R119). -/
theorem bits_regrResult (opened : Nat) (y : Int) (kept r k status : Nat) :
    bits (regrResult opened y kept r k status) 0 64 = opened % 2 ^ 64 ∧ bits (regrResult opened y kept r k status) 128 32 = kept % 2 ^ 32 ∧
    bits (regrResult opened y kept r k status) 224 32 = status % 2 ^ 32 := by
  unfold regrResult bits putField
  generalize ofS 64 y = z
  norm_num
  omega

theorem Node.postGate_eq (n : Node) (g : Nat) (c : ClosedGate) (stopped : Bool) : ∃ y r k,
    n.postGate g c stopped = n.wr (Ob.regr_result g) (regrResult c.opened y c.kept.length r k (c.status stopped)) := by
  unfold Node.postGate
  exact ⟨_, _, _, rfl⟩

/-- The result of a gate is written to its object, and shows where the gate opened, how many stamps it kept and its status
(04 R114, R119). -/
theorem Node.postGate_spec (n : Node) (g : Nat) (c : ClosedGate) (stopped : Bool) :
    (∀ h, (n.postGate g c stopped).regrOf h = n.regrOf h) ∧
    bits ((n.postGate g c stopped).rd (Ob.regr_result g)) 0 64 = c.opened % 2 ^ 64 ∧
    bits ((n.postGate g c stopped).rd (Ob.regr_result g)) 128 32 = c.kept.length % 2 ^ 32 ∧
    bits ((n.postGate g c stopped).rd (Ob.regr_result g)) 224 32 = c.status stopped % 2 ^ 32 := by
  obtain ⟨y, r, k, post⟩ := n.postGate_eq g c stopped
  rw [post, Node.rd_wr_same]
  exact ⟨fun h => Node.regrOf_wr _ _ _ h, bits_regrResult ..⟩

theorem Node.rollGate_rolls {n : Node} {g : Nat} (h2 : (n.regrOf g).mode = 2) (hc : (n.regrOf g).closed = none) (he : n.gateEnd g ≤ n.tb1) :
    n.rollGate g = n.openGate g 2 (n.gateEnd g) (some (n.regrOf g).gate) := by
  simp [Node.rollGate, h2, hc, he]

theorem Node.rollGate_stays {n : Node} {g : Nat} (h : (n.regrOf g).mode ≠ 2 ∨ (n.regrOf g).closed ≠ none ∨ n.tb1 < n.gateEnd g) :
    n.rollGate g = n := by
  have still : ((n.regrOf g).mode == 2 && (n.regrOf g).closed.isNone && decide (n.gateEnd g ≤ n.tb1)) = false := by
    rcases h with mode | waits | early
    · simp [mode]
    · simp [waits]
    · simp [early]
  simp [Node.rollGate, still]

/-- The end of a gate whose result waits posts it (04 R114). -/
theorem regrEnd_waiting {n : Node} {g : Nat} {c : ClosedGate} (h : (n.regrOf g).closed = some c) :
    regrEnd g n = (n.postGate g c false).modRegr g fun r => { r with closed := none } := by
  have still := Node.rollGate_stays (n := n) (g := g) (.inr (.inl (by simp [h])))
  simp [regrEnd, still, h]

/-- A continuous gate at its end opens the next and posts its own result (04 R114). -/
theorem regrEnd_continuous {n : Node} {g : Nat} (h2 : (n.regrOf g).mode = 2) (hc : (n.regrOf g).closed = none) (he : n.gateEnd g ≤ n.tb1) :
    regrEnd g n = ((n.openGate g 2 (n.gateEnd g) (some (n.regrOf g).gate)).postGate g (n.regrOf g).gate false).modRegr g fun r =>
      { r with closed := none } := by
  have waits : ((n.openGate g 2 (n.gateEnd g) (some (n.regrOf g).gate)).regrOf g).closed = some (n.regrOf g).gate :=
    congrArg Regr.closed (Node.modRegr_regrOf_same ..)
  simp [regrEnd, Node.rollGate_rolls h2 hc he, waits]

/-- A gate that has no next one ends the run: a stopped one at its marker, a single one at its end (04 R114). -/
theorem regrEnd_last {n : Node} {g : Nat} (hc : (n.regrOf g).closed = none)
    (h : ((n.regrOf g).mode = 3 ∧ (n.regrOf g).stopAt ≤ n.tb1) ∨ ((n.regrOf g).mode = 1 ∧ n.gateEnd g ≤ n.tb1)) :
    regrEnd g n = (n.postGate g (n.regrOf g).gate (decide ((n.regrOf g).mode = 3))).modRegr g fun r => { r with mode := 0 } := by
  have still : n.rollGate g = n := Node.rollGate_stays (.inl (by omega))
  rcases h with ⟨mode, due⟩ | ⟨mode, due⟩ <;> simp [regrEnd, still, hc, mode, due]

theorem regrStop_idle {n : Node} {g : Nat} (h : (n.regrOf g).mode = 0 ∨ (n.regrOf g).mode = 3) : regrStop g n = n.answer 0 := by
  rcases h with mode | mode <;> simp [regrStop, mode]

theorem regrStop_running {n : Node} {g : Nat} (h : (n.regrOf g).mode = 1 ∨ (n.regrOf g).mode = 2) : regrStop g n =
    ((n.rollGate g).modRegr g fun r => { r with mode := 3, stopAt := nextMul 512 (n.tb1 + 1) }).answer 0 := by
  rcases h with mode | mode <;> simp [regrStop, mode]

/-- A start opens an empty gate at the next marker (04 R112, R114). -/
theorem regrStart_spec (mode g : Nat) (n : Node) :
    (regrStart mode g n).answered 0 ∧ ((regrStart mode g n).regrOf g).mode = mode ∧
    ((regrStart mode g n).regrOf g).opened = nextMul 512 (n.tb1 + 1) ∧ ((regrStart mode g n).regrOf g).input = n.rd (Ob.regr_input g) ∧
    ((regrStart mode g n).regrOf g).kept = [] := by
  unfold regrStart
  rw [Node.regrOf_answer, Node.openGate, Node.modRegr_regrOf_same]
  exact ⟨Node.answered_answer .., rfl, rfl, rfl, rfl⟩

theorem regrStop_spec {n : Node} {g : Nat} (h : (n.regrOf g).mode = 1 ∨ (n.regrOf g).mode = 2) :
    (regrStop g n).answered 0 ∧ ((regrStop g n).regrOf g).mode = 3 ∧ ((regrStop g n).regrOf g).stopAt = nextMul 512 (n.tb1 + 1) ∧
    ((n.regrOf g).mode = 1 ∨ n.tb1 < n.gateEnd g → ((regrStop g n).regrOf g).kept = (n.regrOf g).kept) := by
  rw [regrStop_running h, Node.regrOf_answer, Node.modRegr_regrOf_same]
  refine ⟨Node.answered_answer .., rfl, rfl, fun keeps => ?_⟩
  rw [Node.rollGate_stays (n := n) (g := g) (by omega)]

/-- The gate that ends is posted, and with gates back to back the next is open from there (04 R113, R114). -/
theorem regrEnd_running {n : Node} {g : Nat} (hm : (n.regrOf g).mode = 1 ∨ (n.regrOf g).mode = 2) (hc : (n.regrOf g).closed = none)
    (he : n.gateEnd g ≤ n.tb1) :
    ((regrEnd g n).regrOf g).mode = (if (n.regrOf g).mode = 2 then 2 else 0) ∧
    ((n.regrOf g).mode = 2 → ((regrEnd g n).regrOf g).opened = n.gateEnd g) ∧
    bits ((regrEnd g n).rd (Ob.regr_result g)) 0 64 = (n.regrOf g).opened % 2 ^ 64 ∧
    bits ((regrEnd g n).rd (Ob.regr_result g)) 128 32 = (n.regrOf g).kept.length % 2 ^ 32 := by
  rcases hm with mode | mode
  · obtain ⟨engines, opened, kept, -⟩ := n.postGate_spec g (n.regrOf g).gate (decide ((n.regrOf g).mode = 3))
    rw [regrEnd_last hc (.inr ⟨mode, he⟩), Node.modRegr_regrOf_same, Node.modRegr_rd]
    exact ⟨by rw [mode]; rfl, fun h => by omega, opened, kept⟩
  · obtain ⟨engines, opened, kept, -⟩ :=
      (n.openGate g 2 (n.gateEnd g) (some (n.regrOf g).gate)).postGate_spec g (n.regrOf g).gate false
    rw [regrEnd_continuous mode hc he, Node.modRegr_regrOf_same, Node.modRegr_rd, engines, Node.openGate, Node.modRegr_regrOf_same]
    exact ⟨by rw [if_pos mode], fun _ => rfl, opened, kept⟩

/-- Settles O15: a slot posts by `Node.postSlot_eq` and opens again; a gate's end posts by `Node.postGate` in each mode of its engine. -/
theorem slotsAndGatesPostWholeResults : Obligations.SlotsAndGatesPostWholeResults := by
  intro s u hw
  refine ⟨fun k hk hm ho h0 h1 => runsOn_node hw rfl (decide_eq_true hk) ?_, fun g hg =>
    have ok := decide_eq_true hg
    ⟨runsOn_obj hw rfl ok (regrStart_spec 1 g _), runsOn_obj hw rfl ok (regrStart_spec 2 g _),
      fun run => runsOn_obj hw rfl ok (regrStop_spec run), fun idle => runsOn_obj hw rfl ok ?_,
      fun mode hc due => runsOn_node hw rfl ok ?_, fun c hc => runsOn_node hw rfl ok ?_,
      fun run hc due => runsOn_node hw rfl ok (regrEnd_running run hc due)⟩⟩
  · obtain ⟨opened, src0, src1, stop, others⟩ := ((s.node u).postSlot k).openSlot_spec k
    obtain ⟨status, result, start, stopSource⟩ := Node.postSlot_spec hk h0 h1
    have frame := Node.objsOnly_postSlot h0 h1
    rw [slotClose_posts hm ho]
    simp only [Node.rd_openSlot, status, result]
    refine ⟨?_, fun a b ca cb na nb hs hp => ?_, opened.trans frame.tb1, src0.trans start, src1.trans stopSource, stop,
      fun j hj => (others j hj).trans (frame.mslotOf j)⟩
    · rw [MSlot.status_mod, MSlot.missing_eq]
    · obtain ⟨whole, statusOf, resultOf⟩ := MSlot.complete hs hp
      exact ⟨resultOf, statusOf, Node.rd_completed_postSlot h0 h1 hk whole⟩
  · rw [regrStop_idle idle]
    exact ⟨Node.answered_answer .., Node.regrOf_answer ..⟩
  · obtain ⟨engines, -, -, status⟩ :=
      (s.node u).postGate_spec g ((s.node u).regrOf g).gate (decide (((s.node u).regrOf g).mode = 3))
    rw [regrEnd_last hc (.inl ⟨mode, due⟩), Node.modRegr_regrOf_same, Node.modRegr_rd, status]
    exact ⟨rfl, by simp [ClosedGate.status, mode], fun h hh => (Node.modRegr_regrOf_ne _ _ hh.symm).trans (engines h)⟩
  · obtain ⟨engines, opened, kept, -⟩ := (s.node u).postGate_spec g c false
    rw [regrEnd_waiting hc, Node.modRegr_regrOf_same, Node.modRegr_rd, engines]
    exact ⟨rfl, opened, kept⟩

end Sys2Proof.Machine

/-! Choosing and holding the hall's reference (05): what an operation of the Keystone may write is said once, by `Node.Tends` for the work of
a marker and by `Node.Turns` for a change of the reference state; what the servo, the monitors and the outputs leave is one lemma
per operation. The statements follow from these. -/

namespace Sys2Proof.Machine

/-! ### The objects of a Keystone -/

/-- The objects of the hall's reference, of its inputs and of its time: 0xB000, 0xB001 and 0xB010+i (05 R149, R150). -/
def isKeyObj (o : Nat) : Bool := o / 256 == 0xB000 || o / 256 == 0xB001 || decide (0xB010 ≤ o / 256 ∧ o / 256 < 0xB018)

/-- The objects of the reference inputs, 0xB010+i.k (05 R150). -/
def isRinObj (o : Nat) : Bool := decide (0xB010 ≤ o / 256 ∧ o / 256 < 0xB018)

theorem isRinObj_rin {i k : Nat} (hi : i < 8) (hk : k < 256) : isRinObj (0xB01000 + k + i * 256) = true := by
  simp only [isRinObj, decide_eq_true_eq]
  omega

theorem isKeyObj_of_rinObj {o : Nat} (h : isRinObj o = true) : isKeyObj o = true := by
  unfold isKeyObj
  rw [Bool.or_eq_true]
  exact .inr h

theorem isRecObj_of_keyObj {o : Nat} (h : isKeyObj o = true) : isRecObj o = false := by
  simp only [isKeyObj, Bool.or_eq_true, beq_iff_eq, decide_eq_true_eq] at h
  simp only [isRecObj, isEcnt, Bool.or_eq_false_iff, beq_eq_false_iff_ne, decide_eq_false_iff_not]
  omega

theorem isEcnt_of_rinObj {o : Nat} (h : isRinObj o = true) : isEcnt o = false :=
  isEcnt_of_not_rec (isRecObj_of_keyObj (isKeyObj_of_rinObj h))

theorem rinObj_ne {i j k l : Nat} (hk : k < 256) (hl : l < 256) (h : i ≠ j ∨ k ≠ l) : 0xB01000 + k + i * 256 ≠ 0xB01000 + l + j * 256 := by
  omega

theorem entryRef_lt (e : Nat) : entryRef e < 8 := Nat.mod_lt _ (by decide)

/-! ### What leaves the Keystone -/

theorem recOnly.kst {n m : Node} (h : recOnly n m) : m.kst = n.kst := by have := congrArg Node.kst h; exact this
theorem recOnly.refs {n m : Node} (h : recOnly n m) : m.refs = n.refs := by have := congrArg Node.refs h; exact this
theorem recOnly.tb1 {n m : Node} (h : recOnly n m) : m.tb1 = n.tb1 := by have := congrArg Node.tb1 h; exact this
theorem Node.refOf_of_refs {n m : Node} (h : m.refs = n.refs) (i : Nat) : m.refOf i = n.refOf i := by
  unfold Node.refOf
  rw [h]

@[simp] theorem Node.refOf_modKst (n : Node) (f : Keystone → Keystone) (i : Nat) : (n.modKst f).refOf i = n.refOf i := rfl

theorem objsOnly.refs {n m : Node} (h : objsOnly n m) : m.refs = n.refs := (recOnly.of_objs h).refs
theorem Node.kst_answer (n : Node) (st : Nat) : (n.answer st).kst = n.kst := by
  have := congrArg Node.kst (n.answerData_frame st 0 0)
  exact this

/-! ### Signed values -/

/-- A signed value that 64 bits hold reads as it was written. -/
theorem toS_ofS {x : Int} (h : x.natAbs < 2 ^ 63) : toS 64 (ofS 64 x) = x := by
  unfold toS ofS
  norm_num at h ⊢
  omega

/-! ### Selection -/

section
variable {n : Node} {a : Nat}

theorem Node.select_forced (h8 : n.rd Ob.ref_forcedEntry < 8) (hq : n.entryQual (n.rd Ob.ref_forcedEntry) = true) :
    n.select a = some (n.rd Ob.ref_forcedEntry) := by
  simp [Node.select, h8, hq]

variable (hf : 8 ≤ n.rd Ob.ref_forcedEntry ∨ n.entryQual (n.rd Ob.ref_forcedEntry) = false)
include hf

theorem Node.forced_idle : (decide (n.rd Ob.ref_forcedEntry < 8) && n.entryQual (n.rd Ob.ref_forcedEntry)) = false := by
  rcases hf with h | h
  · rw [decide_eq_false (by omega), Bool.false_and]
  · rw [h, Bool.and_false]

theorem Node.select_unqualified (ha : 8 ≤ a ∨ n.entryQual a = false) : n.select a = n.candidate := by
  have gone : (decide (8 ≤ a) || !n.entryQual a) = true := by simpa using ha
  simp only [Node.select, Node.forced_idle hf, gone, Bool.false_eq_true, if_false, if_true]

theorem Node.select_qualified {c : Nat} (ha : a < 8) (hq : n.entryQual a = true) (hc : n.candidate = some c) :
    n.select a = some (if n.rd Ob.ref_revertive = 1 then c
      else if n.rd Ob.ref_selectionMode = 0 ∧ n.entryRank c < n.entryRank a then c else a) := by
  have stands : (decide (8 ≤ a) || !n.entryQual a) = false := by simp [hq, ha]
  simp only [Node.select, Node.forced_idle hf, stands, hc, Bool.false_eq_true, if_false, Bool.and_eq_true, beq_iff_eq, decide_eq_true_eq]
  split_ifs <;> rfl

end

/-! ### The reference state -/

/-- The objects that a change of the reference state writes (05 R136, R137). -/
def turnObjs : List Nat := [Ob.ref_referenceState, Ob.ref_leftLocked, Ob.ref_holdoverWord]

/-- A Keystone after changes of its reference state: of its own registers they move the history's validity, the note that it has left LOCKED
and the counts of the lock windows (05 R136, R137). -/
structure Node.Turns (n m : Node) : Prop where
  frame : { m with objs := n.objs, kst := n.kst } = n
  kst : { m.kst with histValid := n.kst.histValid, left := n.kst.left, lockRun := n.kst.lockRun, unlockRun := n.kst.unlockRun } = n.kst
  rd : ∀ o, o ∉ turnObjs → m.rd o = n.rd o

namespace Node.Turns
variable {n m k : Node}

theorem trans (h : n.Turns m) (g : m.Turns k) : n.Turns k where
  frame := by rw [← h.frame, ← g.frame]
  kst := by rw [← h.kst, ← g.kst]
  rd o ho := (g.rd o ho).trans (h.rd o ho)

theorem wr (n : Node) {o : Nat} (v : Nat) (ho : o ∈ turnObjs) : n.Turns (n.wr o v) :=
  ⟨rfl, rfl, fun _ h => n.rd_wr_ne v (by rintro rfl; exact h ho)⟩

theorem ite {c : Prop} {_ : Decidable c} {a b : Node} (ha : n.Turns a) (hb : n.Turns b) : n.Turns (if c then a else b) := by
  split
  · exact ha
  · exact hb

theorem servoI (h : n.Turns m) : m.kst.servoI = n.kst.servoI := by have := congrArg Keystone.servoI h.kst; exact this
theorem lastErr (h : n.Turns m) : m.kst.lastErr = n.kst.lastErr := by have := congrArg Keystone.lastErr h.kst; exact this
theorem updAt (h : n.Turns m) : m.kst.updAt = n.kst.updAt := by have := congrArg Keystone.updAt h.kst; exact this
theorem tableAt (h : n.Turns m) : m.kst.tableAt = n.kst.tableAt := by have := congrArg Keystone.tableAt h.kst; exact this
theorem refs (h : n.Turns m) : m.refs = n.refs := by have := congrArg Node.refs h.frame; exact this
theorem tb1 (h : n.Turns m) : m.tb1 = n.tb1 := by have := congrArg Node.tb1 h.frame; exact this

end Node.Turns

theorem Node.exitLocked_turns (n : Node) : n.Turns n.exitLocked := by
  have left : n.Turns ((n.wr Ob.ref_leftLocked n.tb1).modKst fun k => { k with histValid := decide (60 ≤ n.histWindow.length), left := true }) :=
    (Node.Turns.wr n n.tb1 (o := Ob.ref_leftLocked) (by decide)).trans ⟨rfl, rfl, fun _ _ => rfl⟩
  unfold Node.exitLocked
  dsimp only
  split
  · exact left
  · exact left.trans (.wr _ _ (by decide))

theorem Node.rd_leftLocked_exitLocked (n : Node) : n.exitLocked.rd Ob.ref_leftLocked = n.tb1 := by
  unfold Node.exitLocked
  dsimp only
  split
  · exact n.rd_wr_same ..
  · rw [Node.rd_wrS_ne _ _ _ (by decide)]
    exact n.rd_wr_same ..

theorem Node.histValid_exitLocked (n : Node) : n.exitLocked.kst.histValid = decide (60 ≤ n.histWindow.length) := by
  unfold Node.exitLocked
  dsimp only
  split <;> rfl

theorem Node.setRef_turns (n : Node) (st : Nat) : n.Turns (n.setRef st) := by
  have enter (m : Node) : m.Turns ((m.wr Ob.ref_referenceState st).modKst fun k => { k with lockRun := 0, unlockRun := 0 }) :=
    (Node.Turns.wr m st (o := Ob.ref_referenceState) (by decide)).trans ⟨rfl, rfl, fun _ _ => rfl⟩
  unfold Node.setRef
  dsimp only
  split
  · exact n.exitLocked_turns.trans (enter _)
  · exact enter n

@[simp] theorem Node.rd_referenceState_setRef (n : Node) (st : Nat) : (n.setRef st).rd Ob.ref_referenceState = st := by
  rw [Node.setRef, Node.modKst_rd, Node.rd_wr_same]

/-- Only LOCKED is left with its tick (05 R136). -/
theorem Node.rd_leftLocked_setRef (n : Node) {st : Nat} (h : st ≠ 2) :
    (n.setRef st).rd Ob.ref_leftLocked = if n.rd Ob.ref_referenceState = 2 then n.tb1 else n.rd Ob.ref_leftLocked := by
  unfold Node.setRef
  rw [Node.modKst_rd, Node.rd_wr_ne _ _ (by decide)]
  simp only [Bool.and_eq_true, beq_iff_eq, bne_iff_ne, h, ne_eq, not_false_eq_true, and_true]
  split
  · exact n.rd_leftLocked_exitLocked
  · rfl

/-- A Keystone after an operation of its marker: beside its objects, log, inputs, link ends and own registers it is as before, a table that
waits goes on waiting, and so does every object that neither a record nor `w` names. -/
structure Node.Tends (w : Nat → Bool) (n m : Node) : Prop where
  frame : { m with
    objs := n.objs, log := n.log, lineLow := n.lineLow, refs := n.refs, monitors := n.monitors, links := n.links, kst := n.kst } = n
  tableAt : m.kst.tableAt = n.kst.tableAt
  rd : ∀ o, isRecObj o = false → w o = false → m.rd o = n.rd o

namespace Node.Tends
variable {w w' : Nat → Bool} {n m k : Node}

theorem tb1 (h : n.Tends w m) : m.tb1 = n.tb1 := by have := congrArg Node.tb1 h.frame; exact this
theorem kind (h : n.Tends w m) : m.kind = n.kind := by have := congrArg Node.kind h.frame; exact this
theorem level (h : n.Tends w m) : m.level = n.level := by have := congrArg Node.level h.frame; exact this

protected theorem refl (w : Nat → Bool) (n : Node) : n.Tends w n := ⟨rfl, rfl, fun _ _ _ => rfl⟩

theorem trans (h : n.Tends w m) (g : m.Tends w k) : n.Tends w k where
  frame := by rw [← h.frame, ← g.frame]
  tableAt := g.tableAt.trans h.tableAt
  rd o hr ho := (g.rd o hr ho).trans (h.rd o hr ho)

theorem mono (h : n.Tends w m) (hw : ∀ o, w o = true → w' o = true) : n.Tends w' m :=
  ⟨h.frame, h.tableAt, fun o hr ho => h.rd o hr (by by_contra hc; simp_all)⟩

theorem wr (n : Node) {o : Nat} (v : Nat) (ho : w o = true) : n.Tends w (n.wr o v) :=
  ⟨rfl, rfl, fun _ _ h => n.rd_wr_ne v (by rintro rfl; simp_all)⟩

theorem modRef (n : Node) (i : Nat) (f : KRef → KRef) : n.Tends w (n.modRef i f) := ⟨rfl, rfl, fun _ _ _ => rfl⟩

theorem modMon (n : Node) (i : Nat) (f : Regr → Regr) : n.Tends w (n.modMon i f) := ⟨rfl, rfl, fun _ _ _ => rfl⟩

theorem modKst (n : Node) {f : Keystone → Keystone} (h : (f n.kst).tableAt = n.kst.tableAt) : n.Tends w (n.modKst f) :=
  ⟨rfl, h, fun _ _ _ => rfl⟩

theorem fault (n : Node) (r : FRec) : n.Tends w (n.fault r) := by
  refine ⟨?_, congrArg Keystone.tableAt (n.fault_frame r).kst, fun o hr _ => n.rd_fault r hr⟩
  have := congrArg (fun x : Node => { x with refs := n.refs, monitors := n.monitors, links := n.links, kst := n.kst }) (n.fault_frame r)
  exact this

theorem of_turns (h : n.Turns m) : n.Tends turnObjs.contains m := by
  refine ⟨?_, h.tableAt, fun o _ ho => h.rd o (by simpa using ho)⟩
  have := congrArg (fun x : Node =>
    { x with log := n.log, lineLow := n.lineLow, refs := n.refs, monitors := n.monitors, links := n.links }) h.frame
  exact this

theorem ite {c : Prop} {_ : Decidable c} {a b : Node} (ha : n.Tends w a) (hb : n.Tends w b) : n.Tends w (if c then a else b) := by
  split
  · exact ha
  · exact hb

end Node.Tends

theorem Node.setRef_tends (n : Node) (st : Nat) : n.Tends turnObjs.contains (n.setRef st) := .of_turns (n.setRef_turns st)

theorem Node.enterHoldover_tends (n : Node) : n.Tends turnObjs.contains n.enterHoldover := (n.setRef_tends 3).trans (.fault _ _)

theorem Node.enterLost_tends (n : Node) : n.Tends turnObjs.contains n.enterLost := (n.setRef_tends 4).trans (.fault _ _)

theorem Node.rd_enterHoldover (n : Node) {o : Nat} (h : isRecObj o = false) : n.enterHoldover.rd o = (n.setRef 3).rd o := Node.rd_fault _ _ h

theorem Node.rd_enterLost (n : Node) {o : Nat} (h : isRecObj o = false) : n.enterLost.rd o = (n.setRef 4).rd o := Node.rd_fault _ _ h

theorem Node.rd_buildOut (n : Node) (j : Nat) (ec : Int) {o : Nat} (ho : isRinObj o = false) :
    (n.buildOut j ec).rd o = (n.wr Ob.ref_activeEntry j).rd o := by
  have apart : Ob.rin_expectedEdge (entryRef (n.prioEntry j)) ≠ o := by
    rintro rfl
    rw [isRinObj_rin (k := 0x0B) (entryRef_lt _) (by decide)] at ho
    contradiction
  unfold Node.buildOut
  dsimp only
  rw [Node.modKst_rd, Node.modRef_rd, Node.rd_wr_ne _ _ apart]

/-- An entry that is selected outside LOCKED leads to ACQUIRING or leaves it (05 R137, R139). -/
theorem Node.transition_selected {n : Node} (j : Nat) (h : n.rd Ob.ref_referenceState ≠ 2) :
    (n.transition (some j)).rd Ob.ref_referenceState = 1 ∧ (n.transition (some j)).rd Ob.ref_activeEntry = j := by
  by_cases acq : n.rd Ob.ref_referenceState = 1
  · by_cases same : j = n.rd Ob.ref_activeEntry
    · have run : n.transition (some j) = n := by simp [Node.transition, acq, same]
      rw [run]
      exact ⟨acq, same.symm⟩
    · obtain ⟨ec, run⟩ : ∃ ec, n.transition (some j) = (n.buildOut j ec).switchRecord (n.rd Ob.ref_activeEntry) j ec := by
        refine ⟨if n.rd Ob.ref_activeEntry < 8 then n.kst.lastErr else 0, ?_⟩
        simp [Node.transition, acq, same]
      have keeps {o : Nat} (hr : isRecObj o = false) (ho : isRinObj o = false) :
          (n.transition (some j)).rd o = (n.wr Ob.ref_activeEntry j).rd o := by
        rw [run, Node.switchRecord, Node.rd_fault _ _ hr, Node.rd_buildOut _ _ _ ho]
      rw [keeps (by decide) (by decide), keeps (by decide) (by decide), Node.rd_wr_ne _ _ (by decide), Node.rd_wr_same]
      exact ⟨acq, rfl⟩
  · have run : n.transition (some j) = (n.buildOut j 0).setRef 1 := by simp [Node.transition, acq, h]
    rw [run, Node.rd_referenceState_setRef, (Node.setRef_turns _ 1).rd _ (by decide), Node.rd_buildOut _ _ _ (by decide), Node.rd_wr_same]
    exact ⟨rfl, rfl⟩

theorem Node.noEntry_tends (n : Node) : (n.wr Ob.ref_activeEntry 0xFF).Tends turnObjs.contains n.noEntry := by
  unfold Node.noEntry
  dsimp only
  split_ifs
  · exact Node.enterLost_tends _
  · exact Node.enterHoldover_tends _
  · exact Node.setRef_tends _ 0
  · exact (Node.Tends.of_turns (Node.exitLocked_turns _)).trans (Node.enterHoldover_tends _)
  · exact (Node.Tends.of_turns (Node.exitLocked_turns _)).trans (Node.setRef_tends _ 0)
  · exact .refl _ _

/-- ACQUIRING without an entry is left by the history and the budget (05 R137). -/
theorem Node.noEntry_acquiring {n : Node} (h : n.rd Ob.ref_referenceState = 1) :
    n.noEntry.rd Ob.ref_referenceState = if n.kst.histValid then (if n.overBudget then 4 else 3) else 0 := by
  simp only [Node.noEntry, h, beq_self_eq_true, if_true]
  split_ifs
  · rw [Node.rd_enterLost _ (by decide), Node.rd_referenceState_setRef]
  · rw [Node.rd_enterHoldover _ (by decide), Node.rd_referenceState_setRef]
  · exact Node.rd_referenceState_setRef _ 0

/-- The records that count for the history are those of before (05 R136). -/
theorem Node.histWindow_wr (n : Node) {o : Nat} (v : Nat) (h : o ≠ Ob.ref_holdoverHistory) : (n.wr o v).histWindow = n.histWindow := by
  unfold Node.histWindow
  rw [Node.rd_wr_ne _ _ h]
  rfl

theorem Node.noEntry_locked {n : Node} (h : n.rd Ob.ref_referenceState = 2) :
    n.noEntry = if 60 ≤ n.histWindow.length then (n.wr Ob.ref_activeEntry 0xFF).exitLocked.enterHoldover
      else (n.wr Ob.ref_activeEntry 0xFF).exitLocked.setRef 0 := by
  simp [Node.noEntry, h, Node.histValid_exitLocked, Node.histWindow_wr]

/-- What a Keystone that leaves LOCKED without an entry shows (05 R136, R137). -/
theorem Node.noEntry_unlocks {n : Node} (h : n.rd Ob.ref_referenceState = 2) :
    (n.histWindow.length < 60 → n.noEntry.rd Ob.ref_referenceState = 0) ∧
    (60 ≤ n.histWindow.length → n.noEntry.rd Ob.ref_referenceState = 3 ∧ n.noEntry.rd Ob.ref_leftLocked = n.tb1) := by
  rw [Node.noEntry_locked h]
  refine ⟨fun few => ?_, fun valid => ?_⟩
  · rw [if_neg (by omega), Node.rd_referenceState_setRef]
  · rw [if_pos valid, Node.rd_enterHoldover _ (by decide), Node.rd_enterHoldover _ (by decide), Node.rd_referenceState_setRef,
      Node.rd_leftLocked_setRef _ (by decide), Node.rd_leftLocked_exitLocked, (Node.exitLocked_turns _).tb1]
    exact ⟨rfl, ite_self _⟩

/-! ### The Keystone's marker -/

theorem Node.Tends.overAll {α : Type} {w : Nat → Bool} (l : List α) (f : Node → α → Node)
    (hf : ∀ (m : Node) (x : α), x ∈ l → m.Tends w (f m x)) (n : Node) : n.Tends w (overAll l f n) :=
  overAll_keeps (P := n.Tends w) l f (fun m x hx h => h.trans (hf m x hx)) (.refl w n)

theorem Node.Tends.overRefs {w : Nat → Bool} {f : Node → Nat → Node} (hf : ∀ (m : Node) (i : Nat), i < 8 → m.Tends w (f m i)) (n : Node) :
    n.Tends w (Machine.overAll (upTo 8) f n) :=
  .overAll _ _ (fun m _ hi => hf m _ (List.mem_range.mp hi)) n

section
variable (n : Node) {i : Nat} (hi : i < 8)
include hi

theorem Node.refBit_tends (b : Nat) (v : Bool) : n.Tends isRinObj (n.refBit i b v) := .wr _ _ (isRinObj_rin (k := 0) hi (by decide))

omit hi in
theorem Node.rollMonitor_tends : n.Tends isRinObj (n.rollMonitor i) := .ite (.modMon ..) (.refl ..)

theorem monitorGateEnd_tends : n.Tends isRinObj (monitorGateEnd i n) := by
  refine (n.rollMonitor_tends (i := i)).trans ?_
  unfold monitorGateEnd
  dsimp only
  split
  · exact .refl ..
  · refine (Node.Tends.modMon _ i _).trans (.trans (.ite ?_ (.refl ..)) (Node.refBit_tends _ hi 1 _))
    exact .wr _ _ (isRinObj_rin (k := 8) hi (by decide))

theorem Node.requalify_tends : n.Tends isRinObj (n.requalify i) := by
  unfold Node.requalify
  dsimp only
  refine .ite ?_ (.ite (.trans ?_ (.fault ..)) (.refl ..))
  · exact ((Node.Tends.modRef ..).trans (Node.refBit_tends _ hi 3 _)).trans (Node.refBit_tends _ hi 4 _)
  · exact ((Node.Tends.modRef ..).trans (Node.refBit_tends _ hi 3 _)).trans (Node.refBit_tends _ hi 4 _)

theorem Node.waitEnd_tends : n.Tends isRinObj (n.waitEnd i) :=
  .ite ((Node.Tends.modRef ..).trans (Node.refBit_tends _ hi 4 _)) (.refl ..)

theorem Node.refMarker_tends : n.Tends isRinObj (n.refMarker i) :=
  ((((n.refBit_tends hi 0 _).trans (monitorGateEnd_tends _ hi)).trans (.wr _ _ (isRinObj_rin (k := 5) hi (by decide)))).trans
    (Node.refBit_tends _ hi 2 _)).trans (Node.requalify_tends _ hi)

theorem Node.refStatus_tends : n.Tends isRinObj (n.refStatus i) :=
  ((n.refBit_tends hi 5 _).trans (Node.refBit_tends _ hi 6 _)).trans (.wr _ _ (isRinObj_rin (k := 0x0A) hi (by decide)))

end

/-- A Keystone at its marker that has judged its inputs and ended their waits (05 R131, steps 1 and 2). -/
def Node.judgeInputs (ranks : List Nat) (n : Node) : Node :=
  overAll (upTo 8) Node.waitEnd (overAll (upTo 8) Node.refMarker
    (overAll (upTo 8) (fun n i => n.modRef i (fun r => { r with twinRank := ranks.getD i 15 })) n))

/-- A Keystone at its marker that has selected and taken the state that follows (05 R131, steps 4 and 5). -/
def Node.selectEntry (n : Node) : Node :=
  let m := if n.isRoot then (n.transition (n.select (n.rd Ob.ref_activeEntry))).modKst (fun k => { k with ownSel := 0xFF }) else n.ownSelect
  if m.isRoot && m.kst.left && m.rd Ob.ref_referenceState != 2 then m.wr Ob.ref_predictedError m.predictedNs else m

/-- A Keystone at the end of its marker, when it has posted its status and told its twin (05 R131, R145). -/
def Node.tellMarker (track : Nat) (n : Node) : Node :=
  let m := (overAll (upTo 8) Node.refStatus n).postFlags
  let m := if m.isFollower then (m.wr Ob.ref_follower 1).wr Ob.ref_trackedWord track else m
  if m.isRoot && m.tb1 / 512 % 1024 == 0 then m.sendTwin m.twinKeystone else m

theorem keystoneMarker_marker {n : Node} (ranks : List Nat) (track : Nat) (h : n.tb1 % 512 = 0) :
    keystoneMarker ranks track n = ((n.judgeInputs ranks).tableStep.selectEntry).tellMarker track := by
  unfold keystoneMarker Node.tellMarker Node.selectEntry Node.judgeInputs
  rw [h, beq_self_eq_true, when_true]

theorem Node.judgeInputs_tends (ranks : List Nat) (n : Node) : n.Tends isRinObj (n.judgeInputs ranks) :=
  ((Node.Tends.overRefs (fun _ _ _ => .modRef ..) n).trans (.overRefs (fun m _ hi => m.refMarker_tends hi) _)).trans
    (.overRefs (fun m _ hi => m.waitEnd_tends hi) _)

/-- What a marker leaves of TB1 and of a table: one that waits goes on waiting, and the one in force stays. -/
structure Node.HoldsTable (n m : Node) : Prop where
  tb1 : m.tb1 = n.tb1
  waits : m.kst.tableAt = n.kst.tableAt
  table : m.rd Ob.prio_priorityTable = n.rd Ob.prio_priorityTable

theorem Node.HoldsTable.trans {n m k : Node} (h : n.HoldsTable m) (g : m.HoldsTable k) : n.HoldsTable k :=
  ⟨g.tb1.trans h.tb1, g.waits.trans h.waits, g.table.trans h.table⟩

theorem Node.Tends.holdsTable {w : Nat → Bool} {n m : Node} (h : n.Tends w m) (hw : w Ob.prio_priorityTable = false) : n.HoldsTable m :=
  ⟨h.tb1, h.tableAt, h.rd _ (by decide) hw⟩

theorem Node.tableStep_due {n : Node} {t v : Nat} (h : n.kst.tableAt = some (t, v)) (ht : t ≤ n.tb1) :
    n.tableStep = (n.wr Ob.prio_priorityTable v).modKst fun k => { k with tableAt := none } := by
  simp [Node.tableStep, h, ht]

/-! What the selection writes. -/

theorem isKeyObj_of_turnObj {o : Nat} (h : turnObjs.contains o = true) : isKeyObj o = true := by
  have all : ∀ o ∈ turnObjs, isKeyObj o = true := by decide
  exact all o (by simpa using h)

theorem Node.buildOut_tends (n : Node) (j : Nat) (ec : Int) : n.Tends isKeyObj (n.buildOut j ec) := by
  unfold Node.buildOut
  refine .trans (.trans (.trans ?_ (.wr _ _ ?_)) (.modRef ..)) (.modKst _ rfl)
  · exact .wr n _ (by decide)
  · exact isKeyObj_of_rinObj (isRinObj_rin (k := 0x0B) (entryRef_lt _) (by decide))

theorem Node.setRef_writesKey (n : Node) (st : Nat) : n.Tends isKeyObj (n.setRef st) := (n.setRef_tends st).mono fun _ => isKeyObj_of_turnObj

theorem Node.transition_tends (n : Node) (sel : Option Nat) : n.Tends isKeyObj (n.transition sel) := by
  unfold Node.transition
  dsimp only
  split
  · exact (Node.Tends.wr n _ (o := Ob.ref_activeEntry) (by decide)).trans (n.noEntry_tends.mono fun _ => isKeyObj_of_turnObj)
  · refine .ite (.ite (.refl ..) ?_) ((n.buildOut_tends _ 0).trans (Node.setRef_writesKey _ 1))
    exact ((Node.Tends.ite (n.setRef_writesKey 1) (.refl ..)).trans (Node.buildOut_tends ..)).trans (.fault ..)

theorem Node.selectEntry_tends (n : Node) : n.Tends isKeyObj n.selectEntry := by
  have selected : n.Tends isKeyObj (if n.isRoot then
      (n.transition (n.select (n.rd Ob.ref_activeEntry))).modKst (fun k => { k with ownSel := 0xFF }) else n.ownSelect) :=
    .ite ((n.transition_tends _).trans (.modKst _ rfl)) (.modKst _ rfl)
  unfold Node.selectEntry
  exact selected.trans (.ite (.wr _ _ (by decide)) (.refl ..))

/-! What the end of a marker writes. -/

theorem Node.enqueue_frame (n : Node) (p : Nat) (q : QMsg) : { n.enqueue p q with objs := n.objs, links := n.links } = n := by
  unfold Node.enqueue
  dsimp only
  split_ifs
  · have := congrArg (fun x : Node => { x with links := n.links }) (n.bump_frame (Ob.link_spanMessagesDropped p))
    exact this
  · have := congrArg (fun x : Node => { x with links := n.links }) (n.bump_frame (Ob.link_spanMessagesDropped p))
    exact this
  all_goals rfl

theorem Node.sendTwin_holdsTable (n : Node) (m : Msg) : n.HoldsTable (n.sendTwin m) := by
  have send (n : Node) (p : Nat) : n.HoldsTable (n.send p m) := by
    have frame := n.enqueue_frame p { msg := m, ready := n.tb1 }
    have tb1 := congrArg Node.tb1 frame
    have waits := congrArg (·.kst.tableAt) frame
    exact ⟨tb1, waits, (n.discards_send p m).rd _ (by decide)⟩
  exact (send n 66).trans (send _ 67)

theorem Node.postFlags_tends (n : Node) : n.Tends isKeyObj n.postFlags := .ite (.wr _ _ (by decide)) (.refl ..)

theorem Node.tellMarker_holdsTable (track : Nat) (n : Node) : n.HoldsTable (n.tellMarker track) := by
  have status : n.Tends isKeyObj (overAll (upTo 8) Node.refStatus n) :=
    (Node.Tends.overRefs (fun m _ hi => m.refStatus_tends hi) n).mono fun _ => isKeyObj_of_rinObj
  have told : ∀ m, n.Tends isKeyObj m → n.HoldsTable (if m.isRoot && m.tb1 / 512 % 1024 == 0 then m.sendTwin m.twinKeystone else m) := by
    intro m h
    split
    · exact (h.holdsTable (by decide)).trans (m.sendTwin_holdsTable _)
    · exact h.holdsTable (by decide)
  unfold Node.tellMarker
  refine told _ ((status.trans (Node.postFlags_tends _)).trans (.ite ?_ (.refl ..)))
  exact (Node.Tends.wr _ _ (o := Ob.ref_follower) (by decide)).trans (.wr _ _ (by decide))

/-! The marker of a follower. -/

theorem Node.isFollower_congr {n m : Node} (kind : m.kind = n.kind) (level : m.level = n.level)
    (source : m.rd Ob.time_source = n.rd Ob.time_source) : m.isFollower = n.isFollower := by
  simp only [Node.isFollower, Node.isKeystone, Node.isHub, kind, level, source]

theorem Node.isFollower_wr (n : Node) {o : Nat} (v : Nat) (h : o ≠ Ob.time_source) : (n.wr o v).isFollower = n.isFollower :=
  Node.isFollower_congr (n.wr_kind o v) (n.wr_level o v) (n.rd_wr_ne v h)

/-- A follower does not steer (05 R145). -/
theorem Node.isRoot_of_isFollower {n : Node} (h : n.isFollower = true) : n.isRoot = false := by
  simp only [Node.isFollower, Bool.and_eq_true, Bool.or_eq_true, beq_iff_eq] at h
  obtain ⟨-, source | source⟩ := h <;> simp [Node.isRoot, source]

/-- A follower that has left the root's state and entry as they are (05 R145). -/
structure Node.Follows (n m : Node) : Prop where
  isFollower : m.isFollower = n.isFollower
  state : m.rd Ob.ref_referenceState = n.rd Ob.ref_referenceState
  entry : m.rd Ob.ref_activeEntry = n.rd Ob.ref_activeEntry

theorem Node.Follows.trans {n m k : Node} (h : n.Follows m) (g : m.Follows k) : n.Follows k :=
  ⟨g.isFollower.trans h.isFollower, g.state.trans h.state, g.entry.trans h.entry⟩

theorem Node.Tends.follows {n m : Node} (h : n.Tends isRinObj m) : n.Follows m :=
  ⟨Node.isFollower_congr h.kind h.level (h.rd _ (by decide) (by decide)), h.rd _ (by decide) (by decide), h.rd _ (by decide) (by decide)⟩

theorem Node.tableStep_follows (n : Node) : n.Follows n.tableStep := by
  have written (v : Nat) (f : Keystone → Keystone) : n.Follows ((n.wr Ob.prio_priorityTable v).modKst f) :=
    ⟨n.isFollower_wr v (by decide), n.rd_wr_ne v (by decide), n.rd_wr_ne v (by decide)⟩
  unfold Node.tableStep
  split
  · split
    · exact written _ _
    · exact ⟨rfl, rfl, rfl⟩
  · exact ⟨rfl, rfl, rfl⟩

theorem Node.ownSelect_follows (n : Node) : n.Follows n.ownSelect := ⟨rfl, rfl, rfl⟩

theorem Node.selectEntry_follower {n : Node} (h : n.isFollower = true) : n.selectEntry = n.ownSelect := by
  have own : n.ownSelect.isRoot = false := Node.isRoot_of_isFollower (n := n.ownSelect) h
  simp [Node.selectEntry, Node.isRoot_of_isFollower h, own]

theorem Node.tellMarker_follower {n : Node} (track : Nat) (h : n.isFollower = true) :
    n.tellMarker track = ((overAll (upTo 8) Node.refStatus n).wr Ob.ref_follower 1).wr Ob.ref_trackedWord track := by
  have status : n.Follows (overAll (upTo 8) Node.refStatus n) := (Node.Tends.overRefs (fun m _ hi => m.refStatus_tends hi) n).follows
  have follows := status.isFollower.trans h
  unfold Node.tellMarker
  generalize overAll (upTo 8) Node.refStatus n = m at follows ⊢
  have tracked : ((m.wr Ob.ref_follower 1).wr Ob.ref_trackedWord track).isFollower = m.isFollower :=
    (Node.isFollower_wr _ _ (by decide)).trans (Node.isFollower_wr _ _ (by decide))
  have unflagged : m.postFlags = m := by simp [Node.postFlags, Node.isRoot_of_isFollower follows]
  dsimp only
  rw [unflagged, if_pos follows, Node.isRoot_of_isFollower (tracked.trans follows), Bool.false_and, if_neg Bool.false_ne_true]

theorem keystoneMarker_follower {n : Node} (ranks : List Nat) (track : Nat) (hm : n.tb1 % 512 = 0) (h : n.isFollower = true) :
    (keystoneMarker ranks track n).rd Ob.ref_follower = 1 ∧ (keystoneMarker ranks track n).rd Ob.ref_trackedWord = track ∧
    (keystoneMarker ranks track n).rd Ob.ref_referenceState = n.rd Ob.ref_referenceState ∧
    (keystoneMarker ranks track n).rd Ob.ref_activeEntry = n.rd Ob.ref_activeEntry := by
  have judged : n.Follows (n.judgeInputs ranks).tableStep := (n.judgeInputs_tends ranks).follows.trans (Node.tableStep_follows _)
  have own : n.Follows (n.judgeInputs ranks).tableStep.ownSelect := judged.trans (Node.ownSelect_follows _)
  obtain ⟨-, state, entry⟩ := own.trans
    (Node.Tends.overRefs (f := Node.refStatus) (fun m _ hi => m.refStatus_tends hi) _).follows
  rw [keystoneMarker_marker ranks track hm, Node.selectEntry_follower (judged.isFollower.trans h),
    Node.tellMarker_follower track (own.isFollower.trans h)]
  refine ⟨?_, Node.rd_wr_same .., ?_, ?_⟩
  · rw [Node.rd_wr_ne _ _ (by decide), Node.rd_wr_same]
  · rw [Node.rd_wr_ne _ _ (by decide), Node.rd_wr_ne _ _ (by decide), state]
  · rw [Node.rd_wr_ne _ _ (by decide), Node.rd_wr_ne _ _ (by decide), entry]

/-- A marker steps no TB1, and puts the table that is due in force (05 R131, step 3). -/
theorem keystoneMarker_table {n : Node} (ranks : List Nat) (track : Nat) (hm : n.tb1 % 512 = 0) :
    (keystoneMarker ranks track n).tb1 = n.tb1 ∧
    ∀ t v, n.kst.tableAt = some (t, v) → t ≤ n.tb1 →
      (keystoneMarker ranks track n).rd Ob.prio_priorityTable = v ∧ (keystoneMarker ranks track n).kst.tableAt = none := by
  have judged := n.judgeInputs_tends ranks
  rw [keystoneMarker_marker ranks track hm]
  generalize n.judgeInputs ranks = m at judged
  obtain ⟨tb1, waits, table⟩ := (m.tableStep.selectEntry_tends.holdsTable (by decide)).trans (Node.tellMarker_holdsTable track _)
  have stands : m.tableStep.tb1 = m.tb1 := by
    unfold Node.tableStep
    split
    · split <;> rfl
    · rfl
  refine ⟨tb1.trans (stands.trans judged.tb1), fun t v ht due => ?_⟩
  have step := Node.tableStep_due (judged.tableAt.trans ht) (judged.tb1.symm ▸ due)
  rw [table, waits, step, Node.modKst_rd, Node.rd_wr_same]
  exact ⟨rfl, rfl⟩

/-! ### Root and follower -/

theorem Node.kst_setAnchor (n : Node) (a sec : Nat) : (n.setAnchor a sec).kst = { n.kst with ancT := a, ancS := sec } := by
  rw [Node.setAnchor, Node.wr_kst, Node.modKst_kst]

theorem Node.rd_setAnchor (n : Node) (a sec : Nat) {o : Nat} (h : o ≠ Ob.khall_anchor) : (n.setAnchor a sec).rd o = n.rd o := by
  rw [Node.setAnchor, Node.rd_wr_ne _ _ h.symm, Node.modKst_rd]

@[simp] theorem Node.tb1_setAnchor (n : Node) (a sec : Nat) : (n.setAnchor a sec).tb1 = n.tb1 := by
  rw [Node.setAnchor, Node.wr_tb1, Node.modKst_tb1]

theorem twinKeystoneReceived_follower {n : Node} {p : Nat} {h : Msg} (hf : n.isFollower = true) (hk : n.peek p (isTwinKind 1) = some h) :
    (twinKeystoneReceived p n).rd Ob.ref_referenceState = fld h.head 123 121 ∧
    (twinKeystoneReceived p n).rd Ob.ref_activeEntry = fld h.head 120 113 ∧
    (twinKeystoneReceived p n).kst.ancT = fld (h.cell 1) 127 64 * 65536 + fld (h.cell 1) 63 48 ∧
    (twinKeystoneReceived p n).kst.ancS = fld (h.cell 1) 47 0 ∧ (twinKeystoneReceived p n).tb1 = n.tb1 := by
  have frame := n.consume_frame p (isTwinKind 1)
  have tb1 : (n.consume p (isTwinKind 1)).tb1 = n.tb1 := by have := congrArg Node.tb1 frame; exact this
  have kind : (n.consume p (isTwinKind 1)).kind = n.kind := by have := congrArg Node.kind frame; exact this
  have level : (n.consume p (isTwinKind 1)).level = n.level := by have := congrArg Node.level frame; exact this
  have follows := (Node.isFollower_congr kind level (n.rd_consume p _ _)).trans hf
  simp only [twinKeystoneReceived, Node.onMsg, hk, follows, Bool.not_true, Bool.false_eq_true, if_false, Node.kst_setAnchor]
  refine ⟨?_, ?_, trivial, trivial, by simpa using tb1⟩
  · rw [Node.rd_setAnchor _ _ _ (by decide), Node.modKst_rd, Node.rd_wr_ne _ _ (by decide), Node.rd_wr_ne _ _ (by decide), Node.rd_wr_same]
  · rw [Node.rd_setAnchor _ _ _ (by decide), Node.modKst_rd, Node.rd_wr_ne _ _ (by decide), Node.rd_wr_same]

/-- A Keystone that takes over, before it enters its reference state: d and I come from the tracked word, and no entry is selected
(05 R146). -/
def Node.steerAfresh (n : Node) : Node :=
  (((((n.wr Ob.ref_follower 0).wrS 64 Ob.ref_dcoWord (n.rdS 64 Ob.ref_trackedWord)).wr Ob.ref_activeEntry 0xFF).modKst (fun k =>
    { k with
      servoI := (n.rdS 64 Ob.ref_trackedWord : Rat) / (2 ^ 48 : Nat), histValid := k.rootHist, left := true, lastErr := 0, lockRun := 0
      unlockRun := 0 })).wr Ob.ref_leftLocked (n.tb1 - n.kst.rootTh * tps))

/-- The state in which a Keystone takes over, by what the root last reported (05 R146). -/
def Keystone.takeoverState (k : Keystone) : Nat :=
  if (k.rootState = 1 ∨ k.rootState = 2 ∨ k.rootState = 3) ∧ k.rootHist = true then 3 else if k.rootState = 4 then 4 else 0

theorem takeover_due {n : Node} (hs : n.rd Ob.time_source = 0x7E) (hf : n.rd Ob.ref_follower = 1) :
    recOnly (n.steerAfresh.wr Ob.ref_referenceState n.kst.takeoverState) (takeover n) ∧
    ∀ o, isRecObj o = false → (takeover n).rd o = (n.steerAfresh.wr Ob.ref_referenceState n.kst.takeoverState).rd o := by
  have run : takeover n =
      if (n.kst.rootState == 1 || n.kst.rootState == 2 || n.kst.rootState == 3) && n.kst.rootHist then
        (n.steerAfresh.wr Ob.ref_referenceState 3).fault
          { cause := 0x29, detail := (n.steerAfresh.wr Ob.ref_referenceState 3).rd Ob.ref_holdoverWord }
      else n.steerAfresh.wr Ob.ref_referenceState (if n.kst.rootState == 4 then 4 else 0) := by
    unfold takeover Node.steerAfresh
    rw [hs, hf, beq_self_eq_true, beq_self_eq_true, Bool.and_self, when_true]
  rw [run]
  simp only [Keystone.takeoverState, Bool.and_eq_true, Bool.or_eq_true, beq_iff_eq, or_assoc]
  split
  · exact ⟨Node.fault_frame _ _, fun o ho => Node.rd_fault _ _ ho⟩
  · exact ⟨recOnly.refl _, fun _ _ => rfl⟩

theorem Node.kst_steerAfresh (n : Node) : n.steerAfresh.kst =
    { n.kst with
      servoI := (n.rdS 64 Ob.ref_trackedWord : Rat) / (2 ^ 48 : Nat), histValid := n.kst.rootHist, left := true, lastErr := 0, lockRun := 0
      unlockRun := 0 } := by
  rw [Node.steerAfresh, Node.wr_kst, Node.modKst_kst, Node.wr_kst, Node.wrS, Node.wr_kst, Node.wr_kst]

theorem Node.tb1_steerAfresh (n : Node) : n.steerAfresh.tb1 = n.tb1 := by
  rw [Node.steerAfresh, Node.wr_tb1, Node.modKst_tb1, Node.wr_tb1, Node.wrS, Node.wr_tb1, Node.wr_tb1]

theorem takeover_spec {n : Node} (hs : n.rd Ob.time_source = 0x7E) (hf : n.rd Ob.ref_follower = 1) :
    (takeover n).rd Ob.ref_follower = 0 ∧ (takeover n).rd Ob.ref_dcoWord = ofS 64 (n.rdS 64 Ob.ref_trackedWord) ∧
    (takeover n).kst.servoI = (n.rdS 64 Ob.ref_trackedWord : Rat) / (2 ^ 48 : Nat) ∧ (takeover n).kst.ancT = n.kst.ancT ∧
    (takeover n).kst.ancS = n.kst.ancS ∧ (takeover n).rd Ob.ref_referenceState = n.kst.takeoverState ∧ (takeover n).tb1 = n.tb1 := by
  obtain ⟨frame, rd⟩ := takeover_due hs hf
  have kst := frame.kst.trans (Node.wr_kst ..)
  have tb1 := frame.tb1.trans (Node.wr_tb1 ..)
  rw [rd _ (by decide), rd _ (by decide), rd _ (by decide), kst, tb1, Node.rd_wr_same, Node.kst_steerAfresh, Node.tb1_steerAfresh]
  refine ⟨?_, ?_, rfl, rfl, rfl, rfl, rfl⟩
  · rw [Node.rd_wr_ne _ _ (by decide), Node.steerAfresh, Node.rd_wr_ne _ _ (by decide), Node.modKst_rd, Node.rd_wr_ne _ _ (by decide),
      Node.rd_wrS_ne _ _ _ (by decide), Node.rd_wr_same]
  · rw [Node.rd_wr_ne _ _ (by decide), Node.steerAfresh, Node.rd_wr_ne _ _ (by decide), Node.modKst_rd, Node.rd_wr_ne _ _ (by decide),
      Node.rd_wrS_same]

/-- Settles O17: the four steps of `Node.select`, the states that `Node.transition` leads to, and a marker that holds TB1 and its table. -/
theorem selectionDrivesTheReferenceState : Obligations.SelectionDrivesTheReferenceState := by
  refine ⟨fun n a => ⟨Node.select_forced, fun hf => ⟨Node.select_unqualified hf, fun ha hq hr c hc => ?_, fun ha hq hr c hc => ?_⟩⟩,
    fun n j => ⟨fun h => Node.transition_selected j (by omega), fun h => Node.transition_selected j (by omega)⟩,
    fun n => ⟨?_, Node.noEntry_acquiring, fun h => (Node.noEntry_unlocks h).1, fun h => (Node.noEntry_unlocks h).2⟩,
    fun s ranks track hw hk hm => runsOn_node hw rfl hk ?_, fun s p h hw hk hp hf hh => runsOn_node hw rfl ?_ ?_,
    fun s hw hk hs hf => runsOn_node hw rfl hk (takeover_spec hs hf)⟩
  · rw [Node.select_qualified hf ha hq hc, if_neg hr]
  · rw [Node.select_qualified hf ha hq hc, if_pos hr]
  · rw [Node.transition, n.noEntry_tends.rd _ (by decide) (by decide), Node.rd_wr_same]
  · obtain ⟨tb1, due⟩ := keystoneMarker_table (n := s.hub) ranks track hm
    exact ⟨tb1, due, keystoneMarker_follower ranks track hm⟩
  · simpa [hk] using hp
  · exact twinKeystoneReceived_follower hf hh

/-! ### The reference servo -/

theorem natAbs_clampAbs_le {lim : Int} (x : Int) (h : 0 ≤ lim) : (clampAbs lim x).natAbs ≤ lim.natAbs := by
  unfold clampAbs
  split_ifs <;> omega

/-- d after an update: toward the demand within the DCO's range, by at most the slew limit of the interval (05 R132, R134). -/
def Node.slewedDco (n : Node) (demand : Int) (tu : Rat) : Int :=
  n.rdS 64 Ob.ref_dcoWord + clampAbs ((n.rd Ob.ref_frequencySlew : Nat) * tu * (2 ^ 48 : Nat) / 1000000000).floor
    (clampAbs dcoLimit demand - n.rdS 64 Ob.ref_dcoWord)

section
variable (n : Node) (demand : Int) {tu : Rat} (ht : 0 ≤ tu)
include ht

theorem Node.slewStep_nonneg : 0 ≤ ((n.rd Ob.ref_frequencySlew : Nat) * tu * (2 ^ 48 : Nat) / 1000000000).floor := by
  have : (0 : Rat) ≤ (n.rd Ob.ref_frequencySlew : Nat) * tu * (2 ^ 48 : Nat) / 1000000000 := by positivity
  exact Int.floor_nonneg.mpr this

/-- d keeps within the DCO's range. -/
theorem Node.natAbs_slewedDco_le (hd : (n.rdS 64 Ob.ref_dcoWord).natAbs ≤ 56294995342) : (n.slewedDco demand tu).natAbs ≤ 56294995342 := by
  have step := n.slewStep_nonneg ht
  unfold Node.slewedDco
  generalize ((n.rd Ob.ref_frequencySlew : Nat) * tu * (2 ^ 48 : Nat) / 1000000000).floor = k at step ⊢
  simp only [clampAbs, dcoLimit]
  split_ifs <;> omega

/-- d moves by no more than the slew limit allows. -/
theorem Node.natAbs_slewedDco_sub_le : ((n.slewedDco demand tu - n.rdS 64 Ob.ref_dcoWord).natAbs : Rat) ≤
    (n.rd Ob.ref_frequencySlew : Nat) * tu * (2 ^ 48 : Nat) / 1000000000 := by
  have step := n.slewStep_nonneg ht
  have moved : (n.slewedDco demand tu - n.rdS 64 Ob.ref_dcoWord).natAbs ≤
      ((n.rd Ob.ref_frequencySlew : Nat) * tu * (2 ^ 48 : Nat) / 1000000000).floor.natAbs := by
    rw [Node.slewedDco, add_sub_cancel_left]
    exact natAbs_clampAbs_le _ step
  calc ((n.slewedDco demand tu - n.rdS 64 Ob.ref_dcoWord).natAbs : Rat)
      ≤ (((n.rd Ob.ref_frequencySlew : Nat) * tu * (2 ^ 48 : Nat) / 1000000000).floor.natAbs : Rat) := by exact_mod_cast moved
    _ = (((n.rd Ob.ref_frequencySlew : Nat) * tu * (2 ^ 48 : Nat) / 1000000000).floor : Rat) := by
        rw [← Int.cast_natCast, Int.natAbs_of_nonneg step]
    _ ≤ _ := Int.floor_le _

end

/-- A change of d leaves the registers of the servo but the clamp, and the references. -/
theorem Node.setDco_spec (n : Node) (demand : Int) (tu : Rat) :
    (n.setDco demand tu).rd Ob.ref_dcoWord = ofS 64 (n.slewedDco demand tu) ∧
    (n.setDco demand tu).kst = { n.kst with clamped := decide (dcoLimit < demand.natAbs) } ∧ (n.setDco demand tu).refs = n.refs := by
  have told {c : Prop} {_ : Decidable c} (r : FRec) : recOnly n (if c then n.fault r else n) := by
    split
    · exact n.fault_frame r
    · exact .refl n
  unfold Node.setDco
  dsimp only
  rw [Node.modKst_rd, Node.rd_wrS_same, Node.modKst_kst, Node.wrS, Node.wr_kst, (told _).kst, Node.modKst_refs, Node.wr_refs, (told _).refs]
  exact ⟨rfl, rfl, rfl⟩

theorem Node.servoLock_turns (n : Node) (e : Int) : n.Turns (n.servoLock e) := by
  unfold Node.servoLock
  dsimp only
  exact .ite (.ite (n.setRef_turns 2) ⟨rfl, rfl, fun _ _ => rfl⟩) (.ite (n.setRef_turns 1) ⟨rfl, rfl, fun _ _ => rfl⟩)

/-- The reference that the root follows. -/
def Node.activeRef (n : Node) : Nat := entryRef (n.prioEntry (n.rd Ob.ref_activeEntry))

/-- The update interval of a 1PPS reference and of another, in seconds (05 R134). -/
def servoInterval (pps : Bool) : Rat := if pps then 1 else 33554432 / 100000000000

theorem servoInterval_nonneg (pps : Bool) : 0 ≤ servoInterval pps := by cases pps <;> norm_num [servoInterval]

/-- The mean phase error of the update interval of a reference, in time units (05 R133). -/
def KRef.meanError (r : KRef) : Rat := (r.errSum : Rat) / r.errN

/-- I after an update (05 R134). -/
def Node.nextServoI (n : Node) (i : Nat) (pps : Bool) : Rat :=
  n.kst.servoI - servoWn (n.loopB pps) * servoWn (n.loopB pps) * servoInterval pps * ((n.refOf i).meanError / (tps * 65536 : Nat))

/-- A root that has taken the errors of an update interval into I (05 R133, R134). -/
def Node.takeErrors (n : Node) (i : Nat) (pps : Bool) : Node :=
  ((n.modRef i fun r => { r with errSum := 0, errN := 0, perEdge := none }).modKst fun k => { k with updAt := n.tb1 }).modKst fun k =>
    { k with servoI := n.nextServoI i pps, lastErr := roundRat (n.refOf i).meanError }

/-- What an update demands of d, before its limits (05 R134). -/
def Node.dcoDemand (n : Node) (i : Nat) (pps : Bool) : Int :=
  roundRat ((n.nextServoI i pps - 2 * servoWn (n.loopB pps) * ((n.refOf i).meanError / (tps * 65536 : Nat))) * (2 ^ 48 : Nat))

/-- An update of which errors have been taken (05 R134). -/
def Node.servoStepOn (n : Node) (i : Nat) (pps : Bool) : Node :=
  ((n.takeErrors i pps).setDco (n.dcoDemand i pps) (servoInterval pps)).servoLock (roundRat (n.refOf i).meanError)

theorem servoUpdate_due {n : Node} (root : n.isRoot = true) (state : n.rd Ob.ref_referenceState = 1 ∨ n.rd Ob.ref_referenceState = 2)
    (entry : n.rd Ob.ref_activeEntry < 8) (errs : (n.refOf n.activeRef).errN ≠ 0)
    (due : (n.rd (Ob.ev_nominalCode n.activeRef) == 0) = true ∨ n.kst.updAt + 1024 * 512 ≤ n.tb1) :
    servoUpdate n = n.servoStepOn n.activeRef (n.rd (Ob.ev_nominalCode n.activeRef) == 0) := by
  have falls : (if n.rd (Ob.ev_nominalCode n.activeRef) == 0 then decide (0 < (n.refOf n.activeRef).errN)
      else decide (n.kst.updAt + 1024 * 512 ≤ n.tb1)) = true := by
    split
    · exact decide_eq_true (by omega)
    · exact decide_eq_true (by tauto)
  have acts : (n.isRoot && (n.rd Ob.ref_referenceState == 1 || n.rd Ob.ref_referenceState == 2) && decide (n.rd Ob.ref_activeEntry < 8)) = true := by
    simpa [root, entry] using state
  unfold Node.servoStepOn Node.takeErrors Node.dcoDemand Node.nextServoI KRef.meanError servoInterval
  unfold Node.activeRef at *
  unfold servoUpdate
  dsimp only
  rw [acts, falls, Bool.and_self, when_true, if_neg (by simpa using errs)]

/-- What an update leaves (05 R133, R134). -/
theorem Node.servoStepOn_spec (n : Node) (i : Nat) (pps : Bool) :
    (n.servoStepOn i pps).kst.servoI = n.nextServoI i pps ∧ (n.servoStepOn i pps).kst.lastErr = roundRat (n.refOf i).meanError ∧
    (n.servoStepOn i pps).kst.updAt = n.tb1 ∧ ((n.servoStepOn i pps).refOf i).errN = 0 ∧
    (n.servoStepOn i pps).rd Ob.ref_dcoWord = ofS 64 (n.slewedDco (n.dcoDemand i pps) (servoInterval pps)) := by
  obtain ⟨word, kst, refs⟩ := (n.takeErrors i pps).setDco_spec (n.dcoDemand i pps) (servoInterval pps)
  have lock := Node.servoLock_turns ((n.takeErrors i pps).setDco (n.dcoDemand i pps) (servoInterval pps)) (roundRat (n.refOf i).meanError)
  have taken : ((n.takeErrors i pps).refOf i).errN = 0 := by
    rw [Node.takeErrors, Node.refOf_modKst, Node.refOf_modKst, Node.modRef_refOf_same]
  have same : (n.takeErrors i pps).slewedDco = n.slewedDco := rfl
  unfold Node.servoStepOn
  refine ⟨?_, ?_, ?_, ?_, ?_⟩
  · exact lock.servoI.trans (congrArg Keystone.servoI kst)
  · exact lock.lastErr.trans (congrArg Keystone.lastErr kst)
  · exact lock.updAt.trans (congrArg Keystone.updAt kst)
  · rw [Node.refOf_of_refs (lock.refs.trans refs), taken]
  · rw [lock.rd _ (by decide), word, same]

/-! ### History, DAC and budget -/

theorem historyRecord_due {n : Node} (root : n.isRoot = true) (state : n.rd Ob.ref_referenceState = 2) (due : n.kst.histAt + tps ≤ n.tb1) :
    historyRecord n = n.modKst fun k =>
      { k with
        histAt := n.tb1
        hist := (n.tb1, n.rdS 64 Ob.ref_dcoWord) :: k.hist.filter (fun e => decide (n.tb1 ≤ e.1 + 3610 * tps)) } := by
  have acts : (n.isRoot && n.rd Ob.ref_referenceState == 2 && decide (n.kst.histAt + tps ≤ n.tb1)) = true := by simp [root, state, due]
  unfold historyRecord
  rw [acts, when_true]

/-- What a correction adds to a DAC word of 16 bits (05 R141). -/
def dacMove (w d : Int) : Int := if w + d < 0 then -w else if 65535 < w + d then 65535 - w else d

theorem dacMove_bounds {w : Int} (d : Int) (hw : 0 ≤ w ∧ w ≤ 65535) : 0 ≤ w + dacMove w d ∧ w + dacMove w d ≤ 65535 := by
  obtain ⟨lo, hi⟩ := hw
  unfold dacMove
  split_ifs <;> omega

/-- The correction that a discipline moves from I into the DAC word (05 R141). -/
def Node.dacCorrection (n : Node) : Int :=
  dacMove (n.rd Ob.ref_dacWord) (roundRat (n.kst.servoI * (2 ^ 48 : Nat) / (64 * n.rdS 32 Ob.ref_dacGain : Int)))

theorem Node.dacCorrection_bounds {n : Node} (word : n.rd Ob.ref_dacWord ≤ 65535) :
    0 ≤ (n.rd Ob.ref_dacWord : Int) + n.dacCorrection ∧ (n.rd Ob.ref_dacWord : Int) + n.dacCorrection ≤ 65535 :=
  dacMove_bounds _ ⟨Int.natCast_nonneg _, by exact_mod_cast word⟩

theorem dacDiscipline_due {n : Node} (root : n.isRoot = true) (state : n.rd Ob.ref_referenceState = 2) (mode : n.rd Ob.ref_dacMode = 1)
    (gain : n.rdS 32 Ob.ref_dacGain ≠ 0) (due : n.kst.dacAt + tps ≤ n.tb1) :
    dacDiscipline n = (n.wr Ob.ref_dacWord ((n.rd Ob.ref_dacWord : Int) + n.dacCorrection).toNat).modKst fun k =>
      { k with dacAt := n.tb1, servoI := k.servoI - (n.dacCorrection * n.rdS 32 Ob.ref_dacGain : Int) / (2 ^ 48 : Nat) } := by
  have acts : (n.isRoot && n.rd Ob.ref_referenceState == 2 && n.rd Ob.ref_dacMode == 1 && n.rdS 32 Ob.ref_dacGain != 0 &&
      decide (n.kst.dacAt + tps ≤ n.tb1)) = true := by simp [root, state, mode, gain, due]
  unfold dacDiscipline Node.dacCorrection dacMove
  dsimp only
  rw [acts, when_true]

theorem dacDiscipline_spec {n : Node} (root : n.isRoot = true) (state : n.rd Ob.ref_referenceState = 2) (mode : n.rd Ob.ref_dacMode = 1)
    (gain : n.rdS 32 Ob.ref_dacGain ≠ 0) (due : n.kst.dacAt + tps ≤ n.tb1) (word : n.rd Ob.ref_dacWord ≤ 65535) :
    (dacDiscipline n).rd Ob.ref_dacWord ≤ 65535 ∧ (dacDiscipline n).kst.dacAt = n.tb1 ∧
    (dacDiscipline n).kst.servoI = n.kst.servoI -
      (((((dacDiscipline n).rd Ob.ref_dacWord : Nat) : Int) - ((n.rd Ob.ref_dacWord : Nat) : Int)) * n.rdS 32 Ob.ref_dacGain : Int) /
        (2 ^ 48 : Nat) ∧
    n.sameObjsBut (dacDiscipline n) [Ob.ref_dacWord] := by
  obtain ⟨lo, hi⟩ := Node.dacCorrection_bounds word
  have moved : (((n.rd Ob.ref_dacWord : Int) + n.dacCorrection).toNat : Int) - (n.rd Ob.ref_dacWord : Int) = n.dacCorrection := by
    rw [Int.toNat_of_nonneg lo, add_sub_cancel_left]
  rw [dacDiscipline_due root state mode gain due, Node.modKst_kst, Node.modKst_rd, Node.rd_wr_same, Node.wr_kst, moved]
  exact ⟨Int.toNat_le.mpr hi, rfl, rfl, fun o ho => n.rd_wr_ne _ (by simpa using Ne.symm (List.ne_of_not_mem_cons ho))⟩

theorem budgetReached_due {n : Node} (root : n.isRoot = true) (state : n.rd Ob.ref_referenceState = 3) (spent : n.overBudget = true) :
    budgetReached n = n.enterLost := by
  have acts : (n.isRoot && n.rd Ob.ref_referenceState == 3 && n.overBudget) = true := by simp [root, state, spent]
  unfold budgetReached
  rw [acts, when_true]

theorem Node.recorded_enterLost (n : Node) : n.recorded n.enterLost 0x2A :=
  Node.recorded_of_rd ((n.setRef_turns 4).rd _ (by decide)).symm (Node.recorded_fault (n.setRef 4) _)

/-- Settles O18: I, the errors and d by `Node.servoStepOn_spec`, d between its bounds by `Node.slewedDco`. -/
theorem referenceServoSteersWithinItsRange : Obligations.ReferenceServoSteersWithinItsRange := by
  refine ⟨fun s hw root state entry => ?_, fun s hw root state => ⟨fun due => ?_, fun mode gain due word => ?_⟩,
    fun s hw root state spent => ?_⟩
  all_goals
    have keystone : s.hub.isKeystone = true := by
      simp only [Node.isRoot, Bool.and_eq_true] at root
      exact root.1.1
  · intro i pps tu errs due
    refine runsOn_node hw rfl keystone ?_
    rw [show s.node .hub = s.hub from rfl, servoUpdate_due root state entry errs due]
    obtain ⟨servoI, lastErr, updAt, taken, word⟩ := s.hub.servoStepOn_spec i pps
    refine ⟨servoI, lastErr, updAt, taken, fun inside => ?_⟩
    have range := s.hub.natAbs_slewedDco_le (s.hub.dcoDemand i pps) (servoInterval_nonneg pps) inside
    have reads : (s.hub.servoStepOn i pps).rdS 64 Ob.ref_dcoWord = s.hub.slewedDco (s.hub.dcoDemand i pps) (servoInterval pps) := by
      rw [Node.rdS, word, toS_ofS (by omega)]
    have step := s.hub.natAbs_slewedDco_sub_le (s.hub.dcoDemand i pps) (servoInterval_nonneg pps)
    rw [← reads] at range step
    exact ⟨range, step⟩
  · refine runsOn_node hw rfl keystone ?_
    rw [show s.node .hub = s.hub from rfl, historyRecord_due root state due, Node.modKst_kst]
    exact ⟨rfl, List.mem_cons_self, rfl⟩
  · exact runsOn_node hw rfl keystone (dacDiscipline_spec root state mode gain due word)
  · refine runsOn_node hw rfl keystone ?_
    rw [show s.node .hub = s.hub from rfl, budgetReached_due root state spent]
    refine ⟨?_, s.hub.recorded_enterLost, ?_⟩
    · rw [Node.rd_enterLost _ (by decide), Node.rd_referenceState_setRef]
    · rw [Node.rd_enterLost _ (by decide), Node.rd_leftLocked_setRef _ (by decide), if_neg (by omega)]

/-! ### ESMC -/

theorem Node.kind_of_isKeystone {n : Node} (h : n.isKeystone = true) : n.kind = .hub := by
  simp only [Node.isKeystone, Node.isHub, Bool.and_eq_true, beq_iff_eq] at h
  exact h.1

/-- The counters of ESMC PDUs have 64 bits on a hub (05 R150). -/
theorem widthOf_esmcCounters : widthOf .hub Ob.ref_esmcDropped = 64 ∧ ∀ i < 8, widthOf .hub (Ob.rin_esmcReceived i) = 64 := by decide +kernel

/-- A Keystone that gives the code of a PDU to one reference (05 R126). -/
def Node.takePdu (code : Nat) (n : Node) (i : Nat) : Node :=
  ((n.wr (Ob.rin_receivedSSM i) code).bump (Ob.rin_esmcReceived i)).modRef i fun r => { r with pduAt := some n.tb1 }

/-- Reference i has the code of a PDU that came on the tick of `n`, and has counted it (05 R126). -/
structure Node.PduTaken (n : Node) (code i : Nat) (m : Node) : Prop where
  code : m.rd (Ob.rin_receivedSSM i) = code
  count : m.rd (Ob.rin_esmcReceived i) = (n.rd (Ob.rin_esmcReceived i) + 1) % 2 ^ 64
  tick : (m.refOf i).pduAt = some n.tb1

/-- Reference i has taken no PDU. -/
structure Node.PduPassed (n : Node) (i : Nat) (m : Node) : Prop where
  code : m.rd (Ob.rin_receivedSSM i) = n.rd (Ob.rin_receivedSSM i)
  count : m.rd (Ob.rin_esmcReceived i) = n.rd (Ob.rin_esmcReceived i)
  ref : m.refOf i = n.refOf i

section
variable (code : Nat) (n : Node) {i : Nat} (hi : i < 8)
include hi

theorem Node.takePdu_taken (hk : n.kind = .hub) : n.PduTaken code i (n.takePdu code i) := by
  obtain ⟨-, width⟩ := widthOf_esmcCounters
  have counter : isEcnt (Ob.rin_esmcReceived i) = false := isEcnt_of_rinObj (isRinObj_rin (k := 0x0C) hi (by decide))
  have ssm : isEcnt (Ob.rin_receivedSSM i) = false := isEcnt_of_rinObj (isRinObj_rin (k := 4) hi (by decide))
  have apart : Ob.rin_esmcReceived i ≠ Ob.rin_receivedSSM i := rinObj_ne (k := 0x0C) (l := 4) (by decide) (by decide) (.inr (by decide))
  refine ⟨?_, ?_, ?_⟩
  · rw [Node.takePdu, Node.modRef_rd, Node.rd_bump_ne _ ssm apart, Node.rd_wr_same]
  · rw [Node.takePdu, Node.modRef_rd, Node.rd_bump_same _ _ counter, Node.wr_kind, hk, width i hi, Node.rd_wr_ne _ _ apart.symm]
  · rw [Node.takePdu, Node.modRef_refOf_same]

theorem Node.takePdu_passed {j : Nat} (h : j ≠ i) : n.PduPassed i (n.takePdu code j) := by
  have rd {k : Nat} (hk : k < 256) : (n.takePdu code j).rd (0xB01000 + k + i * 256) = n.rd (0xB01000 + k + i * 256) := by
    rw [Node.takePdu, Node.modRef_rd, Node.rd_bump_ne _ (isEcnt_of_rinObj (isRinObj_rin hi hk))
      (rinObj_ne (k := 0x0C) (by decide) hk (.inl h)), Node.rd_wr_ne _ _ (rinObj_ne (k := 4) (by decide) hk (.inl h))]
  refine ⟨rd (k := 4) (by decide), rd (k := 0x0C) (by decide), ?_⟩
  rw [Node.takePdu, Node.modRef_refOf_ne _ _ h, Node.refOf_of_refs (Node.bump_frame _ _).refs, Node.wr_refOf]

end

theorem Node.takePdu_keeps (code : Nat) (n : Node) (i : Nat) : (n.takePdu code i).kind = n.kind ∧ (n.takePdu code i).tb1 = n.tb1 := by
  have frame := (n.wr (Ob.rin_receivedSSM i) code).bump_frame (Ob.rin_esmcReceived i)
  rw [Node.takePdu, Node.modRef_kind, Node.modRef_tb1, frame.kind, frame.tb1, Node.wr_kind, Node.wr_tb1]
  exact ⟨rfl, rfl⟩

/-- A PDU reaches every reference of a list once, and no other. -/
theorem Node.takePdu_overAll (code : Nat) {l : List Nat} (once : l.Nodup) (hl : ∀ i ∈ l, i < 8) {n : Node} (hk : n.kind = .hub) {i : Nat}
    (hi : i < 8) : (i ∈ l → n.PduTaken code i (overAll l (Node.takePdu code) n)) ∧
    (i ∉ l → n.PduPassed i (overAll l (Node.takePdu code) n)) := by
  induction l generalizing n with
  | nil => exact ⟨fun h => absurd h List.not_mem_nil, fun _ => ⟨rfl, rfl, rfl⟩⟩
  | cons j l ih =>
    obtain ⟨fresh, once⟩ := List.nodup_cons.mp once
    have hj : j < 8 := hl j List.mem_cons_self
    obtain ⟨kind, tb1⟩ := n.takePdu_keeps code j
    obtain ⟨named, others⟩ := ih (n := n.takePdu code j) once (fun x hx => hl x (List.mem_cons_of_mem _ hx)) (kind.trans hk)
    have run : overAll (j :: l) (Node.takePdu code) n = overAll l (Node.takePdu code) (n.takePdu code j) := rfl
    rw [run]
    by_cases h : j = i
    · subst h
      have first := n.takePdu_taken code hj hk
      have rest := others fresh
      exact ⟨fun _ => ⟨rest.code.trans first.code, rest.count.trans first.count, by rw [rest.ref, first.tick]⟩,
        fun out => absurd List.mem_cons_self out⟩
    · have first := n.takePdu_passed code hi h
      refine ⟨fun mem => ?_, fun out => ?_⟩
      · have rest := named ((List.mem_cons.mp mem).resolve_left (Ne.symm h))
        exact ⟨rest.code, by rw [rest.count, first.count], by rw [rest.tick, tb1]⟩
      · have rest := others fun mem => out (List.mem_cons_of_mem _ mem)
        exact ⟨rest.code.trans first.code, rest.count.trans first.count, rest.ref.trans first.ref⟩

/-- The references that a PDU from a source on a port names (05 R126). -/
def Node.pduRefs (n : Node) (port : Nat) (pdu : List Nat) : List Nat := (upTo 8).filter (n.esmcMatch port (numBE ((pdu.drop 6).take 6)))

theorem Node.mem_pduRefs {n : Node} {port i : Nat} {pdu : List Nat} :
    i ∈ n.pduRefs port pdu ↔ i < 8 ∧ n.esmcMatch port (numBE ((pdu.drop 6).take 6)) i = true := by
  simp [Node.pduRefs, upTo]

theorem Node.nodup_pduRefs (n : Node) (port : Nat) (pdu : List Nat) : (n.pduRefs port pdu).Nodup := List.nodup_range.filter _

theorem esmcReceived_accepted {n : Node} {port : Nat} {pdu : List Nat} (ok : esmcOk pdu = true) {i : Nat} (hi : i ∈ n.pduRefs port pdu) :
    esmcReceived port pdu n = overAll (n.pduRefs port pdu) (Node.takePdu (pdu.getD 27 0 % 16)) n := by
  have some : (n.pduRefs port pdu).isEmpty = false := by
    rw [List.isEmpty_eq_false_iff]
    exact List.ne_nil_of_mem hi
  unfold Node.pduRefs at some ⊢
  unfold esmcReceived
  dsimp only
  rw [ok, some, Bool.not_false, Bool.and_self, if_pos rfl]
  rfl

theorem esmcReceived_dropped {n : Node} {port : Nat} {pdu : List Nat} (h : esmcOk pdu = false ∨ n.pduRefs port pdu = []) :
    esmcReceived port pdu n = n.bump Ob.ref_esmcDropped := by
  have drops : (esmcOk pdu && !(n.pduRefs port pdu).isEmpty) = false := by
    rcases h with bad | unnamed
    · rw [bad, Bool.false_and]
    · rw [unnamed, List.isEmpty_nil, Bool.not_true, Bool.and_false]
  unfold Node.pduRefs at drops
  unfold esmcReceived
  dsimp only
  rw [drops, if_neg Bool.false_ne_true]

theorem esmcReceived_spec {n : Node} {port : Nat} {pdu : List Nat} (hk : n.isKeystone = true) (ok : esmcOk pdu = true)
    (named : ∃ i, i < 8 ∧ n.esmcMatch port (numBE ((pdu.drop 6).take 6)) i = true) {i : Nat} (hi : i < 8) :
    if n.esmcMatch port (numBE ((pdu.drop 6).take 6)) i then n.PduTaken (pdu.getD 27 0 % 16) i (esmcReceived port pdu n)
    else n.PduPassed i (esmcReceived port pdu n) := by
  obtain ⟨j, hj⟩ := named
  obtain ⟨taken, passed⟩ := Node.takePdu_overAll (pdu.getD 27 0 % 16) (n.nodup_pduRefs port pdu) (fun _ h => (Node.mem_pduRefs.mp h).1)
    (Node.kind_of_isKeystone hk) hi
  rw [esmcReceived_accepted ok (Node.mem_pduRefs.mpr hj)]
  split
  · rename_i h
    exact taken (Node.mem_pduRefs.mpr ⟨hi, h⟩)
  · rename_i h
    exact passed fun mem => h (Node.mem_pduRefs.mp mem).2

theorem esmcReceived_drops {n : Node} {port : Nat} {pdu : List Nat} (hk : n.isKeystone = true)
    (h : esmcOk pdu = false ∨ ∀ i, i < 8 → n.esmcMatch port (numBE ((pdu.drop 6).take 6)) i = false) :
    (esmcReceived port pdu n).rd Ob.ref_esmcDropped = (n.rd Ob.ref_esmcDropped + 1) % 2 ^ 64 ∧
    (∀ i, i < 8 → (esmcReceived port pdu n).rd (Ob.rin_receivedSSM i) = n.rd (Ob.rin_receivedSSM i)) ∧
    (esmcReceived port pdu n).refs = n.refs := by
  obtain ⟨width, -⟩ := widthOf_esmcCounters
  have unnamed : esmcOk pdu = false ∨ n.pduRefs port pdu = [] := h.imp_right fun none =>
    List.eq_nil_iff_forall_not_mem.mpr fun i mem =>
      have ⟨hi, hits⟩ := Node.mem_pduRefs.mp mem
      Bool.false_ne_true ((none i hi).symm.trans hits)
  have count := n.rd_bump_same Ob.ref_esmcDropped (by decide)
  rw [Node.kind_of_isKeystone hk, width] at count
  rw [esmcReceived_dropped unnamed]
  refine ⟨count, fun i hi => ?_, (n.bump_frame _).refs⟩
  have rin : isRinObj (Ob.rin_receivedSSM i) = true := isRinObj_rin (k := 4) hi (by decide)
  exact n.rd_bump_ne (isEcnt_of_rinObj rin) (by rintro same; rw [← same] at rin; contradiction)

theorem sameObjsBut_wr {n m : Node} {os : List Nat} (h : n.sameObjsBut m os) {o : Nat} (v : Nat) (ho : o ∈ os) : n.sameObjsBut (m.wr o v) os :=
  fun o' out => (m.rd_wr_ne v (by rintro rfl; exact out ho)).trans (h o' out)

/-- A reference that hears no PDU in 5 s has failed (05 R126). -/
theorem esmcTimeout_spec {n : Node} {i t : Nat} (hp : (n.refOf i).pduAt = some t) (due : t + 7812500000 ≤ n.tb1) :
    (esmcTimeout i n).rd (Ob.rin_receivedSSM i) = 0xFF ∧ (n.rd (Ob.rin_qualitySource i) = 1 → (esmcTimeout i n).rd (Ob.rin_rank i) = 15) ∧
    n.sameObjsBut (esmcTimeout i n) [Ob.rin_receivedSSM i, Ob.rin_rank i] ∧ ∀ j, j ≠ i → (esmcTimeout i n).refOf j = n.refOf j := by
  have apart : Ob.rin_rank i ≠ Ob.rin_receivedSSM i := rinObj_ne (k := 5) (l := 4) (by decide) (by decide) (.inr (by decide))
  obtain ⟨m, failed⟩ : ∃ m, m = (n.wr (Ob.rin_receivedSSM i) 0xFF).modRef i fun r => { r with pduAt := none } := ⟨_, rfl⟩
  have run : esmcTimeout i n = if n.rd (Ob.rin_qualitySource i) == 1 then m.wr (Ob.rin_rank i) 15 else m := by
    unfold esmcTimeout
    rw [hp, failed]
    dsimp only
    rw [decide_eq_true due, when_true]
  have code : m.rd (Ob.rin_receivedSSM i) = 0xFF := by rw [failed, Node.modRef_rd, Node.rd_wr_same]
  have same : n.sameObjsBut m [Ob.rin_receivedSSM i, Ob.rin_rank i] := by
    rw [failed]
    exact sameObjsBut_wr (m := n) (fun _ _ => rfl) 0xFF List.mem_cons_self
  have others : ∀ j, j ≠ i → m.refOf j = n.refOf j := fun j hj => by rw [failed, Node.modRef_refOf_ne _ _ hj.symm, Node.wr_refOf]
  rw [run]
  split
  · exact ⟨by rw [Node.rd_wr_ne _ _ apart, code], fun _ => Node.rd_wr_same .., sameObjsBut_wr same 15 (List.mem_cons_of_mem _ List.mem_cons_self),
      fun j hj => by rw [Node.wr_refOf, others j hj]⟩
  · rename_i other
    exact ⟨code, fun esmc => absurd (beq_iff_eq.mpr esmc) other, same, others⟩

/-! ### Monitors, waits and the priority table -/

/-- A status bit of a reference reads as it was set. -/
theorem Node.bit_refBit (n : Node) (i b : Nat) (v : Bool) : bit ((n.refBit i b v).rd (Ob.rin_status i)) b = v := by
  have field : bits ((n.refBit i b v).rd (Ob.rin_status i)) b 1 = ofB v % 2 ^ 1 := by
    rw [Node.refBit, Node.wrBits, Node.rd_wr_same, bits_replace]
  unfold bits at field
  unfold bit
  rw [← Nat.pow_one 2, field]
  cases v <;> rfl

theorem Node.rd_refBit_ne (n : Node) (i b : Nat) (v : Bool) {o : Nat} (h : Ob.rin_status i ≠ o) : (n.refBit i b v).rd o = n.rd o :=
  n.rd_wrBits_ne b 1 _ h

/-- The offset that a gate with a fit posts (05 R123). -/
def Node.postOffset (n : Node) (i : Nat) (c : ClosedGate) : Node :=
  if c.status false == 0 || c.status false == 2 then n.wrS 64 (Ob.rin_monitorOffset i) (regrFit (n.nomPeriod i) c.kept).1 else n

/-- The result of a closed monitor gate is posted, and the frequency condition follows it (05 R123, R124). -/
def Node.postMonitor (n : Node) (i : Nat) (c : ClosedGate) : Node :=
  ((n.modMon i fun r => { r with closed := none }).postOffset i c).refBit i 1
    (((n.modMon i fun r => { r with closed := none }).postOffset i c).freqOk i (c.status false))

theorem monitorGateEnd_closed {n : Node} {i : Nat} {c : ClosedGate} (h : ((n.rollMonitor i).monOf i).closed = some c) :
    monitorGateEnd i n = (n.rollMonitor i).postMonitor i c := by
  unfold monitorGateEnd Node.postMonitor Node.postOffset
  dsimp only
  rw [h]

theorem Node.rd_monitorOffset_postOffset (n : Node) (i : Nat) (c : ClosedGate) : (n.postOffset i c).rd (Ob.rin_monitorOffset i) =
    if c.status false = 0 ∨ c.status false = 2 then ofS 64 (regrFit (n.nomPeriod i) c.kept).1 else n.rd (Ob.rin_monitorOffset i) := by
  unfold Node.postOffset
  simp only [Bool.or_eq_true, beq_iff_eq]
  split
  · exact Node.rd_wrS_same ..
  · rfl

theorem Node.monitors_postOffset (n : Node) (i : Nat) (c : ClosedGate) : (n.postOffset i c).monitors = n.monitors := by
  unfold Node.postOffset
  split <;> rfl

/-- The frequency condition at a gate's end (05 R124). -/
theorem Node.freqOk_iff (n : Node) (i stat : Nat) : n.freqOk i stat = true ↔ (stat = 0 ∨ stat = 2) ∧
    (n.rdS 64 (Ob.rin_monitorOffset i) + n.rdS 64 Ob.ref_dcoWord).natAbs * 1000000000 ≤ n.rd (Ob.rin_frequencyWindow i) * 2 ^ 48 := by
  simp only [Node.freqOk, Bool.and_eq_true, Bool.or_eq_true, beq_iff_eq, decide_eq_true_eq]

/-- What the post of a monitor's result leaves (05 R123, R124). -/
theorem Node.postMonitor_spec (n : Node) (i : Nat) (c : ClosedGate) :
    (n.postMonitor i c).rd (Ob.rin_monitorOffset i) =
      (if c.status false = 0 ∨ c.status false = 2 then ofS 64 (regrFit (n.nomPeriod i) c.kept).1 else n.rd (Ob.rin_monitorOffset i)) ∧
    (bit ((n.postMonitor i c).rd (Ob.rin_status i)) 1 = true ↔ (c.status false = 0 ∨ c.status false = 2) ∧
      ((n.postMonitor i c).rdS 64 (Ob.rin_monitorOffset i) + (n.postMonitor i c).rdS 64 Ob.ref_dcoWord).natAbs * 1000000000 ≤
        (n.postMonitor i c).rd (Ob.rin_frequencyWindow i) * 2 ^ 48) ∧
    (n.postMonitor i c).monitors = (n.modMon i fun r => { r with closed := none }).monitors := by
  have offset := (n.modMon i fun r => { r with closed := none }).rd_monitorOffset_postOffset i c
  have monitors := (n.modMon i fun r => { r with closed := none }).monitors_postOffset i c
  have apart {k : Nat} (h : k ≠ 0) (hk : k < 256) : Ob.rin_status i ≠ 0xB01000 + k + i * 256 :=
    rinObj_ne (k := 0) (by decide) hk (.inr h.symm)
  have word : Ob.rin_status i ≠ Ob.ref_dcoWord := by unfold Ob.rin_status Ob.ref_dcoWord; omega
  unfold Node.postMonitor
  generalize (n.modMon i fun r => { r with closed := none }).postOffset i c = m at offset monitors ⊢
  rw [Node.bit_refBit, Node.rdS, Node.rdS, Node.rd_refBit_ne _ _ _ _ (apart (k := 8) (by decide) (by decide)),
    Node.rd_refBit_ne _ _ _ _ word, Node.rd_refBit_ne _ _ _ _ (apart (k := 6) (by decide) (by decide))]
  exact ⟨offset, m.freqOk_iff i _, monitors⟩

section
variable {n : Node} {i : Nat}

theorem Node.rollMonitor_waiting {c : ClosedGate} (h : (n.monOf i).closed = some c) : n.rollMonitor i = n := by
  simp [Node.rollMonitor, h]

theorem Node.rollMonitor_due (hc : (n.monOf i).closed = none) (he : n.monGateEnd i ≤ n.tb1) : n.rollMonitor i = n.modMon i fun _ =>
    { opened := n.monGateEnd i, input := i, disabled := n.rd (Ob.ev_enable i) != 1, closed := some (n.monOf i).gate } := by
  have ends : ((n.monOf i).closed.isNone && decide (n.monGateEnd i ≤ n.tb1)) = true := by simp [hc, he]
  unfold Node.rollMonitor
  dsimp only
  rw [ends, when_true]

/-- The end of a monitor gate: one that has ended before is posted, or the one that ends, and then the next is open (05 R123). -/
theorem monitorGateEnd_spec {c : ClosedGate}
    (h : (n.monOf i).closed = some c ∨ ((n.monOf i).closed = none ∧ n.monGateEnd i ≤ n.tb1 ∧ c = (n.monOf i).gate)) :
    monitorGateEnd i n = (n.rollMonitor i).postMonitor i c ∧ (∀ o, (n.rollMonitor i).rd o = n.rd o) ∧
    ((monitorGateEnd i n).monOf i).closed = none ∧
    ((n.monOf i).closed = none → ((monitorGateEnd i n).monOf i).opened = n.monGateEnd i ∧ ((monitorGateEnd i n).monOf i).kept = []) ∧
    ∀ j, j ≠ i → (monitorGateEnd i n).monOf j = n.monOf j := by
  have posts (m : Node) (j : Nat) : (m.postMonitor i c).monOf j = (m.modMon i fun r => { r with closed := none }).monOf j := by
    obtain ⟨-, -, monitors⟩ := m.postMonitor_spec i c
    unfold Node.monOf
    rw [monitors]
  rcases h with waits | ⟨running, due, rfl⟩
  · have run := monitorGateEnd_closed ((congrArg (fun m => (m.monOf i).closed) (Node.rollMonitor_waiting waits)).trans waits)
    rw [Node.rollMonitor_waiting waits] at run ⊢
    simp only [run, posts, Node.modMon_monOf_same]
    exact ⟨trivial, fun _ => trivial, trivial, fun none => by simp [none] at waits, fun j hj => Node.modMon_monOf_ne _ _ hj.symm⟩
  · have roll := Node.rollMonitor_due running due
    have run : monitorGateEnd i n = (n.rollMonitor i).postMonitor i (n.monOf i).gate :=
      monitorGateEnd_closed (by rw [roll, Node.modMon_monOf_same])
    rw [run, roll]
    simp only [posts, Node.modMon_monOf_same]
    exact ⟨trivial, fun o => Node.modMon_rd .., trivial, fun _ => ⟨trivial, trivial⟩,
      fun j hj => (Node.modMon_monOf_ne _ _ hj.symm).trans (Node.modMon_monOf_ne _ _ hj.symm)⟩

/-- A wait that is over ends, and the reference stays as qualified as it was (05 R129). -/
theorem Node.waitEnd_spec (hw : (n.refOf i).waiting = true) (due : (n.refOf i).waitTo ≤ n.tb1) :
    ((n.waitEnd i).refOf i).waiting = false ∧ ((n.waitEnd i).refOf i).qual = (n.refOf i).qual ∧
    n.sameObjsBut (n.waitEnd i) [Ob.rin_status i] ∧ ∀ j, j ≠ i → (n.waitEnd i).refOf j = n.refOf j := by
  have run : n.waitEnd i = (n.modRef i fun r => { r with waiting := false }).refBit i 4 false := by simp [Node.waitEnd, hw, due]
  have refs (j : Nat) : (n.waitEnd i).refOf j = (n.modRef i fun r => { r with waiting := false }).refOf j := by
    rw [run, Node.refBit, Node.wrBits, Node.wr_refOf]
  simp only [refs, Node.modRef_refOf_same]
  refine ⟨trivial, trivial, ?_, fun j hj => Node.modRef_refOf_ne _ _ hj.symm⟩
  rw [run]
  exact sameObjsBut_wr (m := n.modRef i _) (fun o _ => Node.modRef_rd ..) _ List.mem_cons_self

end

theorem priorityWrite_spec {n : Node} (v : Nat) (hk : n.isKeystone = true) :
    (n.tableAllowed v = true → (priorityWrite v n).answered 0 ∧
      (priorityWrite v n).kst.tableAt = some (nextMul 512 (n.tb1 + 1), tableMask v) ∧
      (priorityWrite v n).rd Ob.prio_priorityTable = n.rd Ob.prio_priorityTable) ∧
    (n.tableAllowed v = false → (priorityWrite v n).answered 3 ∧ (priorityWrite v n).kst = n.kst ∧
      (priorityWrite v n).rd Ob.prio_priorityTable = n.rd Ob.prio_priorityTable) := by
  refine ⟨fun allowed => ?_, fun refused => ?_⟩
  · rw [priorityWrite, Node.accept_accepted (by rw [hk, allowed, Bool.and_self]), Node.kst_answer, Node.rd_answer _ _ (by decide) (by decide)]
    exact ⟨Node.answered_answer .., rfl, Node.modKst_rd ..⟩
  · rw [priorityWrite, Node.accept_refused (by rw [refused, Bool.and_false]), Node.kst_answer, Node.rd_answer _ _ (by decide) (by decide)]
    exact ⟨Node.answered_answer .., rfl, rfl⟩

/-- Settles O16: a PDU by `Node.takePdu_overAll`, silence, a gate's end by `Node.postMonitor_spec`, a wait's end and a table's write by one
lemma each. -/
theorem referencesAreJudgedByTheirSignals : Obligations.ReferencesAreJudgedByTheirSignals := by
  intro s hw hk
  refine ⟨fun port pdu hp => ⟨fun ok named => runsOn_node hw rfl ?_ fun i hi => ?_,
      fun drops => runsOn_node hw rfl ?_ (esmcReceived_drops hk drops)⟩,
    fun i t hi ht due => runsOn_node hw rfl ?_ (esmcTimeout_spec ht due), fun i c hi gate => runsOn_node hw rfl ?_ ?_,
    fun i hi wait due => runsOn_node hw rfl ?_ (Node.waitEnd_spec wait due),
    fun v =>
      have ⟨accepted, refused⟩ := priorityWrite_spec v hk
      ⟨fun ok => runsOn_node hw rfl rfl (accepted ok), fun ok => runsOn_node hw rfl rfl (refused ok)⟩⟩
  · simp [hk, hp]
  · have spec := esmcReceived_spec hk ok named hi
    split at spec <;> rename_i h
    · rw [if_pos h]
      exact ⟨spec.code, spec.count, spec.tick⟩
    · rw [if_neg h]
      exact ⟨spec.code, spec.ref⟩
  · simp [hk, hp]
  · simp [hk, hi]
  · simp [hk, hi]
  · obtain ⟨run, rd, monitors⟩ := monitorGateEnd_spec gate
    obtain ⟨offset, window, -⟩ := (s.hub.rollMonitor i).postMonitor_spec i c
    have period : (s.hub.rollMonitor i).nomPeriod i = s.hub.nomPeriod i := by simp only [Node.nomPeriod, rd]
    rw [← run] at offset window
    rw [rd, period] at offset
    exact ⟨offset, window, monitors⟩
  · simp [hk, hi]

/-! ### Outputs -/

/-- The pulse counters have 64 bits on a hub (05 R151). -/
theorem widthOf_pulses : ∀ k < 6, widthOf .hub (Ob.out_pulses k) = 64 := by decide +kernel

theorem isEcnt_out_pulses {k : Nat} (hk : k < 6) : isEcnt (Ob.out_pulses k) = false := by
  revert k
  decide

theorem recOnly.outOf {n m : Node} (h : recOnly n m) (k : Nat) : m.outOf k = n.outOf k := by
  have := congrArg (Node.outOf · k) h
  exact this

@[simp] theorem Node.rd_offerEdge (n : Node) (src stamp : Nat) (coarse : Bool) (count : Option Nat) (o : Nat) :
    (n.offerEdge src stamp coarse count).rd o = n.rd o := rfl

@[simp] theorem Node.outOf_offerEdge (n : Node) (src stamp : Nat) (coarse : Bool) (count : Option Nat) (k : Nat) :
    (n.offerEdge src stamp coarse count).outOf k = n.outOf k := rfl

/-- What is counted at an output of a hub leaves the outputs as they were set (05 R148). -/
theorem Node.bumpOut_spec {n : Node} {k : Nat} (f : PulseSt → PulseSt) (hub : n.kind = .hub) (hk : k < 6) :
    ((n.modOut k f).bump (Ob.out_pulses k)).rd (Ob.out_pulses k) = (n.rd (Ob.out_pulses k) + 1) % 2 ^ 64 ∧
    ((n.modOut k f).bump (Ob.out_pulses k)).outOf k = f (n.outOf k) ∧
    ∀ j, j ≠ k → ((n.modOut k f).bump (Ob.out_pulses k)).outOf j = n.outOf j := by
  have outs := (recOnly.of_objs ((n.modOut k f).bump_frame (Ob.out_pulses k))).outOf
  rw [Node.rd_bump_same _ _ (isEcnt_out_pulses hk), Node.modOut_kind, hub, widthOf_pulses k hk, Node.modOut_rd, outs, Node.modOut_outOf_same]
  exact ⟨rfl, rfl, fun j hj => (outs j).trans (Node.modOut_outOf_ne _ _ hj.symm)⟩

/-- Without waiting writes the settings of an output stay. -/
theorem outputEffective_idle {n : Node} {k : Nat} (h : (n.outOf k).pend = []) : outputEffective k n = n := by
  simp [outputEffective, PulseSt.coming, h, upTo]

/-- An output of a hub at a placed instant at which it has not fired counts one pulse: a pulse output goes high for its width, and a frequency
output has an edge there (05 R148). -/
theorem outputPulse_hub {n : Node} {k x : Nat} (hub : n.kind = .hub) (hk : k < 6) (hp : (n.outOf k).pend = [])
    (placed : n.outPlaced (n.outOf k).now = some x) (fresh : (n.outOf k).lastAt ≠ some x) :
    (outputPulse k n).rd (Ob.out_pulses k) = (n.rd (Ob.out_pulses k) + 1) % 2 ^ 64 ∧ ((outputPulse k n).outOf k).lastAt = some x ∧
    ((outputPulse k n).outOf k).now = (n.outOf k).now ∧
    (k < 4 → (((outputPulse k n).outOf k).high = true ↔ 0 < (n.outOf k).now.wid) ∧
      ((outputPulse k n).outOf k).fallAt = n.tb1 + (n.outOf k).now.wid) ∧
    (4 ≤ k → ((outputPulse k n).outOf k).edgeAt = some x) ∧ ∀ j, j ≠ k → (outputPulse k n).outOf j = n.outOf j := by
  have fires : outputPulse k n = n.fireOut k x := by
    rw [outputPulse, outputEffective_idle hp, Node.fireBefore, placed]
    rfl
  have news : ((n.outOf k).lastAt == some x) = false := beq_eq_false_iff_ne.mpr fresh
  rw [fires, Node.fireOut, news, if_neg Bool.false_ne_true]
  by_cases h4 : k < 4
  · obtain ⟨count, out, others⟩ := Node.bumpOut_spec (n := n) (k := k)
      (fun o => { o with high := 0 < o.now.wid, fallAt := n.tb1 + o.now.wid, lastAt := some x }) hub hk
    rw [if_pos h4, Node.rd_offerEdge, Node.outOf_offerEdge, count, out]
    exact ⟨rfl, rfl, rfl, fun _ => ⟨decide_eq_true_iff, rfl⟩, fun h => absurd h4 (by omega), others⟩
  · obtain ⟨count, out, others⟩ := Node.bumpOut_spec (n := n) (k := k) (fun o => { o with edgeAt := some x, lastAt := some x }) hub hk
    rw [if_neg h4, count, out]
    exact ⟨rfl, rfl, rfl, fun h => absurd h h4, fun _ => rfl, others⟩

/-! ### A pulse at a unit of the kind of a TSU -/

/-- A state whose hub side holds a unit of the kind of a TSU, with a pulse output whose source places an instant in tick 0. -/
def hubOfTsuKind : State := { State.reset with hub := { kind := .full, outs := [(0, { now := { src := 1 } })] } }

/-- A TSU holds no counter of a hub's pulses, so the count has no bits there (05 R151). -/
theorem pulses_hubOfTsuKind : (outputPulse 0 hubOfTsuKind.hub).rd (Ob.out_pulses 0) = 0 ∧ hubOfTsuKind.hub.rd (Ob.out_pulses 0) = 0 := by
  decide +kernel

/-- Refutes O19: its clause of a pulse has every unit on the hub side count it in an object of 64 bits, and asks for no hub there. In
`hubOfTsuKind`, which is no state of `State.KindsLegal`, output 0 fires and the count reads 0. On a hub the clause holds (`outputPulse_hub`). -/
theorem not_hallTimeMovesOnlyAsCommanded : ¬ Obligations.HallTimeMovesOnlyAsCommanded := by
  rintro ⟨-, -, outputs⟩
  have works : Works hubOfTsuKind .hub := by unfold Works; decide
  obtain ⟨fires, -, -⟩ := outputs hubOfTsuKind 0 works (by decide)
  obtain ⟨t, run, count, -⟩ := fires 0 (by decide +kernel) (by decide +kernel) (by decide +kernel)
  have ran : t = hubOfTsuKind.setNode .hub (outputPulse 0 hubOfTsuKind.hub) :=
    Host.Outcome.next.inj (run.symm.trans (exec_node works rfl rfl))
  obtain ⟨fired, before⟩ := pulses_hubOfTsuKind
  rw [ran, State.node_setNode_same, fired, before] at count
  exact absurd count (by decide)

end Sys2Proof.Machine

/-! Soundness is kept by every step (00 Scope; 06 R154; 16 R438, R469): the objects and TB1 are written by a few operations alone, of which
each keeps a sound unit sound, and every other operation is composed of those. There is one lemma per operation, which bears its name, and its
proof reads as the operation's definition does: what acts first stands first, and each branch is one argument of `ite`. -/

namespace Sys2Proof.Machine

/-! ### Units that keep their kind and stay sound -/

/-- A unit of a given kind that is sound. -/
def Node.SoundAs (k : Kind) (n : Node) : Prop := n.kind = k ∧ n.Sound

/-- An operation that keeps every sound unit sound. -/
@[reducible] def Keeps (f : Node → Node) : Prop := ∀ {k : Kind} {n : Node}, n.SoundAs k → (f n).SoundAs k

theorem Keeps.ite {f g : Node → Node} {c : Prop} {_ : Decidable c} (hf : Keeps f) (hg : Keeps g) : Keeps (if c then f else g) := by
  split
  · exact hf
  · exact hg

/-- The operation that a table holds, where it holds one, keeps every sound unit sound. -/
def KeepsAll (o : Option (Node → Node)) : Prop := ∀ f, o = some f → Keeps f

theorem KeepsAll.none : KeepsAll none := fun _ held => nomatch held

theorem KeepsAll.some {f : Node → Node} (hf : Keeps f) : KeepsAll (some f) := fun _ held => Option.some.inj held ▸ hf

theorem KeepsAll.ite {a b : Option (Node → Node)} {c : Prop} {_ : Decidable c} (ha : KeepsAll a) (hb : KeepsAll b) :
    KeepsAll (if c then a else b) := by
  split
  · exact ha
  · exact hb

namespace Node.SoundAs

section
variable {k : Kind} {n : Node} (h : n.SoundAs k)
include h

/-- Neither the kind nor the objects nor TB1 moves. -/
theorem same {m : Node} (kept : (m.kind, m.objs, m.tb1) = (n.kind, n.objs, n.tb1)) : m.SoundAs k := by
  obtain ⟨hk, ho, ht⟩ : m.kind = n.kind ∧ m.objs = n.objs ∧ m.tb1 = n.tb1 := by simpa using kept
  exact ⟨hk.trans h.1, by rw [Node.Sound, hk, ho, ht]; exact h.2⟩

theorem of_recOnly {m : Node} (frame : recOnly n m) (sound : m.Sound) : m.SoundAs k :=
  ⟨(congrArg Node.kind (show _ = _ from frame) :).trans h.1, sound⟩

theorem of_objsOnly {m : Node} (frame : objsOnly n m) (sound : m.Sound) : m.SoundAs k := h.of_recOnly (.of_objs frame) sound

theorem of_accOnly {m : Node} (frame : accOnly n m) (sound : m.Sound) : m.SoundAs k :=
  ⟨(congrArg Node.kind (show _ = _ from frame) :).trans h.1, sound⟩

/-! #### Combinators -/

theorem ite {m : Node} {c : Prop} {_ : Decidable c} (hm : m.SoundAs k) : (if c then n else m).SoundAs k := by
  split
  · exact h
  · exact hm

/-- What holds of a step from a sound unit on, for a unit that several branches go on from. -/
theorem andThen {m : Node} (hm : n.SoundAs k → m.SoundAs k) : m.SoundAs k := hm h

theorem thenIf {m : Node} {c : Prop} {_ : Decidable c} (hm : n.SoundAs k → m.SoundAs k) : (if c then m else n).SoundAs k := ite (hm h) h

theorem elseThen {m : Node} {c : Prop} {_ : Decidable c} (hm : n.SoundAs k → m.SoundAs k) : (if c then n else m).SoundAs k := h.ite (hm h)

theorem when {c f} (hf : ∀ {m}, m.SoundAs k → (f m).SoundAs k) : (Machine.when c f n).SoundAs k := ite (hf h) h

theorem overAll {α : Type} {l : List α} {f} (hf : ∀ {m x}, m.SoundAs k → (f m x).SoundAs k) : (Machine.overAll l f n).SoundAs k :=
  overAll_keeps l f (fun _ _ _ => hf) h

theorem foldl {α : Type} {l : List α} {f} (hf : ∀ {m x}, m.SoundAs k → (f m x).SoundAs k) : (l.foldl f n).SoundAs k := h.overAll hf

/-- A fold whose states carry a unit first. -/
theorem foldlFst {α β : Type} {l : List α} {f : Node × β → α → Node × β} (hf : ∀ {m b x}, m.SoundAs k → (f (m, b) x).1.SoundAs k) {b : β} :
    (l.foldl f (n, b)).1.SoundAs k := by
  induction l generalizing n b with
  | nil => exact h
  | cons x l ih => exact ih (hf h)

/-- A fold whose states carry a unit second. -/
theorem foldlSnd {α β : Type} {l : List α} {f : β × Node → α → β × Node} (hf : ∀ {m b x}, m.SoundAs k → (f (b, m) x).2.SoundAs k) {b : β} :
    (l.foldl f (b, n)).2.SoundAs k := by
  induction l generalizing n b with
  | nil => exact h
  | cons x l ih => exact ih (hf h)

/-- A unit as at reset, but for parts that are neither its objects nor TB1. -/
theorem atReset {m : Node} (hk : m.kind = n.kind) (ho : m.objs = []) (ht : m.tb1 = 0) : m.SoundAs k :=
  ⟨hk.trans h.1, by rw [ho]; rfl, by rw [ht]; decide⟩

/-! #### Objects, events and records -/

theorem wr {o v} : (n.wr o v).SoundAs k := ⟨h.1, Node.sound_wr h.2 o v⟩
theorem wrS {w o i} : (n.wrS w o i).SoundAs k := h.wr
theorem wrBits {o lo w v} : (n.wrBits o lo w v).SoundAs k := h.wr
theorem bumpBits {o lo w} : (n.bumpBits o lo w).SoundAs k := h.wr
theorem events {code q c} : (n.events code q c).SoundAs k := h.of_objsOnly (n.events_frame ..) (Node.events_sound h.2 ..)
theorem addTo {o c} : (n.addTo o c).SoundAs k := h.of_objsOnly (n.addTo_frame ..) (Node.addTo_sound h.2 ..)
theorem bump {o} : (n.bump o).SoundAs k := h.addTo
theorem lines : n.lines.SoundAs k := h.of_recOnly n.lines_frame (Node.lines_sound h.2)
theorem irqEvent {s} : (n.irqEvent s).SoundAs k := h.of_recOnly (n.irqEvent_frame s) (Node.irqEvent_sound h.2 s)
theorem fault {r} : (n.fault r).SoundAs k := h.of_recOnly (n.fault_frame r) (Node.fault_sound h.2 r)
theorem answerData {st data len} : (n.answerData st data len).SoundAs k :=
  h.of_accOnly (n.answerData_frame ..) (Node.answerData_sound h.2 ..)
theorem answer {st} : (n.answer st).SoundAs k := h.answerData

/-! #### Records and relays -/

theorem agEvents {r code k'} : (n.agEvents r code k').SoundAs k := h.foldl fun h => h.wrBits.ite h

theorem modLink {i f} : (n.modLink i f).SoundAs k := h.same rfl

theorem modPort {i f} : (n.modPort i f).SoundAs k := h.same rfl

theorem modChan {i f} : (n.modChan i f).SoundAs k := h.same rfl

theorem modEv {i f} : (n.modEv i f).SoundAs k := h.same rfl

theorem modMslot {i f} : (n.modMslot i f).SoundAs k := h.same rfl

theorem modRegr {i f} : (n.modRegr i f).SoundAs k := h.same rfl

theorem modRoute {i f} : (n.modRoute i f).SoundAs k := h.same rfl

theorem modAnswer {i f} : (n.modAnswer i f).SoundAs k := h.same rfl

theorem modBase {i f} : (n.modBase i f).SoundAs k := h.same rfl

theorem modCap {i f} : (n.modCap i f).SoundAs k := h.same rfl

theorem modPulse {i f} : (n.modPulse i f).SoundAs k := h.same rfl

theorem modAgent {i f} : (n.modAgent i f).SoundAs k := h.same rfl

theorem modCell {i f} : (n.modCell i f).SoundAs k := h.same rfl

theorem modTslot {i f} : (n.modTslot i f).SoundAs k := h.same rfl

theorem modCtx {i f} : (n.modCtx i f).SoundAs k := h.same rfl

theorem modRegion {i f} : (n.modRegion i f).SoundAs k := h.same rfl

theorem modRef {i f} : (n.modRef i f).SoundAs k := h.same rfl

theorem modMon {i f} : (n.modMon i f).SoundAs k := h.same rfl

theorem modOut {i f} : (n.modOut i f).SoundAs k := h.same rfl

theorem modHead {i f} : (n.modHead i f).SoundAs k := h.same rfl

theorem modHtal {i f} : (n.modHtal i f).SoundAs k := h.same rfl

theorem modEng {i f} : (n.modEng i f).SoundAs k := h.same rfl

theorem modDport {i f} : (n.modDport i f).SoundAs k := h.same rfl

theorem modTnode {f} : (n.modTnode f).SoundAs k := h.same rfl

theorem modCensus {f} : (n.modCensus f).SoundAs k := h.same rfl

theorem modStart {f} : (n.modStart f).SoundAs k := h.same rfl

theorem modHall {f} : (n.modHall f).SoundAs k := h.same rfl

theorem modBus {f} : (n.modBus f).SoundAs k := h.same rfl

theorem modClr {f} : (n.modClr f).SoundAs k := h.same rfl

theorem modTally {f} : (n.modTally f).SoundAs k := h.same rfl

theorem modMint {f} : (n.modMint f).SoundAs k := h.same rfl

theorem modJrnl {f} : (n.modJrnl f).SoundAs k := h.same rfl

theorem modKey {f} : (n.modKey f).SoundAs k := h.same rfl

theorem modVault {f} : (n.modVault f).SoundAs k := h.same rfl

theorem modKst {f} : (n.modKst f).SoundAs k := h.same rfl

theorem modLead {f} : (n.modLead f).SoundAs k := h.same rfl

theorem modJhub {f} : (n.modJhub f).SoundAs k := h.same rfl

theorem modReplay {f} : (n.modReplay f).SoundAs k := h.same rfl

theorem modAccess {f} : (n.modAccess f).SoundAs k := h.same rfl

theorem modHpwr {f} : (n.modHpwr f).SoundAs k := h.same rfl

theorem takeFree : n.takeFree.2.SoundAs k := h.same rfl

/-! #### Flags -/

theorem lineRise {l} : (n.lineRise l).SoundAs k := h.wrBits.wr

theorem lineFall {l} : (n.lineFall l).SoundAs k := h.wrBits.same (by rfl)

theorem lineStep {l} : (n.lineStep l).SoundAs k := by
  unfold Node.lineStep
  exact ite (h.ite (h.lineRise.ite h)) (h.lineFall.ite h)

theorem countCause {cause} : (n.countCause cause).SoundAs k := h.bumpBits

theorem portFault {cause p detail} : (n.portFault cause p detail).SoundAs k := h.fault

theorem ctxFault {cause c obj detail} : (n.ctxFault cause c obj detail).SoundAs k := h.fault

theorem regionFault {cause r obj detail} : (n.regionFault cause r obj detail).SoundAs k := h.fault

theorem keyInput {b} : (n.keyInput b).SoundAs k := h.wr.modKey

/-! #### The span link: slots, records, waves -/

theorem enqueue {p q} : (n.enqueue p q).SoundAs k := h.bump.elseThen fun hm => hm.ite h.modLink

theorem send {p m} : (n.send p m).SoundAs k := h.enqueue

theorem sendAt {p t m} : (n.sendAt p t m).SoundAs k := h.enqueue

theorem forward {i p m} : (n.forward i p m).SoundAs k := h.enqueue

theorem sendAll {ps m} : (n.sendAll ps m).SoundAs k := h.overAll fun h => h.send

theorem sendTwin {m} : (n.sendTwin m).SoundAs k := h.sendAll

theorem consume {p f} : (n.consume p f).SoundAs k := by
  unfold Node.consume
  split
  · exact h
  · exact h.modLink

theorem onMsg {p f act} (hact : ∀ {x m}, m.SoundAs k → (act x m).SoundAs k) : (n.onMsg p f act).SoundAs k := by
  unfold Node.onMsg
  split
  · exact h
  · exact hact h.consume

theorem waveLost {p slot} : (n.waveLost p slot).SoundAs k := h.bump.fault

theorem queueWave {p inPort ready slot} : (n.queueWave p inPort ready slot).SoundAs k := by
  unfold Node.queueWave
  dsimp only
  refine h.bump.ite ?_
  split
  · exact h.modLink
  · split
    · exact h.modLink
    · exact h.modLink.waveLost

theorem accept {ok f} (hf : ∀ {m}, m.SoundAs k → (f m).SoundAs k) : (n.accept ok f).SoundAs k := ite (answer (hf h)) h.answer

theorem rwsWrite {ok o v f} (hf : ∀ {m}, m.SoundAs k → (f m).SoundAs k) : (n.rwsWrite ok o v f).SoundAs k :=
  h.answer.ite (ite (answer (hf h)) h.fault.answer)

theorem sendRelay {kind dst tag oid off len last bytes} : (n.sendRelay kind dst tag oid off len last bytes).1.SoundAs k := by
  unfold Node.sendRelay
  dsimp only
  split
  · split
    · exact send (h.ite h.modAccess)
    · exact h
  · exact h

theorem originate {kind dst oid off len last bytes} : (n.originate kind dst oid off len last bytes).SoundAs k := h.modAccess.sendRelay

theorem relayEnded {r status last data} : (n.relayEnded r status last data).SoundAs k := h.modAccess

theorem relayWrite {dst oid len v} : (n.relayWrite dst oid len v).SoundAs k := h.originate

theorem tableFault {kind port span held epoch other} : (n.tableFault kind port span held epoch other).SoundAs k := h.bump.fault

theorem forSpan {span holder f} (hf : ∀ {m}, m.SoundAs k → (f m).SoundAs k) : (n.forSpan span holder f).SoundAs k := by
  unfold Node.forSpan
  split
  · exact h.tableFault.answer
  · exact ite (hf h) h.tableFault.answer

theorem leaveSets {p} : (n.leaveSets p).SoundAs k := h.same rfl

/-! #### Stamps -/

theorem offerEdge {src stamp coarse count} : (n.offerEdge src stamp coarse count).SoundAs k := h.same rfl

/-! #### The span link -/

theorem discardQueued {p f} : (n.discardQueued p f).SoundAs k := h.modLink.addTo

theorem routeLost {p} : (n.routeLost p).SoundAs k := by
  unfold Node.routeLost
  refine h.overAll (fun h => h.relayEnded) |>.overAll fun h => ?_
  split
  · exact h.ite h.send
  · exact h

theorem leaveMember {p} : (n.leaveMember p).SoundAs k := h.leaveSets.discardQueued.modLink.addTo

theorem leaveSynced {p} : (n.leaveSynced p).SoundAs k := h.routeLost.discardQueued

theorem twinWatch : n.twinWatch.SoundAs k := h.ite (ite (modLead (h.modLead.ite h)) (modLead (h.modLead.ite h)))

theorem enterLink {p st} : (n.enterLink p st).SoundAs k := modLink (twinWatch (wr (wr (thenIf (h.leaveMember.ite h) fun h => h.leaveSynced))))

theorem setLink {p st} : (n.setLink p st).SoundAs k := thenIf (h.ite h.enterLink) fun h => h.modLink

theorem linkCause {p cause detail} : (n.linkCause p cause detail).SoundAs k := h.portFault.wr

theorem reachSynced {p} : (n.reachSynced p).SoundAs k := h.setLink.thenIf fun h => h.modDport.wr

theorem linkEnable {p v} : (Machine.linkEnable p v n).SoundAs k := h.rwsWrite fun h => h.wr.setLink.ite (h.wr.thenIf fun h => h.setLink)

theorem linkRestart {p} : (Machine.linkRestart p n).SoundAs k := h.setLink.modLink.answer

theorem sendWake {p} : (Machine.sendWake p n).SoundAs k := h.when (fun h => h.modLink) |>.answer

theorem lossOfSignal {p} : (Machine.lossOfSignal p n).SoundAs k := h.modLink.when fun h => h.setLink.linkCause

theorem frameLockLost {p} : (Machine.frameLockLost p n).SoundAs k := h.when fun h => h.setLink.elseThen fun h => h.linkCause

theorem enterWake {p} : (n.enterWake p).SoundAs k := h.setLink.modLink

theorem darkRetry {p sig} : (Machine.darkRetry p sig n).SoundAs k := h.modLink.when fun h => h.enterWake

theorem restartTick : n.restartTick.SoundAs k := h.overAll fun h => ite (h.enterWake.ite (h.modLink.ite h)) h

theorem wakeComplete {p} : (Machine.wakeComplete p n).SoundAs k := by
  unfold Machine.wakeComplete
  dsimp only
  refine ite (h.when fun h => h.setLink) ?_
  split
  · exact h.when fun h => h.modLink
  · exact h

theorem trainLock {p} : (Machine.trainLock p n).SoundAs k := h.when fun h => h.setLink

theorem linkTimeout {p} : (Machine.linkTimeout p n).SoundAs k := h.when fun h => h.setLink.linkCause

theorem linkSynced {p} : (Machine.linkSynced p n).SoundAs k := h.when fun h => h.reachSynced

theorem memberHold {p} : (Machine.memberHold p n).SoundAs k := h.when fun h => h.setLink.thenIf fun h => h.portFault

theorem memberLockLoss {p} : (Machine.memberLockLoss p n).SoundAs k := h.when fun h => h.reachSynced

theorem refuseHello {p cause detail} : (n.refuseHello p cause detail).SoundAs k := h.setLink.modLink.linkCause

theorem versionKey {p h'} : (n.versionKey p h').SoundAs k := h.keyInput.ite h

theorem acceptHello {p m} : (n.acceptHello p m).SoundAs k := modLink (wr (wr (wr (wr (wr (h.ite h.versionKey.wr))))))

theorem leaveHello {p} : (n.leaveHello p).SoundAs k := h.setLink.modLink

theorem helloReceived {p} : (Machine.helloReceived p n).SoundAs k :=
  h.onMsg fun h =>
    h.modLink.elseThen fun h =>
      ite (h.when fun h => h.setLink) (h.thenIf fun h => h.refuseHello.ite (h.refuseHello.ite (h.acceptHello.thenIf fun h => h.leaveHello)))

theorem takeCredits {p c2 c3} : (n.takeCredits p c2 c3).SoundAs k := h.modLink.addTo

theorem takeMsg {p m} : (n.takeMsg p m).SoundAs k := h.modLink.thenIf fun h => h.consume.bump

theorem takeSlot {p slot first} : (n.takeSlot p slot first).SoundAs k := h.ite (h.modLink.ite h.bump)

theorem acceptFrame {p cells first} : (n.acceptFrame p cells first).SoundAs k :=
  h.modLink.thenIf (fun h => h.takeCredits) |>.addTo.takeSlot.overAll fun h => h.takeMsg

theorem discardFrame {p} : (n.discardFrame p).SoundAs k := h.bump.modLink

theorem missExchange {p} : (n.missExchange p).SoundAs k := h.bump.modPort

theorem missMarker {p} : (n.missMarker p).SoundAs k := h.missExchange.modPort

theorem trainFrame {p cells} : (n.trainFrame p cells).SoundAs k := h.modLink.addTo

theorem frameReceived {p frame first code sym} : (Machine.frameReceived p frame first code sym n).SoundAs k := by
  unfold Machine.frameReceived
  refine h.ite ?_
  dsimp only
  split
  · exact h.modLink.events.discardFrame.andThen fun h => h.modLink.ite (h.modLink.thenIf fun h => h.missMarker)
  · exact h.modLink.events.addTo.andThen fun h =>
        ite
          h.trainFrame
          (ite
            (h.modLink.discardFrame.thenIf fun h => h.missMarker)
            (h.modLink.modLink.thenIf (fun h => h.modPort.offerEdge) |>.acceptFrame))

theorem frameSend {p} : (Machine.frameSend p n).SoundAs k := h.ite (h.modLink.ite (h.modLink.events.thenIf fun h => h.modPort))

theorem windowEnd {p} : (Machine.windowEnd p n).SoundAs k := h.when fun h => h.modLink.thenIf fun h => h.portFault

theorem spreadSlot {p slot first} : (n.spreadSlot p slot first).SoundAs k :=
  (h.same (by rfl)).ite ((h.same (by rfl)).elseThen (fun h => h.modLink) |>.overAll fun h => h.queueWave)

/-! #### Time distribution -/

theorem sumOffset {p} : (n.sumOffset p).SoundAs k := h.modPort

theorem completeExchange {p t1 t2 t3 t4} : (n.completeExchange p t1 t2 t3 t4).SoundAs k := h.wrS.wrS.wr.bump.modPort

theorem timeReceived {p} : (Machine.timeReceived p n).SoundAs k := by
  unfold Machine.timeReceived
  refine h.onMsg fun h => ?_
  dsimp only
  split
  · exact h.modPort.completeExchange.ite h.modPort.missExchange
  · exact h.modPort.missExchange

theorem loseLock {p kind} : (n.loseLock p kind).SoundAs k := h.wr.modPort.portFault

theorem countOver {p} : (n.countOver p).SoundAs k := h.modPort

theorem noteBoth {p} : (n.noteBoth p).SoundAs k := h.modPort

theorem lockStep {p} : (n.lockStep p).SoundAs k :=
  andThen (h.missExchange.modPort.ite h) fun h => noteBoth (h.sumOffset.countOver.loseLock.ite (h.sumOffset.countOver.thenIf fun h => h.wr))

theorem setTimeState {st} : (n.setTimeState st).SoundAs k := wr (wr (h.modTnode.ite h))

theorem setSource {src meas} : (n.setSource src meas).SoundAs k := h.ite h.wr.bump.fault

theorem noSource : n.noSource.SoundAs k := h.ite h.fault.setSource.setTimeState

theorem becomeRoot : n.becomeRoot.SoundAs k := h.setSource.setTimeState.modTnode

theorem sourceStep {meas} : (n.sourceStep meas).SoundAs k := by
  unfold Node.sourceStep
  refine h.ite ?_
  split
  · exact h.setSource.setTimeState
  · exact ite (h.becomeRoot.ite (h.modTnode.ite h)) h.noSource

theorem markSec : n.markSec.SoundAs k := h.ite h.modBase

omit h in
theorem stepTick_lt (d : Int) (t : Nat) : stepTick d t < 2 ^ 64 := by
  unfold stepTick
  omega

theorem stepTb1 {d} : (n.stepTb1 d).SoundAs k := markSec ⟨h.1, h.2.1, stepTick_lt d n.tb1⟩

theorem timeStep {theta} : (n.timeStep theta).SoundAs k := h.stepTb1.wrS.modTnode.bump.fault

theorem servoStep : n.servoStep.SoundAs k := h.wrS.modTnode

theorem showOffset {e} : (n.showOffset e).SoundAs k := h.wrS

theorem phaseStep : n.phaseStep.SoundAs k := h.ite (h.timeStep.showOffset.ite (showOffset (servoStep (h.modTnode.ite h))))

theorem planeStep : n.planeStep.SoundAs k := by
  unfold Node.planeStep
  dsimp only
  split
  · exact h.modTnode
  · exact h.wrS.modTnode.thenIf fun h => h.modTnode

theorem markerServo {built} : (Machine.markerServo built n).SoundAs k :=
  h.when fun h => h.overAll (fun h => h.lockStep) |>.sourceStep.planeStep.phaseStep

theorem revertHold {built} : (Machine.revertHold built n).SoundAs k := by
  unfold Machine.revertHold
  dsimp only
  split
  · exact h.setSource.setTimeState.ite h
  · exact h

theorem rootWaitExpiry : (Machine.rootWaitExpiry n).SoundAs k := by
  unfold Machine.rootWaitExpiry
  split
  · exact h.when fun h => h.becomeRoot
  · exact h

theorem planeDisagreement : (Machine.planeDisagreement n).SoundAs k := h.when fun h => h.modTnode.portFault.ite h.modTnode.fault

theorem closureStart {mode} : (Machine.closureStart mode n).SoundAs k := h.overAll (fun h => h.modPort) |>.modTnode.wr.answer

theorem writeLink {port childPort cal0 cal c} : (n.writeLink port childPort cal0 cal c).SoundAs k := h.ite h.relayWrite.relayWrite

theorem writeChild {m dA dB cal} : (n.writeChild m dA dB cal).SoundAs k := h.writeLink.writeLink.ite (h.writeLink.ite h.writeLink)

theorem closeOne {apply b m} : (Machine.closeOne apply (n, b) m).1.SoundAs k := by
  unfold Machine.closeOne
  dsimp only
  split
  · exact h.wrS
  · split
    · exact h.wrS.writeChild.modPort
    · exact h.wrS.portFault

theorem closureDone {meas} : (Machine.closureDone meas n).SoundAs k :=
  h.when fun h => h.foldlFst (fun h => h.closeOne) |>.modTnode.wr

theorem trackOne {m} : (Machine.trackOne n m).SoundAs k :=
  ite (h.wrS.thenIf (fun h => h.portFault) |>.writeChild.modPort) (h.wrS.thenIf fun h => h.portFault)

theorem closureTracking {meas} : (Machine.closureTracking meas n).SoundAs k := h.when fun h => h.overAll (fun h => h.trackOne) |>.modTnode

theorem podWrite {p v} : (Machine.podWrite p v n).SoundAs k := h.accept fun h => h.modPort

theorem podDone {p} : (Machine.podDone p n).SoundAs k := h.when fun h => h.wrS.wr.modPort.elseThen fun h => h.portFault

/-! #### The time-to-digital converters -/

theorem captureEnter {i rec} : (n.captureEnter i rec).SoundAs k := h.modCap.ite (h.bump.modCap.countCause.ite h.bump.modCap.fault)

theorem captureDue {i} : (n.captureDue i).SoundAs k := h.ite (h.modCap.overAll fun h => h.captureEnter)

theorem captureTake : n.captureTake.SoundAs k := h.ite (h.same rfl)

theorem capture {i stamp coarse} : (n.capture i stamp coarse).SoundAs k := h.when fun h => h.modCap

theorem openGate {g mode opened closed} : (n.openGate g mode opened closed).SoundAs k := h.modRegr

theorem rollGate {g} : (n.rollGate g).SoundAs k := h.when fun h => h.openGate

theorem offerRegr {i stamp coarse} : (n.offerRegr i stamp coarse).SoundAs k := h.overAll fun h => h.rollGate.modRegr

theorem converts {c hit} : (n.converts c hit).SoundAs k := h.modChan

theorem stampEdge {i code} : (n.stampEdge i code).SoundAs k := h.converts.modEv.offerEdge.offerRegr.capture

theorem acceptEdge {i code} : (n.acceptEdge i code).SoundAs k := h.wr.modEv.elseThen fun h => h.stampEdge

theorem portEdge {c code} : (n.portEdge c code).SoundAs k := h.converts.modChan.offerEdge

theorem takeHit {c code} : (n.takeHit c code).SoundAs k := h.when fun h => h.converts.modChan

theorem tdcEdge {c code falling hit} : (Machine.tdcEdge c code falling hit n).SoundAs k :=
  h.takeHit.ite (h.portEdge.ite (h.ite (h.bump.ite h.acceptEdge)))

theorem evFlag {c b v} : (n.evFlag c b v).SoundAs k := h.wrBits.ite h

theorem calFlag {c v} : (n.calFlag c v).SoundAs k := h.evFlag.ite h.wrBits

theorem dllChange {c locked} : (Machine.dllChange c locked n).SoundAs k := h.ite (h.modChan.evFlag.wr.thenIf fun h => h.fault)

theorem startCollection {c} : (n.startCollection c).SoundAs k := h.modChan

theorem calPeriod {c} : (Machine.calPeriod c n).SoundAs k := h.when fun h => h.startCollection

theorem calibrate : (Machine.calibrate n).SoundAs k := h.overAll (fun h => h.startCollection) |>.answer

theorem bulkHits {c counts} : (n.bulkHits c counts).SoundAs k := h.when fun h => h.modChan

theorem collectionEnd {c counts} : (Machine.collectionEnd c counts n).SoundAs k :=
  h.bulkHits.when fun h => h.modChan.bump.calFlag.ite (h.modChan.bump.startCollection.thenIf fun h => h.calFlag.fault)

theorem reservedSlot : n.reservedSlot.SoundAs k := h.same rfl

theorem newTables : n.newTables.SoundAs k := h.overAll fun h => h.wr.modChan

theorem openSlot {k'} : (n.openSlot k').SoundAs k := h.modMslot

theorem postSlot {k'} : (n.postSlot k').SoundAs k := h.ite (h.wr.wr.thenIf fun h => h.bump)

theorem slotClose {k'} : (Machine.slotClose k' n).SoundAs k := h.when fun h => openSlot (h.postSlot.ite h)

theorem postGate {g r stopped} : (n.postGate g r stopped).SoundAs k := h.wr

theorem regrStop {g} : (Machine.regrStop g n).SoundAs k := h.when (fun h => h.rollGate.modRegr) |>.answer

theorem regrStart {mode g} : (Machine.regrStart mode g n).SoundAs k := h.openGate.answer

theorem regrEnd {g} : (Machine.regrEnd g n).SoundAs k := by
  unfold Machine.regrEnd
  dsimp only
  split
  · exact h.rollGate.postGate.modRegr
  · exact ite (h.rollGate.when fun h => h.postGate.modRegr) (h.rollGate.when fun h => h.postGate.modRegr)

/-! #### The Keystone clock -/

theorem priorityWrite {v} : (Machine.priorityWrite v n).SoundAs k := h.accept fun h => h.modKst

theorem esmcReceived {port pdu} : (Machine.esmcReceived port pdu n).SoundAs k := ite (h.overAll fun h => h.wr.bump.modRef) h.bump

theorem esmcTimeout {i} : (Machine.esmcTimeout i n).SoundAs k := by
  unfold Machine.esmcTimeout
  split
  · exact h
  · exact h.when fun h => h.wr.modRef.thenIf fun h => h.wr

theorem refBit {i b v} : (n.refBit i b v).SoundAs k := h.wrBits

theorem requalify {i} : (n.requalify i).SoundAs k := h.modRef.refBit.refBit.ite (h.modRef.refBit.refBit.fault.ite h)

theorem waitEnd {i} : (n.waitEnd i).SoundAs k := h.modRef.refBit.ite h

theorem rollMonitor {i} : (n.rollMonitor i).SoundAs k := h.when fun h => h.modMon

theorem monitorGateEnd {i} : (Machine.monitorGateEnd i n).SoundAs k := by
  unfold Machine.monitorGateEnd
  dsimp only
  split
  · exact h.rollMonitor
  · exact h.rollMonitor.modMon.thenIf (fun h => h.wrS) |>.refBit

theorem refMarker {i} : (n.refMarker i).SoundAs k := h.refBit.monitorGateEnd.wr.refBit.requalify

theorem exitLocked : n.exitLocked.SoundAs k := h.wr.modKst.elseThen fun h => h.wrS

theorem setRef {st} : (n.setRef st).SoundAs k := modKst (wr (h.exitLocked.ite h))

theorem enterHoldover : n.enterHoldover.SoundAs k := h.setRef.fault

theorem enterLost : n.enterLost.SoundAs k := h.setRef.fault

theorem buildOut {new ec} : (n.buildOut new ec).SoundAs k := h.wr.wr.modRef.modKst

theorem switchRecord {old new ec} : (n.switchRecord old new ec).SoundAs k := h.fault

theorem noEntry : n.noEntry.SoundAs k :=
  ite (ite (h.wr.enterLost.ite h.wr.enterHoldover) h.wr.setRef) (h.wr.thenIf fun h => h.exitLocked.enterHoldover.ite h.exitLocked.setRef)

theorem transition {sel} : (n.transition sel).SoundAs k := by
  unfold Node.transition
  dsimp only
  split
  · exact h.noEntry
  · exact ite (h.ite (switchRecord (buildOut (h.setRef.ite h)))) h.buildOut.setRef

theorem setAnchor {a sec} : (n.setAnchor a sec).SoundAs k := h.modKst.wr

theorem postFlags : n.postFlags.SoundAs k := h.wr.ite h

theorem secondRoll : (Machine.secondRoll n).SoundAs k := h.when fun h => h.setAnchor

theorem labelWrite {v} : (Machine.labelWrite v n).SoundAs k := h.accept fun h => h.modKst

theorem timeEdge {stamp} : (Machine.timeEdge stamp n).SoundAs k := by
  unfold Machine.timeEdge
  dsimp only
  split
  · exact h
  · refine h.when fun h => postFlags (modKst (wrS ?_))
    split
    · exact h.setAnchor.modKst
    · exact h

theorem realignTick : n.realignTick.SoundAs k := h.ite (ite (modKst (h.wr.ite h)) h.setAnchor.modKst)

theorem dcoTick : n.dcoTick.SoundAs k := h.ite (ite (h.ite h.modKst) h.wrS.modKst)

theorem setDco {demand tu} : (n.setDco demand tu).SoundAs k := modKst (wrS (h.fault.ite h))

theorem servoLock {e} : (n.servoLock e).SoundAs k := ite (h.setRef.ite h.modKst) (h.setRef.ite h.modKst)

theorem servoUpdate : (Machine.servoUpdate n).SoundAs k := h.when fun h => h.modRef.modKst.elseThen fun h => h.modKst.setDco.servoLock

theorem budgetReached : (Machine.budgetReached n).SoundAs k := h.when fun h => h.enterLost

theorem historyRecord : (Machine.historyRecord n).SoundAs k := h.when fun h => h.modKst

theorem dacDiscipline : (Machine.dacDiscipline n).SoundAs k := h.when fun h => h.wr.modKst

theorem tableStep : n.tableStep.SoundAs k := by
  unfold Node.tableStep
  split
  · exact h.wr.modKst.ite h
  · exact h

theorem ownSelect : n.ownSelect.SoundAs k := h.modKst

theorem refStatus {i} : (n.refStatus i).SoundAs k := h.refBit.refBit.wr

theorem keystoneMarker {ranks track} : (Machine.keystoneMarker ranks track n).SoundAs k :=
  h.when fun h =>
    h.overAll (fun h => h.modRef) |>.overAll (fun h => h.refMarker) |>.overAll (fun h => h.waitEnd) |>.andThen fun h =>
      andThen (h.tableStep.transition.modKst.ite h.tableStep.ownSelect) fun h =>
        andThen (postFlags (overAll (h.wr.ite h) fun h => h.refStatus)) fun h => thenIf (h.wr.wr.ite h) fun h => h.sendTwin

theorem twinKeystoneReceived {p} : (Machine.twinKeystoneReceived p n).SoundAs k := h.onMsg fun h => h.ite h.wr.wr.wr.modKst.setAnchor

theorem takeover : (Machine.takeover n).SoundAs k := h.when fun h => h.wr.wrS.wr.modKst.andThen fun h => h.wr.wr.fault.ite h.wr.wr

theorem refEdge {i stamp coarse} : (n.refEdge i stamp coarse).SoundAs k := h.rollMonitor.modMon.elseThen fun h => h.modRef

theorem hubEdge {c code falling hit} : (Machine.hubEdge c code falling hit n).SoundAs k := h.tdcEdge.thenIf fun h => h.refEdge

theorem fireOut {k' x} : (n.fireOut k' x).SoundAs k := h.ite (h.modOut.bump.offerEdge.ite h.modOut.bump)

theorem fireBefore {k' limit} : (n.fireBefore k' limit).SoundAs k := by
  unfold Node.fireBefore
  split
  · exact h.fireOut.ite h
  · exact h

theorem outputEffective {k'} : (Machine.outputEffective k' n).SoundAs k := by
  unfold Machine.outputEffective
  split
  · exact h
  · exact h.fireBefore.modOut

theorem outputPulse {k'} : (Machine.outputPulse k' n).SoundAs k := h.outputEffective.fireBefore

theorem outsFall : n.outsFall.SoundAs k := h.same rfl

/-! #### Time bases -/

theorem baseTick {k'} : (n.baseTick k').SoundAs k := h.modBase

theorem residTick : n.residTick.SoundAs k := h.ite h.modHall.wrS

theorem tb0Tick : n.tb0Tick.SoundAs k := h.ite (modHall (h.residTick.ite h.baseTick))

theorem basesMark : n.basesMark.SoundAs k := h.overAll (fun h => h.ite h.modBase) |>.modHall

theorem basesTick : n.basesTick.SoundAs k := h.overAll (fun h => h.baseTick) |>.tb0Tick

theorem tbCommand {k' op apply arg} : (Machine.tbCommand k' op apply arg n).SoundAs k := h.modBase.wr.answer.ite h.wr.answer

theorem tbApply {k'} : (Machine.tbApply k' n).SoundAs k :=
  h.when fun h => h.modBase.wr.wr.ite (ite (h.modBase.wr.ite h.modBase.wr.wr) (h.modBase.wr.ite h.modBase.wr))

theorem commandsTick : n.commandsTick.SoundAs k := h.overAll fun h => h.tbApply

theorem slewEnd {k'} : (Machine.slewEnd k' n).SoundAs k := h.when fun h => h.modBase.wr

theorem incrementWrite {k' v} : (Machine.incrementWrite k' v n).SoundAs k := h.accept fun h => h.wr

theorem applyAnchor {old} : (n.applyAnchor old).SoundAs k := h.modHall.wr.modHall.wrS.ite h.modHall.wr.wrS.markSec.fault

theorem anchorWrite {v} : (Machine.anchorWrite v n).SoundAs k := h.tb0Tick.wr.bump.thenIf (fun h => h.applyAnchor) |>.answer

theorem modeChange {v} : (Machine.modeChange v n).SoundAs k :=
  h.rwsWrite fun h => h.tb0Tick.elseThen fun h => h.modBase.wr.ite (h.thenIf (fun h => h.modBase.wr) |>.wr.applyAnchor)

theorem anchorDistribution {dies synced} : (Machine.anchorDistribution dies synced n).SoundAs k :=
  h.when fun h => ite (h.overAll (fun h => h.relayWrite) |>.modKst) (h.overAll fun h => h.relayWrite)

theorem captureRead {i} : (Machine.captureRead i n).SoundAs k := by
  unfold Machine.captureRead
  dsimp only
  split
  · exact h.answerData
  · exact h.modCap.answerData

theorem drivePulse {k' x} : (n.drivePulse k' x).SoundAs k := h.bump.modPulse.ite h.bump.modPulse.offerEdge

theorem putPulse {k' x} : (n.putPulse k' x).SoundAs k := h.ite (h.bump.ite (h.drivePulse.ite h.modPulse))

theorem pulseSettings {k'} : (n.pulseSettings k').SoundAs k := by
  unfold Node.pulseSettings
  dsimp only
  refine h.ite ?_
  split
  · exact h
  · exact h.modPulse

theorem pulsePlace {k'} : (Machine.pulsePlace k' n).SoundAs k := by
  unfold Machine.pulsePlace
  extract_lets n1 o put
  have hput {m x x1} (h : m.SoundAs k) : (put m x x1).SoundAs k := by
    unfold put
    split
    · exact h.putPulse.ite h
    · exact h
  split
  · exact hput h.pulseSettings
  · exact hput (hput h.pulseSettings)

theorem pulseTick {k'} : (n.pulseTick k').SoundAs k := h.ite (h.modPulse.overAll fun h => h.drivePulse)

theorem irqAck {v} : (Machine.irqAck v n).SoundAs k := h.wr.answer

/-! #### Operations of steps -/

theorem taint {c reason} : (n.taint c reason).SoundAs k := ite (wr (h.bump.ite h)) h

theorem stopWalk {c} : (n.stopWalk c).SoundAs k := modCtx (h.wr.ite h)

theorem placeAbort {c} : (n.placeAbort c).SoundAs k := h.ite h.modBus

theorem abortStep {c cause} : (n.abortStep c cause).SoundAs k := h.placeAbort.stopWalk.modCtx.ite h

theorem raiseWave {c cause} : (n.raiseWave c cause).SoundAs k := abortStep (h.ite (h.modCtx.bump.thenIf fun h => h.overAll fun h => h.queueWave))

theorem raiseHubWave {span epoch ctx cause} : (n.raiseHubWave span epoch ctx cause).SoundAs k := h.bump.overAll fun h => h.queueWave

theorem deadlineFault {c cause obj detail} : (n.deadlineFault c cause obj detail).SoundAs k := h.ctxFault.raiseWave

theorem postOutcome {c oc cause} : (n.postOutcome c oc cause).SoundAs k := h.wr.bump.irqEvent

/-! #### Viaducts -/

theorem vdBit {v b x} : (n.vdBit v b x).SoundAs k := h.wrBits

theorem flushCell {v} : (n.flushCell v).SoundAs k := h.ite h.modCell.wr.wr.wr.wrBits

theorem flushFirst {v} : (n.flushFirst v).SoundAs k := h.flushCell.ite h

theorem flushRegion {r ctx} : (n.flushRegion r ctx).SoundAs k := h.overAll fun h => h.flushCell

theorem viaductWrite {v data} : (Machine.viaductWrite v data n).SoundAs k :=
  ite
    h.flushFirst.bump
    (h.flushFirst.bump.elseThen fun hm => ite (hm.vdBit.vdBit.elseThen fun h => h.modCell.fault) h.flushFirst.modCell.bump.wr.wr)

theorem deliver {v} : (n.deliver v).SoundAs k := by
  unfold Node.deliver
  split
  · exact h
  · exact h.modCell.wr

theorem noDelivery {v} : (n.noDelivery v).SoundAs k := h.modCell

theorem lateCrossing {v cycle} : (n.lateCrossing v cycle).SoundAs k :=
  h.noDelivery.vdBit.bump.wr.wrBits.andThen fun h => ite (h.fault.thenIf fun h => h.raiseWave) h.fault.modCell.taint

theorem viaductRead {v cycle} : (Machine.viaductRead v cycle n).SoundAs k :=
  h.flushFirst.noDelivery.ite (h.flushFirst.elseThen fun h => ite (h.deliver.thenIf fun h => h.taint) h.lateCrossing)

theorem viaductStalled {v} : (Machine.viaductStalled v n).SoundAs k := h.flushFirst.when fun h => h.deliver.taint

theorem viaductTick {v} : (Machine.viaductTick v n).SoundAs k := by
  unfold Machine.viaductTick
  dsimp only
  refine h.flushFirst.ite ?_
  split
  · exact h.flushFirst.deliver.taint.ite h.flushFirst.noDelivery
  · exact h.flushFirst.noDelivery

theorem sever {v} : (n.sever v).SoundAs k := h.modCell.vdBit.vdBit.wr

theorem severRegion {r} : (n.severRegion r).SoundAs k := h.overAll fun h => h.sever

theorem viaductSever {v} : (Machine.viaductSever v n).SoundAs k := h.when fun h => h.sever

/-! #### Agents -/

theorem ringStep {ringX ringY} : (n.ringStep ringX ringY).SoundAs k := h.modBus.ite h.modBus.wr.wr

theorem busFrameSend {ringX ringY} : (Machine.busFrameSend ringX ringY n).SoundAs k := by
  unfold Machine.busFrameSend
  dsimp only
  refine h.when fun h => ringStep ?_
  split
  · exact h.modBus.elseThen fun h => h.modCtx
  · exact h.modBus

theorem laneStatus {r before built} : (n.laneStatus r before built).SoundAs k := h.wrBits.wrBits.wrBits.thenIf (fun h => h.wrBits) |>.modAgent

theorem preferredWrite {r v} : (Machine.preferredWrite r v n).SoundAs k := h.rwsWrite fun h => h.wr.laneStatus

theorem busFrameReceived {r lane frame built} : (Machine.busFrameReceived r lane frame built n).SoundAs k :=
  thenIf (laneStatus (modAgent (h.ite h.bump))) fun h => h.addTo.modAgent

theorem tickLaneLost {r lane noClock built} : (Machine.tickLaneLost r lane noClock built n).SoundAs k :=
  h.when fun h => h.modAgent.laneStatus.regionFault

theorem putRecord {r blob} : (n.putRecord r blob).SoundAs k := h.wr.bump

theorem postRecord {r x flags comp cyc} : (n.postRecord r x flags comp cyc).SoundAs k := by
  unfold Node.postRecord
  split
  · exact h.putRecord
  · exact h.takeFree.putRecord

theorem noteEnd {r x fin cutLate} : (n.noteEnd r x fin cutLate).SoundAs k := h.modCtx

theorem armWatch {r on} : (n.armWatch r on).SoundAs k := h.ite h.wr.modRegion

theorem closeRun {r x fin cutLate} : (n.closeRun r x fin cutLate).SoundAs k := h.noteEnd.wr.modAgent.armWatch

theorem endRun {r flags cutLate cyc} : (n.endRun r flags cutLate cyc).SoundAs k := by
  unfold Node.endRun
  split
  · exact h
  · exact h.postRecord.closeRun

theorem resetLocals {r} : (n.resetLocals r).SoundAs k := h.modAgent

theorem actionSweep {r ctx} : (n.actionSweep r ctx).SoundAs k := h.flushRegion.resetLocals

theorem dropAction {r a} : (n.dropAction r a).SoundAs k := h.modAgent

theorem startRun {r a edge cyc} : (n.startRun r a edge cyc).SoundAs k := h.endRun.modAgent.actionSweep.wr.armWatch.modCtx

theorem cutAct {r cyc} : (n.cutAct r cyc).SoundAs k := by
  unfold Node.cutAct
  split
  · exact h
  · refine actionSweep ?_
    dsimp only
    split
    · exact h.modAgent.dropAction
    · exact h.modAgent.dropAction.elseThen fun h => h.modAgent.endRun

theorem agentAbort {r ctx cyc} : (n.agentAbort r ctx cyc).SoundAs k := by
  unfold Node.agentAbort
  dsimp only
  refine actionSweep ?_
  split
  · exact h.modAgent.thenIf fun h => h.endRun
  · exact h.modAgent

theorem agentAbortAct {r cyc} : (Machine.agentAbortAct r cyc n).SoundAs k := by
  unfold Machine.agentAbortAct
  split
  · exact h
  · exact h.agentAbort.dropAction

theorem agentCut {r cyc} : (Machine.agentCut r cyc n).SoundAs k := h.agentAbortAct.cutAct

theorem launchAct {r edge cyc} : (n.launchAct r edge cyc).SoundAs k := by
  unfold Node.launchAct
  split
  · exact h
  · exact h.dropAction.ite h.startRun.dropAction.agEvents

theorem agentLaunch {r edge cyc} : (Machine.agentLaunch r edge cyc n).SoundAs k := h.agentCut.launchAct

theorem noLaneExpiry {r cyc} : (Machine.noLaneExpiry r cyc n).SoundAs k := by
  unfold Machine.noLaneExpiry
  split
  · exact h
  · refine h.when fun h => ?_
    dsimp only
    split
    · exact h.wrBits.agentAbort
    · exact h.wrBits

theorem bypassShow {r} : (n.bypassShow r).SoundAs k := h.wrBits

theorem bypass {r on} : (n.bypass r on).SoundAs k := h.modAgent.bypassShow

theorem laneDiff {r diff} : (n.laneDiff r diff).SoundAs k := h.wr.modAgent.ite h.modAgent

theorem slackCheck {r x} : (n.slackCheck r x).SoundAs k := h.modAgent.fault.irqEvent.ite h.modAgent

theorem ledgerMarker {r cyc edge} : (n.ledgerMarker r cyc edge).SoundAs k := by
  unfold Node.ledgerMarker
  split
  · exact h
  · exact h.ite h.slackCheck.modAgent

theorem agentMarker {r cyc edge diff new} : (Machine.agentMarker r cyc edge diff new n).SoundAs k := by
  unfold Machine.agentMarker
  dsimp only
  refine h.when fun h => agEvents (modAgent (ledgerMarker (laneDiff ?_)))
  split
  · refine modAgent ?_
    split
    · exact h.agentCut.takeFree
    · exact h.agentCut
  · exact h.agentCut

theorem lanesDisagree {r} : (Machine.lanesDisagree r n).SoundAs k := h.when fun h => h.modAgent.regionFault

theorem unpostLate {r x} : (n.unpostLate r x).SoundAs k := h.wr.ite h

theorem runComplete {r edge} : (Machine.runComplete r edge n).SoundAs k := by
  unfold Machine.runComplete
  split
  · exact h
  · exact h.unpostLate.closeRun.putRecord.ite h.unpostLate.closeRun.modAgent

theorem runDeadline {r cyc} : (Machine.runDeadline r cyc n).SoundAs k := by
  unfold Machine.runDeadline
  split
  · exact h
  · exact h.when fun h => h.modAgent.postRecord

theorem marginEpisode {r ticks} : (Machine.marginEpisode r ticks n).SoundAs k := by
  unfold Machine.marginEpisode
  dsimp only
  split
  · exact h.bump.addTo.modAgent.agEvents
  · exact h.bump.addTo.modAgent.agEvents.modAgent.thenIf fun h => h.fault

theorem fchgGrant {r} : (Machine.fchgGrant r n).SoundAs k := by
  unfold Machine.fchgGrant
  refine h.when fun h => ?_
  dsimp only
  split
  · exact h.modAgent.taint
  · exact h.modAgent

theorem fchgAck {r cyc edge} : (Machine.fchgAck r cyc edge n).SoundAs k := h.when fun h => h.modAgent

theorem newPeriod {r cyc edge} : (n.newPeriod r cyc edge).SoundAs k := h.modAgent.wr

theorem agentTicks {r} : (n.agentTicks r).SoundAs k := by
  unfold Node.agentTicks
  extract_lets n2 n1 n3 n4
  have hn1 : n1.SoundAs k := by
    unfold n1
    split
    · exact h.ite (h.modAgent.thenIf fun h => h.newPeriod)
    · exact h
  have hn3 : n3.SoundAs k := by
    unfold n3
    split
    · exact hn1.putRecord.modAgent.ite hn1
    · exact hn1
  have hn4 : n4.SoundAs k := by
    unfold n4
    split
    · exact hn3.wr.modAgent.ite hn3
    · exact hn3
  exact hn4.bump.modAgent.ite hn4

theorem agentsTick : n.agentsTick.SoundAs k := h.overAll fun h => h.agentTicks

theorem fchgReqLow {r} : (Machine.fchgReqLow r n).SoundAs k := by
  unfold Machine.fchgReqLow
  dsimp only
  refine h.when fun h => bump (modAgent ?_)
  split
  · exact h.newPeriod
  · exact h

theorem stopOverrun {r} : (Machine.stopOverrun r n).SoundAs k := by
  unfold Machine.stopOverrun
  dsimp only
  split
  · exact h
  · exact h.when fun h => h.modAgent.regionFault

/-! #### The end of a step -/

theorem sendTag {c step tag} : (n.sendTag c step tag).SoundAs k := h.sendAll

theorem settleDeferred {c oc} : (n.settleDeferred c oc).SoundAs k := h.modClr

theorem present {r core status tick} : (n.present r core status tick).SoundAs k := h.modAgent.thenIf fun h => h.agEvents

theorem endWait {w core host} : (n.endWait w core host).SoundAs k := h.modTally.wr.ite h.modTally.present

theorem clearTallies {c} : (n.clearTallies c).SoundAs k := h.overAll (fun h => h.endWait) |>.modTally.addTo

theorem fault53 {c h' d status blocks} : (n.fault53 c h' d status blocks).SoundAs k := h.bump.ctxFault

theorem releaseAcc {c h'} : (n.releaseAcc c h').SoundAs k := h.modClr

theorem discardAccs {c} : (n.discardAccs c).SoundAs k := h.overAll fun h => h.releaseAcc.fault53

theorem dropIssues {f} : (n.dropIssues f).SoundAs k := h.modClr

theorem dropMint {c step} : (n.dropMint c step).SoundAs k := h.modMint

theorem tagHistory {c step short} : (n.tagHistory c step short).SoundAs k := h.wrBits

theorem abortTag {c} : (n.abortTag c).SoundAs k := modCtx (dropMint (tagHistory (wr (takeFree (h.ite h.sendTag)))))

theorem openSettle {c} : (n.openSettle c).SoundAs k := h.wrBits.modCtx

theorem closeSettle {c} : (n.closeSettle c).SoundAs k := h.wrBits.modCtx

theorem toIdle {c} : (n.toIdle c).SoundAs k := h.wr.wr.modCtx

theorem endStep {c oc cause} : (n.endStep c oc cause).SoundAs k :=
  h.settleDeferred.clearTallies.discardAccs.andThen fun h =>
    andThen (h.dropIssues.abortTag.ite h.openSettle) fun h => postOutcome (toIdle (h.ite h.wr))

theorem endUnfired {c cause} : (n.endUnfired c cause).SoundAs k := h.endStep

theorem waveStep {c cause} : (n.waveStep c cause).SoundAs k := h.raiseWave.thenIf fun h => h.endUnfired

theorem strikeStep {c cause obj detail} : (n.strikeStep c cause obj detail).SoundAs k := h.ctxFault.waveStep.thenIf fun h => h.placeAbort

theorem reviseOutcome {c cause} : (n.reviseOutcome c cause).SoundAs k :=
  ctxFault (irqEvent (closeSettle (h.wr.wr.bump.modClr.abortTag.ite h.wr.wr.bump.modClr.wr.tagHistory)))

theorem noteWave {p slot} : (n.noteWave p slot).SoundAs k := h.bump.wr

theorem waveActs {c cause} : (n.waveActs c cause).SoundAs k := h.endUnfired.ite (h.abortStep.ite (h.bump.thenIf fun h => h.reviseOutcome))

theorem waveReceived {p} : (Machine.waveReceived p n).SoundAs k := by
  unfold Machine.waveReceived
  split
  · exact h
  · exact h.modLink.when fun h => h.noteWave.waveActs

theorem discardJournal : n.discardJournal.SoundAs k := h.addTo.modJrnl

theorem endInstance : n.endInstance.SoundAs k :=
  ((h.overAll (fun h => modCtx (wr (toIdle (dropMint (clearTallies (h.placeAbort.stopWalk.ite h)))))) |>.modClr.modTally.modMint).discardJournal).wr

theorem endAborted {c} : (n.endAborted c).SoundAs k := by
  unfold Node.endAborted
  split
  · exact h.endStep.ite h
  · exact h

/-! #### The journal -/

theorem noteArm {c step fire} : (n.noteArm c step fire).SoundAs k := h.modCtx

theorem loseRecord {ctx seq typ ref} : (n.loseRecord ctx seq typ ref).SoundAs k := h.bump.ctxFault.taint

theorem sendRecord {p r} : (n.sendRecord p r).SoundAs k := h.send.events.ite h

theorem journal {typ ctx bytes} : (n.journal typ ctx bytes).SoundAs k :=
  h.ite (h.modJrnl.loseRecord.ite (h.modJrnl.overAll (fun h => h.sendRecord) |>.modJrnl))

theorem journalKey : n.journalKey.SoundAs k := h.journal

/-! #### Tallies -/

theorem journaled {f} (hf : ∀ {m}, m.SoundAs k → (f m).SoundAs k) : (n.journaled f).SoundAs k := h.bump.answer.ite (hf h)

theorem needsFn {fn f} (hf : ∀ {m}, m.SoundAs k → (f m).SoundAs k) : (n.needsFn fn f).SoundAs k := ite (hf h) h.bump.answer

theorem modLocal {r t f} : (n.modLocal r t f).SoundAs k := h.modAgent

theorem localRelease {r t cyc} : (n.localRelease r t cyc).SoundAs k :=
  ite (h.modAgent.modLocal.overAll (fun h => h.modAgent) |>.agEvents) (h.modLocal.overAll fun h => h.present)

theorem tallyFault {cause c u obj detail wave} : (n.tallyFault cause c u obj detail wave).SoundAs k := h.fault.thenIf fun h => h.waveStep

theorem tallyError {r core tick} : (n.tallyError r core tick).SoundAs k := h.present.bump

theorem localArrive {r t core c} : (n.localArrive r t core c).SoundAs k := h.modLocal.tallyFault.ite h.modLocal.modLocal

theorem localSignal {r t core c k' target} : (n.localSignal r t core c k' target).SoundAs k := h.modLocal.ite (h.tallyFault.ite h.modLocal)

theorem localWait {r t core c arg} : (n.localWait r t core c arg).SoundAs k := h.modLocal

theorem modStally {c slot f} : (n.modStally c slot f).SoundAs k := h.modTally

theorem spanReject {u} : (n.spanReject u).SoundAs k := h.wr.ite (h.ite h.present)

theorem sendTally {kind c slot tick unit rest} : (n.sendTally kind c slot tick unit rest).SoundAs k := h.sendAll

theorem nextSeq {c slot unit} : (n.nextSeq c slot unit).2.SoundAs k := h.modStally

theorem spanSignal {q slot} : (n.spanSignal q slot).SoundAs k := h.nextSeq.sendTally

theorem spanArrive {q slot} : (n.spanArrive q slot).SoundAs k := h.modStally.sendTally

theorem modRel {c slot num f} : (n.modRel c slot num f).SoundAs k := h.modStally

theorem release {w num} : (n.release w num).SoundAs k := h.modTally.wr.wr.irqEvent.ite h.modTally.present

theorem countTaint {c slot num} : (n.countTaint c slot num).SoundAs k := h.ite h.modRel.bump

theorem taintBy {c slot num} : (n.taintBy c slot num).SoundAs k := h.overAll (fun h => h.taint.ite h) |>.elseThen fun h => h.countTaint

theorem releaseBy {w slot num} : (n.releaseBy w slot num).SoundAs k := h.taintBy.release

theorem holdBack {w} : (n.holdBack w).SoundAs k := h.modTally.thenIf fun h => h.wr

theorem ledgerShort {c u die chan tab cut} : (n.ledgerShort c u die chan tab cut).SoundAs k := by
  unfold Node.ledgerShort
  split
  · exact h
  · exact h.tallyFault

theorem letGo {w slot} : (n.letGo w slot).SoundAs k := by
  unfold Node.letGo
  dsimp only
  split
  · exact h
  · refine ite (h.releaseBy.ite h.holdBack) (h.releaseBy.ite (ite (holdBack (h.ite ?_)) (ite (releaseBy (h.ite h.modRel)) h.holdBack)))
    split
    · exact h.ledgerShort
    · exact h

theorem applyRel {x ledgerLate} : (n.applyRel x ledgerLate).SoundAs k := by
  unfold Node.applyRel
  dsimp only
  refine ite
      (h.modStally.modRel.modStally.modCtx.overAll fun h => h.releaseBy)
      (ite (h.modStally.modRel.modStally.overAll fun h => h.letGo) ?_)
  split
  · exact h.modStally.modRel.releaseBy
  · exact h.modStally.modRel.modStally.ite h.modStally.modRel.bump

theorem noAccount {x} : (n.noAccount x).SoundAs k := h.tallyFault

theorem keepRel {x} : (n.keepRel x).SoundAs k := h.modTally

theorem decideRel {x} : (n.decideRel x).1.SoundAs k := by
  unfold Node.decideRel
  extract_lets cut t y
  split
  · exact h.noAccount
  · split
    · split
      · dsimp only
        exact h.modRel
      · split
        · dsimp only
          split
          · exact h.modRel.ledgerShort
          · exact h
        · exact h
    · split
      · dsimp only
        exact h.modRel
      · exact h.ledgerShort.ite h

theorem waitNow {w slot mode} : (n.waitNow w slot mode).SoundAs k := by
  unfold Node.waitNow
  dsimp only
  refine ite (h.releaseBy.ite h) (ite ?_ (h.letGo.ite h))
  split
  · exact h.modStally.releaseBy
  · exact h

theorem spanWait {q slot mode} : (n.spanWait q slot mode).SoundAs k :=
  ite
    (h.spanReject.ite h.tallyError)
    (h.tallyFault.spanReject.ite (ite (sendTally (modTally (nextSeq (h.wr.ite h)))) (waitNow (modTally (h.wr.ite h)))))

theorem spanRequest {q} : (n.spanRequest q).SoundAs k :=
  h.spanReject.bump.ite (h.tallyFault.spanReject.ite (h.spanSignal.ite (h.spanArrive.ite h.spanWait)))

theorem localInit {r t mode parts} : (n.localInit r t mode parts).SoundAs k := h.modLocal

theorem localOp {r core req op cyc} : (n.localOp r core req op cyc).SoundAs k :=
  h.tallyError.elseThen fun hm =>
    ite (h.localInit.ite hm) (localRelease (h.modLocal.localSignal.ite (h.modLocal.localArrive.ite h.modLocal.localWait)))

theorem busTake {r core req cyc inside} : (n.busTake r core req cyc inside).SoundAs k :=
  h.modAgent.agEvents.tallyError.elseThen fun hm => ite (hm.ite h.modAgent.agEvents.spanRequest) (h.modAgent.agEvents.localOp.ite hm)

theorem busHeldOf {r below} : (n.busHeldOf r below).SoundAs k := h.modAgent.overAll fun h => h.busTake

theorem busNext {r cyc} : (n.busNext r cyc).SoundAs k := h.busHeldOf.modAgent

theorem busCycles {r cyc fuel} : (n.busCycles r cyc fuel).SoundAs k := by
  induction fuel generalizing n with
  | zero => exact h.busNext
  | succ fuel ih => exact h.busNext.andThen fun h => ite (h.ite h.busNext) (ih h)

theorem tallyBus {r core req cyc inside op} : (Machine.tallyBus r core req cyc inside op n).SoundAs k :=
  h.when fun h => ite (busTake (busHeldOf (h.ite h.busCycles))) (modAgent (busHeldOf (h.ite h.busCycles)))

theorem busTick : n.busTick.SoundAs k := h.overAll fun h => h.busNext.busHeldOf

theorem lateRel {x step} : (n.lateRel x step).SoundAs k :=
  h.takeFree.tallyFault.ite (h.modRel.decideRel.taint.elseThen fun h => h.applyRel.ite h.keepRel)

theorem immediateRel {x} : (n.immediateRel x).SoundAs k := by
  unfold Node.immediateRel
  dsimp only
  refine h.noAccount.ite (h.applyRel.ite (keepRel ?_))
  split
  · exact h.holdBack
  · exact h

theorem takeRel {x step} : (n.takeRel x step).SoundAs k := h.bump.ite (h.tallyFault.ite (h.immediateRel.ite (h.lateRel.ite h.keepRel)))

theorem releaseReceived {p moved} : (Machine.releaseReceived p moved n).SoundAs k :=
  h.onMsg fun h => h.bump.ite (h.ite (h.modStally.bump.thenIf (fun h => h.taint.countTaint) |>.takeRel))

theorem ledgerDecision {c slot} : (Machine.ledgerDecision c slot n).SoundAs k := h.overAll fun h => h.decideRel.modTally

theorem holdRel {x} : (n.holdRel x).SoundAs k := by
  unfold Node.holdRel
  split
  · exact h.holdBack
  · exact h

theorem releaseTick {c slot} : (Machine.releaseTick c slot n).SoundAs k := h.ledgerDecision.overAll fun h => h.modTally.applyRel.ite h.holdRel

theorem releasesDue : n.releasesDue.SoundAs k := h.overAll fun h => h.releaseTick

theorem decisionsDue : n.decisionsDue.SoundAs k := h.overAll fun h => h.ledgerDecision

theorem ledgerSweep : n.ledgerSweep.SoundAs k := h.overAll (fun h => h.modTally.applyRel) |>.overAll fun h => h.letGo

theorem ledgerReport {r account bytes} : (Machine.ledgerReport r account bytes n).SoundAs k :=
  h.when fun h => h.modAgent.agEvents.bump.ite h.modAgent.agEvents.modTally.bump.ledgerSweep

theorem accountWrite {first vals} : (Machine.accountWrite first vals n).SoundAs k := h.journaled fun h => h.accept fun h => h.wr.modTally

theorem translationWrite {c first vals} : (Machine.translationWrite c first vals n).SoundAs k := h.journaled fun h => h.accept fun h => h.wr

theorem withdraw {w slot} : (n.withdraw w slot).SoundAs k := by
  unfold Node.withdraw
  dsimp only
  split
  · exact h.nextSeq.sendTally.modTally.bump
  · exact h.nextSeq.sendTally

theorem spanTimeout {w} : (n.spanTimeout w).SoundAs k :=
  ite (tallyFault (endWait (bump (h.withdraw.ite h)))) (tallyFault (thenIf (endWait (bump (h.withdraw.ite h))) fun h => h.bump))

theorem localTimeout {r t core} : (n.localTimeout r t core).SoundAs k := by
  unfold Node.localTimeout
  dsimp only
  split
  · exact h
  · exact h.when fun h => h.modLocal.present.bump.thenIf (fun h => h.bump) |>.tallyFault

theorem timeoutOf {span c tally unit} : (n.timeoutOf span c tally unit).SoundAs k := by
  unfold Node.timeoutOf
  refine ite ?_ h.localTimeout
  split
  · exact h
  · exact h.when fun h => h.spanTimeout

theorem timeoutsDue : n.timeoutsDue.SoundAs k :=
  h.overAll (fun h => h.timeoutOf) |>.overAll fun h => h.overAll fun h => h.overAll fun h => h.timeoutOf

theorem hostOp {h' cmd op tick} : (n.hostOp h' cmd op tick).SoundAs k := h.wr.spanRequest

theorem hostCommand {h' cmd op tick} : (Machine.hostCommand h' cmd op tick n).SoundAs k :=
  h.journaled fun h => h.needsFn fun h => h.accept fun h => h.hostOp

theorem hostCancel {h'} : (n.hostCancel h').SoundAs k := by
  unfold Node.hostCancel
  split
  · exact h
  · exact endWait (h.withdraw.ite h)

/-! #### Tallies in a hub -/

theorem hubTallyFault {cause slot u obj detail} : (n.hubTallyFault cause slot u obj detail).SoundAs k := h.fault.raiseHubWave

theorem dropTally : n.dropTally.SoundAs k := h.bump

theorem passUp {p slot m} : (n.passUp p slot m).SoundAs k := h.modHtal.ite h.forward

theorem headWait {slot k' unit seq} : (n.headWait slot k' unit seq).SoundAs k := h.hubTallyFault.ite h.modHtal

theorem headCancel {slot k' unit} : (n.headCancel slot k' unit).SoundAs k := h.modHtal

theorem headSignal {slot k' unit tick seq m} : (n.headSignal slot k' unit tick seq m).SoundAs k := h.hubTallyFault.ite (h.ite h.modHtal)

theorem headTake {slot fire m} : (n.headTake slot fire m).SoundAs k := by
  unfold Node.headTake
  refine h.ite (ite (h.modHtal.thenIf (fun h => h.bump) |>.hubTallyFault) ?_)
  dsimp only
  split
  · exact h.modHtal.thenIf fun h => h.bump
  · exact ite
        (h.modHtal.thenIf (fun h => h.bump) |>.headCancel)
        (ite (h.modHtal.thenIf (fun h => h.bump) |>.headWait) (h.modHtal.thenIf (fun h => h.bump) |>.headSignal))

theorem headArrive {slot fire m} : (n.headArrive slot fire m).SoundAs k :=
  ite
    (ite (h.modHtal.thenIf (fun h => h.hubTallyFault) |>.bump.hubTallyFault) (h.modHtal.thenIf (fun h => h.hubTallyFault) |>.bump))
    (h.modHtal.thenIf fun h => h.hubTallyFault)

theorem headUp {p slot m} : (n.headUp p slot m).SoundAs k :=
  h.dropTally.ite (elseThen (h.sendTwin.ite h) fun h => h.bump.ite (h.dropTally.ite (h.modHtal.headArrive.ite h.modHtal.headTake)))

theorem combineSend {slot} : (Machine.combineSend slot n).SoundAs k := h.modHtal.overAll fun h => h.send

theorem sendRelease {barrier m} : (n.sendRelease barrier m).SoundAs k := h.sendAll.ite (h.sendTwin.overAll fun h => h.sendAt)

theorem oneRelease {slot tick unit value u} : (n.oneRelease slot tick unit value u).SoundAs k := h.modHtal.sendRelease

theorem decideCount {slot k' tick} : (n.decideCount slot k' tick).SoundAs k := h.modHtal.overAll fun h => h.oneRelease

theorem decideDirected {slot k' tick} : (n.decideDirected slot k' tick).SoundAs k := h.modHtal.overAll fun h => h.overAll fun h => h.oneRelease

theorem decideBroadcast {slot k' tick} : (n.decideBroadcast slot k' tick).SoundAs k := h.modHtal.overAll fun h => h.modHtal.oneRelease

theorem releaseUse {slot tick u} : (n.releaseUse slot tick u).SoundAs k := h.modHtal.sendRelease

theorem decideBarrier {slot k' tick} : (n.decideBarrier slot k' tick).SoundAs k :=
  h.overAll fun h => h.releaseUse.ite (h.ite (h.modHtal.thenIf fun h => h.hubTallyFault))

theorem decide_ {slot k' tick} : (n.decide_ slot k' tick).SoundAs k :=
  h.decideBarrier.ite (h.ite (h.decideCount.ite (h.decideDirected.ite h.decideBroadcast)))

theorem decideAgain {slot} : (n.decideAgain slot).SoundAs k := by
  unfold Node.decideAgain
  dsimp only
  split
  · exact h
  · split
    · exact h.decide_.ite h
    · exact h

theorem upMessage {p} : (Machine.upMessage p n).SoundAs k :=
  h.onMsg fun h => h.dropTally.elseThen fun hm => h.headUp.decideAgain.ite (hm.ite h.modHtal.passUp)

theorem takeUps : n.takeUps.SoundAs k := h.overAll fun h => h.overAll fun h => h.upMessage

theorem slotDecision {slot} : (Machine.slotDecision slot n).SoundAs k := by
  unfold Machine.slotDecision
  refine h.takeUps.when fun h => ?_
  split
  · exact h
  · dsimp only
    split
    · exact h.modHtal
    · refine h.modHtal.ite ?_
      split
      · exact h.modHtal
      · exact h.modHtal.decide_.modHtal

theorem immediateDecision {slot} : (Machine.immediateDecision slot n).SoundAs k := h.takeUps.when fun h => h.decide_.modHtal

theorem noteCopy {key} : (n.noteCopy key).SoundAs k := h.same rfl

theorem handedRelease {slot m} : (n.handedRelease slot m).SoundAs k := h.takeFree.bump.fault.ite (h.overAll fun h => h.sendAt)

theorem downForward {p} : (Machine.downForward p n).SoundAs k :=
  h.onMsg fun h =>
    ite
      h.dropTally
      (ite
        h
        (ite
          h.noteCopy.modHtal.handedRelease
          (h.noteCopy.modHtal.overAll (fun h => h.forward) |>.thenIf fun h => h.overAll fun h => h.forward)))

/-! #### Clearing -/

theorem descriptorWrite {d v} : (Machine.descriptorWrite d v n).SoundAs k :=
  h.journaled fun h => h.accept fun h => h.wr.wr.elseThen fun h => h.keyInput

theorem refusedContrib {c} : (n.refusedContrib c).SoundAs k := ite (h.waveStep.ite h) h.taint

theorem takeBlock {c h' block} : (n.takeBlock c h' block).SoundAs k := h.modClr.bump

theorem contributionWrite {c h' block} : (Machine.contributionWrite c h' block n).SoundAs k :=
  h.needsFn fun h => h.answer.ite (h.takeBlock.wr.answer.ite h.wr.fault53.refusedContrib.answer)

theorem freeze {c h' d} : (n.freeze c h' d).2.SoundAs k := by
  unfold Node.freeze
  split
  · exact h
  · dsimp only
    split
    · exact h.releaseAcc
    · exact h.releaseAcc.fault53.refusedContrib

theorem defer {c h' d elems sends} : (n.defer c h' d elems sends).2.SoundAs k := by
  unfold Node.defer
  dsimp only
  split
  · exact h.modClr
  · exact h

theorem issue {c h' d e deferred elems} : (n.issue c h' d e deferred elems).SoundAs k := by
  unfold Node.issue
  dsimp only
  split
  · exact h.modClr.deadlineFault
  · exact h.modClr.bump.overAll fun h => h.overAll fun h => h.sendAt

theorem clearAt {c h' d e every} : (n.clearAt c h' d e every).SoundAs k := h.freeze.issue.ite (h.freeze.defer.issue.ite h.freeze.defer.bump)

theorem clearFault {cause p m detail} : (n.clearFault cause p m detail).SoundAs k := h.fault.raiseHubWave

theorem openInstance {e m} : (n.openInstance e m).SoundAs k := bump (modEng (h.bump.ite h))

theorem takePartial {e p m} : (n.takePartial e p m).SoundAs k := by
  unfold Node.takePartial
  dsimp only
  split
  · exact h.bump
  · exact h.modEng.ite (h.clearFault.ite (h.clearFault.ite (h.clearFault.ite h.modEng)))

theorem partialReceived {p} : (Machine.partialReceived p n).SoundAs k :=
  h.onMsg fun h => h.clearFault.ite (h.clearFault.ite (h.takePartial.ite (h.bump.ite h.openInstance.takePartial)))

theorem sendGroup {e grp} : (n.sendGroup e grp).SoundAs k :=
  h.modEng.elseThen fun h => h.elseThen (fun h => h.modEng.thenIf fun h => h.sendAt) |>.modEng.overAll fun h => h.sendAt

theorem releaseInstance {e} : (n.releaseInstance e).SoundAs k := h.modEng.bump.ite h

theorem elementSendUp {e} : (Machine.elementSendUp e n).SoundAs k := h.when fun h => h.overAll (fun h => h.sendGroup) |>.releaseInstance

theorem clearDown {due m} : (n.clearDown due m).SoundAs k := h.overAll fun h => h.sendAt

theorem roundGroup {e grp} : (n.roundGroup e grp).SoundAs k := by
  unfold Node.roundGroup
  refine h.ite ?_
  dsimp only
  split
  · exact h.modEng.overAll fun h => h.clearDown
  · exact h.modEng.overAll (fun h => h.clearDown) |>.modEng.bump.fault

theorem headRound {e} : (Machine.headRound e n).SoundAs k := h.when fun h => h.overAll fun h => h.roundGroup

theorem endStepNo {span ctx bits19} : (n.endStepNo span ctx bits19).2.SoundAs k := by
  unfold Node.endStepNo
  dsimp only
  split
  · exact h
  · split
    · exact h
    · split
      · exact h
      · exact h.takeFree

theorem headSendEnd {e} : (Machine.headSendEnd e n).SoundAs k :=
  h.when fun h => h.overAll (fun h => h.clearDown) |>.endStepNo.clearDown.modEng.bump.releaseInstance

theorem resultForward {p} : (Machine.resultForward p n).SoundAs k := h.onMsg fun h => h.bump.ite ((h.same (by rfl)).overAll fun h => h.enqueue)

theorem makePresent {i same} : (n.makePresent i same).SoundAs k := by
  unfold Node.makePresent
  split
  · exact h
  · exact h.modClr.wr.bump.irqEvent

theorem resultReceived {p} : (Machine.resultReceived p n).SoundAs k := by
  unfold Machine.resultReceived
  dsimp only
  refine h.onMsg fun h => ?_
  split
  · exact h.bump
  · refine h.bump.ite (h.ite ?_)
    split
    · exact h.strikeStep
    · exact h.modClr.thenIf fun h => h.makePresent

theorem resultTimeout {c h'} : (Machine.resultTimeout c h' n).SoundAs k := by
  unfold Machine.resultTimeout
  split
  · exact h
  · exact h.when fun h => h.dropIssues.bump.strikeStep

theorem engWrite {e v} : (n.engWrite e v).SoundAs k :=
  ite (h.needsFn fun h => h.forSpan fun h => h.accept fun h => h.wr.modEng) (h.accept fun h => h.wr.modEng)

theorem storageError {x k'} : (Machine.storageError x k' n).SoundAs k := h.fault.raiseHubWave.ite h.strikeStep

theorem discardEngines {span epoch ctx} : (n.discardEngines span epoch ctx).SoundAs k := h.overAll fun h => h.modEng.bump.ite h

theorem slotReceived {p} : (Machine.slotReceived p n).SoundAs k := by
  unfold Machine.slotReceived
  split
  · exact h
  · exact h.modLink.spreadSlot.elseThen fun h => h.discardEngines.noteWave

theorem wavesFirst : n.wavesFirst.SoundAs k := h.overAll fun h => h.overAll fun h => h.slotReceived

theorem partialsBelow {q} : (n.partialsBelow q).SoundAs k := h.wavesFirst.overAll fun h => h.overAll fun h => h.partialReceived

theorem partialsFirst : n.partialsFirst.SoundAs k := h.partialsBelow

/-! #### The sequencer -/

theorem changeSlot {t f} (hf : ∀ {m}, m.SoundAs k → (f m).SoundAs k) : (n.changeSlot t f).SoundAs k := elseThen (hf h) fun h => h.keyInput

theorem touchSlot {t} : (n.touchSlot t).SoundAs k := h.changeSlot fun h => h.wr.modTslot

theorem tableCommit {t} : (Machine.tableCommit t n).SoundAs k := h.journaled fun h => h.needsFn fun h => h.accept fun h => h.touchSlot.modTslot

theorem tableCommitDone {t} : (Machine.tableCommitDone t n).SoundAs k :=
  h.when fun h => h.changeSlot fun h => h.wr.wr.wr.modTslot.andThen fun h => h.wr.ite h.wr.fault

theorem tableEmpty {t} : (Machine.tableEmpty t n).SoundAs k :=
  h.journaled fun h => h.accept fun h => h.changeSlot fun h => h.overAll (fun h => h.wr) |>.modTslot

theorem tableStorageError {t k'} : (Machine.tableStorageError t k' n).SoundAs k :=
  h.when fun h => h.changeSlot (fun h => h.wr.wr) |>.andThen fun h => h.fault.ite (h.overAll fun h => h.strikeStep)

theorem showWalk {c} : (n.showWalk c).SoundAs k := h.modCtx

theorem advance {c i it take} : (n.advance c i it take).SoundAs k := h.modCtx.showWalk

theorem onEntry {c op act} (hact : ∀ {x x1 x2 x3 m}, m.SoundAs k → (act x x1 x2 x3 m).SoundAs k) : (Machine.onEntry c op act n).SoundAs k :=
  h.when fun h => hact (h.irqEvent.ite h)

theorem entryNop {c _e i it _t} : (Machine.entryNop c _e i it _t n).SoundAs k := h.advance

theorem waitTaint {c e tick} : (n.waitTaint c e tick).SoundAs k := by
  unfold Node.waitTaint
  refine ite ?_ h
  dsimp only
  split
  · exact h.taintBy
  · exact h

theorem entryWait {c e i it t} : (Machine.entryWait c e i it t n).SoundAs k :=
  h.tallyFault.ite (h.waitTaint.advance.ite (h.deadlineFault.ite h.wr.modCtx))

theorem waitResume {c} : (Machine.waitResume c n).SoundAs k := by
  unfold Machine.waitResume
  dsimp only
  split
  · exact h
  · exact h.when fun h => h.waitTaint.taint.addTo.wr.modCtx.advance

theorem seqTally {c op vid arg t} : (n.seqTally c op vid arg t).SoundAs k := h.spanRequest

theorem entrySignal {c e i it t} : (Machine.entrySignal c e i it t n).SoundAs k := h.seqTally.advance

theorem entryArrive {c e i it t} : (Machine.entryArrive c e i it t n).SoundAs k := h.seqTally.advance

theorem absent {c hnd i} : (n.absent c hnd i).SoundAs k := h.deadlineFault

theorem entryClear {c e i it t} : (Machine.entryClear c e i it t n).SoundAs k := h.absent.ite h.clearAt.advance

theorem entryBranch {c e i it _t} : (Machine.entryBranch c e i it _t n).SoundAs k := by
  unfold Machine.entryBranch
  refine h.advance.ite ?_
  split
  · exact h.absent
  · exact h.advance

theorem entryGate {c e i it t} : (Machine.entryGate c e i it t n).SoundAs k := h.modCtx.advance

theorem entryMark {c e i it t} : (Machine.entryMark c e i it t n).SoundAs k := advance (h.modCtx.ite h.bump)

theorem entryAudit {c e i it _t} : (Machine.entryAudit c e i it _t n).SoundAs k := h.modCtx.advance

theorem entryPulse {c e i it _t} : (Machine.entryPulse c e i it _t n).SoundAs k := h.irqEvent.advance

theorem entryLoop {c _e i it _t} : (Machine.entryLoop c _e i it _t n).SoundAs k := h.advance

theorem entryEnd {c _e _i _it _t} : (Machine.entryEnd c _e _i _it _t n).SoundAs k := h.wr

theorem stepEntry {c} : (n.stepEntry c).SoundAs k := by
  unfold Node.stepEntry
  split
  · exact h.onEntry fun h => h.entryNop
  · exact h.onEntry fun h => h.entryWait
  · exact h.onEntry fun h => h.entrySignal
  · exact h.onEntry fun h => h.entryArrive
  · exact h.onEntry fun h => h.entryClear
  · exact h.onEntry fun h => h.entryBranch
  · exact h.onEntry fun h => h.entryGate
  · exact h.onEntry fun h => h.entryMark
  · exact h.onEntry fun h => h.entryAudit
  · exact h.onEntry fun h => h.entryPulse
  · exact h.onEntry fun h => h.entryLoop
  · exact h.onEntry fun h => h.entryEnd
  · exact h

theorem runDue {c fuel} : (Machine.runDue c fuel n).SoundAs k := by
  induction fuel generalizing n with
  | zero => exact h
  | succ fuel ih => exact h.waitResume.thenIf fun h => ih h.stepEntry

theorem slotConflict {c a act held} : (n.slotConflict c a act held).SoundAs k := h.takeFree.takeFree.bump.strikeStep

theorem commitAction {c a} : (n.commitAction c a).SoundAs k := by
  unfold Node.commitAction
  refine h.ite ?_
  dsimp only
  split
  · exact h.slotConflict
  · exact h.modBus.modCtx.thenIf fun h => h.irqEvent

theorem unconfirmed {c kind} : (n.unconfirmed c kind).SoundAs k := h.bump.strikeStep

theorem commitActions {c} : (n.commitActions c).SoundAs k := ite (h.overAll fun h => h.commitAction) h

theorem serveCtx {c} : (n.serveCtx c).SoundAs k := h.runDue.commitActions

theorem actionCommit {c} : (Machine.actionCommit c n).SoundAs k := ite (h.when fun h => h.unconfirmed) h.serveCtx

theorem markRead {c} : (Machine.markRead c n).SoundAs k := h.modCtx.answerData

theorem releaseAccumulator {v} : (Machine.releaseAccumulator v n).SoundAs k := h.modClr.answer

theorem lateDecision {c} : (n.lateDecision c).SoundAs k :=
  h.modCtx.ite (h.modCensus.deadlineFault.ite (h.modCensus.ctxFault.taint.modCtx.ite h.modCensus.ctxFault.taint.modCtx.modCtx.wr))

theorem deadlineEvaluation {c} : (Machine.deadlineEvaluation c n).SoundAs k := when (h.stopWalk.modCtx.ite h) fun h => h.lateDecision

theorem endNow {c oc} : (n.endNow c oc).SoundAs k := h.when fun h => h.endStep

/-! #### Escrow -/

theorem sendAck {span epoch c attempt step table ok nak why} : (n.sendAck span epoch c attempt step table ok nak why).SoundAs k := h.sendAll

theorem giveAnswer {c why} : (n.giveAnswer c why).SoundAs k := h.wr.wr.bump.modCtx.sendAck

theorem arm {c p m} : (n.arm c p m).SoundAs k := h.modCtx.wr.wr.wr.wr.events.showWalk

theorem startWakes {es} : (n.startWakes es).SoundAs k := h.overAll fun h => h.modRegion

theorem answerOnce {c m f} (hf : ∀ {m}, m.SoundAs k → (f m).SoundAs k) : (n.answerOnce c m f).SoundAs k := h.ite (hf h.modCtx)

theorem ackFor {m ok nak why} : (n.ackFor m ok nak why).SoundAs k := h.sendAck

theorem newInstance {c p m} : (n.newInstance c p m).SoundAs k := h.arm.modCtx.startWakes.ite h.arm.giveAnswer

theorem copyCheck {c m} : (n.copyCheck c m).SoundAs k := h.bump.strikeStep.ite h

theorem busyArm {c m} : (n.busyArm c m).SoundAs k := h.answerOnce fun h => h.wr.bump.ackFor

theorem armReceived {p} : (Machine.armReceived p n).SoundAs k :=
  h.onMsg fun h =>
    ite
      (h.answerOnce fun h => h.ackFor)
      (ite
        (h.copyCheck.ite h.bump)
        (elseThen (h.noteArm.busyArm.ite (ite (h.noteArm.answerOnce fun h => h.wr.ackFor) h.noteArm.newInstance)) fun h =>
          h.journalKey.modJrnl))

theorem ackRelease {c} : (Machine.ackRelease c n).SoundAs k := by
  unfold Machine.ackRelease
  split
  · exact h
  · exact h.modCtx.ite (h.giveAnswer.ite (h.giveAnswer.ite h))

theorem escrowVerdict {p kind act} (hact : ∀ {x m}, m.SoundAs k → (act x m).SoundAs k) : (Machine.escrowVerdict p kind act n).SoundAs k :=
  h.onMsg fun h => h.bump.ite (ite (hact h) h)

theorem confirmCtx {c} : (Machine.confirmCtx c n).SoundAs k := h.wr.wr

theorem recallCtx {c} : (Machine.recallCtx c n).SoundAs k := h.wr.bump.modCtx

theorem guardExpiry {c} : (Machine.guardExpiry c n).SoundAs k := h.ite (h.unconfirmed.ite (h.when fun h => h.unconfirmed))

theorem pruneIssues {c} : (n.pruneIssues c).SoundAs k := h.modClr

theorem stepFire {c} : (Machine.stepFire c n).SoundAs k :=
  h.when fun h =>
    h.wr.wr.wr.wr.events.andThen fun h =>
      ite (h.modClr.pruneIssues.modCtx.thenIf (fun h => h.modCensus) |>.taint) (h.modClr.pruneIssues.modCtx.thenIf fun h => h.modCensus)

theorem recalledF {c} : (Machine.recalledF c n).SoundAs k := h.when fun h => h.wr

/-! #### The order in a tick -/

theorem abortsFirst : n.abortsFirst.SoundAs k := h.overAll (fun h => h.overAll fun h => h.waveReceived) |>.overAll fun h => h.endAborted

theorem takeEscrow {p} : (Machine.takeEscrow p n).SoundAs k := by
  unfold Machine.takeEscrow
  split
  · exact h
  · exact h.armReceived.ite (ite (h.escrowVerdict fun h => h.confirmCtx) (h.escrowVerdict fun h => h.recallCtx))

theorem takeEscrows {stop fuel} : (Machine.takeEscrows stop fuel n).SoundAs k := by
  induction fuel generalizing n with
  | zero => exact h
  | succ fuel ih =>
    rw [Machine.takeEscrows]
    split
    · exact h
    · split
      · exact h
      · exact h.takeEscrow.ite (ih h.takeEscrow)

theorem messagesFirst : n.messagesFirst.SoundAs k := h.abortsFirst.takeEscrows

theorem escrowFirst : n.escrowFirst.SoundAs k := h.messagesFirst.overAll fun h => h.guardExpiry.stepFire

theorem releasesFirst : n.releasesFirst.SoundAs k := h.escrowFirst.overAll (fun h => h.overAll fun h => h.resultReceived) |>.releasesDue

theorem resultsFirst : n.resultsFirst.SoundAs k := h.releasesFirst.decisionsDue.timeoutsDue

theorem entriesBelow {c} : (n.entriesBelow c).SoundAs k := h.resultsFirst.overAll fun h => h.serveCtx

theorem entriesFirst : n.entriesFirst.SoundAs k := h.entriesBelow

theorem escrowIn {p kind} : (Machine.escrowIn p kind n).SoundAs k := h.ite h.abortsFirst.takeEscrows

/-! #### Escrow in a hub -/

theorem modInst {f g} : (n.modInst f g).SoundAs k := h.same rfl

theorem openInst {m setAt} : (n.openInst m setAt).SoundAs k := h.same rfl

theorem takeSets : n.takeSets.SoundAs k := h.modInst

theorem planeTotal {i} : (n.planeTotal i).SoundAs k := by
  unfold Node.planeTotal
  dsimp only
  split
  · exact h
  · exact h.modHead.elseThen fun h => h.thenIf fun h => h.sendTwin

theorem headTotals : n.headTotals.SoundAs k := h.overAll fun h => h.modInst.planeTotal

theorem sendCombined {i} : (n.sendCombined i).SoundAs k := h.modInst.elseThen fun h => h.send.thenIf fun h => h.send

theorem escrowTick : n.escrowTick.SoundAs k := h.takeSets.headTotals.overAll fun h => h.sendCombined

theorem staleEscrow : n.staleEscrow.SoundAs k := h.bump

theorem escrowDown {p} : (Machine.escrowDown p n).SoundAs k :=
  h.onMsg fun h =>
    h.staleEscrow.elseThen fun hm =>
      ite
        hm
        (ite
          h
          (ite
            h.bump
            (ite
              (h.noteCopy.thenIf (fun h => h.openInst) |>.overAll (fun h => h.forward) |>.overAll fun h => h.forward)
              (h.noteCopy.thenIf (fun h => h.openInst) |>.overAll fun h => h.forward))))

theorem ackReceived {p} : (Machine.ackReceived p n).SoundAs k := by
  unfold Machine.ackReceived
  refine h.onMsg fun h => ?_
  dsimp only
  split
  · exact h.takeSets.staleEscrow
  · exact h.takeSets.staleEscrow.ite (h.takeSets.elseThen fun h => h.modInst.headTotals)

theorem setChange {p} : (Machine.setChange p n).SoundAs k := h.takeSets.when fun h => h.modInst.headTotals

theorem escrowHorizon {span ctx step attempt} : (Machine.escrowHorizon span ctx step attempt n).SoundAs k := h.same rfl

theorem totalReceived {p} : (Machine.totalReceived p n).SoundAs k := by
  unfold Machine.totalReceived
  refine h.onMsg fun h => ?_
  split
  · exact h.staleEscrow
  · exact h.staleEscrow.ite h.modHead

theorem setNext {k' fire step attempt} : (n.setNext k' fire step attempt).SoundAs k := h.wr.wr

theorem settleHead {k'} : (n.settleHead k').SoundAs k := h.wr.ite h

theorem postDecision {k' dec basis leave} : (n.postDecision k' dec basis leave).SoundAs k := h.wr.bump.wr.wr.ite (h.wr.bump.bump.ite h.wr.bump)

theorem advanceHead {k' dec basis leave} : (n.advanceHead k' dec basis leave).SoundAs k := h.postDecision.setNext.modHead.settleHead

theorem skipEscrow {k'} : (n.skipEscrow k').SoundAs k := h.setNext.bump.modHead.settleHead

theorem sendCopies {k' kind leave} : (n.sendCopies k' kind leave).SoundAs k := h.overAll fun h => h.sendAt.sendAt

theorem holdNext {k' flight} : (n.holdNext k' flight).SoundAs k := h.modHead

theorem armLeaves {k' leave} : (n.armLeaves k' leave).SoundAs k := h.holdNext.bump.ite h.holdNext.sendCopies.openInst

theorem handArm {k' leave} : (n.handArm k' leave).SoundAs k := modHead (h.sendTwin.ite h)

theorem armLeave {k'} : (Machine.armLeave k' n).SoundAs k :=
  h.when fun h =>
    ite (ite (h.when fun h => h.handArm) (h.when fun h => h.skipEscrow.ite (armLeaves (h.ite h.handArm)))) (h.when fun h => h.armLeaves)

theorem handoffLate {k' kind step} : (n.handoffLate k' kind step).SoundAs k := h.bump.fault

theorem takeArm {k' m} : (n.takeArm k' m).SoundAs k := h.ite (h.ite h.setNext.modHead)

theorem replaceAdvance {k' dec leave} : (n.replaceAdvance k' dec leave).SoundAs k := h.wr.postDecision.setNext.modHead

theorem takeDecision {k' dec m} : (n.takeDecision k' dec m).SoundAs k :=
  h.ite (andThen (h.handoffLate.ite h.sendCopies) fun hm => hm.advanceHead.ite (hm.replaceAdvance.ite h))

theorem adoptNext {m} : (n.adoptNext m).SoundAs k := by
  unfold Node.adoptNext
  split
  · exact h
  · exact h.holdNext.ite h

theorem handoffReceived {p} : (Machine.handoffReceived p n).SoundAs k := by
  unfold Machine.handoffReceived
  refine h.onMsg fun h => ite ?_ ?_
  · split
    · exact h.staleEscrow.ite h.takeArm
    · exact h.staleEscrow
  · dsimp only
    split
    · exact h.staleEscrow.ite h.adoptNext.takeDecision
    · exact h.staleEscrow

theorem handoffMissing {k'} : (Machine.handoffMissing k' n).SoundAs k := h.when fun h => h.handoffLate.modHead

theorem recallFault {k'} : (n.recallFault k').SoundAs k := h.fault

theorem decideEscrow {k' dec basis leader} : (n.decideEscrow k' dec basis leader).SoundAs k :=
  advanceHead (thenIf (sendCopies (h.sendTwin.ite h)) fun h => h.recallFault)

theorem escrowDecision {k'} : (Machine.escrowDecision k' n).SoundAs k :=
  ite
    h
    (ite
      (h.when fun h => h.skipEscrow)
      (h.decideEscrow.ite (h.decideEscrow.ite (h.decideEscrow.ite (h.decideEscrow.ite (h.advanceHead.ite h))))))

theorem sendLead : n.sendLead.SoundAs k := h.sendTwin.modLead

theorem sendEpoch : n.sendEpoch.SoundAs k := h.sendTwin

theorem freezeSlots : n.freezeSlots.SoundAs k := h.same rfl

theorem changeLead {lead since} : (n.changeLead lead since).SoundAs k :=
  thenIf (sendLead (fault (modLead (h.freezeSlots.ite h)))) fun h => h.addTo.sendEpoch

theorem twinLost : (Machine.twinLost n).SoundAs k := by
  unfold Machine.twinLost
  split
  · exact h
  · exact h.when fun h => h.changeLead

theorem twinLeadReceived {p} : (Machine.twinLeadReceived p n).SoundAs k := h.onMsg fun h => ite (h.modLead.thenIf fun h => h.changeLead) h.modLead

theorem leadReclaim : (Machine.leadReclaim n).SoundAs k := by
  unfold Machine.leadReclaim
  split
  · exact h
  · exact h.when fun h => h.changeLead

theorem twinLeadSend : (Machine.twinLeadSend n).SoundAs k := h.when fun h => h.sendLead

theorem headStart {k'} : (Machine.headStart k' n).SoundAs k := h.needsFn fun h => h.forSpan fun h => h.accept fun h => h.ite h.wr.modHead

theorem headStopAfter {k'} : (Machine.headStopAfter k' n).SoundAs k := answer (h.wr.ite h)

theorem stopHead {k'} : (n.stopHead k').SoundAs k := h.wr.modHead.ite h

/-! #### Determinism -/

theorem strictWrite {v} : (Machine.strictWrite v n).SoundAs k := h.journaled fun h => h.accept fun h => h.ite h.wr.keyInput

theorem keyRecompute {b} : (Machine.keyRecompute b n).SoundAs k := h.when fun h => h.keyInput

theorem setKey : n.setKey.SoundAs k := h.wr.wr.wr

theorem keyDone : (Machine.keyDone n).SoundAs k := h.when fun h => h.setKey.modKey.bump.fault.journalKey

theorem refuseSegment {r e i why run} : (n.refuseSegment r e i why run).SoundAs k := by
  unfold Node.refuseSegment
  dsimp only
  split
  · exact h.bump.fault
  · exact h.bump.countCause.ite h.bump.fault.modMint

theorem mintSegment {r e i ex tick data} : (Machine.mintSegment r e i ex tick data n).SoundAs k := by
  unfold Machine.mintSegment
  dsimp only
  split
  · exact h.refuseSegment.ite (h.when fun h => h.bump.addTo.agEvents.modMint)
  · exact h.refuseSegment

theorem mintAdd {x} : (n.mintAdd x).SoundAs k := h.modMint.ite h.modMint

theorem chainingValue {r} : (Machine.chainingValue r n).SoundAs k := by
  unfold Machine.chainingValue
  split
  · exact h
  · dsimp only
    split
    · exact h.modMint.elseThen fun h => h.fault.modMint
    · exact h.modMint.takeFree.refuseSegment.ite h.modMint.mintAdd

theorem auditCompare {c j short late} : (n.auditCompare c j short late).SoundAs k := by
  unfold Node.auditCompare
  split
  · exact h
  · exact h.wr.bump.sendAll.thenIf fun h => h.ctxFault

theorem postTag {c j late} : (n.postTag c j late).SoundAs k :=
  andThen (sendTag (irqEvent (tagHistory (wr (elseThen (h.ite h.ctxFault) fun h => h.ctxFault))))) fun h =>
    dropMint (auditCompare (h.ctxFault.ite h))

theorem tagComplete {c} : (Machine.tagComplete c n).SoundAs k := by
  unfold Machine.tagComplete
  split
  · exact h.modCtx.postTag
  · exact h.when fun h => h.modCtx.postTag

theorem journalRecord {typ addr data} : (Machine.journalRecord typ addr data n).SoundAs k := h.when fun h => h.journal

theorem setRec {seq f} : (n.setRec seq f).SoundAs k := h.modJrnl

theorem journalResend {seq} : (Machine.journalResend seq n).SoundAs k := by
  unfold Machine.journalResend
  split
  · exact h
  · exact ite (h.overAll (fun h => h.sendRecord) |>.setRec) (ite (h.setRec.thenIf fun h => h.loseRecord) h)

theorem takeAck {p seq} : (n.takeAck p seq).SoundAs k := h.modJrnl.addTo

theorem journalDown {p m} : (n.journalDown p m).SoundAs k := h.forward.ite h

theorem journalUp {p m} : (n.journalUp p m).SoundAs k := h.forward.ite h

theorem journalAck {p} : (Machine.journalAck p n).SoundAs k :=
  h.onMsg fun h => ite (h.when fun h => h.takeAck) (h.ite (h.journalDown.ite (h.modReplay.ite h.journalUp)))

theorem storeSlot {x} : (n.storeSlot x).1.SoundAs k := by
  unfold Node.storeSlot
  dsimp only
  split
  · split
    · exact h.countCause
    · exact h.fault.modJhub
  · exact h.modJhub

theorem ackRecords {m} : (n.ackRecords m).SoundAs k := by
  unfold Node.ackRecords
  split
  · exact h
  · exact h.send.ite h

theorem keyCompare {m} : (n.keyCompare m).SoundAs k := by
  unfold Node.keyCompare
  refine h.ite ?_
  dsimp only
  split
  · exact h
  · exact h.ite h.fault

theorem journalStore {p} : (Machine.journalStore p n).SoundAs k :=
  h.onMsg fun h => h.bump.ite (h.journalUp.ite (h.ite (h.bump.ackRecords.ite (h.storeSlot.thenIf fun h => h.bump.keyCompare.ackRecords))))

theorem modTrail {span epoch ctx step f} : (n.modTrail span epoch ctx step f).SoundAs k := h.same rfl

theorem tagReceived {p} : (Machine.tagReceived p n).SoundAs k := h.onMsg fun h => h.ite (modTrail (h.ite (h.same (by rfl))))

/-- The search of `trailDiff` is named, so that no check runs it. -/
theorem trailCompare {t} : (n.trailCompare t).SoundAs k := by
  unfold Node.trailCompare
  obtain ⟨diff, hdiff⟩ : ∃ diff, trailDiff t.record = diff := ⟨_, rfl⟩
  rw [hdiff]
  refine h.ite ?_
  split
  · exact h
  · split
    · exact h
    · exact fault (bump (h.wr.ite h))

theorem shadowCompare {t} : (n.shadowCompare t).SoundAs k := by
  unfold Node.shadowCompare
  refine h.ite (h.overAll fun h => ?_)
  dsimp only
  split
  · exact h.modDport.fault.ite h
  · exact h

theorem trailUp {t} : (n.trailUp t).SoundAs k := h.ite (thenIf (h.send.ite h) fun h => h.send)

theorem trailClose {span ctx step} : (Machine.trailClose span ctx step n).SoundAs k := by
  unfold Machine.trailClose
  split
  · exact h
  · exact h.when fun h => (h.same (by rfl)).storeSlot.trailCompare.shadowCompare.trailUp

theorem replayStart : (Machine.replayStart n).SoundAs k := h.needsFn fun h => h.accept fun h => h.wr.modReplay

theorem stopReplay : n.stopReplay.SoundAs k := h.wr.ite h

theorem replayInject {data} : (Machine.replayInject data n).SoundAs k := by
  unfold Machine.replayInject
  refine h.when fun h => h.wr.ite ?_
  split
  · exact h
  · exact h.stopReplay.ite (h.ite (modReplay (h.send.ite h)))

theorem replayLate {m ticks} : (n.replayLate m ticks).SoundAs k := h.strikeStep

theorem holdReplay {m} : (n.holdReplay m).SoundAs k := by
  unfold Node.holdReplay
  refine h.ite ?_
  dsimp only
  split
  · exact h.modJrnl.replayLate.ite h.modJrnl.modJrnl
  · exact h.modJrnl.takeFree.replayLate.ite h.modJrnl.modJrnl

theorem replayReceived {p} : (Machine.replayReceived p n).SoundAs k := h.onMsg fun h => ite (h.journalDown.ite h) (h.when fun h => h.holdReplay)

theorem suppressInput {oid} : (Machine.suppressInput oid n).SoundAs k := h.when fun h => h.bump.answer

/-! #### Regions -/

theorem setRegion {r st} : (n.setRegion r st).SoundAs k := h.wr.wr.elseThen fun h => h.keyInput

theorem regCount {r k'} : (n.regCount r k').SoundAs k := h.bumpBits

theorem watchCount {r k'} : (n.watchCount r k').SoundAs k := h.bumpBits

theorem pgFall {r} : (n.pgFall r).SoundAs k := h.modRegion.bypassShow.severRegion.modAgent.ite h

theorem pgRise {r} : (n.pgRise r).SoundAs k := h.ite h.severRegion.modRegion.bypassShow

theorem startUp {r} : (n.startUp r).SoundAs k := h.modRegion

theorem forceDown {r} : (n.forceDown r).SoundAs k := h.modRegion

theorem ladderTick {r k' t} : (n.ladderTick r k' t).SoundAs k := h.wrBits

theorem ladderOpen {r cause ctx} : (n.ladderOpen r cause ctx).SoundAs k := h.wr

theorem ladderDone {r} : (n.ladderDone r).SoundAs k := h.wr.modRegion.ladderTick

theorem abortRun {r} : (n.abortRun r).SoundAs k := by
  unfold Node.abortRun
  split
  · exact h.agentAbort
  · exact h

theorem rung4 {r why} : (n.rung4 r why).SoundAs k :=
  h.abortRun.forceDown.pgFall.modRegion.bypassShow.severRegion.setRegion.wr.watchCount.ladderTick.regionFault

theorem rung3 {r why} : (n.rung3 r why).SoundAs k :=
  h.modRegion.rung4.ite (h.abortRun.modRegion.wr.watchCount.ladderTick.forceDown.elseThen fun h => h.setRegion)

theorem rung1 {r cause ctx} : (n.rung1 r cause ctx).SoundAs k := h.ladderOpen.wr.modRegion.ite h

theorem rung2 {r} : (n.rung2 r).SoundAs k := h.modRegion.wr.watchCount.ladderTick.fault

theorem regionTick {r} : (n.regionTick r).SoundAs k :=
  andThen (h.modRegion.ladderTick.ite (h.rung2.ite h)) fun h =>
    ite
      h.modRegion
      (h.modRegion.ite (h.startUp.ite (ite (h.modRegion.thenIf (fun h => h.regCount) |>.setRegion) (h.modRegion.setRegion.ite h))))

theorem regionsTick : n.regionsTick.SoundAs k := h.overAll fun h => h.regionTick

/-! #### The fault ladder -/

theorem recordRead : (Machine.recordRead n).SoundAs k := (h.same (by rfl)).answerData

theorem settleEnd {c} : (Machine.settleEnd c n).SoundAs k := by
  unfold Machine.settleEnd
  split
  · exact h
  · exact h.when fun h => h.closeSettle

theorem pathWatch : n.pathWatch.SoundAs k := h.overAll fun h => ite (h.ite h.modCtx) (h.modCtx.ite h)

theorem pathLost {c} : (Machine.pathLost c n).SoundAs k := by
  unfold Machine.pathLost
  dsimp only
  split
  · exact h
  · exact h.when fun h => h.ctxFault.abortStep

theorem runFault {cause r core detail} : (n.runFault cause r core detail).SoundAs k := h.fault.thenIf fun h => h.waveStep

theorem powerGoodLost {r} : (Machine.powerGoodLost r n).SoundAs k := h.ite (h.pgFall.ite h.ladderOpen.runFault.pgFall.abortRun.modRegion.rung3)

theorem supplyFirst {s : State} {r} : (s.supplyFirst r n).SoundAs k := h.powerGoodLost.ite h

theorem heartbeat {r info} : (Machine.heartbeat r info n).SoundAs k :=
  h.when fun h => h.wr.wr.modRegion.andThen fun h => h.watchCount.ite (h.runFault.ite (h.rung1.runFault.ite h))

theorem heartbeatMissed {r} : (Machine.heartbeatMissed r n).SoundAs k := h.when fun h => h.watchCount.rung1.runFault

theorem resetAck {r} : (Machine.resetAck r n).SoundAs k := by
  unfold Machine.resetAck
  exact h.when fun h => h.watchCount.ladderDone.thenIf fun h => h.watchCount

theorem resetLimit {r} : (Machine.resetLimit r n).SoundAs k := h.when fun h => h.modRegion.fault

theorem isolationLimit {r} : (Machine.isolationLimit r n).SoundAs k := h.when fun h => h.rung3

theorem cycleDone {r} : (Machine.cycleDone r n).SoundAs k := h.when fun h => h.modRegion.setRegion.ladderDone.regionFault

theorem cycleLimitExpiry {r} : (Machine.cycleLimitExpiry r n).SoundAs k := h.when fun h => h.rung4

theorem ladderCycle {r} : (Machine.ladderCycle r n).SoundAs k := h.accept fun h => h.ladderOpen.rung3

theorem ladderRestore {r} : (Machine.ladderRestore r n).SoundAs k := h.accept fun h => h.ladderOpen.rung3

theorem ladderRelease {r} : (Machine.ladderRelease r n).SoundAs k := h.accept fun h => h.fault.rung3

theorem ladderLost {r} : (Machine.ladderLost r n).SoundAs k := h.accept fun h => h.ite h.rung4

theorem stopTimeout {r} : (Machine.stopTimeout r n).SoundAs k := by
  unfold Machine.stopTimeout
  dsimp only
  split
  · exact h
  · exact h.when fun h => h.ladderOpen.runFault.abortRun.modAgent.rung3

theorem watchdogExpiry : (Machine.watchdogExpiry n).SoundAs k := h.when fun h => h.modHpwr.fault

theorem seqsAfterRestart : n.seqsAfterRestart.SoundAs k := h.overAll fun h => h.wr

theorem firmwareUp : (Machine.firmwareUp n).SoundAs k := h.when fun h => h.modHpwr.seqsAfterRestart

/-! #### Spans -/

theorem listAdd {item} : (Machine.listAdd item n).SoundAs k := by
  unfold Machine.listAdd
  dsimp only
  split
  · exact h.takeFree.tableFault.answer
  · exact h.tableFault.answer.ite (h.accept fun h => h.same rfl)

theorem onEntry_ {item f} (hf : ∀ {x m}, m.SoundAs k → (f x m).SoundAs k) : (n.onEntry item f).SoundAs k := by
  unfold Node.onEntry
  split
  · exact hf h
  · exact h.tableFault.answer

theorem setEntry {e} : (n.setEntry e).SoundAs k := h.same rfl

theorem deactivate {span} : (n.deactivate span).SoundAs k :=
  (h.same (by rfl)).overAll (fun h => h.wr.modEng.ite h) |>.overAll fun h => h.wr.modHead.ite h

theorem listRemove {item} : (Machine.listRemove item n).SoundAs k := h.onEntry_ fun h => h.tableFault.answer.ite (h.same (by rfl)).deactivate.answer

theorem listMask {item} : (Machine.listMask item n).SoundAs k := h.onEntry_ fun h => h.accept fun h => h.setEntry

theorem listHead {item} : (Machine.listHead item n).SoundAs k := h.onEntry_ fun h => h.accept fun h => h.setEntry

theorem laneSend {p} : (n.laneSend p).SoundAs k := h.relayWrite.ite h

theorem laneTick : n.laneTick.SoundAs k := h.ite (h.overAll fun h => h.laneSend)

theorem laneDue {p} : (n.laneDue p).SoundAs k := h.modDport.wr.laneSend

theorem laneWritten {r} : (n.laneWritten r).SoundAs k := by
  unfold Node.laneWritten
  split
  · exact h.modDport.wr.ite h
  · exact h

theorem portOwn {p span epoch} : (Machine.portOwn p span epoch n).SoundAs k :=
  h.answer.ite (h.tableFault.answer.ite (h.tableFault.answer.ite (h.tableFault.answer.ite h.wr.wr.laneDue.answer)))

theorem quarantine {p r} : (n.quarantine p r).SoundAs k := h.wr.wr.wr.modDport.fault.laneDue

theorem portRelease {p r} : (Machine.portRelease p r n).SoundAs k := h.answer.ite (h.quarantine.answer.ite h.takeFree.tableFault.answer)

theorem portFree {p h'} : (Machine.portFree p h' n).SoundAs k := h.answer.ite (h.takeFree.tableFault.answer.ite (h.wr.answer.ite h.tableFault.answer))

theorem writeLane {p v} : (n.writeLane p v).SoundAs k := h.endInstance.wr.ite h.wr

theorem epochBlob {op status span epoch result} : (n.epochBlob op status span epoch result).SoundAs k := h.wr

theorem epochOp {op span epoch} : (n.epochOp op span epoch).SoundAs k := ite (answer (epochBlob (h.ite h.bump.sendEpoch))) h.epochBlob.answer

theorem epochCopies {hubs synced} : (Machine.epochCopies hubs synced n).SoundAs k :=
  h.when fun h => ite (h.overAll fun h => h.relayWrite.ite h) (h.overAll (fun h => h.relayWrite.ite h) |>.modKst)

/-! #### Health -/

theorem healthEnd : (Machine.healthEnd n).SoundAs k := h.when fun h => modCensus (h.sendAll.ite h)

theorem healthTick : n.healthTick.SoundAs k := ite (h.overAll fun h => h.modDport) h

theorem reportReceived {p} : (Machine.reportReceived p n).SoundAs k := h.onMsg fun h => h.when fun h => h.modDport.wr.thenIf fun h => h.takeFree.fault

theorem sendFence {p} : (n.sendFence p).SoundAs k := h.relayWrite

theorem postHealth {p} : (n.postHealth p).SoundAs k := h.wrBits.thenIf fun h => h.wr

theorem auditReceived {p} : (Machine.auditReceived p n).SoundAs k :=
  h.onMsg fun h =>
    h.when fun h => andThen (h.wrBits.ite h.wrBits) fun h => thenIf (h.modDport.ite h) fun h => h.wrBits.sendFence.fault.postHealth

theorem probation {p kind} : (n.probation p kind).SoundAs k := h.wrBits.fault

theorem sendHealth {p} : (n.sendHealth p).SoundAs k := h.sendTwin

theorem expel {p} : (n.expel p).SoundAs k := h.ite h.takeFree.fault.modDport.wrBits.quarantine.wr.postHealth.sendHealth

theorem addGrant {span die} : (n.addGrant span die).SoundAs k := h.same rfl

theorem takeVerdict {m} : (n.takeVerdict m).SoundAs k := ite (h.wrBits.expel.ite (h.wrBits.wrBits.thenIf fun h => h.probation.postHealth)) h

theorem decideExpel {span epoch die} : (n.decideExpel span epoch die).SoundAs k :=
  andThen (h.addGrant.ite h.bump.fault) fun h => h.sendTwin.takeVerdict.ite (h.sendTwin.thenIf fun h => h.sendAt)

theorem expelReceived {p} : (Machine.expelReceived p n).SoundAs k :=
  h.onMsg fun h => ite (h.decideExpel.ite (h.when fun h => h.sendTwin)) (h.when fun h => h.forward)

theorem expelsTo {p fuel} : (Machine.expelsTo p fuel n).SoundAs k := by
  induction fuel generalizing n with
  | zero => exact h.expelReceived
  | succ fuel ih =>
    rw [Machine.expelsTo]
    split
    · exact h
    · exact h.expelReceived.ite (ih h.expelReceived)

theorem expelInOrder {p} : (Machine.expelInOrder p n).SoundAs k := h.ite h.expelsTo

theorem verdictReceived {p} : (Machine.verdictReceived p n).SoundAs k :=
  h.onMsg fun h =>
    ite
      h
      (andThen (ite (h.noteCopy.thenIf (fun h => h.addGrant) |>.overAll fun h => h.forward) (h.noteCopy.thenIf fun h => h.addGrant))
        fun h => h.takeVerdict.ite (h.when fun h => h.forward))

theorem requestExpel {p} : (n.requestExpel p).SoundAs k := h.modDport.wrBits.wrBits.andThen fun h => ite (h.decideExpel.ite h) (h.send.ite h)

theorem judge {p} : (n.judge p).SoundAs k := andThen (ite (h.ite h.probation) (h.wrBits.ite h)) fun h => postHealth (h.requestExpel.ite h)

theorem healthEvaluation {p} : (Machine.healthEvaluation p n).SoundAs k :=
  h.when fun h =>
    h.modDport.elseThen fun h =>
      ite (h.thenIf (fun h => h.bump) |>.wr.wr.modDport.judge) (h.thenIf (fun h => h.bump) |>.wr.wr.modDport.postHealth)

theorem twinHealthReceived {p} : (Machine.twinHealthReceived p n).SoundAs k :=
  h.onMsg fun h => h.when fun h => h.modDport.elseThen (fun h => h.modDport.wr.wrBits) |>.thenIf fun h => h.expel

theorem twinHealthSend {p} : (Machine.twinHealthSend p n).SoundAs k := h.when fun h => h.modDport.sendHealth

theorem healthReinstate {p} : (Machine.healthReinstate p n).SoundAs k := h.accept fun h => h.wr.wr.wr.modDport.wr

theorem healthClearFences {p} : (Machine.healthClearFences p n).SoundAs k := h.accept fun h => h.wr.sendFence.postHealth

theorem latchDue {m missed} : (n.latchDue m missed).SoundAs k := h.modCensus

theorem latchDown {m} : (n.latchDown m).SoundAs k := h.overAll fun h => h.sendAt

theorem censusCommand {v} : (Machine.censusCommand v n).SoundAs k := by
  unfold Machine.censusCommand
  refine h.needsFn fun h => ?_
  dsimp only
  split
  · exact h.answer
  · exact h.accept fun h => h.sendTwin.latchDown.latchDue

theorem takeLatch {m} : (n.takeLatch m).SoundAs k := h.bump.ite h.latchDue

theorem latchReceived {p} : (Machine.latchReceived p n).SoundAs k :=
  h.onMsg fun h =>
    ite
      (ite
        h
        (ite
          h.noteCopy.latchDown.takeLatch
          (h.ite (h.noteCopy.overAll (fun h => h.forward) |>.thenIf (fun h => h.overAll fun h => h.forward) |>.takeLatch))))
      (h.ite (h.ite (h.noteCopy.bump.ite h.noteCopy.takeLatch)))

theorem placeCensus : n.placeCensus.SoundAs k := by
  unfold Node.placeCensus
  refine h.overAll fun h => ?_
  split
  · exact h.ite h.modCensus
  · exact h.modBus

theorem latch {mask number flags} : (n.latch mask number flags).SoundAs k := bump (wr (wr (wr (wr (modCensus (ite (h.overAll fun h => h.wr) h))))))

theorem stepLatch : n.stepLatch.SoundAs k := by
  unfold Node.stepLatch
  refine h.ite ?_
  split
  · exact h.latch
  · exact h

theorem spanLatch : n.spanLatch.SoundAs k := h.overAll (fun h => h.latch) |>.modCensus

theorem agentCensus {r} : (Machine.agentCensus r n).SoundAs k := by
  unfold Machine.agentCensus
  split
  · exact h
  · exact h.wr.dropAction

theorem eventSourceWrite {k' v} : (Machine.eventSourceWrite k' v n).SoundAs k := h.rwsWrite fun _ => h.wr.ite h.wrBits

theorem newSources : n.newSources.SoundAs k := h.modCensus

/-! #### Power -/

theorem refuseRequest {r code why at_ own} : (n.refuseRequest r code why at_ own).SoundAs k := h.wr.regCount.modRegion.regionFault

theorem enterLow {r} : (n.enterLow r).SoundAs k := h.modRegion.setRegion

theorem grant {r code} : (n.grant r code).SoundAs k := h.wr.regCount.modRegion.thenIf fun h => h.enterLow

theorem tryGrant {r} : (n.tryGrant r).SoundAs k := by
  unfold Node.tryGrant
  dsimp only
  split
  · exact h
  · exact h.refuseRequest.ite (h.wr.modRegion.ite h.grant)

theorem wake {r} : (n.wake r).SoundAs k := h.modRegion

theorem toActive {r} : (n.toActive r).SoundAs k := h.wr.regCount.modRegion.andThen fun h => h.wake.ite h.startUp

theorem forceFence {r} : (n.forceFence r).SoundAs k := h.wr.regCount.abortRun.forceDown.modRegion.setRegion

theorem request {r code own} : (n.request r code own).SoundAs k :=
  h.refuseRequest.ite (h.toActive.ite (h.forceFence.ite (h.wr.regCount.setRegion.ite h.modRegion.tryGrant)))

theorem regionRequest {r code} : (Machine.regionRequest r code n).SoundAs k := h.escrowFirst.request.answer

theorem pwrReqChange {r v} : (Machine.pwrReqChange r v n).SoundAs k := h.when fun h => h.modRegion.escrowFirst.request

theorem delayExpiry {r} : (Machine.delayExpiry r n).SoundAs k := by
  unfold Machine.delayExpiry
  dsimp only
  split
  · exact h
  · exact h.when fun h => h.refuseRequest.ite (h.regCount.refuseRequest.ite h.grant)

theorem rdyChange {r high} : (Machine.rdyChange r high n).SoundAs k := h.when fun h => h.modRegion

theorem stageFault {r stage by_ limit} : (n.stageFault r stage by_ limit).SoundAs k := h.regCount.regionFault

theorem handshakeLimit {r} : (Machine.handshakeLimit r n).SoundAs k :=
  h.when fun h => h.stageFault.modRegion.ite h.stageFault.modRegion.ladderOpen.rung3

theorem pgoodFell {r} : (Machine.pgoodFell r n).SoundAs k := h.ite (h.pgFall.enterLow.ite (h.pgFall.modRegion.ite h))

theorem pgoodLimit {r} : (Machine.pgoodLimit r n).SoundAs k := h.when fun h => h.stageFault.modRegion.ite h.takeFree.rung4

theorem stageReady {r} : (Machine.stageReady r n).SoundAs k := h.when fun h => modRegion (h.pgRise.ite h)

theorem stageTimeout {r} : (Machine.stageTimeout r n).SoundAs k := h.when fun h => h.stageFault.rung4.ite h.stageFault.modRegion.setRegion

/-! #### Start-up -/

theorem restored {o v} : (n.restored o v).SoundAs k := h.wr.modOut.ite (h.wr.modPulse.ite (h.wr.thenIf fun h => h.wr))

theorem loadRec {r} : (n.loadRec r).SoundAs k := h.restored.thenIf fun h => h.modKey

theorem keyInputs : n.keyInputs.SoundAs k := h.overAll fun h => h.keyRecompute

theorem loadAll {l} : (n.loadAll l).SoundAs k := h.overAll fun h => h.loadRec

theorem imageFault {kind b} : (n.imageFault kind b).SoundAs k := h.fault

theorem putVault {o} : (n.putVault o).SoundAs k := h.modVault

theorem vaultThrough {o} : (Machine.vaultThrough o n).SoundAs k := h.when fun h => h.putVault.thenIf fun h => h.wr

theorem holdDark : n.holdDark.SoundAs k := h.overAll (fun h => h.ite h.setLink) |>.modStart

theorem sleepRequest : (Machine.sleepRequest n).SoundAs k := h.endInstance.holdDark.modVault.wr.bump

theorem sleepWithdraw : (Machine.sleepWithdraw n).SoundAs k := h.when fun h => h.modVault.modStart.overAll fun h => h.ite h.modLink

theorem tsuReset : n.tsuReset.SoundAs k := by
  have fresh : ({ kind := n.kind } : Node).SoundAs k := h.atReset rfl rfl rfl
  exact (fresh.wr (o := Ob.vlt_vaultState) (v := n.rd Ob.vlt_vaultState)).same (by rfl)

theorem stageEnd {next} : (n.stageEnd next).SoundAs k := h.wrBits.wr.modStart

theorem fuseStage {b} : (n.fuseStage b).SoundAs k := h.wr.wr.wr.wr.setKey.stageEnd

theorem vaultStage : n.vaultStage.SoundAs k := stageEnd (modStart (overAll (h.ite h.modVault.wr.fault) fun h => h.setRegion))

theorem restoreRec {r} : (n.restoreRec r).SoundAs k := (h.anchorWrite.wr.same (by rfl)).ite h.restored

theorem vaultApply : n.vaultApply.SoundAs k :=
  andThen (ite (h.overAll fun h => h.restored) h) fun h =>
    h.overAll (fun h => h.restoreRec) |>.modVault.thenIf (fun h => h.wr.bump) |>.overAll (fun h => h.startUp) |>.modStart

theorem configStage {b} : (n.configStage b).SoundAs k :=
  h.imageFault.stageEnd.ite (h.loadAll.wr.modStart.overAll (fun h => h.bypassShow) |>.vaultApply.keyInputs.stageEnd)

theorem readyStage : n.readyStage.SoundAs k := h.ite h.stageEnd.modStart

theorem tsuStage {img} : (Machine.tsuStage img n).SoundAs k := h.fuseStage.ite (h.vaultStage.ite (h.configStage.ite (h.readyStage.ite h)))

theorem configRefetch : (Machine.configRefetch n).SoundAs k := h.accept fun h => h.wr.modStart

theorem startupTimeout : (Machine.startupTimeout n).SoundAs k := by
  unfold Machine.startupTimeout
  dsimp only
  split
  · exact h
  · exact h.when fun h => h.modStart.modHpwr.ite h.modStart.fault

/-! #### Functions -/

theorem drained {f} : (Machine.drained f n).SoundAs k := h.when fun h => h.wr.irqEvent

theorem fnDisable {f} : (Machine.fnDisable f n).SoundAs k := h.rwsWrite fun h => h.drained.wr.thenIf fun h => h.wr.wr

theorem fnEnable {f} : (Machine.fnEnable f n).SoundAs k := h.rwsWrite fun h => h.drained.wr.wr

theorem retireTsu {f} : (n.retireTsu f).2.SoundAs k := by
  unfold Node.retireTsu
  split
  · exact h.overAll fun h => h.endWait
  · split
    · exact h.modClr
    · split
      · exact h.modMint
      · split
        · exact h.modJrnl.addTo
        · split
          · exact h.overAll fun h => h.modCap
          · split
            · exact h.overAll fun h => h.modPulse
            · exact h

theorem retireHub {f} : (n.retireHub f).2.SoundAs k := by
  unfold Node.retireHub
  extract_lets i
  split_ifs <;> dsimp only
  · exact h.overAll fun h => h.stopHead
  · exact h.same rfl
  · exact h.overAll fun h => h.wr.modEng.ite h
  · exact h.stopReplay
  · exact h.modCensus
  · exact h

theorem drainTimeout {f} : (Machine.drainTimeout f n).SoundAs k := by
  unfold Machine.drainTimeout
  dsimp only
  refine h.when fun h => ite ?_ (fault (addTo ?_))
  · split
    · exact h.retireHub
    · exact h.retireTsu
  · split
    · exact h.retireHub
    · exact h.retireTsu

/-! #### The tap -/

theorem tapReset : n.tapReset.SoundAs k := h.modHpwr

/-! #### The module -/

theorem toSentinel : (Machine.toSentinel n).SoundAs k := h.accept fun h => h.wrS.modHpwr

theorem toOff : (Machine.toOff n).SoundAs k := h.accept fun h => h.modHpwr

theorem visitCount {k'} : (n.visitCount k').SoundAs k := h.bumpBits

theorem pong {stamp} : (n.pong stamp).SoundAs k := h.stepTb1.wrS.wrBits.wrBits.modHpwr.setTimeState

theorem visitMiss : n.visitMiss.SoundAs k := h.visitCount.modHpwr.thenIf fun h => h.setTimeState

theorem visit {stamp} : (Machine.visit stamp n).SoundAs k := by
  unfold Machine.visit
  refine h.when fun h => ?_
  split
  · exact h.when fun h => h.visitCount.wrBits.modHpwr
  · exact h.pong.ite (h.when fun h => h.visitMiss)

theorem answerPing {p periods} : (Machine.answerPing p periods n).SoundAs k := h.when fun h => h.modHpwr

theorem wake_ {cause p} : (Machine.wake cause p n).SoundAs k := h.when fun h => h.overAll (fun h => h.wr) |>.wrBits.modHpwr

theorem hubStageEnd {next} : (n.hubStageEnd next).SoundAs k := h.wr.modStart

theorem hubFuses {b} : (n.hubFuses b).SoundAs k := h.wr.wr.wr.overAll (fun h => h.wr.wr) |>.wr.wr.overAll (fun h => h.wr.wr) |>.hubStageEnd

theorem recordLatent : n.recordLatent.SoundAs k := h.overAll (fun h => h.fault) |>.modHpwr

theorem askFirmware {off} : (n.askFirmware off).SoundAs k := h.sendTwin.modHpwr

theorem firmwareStage : n.firmwareStage.SoundAs k := h.modStart.wr.recordLatent.hubStageEnd.ite (h.modStart.thenIf fun h => h.modHpwr.askFirmware)

theorem placeHub : n.placeHub.SoundAs k := h.ite (h.same rfl)

theorem hubConfig {b} : (n.hubConfig b).SoundAs k := h.loadAll.placeHub.modStart.modHpwr.overAll (fun h => h.restored) |>.modHpwr

theorem hubConfigStage {img} : (n.hubConfigStage img).SoundAs k :=
  h.hubConfig.hubStageEnd.ite (h.imageFault.hubConfig.imageFault.hubStageEnd.ite h.imageFault.hubStageEnd)

theorem hubStage {img} : (Machine.hubStage img n).SoundAs k := h.hubFuses.ite (h.firmwareStage.ite (h.hubConfigStage.ite (h.ite h.modStart)))

theorem restartHub {powerUp} : (n.restartHub powerUp).SoundAs k := by
  unfold Node.restartHub
  extract_lets keep n0 n1
  have h0 : n0.SoundAs k := h.atReset rfl rfl rfl
  have h1 : n1.SoundAs k := h0.overAll (fun h => h.wr) |>.seqsAfterRestart
  exact h1.fault.ite h1

theorem updateBegin {len dig} : (Machine.updateBegin len dig n).SoundAs k := h.accept fun h => h.wr.modHpwr

theorem segmentWrite {data} : (Machine.segmentWrite data n).SoundAs k := h.answer.ite (h.accept fun h => h.modHpwr)

theorem addSegment {b i} : (Node.addSegment (b, n) i).2.SoundAs k := by
  unfold Node.addSegment
  dsimp only
  split
  · exact h
  · exact h.takeFree

theorem storeFirmware {img dig} : (n.storeFirmware img dig).SoundAs k := h.takeFree.modHpwr

theorem updateCommit : (Machine.updateCommit n).SoundAs k :=
  h.accept fun h => h.foldlSnd (fun h => h.addSegment) |>.storeFirmware.modHpwr.wr

theorem updateAbandon : (Machine.updateAbandon n).SoundAs k := h.accept fun h => h.wr.modHpwr

theorem recoverNext {off} : (n.recoverNext off).SoundAs k := h.askFirmware.ite (h.storeFirmware.modHpwr.restartHub.ite h.modHpwr.askFirmware)

theorem twinRecovery {p} : (Machine.twinRecovery p n).SoundAs k := h.onMsg fun h => h.when fun h => h.modHpwr.recoverNext

theorem twinFirmware {p} : (Machine.twinFirmware p n).SoundAs k := h.onMsg fun h => h.sendTwin

theorem flashWrite {obj} : (Machine.flashWrite obj n).SoundAs k :=
  h.when fun h => modHpwr (ite (h.takeFree.wrBits.thenIf (fun h => h.wr) |>.wr) (h.takeFree.wrBits.thenIf fun h => h.wr))

theorem telemetry {v} : (Machine.telemetry v n).SoundAs k := h.when fun h => h.wr.ite h.wr

theorem scrubbed {slot} : (Machine.scrubbed slot n).SoundAs k := h.modJhub.bump.fault

theorem supplyOff {cause detail} : (n.supplyOff cause detail).SoundAs k := h.modHpwr

theorem supplyFault {kind mv ma} : (Machine.supplyFault kind mv ma n).SoundAs k := h.when fun h => h.supplyOff.ite h.fault

theorem showThermal : n.showThermal.SoundAs k := h.ite h.wr.wr

theorem thermal {kind port temp} : (Machine.thermal kind port temp n).SoundAs k := by
  unfold Machine.thermal
  split
  · exact h
  · exact ite
        (ite
          (h.modHpwr.thenIf (fun h => h.modLink) |>.supplyOff)
          (showThermal (ite (h.modHpwr.thenIf (fun h => h.modLink) |>.portFault) (h.modHpwr.thenIf (fun h => h.modLink) |>.fault))))
        (ite (h.modHpwr.thenIf (fun h => h.modLink) |>.showThermal) h)

theorem powerButton : (Machine.powerButton n).SoundAs k := h.when fun h => h.restartHub.tapReset.modHpwr

theorem coupling {i} : (Machine.coupling i n).SoundAs k := h.wrBits

theorem latencyCodes {p tx rx} : (Machine.latencyCodes p tx rx n).SoundAs k := h.wr.modLink

/-! #### Views -/

theorem afterRead {o} : (n.afterRead o).SoundAs k := (h.same (by rfl)).ite (h.modCap.ite (h.modCtx.ite (h.takeFree.ite h)))

/-! #### Writes -/

theorem unlisted {v} : (Machine.unlisted v n).SoundAs k := h.accept fun h => h

theorem tableWrite {t o v} : (Machine.tableWrite t o v n).SoundAs k := h.journaled fun h => h.accept fun h => h.touchSlot.wr

theorem headWrite {k' o v} : (Machine.headWrite k' o v n).SoundAs k := ite (answer (h.tableFault.ite h)) (h.accept fun h => h.wr)

theorem slotWrite {slot v} : (Machine.slotWrite slot v n).SoundAs k :=
  ite (h.needsFn fun h => h.forSpan fun h => h.accept fun h => h.modHtal) (h.accept fun h => h.modHtal)

theorem manifestWrite {first vals} : (Machine.manifestWrite first vals n).SoundAs k := h.journaled fun h => h.accept fun h => h.wr

theorem keyWrite {o b v} : (Machine.keyWrite o b v n).SoundAs k := h.journaled fun h => h.accept fun h => h.ite h.wr.keyInput

theorem coreMapWrite {data} : (Machine.coreMapWrite data n).SoundAs k := h.journaled fun h => h.accept fun h => h.wr.modKey.keyInput

theorem strictSpansWrite {v} : (Machine.strictSpansWrite v n).SoundAs k := h.accept fun h => h.wr

theorem evEnableWrite {i v} : (Machine.evEnableWrite i v n).SoundAs k := h.rwsWrite fun h => (h.wr.same (by rfl)).ite (h.wr.same (by rfl))

theorem outputWrite {hub k' o v} : (Machine.outputWrite hub k' o v n).SoundAs k := h.rwsWrite fun h => h.wr.modOut.ite h.wr.modPulse

theorem oscillatorWrite {v} : (Machine.oscillatorWrite v n).SoundAs k := h.rwsWrite fun h => h.wr.wr.wr.ite (h.wr.thenIf fun h => h.wr.wr)

theorem operatorWrite {op v} : (Machine.operatorWrite op v n).SoundAs k := h.rwsWrite fun _ => h.wr

theorem modOperator {op f} : (n.modOperator op f).SoundAs k := h.modAccess

theorem keyOfOperator {w op v} : (Machine.keyOfOperator w op v n).SoundAs k := h.accept fun h => h.modOperator.ite h.modOperator

theorem laneWrite {w p v} : (Machine.laneWrite w p v n).SoundAs k := h.writeLane.answer.ite h.answer

theorem epochWrite {w v} : (Machine.epochWrite w v n).SoundAs k := h.accept fun h => h.wr

omit h in
theorem linkCommands_keeps {o v} : KeepsAll (Machine.linkCommands o v) := by
  unfold Machine.linkCommands
  extract_lets idx sub at_
  refine .ite (.some (Keeps.ite (fun h => h.linkRestart) (Keeps.ite (fun h => h.sendWake) fun h => h.unlisted))) ?_
  refine .ite (.some fun h => h.closureStart.ite (h.unlisted.ite h.answer)) ?_
  refine .ite (.some (Keeps.ite (fun h => h.calibrate) fun h => h.unlisted)) ?_
  refine .ite (.some (Keeps.ite (fun h => h.regrStop) (Keeps.ite (fun h => h.regrStart) fun h => h.unlisted))) ?_
  refine .ite (.some fun h => h.accept fun h => h.modKst.wr) ?_
  exact .ite (.some (Keeps.ite (fun h => h.tbCommand) fun h => h.unlisted)) .none

omit h in
theorem tsuCommands_keeps {o v} : KeepsAll (Machine.tsuCommands o v) := by
  unfold Machine.tsuCommands
  extract_lets idx sub at_ i
  refine .ite (.some (Keeps.ite (fun h => h.bypass.answer) fun h => h.unlisted)) ?_
  refine .ite (.some fun h => h.releaseAccumulator) ?_
  refine .ite (.some (Keeps.ite (fun h => h.tableCommit) (Keeps.ite (fun h => h.tableEmpty) fun h => h.journaled fun h => h.accept fun h => h))) ?_
  refine .ite (.some (Keeps.ite (fun h => h.hostCommand) (Keeps.ite (fun h => h.journaled fun h => h.needsFn fun h => h.accept fun h => h.hostCancel)
    fun h => h.journaled fun h => h.unlisted))) ?_
  refine .ite (.some (Keeps.ite (fun h => h.ladderCycle) (Keeps.ite (fun h => h.ladderRestore) (Keeps.ite (fun h => h.ladderRelease)
    (Keeps.ite (fun h => h.ladderLost) fun h => h.unlisted))))) ?_
  refine .ite (.some (Keeps.ite (fun h => h.regionRequest) fun h => h.unlisted)) ?_
  exact .ite (.some (Keeps.ite (fun h => h.configRefetch) fun h => h.unlisted)) .none

omit h in
theorem hubCommands_keeps {o v} : KeepsAll (Machine.hubCommands o v) := by
  unfold Machine.hubCommands
  extract_lets idx sub at_ op
  refine .ite (.some (Keeps.ite (fun h => h.headStart) (Keeps.ite (fun h => h.headStopAfter) (Keeps.ite (fun h => h.stopHead.answer)
    fun h => h.unlisted)))) ?_
  refine .ite (.some (Keeps.ite (fun h => h.replayStart) (Keeps.ite (fun h => h.stopReplay.answer) fun h => h.unlisted))) ?_
  refine .ite (.some fun h => h.censusCommand) ?_
  refine .ite (.some (Keeps.ite (fun h => h.epochOp) fun h => h.unlisted)) ?_
  refine .ite (.some (Keeps.ite (fun h => h.listAdd) (Keeps.ite (fun h => h.listRemove) (Keeps.ite (fun h => h.listMask) (Keeps.ite
    (fun h => h.listHead)
    fun h => h.unlisted))))) ?_
  refine .ite (.some (Keeps.ite (fun h => h.portOwn) (Keeps.ite (fun h => h.portRelease) (Keeps.ite (fun h => h.portFree) fun h => h.accept
    fun h => h)))) ?_
  refine .ite (.some (Keeps.ite (fun h => h.healthReinstate) (Keeps.ite (fun h => h.healthClearFences) (Keeps.ite (fun h => h.accept fun h => h.wr)
    fun h => h.unlisted)))) ?_
  refine .ite (.some (Keeps.ite (fun h => h.toSentinel) (Keeps.ite (fun h => h.toOff) fun h => h.unlisted))) ?_
  refine .ite (.some (Keeps.ite (fun h => h.updateBegin) (Keeps.ite (fun h => h.updateCommit) (Keeps.ite (fun h => h.updateAbandon)
    fun h => h.unlisted)))) ?_
  exact .ite (.some (Keeps.ite (fun h => h.accept fun h => h.modHpwr) fun h => h.unlisted)) .none

theorem commandWrite {o v} : (Machine.commandWrite o v n).SoundAs k := by
  unfold Machine.commandWrite
  refine .ite (h.wr.answer.ite h.unlisted) ?_
  split
  case h_1 f found => exact linkCommands_keeps f found h
  case h_2 =>
    split
    case h_1 f found => exact KeepsAll.ite hubCommands_keeps tsuCommands_keeps f found h
    case h_2 => exact h.answer

theorem plainWrite {right o v} : (Machine.plainWrite right o v n).SoundAs k :=
  ite (h.journaled fun h => ite (h.rwsWrite fun h => h.wr) (h.accept fun h => h.wr)) (ite (h.rwsWrite fun h => h.wr) (h.accept fun h => h.wr))

omit h in
theorem linkWrites_keeps {w o v} : KeepsAll (Machine.linkWrites w o v) := by
  unfold Machine.linkWrites
  extract_lets idx sub at_
  refine .ite (.some fun h => h.linkEnable) <| .ite (.some fun h => h.podWrite) <| .ite (.some fun h => h.laneWrite) <|
    .ite (.some fun h => h.evEnableWrite) <| .ite (.some fun h => h.accept fun h => h.wr) <| .ite (.some fun h => h.labelWrite) <|
    .ite (.some fun h => h.priorityWrite) <| .ite (.some fun h => h.oscillatorWrite) <| .ite (.some fun h => h.outputWrite) ?_
  refine .ite (.some (Keeps.ite (fun h => h.modeChange) fun h => h.rwsWrite fun h => h)) ?_
  exact .ite (.some fun h => h.incrementWrite) <| .ite (.some fun h => h.anchorWrite) <| .ite (.some fun h => h.outputWrite) .none

omit h in
theorem tsuWrites_keeps {w o v} : KeepsAll (Machine.tsuWrites w o v) := by
  unfold Machine.tsuWrites
  extract_lets idx sub at_ words
  refine .ite (.some fun h => h.preferredWrite) <| .ite (.some fun h => h.tableWrite) <| .ite (.some fun h => h.translationWrite) <|
    .ite (.some fun h => h.accountWrite) <| .ite (.some fun h => h.descriptorWrite) <| .ite (.some fun h => h.contributionWrite) <|
    .ite (.some fun h => h.strictWrite) <| .ite (.some fun h => h.keyWrite) <| .ite (.some fun h => h.coreMapWrite) <|
    .ite (.some fun h => h.manifestWrite) <| .ite (.some fun h => h.irqAck) ?_
  exact .ite (.some fun h => h.rwsWrite fun h => h.wr) <| .ite (.some fun h => h.accept fun h => h.wr) .none

omit h in
theorem hubWrites_keeps {w o v} : KeepsAll (Machine.hubWrites w o v) := by
  unfold Machine.hubWrites
  extract_lets idx sub at_
  exact .ite (.some fun h => h.headWrite) <| .ite (.some fun h => h.slotWrite) <| .ite (.some fun h => h.engWrite) <|
    .ite (.some fun h => h.strictSpansWrite) <| .ite (.some fun h => h.epochWrite) <| .ite (.some fun h => h.operatorWrite) <|
    .ite (.some fun h => h.keyOfOperator) <| .ite (.some fun h => h.segmentWrite) .none

omit h in
theorem commonWrites_keeps {w o v} : KeepsAll (Machine.commonWrites w o v) := by
  unfold Machine.commonWrites
  extract_lets idx sub
  refine .ite (.some (Keeps.ite (fun h => h.fnDisable) (Keeps.ite (fun h => h.fnEnable) fun h => h.answer))) ?_
  exact .ite (.some fun h => h.eventSourceWrite) <| .ite (.some fun h => h.accept fun h => h.modRoute) .none

theorem routeWrite {w} : (n.routeWrite w).SoundAs k := by
  unfold Node.routeWrite
  extract_lets o
  split
  case h_1 => exact h.answer
  case h_2 r _ =>
    extract_lets v
    refine h.answer.ite <| h.answer.ite <| h.answer.ite <| h.answer.ite <| h.commandWrite.ite ?_
    split
    case h_1 f found => exact commonWrites_keeps f found h
    case h_2 =>
      split
      case h_1 f found => exact linkWrites_keeps f found h
      case h_2 =>
        split
        case h_1 f found => exact KeepsAll.ite hubWrites_keeps tsuWrites_keeps f found h
        case h_2 => exact h.plainWrite

theorem quietly {f} (hf : ∀ {m}, m.SoundAs k → (f m).SoundAs k) : (n.quietly f).SoundAs k :=
  (hf h.modCensus).wr.wr.same (by rfl)

theorem runWrite {w} : (n.runWrite w).SoundAs k := h.wr.routeWrite.wr.ite h.routeWrite

theorem tryWrite {w} : (n.tryWrite w).1.SoundAs k := by
  unfold Node.tryWrite
  dsimp only
  split
  · exact h.quietly fun h => h.runWrite
  · exact h.same rfl

theorem applyDeferred : n.applyDeferred.SoundAs k := (h.same (by rfl)).overAll fun h => h.quietly fun h => h.runWrite

theorem accessEnd {route st} : (n.accessEnd route st).SoundAs k :=
  ite (h.events.thenIf (fun h => h.bump) |>.wr) (ite (h.events.thenIf fun h => h.bump) (h.events.thenIf (fun h => h.bump) |>.wr))

theorem objectWrite {obj off data} : (Machine.objectWrite obj off data n).SoundAs k := h.when fun h => h.tryWrite.accessEnd.modAnswer

/-! #### Replay -/

theorem ackReplay {m} : (n.ackReplay m).SoundAs k := by
  unfold Node.ackReplay
  split
  · exact h
  · exact h.sendAll

theorem replayApply {seq data} : (Machine.replayApply seq data n).SoundAs k := by
  unfold Machine.replayApply
  dsimp only
  split
  · exact h
  · split
    · exact h
    · refine h.modJrnl.replayLate.ite (h.when fun h => ackReplay (bump ?_))
      split
      · exact h.modJrnl.takeFree.tryWrite
      · exact h.modJrnl.takeFree

/-! #### Access -/

theorem abandon {route} : (n.abandon route).SoundAs k := h.ite h.modRoute.bump

theorem closeTransfer {route} : (n.closeTransfer route).SoundAs k := h.modRoute

theorem openRead {route o key} : (n.openRead route o key).SoundAs k := h.afterRead.modRoute

theorem openWrite {route o key} : (n.openWrite route o key).SoundAs k := h.modRoute

theorem segEnd {route st whole} : (n.segEnd route st whole).SoundAs k := h.accessEnd.ite (h.wr.ite h)

theorem opening {route o mode key f} (hf : ∀ {m}, m.SoundAs k → (f m).1.SoundAs k) : (n.opening route o mode key f).1.SoundAs k := by
  unfold Node.opening
  split
  · exact hf h
  · split
    · exact h
    · exact hf h.abandon

theorem readOpen {route off len} : (n.readOpen route off len).1.SoundAs k := by
  unfold Node.readOpen
  dsimp only
  split
  · exact h
  · exact h.modRoute.thenIf fun h => h.closeTransfer

theorem readSeg {route o off len key} : (n.readSeg route o off len key).1.SoundAs k := by
  unfold Node.readSeg
  split
  · exact h
  · split
    · split
      · exact h.afterRead
      · exact h
    · split
      · exact h.opening fun h => readOpen (h.openRead.ite h)
      · split
        · exact h.readOpen
        · split
          · exact h
          · exact h

theorem writeOpen {route src lane off data last} : (n.writeOpen route src lane off data last).1.SoundAs k := by
  unfold Node.writeOpen
  dsimp only
  split
  · exact h
  · split
    · exact h.closeTransfer.tryWrite
    · exact h.modRoute

theorem writeSeg {route src lane o off data last key} : (n.writeSeg route src lane o off data last key).1.SoundAs k := by
  unfold Node.writeSeg
  split
  · exact h
  · split
    · split
      · exact h.tryWrite
      · exact h
    · split
      · exact h.modRoute.ite h
      · exact h.opening fun h => writeOpen (h.openWrite.ite h)

theorem portEnd {st data whole} : (n.portEnd st data whole).SoundAs k := modAnswer (h.accessEnd.ite h.wr)

theorem longEnd {st data whole} : (n.longEnd st data whole).SoundAs k := h.modRoute.portEnd

theorem longWindow {o f} (hf : ∀ {m}, m.SoundAs k → (f m).SoundAs k) : (n.longWindow o f).SoundAs k := by
  unfold Node.longWindow
  split
  · exact h.portEnd
  · exact ite (hf h.modRoute) h.portEnd

theorem longOpenRead {o} : (Machine.longOpenRead o n).SoundAs k := h.when fun h => h.longWindow fun h => h.abandon.openRead.longEnd

theorem longOpenWrite {o} : (Machine.longOpenWrite o n).SoundAs k := h.when fun h => h.longWindow fun h => h.abandon.openWrite.longEnd

theorem notOpen {o} : (n.notOpen o).SoundAs k := h.longEnd

theorem longCommit {o} : (Machine.longCommit o n).SoundAs k := h.when fun h => h.longWindow fun h => h.notOpen.ite h.closeTransfer.tryWrite.longEnd

theorem longAbandon {o} : (Machine.longAbandon o n).SoundAs k := h.when fun h => h.longWindow fun h => longEnd (h.closeTransfer.ite h)

theorem longDataAccess {o write v} : (Machine.longDataAccess o write v n).SoundAs k :=
  h.when fun h =>
    h.longWindow fun h => ite (h.notOpen.ite (h.longEnd.ite h.modRoute.longEnd)) (h.notOpen.ite (h.longEnd.ite h.modRoute.longEnd))

theorem longPosition {o v} : (Machine.longPosition o v n).SoundAs k := h.when fun h => h.longWindow fun h => h.longEnd.ite h.modRoute.longEnd

theorem shortRead {o word} : (Machine.shortRead o word n).SoundAs k := h.portEnd.ite h.afterRead.modRoute.portEnd

theorem regWordRead {addr width} : (Machine.regWordRead addr width n).SoundAs k := by
  unfold Machine.regWordRead
  dsimp only
  refine h.when fun h => h.portEnd.ite ?_
  split
  · exact h.portEnd
  · exact h.shortRead.ite (h.longDataAccess.ite (h.portEnd.ite (h.portEnd.ite h.portEnd)))

theorem shortWrite {o word v} : (Machine.shortWrite o word v n).SoundAs k := h.portEnd.ite (h.modRoute.tryWrite.portEnd.ite h.modRoute.portEnd)

theorem regWordWrite {addr width v} : (Machine.regWordWrite addr width v n).SoundAs k := by
  unfold Machine.regWordWrite
  refine h.when fun h => ?_
  extract_lets o word n0
  have routed : n0.SoundAs k := h.ite h.modRoute
  refine h.portEnd.ite ?_
  split
  · exact routed.portEnd
  · exact routed.shortWrite.ite <| routed.longDataAccess.ite <| routed.longPosition.ite <| routed.portEnd.ite <|
      routed.longOpenRead.ite <| routed.longOpenWrite.ite <| routed.longCommit.ite <| routed.longAbandon.ite routed.portEnd

theorem transferTimeout {route} : (Machine.transferTimeout route n).SoundAs k := h.when fun h => h.abandon

theorem respond {p req a} : (n.respond p req a).SoundAs k := by
  unfold Node.respond
  dsimp only
  refine h.send.ite ?_
  split
  · exact h.send.ite h.bump
  · exact h.bump

theorem objectReadRequest {p} : (Machine.objectReadRequest p n).SoundAs k := by
  unfold Machine.objectReadRequest
  dsimp only
  refine h.onMsg fun h => respond (segEnd ?_)
  split
  · exact h
  · exact h.readSeg

theorem objectWriteRequest {p} : (Machine.objectWriteRequest p n).SoundAs k := by
  unfold Machine.objectWriteRequest
  dsimp only
  refine h.onMsg fun h => respond (segEnd ?_)
  split
  · exact h
  · exact h.writeSeg

theorem objectAbandon {p} : (Machine.objectAbandon p n).SoundAs k := h.onMsg fun h => h.closeTransfer.ite h

theorem relayForward {p} : (Machine.relayForward p n).SoundAs k := by
  unfold Machine.relayForward
  dsimp only
  refine h.onMsg fun h => h.bump.ite ?_
  split
  · exact h.forward.ite (h.bump.thenIf fun h => h.respond)
  · exact h.bump

/-! #### Grennu Object Access -/

theorem goaHere {q o} : (n.goaHere q o).1.SoundAs k := by
  unfold Node.goaHere
  dsimp only
  split
  · exact h.readSeg
  · split
    · exact h.writeSeg
    · exact h.closeTransfer.ite h

theorem endXfer {tag} : (n.endXfer tag).SoundAs k := h.modAccess

theorem xferTag {q o} : (n.xferTag q o).2.SoundAs k := by
  unfold Node.xferTag
  split
  · exact h
  · exact h.modAccess

theorem relaySegment {q o} : (n.relaySegment q o).1.SoundAs k := by
  unfold Node.relaySegment
  have tagged : (n.xferTag q o).2.SoundAs k := h.xferTag
  split
  rename_i tag n1 held
  rw [held] at tagged
  extract_lets i len bytes fin
  split
  rename_i n2 left sent
  have sound := congrArg (fun x : Node × Bool => x.1.SoundAs k) sent
  split
  · exact sound.mp (sendRelay tagged)
  · exact endXfer (sound.mp (sendRelay tagged))

theorem goaThere {q o} : (n.goaThere q o).1.SoundAs k := by
  unfold Node.goaThere
  split
  · split
    · exact h
    · exact h.sendRelay.endXfer
  · exact h.relaySegment

theorem goaOne {q o} : (n.goaOne q o).1.SoundAs k := by
  unfold Node.goaOne
  dsimp only
  split
  · exact h
  · split
    · exact h.accessEnd
    · split
      · exact h.accessEnd
      · split
        · exact h.goaHere.segEnd
        · exact h.goaThere

theorem goaRun {fuel q} : (n.goaRun fuel q).1.SoundAs k := by
  induction fuel generalizing n q with
  | zero => exact h
  | succ fuel ih =>
    rw [Node.goaRun]
    split
    · exact h
    · split
      · exact h
      · split
        · exact ih h
        · rename_i o _ _ _
          have one : (n.goaOne q o).1.SoundAs k := h.goaOne
          split <;> rename_i answered <;> rw [answered] at one
          · exact ih one
          · exact one

theorem goaAnswer {q a} : (n.goaAnswer q a).1.SoundAs k := by
  unfold Node.goaAnswer
  split
  · exact h
  · split
    · exact h.ite h.endXfer
    · extract_lets moved fin
      split
      · exact h.endXfer.ite h
      · exact h

theorem goaOn {q} : (n.goaOn q).1.SoundAs k := by
  unfold Node.goaOn
  refine goaRun ?_
  split
  · exact h
  · split
    · exact h
    · exact h.modAccess.goaAnswer

theorem goaStep : n.goaStep.SoundAs k := h.ite (h.overAll fun h => h.goaOn.modAccess)

theorem oncePerSecond {told port r note} (hnote : ∀ {x m}, m.SoundAs k → (note x m).SoundAs k) : (n.oncePerSecond told port r note).SoundAs k :=
  h.countCause.ite (hnote h.fault)

theorem goaRefuse {port addr op kind} : (n.goaRefuse port addr op kind).SoundAs k := oncePerSecond (h.bump.ite h) fun h => h.modOperator

theorem goaStale {port op seq} : (n.goaStale port op seq).SoundAs k := h.bump.oncePerSecond fun h => h.modOperator

theorem goaSend {port addr b} : (n.goaSend port addr b).SoundAs k := h.modAccess

theorem goaAccept {port addr op b} : (n.goaAccept port addr op b).SoundAs k := h.wr.bump.thenIf (fun h => h.modOperator) |>.modAccess

theorem goaRequest {port addr b} : (Machine.goaRequest port addr b n).SoundAs k := by
  unfold Machine.goaRequest
  refine h.when fun h => h.goaRefuse.ite (h.goaAccept.ite ?_)
  dsimp only
  split
  · exact h.goaSend
  · exact h.goaStale

theorem serveObject {p} : (Machine.serveObject p n).SoundAs k := by
  unfold Machine.serveObject
  split
  · exact h
  · exact h.objectReadRequest.ite (h.objectWriteRequest.ite h.objectAbandon)

theorem relayFirst : n.relayFirst.SoundAs k := h.overAll fun h => h.overAll fun h => h.serveObject

theorem newKeys {op seq} : (n.newKeys op seq).SoundAs k := h.modAccess

theorem goaResponseSend {op} : (Machine.goaResponseSend op n).SoundAs k := by
  unfold Machine.goaResponseSend
  refine h.when fun h => ?_
  dsimp only
  split
  · exact h.relayFirst.goaStep
  · exact h.relayFirst.goaStep.goaSend.modOperator.modAccess.newKeys

theorem responseReceived {p} : (Machine.responseReceived p n).SoundAs k := by
  unfold Machine.responseReceived
  refine h.onMsg fun h => ?_
  split
  · exact h
  · exact h.relayEnded.thenIf (fun h => h.laneWritten) |>.goaStep

theorem relayTimeout {tag} : (Machine.relayTimeout tag n).SoundAs k := by
  unfold Machine.relayTimeout
  split
  · exact h
  · exact h.when fun h => h.relayEnded.goaStep

/-! #### A tick -/

theorem newLatency : n.newLatency.SoundAs k := h.same rfl

theorem marker : n.marker.SoundAs k := h.newTables.newSources.newLatency.reservedSlot.ite h

/-- A tick passes: TB1 rises by one. -/
theorem ticks : ({ n with tb1 := (n.tb1 + 1) % 2 ^ 64 } : Node).SoundAs k := ⟨h.1, h.2.1, Nat.mod_lt _ (by decide)⟩

theorem clock : n.clock.SoundAs k := h.ticks.applyDeferred.marker.events

theorem tickEnd : n.tickEnd.SoundAs k := h.captureTake.lines

theorem tsuTick : (Machine.tsuTick n).SoundAs k := by
  unfold Machine.tsuTick
  exact ((((((h.tickEnd.basesMark.clock.basesTick.commandsTick.overAll (fun h => h.captureDue) |>.overAll fun h =>
      h.pulseTick).restartTick).agentsTick).busTick).regionsTick).pathWatch).placeCensus

theorem pongsSent : n.pongsSent.SoundAs k := h.modHpwr

theorem hubTick : (Machine.hubTick n).SoundAs k :=
  h.clock.dcoTick.realignTick.outsFall.restartTick.escrowTick.healthTick.laneTick.goaStep.pongsSent.ite (h.ticks.ite h)

end
end Node.SoundAs

/-! ### Steps of the block -/

/-- What a command does to the block, whatever it is: it answers a next state, leaves the rest of the queue and at least one of the units as
they are, and each unit keeps its kind and stays sound. -/
def State.KeepsUnits (s : State) (o : Host.Outcome State Fault Refusal) : Prop :=
  ∃ t, o = .next t ∧ t.pending = s.pending ∧ (t.tsu = s.tsu ∨ t.hub = s.hub) ∧
    (∀ k, s.tsu.SoundAs k → t.tsu.SoundAs k) ∧ ∀ k, s.hub.SoundAs k → t.hub.SoundAs k

namespace State.KeepsUnits

theorem onNode {s : State} {u : Who} {ok : Bool} {f : Node → Node} (hf : Keeps f) : s.KeepsUnits (onNode s u ok f) := by
  have kept {k : Kind} (h : (s.node u).SoundAs k) : (if ok && (s.node u).running then f (s.node u) else s.node u).SoundAs k := (hf h).ite h
  cases u with
  | tsu => exact ⟨_, rfl, rfl, .inr rfl, fun _ h => kept h, fun _ h => h⟩
  | hub => exact ⟨_, rfl, rfl, .inl rfl, fun _ h => h, fun _ h => kept h⟩

theorem onHub {s : State} {ok : Bool} {f : Node → Node} (hf : Keeps f) : s.KeepsUnits (onHub s ok f) :=
  ⟨_, rfl, rfl, .inl rfl, fun _ h => h, fun _ h => (hf h).ite h⟩

theorem onObj {s : State} {u : Who} {ok : Bool} {f : Node → Node} (hf : Keeps f) : s.KeepsUnits (onObj s u ok f) :=
  onNode fun h => (hf h).ite h.answer

theorem onCtx {c : Nat} {s : State} {f : Node → Node} (hf : Keeps f) : s.KeepsUnits (onCtx c s f) := onNode hf

theorem entryRow {c op : Nat} {act : Nat → Nat → Nat → Nat → Node → Node} {s : State} (hact : ∀ {e i it t}, Keeps (act e i it t)) :
    s.KeepsUnits (entryRow c op act s) := onCtx fun h => h.entriesBelow.onEntry hact

end State.KeepsUnits

/-- Every command, by its unit's operation; a `show` names the command where unfolding it further would run its operation. -/
theorem exec_keepsUnits (i : Instr) (s : State) : s.KeepsUnits (exec i s) := by
  cases i with
  | linkEnableWrite => exact .onObj fun h => h.linkEnable
  | linkRestart => exact .onObj fun h => h.linkRestart
  | sendWakePattern => exact .onObj fun h => h.sendWake
  | lossOfSignal => exact .onNode fun h => h.lossOfSignal
  | frameLockLost => exact .onNode fun h => h.frameLockLost
  | darkRetry => exact .onNode fun h => h.darkRetry
  | wakeComplete => exact .onNode fun h => h.wakeComplete
  | trainLock => exact .onNode fun h => h.trainLock
  | linkStateTimeout => exact .onNode fun h => h.linkTimeout
  | helloReceived => exact .onNode fun h => h.helloReceived
  | linkSynced => exact .onNode fun h => h.linkSynced
  | memberHoldReached => exact .onNode fun h => h.memberHold
  | memberLockLoss => exact .onNode fun h => h.memberLockLoss
  | frameReceived => exact .onNode fun h => h.frameReceived
  | frameSend => exact .onNode fun h => h.frameSend
  | uncorrectableWindowEnd => exact .onNode fun h => h.windowEnd
  | faultSlotReceived => exact .onNode fun h => h.slotReceived
  | timeMessageReceived => exact .onNode fun h => h.timeReceived
  | markerServo => exact .onNode fun h => h.markerServo
  | revertHoldExpiry => exact .onNode fun h => h.revertHold
  | keystoneRootWaitExpiry => exact .onNode fun h => h.rootWaitExpiry
  | planeDisagreement => exact .onNode fun h => h.planeDisagreement
  | closureApply => exact .onObj fun h => h.closureStart
  | closureMeasure => exact .onObj fun h => h.closureStart
  | closureDone => exact .onNode fun h => h.closureDone
  | closureTrackingRun => exact .onNode fun h => h.closureTracking
  | podOffsetWrite => exact .onObj fun h => h.podWrite
  | podEvaluationDone => exact .onNode fun h => h.podDone
  | tdcEdge => exact .onNode fun h => h.hubEdge
  | dllLockChange => exact .onNode fun h => h.dllChange
  | calibrationPeriodStart => exact .onNode fun h => h.calPeriod
  | calibrateCommand => exact .onObj fun h => h.calibrate
  | calibrationCollectionEnd => exact .onNode fun h => h.collectionEnd
  | slotClose => exact .onNode fun h => h.slotClose
  | regressionStop => exact .onObj fun h => h.regrStop
  | regressionOneGate => exact .onObj fun h => h.regrStart
  | regressionContinuous => exact .onObj fun h => h.regrStart
  | regressionGateEnd => exact .onNode fun h => h.regrEnd
  | keystoneMarker => exact .onNode fun h => h.keystoneMarker
  | monitorGateEnd => exact .onNode fun h => h.monitorGateEnd
  | esmcPduReceived => exact .onNode fun h => h.esmcReceived
  | esmcTimeout => exact .onNode fun h => h.esmcTimeout
  | waitToRestoreExpiry => exact .onNode fun h => h.waitEnd
  | referenceServoUpdate => exact .onNode fun h => h.servoUpdate
  | holdoverBudgetReached => exact .onNode fun h => h.budgetReached
  | dcoHistoryRecord => exact .onNode fun h => h.historyRecord
  | dacDiscipline => exact .onNode fun h => h.dacDiscipline
  | priorityTableWrite => exact .onNode fun h => h.priorityWrite
  | hallSecondRoll => exact .onNode fun h => h.secondRoll
  | hallLabelWrite => exact .onNode fun h => h.labelWrite
  | timeSourceEdge => exact .onNode fun h => h.timeEdge
  | realignStart => exact .onNode fun h => h.accept fun h => h.modKst.wr
  | realignStop => exact .onNode fun h => h.accept fun h => h.modKst.wr
  | twinKeystoneReceived => exact .onNode fun h => h.twinKeystoneReceived
  | keystoneTakeover => exact .onNode fun h => h.takeover
  | outputPulse => exact .onNode fun h => h.outputPulse
  | outputSettingEffective => exact .onNode fun h => h.outputEffective
  | tbSet => exact .onObj fun h => h.tbCommand
  | tbStep => exact .onObj fun h => h.tbCommand
  | tbSlew => exact .onObj fun h => h.tbCommand
  | tbCancelSlew => exact .onObj fun h => h.tbCommand
  | tbCommandApply => exact .onNode fun h => h.tbApply
  | tbSlewEnd => exact .onNode fun h => h.slewEnd
  | tbIncrementWrite => exact .onObj fun h => h.incrementWrite
  | tbModeChange => exact .onNode fun h => h.modeChange
  | hallAnchorWrite => exact .onNode fun h => h.anchorWrite
  | anchorDistribution => exact .onNode fun h => h.anchorDistribution
  | captureRecordRead => exact .onNode fun h => h.captureRead
  | pulseOutputPlace => exact .onNode fun h => h.pulsePlace
  | interruptEvent => exact .onNode fun h => h.irqEvent
  | interruptAcknowledge => exact .onNode fun h => h.irqAck
  | busFrameSend => exact .onNode fun h => h.busFrameSend
  | agentLaunch => exact .onNode fun h => h.agentLaunch
  | agentCut => exact .onNode fun h => h.agentCut
  | agentAbort => exact .onNode fun h => h.agentAbortAct
  | agentCensus => exact .onNode fun h => h.agentCensus
  | busFrameReceived => exact .onNode fun h => h.busFrameReceived
  | tickLaneLost => exact .onNode fun h => h.tickLaneLost
  | noLaneExpiry => exact .onNode fun h => h.noLaneExpiry
  | bypassEngage => exact .onObj fun h => h.bypass.answer
  | bypassRelease => exact .onObj fun h => h.bypass.answer
  | agentMarker => exact .onNode fun h => h.agentMarker
  | agentLanesDisagree => exact .onNode fun h => h.lanesDisagree
  | runComplete => exact .onNode fun h => h.runComplete
  | runDeadline => exact .onNode fun h => h.runDeadline
  | stretchPulse => exact .onNode fun h => h.when fun h => h.bump.agEvents
  | marginWarnEpisode => exact .onNode fun h => h.when fun h => h.marginEpisode
  | fchgRequest => exact .onNode fun h => h.when fun h => h.modAgent
  | fchgGrant => exact .onNode fun h => h.fchgGrant
  | fchgAck => exact .onNode fun h => h.when fun h => h.fchgAck
  | fchgReqLow => exact .onNode fun h => h.fchgReqLow
  | stopWindowOverrun => exact .onNode fun h => h.stopOverrun
  | stopTimeout => exact .onNode fun h => h.supplyFirst.stopTimeout
  | viaductWrite => exact .onNode fun h => h.viaductWrite
  | viaductRead => exact .onNode fun h => h.viaductRead
  | viaductStalledDelivery => exact .onNode fun h => h.viaductStalled
  | viaductTickDelivery => exact .onNode fun h => h.viaductTick
  | viaductSever => exact .onNode fun h => h.viaductSever
  | tableCommit => exact .onObj fun h => h.tableCommit
  | tableCommitDone => exact .onNode fun h => h.tableCommitDone
  | tableEmpty => exact .onObj fun h => h.tableEmpty
  | tableStorageError => exact .onNode fun h => h.tableStorageError
  | actionCommit c =>
    show s.KeepsUnits (execActionCommit c s)
    exact .onCtx fun h => h.entriesBelow.actionCommit
  | entryNop c =>
    show s.KeepsUnits (execEntryNop c s)
    exact .entryRow fun h => h.entryNop
  | entryWait c =>
    show s.KeepsUnits (execEntryWait c s)
    exact .entryRow fun h => h.entryWait
  | waitResume c =>
    show s.KeepsUnits (execWaitResume c s)
    exact .onCtx fun h => h.entriesBelow.waitResume
  | entrySignal c =>
    show s.KeepsUnits (execEntrySignal c s)
    exact .entryRow fun h => h.entrySignal
  | entryArrive c =>
    show s.KeepsUnits (execEntryArrive c s)
    exact .entryRow fun h => h.entryArrive
  | entryClear c =>
    show s.KeepsUnits (execEntryClear c s)
    exact .entryRow fun h => h.entryClear
  | entryBranch c =>
    show s.KeepsUnits (execEntryBranch c s)
    exact .entryRow fun h => h.entryBranch
  | entryGate c =>
    show s.KeepsUnits (execEntryGate c s)
    exact .entryRow fun h => h.entryGate
  | entryMark c =>
    show s.KeepsUnits (execEntryMark c s)
    exact .entryRow fun h => h.entryMark
  | entryAudit c =>
    show s.KeepsUnits (execEntryAudit c s)
    exact .entryRow fun h => h.entryAudit
  | entryPulse c =>
    show s.KeepsUnits (execEntryPulse c s)
    exact .entryRow fun h => h.entryPulse
  | entryLoop c =>
    show s.KeepsUnits (execEntryLoop c s)
    exact .entryRow fun h => h.entryLoop
  | entryEnd c =>
    show s.KeepsUnits (execEntryEnd c s)
    exact .entryRow fun h => h.entryEnd
  | markRead => exact .onNode fun h => h.markRead
  | releaseAccumulator => exact .onNode fun h => h.releaseAccumulator
  | deadlineEvaluation c =>
    show s.KeepsUnits (execDeadlineEvaluation c s)
    exact .onCtx fun h => h.entriesFirst.deadlineEvaluation
  | stepEnd c =>
    show s.KeepsUnits (execStepEnd c s)
    exact .onCtx fun h => h.entriesFirst.deadlineEvaluation.endNow
  | armReceived => exact .onNode fun h => h.escrowIn
  | armAckHeldRelease => exact .onNode fun h => h.ackRelease
  | confirmReceived => exact .onNode fun h => h.escrowIn
  | recallReceived => exact .onNode fun h => h.escrowIn
  | escrowGuardExpiry c =>
    show s.KeepsUnits (execEscrowGuardExpiry c s)
    exact .onCtx fun h => h.messagesFirst.guardExpiry
  | stepFire c =>
    show s.KeepsUnits (execStepFire c s)
    exact .onCtx fun h => h.messagesFirst.guardExpiry.stepFire
  | recalledFReached c =>
    show s.KeepsUnits (execRecalledFReached c s)
    exact .onCtx fun h => h.messagesFirst.recalledF
  | headArmLeave => exact .onNode fun h => h.armLeave
  | escrowHandoffReceived => exact .onNode fun h => h.handoffReceived
  | escrowHandoffMissing => exact .onNode fun h => h.handoffMissing
  | escrowDownForward => exact .onNode fun h => h.escrowDown
  | armAckReceived => exact .onNode fun h => h.ackReceived
  | escrowSetChange => exact .onNode fun h => h.setChange
  | escrowHorizon => exact .onNode fun h => h.escrowHorizon
  | totalReceived => exact .onNode fun h => h.totalReceived
  | escrowDecision => exact .onNode fun h => h.escrowDecision
  | twinLost => exact .onNode fun h => h.twinLost
  | twinLeadReceived => exact .onNode fun h => h.twinLeadReceived
  | leadReclaim => exact .onNode fun h => h.leadReclaim
  | twinLeadSend => exact .onNode fun h => h.twinLeadSend
  | headEntryStart => exact .onObj fun h => h.headStart
  | headEntryStopAfter => exact .onObj fun h => h.headStopAfter
  | headEntryStopNow => exact .onObj fun h => h.stopHead.answer
  | tallyInit => exact .onNode fun h => h.tallyBus
  | tallySignal => exact .onNode fun h => h.tallyBus
  | tallyArrive => exact .onNode fun h => h.tallyBus
  | tallyWait => exact .onNode fun h => h.tallyBus
  | tallyUpMessage => exact .onNode fun h => h.upMessage
  | arriveCombineSend => exact .onNode fun h => h.combineSend
  | slotDecision => exact .onNode fun h => h.slotDecision
  | immediateDecision => exact .onNode fun h => h.immediateDecision
  | tallyReleaseReceived p moved =>
    show s.KeepsUnits (execTallyReleaseReceived p moved s)
    exact .onNode fun h => h.escrowFirst.releaseReceived
  | tallyDownForward => exact .onNode fun h => h.downForward
  | ledgerDecision c slot =>
    show s.KeepsUnits (execLedgerDecision c slot s)
    exact .onCtx fun h => h.releasesFirst.ledgerDecision
  | releaseTick c slot =>
    show s.KeepsUnits (execReleaseTick c slot s)
    exact .onCtx fun h => h.escrowFirst.releaseTick
  | ledgerReport r account bytes =>
    show s.KeepsUnits (execLedgerReport r account bytes s)
    exact .onNode fun h => h.releasesFirst.ledgerReport
  | accountTableWrite => exact .onNode fun h => h.accountWrite
  | translationWrite => exact .onObj fun h => h.translationWrite
  | tallyWaitTimeout span c tally unit =>
    show s.KeepsUnits (execTallyWaitTimeout span c tally unit s)
    exact .onNode fun h => h.releasesFirst.decisionsDue.timeoutOf
  | hostTallySignal => exact .onObj fun h => h.hostCommand
  | hostTallyArrive => exact .onObj fun h => h.hostCommand
  | hostTallyWait => exact .onObj fun h => h.hostCommand
  | hostCancelWait => exact .onObj fun h => h.journaled fun h => h.needsFn fun h => h.accept fun h => h.hostCancel
  | descriptorWrite => exact .onObj fun h => h.descriptorWrite
  | contributionWrite => exact .onObj fun h => h.contributionWrite
  | partialReceived => exact .onNode fun h => h.partialsBelow.partialReceived
  | elementSendUp e =>
    show s.KeepsUnits (execElementSendUp e s)
    exact .onNode fun h => h.partialsFirst.elementSendUp
  | headRoundElement e =>
    show s.KeepsUnits (execHeadRoundElement e s)
    exact .onNode fun h => h.partialsFirst.headRound
  | headSendEnd e =>
    show s.KeepsUnits (execHeadSendEnd e s)
    exact .onNode fun h => h.partialsFirst.headSendEnd
  | resultForward => exact .onNode fun h => h.resultForward
  | resultReceived p =>
    show s.KeepsUnits (execResultReceived p s)
    exact .onNode fun h => h.escrowFirst.resultReceived
  | clearingResultTimeout => exact .onNode fun h => h.resultTimeout
  | engineConfigure => exact .onObj fun h => h.engWrite
  | clearingStorageError => exact .onNode fun h => h.storageError
  | strictWrite => exact .onNode fun h => h.strictWrite
  | keyRecompute => exact .onNode fun h => h.keyRecompute
  | keyRecomputeDone => exact .onNode fun h => h.keyDone
  | mintSegment => exact .onNode fun h => h.when fun h => h.mintSegment
  | chainingValuePosted => exact .onNode fun h => h.chainingValue
  | tagComplete => exact .onNode fun h => h.tagComplete
  | journalRecord => exact .onNode fun h => h.journalRecord
  | journalResend => exact .onNode fun h => h.journalResend
  | journalAckReceived => exact .onNode fun h => h.journalAck
  | journalStore => exact .onNode fun h => h.journalStore
  | tagMessageReceived => exact .onNode fun h => h.tagReceived
  | trailClose => exact .onNode fun h => h.trailClose
  | replayStart => exact .onNode fun h => h.replayStart
  | replayStop => exact .onNode fun h => h.stopReplay.answer
  | replayInject => exact .onNode fun h => h.replayInject
  | replayRecordReceived => exact .onNode fun h => h.replayReceived
  | replayApply => exact .onNode fun h => h.replayApply
  | journaledInputSuppress => exact .onNode fun h => h.suppressInput
  | faultRecordRead => exact .onNode fun h => h.recordRead
  | clearFirstRecord => exact .onNode fun h => h.wr.answer
  | faultWaveReceived => exact .onNode fun h => h.waveReceived
  | settleWindowEnd => exact .onNode fun h => h.settleEnd
  | spanPathLost => exact .onNode fun h => h.pathLost
  | heartbeat => exact .onNode fun h => h.supplyFirst.heartbeat
  | heartbeatWindowExpiry => exact .onNode fun h => h.supplyFirst.heartbeatMissed
  | contextResetAck => exact .onNode fun h => h.supplyFirst.resetAck
  | resetLimitExpiry => exact .onNode fun h => h.supplyFirst.resetLimit
  | isolationLimitExpiry => exact .onNode fun h => h.isolationLimit
  | powerCycleDone => exact .onNode fun h => h.cycleDone
  | powerCycleLimitExpiry => exact .onNode fun h => h.supplyFirst.cycleLimitExpiry
  | ladderPowerCycle => exact .onObj fun h => h.ladderCycle
  | ladderRestoreLost => exact .onObj fun h => h.ladderRestore
  | ladderReleaseHold => exact .onObj fun h => h.ladderRelease
  | ladderDeclareLost => exact .onObj fun h => h.ladderLost
  | powerGoodLost => exact .onNode fun h => h.powerGoodLost
  | hubWatchdogExpiry => exact .onNode fun h => h.watchdogExpiry
  | spanListAdd => exact .onNode fun h => h.listAdd
  | spanListRemove => exact .onNode fun h => h.listRemove
  | spanListMask => exact .onNode fun h => h.listMask
  | spanListHead => exact .onNode fun h => h.listHead
  | portOwn => exact .onObj fun h => h.portOwn
  | portRelease => exact .onObj fun h => h.portRelease
  | portFree => exact .onObj fun h => h.portFree
  | laneEntryWrite => exact .onObj fun h => h.writeLane.answer
  | epochCreate => exact .onNode fun h => h.epochOp
  | epochRelease => exact .onNode fun h => h.epochOp
  | epochAdvance => exact .onNode fun h => h.epochOp
  | twinEpochReceived p =>
    show s.KeepsUnits (execTwinEpochReceived p s)
    exact .onNode fun h => h.onMsg fun h => h.when fun h => h.wr
  | epochCopyDistribute => exact .onNode fun h => h.epochCopies
  | healthIntervalEnd => exact .onNode fun h => h.healthEnd
  | reportReceived => exact .onNode fun h => h.reportReceived
  | auditReceived => exact .onNode fun h => h.auditReceived
  | healthEvaluation => exact .onNode fun h => h.healthEvaluation
  | expelReceived => exact .onNode fun h => h.expelInOrder
  | verdictReceived => exact .onNode fun h => h.verdictReceived
  | twinHealthReceived => exact .onNode fun h => h.twinHealthReceived
  | auditMatrixHalving => exact .onNode fun h => h.when fun h => h.overAll fun h => h.wr
  | healthReinstate => exact .onObj fun h => h.healthReinstate
  | healthClearFences => exact .onObj fun h => h.healthClearFences
  | healthClearMatrix => exact .onObj fun h => h.accept fun h => h.wr
  | censusCommand => exact .onNode fun h => h.censusCommand
  | latchReceived => exact .onNode fun h => h.latchReceived
  | censusLatch => exact .onNode fun h => h.stepLatch.spanLatch
  | eventSourceWrite => exact .onNode fun h => h.eventSourceWrite
  | regWordRead => exact .onNode fun h => h.regWordRead
  | regWordWrite => exact .onNode fun h => h.regWordWrite
  | longOpenRead => exact .onNode fun h => h.longOpenRead
  | longOpenWrite => exact .onNode fun h => h.longOpenWrite
  | longCommit => exact .onNode fun h => h.longCommit
  | longAbandon => exact .onNode fun h => h.longAbandon
  | longDataAccess => exact .onNode fun h => h.longDataAccess
  | longPositionWrite => exact .onNode fun h => h.longPosition
  | transferAbandonTimeout => exact .onNode fun h => h.transferTimeout
  | objectWrite => exact .onNode fun h => h.objectWrite
  | objectReadRequest => exact .onNode fun h => h.objectReadRequest
  | objectWriteRequest => exact .onNode fun h => h.objectWriteRequest
  | objectResponseReceived => exact .onNode fun h => h.responseReceived
  | objectAbandon => exact .onNode fun h => h.objectAbandon
  | objectRelayForward => exact .onNode fun h => h.relayForward
  | relayTimeout => exact .onNode fun h => h.relayTimeout
  | goaRequest port addr dgram =>
    show s.KeepsUnits (execGoaRequest port addr dgram s)
    exact .onNode fun h => h.relayFirst.goaRequest.elseThen fun h => h.goaStep
  | goaResponseSend => exact .onNode fun h => h.goaResponseSend
  | functionDisable => exact .onObj fun h => h.fnDisable
  | functionEnable => exact .onObj fun h => h.fnEnable
  | functionDrained => exact .onNode fun h => h.drained
  | drainTimeout => exact .onNode fun h => h.drainTimeout
  | regionReqActive => exact .onObj fun h => h.regionRequest
  | regionReqDoze => exact .onObj fun h => h.regionRequest
  | regionReqRetain => exact .onObj fun h => h.regionRequest
  | regionReqOff => exact .onObj fun h => h.regionRequest
  | regionReqFence => exact .onObj fun h => h.regionRequest
  | regionForcedFence => exact .onObj fun h => h.regionRequest
  | regionUnfence => exact .onObj fun h => h.regionRequest
  | regionPwrReqChange => exact .onNode fun h => h.pwrReqChange
  | powerGrant r =>
    show s.KeepsUnits (execPowerGrant r s)
    exact .onNode fun h => h.escrowFirst.tryGrant
  | powerDelayExpiry r =>
    show s.KeepsUnits (execPowerDelayExpiry r s)
    exact .onNode fun h => h.escrowFirst.delayExpiry
  | pwrRdyChange => exact .onNode fun h => h.rdyChange
  | handshakeLimitExpiry => exact .onNode fun h => h.handshakeLimit
  | pgoodFallGranted => exact .onNode fun h => h.pgoodFell
  | pgoodFallLimitExpiry => exact .onNode fun h => h.pgoodLimit
  | powerStageReady => exact .onNode fun h => h.stageReady
  | powerStageTimeout => exact .onNode fun h => h.stageTimeout
  | vaultWriteThrough => exact .onNode fun h => h.vaultThrough
  | sleepRequest => exact .onNode fun h => h.sleepRequest
  | sleepWithdraw => exact .onNode fun h => h.sleepWithdraw
  | tsuReset => exact .onNode fun h => h.tsuReset
  | tsuStartupStageDone => exact .onNode fun h => h.tsuStage
  | startupStageTimeout => exact .onNode fun h => h.startupTimeout
  | configRefetch => exact .onNode fun h => h.configRefetch
  | hubSentinelCommand => exact .onNode fun h => h.toSentinel
  | hubOffCommand => exact .onNode fun h => h.toOff
  | sentinelVisit => exact .onHub fun h => h.visit
  | sentinelPong => exact .onNode fun h => h.answerPing
  | sentinelWake => exact .onHub fun h => h.wake_
  | hubStartupStageDone => exact .onNode fun h => h.hubStage
  | firmwareUpdateBegin => exact .onNode fun h => h.updateBegin
  | firmwareSegmentWrite => exact .onNode fun h => h.segmentWrite
  | firmwareUpdateCommit => exact .onNode fun h => h.updateCommit
  | firmwareUpdateAbandon => exact .onNode fun h => h.updateAbandon
  | firmwareTwinRecovery => exact .onNode fun h => h.twinRecovery
  | twinFirmwareRequest => exact .onNode fun h => h.twinFirmware
  | flashWriteBack => exact .onNode fun h => h.flashWrite
  | telemetryUpdate => exact .onNode fun h => h.telemetry
  | scrubError => exact .onNode fun h => h.scrubbed
  | moduleSupplyFault => exact .onHub fun h => h.supplyFault
  | thermalThreshold => exact .onNode fun h => h.thermal
  | partnerPower => exact .onNode fun h => h.accept fun h => h.modHpwr
  | modulePowerButton => exact .onHub fun h => h.powerButton
  | refinCouplingSet => exact .onNode fun h => h.coupling
  | hostLatencyCodesValid => exact .onNode fun h => h.latencyCodes
  | twinHealthSend => exact .onNode fun h => h.twinHealthSend
  | firmwareRestartComplete => exact .onNode fun h => h.firmwareUp

/-- A block whose units keep their kinds and stay sound, with no new commands, stays sound. -/
theorem State.Sound.of_units {s t : State} (h : s.Sound) (queue : ∀ c ∈ t.pending, c ∈ s.pending)
    (tsu : s.tsu.SoundAs s.tsu.kind → t.tsu.SoundAs s.tsu.kind) (hub : s.hub.SoundAs .hub → t.hub.SoundAs .hub) : t.Sound := by
  obtain ⟨⟨tsuKind, hubKind⟩, tsuSound, hubSound, wellFormed⟩ := h
  obtain ⟨tsuKept, tsuStays⟩ := tsu ⟨rfl, tsuSound⟩
  obtain ⟨hubKept, hubStays⟩ := hub ⟨hubKind, hubSound⟩
  exact ⟨⟨fun bad => tsuKind (tsuKept.symm.trans bad), hubKept⟩, tsuStays, hubStays, fun c waits => wellFormed c (queue c waits)⟩

theorem State.Sound.withUnits {s : State} {a b : Node} (h : s.Sound) (ha : s.tsu.SoundAs s.tsu.kind → a.SoundAs s.tsu.kind)
    (hb : s.hub.SoundAs .hub → b.SoundAs .hub) : ({ s with tsu := a, hub := b } : State).Sound :=
  h.of_units (fun _ waits => waits) ha hb

theorem State.Sound.tick {s : State} (h : s.Sound) : s.tick.Sound := by
  unfold State.tick
  exact h.withUnits (fun h => h.tsuTick) fun h => h.hubTick

theorem State.Sound.exec {s t : State} {i : Instr} (h : s.Sound) (ran : exec i s = .next t) : t.Sound := by
  obtain ⟨t', ran', rest, -, tsu, hub⟩ := exec_keepsUnits i s
  obtain rfl : t' = t := Host.Outcome.next.inj (ran'.symm.trans ran)
  exact h.of_units (fun c waits => rest ▸ waits) (tsu _) (hub _)

theorem State.Sound.step {s t : State} (h : s.Sound) (stepped : step s = .next t) : t.Sound := by
  unfold Machine.step at stepped
  split at stepped
  case h_1 =>
    obtain rfl := Host.Outcome.next.inj stepped
    exact h.tick
  case h_2 c rest held =>
    have popped : ({ s with pending := rest } : State).Sound :=
      h.of_units (fun d waits => held ▸ List.mem_cons_of_mem c waits) (fun h => h) fun h => h
    exact popped.exec stepped

theorem step_answers (s : State) : ∃ t, step s = .next t := by
  unfold Machine.step
  split
  case h_1 => exact ⟨_, rfl⟩
  case h_2 c rest _ =>
    obtain ⟨t, ran, -⟩ := exec_keepsUnits c { s with pending := rest }
    exact ⟨t, ran⟩

/-- Settles O3: every operation of the model is composed of operations that keep a sound unit sound, so each command and each tick does. -/
theorem everyStepKeepsTheBlockSound : Obligations.EveryStepKeepsTheBlockSound := by
  refine ⟨fun s t h stepped => h.step stepped, step_answers, fun i s t ran => ?_⟩
  obtain ⟨t', ran', rest, untouched, -⟩ := exec_keepsUnits i s
  obtain rfl : t' = t := Host.Outcome.next.inj (ran'.symm.trans ran)
  exact ⟨rest, untouched⟩

end Sys2Proof.Machine

/-! Time bases, event capture and interrupt stamps (06): what an accumulator holds is said once by `TBase.total_ofTotal` and `TBase.t96_ofTotal`,
and each command has an equation per case. The statements follow from these. -/

namespace Sys2Proof.Machine

/-! ### The objects of the time bases, and what an answer leaves of a TSU -/

/-- The objects of the bases, of hall time, of captures and of pulse outputs (06 R171). -/
def isTimeObj (o : Nat) : Bool := decide (0x2000 ≤ o / 256 ∧ o / 256 < 0x2880)

theorem isRecObj_of_timeObj {o : Nat} (h : isTimeObj o = true) : isRecObj o = false := by
  simp only [isTimeObj, decide_eq_true_eq] at h
  simp only [isRecObj, isEcnt, Bool.or_eq_false_iff, beq_eq_false_iff_ne, decide_eq_false_iff_not]
  omega

theorem isEcnt_of_timeObj {o : Nat} (h : isTimeObj o = true) : isEcnt o = false := isEcnt_of_not_rec (isRecObj_of_timeObj h)

theorem isAccObj_of_timeObj {o : Nat} (h : isTimeObj o = true) : isAccObj o = false := by
  simp only [isTimeObj, decide_eq_true_eq] at h
  simp only [isAccObj, beq_eq_false_iff_ne]
  omega

theorem isTimeObj_base {k j : Nat} (hk : k < 8) (hj : j < 256) : isTimeObj (0x200000 + j + k * 256) = true := by
  simp only [isTimeObj, decide_eq_true_eq]
  omega

theorem Node.rd_answer_time (n : Node) (st : Nat) {o : Nat} (h : isTimeObj o = true) : (n.answer st).rd o = n.rd o :=
  n.rd_answer st (isEcnt_of_timeObj h) (isAccObj_of_timeObj h)

theorem Node.bases_answer (n : Node) (st : Nat) : (n.answer st).bases = n.bases := by
  have := congrArg Node.bases (n.answerData_frame st 0 0)
  exact this

@[simp] theorem Node.baseOf_answer (n : Node) (st k : Nat) : (n.answer st).baseOf k = n.baseOf k := by
  simp only [Node.baseOf, Node.bases_answer]

theorem Node.kind_ne_hub {n : Node} (tsu : n.isHub = false) : n.kind ≠ .hub := by simpa [Node.isHub] using tsu

theorem works_tsu {s : State} (tsu : s.tsu.isHub = false) : Works s .tsu := by
  simp [Works, State.node, Node.running, tsu]

/-! ### Accumulators -/

/-- An accumulator holds a total modulo 2^48 seconds (06 R155). -/
theorem TBase.total_ofTotal (b : TBase) (x : Nat) : (b.ofTotal x).total = x % (2 ^ 48 * perSec48) := by
  have low : x % 2 ^ 48 = x % perSec48 % 2 ^ 48 := (Nat.mod_mod_of_dvd x ⟨1000000000, Nat.mul_comm ..⟩).symm
  have parts := Nat.div_add_mod' (x % perSec48) (2 ^ 48)
  calc (b.ofTotal x).total = x / perSec48 % 2 ^ 48 * perSec48 + (x % perSec48 / 2 ^ 48 * 2 ^ 48 + x % perSec48 % 2 ^ 48) := by
        rw [← low, ← Nat.add_assoc]
        rfl
    _ = x % (2 ^ 48 * perSec48) := by rw [parts, Nat.mul_comm (2 ^ 48), Nat.mod_mul, Nat.mul_comm perSec48, Nat.add_comm]

/-- One tick of an accumulating base (06 R155). -/
theorem Node.total_baseTick (n : Node) (k : Nat) :
    ((n.baseTick k).baseOf k).total = ((((n.baseOf k).total : Int) + n.rd (Ob.tb_increment k) +
      slewPart (n.rd (Ob.tb_slewRate k)) (n.baseOf k).remain).toNat) % (2 ^ 48 * perSec48) := by
  rw [Node.baseTick, Node.modBase_baseOf_same, add_assoc]
  exact TBase.total_ofTotal (n.baseOf k) _

/-! ### Increments -/

/-- The increments that a base takes (06 R156). -/
theorem incrementWrite_accepts {k v : Nat} (n : Node) (hk : k ≠ 1) (near : ((v : Int) - 180143985094820).natAbs ≤ 180143985095) :
    incrementWrite k v n = (n.wr (Ob.tb_increment k) v).answer 0 := by
  rw [incrementWrite, Node.accept_accepted]
  simp only [Bool.and_eq_true, bne_iff_ne, decide_eq_true_eq]
  unfold nominalInc
  omega

theorem incrementWrite_refuses {k v : Nat} (n : Node) (far : 180143985095 < ((v : Int) - 180143985094820).natAbs) :
    incrementWrite k v n = n.answer 3 := by
  rw [incrementWrite, Node.accept_refused]
  simp only [Bool.and_eq_false_iff, decide_eq_false_iff_not]
  unfold nominalInc
  omega

/-- Settles O20: a write is one of two answers, and a tick adds what the object then holds. -/
theorem incrementsStayNearNominal : Obligations.IncrementsStayNearNominal := by
  refine ⟨by decide +kernel, fun s k v hk tsu => ?_⟩
  have incrementObj : isTimeObj (Ob.tb_increment k) = true := isTimeObj_base (j := 2) hk (by decide)
  have works := works_tsu tsu
  have held : decide (k < 8) = true := decide_eq_true hk
  refine ⟨fun far => runsOn_obj works rfl held ?_, fun notTb1 near => runsOn_obj works rfl held ?_⟩
  · rw [incrementWrite_refuses _ far]
    exact ⟨Node.answered_answer .., Node.rd_answer_time _ _ incrementObj, Node.bases_answer ..⟩
  · rw [incrementWrite_accepts _ notTb1 near]
    have reads : ((s.tsu.wr (Ob.tb_increment k) v).answer 0).rd (Ob.tb_increment k) = v := by
      rw [Node.rd_answer_time _ _ incrementObj, Node.rd_wr_same]
    refine ⟨Node.answered_answer .., reads, Node.bases_answer .., ?_⟩
    rw [Node.total_baseTick]
    simp only [State.node] at reads ⊢
    rw [reads]

/-! ### Commands of a base -/

/-- The T96 that an accumulator reads as after it is set to a T96 (06 R155). -/
theorem TBase.t96_ofTotal (b : TBase) (sec : Nat) {part : Nat} (h : part < perSec16) :
    (b.ofTotal (sec * perSec48 + part * 2 ^ 32)).t96 = sec % 2 ^ 48 * 2 ^ 48 + part := by
  unfold perSec16 at h
  simp only [TBase.t96, TBase.ofTotal, perSec48]
  omega

/-- The operand of a set, read back from the total it sets (06 R157). -/
theorem TBase.t96_ofOperand (b : TBase) {arg : Nat} (h : t96Ok (arg % 2 ^ 96) = true) :
    (b.ofTotal (bits arg 48 48 * perSec48 + arg % 2 ^ 48 * 2 ^ 32)).t96 = arg % 2 ^ 96 := by
  rw [t96Ok, decide_eq_true_eq, bits] at h
  have inSecond : arg % 2 ^ 48 < perSec16 := by
    unfold perSec16
    omega
  rw [TBase.t96_ofTotal _ _ inSecond, bits]
  omega

/-- A command written to a base is refused, or waits for its tick in place of any other (06 R158). -/
theorem tbCommand_eq (k op apply arg : Nat) (n : Node) :
    tbCommand k op apply arg n = if n.cmdOk k op apply arg then
      ((n.modBase k (fun b => { b with cmdOp := op, cmdAt := if apply = 0 then n.tb1 + 1 else apply, cmdArg := arg })).wr
        (Ob.tb_command k) (if (n.baseOf k).cmdOp != 0 then 4 else 1)).answer 0
    else (n.wr (Ob.tb_command k) 3).answer 3 := by
  simp only [tbCommand, beq_iff_eq]

theorem commandWritten {i : Instr} {s : State} {k op apply arg : Nat} (hk : k < 8) (tsu : s.tsu.isHub = false)
    (hi : exec i s = onObj s .tsu (decide (k < 8)) (tbCommand k op apply arg)) : CommandWritten i s k op apply arg := by
  have held : decide (k < 8) = true := decide_eq_true hk
  refine ⟨fun ok => runsOn_obj (works_tsu tsu) hi held ?_, fun bad => runsOn_obj (works_tsu tsu) hi held ?_⟩
  · have run := tbCommand_eq k op apply arg s.tsu
    rw [if_pos ok] at run
    rw [State.node, run]
    refine ⟨Node.answered_answer .., ?_⟩
    simp +contextual [Node.modBase_baseOf_ne, Ne.symm, TBase.total]
  · have run := tbCommand_eq k op apply arg s.tsu
    rw [bad, if_neg Bool.false_ne_true] at run
    rw [State.node, run]
    refine ⟨Node.answered_answer .., ?_, Node.bases_answer ..⟩
    rw [Node.rd_answer_time _ _ (isTimeObj_base (j := 3) hk (by decide)), Node.rd_wr_same]

/-! ### A command at its tick -/

/-- A command of a base has acted: the last change is noted where it has one, and the status is 2 (06 R157, R158). -/
def Node.commandDone (n : Node) (k : Nat) (change : Bool) (f : TBase → TBase) : Node :=
  (if change then (n.modBase k f).wr (Ob.tb_lastChange k) n.tb1 else n.modBase k f).wr (Ob.tb_command k) 2

section
variable {n : Node} {k : Nat} (due : (n.baseOf k).cmdAt ≤ n.tb1)
include due

theorem tbApply_set (op : (n.baseOf k).cmdOp = 1) :
    tbApply k n = n.commandDone k true
      (fun b => b.jump (bits b.cmdArg 48 48 * perSec48 + b.cmdArg % 2 ^ 48 * 2 ^ 32)) := by
  simp [tbApply, when, due, op, Node.commandDone]

theorem tbApply_step (op : (n.baseOf k).cmdOp = 2) (positive : 0 ≤ ((n.baseOf k).total : Int) + amount48 (n.baseOf k).cmdArg) :
    tbApply k n = n.commandDone k true (fun b => b.jump (((n.baseOf k).total : Int) + amount48 (n.baseOf k).cmdArg).toNat) := by
  simp [tbApply, when, due, op, Node.commandDone, not_lt.mpr positive]

theorem tbApply_slew (op : (n.baseOf k).cmdOp = 3) :
    tbApply k n = n.commandDone k false (fun b => b.reslew (n.rd (Ob.tb_slewRate k)) (amount48 b.cmdArg) n.tb1) := by
  simp [tbApply, when, due, op, Node.commandDone]

theorem tbApply_cancel (op : (n.baseOf k).cmdOp = 4) :
    tbApply k n = n.commandDone k false (fun b => { b.reslew (n.rd (Ob.tb_slewRate k)) 0 n.tb1 with slewing := b.slewing }) := by
  simp [tbApply, when, due, op, Node.commandDone]

end

@[simp] theorem Node.baseOf_commandDone (n : Node) (k : Nat) (change : Bool) (f : TBase → TBase) :
    (n.commandDone k change f).baseOf k = f (n.baseOf k) := by
  cases change <;> simp [Node.commandDone]

theorem Node.baseOf_commandDone_ne (n : Node) {k j : Nat} (change : Bool) (f : TBase → TBase) (h : j ≠ k) :
    (n.commandDone k change f).baseOf j = n.baseOf j := by
  cases change <;> simp [Node.commandDone, Node.modBase_baseOf_ne _ _ h.symm]

@[simp] theorem Node.rd_command_commandDone (n : Node) (k : Nat) (change : Bool) (f : TBase → TBase) :
    (n.commandDone k change f).rd (Ob.tb_command k) = 2 := Node.rd_wr_same ..

theorem Node.rd_lastChange_commandDone (n : Node) (k : Nat) (f : TBase → TBase) :
    (n.commandDone k true f).rd (Ob.tb_lastChange k) = n.tb1 := by
  rw [Node.commandDone, Node.rd_wr_ne _ _ (by unfold Ob.tb_command Ob.tb_lastChange; omega), if_pos rfl, Node.rd_wr_same]

theorem TBase.total_jump (b : TBase) (x : Nat) : (b.jump x).total = x % (2 ^ 48 * perSec48) := b.total_ofTotal x

theorem TBase.t96_jump (b : TBase) (x : Nat) : (b.jump x).t96 = (b.ofTotal x).t96 := rfl

/-- Of no amount a tick adds no part (06 R157). -/
theorem slewPart_zero (rate : Nat) : slewPart rate 0 = 0 := by
  have : ¬ (rate : Int) < 0 := by omega
  have : ¬ (0 : Int) < -rate := by omega
  simp [slewPart, clampAbs, *]

theorem slewEnd_ended {n : Node} {k : Nat} (slewing : (n.baseOf k).slewing = true) (used : (n.baseOf k).remain = 0) :
    slewEnd k n = (n.modBase k (fun b => { b with slewing := false })).wr (Ob.tb_lastChange k) (n.baseOf k).endAt := by
  simp [slewEnd, when, slewing, used]

/-- Settles O21: a write has one equation, and so has each command at its tick. -/
theorem timeBaseCommandsWaitAndAct : Obligations.TimeBaseCommandsWaitAndAct := by
  intro s k hk tsu
  have works := works_tsu tsu
  have held : decide (k < 8) = true := decide_eq_true hk
  refine ⟨fun apply arg => ⟨commandWritten hk tsu rfl, commandWritten hk tsu rfl, commandWritten hk tsu rfl, commandWritten hk tsu rfl⟩,
    fun due => ⟨fun op ok => ?_, fun op positive => ?_, fun op => ?_, fun op => ?_⟩, fun slewing used => ?_⟩
  · refine runsOn_node works rfl held ?_
    rw [State.node, tbApply_set due op]
    simp only [Node.baseOf_commandDone, Node.rd_command_commandDone, Node.rd_lastChange_commandDone, TBase.t96_jump, TBase.t96_ofOperand _ ok]
    exact ⟨trivial, rfl, rfl, trivial, trivial, fun j hj => Node.baseOf_commandDone_ne _ _ _ hj⟩
  · refine runsOn_node works rfl held ?_
    rw [State.node, tbApply_step due op positive]
    simp only [Node.baseOf_commandDone, Node.rd_command_commandDone, Node.rd_lastChange_commandDone, TBase.total_jump]
    exact ⟨trivial, rfl, rfl, trivial, trivial⟩
  · refine runsOn_node works rfl held ?_
    rw [State.node, tbApply_slew due op]
    simp only [Node.baseOf_commandDone, Node.rd_command_commandDone]
    exact ⟨rfl, rfl, rfl, trivial⟩
  · refine runsOn_node works rfl held ?_
    rw [State.node, tbApply_cancel due op]
    simp only [Node.baseOf_commandDone, Node.rd_command_commandDone, TBase.reslew, slewPart_zero, sub_zero, and_self]
  · refine runsOn_node works rfl held ?_
    rw [State.node, slewEnd_ended slewing used]
    simp only [Node.wr_baseOf, Node.modBase_baseOf_same, Node.rd_wr_same]
    exact ⟨trivial, trivial, rfl, fun o other => Node.rd_wr_ne _ _ (by simpa [eq_comm] using other)⟩

/-! ### TB0's own movement -/

/-- A unit whose TB0 has moved: beside its bases and its hall time it is as before, and so is every object but the residual's. -/
structure Node.Tb0Moved (n m : Node) : Prop where
  frame : { m with objs := n.objs, bases := n.bases, hall := n.hall } = n
  rd : ∀ o, o ≠ Ob.hall_hallResidual → m.rd o = n.rd o

namespace Node.Tb0Moved

variable {n m k : Node}

theorem tb1 (h : n.Tb0Moved m) : m.tb1 = n.tb1 := by have := congrArg Node.tb1 h.frame; exact this
theorem kind (h : n.Tb0Moved m) : m.kind = n.kind := by have := congrArg Node.kind h.frame; exact this

theorem refl (n : Node) : n.Tb0Moved n := ⟨rfl, fun _ _ => rfl⟩

theorem modHall (h : n.Tb0Moved m) (f : HallSt → HallSt) : n.Tb0Moved (m.modHall f) := ⟨h.frame, h.rd⟩

theorem baseTick (n : Node) (k : Nat) : n.Tb0Moved (n.baseTick k) := ⟨rfl, fun _ _ => rfl⟩

theorem residTick (n : Node) : n.Tb0Moved n.residTick := by
  unfold Node.residTick
  extract_lets h acc m r
  split
  · exact refl n
  · exact ⟨rfl, fun o ho => Node.rd_wrS_ne _ _ _ ho.symm⟩

end Node.Tb0Moved

theorem Node.tb0Tick_moved (n : Node) : n.Tb0Moved n.tb0Tick := by
  unfold Node.tb0Tick
  split
  · exact .refl n
  · split
    · exact (Node.Tb0Moved.residTick n).modHall _
    · exact (Node.Tb0Moved.baseTick n 0).modHall _

theorem Node.Tb0Moved.hallMode {n m : Node} (h : n.Tb0Moved m) : m.hallMode = n.hallMode := by
  rw [Node.hallMode, Node.hallMode, h.rd _ (by decide)]

/-! ### The hall anchor -/

/-- A field of an anchor, which has 18 bytes (06 R161). -/
theorem fieldAt_mod (v : Nat) {i k : Nat} (h : i + k ≤ 18) : fieldAt (v % 2 ^ 144) i k = fieldAt v i k := by
  obtain ⟨d, size⟩ := Nat.exists_eq_add_of_le h
  have bytes : (2 : Nat) ^ 144 = 256 ^ (i + k + d) := by rw [← size]; norm_num
  rw [fieldAt, fieldAt, bytes, Nat.add_assoc, pow_add, Nat.mod_mul_right_div_self, pow_add, Nat.mod_mul_right_mod]

/-- Hall time at a stamp under an anchor alone, in 2^-16 ns (06 R160). -/
def anchoredAt (v t : Nat) : Int := ((fieldAt v 10 6 * perSec16 : Nat) : Int) + ((t : Int) - (anchorA v : Int)) * 16 / 25

theorem anchorA_mod (v : Nat) : anchorA (v % 2 ^ 144) = anchorA v := by
  rw [anchorA, anchorA, fieldAt_mod v (by decide), fieldAt_mod v (by decide)]

theorem anchoredAt_mod (v t : Nat) : anchoredAt (v % 2 ^ 144) t = anchoredAt v t := by
  rw [anchoredAt, anchoredAt, anchorA_mod, fieldAt_mod v (by decide)]

/-- The anchor that object 0x2010.00 holds, in force with a residual, and what the hall time objects then show (06 R161, R162). -/
def Node.anchored (n : Node) (v : Nat) (resid : Int) : Node :=
  ((n.modHall (fun h => { h with ancT := anchorA v, ancS := fieldAt v 10 6, resid := resid, part := 0 })).wr Ob.hall_hallFlags
    (fieldAt v 17 1 * 256 + fieldAt v 16 1)).wrS 64 Ob.hall_hallResidual resid

section
variable (n : Node) (v : Nat) (resid : Int)

theorem Node.hallAt_anchored (t : Nat) : (n.anchored v resid).hallAt t = anchoredAt v t + resid := rfl

theorem Node.rd_flags_anchored : (n.anchored v resid).rd Ob.hall_hallFlags = fieldAt v 17 1 * 256 + fieldAt v 16 1 := by
  rw [Node.anchored, Node.rd_wrS_ne _ _ _ (by decide), Node.rd_wr_same]

theorem Node.rd_anchored {o : Nat} (flags : Ob.hall_hallFlags ≠ o) (residual : Ob.hall_hallResidual ≠ o) : (n.anchored v resid).rd o = n.rd o := by
  rw [Node.anchored, Node.rd_wrS_ne _ _ _ residual, Node.rd_wr_ne _ _ flags]
  rfl

end

/-- How far the anchor held moves TB0 (06 R162). -/
def Node.anchorMoves (n : Node) (old : Int) : Int := old - anchoredAt (n.rd Ob.hall_hallAnchor) (n.tb1 * 65536)

/-- The anchor held is taken with the difference as the residual, or with a step that is recorded (06 R162). -/
theorem Node.applyAnchor_eq (n : Node) (old : Int) :
    n.applyAnchor old = if (n.anchorMoves old).natAbs ≤ n.rd Ob.hall_hallSlewLimit * 65536 then
      n.anchored (n.rd Ob.hall_hallAnchor) (n.anchorMoves old)
    else (n.anchored (n.rd Ob.hall_hallAnchor) 0).markSec.fault { cause := 0x2C, detail := ofS 64 (n.anchorMoves old) } := by
  have moves : old - (n.modHall (fun h => { h with
      ancT := anchorA (n.rd Ob.hall_hallAnchor), ancS := fieldAt (n.rd Ob.hall_hallAnchor) 10 6, resid := 0, part := 0 })).hallAt (n.tb1 * 65536) =
      n.anchorMoves old := congrArg (old - ·) (Int.add_zero _)
  unfold Node.applyAnchor
  simp only [Node.modHall_tb1, moves]
  rfl

theorem Node.hall_markSec (n : Node) : n.markSec.hall = n.hall := by
  unfold Node.markSec
  dsimp only
  split <;> rfl

theorem Node.rd_markSec (n : Node) (o : Nat) : n.markSec.rd o = n.rd o := by
  unfold Node.markSec
  dsimp only
  split <;> rfl

theorem Node.tb1_markSec (n : Node) : n.markSec.tb1 = n.tb1 := by
  unfold Node.markSec
  dsimp only
  split <;> rfl

theorem Node.hall_fault (n : Node) (r : FRec) : (n.fault r).hall = n.hall := by have := congrArg Node.hall (n.fault_frame r); exact this
theorem Node.tb1_fault (n : Node) (r : FRec) : (n.fault r).tb1 = n.tb1 := by have := congrArg Node.tb1 (n.fault_frame r); exact this
theorem Node.hall_bump (n : Node) (o : Nat) : (n.bump o).hall = n.hall := by have := congrArg Node.hall (n.bump_frame o); exact this
theorem Node.tb1_bump (n : Node) (o : Nat) : (n.bump o).tb1 = n.tb1 := by have := congrArg Node.tb1 (n.bump_frame o); exact this
theorem Node.hall_answer (n : Node) (st : Nat) : (n.answer st).hall = n.hall := by
  have := congrArg Node.hall (n.answerData_frame st 0 0)
  exact this
theorem Node.tb1_answer (n : Node) (st : Nat) : (n.answer st).tb1 = n.tb1 := by
  have := congrArg Node.tb1 (n.answerData_frame st 0 0)
  exact this

/-- What an anchor taken leaves of the objects of time (06 R162). -/
theorem Node.rd_applyAnchor (n : Node) (old : Int) {o : Nat} (time : isTimeObj o = true) (flags : Ob.hall_hallFlags ≠ o)
    (residual : Ob.hall_hallResidual ≠ o) : (n.applyAnchor old).rd o = n.rd o := by
  rw [Node.applyAnchor_eq]
  split
  · exact n.rd_anchored _ _ flags residual
  · rw [Node.rd_fault _ _ (isRecObj_of_timeObj time), Node.rd_markSec, n.rd_anchored _ _ flags residual]

theorem Node.rd_flags_applyAnchor (n : Node) (old : Int) : (n.applyAnchor old).rd Ob.hall_hallFlags =
    fieldAt (n.rd Ob.hall_hallAnchor) 17 1 * 256 + fieldAt (n.rd Ob.hall_hallAnchor) 16 1 := by
  rw [Node.applyAnchor_eq]
  split
  · exact n.rd_flags_anchored ..
  · rw [Node.rd_fault _ _ (by decide), Node.rd_markSec, n.rd_flags_anchored]

/-- The anchor in force and the residual that it leaves (06 R162). -/
theorem Node.hall_applyAnchor (n : Node) (old : Int) :
    (n.applyAnchor old).hall = (n.anchored (n.rd Ob.hall_hallAnchor)
      (if (n.anchorMoves old).natAbs ≤ n.rd Ob.hall_hallSlewLimit * 65536 then n.anchorMoves old else 0)).hall := by
  rw [Node.applyAnchor_eq]
  split
  · rfl
  · rw [Node.hall_fault, Node.hall_markSec]

theorem Node.tb1_applyAnchor (n : Node) (old : Int) : (n.applyAnchor old).tb1 = n.tb1 := by
  rw [Node.applyAnchor_eq]
  split
  · rfl
  · rw [Node.tb1_fault, Node.tb1_markSec]
    rfl

theorem Node.recorded_applyAnchor {n : Node} {old : Int} (beyond : n.rd Ob.hall_hallSlewLimit * 65536 < (n.anchorMoves old).natAbs) :
    n.recorded (n.applyAnchor old) 0x2C := by
  rw [Node.applyAnchor_eq, if_neg (not_le.mpr beyond)]
  refine Node.recorded_of_rd ?_ (Node.recorded_fault _ _)
  rw [Node.rd_markSec, n.rd_anchored _ _ (by decide) (by decide)]

/-! ### A written anchor -/

/-- The anchor object of a TSU takes a written anchor, which is counted, after TB0's movement of the tick (06 R161, R162). -/
def Node.anchorHeld (n : Node) (v : Nat) : Node := (n.tb0Tick.wr Ob.hall_hallAnchor (v % 2 ^ 144)).bump Ob.hall_anchorWrites

theorem anchorWrite_eq (v : Nat) (n : Node) : anchorWrite v n =
    (if n.hallMode then (n.anchorHeld v).applyAnchor (n.tb0Tick.hallAt (n.tb1 * 65536)) else n.anchorHeld v).answer 0 := by
  unfold anchorWrite
  simp only [n.tb0Tick_moved.hallMode, n.tb0Tick_moved.tb1]
  rfl

theorem widthOf_anchorWrites {k : Kind} (tsu : k ≠ .hub) : widthOf k Ob.hall_anchorWrites = 64 := by
  cases k with
  | hub => exact absurd rfl tsu
  | full => decide +kernel
  | edge => decide +kernel

section
variable (n : Node) (v : Nat)

theorem Node.rd_anchor_anchorHeld : (n.anchorHeld v).rd Ob.hall_hallAnchor = v % 2 ^ 144 := by
  rw [Node.anchorHeld, Node.rd_bump_ne _ (by decide) (by decide), Node.rd_wr_same]

theorem Node.rd_writes_anchorHeld (tsu : n.kind ≠ .hub) :
    (n.anchorHeld v).rd Ob.hall_anchorWrites = (n.rd Ob.hall_anchorWrites + 1) % 2 ^ 64 := by
  rw [Node.anchorHeld, Node.rd_bump_same _ _ (by decide), Node.rd_wr_ne _ _ (by decide), n.tb0Tick_moved.rd _ (by decide), Node.wr_kind,
    n.tb0Tick_moved.kind, widthOf_anchorWrites tsu]

theorem Node.rd_anchorHeld {o : Nat} (ho : isEcnt o = false) (other : o ∉ [Ob.hall_hallAnchor, Ob.hall_anchorWrites, Ob.hall_hallResidual]) :
    (n.anchorHeld v).rd o = n.rd o := by
  simp only [List.mem_cons, List.not_mem_nil, or_false, not_or] at other
  obtain ⟨anchor, writes, residual⟩ := other
  rw [Node.anchorHeld, Node.rd_bump_ne _ ho (Ne.symm writes), Node.rd_wr_ne _ _ (Ne.symm anchor), n.tb0Tick_moved.rd _ residual]

theorem Node.hall_anchorHeld : (n.anchorHeld v).hall = n.tb0Tick.hall := Node.hall_bump ..

theorem Node.tb1_anchorHeld : (n.anchorHeld v).tb1 = n.tb1 := (Node.tb1_bump ..).trans n.tb0Tick_moved.tb1

/-- How far a written anchor moves TB0: the hall time before it less its own (06 R162). -/
theorem Node.anchorMoves_anchorHeld (old : Int) : (n.anchorHeld v).anchorMoves old = old - anchoredAt v (n.tb1 * 65536) := by
  rw [Node.anchorMoves, Node.rd_anchor_anchorHeld, Node.tb1_anchorHeld, anchoredAt_mod]

end

/-- An anchor written in free mode is held without effect (06 R163). -/
theorem anchorWrite_free {n : Node} {v : Nat} (free : n.hallMode = false) : anchorWrite v n = (n.anchorHeld v).answer 0 := by
  rw [anchorWrite_eq, free, if_neg Bool.false_ne_true]

theorem anchorWrite_hall {n : Node} {v : Nat} (hall : n.hallMode = true) :
    anchorWrite v n = ((n.anchorHeld v).applyAnchor (n.tb0Tick.hallAt (n.tb1 * 65536))).answer 0 := by
  rw [anchorWrite_eq, hall, if_pos rfl]

/-- What every written anchor shows (06 R161). -/
theorem anchorWrite_shows {n : Node} (v : Nat) (tsu : n.kind ≠ .hub) :
    (anchorWrite v n).rd Ob.hall_hallAnchor = v % 2 ^ 144 ∧ (anchorWrite v n).rd Ob.hall_anchorWrites = (n.rd Ob.hall_anchorWrites + 1) % 2 ^ 64 := by
  have held := n.rd_anchor_anchorHeld v
  have counted := n.rd_writes_anchorHeld v tsu
  rw [anchorWrite_eq, Node.rd_answer_time _ _ (by decide), Node.rd_answer_time _ _ (by decide)]
  split
  · rw [Node.rd_applyAnchor _ _ (by decide) (by decide) (by decide), Node.rd_applyAnchor _ _ (by decide) (by decide) (by decide)]
    exact ⟨held, counted⟩
  · exact ⟨held, counted⟩

theorem Node.hallAt_of_hall {n m : Node} (h : m.hall = n.hall) (t : Nat) : m.hallAt t = n.hallAt t := by rw [Node.hallAt, Node.hallAt, h]

section
variable {n : Node} {v : Nat} (hall : n.hallMode = true)
include hall

theorem anchorWrite_flags : (anchorWrite v n).rd Ob.hall_hallFlags = fieldAt v 17 1 * 256 + fieldAt v 16 1 := by
  rw [anchorWrite_hall hall, Node.rd_answer_time _ _ (by decide), Node.rd_flags_applyAnchor, Node.rd_anchor_anchorHeld,
    fieldAt_mod v (by decide), fieldAt_mod v (by decide)]

variable {d : Int} (moves : n.tb0Tick.hallAt (n.tb1 * 65536) - anchoredAt v (n.tb1 * 65536) = d)
include moves

/-- The anchor that hall mode takes, with its residual (06 R162). -/
theorem anchorWrite_takes : (anchorWrite v n).hall =
    ((n.anchorHeld v).anchored (v % 2 ^ 144) (if d.natAbs ≤ n.rd Ob.hall_hallSlewLimit * 65536 then d else 0)).hall := by
  have limit := n.rd_anchorHeld v (o := Ob.hall_hallSlewLimit) (by decide) (by decide)
  rw [anchorWrite_hall hall, Node.hall_answer, Node.hall_applyAnchor, Node.anchorMoves_anchorHeld, moves, limit, Node.rd_anchor_anchorHeld]

theorem anchorWrite_ancT : (anchorWrite v n).hall.ancT = anchorA v := by
  rw [anchorWrite_takes hall moves]
  exact anchorA_mod v

theorem anchorWrite_ancS : (anchorWrite v n).hall.ancS = fieldAt v 10 6 := by
  rw [anchorWrite_takes hall moves]
  exact fieldAt_mod v (by decide)

theorem anchorWrite_resid : (anchorWrite v n).hall.resid = if d.natAbs ≤ n.rd Ob.hall_hallSlewLimit * 65536 then d else 0 := by
  rw [anchorWrite_takes hall moves]
  rfl

/-- Within the slew limit hall time stays where it is (06 R162). -/
theorem anchorWrite_stays (within : d.natAbs ≤ n.rd Ob.hall_hallSlewLimit * 65536) :
    (anchorWrite v n).hallAt ((anchorWrite v n).tb1 * 65536) = n.tb0Tick.hallAt (n.tb1 * 65536) := by
  have tick : (anchorWrite v n).tb1 = n.tb1 := by
    rw [anchorWrite_hall hall, Node.tb1_answer, Node.tb1_applyAnchor, Node.tb1_anchorHeld]
  rw [Node.hallAt_of_hall (anchorWrite_takes hall moves), Node.hallAt_anchored, tick, anchoredAt_mod, if_pos within, ← moves]
  ring

/-- A larger difference is a step, which is recorded (06 R162). -/
theorem anchorWrite_recorded (beyond : n.rd Ob.hall_hallSlewLimit * 65536 < d.natAbs) : n.recorded (anchorWrite v n) 0x2C := by
  have limit := n.rd_anchorHeld v (o := Ob.hall_hallSlewLimit) (by decide) (by decide)
  have counts := n.rd_anchorHeld v (o := Ob.cause_causeCounts) (by decide) (by decide)
  have steps : (n.anchorHeld v).recorded ((n.anchorHeld v).applyAnchor (n.tb0Tick.hallAt (n.tb1 * 65536))) 0x2C :=
    Node.recorded_applyAnchor (by rwa [limit, Node.anchorMoves_anchorHeld, moves])
  rw [anchorWrite_hall hall]
  exact Node.recorded_of_rd_after (Node.rd_answer _ _ (by decide) (by decide)) (Node.recorded_of_rd counts.symm steps)

end

/-! ### The mode of TB0 -/

/-- From hall to free mode TB0 goes on at its hall value (06 R163). -/
theorem modeChange_free {n : Node} (hall : n.hallMode = true) (room : n.vaultFits (Ob.tb_mode 0) 1 = true) :
    modeChange 1 n = ((n.tb0Tick.modBase 0 (fun b => b.fromHall (n.tb0Tick.hallAt (n.tb1 * 65536)))).wr (Ob.tb_mode 0) 1).answer 0 := by
  have mode : n.tb0Tick.rd (Ob.tb_mode 0) = 0 := by
    rw [n.tb0Tick_moved.rd _ (by decide)]
    exact beq_iff_eq.mp hall
  rw [modeChange, decide_eq_true (le_refl 1), Node.rwsWrite_accepted room]
  simp only [mode, n.tb0Tick_moved.tb1]
  rfl

theorem modeChange_refused {n : Node} {v : Nat} (h : 1 < v) : modeChange v n = n.answer 3 := by
  rw [modeChange, decide_eq_false (not_le.mpr h), Node.rwsWrite_refused]

/-- The T96 of an accumulator that goes on from hall time (06 R163). -/
theorem TBase.t96_fromHall (b : TBase) (x : Int) : (b.fromHall x).t96 = t96Of16 x := by
  have part : (x % (perSec16 : Int)).toNat < perSec16 := by
    unfold perSec16
    omega
  have small : perSec16 < 2 ^ 48 := by decide
  have sec : ((x / (perSec16 : Int)) % ((2 ^ 48 : Nat) : Int)).toNat < 2 ^ 48 := by omega
  have total : t96To16 (t96Of16 x) * 2 ^ 32 =
      ((x / (perSec16 : Int)) % ((2 ^ 48 : Nat) : Int)).toNat * perSec48 + (x % (perSec16 : Int)).toNat * 2 ^ 32 := by
    have scale : perSec48 = perSec16 * 2 ^ 32 := by decide
    unfold t96Of16 t96To16 bits
    generalize ((x / (perSec16 : Int)) % ((2 ^ 48 : Nat) : Int)).toNat = q at *
    generalize (x % (perSec16 : Int)).toNat = r at *
    rw [show (q * 2 ^ 48 + r) / 2 ^ 48 % 2 ^ 48 = q by omega, show (q * 2 ^ 48 + r) % 2 ^ 48 = r by omega, scale]
    ring
  calc (b.fromHall x).t96 = (b.ofTotal (t96To16 (t96Of16 x) * 2 ^ 32)).t96 := rfl
    _ = t96Of16 x := by rw [total, TBase.t96_ofTotal _ _ part, Nat.mod_eq_of_lt sec, t96Of16]

/-! ### The distribution of the anchor -/

/-- A message takes its place beside those that wait (02 R58). -/
theorem mem_insertMsg {l : List QMsg} {m q : QMsg} : q ∈ insertMsg l m ↔ q = m ∨ q ∈ l := by
  induction l with
  | nil => simp [insertMsg]
  | cons x l ih =>
    rw [insertMsg]
    split
    · rw [List.mem_cons, ih, List.mem_cons]
      exact or_left_comm
    · exact List.mem_cons

/-- An OBJECT message leaves on a port from SYNCED on (02 R64). -/
theorem Node.send_object {n : Node} {p : Nat} {m : Msg} (object : m.typ = tObject) (synced : 5 ≤ n.lst p) :
    n.send p m = n.modLink p (fun l => { l with c3 := insertMsg l.c3 { msg := m, ready := n.tb1 } }) := by
  simp [Node.send, Node.enqueue, object, isSpanType, classOf, tObject, tTwin, not_lt.mpr synced]

section
variable (dst src tag idx sub off len last : Nat)

/-- The fields of an object request that say what is asked of whom (16 R447). -/
theorem fld_objHead : fld (objHead 2 dst src tag idx sub off len last) 127 124 = 2 ∧
    fld (objHead 2 dst src tag idx sub off len last) 123 104 = dst % 2 ^ 20 ∧
    fld (objHead 2 dst src tag idx sub off len last) 71 48 = idx % 2 ^ 16 * 2 ^ 8 + sub % 2 ^ 8 := by
  have h1 := Nat.mod_lt dst (show 0 < 2 ^ 20 by decide)
  have h2 := Nat.mod_lt src (show 0 < 2 ^ 20 by decide)
  have h3 := Nat.mod_lt tag (show 0 < 2 ^ 12 by decide)
  have h4 := Nat.mod_lt idx (show 0 < 2 ^ 16 by decide)
  have h5 := Nat.mod_lt sub (show 0 < 2 ^ 8 by decide)
  have h6 := Nat.mod_lt off (show 0 < 2 ^ 16 by decide)
  have h7 := Nat.mod_lt len (show 0 < 2 ^ 7 by decide)
  have h8 := Nat.mod_lt last (show 0 < 2 ^ 1 by decide)
  simp only [fld, bits, objHead, put, Nat.reduceAdd, Nat.reduceSub]
  generalize dst % 2 ^ 20 = a1 at *
  generalize src % 2 ^ 20 = a2 at *
  generalize tag % 2 ^ 12 = a3 at *
  generalize idx % 2 ^ 16 = a4 at *
  generalize sub % 2 ^ 8 = a5 at *
  generalize off % 2 ^ 16 = a6 at *
  generalize len % 2 ^ 7 = a7 at *
  generalize last % 2 ^ 1 = a8 at *
  omega

end

/-- A unit that has sent relayed requests: beside its relays and its link ends it is as before, and what was asked and what waited still is. -/
structure Node.Relayed (n m : Node) : Prop where
  frame : { m with access := n.access, links := n.links } = n
  relays : ∀ r ∈ n.access.relays, r ∈ m.access.relays
  queued : ∀ p, ∀ q ∈ (n.linkOf p).c3, q ∈ (m.linkOf p).c3

/-- A relayed write of an object to a destination is under way on a port (16 R447). -/
def Node.Asked (m : Node) (oid d p : Nat) : Prop :=
  ∃ r ∈ m.access.relays, r.dst = d ∧ fld r.msg.head 127 124 = 2 ∧ fld r.msg.head 123 104 = d % 2 ^ 20 ∧
    fld r.msg.head 71 48 = oid / 256 % 2 ^ 16 * 2 ^ 8 + oid % 256 ∧ (m.linkOf p).c3.any (fun q => q.msg == r.msg) = true

namespace Node.Relayed

variable {n m k : Node}

theorem refl (n : Node) : n.Relayed n := ⟨rfl, fun _ h => h, fun _ _ h => h⟩

theorem trans (h : n.Relayed m) (g : m.Relayed k) : n.Relayed k := by
  refine ⟨?_, fun r hr => g.relays r (h.relays r hr), fun p q hq => g.queued p q (h.queued p q hq)⟩
  have := congrArg (fun x : Node => { x with access := n.access, links := n.links }) g.frame
  exact this.trans h.frame

theorem rd (h : n.Relayed m) (o : Nat) : m.rd o = n.rd o := by have := congrArg (Node.rd · o) h.frame; exact this
theorem tb1 (h : n.Relayed m) : m.tb1 = n.tb1 := by have := congrArg Node.tb1 h.frame; exact this
theorem relayHop (h : n.Relayed m) (d : Nat) : m.relayHop d = n.relayHop d := by have := congrArg (Node.relayHop · d) h.frame; exact this

theorem asked (h : n.Relayed m) {oid d p : Nat} (a : n.Asked oid d p) : m.Asked oid d p := by
  obtain ⟨r, asked, dst, kind, node, object, waits⟩ := a
  refine ⟨r, h.relays r asked, dst, kind, node, object, ?_⟩
  rw [List.any_eq_true] at waits ⊢
  obtain ⟨q, waits, same⟩ := waits
  exact ⟨q, h.queued p q waits, same⟩

theorem modAccess (n : Node) {f : Access → Access} (kept : ∀ r ∈ n.access.relays, r ∈ (f n.access).relays) : n.Relayed (n.modAccess f) :=
  ⟨rfl, kept, fun _ _ h => h⟩

theorem send {n : Node} {p : Nat} {m : Msg} (object : m.typ = tObject) (synced : 5 ≤ n.lst p) : n.Relayed (n.send p m) := by
  rw [Node.send_object object synced]
  refine ⟨rfl, fun _ h => h, fun q x waits => ?_⟩
  by_cases same : p = q
  · subst same
    rw [Node.modLink_linkOf_same]
    exact mem_insertMsg.mpr (.inr waits)
  · rwa [Node.modLink_linkOf_ne _ _ same]

end Node.Relayed

/-- The request that a unit originates (16 R447). -/
def Node.relayRequest (n : Node) (dst tag oid off len last : Nat) (bytes : List Nat) : Msg :=
  { typ := tObject, cells := objHead 2 dst n.ident tag (oid / 256) (oid % 256) off len last :: payloadCells bytes }

theorem Node.sendRelay_port {n : Node} {dst p : Nat} (route : n.relayHop dst = .port p) (synced : 5 ≤ n.lst p)
    (tag oid off len last : Nat) (bytes : List Nat) :
    (n.sendRelay 2 dst tag oid off len last bytes).1 = (n.modAccess (fun a => { a with
      relays := a.relays ++ [{ tag := tag, dst := dst, msg := n.relayRequest dst tag oid off len last bytes, tick0 := n.tb1 }] })).send p
        (n.relayRequest dst tag oid off len last bytes) := by
  simp only [Node.sendRelay, route, synced, if_true]
  rfl

theorem Node.sendRelay_relayed (n : Node) (dst tag oid off len last : Nat) (bytes : List Nat) :
    n.Relayed (n.sendRelay 2 dst tag oid off len last bytes).1 := by
  cases route : n.relayHop dst with
  | here => simpa only [Node.sendRelay, route] using .refl n
  | drop => simpa only [Node.sendRelay, route] using .refl n
  | port p =>
    by_cases synced : 5 ≤ n.lst p
    · rw [Node.sendRelay_port route synced]
      exact (Node.Relayed.modAccess n fun r hr => List.mem_append_left _ hr).trans (.send rfl synced)
    · simpa only [Node.sendRelay, route, synced, if_false] using .refl n

theorem Msg.head_cons (typ x : Nat) (rest : List Nat) : ({ typ := typ, cells := x :: rest } : Msg).head = x := rfl

theorem Node.head_relayRequest (n : Node) (dst tag oid off len last : Nat) (bytes : List Nat) :
    (n.relayRequest dst tag oid off len last bytes).head = objHead 2 dst n.ident tag (oid / 256) (oid % 256) off len last :=
  Msg.head_cons ..

/-- A request that is kept, sent on its route. -/
theorem Node.asked_send {n : Node} {r : RelayReq} {oid p : Nat} (kept : r ∈ n.access.relays) (object : r.msg.typ = tObject)
    (synced : 5 ≤ n.lst p) (kind : fld r.msg.head 127 124 = 2) (node : fld r.msg.head 123 104 = r.dst % 2 ^ 20)
    (names : fld r.msg.head 71 48 = oid / 256 % 2 ^ 16 * 2 ^ 8 + oid % 256) : (n.send p r.msg).Asked oid r.dst p := by
  refine ⟨r, (Node.Relayed.send object synced).relays r kept, rfl, kind, node, names, ?_⟩
  rw [Node.send_object object synced, Node.modLink_linkOf_same, List.any_eq_true]
  exact ⟨_, mem_insertMsg.mpr (.inl rfl), beq_self_eq_true _⟩

theorem Node.sendRelay_asked {n : Node} {dst p : Nat} (route : n.relayHop dst = .port p) (synced : 5 ≤ n.lst p)
    (tag oid off len last : Nat) (bytes : List Nat) : (n.sendRelay 2 dst tag oid off len last bytes).1.Asked oid dst p := by
  obtain ⟨kind, node, names⟩ := fld_objHead dst n.ident tag (oid / 256) (oid % 256) off len last
  have byte : oid % 256 % 2 ^ 8 = oid % 256 := Nat.mod_eq_of_lt (Nat.mod_lt oid (by decide))
  rw [byte] at names
  rw [← Node.head_relayRequest n dst tag oid off len last bytes] at kind node names
  rw [Node.sendRelay_port route synced]
  exact Node.asked_send (r := { tag := tag, dst := dst, msg := n.relayRequest dst tag oid off len last bytes, tick0 := n.tb1 })
    (List.mem_append_right _ (.head _)) rfl synced kind node names

theorem Node.relayWrite_relayed (n : Node) (dst oid len v : Nat) : n.Relayed (n.relayWrite dst oid len v) :=
  (Node.Relayed.modAccess n fun _ h => h).trans (Node.sendRelay_relayed ..)

theorem Node.relayWrite_asked {n : Node} {dst p : Nat} (route : n.relayHop dst = .port p) (synced : 5 ≤ n.lst p) (oid len v : Nat) :
    (n.relayWrite dst oid len v).Asked oid dst p := Node.sendRelay_asked (n := n.modAccess _) route synced ..

/-- Relayed writes of an object to every destination of a list. -/
theorem Node.relayWrites_spec (l : List Nat) (oid len : Nat) (v : Node → Nat) (n : Node) :
    n.Relayed (overAll l (fun n d => n.relayWrite d oid len (v n)) n) ∧
    ∀ d ∈ l, ∀ p, n.relayHop d = .port p → 5 ≤ n.lst p → (overAll l (fun n d => n.relayWrite d oid len (v n)) n).Asked oid d p := by
  induction l generalizing n with
  | nil => exact ⟨.refl n, fun d h => absurd h List.not_mem_nil⟩
  | cons x l ih =>
    have first := n.relayWrite_relayed x oid len (v n)
    obtain ⟨rest, asked⟩ := ih (n.relayWrite x oid len (v n))
    refine ⟨first.trans rest, fun d hd p route synced => ?_⟩
    rcases List.mem_cons.mp hd with rfl | hd
    · exact rest.asked (Node.relayWrite_asked route synced ..)
    · exact asked d hd p ((first.relayHop d).trans route) (synced.trans_eq (first.rd _).symm)

theorem anchorDistribution_due {n : Node} (root : n.isRoot = true) (due : n.anchorDue = true) (dies synced : List Nat) :
    anchorDistribution dies synced n = (overAll dies (fun n d => n.relayWrite d Ob.hall_hallAnchor 24 n.anchorOut) n).modKst
      (fun k => { k with distAt := some n.tb1, distWas := n.anchorKey }) := by
  simp [anchorDistribution, when, root, due]

theorem anchorDistribution_synced {n : Node} (root : n.isRoot = true) (due : n.anchorDue = false) (dies synced : List Nat) :
    anchorDistribution dies synced n = overAll synced (fun n d => n.relayWrite d Ob.hall_hallAnchor 24 n.anchorOut) n := by
  simp [anchorDistribution, when, root, due]

/-- Settles O22: a written anchor has an equation in each mode, and the distribution is a list of relayed writes. -/
theorem hallTimeNeitherJumpsNorStepsUnrecorded : Obligations.HallTimeNeitherJumpsNorStepsUnrecorded := by
  refine ⟨fun s v tsu => runsOn_node (works_tsu tsu) rfl rfl ?_,
    fun s tsu => ⟨fun hall room => runsOn_node (works_tsu tsu) rfl rfl ?_, fun v far => runsOn_node (works_tsu tsu) rfl rfl ?_⟩,
    fun s dies synced works root => ?_⟩
  · obtain ⟨anchor, writes⟩ := anchorWrite_shows v (Node.kind_ne_hub tsu)
    refine ⟨Node.answered_answer .., anchor, writes, fun free => ?_, fun hall => ?_⟩
    · rw [State.node, anchorWrite_free free, Node.hall_answer, Node.hall_anchorHeld]
    · refine ⟨anchorWrite_ancT hall rfl, anchorWrite_ancS hall rfl, anchorWrite_flags hall, fun within => ?_, fun beyond => ?_⟩
      · exact ⟨(anchorWrite_resid hall rfl).trans (if_pos within), anchorWrite_stays hall rfl within⟩
      · exact ⟨(anchorWrite_resid hall rfl).trans (if_neg (not_le.mpr beyond)), anchorWrite_recorded hall rfl beyond⟩
  · rw [State.node, modeChange_free hall room, Node.hall_answer, Node.rd_answer_time _ _ (by decide), Node.rd_wr_same, Node.baseOf_answer,
      Node.wr_baseOf, Node.modBase_baseOf_same, TBase.t96_fromHall]
    exact ⟨Node.answered_answer .., rfl, rfl, rfl⟩
  · rw [State.node, modeChange_refused far]
    exact ⟨Node.answered_answer .., Node.rd_answer_time _ _ (by decide), Node.bases_answer ..⟩
  · have keystone : s.hub.isKeystone = true := by
      simp only [Node.isRoot, Bool.and_eq_true] at root
      exact root.1.1
    refine runsOn_node works rfl keystone ?_
    cases due : s.hub.anchorDue with
    | true =>
      rw [State.node, anchorDistribution_due root due]
      exact ⟨fun _ => rfl, (Node.relayWrites_spec dies _ 24 Node.anchorOut s.hub).2⟩
    | false =>
      rw [State.node, anchorDistribution_synced root due]
      exact ⟨fun bad => absurd bad Bool.false_ne_true, (Node.relayWrites_spec synced _ 24 Node.anchorOut s.hub).2⟩

/-! ### Single bits -/

theorem bit_eq_testBit (x i : Nat) : bit x i = x.testBit i := by
  rw [Nat.testBit_eq_decide_div_mod_eq]
  rfl

/-- Adding the weight of a clear bit sets it and no other. -/
theorem bit_add_pow {x e : Nat} (clear : bit x e = false) (f : Nat) : bit (x + 2 ^ e) f = (f == e || bit x f) := by
  have even : x / 2 ^ e % 2 = 0 := by
    have := beq_eq_false_iff_ne.mp clear
    omega
  have low : x % 2 ^ (e + 1) < 2 ^ e := by
    rw [pow_succ, Nat.mod_mul, even, Nat.mul_zero, Nat.add_zero]
    exact Nat.mod_lt _ (by positivity)
  have lowSet : 2 ^ e + x % 2 ^ (e + 1) < 2 ^ (e + 1) := by
    rw [pow_succ] at low ⊢
    omega
  have split := Nat.div_add_mod x (2 ^ (e + 1))
  have sum : x + 2 ^ e = 2 ^ (e + 1) * (x / 2 ^ (e + 1)) + (2 ^ e + x % 2 ^ (e + 1)) := by omega
  rw [bit_eq_testBit, bit_eq_testBit]
  rcases Nat.lt_trichotomy f e with below | rfl | above
  · rw [Nat.add_comm x, Nat.testBit_two_pow_add_gt below, beq_eq_false_iff_ne.mpr below.ne, Bool.false_or]
  · rw [Nat.add_comm x, Nat.testBit_two_pow_add_eq, ← bit_eq_testBit, clear, beq_self_eq_true]
    rfl
  · have high (y : Nat) (hy : y < 2 ^ (e + 1)) :
        (2 ^ (e + 1) * (x / 2 ^ (e + 1)) + y).testBit f = (x / 2 ^ (e + 1)).testBit (f - (e + 1)) := by
      rw [Nat.testBit_two_pow_mul_add _ hy, if_neg (by omega)]
    rw [sum, high _ lowSet, ← high _ (Nat.mod_lt x (by positivity)), split, beq_eq_false_iff_ne.mpr above.ne', Bool.false_or]

/-- Subtracting the weight of a set bit clears it and no other. -/
theorem bit_sub_pow {x e : Nat} (set : bit x e = true) (f : Nat) : bit (x - 2 ^ e) f = (f != e && bit x f) := by
  have fits : 2 ^ e ≤ x := by
    rw [bit, beq_iff_eq] at set
    by_contra small
    rw [Nat.div_eq_of_lt (by omega)] at set
    exact absurd set (by decide)
  obtain ⟨y, rfl⟩ := Nat.exists_eq_add_of_le' fits
  have clear : bit y e = false := by
    rw [bit_eq_testBit, Nat.add_comm, Nat.testBit_two_pow_add_eq, ← bit_eq_testBit] at set
    simpa using set
  rw [Nat.add_sub_cancel, bit_add_pow clear]
  by_cases same : f = e
  · subst same
    simp [clear]
  · simp [beq_eq_false_iff_ne.mpr same, bne_iff_ne.mpr same]

/-- Clearing the bits of a list that a test names. -/
theorem bit_foldl_clear (named : Nat → Bool) (l : List Nat) (distinct : l.Nodup) (acc : Nat) (set : ∀ s ∈ l, named s = true → bit acc s = true)
    (f : Nat) :
    bit (l.foldl (fun acc s => if named s then acc - 2 ^ s else acc) acc) f = (bit acc f && !(decide (f ∈ l) && named f)) := by
  induction l generalizing acc with
  | nil => simp
  | cons s l ih =>
    obtain ⟨new, distinct⟩ := List.nodup_cons.mp distinct
    rw [List.foldl_cons]
    cases hs : named s with
    | false =>
      rw [if_neg Bool.false_ne_true, ih distinct acc fun t ht => set t (.tail s ht)]
      by_cases same : f = s
      · simp [same, hs]
      · simp [same]
    | true =>
      have cleared := bit_sub_pow (set s (.head l) hs)
      rw [if_pos rfl, ih distinct]
      · rw [cleared]
        by_cases same : f = s
        · simp [same, hs]
        · simp [same, bne_iff_ne.mpr same]
      · intro t ht named
        have other : t ≠ s := by rintro rfl; exact new ht
        rw [cleared, set t (.tail s ht) named, bne_iff_ne.mpr other]
        rfl

theorem bit_ackBits (pend v : Nat) {e : Nat} (he : e < 512) :
    bit (ackBits pend v) e = (bit pend e && !(bit v e && !isCondition e)) := by
  have set : ∀ s ∈ upTo 512, (bit pend s && bit v s && !isCondition s) = true → bit pend s = true := by
    intro s _ named
    simp only [Bool.and_eq_true] at named
    exact named.1.1
  have mem : decide (e ∈ upTo 512) = true := by simpa [upTo] using he
  rw [ackBits, bit_foldl_clear _ (upTo 512) List.nodup_range _ set, mem]
  cases bit pend e <;> simp

/-! ### Interrupt events -/

/-- An event of a TSU sets its source's pending bit and no other; a condition's code and that of no source change nothing (16 R467). -/
theorem Node.bit_pending_irqEvent {n : Node} {e : Nat} (tsu : n.isHub = false) (source : e < 0x133) (event : isCondition e = false) (f : Nat) :
    bit ((n.irqEvent e).rd Ob.irq_pending) f = (f == e || bit (n.rd Ob.irq_pending) f) := by
  have known : Nat.ble 0x133 e = false := by
    rw [← Bool.not_eq_true, Nat.ble_eq]
    omega
  rw [Node.irqEvent, tsu, event, known, if_neg (by decide)]
  cases held : bit (n.rd Ob.irq_pending) e with
  | true =>
    rw [if_pos rfl]
    by_cases same : f = e
    · simp [same, held]
    · simp [same]
  | false => rw [if_neg Bool.false_ne_true, Node.rd_wr_same, bit_add_pow held]

theorem Node.irqEvent_idle (n : Node) {e : Nat} (h : 0x133 ≤ e ∨ isCondition e = true) : n.irqEvent e = n := by
  have idle : (isCondition e || Nat.ble 0x133 e) = true := by
    rw [Bool.or_eq_true, Nat.ble_eq]
    exact h.symm
  rw [Node.irqEvent, Bool.or_assoc, idle, Bool.or_true, if_pos rfl]

/-! ### Captures -/

theorem Node.caps_answerData (n : Node) (st data len : Nat) : (n.answerData st data len).caps = n.caps := by
  have := congrArg Node.caps (n.answerData_frame st data len)
  exact this

@[simp] theorem Node.capOf_answerData (n : Node) (st data len i : Nat) : (n.answerData st data len).capOf i = n.capOf i := by
  simp only [Node.capOf, Node.caps_answerData]

theorem captureRead_oldest {n : Node} {i r : Nat} {rest : List Nat} (held : (n.capOf i).recs = r :: rest) :
    captureRead i n = (n.modCap i (fun q => { q with recs := rest })).answerData 0 r 48 := by
  simp only [captureRead, held]

theorem captureRead_empty {n : Node} {i : Nat} (empty : (n.capOf i).recs = []) : captureRead i n = n.answerData 0 0 48 := by
  simp only [captureRead, empty]

/-! ### Pulse outputs -/

/-- The counters of pulses and of refusals of function 7 have 64 bits on a TSU (06 R167, 16 R461). -/
theorem widthOf_pulseCounters {k : Kind} (tsu : k ≠ .hub) : (∀ i < 4, widthOf k (Ob.pulse_pulses i) = 64) ∧ widthOf k (Ob.fn_refused 7) = 64 := by
  cases k with
  | hub => exact absurd rfl tsu
  | full => decide +kernel
  | edge => decide +kernel

theorem isTimeObj_pulses {k : Nat} (hk : k < 4) : isTimeObj (Ob.pulse_pulses k) = true := by
  simp only [isTimeObj, Ob.pulse_pulses, decide_eq_true_eq]
  omega

theorem Node.pulses_bump (n : Node) (o : Nat) : (n.bump o).pulses = n.pulses := by
  have := congrArg Node.pulses (n.bump_frame o)
  exact this

@[simp] theorem Node.pulseOf_bump (n : Node) (o k : Nat) : (n.bump o).pulseOf k = n.pulseOf k := by
  simp only [Node.pulseOf, Node.pulses_bump]

@[simp] theorem Node.pulseOf_offerEdge (n : Node) (src stamp : Nat) (coarse : Bool) (count : Option Nat) (k : Nat) :
    (n.offerEdge src stamp coarse count).pulseOf k = n.pulseOf k := rfl

/-- Where no settings wait, the settings in force stay alone. -/
theorem Node.pulseSettings_idle {n : Node} {k : Nat} (pend : (n.pulseOf k).pend = []) : n.pulseSettings k = n := by
  simp [Node.pulseSettings, PulseSt.coming, pend, upTo]

/-- An instant of the settings in force is placed. -/
theorem pulsePlace_now {n : Node} {k x : Nat} (pend : (n.pulseOf k).pend = []) (next : (n.pulseOf k).next = none)
    (placed : n.placeNow (n.pulseOf k).now = some x) : pulsePlace k n = n.putPulse k x := by
  simp only [pulsePlace, Node.pulseSettings_idle pend, next, placed, if_true]

section
variable {n : Node} {k x : Nat} (fresh : (n.pulseOf k).lastAt ≠ some x) (new : x ∉ (n.pulseOf k).placed)
include fresh new

theorem Node.putPulse_refused (disabled : n.fnEnabled 7 = false) : n.putPulse k x = n.bump (Ob.fn_refused 7) := by
  simp [Node.putPulse, fresh, new, disabled]

theorem Node.putPulse_now (enabled : n.fnEnabled 7 = true) (now : x < n.tb1 * 512 + 512) : n.putPulse k x = n.drivePulse k x := by
  simp [Node.putPulse, fresh, new, enabled, now]

theorem Node.putPulse_later (enabled : n.fnEnabled 7 = true) (later : n.tb1 * 512 + 512 ≤ x) :
    n.putPulse k x = n.modPulse k (fun o => { o with placed := (o.placed.filter (· < x)) ++ x :: o.placed.filter (x < ·) }) := by
  simp [Node.putPulse, fresh, new, enabled, not_lt.mpr later]

end

section
variable {n : Node} {k x : Nat}

/-- A new pulse: the output is high for its width, and the edge is offered (06 R167). -/
theorem Node.drivePulse_new (past : ∀ u, (n.pulseOf k).highTo = some u → u < x) :
    n.drivePulse k x = ((n.bump (Ob.pulse_pulses k)).modPulse k (fun o => { o with
      high := 0 < ((n.pulseOf k).at_ x).wid, fallAt := n.tb1 + ((n.pulseOf k).at_ x).wid, lastAt := some x
      highTo := some (x + ((n.pulseOf k).at_ x).wid * 512) })).offerEdge (0x71 + k) (x * 128) false none := by
  have reached : (n.pulseOf k).highTo.any (fun u => decide (x ≤ u)) = false := by
    cases held : (n.pulseOf k).highTo with
    | none => rfl
    | some u => simpa using past u held
  rw [Node.drivePulse, reached, if_neg Bool.false_ne_true]

/-- A pulse that the width of the one before reaches: the output falls (06 R168). -/
theorem Node.drivePulse_reached {u : Nat} (high : (n.pulseOf k).highTo = some u) (reached : x ≤ u) :
    n.drivePulse k x = (n.bump (Ob.pulse_pulses k)).modPulse k (fun o => { o with high := false, lastAt := some x, highTo := none }) := by
  rw [Node.drivePulse, high, Option.any_some, decide_eq_true reached, if_pos rfl]

theorem Node.drivePulse_cases : (∀ u, (n.pulseOf k).highTo = some u → u < x) ∨ ∃ u, (n.pulseOf k).highTo = some u ∧ x ≤ u := by
  by_contra! none
  obtain ⟨⟨u, high, reached⟩, none⟩ := none
  exact absurd (none u high) (by omega)

theorem Node.drivePulse_spec (tsu : n.kind ≠ .hub) (hk : k < 4) :
    (n.drivePulse k x).rd (Ob.pulse_pulses k) = (n.rd (Ob.pulse_pulses k) + 1) % 2 ^ 64 ∧ ((n.drivePulse k x).pulseOf k).lastAt = some x ∧
    ∀ j, j ≠ k → (n.drivePulse k x).pulseOf j = n.pulseOf j := by
  have counted : (n.bump (Ob.pulse_pulses k)).rd (Ob.pulse_pulses k) = (n.rd (Ob.pulse_pulses k) + 1) % 2 ^ 64 := by
    rw [Node.rd_bump_same _ _ (isEcnt_of_timeObj (isTimeObj_pulses hk)), (widthOf_pulseCounters tsu).1 k hk]
  rcases Node.drivePulse_cases (n := n) (k := k) (x := x) with past | ⟨u, high, reached⟩
  · rw [Node.drivePulse_new past]
    refine ⟨counted, by simp, fun j hj => ?_⟩
    simp [Node.modPulse_pulseOf_ne _ _ hj.symm]
  · rw [Node.drivePulse_reached high reached]
    refine ⟨counted, by simp, fun j hj => ?_⟩
    simp [Node.modPulse_pulseOf_ne _ _ hj.symm]

end

/-- Where the output falls at the end of a width, as a new pulse leaves it (06 R167). -/
theorem Node.drivePulse_high {n : Node} {k x : Nat} (next : (n.pulseOf k).next = none) (past : ∀ u, (n.pulseOf k).highTo = some u → u < x) :
    (((n.drivePulse k x).pulseOf k).high = true ↔ 0 < (n.pulseOf k).now.wid) ∧
    ((n.drivePulse k x).pulseOf k).fallAt = n.tb1 + (n.pulseOf k).now.wid := by
  rw [Node.drivePulse_new past]
  simp [PulseSt.at_, next]

theorem Node.drivePulse_falls {n : Node} {k x u : Nat} (high : (n.pulseOf k).highTo = some u) (reached : x ≤ u) :
    ((n.drivePulse k x).pulseOf k).high = false := by
  rw [Node.drivePulse_reached high reached, Node.modPulse_pulseOf_same]

/-- A refusal of function 7 is counted and places nothing (16 R461). -/
theorem Node.pulseRefusal_spec {n : Node} (tsu : n.kind ≠ .hub) :
    (n.bump (Ob.fn_refused 7)).rd (Ob.fn_refused 7) = (n.rd (Ob.fn_refused 7) + 1) % 2 ^ 64 ∧ (n.bump (Ob.fn_refused 7)).pulses = n.pulses := by
  rw [Node.rd_bump_same _ _ (by decide), (widthOf_pulseCounters tsu).2]
  exact ⟨rfl, n.pulses_bump _⟩

/-- Settles O23: a record read, a placed instant, an event and an acknowledge each have their equation; the instant of a pulse is driven,
kept for its tick, or refused. -/
theorem capturesPulsesAndInterruptsFollowTheTick : Obligations.CapturesPulsesAndInterruptsFollowTheTick := by
  intro s tsu
  have works := works_tsu tsu
  have kind := Node.kind_ne_hub tsu
  refine ⟨fun i hi => ⟨fun r rest held => runsOn_node works rfl (decide_eq_true hi) ?_, fun empty => runsOn_node works rfl (decide_eq_true hi) ?_⟩,
    fun k x hk pend next placed fresh new => runsOn_node works rfl (decide_eq_true hk) ?_,
    fun e source event => runsOn_node (f := fun n => n.irqEvent e) works rfl rfl ?_,
    fun e idle => exec_node_idle (u := .tsu) (f := fun n => n.irqEvent e) rfl (Node.irqEvent_idle _ idle),
    fun v => runsOn_node (f := irqAck v) works rfl rfl ?_⟩
  · rw [State.node, captureRead_oldest held]
    refine ⟨Node.answerOf_answerData .., by simp, fun j hj => ?_⟩
    rw [Node.capOf_answerData, Node.modCap_capOf_ne _ _ hj.symm]
  · rw [State.node, captureRead_empty empty]
    exact ⟨Node.answerOf_answerData .., Node.caps_answerData ..⟩
  · rw [State.node, pulsePlace_now pend next placed]
    cases enabled : s.tsu.fnEnabled 7 with
    | false =>
      rw [Node.putPulse_refused fresh new enabled]
      obtain ⟨counted, pulses⟩ := Node.pulseRefusal_spec kind
      refine ⟨by simp, by simp, fun _ => ⟨counted, pulses⟩, fun j _ => Node.pulseOf_bump ..⟩
    | true =>
      by_cases now : x < s.tsu.tb1 * 512 + 512
      · obtain ⟨counted, last, others⟩ := Node.drivePulse_spec (n := s.tsu) (x := x) kind hk
        rw [Node.putPulse_now fresh new enabled now]
        exact ⟨fun _ _ => ⟨counted, last, Node.drivePulse_high next, fun u => Node.drivePulse_falls⟩, fun _ later => absurd now (not_lt.mpr later),
          by simp, others⟩
      · rw [Node.putPulse_later fresh new enabled (not_lt.mp now), Node.modPulse_pulseOf_same]
        exact ⟨fun _ soon => absurd soon now, fun _ _ => ⟨by simp, rfl⟩, by simp, fun j hj => Node.modPulse_pulseOf_ne _ _ hj.symm⟩
  · have pending := Node.bit_pending_irqEvent tsu source event
    refine ⟨(pending e).trans (by simp), fun f other => (pending f).trans ?_⟩
    rw [beq_eq_false_iff_ne.mpr other, Bool.false_or]
  · refine ⟨Node.answered_answer .., fun e he => ?_⟩
    rw [State.node, irqAck, Node.rd_answer _ _ (by decide) (by decide), Node.rd_wr_same, bit_ackBits _ _ he]

end Sys2Proof.Machine

/-! Time inside a wafer (07): object 0xD400.00 gives the number of Agents, and an Edge TSU has one (07 R201), so its dictionary holds the objects
of Agent 0 alone. The statements of this chapter take every Agent below that number and ask for no more, so they also speak of a second Agent
of an Edge TSU. Its counters have no bits (`widthOf_agent1`), and each statement has a clause by which one of them counts. -/

namespace Sys2Proof.Machine

/-! ### A second Agent of an Edge TSU -/

/-- A state whose TSU is an Edge one although object 0xD400.00 reads 2; no configuration image brings it about (`Node.recOk`). Agent 1 holds an
active run, has `ra_go` high and has had no locked lane for 16 ticks, and its region is powered. -/
def edgeOfTwo : State :=
  { State.reset with
    tsu :=
      { kind := .edge, tb1 := 16, objs := [(Ob.bus_regionAgents, 2)], agents := [(1, { run := some {}, go := true })]
        regions := [(1, { pgood := true, iso := 0 })] } }

/-- Soundness does not exclude the state: it asks for the form of the objects, and not for what object 0xD400.00 reads. -/
theorem sound_edgeOfTwo : edgeOfTwo.Sound := by
  refine ⟨⟨?_, ?_⟩, ⟨?_, ?_⟩, ⟨?_, ?_⟩, ?_⟩ <;> decide +kernel

theorem works_edgeOfTwo : Works edgeOfTwo .tsu := works_tsu (by decide)

theorem regionCount_edgeOfTwo : 1 < edgeOfTwo.tsu.regionCount := by decide +kernel

theorem hasRegion_edgeOfTwo : edgeOfTwo.tsu.hasRegion 1 = true := decide_eq_true regionCount_edgeOfTwo

/-- The dictionary of an Edge TSU names no counter of Agent 1, while on a Full TSU each has 64 bits (07 R201). -/
theorem widthOf_agent1 : ∀ o ∈ [Ob.agent_stretches 1, Ob.agent_frequencyChanges 1, Ob.agent_recordsPosted 1],
    widthOf .edge o = 0 ∧ widthOf .full o = 64 := by decide +kernel

/-- What a run of a command on a unit says holds of what its effect leaves. -/
theorem of_runsOn_node {s : State} {u : Who} {i : Instr} {ok : Bool} {f : Node → Node} {P : Node → Prop} (hw : Works s u)
    (hi : exec i s = onNode s u ok f) (hok : ok = true) (h : RunsOn u i s P) : P (f (s.node u)) := by
  obtain ⟨t, run, holds⟩ := h
  have ran : t = s.setNode u (f (s.node u)) := Host.Outcome.next.inj (run.symm.trans (exec_node hw hi hok))
  rwa [ran, State.node_setNode_same] at holds

/-- Refutes O24: at Agent 1 of `edgeOfTwo` the run is aborted after 16 ticks without a lane, and the records posted read 0 as before. -/
theorem not_busFramesCarryActionsOnce : ¬ Obligations.BusFramesCarryActionsOnce := by
  intro h
  obtain ⟨-, -, noLane⟩ := h edgeOfTwo (by decide)
  obtain ⟨-, -, -, aborted⟩ := of_runsOn_node works_edgeOfTwo rfl hasRegion_edgeOfTwo
    (noLane 1 0 0 regionCount_edgeOfTwo (by decide) (by decide) (by decide) (by decide +kernel))
  obtain ⟨-, posted, -⟩ := aborted (by decide)
  have before : edgeOfTwo.tsu.rd (Ob.agent_recordsPosted 1) = 0 := by decide +kernel
  have after : (noLaneExpiry 1 0 edgeOfTwo.tsu).rd (Ob.agent_recordsPosted 1) = 0 := by decide +kernel
  rw [State.node_tsu, after, before] at posted
  exact absurd posted (by decide)

/-- Refutes O25: the run of Agent 1 of `edgeOfTwo`, past its deadline tick, is posted late, and the records posted read 0 as before. -/
theorem not_runsStartAndEndWithARecord : ¬ Obligations.RunsStartAndEndWithARecord := by
  intro h
  obtain ⟨-, -, -, -, deadline⟩ := h edgeOfTwo 1 regionCount_edgeOfTwo (by decide)
  obtain ⟨-, -, -, -, posted, -⟩ := of_runsOn_node works_edgeOfTwo rfl hasRegion_edgeOfTwo (deadline {} 0 (by decide) (by decide) (by decide))
  have before : edgeOfTwo.tsu.rd (Ob.agent_recordsPosted 1) = 0 := by decide +kernel
  have after : (runDeadline 1 0 edgeOfTwo.tsu).rd (Ob.agent_recordsPosted 1) = 0 := by decide +kernel
  rw [State.node_tsu, after, before] at posted
  exact absurd posted (by decide)

/-- Refutes O26: a stretch pulse at Agent 1 of `edgeOfTwo` leaves the stretches at 0. -/
theorem not_theLedgerFollowsTheCycles : ¬ Obligations.TheLedgerFollowsTheCycles := by
  intro h
  obtain ⟨-, -, -, live, -⟩ := h edgeOfTwo 1 regionCount_edgeOfTwo (by decide)
  obtain ⟨stretch, -⟩ := live (by decide)
  obtain ⟨counted, -⟩ := of_runsOn_node works_edgeOfTwo rfl hasRegion_edgeOfTwo stretch
  have before : edgeOfTwo.tsu.rd (Ob.agent_stretches 1) = 0 := by decide +kernel
  have after : ((edgeOfTwo.tsu.bump (Ob.agent_stretches 1)).agEvents 1 0x03 1).rd (Ob.agent_stretches 1) = 0 := by decide +kernel
  rw [State.node_tsu] at counted
  exact absurd (after.symm.trans counted) (by rw [before]; decide)

/-- Refutes O27: when `ra_fchg_req` falls at Agent 1 of `edgeOfTwo`, the frequency changes stay at 0. -/
theorem not_aFrequencyChangeWaitsForItsGrant : ¬ Obligations.AFrequencyChangeWaitsForItsGrant := by
  intro h
  obtain ⟨-, -, -, -, -, reqLow, -⟩ := h edgeOfTwo 1 regionCount_edgeOfTwo (by decide)
  obtain ⟨-, -, -, counted, -⟩ := of_runsOn_node works_edgeOfTwo rfl hasRegion_edgeOfTwo (reqLow (by decide))
  have before : edgeOfTwo.tsu.rd (Ob.agent_frequencyChanges 1) = 0 := by decide +kernel
  have after : (fchgReqLow 1 edgeOfTwo.tsu).rd (Ob.agent_frequencyChanges 1) = 0 := by decide +kernel
  rw [State.node_tsu, after, before] at counted
  exact absurd counted (by decide)

end Sys2Proof.Machine

/-! Viaducts (08): a cell flushes by the context that its settings name, of which the configuration has at most 64 (09 R260), but the statement
takes every number that the state can hold there. At one of them the escrow state and the counts of causes are the same object, so a late crossing
of a fired step moves the escrow state by its own record, and then taints no step. -/

namespace Sys2Proof.Machine

/-! ### A late crossing in a context of the configuration -/

/-- A fired step holds each taint reason that it is given (13 R360). -/
theorem Node.bit_taint {n : Node} {c : Nat} (fired : n.fired c = true) (reason : Nat) :
    bit ((n.taint c reason).rd (Ob.tag_taintReasons c)) reason = true := by
  unfold Node.taint
  cases held : bit (n.rd (Ob.tag_taintReasons c)) reason with
  | true => simpa using held
  | false => simp [fired, bit_add_pow held]

/-- The escrow state of a context of the configuration is none of the objects that a record writes (10 R280, 14 R385). -/
theorem isRecObj_escrowState {c : Nat} (hc : c < 64) : isRecObj (Ob.ctx_escrowState c) = false := by
  have index : Ob.ctx_escrowState c / 256 = 0x4840 + c := by unfold Ob.ctx_escrowState; omega
  simp only [isRecObj, isEcnt, index, Bool.or_eq_false_iff, decide_eq_false_iff_not, beq_eq_false_iff_ne]
  omega

/-- What a late crossing flags, counts and records leaves the escrow state of every context of the configuration, so outside Strict it taints
the fired step (08 R208, 13 R360). -/
theorem Node.bit_taint_lateCrossing {n : Node} {v cycle : Nat} (hc : (n.cellOf v).ctx < 64) (loose : n.rd Ob.det_strict ≠ 1)
    (fired : n.fired (n.cellOf v).ctx = true) : bit ((n.lateCrossing v cycle).rd (Ob.tag_taintReasons (n.cellOf v).ctx)) 1 = true := by
  have escrow := isRecObj_escrowState hc
  have status : Ob.vd_status v ≠ Ob.ctx_escrowState (n.cellOf v).ctx := by unfold Ob.vd_status Ob.ctx_escrowState; omega
  have late : Ob.vd_lateCrossings v ≠ Ob.ctx_escrowState (n.cellOf v).ctx := by unfold Ob.vd_lateCrossings Ob.ctx_escrowState; omega
  have last : Ob.vd_lastLate v ≠ Ob.ctx_escrowState (n.cellOf v).ctx := by unfold Ob.vd_lastLate Ob.ctx_escrowState; omega
  have cells : Ob.vds_lateCells ≠ Ob.ctx_escrowState (n.cellOf v).ctx := by unfold Ob.vds_lateCells Ob.ctx_escrowState; omega
  have strict : n.strict = false := beq_eq_false_iff_ne.mpr loose
  unfold Node.lateCrossing
  dsimp only
  rw [strict, if_neg Bool.false_ne_true]
  refine Node.bit_taint ?_ 1
  rw [Node.fired, Node.escrow, Node.modCell_rd, Node.rd_fault _ _ escrow, Node.rd_wrBits_ne _ _ _ _ cells, Node.rd_wr_ne _ _ last,
    Node.rd_bump_ne _ (isEcnt_of_not_rec escrow) late, Node.vdBit, Node.rd_wrBits_ne _ _ _ _ status, Node.noDelivery, Node.modCell_rd]
  exact fired

/-! ### A late crossing in a context that no configuration has -/

/-- At context 14,273 the escrow state is the object that counts causes. -/
theorem escrowState_eq_causeCounts : Ob.ctx_escrowState 0x37C1 = Ob.cause_causeCounts := rfl

/-- A state whose cell 0 names context 14,273, with no entry held and both regions powered. Cause 0 has been counted 3 times, and the object
that holds the counts so reads 3, the state of a fired step. -/
def lateOutsideContexts : State :=
  { State.reset with
    tsu :=
      { kind := .full, objs := [(Ob.cause_causeCounts, 3), (Ob.vds_viaducts, 1)], cells := [(0, { mode := 1, ctx := 0x37C1 })]
        regions := [(0, { pgood := true })] } }

/-- Soundness does not exclude the state: it asks nothing of the context that a cell names. -/
theorem sound_lateOutsideContexts : lateOutsideContexts.Sound := by
  refine ⟨⟨?_, ?_⟩, ⟨?_, ?_⟩, ⟨?_, ?_⟩, ?_⟩ <;> decide +kernel

/-- A read finds no entry, so it crosses late; its record counts cause 0x3A, and the step stands as not fired before it is to be tainted. -/
theorem untainted_lateOutsideContexts :
    lateOutsideContexts.tsu.fired 0x37C1 = true ∧ (viaductRead 0 0 lateOutsideContexts.tsu).fired 0x37C1 = false ∧
    bit ((viaductRead 0 0 lateOutsideContexts.tsu).rd (Ob.tag_taintReasons 0x37C1)) 1 = false := by decide +kernel

/-- Refutes O28: its clause of a late crossing has the fired step of any context tainted. In `lateOutsideContexts` the cell names a context that no
configuration has, and no taint is set. In a context of the configuration the clause holds (`Node.bit_taint_lateCrossing`). -/
theorem not_viaductsDeliverInOrderOrReport : ¬ Obligations.ViaductsDeliverInOrderOrReport := by
  intro h
  have cell : 0 < lateOutsideContexts.tsu.vdCount := by decide +kernel
  obtain ⟨-, reads, -⟩ := h lateOutsideContexts 0 rfl cell (by decide)
  obtain ⟨-, late⟩ := reads (by unfold noActionNow; decide +kernel) (by decide +kernel) rfl rfl 0
  obtain ⟨-, -, -, -, loose, -⟩ :=
    of_runsOn_node (works_tsu rfl) rfl (decide_eq_true cell) (late (by decide +kernel))
  obtain ⟨-, -, taints⟩ := loose (by decide +kernel)
  obtain ⟨fired, -, untainted⟩ := untainted_lateOutsideContexts
  exact absurd ((taints fired).symm.trans untainted) (by decide)

end Sys2Proof.Machine


/-! Step tables and the sequencer (09): what a fault that strikes a step and the end of a step may touch is said once, by `Node.ActsOn`; the facts
that the statements name are one lemma each. -/

namespace Sys2Proof.Machine

/-! ### Counts of causes -/

/-- A field that is replaced leaves the fields that do not meet it. -/
theorem bits_replace_ne (x lo w v : Nat) {lo' w' : Nat} (apart : lo' + w' ≤ lo ∨ lo + w ≤ lo') :
    bits (x - bits x lo w * 2 ^ lo + v % 2 ^ w * 2 ^ lo) lo' w' = bits x lo' w' := by
  set y := x - bits x lo w * 2 ^ lo + v % 2 ^ w * 2 ^ lo with hy
  have hq := Nat.div_add_mod x (2 ^ lo)
  have hr := Nat.div_add_mod (x / 2 ^ lo) (2 ^ w)
  have parts : y = x % 2 ^ lo + 2 ^ lo * (2 ^ w * (x / 2 ^ lo / 2 ^ w) + v % 2 ^ w) := by
    have whole : x = 2 ^ lo * (2 ^ w * (x / 2 ^ lo / 2 ^ w)) + x / 2 ^ lo % 2 ^ w * 2 ^ lo + x % 2 ^ lo := by
      nth_rewrite 1 [← hq, ← hr]
      ring
    rw [hy, bits, Nat.mul_add, Nat.mul_comm (v % 2 ^ w)]
    omega
  have low : y % 2 ^ lo = x % 2 ^ lo := by rw [parts, Nat.add_mul_mod_self_left, Nat.mod_mod]
  have high : y / 2 ^ (lo + w) = x / 2 ^ (lo + w) := by
    rw [pow_add, ← Nat.div_div_eq_div_mul, ← Nat.div_div_eq_div_mul, parts, Nat.add_mul_div_left _ _ (by positivity),
      Nat.div_eq_of_lt (Nat.mod_lt _ (by positivity)), Nat.zero_add, Nat.mul_add_div (by positivity),
      Nat.div_eq_of_lt (Nat.mod_lt _ (by positivity)), Nat.add_zero]
  unfold bits
  rcases apart with below | above
  · obtain ⟨d, rfl⟩ := Nat.exists_eq_add_of_le below
    have take (z : Nat) : z / 2 ^ lo' % 2 ^ w' = z % 2 ^ (lo' + w' + d) / 2 ^ lo' % 2 ^ w' := by
      rw [Nat.add_assoc, pow_add, Nat.mod_mul_right_div_self, pow_add, Nat.mod_mul_right_mod]
    rw [take y, take x, low]
  · obtain ⟨d, rfl⟩ := Nat.exists_eq_add_of_le above
    rw [pow_add _ (lo + w), ← Nat.div_div_eq_div_mul, ← Nat.div_div_eq_div_mul, high]

/-- A record counts no cause but its own (14 R385). -/
theorem Node.causeCount_fault_ne (n : Node) (r : FRec) {k : Nat} (h : k ≠ r.cause) : (n.fault r).causeCount k = n.causeCount k := by
  unfold Node.causeCount
  rw [Node.rd_causeCounts_fault, Node.countCause, Node.bumpBits, Node.wrBits, Node.rd_wr_same]
  exact bits_replace_ne _ _ _ _ (by omega)

theorem Node.causeCount_congr {n m : Node} (h : m.rd Ob.cause_causeCounts = n.rd Ob.cause_causeCounts) (k : Nat) :
    m.causeCount k = n.causeCount k := by rw [Node.causeCount, h, Node.causeCount]

/-- A record still stands where later operations leave its cause's count. -/
theorem Node.recorded.trans_count {n m k : Node} {c : Nat} (h : n.recorded m c) (kept : k.causeCount c = m.causeCount c) : n.recorded k c :=
  kept.trans h

theorem Node.recorded.of_count {n m k : Node} {c : Nat} (kept : m.causeCount c = n.causeCount c) (h : m.recorded k c) : n.recorded k c := by
  rw [Node.recorded, ← kept]
  exact h

/-! ### What records and counts leave of a step -/

theorem recOnly.kind {n m : Node} (h : recOnly n m) : m.kind = n.kind := by have := congrArg Node.kind h; exact this
theorem recOnly.bus {n m : Node} (h : recOnly n m) : m.bus = n.bus := by have := congrArg Node.bus h; exact this
theorem recOnly.ctxs {n m : Node} (h : recOnly n m) : m.ctxs = n.ctxs := by have := congrArg Node.ctxs h; exact this
theorem recOnly.clr {n m : Node} (h : recOnly n m) : m.clr = n.clr := by have := congrArg Node.clr h; exact this

theorem recOnly.ctxOf {n m : Node} (h : recOnly n m) (c : Nat) : m.ctxOf c = n.ctxOf c := by
  unfold Node.ctxOf
  rw [h.ctxs]

/-! ### What a strike and the end of a step may touch -/

/-- The objects that the records, messages and discards of a step's end may write, whatever its context: those of records and events, of the
link ends, of the host channels and of the Agents' counters, the orphan credits and the contributions refused. -/
def isEndObj (o : Nat) : Bool :=
  isRecObj o || decide (0x3010 ≤ o / 256 ∧ o / 256 < 0x3060) || o / 256 == 0x5000 || decide (0x5100 ≤ o / 256 ∧ o / 256 < 0x5108) ||
  o / 256 == 0x6000 || decide (0xA400 ≤ o / 256 ∧ o / 256 < 0xA800)

/-- The sequencer, escrow and tag objects of a context. -/
def isStepObj (c o : Nat) : Bool := o / 256 == 0x4040 + c || o / 256 == 0x4840 + c || o / 256 == 0x7040 + c

/-- The tag objects of a context. -/
def isTagObj (c o : Nat) : Bool := o / 256 == 0x7040 + c

/-- What an operation on the step of context `c` may touch: of the contexts that one; of the objects those of `isEndObj` and `w`; and of the
counts of causes those of `ks`. It places no action, and the unit keeps its kind. -/
structure Node.ActsOn (c : Nat) (w : Nat → Bool) (ks : List Nat) (n m : Node) : Prop where
  kind : m.kind = n.kind
  placed : m.bus.placed = n.bus.placed
  ctx : ∀ d, d ≠ c → m.ctxOf d = n.ctxOf d
  rd : ∀ o, isEndObj o = false → w o = false → m.rd o = n.rd o
  count : ∀ k, k ∉ ks → m.causeCount k = n.causeCount k

/-- An object that an operation of `Node.ActsOn` may write as it likes. -/
def MayWrite (w : Nat → Bool) (o : Nat) : Prop := o ≠ Ob.cause_causeCounts ∧ (isEndObj o || w o) = true

theorem MayWrite.ne {w : Nat → Bool} {o o' : Nat} (h : MayWrite w o) (he : isEndObj o' = false) (hw : w o' = false) : o ≠ o' := by
  rintro rfl
  obtain ⟨-, allowed⟩ := h
  simp [he, hw] at allowed

theorem isRecObj_of_not_end {o : Nat} (h : isEndObj o = false) : isRecObj o = false := by
  simp only [isEndObj, Bool.or_eq_false_iff] at h
  exact h.1.1.1.1.1

theorem isEcnt_of_not_end {o : Nat} (h : isEndObj o = false) : isEcnt o = false := isEcnt_of_not_rec (isRecObj_of_not_end h)

namespace Node.ActsOn

variable {c : Nat} {w w' : Nat → Bool} {ks ks' : List Nat} {n m k : Node}

protected theorem refl (c : Nat) (w : Nat → Bool) (ks : List Nat) (n : Node) : n.ActsOn c w ks n :=
  ⟨rfl, rfl, fun _ _ => rfl, fun _ _ _ => rfl, fun _ _ => rfl⟩

theorem trans (h : n.ActsOn c w ks m) (g : m.ActsOn c w ks k) : n.ActsOn c w ks k where
  kind := g.kind.trans h.kind
  placed := g.placed.trans h.placed
  ctx d hd := (g.ctx d hd).trans (h.ctx d hd)
  rd o he hw := (g.rd o he hw).trans (h.rd o he hw)
  count x hx := (g.count x hx).trans (h.count x hx)

theorem mono (h : n.ActsOn c w ks m) (hw : ∀ o, w o = true → w' o = true) (hk : ks ⊆ ks') : n.ActsOn c w' ks' m where
  kind := h.kind
  placed := h.placed
  ctx := h.ctx
  rd o he ho := h.rd o he (by by_contra held; simp_all)
  count x hx := h.count x fun held => hx (hk held)

section
variable (h : n.ActsOn c w ks m)
include h

/-- Neither an object nor a context moves. -/
theorem same (kept : (k.kind, k.objs, k.bus.placed, k.ctxs) = (m.kind, m.objs, m.bus.placed, m.ctxs)) : n.ActsOn c w ks k := by
  obtain ⟨kind, objs, placed, ctxs⟩ : k.kind = m.kind ∧ k.objs = m.objs ∧ k.bus.placed = m.bus.placed ∧ k.ctxs = m.ctxs := by simpa using kept
  have rd (o : Nat) : k.rd o = m.rd o := by rw [Node.rd, kind, objs, Node.rd]
  exact h.trans ⟨kind, placed, fun d _ => by rw [Node.ctxOf, ctxs, Node.ctxOf], fun o _ _ => rd o, fun _ _ => Node.causeCount_congr (rd _) _⟩

theorem wr {o : Nat} (ho : MayWrite w o) {v : Nat} : n.ActsOn c w ks (m.wr o v) :=
  h.trans ⟨rfl, rfl, fun _ _ => rfl, fun _ he hw => m.rd_wr_ne v (ho.ne he hw), fun _ _ => Node.causeCount_congr (m.rd_wr_ne v ho.1) _⟩

theorem wrBits {o : Nat} (ho : MayWrite w o) {lo len v : Nat} : n.ActsOn c w ks (m.wrBits o lo len v) := h.wr ho

/-- Only objects and the log of a unit are written. -/
theorem of_recOnly (frame : recOnly m k) (rd : ∀ o, isEndObj o = false → w o = false → k.rd o = m.rd o)
    (count : ∀ x, x ∉ ks → k.causeCount x = m.causeCount x) : n.ActsOn c w ks k :=
  h.trans ⟨frame.kind, by rw [frame.bus], fun d _ => frame.ctxOf d, rd, count⟩

theorem addTo {o : Nat} (ho : MayWrite w o) {x : Nat} : n.ActsOn c w ks (m.addTo o x) :=
  h.of_recOnly (.of_objs (m.addTo_frame o x)) (fun _ he hw => m.rd_addTo_ne x (isEcnt_of_not_end he) (ho.ne he hw)) fun _ _ =>
    Node.causeCount_congr (m.rd_addTo_ne x (by decide) ho.1) _

theorem bump {o : Nat} (ho : MayWrite w o) : n.ActsOn c w ks (m.bump o) := h.addTo ho

theorem irqEvent {s : Nat} : n.ActsOn c w ks (m.irqEvent s) :=
  h.of_recOnly (m.irqEvent_frame s) (fun _ he _ => m.rd_irqEvent s (isRecObj_of_not_end he)) fun _ _ =>
    Node.causeCount_congr (m.rd_causeCounts_irqEvent s) _

theorem fault {r : FRec} (hr : r.cause ∈ ks) : n.ActsOn c w ks (m.fault r) :=
  h.of_recOnly (m.fault_frame r) (fun _ he _ => m.rd_fault r (isRecObj_of_not_end he)) fun _ hx => m.causeCount_fault_ne r fun same => hx (same ▸ hr)

theorem modCtx {f : Ctx → Ctx} : n.ActsOn c w ks (m.modCtx c f) :=
  h.trans ⟨rfl, rfl, fun _ hd => m.modCtx_ctxOf_ne f hd.symm, fun _ _ _ => rfl, fun _ _ => rfl⟩

theorem modClr {f : ClearSt → ClearSt} : n.ActsOn c w ks (m.modClr f) := h.same rfl
theorem modTally {f : TallySt → TallySt} : n.ActsOn c w ks (m.modTally f) := h.same rfl
theorem modMint {f : MintSt → MintSt} : n.ActsOn c w ks (m.modMint f) := h.same rfl
theorem modLink {i : Nat} {f : LinkEnd → LinkEnd} : n.ActsOn c w ks (m.modLink i f) := h.same rfl
theorem modAgent {i : Nat} {f : Agent → Agent} : n.ActsOn c w ks (m.modAgent i f) := h.same rfl

theorem ite {p : Prop} {_ : Decidable p} (hk : n.ActsOn c w ks k) : n.ActsOn c w ks (if p then m else k) := by
  split
  · exact h
  · exact hk

theorem thenIf {p : Prop} {_ : Decidable p} (hk : n.ActsOn c w ks m → n.ActsOn c w ks k) : n.ActsOn c w ks (if p then k else m) := ite (hk h) h

theorem overAll {α : Type} {l : List α} {f : Node → α → Node} (hf : ∀ {m x}, x ∈ l → n.ActsOn c w ks m → n.ActsOn c w ks (f m x)) :
    n.ActsOn c w ks (Machine.overAll l f m) := overAll_keeps l f (fun _ _ hx => hf hx) h

end
end Node.ActsOn
end Sys2Proof.Machine

namespace Sys2Proof.Machine

/-! ### The end of a step -/

theorem mayWrite_end {w : Nat → Bool} {o : Nat} (hc : o ≠ Ob.cause_causeCounts) (ho : isEndObj o = true) : MayWrite w o := ⟨hc, by simp [ho]⟩

theorem mayWrite_own {w : Nat → Bool} {o : Nat} (hc : o ≠ Ob.cause_causeCounts) (ho : w o = true) : MayWrite w o := ⟨hc, by simp [ho]⟩

theorem isEndObj_iff {o : Nat} : isEndObj o = true ↔ isRecObj o = true ∨ (0x3010 ≤ o / 256 ∧ o / 256 < 0x3060) ∨ o / 256 = 0x5000 ∨
    (0x5100 ≤ o / 256 ∧ o / 256 < 0x5108) ∨ o / 256 = 0x6000 ∨ (0xA400 ≤ o / 256 ∧ o / 256 < 0xA800) := by
  simp only [isEndObj, Bool.or_eq_true, decide_eq_true_eq, beq_iff_eq, or_assoc]

/-- The objects of tables, sequencer, escrow, tallies, Clearing and tags are none that records write. -/
theorem isRecObj_of_index {o : Nat} (h : 0x4000 ≤ o / 256 ∧ o / 256 < 0x8000) : isRecObj o = false := by
  simp only [isRecObj, isEcnt, Bool.or_eq_false_iff, decide_eq_false_iff_not, beq_eq_false_iff_ne]
  omega

theorem isEndObj_of_index {o : Nat} (h : 0x4000 ≤ o / 256 ∧ o / 256 < 0x5000 ∨ 0x7000 ≤ o / 256 ∧ o / 256 < 0x8000) : isEndObj o = false := by
  rw [← Bool.not_eq_true, isEndObj_iff, isRecObj_of_index (by omega)]
  simp only [Bool.false_eq_true, false_or]
  omega

theorem mayWrite_link {w : Nat → Bool} {p k : Nat} (hp : p < 68) (hk : k < 256) : MayWrite w (0x301000 + k + p * 256) :=
  mayWrite_end (by unfold Ob.cause_causeCounts; omega) (isEndObj_iff.mpr (.inr (by omega)))

/-- The object of a host channel of a unit (11 R312). -/
theorem mayWrite_hostStatus {w : Nat → Bool} {k : Nat} (hk : k < 8) : MayWrite w (Ob.hch_hostStatus k) :=
  mayWrite_end (by unfold Ob.hch_hostStatus Ob.cause_causeCounts; omega) (isEndObj_iff.mpr (.inr (by unfold Ob.hch_hostStatus; omega)))

theorem mayWrite_agentValues {w : Nat → Bool} {r : Nat} (hr : r < 1024) : MayWrite w (Ob.agc_agentValues r) :=
  mayWrite_end (by unfold Ob.agc_agentValues Ob.cause_causeCounts; omega) (isEndObj_iff.mpr (.inr (by unfold Ob.agc_agentValues; omega)))

theorem mayWrite_tag {c k : Nat} (hc : c < 64) (hk : k < 256) : MayWrite (isTagObj c) (0x704000 + k + c * 256) := by
  refine mayWrite_own (by unfold Ob.cause_causeCounts; omega) ?_
  rw [isTagObj, beq_iff_eq]
  omega

theorem mayWrite_step {c k base : Nat} (hc : c < 64) (hk : k < 256) (hb : base = 0x4040 ∨ base = 0x4840 ∨ base = 0x7040) :
    MayWrite (isStepObj c) (base * 256 + k + c * 256) := by
  refine mayWrite_own (by unfold Ob.cause_causeCounts; omega) ?_
  have index : (base * 256 + k + c * 256) / 256 = base + c := by omega
  rcases hb with rfl | rfl | rfl <;> simp [isStepObj, index]

theorem unitRegion_lt (u : Nat) : unitRegion u < 1024 := Nat.mod_lt _ (by decide)

theorem unitCore_lt (u : Nat) : unitCore u < 2 ^ 20 := Nat.mod_lt _ (by decide)

/-- A host waiter's unit names one of the 8 channels (11 R312). -/
theorem hostChannel_lt {u : Nat} : unitCore u - hostCore < 8 := by
  have := unitCore_lt u
  unfold hostCore
  omega

namespace Node.ActsOn

variable {d : Nat} {w : Nat → Bool} {ks : List Nat} {n m : Node}

section
variable (h : n.ActsOn d w ks m)
include h

theorem enqueue {p : Nat} {q : QMsg} (hp : p < 68) : n.ActsOn d w ks (m.enqueue p q) :=
  have dropped : n.ActsOn d w ks (m.bump (Ob.link_spanMessagesDropped p)) := h.bump (mayWrite_link (k := 0x0A) hp (by decide))
  dropped.ite (dropped.ite h.modLink)

theorem sendAll {ps : List Nat} {x : Msg} (hp : ∀ p ∈ ps, p < 68) : n.ActsOn d w ks (m.sendAll ps x) := h.overAll fun hx h => h.enqueue (hp _ hx)

theorem sendTag {c step tag : Nat} : n.ActsOn d w ks (m.sendTag c step tag) := h.sendAll fun p hp => by
  have : p = 0 ∨ p = 1 := by simpa using (List.mem_filter.mp hp).1
  omega

theorem agEvents {r code x : Nat} (hr : r < 1024) : n.ActsOn d w ks (m.agEvents r code x) :=
  h.overAll fun _ h => (h.wrBits (mayWrite_agentValues hr)).ite h

theorem present {r core status tick : Nat} (hr : r < 1024) : n.ActsOn d w ks (m.present r core status tick) := h.modAgent.thenIf fun h => h.agEvents hr

theorem endWait {x : SWait} {core host : Nat} : n.ActsOn d w ks (m.endWait x core host) :=
  ite (h.modTally.wr (mayWrite_hostStatus hostChannel_lt)) (h.modTally.present (unitRegion_lt _))

theorem settleDeferred {c oc : Nat} : n.ActsOn d w ks (m.settleDeferred c oc) := h.same (by rfl)

theorem clearTallies {c : Nat} : n.ActsOn d w ks (m.clearTallies c) := by
  unfold Node.clearTallies
  exact (h.overAll fun _ h => h.endWait).modTally.addTo (mayWrite_end (by decide) (by decide))

theorem dropIssues {f : Issue → Bool} : n.ActsOn d w ks (m.dropIssues f) := h.modClr

theorem fault53 {c x y st blocks : Nat} (h53 : 0x53 ∈ ks) : n.ActsOn d w ks (m.fault53 c x y st blocks) :=
  fault (h.bump (mayWrite_end (by decide) (by decide))) h53

theorem discardAccs {c : Nat} (h53 : 0x53 ∈ ks) : n.ActsOn d w ks (m.discardAccs c) := h.overAll fun _ h => h.modClr.fault53 h53

end
end Node.ActsOn

section
variable {n m : Node} {c : Nat} {ks : List Nat}

theorem Node.ActsOn.abortTag (h : n.ActsOn c (isTagObj c) ks m) (hc : c < 64) : n.ActsOn c (isTagObj c) ks (m.abortTag c) := by
  unfold Node.abortTag
  dsimp only
  generalize chosen : (if m.fired c && !(m.ctxOf c).tagDue then m else m.sendTag c (m.ctxOf c).step 0) = k
  have sent : n.ActsOn c (isTagObj c) ks k := chosen ▸ h.ite h.sendTag
  have free : n.ActsOn c (isTagObj c) ks k.takeFree.2 := sent.same (by rfl)
  refine modCtx (modMint (wrBits (free.wr ?_) ?_))
  · exact mayWrite_tag (k := 0) hc (by decide)
  · exact mayWrite_tag (k := 1) hc (by decide)

theorem Node.ActsOn.openSettle {w : Nat → Bool} (h : n.ActsOn c w ks m) : n.ActsOn c w ks (m.openSettle c) :=
  modCtx (h.wrBits (mayWrite_end (by decide) (by decide)))

end

/-- What the end of a step settles and discards before the context returns to IDLE (09 R254). -/
def Node.settleStep (n : Node) (c oc : Nat) : Node :=
  let x := n.ctxOf c
  let n1 := ((n.settleDeferred c oc).clearTallies c).discardAccs c
  if oc == 5 then (n1.dropIssues (fun i => i.ctx == c && i.step == x.step)).abortTag c else n1.openSettle c

/-- A step that never fired moves the next step number past itself (09 R249). -/
def Node.settled (n : Node) (c oc : Nat) : Node :=
  if n.fired c then n.settleStep c oc else (n.settleStep c oc).wr (Ob.seq_nextStepNumber c) (((n.ctxOf c).step + 1) % 2 ^ 48)

theorem Node.endStep_eq (n : Node) (c oc cause : Nat) : n.endStep c oc cause = ((n.settled c oc).toIdle c).postOutcome c oc cause := rfl

theorem Node.settleStep_actsOn (n : Node) {c : Nat} (oc : Nat) (hc : c < 64) : n.ActsOn c (isTagObj c) [0x53] (n.settleStep c oc) := by
  have discarded : n.ActsOn c (isTagObj c) [0x53] (((n.settleDeferred c oc).clearTallies c).discardAccs c) :=
    (ActsOn.refl ..).settleDeferred.clearTallies.discardAccs (by decide)
  exact (discarded.dropIssues.abortTag hc).ite discarded.openSettle

theorem Node.settled_actsOn (n : Node) {c : Nat} (oc : Nat) (hc : c < 64) : n.ActsOn c (isStepObj c) [0x53] (n.settled c oc) := by
  have settles := (n.settleStep_actsOn oc hc).mono (w' := isStepObj c) (fun o ho => by simp_all [isTagObj, isStepObj]) (List.Subset.refl _)
  exact settles.ite (settles.wr (mayWrite_step (k := 1) hc (by decide) (.inl rfl)))

/-- The outcome, next step number and counters of the sequencer are none that a step's discards write. -/
theorem Node.rd_settleStep (n : Node) {c k : Nat} (oc : Nat) (hc : c < 64) (hk : k < 256) :
    (n.settleStep c oc).rd (0x404000 + k + c * 256) = n.rd (0x404000 + k + c * 256) := by
  have index : (0x404000 + k + c * 256) / 256 = 0x4040 + c := by omega
  refine (n.settleStep_actsOn oc hc).rd _ (isEndObj_of_index (by omega)) ?_
  rw [isTagObj, index, beq_eq_false_iff_ne]
  omega

@[simp] theorem Node.ctxOf_dropIssues (n : Node) (f : Issue → Bool) (c : Nat) : (n.dropIssues f).ctxOf c = n.ctxOf c := rfl

theorem Node.ctxOf_sendTag (n : Node) (c step tag d : Nat) : (n.sendTag c step tag).ctxOf d = n.ctxOf d :=
  (ActsOn.refl (d + 1) (fun _ => false) [] n).sendTag.ctx d (by omega)

theorem Node.step_abortTag (n : Node) (c : Nat) : ((n.abortTag c).ctxOf c).step = (n.ctxOf c).step := by
  have sent : (if n.fired c && !(n.ctxOf c).tagDue then n else n.sendTag c (n.ctxOf c).step 0).ctxOf c = n.ctxOf c := by
    split
    · rfl
    · exact n.ctxOf_sendTag ..
  unfold Node.abortTag
  dsimp only
  generalize (if n.fired c && !(n.ctxOf c).tagDue then n else n.sendTag c (n.ctxOf c).step 0) = k at sent ⊢
  rw [Node.modCtx_ctxOf_same, ← sent]
  rfl

/-- A step's end keeps the number of the step that its context names. -/
theorem Node.step_settleStep (n : Node) (c oc : Nat) : ((n.settleStep c oc).ctxOf c).step = (n.ctxOf c).step := by
  have discarded : (((n.settleDeferred c oc).clearTallies c).discardAccs c).ctxOf c = n.ctxOf c :=
    ((ActsOn.refl (c + 1) (fun _ => false) [0x53] n).settleDeferred.clearTallies.discardAccs (by decide)).ctx c (by omega)
  unfold Node.settleStep
  dsimp only
  split
  · rw [Node.step_abortTag, Node.ctxOf_dropIssues, discarded]
  · rw [Node.openSettle, Node.modCtx_ctxOf_same, Node.wrBits, Node.wr_ctxOf, discarded]

end Sys2Proof.Machine

namespace Sys2Proof.Machine

/-! ### The outcome of a step -/

theorem fieldAt_outcomeBlob (step oc cause table fire fin : Nat) :
    fieldAt (outcomeBlob step oc cause table fire fin) 0 8 = step % 2 ^ 64 ∧
    fieldAt (outcomeBlob step oc cause table fire fin) 8 1 = oc % 256 := by
  simp only [fieldAt, outcomeBlob, putField]
  norm_num
  omega

theorem Node.not_hub_of_ctx {n : Node} {c : Nat} (hc : c < n.ctxCount) : n.kind ≠ .hub := by
  intro hub
  simp [Node.ctxCount, hub] at hc

theorem Node.isHub_of_ctx {n : Node} {c : Nat} (hc : c < n.ctxCount) : n.isHub = false := by
  simpa [Node.isHub] using Node.not_hub_of_ctx hc

theorem Node.ctx_lt {n : Node} {c : Nat} (hc : c < n.ctxCount) : c < 64 := by
  unfold Node.ctxCount at hc
  split at hc <;> omega

/-- The counters of the sequencer and the counter of unconfirmed steps have 64 bits in each context of the configuration (09 R260, 10 R280). -/
theorem widthOf_stepCounters {n : Node} {c : Nat} (hc : c < n.ctxCount) :
    ∀ k ∈ [7, 8, 9, 10, 11, 12], widthOf n.kind (0x404000 + k + c * 256) = 64 := by
  have full : ∀ d < 64, ∀ k ∈ [7, 8, 9, 10, 11, 12], widthOf .full (0x404000 + k + d * 256) = 64 := by decide +kernel
  have edge : ∀ d < 8, ∀ k ∈ [7, 8, 9, 10, 11, 12], widthOf .edge (0x404000 + k + d * 256) = 64 := by decide +kernel
  unfold Node.ctxCount at hc
  match hk : n.kind with
  | .full => exact full c (by simpa [hk] using hc)
  | .edge => exact edge c (by simpa [hk] using hc)
  | .hub => simp [hk] at hc

theorem outcomeCounter_eq (c oc : Nat) : ∃ k ∈ [8, 9, 10, 11], outcomeCounter c oc = 0x404000 + k + c * 256 := by
  unfold outcomeCounter
  split_ifs
  · exact ⟨8, by decide, rfl⟩
  · exact ⟨9, by decide, rfl⟩
  · exact ⟨11, by decide, rfl⟩
  · exact ⟨10, by decide, rfl⟩

theorem outcomeCounter_bounds (c oc : Nat) : 0x404008 + c * 256 ≤ outcomeCounter c oc ∧ outcomeCounter c oc < 0x40400C + c * 256 := by
  obtain ⟨k, hk, counter⟩ := outcomeCounter_eq c oc
  simp only [List.mem_cons, List.not_mem_nil, or_false] at hk
  omega

section
variable (n : Node) {c : Nat} (oc cause : Nat)

theorem Node.rd_postOutcome {o : Nat} (hr : isRecObj o = false) (hl : Ob.seq_lastOutcome c ≠ o) (hk : outcomeCounter c oc ≠ o) :
    (n.postOutcome c oc cause).rd o = n.rd o := by
  rw [Node.postOutcome, Node.rd_irqEvent _ _ hr, Node.rd_bump_ne _ (isEcnt_of_not_rec hr) hk, Node.rd_wr_ne _ _ hl]

theorem Node.rd_lastOutcome_postOutcome (hc : c < 64) : (n.postOutcome c oc cause).rd (Ob.seq_lastOutcome c) =
    outcomeBlob (n.ctxOf c).step oc cause (n.ctxOf c).table (n.ctxOf c).fire n.tb1 := by
  have bounds := outcomeCounter_bounds c oc
  have record : isRecObj (Ob.seq_lastOutcome c) = false := isRecObj_of_index (by unfold Ob.seq_lastOutcome; omega)
  rw [Node.postOutcome, Node.rd_irqEvent _ _ record, Node.rd_bump_ne _ (isEcnt_of_not_rec record) (by unfold Ob.seq_lastOutcome; omega),
    Node.rd_wr_same]

theorem Node.rd_counter_postOutcome (hc : c < n.ctxCount) : (n.postOutcome c oc cause).rd (outcomeCounter c oc) =
    (n.rd (outcomeCounter c oc) + 1) % 2 ^ 64 := by
  have small := Node.ctx_lt hc
  have bounds := outcomeCounter_bounds c oc
  have record : isRecObj (outcomeCounter c oc) = false := isRecObj_of_index (by omega)
  have width : widthOf n.kind (outcomeCounter c oc) = 64 := by
    obtain ⟨k, hk, counter⟩ := outcomeCounter_eq c oc
    rw [counter]
    exact widthOf_stepCounters hc k (List.mem_cons_of_mem _ (List.mem_append_left [12] hk))
  rw [Node.postOutcome, Node.rd_irqEvent _ _ record, Node.rd_bump_same _ _ (isEcnt_of_not_rec record),
    Node.rd_wr_ne _ _ (by unfold Ob.seq_lastOutcome; omega), Node.wr_kind, width]

/-- The end of a step is its context's interrupt source (09 R254). -/
theorem Node.bit_postOutcome (hc : c < n.ctxCount) : bit ((n.postOutcome c oc cause).rd Ob.irq_pending) c = true := by
  have small := Node.ctx_lt hc
  have event : isCondition c = false := by
    rw [isCondition, Bool.or_eq_false_iff]
    constructor <;> rw [Bool.and_eq_false_iff] <;> exact .inl (by rw [← Bool.not_eq_true, Nat.ble_eq]; omega)
  have hub : (((n.wr (Ob.seq_lastOutcome c) (outcomeBlob (n.ctxOf c).step oc cause (n.ctxOf c).table (n.ctxOf c).fire n.tb1)).bump
      (outcomeCounter c oc)).isHub) = false := by
    rw [Node.isHub, (Node.bump_frame ..).kind, Node.wr_kind]
    exact Node.isHub_of_ctx hc
  rw [Node.postOutcome, Node.bit_pending_irqEvent hub (by omega) event, beq_self_eq_true, Bool.true_or]

theorem Node.rd_toIdle {o : Nat} (he : Ob.ctx_escrowState c ≠ o) (hw : Ob.seq_walkState c ≠ o) : (n.toIdle c).rd o = n.rd o := by
  rw [Node.toIdle, Node.modCtx_rd, Node.rd_wr_ne _ _ hw, Node.rd_wr_ne _ _ he]

theorem Node.endStep_idle (hc : c < 64) : (n.endStep c oc cause).escrow c = 0 ∧ (n.endStep c oc cause).walk c = 0 := by
  have bounds := outcomeCounter_bounds c oc
  rw [Node.endStep_eq, Node.escrow, Node.walk,
    Node.rd_postOutcome _ _ _ (o := Ob.ctx_escrowState c) (isRecObj_of_index (by unfold Ob.ctx_escrowState; omega))
      (by unfold Ob.seq_lastOutcome Ob.ctx_escrowState; omega) (by unfold Ob.ctx_escrowState; omega),
    Node.rd_postOutcome _ _ _ (o := Ob.seq_walkState c) (isRecObj_of_index (by unfold Ob.seq_walkState; omega))
      (by unfold Ob.seq_lastOutcome Ob.seq_walkState; omega) (by unfold Ob.seq_walkState; omega),
    Node.toIdle, Node.modCtx_rd, Node.modCtx_rd, Node.rd_wr_same, Node.rd_wr_ne _ _ (by unfold Ob.ctx_escrowState Ob.seq_walkState; omega),
    Node.rd_wr_same]
  exact ⟨rfl, rfl⟩

theorem Node.step_toIdle_settled : (((n.settled c oc).toIdle c).ctxOf c).step = (n.ctxOf c).step := by
  rw [Node.toIdle, Node.modCtx_ctxOf_same, Node.wr_ctxOf, Node.wr_ctxOf]
  refine Eq.trans ?_ (n.step_settleStep c oc)
  unfold Node.settled
  split <;> rfl

theorem Node.endStep_outcome (hc : c < 64) : fieldAt ((n.endStep c oc cause).rd (Ob.seq_lastOutcome c)) 0 8 = (n.ctxOf c).step % 2 ^ 64 ∧
    fieldAt ((n.endStep c oc cause).rd (Ob.seq_lastOutcome c)) 8 1 = oc % 256 := by
  rw [Node.endStep_eq, Node.rd_lastOutcome_postOutcome _ _ _ hc, Node.step_toIdle_settled]
  exact fieldAt_outcomeBlob ..

/-- The outcomes, counters and next step number of the sequencer, as a step's discards and its return to IDLE leave them. -/
theorem Node.rd_settled {k : Nat} (hc : c < 64) (h0 : 2 ≤ k) (hk : k < 256) :
    ((n.settled c oc).toIdle c).rd (0x404000 + k + c * 256) = n.rd (0x404000 + k + c * 256) := by
  rw [Node.rd_toIdle _ (by unfold Ob.ctx_escrowState; omega) (by unfold Ob.seq_walkState; omega), Node.settled]
  split
  · exact n.rd_settleStep oc hc hk
  · rw [Node.rd_wr_ne _ _ (by unfold Ob.seq_nextStepNumber; omega), n.rd_settleStep oc hc hk]

theorem Node.endStep_nextStep (hc : c < 64) : (n.endStep c oc cause).rd (Ob.seq_nextStepNumber c) =
    if n.fired c then n.rd (Ob.seq_nextStepNumber c) else ((n.ctxOf c).step + 1) % 2 ^ 48 := by
  have bounds := outcomeCounter_bounds c oc
  rw [Node.endStep_eq, Node.rd_postOutcome _ _ _ (isRecObj_of_index (by unfold Ob.seq_nextStepNumber; omega))
      (by unfold Ob.seq_lastOutcome Ob.seq_nextStepNumber; omega) (by unfold Ob.seq_nextStepNumber; omega),
    Node.rd_toIdle _ (by unfold Ob.ctx_escrowState Ob.seq_nextStepNumber; omega) (by unfold Ob.seq_walkState Ob.seq_nextStepNumber; omega), Node.settled]
  split
  · exact n.rd_settleStep (k := 1) oc hc (by decide)
  · rw [Node.rd_wr_same]

theorem Node.ctxCount_congr {n m : Node} (h : m.kind = n.kind) : m.ctxCount = n.ctxCount := by rw [Node.ctxCount, h, Node.ctxCount]

theorem Node.endStep_actsOn (hc : c < 64) : n.ActsOn c (isStepObj c) [0x53] (n.endStep c oc cause) := by
  have bounds := outcomeCounter_bounds c oc
  have counter : MayWrite (isStepObj c) (outcomeCounter c oc) := by
    obtain ⟨k, hk, counter⟩ := outcomeCounter_eq c oc
    rw [counter]
    simp only [List.mem_cons, List.not_mem_nil, or_false] at hk
    exact mayWrite_step (base := 0x4040) hc (by omega) (.inl rfl)
  rw [Node.endStep_eq, Node.postOutcome, Node.toIdle]
  refine (ActsOn.bump (ActsOn.wr (ActsOn.modCtx (ActsOn.wr (ActsOn.wr (n.settled_actsOn oc hc) ?_) ?_)) ?_) counter).irqEvent
  · exact mayWrite_step (k := 0) hc (by decide) (.inr (.inl rfl))
  · exact mayWrite_step (k := 0) hc (by decide) (.inl rfl)
  · exact mayWrite_step (k := 3) hc (by decide) (.inl rfl)

/-- A step that fired ends with an outcome (09 R254). -/
theorem Node.stepEnded_endStep (hc : c < n.ctxCount) (fired : n.fired c = true) (small : oc < 256) : StepEnded n (n.endStep c oc cause) c oc := by
  have c64 := Node.ctx_lt hc
  obtain ⟨escrow, walk⟩ := n.endStep_idle oc cause c64
  obtain ⟨number, outcome⟩ := n.endStep_outcome oc cause c64
  have count : c < ((n.settled c oc).toIdle c).ctxCount := by
    have kind : ((n.settled c oc).toIdle c).kind = n.kind := (n.settled_actsOn oc c64).kind
    rwa [Node.ctxCount_congr kind]
  refine ⟨escrow, walk, number, outcome.trans (Nat.mod_eq_of_lt small), ?_, Node.bit_postOutcome _ oc cause count, ?_⟩
  · rw [Node.endStep_eq, Node.rd_counter_postOutcome _ _ _ count]
    obtain ⟨k, hk, counter⟩ := outcomeCounter_eq c oc
    simp only [List.mem_cons, List.not_mem_nil, or_false] at hk
    rw [counter, Node.rd_settled _ _ c64 (by omega) (by omega)]
  · rw [Node.endStep_nextStep _ _ _ c64, fired, if_pos rfl]

end
end Sys2Proof.Machine

namespace Sys2Proof.Machine

/-! ### Waves, aborts and strikes -/

theorem Node.ActsOn.queueWave {d : Nat} {w : Nat → Bool} {ks : List Nat} {n m : Node} (h : n.ActsOn d w ks m) {p inPort ready slot : Nat}
    (hp : p < 68) (h14 : 0x14 ∈ ks) : n.ActsOn d w ks (m.queueWave p inPort ready slot) := by
  have counts : MayWrite w (Ob.link_faultSlotDrops p) := mayWrite_link (k := 0x0E) hp (by decide)
  unfold Node.queueWave
  dsimp only
  refine (h.bump counts).ite ?_
  split
  · exact h.modLink
  · split
    · exact h.modLink
    · exact (h.modLink.bump counts).fault h14

/-- The wave of a context as its TSU raises it, before the step is aborted (14 R386). -/
def Node.sendWave (n : Node) (c cause : Nat) : Node :=
  if (n.ctxOf c).waveSent then n
  else
    let slot := slotOf cause n.span n.epoch n.ident c
    let n1 := (n.modCtx c (fun x => { x with waveSent := true })).bump Ob.flt_wavesOriginated
    if n.member then overAll [0, 1] (fun n p => n.queueWave p 127 n.tb1 slot) n1 else n1

theorem Node.raiseWave_eq (n : Node) (c cause : Nat) : n.raiseWave c cause = (n.sendWave c cause).abortStep c cause := rfl

theorem Node.queueWaves_actsOn (n : Node) (d slot : Nat) (w : Nat → Bool) :
    n.ActsOn d w [0x14] (overAll [0, 1] (fun n p => n.queueWave p 127 n.tb1 slot) n) :=
  (ActsOn.refl ..).overAll fun hx h => h.queueWave (by simp at hx; omega) (by decide)

theorem Node.sendWave_actsOn (n : Node) (c cause : Nat) (w : Nat → Bool) : n.ActsOn c w [0x14] (n.sendWave c cause) := by
  have counted := (ActsOn.refl c w [0x14] n).modCtx (f := fun x => { x with waveSent := true }) |>.bump (o := Ob.flt_wavesOriginated)
    (mayWrite_end (by decide) (by decide))
  exact (ActsOn.refl ..).ite (counted.thenIf fun h => h.trans (Node.queueWaves_actsOn ..))

theorem Node.ctxOf_addTo (n : Node) (o k c : Nat) : (n.addTo o k).ctxOf c = n.ctxOf c := (recOnly.of_objs (n.addTo_frame o k)).ctxOf c

@[simp] theorem Node.ctxOf_bump (n : Node) (o c : Nat) : (n.bump o).ctxOf c = n.ctxOf c := n.ctxOf_addTo o 1 c

@[simp] theorem Node.ctxOf_fault (n : Node) (r : FRec) (c : Nat) : (n.fault r).ctxOf c = n.ctxOf c := (n.fault_frame r).ctxOf c

theorem Node.ctxOf_sendWave (n : Node) (c cause : Nat) : (n.sendWave c cause).ctxOf c = { n.ctxOf c with waveSent := true } := by
  unfold Node.sendWave
  split
  · rename_i sent
    rw [← sent]
  · dsimp only
    split
    · rw [(Node.queueWaves_actsOn _ (c + 1) _ (fun _ => false)).ctx c (by omega), Node.ctxOf_bump, Node.modCtx_ctxOf_same]
    · rw [Node.ctxOf_bump, Node.modCtx_ctxOf_same]

section
variable (n : Node) {c : Nat} (cause : Nat)

theorem Node.placeAbort_actsOn (w : Nat → Bool) (ks : List Nat) : n.ActsOn c w ks (n.placeAbort c) :=
  (ActsOn.refl ..).ite ((ActsOn.refl ..).same (by rfl))

theorem Node.stopWalk_actsOn (hc : c < 64) (ks : List Nat) : n.ActsOn c (isStepObj c) ks (n.stopWalk c) :=
  ActsOn.modCtx ((ActsOn.refl ..).thenIf fun h => h.wr (mayWrite_step (k := 0) hc (by decide) (.inl rfl)))

theorem Node.abortStep_actsOn (hc : c < 64) (ks : List Nat) : n.ActsOn c (isStepObj c) ks (n.abortStep c cause) :=
  (ActsOn.refl ..).thenIf fun _ => ((n.placeAbort_actsOn _ ks).trans (Node.stopWalk_actsOn _ hc ks)).modCtx

theorem Node.raiseWave_actsOn (hc : c < 64) : n.ActsOn c (isStepObj c) [0x14] (n.raiseWave c cause) :=
  (n.sendWave_actsOn c cause _).trans (Node.abortStep_actsOn _ cause hc _)

theorem Node.waveStep_actsOn (hc : c < 64) : n.ActsOn c (isStepObj c) [0x14, 0x53] (n.waveStep c cause) :=
  have raised := (n.raiseWave_actsOn cause hc).mono (ks' := [0x14, 0x53]) (fun _ h => h) (by decide)
  raised.thenIf fun h => h.trans ((Node.endStep_actsOn _ 5 cause hc).mono (fun _ h => h) (by decide))

theorem Node.strikeStep_actsOn (obj detail : Nat) (hc : c < 64) : n.ActsOn c (isStepObj c) [cause, 0x14, 0x53] (n.strikeStep c cause obj detail) :=
  have told : n.ActsOn c (isStepObj c) [cause, 0x14, 0x53] (n.ctxFault cause c obj detail) := (ActsOn.refl ..).fault List.mem_cons_self
  have waved := told.trans ((Node.waveStep_actsOn _ cause hc).mono (fun _ h => h) (by simp))
  waved.thenIf fun h => h.trans (Node.placeAbort_actsOn ..)

end
end Sys2Proof.Machine

namespace Sys2Proof.Machine

/-! ### The strike of a fired step -/

theorem Node.queueWave_clr (n : Node) (p inPort ready slot : Nat) : (n.queueWave p inPort ready slot).clr = n.clr := by
  have bump (m : Node) (o : Nat) : (m.bump o).clr = m.clr := (recOnly.of_objs (m.bump_frame o)).clr
  unfold Node.queueWave
  dsimp only
  split
  · exact bump ..
  · split
    · rfl
    · split
      · rfl
      · exact ((Node.fault_frame ..).clr).trans (bump ..)

theorem Node.clr_sendWave (n : Node) (c cause : Nat) : (n.sendWave c cause).clr = n.clr := by
  have bump (m : Node) (o : Nat) : (m.bump o).clr = m.clr := (recOnly.of_objs (m.bump_frame o)).clr
  unfold Node.sendWave
  split
  · rfl
  · dsimp only
    split
    · exact (overAll_keeps (P := fun m => m.clr = _) _ _ (fun m p _ h => (m.queueWave_clr ..).trans h) (bump ..))
    · exact bump ..

theorem Node.bus_stopWalk (n : Node) (c : Nat) : (n.stopWalk c).bus = n.bus := by
  unfold Node.stopWalk
  split <;> rfl

/-- The abort action of a context is placed, or has been (07 R181). -/
theorem Node.placeAbort_placed (n : Node) (c : Nat) :
    ((n.placeAbort c).ctxOf c).abortAt.isSome = true ∨ (n.placeAbort c).bus.aborts.any (fun a => a.1 == c) = true := by
  unfold Node.placeAbort
  split
  · rename_i placed
    rwa [Bool.or_eq_true] at placed
  · exact .inr (by simp)

theorem Node.ctxOf_placeAbort (n : Node) (c d : Nat) : (n.placeAbort c).ctxOf d = n.ctxOf d := by
  unfold Node.placeAbort
  split <;> rfl

@[simp] theorem Node.rd_placeAbort (n : Node) (c o : Nat) : (n.placeAbort c).rd o = n.rd o := by
  unfold Node.placeAbort
  split <;> rfl

theorem Node.ctxOf_stopWalk (n : Node) (c : Nat) : (n.stopWalk c).ctxOf c = { n.ctxOf c with waitE := none } := by
  unfold Node.stopWalk
  split <;> simp

/-- A walk that runs or holds stops; another state stays. -/
theorem Node.walk_stopWalk (n : Node) (c : Nat) : (n.stopWalk c).walk c = if n.walk c = 1 ∨ n.walk c = 2 then 3 else n.walk c := by
  unfold Node.stopWalk
  split
  · rename_i running
    rw [Node.walk, Node.modCtx_rd, Node.rd_wr_same, if_pos (by simpa using running)]
  · rename_i still
    rw [if_neg (by simpa using still)]
    rfl

section
variable {n : Node} {c : Nat} (cause : Nat)

theorem Node.abortStep_fired (fired : n.fired c = true) : n.abortStep c cause =
    ((n.placeAbort c).stopWalk c).modCtx c (fun x => { x with cause := if x.cause == 0 then cause else x.cause }) := by
  rw [Node.abortStep, fired, if_pos rfl]

theorem Node.fired_sendWave (hc : c < 64) : (n.sendWave c cause).fired c = n.fired c := by
  unfold Node.fired Node.escrow
  rw [(n.sendWave_actsOn c cause (fun _ => false)).rd _ (isEndObj_of_index (by unfold Ob.ctx_escrowState; omega)) rfl]

theorem Node.walk_sendWave (hc : c < 64) : (n.sendWave c cause).walk c = n.walk c :=
  (n.sendWave_actsOn c cause (fun _ => false)).rd _ (isEndObj_of_index (by unfold Ob.seq_walkState; omega)) rfl

variable (hc : c < 64) (fired : n.fired c = true)
include hc fired

/-- What a wave leaves of the context of a fired step: the wave is out, the walk waits no more, and the first cause stays (09 R256, 14 R386). -/
theorem Node.ctxOf_raiseWave : (n.raiseWave c cause).ctxOf c =
    { n.ctxOf c with waveSent := true, waitE := none, cause := if (n.ctxOf c).cause == 0 then cause else (n.ctxOf c).cause } := by
  rw [Node.raiseWave_eq, Node.abortStep_fired _ ((Node.fired_sendWave cause hc).trans fired), Node.modCtx_ctxOf_same, Node.ctxOf_stopWalk,
    Node.ctxOf_placeAbort, Node.ctxOf_sendWave]

theorem Node.walk_raiseWave : (n.raiseWave c cause).walk c = if n.walk c = 1 ∨ n.walk c = 2 then 3 else n.walk c := by
  rw [Node.raiseWave_eq, Node.abortStep_fired _ ((Node.fired_sendWave cause hc).trans fired)]
  have placed : ((n.sendWave c cause).placeAbort c).walk c = n.walk c := (Node.rd_placeAbort ..).trans (Node.walk_sendWave cause hc)
  rw [Node.walk, Node.modCtx_rd, ← Node.walk, Node.walk_stopWalk, placed]

theorem Node.clr_raiseWave : (n.raiseWave c cause).clr = n.clr := by
  rw [Node.raiseWave_eq, Node.abortStep_fired _ ((Node.fired_sendWave cause hc).trans fired)]
  have place (m : Node) : (m.placeAbort c).clr = m.clr := by unfold Node.placeAbort; split <;> rfl
  have stop (m : Node) : (m.stopWalk c).clr = m.clr := by unfold Node.stopWalk; split <;> rfl
  exact (stop _).trans ((place _).trans (n.clr_sendWave c cause))

theorem Node.stepStruck_raiseWave (hw : n.walk c = 1 ∨ n.walk c = 2 ∨ n.walk c = 3) (h0 : cause ≠ 0) : StepStruck (n.raiseWave c cause) c := by
  have ctx := Node.ctxOf_raiseWave cause hc fired
  refine ⟨?_, by rw [ctx], ?_, ?_⟩
  · rw [Node.walk_raiseWave cause hc fired]
    split <;> omega
  · rw [ctx]
    by_cases first : (n.ctxOf c).cause = 0
    · simpa [first] using h0
    · simp [first]
  · have placed := (n.sendWave c cause).placeAbort_placed c
    rw [Node.raiseWave_eq, Node.abortStep_fired _ ((Node.fired_sendWave cause hc).trans fired), Node.modCtx_ctxOf_same, Node.ctxOf_stopWalk]
    have bus : ((((n.sendWave c cause).placeAbort c).stopWalk c).modCtx c
        (fun x => { x with cause := if x.cause == 0 then cause else x.cause })).bus = ((n.sendWave c cause).placeAbort c).bus := Node.bus_stopWalk ..
    rw [bus]
    exact placed

end

/-- A record leaves the escrow state and the walk of a context. -/
theorem Node.fired_fault (n : Node) {c : Nat} (r : FRec) (hc : c < 64) : (n.fault r).fired c = n.fired c := by
  unfold Node.fired Node.escrow
  rw [n.rd_fault r (isRecObj_of_index (by unfold Ob.ctx_escrowState; omega))]

theorem Node.walk_fault (n : Node) {c : Nat} (r : FRec) (hc : c < 64) : (n.fault r).walk c = n.walk c :=
  n.rd_fault r (isRecObj_of_index (by unfold Ob.seq_walkState; omega))

/-- A fault strikes a fired step: its record stands, the step is struck, and of the context the walk's place stays (09 R256). -/
structure Node.Struck (n : Node) (c cause : Nat) (m : Node) : Prop where
  recorded : n.recorded m cause
  struck : StepStruck m c
  ctx : m.ctxOf c = { n.ctxOf c with waveSent := true, waitE := none, cause := if (n.ctxOf c).cause == 0 then cause else (n.ctxOf c).cause }
  clr : m.clr = n.clr

section
variable {n : Node} {c : Nat} (hc : c < 64) (fired : n.fired c = true)
include hc fired

theorem Node.struck_fault (r : FRec) (hw : n.walk c = 1 ∨ n.walk c = 2 ∨ n.walk c = 3) (h0 : r.cause ≠ 0) (h14 : r.cause ≠ 0x14) :
    n.Struck c r.cause ((n.fault r).raiseWave c r.cause) := by
  have still : (n.fault r).fired c = true := (n.fired_fault r hc).trans fired
  have walk : (n.fault r).walk c = 1 ∨ (n.fault r).walk c = 2 ∨ (n.fault r).walk c = 3 := by rwa [n.walk_fault r hc]
  refine ⟨?_, Node.stepStruck_raiseWave _ hc still walk h0, ?_, ?_⟩
  · exact (n.recorded_fault r).trans_count ((Node.raiseWave_actsOn _ _ hc).count _ (by simpa using h14))
  · rw [Node.ctxOf_raiseWave _ hc still, Node.ctxOf_fault]
  · rw [Node.clr_raiseWave _ hc still, (n.fault_frame r).clr]

theorem Node.struck_deadlineFault {cause : Nat} (obj detail : Nat) (hw : n.walk c = 1 ∨ n.walk c = 2 ∨ n.walk c = 3) (h0 : cause ≠ 0)
    (h14 : cause ≠ 0x14) : n.Struck c cause (n.deadlineFault c cause obj detail) :=
  Node.struck_fault hc fired { cause := cause, span := n.span, ctx := c, obj := obj, detail := detail } hw h0 h14

omit hc in
theorem Node.waveStep_fired (cause : Nat) : n.waveStep c cause = n.raiseWave c cause := by
  have escrow : n.escrow c = 3 := by simpa [Node.fired] using fired
  simp [Node.waveStep, escrow]

/-- A fault that strikes a fired step is a deadline-class one. -/
theorem Node.strikeStep_fired (cause obj detail : Nat) : n.strikeStep c cause obj detail = n.deadlineFault c cause obj detail := by
  have escrow : n.escrow c = 3 := by simpa [Node.fired] using fired
  have told : (n.ctxFault cause c obj detail).fired c = true := (n.fired_fault _ hc).trans fired
  simp [Node.strikeStep, escrow, Node.waveStep_fired told, Node.deadlineFault]

end
end Sys2Proof.Machine

namespace Sys2Proof.Machine

/-! ### Table slots -/

theorem Node.tableSlots_le (n : Node) : n.tableSlots ≤ 16 := by
  unfold Node.tableSlots
  split <;> omega

/-- The objects that a change of a slot may write besides those of its operation: the key's state (13 R363). -/
theorem Node.changeSlot_cases (n : Node) (t : Nat) (f : Node → Node) : n.changeSlot t f = f n ∨ n.changeSlot t f = (f n).keyInput 6 := by
  unfold Node.changeSlot
  dsimp only
  split
  · exact .inl rfl
  · exact .inr rfl

theorem Node.rd_keyInput (n : Node) (b : Nat) {o : Nat} (h : Ob.det_keyState ≠ o) : (n.keyInput b).rd o = n.rd o := by
  rw [Node.keyInput, Node.modKey_rd, Node.rd_wr_ne _ _ h]

theorem Node.rd_changeSlot (n : Node) (t : Nat) (f : Node → Node) {o : Nat} (h : Ob.det_keyState ≠ o) : (n.changeSlot t f).rd o = (f n).rd o := by
  rcases n.changeSlot_cases t f with same | keyed
  · rw [same]
  · rw [keyed, Node.rd_keyInput _ _ h]

theorem Node.tslotOf_changeSlot (n : Node) (t : Nat) (f : Node → Node) (u : Nat) : (n.changeSlot t f).tslotOf u = (f n).tslotOf u := by
  rcases n.changeSlot_cases t f with same | keyed
  · rw [same]
  · rw [keyed]
    rfl

theorem Node.tslots_answer (n : Node) (st : Nat) : (n.answer st).tslots = n.tslots := by
  have := congrArg Node.tslots (n.answerData_frame st 0 0)
  exact this

@[simp] theorem Node.tslotOf_answer (n : Node) (st t : Nat) : (n.answer st).tslotOf t = n.tslotOf t := by
  unfold Node.tslotOf
  rw [Node.tslots_answer]

@[simp] theorem Node.tslotOf_fault (n : Node) (r : FRec) (t : Nat) : (n.fault r).tslotOf t = n.tslotOf t := by
  have := congrArg Node.tslots (n.fault_frame r)
  exact congrArg (tblGet {} · t) this

theorem Node.rd_answer_table (n : Node) (st : Nat) {o : Nat} (h : 0x4000 ≤ o / 256 ∧ o / 256 < 0x8000) : (n.answer st).rd o = n.rd o := by
  refine n.rd_answer st (isEcnt_of_not_rec (isRecObj_of_index h)) ?_
  rw [isAccObj, beq_eq_false_iff_ne]
  omega

/-- An input that no replay suppresses is taken (13 R377). -/
theorem Node.journaled_live {n : Node} (live : n.rd Ob.det_inputMode ≠ 1) (f : Node → Node) : n.journaled f = f n := by
  rw [Node.journaled, if_neg (by simpa using live)]

theorem Node.needsFn_enabled {n : Node} {fn : Nat} (enabled : n.fnEnabled fn = true) (f : Node → Node) : n.needsFn fn f = f n := by
  rw [Node.needsFn, enabled, if_pos rfl]

section
variable {n : Node} {t : Nat}

theorem tableCommit_free (live : n.rd Ob.det_inputMode ≠ 1) (enabled : n.fnEnabled 0 = true) (free : n.slotUse t = 0) :
    tableCommit t n = ((n.touchSlot t).modTslot t (fun x => { x with commitAt := some n.tb1 })).answer 0 := by
  rw [tableCommit, Node.journaled_live live, Node.needsFn_enabled enabled, Node.accept_accepted (by simpa using free)]

theorem tableCommit_used (live : n.rd Ob.det_inputMode ≠ 1) (enabled : n.fnEnabled 0 = true) (used : n.slotUse t ≠ 0) :
    tableCommit t n = n.answer 3 := by
  rw [tableCommit, Node.journaled_live live, Node.needsFn_enabled enabled, Node.accept_refused (by simpa using used)]

theorem Node.rd_touchSlot {o : Nat} (h : Ob.det_keyState ≠ o) : (n.touchSlot t).rd o = (n.wr (Ob.tab_state t) 1).rd o := by
  rw [Node.touchSlot, Node.rd_changeSlot _ _ _ h, Node.modTslot_rd]

/-- The objects of a slot that its emptying returns to their defaults (09 R221). -/
def slotObjs (t : Nat) : List Nat :=
  [Ob.tab_state t, Ob.tab_header t, Ob.tab_entries t, Ob.tab_digest t, Ob.tab_refusal t, Ob.tab_computedDigest t]

theorem tableEmpty_free (live : n.rd Ob.det_inputMode ≠ 1) (free : n.slotUse t = 0) :
    tableEmpty t n = (n.changeSlot t (fun n => (overAll (slotObjs t) (fun n o => n.wr o (dfltOf n.kind o)) n).modTslot t
      (fun x => { x with commitAt := none }))).answer 0 := by
  rw [tableEmpty, Node.journaled_live live, Node.accept_accepted (by simpa using free)]
  rfl

theorem tableEmpty_used (live : n.rd Ob.det_inputMode ≠ 1) (used : n.slotUse t ≠ 0) : tableEmpty t n = n.answer 3 := by
  rw [tableEmpty, Node.journaled_live live, Node.accept_refused (by simpa using used)]

/-- Objects that are each written with their defaults read their defaults. -/
theorem Node.rd_defaults (l : List Nat) {o : Nat} (n : Node) (h : o ∈ l ∨ n.rd o = dfltOf n.kind o) :
    (overAll l (fun n o => n.wr o (dfltOf n.kind o)) n).rd o = dfltOf n.kind o := by
  induction l generalizing n with
  | nil => simpa [overAll] using h
  | cons x l ih =>
    refine ih (n.wr x (dfltOf n.kind x)) ?_
    by_cases same : x = o
    · exact .inr (by rw [same, Node.rd_wr_same, Node.wr_kind])
    · rw [Node.rd_wr_ne _ _ same, Node.wr_kind]
      rcases h with listed | already
      · exact .inl ((List.mem_cons.mp listed).resolve_left (Ne.symm same))
      · exact .inr already

end

/-! ### A commit that completes -/

section
variable (n : Node) (t : Nat)

/-- The digest that a slot's header and entries come to (09 R220). -/
def Node.slotDigest : Nat := blake3 (tableBytes (n.header t) (n.entries t))

/-- What the load checks of a slot find (09 R221). -/
def Node.slotVerdict : Nat × Nat := loadCheck (n.slotDigest t == n.rd (Ob.tab_digest t)) (n.header t) (n.entries t)

/-- A slot whose commit has completed, before its state is posted. -/
def Node.postDigest : Node :=
  (((n.wr (Ob.tab_computedDigest t) (n.slotDigest t)).wr (Ob.tab_refusal t) (put 31 16 (n.slotVerdict t).2 + (n.slotVerdict t).1)).wr
    (Ob.prog_programDigest t) (blake3 (tableBytes (n.header t) ((n.entries t).map zeroAudit)))).modTslot t (fun x => { x with commitAt := none })

/-- The verdict of the checks as the slot's state. -/
def Node.postVerdict : Node :=
  if (n.slotVerdict t).1 == 0 then (n.postDigest t).wr (Ob.tab_state t) 2
  else ((n.postDigest t).wr (Ob.tab_state t) 3).fault { cause := 0x39, obj := t, detail := put 79 72 (n.slotVerdict t).1 + put 71 56 (n.slotVerdict t).2 }

variable {n t}

theorem tableCommitDone_running (running : (n.tslotOf t).commitAt.isSome = true) : tableCommitDone t n = n.changeSlot t (fun n => n.postVerdict t) := by
  rw [tableCommitDone, running, when_true]
  unfold Node.postVerdict Node.postDigest Node.slotVerdict Node.slotDigest
  rfl

theorem Node.rd_postVerdict {o : Nat} (h : 0x4000 ≤ o / 256 ∧ o / 256 < 0x8000) (hs : Ob.tab_state t ≠ o) :
    (n.postVerdict t).rd o = (n.postDigest t).rd o := by
  unfold Node.postVerdict
  split
  · rw [Node.rd_wr_ne _ _ hs]
  · rw [Node.rd_fault _ _ (isRecObj_of_index h), Node.rd_wr_ne _ _ hs]

theorem Node.tslotOf_postVerdict : ((n.postVerdict t).tslotOf t).commitAt = none := by
  unfold Node.postVerdict
  split <;> simp [Node.postDigest]

theorem Node.postVerdict_passed (passed : (n.slotVerdict t).1 = 0) : n.postVerdict t = (n.postDigest t).wr (Ob.tab_state t) 2 := by
  rw [Node.postVerdict, passed]
  rfl

theorem Node.rd_postDigest {o : Nat} (hc : Ob.tab_computedDigest t ≠ o) (hr : Ob.tab_refusal t ≠ o) (hp : Ob.prog_programDigest t ≠ o) :
    (n.postDigest t).rd o = n.rd o := by
  rw [Node.postDigest, Node.modTslot_rd, Node.rd_wr_ne _ _ hp, Node.rd_wr_ne _ _ hr, Node.rd_wr_ne _ _ hc]

/-- The state and the record that the verdict of a commit leaves (09 R221). -/
theorem Node.postVerdict_spec (ht : t < 16) :
    ((n.slotVerdict t).1 = 0 → (n.postVerdict t).rd (Ob.tab_state t) = 2 ∧
      (n.postVerdict t).rd Ob.cause_causeCounts = n.rd Ob.cause_causeCounts) ∧
    ((n.slotVerdict t).1 ≠ 0 → (n.postVerdict t).rd (Ob.tab_state t) = 3 ∧ n.recorded (n.postVerdict t) 0x39) := by
  have kept : (n.postDigest t).rd Ob.cause_causeCounts = n.rd Ob.cause_causeCounts :=
    Node.rd_postDigest (by unfold Ob.tab_computedDigest Ob.cause_causeCounts; omega) (by unfold Ob.tab_refusal Ob.cause_causeCounts; omega)
      (by unfold Ob.prog_programDigest Ob.cause_causeCounts; omega)
  have apart : Ob.tab_state t ≠ Ob.cause_causeCounts := by unfold Ob.tab_state Ob.cause_causeCounts; omega
  refine ⟨fun passed => ?_, fun failed => ?_⟩
  · rw [Node.postVerdict_passed passed, Node.rd_wr_same, Node.rd_wr_ne _ _ apart]
    exact ⟨rfl, kept⟩
  · have refused : ((n.slotVerdict t).1 == 0) = false := beq_eq_false_iff_ne.mpr failed
    rw [Node.postVerdict, refused, if_neg Bool.false_ne_true, Node.rd_fault _ _ (isRecObj_of_index (by unfold Ob.tab_state; omega)), Node.rd_wr_same]
    refine ⟨rfl, (Node.recorded_fault _ _).of_count (Node.causeCount_congr ?_ _)⟩
    rw [Node.rd_wr_ne _ _ apart, kept]

theorem mod_put_high (hi lo v r : Nat) : (put hi lo v + r) % 2 ^ lo = r % 2 ^ lo := by
  rw [put, Nat.mul_comm, Nat.mul_add_mod]

end
end Sys2Proof.Machine

namespace Sys2Proof.Machine

/-! ### A storage error -/

theorem isStepObj_ne {c d o : Nat} (h : isStepObj c o = true) (hc : c < 64) (hd : d < 64) (hne : d ≠ c) : isStepObj d o = false := by
  simp only [isStepObj, Bool.or_eq_true, beq_iff_eq, Bool.or_eq_false_iff, beq_eq_false_iff_ne] at h ⊢
  omega

section
variable {c d : Nat} {ks : List Nat} {n m : Node} (h : n.ActsOn d (isStepObj d) ks m) (hc : c < 64) (hd : d < 64) (hne : d ≠ c)
include h hc hd hne

/-- What acts on the step of one context leaves the escrow state and the walk of another. -/
theorem Node.ActsOn.escrow : m.escrow c = n.escrow c :=
  h.rd _ (isEndObj_of_index (by unfold Ob.ctx_escrowState; omega))
    (isStepObj_ne (by simpa [isStepObj] using by unfold Ob.ctx_escrowState; omega) hc hd hne)

theorem Node.ActsOn.walk : m.walk c = n.walk c :=
  h.rd _ (isEndObj_of_index (by unfold Ob.seq_walkState; omega))
    (isStepObj_ne (by simpa [isStepObj] using by unfold Ob.seq_walkState; omega) hc hd hne)

end

/-- The step of a context that held one is aborted on the bus, where it fired, or has ended (09 R223, R256). -/
def Node.Stopped (n : Node) (c : Nat) (m : Node) : Prop :=
  (n.fired c = true → (m.ctxOf c).cause ≠ 0 ∧ m.walk c ≠ 1 ∧ m.walk c ≠ 2) ∧ (n.fired c = false → m.escrow c = 0)

theorem Node.stopped_strikeStep {n : Node} {c cause : Nat} (obj detail : Nat) (hc : c < 64) (held : n.stepHeld c = true) (h0 : cause ≠ 0) :
    n.Stopped c (n.strikeStep c cause obj detail) := by
  refine ⟨fun fired => ?_, fun unfired => ?_⟩
  · have still := (n.fired_fault { cause := cause, span := n.span, ctx := c, obj := obj, detail := detail } hc).trans fired
    rw [Node.strikeStep_fired hc fired, Node.deadlineFault, Node.ctxFault, Node.ctxOf_raiseWave _ hc still, Node.walk_raiseWave _ hc still]
    refine ⟨?_, ?_, ?_⟩
    · dsimp only
      split
      · exact h0
      · rename_i first
        simpa using first
    all_goals split <;> omega
  · have escrow : (n.escrow c == 1 || n.escrow c == 2) = true := by
      simp only [Node.stepHeld, Node.fired, Bool.and_eq_true, decide_eq_true_eq, beq_eq_false_iff_ne] at held unfired
      simp only [Bool.or_eq_true, beq_iff_eq]
      omega
    have told : (n.ctxFault cause c obj detail).escrow c = n.escrow c := n.rd_fault _ (isRecObj_of_index (by unfold Ob.ctx_escrowState; omega))
    have ended : ((n.ctxFault cause c obj detail).waveStep c cause).escrow c = 0 := by
      rw [Node.waveStep, told, escrow, if_pos rfl, Node.endUnfired]
      exact (Node.endStep_idle _ 5 cause hc).1
    unfold Node.strikeStep
    dsimp only
    split
    · rw [Node.escrow, Node.rd_placeAbort]
      exact ended
    · exact ended

theorem Node.Stopped.keep {n m k : Node} {c d : Nat} {ks : List Nat} (h : n.Stopped c m) (g : m.ActsOn d (isStepObj d) ks k) (hc : c < 64)
    (hd : d < 64) (hne : d ≠ c) : n.Stopped c k := by
  rw [Node.Stopped, g.ctx c hne.symm, g.walk hc hd hne, g.escrow hc hd hne]
  exact h

/-- The steps of distinct contexts are each stopped. -/
theorem Node.stopped_overAll {l : List Nat} (distinct : l.Nodup) (obj detail : Nat) {n : Node} (inside : ∀ d ∈ l, d < 64)
    (held : ∀ d ∈ l, n.stepHeld d = true) {c : Nat} (hc : c ∈ l) : n.Stopped c (overAll l (fun n d => n.strikeStep d 0x3F obj detail) n) := by
  induction l generalizing n with
  | nil => simp at hc
  | cons d l ih =>
    obtain ⟨fresh, distinct⟩ := List.nodup_cons.mp distinct
    have d64 := inside d List.mem_cons_self
    have acts := n.strikeStep_actsOn 0x3F obj detail d64
    have c64 := inside c hc
    rcases List.mem_cons.mp hc with rfl | later
    · have stopped : n.Stopped c (n.strikeStep c 0x3F obj detail) :=
        Node.stopped_strikeStep obj detail c64 (held c List.mem_cons_self) (by decide)
      refine overAll_keeps (P := n.Stopped c) l _ (fun m e he h => ?_) stopped
      have e64 := inside e (List.mem_cons_of_mem _ he)
      exact h.keep (m.strikeStep_actsOn 0x3F obj detail e64) c64 e64 fun same => fresh (same ▸ he)
    · have other (e : Nat) (he : e ∈ l) : (n.strikeStep d 0x3F obj detail).escrow e = n.escrow e :=
        acts.escrow (inside e (List.mem_cons_of_mem _ he)) d64 fun same => fresh (same ▸ he)
      have stopped := ih distinct (n := n.strikeStep d 0x3F obj detail) (fun e he => inside e (List.mem_cons_of_mem _ he))
        (fun e he => by rw [Node.stepHeld, other e he]; exact held e (List.mem_cons_of_mem _ he)) later
      unfold Node.Stopped Node.fired at stopped ⊢
      rwa [other c later] at stopped

/-- Strikes of steps leave the objects of every slot. -/
theorem Node.rd_overAll_strike {l : List Nat} {cause obj detail : Nat} (inside : ∀ d ∈ l, d < 64) (n : Node) {o : Nat}
    (h : 0x4010 ≤ o / 256 ∧ o / 256 < 0x4020) : (overAll l (fun n d => n.strikeStep d cause obj detail) n).rd o = n.rd o := by
  refine overAll_keeps (P := fun m => m.rd o = n.rd o) l _ (fun m d hd same => ?_) rfl
  refine ((m.strikeStep_actsOn cause obj detail (inside d hd)).rd o (isEndObj_of_index (by omega)) ?_).trans same
  simp only [isStepObj, Bool.or_eq_false_iff, beq_eq_false_iff_ne]
  omega

/-- A slot that a storage error has refused (09 R223). -/
def Node.refuseSlot (n : Node) (t k : Nat) : Node :=
  n.changeSlot t (fun n => (n.wr (Ob.tab_state t) 3).wr (Ob.tab_refusal t) (put 31 16 k + 13))

/-- The contexts that hold a slot. -/
def Node.slotUsers (n : Node) (t : Nat) : List Nat := (upTo n.ctxCount).filter (n.holdsSlot t)

theorem tableStorageError_resident {n : Node} {t : Nat} (k : Nat) (resident : n.rd (Ob.tab_state t) = 2) : tableStorageError t k n =
    if (n.slotUsers t).isEmpty then (n.refuseSlot t k).fault { cause := 0x3F, obj := t, detail := put 79 68 k }
    else overAll (n.slotUsers t) (fun n c => n.strikeStep c 0x3F t (put 79 68 k)) (n.refuseSlot t k) := by
  rw [tableStorageError, resident]
  rfl

theorem Node.mem_slotUsers {n : Node} {t c : Nat} : c ∈ n.slotUsers t ↔ c < n.ctxCount ∧ n.holdsSlot t c = true := by
  simp [Node.slotUsers, upTo]

section
variable (n : Node) {t : Nat} (k : Nat) (ht : t < 16)
include ht

theorem Node.rd_refuseSlot :
    (n.refuseSlot t k).rd (Ob.tab_state t) = 3 ∧ (n.refuseSlot t k).rd (Ob.tab_refusal t) % 2 ^ 16 = 13 := by
  unfold Node.refuseSlot
  rw [Node.rd_changeSlot _ _ _ (by unfold Ob.det_keyState Ob.tab_state; omega),
    Node.rd_changeSlot _ _ _ (by unfold Ob.det_keyState Ob.tab_refusal; omega),
    Node.rd_wr_same, Node.rd_wr_ne _ _ (by unfold Ob.tab_refusal Ob.tab_state; omega), Node.rd_wr_same, mod_put_high]
  exact ⟨rfl, rfl⟩

omit ht in
theorem Node.rd_refuseSlot_ne {o : Nat} (hs : o / 256 ≠ 0x4010 + t) (hk : Ob.det_keyState ≠ o) : (n.refuseSlot t k).rd o = n.rd o := by
  rw [Node.refuseSlot, Node.rd_changeSlot _ _ _ hk, Node.rd_wr_ne _ _ (by unfold Ob.tab_refusal; omega),
    Node.rd_wr_ne _ _ (by unfold Ob.tab_state; omega)]

theorem Node.escrow_refuseSlot {c : Nat} (hc : c < 64) : (n.refuseSlot t k).escrow c = n.escrow c :=
  n.rd_refuseSlot_ne k (by unfold Ob.ctx_escrowState; omega) (by unfold Ob.det_keyState Ob.ctx_escrowState; omega)

end

/-- A storage error refuses its slot and stops each step that uses it; without one it is recorded once (09 R223). -/
theorem tableStorageError_spec {n : Node} {t : Nat} (k : Nat) (ht : t < 16) (resident : n.rd (Ob.tab_state t) = 2) :
    (tableStorageError t k n).rd (Ob.tab_state t) = 3 ∧ (tableStorageError t k n).rd (Ob.tab_refusal t) % 2 ^ 16 = 13 ∧
    (n.slotUsers t = [] → n.recorded (tableStorageError t k n) 0x3F) ∧ ∀ c ∈ n.slotUsers t, n.Stopped c (tableStorageError t k n) := by
  obtain ⟨state, refusal⟩ := n.rd_refuseSlot k ht
  have inside (c : Nat) (hc : c ∈ n.slotUsers t) : c < 64 := Node.ctx_lt (Node.mem_slotUsers.mp hc).1
  rw [tableStorageError_resident k resident]
  by_cases none : n.slotUsers t = []
  · rw [none, List.isEmpty_nil, if_pos rfl, Node.rd_fault _ _ (isRecObj_of_index (by unfold Ob.tab_state; omega)),
      Node.rd_fault _ _ (isRecObj_of_index (by unfold Ob.tab_refusal; omega))]
    refine ⟨state, refusal, fun _ => (Node.recorded_fault _ _).of_count (Node.causeCount_congr ?_ _), fun c hc => nomatch hc⟩
    exact n.rd_refuseSlot_ne k (by unfold Ob.cause_causeCounts; omega) (by decide)
  · rw [List.isEmpty_eq_false_iff.mpr none, if_neg Bool.false_ne_true, Node.rd_overAll_strike inside _ (by unfold Ob.tab_state; omega),
      Node.rd_overAll_strike inside _ (by unfold Ob.tab_refusal; omega)]
    refine ⟨state, refusal, fun empty => absurd empty none, fun c hc => ?_⟩
    have held (d : Nat) (hd : d ∈ n.slotUsers t) : (n.refuseSlot t k).stepHeld d = true := by
      have holds := (Node.mem_slotUsers.mp hd).2
      rw [Node.holdsSlot, Bool.and_eq_true] at holds
      rw [Node.stepHeld, n.escrow_refuseSlot k ht (inside d hd)]
      exact holds.1
    have stopped := Node.stopped_overAll (List.nodup_range.filter _) t (put 79 68 k) inside held hc
    unfold Node.Stopped Node.fired at stopped ⊢
    rwa [n.escrow_refuseSlot k ht (inside c hc)] at stopped

/-- Settles O29: a commit and an emptying each come to one change of the slot; the verdict of a commit is `Node.postVerdict`, and a storage
error strikes the users of its slot one by one. -/
theorem tablesBecomeResidentByDigestAndChecks : Obligations.TablesBecomeResidentByDigestAndChecks := by
  intro s t tsu slot
  have works := works_tsu tsu
  have exists_ : decide (t < s.tsu.tableSlots) = true := decide_eq_true slot
  have ht : t < 16 := slot.trans_le s.tsu.tableSlots_le
  have inTable (u k : Nat) (hu : u < 16) (hk : k < 256) :
      0x4000 ≤ (0x401000 + k + u * 256) / 256 ∧ (0x401000 + k + u * 256) / 256 < 0x8000 := by omega
  refine ⟨fun live => ⟨fun free => ⟨fun enabled => runsOn_obj (f := tableCommit t) works rfl exists_ ?_,
      runsOn_obj (f := tableEmpty t) works rfl exists_ ?_⟩,
    fun used => ⟨fun enabled => runsOn_obj (f := tableCommit t) works rfl exists_ ?_, runsOn_obj (f := tableEmpty t) works rfl exists_ ?_⟩⟩,
    fun running => runsOn_node (f := tableCommitDone t) works rfl exists_ ?_,
    fun resident k => runsOn_node (f := tableStorageError t k) works rfl exists_ ?_⟩
  · have touched {o : Nat} (h : 0x4000 ≤ o / 256 ∧ o / 256 < 0x5000) : (tableCommit t s.tsu).rd o = (s.tsu.wr (Ob.tab_state t) 1).rd o := by
      rw [tableCommit_free live enabled free, Node.rd_answer_table _ _ (by omega), Node.modTslot_rd, Node.rd_touchSlot (by unfold Ob.det_keyState; omega)]
    refine ⟨?_, ?_, ?_, ?_, fun u other hu => ?_⟩
    · rw [State.node, tableCommit_free live enabled free]
      exact Node.answered_answer ..
    · rw [State.node, touched (by unfold Ob.tab_state; omega), Node.rd_wr_same]
    · rw [State.node, tableCommit_free live enabled free, Node.tslotOf_answer, Node.modTslot_tslotOf_same]
    · rw [State.node, touched (by unfold Ob.tab_header; omega), Node.rd_wr_ne _ _ (by unfold Ob.tab_state Ob.tab_header; omega)]
    · rw [State.node, touched (by unfold Ob.tab_state; omega), Node.rd_wr_ne _ _ (by unfold Ob.tab_state; omega)]
  · rw [State.node, tableEmpty_free live free]
    refine ⟨Node.answered_answer .., ?_, fun o ho => ?_⟩
    · rw [Node.tslotOf_answer, Node.tslotOf_changeSlot, Node.modTslot_tslotOf_same]
    · have index : 0x4010 ≤ o / 256 ∧ o / 256 < 0x4020 := by
        simp only [List.mem_cons, List.not_mem_nil, or_false, Ob.tab_state, Ob.tab_header, Ob.tab_entries, Ob.tab_digest, Ob.tab_refusal,
          Ob.tab_computedDigest] at ho
        omega
      rw [Node.rd_answer_table _ _ (by omega), Node.rd_changeSlot _ _ _ (by unfold Ob.det_keyState; omega), Node.modTslot_rd]
      exact Node.rd_defaults _ _ (.inl ho)
  · rw [State.node, tableCommit_used live enabled used]
    exact ⟨Node.answered_answer .., Node.rd_answer_table _ _ (inTable t 0 ht (by decide)), Node.tslots_answer ..⟩
  · rw [State.node, tableEmpty_used live used]
    exact ⟨Node.answered_answer .., Node.rd_answer_table _ _ (inTable t 0 ht (by decide)), Node.rd_answer_table _ _ (inTable t 1 ht (by decide))⟩
  · have done (o : Nat) (h : Ob.det_keyState ≠ o) : (tableCommitDone t s.tsu).rd o = (s.tsu.postVerdict t).rd o := by
      rw [tableCommitDone_running running, Node.rd_changeSlot _ _ _ h]
    obtain ⟨passed, failed⟩ := Node.postVerdict_spec (n := s.tsu) ht
    have state := done (Ob.tab_state t) (by unfold Ob.det_keyState Ob.tab_state; omega)
    have counts := done Ob.cause_causeCounts (by decide)
    refine ⟨?_, ?_, ?_, fun ok => ?_, fun bad => ?_, fun u other hu => ?_⟩
    · rw [State.node, done _ (by unfold Ob.det_keyState Ob.tab_computedDigest; omega),
        Node.rd_postVerdict (o := Ob.tab_computedDigest t) (inTable t 6 ht (by decide))
        (by unfold Ob.tab_state Ob.tab_computedDigest; omega), Node.postDigest, Node.modTslot_rd,
        Node.rd_wr_ne _ _ (by unfold Ob.prog_programDigest Ob.tab_computedDigest; omega),
        Node.rd_wr_ne _ _ (by unfold Ob.tab_refusal Ob.tab_computedDigest; omega), Node.rd_wr_same]
      rfl
    · rw [State.node, tableCommitDone_running running, Node.tslotOf_changeSlot, Node.tslotOf_postVerdict]
    · rw [State.node, done _ (by unfold Ob.det_keyState Ob.tab_refusal; omega), Node.rd_postVerdict (o := Ob.tab_refusal t) (inTable t 5 ht (by decide))
        (by unfold Ob.tab_state Ob.tab_refusal; omega), Node.postDigest, Node.modTslot_rd,
        Node.rd_wr_ne _ _ (by unfold Ob.prog_programDigest Ob.tab_refusal; omega), Node.rd_wr_same, mod_put_high]
      rfl
    · exact ⟨state.trans (passed ok).1, counts.trans (passed ok).2⟩
    · exact ⟨state.trans (failed bad).1, (failed bad).2.trans_count (Node.causeCount_congr counts _)⟩
    · rw [State.node, done _ (by unfold Ob.det_keyState Ob.tab_state; omega), Node.rd_postVerdict (o := Ob.tab_state u) (inTable u 0 hu (by decide))
        (by unfold Ob.tab_state; omega)]
      exact Node.rd_postDigest (by unfold Ob.tab_computedDigest Ob.tab_state; omega) (by unfold Ob.tab_refusal Ob.tab_state; omega)
        (by unfold Ob.prog_programDigest Ob.tab_state; omega)
  · obtain ⟨state, refusal, unused, stopped⟩ := tableStorageError_spec k ht resident
    refine ⟨state, refusal, fun none => unused ?_, fun c hc holds => stopped c (Node.mem_slotUsers.mpr ⟨hc, holds⟩)⟩
    refine List.eq_nil_iff_forall_not_mem.mpr fun c hc => ?_
    obtain ⟨inside, holds⟩ := Node.mem_slotUsers.mp hc
    exact absurd holds (by simp [none c inside])

end Sys2Proof.Machine

/-! What a tick owes before a row (09 R232) leaves the kind of a unit as it is, of a sound unit or not: the statements of 09 do not ask for
soundness, so `Node.SoundAs` does not serve them. There is one lemma per operation, which bears its name, and its proof reads as the operation's
definition does. -/

namespace Sys2Proof.Machine

/-- A unit of a given kind. -/
def Node.OfKind (k : Kind) (n : Node) : Prop := n.kind = k

namespace Node.OfKind

section
variable {k : Kind} {n : Node} (h : n.OfKind k)
include h

theorem of_recOnly {m : Node} (frame : recOnly n m) : m.OfKind k := frame.kind.trans h

/-! #### Combinators -/

theorem ite {m : Node} {p : Prop} {_ : Decidable p} (hm : m.OfKind k) : (if p then n else m).OfKind k := by
  split
  · exact h
  · exact hm

theorem andThen {m : Node} (hm : n.OfKind k → m.OfKind k) : m.OfKind k := hm h
theorem thenIf {m : Node} {p : Prop} {_ : Decidable p} (hm : n.OfKind k → m.OfKind k) : (if p then m else n).OfKind k := ite (hm h) h
theorem elseThen {m : Node} {p : Prop} {_ : Decidable p} (hm : n.OfKind k → m.OfKind k) : (if p then n else m).OfKind k := h.ite (hm h)
theorem when {p f} (hf : ∀ {m}, m.OfKind k → (f m).OfKind k) : (Machine.when p f n).OfKind k := ite (hf h) h

theorem overAll {α : Type} {l : List α} {f} (hf : ∀ {m x}, m.OfKind k → (f m x).OfKind k) : (Machine.overAll l f n).OfKind k :=
  overAll_keeps l f (fun _ _ _ => hf) h

theorem foldl {α : Type} {l : List α} {f} (hf : ∀ {m x}, m.OfKind k → (f m x).OfKind k) : (l.foldl f n).OfKind k := h.overAll hf

/-! #### Objects, events and records -/

theorem wr {o v} : (n.wr o v).OfKind k := h
theorem wrBits {o lo w v} : (n.wrBits o lo w v).OfKind k := h.wr
theorem events {code q c} : (n.events code q c).OfKind k := h.of_recOnly (.of_objs (n.events_frame ..))
theorem addTo {o c} : (n.addTo o c).OfKind k := h.of_recOnly (.of_objs (n.addTo_frame ..))
theorem bump {o} : (n.bump o).OfKind k := h.addTo
theorem irqEvent {s} : (n.irqEvent s).OfKind k := h.of_recOnly (n.irqEvent_frame s)
theorem fault {r} : (n.fault r).OfKind k := h.of_recOnly (n.fault_frame r)
theorem agEvents {r code k'} : (n.agEvents r code k').OfKind k := h.foldl fun h => h.wrBits.ite h
theorem modLink {i f} : (n.modLink i f).OfKind k := h
theorem modAgent {i f} : (n.modAgent i f).OfKind k := h
theorem modCtx {i f} : (n.modCtx i f).OfKind k := h
theorem modRegion {i f} : (n.modRegion i f).OfKind k := h
theorem modCensus {f} : (n.modCensus f).OfKind k := h
theorem modBus {f} : (n.modBus f).OfKind k := h
theorem modClr {f} : (n.modClr f).OfKind k := h
theorem modTally {f} : (n.modTally f).OfKind k := h
theorem modMint {f} : (n.modMint f).OfKind k := h
theorem modJrnl {f} : (n.modJrnl f).OfKind k := h
theorem takeFree : n.takeFree.2.OfKind k := h
theorem ctxFault {cause c obj detail} : (n.ctxFault cause c obj detail).OfKind k := h.fault

/-! #### The span link -/

theorem enqueue {p q} : (n.enqueue p q).OfKind k := h.bump.elseThen fun hm => hm.ite h.modLink
theorem send {p m} : (n.send p m).OfKind k := h.enqueue
theorem sendAt {p t m} : (n.sendAt p t m).OfKind k := h.enqueue
theorem sendAll {ps m} : (n.sendAll ps m).OfKind k := h.overAll fun h => h.send

theorem consume {p f} : (n.consume p f).OfKind k := by
  unfold Node.consume
  split
  · exact h
  · exact h.modLink

theorem onMsg {p f act} (hact : ∀ {x m}, m.OfKind k → (act x m).OfKind k) : (n.onMsg p f act).OfKind k := by
  unfold Node.onMsg
  split
  · exact h
  · exact hact h.consume

theorem waveLost {p slot} : (n.waveLost p slot).OfKind k := h.bump.fault

theorem queueWave {p inPort ready slot} : (n.queueWave p inPort ready slot).OfKind k := by
  unfold Node.queueWave
  dsimp only
  refine h.bump.ite ?_
  split
  · exact h.modLink
  · split
    · exact h.modLink
    · exact h.modLink.waveLost

/-! #### Operations of steps -/

theorem taint {c reason} : (n.taint c reason).OfKind k := ite (wr (h.bump.ite h)) h
theorem stopWalk {c} : (n.stopWalk c).OfKind k := modCtx (h.wr.ite h)
theorem placeAbort {c} : (n.placeAbort c).OfKind k := h.ite h.modBus
theorem abortStep {c cause} : (n.abortStep c cause).OfKind k := h.placeAbort.stopWalk.modCtx.ite h
theorem raiseWave {c cause} : (n.raiseWave c cause).OfKind k := abortStep (h.ite (h.modCtx.bump.thenIf fun h => h.overAll fun h => h.queueWave))
theorem deadlineFault {c cause obj detail} : (n.deadlineFault c cause obj detail).OfKind k := h.ctxFault.raiseWave
theorem postOutcome {c oc cause} : (n.postOutcome c oc cause).OfKind k := h.wr.bump.irqEvent

/-! #### The end of a step -/

theorem sendTag {c step tag} : (n.sendTag c step tag).OfKind k := h.sendAll
theorem settleDeferred {c oc} : (n.settleDeferred c oc).OfKind k := h.modClr
theorem present {r core status tick} : (n.present r core status tick).OfKind k := h.modAgent.thenIf fun h => h.agEvents
theorem endWait {w core host} : (n.endWait w core host).OfKind k := h.modTally.wr.ite h.modTally.present
theorem clearTallies {c} : (n.clearTallies c).OfKind k := h.overAll (fun h => h.endWait) |>.modTally.addTo
theorem fault53 {c h' d status blocks} : (n.fault53 c h' d status blocks).OfKind k := h.bump.ctxFault
theorem releaseAcc {c h'} : (n.releaseAcc c h').OfKind k := h.modClr
theorem discardAccs {c} : (n.discardAccs c).OfKind k := h.overAll fun h => h.releaseAcc.fault53
theorem dropIssues {f} : (n.dropIssues f).OfKind k := h.modClr
theorem dropMint {c step} : (n.dropMint c step).OfKind k := h.modMint
theorem tagHistory {c step short} : (n.tagHistory c step short).OfKind k := h.wrBits
theorem abortTag {c} : (n.abortTag c).OfKind k := modCtx (dropMint (tagHistory (wr (takeFree (h.ite h.sendTag)))))
theorem openSettle {c} : (n.openSettle c).OfKind k := h.wrBits.modCtx
theorem closeSettle {c} : (n.closeSettle c).OfKind k := h.wrBits.modCtx
theorem toIdle {c} : (n.toIdle c).OfKind k := h.wr.wr.modCtx

theorem endStep {c oc cause} : (n.endStep c oc cause).OfKind k :=
  h.settleDeferred.clearTallies.discardAccs.andThen fun h =>
    andThen (h.dropIssues.abortTag.ite h.openSettle) fun h => postOutcome (toIdle (h.ite h.wr))

theorem endUnfired {c cause} : (n.endUnfired c cause).OfKind k := h.endStep
theorem waveStep {c cause} : (n.waveStep c cause).OfKind k := h.raiseWave.thenIf fun h => h.endUnfired
theorem strikeStep {c cause obj detail} : (n.strikeStep c cause obj detail).OfKind k := h.ctxFault.waveStep.thenIf fun h => h.placeAbort

theorem reviseOutcome {c cause} : (n.reviseOutcome c cause).OfKind k :=
  ctxFault (irqEvent (closeSettle (h.wr.wr.bump.modClr.abortTag.ite h.wr.wr.bump.modClr.wr.tagHistory)))

theorem noteWave {p slot} : (n.noteWave p slot).OfKind k := h.bump.wr
theorem waveActs {c cause} : (n.waveActs c cause).OfKind k := h.endUnfired.ite (h.abortStep.ite (h.bump.thenIf fun h => h.reviseOutcome))

theorem waveReceived {p} : (Machine.waveReceived p n).OfKind k := by
  unfold Machine.waveReceived
  split
  · exact h
  · exact h.modLink.when fun h => h.noteWave.waveActs

theorem endAborted {c} : (n.endAborted c).OfKind k := by
  unfold Node.endAborted
  split
  · exact h.endStep.ite h
  · exact h

/-! #### The journal -/

theorem noteArm {c step fire} : (n.noteArm c step fire).OfKind k := h.modCtx
theorem loseRecord {ctx seq typ ref} : (n.loseRecord ctx seq typ ref).OfKind k := h.bump.ctxFault.taint
theorem sendRecord {p r} : (n.sendRecord p r).OfKind k := h.send.events.ite h

theorem journal {typ ctx bytes} : (n.journal typ ctx bytes).OfKind k :=
  h.ite (h.modJrnl.loseRecord.ite (h.modJrnl.overAll (fun h => h.sendRecord) |>.modJrnl))

theorem journalKey : n.journalKey.OfKind k := h.journal

/-! #### Tallies -/

theorem modLocal {r t f} : (n.modLocal r t f).OfKind k := h.modAgent
theorem tallyFault {cause c u obj detail wave} : (n.tallyFault cause c u obj detail wave).OfKind k := h.fault.thenIf fun h => h.waveStep
theorem tallyError {r core tick} : (n.tallyError r core tick).OfKind k := h.present.bump
theorem modStally {c slot f} : (n.modStally c slot f).OfKind k := h.modTally
theorem spanReject {u} : (n.spanReject u).OfKind k := h.wr.ite (h.ite h.present)
theorem sendTally {kind c slot tick unit rest} : (n.sendTally kind c slot tick unit rest).OfKind k := h.sendAll
theorem nextSeq {c slot unit} : (n.nextSeq c slot unit).2.OfKind k := h.modStally
theorem spanSignal {q slot} : (n.spanSignal q slot).OfKind k := h.nextSeq.sendTally
theorem spanArrive {q slot} : (n.spanArrive q slot).OfKind k := h.modStally.sendTally
theorem modRel {c slot num f} : (n.modRel c slot num f).OfKind k := h.modStally
theorem release {w num} : (n.release w num).OfKind k := h.modTally.wr.wr.irqEvent.ite h.modTally.present
theorem countTaint {c slot num} : (n.countTaint c slot num).OfKind k := h.ite h.modRel.bump
theorem taintBy {c slot num} : (n.taintBy c slot num).OfKind k := h.overAll (fun h => h.taint.ite h) |>.elseThen fun h => h.countTaint
theorem releaseBy {w slot num} : (n.releaseBy w slot num).OfKind k := h.taintBy.release
theorem holdBack {w} : (n.holdBack w).OfKind k := h.modTally.thenIf fun h => h.wr

theorem ledgerShort {c u die chan tab cut} : (n.ledgerShort c u die chan tab cut).OfKind k := by
  unfold Node.ledgerShort
  split
  · exact h
  · exact h.tallyFault

theorem letGo {w slot} : (n.letGo w slot).OfKind k := by
  unfold Node.letGo
  dsimp only
  split
  · exact h
  · refine ite (h.releaseBy.ite h.holdBack) (h.releaseBy.ite (ite (holdBack (h.ite ?_)) (ite (releaseBy (h.ite h.modRel)) h.holdBack)))
    split
    · exact h.ledgerShort
    · exact h

theorem applyRel {x ledgerLate} : (n.applyRel x ledgerLate).OfKind k := by
  unfold Node.applyRel
  dsimp only
  refine ite
      (h.modStally.modRel.modStally.modCtx.overAll fun h => h.releaseBy)
      (ite (h.modStally.modRel.modStally.overAll fun h => h.letGo) ?_)
  split
  · exact h.modStally.modRel.releaseBy
  · exact h.modStally.modRel.modStally.ite h.modStally.modRel.bump

theorem noAccount {x} : (n.noAccount x).OfKind k := h.tallyFault

theorem decideRel {x} : (n.decideRel x).1.OfKind k := by
  unfold Node.decideRel
  extract_lets cut t y
  split
  · exact h.noAccount
  · split
    · split
      · dsimp only
        exact h.modRel
      · split
        · dsimp only
          split
          · exact h.modRel.ledgerShort
          · exact h
        · exact h
    · split
      · dsimp only
        exact h.modRel
      · exact h.ledgerShort.ite h

theorem waitNow {w slot mode} : (n.waitNow w slot mode).OfKind k := by
  unfold Node.waitNow
  dsimp only
  refine ite (h.releaseBy.ite h) (ite ?_ (h.letGo.ite h))
  split
  · exact h.modStally.releaseBy
  · exact h

theorem spanWait {q slot mode} : (n.spanWait q slot mode).OfKind k :=
  ite
    (h.spanReject.ite h.tallyError)
    (h.tallyFault.spanReject.ite (ite (sendTally (modTally (nextSeq (h.wr.ite h)))) (waitNow (modTally (h.wr.ite h)))))

theorem spanRequest {q} : (n.spanRequest q).OfKind k :=
  h.spanReject.bump.ite (h.tallyFault.spanReject.ite (h.spanSignal.ite (h.spanArrive.ite h.spanWait)))

theorem ledgerDecision {c slot} : (Machine.ledgerDecision c slot n).OfKind k := h.overAll fun h => h.decideRel.modTally

theorem holdRel {x} : (n.holdRel x).OfKind k := by
  unfold Node.holdRel
  split
  · exact h.holdBack
  · exact h

theorem releaseTick {c slot} : (Machine.releaseTick c slot n).OfKind k := h.ledgerDecision.overAll fun h => h.modTally.applyRel.ite h.holdRel
theorem releasesDue : n.releasesDue.OfKind k := h.overAll fun h => h.releaseTick
theorem decisionsDue : n.decisionsDue.OfKind k := h.overAll fun h => h.ledgerDecision

theorem withdraw {w slot} : (n.withdraw w slot).OfKind k := by
  unfold Node.withdraw
  dsimp only
  split
  · exact h.nextSeq.sendTally.modTally.bump
  · exact h.nextSeq.sendTally

theorem spanTimeout {w} : (n.spanTimeout w).OfKind k :=
  ite (tallyFault (endWait (bump (h.withdraw.ite h)))) (tallyFault (thenIf (endWait (bump (h.withdraw.ite h))) fun h => h.bump))

theorem localTimeout {r t core} : (n.localTimeout r t core).OfKind k := by
  unfold Node.localTimeout
  dsimp only
  split
  · exact h
  · exact h.when fun h => h.modLocal.present.bump.thenIf (fun h => h.bump) |>.tallyFault

theorem timeoutOf {span c tally unit} : (n.timeoutOf span c tally unit).OfKind k := by
  unfold Node.timeoutOf
  refine ite ?_ h.localTimeout
  split
  · exact h
  · exact h.when fun h => h.spanTimeout

theorem timeoutsDue : n.timeoutsDue.OfKind k :=
  h.overAll (fun h => h.timeoutOf) |>.overAll fun h => h.overAll fun h => h.overAll fun h => h.timeoutOf

/-! #### Clearing -/

theorem refusedContrib {c} : (n.refusedContrib c).OfKind k := ite (h.waveStep.ite h) h.taint

theorem freeze {c h' d} : (n.freeze c h' d).2.OfKind k := by
  unfold Node.freeze
  split
  · exact h
  · dsimp only
    split
    · exact h.releaseAcc
    · exact h.releaseAcc.fault53.refusedContrib

theorem defer {c h' d elems sends} : (n.defer c h' d elems sends).2.OfKind k := by
  unfold Node.defer
  dsimp only
  split
  · exact h.modClr
  · exact h

theorem issue {c h' d e deferred elems} : (n.issue c h' d e deferred elems).OfKind k := by
  unfold Node.issue
  dsimp only
  split
  · exact h.modClr.deadlineFault
  · exact h.modClr.bump.overAll fun h => h.overAll fun h => h.sendAt

theorem clearAt {c h' d e every} : (n.clearAt c h' d e every).OfKind k := h.freeze.issue.ite (h.freeze.defer.issue.ite h.freeze.defer.bump)

theorem makePresent {i same} : (n.makePresent i same).OfKind k := by
  unfold Node.makePresent
  split
  · exact h
  · exact h.modClr.wr.bump.irqEvent

theorem resultReceived {p} : (Machine.resultReceived p n).OfKind k := by
  unfold Machine.resultReceived
  dsimp only
  refine h.onMsg fun h => ?_
  split
  · exact h.bump
  · refine h.bump.ite (h.ite ?_)
    split
    · exact h.strikeStep
    · exact h.modClr.thenIf fun h => h.makePresent

/-! #### The sequencer -/

theorem showWalk {c} : (n.showWalk c).OfKind k := h.modCtx
theorem advance {c i it take} : (n.advance c i it take).OfKind k := h.modCtx.showWalk

theorem onEntry {c op act} (hact : ∀ {x x1 x2 x3 m}, m.OfKind k → (act x x1 x2 x3 m).OfKind k) : (Machine.onEntry c op act n).OfKind k :=
  h.when fun h => hact (h.irqEvent.ite h)

theorem entryNop {c _e i it _t} : (Machine.entryNop c _e i it _t n).OfKind k := h.advance

theorem waitTaint {c e tick} : (n.waitTaint c e tick).OfKind k := by
  unfold Node.waitTaint
  refine ite ?_ h
  dsimp only
  split
  · exact h.taintBy
  · exact h

theorem entryWait {c e i it t} : (Machine.entryWait c e i it t n).OfKind k :=
  h.tallyFault.ite (h.waitTaint.advance.ite (h.deadlineFault.ite h.wr.modCtx))

theorem waitResume {c} : (Machine.waitResume c n).OfKind k := by
  unfold Machine.waitResume
  dsimp only
  split
  · exact h
  · exact h.when fun h => h.waitTaint.taint.addTo.wr.modCtx.advance

theorem seqTally {c op vid arg t} : (n.seqTally c op vid arg t).OfKind k := h.spanRequest
theorem entrySignal {c e i it t} : (Machine.entrySignal c e i it t n).OfKind k := h.seqTally.advance
theorem entryArrive {c e i it t} : (Machine.entryArrive c e i it t n).OfKind k := h.seqTally.advance
theorem absent {c hnd i} : (n.absent c hnd i).OfKind k := h.deadlineFault
theorem entryClear {c e i it t} : (Machine.entryClear c e i it t n).OfKind k := h.absent.ite h.clearAt.advance

theorem entryBranch {c e i it _t} : (Machine.entryBranch c e i it _t n).OfKind k := by
  unfold Machine.entryBranch
  refine h.advance.ite ?_
  split
  · exact h.absent
  · exact h.advance

theorem entryGate {c e i it t} : (Machine.entryGate c e i it t n).OfKind k := h.modCtx.advance
theorem entryMark {c e i it t} : (Machine.entryMark c e i it t n).OfKind k := advance (h.modCtx.ite h.bump)
theorem entryAudit {c e i it _t} : (Machine.entryAudit c e i it _t n).OfKind k := h.modCtx.advance
theorem entryPulse {c e i it _t} : (Machine.entryPulse c e i it _t n).OfKind k := h.irqEvent.advance
theorem entryLoop {c _e i it _t} : (Machine.entryLoop c _e i it _t n).OfKind k := h.advance
theorem entryEnd {c _e _i _it _t} : (Machine.entryEnd c _e _i _it _t n).OfKind k := h.wr

theorem stepEntry {c} : (n.stepEntry c).OfKind k := by
  unfold Node.stepEntry
  split
  · exact h.onEntry fun h => h.entryNop
  · exact h.onEntry fun h => h.entryWait
  · exact h.onEntry fun h => h.entrySignal
  · exact h.onEntry fun h => h.entryArrive
  · exact h.onEntry fun h => h.entryClear
  · exact h.onEntry fun h => h.entryBranch
  · exact h.onEntry fun h => h.entryGate
  · exact h.onEntry fun h => h.entryMark
  · exact h.onEntry fun h => h.entryAudit
  · exact h.onEntry fun h => h.entryPulse
  · exact h.onEntry fun h => h.entryLoop
  · exact h.onEntry fun h => h.entryEnd
  · exact h

theorem runDue {c fuel} : (Machine.runDue c fuel n).OfKind k := by
  induction fuel generalizing n with
  | zero => exact h
  | succ fuel ih => exact h.waitResume.thenIf fun h => ih h.stepEntry

theorem slotConflict {c a act held} : (n.slotConflict c a act held).OfKind k := h.takeFree.takeFree.bump.strikeStep

theorem commitAction {c a} : (n.commitAction c a).OfKind k := by
  unfold Node.commitAction
  refine h.ite ?_
  dsimp only
  split
  · exact h.slotConflict
  · exact h.modBus.modCtx.thenIf fun h => h.irqEvent

theorem unconfirmed {c kind} : (n.unconfirmed c kind).OfKind k := h.bump.strikeStep
theorem commitActions {c} : (n.commitActions c).OfKind k := ite (h.overAll fun h => h.commitAction) h
theorem serveCtx {c} : (n.serveCtx c).OfKind k := h.runDue.commitActions

theorem lateDecision {c} : (n.lateDecision c).OfKind k :=
  h.modCtx.ite (h.modCensus.deadlineFault.ite (h.modCensus.ctxFault.taint.modCtx.ite h.modCensus.ctxFault.taint.modCtx.modCtx.wr))

theorem deadlineEvaluation {c} : (Machine.deadlineEvaluation c n).OfKind k := when (h.stopWalk.modCtx.ite h) fun h => h.lateDecision

/-! #### Escrow -/

theorem sendAck {span epoch c attempt step table ok nak why} : (n.sendAck span epoch c attempt step table ok nak why).OfKind k := h.sendAll
theorem giveAnswer {c why} : (n.giveAnswer c why).OfKind k := h.wr.wr.bump.modCtx.sendAck
theorem arm {c p m} : (n.arm c p m).OfKind k := h.modCtx.wr.wr.wr.wr.events.showWalk
theorem startWakes {es} : (n.startWakes es).OfKind k := h.overAll fun h => h.modRegion
theorem answerOnce {c m f} (hf : ∀ {m}, m.OfKind k → (f m).OfKind k) : (n.answerOnce c m f).OfKind k := h.ite (hf h.modCtx)
theorem ackFor {m ok nak why} : (n.ackFor m ok nak why).OfKind k := h.sendAck
theorem newInstance {c p m} : (n.newInstance c p m).OfKind k := h.arm.modCtx.startWakes.ite h.arm.giveAnswer
theorem copyCheck {c m} : (n.copyCheck c m).OfKind k := h.bump.strikeStep.ite h
theorem busyArm {c m} : (n.busyArm c m).OfKind k := h.answerOnce fun h => h.wr.bump.ackFor

theorem armReceived {p} : (Machine.armReceived p n).OfKind k :=
  h.onMsg fun h =>
    ite
      (h.answerOnce fun h => h.ackFor)
      (ite
        (h.copyCheck.ite h.bump)
        (elseThen (h.noteArm.busyArm.ite (ite (h.noteArm.answerOnce fun h => h.wr.ackFor) h.noteArm.newInstance)) fun h =>
          h.journalKey.modJrnl))

theorem escrowVerdict {p kind act} (hact : ∀ {x m}, m.OfKind k → (act x m).OfKind k) : (Machine.escrowVerdict p kind act n).OfKind k :=
  h.onMsg fun h => h.bump.ite (ite (hact h) h)

theorem confirmCtx {c} : (Machine.confirmCtx c n).OfKind k := h.wr.wr
theorem recallCtx {c} : (Machine.recallCtx c n).OfKind k := h.wr.bump.modCtx
theorem guardExpiry {c} : (Machine.guardExpiry c n).OfKind k := h.ite (h.unconfirmed.ite (h.when fun h => h.unconfirmed))
theorem pruneIssues {c} : (n.pruneIssues c).OfKind k := h.modClr

theorem stepFire {c} : (Machine.stepFire c n).OfKind k :=
  h.when fun h =>
    h.wr.wr.wr.wr.events.andThen fun h =>
      ite (h.modClr.pruneIssues.modCtx.thenIf (fun h => h.modCensus) |>.taint) (h.modClr.pruneIssues.modCtx.thenIf fun h => h.modCensus)

/-! #### The order in a tick -/

theorem abortsFirst : n.abortsFirst.OfKind k := h.overAll (fun h => h.overAll fun h => h.waveReceived) |>.overAll fun h => h.endAborted

theorem takeEscrow {p} : (Machine.takeEscrow p n).OfKind k := by
  unfold Machine.takeEscrow
  split
  · exact h
  · exact h.armReceived.ite (ite (h.escrowVerdict fun h => h.confirmCtx) (h.escrowVerdict fun h => h.recallCtx))

theorem takeEscrows {stop fuel} : (Machine.takeEscrows stop fuel n).OfKind k := by
  induction fuel generalizing n with
  | zero => exact h
  | succ fuel ih =>
    rw [Machine.takeEscrows]
    split
    · exact h
    · split
      · exact h
      · exact h.takeEscrow.ite (ih h.takeEscrow)

theorem messagesFirst : n.messagesFirst.OfKind k := h.abortsFirst.takeEscrows
theorem escrowFirst : n.escrowFirst.OfKind k := h.messagesFirst.overAll fun h => h.guardExpiry.stepFire
theorem releasesFirst : n.releasesFirst.OfKind k := h.escrowFirst.overAll (fun h => h.overAll fun h => h.resultReceived) |>.releasesDue
theorem resultsFirst : n.resultsFirst.OfKind k := h.releasesFirst.decisionsDue.timeoutsDue
theorem entriesBelow {c} : (n.entriesBelow c).OfKind k := h.resultsFirst.overAll fun h => h.serveCtx
theorem entriesFirst : n.entriesFirst.OfKind k := h.entriesBelow

end

end Node.OfKind

theorem Node.kind_entriesBelow (n : Node) (c : Nat) : (n.entriesBelow c).kind = n.kind := Node.OfKind.entriesBelow rfl

theorem Node.ctxCount_entriesBelow (n : Node) (c : Nat) : (n.entriesBelow c).ctxCount = n.ctxCount := Node.ctxCount_congr (n.kind_entriesBelow c)

theorem Node.kind_deadlineEvaluation (n : Node) (c : Nat) : (deadlineEvaluation c n).kind = n.kind := Node.OfKind.deadlineEvaluation rfl

end Sys2Proof.Machine

/-! The entries of a walk (09): an entry at which the walk stands acts on its effective tick, after the interrupt flag, by its operation; what
the walk reads of the table is kept by each of them, so the walk goes on as the table says. -/

namespace Sys2Proof.Machine

/-! ### The walk and its table -/

/-- A counter that no event counts is written and nothing else is (15 R430). -/
theorem Node.addTo_uncounted (n : Node) {o : Nat} (k : Nat) (h : eventOf o = none) :
    n.addTo o k = n.wr o ((n.rd o + k) % 2 ^ widthOf n.kind o) := by
  rw [Node.addTo, h]

/-- The headers and entries of all slots stay, those of numbers beyond the configuration too. -/
def Node.KeepsTables (n m : Node) : Prop := ∀ t, m.header t = n.header t ∧ m.rd (Ob.tab_entries t) = n.rd (Ob.tab_entries t)

theorem Node.KeepsTables.trans {n m k : Node} (h : n.KeepsTables m) (g : m.KeepsTables k) : n.KeepsTables k :=
  fun t => ⟨(g t).1.trans (h t).1, (g t).2.trans (h t).2⟩

theorem Node.keepsTables_wr (n : Node) {o v : Nat} (h : o < 0x401000 ∨ o % 256 ≠ 1 ∧ o % 256 ≠ 2) : n.KeepsTables (n.wr o v) := fun t =>
  ⟨n.rd_wr_ne v (by unfold Ob.tab_header; omega), n.rd_wr_ne v (by unfold Ob.tab_entries; omega)⟩

theorem Node.keepsTables_irqEvent (n : Node) (s : Nat) : n.KeepsTables (n.irqEvent s) := by
  unfold Node.irqEvent
  split
  · exact fun _ => ⟨rfl, rfl⟩
  · split
    · exact fun _ => ⟨rfl, rfl⟩
    · exact n.keepsTables_wr (.inl (by decide))

theorem Node.KeepsTables.stepEntries {n m : Node} {c : Nat} (h : n.KeepsTables m) (table : (m.ctxOf c).table = (n.ctxOf c).table) :
    m.stepEntries c = n.stepEntries c := by
  obtain ⟨header, entries⟩ := h (n.ctxOf c).table
  rw [Node.stepEntries, table, Node.entries, header, entries]
  rfl

/-- A walk that moves on changes its own place and what the step status shows of it (09 R244, R260). -/
theorem Node.ctxOf_advance (n : Node) (c i it : Nat) (take : Option Nat) : ∃ e j,
    (n.advance c i it take).ctxOf c = { n.ctxOf c with
      entry := (nextPos (n.stepEntries c) i it take).1, iter := (nextPos (n.stepEntries c) i it take).2, shownE := e, shownI := j } := by
  rw [Node.advance, Node.showWalk, Node.modCtx_ctxOf_same, Node.modCtx_ctxOf_same]
  exact ⟨_, _, rfl⟩

theorem Node.ctxOf_advance_ne (n : Node) {c d : Nat} (i it : Nat) (take : Option Nat) (h : d ≠ c) : (n.advance c i it take).ctxOf d = n.ctxOf d := by
  rw [Node.advance, Node.showWalk, Node.modCtx_ctxOf_ne _ _ h.symm, Node.modCtx_ctxOf_ne _ _ h.symm]

@[simp] theorem Node.rd_advance (n : Node) (c i it : Nat) (take : Option Nat) (o : Nat) : (n.advance c i it take).rd o = n.rd o := rfl
@[simp] theorem Node.objs_advance (n : Node) (c i it : Nat) (take : Option Nat) : (n.advance c i it take).objs = n.objs := rfl

/-- From a unit that differs in other things the walk goes to the same place. -/
theorem goesTo_advance {n m : Node} {c : Nat} (i it : Nat) (take : Option Nat)
    (place : nextPos (m.stepEntries c) i it take = nextPos (n.stepEntries c) i it take) (others : ∀ d, d ≠ c → m.ctxOf d = n.ctxOf d) :
    GoesTo n (m.advance c i it take) c (nextPos (n.stepEntries c) i it take) := by
  obtain ⟨e, j, ctx⟩ := m.ctxOf_advance c i it take
  rw [place] at ctx
  exact ⟨by rw [ctx], by rw [ctx], fun d hd => (m.ctxOf_advance_ne i it take hd).trans (others d hd)⟩

/-! ### The entry at which a walk stands -/

section
variable {n : Node} {c op e i it t : Nat} (h : StandsAt n c op e i it t)
include h

theorem dueOp_of_standsAt : n.dueOp c = if t ≤ n.tb1 then some op else none := by
  obtain ⟨fired, walk, place, inside, entry, opcode, tick⟩ := h
  simp [Node.dueOp, place, fired, walk, inside, ← opcode, ← entry, tick]

/-- Before its tick an entry does nothing (09 R229). -/
theorem onEntry_early (early : n.tb1 < t) (op' : Nat) (act : Nat → Nat → Nat → Nat → Node → Node) : onEntry c op' act n = n := by
  simp [onEntry, when, dueOp_of_standsAt h, not_le.mpr early]

end

/-- The unit as an entry finds it: its interrupt flag has asserted the source (09 R224). -/
def Node.flagged (n : Node) (c e : Nat) : Node := if eIrq e then n.irqEvent (0x40 + c) else n

theorem onEntry_due {n : Node} {c op e i it t : Nat} (h : StandsAt n c op e i it t) (due : t ≤ n.tb1)
    (act : Nat → Nat → Nat → Nat → Node → Node) : onEntry c op act n = act e i it t (n.flagged c e) := by
  have dueOp := dueOp_of_standsAt h
  obtain ⟨-, -, place, -, entry, -, tick⟩ := h
  rw [if_pos due] at dueOp
  simp [onEntry, when, place, dueOp, ← entry, tick, Node.flagged]

theorem Node.recOnly_flagged (n : Node) (c e : Nat) : recOnly n (n.flagged c e) := by
  unfold Node.flagged
  split
  · exact n.irqEvent_frame _
  · exact recOnly.refl n

@[simp] theorem Node.ctxOf_flagged (n : Node) (c e d : Nat) : (n.flagged c e).ctxOf d = n.ctxOf d := (n.recOnly_flagged c e).ctxOf d

theorem Node.keepsTables_flagged (n : Node) (c e : Nat) : n.KeepsTables (n.flagged c e) := by
  unfold Node.flagged
  split
  · exact n.keepsTables_irqEvent _
  · exact fun _ => ⟨rfl, rfl⟩

theorem Node.rd_flagged (n : Node) (c e : Nat) {o : Nat} (ho : isRecObj o = false) : (n.flagged c e).rd o = n.rd o := by
  unfold Node.flagged
  split
  · exact n.rd_irqEvent _ ho
  · rfl

theorem Node.stepEntries_flagged (n : Node) (c e : Nat) : (n.flagged c e).stepEntries c = n.stepEntries c :=
  (n.keepsTables_flagged c e).stepEntries (by simp)

theorem Node.flagged_of_not {n : Node} (c : Nat) {e : Nat} (h : eIrq e = false) : n.flagged c e = n := by simp [Node.flagged, h]

/-- The source that the flag of an entry asserts (09 R224). -/
theorem Node.pending_flagged {n : Node} {c e : Nat} (hc : c < n.ctxCount) (flag : eIrq e = true) :
    bit ((n.flagged c e).rd Ob.irq_pending) (0x40 + c) = true := by
  have c64 := Node.ctx_lt hc
  have event : isCondition (0x40 + c) = false := by
    have low : Nat.ble 0x080 (0x40 + c) = false := by
      rw [← Bool.not_eq_true, Nat.ble_eq]
      omega
    have high : Nat.ble 0x110 (0x40 + c) = false := by
      rw [← Bool.not_eq_true, Nat.ble_eq]
      omega
    rw [isCondition, low, high]
    rfl
  rw [Node.flagged, flag, if_pos rfl, Node.bit_pending_irqEvent (Node.isHub_of_ctx hc) (by omega) event]
  simp

end Sys2Proof.Machine

namespace Sys2Proof.Machine

/-! ### What each entry does -/

section
variable {s : State} {c op e i it t : Nat} (hc : c < s.tsu.ctxCount)
include hc

theorem works_of_ctx : Works s .tsu := works_tsu (Node.isHub_of_ctx hc)

omit hc in
theorem entryRow_eq (act : Nat → Nat → Nat → Nat → Node → Node) :
    entryRow c op act s = onNode s .tsu (decide (c < s.tsu.ctxCount)) (fun n => onEntry c op act (n.entriesBelow c)) := rfl

/-- An entry whose tick has come does its operation on the unit after the interrupt flag (09 R229). -/
theorem runsOn_entry {x : Instr} {act : Nat → Nat → Nat → Nat → Node → Node} {P : Node → Prop} (hx : exec x s = entryRow c op act s)
    (stands : StandsAt (s.tsu.entriesBelow c) c op e i it t) (due : t ≤ (s.tsu.entriesBelow c).tb1)
    (h : P (act e i it t ((s.tsu.entriesBelow c).flagged c e))) : RunsOn .tsu x s P := by
  refine runsOn_node (works_of_ctx hc) (hx.trans (entryRow_eq act)) (decide_eq_true hc) ?_
  rw [State.node, onEntry_due stands due]
  exact h

theorem exec_entry_early {x : Instr} {act : Nat → Nat → Nat → Nat → Node → Node} {op' : Nat} (hx : exec x s = entryRow c op' act s)
    (stands : StandsAt (s.tsu.entriesBelow c) c op e i it t) (early : (s.tsu.entriesBelow c).tb1 < t) :
    exec x s = .next { s with tsu := s.tsu.entriesBelow c } := by
  rw [exec_node (works_of_ctx hc) (hx.trans (entryRow_eq act)) (decide_eq_true hc), State.node, onEntry_early stands early]
  rfl

end

section
variable {n : Node} {c : Nat} (e i it t : Nat)

/-- The walk goes on from a unit after the interrupt flag, whatever of the context but its table the entry has changed. -/
theorem goesTo_entry {m : Node} (take : Option Nat) (tables : (n.flagged c e).KeepsTables m) (table : (m.ctxOf c).table = (n.ctxOf c).table)
    (others : ∀ d, d ≠ c → m.ctxOf d = n.ctxOf d) : GoesTo n (m.advance c i it take) c (nextPos (n.stepEntries c) i it take) :=
  goesTo_advance i it take (by rw [((n.keepsTables_flagged c e).trans tables).stepEntries table]) others

theorem goesTo_flagged (take : Option Nat) : GoesTo n ((n.flagged c e).advance c i it take) c (nextPos (n.stepEntries c) i it take) :=
  goesTo_entry e i it take (fun _ => ⟨rfl, rfl⟩) (by simp) fun d _ => n.ctxOf_flagged c e d

theorem goesTo_modCtx (f : Ctx → Ctx) (take : Option Nat) (table : ∀ x, (f x).table = x.table) :
    GoesTo n (((n.flagged c e).modCtx c f).advance c i it take) c (nextPos (n.stepEntries c) i it take) :=
  goesTo_entry e i it take (fun _ => ⟨rfl, rfl⟩) (by simp [table]) fun d hd => by rw [Node.modCtx_ctxOf_ne _ _ hd.symm, Node.ctxOf_flagged]

theorem eventOf_marksDropped (hc : c < 64) : eventOf (Ob.seq_marksDropped c) = none := by
  have all : ∀ d < 64, eventOf (Ob.seq_marksDropped d) = none := by decide +kernel
  exact all c hc

/-- The mark queue takes a record while it holds fewer than 16, and counts one otherwise (09 R242). -/
theorem entryMark_room (room : (n.ctxOf c).marks.length < 16) : entryMark c e i it t n =
    (n.modCtx c (fun x => { x with marks := x.marks ++ [markRecord x.step i t (fld e 79 64) it] })).advance c i it none := by
  rw [entryMark, if_pos room]

theorem entryMark_full (full : 16 ≤ (n.ctxOf c).marks.length) : entryMark c e i it t n = (n.bump (Ob.seq_marksDropped c)).advance c i it none := by
  rw [entryMark, if_neg (not_lt.mpr full)]

theorem Node.bump_marksDropped (hc : c < n.ctxCount) :
    n.bump (Ob.seq_marksDropped c) = n.wr (Ob.seq_marksDropped c) ((n.rd (Ob.seq_marksDropped c) + 1) % 2 ^ 64) := by
  rw [Node.bump, Node.addTo_uncounted _ _ (eventOf_marksDropped (Node.ctx_lt hc)), widthOf_stepCounters hc 7 (by decide)]

/-- A pulse asserts its source (09 R244). -/
theorem pending_pulse (tsu : n.isHub = false) (f : Nat) :
    bit ((n.irqEvent (0x100 + fld e 79 76)).rd Ob.irq_pending) f = (f == 0x100 + fld e 79 76 || bit (n.rd Ob.irq_pending) f) := by
  have small : fld e 79 76 < 16 := Nat.mod_lt _ (by decide)
  have event : ∀ k < 16, isCondition (0x100 + k) = false := by decide
  exact Node.bit_pending_irqEvent tsu (by omega) (event _ small) f

theorem nextPos_loop {es : List Nat} {it : Nat} (entry : es.getD i 0 = e) (loop : eOp e = 13) :
    nextPos es i it none = if it < lpCount e then (lpTarget e, it + 1) else (i + 1, 0) := by
  simp [nextPos, ← entry] at loop ⊢
  simp [loop]

/-- A BRANCH whose result is absent faults, and the walk stops where it stands (09 R239). -/
theorem struck_absent (hc : c < 64) (fired : n.fired c = true) (walk : n.walk c = 1) (hnd : Nat) : n.Struck c 0x3C (n.absent c hnd i) :=
  Node.struck_deadlineFault hc fired _ _ (.inl walk) (by decide) (by decide)

end

theorem fired_flagged (n : Node) {c : Nat} (e : Nat) (hc : c < 64) : (n.flagged c e).fired c = n.fired c := by
  unfold Node.fired Node.escrow
  rw [n.rd_flagged c e (isRecObj_of_index (by unfold Ob.ctx_escrowState; omega))]

theorem walk_flagged (n : Node) {c : Nat} (e : Nat) (hc : c < 64) : (n.flagged c e).walk c = n.walk c :=
  n.rd_flagged c e (isRecObj_of_index (by unfold Ob.seq_walkState; omega))

/-- An interrupt flag leaves what a strike of the step reads of it. -/
theorem Node.Struck.of_flagged {n m : Node} {c e cause : Nat} (h : (n.flagged c e).Struck c cause m) : n.Struck c cause m where
  recorded := h.recorded.of_count (Node.causeCount_congr (by
    unfold Node.flagged
    split
    · exact n.rd_causeCounts_irqEvent _
    · rfl) _)
  struck := h.struck
  ctx := by rw [h.ctx, Node.ctxOf_flagged]
  clr := h.clr.trans (n.recOnly_flagged c e).clr

end Sys2Proof.Machine

namespace Sys2Proof.Machine

/-! ### Marks -/

theorem accOnly.ctxOf {n m : Node} (h : accOnly n m) (c : Nat) : m.ctxOf c = n.ctxOf c := by
  have := congrArg (fun x : Node => x.ctxOf c) h
  exact this

/-- A read of the mark object removes the oldest record of its context (09 R242). -/
theorem markRead_ctxOf (n : Node) (c d : Nat) :
    (markRead c n).ctxOf d = (n.modCtx c (fun x => { x with marks := x.marks.drop 1 })).ctxOf d := accOnly.ctxOf (Node.answerData_frame ..) d

theorem markRead_answerOf (n : Node) (c : Nat) : (markRead c n).answerOf 0 = { status := 0, data := (n.ctxOf c).marks.headD 0, len := 24 } :=
  Node.answerOf_answerData ..

theorem markRead_marks (n : Node) (c : Nat) : ((markRead c n).ctxOf c).marks = (n.ctxOf c).marks.drop 1 := by
  rw [markRead_ctxOf, Node.modCtx_ctxOf_same]

/-! ### The entries at the walk's place -/

section
variable {n : Node} {c e : Nat} (i it t : Nat) (hc : c < n.ctxCount)
include hc

/-- The asserted source stays pending where the sources are left. -/
theorem pending_of_flagged {m : Node} (kept : m.rd Ob.irq_pending = (n.flagged c e).rd Ob.irq_pending) (flag : eIrq e = true) :
    bit (m.rd Ob.irq_pending) (0x40 + c) = true := by
  rw [kept]
  exact Node.pending_flagged hc flag

/-- An entry that changes its context, but for its table, and moves on (09 R229). -/
theorem entryModCtx_spec {m : Node} (f : Ctx → Ctx) (table : ∀ x, (f x).table = x.table)
    (hm : ((n.flagged c e).modCtx c f).advance c i it none = m) :
    GoesTo n m c (nextPos (n.stepEntries c) i it none) ∧ (eIrq e = true → bit (m.rd Ob.irq_pending) (0x40 + c) = true) ∧
    ∃ a b u v, m.ctxOf c = { f (n.ctxOf c) with entry := a, iter := b, shownE := u, shownI := v } := by
  obtain ⟨u, v, ctx⟩ := ((n.flagged c e).modCtx c f).ctxOf_advance c i it none
  have goes := goesTo_modCtx (n := n) (c := c) e i it f none table
  rw [hm] at ctx goes
  rw [Node.modCtx_ctxOf_same, Node.ctxOf_flagged] at ctx
  refine ⟨goes, pending_of_flagged hc ?_, _, _, u, v, ctx⟩
  rw [← hm, Node.rd_advance, Node.modCtx_rd]

theorem entryMark_spec {m : Node} (hm : entryMark c e i it t (n.flagged c e) = m) :
    GoesTo n m c (nextPos (n.stepEntries c) i it none) ∧ (eIrq e = true → bit (m.rd Ob.irq_pending) (0x40 + c) = true) ∧
    ((n.ctxOf c).marks.length < 16 → (m.ctxOf c).marks = (n.ctxOf c).marks ++ [markRecord (n.ctxOf c).step i t (fld e 79 64) it]) ∧
    (16 ≤ (n.ctxOf c).marks.length → (m.ctxOf c).marks = (n.ctxOf c).marks ∧
      m.rd (Ob.seq_marksDropped c) = (n.rd (Ob.seq_marksDropped c) + 1) % 2 ^ 64) := by
  have c64 := Node.ctx_lt hc
  rcases lt_or_ge (n.ctxOf c).marks.length 16 with room | full
  · rw [entryMark_room e i it t (by rwa [Node.ctxOf_flagged])] at hm
    obtain ⟨goes, flag, _, _, _, _, ctx⟩ := entryModCtx_spec (n := n) (e := e) i it hc
      (fun x => { x with marks := x.marks ++ [markRecord x.step i t (fld e 79 64) it] }) (fun _ => rfl) hm
    exact ⟨goes, flag, fun _ => by rw [ctx], fun full => absurd room (not_lt.mpr full)⟩
  · have kind : (n.flagged c e).kind = n.kind := (n.recOnly_flagged c e).kind
    have rd : (n.flagged c e).rd (Ob.seq_marksDropped c) = n.rd (Ob.seq_marksDropped c) :=
      n.rd_flagged c e (isRecObj_of_index (by unfold Ob.seq_marksDropped; omega))
    rw [entryMark_full e i it t (by rwa [Node.ctxOf_flagged]), Node.bump_marksDropped (by rwa [Node.ctxCount_congr kind]), rd] at hm
    set k := (n.flagged c e).wr (Ob.seq_marksDropped c) ((n.rd (Ob.seq_marksDropped c) + 1) % 2 ^ 64) with hk
    have ctxOf (d : Nat) : k.ctxOf d = n.ctxOf d := (Node.wr_ctxOf ..).trans (n.ctxOf_flagged c e d)
    obtain ⟨_, _, ctx⟩ := k.ctxOf_advance c i it none
    rw [← hm]
    refine ⟨goesTo_entry e i it none (Node.keepsTables_wr _ (.inr (by unfold Ob.seq_marksDropped; omega))) (by rw [ctxOf]) fun d _ => ctxOf d,
      pending_of_flagged hc ?_, fun room => absurd room (not_lt.mpr full), fun _ => ⟨by rw [ctx, ctxOf], ?_⟩⟩
    · rw [Node.rd_advance, hk, Node.rd_wr_ne _ _ (by unfold Ob.seq_marksDropped Ob.irq_pending; omega)]
    · rw [Node.rd_advance, hk, Node.rd_wr_same]

theorem entryPulse_spec {m : Node} (hm : entryPulse c e i it t (n.flagged c e) = m) :
    GoesTo n m c (nextPos (n.stepEntries c) i it none) ∧ (eIrq e = true → bit (m.rd Ob.irq_pending) (0x40 + c) = true) ∧
    bit (m.rd Ob.irq_pending) (0x100 + fld e 79 76) = true := by
  have tsu : (n.flagged c e).isHub = false := by
    rw [Node.isHub, (n.recOnly_flagged c e).kind]
    exact Node.isHub_of_ctx hc
  have pending := pending_pulse e tsu
  have tables := (n.flagged c e).keepsTables_irqEvent (0x100 + fld e 79 76)
  have ctx (d : Nat) : ((n.flagged c e).irqEvent (0x100 + fld e 79 76)).ctxOf d = n.ctxOf d :=
    ((Node.irqEvent_frame ..).ctxOf d).trans (n.ctxOf_flagged c e d)
  rw [entryPulse] at hm
  rw [← hm, Node.rd_advance, pending, pending]
  refine ⟨goesTo_entry e i it none tables (by rw [ctx]) fun d _ => ctx d, fun flag => ?_, by simp⟩
  rw [Node.pending_flagged hc flag, Bool.or_true]

theorem entryEnd_spec {m : Node} (hm : entryEnd c e i it t (n.flagged c e) = m) :
    (eIrq e = true → bit (m.rd Ob.irq_pending) (0x40 + c) = true) ∧ m.walk c = 3 ∧ m.ctxs = n.ctxs := by
  rw [entryEnd] at hm
  rw [← hm]
  refine ⟨pending_of_flagged hc ?_, Node.rd_wr_same .., (Node.wr_ctxs ..).trans (n.recOnly_flagged c e).ctxs⟩
  rw [Node.rd_wr_ne _ _ (by unfold Ob.seq_walkState Ob.irq_pending; omega)]

end

/-- Settles O30: an entry that is due acts on the unit after its interrupt flag (`runsOn_entry`), and the walk goes on from what the entry leaves
of the table (`goesTo_entry`). -/
theorem entriesActOnTheirEffectiveTick : Obligations.EntriesActOnTheirEffectiveTick := by
  intro s c hc n
  have hn : c < n.ctxCount := by rwa [Node.ctxCount_entriesBelow]
  have works := works_of_ctx hc
  refine ⟨fun op e i it t stands => ⟨fun early => ?_, fun due => ⟨?_, ?_, ?_, ?_, ?_, ?_, ?_, ?_⟩⟩, fun x rest marks => ?_, fun marks => ?_⟩
  · simp only [List.mem_cons, List.not_mem_nil, or_false]
    rintro x (rfl | rfl | rfl | rfl | rfl | rfl | rfl | rfl | rfl | rfl | rfl | rfl) <;> exact exec_entry_early hc rfl stands early
  · rintro rfl
    refine runsOn_entry hc (x := .entryNop c) (act := entryNop c) rfl stands due
      ⟨goesTo_flagged e i it none, pending_of_flagged hn (Node.rd_advance ..), fun silent => ?_⟩
    exact (Node.objs_advance ..).trans (by rw [Node.flagged_of_not c silent])
  · rintro rfl
    obtain ⟨goes, flag, _, _, _, _, ctx⟩ := entryModCtx_spec (m := entryGate c e i it t (n.flagged c e)) i it hn
      (fun x => { x with gates := x.gates ++ [(eGroup e, fld e 73 72, bit e 71, t + 1544)] }) (fun _ => rfl) rfl
    refine runsOn_entry hc (x := .entryGate c) (act := entryGate c) rfl stands due ⟨goes, flag, ?_⟩
    rw [ctx]
  · rintro rfl
    exact runsOn_entry hc (x := .entryMark c) (act := entryMark c) rfl stands due (entryMark_spec i it t hn rfl)
  · rintro rfl
    obtain ⟨goes, flag, _, _, _, _, ctx⟩ := entryModCtx_spec (m := entryAudit c e i it t (n.flagged c e)) i it hn
      (fun x => { x with audit := some (fld e 63 0) }) (fun _ => rfl) rfl
    refine runsOn_entry hc (x := .entryAudit c) (act := entryAudit c) rfl stands due ⟨goes, flag, ?_⟩
    rw [ctx]
  · rintro rfl
    exact runsOn_entry hc (x := .entryPulse c) (act := entryPulse c) rfl stands due (entryPulse_spec i it t hn rfl)
  · rintro rfl
    obtain ⟨-, -, -, -, entry, loop, -⟩ := id stands
    have goes := goesTo_flagged (n := n) (c := c) e i it none
    rw [nextPos_loop e i entry loop] at goes
    refine runsOn_entry hc (x := .entryLoop c) (act := entryLoop c) rfl stands due
      ⟨pending_of_flagged hn (Node.rd_advance ..), fun more => ?_, fun last => ?_⟩
    · rwa [if_pos more] at goes
    · rwa [if_neg (not_lt.mpr last)] at goes
  · rintro rfl
    exact runsOn_entry hc (x := .entryEnd c) (act := entryEnd c) rfl stands due (entryEnd_spec i it t hn rfl)
  · rintro rfl
    have kept (hnd : Nat) : (n.flagged c e).branchResult c hnd = n.branchResult c hnd := by
      unfold Node.branchResult Node.lastResult
      rw [(n.recOnly_flagged c e).clr, Node.ctxOf_flagged]
    refine ⟨fun always => ?_, fun tests b result => ?_, fun tests missing => ?_⟩
    · refine runsOn_entry hc (x := .entryBranch c) (act := entryBranch c) rfl stands due ?_
      rw [entryBranch, if_pos always]
      exact goesTo_flagged e i it _
    · refine runsOn_entry hc (x := .entryBranch c) (act := entryBranch c) rfl stands due ?_
      rw [entryBranch, if_neg (by simp [tests]), kept, result]
      exact goesTo_flagged e i it _
    · obtain ⟨fired, walk, -⟩ := id stands
      have c64 := Node.ctx_lt hc
      have struck := (struck_absent (n := n.flagged c e) i c64 ((fired_flagged n e c64).trans fired)
        ((walk_flagged n e c64).trans walk) (fld e 79 76)).of_flagged
      refine runsOn_entry hc (x := .entryBranch c) (act := entryBranch c) rfl stands due ?_
      rw [entryBranch, if_neg (by simp [tests]), kept, missing]
      refine ⟨struck.recorded, struck.struck, ?_⟩
      rw [struck.ctx]
  · refine runsOn_node (f := markRead c) works rfl (decide_eq_true hc) ⟨?_, ?_, fun d hd => ?_⟩
    · rw [State.node, markRead_answerOf, marks]
      rfl
    · rw [State.node, markRead_marks, marks]
      rfl
    · rw [State.node, markRead_ctxOf, Node.modCtx_ctxOf_ne _ _ hd.symm]
  · refine runsOn_node (f := markRead c) works rfl (decide_eq_true hc) ⟨?_, ?_⟩
    · rw [State.node, markRead_answerOf, marks]
      rfl
    · rw [State.node, markRead_marks, marks]
      rfl

end Sys2Proof.Machine

/-! The waits and requests of the sequencer (09): a WAIT reads its condition from what an interrupt flag leaves alone. A release that satisfies
it taints the step, which writes the low bits of an object that, at a table number of no configuration, is the step's table: the walk reads none
of them. -/

namespace Sys2Proof.Machine

/-! ### What the walk reads of a table -/

/-- An entry without its low 16 bits. -/
def eHigh (e : Nat) : Nat := e / 2 ^ 16 * 2 ^ 16

theorem fld_eHigh (e hi : Nat) {lo : Nat} (h : 16 ≤ lo) : fld (eHigh e) hi lo = fld e hi lo := by
  obtain ⟨d, rfl⟩ := Nat.exists_eq_add_of_le h
  rw [fld, fld, bits, bits, pow_add 2 16 d, ← Nat.div_div_eq_div_mul, ← Nat.div_div_eq_div_mul, eHigh, Nat.mul_div_cancel _ (by norm_num)]

@[simp] theorem eOp_eHigh (e : Nat) : eOp (eHigh e) = eOp e := fld_eHigh e 127 (by decide)
@[simp] theorem lpTarget_eHigh (e : Nat) : lpTarget (eHigh e) = lpTarget e := fld_eHigh e 79 (by decide)
@[simp] theorem lpCount_eHigh (e : Nat) : lpCount (eHigh e) = lpCount e := fld_eHigh e 67 (by decide)

theorem loopAt_map_eHigh (es : List Nat) (i : Nat) : (loopAt (es.map eHigh) i).map (·.2) = (loopAt es i).map (·.2) := by
  have test : ((fun e : Nat × Nat => eOp e.1 == 13 && decide (lpTarget e.1 ≤ i)) ∘ Prod.map eHigh id) =
      fun e => eOp e.1 == 13 && decide (lpTarget e.1 ≤ i) := by
    funext e
    simp only [Function.comp, Prod.map_fst, eOp_eHigh, lpTarget_eHigh]
  rw [loopAt, loopAt, List.zipIdx_map, ← List.map_drop, List.find?_map, test, Option.map_map]
  rfl

/-- The next place of a walk does not depend on the low 16 bits of the entries (09 R244). -/
theorem nextPos_map_eHigh (es : List Nat) (i it : Nat) (take : Option Nat) : nextPos (es.map eHigh) i it take = nextPos es i it take := by
  have entry : (es.map eHigh).getD i 0 = eHigh (es.getD i 0) := List.getD_map es 0 eHigh
  unfold nextPos
  simp only [entry, eOp_eHigh, lpCount_eHigh, lpTarget_eHigh, loopAt_map_eHigh]

/-- Entries from objects that differ in their low 16 bits alone. -/
theorem entriesOf_map_eHigh (h : Nat) {x y : Nat} (high : y / 2 ^ 16 = x / 2 ^ 16) : (entriesOf h y).map eHigh = (entriesOf h x).map eHigh := by
  have part (z i : Nat) : eHigh (bits z (128 * i) 128) = z / 2 ^ 16 / 2 ^ (128 * i) % 2 ^ 112 * 2 ^ 16 := by
    rw [eHigh, bits, show (2 : Nat) ^ 128 = 2 ^ 16 * 2 ^ 112 by norm_num, Nat.mod_mul_right_div_self, Nat.div_div_eq_div_mul,
      Nat.div_div_eq_div_mul, Nat.mul_comm (2 ^ 16)]
  simp only [entriesOf, List.map_map, Function.comp_def, part, high]

theorem nextPos_congr_high {h x y : Nat} (high : y / 2 ^ 16 = x / 2 ^ 16) (i it : Nat) (take : Option Nat) :
    nextPos (entriesOf h y) i it take = nextPos (entriesOf h x) i it take := by
  rw [← nextPos_map_eHigh, entriesOf_map_eHigh h high, nextPos_map_eHigh]

/-! ### Taint -/

theorem div_add_pow {x k : Nat} (hk : k < 16) (clear : bit x k = false) : (x + 2 ^ k) / 2 ^ 16 = x / 2 ^ 16 := by
  obtain ⟨d, hd⟩ := Nat.exists_eq_add_of_lt hk
  have even : x / 2 ^ k % 2 = 0 := by
    simp only [bit, beq_eq_false_iff_ne] at clear
    omega
  rw [show (2 : Nat) ^ 16 = 2 ^ k * (2 * 2 ^ d) by rw [hd, pow_add, pow_add]; ring, ← Nat.div_div_eq_div_mul, ← Nat.div_div_eq_div_mul,
    ← Nat.div_div_eq_div_mul, ← Nat.div_div_eq_div_mul, Nat.add_div_right _ (by positivity)]
  congr 1
  omega

/-- What a taint of the step of a context may write: its counters, and the low bits of its reasons. -/
structure Node.Taints (n : Node) (c : Nat) (m : Node) : Prop where
  kind : m.kind = n.kind
  ctxs : m.ctxs = n.ctxs
  rd : ∀ o, o ≠ Ob.tag_taintReasons c → o ≠ Ob.tag_taintedSteps c → o ≠ Ob.tctx_taintingReleases c → m.rd o = n.rd o
  high : m.rd (Ob.tag_taintReasons c) / 2 ^ 16 = n.rd (Ob.tag_taintReasons c) / 2 ^ 16

namespace Node.Taints

variable {n m k : Node} {c : Nat}

protected theorem refl (n : Node) (c : Nat) : n.Taints c n := ⟨rfl, rfl, fun _ _ _ _ => rfl, rfl⟩

theorem trans (h : n.Taints c m) (g : m.Taints c k) : n.Taints c k where
  kind := g.kind.trans h.kind
  ctxs := g.ctxs.trans h.ctxs
  rd o h1 h2 h3 := (g.rd o h1 h2 h3).trans (h.rd o h1 h2 h3)
  high := g.high.trans h.high

theorem ctxOf (h : n.Taints c m) (d : Nat) : m.ctxOf d = n.ctxOf d := by rw [Node.ctxOf, h.ctxs, Node.ctxOf]

theorem escrow (h : n.Taints c m) : m.escrow c = n.escrow c :=
  h.rd _ (by unfold Ob.ctx_escrowState Ob.tag_taintReasons; omega) (by unfold Ob.ctx_escrowState Ob.tag_taintedSteps; omega)
    (by unfold Ob.ctx_escrowState Ob.tctx_taintingReleases; omega)

/-- The walk of a tainted step goes where it would have gone. -/
theorem nextPos (h : n.Taints c m) (i it : Nat) (take : Option Nat) :
    Machine.nextPos (m.stepEntries c) i it take = Machine.nextPos (n.stepEntries c) i it take := by
  have header : m.header (n.ctxOf c).table = n.header (n.ctxOf c).table :=
    h.rd _ (by unfold Ob.tab_header Ob.tag_taintReasons; omega) (by unfold Ob.tab_header Ob.tag_taintedSteps; omega)
      (by unfold Ob.tab_header Ob.tctx_taintingReleases; omega)
  rw [Node.stepEntries, h.ctxOf, Node.entries, header]
  refine nextPos_congr_high ?_ i it take
  by_cases same : Ob.tab_entries (n.ctxOf c).table = Ob.tag_taintReasons c
  · rw [same]
    exact h.high
  · rw [h.rd _ same (by unfold Ob.tab_entries Ob.tag_taintedSteps; omega) (by unfold Ob.tab_entries Ob.tctx_taintingReleases; omega)]

end Node.Taints

theorem eventOf_taintCounters {c : Nat} (hc : c < 64) : eventOf (Ob.tag_taintedSteps c) = none ∧ eventOf (Ob.tctx_taintingReleases c) = none := by
  have all : ∀ d < 64, eventOf (Ob.tag_taintedSteps d) = none ∧ eventOf (Ob.tctx_taintingReleases d) = none := by decide +kernel
  exact all c hc

section
variable (n : Node) {c : Nat} (hc : c < 64)
include hc

theorem Node.taints_taint {k : Nat} (hk : k < 16) : n.Taints c (n.taint c k) := by
  obtain ⟨tainted, -⟩ := eventOf_taintCounters hc
  have counted : n.Taints c (if n.rd (Ob.tag_taintReasons c) == 0 then n.bump (Ob.tag_taintedSteps c) else n) ∧
      (if n.rd (Ob.tag_taintReasons c) == 0 then n.bump (Ob.tag_taintedSteps c) else n).rd (Ob.tag_taintReasons c) =
        n.rd (Ob.tag_taintReasons c) := by
    have ne : Ob.tag_taintedSteps c ≠ Ob.tag_taintReasons c := by unfold Ob.tag_taintedSteps Ob.tag_taintReasons; omega
    split
    · rw [Node.bump, n.addTo_uncounted 1 tainted]
      exact ⟨⟨rfl, rfl, fun o _ h2 _ => n.rd_wr_ne _ h2.symm, congrArg (· / 2 ^ 16) (n.rd_wr_ne _ ne)⟩, n.rd_wr_ne _ ne⟩
    · exact ⟨.refl n c, rfl⟩
  obtain ⟨frame, reasons⟩ := counted
  unfold Node.taint
  split
  · rename_i fresh
    have clear : bit (n.rd (Ob.tag_taintReasons c)) k = false := by simpa using (Bool.and_eq_true_iff.mp fresh).2
    refine frame.trans ⟨rfl, rfl, fun o h1 _ _ => Node.rd_wr_ne _ _ h1.symm, ?_⟩
    rw [Node.rd_wr_same, div_add_pow hk clear, reasons]
  · exact .refl n c

theorem Node.taints_countTaint (slot num : Nat) : n.Taints c (n.countTaint c slot num) := by
  obtain ⟨-, counter⟩ := eventOf_taintCounters hc
  unfold Node.countTaint
  split
  · exact .refl n c
  · rw [Node.bump, Node.addTo_uncounted _ 1 counter]
    exact ⟨rfl, rfl, fun o _ _ h3 => Node.rd_wr_ne _ _ h3.symm,
      congrArg (· / 2 ^ 16) (Node.rd_wr_ne _ _ (by unfold Ob.tctx_taintingReleases Ob.tag_taintReasons; omega))⟩

theorem Node.taints_taintBy (slot num : Nat) : n.Taints c (n.taintBy c slot num) := by
  have reasons : n.Taints c (overAll [3, 5] (fun m k => if bit ((n.stally c slot).rel num).reasons k then m.taint c k else m) n) := by
    refine overAll_keeps (P := n.Taints c) _ _ (fun m k hk h => ?_) (.refl n c)
    split
    · exact h.trans (m.taints_taint hc (by simp at hk; omega))
    · exact h
  unfold Node.taintBy
  dsimp only
  split
  · exact reasons
  · exact reasons.trans (Node.taints_countTaint _ hc slot num)

/-- A release that satisfies a WAIT does no more than taint the step (11 R298). -/
theorem Node.taints_waitTaint (e tick : Nat) : n.Taints c (n.waitTaint c e tick) := by
  unfold Node.waitTaint
  split
  · dsimp only
    split
    · exact n.taints_taintBy hc _ _
    · exact .refl n c
  · exact .refl n c

end

end Sys2Proof.Machine

namespace Sys2Proof.Machine

/-! ### Waits -/

section
variable (n : Node) (c e : Nat)

theorem rd_flagged_ne {o : Nat} (h : Ob.irq_pending ≠ o) : (n.flagged c e).rd o = n.rd o := by
  unfold Node.flagged Node.irqEvent
  split_ifs
  · rfl
  · rfl
  · exact n.rd_wr_ne _ h
  · rfl

theorem strict_flagged : (n.flagged c e).strict = n.strict := by rw [Node.strict, rd_flagged_ne n c e (by decide), Node.strict]

theorem transEntry_flagged (vid : Nat) : (n.flagged c e).transEntry c vid = n.transEntry c vid := by
  rw [Node.transEntry, rd_flagged_ne n c e (by unfold Ob.irq_pending Ob.tctx_translationTable; omega), Node.transEntry]

theorem waitCase_flagged : (n.flagged c e).waitCase c e = n.waitCase c e := by
  have unit : (n.flagged c e).unitOf 1023 seqCore = n.unitOf 1023 seqCore := by
    rw [Node.unitOf, Node.ident, rd_flagged_ne n c e (by decide), Node.unitOf, Node.ident]
  unfold Node.waitCase Node.spanCase
  simp only [unit, transEntry_flagged, strict_flagged]

theorem waitHolds_flagged (tick : Nat) : (n.flagged c e).waitHolds c e tick = n.waitHolds c e tick := by
  have group (r g : Nat) : (n.flagged c e).inGroup r g = n.inGroup r g := by
    rw [Node.inGroup, rd_flagged_ne n c e (by unfold Ob.irq_pending Ob.agent_groupMask; omega), Node.inGroup]
  unfold Node.waitHolds
  simp only [Node.ctxOf_flagged, transEntry_flagged, group, (n.recOnly_flagged c e).clr]

end

/-- A WAIT on a group holds when each run of the group has ended for 1,024 ticks (09 R235). -/
theorem waitHolds_group {n : Node} {c e tick : Nat} (kind : fld e 79 78 = 1) :
    n.waitHolds c e tick = true ↔
      ∀ r ∈ (n.ctxOf c).launched, n.inGroup r.region (fld e 77 66) = true → ∃ f, r.fin = some f ∧ f + 1024 ≤ tick := by
  have ended (f : Option Nat) : (match f with | some f => decide (f + 1024 ≤ tick) | none => false) = true ↔
      ∃ g, f = some g ∧ g + 1024 ≤ tick := by
    cases f <;> simp
  simp only [Node.waitHolds, kind, Nat.reduceBEq, Bool.false_eq_true, if_false, if_true, List.all_eq_true, List.mem_filter, and_imp]
  exact forall₃_congr fun r _ _ => ended r.fin

section
variable {n : Node} {c e i it t : Nat} (c64 : c < 64)
include c64

/-- A fault of a tally that sends a wave strikes the step of a fired context (11 R315). -/
theorem struck_tallyFault (fired : n.fired c = true) (walk : n.walk c = 1) {cause : Nat} (u obj detail : Nat) (h0 : cause ≠ 0)
    (h14 : cause ≠ 0x14) : n.Struck c cause (n.tallyFault cause c u obj detail true) := by
  rw [Node.tallyFault, if_pos rfl, Node.waveStep_fired ((n.fired_fault _ c64).trans fired)]
  exact Node.struck_fault c64 fired
    { cause := cause, span := n.span, die := some (fld u 49 30), region := unitRegion u, core := unitCore u, ctx := c, obj := obj
      detail := detail } (.inl walk) h0 h14

/-- A WAIT that is refused strikes the step (11 R291). -/
theorem entryWait_refused (fired : n.fired c = true) (walk : n.walk c = 1) (refused : n.waitCase c e ≠ 0) :
    n.Struck c 0x44 (entryWait c e i it t n) := by
  rw [entryWait, if_pos (bne_iff_ne.mpr refused)]
  exact struck_tallyFault c64 fired walk _ _ _ (by decide) (by decide)

/-- Under Strict a WAIT whose condition does not hold strikes the step (09 R235). -/
theorem entryWait_strict (fired : n.fired c = true) (walk : n.walk c = 1) (allowed : n.waitCase c e = 0) (waits : n.waitHolds c e t = false)
    (strict : n.strict = true) : n.Struck c 0x3D (entryWait c e i it t n) := by
  rw [entryWait, allowed, waits, strict, if_neg (by decide), if_neg (by decide), if_pos rfl]
  exact Node.struck_deadlineFault c64 fired _ _ (.inl walk) (by decide) (by decide)

omit c64 in
/-- Outside Strict the walk holds (09 R235). -/
theorem entryWait_held (allowed : n.waitCase c e = 0) (waits : n.waitHolds c e t = false) (loose : n.strict = false) :
    entryWait c e i it t n = (n.wr (Ob.seq_walkState c) 2).modCtx c (fun x => { x with waitE := some t }) := by
  rw [entryWait, allowed, waits, loose, if_neg (by decide), if_neg (by decide), if_neg (by decide)]

omit c64 in
theorem entryWait_passes (allowed : n.waitCase c e = 0) (holds : n.waitHolds c e t = true) :
    entryWait c e i it t n = (n.waitTaint c e t).advance c i it none := by
  rw [entryWait, allowed, holds, if_neg (by decide), if_pos rfl]

end

end Sys2Proof.Machine

namespace Sys2Proof.Machine

section
variable {n : Node} {c : Nat}

theorem eventOf_slip {c : Nat} (hc : c < 64) : eventOf (Ob.seq_slip c) = none := by
  have all : ∀ d < 64, eventOf (Ob.seq_slip d) = none := by decide +kernel
  exact all c hc

/-- The unit of a step that resumes, from its taint on (09 R236). -/
def Node.resumed (a : Node) (c i it slip : Nat) : Node :=
  (((a.addTo (Ob.seq_slip c) slip).wr (Ob.seq_walkState c) 1).modCtx c (fun x => { x with slip := x.slip + slip, waitE := none })).advance c i it none

theorem Node.resumed_eq {a : Node} (hc : c < a.ctxCount) (i it slip : Nat) : a.resumed c i it slip =
    (((a.wr (Ob.seq_slip c) ((a.rd (Ob.seq_slip c) + slip) % 2 ^ 64)).wr (Ob.seq_walkState c) 1).modCtx c
      (fun x => { x with slip := x.slip + slip, waitE := none })).advance c i it none := by
  rw [Node.resumed, a.addTo_uncounted _ (eventOf_slip (Node.ctx_lt hc)), widthOf_stepCounters hc 12 (by decide)]

section
variable {a : Node} (hc : c < a.ctxCount) (i it slip : Nat)
include hc

theorem Node.rd_resumed {o : Nat} (hs : Ob.seq_slip c ≠ o) (hw : Ob.seq_walkState c ≠ o) : (a.resumed c i it slip).rd o = a.rd o := by
  rw [Node.resumed_eq hc, Node.rd_advance, Node.modCtx_rd, Node.rd_wr_ne _ _ hw, Node.rd_wr_ne _ _ hs]

theorem Node.walk_resumed : (a.resumed c i it slip).walk c = 1 := by
  rw [Node.resumed_eq hc, Node.walk, Node.rd_advance, Node.modCtx_rd, Node.rd_wr_same]

theorem Node.rd_slip_resumed : (a.resumed c i it slip).rd (Ob.seq_slip c) = (a.rd (Ob.seq_slip c) + slip) % 2 ^ 64 := by
  rw [Node.resumed_eq hc, Node.rd_advance, Node.modCtx_rd, Node.rd_wr_ne _ _ (by unfold Ob.seq_walkState Ob.seq_slip; omega), Node.rd_wr_same]

theorem Node.ctxOf_resumed :
    ((a.resumed c i it slip).ctxOf c).slip = (a.ctxOf c).slip + slip ∧ ((a.resumed c i it slip).ctxOf c).waitE = none := by
  rw [Node.resumed_eq hc]
  obtain ⟨u, v, ctx⟩ := Node.ctxOf_advance (((a.wr (Ob.seq_slip c) ((a.rd (Ob.seq_slip c) + slip) % 2 ^ 64)).wr (Ob.seq_walkState c) 1).modCtx c
    (fun x => { x with slip := x.slip + slip, waitE := none })) c i it none
  rw [ctx, Node.modCtx_ctxOf_same, Node.wr_ctxOf, Node.wr_ctxOf]
  exact ⟨rfl, rfl⟩

theorem Node.goesTo_resumed {n : Node} (taints : n.Taints c a) :
    GoesTo n (a.resumed c i it slip) c (nextPos (n.stepEntries c) i it none) := by
  rw [Node.resumed_eq hc]
  have tables := (a.keepsTables_wr (v := (a.rd (Ob.seq_slip c) + slip) % 2 ^ 64) (o := Ob.seq_slip c) (.inr (by unfold Ob.seq_slip; omega))).trans
    (Node.keepsTables_wr _ (o := Ob.seq_walkState c) (v := 1) (.inr (by unfold Ob.seq_walkState; omega)))
  have place : (((a.wr (Ob.seq_slip c) ((a.rd (Ob.seq_slip c) + slip) % 2 ^ 64)).wr (Ob.seq_walkState c) 1).modCtx c
      (fun x => { x with slip := x.slip + slip, waitE := none })).stepEntries c = a.stepEntries c := by
    rw [← tables.stepEntries (c := c) rfl]
    exact Node.KeepsTables.stepEntries (fun _ => ⟨rfl, rfl⟩) (by rw [Node.modCtx_ctxOf_same])
  refine goesTo_advance _ _ _ ?_ fun d hd => ?_
  · rw [place]
    exact taints.nextPos ..
  · rw [Node.modCtx_ctxOf_ne _ _ hd.symm, Node.wr_ctxOf, Node.wr_ctxOf, taints.ctxOf]

end

/-- A held walk whose condition holds resumes (09 R236). -/
theorem waitResume_holds {t : Nat} (held : (n.ctxOf c).waitE = some t) (fired : n.fired c = true) (walk : n.walk c = 2)
    (holds : n.waitHolds c ((n.stepEntries c).getD (n.walkAt c).1 0) n.tb1 = true) :
    waitResume c n = ((n.waitTaint c ((n.stepEntries c).getD (n.walkAt c).1 0) n.tb1).taint c 0).resumed c (n.walkAt c).1 (n.walkAt c).2
      (n.tb1 - t) := by
  simp only [Node.resumed, waitResume, held, when, fired, walk, holds, BEq.rfl, Bool.and_self, if_true]

/-- What the walk of a step that resumes leaves: the slip has grown by the ticks held, and is counted; the step is tainted by reason 0 (09 R236). -/
theorem waitResume_spec {t : Nat} (hc : c < n.ctxCount) (held : (n.ctxOf c).waitE = some t) (fired : n.fired c = true) (walk : n.walk c = 2)
    (holds : n.waitHolds c ((n.stepEntries c).getD (n.walkAt c).1 0) n.tb1 = true) {m : Node} (hm : waitResume c n = m) :
    m.walk c = 1 ∧ (m.ctxOf c).slip = (n.ctxOf c).slip + (n.tb1 - t) ∧ (m.ctxOf c).waitE = none ∧
    bit (m.rd (Ob.tag_taintReasons c)) 0 = true ∧ m.rd (Ob.seq_slip c) = (n.rd (Ob.seq_slip c) + (n.tb1 - t)) % 2 ^ 64 ∧
    GoesTo n m c (nextPos (n.stepEntries c) (n.walkAt c).1 (n.walkAt c).2 none) := by
  have c64 := Node.ctx_lt hc
  rw [waitResume_holds held fired walk holds] at hm
  have before := n.taints_waitTaint c64 ((n.stepEntries c).getD (n.walkAt c).1 0) n.tb1
  have taints := before.trans (Node.taints_taint _ c64 (k := 0) (by decide))
  have reason := Node.bit_taint (by rwa [Node.fired, before.escrow] : Node.fired _ c = true) 0
  generalize (n.waitTaint c ((n.stepEntries c).getD (n.walkAt c).1 0) n.tb1).taint c 0 = a at hm taints reason
  have ha : c < a.ctxCount := by rwa [Node.ctxCount_congr taints.kind]
  have slip : a.rd (Ob.seq_slip c) = n.rd (Ob.seq_slip c) :=
    taints.rd _ (by unfold Ob.seq_slip Ob.tag_taintReasons; omega) (by unfold Ob.seq_slip Ob.tag_taintedSteps; omega)
      (by unfold Ob.seq_slip Ob.tctx_taintingReleases; omega)
  obtain ⟨grown, ended⟩ := Node.ctxOf_resumed ha (n.walkAt c).1 (n.walkAt c).2 (n.tb1 - t)
  rw [← hm, Node.rd_slip_resumed ha, slip, Node.rd_resumed ha _ _ _ (by unfold Ob.seq_slip Ob.tag_taintReasons; omega)
    (by unfold Ob.seq_walkState Ob.tag_taintReasons; omega), grown, taints.ctxOf]
  exact ⟨Node.walk_resumed ha .., rfl, ended, reason, rfl, Node.goesTo_resumed ha _ _ _ taints⟩

/-- A CLEAR of a handle whose issue has no result yet finds it absent; any other clears its descriptor and goes on (09 R240, R246). -/
theorem entryClear_live {e i it t : Nat} (sends : clearSends (fld e 67 62 + 1) (n.ctxOf c).step = true)
    (live : ((n.issueOf c (fld e 79 76)).map Issue.live).getD false = true) : entryClear c e i it t n = n.absent c (fld e 79 76) i := by
  simp only [entryClear, sends, live, Bool.and_self, if_true]

theorem entryClear_idle {e i it t : Nat} (idle : ((n.issueOf c (fld e 79 76)).map Issue.live).getD false = false) :
    entryClear c e i it t n = (n.clearAt c (fld e 79 76) (fld e 75 68) t (fld e 67 62 + 1)).advance c i it none := by
  simp only [entryClear, idle, Bool.and_false, Bool.false_eq_true, if_false]

end

/-- Settles O31: a WAIT reads its condition past the interrupt flag, and what a release taints is nothing that the walk reads (`Node.Taints`). -/
theorem waitsHoldOrFaultAndRequestsAreMade : Obligations.WaitsHoldOrFaultAndRequestsAreMade := by
  intro s c hc n
  have hn : c < n.ctxCount := by rwa [Node.ctxCount_entriesBelow]
  have c64 := Node.ctx_lt hc
  refine ⟨fun op e i it t stands due => ?_, fun t held fired walk holds => ?_, fun e tick kind => waitHolds_group kind⟩
  · have fired : (n.flagged c e).fired c = true := (fired_flagged n e c64).trans stands.1
    have walk : (n.flagged c e).walk c = 1 := (walk_flagged n e c64).trans stands.2.1
    have case_ := waitCase_flagged n c e
    have holds_ := waitHolds_flagged n c e t
    have loose := strict_flagged n c e
    refine ⟨?_, ?_, ?_, ?_⟩
    · rintro rfl
      refine ⟨fun refused => ?_, fun allowed holds => ?_, fun allowed waits strict => ?_, fun allowed waits strict => ?_⟩
      · have struck := (entryWait_refused (i := i) (it := it) (t := t) c64 fired walk (by rwa [case_])).of_flagged
        refine runsOn_entry hc (x := .entryWait c) (act := entryWait c) rfl stands due ⟨struck.recorded, struck.struck, ?_⟩
        rw [struck.ctx]
      · refine runsOn_entry hc (x := .entryWait c) (act := entryWait c) rfl stands due ?_
        rw [entryWait_passes (case_.trans allowed) (holds_.trans holds)]
        have taints := (n.flagged c e).taints_waitTaint c64 e t
        refine ⟨goesTo_advance i it none ?_ fun d _ => (taints.ctxOf d).trans (n.ctxOf_flagged c e d), ?_⟩
        · rw [taints.nextPos, n.stepEntries_flagged]
        · rw [Node.walk, Node.rd_advance, taints.rd _ (by unfold Ob.seq_walkState Ob.tag_taintReasons; omega)
            (by unfold Ob.seq_walkState Ob.tag_taintedSteps; omega) (by unfold Ob.seq_walkState Ob.tctx_taintingReleases; omega)]
          exact walk
      · have struck := (entryWait_strict (i := i) (it := it) c64 fired walk (case_.trans allowed) (holds_.trans waits)
          (loose.trans (beq_iff_eq.mpr strict))).of_flagged
        refine runsOn_entry hc (x := .entryWait c) (act := entryWait c) rfl stands due ⟨struck.recorded, struck.struck, ?_⟩
        rw [struck.ctx]
      · refine runsOn_entry hc (x := .entryWait c) (act := entryWait c) rfl stands due ?_
        rw [entryWait_held (case_.trans allowed) (holds_.trans waits) (loose.trans (beq_eq_false_iff_ne.mpr strict))]
        refine ⟨?_, ?_, fun d hd => ?_⟩
        · rw [Node.walk, Node.modCtx_rd, Node.rd_wr_same]
        · rw [Node.modCtx_ctxOf_same, Node.wr_ctxOf, Node.ctxOf_flagged]
        · rw [Node.modCtx_ctxOf_ne _ _ hd.symm, Node.wr_ctxOf, Node.ctxOf_flagged]
    · rintro rfl silent
      refine runsOn_entry hc (x := .entrySignal c) (act := entrySignal c) rfl stands due ?_
      rw [Node.flagged_of_not c silent, entrySignal]
    · rintro rfl silent
      refine runsOn_entry hc (x := .entryArrive c) (act := entryArrive c) rfl stands due ?_
      rw [Node.flagged_of_not c silent, entryArrive]
    · rintro rfl
      refine ⟨fun sends live => ?_, fun idle silent => ?_⟩
      · have issue : (n.flagged c e).issueOf c (fld e 79 76) = n.issueOf c (fld e 79 76) := by
          rw [Node.issueOf, (n.recOnly_flagged c e).clr, Node.issueOf]
        have struck := (struck_absent (n := n.flagged c e) i c64 fired walk (fld e 79 76)).of_flagged
        refine runsOn_entry hc (x := .entryClear c) (act := entryClear c) rfl stands due ?_
        rw [entryClear_live (by rw [Node.ctxOf_flagged, sends]) (by rw [issue, live])]
        exact ⟨struck.recorded, struck.struck, struck.clr⟩
      · refine runsOn_entry hc (x := .entryClear c) (act := entryClear c) rfl stands due ?_
        rw [Node.flagged_of_not c silent, entryClear_idle idle]
  · exact runsOn_node (f := fun n => waitResume c (n.entriesBelow c)) (works_of_ctx hc) rfl (decide_eq_true hc)
      (waitResume_spec hn held fired walk holds rfl)

end Sys2Proof.Machine

/-! Actions, deadlines and the end of a step (09). -/

namespace Sys2Proof.Machine

/-! ### Commit ticks -/

theorem markerFor_spec {e : Nat} (h : 1536 ≤ e) :
    markerFor e % 512 = 0 ∧ markerFor e + 1024 ≤ e ∧ e < markerFor e + 1536 ∧ commitTick e + 1032 ≤ e ∧ e ≤ commitTick e + 1543 := by
  unfold commitTick markerFor
  omega

/-- The actions of a known order that are due have their commit tick passed (09 R229). -/
theorem commitTick_of_dueActions {es : List Nat} {eff : Nat → Nat → Nat} {now fuel i it : Nat} {a : Nat × Nat × Nat}
    (h : a ∈ dueActions es eff now fuel i it) : commitTick a.2.2 ≤ now := by
  induction fuel generalizing i it with
  | zero => simp [dueActions] at h
  | succ fuel ih =>
    unfold dueActions at h
    split at h
    · simp at h
    · dsimp only at h
      split at h
      · exact ih h
      · split at h
        · simp at h
        · rename_i inTime
          split at h
          · rcases List.mem_cons.mp h with rfl | later
            · simp only [Bool.or_eq_true, decide_eq_true_eq, not_or, not_lt] at inTime
              exact inTime.1.1
            · exact ih later
          · exact ih h

theorem actionsDue_spec {n : Node} {c : Nat} {a : Nat × Nat × Nat} (h : a ∈ n.actionsDue c) :
    commitTick a.2.2 ≤ n.tb1 ∧ (a.1, a.2.1) ∉ (n.ctxOf c).committed := by
  unfold Node.actionsDue at h
  obtain ⟨due, fresh⟩ := List.mem_filter.mp h
  refine ⟨?_, by simpa using fresh⟩
  rcases List.mem_append.mp due with entry | cut
  · split at entry
    · simp at entry
    · exact commitTick_of_dueActions (List.mem_of_mem_filter entry)
  · split at cut
    · split at cut
      · obtain rfl := List.mem_singleton.mp cut
        assumption
      · simp at cut
    · simp at cut

/-! ### A step that is not confirmed -/

section
variable {n : Node} {c : Nat} (c64 : c < 64)
include c64

/-- A wave for a step that has not fired aborts nothing yet (09 R256). -/
theorem raiseWave_unfired (cause : Nat) (unfired : n.fired c = false) : n.raiseWave c cause = n.sendWave c cause := by
  rw [Node.raiseWave_eq, Node.abortStep, Node.fired_sendWave cause c64, unfired, if_neg Bool.false_ne_true]

/-- A fault before the fire ends the step with outcome 5 (10 R265). -/
theorem strikeStep_armed {cause : Nat} (obj detail : Nat) (armed : n.escrow c = 1) (h3e : cause ≠ 0x3E) (h3f : cause ≠ 0x3F) :
    n.strikeStep c cause obj detail = ((n.ctxFault cause c obj detail).sendWave c cause).endStep c 5 cause := by
  have told : (n.ctxFault cause c obj detail).escrow c = 1 :=
    (n.rd_fault _ (isRecObj_of_index (by unfold Ob.ctx_escrowState; omega))).trans armed
  have unfired : (n.ctxFault cause c obj detail).fired c = false := by rw [Node.fired, told]; rfl
  simp [Node.strikeStep, Node.waveStep, told, h3e, h3f, raiseWave_unfired c64 _ unfired, Node.endUnfired]

/-- What a step that is struck while it is ARMED leaves: its context is IDLE, and the next step number is past it (09 R249, 10 R265). -/
theorem strikeStep_armed_spec {cause : Nat} (obj detail : Nat) (armed : n.escrow c = 1) (other : cause ∉ [0x14, 0x3E, 0x3F, 0x53]) {m : Node}
    (hm : n.strikeStep c cause obj detail = m) : m.escrow c = 0 ∧ n.recorded m cause ∧ m.bus.placed = n.bus.placed ∧
    m.rd (Ob.seq_nextStepNumber c) = ((n.ctxOf c).step + 1) % 2 ^ 48 ∧ fieldAt (m.rd (Ob.seq_lastOutcome c)) 8 1 = 5 := by
  simp only [List.mem_cons, List.not_mem_nil, or_false, not_or] at other
  obtain ⟨h14, h3e, h3f, h53⟩ := other
  rw [strikeStep_armed c64 _ _ armed h3e h3f] at hm
  have told : n.recorded (n.ctxFault cause c obj detail) cause :=
    n.recorded_fault { cause := cause, span := n.span, ctx := c, obj := obj, detail := detail }
  have frame : recOnly n (n.ctxFault cause c obj detail) := n.fault_frame _
  have escrow : (n.ctxFault cause c obj detail).fired c = false := by
    rw [Node.fired, Node.escrow, Node.ctxFault, n.rd_fault _ (isRecObj_of_index (by unfold Ob.ctx_escrowState; omega)), ← Node.escrow, armed]
    rfl
  generalize n.ctxFault cause c obj detail = f at hm told frame escrow
  have waved := f.sendWave_actsOn c cause (isStepObj c)
  have unfired : (f.sendWave c cause).fired c = false := (Node.fired_sendWave cause c64).trans escrow
  have step : ((f.sendWave c cause).ctxOf c).step = (n.ctxOf c).step := by rw [Node.ctxOf_sendWave, frame.ctxOf]
  generalize f.sendWave c cause = w at hm waved unfired step
  have ended := w.endStep_actsOn 5 cause c64
  rw [← hm]
  refine ⟨(w.endStep_idle 5 cause c64).1, ?_, ?_, ?_, (w.endStep_outcome 5 cause c64).2⟩
  · exact (told.trans_count (waved.count _ (by simpa using h14))).trans_count (ended.count _ (by simpa using h53))
  · rw [ended.placed, waved.placed, frame.bus]
  · rw [w.endStep_nextStep 5 cause c64, unfired, if_neg Bool.false_ne_true, step]

/-- A step that is unconfirmed at its horizon ends unfired (09 R230). -/
theorem unconfirmed_spec (kind : Nat) (armed : n.escrow c = 1) {m : Node} (hm : n.unconfirmed c kind = m) :
    m.escrow c = 0 ∧ n.recorded m 0x31 ∧ m.bus.placed = n.bus.placed ∧
    m.rd (Ob.seq_nextStepNumber c) = ((n.ctxOf c).step + 1) % 2 ^ 48 ∧ fieldAt (m.rd (Ob.seq_lastOutcome c)) 8 1 = 5 := by
  have counted : n.ActsOn c (isStepObj c) [] (n.bump (Ob.ctx_unconfirmed c)) :=
    (Node.ActsOn.refl ..).bump (mayWrite_step (base := 0x4840) (k := 8) c64 (by decide) (.inr (.inl rfl)))
  have still : (n.bump (Ob.ctx_unconfirmed c)).escrow c = 1 :=
    (n.rd_bump_ne (isEcnt_of_not_rec (isRecObj_of_index (by unfold Ob.ctx_escrowState; omega)))
      (by unfold Ob.ctx_unconfirmed Ob.ctx_escrowState; omega)).trans armed
  obtain ⟨escrow, recorded, placed, next, outcome⟩ := strikeStep_armed_spec c64 _ _ still (by decide) hm
  rw [Node.ctxOf_bump] at next
  exact ⟨escrow, recorded.of_count (counted.count _ (by decide)), placed.trans counted.placed, next, outcome⟩

end

/-! ### Actions -/

/-- Nothing falls due in a context at which no entry is due and no walk is held. -/
theorem runDue_idle {n : Node} {c : Nat} (resumes : waitResume c n = n) (none : n.dueOp c = none) (fuel : Nat) : runDue c fuel n = n := by
  cases fuel with
  | zero => rfl
  | succ fuel => rw [runDue, resumes, none]; rfl

theorem waitResume_idle {n : Node} {c : Nat} (h : (n.fired c && n.walk c == 2) = false) : waitResume c n = n := by
  unfold waitResume
  dsimp only
  split
  · rfl
  · rw [h, Bool.false_and]
    rfl

theorem dueOp_unfired {n : Node} {c : Nat} (h : n.fired c = false) : n.dueOp c = none := by simp [Node.dueOp, h]

/-- At a commit tick the one action due of a step CONFIRMED or FIRED is all that is served (09 R229). -/
theorem actionCommit_one {n : Node} {c : Nat} {a : Nat × Nat × Nat} (due : n.actionsDue c = [a])
    (state : n.escrow c = 2 ∨ n.escrow c = 3 ∧ n.dueOp c = none ∧ n.walk c ≠ 2) : actionCommit c n = n.commitAction c a := by
  have idle : runDue c walkBound n = n := by
    rcases state with confirmed | ⟨-, none, runs⟩
    · have unfired : n.fired c = false := by rw [Node.fired, confirmed]; rfl
      exact runDue_idle (waitResume_idle (by rw [unfired]; rfl)) (dueOp_unfired unfired) _
    · exact runDue_idle (waitResume_idle (by rw [beq_eq_false_iff_ne.mpr runs, Bool.and_false])) none _
  have held : n.escrow c = 2 ∨ n.escrow c = 3 := state.imp_right And.left
  have armed : ¬ (n.escrow c == 1) = true := by rcases held with h | h <;> simp [h]
  rw [actionCommit, if_neg armed, Node.serveCtx, idle, Node.commitActions, due, if_pos (by simpa using held)]
  rfl

section
variable {n : Node} {c : Nat} {a : Nat × Nat × Nat} (held : n.escrow c = 2 ∨ n.escrow c = 3) (clean : (n.ctxOf c).cause = 0)
include held clean

theorem commitAction_free (free : n.slotTaken (n.actionOf c a) = none) : n.commitAction c a =
    if a.1 != cutIndex && eIrq ((n.stepEntries c).getD a.1 0) then
      ((n.modBus (fun b => { b with placed := b.placed ++ [n.actionOf c a] })).modCtx c
        (fun x => { x with committed := x.committed ++ [(a.1, a.2.1)] })).irqEvent (0x40 + c)
    else (n.modBus (fun b => { b with placed := b.placed ++ [n.actionOf c a] })).modCtx c
      (fun x => { x with committed := x.committed ++ [(a.1, a.2.1)] }) := by
  rw [Node.commitAction, free, if_neg (by rcases held with h | h <;> simp [h, clean])]

theorem commitAction_taken {o : List Action} (taken : n.slotTaken (n.actionOf c a) = some o) :
    n.commitAction c a = n.slotConflict c a (n.actionOf c a) o := by
  rw [Node.commitAction, taken, if_neg (by rcases held with h | h <;> simp [h, clean])]

/-- An action whose bus slot is free is placed (09 R229). -/
theorem commitAction_free_spec (free : n.slotTaken (n.actionOf c a) = none) {m : Node} (hm : n.commitAction c a = m) :
    m.bus.placed = n.bus.placed ++ [n.actionOf c a] ∧ (a.1, a.2.1) ∈ (m.ctxOf c).committed ∧
    m.rd Ob.cause_causeCounts = n.rd Ob.cause_causeCounts ∧ ∀ d, d ≠ c → m.ctxOf d = n.ctxOf d := by
  rw [commitAction_free held clean free] at hm
  set k := (n.modBus (fun b => { b with placed := b.placed ++ [n.actionOf c a] })).modCtx c
    (fun x => { x with committed := x.committed ++ [(a.1, a.2.1)] }) with hk
  have placed : k.bus.placed = n.bus.placed ++ [n.actionOf c a] := rfl
  have own : (a.1, a.2.1) ∈ (k.ctxOf c).committed := by
    rw [hk, Node.modCtx_ctxOf_same]
    exact List.mem_append_right _ (List.mem_singleton_self _)
  have counts : k.rd Ob.cause_causeCounts = n.rd Ob.cause_causeCounts := rfl
  have others (d : Nat) (hd : d ≠ c) : k.ctxOf d = n.ctxOf d := Node.modCtx_ctxOf_ne _ _ hd.symm
  have frame : recOnly k m ∧ m.rd Ob.cause_causeCounts = k.rd Ob.cause_causeCounts := by
    rw [← hm]
    split
    · exact ⟨k.irqEvent_frame _, k.rd_causeCounts_irqEvent _⟩
    · exact ⟨.refl k, rfl⟩
  obtain ⟨only, kept⟩ := frame
  exact ⟨by rw [only.bus, placed], by rwa [only.ctxOf], kept.trans counts, fun d hd => (only.ctxOf d).trans (others d hd)⟩

end

theorem widthOf_actionConflicts {n : Node} (tsu : n.kind ≠ .hub) : widthOf n.kind Ob.tabs_actionConflicts = 64 := by
  match hk : n.kind with
  | .full => decide +kernel
  | .edge => decide +kernel
  | .hub => exact absurd hk tsu

/-- A strike records its cause, whether the step has fired or not, and places nothing (09 R233). -/
theorem recorded_strikeStep {n : Node} {c cause : Nat} (obj detail : Nat) (c64 : c < 64) (h14 : cause ≠ 0x14) (h53 : cause ≠ 0x53) :
    n.recorded (n.strikeStep c cause obj detail) cause := by
  have told : n.recorded (n.ctxFault cause c obj detail) cause :=
    n.recorded_fault { cause := cause, span := n.span, ctx := c, obj := obj, detail := detail }
  have waved := told.trans_count ((Node.waveStep_actsOn _ cause c64).count cause (by simp [h14, h53]))
  unfold Node.strikeStep
  dsimp only
  split
  · exact waved.trans_count ((Node.placeAbort_actsOn _ (isStepObj c) []).count _ (by simp))
  · exact waved

/-- A fault that strikes a fired step sends its wave and is its cause, if it is the first (09 R256). -/
theorem ctxOf_strikeStep_fired {n : Node} {c : Nat} (cause obj detail : Nat) (c64 : c < 64) (fired : n.fired c = true) :
    (n.strikeStep c cause obj detail).ctxOf c =
      { n.ctxOf c with waveSent := true, waitE := none, cause := if (n.ctxOf c).cause == 0 then cause else (n.ctxOf c).cause } := by
  rw [Node.strikeStep_fired c64 fired, Node.deadlineFault, Node.ctxFault,
    Node.ctxOf_raiseWave cause c64 ((n.fired_fault _ c64).trans fired), Node.ctxOf_fault]

/-- An action that finds its slots taken is recorded and counted, and its step is struck (09 R233). -/
theorem slotConflict_spec {n : Node} {c : Nat} (a : Nat × Nat × Nat) (act : Action) (o : List Action) (hc : c < n.ctxCount)
    (clean : (n.ctxOf c).cause = 0) {m : Node} (hm : n.slotConflict c a act o = m) :
    m.bus.placed = n.bus.placed ∧ n.recorded m 0x3E ∧ m.rd Ob.tabs_actionConflicts = (n.rd Ob.tabs_actionConflicts + 1) % 2 ^ 64 ∧
    (n.fired c = true → (m.ctxOf c).waveSent = true ∧ (m.ctxOf c).cause ≠ 0) := by
  have c64 := Node.ctx_lt hc
  have free : n.ActsOn c (fun _ => false) [] n.takeFree.2.takeFree.2 := (Node.ActsOn.refl ..).same rfl
  have ctx : n.takeFree.2.takeFree.2.ctxOf c = n.ctxOf c := rfl
  rw [Node.slotConflict] at hm
  generalize n.takeFree.2.takeFree.2 = k at hm free ctx
  have rd (o' : Nat) (he : isEndObj o' = false) : k.rd o' = n.rd o' := free.rd o' he rfl
  have conflicts : isEndObj Ob.tabs_actionConflicts = false := by decide
  have counted : (k.bump Ob.tabs_actionConflicts).rd Ob.tabs_actionConflicts = (n.rd Ob.tabs_actionConflicts + 1) % 2 ^ 64 := by
    rw [k.rd_bump_same _ (by decide), free.kind, widthOf_actionConflicts (Node.not_hub_of_ctx hc), rd _ conflicts]
  have causes : (k.bump Ob.tabs_actionConflicts).causeCount 0x3E = n.causeCount 0x3E :=
    (Node.causeCount_congr (k.rd_bump_ne (by decide) (by decide)) _).trans (free.count _ (by simp))
  have placed : (k.bump Ob.tabs_actionConflicts).bus.placed = n.bus.placed := by rw [(recOnly.of_objs (k.bump_frame _)).bus, free.placed]
  have escrow : (k.bump Ob.tabs_actionConflicts).fired c = n.fired c := by
    have index : isEndObj (Ob.ctx_escrowState c) = false := isEndObj_of_index (by unfold Ob.ctx_escrowState; omega)
    rw [Node.fired, Node.escrow, k.rd_bump_ne (isEcnt_of_not_end index) (by unfold Ob.tabs_actionConflicts Ob.ctx_escrowState; omega), rd _ index,
      ← Node.escrow, Node.fired]
  rw [← k.ctxOf_bump Ob.tabs_actionConflicts] at ctx
  generalize k.bump Ob.tabs_actionConflicts = b at hm counted causes placed escrow ctx
  rw [← hm]
  have own : isStepObj c Ob.tabs_actionConflicts = false := by
    simp only [isStepObj, Ob.tabs_actionConflicts, Bool.or_eq_false_iff, beq_eq_false_iff_ne]
    omega
  have acts (obj detail : Nat) := b.strikeStep_actsOn 0x3E obj detail c64
  refine ⟨(acts _ _).placed.trans placed, ?_, ?_, ?_⟩
  · exact (recorded_strikeStep _ _ c64 (by decide) (by decide)).of_count causes
  · exact ((acts _ _).rd _ conflicts own).trans counted
  · intro fired
    rw [ctxOf_strikeStep_fired _ _ _ c64 (escrow.trans fired), ctx, clean]
    exact ⟨rfl, (by decide : (0x3E : Nat) ≠ 0)⟩

end Sys2Proof.Machine

namespace Sys2Proof.Machine

/-! ### The deadline -/

/-- A step is late when a run of it ended late or has not ended, or its walk had not (09 R251, R252). -/
def Node.isLate (n : Node) (c : Nat) : Bool :=
  let d := (n.ctxOf c).fire + hDead (n.stepHeader c)
  (n.ctxOf c).launched.any (fun r => r.cutLate || r.fin.isNone || decide (d < r.fin.getD 0)) || (n.ctxOf c).lateWalk

theorem runsLate_eq (x : Ctx) (d : Nat) : x.runsLate d = x.launched.any (fun r => r.cutLate || r.fin.isNone || decide (d < r.fin.getD 0)) := by
  unfold Ctx.runsLate
  congr 1
  funext r
  cases r.fin <;> simp

theorem Node.isLate_eq (n : Node) (c : Nat) :
    n.isLate c = ((n.ctxOf c).runsLate ((n.ctxOf c).fire + hDead (n.stepHeader c)) || (n.ctxOf c).lateWalk) := by
  rw [Node.isLate, runsLate_eq]

section
variable {n : Node} {c : Nat}

/-- On the deadline tick a walk that has not ended stops (09 R252). -/
theorem deadlineEvaluation_stops (fired : n.fired c = true) (reached : (n.ctxOf c).fire + hDead (n.stepHeader c) ≤ n.tb1)
    (soon : n.tb1 < (n.ctxOf c).fire + hDead (n.stepHeader c) + 1024) (walk : n.walk c = 1 ∨ n.walk c = 2) :
    deadlineEvaluation c n = (n.stopWalk c).modCtx c (fun y => { y with lateWalk := (n.ctxOf c).cause == 0 }) := by
  have runs : (n.walk c == 1 || n.walk c == 2) = true := by simpa using walk
  rw [deadlineEvaluation, fired, decide_eq_true reached, runs, Bool.true_and, Bool.true_and, if_pos rfl, when,
    decide_eq_false (not_le.mpr soon), Bool.and_false, Bool.false_and, Bool.false_and, if_neg Bool.false_ne_true]

theorem stopWalk_modCtx_spec {f : Ctx → Ctx} {m : Node} (walk : n.walk c = 1 ∨ n.walk c = 2)
    (hm : (n.stopWalk c).modCtx c f = m) : m.walk c = 3 ∧ m.ctxOf c = f { n.ctxOf c with waitE := none } := by
  rw [← hm, Node.modCtx_ctxOf_same, Node.ctxOf_stopWalk, Node.walk, Node.modCtx_rd, ← Node.walk, Node.walk_stopWalk, if_pos walk]
  exact ⟨rfl, rfl⟩

theorem deadlineEvaluation_decides (fired : n.fired c = true) (passed : (n.ctxOf c).fire + hDead (n.stepHeader c) + 1024 ≤ n.tb1)
    (fresh : (n.ctxOf c).verdict = 0) (clean : (n.ctxOf c).cause = 0) (walk : n.walk c = 3) : deadlineEvaluation c n = n.lateDecision c := by
  simp [deadlineEvaluation, when, fired, passed, fresh, clean, walk]

/-- What the record of a late step names (14 R405). -/
def Node.lateDetail (n : Node) (c : Nat) : Nat :=
  put 79 72 (n.policyOf c) +
    put 71 64 (ofB ((n.ctxOf c).runsLate ((n.ctxOf c).fire + hDead (n.stepHeader c))) + 2 * ofB (n.ctxOf c).lateWalk) + put 47 0 (n.ctxOf c).step

/-- A late step as the census counts it. -/
def Node.countLate (n : Node) : Node := n.modCensus (fun k => { k with lateSteps := k.lateSteps + 1 })

/-- A late step that goes on: it is recorded, and tainted by reason 7 (09 R252). -/
def Node.toldLate (n : Node) (c : Nat) : Node := (n.countLate.ctxFault 0x30 c (n.ctxOf c).table (n.lateDetail c)).taint c 7

theorem lateDecision_inTime (late : n.isLate c = false) : n.lateDecision c = n.modCtx c (fun y => { y with verdict := 1 }) := by
  rw [Node.isLate_eq, Bool.or_eq_false_iff] at late
  rw [Node.lateDecision]
  simp only [late.1, late.2, Bool.not_false, Bool.and_self, if_true]

theorem lateDecision_late (late : n.isLate c = true) : n.lateDecision c =
    if n.policyOf c == 2 then n.countLate.deadlineFault c 0x30 (n.ctxOf c).table (n.lateDetail c)
    else if n.policyOf c == 0 then (n.toldLate c).modCtx c (fun y => { y with verdict := 2 })
    else (((n.toldLate c).modCtx c (fun y => { y with dead := y.fire + hExt (n.stepHeader c) })).modCtx c
      (fun y => { y with verdict := 3 })).wr (Ob.seq_walkState c) 4 := by
  have decided : (!(n.ctxOf c).runsLate ((n.ctxOf c).fire + hDead (n.stepHeader c)) && !(n.ctxOf c).lateWalk) = false := by
    rw [← Bool.not_or, ← Node.isLate_eq, late]
    rfl
  rw [Node.lateDecision, decided, if_neg Bool.false_ne_true]
  rfl

/-- A late step that goes on is recorded and tainted, and its context stays (09 R252). -/
theorem toldLate_spec (c64 : c < 64) (fired : n.fired c = true) : n.recorded (n.toldLate c) 0x30 ∧
    bit ((n.toldLate c).rd (Ob.tag_taintReasons c)) 7 = true ∧ (n.toldLate c).ctxOf c = n.ctxOf c := by
  have frame := (n.countLate.ctxFault 0x30 c (n.ctxOf c).table (n.lateDetail c)).taints_taint c64 (k := 7) (by decide)
  have told : n.countLate.recorded (n.countLate.ctxFault 0x30 c (n.ctxOf c).table (n.lateDetail c)) 0x30 :=
    n.countLate.recorded_fault
      { cause := 0x30, span := n.countLate.span, ctx := c, obj := (n.ctxOf c).table, detail := n.lateDetail c }
  refine ⟨?_, Node.bit_taint ((n.countLate.fired_fault _ c64).trans fired) 7, ?_⟩
  · refine (told.trans_count (Node.causeCount_congr ?_ _)).of_count rfl
    exact frame.rd _ (by unfold Ob.cause_causeCounts Ob.tag_taintReasons; omega) (by unfold Ob.cause_causeCounts Ob.tag_taintedSteps; omega)
      (by unfold Ob.cause_causeCounts Ob.tctx_taintingReleases; omega)
  · exact (frame.ctxOf c).trans (n.countLate.ctxOf_fault _ c)

/-- A late step under Strict or ABORT is struck (09 R253, R255). -/
theorem struck_late (c64 : c < 64) (fired : n.fired c = true) (walk : n.walk c = 3) (obj detail : Nat) :
    n.Struck c 0x30 (n.countLate.deadlineFault c 0x30 obj detail) := by
  have struck : n.countLate.Struck c 0x30 (n.countLate.deadlineFault c 0x30 obj detail) :=
    Node.struck_deadlineFault (n := n.countLate) c64 fired obj detail (.inr (.inr walk)) (by decide) (by decide)
  exact ⟨struck.recorded.of_count rfl, struck.struck, struck.ctx, struck.clr⟩

end

/-! ### The end of a step -/

section
variable {n : Node} {c : Nat}

/-- The outcome of a step whose decision is taken and that has no cause (09 R253, R254). -/
theorem outcomeNow_decided (fired : n.fired c = true) (running : (n.ctxOf c).abortAt = none) (clean : (n.ctxOf c).cause = 0)
    (decided : (n.ctxOf c).verdict ≠ 0) : n.outcomeNow c =
    if (n.ctxOf c).verdict ≠ 3 then (n.ctxOf c).verdict
    else if (n.ctxOf c).launched.all (fun r => r.fin.isSome) then (if (n.ctxOf c).launched.any (·.cutLate) then 4 else 3)
    else if (n.ctxOf c).dead ≤ n.tb1 then 4 else 0 := by
  simp [Node.outcomeNow, fired, running, clean, decided]

/-- A step that may not end yet stays. -/
theorem Node.endNow_zero (n : Node) (c : Nat) : n.endNow c 0 = n := rfl

theorem stepEnded_endNow (hc : c < n.ctxCount) (fired : n.fired c = true) {oc : Nat} (some : oc ≠ 0) (small : oc < 256) :
    StepEnded n (n.endNow c oc) c oc := by
  rw [Node.endNow, when, if_pos (bne_iff_ne.mpr some)]
  exact Node.stepEnded_endStep n oc _ hc fired small

/-- An aborted step ends on the tick of its abort action (09 R254). -/
theorem stepEnded_endAborted {t : Nat} (hc : c < n.ctxCount) (fired : n.fired c = true) (abort : (n.ctxOf c).abortAt = some t)
    (due : t ≤ n.tb1) : StepEnded n (n.endAborted c) c 5 := by
  rw [Node.endAborted, abort]
  simp only [fired, due, decide_true, Bool.and_self, if_true]
  exact Node.stepEnded_endStep n 5 _ hc fired (by decide)

end

end Sys2Proof.Machine

namespace Sys2Proof.Machine

/-! ### The rows of a step's end in the tick -/

theorem accOnly.clr {n m : Node} (h : accOnly n m) : m.clr = n.clr := by
  have := congrArg Node.clr h
  exact this

/-- The release of accumulators drops those that it names (09 R258). -/
theorem releaseAccumulator_spec (v : Nat) (n : Node) : (releaseAccumulator v n).answered 0 ∧
    ∀ a, a ∈ (releaseAccumulator v n).clr.defAccs ↔ a ∈ n.clr.defAccs ∧
      if v = 0xFFFF then n.stepHeld a.ctx = true else ¬(a.ctx = fld v 13 8 ∧ a.hnd = fld v 3 0) := by
  refine ⟨Node.answered_answer .., fun a => ?_⟩
  have clr : (releaseAccumulator v n).clr.defAccs = n.clr.defAccs.filter (fun a =>
      if v == 0xFFFF then n.stepHeld a.ctx else !(a.ctx == fld v 13 8 && a.hnd == fld v 3 0)) :=
    congrArg ClearSt.defAccs (Node.answerData_frame ..).clr
  rw [clr, List.mem_filter]
  refine and_congr_right fun _ => ?_
  by_cases all : v = 0xFFFF
  · simp [all]
  · simp [all, imp_iff_not_or]

theorem guardExpiry_passed {n : Node} {c : Nat} (armed : n.escrow c = 1) (passed : n.firstCommitPassed c = true) :
    guardExpiry c n = n.unconfirmed c 1 := by
  rw [guardExpiry, armed, passed]
  rfl

section
variable {s : State} {c : Nat} (hc : c < s.tsu.ctxCount)
include hc

/-- The actions of a context, after what the tick owes before them (09 R232). -/
theorem runsOn_actionCommit {P : Node → Prop} (h : P (actionCommit c (s.tsu.entriesBelow c))) : RunsOn .tsu (.actionCommit c) s P :=
  runsOn_node (f := fun n => actionCommit c (n.entriesBelow c)) (works_of_ctx hc) rfl (decide_eq_true hc) h

theorem runsOn_deadlineEvaluation {P : Node → Prop} (h : P (deadlineEvaluation c s.tsu.entriesFirst)) :
    RunsOn .tsu (.deadlineEvaluation c) s P :=
  runsOn_node (f := fun n => deadlineEvaluation c n.entriesFirst) (works_of_ctx hc) rfl (decide_eq_true hc) h

theorem exec_stepEnd {n : Node} (hn : deadlineEvaluation c s.tsu.entriesFirst = n) :
    exec (.stepEnd c) s = .next { s with tsu := n.endNow c (n.outcomeNow c) } := by
  rw [exec_node (f := fun n => let m := deadlineEvaluation c n.entriesFirst; m.endNow c (m.outcomeNow c)) (works_of_ctx hc) rfl (decide_eq_true hc),
    State.node, hn]
  rfl

/-- A step that may end does, after the deadline evaluation (09 R254). -/
theorem runsOn_stepEnd {n : Node} {oc : Nat} (hn : deadlineEvaluation c s.tsu.entriesFirst = n) (fired : n.fired c = true)
    (outcome : n.outcomeNow c = oc) (some : oc ≠ 0) (small : oc < 256) : RunsOn .tsu (.stepEnd c) s (fun m => StepEnded n m c oc) := by
  refine ⟨_, exec_stepEnd hc hn, ?_⟩
  have count : c < n.ctxCount := by
    have kind : n.kind = s.tsu.kind := by rw [← hn, Node.kind_deadlineEvaluation, Node.entriesFirst, Node.kind_entriesBelow]
    rwa [Node.ctxCount_congr kind]
  rw [outcome]
  exact stepEnded_endNow count fired some small

end

section
variable {s : State} {c : Nat} {n : Node}

/-- The action of a step at its commit tick is placed, or its slots are taken (09 R229, R233). -/
theorem actionCommit_spec (hc : c < s.tsu.ctxCount) (hn : s.tsu.entriesBelow c = n) {a : Nat × Nat × Nat} (due : n.actionsDue c = [a])
    (state : n.escrow c = 2 ∨ (n.escrow c = 3 ∧ n.dueOp c = none ∧ n.walk c ≠ 2)) (clean : (n.ctxOf c).cause = 0) :
    (n.slotTaken (n.actionOf c a) = none → RunsOn .tsu (.actionCommit c) s (fun m =>
      m.bus.placed = n.bus.placed ++ [n.actionOf c a] ∧ (a.1, a.2.1) ∈ (m.ctxOf c).committed ∧
      m.rd Ob.cause_causeCounts = n.rd Ob.cause_causeCounts ∧ ∀ d, d ≠ c → m.ctxOf d = n.ctxOf d)) ∧
    (∀ o, n.slotTaken (n.actionOf c a) = some o → RunsOn .tsu (.actionCommit c) s (fun m =>
      m.bus.placed = n.bus.placed ∧ n.recorded m 0x3E ∧ m.rd Ob.tabs_actionConflicts = (n.rd Ob.tabs_actionConflicts + 1) % 2 ^ 64 ∧
      (n.fired c = true → (m.ctxOf c).waveSent = true ∧ (m.ctxOf c).cause ≠ 0))) := by
  have held : n.escrow c = 2 ∨ n.escrow c = 3 := state.imp_right And.left
  have count : c < n.ctxCount := by rwa [← hn, Node.ctxCount_entriesBelow]
  refine ⟨fun free => runsOn_actionCommit hc ?_, fun o taken => runsOn_actionCommit hc ?_⟩
  · rw [hn, actionCommit_one due state]
    exact commitAction_free_spec held clean free rfl
  · rw [hn, actionCommit_one due state, commitAction_taken held clean taken]
    exact slotConflict_spec a _ o count clean rfl

/-- The lateness decision, by the policy in effect (09 R252, R253). -/
theorem lateDecision_spec (c64 : c < 64) (fired : n.fired c = true) (clean : (n.ctxOf c).cause = 0) (walk : n.walk c = 3)
    {m : Node} (hm : n.lateDecision c = m) :
    (n.isLate c = false → m.ctxOf c = { n.ctxOf c with verdict := 1 } ∧ m.objs = n.objs) ∧
    (n.isLate c = true → n.policyOf c = 2 → n.recorded m 0x30 ∧ StepStruck m c ∧ (m.ctxOf c).cause = 0x30) ∧
    (n.isLate c = true → n.policyOf c = 0 →
      n.recorded m 0x30 ∧ bit (m.rd (Ob.tag_taintReasons c)) 7 = true ∧ m.ctxOf c = { n.ctxOf c with verdict := 2 }) ∧
    (n.isLate c = true → n.policyOf c = 1 → n.recorded m 0x30 ∧ bit (m.rd (Ob.tag_taintReasons c)) 7 = true ∧ m.walk c = 4 ∧
      m.ctxOf c = { n.ctxOf c with verdict := 3, dead := (n.ctxOf c).fire + hExt (n.stepHeader c) }) := by
  obtain ⟨recorded, taint, ctx⟩ := toldLate_spec c64 fired
  refine ⟨fun inTime => ?_, fun late policy => ?_, fun late policy => ?_, fun late policy => ?_⟩
  · rw [← hm, lateDecision_inTime inTime, Node.modCtx_ctxOf_same]
    exact ⟨rfl, rfl⟩
  · have struck := struck_late c64 fired walk (n.ctxOf c).table (n.lateDetail c)
    rw [lateDecision_late late, policy, if_pos (by decide)] at hm
    rw [hm] at struck
    refine ⟨struck.recorded, struck.struck, ?_⟩
    rw [struck.ctx, clean]
    rfl
  · rw [lateDecision_late late, policy, if_neg (by decide), if_pos (by decide)] at hm
    rw [← hm, Node.modCtx_rd, Node.modCtx_ctxOf_same, ctx]
    exact ⟨recorded, taint, rfl⟩
  · rw [lateDecision_late late, policy, if_neg (by decide), if_neg (by decide)] at hm
    have walkState : Ob.seq_walkState c ≠ Ob.tag_taintReasons c := by unfold Ob.seq_walkState Ob.tag_taintReasons; omega
    rw [← hm, Node.rd_wr_ne _ _ walkState, Node.modCtx_rd, Node.modCtx_rd, Node.walk, Node.rd_wr_same, Node.wr_ctxOf, Node.modCtx_ctxOf_same,
      Node.modCtx_ctxOf_same, ctx]
    refine ⟨recorded.trans_count (Node.causeCount_congr ?_ _), taint, rfl, rfl⟩
    rw [Node.rd_wr_ne _ _ (by unfold Ob.seq_walkState Ob.cause_causeCounts; omega), Node.modCtx_rd, Node.modCtx_rd]

end

/-- Settles O32: what the tick owes before a row is one unit, from which each row is one operation: `commitAction`, `lateDecision`, `endStep`. -/
theorem actionsDeadlinesAndTheEndOfAStep : Obligations.ActionsDeadlinesAndTheEndOfAStep := by
  refine ⟨fun e => markerFor_spec, fun n c a => actionsDue_spec, fun s v tsu => ?_, fun n c t hc fired => stepEnded_endAborted hc fired,
    fun n c hc armed passed => ?_, fun s c hc => ⟨fun a due state clean => actionCommit_spec hc rfl due state clean, ?_, ?_⟩⟩
  · exact runsOn_node (f := releaseAccumulator v) (works_tsu tsu) rfl rfl (releaseAccumulator_spec v s.tsu)
  · exact unconfirmed_spec (Node.ctx_lt hc) 1 armed (guardExpiry_passed armed passed).symm
  · intro n fired
    have c64 := Node.ctx_lt hc
    refine ⟨fun reached soon walk => ?_, fun passed fresh clean walk => ?_⟩
    · refine runsOn_deadlineEvaluation hc ?_
      rw [deadlineEvaluation_stops fired reached soon walk]
      obtain ⟨stopped, ctx⟩ := stopWalk_modCtx_spec (f := fun y => { y with lateWalk := (n.ctxOf c).cause == 0 }) walk rfl
      exact ⟨stopped, by rw [ctx]; exact beq_iff_eq, by rw [ctx]⟩
    · obtain ⟨inTime, abort, drop, extend⟩ := lateDecision_spec c64 fired clean walk rfl
      have evaluated := deadlineEvaluation_decides fired passed fresh clean walk
      exact ⟨fun late => runsOn_deadlineEvaluation hc (evaluated ▸ inTime late),
        fun late policy => runsOn_deadlineEvaluation hc (evaluated ▸ abort late policy),
        fun late policy => runsOn_deadlineEvaluation hc (evaluated ▸ drop late policy),
        fun late policy => runsOn_deadlineEvaluation hc (evaluated ▸ extend late policy)⟩
  · intro n x fired running clean
    have outcome := outcomeNow_decided fired running clean
    have waits (active : ∃ r ∈ (n.ctxOf c).launched, r.fin = none) : ¬ ((n.ctxOf c).launched.all (fun r => r.fin.isSome) = true) := by
      obtain ⟨r, hr, runs⟩ := active
      rw [List.all_eq_true]
      exact fun ended => by simpa [runs] using ended r hr
    refine ⟨fun verdict => ?_, fun verdict => ?_, fun verdict ended => ?_, fun verdict active expired => ?_, fun verdict active soon => ?_⟩
    · rw [verdict, if_pos (by decide)] at outcome
      exact runsOn_stepEnd hc rfl fired (outcome (by decide)) (by decide) (by decide)
    · rw [verdict, if_pos (by decide)] at outcome
      exact runsOn_stepEnd hc rfl fired (outcome (by decide)) (by decide) (by decide)
    · have all : (n.ctxOf c).launched.all (fun r => r.fin.isSome) = true := List.all_eq_true.mpr fun r hr => (ended r hr).1
      have cut : (n.ctxOf c).launched.any (·.cutLate) = false := List.any_eq_false.mpr fun r hr => by simp [(ended r hr).2]
      rw [verdict, if_neg (by decide), if_pos all, cut, if_neg Bool.false_ne_true] at outcome
      exact runsOn_stepEnd hc rfl fired (outcome (by decide)) (by decide) (by decide)
    · rw [verdict, if_neg (by decide), if_neg (waits active), if_pos expired] at outcome
      exact runsOn_stepEnd hc rfl fired (outcome (by decide)) (by decide) (by decide)
    · rw [verdict, if_neg (by decide), if_neg (waits active), if_neg (not_le.mpr soon)] at outcome
      rw [exec_stepEnd hc rfl, outcome (by decide), Node.endNow_zero]

end Sys2Proof.Machine

/-! The launch of a span (10): what a message sent may touch is said once, by `Node.Sends`, for the hub's forwarding, its combining states and its
lead; what a TSU's answers and records leave of its steps by `Node.KeepsSteps`. -/

namespace Sys2Proof.Machine

/-! ### Messages sent -/

/-- What sending messages may touch: the counts of messages dropped, and the link ends, in whose queues what waits still waits (02 R58, R64). -/
structure Node.Sends (n m : Node) : Prop where
  frame : { m with objs := n.objs, links := n.links } = n
  rd : ∀ o, isDropObj o = false → m.rd o = n.rd o
  c1 : ∀ q, ∀ x ∈ (n.linkOf q).c1, x ∈ (m.linkOf q).c1
  c3 : ∀ q, ∀ x ∈ (n.linkOf q).c3, x ∈ (m.linkOf q).c3

namespace Node.Sends

variable {n m k : Node}

protected theorem refl (n : Node) : n.Sends n := ⟨rfl, fun _ _ => rfl, fun _ _ h => h, fun _ _ h => h⟩

theorem trans (h : n.Sends m) (g : m.Sends k) : n.Sends k where
  frame := (congrArg (fun x : Node => { x with objs := n.objs, links := n.links }) g.frame).trans h.frame
  rd o ho := (g.rd o ho).trans (h.rd o ho)
  c1 q x hx := g.c1 q x (h.c1 q x hx)
  c3 q x hx := g.c3 q x (h.c3 q x hx)

theorem kind (h : n.Sends m) : m.kind = n.kind := by have := congrArg Node.kind h.frame; exact this
theorem tb1 (h : n.Sends m) : m.tb1 = n.tb1 := by have := congrArg Node.tb1 h.frame; exact this
theorem fwd (h : n.Sends m) : m.fwd = n.fwd := by have := congrArg Node.fwd h.frame; exact this
theorem lead (h : n.Sends m) : m.lead = n.lead := by have := congrArg Node.lead h.frame; exact this
theorem heads (h : n.Sends m) : m.heads = n.heads := by have := congrArg Node.heads h.frame; exact this
theorem escInst (h : n.Sends m) : m.escInst = n.escInst := by have := congrArg Node.escInst h.frame; exact this

theorem lst (h : n.Sends m) (p : Nat) (hp : p < 68) : m.lst p = n.lst p := by
  refine h.rd _ ?_
  simp only [isDropObj, isEcnt, Ob.link_state, Bool.or_eq_false_iff, decide_eq_false_iff_not, beq_eq_false_iff_ne]
  omega

theorem causeCount (h : n.Sends m) (c : Nat) : m.causeCount c = n.causeCount c := Node.causeCount_congr (h.rd _ (by decide)) c

theorem enqueue (n : Node) (p : Nat) (x : QMsg) : n.Sends (n.enqueue p x) := by
  have waits : (∀ q, ∀ y ∈ (n.linkOf q).c1, y ∈ ((n.enqueue p x).linkOf q).c1) ∧ ∀ q, ∀ y ∈ (n.linkOf q).c3, y ∈ ((n.enqueue p x).linkOf q).c3 := by
    unfold Node.enqueue
    dsimp only
    split
    · rw [Node.bump]
      simp only [Node.linkOf_addTo, imp_self, implies_true, and_self]
    split
    · rw [Node.bump]
      simp only [Node.linkOf_addTo, imp_self, implies_true, and_self]
    · constructor
      all_goals
        intro q y hy
        by_cases same : p = q
        · subst same
          rw [Node.modLink_linkOf_same]
          split_ifs <;> simp [mem_insertMsg, hy]
        · rw [Node.modLink_linkOf_ne _ _ same]
          exact hy
  exact ⟨n.enqueue_frame p x, (n.discards_enqueue p x).rd, waits.1, waits.2⟩

theorem overAll {α : Type} {f : Node → α → Node} (hf : ∀ (m : Node) (x : α), m.Sends (f m x)) (l : List α) (n : Node) :
    n.Sends (Machine.overAll l f n) := overAll_keeps (P := n.Sends) l f (fun m x _ h => h.trans (hf m x)) (.refl n)

theorem sendTwin (n : Node) (x : Msg) : n.Sends (n.sendTwin x) := overAll (fun m p => enqueue m p { msg := x, ready := m.tb1 }) [66, 67] n

end Node.Sends

/-! ### The lead -/

/-- The TWIN LEAD message of a hub (15 R434). -/
def twinLeadMsg (lead : Bool) : Msg := { typ := tTwin, cells := [put 127 124 6 + put 123 123 (ofB lead)] }

/-- A change of the lead is recorded (10 R274). -/
theorem Node.changeLead_spec (n : Node) (lead : Bool) (since : Nat) :
    (n.changeLead lead since).lead.leading = lead ∧ n.recorded (n.changeLead lead since) 0x35 := by
  have frozen : (if lead then n.freezeSlots else n).rd Ob.cause_causeCounts = n.rd Ob.cause_causeCounts := by cases lead <;> rfl
  unfold Node.changeLead
  dsimp only
  generalize (if lead then n.freezeSlots else n) = n0 at frozen ⊢
  set r : FRec := { cause := 0x35, detail := put 79 72 (if lead then 1 else 2) + put 63 0 since }
  set led := n0.modLead (fun l => { l with leading := lead, zeroAt := none })
  have told : n.recorded (led.fault r) 0x35 := (led.recorded_fault r).of_count (Node.causeCount_congr frozen _)
  have leads : (led.fault r).lead.leading = lead := by
    have := congrArg (fun x : Node => x.lead.leading) (led.fault_frame r)
    exact this
  generalize led.fault r = f at told leads
  have sent : f.Sends (f.sendTwin (twinLeadMsg f.lead.leading)) := .sendTwin ..
  have onChange : f.sendLead.lead.leading = lead ∧ n.recorded f.sendLead 0x35 :=
    ⟨(congrArg LeadSt.leading sent.lead).trans leads, told.trans_count (sent.causeCount _)⟩
  generalize f.sendLead = m at onChange
  obtain ⟨leads, told⟩ := onChange
  split
  · have counted := m.addTo_frame Ob.epo_hallEpoch 1024
    have epoch : (m.addTo Ob.epo_hallEpoch 1024).Sends (m.addTo Ob.epo_hallEpoch 1024).sendEpoch := .sendTwin ..
    refine ⟨?_, told.trans_count ((epoch.causeCount _).trans (Node.causeCount_congr (m.rd_addTo_ne _ (by decide) (by decide)) _))⟩
    have kept : (m.addTo Ob.epo_hallEpoch 1024).lead = m.lead := by have := congrArg Node.lead counted; exact this
    rw [epoch.lead, kept, leads]
  · exact ⟨leads, told⟩

theorem when_eq (c : Bool) (f : Node → Node) (n : Node) : when c f n = if c = true then f n else n := rfl

theorem twinLost_spec {n : Node} {t : Nat} (out : n.lead.twinOutAt = some t) : twinLost n =
    if t + 1562500 ≤ n.tb1 ∧ (n.lead.leading = true ↔ n.plane = 0) then n.changeLead (n.plane != 0) t else n := by
  rw [twinLost, out]
  dsimp only
  refine (when_eq ..).trans (if_congr ?_ rfl rfl)
  rw [Bool.and_eq_true, decide_eq_true_eq]
  refine and_congr_right fun _ => ?_
  cases n.lead.leading <;> simp

theorem leadReclaim_spec {n : Node} {t : Nat} (zero : n.lead.zeroAt = some t) : leadReclaim n =
    if n.plane = 0 ∧ n.lead.leading = false ∧ 5 ≤ n.lst 66 ∧ 5 ≤ n.lst 67 ∧ t + 1048576 ≤ n.tb1 then n.changeLead true n.tb1 else n := by
  rw [leadReclaim, zero]
  dsimp only
  rw [when_eq]
  simp only [Bool.and_eq_true, decide_eq_true_eq, beq_iff_eq, Bool.not_eq_true', and_assoc]

/-- A message is taken from its port's buffer, and handled (log entry 5). -/
theorem Node.onMsg_some {n : Node} {p : Nat} {f : Msg → Bool} {a : Msg} (waits : n.peek p f = some a) (act : Msg → Node → Node) :
    n.onMsg p f act = act a (n.consume p f) := by rw [Node.onMsg, waits]

/-- A message that is taken leaves all of its unit but the link ends (02 R50). -/
theorem Node.consume_eq (n : Node) (p : Nat) (f : Msg → Bool) : n.consume p f = { n with links := (n.consume p f).links } := by
  unfold Node.consume
  split <;> rfl

@[simp] theorem Node.linkOf_modLead (n : Node) (f : LeadSt → LeadSt) (p : Nat) : (n.modLead f).linkOf p = n.linkOf p := rfl

/-- A TWIN message leaves on a port from SYNCED on (02 R64). -/
theorem Node.mem_c3_send {n : Node} {p : Nat} {x : Msg} (twin : x.typ = tTwin) (synced : 5 ≤ n.lst p) :
    { msg := x, ready := n.tb1 } ∈ ((n.send p x).linkOf p).c3 := by
  simp [Node.send, Node.enqueue, twin, isSpanType, classOf, tObject, tTwin, not_lt.mpr synced, mem_insertMsg]

theorem Node.mem_c3_sendTwin {n : Node} {p : Nat} {x : Msg} (twin : x.typ = tTwin) (lane : p = 66 ∨ p = 67) (synced : 5 ≤ n.lst p) :
    { msg := x, ready := n.tb1 } ∈ ((n.sendTwin x).linkOf p).c3 := by
  have first : n.Sends (n.send 66 x) := .enqueue ..
  have second : (n.send 66 x).Sends ((n.send 66 x).send 67 x) := .enqueue ..
  rcases lane with rfl | rfl
  · exact second.c3 66 _ (Node.mem_c3_send twin synced)
  · have := Node.mem_c3_send (n := n.send 66 x) (p := 67) twin (by rwa [first.lst 67 (by decide)])
    rwa [first.tb1] at this

/-- Its kind and its leading bit. -/
theorem twinLeadMsg_fields (lead : Bool) : ((twinLeadMsg lead).typ == tTwin && fld (twinLeadMsg lead).head 127 124 == 6 &&
    bit (twinLeadMsg lead).head 123 == lead) = true := by
  cases lead <;> decide +kernel

theorem twinLeadReceived_leading {n : Node} {p : Nat} {a : Msg} (waits : n.peek p (isTwinKind 6) = some a) (leads : bit a.head 123 = true) :
    twinLeadReceived p n = let m := (n.consume p (isTwinKind 6)).modLead (fun l => { l with zeroAt := none })
      if n.lead.leading && n.plane == 0 then m.changeLead false n.tb1 else m := by
  rw [twinLeadReceived, Node.onMsg_some waits, leads, if_pos rfl, Node.consume_eq]

theorem twinLeadReceived_following {n : Node} {p : Nat} {a : Msg} (waits : n.peek p (isTwinKind 6) = some a) (follows : bit a.head 123 = false) :
    twinLeadReceived p n = (n.consume p (isTwinKind 6)).modLead (fun l => { l with zeroAt := some (n.lead.zeroAt.getD n.tb1) }) := by
  rw [twinLeadReceived, Node.onMsg_some waits, follows, if_neg Bool.false_ne_true, Node.consume_eq]
  cases zero : n.lead.zeroAt <;> simp [Node.modLead, zero]

theorem Node.hasPort_hub {n : Node} {p : Nat} (hub : n.isHub = true) (hp : p < 68) : n.hasPort p = true := by
  simpa [Node.hasPort, Node.portCount, hub] using hp

section
variable {s : State} (works : Works s .hub)
include works

theorem twinLost_runs {t : Nat} (out : s.hub.lead.twinOutAt = some t) (due : t + 1562500 ≤ s.hub.tb1)
    (side : s.hub.lead.leading = true ↔ s.hub.plane = 0) :
    RunsOn .hub .twinLost s (fun m => m.lead.leading = (s.hub.plane != 0) ∧ s.hub.recorded m 0x35) := by
  refine runsOn_node works rfl rfl ?_
  rw [State.node_hub, twinLost_spec out, if_pos ⟨due, side⟩]
  exact Node.changeLead_spec ..

omit works in
theorem twinLost_idle (idle : ∀ t, s.hub.lead.twinOutAt = some t → ¬ (t + 1562500 ≤ s.hub.tb1 ∧ (s.hub.lead.leading = true ↔ s.hub.plane = 0))) :
    exec .twinLost s = .next s := by
  refine exec_node_idle rfl ?_
  rw [State.node_hub]
  cases out : s.hub.lead.twinOutAt with
  | none => rw [twinLost, out]
  | some t => rw [twinLost_spec out, if_neg (idle t out)]

theorem leadReclaim_runs {t : Nat} (zero : s.hub.lead.zeroAt = some t) (plane : s.hub.plane = 0) (follows : s.hub.lead.leading = false)
    (a : 5 ≤ s.hub.lst 66) (b : 5 ≤ s.hub.lst 67) (due : t + 1048576 ≤ s.hub.tb1) :
    RunsOn .hub .leadReclaim s (fun m => m.lead.leading = true ∧ s.hub.recorded m 0x35) := by
  refine runsOn_node works rfl rfl ?_
  rw [State.node_hub, leadReclaim_spec zero, if_pos ⟨plane, follows, a, b, due⟩]
  exact Node.changeLead_spec ..

omit works in
theorem leadReclaim_idle {t : Nat} (zero : s.hub.lead.zeroAt = some t) (stays : s.hub.plane ≠ 0 ∨ s.hub.tb1 < t + 1048576) :
    exec .leadReclaim s = .next s := by
  refine exec_node_idle rfl ?_
  rw [State.node_hub, leadReclaim_spec zero, if_neg]
  rintro ⟨plane, -, -, -, due⟩
  exact stays.elim (fun h => h plane) (not_lt.mpr due)

section
variable (hub : s.hub.isHub = true) {p : Nat} (hp : p < 68) {a : Msg} (waits : s.hub.peek p (isTwinKind 6) = some a)
include hub hp waits

theorem twinLeadReceived_givesUp (lead : bit a.head 123 = true) (leads : s.hub.lead.leading = true) (plane : s.hub.plane = 0) :
    RunsOn .hub (.twinLeadReceived p) s (fun m => m.lead.leading = false ∧ s.hub.recorded m 0x35) := by
  refine runsOn_node works rfl (Node.hasPort_hub hub hp) ?_
  rw [State.node_hub, twinLeadReceived_leading waits lead, if_pos (by simp [leads, plane])]
  obtain ⟨gaveUp, told⟩ := Node.changeLead_spec ((s.hub.consume p (isTwinKind 6)).modLead (fun l => { l with zeroAt := none })) false s.hub.tb1
  exact ⟨gaveUp, told.of_count (Node.causeCount_congr (s.hub.rd_consume p _ _) _)⟩

theorem twinLeadReceived_stays (lead : bit a.head 123 = true) (stays : s.hub.lead.leading = false ∨ s.hub.plane ≠ 0) :
    RunsOn .hub (.twinLeadReceived p) s (fun m => m.lead.leading = s.hub.lead.leading ∧ m.lead.zeroAt = none ∧ m.objs = s.hub.objs) := by
  refine runsOn_node works rfl (Node.hasPort_hub hub hp) ?_
  rw [State.node_hub, twinLeadReceived_leading waits lead, if_neg (by simpa [imp_iff_not_or] using stays), Node.consume_eq]
  exact ⟨rfl, rfl, rfl⟩

theorem twinLeadReceived_keepsFirst (lead : bit a.head 123 = false) :
    RunsOn .hub (.twinLeadReceived p) s (fun m =>
      m.lead.leading = s.hub.lead.leading ∧ m.lead.zeroAt = some (s.hub.lead.zeroAt.getD s.hub.tb1) ∧ m.objs = s.hub.objs) := by
  refine runsOn_node works rfl (Node.hasPort_hub hub hp) ?_
  rw [State.node_hub, twinLeadReceived_following waits lead, Node.consume_eq]
  exact ⟨rfl, rfl, rfl⟩

end

theorem twinLeadSend_runs (marker : s.hub.tb1 % 524288 = 0) :
    RunsOn .hub .twinLeadSend s (fun m => m.lead = { s.hub.lead with lastSend := s.hub.tb1 } ∧ m.heads = s.hub.heads ∧
      ∀ p, p = 66 ∨ p = 67 → 5 ≤ s.hub.lst p → { msg := twinLeadMsg s.hub.lead.leading, ready := s.hub.tb1 } ∈ (m.linkOf p).c3) := by
  refine runsOn_node works rfl rfl ?_
  have sent : s.hub.Sends (s.hub.sendTwin (twinLeadMsg s.hub.lead.leading)) := .sendTwin ..
  have sends : twinLeadSend s.hub = (s.hub.sendTwin (twinLeadMsg s.hub.lead.leading)).modLead (fun l => { l with lastSend := s.hub.tb1 }) := by
    rw [twinLeadSend, beq_iff_eq.mpr marker, Bool.true_or, when_true]
    rfl
  rw [State.node_hub, sends]
  refine ⟨congrArg (fun l : LeadSt => { l with lastSend := s.hub.tb1 }) sent.lead, sent.heads, fun p lane synced => ?_⟩
  rw [Node.linkOf_modLead]
  exact Node.mem_c3_sendTwin rfl lane synced

end

/-- Settles O36: `Node.changeLead_spec` says what a change leaves, and each trigger's own lemma when it makes one. -/
theorem theLeadMovesOnlyAsStated : Obligations.TheLeadMovesOnlyAsStated := by
  intro s works n
  refine ⟨fun t out due => ⟨fun leads plane => ?_, fun follows plane => ?_⟩, fun idle => twinLost_idle fun t out => ?_,
    fun p a hub hp waits => ⟨twinLeadReceived_givesUp works hub hp waits, twinLeadReceived_stays works hub hp waits,
      twinLeadReceived_keepsFirst works hub hp waits⟩,
    fun t zero follows => ⟨fun plane => leadReclaim_runs works zero plane follows, leadReclaim_idle zero⟩, fun marker => ?_⟩
  · have runs := twinLost_runs works out due (iff_of_true leads plane)
    rwa [plane, bne_self_eq_false] at runs
  · have runs := twinLost_runs works out due (iff_of_false (Bool.eq_false_iff.mp follows) plane)
    rwa [bne_iff_ne.mpr plane] at runs
  · rintro ⟨due, side⟩
    rcases idle t out with early | ⟨leads, plane⟩ | ⟨follows, plane⟩
    · exact absurd due (not_le.mpr early)
    · exact plane (side.mp leads)
    · exact Bool.false_ne_true (follows.symm.trans (side.mpr plane))
  · obtain ⟨m, ran, lead, heads, queued⟩ := twinLeadSend_runs works marker
    refine ⟨m, ran, lead, heads, fun p lane synced => ?_⟩
    exact List.any_eq_true.mpr ⟨_, queued p lane synced, twinLeadMsg_fields _⟩

end Sys2Proof.Machine

namespace Sys2Proof.Machine

/-! ### Down the trees -/

section
variable {n : Node} {p q : Nat} {a : Msg}

/-- An ESCROW message leaves on a MEMBER port (02 R64). -/
theorem Node.mem_c1_enqueue {x : QMsg} (escrow : x.msg.typ = tEscrow) (member : n.lst q = 6) : x ∈ ((n.enqueue q x).linkOf q).c1 := by
  simp [Node.enqueue, escrow, member, isSpanType, classOf, tEscrow, tObject, tTwin, mem_insertMsg]

/-- What one of several sends puts into a queue is there after all of them. -/
theorem Node.Sends.mem_c1_overAll {f : Node → Nat → Node} (hf : ∀ (m : Node) (x : Nat), m.Sends (f m x)) {x : QMsg}
    {l : List Nat} (hq : q ∈ l) (puts : ∀ m, n.Sends m → x ∈ ((f m q).linkOf q).c1) : x ∈ ((Machine.overAll l f n).linkOf q).c1 := by
  induction l generalizing n with
  | nil => exact absurd hq List.not_mem_nil
  | cons y l ih =>
    rcases List.mem_cons.mp hq with rfl | later
    · exact (Sends.overAll hf l (f n q)).c1 q x (puts n (.refl n))
    · exact ih later fun m h => puts m ((hf n y).trans h)

/-- A unit that has noted the first copy of a down message, and opened the combining state of a new ARM (10 R270, R271). -/
def Node.takesDown (n : Node) (a : Msg) : Node :=
  let m := n.noteCopy (escKey a)
  if isEscrowKind 1 a && !n.escInst.any (fun i => i.isOf a) then m.openInst a (nextMul 8 (a.first + 49)) else m

/-- The message goes to every matching MEMBER downlink and to both twin lanes (10 R270). -/
def Node.spreadDown (n : Node) (p : Nat) (a : Msg) : Node :=
  overAll [66, 67] (fun n q => n.forward p q a) (overAll (n.memberDown a.span a.epoch) (fun n q => n.forward p q a) n)

theorem Node.sends_forwards (p : Nat) (a : Msg) (l : List Nat) (n : Node) : n.Sends (overAll l (fun n q => n.forward p q a) n) :=
  .overAll (fun m q => .enqueue m q _) l n

theorem Node.spreadDown_sends (n : Node) (p : Nat) (a : Msg) : n.Sends (n.spreadDown p a) := (Node.sends_forwards ..).trans (Node.sends_forwards ..)

theorem Node.queued_spreadDown (escrow : a.typ = tEscrow) (hq : q < 64) (member : n.memberMatch q a.span a.epoch = true) :
    Queued (n.spreadDown p a) q a (a.first + 49) := by
  have lst : n.lst q = 6 := by simpa using (Bool.and_eq_true_iff.mp member).2
  have queued := Node.Sends.mem_c1_overAll (n := n) (f := fun n q => n.forward p q a) (fun m x => .enqueue m x _)
    (l := n.memberDown a.span a.epoch) (List.mem_filter.mpr ⟨List.mem_range.mpr hq, member⟩)
    fun m h => Node.mem_c1_enqueue (x := { msg := a, ready := a.first + 49, inPort := p }) escrow ((h.lst q (by omega)).trans lst)
  exact ⟨_, (Node.sends_forwards ..).c1 q _ queued, rfl, rfl⟩

theorem Node.firstCopy_noteCopy (n : Node) (key : Nat) : (n.noteCopy key).firstCopy key = false := by
  simp [Node.firstCopy, Node.noteCopy]

theorem Node.firstCopy_takesDown (n : Node) (a : Msg) : (n.takesDown a).firstCopy (escKey a) = false := by
  unfold Node.takesDown
  dsimp only
  split <;> exact n.firstCopy_noteCopy _

theorem Node.escInst_takesDown (n : Node) (a : Msg) :
    (isEscrowKind 1 a = true → (n.takesDown a).escInst.any (fun i => i.isOf a) = true) ∧
    (isEscrowKind 1 a = false → (n.takesDown a).escInst = n.escInst) := by
  unfold Node.takesDown
  dsimp only
  refine ⟨fun arm => ?_, fun other => by rw [other, Bool.false_and, if_neg Bool.false_ne_true]; rfl⟩
  by_cases held : n.escInst.any (fun i => i.isOf a) = true
  · rw [held, Bool.not_true, Bool.and_false, if_neg Bool.false_ne_true]
    exact held
  · rw [arm, Bool.eq_false_iff.mpr held, Bool.not_false, Bool.and_true, if_pos rfl]
    simp [Node.openInst, EscInst.isOf, EscInst.is]

theorem typ_of_isDown (down : isDown a = true) : a.typ = tEscrow := by
  simp only [isDown, isEscrowKind, Bool.or_eq_true, Bool.and_eq_true, beq_iff_eq] at down
  tauto

theorem Node.down_of_peek {f g : Msg → Bool} (waits : n.peek p (fun m => f m && g m) = some a) : f a = true := by
  have := List.find?_some waits
  exact (Bool.and_eq_true_iff.mp this).1

theorem widthOf_escrowCounters : widthOf .hub Ob.esc_staleMessages = 64 ∧ widthOf .hub Ob.esc_handoffsLate = 64 ∧
    widthOf .hub Ob.esc_instancesRefused = 64 := by decide +kernel

theorem Node.kind_of_isHub (hub : n.isHub = true) : n.kind = .hub := by simpa [Node.isHub] using hub

/-- A stale message is counted, and nothing else of the escrow moves (10 R261). -/
theorem Node.staleEscrow_spec (hub : n.isHub = true) : n.staleEscrow.rd Ob.esc_staleMessages = (n.rd Ob.esc_staleMessages + 1) % 2 ^ 64 ∧
    objsOnly n n.staleEscrow := by
  refine ⟨?_, n.bump_frame _⟩
  rw [Node.staleEscrow, n.rd_bump_same _ (by decide), Node.kind_of_isHub hub, widthOf_escrowCounters.1]

section
variable (waits : n.peek p (fun m => isDown m && !(66 ≤ p && n.isHeadOf m.span)) = some a) (follows : n.isHeadOf a.span = false)
include waits follows

omit follows in
theorem escrowDown_fromBelow (below : p < 64) : escrowDown p n = (n.consume p (fun m => isDown m && !(66 ≤ p && n.isHeadOf m.span))).staleEscrow := by
  rw [escrowDown, Node.onMsg_some waits, if_pos (by simp [below])]

section
variable (up : p = 64 ∨ p = 65) (carries : n.spanMatch p a.span a.epoch = true)
include up carries

theorem escrowDown_first (first : n.firstCopy (escKey a) = true) (room : n.escInst.length < 1024 ∨ isEscrowKind 1 a = false) :
    escrowDown p n = ((n.consume p (fun m => isDown m && !(66 ≤ p && n.isHeadOf m.span))).takesDown a).spreadDown p a := by
  have above : ¬ p < 64 := by omega
  have uplink : p < 66 := by omega
  rw [escrowDown, Node.onMsg_some waits, Node.consume_eq]
  generalize (n.consume p _).links = ls
  have follows' : ({ n with links := ls } : Node).isHeadOf a.span = false := follows
  have carries' : ({ n with links := ls } : Node).spanMatch p a.span a.epoch = true := carries
  have first' : ({ n with links := ls } : Node).firstCopy (escKey a) = true := first
  have room' : (isEscrowKind 1 a && !n.escInst.any (fun i => i.isOf a) && decide (1024 ≤ n.escInst.length)) = false := by
    rcases room with short | other
    · simp [not_le.mpr short]
    · simp [other]
  simp only [above, follows', carries', first', room', uplink, decide_false, decide_true, Bool.or_self, Bool.not_true, Bool.false_and, Bool.false_eq_true,
    if_false, if_true]
  rfl

theorem escrowDown_later (later : n.firstCopy (escKey a) = false) :
    escrowDown p n = n.consume p (fun m => isDown m && !(66 ≤ p && n.isHeadOf m.span)) := by
  have above : ¬ p < 64 := by omega
  rw [escrowDown, Node.onMsg_some waits, Node.consume_eq]
  generalize (n.consume p _).links = ls
  have follows' : ({ n with links := ls } : Node).isHeadOf a.span = false := follows
  have carries' : ({ n with links := ls } : Node).spanMatch p a.span a.epoch = true := carries
  have later' : ({ n with links := ls } : Node).firstCopy (escKey a) = false := later
  simp only [above, follows', carries', later', decide_false, Bool.or_self, Bool.not_true, Bool.not_false, Bool.false_and, Bool.false_eq_true,
    if_false, if_true]

end

theorem escrowDown_first_spec (up : p = 64 ∨ p = 65) (carries : n.spanMatch p a.span a.epoch = true) (first : n.firstCopy (escKey a) = true)
    (room : n.escInst.length < 1024 ∨ isEscrowKind 1 a = false) {m : Node} (hm : escrowDown p n = m) :
    (∀ q, q < 64 → n.memberMatch q a.span a.epoch = true → Queued m q a (a.first + 49)) ∧ m.firstCopy (escKey a) = false ∧
    (isEscrowKind 1 a = true → m.escInst.any (fun i => i.isOf a) = true) ∧ (isEscrowKind 1 a = false → m.escInst = n.escInst) := by
  rw [escrowDown_first waits follows up carries first room] at hm
  rw [Node.consume_eq] at hm
  generalize (n.consume p _).links = ls at hm
  set k : Node := { n with links := ls } with hk
  have sent := (k.takesDown a).spreadDown_sends p a
  have match_ (q : Nat) : (k.takesDown a).memberMatch q a.span a.epoch = n.memberMatch q a.span a.epoch := by
    unfold Node.takesDown
    dsimp only
    split <;> rfl
  obtain ⟨arm, other⟩ := k.escInst_takesDown a
  rw [← hm]
  refine ⟨fun q hq member => Node.queued_spreadDown (typ_of_isDown (Node.down_of_peek waits)) hq ((match_ q).trans member), ?_, ?_, ?_⟩
  · rw [Node.firstCopy, sent.fwd, sent.tb1, ← Node.firstCopy]
    exact k.firstCopy_takesDown a
  · rw [sent.escInst]
    exact arm
  · rw [sent.escInst]
    exact other

end
end

/-! ### Combining states -/

section
variable {n : Node}

theorem Node.mem_modInst {f : EscInst → Bool} {g : EscInst → EscInst} {j : EscInst} :
    j ∈ (n.modInst f g).escInst ↔ ∃ i ∈ n.escInst, (if f i then g i else i) = j := List.mem_map

theorem Node.escInst_planeTotal (n : Node) (i : EscInst) : (n.planeTotal i).escInst = n.escInst := by
  unfold Node.planeTotal
  dsimp only
  split
  · rfl
  · split
    · rfl
    · split
      · exact (Node.Sends.sendTwin ..).escInst
      · rfl

/-- A step of `Node.headTotals` marks combining states as sent, and does nothing else to them. -/
theorem Node.mem_markSent {i j : EscInst} :
    j ∈ ((n.modInst (fun k => k == i) (fun k => { k with sent := true })).planeTotal i).escInst ↔
      ∃ k ∈ n.escInst, (if k == i then { k with sent := true } else k) = j := by
  rw [Node.escInst_planeTotal]
  exact Node.mem_modInst

section
variable {P : EscInst → Prop} (kept : ∀ i, P i → P { i with sent := true })
include kept

/-- What holds of every combining state, sent or not, holds of them after the plane totals are taken (10 R272). -/
theorem Node.headTotals_all (all : ∀ i ∈ n.escInst, P i) : ∀ i ∈ n.headTotals.escInst, P i := by
  refine overAll_keeps (P := fun m => ∀ i ∈ m.escInst, P i) _ _ (fun m i _ all j hj => ?_) all
  obtain ⟨k, hk, rfl⟩ := Node.mem_markSent.mp hj
  split
  · exact kept k (all k hk)
  · exact all k hk

theorem Node.headTotals_any (any : ∃ i ∈ n.escInst, P i) : ∃ i ∈ n.headTotals.escInst, P i := by
  refine overAll_keeps (P := fun m => ∃ i ∈ m.escInst, P i) _ _ (fun m i _ any => ?_) any
  obtain ⟨k, hk, holds⟩ := any
  refine ⟨_, Node.mem_markSent.mpr ⟨k, hk, rfl⟩, ?_⟩
  split
  · exact kept k holds
  · exact holds

end

/-- An ARM_ACK of an expected downlink joins the combining state of the step it names (10 R271). -/
theorem ackReceived_joins {p : Nat} {a : Msg} {i : EscInst} (below : p < 64) (waits : n.peek p (isEscrowKind 2) = some a)
    (held : n.takeSets.escInst.find? (fun j => j.isOf a) = some i) (expected : i.expect.contains p = true) {P : EscInst → Prop}
    (kept : ∀ j, P j → P { j with sent := true }) (joined : P (i.join p a)) : ∃ j ∈ (ackReceived p n).escInst, P j := by
  rw [ackReceived, Node.onMsg_some waits, Node.consume_eq]
  generalize (n.consume p _).links = ls
  have held' : ({ n with links := ls } : Node).takeSets.escInst.find? (fun j => j.isOf a) = some i := held
  simp only [held', not_le.mpr below, expected, Bool.not_true, Bool.false_eq_true, if_false]
  exact Node.headTotals_any kept ⟨_, Node.mem_modInst.mpr ⟨i, List.mem_of_find?_eq_some held', rfl⟩, by rwa [beq_self_eq_true, if_pos rfl]⟩

section
variable (i : EscInst) (p : Nat) (a : Msg)

/-- The lowest die that answered nak is kept (10 R271). -/
theorem EscInst.nakDie_join (carries : bit (a.cell 1) 63 = true) (some : fld (a.cell 1) 107 88 ≠ 0) :
    (i.join p a).nakDie = min i.nakDie (fld (a.cell 1) 87 68) := by
  have lower : (i.join p a).nakDie = if fld (a.cell 1) 87 68 < i.nakDie then fld (a.cell 1) 87 68 else i.nakDie := by
    simp [EscInst.join, carries, some]
  rw [lower]
  split <;> omega

theorem EscInst.doneAt_join (empty : i.expect.filter (· != p) = []) : (i.join p a).doneAt = some a.first := by
  rw [EscInst.join, empty, List.isEmpty_nil, if_pos rfl]

end

theorem EscInst.isOf_join (i : EscInst) (p : Nat) (a b : Msg) : (i.join p a).isOf b = i.isOf b := rfl

/-- A downlink out of MEMBER is in no expected set afterwards (10 R271). -/
theorem setChange_leaves {p : Nat} (out : n.lst p ≠ 6) : ∀ i ∈ (setChange p n).escInst, i.expect.contains p = false := by
  have out' : n.takeSets.lst p ≠ 6 := out
  rw [setChange, bne_iff_ne.mpr out', when_true]
  refine Node.headTotals_all (fun _ h => h) fun j hj => ?_
  obtain ⟨i, -, rfl⟩ := Node.mem_modInst.mp hj
  split
  · simp
  · simpa using ‹¬ i.expect.contains p = true›

/-- The combining states that Hz leaves are those of other instances, and those whose Hz has not come (10 R271). -/
theorem mem_escrowHorizon {span ctx step attempt : Nat} {i : EscInst} : i ∈ (escrowHorizon span ctx step attempt n).escInst ↔ i ∈ n.escInst ∧
    ¬ (i.span = span ∧ i.ctx = ctx ∧ i.step = step ∧ i.attempt = attempt ∧ i.hz ≤ n.tb1) := by
  rw [escrowHorizon, List.mem_filter]
  simp only [Bool.not_eq_true', ← Bool.not_eq_true, Bool.and_eq_true, beq_iff_eq, decide_eq_true_eq, and_assoc]

theorem totalReceived_taken {p k : Nat} {a : Msg} (waits : n.peek p (isEscrowKind 5) = some a) (held : n.heldEntry a = some k) (twin : 66 ≤ p)
    (leads : (n.headOf k).leads = true) : totalReceived p n = (n.consume p (isEscrowKind 5)).modHead k (fun h =>
      { h with twin := some (fld (a.cell 1) 127 108, fld (a.cell 1) 107 88, fld (a.cell 1) 87 68, fld (a.cell 1) 67 64, fld (a.cell 1) 47 0) }) := by
  rw [totalReceived, Node.onMsg_some waits, Node.consume_eq]
  generalize (n.consume p _).links = ls
  have held' : ({ n with links := ls } : Node).heldEntry a = some k := held
  have leads' : (({ n with links := ls } : Node).headOf k).leads = true := leads
  simp only [held', leads', not_lt.mpr twin, decide_false, Bool.not_true, Bool.or_self, Bool.false_eq_true, if_false]

theorem totalReceived_stale {p : Nat} {a : Msg} (waits : n.peek p (isEscrowKind 5) = some a) (none : n.heldEntry a = none) :
    totalReceived p n = (n.consume p (isEscrowKind 5)).staleEscrow := by
  rw [totalReceived, Node.onMsg_some waits, Node.consume_eq]
  generalize (n.consume p _).links = ls
  have none' : ({ n with links := ls } : Node).heldEntry a = .none := none
  simp only [none']

end

theorem Node.linkOf_consume_ne (n : Node) {p q : Nat} (f : Msg → Bool) (h : q ≠ p) : (n.consume p f).linkOf q = n.linkOf q := by
  unfold Node.consume
  split
  · rfl
  · exact Node.modLink_linkOf_ne _ _ h.symm

theorem Node.isHub_consume (n : Node) (p : Nat) (f : Msg → Bool) : (n.consume p f).isHub = n.isHub := by rw [Node.consume_eq]; rfl

/-- A message that is dropped as stale is counted; the combining states, the heads and the other link ends stay (10 R261). -/
theorem Node.staleEscrow_consume_spec {n : Node} (hub : n.isHub = true) (p : Nat) (f : Msg → Bool) {m : Node} (hm : (n.consume p f).staleEscrow = m) :
    m.rd Ob.esc_staleMessages = (n.rd Ob.esc_staleMessages + 1) % 2 ^ 64 ∧ m.escInst = n.escInst ∧ m.heads = n.heads ∧
    ∀ q, q ≠ p → m.linkOf q = n.linkOf q := by
  obtain ⟨count, frame⟩ := Node.staleEscrow_spec ((n.isHub_consume p f).trans hub)
  rw [hm] at count frame
  have same : m.escInst = (n.consume p f).escInst ∧ m.heads = (n.consume p f).heads := by
    have insts := congrArg Node.escInst frame
    have heads := congrArg Node.heads frame
    exact ⟨insts, heads⟩
  rw [Node.rd_consume] at count
  refine ⟨count, same.1.trans (by rw [Node.consume_eq]), same.2.trans (by rw [Node.consume_eq]), fun q other => ?_⟩
  rw [Node.linkOf_of_links frame.links, n.linkOf_consume_ne f other]

/-- Settles O34: each part of the escrow at a hub by its own lemma: `escrowDown_first_spec`, `ackReceived_joins`, `setChange_leaves`,
`mem_escrowHorizon`, `totalReceived_taken`. -/
theorem answersCombineAndDownMessagesSpread : Obligations.AnswersCombineAndDownMessagesSpread := by
  refine ⟨fun s p a works hub follows waits => ⟨fun up carries => ⟨fun first room => ?_, fun later => ?_⟩, fun below => ?_⟩,
    fun s p a i works hub below waits held expected => ?_, fun s p works below out => ?_, fun s span ctx step attempt works => ?_,
    fun s p a works hub hp waits => ⟨fun k held twin leads => ?_, fun none => ?_⟩⟩
  · refine runsOn_node works rfl (Node.hasPort_hub hub (by omega)) ?_
    exact escrowDown_first_spec waits follows up carries first room rfl
  · refine runsOn_node works rfl (Node.hasPort_hub hub (by omega)) ?_
    rw [State.node_hub, escrowDown_later waits follows up carries later]
    exact ⟨by rw [Node.consume_eq], fun q other => Node.linkOf_consume_ne _ _ other⟩
  · refine runsOn_node works rfl (Node.hasPort_hub hub (by omega)) ?_
    obtain ⟨count, insts, -, links⟩ := Node.staleEscrow_consume_spec hub p _ (escrowDown_fromBelow waits below).symm
    exact ⟨count, insts, links⟩
  · intro x on
    refine runsOn_node works rfl (Node.hasPort_hub hub (by omega)) (ackReceived_joins below waits held expected (fun _ h => h) ?_)
    refine ⟨(i.isOf_join p a a).trans (List.find?_some held :), rfl, rfl, rfl, rfl, i.nakDie_join p a, i.doneAt_join p a⟩
  · exact runsOn_node works rfl (decide_eq_true below) (setChange_leaves out)
  · exact runsOn_node works rfl rfl ⟨rfl, rfl, fun i => mem_escrowHorizon⟩
  · refine runsOn_node works rfl (Node.hasPort_hub hub hp) ?_
    rw [State.node_hub, totalReceived_taken waits held twin leads, Node.modHead_headOf_same, Node.consume_eq]
    exact ⟨rfl, rfl, rfl⟩
  · refine runsOn_node works rfl (Node.hasPort_hub hub hp) ?_
    obtain ⟨count, -, heads, -⟩ := Node.staleEscrow_consume_spec hub p _ (totalReceived_stale waits none).symm
    exact ⟨count, heads⟩

end Sys2Proof.Machine

namespace Sys2Proof.Machine

/-! ### A decision in place of the advance writes the next fire tick in 64 bits -/

/-- A CONFIRM of step 7 of span 163, context 2, that leaves on tick 16,500. -/
def confirmOfSeven : Msg := escMsg 163 1 3 2 0 0 0 7 (put 127 64 20000 + put 31 0 3500)

/-- A follower hub whose head entry 0 held step 7 until Hz, and whose next fire tick reads 2^64; the leader's CONFIRM of step 7 waits at
twin lane 66. -/
def fireTickPastItsWidth : State :=
  { State.reset with
    hub :=
      { kind := .hub, tb1 := 16000
        objs := [(Ob.head_state 0, 2), (Ob.head_owner 0, 163 * 65536 + 2), (Ob.head_nextFireTick 0, 2 ^ 64)]
        heads := [(0, { fStep := 7, fFire := 20000, hzPassed := true })], lead := { leading := false }
        spans := [(0, put 127 112 163 + put 111 80 1 + 3)], links := [(66, { taken := [confirmOfSeven] })] } }

/-- Soundness does not exclude the state: it asks for the form of the objects, and not for the width of what they read. -/
theorem sound_fireTickPastItsWidth : fireTickPastItsWidth.Sound := by
  refine ⟨⟨?_, ?_⟩, ⟨?_, ?_⟩, ⟨?_, ?_⟩, ?_⟩ <;> decide +kernel

/-- The CONFIRM waits at lane 66, and entry 0, which has advanced past it without a decision, is the one it names. -/
theorem handoff_fireTickPastItsWidth :
    let n := fireTickPastItsWidth.hub
    n.isHub = true ∧ n.isHeadOf confirmOfSeven.span = true ∧
      n.peek 66 (fun m => isDown m && 66 ≤ 66 && n.isHeadOf m.span) = some confirmOfSeven ∧
      isEscrowKind 1 confirmOfSeven = false ∧ n.heldEntry confirmOfSeven = some 0 ∧ n.runningEntry confirmOfSeven = some 0 ∧
      n.nextStep 0 ≠ escStep confirmOfSeven := by
  refine ⟨?_, ?_, ?_, ?_, ?_, ?_, ?_⟩ <;> decide +kernel

/-- The decision is applied in place of the advance, and the next fire tick reads 0 after it. -/
theorem nextFire_fireTickPastItsWidth :
    fireTickPastItsWidth.hub.nextFire 0 = 2 ^ 64 ∧ (handoffReceived 66 fireTickPastItsWidth.hub).nextFire 0 = 0 := by
  constructor <;> decide +kernel

/-- Refutes O35: its clause of a decision that comes after the advance has the next fire tick unchanged. In the sound state
`fireTickPastItsWidth` that object reads 2^64, and the decision writes it back modulo 2^64 (`Node.setNext`), as 0. -/
theorem not_theHeadDecidesOnProofAndAdvances : ¬ Obligations.TheHeadDecidesOnProofAndAdvances := by
  intro h
  have works : Works fireTickPastItsWidth .hub := rfl
  obtain ⟨hub, headed, waits, decides, held, running, other⟩ := handoff_fireTickPastItsWidth
  obtain ⟨-, -, handoff, -⟩ := h fireTickPastItsWidth 0 works (by decide)
  obtain ⟨-, -, inItsPlace⟩ := handoff 66 confirmOfSeven hub (.inl rfl) headed waits
  obtain ⟨-, stays, -⟩ := of_runsOn_node works rfl (Node.hasPort_hub hub (by decide))
    (inItsPlace decides held running (by decide) (by decide) (by decide) (by decide) other)
  obtain ⟨before, after⟩ := nextFire_fireTickPastItsWidth
  rw [State.node, after] at stays
  exact absurd (stays.trans before) (by decide)

end Sys2Proof.Machine

namespace Sys2Proof.Machine

/-! ### What leaves the steps alone -/

/-- An object of the tables, the sequencer and the escrow. -/
def isSeqObj (o : Nat) : Bool := decide (0x400000 ≤ o ∧ o < 0x500000)

theorem isRecObj_of_seqObj {o : Nat} (h : isSeqObj o = true) : isRecObj o = false :=
  isRecObj_of_index (by rw [isSeqObj, decide_eq_true_eq] at h; omega)

theorem isEcnt_of_seqObj {o : Nat} (h : isSeqObj o = true) : isEcnt o = false := isEcnt_of_not_rec (isRecObj_of_seqObj h)

/-- The contexts stay, and so do the objects of the tables, the sequencer and the escrow. -/
structure Node.KeepsSteps (n m : Node) : Prop where
  kind : m.kind = n.kind
  ctxs : m.ctxs = n.ctxs
  rd : ∀ o, isSeqObj o = true → m.rd o = n.rd o

namespace Node.KeepsSteps

variable {n m k : Node}

protected theorem refl (n : Node) : n.KeepsSteps n := ⟨rfl, rfl, fun _ _ => rfl⟩

theorem trans (h : n.KeepsSteps m) (g : m.KeepsSteps k) : n.KeepsSteps k :=
  ⟨g.kind.trans h.kind, g.ctxs.trans h.ctxs, fun o ho => (g.rd o ho).trans (h.rd o ho)⟩

theorem ctxOf (h : n.KeepsSteps m) (c : Nat) : m.ctxOf c = n.ctxOf c := by rw [Node.ctxOf, h.ctxs, Node.ctxOf]

theorem of_recOnly (frame : recOnly n m) (rd : ∀ o, isSeqObj o = true → m.rd o = n.rd o) : n.KeepsSteps m := ⟨frame.kind, frame.ctxs, rd⟩

section
variable (h : n.KeepsSteps m)
include h

/-- Neither an object nor a context moves. -/
theorem same (kept : (k.kind, k.objs, k.ctxs) = (m.kind, m.objs, m.ctxs)) : n.KeepsSteps k := by
  obtain ⟨kind, objs, ctxs⟩ : k.kind = m.kind ∧ k.objs = m.objs ∧ k.ctxs = m.ctxs := by simpa using kept
  exact h.trans ⟨kind, ctxs, fun o _ => by rw [Node.rd, kind, objs, Node.rd]⟩

theorem modLink {p : Nat} {f : LinkEnd → LinkEnd} : n.KeepsSteps (m.modLink p f) := h.same rfl
theorem modRegion {r : Nat} {f : Region → Region} : n.KeepsSteps (m.modRegion r f) := h.same rfl
theorem modJrnl {f : JournalSt → JournalSt} : n.KeepsSteps (m.modJrnl f) := h.same rfl

theorem wr {o v : Nat} (ho : isSeqObj o = false) : n.KeepsSteps (m.wr o v) :=
  h.trans ⟨rfl, rfl, fun _ inside => m.rd_wr_ne v (by rintro rfl; simp_all)⟩

theorem bump {o : Nat} (ho : isSeqObj o = false) : n.KeepsSteps (m.bump o) :=
  h.trans (of_recOnly (.of_objs (m.bump_frame o)) fun _ inside => m.rd_bump_ne (isEcnt_of_seqObj inside) (by rintro rfl; simp_all))

theorem events {code q k : Nat} : n.KeepsSteps (m.events code q k) :=
  h.trans (of_recOnly (.of_objs (m.events_frame code q k)) fun _ inside => m.rd_events code q k (isEcnt_of_seqObj inside))

theorem fault {r : FRec} : n.KeepsSteps (m.fault r) :=
  h.trans (of_recOnly (m.fault_frame r) fun _ inside => m.rd_fault r (isRecObj_of_seqObj inside))

theorem ite {p : Prop} {_ : Decidable p} (hk : n.KeepsSteps k) : n.KeepsSteps (if p then m else k) := by
  split
  · exact h
  · exact hk

theorem overAll {α : Type} {l : List α} {f : Node → α → Node} (hf : ∀ {m x}, x ∈ l → n.KeepsSteps m → n.KeepsSteps (f m x)) :
    n.KeepsSteps (Machine.overAll l f m) := overAll_keeps l f (fun _ _ hx => hf hx) h

theorem enqueue {p : Nat} {q : QMsg} (hp : p < 68) : n.KeepsSteps (m.enqueue p q) :=
  have dropped : n.KeepsSteps (m.bump (Ob.link_spanMessagesDropped p)) :=
    h.bump (by unfold Ob.link_spanMessagesDropped isSeqObj; rw [decide_eq_false_iff_not]; omega)
  dropped.ite (dropped.ite h.modLink)

theorem sendAck {span epoch c attempt step table ok nak why : Nat} :
    n.KeepsSteps (m.sendAck span epoch c attempt step table ok nak why) := h.overAll fun hx h => h.enqueue (by
  have := (List.mem_filter.mp hx).1
  simp at this
  omega)

theorem startWakes {es : List Nat} : n.KeepsSteps (m.startWakes es) := h.overAll fun _ h => h.modRegion

/-- A taint writes tag objects only. -/
theorem taint {c reason : Nat} : n.KeepsSteps (m.taint c reason) := by
  have tags : isSeqObj (Ob.tag_taintReasons c) = false ∧ isSeqObj (Ob.tag_taintedSteps c) = false := by
    unfold isSeqObj Ob.tag_taintReasons Ob.tag_taintedSteps
    simp only [decide_eq_false_iff_not]
    omega
  exact ite (wr (ite (h.bump tags.2) h) tags.1) h

theorem loseRecord {ctx seq typ ref : Nat} : n.KeepsSteps (m.loseRecord ctx seq typ ref) := ((h.bump (by decide)).fault).taint

theorem sendRecord {p : Nat} {r : JRec} (hp : p < 68) : n.KeepsSteps (m.sendRecord p r) := (h.enqueue hp).events.ite h

theorem journal {typ ctx : Nat} {bytes : List Nat} : n.KeepsSteps (m.journal typ ctx bytes) :=
  h.ite (h.modJrnl.loseRecord.ite (h.modJrnl.overAll (fun hx h => h.sendRecord (by
    have := (List.mem_filter.mp hx).1
    simp at this
    omega)) |>.modJrnl))

theorem journalKey : n.KeepsSteps m.journalKey := h.journal

end
end Node.KeepsSteps
end Sys2Proof.Machine

namespace Sys2Proof.Machine

/-! ### The message that is taken -/

/-- The first element that passes a test is the first that passes a stricter one, where it does. -/
theorem find?_of_imp {α : Type} {f g : α → Bool} {l : List α} {a : α} (h : l.find? g = some a) (stricter : ∀ x, f x = true → g x = true)
    (passes : f a = true) : l.find? f = some a := by
  induction l with
  | nil => simp at h
  | cons x l ih =>
    by_cases gx : g x = true
    · obtain rfl : x = a := by simpa [List.find?_cons, gx] using h
      simp [passes]
    · have fx : f x = false := by
        by_contra held
        exact gx (stricter x (by simpa using held))
      rw [List.find?_cons, fx]
      exact ih (by simpa [List.find?_cons, gx] using h)

section
variable {s n : Node} {p k : Nat} {a : Msg}

/-- The kinds of a TSU's escrow messages exclude each other (10 R262). -/
theorem kind_eq_of_isEscrowKind {j : Nat} (hj : isEscrowKind j a = true) (hk : isEscrowKind k a = true) : j = k := by
  simp only [isEscrowKind, Bool.and_eq_true, beq_iff_eq] at hj hk
  exact hj.2.symm.trans hk.2

theorem isVerdict_of_kind (hk : k = 1 ∨ k = 3 ∨ k = 4) (kind : isEscrowKind k a = true) : isVerdict a = true := by
  rcases hk with rfl | rfl | rfl <;> simp [isVerdict, kind]

/-- The escrow message that waits first is the first of its kind. -/
theorem peek_kind_of_next (hk : k = 1 ∨ k = 3 ∨ k = 4) (next : NextIs n p a) (kind : isEscrowKind k a = true) :
    n.peek p (isEscrowKind k) = some a := find?_of_imp next.2 (fun _ h => isVerdict_of_kind hk h) kind

/-- The message that arrived first is the one that a command for its kind and lane takes (10 R266). -/
theorem escrowIn_next (hp : p < 2) (next : NextIs s.abortsFirst p a) (kind : isEscrowKind k a = true)
    (waits : (s.peek p (isEscrowKind k)).isSome = true) : escrowIn p k s = takeEscrow p s.abortsFirst := by
  obtain ⟨lane, first⟩ := next
  have held : 0 < ((s.abortsFirst).linkOf p).taken.length := List.length_pos_of_mem (List.mem_of_find?_eq_some first)
  obtain ⟨fuel, some⟩ : ∃ fuel, s.abortsFirst.waitingMsgs = fuel + 1 := by
    refine Nat.exists_eq_succ_of_ne_zero ?_
    unfold Node.waitingMsgs
    obtain rfl | rfl : p = 0 ∨ p = 1 := by omega
    all_goals omega
  have here : (s.peek p (isEscrowKind k)).isNone = false := by simpa using waits
  rw [escrowIn, here, if_neg Bool.false_ne_true]
  dsimp only
  rw [some, takeEscrows, lane]
  dsimp only
  rw [first]
  simp [kind]

theorem takeEscrow_arm (next : NextIs n p a) (kind : isEscrowKind 1 a = true) : takeEscrow p n = armReceived p n := by
  rw [takeEscrow, next.2]
  exact if_pos kind

theorem takeEscrow_confirm (next : NextIs n p a) (kind : isEscrowKind 3 a = true) : takeEscrow p n = escrowVerdict p 3 confirmCtx n := by
  have arm : ¬ isEscrowKind 1 a = true := fun held => absurd (kind_eq_of_isEscrowKind held kind) (by decide)
  rw [takeEscrow, next.2]
  exact (if_neg arm).trans (if_pos kind)

theorem takeEscrow_recall (next : NextIs n p a) (kind : isEscrowKind 4 a = true) : takeEscrow p n = escrowVerdict p 4 recallCtx n := by
  have arm : ¬ isEscrowKind 1 a = true := fun held => absurd (kind_eq_of_isEscrowKind held kind) (by decide)
  have confirm : ¬ isEscrowKind 3 a = true := fun held => absurd (kind_eq_of_isEscrowKind held kind) (by decide)
  rw [takeEscrow, next.2]
  exact (if_neg arm).trans (if_neg confirm)

end

/-! ### A unit as an ARM finds it -/

/-- The unit once an ARM is out of its buffer and noted as its context's latest (13 R372). -/
def Node.notesArm (n : Node) (p : Nat) (a : Msg) : Node := (n.consume p (isEscrowKind 1)).noteArm (escCtx a) (escStep a) (escFire a)

/-- The key record that the first ARM of a unit in a span makes (13 R363). -/
def Node.firstKeyRecord (n : Node) : Node :=
  if n.jrnl.keyJournaled || !n.member then n else n.journalKey.modJrnl (fun j => { j with keyJournaled := true })

theorem Node.keepsSteps_firstKeyRecord (n : Node) : n.KeepsSteps n.firstKeyRecord :=
  .ite (.refl n) (Node.KeepsSteps.refl n).journalKey.modJrnl

/-- A number is in the keys of a table once or not more often than before, so that a sum over the keys of what is 0 there stays. -/
theorem sum_keys_tblSet {α : Type} (g : Nat → Nat) (t : Tbl α) (i : Nat) (v : α) (zero : g i = 0) :
    (((tblSet t i v).map (·.1)).map g).sum = ((t.map (·.1)).map g).sum := by
  induction t with
  | nil => simp [tblSet, zero]
  | cons e t ih =>
    obtain ⟨k, w⟩ := e
    rw [tblSet]
    split
    · simp [zero]
    · split
      · rename_i same
        obtain rfl : i = k := by simpa using same
        simp
      · simp only [List.map_cons, List.sum_cons]
        rw [ih]

section
variable (n : Node) (c : Nat) (f : Ctx → Ctx)

/-- What other contexts have promised is theirs (09 R248). -/
theorem Node.promised_modCtx : (n.modCtx c f).promised c = n.promised c := by
  have others : ∀ k, (if k != c && (n.modCtx c f).stepHeld k && ((n.modCtx c f).rd (Ob.ctx_answer k) == 0 || ((n.modCtx c f).ctxOf k).ackHeld.isSome)
        then ((n.modCtx c f).unbound k ((n.modCtx c f).stepEntries k)).length else 0) =
      if k != c && n.stepHeld k && (n.rd (Ob.ctx_answer k) == 0 || (n.ctxOf k).ackHeld.isSome) then (n.unbound k (n.stepEntries k)).length else 0 := by
    intro k
    by_cases same : k = c
    · simp [same]
    · rw [Node.modCtx_ctxOf_ne n f (Ne.symm same), Node.stepEntries, Node.modCtx_ctxOf_ne n f (Ne.symm same)]
      rfl
  rw [Node.promised, funext others]
  exact sum_keys_tblSet _ _ _ _ (by simp)

theorem Node.readiness_modCtx (m : Msg) : (n.modCtx c f).readiness c m = n.readiness c m := by
  unfold Node.readiness
  rw [n.promised_modCtx c f]
  rfl

end

theorem Node.readiness_notesArm (n : Node) (p : Nat) (a : Msg) : (n.notesArm p a).readiness (escCtx a) a = n.readiness (escCtx a) a := by
  rw [Node.notesArm, Node.noteArm, Node.readiness_modCtx, Node.consume_eq]
  rfl

end Sys2Proof.Machine

namespace Sys2Proof.Machine

/-! ### Answers -/

/-- The counters of a context's escrow have 64 bits in each context of the configuration, and no event counts a RECALL (10 R280). -/
theorem widthOf_ctxCounters {n : Node} {c : Nat} (hc : c < n.ctxCount) :
    ∀ k ∈ [5, 6, 7], widthOf n.kind (0x484000 + k + c * 256) = 64 := by
  have full : ∀ d < 64, ∀ k ∈ [5, 6, 7], widthOf .full (0x484000 + k + d * 256) = 64 := by decide +kernel
  have edge : ∀ d < 8, ∀ k ∈ [5, 6, 7], widthOf .edge (0x484000 + k + d * 256) = 64 := by decide +kernel
  unfold Node.ctxCount at hc
  match hk : n.kind with
  | .full => exact full c (by simpa [hk] using hc)
  | .edge => exact edge c (by simpa [hk] using hc)
  | .hub => simp [hk] at hc

theorem widthOf_staleMessages {n : Node} (tsu : n.isHub = false) : widthOf n.kind Ob.esc_staleMessages = 64 := by
  have both : widthOf .full Ob.esc_staleMessages = 64 ∧ widthOf .edge Ob.esc_staleMessages = 64 := by decide +kernel
  match hk : n.kind with
  | .full => exact both.1
  | .edge => exact both.2
  | .hub => simp [Node.isHub, hk] at tsu

/-- The sequencer objects of a context. -/
theorem isSeqObj_seq {c k : Nat} (hc : c < 64) (hk : k < 256) : isSeqObj (0x404000 + k + c * 256) = true := by
  rw [isSeqObj, decide_eq_true_eq]
  omega

/-- The escrow objects of a context. -/
theorem isSeqObj_ctx {c k : Nat} (hc : c < 64) (hk : k < 256) : isSeqObj (0x484000 + k + c * 256) = true := by
  rw [isSeqObj, decide_eq_true_eq]
  omega

theorem isSeqObj_escrowState {c : Nat} (hc : c < 64) : isSeqObj (Ob.ctx_escrowState c) = true := isSeqObj_ctx (k := 0) hc (by decide)

theorem isSeqObj_nextStep {c : Nat} (hc : c < 64) : isSeqObj (Ob.seq_nextStepNumber c) = true := isSeqObj_seq (k := 1) hc (by decide)

section
variable {n : Node} {c : Nat}

/-- The counter of answers of a kind (10 R280). -/
def answerCounter (c why : Nat) : Nat := if why == 0 then Ob.ctx_answeredOk c else Ob.ctx_answeredNak c

theorem answerCounter_eq (c why : Nat) : ∃ k ∈ [5, 6], answerCounter c why = 0x484000 + k + c * 256 := by
  unfold answerCounter
  split
  · exact ⟨5, by decide, rfl⟩
  · exact ⟨6, by decide, rfl⟩

/-- An answer that is given is posted, counted and no longer held (10 R267, R268). -/
theorem giveAnswer_spec (hc : c < n.ctxCount) (why : Nat) {m : Node} (hm : n.giveAnswer c why = m) :
    m.ctxOf c = { n.ctxOf c with ackHeld := none } ∧ m.rd (Ob.ctx_answer c) = why ∧
    m.rd (answerCounter c why) = (n.rd (answerCounter c why) + 1) % 2 ^ 64 ∧
    ∀ o ∈ [Ob.ctx_escrowState c, Ob.ctx_armTick c, Ob.seq_nextStepNumber c], m.rd o = n.rd o := by
  have c64 := Node.ctx_lt hc
  obtain ⟨k, hk, counter⟩ := answerCounter_eq c why
  have width := widthOf_ctxCounters hc k (List.mem_append_left [7] hk)
  have seq := isSeqObj_ctx (c := c) (k := k) c64 (by simp at hk; omega)
  simp only [List.mem_cons, List.not_mem_nil, or_false] at hk
  unfold Node.giveAnswer at hm
  dsimp only at hm
  rw [← answerCounter, counter] at hm
  have sends : ((((n.wr (Ob.ctx_answer c) why).wr (Ob.seq_nakReason c) (if why ≤ 6 then why else 0)).bump (0x484000 + k + c * 256)).modCtx c
      fun y => { y with ackHeld := none }).KeepsSteps m := hm ▸ (Node.KeepsSteps.refl _).sendAck
  have rd (o : Nat) (ho : isSeqObj o = true) (other : 0x484000 + k + c * 256 ≠ o) (reason : Ob.seq_nakReason c ≠ o) :
      m.rd o = (n.wr (Ob.ctx_answer c) why).rd o := by
    rw [sends.rd o ho, Node.modCtx_rd, Node.rd_bump_ne _ (isEcnt_of_seqObj ho) other, Node.rd_wr_ne _ _ reason]
  refine ⟨?_, ?_, ?_, ?_⟩
  · rw [sends.ctxOf, Node.modCtx_ctxOf_same, Node.ctxOf_bump]
    rfl
  · rw [rd (Ob.ctx_answer c) (isSeqObj_ctx (k := 2) c64 (by decide)) (by unfold Ob.ctx_answer; omega) (by unfold Ob.ctx_answer Ob.seq_nakReason; omega), Node.rd_wr_same]
  · rw [counter, sends.rd _ seq, Node.modCtx_rd, Node.rd_bump_same _ _ (isEcnt_of_seqObj seq), Node.rd_wr_ne _ _ (by unfold Ob.seq_nakReason; omega),
      Node.rd_wr_ne _ _ (by unfold Ob.ctx_answer; omega)]
    exact congrArg _ (congrArg _ width)
  · intro o ho
    have seqs : isSeqObj o = true ∧ 0x484000 + k + c * 256 ≠ o ∧ Ob.seq_nakReason c ≠ o ∧ Ob.ctx_answer c ≠ o := by
      simp only [List.mem_cons, List.not_mem_nil, or_false, Ob.ctx_escrowState, Ob.ctx_armTick, Ob.seq_nextStepNumber] at ho
      rw [isSeqObj, decide_eq_true_eq, Ob.seq_nakReason, Ob.ctx_answer]
      omega
    obtain ⟨seqObj, other, reason, answer⟩ := seqs
    rw [rd o seqObj other reason, Node.rd_wr_ne _ _ answer]

/-- What a context that has taken an ARM reads: it is ARMED, and its step, times and place are those of the ARM (10 R265, R280). -/
structure Node.Armed (n m : Node) (c : Nat) (a : Msg) : Prop where
  escrow : m.escrow c = 1
  step : (m.ctxOf c).step = escStep a
  attempt : (m.ctxOf c).attempt = escAttempt a
  table : (m.ctxOf c).table = escTable a
  fire : (m.ctxOf c).fire = escFire a
  span : (m.ctxOf c).span = a.span
  epoch : (m.ctxOf c).epoch = a.epoch
  armTick : m.rd (Ob.ctx_armTick c) = n.tb1
  next : m.rd (Ob.seq_nextStepNumber c) = n.rd (Ob.seq_nextStepNumber c)

theorem Node.rd_arm (n : Node) {c o p : Nat} (a : Msg) (ho : isSeqObj o = true)
    (other : o ∉ [Ob.ctx_escrowState c, Ob.seq_walkState c, Ob.ctx_instance c, Ob.ctx_armTick c]) : (n.arm c p a).rd o = n.rd o := by
  simp only [List.mem_cons, List.not_mem_nil, or_false, not_or] at other
  obtain ⟨escrow, walk, inst, armTick⟩ := other
  unfold Node.arm
  dsimp only
  rw [Node.showWalk, Node.modCtx_rd, Node.rd_events _ _ _ _ (isEcnt_of_seqObj ho), Node.rd_wr_ne _ _ (Ne.symm armTick),
    Node.rd_wr_ne _ _ (Ne.symm inst), Node.rd_wr_ne _ _ (Ne.symm walk), Node.rd_wr_ne _ _ (Ne.symm escrow), Node.modCtx_rd]

theorem Node.armed_arm (n : Node) {c : Nat} (c64 : c < 64) (p : Nat) (a : Msg) : n.Armed (n.arm c p a) c a := by
  have next : (n.arm c p a).rd (Ob.seq_nextStepNumber c) = n.rd (Ob.seq_nextStepNumber c) := by
    refine n.rd_arm a (isSeqObj_nextStep c64) ?_
    simp only [List.mem_cons, List.not_mem_nil, or_false, Ob.seq_nextStepNumber, Ob.ctx_escrowState, Ob.seq_walkState, Ob.ctx_instance, Ob.ctx_armTick]
    omega
  have armTick : (n.arm c p a).rd (Ob.ctx_armTick c) = n.tb1 := by
    unfold Node.arm
    dsimp only
    rw [Node.showWalk, Node.modCtx_rd, Node.rd_events _ _ _ _ (isEcnt_of_seqObj (isSeqObj_ctx (k := 3) c64 (by decide))), Node.rd_wr_same]
  have escrow : (n.arm c p a).escrow c = 1 := by
    have apart : Ob.ctx_armTick c ≠ Ob.ctx_escrowState c ∧ Ob.ctx_instance c ≠ Ob.ctx_escrowState c ∧ Ob.seq_walkState c ≠ Ob.ctx_escrowState c := by
      unfold Ob.ctx_armTick Ob.ctx_escrowState Ob.ctx_instance Ob.seq_walkState
      omega
    obtain ⟨tick, inst, walk⟩ := apart
    unfold Node.arm
    dsimp only
    rw [Node.escrow, Node.showWalk, Node.modCtx_rd, Node.rd_events _ _ _ _ (isEcnt_of_seqObj (isSeqObj_escrowState c64)),
      Node.rd_wr_ne _ _ tick, Node.rd_wr_ne _ _ inst, Node.rd_wr_ne _ _ walk, Node.rd_wr_same]
  have ctx : ∃ x : Ctx, (n.arm c p a).ctxOf c = x ∧ x.step = escStep a ∧ x.attempt = escAttempt a ∧ x.table = escTable a ∧
      x.fire = escFire a ∧ x.span = a.span ∧ x.epoch = a.epoch := by
    refine ⟨_, rfl, ?_⟩
    unfold Node.arm
    dsimp only
    rw [Node.showWalk, Node.modCtx_ctxOf_same, (recOnly.of_objs (Node.events_frame ..)).ctxOf, Node.wr_ctxOf, Node.wr_ctxOf, Node.wr_ctxOf, Node.wr_ctxOf,
      Node.modCtx_ctxOf_same]
    exact ⟨rfl, rfl, rfl, rfl, rfl, rfl⟩
  obtain ⟨x, rfl, step, attempt, table, fire, span, epoch⟩ := ctx
  exact ⟨escrow, step, attempt, table, fire, span, epoch, armTick, next⟩

end
end Sys2Proof.Machine

namespace Sys2Proof.Machine

/-! ### An ARM is received -/

section
variable {n m : Node} {p : Nat} {a : Msg}

@[simp] theorem Node.rd_notesArm (n : Node) (p : Nat) (a : Msg) (o : Nat) : (n.notesArm p a).rd o = n.rd o := by
  rw [Node.notesArm, Node.noteArm, Node.modCtx_rd, Node.rd_consume]

theorem Node.ctxOf_consume (n : Node) (p : Nat) (f : Msg → Bool) (c : Nat) : (n.consume p f).ctxOf c = n.ctxOf c := by
  rw [Node.consume_eq]
  rfl

theorem Node.ctxOf_notesArm (n : Node) (p : Nat) (a : Msg) :
    (n.notesArm p a).ctxOf (escCtx a) = { n.ctxOf (escCtx a) with arms := ((escStep a, escFire a) :: (n.ctxOf (escCtx a)).arms).take 64 } := by
  rw [Node.notesArm, Node.noteArm, Node.modCtx_ctxOf_same, Node.ctxOf_consume]

theorem Node.sameInstance_consume (n : Node) (p : Nat) (f : Msg → Bool) (c : Nat) (a : Msg) :
    (n.consume p f).sameInstance c a = n.sameInstance c a := by rw [Node.sameInstance, Node.ctxOf_consume, Node.sameInstance]

theorem Node.ctxCount_consume (n : Node) (p : Nat) (f : Msg → Bool) : (n.consume p f).ctxCount = n.ctxCount := by rw [Node.consume_eq]; rfl

theorem Node.stepHeld_consume (n : Node) (p : Nat) (f : Msg → Bool) (c : Nat) : (n.consume p f).stepHeld c = n.stepHeld c := by
  rw [Node.consume_eq]
  rfl

/-- An ARM that names another step than its context holds is noted, and answered as the context stands (10 R265, R268). -/
theorem armReceived_other (waits : n.peek p (isEscrowKind 1) = some a) (inside : escCtx a < n.ctxCount)
    (other : n.sameInstance (escCtx a) a = false) : armReceived p n = Node.firstKeyRecord (
      if n.stepHeld (escCtx a) then (n.notesArm p a).busyArm (escCtx a) a
      else if n.drained then (n.notesArm p a).answerOnce (escCtx a) a (fun n => (n.wr (Ob.ctx_answer (escCtx a)) 0xFF).ackFor a 0 0 0)
      else (n.notesArm p a).newInstance (escCtx a) p a) := by
  have drained : (n.consume p (isEscrowKind 1)).drained = n.drained := by rw [Node.consume_eq]; rfl
  rw [armReceived, Node.onMsg_some waits]
  dsimp only
  rw [Node.ctxCount_consume, if_neg (not_le.mpr inside), Node.sameInstance_consume, other, if_neg Bool.false_ne_true, Node.stepHeld_consume, drained]
  rfl

/-- An ARM of the step that the context holds is compared with the one it took (10 R265). -/
theorem armReceived_copy (waits : n.peek p (isEscrowKind 1) = some a) (inside : escCtx a < n.ctxCount)
    (same : n.sameInstance (escCtx a) a = true) (held : n.stepHeld (escCtx a) = true) :
    armReceived p n = (n.consume p (isEscrowKind 1)).copyCheck (escCtx a) a := by
  rw [armReceived, Node.onMsg_some waits]
  dsimp only
  rw [Node.ctxCount_consume, if_neg (not_le.mpr inside), Node.sameInstance_consume, same, if_pos rfl, Node.stepHeld_consume, held, if_pos rfl]

theorem Node.Armed.of_keeps {k : Node} {c : Nat} (c64 : c < 64) (h : n.Armed m c a) (g : m.KeepsSteps k) : n.Armed k c a where
  escrow := (g.rd _ (isSeqObj_escrowState c64)).trans h.escrow
  step := by rw [g.ctxOf, h.step]
  attempt := by rw [g.ctxOf, h.attempt]
  table := by rw [g.ctxOf, h.table]
  fire := by rw [g.ctxOf, h.fire]
  span := by rw [g.ctxOf, h.span]
  epoch := by rw [g.ctxOf, h.epoch]
  armTick := (g.rd _ (isSeqObj_ctx (k := 3) c64 (by decide))).trans h.armTick
  next := (g.rd _ (isSeqObj_nextStep c64)).trans h.next

end
end Sys2Proof.Machine

namespace Sys2Proof.Machine

section
variable {n m : Node} {p c : Nat} {a : Msg}

theorem Node.Armed.giveAnswer (h : n.Armed m c a) (hc : c < m.ctxCount) (why : Nat) : n.Armed (m.giveAnswer c why) c a := by
  obtain ⟨ctx, -, -, rd⟩ := giveAnswer_spec hc why rfl
  exact ⟨(rd _ (by simp)).trans h.escrow, by rw [ctx, ← h.step], by rw [ctx, ← h.attempt], by rw [ctx, ← h.table], by rw [ctx, ← h.fire],
    by rw [ctx, ← h.span], by rw [ctx, ← h.epoch], (rd _ (by simp)).trans h.armTick, (rd _ (by simp)).trans h.next⟩

/-- An answer that waits for nothing is given at once (10 R267). -/
theorem newInstance_answers (now : n.readiness c a ≠ 0 ∨ n.regionWait (n.entries (escTable a)) = false) :
    n.newInstance c p a = (n.arm c p a).giveAnswer c (n.readiness c a) := by
  refine if_neg ?_
  rw [Bool.and_eq_true, beq_iff_eq]
  rintro ⟨ready, waits⟩
  rcases now with nak | free
  · exact nak ready
  · simp [waits] at free

/-- The answer of a ready context is held while a region is waited for (07 R199). -/
theorem newInstance_holds (ready : n.readiness c a = 0) (waits : n.regionWait (n.entries (escTable a)) = true) :
    n.newInstance c p a = ((n.arm c p a).modCtx c (fun x => { x with ackHeld := some n.tb1 })).startWakes (n.entries (escTable a)) :=
  if_pos (by rw [ready, waits]; rfl)

theorem Node.ctxCount_arm : (n.arm c p a).ctxCount = n.ctxCount := Node.ctxCount_congr (Node.OfKind.arm (h := rfl))

theorem Node.armed_newInstance (hc : c < n.ctxCount) : n.Armed (n.newInstance c p a) c a := by
  have armed := n.armed_arm (Node.ctx_lt hc) p a
  by_cases now : n.readiness c a ≠ 0 ∨ n.regionWait (n.entries (escTable a)) = false
  · rw [newInstance_answers now]
    exact armed.giveAnswer (by rwa [Node.ctxCount_arm]) _
  · simp only [ne_eq, not_or, not_not, Bool.not_eq_false] at now
    rw [newInstance_holds now.1 now.2]
    refine Node.Armed.of_keeps (m := (n.arm c p a).modCtx c _) (Node.ctx_lt hc) ?_ (Node.KeepsSteps.refl _).startWakes
    obtain ⟨escrow, step, attempt, table, fire, span, epoch, armTick, next⟩ := armed
    exact ⟨escrow, by rw [Node.modCtx_ctxOf_same, ← step], by rw [Node.modCtx_ctxOf_same, ← attempt], by rw [Node.modCtx_ctxOf_same, ← table],
      by rw [Node.modCtx_ctxOf_same, ← fire], by rw [Node.modCtx_ctxOf_same, ← span], by rw [Node.modCtx_ctxOf_same, ← epoch], armTick, next⟩

theorem newInstance_answer (hc : c < n.ctxCount) (now : n.readiness c a ≠ 0 ∨ n.regionWait (n.entries (escTable a)) = false) {m : Node}
    (hm : n.newInstance c p a = m) : m.rd (Ob.ctx_answer c) = n.readiness c a ∧ (m.ctxOf c).ackHeld = none ∧
    m.rd (answerCounter c (n.readiness c a)) = (n.rd (answerCounter c (n.readiness c a)) + 1) % 2 ^ 64 := by
  obtain ⟨ctx, answer, count, -⟩ := giveAnswer_spec (n := n.arm c p a) (by rwa [Node.ctxCount_arm]) (n.readiness c a) ((newInstance_answers now).symm.trans hm)
  refine ⟨answer, by rw [ctx], count.trans ?_⟩
  obtain ⟨k, hk, counter⟩ := answerCounter_eq c (n.readiness c a)
  simp only [List.mem_cons, List.not_mem_nil, or_false] at hk
  rw [counter, n.rd_arm a (isSeqObj_ctx (Node.ctx_lt hc) (by omega))]
  simp only [List.mem_cons, List.not_mem_nil, or_false, Ob.ctx_escrowState, Ob.seq_walkState, Ob.ctx_instance, Ob.ctx_armTick]
  omega

theorem newInstance_ackHeld (ready : n.readiness c a = 0) (waits : n.regionWait (n.entries (escTable a)) = true) :
    ((n.newInstance c p a).ctxOf c).ackHeld = some n.tb1 := by
  rw [newInstance_holds ready waits, (Node.KeepsSteps.refl _).startWakes.ctxOf, Node.modCtx_ctxOf_same]

end
end Sys2Proof.Machine

namespace Sys2Proof.Machine

section
variable {n : Node} {p c : Nat} {a : Msg}

/-- While another step is held the answer to an ARM is reason 6, given once, and the state stays (10 R268). -/
theorem busyArm_spec (hc : c < n.ctxCount) {m : Node} (hm : n.busyArm c a = m) : m.escrow c = n.escrow c ∧ (m.ctxOf c).step = (n.ctxOf c).step ∧
    ((n.ctxOf c).refused ≠ some (instKey a) → m.rd (Ob.seq_nakReason c) = 6 ∧
      m.rd (Ob.ctx_answeredNak c) = (n.rd (Ob.ctx_answeredNak c) + 1) % 2 ^ 64) ∧
    ((n.ctxOf c).refused = some (instKey a) → m.rd (Ob.ctx_answeredNak c) = n.rd (Ob.ctx_answeredNak c)) := by
  have c64 := Node.ctx_lt hc
  unfold Node.busyArm Node.answerOnce at hm
  by_cases refused : (n.ctxOf c).refused = some (instKey a)
  · rw [if_pos (by simp [refused])] at hm
    subst hm
    exact ⟨rfl, rfl, fun first => absurd refused first, fun _ => rfl⟩
  · rw [if_neg (by simp [refused])] at hm
    have sends : (((n.modCtx c fun x => { x with refused := some (instKey a) }).wr (Ob.seq_nakReason c) 6).bump (Ob.ctx_answeredNak c)).KeepsSteps m :=
      hm ▸ (Node.KeepsSteps.refl _).sendAck
    have escrow := isSeqObj_escrowState c64
    have reason := isSeqObj_seq (c := c) (k := 4) c64 (by decide)
    have naks := isSeqObj_ctx (c := c) (k := 6) c64 (by decide)
    have width := widthOf_ctxCounters hc 6 (by decide)
    have apart : Ob.ctx_answeredNak c ≠ Ob.ctx_escrowState c ∧ Ob.ctx_answeredNak c ≠ Ob.seq_nakReason c ∧
        Ob.seq_nakReason c ≠ Ob.ctx_escrowState c ∧ Ob.seq_nakReason c ≠ Ob.ctx_answeredNak c := by
      unfold Ob.ctx_answeredNak Ob.ctx_escrowState Ob.seq_nakReason
      omega
    obtain ⟨nakEscrow, nakReason, reasonEscrow, reasonNak⟩ := apart
    refine ⟨?_, ?_, fun _ => ⟨?_, ?_⟩, fun again => absurd again refused⟩
    · rw [Node.escrow, sends.rd _ escrow, Node.rd_bump_ne _ (isEcnt_of_seqObj escrow) nakEscrow, Node.rd_wr_ne _ _ reasonEscrow]
      rfl
    · rw [sends.ctxOf, Node.ctxOf_bump, Node.wr_ctxOf, Node.modCtx_ctxOf_same]
    · rw [sends.rd _ reason, Node.rd_bump_ne _ (isEcnt_of_seqObj reason) nakReason, Node.rd_wr_same]
    · rw [sends.rd _ naks, Node.rd_bump_same _ _ (isEcnt_of_seqObj naks), Node.rd_wr_ne _ _ reasonNak]
      exact congrArg _ (congrArg _ width)

/-- A copy that says what the first one said changes nothing (10 R265). -/
theorem copyCheck_same (same : (n.ctxOf c).table = escTable a ∧ (n.ctxOf c).arm0 = a.cell 1) : n.copyCheck c a = n :=
  if_neg (by simp [same.1, same.2])

/-- A copy that differs ends the ARMED step with cause 0x32 (10 R265). -/
theorem copyCheck_differs (c64 : c < 64) (armed : n.escrow c = 1) (differs : (n.ctxOf c).table ≠ escTable a ∨ (n.ctxOf c).arm0 ≠ a.cell 1) :
    EndedUnfired n (n.copyCheck c a) c 0x32 := by
  have counted : n.ActsOn c (isStepObj c) [] (n.bump (Ob.ctx_unconfirmed c)) :=
    (Node.ActsOn.refl ..).bump (mayWrite_step (base := 0x4840) (k := 8) c64 (by decide) (.inr (.inl rfl)))
  have still : (n.bump (Ob.ctx_unconfirmed c)).escrow c = 1 :=
    (n.rd_bump_ne (isEcnt_of_seqObj (isSeqObj_escrowState c64)) (by unfold Ob.ctx_unconfirmed Ob.ctx_escrowState; omega)).trans armed
  have struck : n.copyCheck c a = (n.bump (Ob.ctx_unconfirmed c)).strikeStep c 0x32 (n.ctxOf c).table
      (put 71 64 (n.ctxOf c).attempt + put 47 0 (n.ctxOf c).step) := by
    refine if_pos ?_
    rw [armed]
    rcases differs with table | arm
    · simp [table]
    · simp [arm]
  obtain ⟨escrow, recorded, placed, next, outcome⟩ := strikeStep_armed_spec c64 _ _ still (by decide) struck.symm
  rw [Node.ctxOf_bump] at next
  exact ⟨escrow, recorded.of_count (counted.count _ (by decide)), outcome, next, placed.trans counted.placed⟩

/-! ### CONFIRM and RECALL -/

/-- A CONFIRM or RECALL of the step held moves an ARMED context (10 R265). -/
theorem escrowVerdict_acts {k : Nat} {act : Nat → Node → Node} (waits : n.peek p (isEscrowKind k) = some a) (inside : escCtx a < n.ctxCount)
    (same : n.sameInstance (escCtx a) a = true) (armed : n.escrow (escCtx a) = 1) :
    escrowVerdict p k act n = act (escCtx a) (n.consume p (isEscrowKind k)) := by
  have still : (n.consume p (isEscrowKind k)).escrow (escCtx a) = 1 := (n.rd_consume ..).trans armed
  rw [escrowVerdict, Node.onMsg_some waits]
  dsimp only
  rw [Node.sameInstance_consume, same, still, if_neg (by simpa [Node.ctxCount_consume] using inside)]
  rfl

/-- One that finds the context without its step is counted (10 R266). -/
theorem escrowVerdict_stale {k : Nat} {act : Nat → Node → Node} (waits : n.peek p (isEscrowKind k) = some a)
    (stale : n.sameInstance (escCtx a) a = false ∨ n.escrow (escCtx a) = 0) :
    escrowVerdict p k act n = (n.consume p (isEscrowKind k)).bump Ob.esc_staleMessages := by
  have still : (n.consume p (isEscrowKind k)).escrow (escCtx a) = n.escrow (escCtx a) := n.rd_consume ..
  rw [escrowVerdict, Node.onMsg_some waits]
  refine if_pos ?_
  rw [Node.sameInstance_consume, still]
  rcases stale with other | idle
  · simp [other]
  · simp [idle]

theorem confirmCtx_spec : (confirmCtx c n).escrow c = 2 ∧ (confirmCtx c n).rd (Ob.ctx_confirmTick c) = n.tb1 ∧
    (confirmCtx c n).rd (Ob.seq_nextStepNumber c) = n.rd (Ob.seq_nextStepNumber c) ∧ ∀ d, d ≠ c → d < 64 → (confirmCtx c n).escrow d = n.escrow d := by
  have rd (o : Nat) (tick : Ob.ctx_confirmTick c ≠ o) : (confirmCtx c n).rd o = (n.wr (Ob.ctx_escrowState c) 2).rd o := Node.rd_wr_ne _ _ tick
  refine ⟨?_, Node.rd_wr_same .., ?_, fun d hd _ => ?_⟩
  · exact (rd _ (by unfold Ob.ctx_confirmTick Ob.ctx_escrowState; omega)).trans (Node.rd_wr_same ..)
  · exact (rd _ (by unfold Ob.ctx_confirmTick Ob.seq_nextStepNumber; omega)).trans
      (Node.rd_wr_ne _ _ (by unfold Ob.ctx_escrowState Ob.seq_nextStepNumber; omega))
  · exact (rd _ (by unfold Ob.ctx_confirmTick Ob.ctx_escrowState; omega)).trans (Node.rd_wr_ne _ _ (by unfold Ob.ctx_escrowState; omega))

theorem recallCtx_spec (hc : c < n.ctxCount) : (recallCtx c n).escrow c = 4 ∧
    (recallCtx c n).rd (Ob.ctx_recalled c) = (n.rd (Ob.ctx_recalled c) + 1) % 2 ^ 64 ∧
    (recallCtx c n).rd (Ob.seq_nextStepNumber c) = n.rd (Ob.seq_nextStepNumber c) ∧ ∀ d, d ≠ c → d < 64 → (recallCtx c n).escrow d = n.escrow d := by
  have c64 := Node.ctx_lt hc
  have rd (o : Nat) (ho : isSeqObj o = true) (counter : Ob.ctx_recalled c ≠ o) :
      (recallCtx c n).rd o = (n.wr (Ob.ctx_escrowState c) 4).rd o := Node.rd_bump_ne _ (isEcnt_of_seqObj ho) counter
  refine ⟨?_, ?_, ?_, fun d hd d64 => ?_⟩
  · exact (rd _ (isSeqObj_escrowState c64) (by unfold Ob.ctx_recalled Ob.ctx_escrowState; omega)).trans (Node.rd_wr_same ..)
  · have seq : isSeqObj (Ob.ctx_recalled c) = true := isSeqObj_ctx (k := 7) c64 (by decide)
    rw [recallCtx, Node.modCtx_rd, Node.rd_bump_same _ _ (isEcnt_of_seqObj seq), Node.rd_wr_ne _ _ (by unfold Ob.ctx_escrowState Ob.ctx_recalled; omega)]
    exact congrArg _ (congrArg _ (widthOf_ctxCounters hc 7 (by decide)))
  · exact (rd _ (isSeqObj_nextStep c64) (by unfold Ob.ctx_recalled Ob.seq_nextStepNumber; omega)).trans
      (Node.rd_wr_ne _ _ (by unfold Ob.ctx_escrowState Ob.seq_nextStepNumber; omega))
  · exact (rd _ (isSeqObj_escrowState d64) (by unfold Ob.ctx_recalled Ob.ctx_escrowState; omega)).trans
      (Node.rd_wr_ne _ _ (by unfold Ob.ctx_escrowState; omega))

end
end Sys2Proof.Machine

namespace Sys2Proof.Machine

/-! ### Held answers, the guard and F -/

section
variable {n : Node} {c : Nat}

theorem ackRelease_held {t : Nat} (held : (n.ctxOf c).ackHeld = some t) (armed : n.escrow c = 1) : ackRelease c n =
    if !n.regionWait (n.stepEntries c) then n.giveAnswer c (if n.regionReason (n.stepEntries c) then 9 else 0)
    else if t + 256 ≤ n.tb1 then n.giveAnswer c 9 else n := by
  rw [ackRelease, held]
  dsimp only
  rw [armed]
  rfl

/-- An answer that is given leaves the context ARMED, and posts its reason (10 R267). -/
theorem giveAnswer_armed (hc : c < n.ctxCount) (armed : n.escrow c = 1) (why : Nat) : (n.giveAnswer c why).rd (Ob.ctx_answer c) = why ∧
    ((n.giveAnswer c why).ctxOf c).ackHeld = none ∧ (n.giveAnswer c why).escrow c = 1 := by
  obtain ⟨ctx, answer, -, rd⟩ := giveAnswer_spec hc why rfl
  exact ⟨answer, by rw [ctx], (rd _ (by simp)).trans armed⟩

theorem endedUnfired_unconfirmed (c64 : c < 64) (kind : Nat) (armed : n.escrow c = 1) : EndedUnfired n (n.unconfirmed c kind) c 0x31 := by
  obtain ⟨escrow, recorded, placed, next, outcome⟩ := unconfirmed_spec c64 kind armed rfl
  exact ⟨escrow, recorded, outcome, next, placed⟩

/-- A context that is ARMED at its first commit tick, or 64 ticks before F, ends unfired (10 R265). -/
theorem guardExpiry_ends (c64 : c < 64) (armed : n.escrow c = 1) (due : n.firstCommitPassed c = true ∨ (n.ctxOf c).fire ≤ n.tb1 + 64) :
    EndedUnfired n (guardExpiry c n) c 0x31 := by
  by_cases passed : n.firstCommitPassed c = true
  · rw [guardExpiry_passed armed passed]
    exact endedUnfired_unconfirmed c64 1 armed
  · have late : (n.ctxOf c).fire ≤ n.tb1 + 64 := due.resolve_left passed
    have ends : guardExpiry c n = n.unconfirmed c 2 := by
      rw [guardExpiry, armed, if_neg (by decide), if_neg passed, decide_eq_true late]
      rfl
    rw [ends]
    exact endedUnfired_unconfirmed c64 2 armed

theorem guardExpiry_early (early : n.firstCommitPassed c = false) (before : n.tb1 + 64 < (n.ctxOf c).fire) : guardExpiry c n = n := by
  rw [guardExpiry, early, if_neg Bool.false_ne_true, decide_eq_false (not_le.mpr before)]
  exact ite_self _

theorem recalledF_due (recalled : n.escrow c = 4) (due : (n.ctxOf c).fire ≤ n.tb1) : recalledF c n = n.wr (Ob.ctx_escrowState c) 0 := by
  rw [recalledF, recalled, decide_eq_true due]
  rfl

theorem recalledF_early (early : n.tb1 < (n.ctxOf c).fire) : recalledF c n = n := by
  rw [recalledF, decide_eq_false (not_le.mpr early), Bool.and_false]
  rfl

theorem stepFire_idle (idle : n.escrow c ≠ 2 ∨ n.tb1 < (n.ctxOf c).fire) : stepFire c n = n := by
  have off : (n.escrow c == 2 && decide ((n.ctxOf c).fire ≤ n.tb1)) = false := by
    rcases idle with other | early
    · simp [other]
    · simp [early]
  unfold stepFire
  dsimp only
  rw [off]
  rfl

/-! ### The fire -/

/-- What the fire of a context writes before the taint of a loose lane (09 R247, R249; 10 R265). -/
def Node.fires (n : Node) (c : Nat) : Node :=
  ((((n.wr (Ob.ctx_escrowState c) 3).wr (Ob.seq_walkState c) 1).wr (Ob.seq_nextStepNumber c) (((n.ctxOf c).step + 1) % 2 ^ 48)).wr
    (Ob.tag_taintReasons c) 0).events 0x12 0 1

/-- What a context of unit `n` keeps of its fire (09 R247; 13 R363; 15 R424). -/
def Node.firedCtx (n : Node) (c : Nat) (y : Ctx) : Ctx :=
  { y with
    tagDue := true, keyAtF := n.keyAtStart (n.ctxOf c).fire, progAtF := n.rd (Ob.prog_programDigest (n.ctxOf c).table)
    firedBand := n.rd Ob.aud_temperatureBand, firedClass := n.loadClass (n.ctxOf c).table, lastLaunch := [] }

/-- The accumulators of a context as F finds them (09 R247). -/
def ClearSt.atF (k : ClearSt) (c : Nat) : ClearSt :=
  { k with defAccs := k.defAccs.map (fun a => if a.ctx == c then { a with atFire := a.elems, sentIn := none } else a) }

/-- A fire that runs fenced is counted (15 R426). -/
def Node.countsFenced (n : Node) (c : Nat) (m : Node) : Node :=
  if n.firesFenced c then m.modCensus (fun k => { k with fencedFires := k.fencedFires + 1 }) else m

/-- What a fire of unit `n` takes at F, noted in unit `m` (09 R247; 13 R363; 15 R418, R424). -/
def Node.takesAtF (n : Node) (c : Nat) (m : Node) : Node :=
  n.countsFenced c (((m.modClr (·.atF c)).pruneIssues c).modCtx c (n.firedCtx c))

section
variable (m : Node)

@[simp] theorem Node.rd_countsFenced (o : Nat) : (n.countsFenced c m).rd o = m.rd o := by
  unfold Node.countsFenced
  split <;> rfl

@[simp] theorem Node.ctxOf_countsFenced (d : Nat) : (n.countsFenced c m).ctxOf d = m.ctxOf d := by
  unfold Node.countsFenced
  split <;> rfl

@[simp] theorem Node.rd_takesAtF (o : Nat) : (n.takesAtF c m).rd o = m.rd o := by
  rw [Node.takesAtF, Node.rd_countsFenced, Node.modCtx_rd, Node.pruneIssues, Node.modClr_rd, Node.modClr_rd]

theorem Node.entry_takesAtF : ((n.takesAtF c m).ctxOf c).entry = (m.ctxOf c).entry := by
  rw [Node.takesAtF, Node.ctxOf_countsFenced, Node.modCtx_ctxOf_same]
  rfl

theorem Node.ctxOf_takesAtF_ne {d : Nat} (h : d ≠ c) : (n.takesAtF c m).ctxOf d = m.ctxOf d := by
  rw [Node.takesAtF, Node.ctxOf_countsFenced, Node.modCtx_ctxOf_ne _ _ h.symm]
  rfl

end

theorem stepFire_due (confirmed : n.escrow c = 2) (due : (n.ctxOf c).fire ≤ n.tb1) :
    stepFire c n = if (n.takesAtF c (n.fires c)).looseLane then (n.takesAtF c (n.fires c)).taint c 9 else n.takesAtF c (n.fires c) := by
  have on : (n.escrow c == 2 && decide ((n.ctxOf c).fire ≤ n.tb1)) = true := by rw [confirmed, decide_eq_true due]; rfl
  unfold stepFire
  dsimp only
  rw [on, when_true]
  rfl

theorem Node.rd_fires_ne {o : Nat} (event : isEcnt o = false)
    (other : o ∉ [Ob.ctx_escrowState c, Ob.seq_walkState c, Ob.seq_nextStepNumber c, Ob.tag_taintReasons c]) : (n.fires c).rd o = n.rd o := by
  simp only [List.mem_cons, List.not_mem_nil, or_false, not_or] at other
  obtain ⟨escrow, walk, next, taint⟩ := other
  rw [Node.fires, Node.rd_events _ _ _ _ event, Node.rd_wr_ne _ _ (Ne.symm taint), Node.rd_wr_ne _ _ (Ne.symm next),
    Node.rd_wr_ne _ _ (Ne.symm walk), Node.rd_wr_ne _ _ (Ne.symm escrow)]

/-- A context that fires is FIRED, its walk starts, its next step number is past the step, and its taint is clear (10 R265). -/
theorem Node.fires_spec (c64 : c < 64) : (n.fires c).escrow c = 3 ∧ (n.fires c).walk c = 1 ∧
    (n.fires c).rd (Ob.seq_nextStepNumber c) = ((n.ctxOf c).step + 1) % 2 ^ 48 ∧ (n.fires c).rd (Ob.tag_taintReasons c) = 0 := by
  have apart : Ob.tag_taintReasons c ≠ Ob.ctx_escrowState c ∧ Ob.tag_taintReasons c ≠ Ob.seq_walkState c ∧
      Ob.tag_taintReasons c ≠ Ob.seq_nextStepNumber c ∧ Ob.seq_nextStepNumber c ≠ Ob.ctx_escrowState c ∧
      Ob.seq_nextStepNumber c ≠ Ob.seq_walkState c ∧ Ob.seq_walkState c ≠ Ob.ctx_escrowState c := by
    unfold Ob.tag_taintReasons Ob.ctx_escrowState Ob.seq_walkState Ob.seq_nextStepNumber
    omega
  obtain ⟨tagEscrow, tagWalk, tagNext, nextEscrow, nextWalk, walkEscrow⟩ := apart
  have rd (o : Nat) (seq : o / 256 = 0x4040 + c ∨ o / 256 = 0x4840 + c ∨ o / 256 = 0x7040 + c) :=
    Node.rd_events ((((n.wr (Ob.ctx_escrowState c) 3).wr (Ob.seq_walkState c) 1).wr (Ob.seq_nextStepNumber c)
      (((n.ctxOf c).step + 1) % 2 ^ 48)).wr (Ob.tag_taintReasons c) 0) 0x12 0 1 (o := o) (isEcnt_of_not_rec (isRecObj_of_index (by omega)))
  refine ⟨?_, ?_, ?_, ?_⟩
  · rw [Node.escrow, Node.fires, rd _ (by unfold Ob.ctx_escrowState; omega), Node.rd_wr_ne _ _ tagEscrow, Node.rd_wr_ne _ _ nextEscrow,
      Node.rd_wr_ne _ _ walkEscrow, Node.rd_wr_same]
  · rw [Node.walk, Node.fires, rd _ (by unfold Ob.seq_walkState; omega), Node.rd_wr_ne _ _ tagWalk, Node.rd_wr_ne _ _ nextWalk, Node.rd_wr_same]
  · rw [Node.fires, rd _ (by unfold Ob.seq_nextStepNumber; omega), Node.rd_wr_ne _ _ tagNext, Node.rd_wr_same]
  · rw [Node.fires, rd _ (by unfold Ob.tag_taintReasons; omega), Node.rd_wr_same]

/-- Whether a lane is loose is read from the lanes and from Strict (13 R358). -/
theorem Node.looseLane_congr {m : Node} (strict : m.rd Ob.det_strict = n.rd Ob.det_strict)
    (lanes : ∀ p < 2, m.rd (Ob.link_state p) = n.rd (Ob.link_state p) ∧
      m.rd (Ob.link_operatingFeatures p) = n.rd (Ob.link_operatingFeatures p)) : m.looseLane = n.looseLane := by
  obtain ⟨state0, features0⟩ := lanes 0 (by decide)
  obtain ⟨state1, features1⟩ := lanes 1 (by decide)
  simp only [Node.looseLane, Node.strict, Node.lst, strict, List.any_cons, List.any_nil, state0, features0, state1, features1]

theorem Node.looseLane_fires (c64 : c < 64) : (n.takesAtF c (n.fires c)).looseLane = n.looseLane := by
  have kept (o : Nat) (event : isEcnt o = false) (outside : o < 0x404000 ∨ o = 0x700000) : (n.takesAtF c (n.fires c)).rd o = n.rd o := by
    rw [Node.rd_takesAtF]
    refine Node.rd_fires_ne event ?_
    simp only [List.mem_cons, List.not_mem_nil, or_false, Ob.ctx_escrowState, Ob.seq_walkState, Ob.seq_nextStepNumber, Ob.tag_taintReasons]
    omega
  refine Node.looseLane_congr (kept _ (by decide) (.inr rfl)) fun p hp => ?_
  obtain rfl | rfl : p = 0 ∨ p = 1 := by omega
  · exact ⟨kept _ (by decide) (.inl (by decide)), kept _ (by decide) (.inl (by decide))⟩
  · exact ⟨kept _ (by decide) (.inl (by decide)), kept _ (by decide) (.inl (by decide))⟩

/-- The taint of a fired step whose reasons are clear is its one reason (13 R360). -/
theorem Node.rd_taint_clear {k : Nat} (fired : n.fired c = true) (clear : n.rd (Ob.tag_taintReasons c) = 0) :
    (n.taint c k).rd (Ob.tag_taintReasons c) = 2 ^ k := by
  rw [Node.taint, fired, clear, if_pos (by simp [bit]), Node.rd_wr_same, Nat.zero_add]

/-- A CONFIRMED context fires at F (10 R265). -/
theorem stepFire_spec (c64 : c < 64) (confirmed : n.escrow c = 2) (due : (n.ctxOf c).fire ≤ n.tb1) {m : Node} (hm : stepFire c n = m) :
    m.escrow c = 3 ∧ m.walk c = 1 ∧ m.rd (Ob.seq_nextStepNumber c) = ((n.ctxOf c).step + 1) % 2 ^ 48 ∧
    m.rd (Ob.tag_taintReasons c) = (if n.looseLane then 2 ^ 9 else 0) ∧ (m.ctxOf c).entry = (n.ctxOf c).entry ∧
    ∀ d, d ≠ c → d < 64 → m.escrow d = n.escrow d ∧ m.ctxOf d = n.ctxOf d := by
  obtain ⟨escrow, walk, next, clear⟩ := Node.fires_spec (n := n) c64
  have ctx (d : Nat) : (n.fires c).ctxOf d = n.ctxOf d := (recOnly.of_objs (Node.events_frame ..)).ctxOf d
  have others (d : Nat) (hd : d ≠ c) (d64 : d < 64) : (n.fires c).escrow d = n.escrow d := by
    refine Node.rd_fires_ne (isEcnt_of_seqObj (isSeqObj_escrowState d64)) ?_
    simp only [List.mem_cons, List.not_mem_nil, or_false, Ob.ctx_escrowState, Ob.seq_walkState, Ob.seq_nextStepNumber, Ob.tag_taintReasons]
    omega
  rw [stepFire_due confirmed due, Node.looseLane_fires c64] at hm
  have rd (o : Nat) := Node.rd_takesAtF (n := n) (c := c) (n.fires c) o
  have entry := (Node.entry_takesAtF (n := n) (c := c) (n.fires c)).trans (by rw [ctx])
  have stays (d : Nat) (hd : d ≠ c) := (Node.ctxOf_takesAtF_ne (n := n) (n.fires c) hd).trans (ctx d)
  generalize n.takesAtF c (n.fires c) = t at hm rd entry stays
  have fired : t.fired c = true := by rw [Node.fired, Node.escrow, rd, ← Node.escrow, escrow]; rfl
  have seq (o : Nat) (ho : isSeqObj o = true) : m.rd o = (n.fires c).rd o := by
    rw [← rd, ← hm]
    exact (Node.KeepsSteps.ite (Node.KeepsSteps.refl t).taint (.refl t)).rd o ho
  have ctxs (d : Nat) : m.ctxOf d = t.ctxOf d := hm ▸ (Node.KeepsSteps.ite (Node.KeepsSteps.refl t).taint (.refl t)).ctxOf d
  refine ⟨(seq _ (isSeqObj_escrowState c64)).trans escrow, (seq _ (isSeqObj_seq (k := 0) c64 (by decide))).trans walk,
    (seq _ (isSeqObj_nextStep c64)).trans next, ?_, by rw [ctxs, entry],
    fun d hd d64 => ⟨(seq _ (isSeqObj_escrowState d64)).trans (others d hd d64), (ctxs d).trans (stays d hd)⟩⟩
  rw [← hm]
  split
  · exact Node.rd_taint_clear fired ((rd _).trans clear)
  · exact (rd _).trans clear

end
end Sys2Proof.Machine

namespace Sys2Proof.Machine

/-! ### The escrow commands of a TSU -/

section
variable {s : State} {p : Nat} {a : Msg} (tsu : s.tsu.isHub = false) (hp : p < 2)
  (next : NextIs s.tsu.abortsFirst p a)
include tsu hp next

/-- A command for the message that arrived first takes it (10 R266). -/
theorem runsOn_escrowIn {i : Instr} {k : Nat} {P : Node → Prop} (hi : exec i s = onNode s .tsu (s.tsu.hasPort p) (escrowIn p k))
    (kind : isEscrowKind k a = true) (waits : (s.tsu.peek p (isEscrowKind k)).isSome = true)
    (h : P (takeEscrow p s.tsu.abortsFirst)) : RunsOn .tsu i s P := by
  have port : s.tsu.hasPort p = true := by simpa [Node.hasPort, Node.portCount, tsu] using hp
  refine runsOn_node (works_tsu tsu) hi port ?_
  rw [State.node, escrowIn_next hp next kind waits]
  exact h

theorem runsOn_armReceived {P : Node → Prop} (kind : isEscrowKind 1 a = true) (waits : (s.tsu.peek p (isEscrowKind 1)).isSome = true)
    (h : P (armReceived p s.tsu.abortsFirst)) : RunsOn .tsu (.armReceived p) s P :=
  runsOn_escrowIn tsu hp next rfl kind waits (by rwa [takeEscrow_arm next kind])

end

theorem Node.ctxCount_abortsFirst (n : Node) : n.abortsFirst.ctxCount = n.ctxCount := Node.ctxCount_congr (Node.OfKind.abortsFirst (h := rfl))

section
variable {n m : Node} {p : Nat} {a : Msg} (inside : escCtx a < n.ctxCount) (waits : n.peek p (isEscrowKind 1) = some a)
include inside waits

/-- The unit after an ARM that its context takes (10 R265, R267). -/
theorem armReceived_new (other : n.sameInstance (escCtx a) a = false) (free : n.stepHeld (escCtx a) = false) (up : n.drained = false) :
    ((n.notesArm p a).newInstance (escCtx a) p a).KeepsSteps (armReceived p n) := by
  rw [armReceived_other waits inside other, free, up]
  exact Node.keepsSteps_firstKeyRecord _

/-- An ARM of another step of an idle context arms it (10 R265). -/
theorem armReceived_arms (other : n.sameInstance (escCtx a) a = false) (free : n.stepHeld (escCtx a) = false) (up : n.drained = false) :
    n.Armed (armReceived p n) (escCtx a) a := by
  have count : escCtx a < (n.notesArm p a).ctxCount := (n.ctxCount_consume ..).symm ▸ inside
  have taken := armReceived_new inside waits other free up
  obtain ⟨escrow, step, attempt, table, fire, span, epoch, armTick, next⟩ := (Node.armed_newInstance count).of_keeps (Node.ctx_lt inside) taken
  have tick : (n.notesArm p a).tb1 = n.tb1 := by rw [Node.notesArm, Node.consume_eq]; rfl
  exact ⟨escrow, step, attempt, table, fire, span, epoch, armTick.trans tick, next.trans (n.rd_notesArm ..)⟩

/-- It answers at once with a reason, or without one where no region is waited for (10 R267, R268). -/
theorem armReceived_answers (other : n.sameInstance (escCtx a) a = false) (free : n.stepHeld (escCtx a) = false) (up : n.drained = false)
    (now : n.readiness (escCtx a) a ≠ 0 ∨ n.regionWait (n.entries (escTable a)) = false) {why : Nat} (reason : n.readiness (escCtx a) a = why) :
    (armReceived p n).rd (Ob.ctx_answer (escCtx a)) = why ∧ ((armReceived p n).ctxOf (escCtx a)).ackHeld = none ∧
    (armReceived p n).rd (answerCounter (escCtx a) why) = (n.rd (answerCounter (escCtx a) why) + 1) % 2 ^ 64 := by
  have c64 := Node.ctx_lt inside
  have count : escCtx a < (n.notesArm p a).ctxCount := (n.ctxCount_consume ..).symm ▸ inside
  have wait : (n.notesArm p a).regionWait ((n.notesArm p a).entries (escTable a)) = n.regionWait (n.entries (escTable a)) := by
    rw [Node.notesArm, Node.consume_eq]
    rfl
  have taken := armReceived_new inside waits other free up
  obtain ⟨answer, held, counted⟩ := newInstance_answer (p := p) (a := a) count (by rwa [wait, Node.readiness_notesArm]) rfl
  obtain ⟨k, hk, counter⟩ := answerCounter_eq (escCtx a) why
  simp only [List.mem_cons, List.not_mem_nil, or_false] at hk
  rw [Node.readiness_notesArm, reason] at answer counted
  rw [Node.rd_notesArm] at counted
  exact ⟨(taken.rd _ (isSeqObj_ctx (k := 2) c64 (by decide))).trans answer, by rw [taken.ctxOf, held],
    (taken.rd _ (counter ▸ isSeqObj_ctx c64 (by omega))).trans counted⟩

/-- While a region is waited for the answer of a ready context is held (07 R199). -/
theorem armReceived_holds (other : n.sameInstance (escCtx a) a = false) (free : n.stepHeld (escCtx a) = false) (up : n.drained = false)
    (ready : n.readiness (escCtx a) a = 0) (wait : n.regionWait (n.entries (escTable a)) = true) :
    ((armReceived p n).ctxOf (escCtx a)).ackHeld = some n.tb1 := by
  have still : (n.notesArm p a).regionWait ((n.notesArm p a).entries (escTable a)) = true := by
    rw [Node.notesArm, Node.consume_eq]
    exact wait
  rw [(armReceived_new inside waits other free up).ctxOf, newInstance_ackHeld (by rwa [Node.readiness_notesArm]) still, Node.notesArm, Node.consume_eq]
  rfl

/-- An ARM of another step while one is held changes nothing but its answer, reason 6, once (10 R268). -/
theorem armReceived_busy (other : n.sameInstance (escCtx a) a = false) (held : n.stepHeld (escCtx a) = true) {m : Node}
    (hm : armReceived p n = m) : m.escrow (escCtx a) = n.escrow (escCtx a) ∧ (m.ctxOf (escCtx a)).step = (n.ctxOf (escCtx a)).step ∧
    ((n.ctxOf (escCtx a)).refused ≠ some (instKey a) → m.rd (Ob.seq_nakReason (escCtx a)) = 6 ∧
      m.rd (Ob.ctx_answeredNak (escCtx a)) = (n.rd (Ob.ctx_answeredNak (escCtx a)) + 1) % 2 ^ 64) ∧
    ((n.ctxOf (escCtx a)).refused = some (instKey a) → m.rd (Ob.ctx_answeredNak (escCtx a)) = n.rd (Ob.ctx_answeredNak (escCtx a))) := by
  have c64 := Node.ctx_lt inside
  have count : escCtx a < (n.notesArm p a).ctxCount := (n.ctxCount_consume ..).symm ▸ inside
  obtain ⟨escrow, step, once, again⟩ := busyArm_spec (a := a) count rfl
  rw [armReceived_other waits inside other, held, if_pos rfl] at hm
  have kept : ((n.notesArm p a).busyArm (escCtx a) a).KeepsSteps m := hm ▸ Node.keepsSteps_firstKeyRecord _
  rw [Node.ctxOf_notesArm] at step once again
  rw [Node.rd_notesArm] at once again
  have naks := kept.rd _ (isSeqObj_ctx (k := 6) c64 (by decide))
  refine ⟨((kept.rd _ (isSeqObj_escrowState c64)).trans escrow).trans (n.rd_notesArm ..), by rw [kept.ctxOf, step], fun first => ?_, fun refused => naks.trans (again refused)⟩
  obtain ⟨reason, nak⟩ := once first
  exact ⟨(kept.rd _ (isSeqObj_seq (k := 4) c64 (by decide))).trans reason, naks.trans nak⟩

/-- A copy of the ARM of an ARMED step changes nothing, or ends the step where it differs (10 R265). -/
theorem armReceived_copies (same : n.sameInstance (escCtx a) a = true) (armed : n.escrow (escCtx a) = 1) :
    ((n.ctxOf (escCtx a)).table = escTable a → (n.ctxOf (escCtx a)).arm0 = a.cell 1 →
      (armReceived p n).ctxs = n.ctxs ∧ (armReceived p n).objs = n.objs) ∧
    ((n.ctxOf (escCtx a)).table ≠ escTable a ∨ (n.ctxOf (escCtx a)).arm0 ≠ a.cell 1 → EndedUnfired n (armReceived p n) (escCtx a) 0x32) := by
  have held : n.stepHeld (escCtx a) = true := by rw [Node.stepHeld, armed]; rfl
  rw [armReceived_copy waits inside same held]
  constructor
  · intro table arm
    rw [copyCheck_same ⟨by rwa [Node.ctxOf_consume], by rwa [Node.ctxOf_consume]⟩, Node.consume_eq]
    exact ⟨rfl, rfl⟩
  · intro differs
    have ended := copyCheck_differs (n := n.consume p (isEscrowKind 1)) (Node.ctx_lt inside) ((n.rd_consume ..).trans armed)
      (by rwa [Node.ctxOf_consume])
    rw [EndedUnfired, Node.ctxOf_consume] at ended
    obtain ⟨escrow, recorded, outcome, next, placed⟩ := ended
    refine ⟨escrow, recorded.of_count (Node.causeCount_congr (n.rd_consume ..) _), outcome, next, placed.trans ?_⟩
    rw [Node.consume_eq]

end
end Sys2Proof.Machine

namespace Sys2Proof.Machine

section
variable {s : State} {p : Nat} {a : Msg} (tsu : s.tsu.isHub = false) (hp : p < 2) (inside : escCtx a < s.tsu.ctxCount)
  (next : NextIs s.tsu.abortsFirst p a)
include tsu hp inside next

theorem runsOn_confirm (kind : isEscrowKind 3 a = true) (waits : (s.tsu.peek p (isEscrowKind 3)).isSome = true)
    (same : s.tsu.abortsFirst.sameInstance (escCtx a) a = true) (armed : s.tsu.abortsFirst.escrow (escCtx a) = 1) :
    RunsOn .tsu (.confirmReceived p) s (fun m => m.escrow (escCtx a) = 2 ∧ m.rd (Ob.ctx_confirmTick (escCtx a)) = s.tsu.abortsFirst.tb1 ∧
      m.rd (Ob.seq_nextStepNumber (escCtx a)) = s.tsu.abortsFirst.rd (Ob.seq_nextStepNumber (escCtx a)) ∧
      ∀ d, d ≠ escCtx a → d < 64 → m.escrow d = s.tsu.abortsFirst.escrow d) := by
  refine runsOn_escrowIn tsu hp next rfl kind waits ?_
  rw [takeEscrow_confirm next kind, escrowVerdict_acts (peek_kind_of_next (by decide) next kind) (by rwa [Node.ctxCount_abortsFirst]) same armed]
  obtain ⟨escrow, tick, number, others⟩ := confirmCtx_spec (n := s.tsu.abortsFirst.consume p (isEscrowKind 3)) (c := escCtx a)
  refine ⟨escrow, tick.trans ?_, number.trans (Node.rd_consume ..), fun d hd d64 => (others d hd d64).trans (Node.rd_consume ..)⟩
  rw [Node.consume_eq]

theorem runsOn_recall (kind : isEscrowKind 4 a = true) (waits : (s.tsu.peek p (isEscrowKind 4)).isSome = true)
    (same : s.tsu.abortsFirst.sameInstance (escCtx a) a = true) (armed : s.tsu.abortsFirst.escrow (escCtx a) = 1) :
    RunsOn .tsu (.recallReceived p) s (fun m => m.escrow (escCtx a) = 4 ∧
      m.rd (Ob.ctx_recalled (escCtx a)) = (s.tsu.abortsFirst.rd (Ob.ctx_recalled (escCtx a)) + 1) % 2 ^ 64 ∧
      m.rd (Ob.seq_nextStepNumber (escCtx a)) = s.tsu.abortsFirst.rd (Ob.seq_nextStepNumber (escCtx a)) ∧
      ∀ d, d ≠ escCtx a → d < 64 → m.escrow d = s.tsu.abortsFirst.escrow d) := by
  refine runsOn_escrowIn tsu hp next rfl kind waits ?_
  have count : escCtx a < s.tsu.abortsFirst.ctxCount := by rwa [Node.ctxCount_abortsFirst]
  rw [takeEscrow_recall next kind, escrowVerdict_acts (peek_kind_of_next (by decide) next kind) count same armed]
  obtain ⟨escrow, recalls, number, others⟩ := recallCtx_spec (n := s.tsu.abortsFirst.consume p (isEscrowKind 4)) (c := escCtx a)
    (by rwa [Node.ctxCount_consume])
  rw [Node.rd_consume] at recalls number
  exact ⟨escrow, recalls, number, fun d hd d64 => (others d hd d64).trans (Node.rd_consume ..)⟩

omit inside hp in
/-- A CONFIRM or RECALL that finds no step of its own is counted, and no context moves (10 R266). -/
theorem stale_spec {k : Nat} {act : Nat → Node → Node} (hk : k = 1 ∨ k = 3 ∨ k = 4) (kind : isEscrowKind k a = true)
    (stale : s.tsu.abortsFirst.sameInstance (escCtx a) a = false ∨ s.tsu.abortsFirst.escrow (escCtx a) = 0) {m : Node}
    (hm : escrowVerdict p k act s.tsu.abortsFirst = m) :
    m.rd Ob.esc_staleMessages = (s.tsu.abortsFirst.rd Ob.esc_staleMessages + 1) % 2 ^ 64 ∧ ∀ d, d < 64 → m.escrow d = s.tsu.abortsFirst.escrow d := by
  have unit : (s.tsu.abortsFirst.consume p (isEscrowKind k)).isHub = false := by
    rw [Node.isHub_consume, Node.isHub, Node.OfKind.abortsFirst (h := rfl)]
    exact tsu
  have seq : isSeqObj Ob.esc_staleMessages = true := by decide
  rw [escrowVerdict_stale (peek_kind_of_next hk next kind) stale] at hm
  subst hm
  constructor
  · rw [Node.rd_bump_same _ _ (isEcnt_of_seqObj seq), widthOf_staleMessages unit, Node.rd_consume]
  · intro d d64
    rw [Node.escrow, Node.rd_bump_ne _ (isEcnt_of_seqObj (isSeqObj_escrowState d64)) (by unfold Ob.esc_staleMessages Ob.ctx_escrowState; omega), Node.rd_consume,
      ← Node.escrow]

end

section
variable {s : State} {c : Nat} (hc : c < s.tsu.ctxCount)
include hc

theorem runsOn_ctx {i : Instr} {f : Node → Node} {P : Node → Prop} (hi : exec i s = onCtx c s f) (h : P (f s.tsu)) : RunsOn .tsu i s P :=
  runsOn_node (works_of_ctx hc) hi (decide_eq_true hc) h

theorem exec_ctx {i : Instr} {f : Node → Node} (hi : exec i s = onCtx c s f) {m : Node} (h : f s.tsu = m) :
    exec i s = .next { s with tsu := m } := by
  rw [exec_node (works_of_ctx hc) hi (decide_eq_true hc), State.node, h]
  rfl

end

/-- Settles O33: each command takes the message that arrived first, or finds the context as the rows before it leave it, and the context moves
as one lemma for each row of its table says. -/
theorem escrowStatesFollowTheirTable : Obligations.EscrowStatesFollowTheirTable := by
  refine ⟨fun s p a tsu hp inside => ?_, fun s c hc => ?_⟩
  · intro c n next
    have count : escCtx a < n.ctxCount := s.tsu.ctxCount_abortsFirst.symm ▸ inside
    refine ⟨fun kind waits => ?_, fun k hk kind waits => ?_⟩
    · have first := peek_kind_of_next (.inl rfl) next kind
      refine ⟨fun other free up => ?_, fun other held => ?_, fun same armed => ⟨fun table arm => ?_, fun differs => ?_⟩⟩
      · refine runsOn_armReceived tsu hp next kind waits ?_
        obtain ⟨escrow, step, attempt, table, fire, span, epoch, armTick, number⟩ := armReceived_arms count first other free up
        refine ⟨escrow, step, attempt, table, fire, span, epoch, armTick, number, fun nak => ?_, fun ready clear => ?_, fun ready wait => ?_⟩
        · obtain ⟨answer, held, counted⟩ := armReceived_answers count first other free up (.inl nak) rfl
          rw [answerCounter, if_neg (by simpa using nak)] at counted
          exact ⟨answer, held, counted⟩
        · obtain ⟨answer, -, counted⟩ := armReceived_answers count first other free up (.inr clear) ready
          exact ⟨answer, counted⟩
        · exact armReceived_holds count first other free up ready wait
      · exact runsOn_armReceived tsu hp next kind waits (armReceived_busy count first other held rfl)
      · exact runsOn_armReceived tsu hp next kind waits ((armReceived_copies count first same armed).1 table arm)
      · exact runsOn_armReceived tsu hp next kind waits ((armReceived_copies count first same armed).2 differs)
    · rcases hk with rfl | rfl
      · refine ⟨fun same armed => ?_, fun stale => ?_⟩
        · obtain ⟨t, run, escrow, tick, number, others⟩ := runsOn_confirm tsu hp inside next kind waits same armed
          exact ⟨t, run, escrow, fun _ => tick, fun four => absurd four (by decide), number, others⟩
        · refine runsOn_escrowIn tsu hp next rfl kind waits ?_
          rw [takeEscrow_confirm next kind]
          exact stale_spec tsu next (by decide) kind stale rfl
      · refine ⟨fun same armed => ?_, fun stale => ?_⟩
        · obtain ⟨t, run, escrow, recalls, number, others⟩ := runsOn_recall tsu hp inside next kind waits same armed
          exact ⟨t, run, escrow, fun three => absurd three (by decide), fun _ => recalls, number, others⟩
        · refine runsOn_escrowIn tsu hp next rfl kind waits ?_
          rw [takeEscrow_recall next kind]
          exact stale_spec tsu next (by decide) kind stale rfl
  · have c64 := Node.ctx_lt hc
    refine ⟨fun t held armed => ⟨fun free ready => ?_, fun wait late => ?_, fun wait early => ?_⟩, ⟨fun armed => ⟨fun due => ?_, fun early before => ?_⟩,
      fun recalled due => ?_, fun early => ?_⟩, fun confirmed due => ?_, fun idle => ?_⟩
    · refine runsOn_ctx hc (f := ackRelease c) rfl ?_
      rw [ackRelease_held held armed, free, ready]
      exact giveAnswer_armed hc armed 0
    · refine runsOn_ctx hc (f := ackRelease c) rfl ?_
      rw [ackRelease_held held armed, wait, Bool.not_true, if_neg Bool.false_ne_true, if_pos late]
      exact giveAnswer_armed hc armed 9
    · refine exec_node_idle (ok := decide (c < s.tsu.ctxCount)) (f := ackRelease c) rfl ?_
      rw [State.node, ackRelease_held held armed, wait, Bool.not_true, if_neg Bool.false_ne_true, if_neg (not_le.mpr early)]
    · exact runsOn_ctx hc (f := fun n => guardExpiry c n.messagesFirst) rfl (guardExpiry_ends c64 armed due)
    · exact exec_ctx hc (f := fun n => guardExpiry c n.messagesFirst) rfl (guardExpiry_early early before)
    · refine runsOn_ctx hc (f := fun n => recalledF c n.messagesFirst) rfl ?_
      rw [recalledF_due recalled due]
      exact ⟨Node.rd_wr_same .., rfl, fun o ho => Node.rd_wr_ne _ _ (by simpa [eq_comm] using ho)⟩
    · exact exec_ctx hc (f := fun n => recalledF c n.messagesFirst) rfl (recalledF_early early)
    · exact runsOn_ctx hc (f := fun n => stepFire c (guardExpiry c n.messagesFirst)) rfl (stepFire_spec c64 confirmed due rfl)
    · exact exec_ctx hc (f := fun n => stepFire c (guardExpiry c n.messagesFirst)) rfl (stepFire_idle idle)

end Sys2Proof.Machine

/-! Tallies (11): a local waiter keeps the context of its request, of which the configuration has at most 64 (09 R260), but the statement takes every
number that the state can hold there. At one of them the last outcome of the context and the count of wait timeouts are the same object, so a
timeout whose wave ends the context's step loses the count that it has just made. -/

namespace Sys2Proof.Machine

/-! ### A local wait in a context that no configuration has -/

/-- At context 4,032 the last outcome is the object that counts wait timeouts, and the escrow state is the account table. -/
theorem objects_of_context4032 : Ob.seq_lastOutcome 0xFC0 = Ob.tly_waitTimeouts ∧ Ob.ctx_escrowState 0xFC0 = Ob.acct_accountTable := ⟨rfl, rfl⟩

/-- A state in which core 5 of region 0 waits on local tally 0 for context 4,032, since tick 0. The account table reads 1, the escrow state of an armed
step. -/
def timeoutOutsideContexts : State :=
  { State.reset with
    tsu :=
      { kind := .full, tb1 := 12500, objs := [(Ob.acct_accountTable, 1)], agents := [(0, { locals := [(0, { waiters := [(5, 1, 0, 0xFC0)] })] })] } }

/-- Soundness does not exclude the state: it asks nothing of the context that a waiter names. -/
theorem sound_timeoutOutsideContexts : timeoutOutsideContexts.Sound := by
  refine ⟨⟨?_, ?_⟩, ⟨?_, ?_⟩, ⟨?_, ?_⟩, ?_⟩ <;> decide +kernel

/-- Nothing is due on the tick but the timeout (11 R307, R314). -/
theorem due_timeoutOutsideContexts :
    timeoutOutsideContexts.tsu.releasesFirst.decisionsDue = timeoutOutsideContexts.tsu ∧
    ((timeoutOutsideContexts.tsu.agentOf 0).local 0).waiters.find? (fun w => w.1 == 5) = some (5, 1, 0, 0xFC0) ∧
    timeoutOutsideContexts.tsu.waitLimit 0xFC0 = 12500 := by
  refine ⟨?_, ?_, ?_⟩ <;> decide +kernel

/-- A wave for an armed step in context 4,032 ends it as aborted, and its outcome is then what the count of wait timeouts reads. -/
theorem Node.fieldAt_waitTimeouts_waveStep {n : Node} (armed : n.escrow 0xFC0 = 1) (cause : Nat) :
    fieldAt ((n.waveStep 0xFC0 cause).rd Ob.tly_waitTimeouts) 8 1 = 5 := by
  obtain ⟨outcome, -⟩ := objects_of_context4032
  have record : isRecObj (Ob.seq_lastOutcome 0xFC0) = false := by decide
  rw [Node.waveStep, armed, beq_self_eq_true, Bool.true_or, if_pos rfl, Node.endUnfired, Node.endStep_eq, ← outcome, Node.postOutcome,
    Node.rd_irqEvent _ _ record, Node.rd_bump_ne _ (isEcnt_of_not_rec record) (by decide), Node.rd_wr_same]
  exact (fieldAt_outcomeBlob ..).2

/-- The timeout is counted and recorded, and neither is the account table, so the wave finds the step armed. -/
theorem fieldAt_waitTimeouts_timeoutOutsideContexts :
    fieldAt ((timeoutOutsideContexts.tsu.timeoutOf false 0 0 5).rd Ob.tly_waitTimeouts) 8 1 = 5 := by
  obtain ⟨-, waits, limit⟩ := due_timeoutOutsideContexts
  obtain ⟨-, table⟩ := objects_of_context4032
  have due : decide (0 + timeoutOutsideContexts.tsu.waitLimit 0xFC0 ≤ timeoutOutsideContexts.tsu.tb1) = true :=
    decide_eq_true ((Nat.zero_add _).trans limit).le
  rw [Node.timeoutOf, if_neg Bool.false_ne_true, show unitRegion 5 = 0 from rfl, show unitCore 5 = 5 from rfl, Node.localTimeout]
  dsimp only
  rw [waits]
  dsimp only
  rw [due, when_true, Node.tallyFault, if_pos rfl]
  refine Node.fieldAt_waitTimeouts_waveStep ?_ 0x40
  rw [Node.escrow, table, Node.rd_fault _ _ (by decide)]
  decide +kernel

/-- Refutes O37: its clause of a timeout counts the timeout for a waiter of any context. In `timeoutOutsideContexts` the waiter names a context that no
configuration has, and the count reads the outcome of the step that the timeout's wave ends. -/
theorem not_localTalliesActInTheirCycle : ¬ Obligations.LocalTalliesActInTheirCycle := by
  intro h
  obtain ⟨-, -, -, -, -, timeout⟩ := h timeoutOutsideContexts 0 0 0 0 rfl
  obtain ⟨idle, waits, limit⟩ := due_timeoutOutsideContexts
  rw [idle] at timeout
  obtain ⟨ends, -⟩ := timeout 0 0 5 (5, 1, 0, 0xFC0) (by decide) waits
  obtain ⟨-, -, -, counted⟩ := of_runsOn_node (ok := true) (f := fun n => n.releasesFirst.decisionsDue.timeoutOf false 0 0 5)
    (works_tsu rfl) rfl rfl (ends ((Nat.zero_add _).trans limit).le)
  rw [State.node_tsu, idle] at counted
  have outcome := fieldAt_waitTimeouts_timeoutOutsideContexts
  rw [counted] at outcome
  revert outcome
  simp only [fieldAt]
  omega

end Sys2Proof.Machine

/-! Tally messages (11): what a message that is queued may touch is `Node.Sends` with the class of TALLY messages (`Node.Posts`), for a TSU's requests
and for a hub's sums and releases alike. -/

namespace Sys2Proof.Machine

/-! ### TALLY messages queued -/

/-- What queueing TALLY messages for ports `ps` may touch: of the link ends those, in whose C2 queue what waits still waits; and no object where all
of them are MEMBER (02 R58, R64). -/
structure Node.Posts (ps : List Nat) (n m : Node) : Prop extends Node.Sends n m where
  c2 : ∀ q, ∀ x ∈ (n.linkOf q).c2, x ∈ (m.linkOf q).c2
  others : ∀ q, q ∉ ps → m.linkOf q = n.linkOf q
  objs : (∀ p ∈ ps, n.lst p = 6) → m.objs = n.objs

theorem Node.rd_of_objs {n m : Node} (kind : m.kind = n.kind) (objs : m.objs = n.objs) (o : Nat) : m.rd o = n.rd o := by
  rw [Node.rd, kind, objs, Node.rd]

theorem Node.c2_enqueue (n : Node) (p : Nat) (x : QMsg) (q : Nat) : ∀ y ∈ (n.linkOf q).c2, y ∈ ((n.enqueue p x).linkOf q).c2 := by
  intro y hy
  unfold Node.enqueue
  dsimp only
  split
  · rwa [Node.bump, Node.linkOf_addTo]
  split
  · rwa [Node.bump, Node.linkOf_addTo]
  · by_cases same : p = q
    · subst same
      rw [Node.modLink_linkOf_same]
      split_ifs <;> simp [mem_insertMsg, hy]
    · rwa [Node.modLink_linkOf_ne _ _ same]

theorem Node.linkOf_enqueue_ne (n : Node) {p q : Nat} (x : QMsg) (h : p ≠ q) : (n.enqueue p x).linkOf q = n.linkOf q := by
  unfold Node.enqueue
  dsimp only
  split
  · rw [Node.bump, Node.linkOf_addTo]
  split
  · rw [Node.bump, Node.linkOf_addTo]
  · exact Node.modLink_linkOf_ne _ _ h

/-- A TALLY message is queued in class C2 of a MEMBER port (02 R56, R64). -/
theorem Node.enqueue_tally {n : Node} {p : Nat} {x : QMsg} (tally : x.msg.typ = tTally) (member : n.lst p = 6) :
    n.enqueue p x = n.modLink p (fun l => { l with c2 := insertMsg l.c2 x }) := by
  simp [Node.enqueue, tally, member, isSpanType, classOf, tTally, tObject, tTwin]

namespace Node.Posts

variable {n m k : Node} {ps qs : List Nat}

protected theorem refl (ps : List Nat) (n : Node) : n.Posts ps n := ⟨.refl n, fun _ _ h => h, fun _ _ => rfl, fun _ => rfl⟩

theorem trans (h : n.Posts ps m) (g : m.Posts ps k) : n.Posts ps k where
  toSends := h.toSends.trans g.toSends
  c2 q x hx := g.c2 q x (h.c2 q x hx)
  others q hq := (g.others q hq).trans (h.others q hq)
  objs members := by
    have same := h.objs members
    exact (g.objs fun p hp => (Node.rd_of_objs h.kind same _).trans (members p hp)).trans same

theorem mono (h : n.Posts ps m) (sub : ps ⊆ qs) : n.Posts qs m where
  toSends := h.toSends
  c2 := h.c2
  others q hq := h.others q fun held => hq (sub held)
  objs members := h.objs fun p hp => members p (sub hp)

theorem enqueue (n : Node) (p : Nat) {x : QMsg} (tally : x.msg.typ = tTally) : n.Posts [p] (n.enqueue p x) where
  toSends := .enqueue n p x
  c2 := n.c2_enqueue p x
  others q hq := n.linkOf_enqueue_ne x (by simpa [eq_comm] using hq)
  objs members := by rw [Node.enqueue_tally tally (members p List.mem_cons_self), Node.modLink_objs]

/-- What is queued in C2 stays there. -/
theorem queued (h : n.Posts ps m) {p t : Nat} {x : Msg} (waits : QueuedC2 n p x t) : QueuedC2 m p x t := by
  obtain ⟨q, held, message⟩ := waits
  exact ⟨q, h.c2 p q held, message⟩

/-- All of a unit but its link ends stays where a message goes to MEMBER ports alone. -/
theorem of_members (h : n.Posts ps m) (members : ∀ p ∈ ps, n.lst p = 6) : { m with links := n.links } = n := by
  have frame := h.frame
  rwa [← h.objs members] at frame

end Node.Posts

theorem Node.queuedC2_enqueue {n : Node} {p : Nat} {x : QMsg} (tally : x.msg.typ = tTally) (member : n.lst p = 6) :
    QueuedC2 (n.enqueue p x) p x.msg x.ready := by
  rw [Node.enqueue_tally tally member]
  exact ⟨x, by rw [Node.modLink_linkOf_same]; exact mem_insertMsg.mpr (.inl rfl), rfl, rfl⟩

/-- One TALLY message, ready on one tick, is queued for each of several ports (02 R58). -/
theorem Node.posts_overAll {x : Msg} {t : Nat} (tally : x.typ = tTally) {f : Node → Nat → Node} (l : List Nat) (n : Node)
    (queues : ∀ m p, m.tb1 = n.tb1 → ∃ q : QMsg, f m p = m.enqueue p q ∧ q.msg = x ∧ q.ready = t) :
    n.Posts l (overAll l f n) ∧ ∀ p ∈ l, p < 68 → n.lst p = 6 → QueuedC2 (overAll l f n) p x t := by
  induction l generalizing n with
  | nil => exact ⟨.refl [] n, fun _ h => absurd h List.not_mem_nil⟩
  | cons y l ih =>
    obtain ⟨q, first, rfl, rfl⟩ := queues n y rfl
    have one : n.Posts [y] (f n y) := first ▸ .enqueue n y tally
    obtain ⟨rest, later⟩ := ih (f n y) fun m p h => queues m p (h.trans one.tb1)
    refine ⟨(one.mono (by simp)).trans (rest.mono (by simp)), fun p hp small member => ?_⟩
    rcases List.mem_cons.mp hp with rfl | behind
    · exact rest.queued (first ▸ Node.queuedC2_enqueue tally member)
    · exact later p behind small ((one.lst p small).trans member)

theorem Node.posts_sendAll {x : Msg} (tally : x.typ = tTally) (l : List Nat) (n : Node) :
    n.Posts l (n.sendAll l x) ∧ ∀ p ∈ l, p < 68 → n.lst p = 6 → QueuedC2 (n.sendAll l x) p x n.tb1 :=
  Node.posts_overAll tally l n fun m _ h => ⟨{ msg := x, ready := m.tb1 }, rfl, rfl, h⟩

theorem Node.posts_sendAt {x : Msg} (tally : x.typ = tTally) (l : List Nat) (t : Nat) (n : Node) :
    n.Posts l (overAll l (fun n p => n.sendAt p t x) n) ∧ ∀ p ∈ l, p < 68 → n.lst p = 6 → QueuedC2 (overAll l (fun n p => n.sendAt p t x) n) p x t :=
  Node.posts_overAll tally l n fun _ _ _ => ⟨{ msg := x, ready := t }, rfl, rfl, rfl⟩

theorem Node.posts_forward {x : Msg} (tally : x.typ = tTally) (l : List Nat) (i : Nat) (n : Node) :
    n.Posts l (overAll l (fun n p => n.forward i p x) n) ∧
    ∀ p ∈ l, p < 68 → n.lst p = 6 → QueuedC2 (overAll l (fun n p => n.forward i p x) n) p x (x.first + 49) :=
  Node.posts_overAll tally l n fun _ _ _ => ⟨{ msg := x, ready := x.first + 49, inPort := i }, rfl, rfl, rfl⟩

/-! ### What waves and records leave -/

/-- A unit that differs from another in what records, waves and the aborts of contexts touch: objects, log, interrupt lines, link ends, contexts and
the bus (14 R385, R386). -/
def wavesOnly (n m : Node) : Prop :=
  { m with objs := n.objs, log := n.log, lineLow := n.lineLow, links := n.links, ctxs := n.ctxs, bus := n.bus } = n

theorem wavesOnly.refl (n : Node) : wavesOnly n n := rfl

theorem wavesOnly.trans {a b c : Node} (h : wavesOnly a b) (g : wavesOnly b c) : wavesOnly a c := by
  unfold wavesOnly at *
  rw [← h, ← g]

theorem wavesOnly.of_rec {n m : Node} (h : recOnly n m) : wavesOnly n m := by unfold recOnly wavesOnly at *; rw [← h]

theorem Node.wavesOnly_bump (n : Node) (o : Nat) : wavesOnly n (n.bump o) := .of_rec (.of_objs (n.bump_frame o))

theorem Node.wavesOnly_queueWave (n : Node) (p inPort ready slot : Nat) : wavesOnly n (n.queueWave p inPort ready slot) := by
  have queued (f : LinkEnd → LinkEnd) : wavesOnly n (n.modLink p f) := rfl
  unfold Node.queueWave
  dsimp only
  split
  · exact n.wavesOnly_bump _
  · split
    · exact queued _
    · split
      · exact queued _
      · exact ((queued _).trans (Node.wavesOnly_bump ..)).trans (.of_rec (Node.fault_frame ..))

theorem Node.wavesOnly_queueWaves (ps : List Nat) (slot : Nat) (n : Node) : wavesOnly n (overAll ps (fun n p => n.queueWave p 127 n.tb1 slot) n) :=
  overAll_keeps (P := wavesOnly n) ps _ (fun m _ _ h => h.trans (m.wavesOnly_queueWave ..)) (.refl n)

theorem Node.wavesOnly_raiseWave (n : Node) (c cause : Nat) : wavesOnly n (n.raiseWave c cause) := by
  have ctx (m : Node) (f : Ctx → Ctx) : wavesOnly m (m.modCtx c f) := rfl
  have sent : wavesOnly n (n.sendWave c cause) := by
    unfold Node.sendWave
    split
    · exact .refl n
    · have counted := (ctx n (fun x => { x with waveSent := true })).trans (Node.wavesOnly_bump _ Ob.flt_wavesOriginated)
      dsimp only
      split
      · exact counted.trans (Node.wavesOnly_queueWaves ..)
      · exact counted
  rw [Node.raiseWave_eq]
  refine sent.trans ?_
  generalize n.sendWave c cause = m
  have placed : wavesOnly m (m.placeAbort c) := by unfold Node.placeAbort; split <;> rfl
  have stopped (k : Node) : wavesOnly k (k.stopWalk c) := by unfold Node.stopWalk; split <;> rfl
  unfold Node.abortStep
  split
  · exact (placed.trans (stopped _)).trans (ctx ..)
  · exact .refl m

end Sys2Proof.Machine

/-! Span requests (11): a request is read by the unit as its port leaves it (`Node.AtPort`): the tally bus has counted it in the Agent's cycle, or a
host channel's status has been cleared. What it then does is one lemma per outcome of `Node.spanRequest`. -/

namespace Sys2Proof.Machine

/-! ### Lists of pairs and span tallies -/

theorem assoc_eq_tblGet (d : Nat) (l : List (Nat × Nat)) (k : Nat) : assoc d l k = tblGet d l k := by
  induction l with
  | nil => rfl
  | cons e l ih =>
    rw [assoc, List.find?_cons, tblGet, ← ih, assoc]
    cases e.1 == k <;> rfl

@[simp] theorem assoc_assocSet_same (d : Nat) (l : List (Nat × Nat)) (k v : Nat) : assoc d (assocSet l k v) k = v := by
  rw [assoc_eq_tblGet, assocSet, tblGet_tblSet_same]

/-- A span tally is named by its context and slot (11 R294). -/
theorem Node.stally_keys (n : Node) (c slot : Nat) : (n.stally c slot).ctx = c ∧ (n.stally c slot).slot = slot := by
  unfold Node.stally
  cases found : n.tally.tal.find? (fun t => t.ctx == c && t.slot == slot) with
  | none => exact ⟨rfl, rfl⟩
  | some t => simpa using List.find?_some found

theorem Node.stally_modStally_same {n : Node} {c slot : Nat} {f : STally → STally} (ctx : (f (n.stally c slot)).ctx = (n.stally c slot).ctx)
    (name : (f (n.stally c slot)).slot = (n.stally c slot).slot) : (n.modStally c slot f).stally c slot = f (n.stally c slot) := by
  obtain ⟨hc, hs⟩ := n.stally_keys c slot
  have others : (n.tally.tal.filter (fun y => !(y.ctx == c && y.slot == slot))).find? (fun t => t.ctx == c && t.slot == slot) = none :=
    List.find?_eq_none.mpr fun t ht => by simpa [imp_iff_not_or] using (List.mem_filter.mp ht).2
  conv_lhs => unfold Node.stally Node.modStally Node.modTally
  rw [List.find?_append, others, Option.none_or, List.find?_cons, ctx, name, hc, hs]
  simp

/-- A sequence number that is taken is the sender's next one, modulo 2^16 (11 R292). -/
theorem Node.seqs_nextSeq (n : Node) (c slot unit : Nat) :
    assoc 0 ((n.nextSeq c slot unit).2.stally c slot).seqs unit = (assoc 0 (n.stally c slot).seqs unit + 1) % 65536 := by
  rw [Node.nextSeq, Node.stally_modStally_same rfl rfl, assoc_assocSet_same]

theorem Node.stally_of_tally {n m : Node} (h : m.tally.tal = n.tally.tal) (c slot : Nat) : m.stally c slot = n.stally c slot := by
  rw [Node.stally, h, Node.stally]

/-! ### A unit as a request's port leaves it -/

/-- The objects of host channels and of the Agents' event counters (11 R312, 15 R430). -/
def isPortObj (o : Nat) : Bool := decide (0x5100 ≤ o / 256 ∧ o / 256 < 0x5108) || decide (0xA400 ≤ o / 256 ∧ o / 256 < 0xA800)

theorem isPortObj_of_index {o : Nat} (h : o / 256 < 0x5100 ∨ 0x5108 ≤ o / 256 ∧ o / 256 < 0xA400) : isPortObj o = false := by
  simp only [isPortObj, Bool.or_eq_false_iff, decide_eq_false_iff_not]
  omega

/-- A unit that differs from another in its Agents and in the objects of `isPortObj`. -/
structure Node.AtPort (n m : Node) : Prop where
  frame : { m with agents := n.agents, objs := n.objs } = n
  rd : ∀ o, isPortObj o = false → m.rd o = n.rd o

namespace Node.AtPort

variable {n m k : Node}

protected theorem refl (n : Node) : n.AtPort n := ⟨rfl, fun _ _ => rfl⟩

theorem trans (h : n.AtPort m) (g : m.AtPort k) : n.AtPort k where
  frame := (congrArg (fun x : Node => { x with agents := n.agents, objs := n.objs }) g.frame).trans h.frame
  rd o ho := (g.rd o ho).trans (h.rd o ho)

theorem modAgent (n : Node) (r : Nat) (f : Agent → Agent) : n.AtPort (n.modAgent r f) := ⟨rfl, fun _ _ => rfl⟩

theorem wr (n : Node) {o : Nat} (port : isPortObj o = true) (v : Nat) : n.AtPort (n.wr o v) where
  frame := rfl
  rd _ ho := n.rd_wr_ne v fun same => by simp [← same, port] at ho

section
variable (port : n.AtPort m)
include port

theorem kind : m.kind = n.kind := by have := congrArg Node.kind port.frame; exact this
theorem tb1 : m.tb1 = n.tb1 := by have := congrArg Node.tb1 port.frame; exact this
theorem tally : m.tally = n.tally := by have := congrArg Node.tally port.frame; exact this
theorem links : m.links = n.links := by have := congrArg Node.links port.frame; exact this
theorem ctxs : m.ctxs = n.ctxs := by have := congrArg Node.ctxs port.frame; exact this

theorem stally (c slot : Nat) : m.stally c slot = n.stally c slot := Node.stally_of_tally (by rw [port.tally]) c slot

theorem ctxOf (c : Nat) : m.ctxOf c = n.ctxOf c := by rw [Node.ctxOf, port.ctxs, Node.ctxOf]

theorem lst {p : Nat} (hp : p < 2) : m.lst p = n.lst p := port.rd _ (isPortObj_of_index (by unfold Ob.link_state; omega))

theorem spanEntry : m.spanEntry = n.spanEntry := by
  rw [Node.spanEntry, port.rd _ (by decide), port.rd _ (by decide), Node.spanEntry]

theorem span : m.span = n.span := by rw [Node.span, port.spanEntry, Node.span]

theorem epoch : m.epoch = n.epoch := by rw [Node.epoch, port.spanEntry, Node.epoch]

theorem unitOf (r core : Nat) : m.unitOf r core = n.unitOf r core := by rw [Node.unitOf, Node.ident, port.rd _ (by decide), Node.unitOf, Node.ident]

theorem causeCount (c : Nat) : m.causeCount c = n.causeCount c := Node.causeCount_congr (port.rd _ (by decide)) c

theorem transEntry {c : Nat} (hc : c < 64) (vid : Nat) : m.transEntry c vid = n.transEntry c vid := by
  rw [Node.transEntry, port.rd _ (isPortObj_of_index (by unfold Ob.tctx_translationTable; omega)), Node.transEntry]

theorem waitLimit {c : Nat} (hc : c < 64) : m.waitLimit c = n.waitLimit c := by
  rw [Node.waitLimit, port.rd _ (isPortObj_of_index (by unfold Ob.tctx_waitTimeout; omega)), Node.waitLimit]

theorem fired {c : Nat} (hc : c < 64) : m.fired c = n.fired c := by
  rw [Node.fired, Node.escrow, port.rd _ (isPortObj_of_index (by unfold Ob.ctx_escrowState; omega)), Node.fired, Node.escrow]

theorem allowed {op c vid : Nat} (hc : c < 64) : Allowed m op c vid ↔ Allowed n op c vid := by
  unfold Allowed
  rw [port.transEntry hc, port.rd Ob.det_strict (by decide)]

theorem tallySent {k : Node} {kind c slot unit : Nat} {rest : List Nat} (h : TallySent m k kind c slot unit rest) :
    TallySent n k kind c slot unit rest := by
  intro p hp member
  obtain ⟨q, waits, message⟩ := h p hp ((port.lst hp).trans member)
  exact ⟨q, waits, by rw [message, port.span, port.epoch, port.ctxOf, port.tb1]⟩

/-- What a request has sent, as the unit before the port read it. -/
theorem requestSent {k : Node} {q : SpanReq} {op : Nat} (hc : q.ctx < 64) (h : RequestSent m k q op) : RequestSent n k q op := by
  unfold RequestSent at h ⊢
  simp only [port.transEntry hc, port.stally] at h
  obtain ⟨signal, arrive, wait, seqs, uses⟩ := h
  exact ⟨fun two => port.tallySent (signal two), fun three => port.tallySent (arrive three), fun four => port.tallySent (wait four), seqs, uses⟩

end
end Node.AtPort

/-! ### Messages of a request -/

/-- A TSU's TALLY message goes out on its MEMBER lanes, and nothing but its link ends moves (11 R293). -/
theorem Node.sendTally_spec (n : Node) (kind c slot unit : Nat) (rest : List Nat) {m : Node} (hm : n.sendTally kind c slot n.tb1 unit rest = m) :
    { m with links := n.links } = n ∧ TallySent n m kind c slot unit rest := by
  subst hm
  have lanes : ∀ p ∈ [0, 1].filter (fun p => n.lst p == 6), n.lst p = 6 := fun p hp => by simpa using (List.mem_filter.mp hp).2
  obtain ⟨posts, queued⟩ := Node.posts_sendAll (x := {
    typ := tTally
    cells := tallyHead n.span n.epoch kind c slot (n.ctxOf c).step :: (put 127 64 n.tb1 + put 63 14 unit) :: rest }) rfl
    ([0, 1].filter (fun p => n.lst p == 6)) n
  refine ⟨posts.of_members lanes, fun p hp member => ?_⟩
  have lane : p ∈ [0, 1].filter (fun p => n.lst p == 6) :=
    List.mem_filter.mpr ⟨by simp; omega, beq_iff_eq.mpr member⟩
  obtain ⟨q, waits, message, -⟩ := queued p lane (by omega) member
  exact ⟨q, waits, message⟩

/-- What an allowed request that sends a message leaves: beside link ends and tallies the unit is as before (11 R292). -/
structure Node.Requests (n : Node) (q : SpanReq) (m : Node) : Prop where
  frame : { m with links := n.links, tally := n.tally } = n
  sent : RequestSent n m q q.op

namespace Node.Requests

variable {n m : Node} {q : SpanReq} (h : n.Requests q m)
include h

theorem agents : m.agents = n.agents := by have := congrArg Node.agents h.frame; exact this
theorem ctxs : m.ctxs = n.ctxs := by have := congrArg Node.ctxs h.frame; exact this
theorem rd (o : Nat) : m.rd o = n.rd o := by
  have kind := congrArg Node.kind h.frame
  have objs := congrArg Node.objs h.frame
  exact Node.rd_of_objs kind objs o

end Node.Requests

/-- A message of a unit whose tallies have moved, as the unit before read it. -/
theorem Node.sendTally_modTally {n k m : Node} {kind c slot unit : Nat} {rest : List Nat} (moved : { k with tally := n.tally } = n)
    (hm : k.sendTally kind c slot n.tb1 unit rest = m) :
    { m with links := n.links, tally := n.tally } = n ∧ m.tally = k.tally ∧ TallySent n m kind c slot unit rest := by
  have back : k = { n with tally := k.tally } := by rw [← moved]
  have tick : k.tb1 = n.tb1 := by rw [back]
  obtain ⟨frame, sent⟩ := k.sendTally_spec kind c slot unit rest (m := m) (by rw [tick]; exact hm)
  have tally := congrArg Node.tally frame
  refine ⟨?_, tally, ?_⟩
  · have := congrArg (fun x : Node => { x with links := n.links, tally := n.tally }) frame
    rw [back] at this
    exact this
  · rw [back] at sent
    exact sent

section
variable {n : Node} {q : SpanReq} (tick : q.tick = n.tb1)
include tick

/-- A SIGNAL takes its sender's sequence number and goes out with it (11 R292). -/
theorem Node.spanSignal_spec (two : q.op = 2) {m : Node} (hm : n.spanSignal q (entrySlot (n.transEntry q.ctx q.vid)) = m) :
    n.Requests q m ∧ m.tally.waits = n.tally.waits := by
  rw [Node.spanSignal, tick] at hm
  obtain ⟨frame, tally, sent⟩ := Node.sendTally_modTally (n := n) (by rfl) hm
  refine ⟨⟨frame, ?_⟩, by rw [tally]; rfl⟩
  have numbers := Node.stally_of_tally (congrArg TallySt.tal tally) q.ctx (entrySlot (n.transEntry q.ctx q.vid))
  rw [two]
  refine ⟨fun _ => ?_, nofun, nofun, fun _ => ?_, nofun⟩
  · simpa only [beq_iff_eq, mDirected] using sent
  · rw [numbers]
    exact n.seqs_nextSeq ..

/-- An ARRIVE goes out with its sender's next use (11 R284). -/
theorem Node.spanArrive_spec (three : q.op = 3) {m : Node} (hm : n.spanArrive q (entrySlot (n.transEntry q.ctx q.vid)) = m) :
    n.Requests q m ∧ m.tally.waits = n.tally.waits := by
  rw [Node.spanArrive, tick] at hm
  obtain ⟨frame, tally, sent⟩ := Node.sendTally_modTally (n := n) (by rfl) hm
  refine ⟨⟨frame, ?_⟩, by rw [tally]; rfl⟩
  have uses : m.stally q.ctx (entrySlot (n.transEntry q.ctx q.vid)) = _ :=
    (Node.stally_of_tally (by rw [tally]) ..).trans (Node.stally_modStally_same rfl rfl)
  rw [three]
  refine ⟨nofun, fun _ => sent, nofun, nofun, fun _ => ?_⟩
  rw [uses, assoc_assocSet_same]

/-- A WAIT on COUNT registers with its sender's sequence number, with which it stays open (11 R292). -/
theorem Node.countWait_spec (four : q.op = 4) (w : SWait) {m : Node} (hm :
      (let x := n.nextSeq q.ctx (entrySlot (n.transEntry q.ctx q.vid)) q.unit
       (x.2.modTally (fun t => { t with waits := t.waits ++ [{ w with seq := x.1 }] })).sendTally 3 q.ctx
         (entrySlot (n.transEntry q.ctx q.vid)) q.tick q.unit [put 111 96 x.1]) = m) :
    n.Requests q m ∧
    m.tally.waits = n.tally.waits ++ [{ w with seq := assoc 0 (n.stally q.ctx (entrySlot (n.transEntry q.ctx q.vid))).seqs q.unit }] := by
  rw [tick] at hm
  obtain ⟨frame, tally, sent⟩ := Node.sendTally_modTally (n := n) (by rfl) hm
  refine ⟨⟨frame, ?_⟩, by rw [tally]; rfl⟩
  have numbers := Node.stally_of_tally (congrArg TallySt.tal tally) q.ctx (entrySlot (n.transEntry q.ctx q.vid))
  rw [four]
  refine ⟨nofun, nofun, fun _ => sent, fun _ => ?_, nofun⟩
  rw [numbers]
  exact n.seqs_nextSeq ..

end

end Sys2Proof.Machine

namespace Sys2Proof.Machine

/-! ### Refused requests -/

theorem Node.unit_unitOf (n : Node) {r core : Nat} (hr : r < 1024) (hc : core < 2 ^ 20) :
    unitRegion (n.unitOf r core) = r ∧ unitCore (n.unitOf r core) = core := by
  simp only [unitRegion, unitCore, Node.unitOf, fld, bits, put]
  norm_num at hc ⊢
  omega

/-- The count of requests refused has 64 bits on a TSU (11 R286). -/
theorem Node.rd_bump_requestsRefused {n : Node} (tsu : n.kind ≠ .hub) : (n.bump Ob.tly_requestsRefusedAndStaleMessages).rd
    Ob.tly_requestsRefusedAndStaleMessages = (n.rd Ob.tly_requestsRefusedAndStaleMessages + 1) % 2 ^ 64 := by
  have width : widthOf n.kind Ob.tly_requestsRefusedAndStaleMessages = 64 := by
    match h : n.kind with
    | .full => decide +kernel
    | .edge => decide +kernel
    | .hub => exact absurd h tsu
  rw [n.rd_bump_same _ (by decide), width]

/-- A core's unit: it is in a region (11 R283). -/
structure IsCore (u r core : Nat) : Prop where
  region : unitRegion u = r
  core : unitCore u = core
  inside : r < 1023

namespace IsCore

variable {u r core : Nat} (h : IsCore u r core)
include h

theorem not_host : isHostUnit u = false := by
  have := h.inside
  rw [isHostUnit, h.region, Bool.and_eq_false_iff]
  exact .inl (beq_eq_false_iff_ne.mpr (by omega))

theorem not_seq : isSeqUnit u = false := by
  have := h.inside
  rw [isSeqUnit, h.region, Bool.and_eq_false_iff]
  exact .inl (beq_eq_false_iff_ne.mpr (by omega))

end IsCore

/-- An Agent that presents an error to a core, and nothing else (11 R286). -/
def Node.errs (n : Node) (r core : Nat) : Node := n.modAgent r (fun a => { a with rls := a.rls ++ [(core, 3, n.tb1)] })

theorem Node.rls_errs (n : Node) (r core : Nat) : ((n.errs r core).agentOf r).rls = (n.agentOf r).rls ++ [(core, 3, n.tb1)] := by
  rw [Node.errs, Node.modAgent_agentOf_same]

theorem Node.spanReject_core (n : Node) {u r core : Nat} (unit : IsCore u r core) : n.spanReject u = n.errs r core := by
  rw [Node.spanReject, unit.not_host, unit.not_seq, unit.region, unit.core]
  rfl

theorem Node.tallyError_now (n : Node) (r core : Nat) :
    n.tallyError r core n.tb1 = (n.errs r core).bump Ob.tly_requestsRefusedAndStaleMessages := rfl

/-- A refusal is counted. -/
theorem Node.errs_bump_spec {n : Node} (tsu : n.kind ≠ .hub) (r core : Nat) {m : Node}
    (hm : (n.errs r core).bump Ob.tly_requestsRefusedAndStaleMessages = m) :
    (m.agentOf r).rls = (n.agentOf r).rls ++ [(core, 3, n.tb1)] ∧ m.links = n.links ∧ m.tally = n.tally ∧
    m.rd Ob.tly_requestsRefusedAndStaleMessages = (n.rd Ob.tly_requestsRefusedAndStaleMessages + 1) % 2 ^ 64 := by
  subst hm
  have frame := (n.errs r core).bump_frame Ob.tly_requestsRefusedAndStaleMessages
  have agents := congrArg Node.agents frame
  have tally := congrArg Node.tally frame
  refine ⟨?_, frame.links, tally, Node.rd_bump_requestsRefused tsu⟩
  rw [Node.agentOf, agents, ← Node.agentOf, n.rls_errs]

/-- The entry allows a request, but for the sequencer's, exactly where `Allowed` says so (11 R291). -/
theorem Node.spanCase_eq_zero_iff {n : Node} {q : SpanReq} (seq : isSeqUnit q.unit = false) (op : q.op = 2 ∨ q.op = 3 ∨ q.op = 4) :
    n.spanCase q = 0 ↔ Allowed n q.op q.ctx q.vid := by
  set e := n.transEntry q.ctx q.vid with he
  have kinds : ((q.op == 3) != (entryMode e == mBarrier) && q.op != 4) = true ↔ ¬ ((q.op = 2 → entryMode e ≠ 0) ∧ (q.op = 3 → entryMode e = 0)) := by
    rcases op with h | h | h <;> simp [h, mBarrier]
  have slots : (!entrySlotted e && n.strict) = true ↔ ¬ (entrySlotted e = true ∨ n.rd Ob.det_strict ≠ 1) := by simp [Node.strict]
  unfold Node.spanCase Allowed
  dsimp only
  rw [seq, ← he]
  split_ifs with unmapped unused barred immediate
  · simp_all
  · exact iff_of_false (by decide) fun h => kinds.mp unused ⟨h.2.1, h.2.2.1⟩
  · exact absurd barred (by simp)
  · exact iff_of_false (by decide) fun h => slots.mp immediate h.2.2.2
  · exact iff_of_true rfl ⟨by simpa using unmapped, (not_not.mp (mt kinds.mpr unused)).1, (not_not.mp (mt kinds.mpr unused)).2,
      not_not.mp (mt slots.mpr immediate)⟩

/-- A fault that a tally raises in a fired step is recorded; its wave is out and gives the step its cause, and no tally moves (11 R309, R315). -/
theorem Node.tallyFault_fired {n : Node} {c cause : Nat} (hc : c < 64) (fired : n.fired c = true) (u obj detail : Nat) (h0 : cause ≠ 0)
    (h14 : cause ≠ 0x14) {m : Node} (hm : n.tallyFault cause c u obj detail true = m) :
    n.recorded m cause ∧ (m.ctxOf c).waveSent = true ∧ (m.ctxOf c).cause ≠ 0 ∧ wavesOnly n m := by
  set r : FRec := { cause := cause, span := n.span, die := some (fld u 49 30), region := unitRegion u, core := unitCore u, ctx := c, obj := obj
                    detail := detail } with hr
  have still : (n.fault r).fired c = true := (n.fired_fault r hc).trans fired
  have waves : m = (n.fault r).raiseWave c cause := by
    rw [← hm, Node.tallyFault, if_pos rfl, Node.waveStep_fired still]
  subst waves
  refine ⟨?_, ?_, ?_, (wavesOnly.of_rec (n.fault_frame r)).trans (Node.wavesOnly_raiseWave ..)⟩
  · exact (n.recorded_fault r).trans_count ((Node.raiseWave_actsOn _ _ hc).count _ (by simpa using h14))
  · rw [Node.ctxOf_raiseWave _ hc still]
  · rw [Node.ctxOf_raiseWave _ hc still, Node.ctxOf_fault]
    by_cases first : (n.ctxOf c).cause = 0
    · simpa [first] using h0
    · simp [first]

/-- A core whose request raises a fault is presented the error beside it (11 R291, R310). -/
theorem Node.tallyFault_errs {n : Node} {c cause r core : Nat} (hc : c < 64) (fired : n.fired c = true) (u obj detail : Nat) (h0 : cause ≠ 0)
    (h14 : cause ≠ 0x14) {m : Node} (hm : (n.tallyFault cause c u obj detail true).errs r core = m) :
    n.recorded m cause ∧ (core, 3, n.tb1) ∈ (m.agentOf r).rls ∧ (m.ctxOf c).waveSent = true ∧ (m.ctxOf c).cause ≠ 0 ∧ m.tally = n.tally := by
  obtain ⟨told, wave, caused, frame⟩ := Node.tallyFault_fired hc fired u obj detail h0 h14 rfl
  have tick := congrArg Node.tb1 frame
  have tally := congrArg Node.tally frame
  subst hm
  refine ⟨told, ?_, wave, caused, tally⟩
  rw [Node.rls_errs, show (n.tallyFault cause c u obj detail true).tb1 = n.tb1 from tick]
  exact List.mem_append_right _ List.mem_cons_self

section
variable {n : Node} {q : SpanReq} {r core : Nat}

theorem Node.spanRequest_unfired (fired : n.fired q.ctx = false) :
    n.spanRequest q = (n.spanReject q.unit).bump Ob.tly_requestsRefusedAndStaleMessages := by
  rw [Node.spanRequest, fired, Bool.not_false, if_pos rfl]

theorem Node.spanRequest_refused (fired : n.fired q.ctx = true) (refused : n.spanCase q ≠ 0) : n.spanRequest q =
    (n.tallyFault 0x44 q.ctx q.unit (spanObj q.vid (entrySlot (n.transEntry q.ctx q.vid))) (put 79 72 (n.spanCase q)) (!isHostUnit q.unit)).spanReject
      q.unit := by
  rw [Node.spanRequest, fired, Bool.not_true, if_neg Bool.false_ne_true]
  exact if_pos (bne_iff_ne.mpr refused)

variable (fired : n.fired q.ctx = true) (allowed : n.spanCase q = 0)
include fired allowed

theorem Node.spanRequest_signal (two : q.op = 2) : n.spanRequest q = n.spanSignal q (entrySlot (n.transEntry q.ctx q.vid)) := by
  simp [Node.spanRequest, fired, allowed, two]

theorem Node.spanRequest_arrive (three : q.op = 3) : n.spanRequest q = n.spanArrive q (entrySlot (n.transEntry q.ctx q.vid)) := by
  simp [Node.spanRequest, fired, allowed, three]

theorem Node.spanRequest_wait (four : q.op = 4) :
    n.spanRequest q = n.spanWait q (entrySlot (n.transEntry q.ctx q.vid)) (entryMode (n.transEntry q.ctx q.vid)) := by
  simp [Node.spanRequest, fired, allowed, four]

/-- An allowed SIGNAL or ARRIVE sends its message and leaves the waits (11 R284, R292). -/
theorem Node.spanRequest_sends (tick : q.tick = n.tb1) (op : q.op = 2 ∨ q.op = 3) :
    n.Requests q (n.spanRequest q) ∧ (n.spanRequest q).tally.waits = n.tally.waits := by
  rcases op with two | three
  · exact Node.spanSignal_spec tick two (Node.spanRequest_signal fired allowed two).symm
  · exact Node.spanArrive_spec tick three (Node.spanRequest_arrive fired allowed three).symm

end

/-! ### Waits that open -/

section
variable {n : Node} {q : SpanReq} {slot mode r core : Nat}

/-- A WAIT on COUNT opens and registers; a host channel shows that it waits (11 R292, R312). -/
theorem Node.spanWait_count (apart : n.tally.waits.any (fun x => x.ctx == q.ctx && x.vid == q.vid && x.unit == q.unit) = false)
    (room : n.tally.waits.length < 4096) : n.spanWait q slot 1 =
      (let k := if isHostUnit q.unit then n.wr (Ob.hch_hostStatus (unitCore q.unit - hostCore)) 1 else n
       let x := k.nextSeq q.ctx slot q.unit
       (x.2.modTally (fun t =>
          { t with waits := t.waits ++ [{ ctx := q.ctx, vid := q.vid, unit := q.unit, arg := q.arg, tick := q.tick, limit := q.limit, seq := x.1 }] })).sendTally
        3 q.ctx slot q.tick q.unit [put 111 96 x.1]) := by
  rw [Node.spanWait, apart, if_neg Bool.false_ne_true, if_neg (not_le.mpr room)]
  rfl

variable (unit : IsCore q.unit r core)
include unit

theorem Node.spanWait_taken (taken : n.tally.waits.any (fun x => x.ctx == q.ctx && x.vid == q.vid && x.unit == q.unit) = true) :
    n.spanWait q slot mode = (n.errs r core).bump Ob.tly_requestsRefusedAndStaleMessages := by
  rw [Node.spanWait, taken, if_pos rfl, unit.not_host, if_neg Bool.false_ne_true, unit.region, unit.core, Node.tallyError_now]

variable (apart : n.tally.waits.any (fun x => x.ctx == q.ctx && x.vid == q.vid && x.unit == q.unit) = false)
include apart

theorem Node.spanWait_full (full : 4096 ≤ n.tally.waits.length) :
    n.spanWait q slot mode = (n.tallyFault 0x42 q.ctx q.unit (spanObj q.vid slot) (put 79 72 3) true).errs r core := by
  rw [Node.spanWait, apart, if_neg Bool.false_ne_true, if_pos full, Node.spanReject_core _ unit]

/-- A WAIT on a use of a BARRIER opens, and goes on as the tally stands (11 R284). -/
theorem Node.spanWait_barrier (room : n.tally.waits.length < 4096) (use : q.arg ≠ 0) : n.spanWait q slot 0 =
    (let w : SWait := { ctx := q.ctx, vid := q.vid, unit := q.unit, arg := q.arg, tick := q.tick, limit := q.limit }
     let m := n.modTally (fun t => { t with waits := t.waits ++ [w] })
     if q.arg ≤ (n.stally q.ctx slot).value then m.releaseBy w slot q.arg else m) := by
  have other : (q.arg == 0) = false := beq_eq_false_iff_ne.mpr use
  rw [Node.spanWait, apart, if_neg Bool.false_ne_true, if_neg (not_le.mpr room), unit.not_host, if_neg Bool.false_ne_true, other, Bool.and_false,
    if_neg Bool.false_ne_true]
  rfl

end

/-- A unit that differs from another in its objects and tallies only. -/
def tallyOnly (n m : Node) : Prop := { m with objs := n.objs, tally := n.tally } = n

theorem tallyOnly.refl (n : Node) : tallyOnly n n := rfl

theorem tallyOnly.trans {a b c : Node} (h : tallyOnly a b) (g : tallyOnly b c) : tallyOnly a c := by
  unfold tallyOnly at *
  rw [← h, ← g]

theorem tallyOnly.of_objs {n m : Node} (h : objsOnly n m) : tallyOnly n m := by unfold objsOnly tallyOnly at *; rw [← h]

/-- A release's taint moves objects and tallies (11 R298). -/
theorem Node.tallyOnly_taintBy (n : Node) (c slot num : Nat) : tallyOnly n (n.taintBy c slot num) := by
  have taint (m : Node) (k : Nat) : tallyOnly m (m.taint c k) := by
    unfold Node.taint
    split
    · dsimp only
      split
      · exact (tallyOnly.of_objs (m.bump_frame _)).trans rfl
      · rfl
    · exact .refl m
  have reasons : tallyOnly n (overAll [3, 5] (fun m k => if bit ((n.stally c slot).rel num).reasons k then m.taint c k else m) n) := by
    refine overAll_keeps (P := tallyOnly n) _ _ (fun m k _ h => ?_) (.refl n)
    split
    · exact h.trans (taint m k)
    · exact h
  unfold Node.taintBy
  dsimp only
  split
  · exact reasons
  · refine reasons.trans ?_
    unfold Node.countTaint
    split
    · exact .refl _
    · refine tallyOnly.trans ?_ (.of_objs (Node.bump_frame ..))
      rfl

theorem Node.agEvents_frame (n : Node) (r code k : Nat) : objsOnly n (n.agEvents r code k) := by
  refine foldl_keeps (P := objsOnly n) _ _ (fun m e _ h => ?_) (.refl n)
  split
  · exact h.wr ..
  · exact h

/-- A core whose wait is released is presented the release on the tick (11 R299). -/
theorem Node.releaseBy_core (n : Node) {w : SWait} {r core : Nat} (slot num : Nat) (unit : IsCore w.unit r core) {m : Node}
    (hm : n.releaseBy w slot num = m) : (core, 0, n.tb1) ∈ (m.agentOf r).rls ∧ m.links = n.links := by
  have frame := n.tallyOnly_taintBy w.ctx slot num
  have tick := congrArg Node.tb1 frame
  have links := congrArg Node.links frame
  rw [Node.releaseBy, Node.release] at hm
  generalize n.taintBy w.ctx slot num = k at hm tick links
  dsimp only at hm tick links
  rw [unit.not_host, if_neg Bool.false_ne_true, unit.region, unit.core, Node.present, beq_self_eq_true, if_pos rfl] at hm
  have events := Node.agEvents_frame ((k.modTally (fun t => { t with waits := t.waits.filter (fun x => x != w) })).modAgent r
    (fun a => { a with rls := a.rls ++ [(core, 0, k.tb1)] })) r 0x06 1
  have agents := congrArg Node.agents events
  have same := events.links
  rw [← hm]
  refine ⟨?_, same.trans links⟩
  rw [← tick, Node.agentOf]
  refine Eq.mpr (congrArg (fun l => _ ∈ Agent.rls (tblGet {} l r)) agents) ?_
  rw [← Node.agentOf, Node.modAgent_agentOf_same]
  exact List.mem_append_right _ List.mem_cons_self

end Sys2Proof.Machine

namespace Sys2Proof.Machine

/-! ### The tally bus -/

/-- A unit whose tally bus has taken a request in the cycle of Agent `r`, or gone to that cycle, with what it presents as before (11 R287). -/
structure Node.AtBus (r : Nat) (n m : Node) : Prop extends Node.AtPort n m where
  rls : (m.agentOf r).rls = (n.agentOf r).rls

namespace Node.AtBus

variable {n m k : Node} {r : Nat}

protected theorem refl (r : Nat) (n : Node) : n.AtBus r n := ⟨.refl n, rfl⟩

theorem trans (h : n.AtBus r m) (g : m.AtBus r k) : n.AtBus r k := ⟨h.toAtPort.trans g.toAtPort, g.rls.trans h.rls⟩

theorem modAgent (n : Node) {f : Agent → Agent} (rls : ∀ a, (f a).rls = a.rls) : n.AtBus r (n.modAgent r f) :=
  ⟨.modAgent n r f, by rw [Node.modAgent_agentOf_same, rls]⟩

theorem agEvents (n : Node) (hr : r < 1023) (code k : Nat) : n.AtBus r (n.agEvents r code k) := by
  have port : isPortObj (Ob.agc_agentValues r) = true := by
    have index : Ob.agc_agentValues r / 256 = 0xA400 + r := by unfold Ob.agc_agentValues; omega
    simp only [isPortObj, index, Bool.or_eq_true, decide_eq_true_eq]
    omega
  refine foldl_keeps (P := n.AtBus r) _ _ (fun m e _ h => ?_) (.refl r n)
  split
  · exact h.trans ⟨.wr m port _, rfl⟩
  · exact h

/-- An Agent that holds no request accepts none from the cycle before. -/
theorem busHeldOf (n : Node) (below : Nat) (free : (n.agentOf r).busHeld = []) :
    n.AtBus r (n.busHeldOf r below) ∧ ((n.busHeldOf r below).agentOf r).busHeld = [] ∧
    ((n.busHeldOf r below).agentOf r).cycReq = (n.agentOf r).cycReq := by
  have held : n.busHeldOf r below = n.modAgent r (fun a => { a with busHeld := a.busHeld.filter (fun h => !([] : List (Nat × Nat × Bool)).contains h) }) := by
    rw [Node.busHeldOf, free, List.filter_nil, List.take_nil]
    rfl
  rw [held]
  refine ⟨.modAgent n fun _ => rfl, ?_, ?_⟩
  · rw [Node.modAgent_agentOf_same, free]
    rfl
  · rw [Node.modAgent_agentOf_same]

/-- The request's cycle has room (11 R287). -/
theorem opened (n : Node) (cyc : Nat) (free : (n.agentOf r).busHeld = []) (room : ¬ ((n.agentOf r).reqCyc = cyc ∧ 4 ≤ (n.agentOf r).cycReq))
    {m : Node} (hm : (if (n.agentOf r).reqCyc == cyc then n else n.busCycles r cyc (n.agentOf r).busHeld.length) = m) :
    n.AtBus r m ∧ (m.agentOf r).busHeld = [] ∧ (m.agentOf r).cycReq < 4 := by
  subst hm
  split
  · rename_i same
    exact ⟨.refl r n, free, by have := beq_iff_eq.mp same; omega⟩
  · obtain ⟨bus, none, -⟩ := busHeldOf n (2 ^ 20) free
    rw [free, List.length_nil, Node.busCycles, Node.busNext]
    refine ⟨bus.trans (.modAgent _ fun _ => rfl), ?_, ?_⟩
    · rw [Node.modAgent_agentOf_same, none]
    · rw [Node.modAgent_agentOf_same]
      exact (by decide : 0 < 4)

/-- A request on the bus reads as it did before it was counted. -/
theorem busReq (h : n.AtBus r m) (core req op : Nat) : m.busReq r core req op = n.busReq r core req op := by
  have limit : m.waitLimit (fld req 185 180) = n.waitLimit (fld req 185 180) := h.waitLimit (Nat.mod_lt _ (by decide))
  rw [Node.busReq, h.unitOf, h.tb1, limit, Node.busReq]

end Node.AtBus

/-- A span request with room in its cycle is taken as its span form, by a unit that reads as before (11 R286, R295). -/
theorem tallyBus_span {n : Node} {r core req cyc op : Nat} (bus : SpanBus n r core req cyc op) (hop : op = 2 ∨ op = 3 ∨ op = 4) :
    ∃ m, n.AtBus r m ∧ tallyBus r core req cyc true op n = m.spanRequest (n.busReq r core req op) := by
  obtain ⟨-, inside, -, live, free, room, named, span⟩ := bus
  have isOp : busOp req = op := named
  obtain ⟨open_, none, few⟩ := Node.AtBus.opened n cyc free room rfl
  rw [tallyBus, live, isOp, beq_self_eq_true, Bool.or_true, Bool.and_self, when_true]
  generalize (if (n.agentOf r).reqCyc == cyc then n else n.busCycles r cyc (n.agentOf r).busHeld.length) = a at open_ none few
  obtain ⟨passed, -, count⟩ := Node.AtBus.busHeldOf a core none
  dsimp only
  generalize a.busHeldOf r core = b at passed count
  rw [if_pos (by omega)]
  have counted : b.AtBus r ((b.modAgent r (fun a => { a with cycReq := a.cycReq + 1 })).agEvents r 0x05 1) :=
    .trans (.modAgent b (f := fun a => { a with cycReq := a.cycReq + 1 }) fun _ => rfl) (.agEvents _ inside 0x05 1)
  have taken := (open_.trans passed).trans counted
  refine ⟨_, taken, ?_⟩
  have modelled : (op == 0 || decide (5 ≤ op)) = false := by rcases hop with rfl | rfl | rfl <;> rfl
  have noInit : (op == 1) = false := by rcases hop with rfl | rfl | rfl <;> rfl
  rw [Node.busTake, isOp, modelled, if_neg Bool.false_ne_true, span, if_pos rfl, noInit, if_neg Bool.false_ne_true,
    taken.busReq]

/-- The unit that a request on the bus names is the core's. -/
theorem isCore_busReq {n : Node} {r core req cyc op : Nat} (bus : SpanBus n r core req cyc op) : IsCore (n.busReq r core req op).unit r core := by
  obtain ⟨-, inside, small, -⟩ := bus
  obtain ⟨region, number⟩ := n.unit_unitOf (r := r) (core := core) (by omega) small
  exact ⟨region, number, inside⟩

/-- What a core's span request does is what the request does to a unit that reads as the TSU before. -/
theorem runsOn_spanBus {s : State} (tsu : s.tsu.isHub = false) {r core req cyc op : Nat} (bus : SpanBus s.tsu r core req cyc op)
    (hop : op = 2 ∨ op = 3 ∨ op = 4) {P : Node → Prop}
    (h : ∀ m, s.tsu.AtBus r m → P (m.spanRequest (s.tsu.busReq r core req op))) :
    RunsOn .tsu (if op = 2 then Instr.tallySignal r core req cyc true else if op = 3 then .tallyArrive r core req cyc true
      else .tallyWait r core req cyc true) s P := by
  obtain ⟨m, port, took⟩ := tallyBus_span bus hop
  have holds : P (tallyBus r core req cyc true op s.tsu) := by
    rw [took]
    exact h m port
  obtain ⟨region, -⟩ := bus
  rcases hop with rfl | rfl | rfl
  · exact runsOn_node (works_tsu tsu) rfl region holds
  · exact runsOn_node (works_tsu tsu) rfl region holds
  · exact runsOn_node (works_tsu tsu) rfl region holds

section
variable {n m : Node} {q : SpanReq} {r core : Nat} (bus : n.AtBus r m) (c64 : q.ctx < 64) (unit : IsCore q.unit r core)
include bus c64 unit

/-- Without a fired step a core's request is presented the error and counted, and sends nothing (11 R540). -/
theorem coreRequest_unfired (tsu : n.isHub = false) (unfired : n.fired q.ctx = false) {k : Node} (hk : m.spanRequest q = k) :
    (k.agentOf r).rls = (n.agentOf r).rls ++ [(core, 3, n.tb1)] ∧ k.links = n.links ∧ k.tally = n.tally ∧
    k.rd Ob.tly_requestsRefusedAndStaleMessages = (n.rd Ob.tly_requestsRefusedAndStaleMessages + 1) % 2 ^ 64 := by
  rw [Node.spanRequest_unfired ((bus.fired c64).trans unfired), Node.spanReject_core _ unit] at hk
  obtain ⟨rls, links, tally, count⟩ := Node.errs_bump_spec (by rw [bus.kind]; exact Node.kind_ne_hub tsu) r core hk
  rw [bus.rls, bus.tb1] at rls
  rw [bus.rd _ (by decide)] at count
  exact ⟨rls, links.trans bus.links, tally.trans bus.tally, count⟩

variable (op : q.op = 2 ∨ q.op = 3 ∨ q.op = 4)
include op

theorem coreRequest_case : m.spanCase q = 0 ↔ Allowed n q.op q.ctx q.vid :=
  (Node.spanCase_eq_zero_iff unit.not_seq op).trans (bus.allowed c64)

variable (fired : n.fired q.ctx = true)
include fired

/-- An entry that does not allow a core's request is recorded, its wave is out, and the core is presented the error (11 R291). -/
theorem coreRequest_refused (refused : ¬ Allowed n q.op q.ctx q.vid) {k : Node} (hk : m.spanRequest q = k) :
    n.recorded k 0x44 ∧ (core, 3, n.tb1) ∈ (k.agentOf r).rls ∧ (k.ctxOf q.ctx).waveSent = true ∧ (k.ctxOf q.ctx).cause ≠ 0 ∧ k.tally = n.tally := by
  have fired' := (bus.fired c64).trans fired
  rw [Node.spanRequest_refused fired' (mt (coreRequest_case bus c64 unit op).mp refused), unit.not_host, Node.spanReject_core _ unit] at hk
  obtain ⟨told, errs, wave, caused, tally⟩ := Node.tallyFault_errs c64 fired' _ _ _ (by decide) (by decide) hk
  rw [bus.tb1] at errs
  exact ⟨told.of_count (bus.causeCount _), errs, wave, caused, tally.trans bus.tally⟩

variable (allowed : Allowed n q.op q.ctx q.vid) (tick : q.tick = n.tb1)
include allowed

include tick in
/-- A core's SIGNAL or ARRIVE sends its message, and presents nothing (11 R284, R292). -/
theorem coreRequest_sends (sends : q.op = 2 ∨ q.op = 3) {k : Node} (hk : m.spanRequest q = k) :
    RequestSent n k q q.op ∧ (k.agentOf r).rls = (n.agentOf r).rls ∧ k.tally.waits = n.tally.waits ∧ k.ctxs = n.ctxs := by
  obtain ⟨requests, waits⟩ := Node.spanRequest_sends ((bus.fired c64).trans fired) ((coreRequest_case bus c64 unit op).mpr allowed)
    (tick.trans bus.tb1.symm) sends
  rw [hk] at requests waits
  refine ⟨bus.requestSent c64 requests.sent, ?_, waits.trans (by rw [bus.tally]), requests.ctxs.trans bus.ctxs⟩
  rw [Node.agentOf, requests.agents, ← Node.agentOf, bus.rls]

variable (four : q.op = 4)
include four

theorem coreWait_eq : m.spanRequest q = m.spanWait q (entrySlot (n.transEntry q.ctx q.vid)) (entryMode (n.transEntry q.ctx q.vid)) := by
  rw [Node.spanRequest_wait ((bus.fired c64).trans fired) ((coreRequest_case bus c64 unit op).mpr allowed) four, bus.transEntry c64]

/-- A second wait of a core on an identifier is refused (11 R286). -/
theorem coreWait_taken (tsu : n.isHub = false) (taken : n.tally.waits.any (fun x => x.ctx == q.ctx && x.vid == q.vid && x.unit == q.unit) = true)
    {k : Node} (hk : m.spanRequest q = k) :
    (k.agentOf r).rls = (n.agentOf r).rls ++ [(core, 3, n.tb1)] ∧ k.tally = n.tally ∧ k.links = n.links := by
  rw [coreWait_eq bus c64 unit op fired allowed four, Node.spanWait_taken unit (by rwa [bus.tally])] at hk
  obtain ⟨rls, links, tally, -⟩ := Node.errs_bump_spec (by rw [bus.kind]; exact Node.kind_ne_hub tsu) r core hk
  rw [bus.rls, bus.tb1] at rls
  exact ⟨rls, tally.trans bus.tally, links.trans bus.links⟩

variable (apart : n.tally.waits.any (fun x => x.ctx == q.ctx && x.vid == q.vid && x.unit == q.unit) = false)
include apart

/-- A wait above those that a TSU holds is recorded (11 R310). -/
theorem coreWait_full (full : 4096 ≤ n.tally.waits.length) {k : Node} (hk : m.spanRequest q = k) :
    n.recorded k 0x42 ∧ (k.ctxOf q.ctx).waveSent = true ∧ k.tally = n.tally ∧ (core, 3, n.tb1) ∈ (k.agentOf r).rls := by
  rw [coreWait_eq bus c64 unit op fired allowed four, Node.spanWait_full unit (by rwa [bus.tally]) (by rwa [bus.tally])] at hk
  obtain ⟨told, errs, wave, -, tally⟩ := Node.tallyFault_errs c64 ((bus.fired c64).trans fired) _ _ _ (by decide) (by decide) hk
  rw [bus.tb1] at errs
  exact ⟨told.of_count (bus.causeCount _), wave, tally.trans bus.tally, errs⟩

variable (room : n.tally.waits.length < 4096)
include room

include tick in
/-- A core's WAIT on COUNT registers with the head and stays open (11 R292). -/
theorem coreWait_count (count : entryMode (n.transEntry q.ctx q.vid) = 1) {k : Node} (hk : m.spanRequest q = k) :
    RequestSent n k q 4 ∧ k.ctxs = n.ctxs ∧ k.tally.waits = n.tally.waits ++
      [{ ctx := q.ctx, vid := q.vid, unit := q.unit, arg := q.arg, tick := q.tick, limit := q.limit
         seq := assoc 0 (n.stally q.ctx (entrySlot (n.transEntry q.ctx q.vid))).seqs q.unit }] := by
  rw [coreWait_eq bus c64 unit op fired allowed four, count, Node.spanWait_count (by rwa [bus.tally]) (by rwa [bus.tally]), unit.not_host,
    if_neg Bool.false_ne_true, ← bus.transEntry c64] at hk
  obtain ⟨requests, waits⟩ := m.countWait_spec (tick.trans bus.tb1.symm) four
    { ctx := q.ctx, vid := q.vid, unit := q.unit, arg := q.arg, tick := q.tick, limit := q.limit } hk
  refine ⟨four ▸ bus.requestSent c64 requests.sent, requests.ctxs.trans bus.ctxs, ?_⟩
  · rw [waits, bus.tally, bus.stally, bus.transEntry c64]

variable (barrier : entryMode (n.transEntry q.ctx q.vid) = 0) (use : q.arg ≠ 0)
include barrier use

theorem coreWait_barrier : m.spanRequest q =
    (let w : SWait := { ctx := q.ctx, vid := q.vid, unit := q.unit, arg := q.arg, tick := q.tick, limit := q.limit }
     let k := m.modTally (fun t => { t with waits := t.waits ++ [w] })
     if q.arg ≤ (n.stally q.ctx (entrySlot (n.transEntry q.ctx q.vid))).value then
       k.releaseBy w (entrySlot (n.transEntry q.ctx q.vid)) q.arg else k) := by
  rw [coreWait_eq bus c64 unit op fired allowed four, barrier, Node.spanWait_barrier unit (by rwa [bus.tally]) (by rwa [bus.tally]) use, bus.stally]

/-- A WAIT on a use that has not been released stays open (11 R284). -/
theorem coreWait_opens (later : (n.stally q.ctx (entrySlot (n.transEntry q.ctx q.vid))).value < q.arg) {k : Node} (hk : m.spanRequest q = k) :
    k.tally.waits = n.tally.waits ++ [{ ctx := q.ctx, vid := q.vid, unit := q.unit, arg := q.arg, tick := q.tick, limit := q.limit }] ∧
    k.links = n.links ∧ (k.agentOf r).rls = (n.agentOf r).rls := by
  rw [coreWait_barrier bus c64 unit op fired allowed four apart room barrier use] at hk
  dsimp only at hk
  rw [if_neg (not_le.mpr later)] at hk
  subst hk
  refine ⟨?_, bus.links, bus.rls⟩
  rw [← bus.tally]
  rfl

/-- A WAIT on a released use is released at once (11 R284). -/
theorem coreWait_released (reached : q.arg ≤ (n.stally q.ctx (entrySlot (n.transEntry q.ctx q.vid))).value) {k : Node}
    (hk : m.spanRequest q = k) : (core, 0, n.tb1) ∈ (k.agentOf r).rls ∧ k.links = n.links := by
  rw [coreWait_barrier bus c64 unit op fired allowed four apart room barrier use] at hk
  dsimp only at hk
  rw [if_pos reached] at hk
  obtain ⟨rls, links⟩ := Node.releaseBy_core _ _ _ unit hk
  rw [← bus.tb1]
  exact ⟨rls, links.trans bus.links⟩

end

end Sys2Proof.Machine

namespace Sys2Proof.Machine

/-! ### What an answer leaves -/

theorem Node.tally_answer (n : Node) (st : Nat) : (n.answer st).tally = n.tally := by
  have := congrArg Node.tally (n.answerData_frame st 0 0)
  exact this

theorem Node.tally_bump (n : Node) (o : Nat) : (n.bump o).tally = n.tally := by
  have := congrArg Node.tally (n.bump_frame o)
  exact this

theorem Node.ctxs_answer (n : Node) (st : Nat) : (n.answer st).ctxs = n.ctxs := by
  have := congrArg Node.ctxs (n.answerData_frame st 0 0)
  exact this

theorem Node.links_answer (n : Node) (st : Nat) : (n.answer st).links = n.links := (n.answerData_frame st 0 0).links

theorem Node.causeCount_answer (n : Node) (st k : Nat) : (n.answer st).causeCount k = n.causeCount k :=
  Node.causeCount_congr (n.rd_answer st (by decide) (by decide)) k

/-- The objects of a host channel lie apart from those of records, events and answers. -/
theorem isRecObj_hostStatus {h : Nat} (h8 : h < 8) : isRecObj (Ob.hch_hostStatus h) = false :=
  isRecObj_of_index (by unfold Ob.hch_hostStatus; omega)

theorem Node.rd_answer_hostStatus (n : Node) (st : Nat) {h : Nat} (h8 : h < 8) :
    (n.answer st).rd (Ob.hch_hostStatus h) = n.rd (Ob.hch_hostStatus h) := by
  refine n.rd_answer st (isEcnt_of_not_rec (isRecObj_hostStatus h8)) ?_
  rw [isAccObj, beq_eq_false_iff_ne]
  unfold Ob.hch_hostStatus
  omega

/-- A request's messages and numbers lie in link ends and tallies. -/
theorem RequestSent.congr {n m k : Node} {q : SpanReq} {op : Nat} (sent : RequestSent n m q op) (links : k.links = m.links)
    (tally : k.tally = m.tally) : RequestSent n k q op := by
  simpa only [RequestSent, TallySent, Node.linkOf_of_links links, Node.stally_of_tally (congrArg TallySt.tal tally)] using sent

/-! ### Host channels -/

/-- A unit of host channel `h` (11 R283, R312). -/
structure IsHost (u h : Nat) : Prop where
  host : isHostUnit u = true
  channel : unitCore u - hostCore = h
  not_seq : isSeqUnit u = false

theorem Node.isHost_unitOf (n : Node) {h : Nat} (h8 : h < 8) : IsHost (n.unitOf 1023 (hostCore + h)) h := by
  obtain ⟨region, core⟩ := n.unit_unitOf (r := 1023) (core := hostCore + h) (by decide) (by unfold hostCore; omega)
  refine ⟨?_, ?_, ?_⟩
  · simp [isHostUnit, region, core]
  · rw [core, Nat.add_sub_cancel_left]
  · simp only [isSeqUnit, region, core, beq_self_eq_true, Bool.true_and, beq_eq_false_iff_ne]
    unfold hostCore seqCore
    omega

theorem Node.hostWaiting_eq_false_iff {n : Node} {h : Nat} :
    n.hostWaiting h = false ↔ n.rd (Ob.hch_hostStatus h) ≠ 1 ∧ n.rd (Ob.hch_hostStatus h) ≠ 6 := by
  simp [Node.hostWaiting]

section
variable {n : Node} {h cmd op tick : Nat} (live : n.rd Ob.det_inputMode ≠ 1) (enabled : n.fnEnabled 1 = true)
include live enabled

/-- A command of a channel that waits is refused (11 R312). -/
theorem hostCommand_refused (busy : ¬ (n.rd (Ob.hch_hostStatus h) ≠ 1 ∧ n.rd (Ob.hch_hostStatus h) ≠ 6)) :
    hostCommand h cmd op tick n = n.answer 3 := by
  have waits : n.hostWaiting h = true := by simpa using mt Node.hostWaiting_eq_false_iff.mp busy
  rw [hostCommand, Node.journaled_live live, Node.needsFn_enabled enabled]
  exact Node.accept_refused (by rw [waits]; rfl) _

/-- A command of a channel that does not wait makes its request (11 R307, R312). -/
theorem hostCommand_taken (free : n.rd (Ob.hch_hostStatus h) ≠ 1 ∧ n.rd (Ob.hch_hostStatus h) ≠ 6) (vid : fieldAt cmd 4 2 < 4096)
    (ctx : fieldAt cmd 1 1 < n.ctxCount) (limit : op = 4 → 1 ≤ fieldAt cmd 20 4 ∧ fieldAt cmd 20 4 ≤ 10000000) :
    hostCommand h cmd op tick n = (n.hostOp h cmd op tick).answer 0 := by
  have idle := Node.hostWaiting_eq_false_iff.mpr free
  rw [hostCommand, Node.journaled_live live, Node.needsFn_enabled enabled]
  refine Node.accept_accepted ?_ _
  by_cases wait : op = 4
  · obtain ⟨low, high⟩ := limit wait
    simp [idle, vid, ctx, low, high]
  · simp [idle, vid, ctx, wait]

end

/-- A unit whose host channel has been cleared for a command reads as before (11 R312). -/
theorem Node.atPort_hostStatus (n : Node) {h : Nat} (h8 : h < 8) (v : Nat) : n.AtPort (n.wr (Ob.hch_hostStatus h) v) := by
  refine .wr n ?_ v
  have index : Ob.hch_hostStatus h / 256 = 0x5100 + h := by unfold Ob.hch_hostStatus; omega
  simp only [isPortObj, index, Bool.or_eq_true, decide_eq_true_eq]
  omega

/-- A fault of a tally that owes no wave is a record (11 R309, R315). -/
theorem Node.tallyFault_quiet (n : Node) (cause c u obj detail : Nat) {m : Node} (hm : n.tallyFault cause c u obj detail false = m) :
    n.recorded m cause ∧ recOnly n m := by
  subst hm
  exact ⟨n.recorded_fault _, n.fault_frame _⟩

section
variable {n : Node} {h : Nat} {q : SpanReq} (unit : IsHost q.unit h)
include unit

theorem Node.spanReject_host (m : Node) : m.spanReject q.unit = m.wr (Ob.hch_hostStatus h) 5 := by
  rw [Node.spanReject, unit.host, if_pos rfl, unit.channel]

variable (h8 : h < 8) (c64 : q.ctx < 64)
include h8 c64

/-- Without a fired step a host command leaves status 5 and is counted (11 R312, R540). -/
theorem hostRequest_unfired (tsu : n.isHub = false) (unfired : n.fired q.ctx = false) {k : Node}
    (hk : (n.wr (Ob.hch_hostStatus h) 0).spanRequest q = k) :
    k.rd (Ob.hch_hostStatus h) = 5 ∧ k.tally = n.tally ∧ k.links = n.links ∧
    k.rd Ob.tly_requestsRefusedAndStaleMessages = (n.rd Ob.tly_requestsRefusedAndStaleMessages + 1) % 2 ^ 64 := by
  have port := n.atPort_hostStatus h8 0
  have port' := port.trans (Node.atPort_hostStatus _ h8 5)
  rw [Node.spanRequest_unfired ((port.fired c64).trans unfired), Node.spanReject_host unit] at hk
  generalize reject : (n.wr (Ob.hch_hostStatus h) 0).wr (Ob.hch_hostStatus h) 5 = m at hk port'
  have apart : Ob.tly_requestsRefusedAndStaleMessages ≠ Ob.hch_hostStatus h := by
    unfold Ob.tly_requestsRefusedAndStaleMessages Ob.hch_hostStatus
    omega
  subst hk
  refine ⟨?_, (m.tally_bump _).trans port'.tally, (m.bump_frame _).links.trans port'.links, ?_⟩
  · rw [Node.rd_bump_ne _ (isEcnt_of_not_rec (isRecObj_hostStatus h8)) apart, ← reject, Node.rd_wr_same]
  · rw [Node.rd_bump_requestsRefused (by rw [port'.kind]; exact Node.kind_ne_hub tsu), port'.rd _ (by decide)]

variable (fired : n.fired q.ctx = true) (op : q.op = 2 ∨ q.op = 3 ∨ q.op = 4)
include fired op

/-- An entry that does not allow a host command is recorded, without a wave, and the channel reads status 5 (11 R291, R312). -/
theorem hostRequest_refused (refused : ¬ Allowed n q.op q.ctx q.vid) {k : Node} (hk : (n.wr (Ob.hch_hostStatus h) 0).spanRequest q = k) :
    k.rd (Ob.hch_hostStatus h) = 5 ∧ n.recorded k 0x44 ∧ k.ctxs = n.ctxs ∧ k.links = n.links := by
  have port := n.atPort_hostStatus h8 0
  have barred : (n.wr (Ob.hch_hostStatus h) 0).spanCase q ≠ 0 :=
    mt (fun z => (port.allowed c64).mp ((Node.spanCase_eq_zero_iff unit.not_seq op).mp z)) refused
  rw [Node.spanRequest_refused ((port.fired c64).trans fired) barred, unit.host, Node.spanReject_host unit,
    Bool.not_true] at hk
  obtain ⟨told, frame⟩ := Node.tallyFault_quiet (n.wr (Ob.hch_hostStatus h) 0) 0x44 q.ctx q.unit _ _ rfl
  subst hk
  refine ⟨Node.rd_wr_same .., ?_, frame.ctxs.trans port.ctxs, frame.links.trans port.links⟩
  refine (told.of_count (port.causeCount _)).trans_count (Node.causeCount_congr (Node.rd_wr_ne _ _ ?_) _)
  unfold Ob.hch_hostStatus Ob.cause_causeCounts
  omega

variable (allowed : Allowed n q.op q.ctx q.vid) (tick : q.tick = n.tb1)
include allowed tick

/-- An allowed SIGNAL or ARRIVE of a host is sent, and its channel is idle (11 R284, R312). -/
theorem hostRequest_sends (sends : q.op = 2 ∨ q.op = 3) {k : Node} (hk : (n.wr (Ob.hch_hostStatus h) 0).spanRequest q = k) :
    k.rd (Ob.hch_hostStatus h) = 0 ∧ RequestSent n k q q.op ∧ k.tally.waits = n.tally.waits := by
  have port := n.atPort_hostStatus h8 0
  obtain ⟨requests, waits⟩ := Node.spanRequest_sends ((port.fired c64).trans fired)
    ((Node.spanCase_eq_zero_iff unit.not_seq op).mpr ((port.allowed c64).mpr allowed)) (tick.trans port.tb1.symm) sends
  rw [hk] at requests waits
  exact ⟨(requests.rd _).trans (Node.rd_wr_same ..), port.requestSent c64 requests.sent, waits.trans (by rw [port.tally])⟩

/-- An allowed WAIT of a host on COUNT opens and registers, and its channel waits (11 R292, R312). -/
theorem hostRequest_waits (four : q.op = 4) (count : entryMode (n.transEntry q.ctx q.vid) = 1) (room : n.tally.waits.length < 4096)
    (apart : ∀ w ∈ n.tally.waits, w.unit ≠ q.unit) {k : Node} (hk : (n.wr (Ob.hch_hostStatus h) 0).spanRequest q = k) :
    k.rd (Ob.hch_hostStatus h) = 1 ∧ RequestSent n k q 4 ∧
    ∃ w ∈ k.tally.waits, w.unit = q.unit ∧ w.ctx = q.ctx ∧ w.vid = q.vid ∧ w.tick = q.tick ∧ w.limit = q.limit := by
  have port := n.atPort_hostStatus h8 0
  have port' := port.trans (Node.atPort_hostStatus _ h8 1)
  have none : (n.wr (Ob.hch_hostStatus h) 0).tally.waits.any (fun x => x.ctx == q.ctx && x.vid == q.vid && x.unit == q.unit) = false := by
    rw [port.tally, List.any_eq_false]
    intro w hw
    simp [apart w hw]
  rw [Node.spanRequest_wait ((port.fired c64).trans fired)
    ((Node.spanCase_eq_zero_iff unit.not_seq op).mpr ((port.allowed c64).mpr allowed)) four, port.transEntry c64, count,
    Node.spanWait_count none (by rwa [port.tally]), unit.host, if_pos rfl, unit.channel, ← port'.transEntry c64] at hk
  obtain ⟨requests, waits⟩ := Node.countWait_spec (tick.trans port'.tb1.symm) four
    { ctx := q.ctx, vid := q.vid, unit := q.unit, arg := q.arg, tick := q.tick, limit := q.limit } hk
  refine ⟨(requests.rd _).trans (Node.rd_wr_same ..), four ▸ port'.requestSent c64 requests.sent, ?_⟩
  rw [waits]
  exact ⟨_, List.mem_append_right _ List.mem_cons_self, rfl, rfl, rfl, rfl, rfl⟩

end

/-! ### Cancelled waits -/

/-- The withdrawal of a wait leaves what is open (11 R308). -/
theorem Node.waits_withdraw (n : Node) (w : SWait) (slot : Nat) : (n.withdraw w slot).tally.waits = n.tally.waits := by
  obtain ⟨-, sent, -⟩ := Node.sendTally_modTally (n := n) (k := (n.nextSeq w.ctx slot w.unit).2) (kind := 4) (c := w.ctx) (slot := slot)
    (unit := w.unit) (rest := [put 111 96 (n.nextSeq w.ctx slot w.unit).1]) rfl rfl
  have numbered : (n.nextSeq w.ctx slot w.unit).2.tally.waits = n.tally.waits := rfl
  rw [← numbered, ← sent, Node.withdraw]
  dsimp only
  split
  · rw [Node.tally_bump]
    rfl
  · rfl

/-- Cancelling ends a host's wait and no other, and its channel is idle (11 R312). -/
theorem Node.hostCancel_spec {n : Node} {h : Nat} (h8 : h < 8) {w : SWait}
    (waits : n.tally.waits.find? (fun w => w.unit == n.unitOf 1023 (hostCore + h)) = some w) {m : Node} (hm : n.hostCancel h = m) :
    m.rd (Ob.hch_hostStatus h) = 0 ∧ m.tally.waits = n.tally.waits.filter (fun x => x != w) := by
  have unit : IsHost w.unit h := by
    have own := List.find?_some waits
    rw [beq_iff_eq.mp own]
    exact n.isHost_unitOf h8
  rw [Node.hostCancel, waits] at hm
  dsimp only at hm
  generalize withdrawn : (if entryMode (n.transEntry w.ctx w.vid) == mCount then n.withdraw w (entrySlot (n.transEntry w.ctx w.vid)) else n) = k at hm
  have same : k.tally.waits = n.tally.waits := by
    rw [← withdrawn]
    split
    · exact n.waits_withdraw ..
    · rfl
  rw [Node.endWait, unit.host, unit.channel, if_pos rfl] at hm
  subst hm
  refine ⟨Node.rd_wr_same .., ?_⟩
  rw [← same]
  rfl

theorem Node.hostCancel_none {n : Node} {h : Nat} (none : n.tally.waits.find? (fun w => w.unit == n.unitOf 1023 (hostCore + h)) = none) :
    n.hostCancel h = n := by rw [Node.hostCancel, none]

/-! ### The host's instructions -/

section
variable {s : State} (tsu : s.tsu.isHub = false) {h cmd op : Nat} {i : Instr} (h8 : h < 8)
  (command : exec i s = onObj s .tsu (decide (h < 8)) (hostCommand h cmd op s.tsu.tb1))
  (live : s.tsu.rd Ob.det_inputMode ≠ 1) (enabled : s.tsu.fnEnabled 1 = true)
include tsu h8 command live enabled

/-- A command of a channel that waits is refused with status 0x3 (11 R312). -/
theorem runsOn_hostBusy (busy : ¬ (s.tsu.rd (Ob.hch_hostStatus h) ≠ 1 ∧ s.tsu.rd (Ob.hch_hostStatus h) ≠ 6)) : RunsOn .tsu i s (fun m =>
    m.answered 3 ∧ m.rd (Ob.hch_hostStatus h) = s.tsu.rd (Ob.hch_hostStatus h) ∧ m.tally = s.tsu.tally ∧ m.links = s.tsu.links) := by
  refine runsOn_obj (works_tsu tsu) command (decide_eq_true h8) ?_
  rw [show s.node .tsu = s.tsu from rfl, hostCommand_refused live enabled busy]
  exact ⟨Node.answered_answer .., Node.rd_answer_hostStatus _ _ h8, Node.tally_answer .., Node.links_answer ..⟩

variable (free : s.tsu.rd (Ob.hch_hostStatus h) ≠ 1 ∧ s.tsu.rd (Ob.hch_hostStatus h) ≠ 6) (vid : fieldAt cmd 4 2 < 4096)
  (ctx : fieldAt cmd 1 1 < s.tsu.ctxCount) (limit : op = 4 → 1 ≤ fieldAt cmd 20 4 ∧ fieldAt cmd 20 4 ≤ 10000000)
include free vid ctx limit

/-- A command that is taken is answered 0 after its request. -/
theorem runsOn_hostTaken {P : Node → Prop}
    (holds : P (((s.tsu.wr (Ob.hch_hostStatus h) 0).spanRequest (s.tsu.hostReq h cmd op s.tsu.tb1)).answer 0)) : RunsOn .tsu i s P := by
  refine runsOn_obj (works_tsu tsu) command (decide_eq_true h8) ?_
  rwa [show s.node .tsu = s.tsu from rfl, hostCommand_taken live enabled free vid ctx limit]

theorem runsOn_hostUnfired (unfired : s.tsu.fired (fieldAt cmd 1 1) = false) : RunsOn .tsu i s (fun m =>
    m.answered 0 ∧ m.rd (Ob.hch_hostStatus h) = 5 ∧ m.tally = s.tsu.tally ∧ m.links = s.tsu.links ∧
    m.rd Ob.tly_requestsRefusedAndStaleMessages = (s.tsu.rd Ob.tly_requestsRefusedAndStaleMessages + 1) % 2 ^ 64) := by
  refine runsOn_hostTaken tsu h8 command live enabled free vid ctx limit ?_
  obtain ⟨status, tally, links, count⟩ := hostRequest_unfired (q := s.tsu.hostReq h cmd op s.tsu.tb1) (s.tsu.isHost_unitOf h8) h8
    (Node.ctx_lt ctx) tsu unfired rfl
  exact ⟨Node.answered_answer .., (Node.rd_answer_hostStatus _ _ h8).trans status, (Node.tally_answer ..).trans tally,
    (Node.links_answer ..).trans links, (Node.rd_answer _ _ (by decide) (by decide)).trans count⟩

variable (fired : s.tsu.fired (fieldAt cmd 1 1) = true)
include fired

theorem runsOn_hostRefused (known : op = 2 ∨ op = 3 ∨ op = 4) (refused : ¬ Allowed s.tsu op (fieldAt cmd 1 1) (fieldAt cmd 4 2)) :
    RunsOn .tsu i s (fun m =>
      m.answered 0 ∧ m.rd (Ob.hch_hostStatus h) = 5 ∧ s.tsu.recorded m 0x44 ∧ m.ctxs = s.tsu.ctxs ∧ m.links = s.tsu.links) := by
  refine runsOn_hostTaken tsu h8 command live enabled free vid ctx limit ?_
  obtain ⟨status, told, ctxs, links⟩ := hostRequest_refused (q := s.tsu.hostReq h cmd op s.tsu.tb1) (s.tsu.isHost_unitOf h8) h8
    (Node.ctx_lt ctx) fired known refused rfl
  exact ⟨Node.answered_answer .., (Node.rd_answer_hostStatus _ _ h8).trans status, told.trans_count (Node.causeCount_answer ..),
    (Node.ctxs_answer ..).trans ctxs, (Node.links_answer ..).trans links⟩

variable (allowed : Allowed s.tsu op (fieldAt cmd 1 1) (fieldAt cmd 4 2))
include allowed

theorem runsOn_hostSends (sends : op = 2 ∨ op = 3) : RunsOn .tsu i s (fun m =>
    m.answered 0 ∧ m.rd (Ob.hch_hostStatus h) = 0 ∧ RequestSent s.tsu m (s.tsu.hostReq h cmd op s.tsu.tb1) op ∧
    m.tally.waits = s.tsu.tally.waits) := by
  refine runsOn_hostTaken tsu h8 command live enabled free vid ctx limit ?_
  obtain ⟨status, sent, waits⟩ := hostRequest_sends (q := s.tsu.hostReq h cmd op s.tsu.tb1) (s.tsu.isHost_unitOf h8) h8
    (Node.ctx_lt ctx) fired (by show op = 2 ∨ op = 3 ∨ op = 4; omega) allowed rfl sends rfl
  refine ⟨Node.answered_answer .., (Node.rd_answer_hostStatus _ _ h8).trans status, RequestSent.congr sent (Node.links_answer ..) (Node.tally_answer ..), ?_⟩
  rw [Node.tally_answer, waits]

theorem runsOn_hostWaits (four : op = 4) (count : entryMode (s.tsu.transEntry (fieldAt cmd 1 1) (fieldAt cmd 4 2)) = 1)
    (room : s.tsu.tally.waits.length < 4096) (apart : ∀ w ∈ s.tsu.tally.waits, w.unit ≠ s.tsu.unitOf 1023 (hostCore + h)) :
    RunsOn .tsu i s (fun m =>
      m.answered 0 ∧ m.rd (Ob.hch_hostStatus h) = 1 ∧ RequestSent s.tsu m (s.tsu.hostReq h cmd 4 s.tsu.tb1) 4 ∧
      ∃ w ∈ m.tally.waits, w.unit = s.tsu.unitOf 1023 (hostCore + h) ∧ w.ctx = fieldAt cmd 1 1 ∧ w.vid = fieldAt cmd 4 2 ∧
        w.tick = s.tsu.tb1 ∧ w.limit = ticksOfUs (fieldAt cmd 20 4)) := by
  refine runsOn_hostTaken tsu h8 command live enabled free vid ctx limit ?_
  subst four
  obtain ⟨status, sent, wait⟩ := hostRequest_waits (q := s.tsu.hostReq h cmd 4 s.tsu.tb1) (s.tsu.isHost_unitOf h8) h8
    (Node.ctx_lt ctx) fired (.inr (.inr rfl)) allowed rfl rfl count room apart rfl
  refine ⟨Node.answered_answer .., (Node.rd_answer_hostStatus _ _ h8).trans status, RequestSent.congr sent (Node.links_answer ..) (Node.tally_answer ..), ?_⟩
  rw [Node.tally_answer]
  exact wait

end

/-- A cancel ends its channel's wait and no other, and leaves the unit's tallies where the channel has none (11 R308, R312). -/
theorem runsOn_hostCancel {s : State} (tsu : s.tsu.isHub = false) {h : Nat} (h8 : h < 8) (live : s.tsu.rd Ob.det_inputMode ≠ 1)
    (enabled : s.tsu.fnEnabled 1 = true) {P : Node → Prop} (holds : P ((s.tsu.hostCancel h).answer 0)) : RunsOn .tsu (.hostCancelWait h) s P := by
  refine runsOn_obj (f := fun n => n.journaled (fun n => n.needsFn 1 (fun n => n.accept true (fun n => n.hostCancel h)))) (works_tsu tsu) rfl
    (decide_eq_true h8) ?_
  rwa [show s.node .tsu = s.tsu from rfl, Node.journaled_live live, Node.needsFn_enabled enabled, Node.accept_accepted rfl]

/-- Settles O38: one lemma per outcome of a core's request (`coreRequest_…`, `coreWait_…`) and of a host's command (`runsOn_host…`). -/
theorem spanRequestsNeedTheirStepAndEntry : Obligations.SpanRequestsNeedTheirStepAndEntry := by
  unfold Obligations.SpanRequestsNeedTheirStepAndEntry
  intro s tsu n
  refine ⟨?_, ?_⟩
  · intro r core req cyc op bus hop i q e
    have c64 : q.ctx < 64 := Nat.mod_lt _ (by decide)
    have unit := isCore_busReq bus
    refine ⟨fun unfired => runsOn_spanBus tsu bus hop fun m at_ => coreRequest_unfired at_ c64 unit tsu unfired rfl,
      fun fired => ⟨?_, fun allowed => ⟨?_, fun four => ⟨?_, ?_, fun apart room => ⟨?_, fun barrier use => ⟨?_, ?_⟩⟩⟩⟩⟩⟩
    · exact fun refused => runsOn_spanBus tsu bus hop fun m at_ => coreRequest_refused at_ c64 unit hop fired refused rfl
    · intro notWait
      have sends : op = 2 ∨ op = 3 := by omega
      exact runsOn_spanBus tsu bus hop fun m at_ => coreRequest_sends at_ c64 unit hop fired allowed rfl sends rfl
    · exact fun taken => runsOn_spanBus tsu bus hop fun m at_ => coreWait_taken at_ c64 unit hop fired allowed four tsu taken rfl
    · exact fun apart full => runsOn_spanBus tsu bus hop fun m at_ => coreWait_full at_ c64 unit hop fired allowed four apart full rfl
    · exact fun count => runsOn_spanBus tsu bus hop fun m at_ => coreWait_count at_ c64 unit hop fired allowed rfl four apart room count rfl
    · exact fun later => runsOn_spanBus tsu bus hop fun m at_ =>
        coreWait_opens at_ c64 unit hop fired allowed four apart room barrier use later rfl
    · exact fun reached => runsOn_spanBus tsu bus hop fun m at_ =>
        coreWait_released at_ c64 unit hop fired allowed four apart room barrier use reached rfl
  intro h cmd h8 wait u c vid us free live enabled
  refine ⟨?_, fun idle hv hc fired => ⟨?_, ?_, ?_, ?_⟩, ?_, ?_⟩
  · intro i known
    have parts : ∃ op, exec i s = onObj s .tsu (decide (h < 8)) (hostCommand h cmd op s.tsu.tb1) ∧ (op = 4 → i = wait) := by
      simp only [List.mem_cons, List.not_mem_nil, or_false] at known
      rcases known with rfl | rfl | rfl
      · exact ⟨2, rfl, nofun⟩
      · exact ⟨3, rfl, nofun⟩
      · exact ⟨4, rfl, fun _ => rfl⟩
    obtain ⟨op, command, isWait⟩ := parts
    exact ⟨runsOn_hostBusy tsu h8 command live enabled, fun idle hv hc limit unfired =>
      runsOn_hostUnfired tsu h8 command live enabled idle hv hc (fun four => limit (isWait four)) unfired⟩
  · exact fun allowed => runsOn_hostSends tsu h8 rfl live enabled idle hv hc nofun fired allowed (.inl rfl)
  · exact fun allowed => runsOn_hostSends tsu h8 rfl live enabled idle hv hc nofun fired allowed (.inr rfl)
  · exact fun refused => runsOn_hostRefused tsu h8 rfl live enabled idle hv hc nofun fired (.inl rfl) refused
  · exact fun allowed low high count room apart =>
      runsOn_hostWaits tsu h8 rfl live enabled idle hv hc (fun _ => ⟨low, high⟩) fired allowed rfl count room apart
  · intro w found
    obtain ⟨status, waits⟩ := Node.hostCancel_spec h8 found rfl
    refine runsOn_hostCancel tsu h8 live enabled ⟨Node.answered_answer .., (Node.rd_answer_hostStatus _ _ h8).trans status, ?_⟩
    rw [Node.tally_answer, waits]
    exact ⟨fun held => by simp at held, fun y hy other => by simp [hy, other]⟩
  · intro none
    refine runsOn_hostCancel tsu h8 live enabled ?_
    rw [Node.hostCancel_none none]
    exact ⟨Node.answered_answer .., Node.tally_answer .., Node.rd_answer_hostStatus _ _ h8⟩

end Sys2Proof.Machine

/-! Tallies at a hub (11 R290, R293 to R298): what a hub's messages, waves and counts leave, said once; then its up messages, its decisions and its
releases, a lemma per outcome. -/

namespace Sys2Proof.Machine

/-! ### Units and waiters -/

/-- The units that remain when one has gone to a waiter, as `assignUnits` takes it. -/
theorem sum_assignRest {u : HUnit} (us : List HUnit) (some : 1 ≤ u.n) :
    (((if u.n ≤ 1 then us else { u with n := u.n - 1 } :: us).map (·.n)).sum = ((u :: us).map (·.n)).sum - 1) := by
  split
  · simp only [List.map_cons, List.sum_cons]
    omega
  · simp only [List.map_cons, List.sum_cons]
    omega

/-- As many waiters as there are units are served in ascending order, one unit each (11 R284). -/
theorem assignUnits_spec (us : List HUnit) (ws : List HWait) (some : ∀ u ∈ us, 1 ≤ u.n) :
    (assignUnits us ws).1.map (·.2) = (ws.take (min (us.map (·.n)).sum ws.length)).map (·.unit) ∧
    (assignUnits us ws).2.2 = ws.drop (min (us.map (·.n)).sum ws.length) := by
  induction ws generalizing us with
  | nil => cases us <;> simp [assignUnits]
  | cons w ws ih =>
    cases us with
    | nil => simp [assignUnits]
    | cons u us =>
      have first : 1 ≤ u.n := some u List.mem_cons_self
      have rest : ∀ x ∈ (if u.n ≤ 1 then us else { u with n := u.n - 1 } :: us), 1 ≤ x.n := by
        intro x hx
        split at hx
        · exact some x (List.mem_cons_of_mem u hx)
        · rcases List.mem_cons.mp hx with rfl | later
          · show 1 ≤ u.n - 1
            omega
          · exact some x (List.mem_cons_of_mem u later)
      obtain ⟨served, left⟩ := ih _ rest
      rw [sum_assignRest us first] at served left
      have more : min ((u :: us).map (·.n)).sum (w :: ws).length = min (((u :: us).map (·.n)).sum - 1) ws.length + 1 := by
        simp only [List.map_cons, List.sum_cons, List.length_cons]
        omega
      rw [more, assignUnits, List.take_succ_cons, List.drop_succ_cons, List.map_cons, List.map_cons, served, left]
      exact ⟨rfl, rfl⟩

/-! ### What a hub's operations leave -/

theorem Node.Sends.htal {n m : Node} (h : n.Sends m) : m.htal = n.htal := by
  have := congrArg Node.htal h.frame
  exact this

theorem Node.htalOf_of_htal {n m : Node} (h : m.htal = n.htal) (slot : Nat) : m.htalOf slot = n.htalOf slot := by
  rw [Node.htalOf, h, Node.htalOf]

theorem Node.htal_bump (n : Node) (o : Nat) : (n.bump o).htal = n.htal := by
  have := congrArg Node.htal (n.bump_frame o)
  exact this

theorem Node.linkOf_bump (n : Node) (o p : Nat) : (n.bump o).linkOf p = n.linkOf p := by rw [Node.bump, Node.linkOf_addTo]

/-- The counters of a hub's tallies have 64 bits (11 R317). -/
theorem widthOf_tallyCounters : widthOf .hub Ob.htly_messagesDropped = 64 ∧ widthOf .hub Ob.htly_lateMessages = 64 := by decide +kernel

theorem Node.htal_consume (n : Node) (p : Nat) (f : Msg → Bool) : (n.consume p f).htal = n.htal := by rw [Node.consume_eq]

theorem Node.objs_consume (n : Node) (p : Nat) (f : Msg → Bool) : (n.consume p f).objs = n.objs := by rw [Node.consume_eq]

/-- A message dropped is counted, and only its buffer moves (11 R317). -/
theorem Node.dropTally_consume {n : Node} (hub : n.isHub = true) (p : Nat) (f : Msg → Bool) {m : Node} (hm : (n.consume p f).dropTally = m) :
    m.rd Ob.htly_messagesDropped = (n.rd Ob.htly_messagesDropped + 1) % 2 ^ 64 ∧ m.htal = n.htal ∧ ∀ q, q ≠ p → m.linkOf q = n.linkOf q := by
  have kind : (n.consume p f).kind = .hub := by
    rw [Node.consume_eq]
    exact Node.kind_of_isHub hub
  subst hm
  refine ⟨?_, (Node.htal_bump ..).trans (n.htal_consume p f), fun q hq => (Node.linkOf_bump ..).trans (n.linkOf_consume_ne f hq)⟩
  rw [Node.dropTally, Node.rd_bump_same _ _ (by decide), kind, widthOf_tallyCounters.1, Node.rd_consume]

theorem Node.wavePorts_lt {n : Node} {span epoch p : Nat} (h : p ∈ n.wavePorts span epoch) : p < 68 := by
  have small := List.mem_range.mp (List.mem_filter.mp h).1
  have ports : n.portCount ≤ 68 := by
    unfold Node.portCount
    split <;> decide
  omega

/-- A hub's wave for a context is no record but of its own loss (14 R386). -/
theorem Node.ActsOn.raiseHubWave {w : Nat → Bool} {d : Nat} {ks : List Nat} {n m : Node} (h : n.ActsOn d w ks m) {span epoch ctx cause : Nat}
    (h14 : 0x14 ∈ ks) : n.ActsOn d w ks (m.raiseHubWave span epoch ctx cause) :=
  (h.bump (o := Ob.flt_wavesOriginated) (mayWrite_end (by decide) (by decide))).overAll fun hx h => h.queueWave (Node.wavePorts_lt hx) h14

theorem Node.ActsOn.hubTallyFault {w : Nat → Bool} {d : Nat} {ks : List Nat} {n m : Node} (h : n.ActsOn d w ks m)
    {cause slot u obj detail : Nat} (hc : cause ∈ ks) (h14 : 0x14 ∈ ks) : n.ActsOn d w ks (m.hubTallyFault cause slot u obj detail) :=
  (h.fault hc).raiseHubWave h14

theorem Node.wavesOnly_raiseHubWave (n : Node) (span epoch ctx cause : Nat) : wavesOnly n (n.raiseHubWave span epoch ctx cause) :=
  (n.wavesOnly_bump _).trans (Node.wavesOnly_queueWaves ..)

/-- A tally's fault at a hub is recorded, and moves no tally (11 R309, R315). -/
theorem Node.hubTallyFault_spec (n : Node) {cause : Nat} (h14 : cause ≠ 0x14) (slot u obj detail : Nat) {m : Node}
    (hm : n.hubTallyFault cause slot u obj detail = m) : n.recorded m cause ∧ m.htal = n.htal := by
  subst hm
  rw [Node.hubTallyFault]
  set r : FRec := { cause := cause, span := cfgSpan (n.htalOf slot).cfg, die := some (fld u 49 30), region := unitRegion u, core := unitCore u
                    ctx := cfgCtx (n.htalOf slot).cfg, obj := obj, detail := detail }
  have wave : (n.fault r).ActsOn 0 (fun _ => false) [0x14] ((n.fault r).raiseHubWave (cfgSpan (n.htalOf slot).cfg) (n.htalOf slot).epoch
    (cfgCtx (n.htalOf slot).cfg) cause) := (Node.ActsOn.refl ..).raiseHubWave List.mem_cons_self
  have frame := (wavesOnly.of_rec (n.fault_frame r)).trans (Node.wavesOnly_raiseHubWave (n.fault r) (cfgSpan (n.htalOf slot).cfg)
    (n.htalOf slot).epoch (cfgCtx (n.htalOf slot).cfg) cause)
  have htal := congrArg Node.htal frame
  exact ⟨(n.recorded_fault r).trans_count (wave.count _ (by simpa using h14)), htal⟩

@[simp] theorem HTally.cfg_forStep (t : HTally) (step epoch : Nat) : (t.forStep step epoch).cfg = t.cfg := by
  unfold HTally.forStep HTally.fresh
  split <;> rfl

/-- The state of a slot of the step and epoch of a message is that held (11 R294). -/
theorem HTally.forStep_same {t : HTally} {step epoch : Nat} (h : t.step = step) (he : t.epoch = epoch) : t.forStep step epoch = t := by
  simp [HTally.forStep, h, he]

/-! ### Sums that leave -/

/-- The message in which a slot's sum leaves (11 R292, R293). -/
def Node.sumMsg (n : Node) (slot st use k tick : Nat) : Msg :=
  { typ := tTally
    cells := [tallyHead (cfgSpan (n.htalOf slot).cfg) (n.htalOf slot).epoch 2 (cfgCtx (n.htalOf slot).cfg) slot st,
      put 127 64 tick + put 63 14 n.hubUnit, put 127 96 k + put 95 80 use] }

/-- A slot whose held ARRIVEs that are due have left. -/
def Node.holdLater (n : Node) (slot : Nat) : Node := n.modHtal slot (fun t => { t with hold := t.hold.filter (fun e => n.tb1 < e.2.2.2.2) })

section
variable {n : Node} {slot st use k tick due : Nat} (hold : (n.htalOf slot).hold = [(st, use, k, tick, due)])
include hold

/-- An ARRIVE whose boundary has come leaves with its sum (11 R293). -/
theorem combineSend_due (member : n.lst (n.uplink (cfgSpan (n.htalOf slot).cfg) (n.htalOf slot).epoch) = 6) (come : due ≤ n.tb1) {m : Node}
    (hm : combineSend slot n = m) : (m.htalOf slot).hold = [] ∧ m.objs = n.objs ∧
      QueuedC2 m (n.uplink (cfgSpan (n.htalOf slot).cfg) (n.htalOf slot).epoch) (n.sumMsg slot st use k tick) n.tb1 := by
  have one : m = (n.holdLater slot).enqueue (n.uplink (cfgSpan (n.htalOf slot).cfg) (n.htalOf slot).epoch)
      { msg := n.sumMsg slot st use k tick, ready := n.tb1 } := by
    rw [← hm, combineSend, hold, List.filter_cons_of_pos (by simpa using come), List.filter_nil]
    rfl
  have posts := Node.Posts.enqueue (n.holdLater slot) (n.uplink (cfgSpan (n.htalOf slot).cfg) (n.htalOf slot).epoch)
    (x := { msg := n.sumMsg slot st use k tick, ready := n.tb1 }) rfl
  rw [← one] at posts
  refine ⟨?_, posts.objs fun p hp => (List.mem_singleton.mp hp) ▸ member, ?_⟩
  · rw [Node.htalOf_of_htal posts.htal, Node.holdLater, Node.modHtal_htalOf_same, hold]
    simp [come]
  · rw [one]
    exact Node.queuedC2_enqueue (x := { msg := n.sumMsg slot st use k tick, ready := n.tb1 }) rfl member

/-- Before its boundary it is held (11 R293). -/
theorem combineSend_early (early : n.tb1 < due) {m : Node} (hm : combineSend slot n = m) :
    m.htalOf slot = n.htalOf slot ∧ m.links = n.links ∧ m.objs = n.objs := by
  have kept : (n.htalOf slot).hold.filter (fun e => decide (n.tb1 < e.2.2.2.2)) = (n.htalOf slot).hold := by rw [hold]; simp [early]
  have same : m = n.holdLater slot := by
    rw [← hm, combineSend, hold, List.filter_cons_of_neg (by simpa using early), List.filter_nil]
    rfl
  rw [same, Node.holdLater]
  refine ⟨?_, rfl, rfl⟩
  rw [Node.modHtal_htalOf_same, kept]

end

end Sys2Proof.Machine

namespace Sys2Proof.Machine

/-! ### Releases of a BARRIER -/

/-- The downlinks of a RELEASE carry its span at its epoch and are MEMBER (11 R293). -/
theorem Node.of_mem_releasePorts {n : Node} {a : Msg} {q : Nat} (h : q ∈ n.releasePorts a) : q < 64 ∧ n.memberMatch q a.span a.epoch = true := by
  unfold Node.releasePorts at h
  dsimp only at h
  split at h
  · obtain ⟨small, match_⟩ := List.mem_filter.mp h
    exact ⟨List.mem_range.mp small, match_⟩
  · obtain ⟨down, match_⟩ := List.mem_filter.mp h
    refine ⟨?_, match_⟩
    have field (x lo : Nat) : fld x (lo + 5) lo < 64 := by
      rw [fld, bits, show lo + 5 + 1 - lo = 6 by omega]
      exact Nat.mod_lt _ (by decide)
    rw [List.mem_singleton.mp down, Node.downFor]
    split_ifs
    · exact field _ 12
    · exact field _ 6
    · exact field _ 6
    · exact field _ 0

theorem Node.lst_of_memberMatch {n : Node} {q span epoch : Nat} (h : n.memberMatch q span epoch = true) : n.lst q = 6 := by
  obtain ⟨-, member⟩ := Bool.and_eq_true_iff.mp h
  exact beq_iff_eq.mp member

section
variable {w : Nat → Bool} {d : Nat} {ks : List Nat} {n m : Node} (h : n.ActsOn d w ks m)
include h

theorem Node.ActsOn.modHtal {slot : Nat} {f : HTally → HTally} : n.ActsOn d w ks (m.modHtal slot f) := h.same rfl

theorem Node.ActsOn.releaseUse {slot tick u : Nat} : n.ActsOn d w ks (m.releaseUse slot tick u) := by
  rw [Node.releaseUse, Node.sendRelease, if_pos rfl]
  exact h.modHtal.sendAll fun _ hp => by
    obtain ⟨small, -⟩ := Node.of_mem_releasePorts hp
    omega

/-- A decision of a BARRIER records no cause but 0x45 (11 R297). -/
theorem Node.ActsOn.decideBarrier (h14 : 0x14 ∈ ks) (h45 : 0x45 ∈ ks) {slot k tick : Nat} : n.ActsOn d w ks (m.decideBarrier slot k tick) := by
  refine h.overAll fun _ h => ?_
  dsimp only
  split
  · exact h.releaseUse
  split
  · exact h
  split
  · exact h.modHtal.hubTallyFault h45 h14
  · exact h.modHtal

end

/-! ### Decisions taken again -/

theorem Node.decide_barrier {n : Node} {slot : Nat} (mode : cfgMode (n.htalOf slot).cfg = 0) (k tick : Nat) :
    n.decide_ slot k tick = n.decideBarrier slot k tick := by simp [Node.decide_, mode, mBarrier]

/-- The index of a BARRIER decided again records no cause but 0x45 (11 R297, R314). -/
theorem Node.decideAgain_barrier {n : Node} {slot : Nat} (mode : cfgMode (n.htalOf slot).cfg = 0) :
    n.ActsOn 0 (fun _ => false) [0x45, 0x14] (n.decideAgain slot) := by
  have decided (k r : Nat) : n.ActsOn 0 (fun _ => false) [0x45, 0x14] (n.decide_ slot k r) := by
    rw [Node.decide_barrier mode]
    exact (Node.ActsOn.refl ..).decideBarrier (by decide) (by decide)
  unfold Node.decideAgain
  dsimp only
  split
  · exact .refl ..
  · split
    · split
      · exact decided ..
      · exact .refl ..
    · exact .refl ..

/-- No index is decided again before the first has been (11 R314). -/
theorem Node.decideAgain_first {n : Node} {slot : Nat} (first : cfgSlotted (n.htalOf slot).cfg = false ∨ (n.htalOf slot).nextK = 0) :
    n.decideAgain slot = n := by
  have idle (b c : Bool) : (cfgSlotted (n.htalOf slot).cfg && (n.htalOf slot).nextK != 0 && b && c) = false := by
    rcases first with immediate | zero
    · simp [immediate]
    · simp [zero]
  unfold Node.decideAgain
  dsimp only
  split
  · rfl
  · split
    · rw [idle, if_neg Bool.false_ne_true]
    · rfl

/-! ### ARRIVEs at a head -/

section
variable {n : Node} {slot fire : Nat} {a : Msg} (immediate : cfgSlotted (n.htalOf slot).cfg = false)
include immediate

/-- The state of a slot that has counted an ARRIVE up to `cnt` (11 R293). -/
def HTally.counted (t : HTally) (a : Msg) (cnt : Nat) : HTally :=
  { t with arrive := assocSet t.arrive (fld (a.cell 2) 95 80) cnt, dirty := true, sigUnit := fld (a.cell 1) 63 14
           sigTick := fld (a.cell 1) 127 64 }

theorem Node.headArrive_immediate : n.headArrive slot fire a =
    (let cnt := assoc 0 (n.htalOf slot).arrive (fld (a.cell 2) 95 80)
     let took := min (fld (a.cell 2) 127 96) (cfgParts (n.htalOf slot).cfg - cnt)
     let m := n.modHtal slot (fun t => t.counted a (cnt + took))
     if took < fld (a.cell 2) 127 96 then
       m.hubTallyFault 0x46 slot (fld (a.cell 1) 63 14) (spanObj 0 slot) (put 79 32 (n.htalOf slot).step + put 31 16 (fld (a.cell 2) 95 80))
     else m) := by
  rw [Node.headArrive]
  dsimp only
  rw [immediate, Bool.false_and, if_neg Bool.false_ne_true]
  rfl

/-- Arrivals up to the participants are counted (11 R284). -/
theorem Node.headArrive_counts (room : assoc 0 (n.htalOf slot).arrive (fld (a.cell 2) 95 80) + fld (a.cell 2) 127 96 ≤ cfgParts (n.htalOf slot).cfg) :
    n.headArrive slot fire a = n.modHtal slot (fun t =>
      t.counted a (assoc 0 (n.htalOf slot).arrive (fld (a.cell 2) 95 80) + fld (a.cell 2) 127 96)) := by
  have all : min (fld (a.cell 2) 127 96) (cfgParts (n.htalOf slot).cfg - assoc 0 (n.htalOf slot).arrive (fld (a.cell 2) 95 80)) =
      fld (a.cell 2) 127 96 := by omega
  rw [Node.headArrive_immediate immediate]
  dsimp only
  rw [all, if_neg (lt_irrefl _)]

/-- Those above the participants are recorded (11 R284). -/
theorem Node.headArrive_above (some : 0 < fld (a.cell 2) 127 96)
    (above : cfgParts (n.htalOf slot).cfg < assoc 0 (n.htalOf slot).arrive (fld (a.cell 2) 95 80) + fld (a.cell 2) 127 96) {m : Node}
    (hm : n.headArrive slot fire a = m) : n.recorded m 0x46 ∧ m.htalOf slot = (n.htalOf slot).counted a
      (max (assoc 0 (n.htalOf slot).arrive (fld (a.cell 2) 95 80)) (cfgParts (n.htalOf slot).cfg)) := by
  rw [Node.headArrive_immediate immediate] at hm
  dsimp only at hm
  rw [if_pos (by omega)] at hm
  obtain ⟨told, htal⟩ := Node.hubTallyFault_spec _ (by decide) _ _ _ _ hm
  refine ⟨told.of_count rfl, ?_⟩
  rw [Node.htalOf_of_htal htal, Node.modHtal_htalOf_same]
  congr 1
  omega

end

/-! ### Up messages -/

/-- A SIGNAL, ARRIVE, WAIT or CANCEL (11 R292). -/
abbrev isUpTally (m : Msg) : Bool := m.typ == tTally && 1 ≤ fld m.head 79 76 && fld m.head 79 76 ≤ 4

@[simp] theorem Node.htalOf_consume (n : Node) (p : Nat) (f : Msg → Bool) (slot : Nat) : (n.consume p f).htalOf slot = n.htalOf slot :=
  Node.htalOf_of_htal (n.htal_consume p f) slot

@[simp] theorem Node.isHeadOf_consume (n : Node) (p : Nat) (f : Msg → Bool) (span : Nat) : (n.consume p f).isHeadOf span = n.isHeadOf span := by
  rw [Node.consume_eq]
  rfl

@[simp] theorem Node.spanMatch_consume (n : Node) (p : Nat) (f : Msg → Bool) (q span epoch : Nat) :
    (n.consume p f).spanMatch q span epoch = n.spanMatch q span epoch := by
  rw [Node.consume_eq]
  rfl

@[simp] theorem Node.inFlight_consume (n : Node) (p : Nat) (f : Msg → Bool) (span ctx : Nat) :
    (n.consume p f).inFlight span ctx = n.inFlight span ctx := by
  rw [Node.consume_eq]
  rfl

theorem Node.uplink_consume (n : Node) (p : Nat) (f : Msg → Bool) (span epoch : Nat) : (n.consume p f).uplink span epoch = n.uplink span epoch := by
  rw [Node.consume_eq]
  rfl

/-- A slot takes a message exactly where none of the grounds to drop it holds (11 R293). -/
theorem slotTakes_iff {n : Node} {a : Msg} : SlotTakes n a ↔ (!cfgActive (n.htalOf (fld a.head 69 54)).cfg ||
    cfgSpan (n.htalOf (fld a.head 69 54)).cfg != a.span || kindUnused (cfgMode (n.htalOf (fld a.head 69 54)).cfg) (fld a.head 79 76)) = false := by
  simp [SlotTakes, and_assoc]

section
variable {n : Node} {p : Nat} {a : Msg} (waits : n.peek p isUpTally = some a)
include waits

/-- A message of a slot that does not take it is dropped and counted (11 R293, R317). -/
theorem upMessage_dropped (refused : ¬ SlotTakes n a) : upMessage p n = (n.consume p isUpTally).dropTally := by
  rw [slotTakes_iff, Bool.not_eq_false] at refused
  rw [upMessage, Node.onMsg_some waits]
  simp only [Node.htalOf_consume]
  exact if_pos refused

variable (takes : SlotTakes n a)
include takes

/-- A message that its slot takes is taken at a head (11 R296). -/
theorem upMessage_head (head : n.isHeadOf a.span = true) :
    upMessage p n = ((n.consume p isUpTally).headUp p (fld a.head 69 54) a).decideAgain (fld a.head 69 54) := by
  rw [upMessage, Node.onMsg_some waits]
  simp only [Node.htalOf_consume, Node.isHeadOf_consume]
  rw [slotTakes_iff.mp takes, if_neg Bool.false_ne_true, if_pos head]

section
variable (below : n.isHeadOf a.span = false) (down : p < 64) (carries : n.spanMatch p a.span a.epoch = true)
  (current : (n.htalOf (fld a.head 69 54)).stale (fld a.head 53 6) a.epoch = false)
include below down carries current

/-- A message of a downlink that its slot takes is passed up below the head (11 R293). -/
theorem upMessage_passed : upMessage p n = ((n.consume p isUpTally).modHtal (fld a.head 69 54) (fun t =>
    t.forStep (fld a.head 53 6) a.epoch)).passUp p (fld a.head 69 54) a := by
  rw [upMessage, Node.onMsg_some waits]
  simp only [Node.htalOf_consume, Node.isHeadOf_consume, Node.spanMatch_consume]
  rw [slotTakes_iff.mp takes, if_neg Bool.false_ne_true, below, if_neg Bool.false_ne_true, if_neg (by simp [down, carries, current])]

/-- A kind other than ARRIVE goes up (11 R293). -/
theorem upMessage_forwards (other : fld a.head 79 76 ≠ 2) (member : n.lst (n.uplink a.span a.epoch) = 6) (tally : a.typ = tTally) {m : Node}
    (hm : upMessage p n = m) : QueuedC2 m (n.uplink a.span a.epoch) a (a.first + 49) ∧
    ∀ q, q ≠ p → q ≠ n.uplink a.span a.epoch → m.linkOf q = n.linkOf q := by
  have port : ((n.consume p isUpTally).modHtal (fld a.head 69 54) (fun t => t.forStep (fld a.head 53 6) a.epoch)).uplink a.span a.epoch =
      n.uplink a.span a.epoch := n.uplink_consume p isUpTally _ _
  rw [upMessage_passed waits takes below down carries current, Node.passUp, if_neg (by simpa using other), port] at hm
  subst hm
  refine ⟨Node.queuedC2_enqueue (x := { msg := a, ready := a.first + 49, inPort := p }) tally ?_, fun q hp hu => ?_⟩
  · rw [← member]
    exact n.lst_consume ..
  · rw [Node.forward, Node.linkOf_enqueue_ne _ _ hu.symm]
    exact n.linkOf_consume_ne _ hp

/-- An ARRIVE is held, and no other link end moves (11 R293). -/
theorem upMessage_holds (arrive : fld a.head 79 76 = 2) {m : Node} (hm : upMessage p n = m) :
    (m.htalOf (fld a.head 69 54)).hold = holdArrive ((n.htalOf (fld a.head 69 54)).forStep (fld a.head 53 6) a.epoch).hold (fld a.head 53 6)
      (fld (a.cell 2) 95 80) (fld (a.cell 2) 127 96) (fld (a.cell 1) 127 64) (nextMul 8 (a.first + 49)) ∧
    ∀ q, q ≠ p → m.linkOf q = n.linkOf q := by
  rw [upMessage_passed waits takes below down carries current, Node.passUp, arrive, if_pos (by decide)] at hm
  subst hm
  refine ⟨?_, fun q hq => n.linkOf_consume_ne _ hq⟩
  rw [Node.modHtal_htalOf_same, Node.modHtal_htalOf_same, Node.htalOf_consume]

end

variable (head : n.isHeadOf a.span = true) (down : p < 64) (mode : cfgMode (n.htalOf (fld a.head 69 54)).cfg = 0)
include head down mode

/-- A message of a BARRIER at its head, of another step than the one confirmed, is late (11 R293, R297). -/
theorem upMessage_late (hub : n.isHub = true) (slotted : cfgSlotted (n.htalOf (fld a.head 69 54)).cfg = true)
    (other : (n.inFlight a.span (cfgCtx (n.htalOf (fld a.head 69 54)).cfg)).map (·.1) ≠ some (fld a.head 53 6)) {m : Node} (hm : upMessage p n = m) :
    m.rd Ob.htly_lateMessages = (n.rd Ob.htly_lateMessages + 1) % 2 ^ 64 ∧ ((n.htalOf (fld a.head 69 54)).nextK = 0 → m.htal = n.htal) := by
  have late : (n.consume p isUpTally).headUp p (fld a.head 69 54) a = (n.consume p isUpTally).bump Ob.htly_lateMessages := by
    have ports : p ≠ 64 ∧ p ≠ 65 ∧ ¬ 66 ≤ p := by omega
    simp [Node.headUp, mode, mBarrier, ports, slotted, other]
  have kind : (n.consume p isUpTally).kind = .hub := by
    rw [Node.consume_eq]
    exact Node.kind_of_isHub hub
  have htal : ((n.consume p isUpTally).bump Ob.htly_lateMessages).htal = n.htal := (Node.htal_bump ..).trans (n.htal_consume ..)
  have count : ((n.consume p isUpTally).bump Ob.htly_lateMessages).rd Ob.htly_lateMessages = (n.rd Ob.htly_lateMessages + 1) % 2 ^ 64 := by
    rw [Node.rd_bump_same _ _ (by decide), kind, widthOf_tallyCounters.2, Node.rd_consume]
  rw [upMessage_head waits takes head, late] at hm
  generalize (n.consume p isUpTally).bump Ob.htly_lateMessages = k at hm htal count
  subst hm
  refine ⟨?_, fun first => ?_⟩
  · have again := Node.decideAgain_barrier (n := k) (slot := fld a.head 69 54) (by rwa [Node.htalOf_of_htal htal])
    exact (again.rd _ (by decide) rfl).trans count
  · rw [Node.decideAgain_first (.inr (by rwa [Node.htalOf_of_htal htal]))]
    exact htal

variable (immediate : cfgSlotted (n.htalOf (fld a.head 69 54)).cfg = false)
  (current : (n.htalOf (fld a.head 69 54)).stale (fld a.head 53 6) a.epoch = false)
include immediate current

/-- An immediate BARRIER's ARRIVE is counted for its step (11 R293, R298). -/
theorem upMessage_arrives : ∃ fire, upMessage p n = (((n.consume p isUpTally).modHtal (fld a.head 69 54) (fun t =>
    t.forStep (fld a.head 53 6) a.epoch)).headArrive (fld a.head 69 54) fire a).decideAgain (fld a.head 69 54) := by
  have ports : p ≠ 64 ∧ p ≠ 65 ∧ ¬ 66 ≤ p := by omega
  rw [upMessage_head waits takes head]
  cases flight : n.inFlight a.span (cfgCtx (n.htalOf (fld a.head 69 54)).cfg) with
  | none => exact ⟨0, by simp [Node.headUp, mode, mBarrier, ports, immediate, current, flight]⟩
  | some f => exact ⟨f.2, by simp [Node.headUp, mode, mBarrier, ports, immediate, current, flight]⟩

/-- Arrivals up to the participants are counted in the slot's state for the message's step, and no object moves (11 R284, R294). -/
theorem upMessage_counts {t : HTally} (state : (n.htalOf (fld a.head 69 54)).forStep (fld a.head 53 6) a.epoch = t)
    (room : assoc 0 t.arrive (fld (a.cell 2) 95 80) + fld (a.cell 2) 127 96 ≤ cfgParts t.cfg) {m : Node} (hm : upMessage p n = m) :
    m.htalOf (fld a.head 69 54) = t.counted a (assoc 0 t.arrive (fld (a.cell 2) 95 80) + fld (a.cell 2) 127 96) ∧ m.objs = n.objs := by
  obtain ⟨fire, arrives⟩ := upMessage_arrives waits takes head down mode immediate current
  have objs : ((n.consume p isUpTally).modHtal (fld a.head 69 54) (fun t => t.forStep (fld a.head 53 6) a.epoch)).objs = n.objs := n.objs_consume ..
  have found : ((n.consume p isUpTally).modHtal (fld a.head 69 54) (fun t => t.forStep (fld a.head 53 6) a.epoch)).htalOf (fld a.head 69 54) = t := by
    rw [Node.modHtal_htalOf_same, Node.htalOf_consume, state]
  have now : cfgSlotted t.cfg = false := by rw [← state, HTally.cfg_forStep, immediate]
  rw [arrives] at hm
  generalize (n.consume p isUpTally).modHtal _ _ = k at hm objs found
  rw [Node.headArrive_counts (by rwa [found]) (by rwa [found]), found, Node.decideAgain_first (.inl ?_)] at hm
  · subst hm
    exact ⟨by rw [Node.modHtal_htalOf_same, found], objs⟩
  · rw [Node.modHtal_htalOf_same, found]
    exact now

/-- Arrivals above the participants are recorded (11 R284). -/
theorem upMessage_above {t : HTally} (state : (n.htalOf (fld a.head 69 54)).forStep (fld a.head 53 6) a.epoch = t)
    (above : cfgParts t.cfg < assoc 0 t.arrive (fld (a.cell 2) 95 80) + fld (a.cell 2) 127 96) (some : 0 < fld (a.cell 2) 127 96) {m : Node}
    (hm : upMessage p n = m) :
    n.recorded m 0x46 ∧ m.htalOf (fld a.head 69 54) = t.counted a (max (assoc 0 t.arrive (fld (a.cell 2) 95 80)) (cfgParts t.cfg)) := by
  obtain ⟨fire, arrives⟩ := upMessage_arrives waits takes head down mode immediate current
  have counts : ((n.consume p isUpTally).modHtal (fld a.head 69 54) (fun t => t.forStep (fld a.head 53 6) a.epoch)).causeCount 0x46 =
      n.causeCount 0x46 := Node.causeCount_congr (n.rd_consume ..) _
  have found : ((n.consume p isUpTally).modHtal (fld a.head 69 54) (fun t => t.forStep (fld a.head 53 6) a.epoch)).htalOf (fld a.head 69 54) = t := by
    rw [Node.modHtal_htalOf_same, Node.htalOf_consume, state]
  have now : cfgSlotted t.cfg = false := by rw [← state, HTally.cfg_forStep, immediate]
  rw [arrives] at hm
  generalize (n.consume p isUpTally).modHtal _ _ = k at hm counts found
  obtain ⟨told, after⟩ := Node.headArrive_above (n := k) (fire := fire) (by rwa [found]) some (by rwa [found]) rfl
  rw [found] at after
  rw [Node.decideAgain_first (.inl (by rw [after]; exact now))] at hm
  subst hm
  exact ⟨told.of_count counts, after⟩

end

end Sys2Proof.Machine

namespace Sys2Proof.Machine

/-! ### What a RELEASE names -/

/-- Span and epoch of a tally message (11 R292). -/
theorem fld_tallyHead {span epoch : Nat} (hs : span < 2 ^ 16) (he : epoch < 2 ^ 32) (kind ctx slot step : Nat) :
    fld (tallyHead span epoch kind ctx slot step) 127 112 = span ∧ fld (tallyHead span epoch kind ctx slot step) 111 80 = epoch := by
  simp only [tallyHead, fld, bits, put]
  norm_num at hs he ⊢
  omega

theorem fld_everyUnit (tick : Nat) : fld (put 127 64 tick + put 63 14 everyUnit) 63 14 = everyUnit := by
  simp only [everyUnit, fld, bits, put]
  norm_num
  omega

theorem fld_epoch_lt (x : Nat) : fld x 111 80 < 2 ^ 32 := by
  rw [fld, bits]
  exact Nat.mod_lt _ (by positivity)

theorem cfgSpan_lt (v : Nat) : cfgSpan v < 2 ^ 16 := Nat.mod_lt _ (by decide)

/-- A RELEASE for every waiter goes to every downlink of its span and epoch (11 R293). -/
theorem Node.releasePorts_everyUnit (n : Node) {t : HTally} (epoch : t.epoch < 2 ^ 32) (slot tick num value chan die tab : Nat) :
    n.releasePorts (releaseMsg t slot tick everyUnit num value chan die tab) = n.memberDown (cfgSpan t.cfg) t.epoch := by
  obtain ⟨span, inst⟩ := fld_tallyHead (cfgSpan_lt t.cfg) epoch 5 (cfgCtx t.cfg) slot t.step
  have unit : fld ((releaseMsg t slot tick everyUnit num value chan die tab).cell 1) 63 14 = everyUnit := fld_everyUnit tick
  rw [Node.releasePorts, unit, beq_self_eq_true, if_pos rfl]
  exact congrArg₂ n.memberDown span inst

/-- A use is released on every downlink of its span and epoch, and no object moves (11 R293). -/
theorem Node.releaseUse_spec {n : Node} {slot : Nat} (epoch : (n.htalOf slot).epoch < 2 ^ 32) (tick u : Nat) {m : Node}
    (hm : n.releaseUse slot tick u = m) : (m.htalOf slot).used = u ∧ m.objs = n.objs ∧
    ∀ q, q < 64 → n.memberMatch q (cfgSpan (n.htalOf slot).cfg) (n.htalOf slot).epoch = true →
      QueuedC2 m q (releaseMsg (n.htalOf slot) slot tick everyUnit u u 0 0 0) n.tb1 := by
  rw [Node.releaseUse, Node.sendRelease, if_pos rfl, Node.releasePorts_everyUnit _ epoch] at hm
  set released := n.modHtal slot (fun t =>
    { t with used := u, rels := t.rels + 1, relTick := if tick == 0 then n.tb1 else tick, moved := t.moved.filter (· != u) }) with hr
  have members : ∀ q ∈ released.memberDown (cfgSpan (n.htalOf slot).cfg) (n.htalOf slot).epoch, released.lst q = 6 := fun q hq =>
    Node.lst_of_memberMatch (List.mem_filter.mp hq).2
  obtain ⟨posts, queued⟩ := Node.posts_sendAll (x := releaseMsg (n.htalOf slot) slot tick everyUnit u u 0 0 0) rfl
    (released.memberDown (cfgSpan (n.htalOf slot).cfg) (n.htalOf slot).epoch) released
  rw [hm] at posts queued
  refine ⟨?_, posts.objs members, fun q hq match_ => ?_⟩
  · rw [Node.htalOf_of_htal posts.htal, hr, Node.modHtal_htalOf_same]
  · have down : q ∈ released.memberDown (cfgSpan (n.htalOf slot).cfg) (n.htalOf slot).epoch :=
      List.mem_filter.mpr ⟨List.mem_range.mpr hq, match_⟩
    exact queued q down (by omega) (members q down)

/-! ### The decision of a BARRIER's only use -/

theorem indexNow_early {cfg fire now : Nat} (early : now + cfgDelta cfg < fire + cfgRo cfg) : indexNow cfg fire now = none := by
  simp [indexNow, early]

theorem indexNow_once {cfg fire now : Nat} (once : cfgRp cfg = 0) (come : fire + cfgRo cfg ≤ now + cfgDelta cfg) : indexNow cfg fire now = some 0 := by
  simp [indexNow, once, not_lt.mpr come]

theorem releaseAt_once {cfg : Nat} (fire : Nat) (once : cfgRp cfg = 0) : releaseAt cfg fire 0 = some (fire + cfgRo cfg) := by simp [releaseAt, once]

theorem HTally.openUses_first {t : HTally} {k : Nat} (used : t.used = 0) (arrive : t.arrive = [(1, k)]) : t.openUses = [1] := by
  simp [HTally.openUses, used, arrive, sortBy, insertBy]

section
variable {n : Node} {slot k : Nat} (used : (n.htalOf slot).used = 0) (arrive : (n.htalOf slot).arrive = [(1, k)])
include used arrive

/-- The first use of a BARRIER is released when it is complete (11 R296). -/
theorem Node.decideBarrier_complete (all : k = cfgParts (n.htalOf slot).cfg) (tick : Nat) : n.decideBarrier slot 0 tick = n.releaseUse slot tick 1 := by
  have count : assoc 0 (n.htalOf slot).arrive 1 = k := by rw [arrive]; rfl
  rw [Node.decideBarrier, HTally.openUses_first used arrive, List.filter_cons_of_pos (by decide), List.filter_nil, overAll, List.foldl_cons,
    List.foldl_nil]
  simp only [used, count, all]
  exact if_pos (by simp)

/-- Incomplete under Strict it is a fault, and is not released (11 R297). -/
theorem Node.decideBarrier_incomplete (slotted : cfgSlotted (n.htalOf slot).cfg = true) (moved : (n.htalOf slot).moved = [])
    (short : k ≠ cfgParts (n.htalOf slot).cfg) (strict : n.strictSpan (cfgSpan (n.htalOf slot).cfg) = true) (tick : Nat) {m : Node}
    (hm : n.decideBarrier slot 0 tick = m) : n.recorded m 0x45 ∧ (m.htalOf slot).used = 0 := by
  have count : assoc 0 (n.htalOf slot).arrive 1 = k := by rw [arrive]; rfl
  rw [Node.decideBarrier, HTally.openUses_first used arrive, List.filter_cons_of_pos (by decide), List.filter_nil, overAll, List.foldl_cons,
    List.foldl_nil] at hm
  dsimp only at hm
  rw [if_neg (by simp [count, short]), if_neg (by simp [moved, slotted]), if_pos strict] at hm
  obtain ⟨told, htal⟩ := Node.hubTallyFault_spec _ (by decide) _ _ _ _ hm
  refine ⟨told.of_count rfl, ?_⟩
  rw [Node.htalOf_of_htal htal, Node.modHtal_htalOf_same]
  exact used

end

section
variable {n0 n : Node} {slot e step fire : Nat} (ups : n0.takeUps = n) (active : cfgActive (n.htalOf slot).cfg = true)
  (slotted : cfgSlotted (n.htalOf slot).cfg = true) (head : n.isHeadOf (cfgSpan (n.htalOf slot).cfg) = true)
  (flight : n.inFlight (cfgSpan (n.htalOf slot).cfg) (cfgCtx (n.htalOf slot).cfg) = some (step, fire))
  (entry : n.spanEntryOf (cfgSpan (n.htalOf slot).cfg) = some e) (epochIs : (n.htalOf slot).epoch = fld e 111 80)
  (current : (n.htalOf slot).step = step)
include ups active slotted head flight entry epochIs current

/-- Before R_0 - delta nothing is decided (11 R296). -/
theorem slotDecision_early (early : n.tb1 + cfgDelta (n.htalOf slot).cfg < fire + cfgRo (n.htalOf slot).cfg) {m : Node}
    (hm : slotDecision slot n0 = m) : m.htalOf slot = n.htalOf slot ∧ m.links = n.links ∧ m.objs = n.objs := by
  have same : slotDecision slot n0 = n.modHtal slot (fun t => t.forStep step (fld e 111 80)) := by
    simp [slotDecision, ups, active, slotted, head, flight, entry, indexNow_early early]
  subst hm
  rw [same]
  refine ⟨?_, rfl, rfl⟩
  rw [Node.modHtal_htalOf_same, HTally.forStep_same current epochIs]

variable (mode : cfgMode (n.htalOf slot).cfg = 0) (once : cfgRp (n.htalOf slot).cfg = 0) (first : (n.htalOf slot).nextK = 0)
  (come : fire + cfgRo (n.htalOf slot).cfg ≤ n.tb1 + cfgDelta (n.htalOf slot).cfg)
include mode once first come

/-- At R_0 - delta the only index of a BARRIER is decided (11 R296). -/
theorem slotDecision_due : ∃ k, k = n.modHtal slot (fun t => t.forStep step (fld e 111 80)) ∧ k.htalOf slot = n.htalOf slot ∧
    slotDecision slot n0 = (k.decideBarrier slot 0 (fire + cfgRo (n.htalOf slot).cfg)).modHtal slot (fun t => { t with nextK := 1 }) := by
  have found : (n.modHtal slot (fun t => t.forStep step (fld e 111 80))).htalOf slot = n.htalOf slot := by
    rw [Node.modHtal_htalOf_same, HTally.forStep_same current epochIs]
  refine ⟨_, rfl, found, ?_⟩
  rw [← Node.decide_barrier (by rwa [found])]
  have index : indexNow (n.htalOf slot).cfg fire n.tb1 = some 0 := indexNow_once once come
  have next : ¬ 0 < ((n.modHtal slot (fun t => t.forStep step (fld e 111 80))).htalOf slot).nextK := by rw [found, first]; decide
  rw [slotDecision, ups]
  dsimp only
  rw [active, slotted, head, Bool.and_self, Bool.and_self, when_true, flight]
  dsimp only
  rw [entry]
  dsimp only
  rw [index]
  dsimp only
  rw [if_neg next, releaseAt_once fire once]

variable (used : (n.htalOf slot).used = 0) {k : Nat} (arrive : (n.htalOf slot).arrive = [(1, k)])
include used arrive

/-- Its use is released when it is complete (11 R296). -/
theorem slotDecision_releases (all : k = cfgParts (n.htalOf slot).cfg) {m : Node} (hm : slotDecision slot n0 = m) :
    (m.htalOf slot).used = 1 ∧ (m.htalOf slot).nextK = 1 ∧ m.objs = n.objs ∧
    ∀ q, q < 64 → n.memberMatch q (cfgSpan (n.htalOf slot).cfg) (n.htalOf slot).epoch = true →
      QueuedC2 m q (releaseMsg (n.htalOf slot) slot (fire + cfgRo (n.htalOf slot).cfg) everyUnit 1 1 0 0 0) n.tb1 := by
  obtain ⟨d, made, found, decided⟩ := slotDecision_due ups active slotted head flight entry epochIs current mode once first come
  have epoch : (d.htalOf slot).epoch < 2 ^ 32 := by
    rw [found, epochIs]
    exact fld_epoch_lt e
  rw [Node.decideBarrier_complete (by rwa [found]) (by rwa [found]) (by rwa [found]), hm] at decided
  obtain ⟨x, released⟩ : ∃ x, d.releaseUse slot (fire + cfgRo (n.htalOf slot).cfg) 1 = x := ⟨_, rfl⟩
  obtain ⟨one, objs, queued⟩ := Node.releaseUse_spec epoch (fire + cfgRo (n.htalOf slot).cfg) 1 released
  rw [found] at queued
  rw [released] at decided
  subst made decided
  refine ⟨?_, ?_, objs, queued⟩
  · rw [Node.modHtal_htalOf_same]
    exact one
  · rw [Node.modHtal_htalOf_same]

/-- Incomplete under Strict it is recorded, and is not released (11 R297). -/
theorem slotDecision_faults (moved : (n.htalOf slot).moved = []) (short : k ≠ cfgParts (n.htalOf slot).cfg)
    (strict : n.strictSpan (cfgSpan (n.htalOf slot).cfg) = true) {m : Node} (hm : slotDecision slot n0 = m) :
    n.recorded m 0x45 ∧ (m.htalOf slot).used = 0 := by
  obtain ⟨d, made, found, decided⟩ := slotDecision_due ups active slotted head flight entry epochIs current mode once first come
  have strict' : d.strictSpan (cfgSpan (n.htalOf slot).cfg) = true := by
    rw [made]
    exact strict
  obtain ⟨x, faulted⟩ : ∃ x, d.decideBarrier slot 0 (fire + cfgRo (n.htalOf slot).cfg) = x := ⟨_, rfl⟩
  obtain ⟨told, unused⟩ := Node.decideBarrier_incomplete (n := d) (slot := slot) (k := k) (by rwa [found]) (by rwa [found]) (by rwa [found])
    (by rwa [found]) (by rwa [found]) (by rwa [found]) (fire + cfgRo (n.htalOf slot).cfg) faulted
  rw [hm, faulted] at decided
  subst made decided
  refine ⟨(told.trans_count rfl).of_count rfl, ?_⟩
  rw [Node.modHtal_htalOf_same]
  exact unused

end

/-! ### Immediate decisions -/

theorem Node.sends_sendRelease (n : Node) (barrier : Bool) (x : Msg) : n.Sends (n.sendRelease barrier x) := by
  unfold Node.sendRelease
  split
  · exact .overAll (fun m p => .enqueue m p _) _ n
  · exact (Node.Sends.sendTwin n x).trans (.overAll (fun m p => .enqueue m p _) _ _)

/-- A release of a slot that is no BARRIER counts in its slot (11 R292). -/
theorem Node.htalOf_oneRelease (n : Node) (slot unit value : Nat) (u : HUnit) :
    (n.oneRelease slot 0 unit value u).htalOf slot = { n.htalOf slot with rels := (n.htalOf slot).rels + 1, relTick := n.tb1 } := by
  rw [Node.oneRelease, Node.htalOf_of_htal (Node.sends_sendRelease ..).htal, Node.modHtal_htalOf_same]
  rfl

/-- The releases of matched units count one each, and leave who waits (11 R292, R296). -/
theorem Node.htalOf_releases (slot : Nat) (pairs : List (HUnit × Nat)) (n : Node) :
    ((overAll pairs (fun n e => n.oneRelease slot 0 e.2 1 e.1) n).htalOf slot).waiters = (n.htalOf slot).waiters ∧
    ((overAll pairs (fun n e => n.oneRelease slot 0 e.2 1 e.1) n).htalOf slot).rels = (n.htalOf slot).rels + pairs.length := by
  induction pairs generalizing n with
  | nil => exact ⟨rfl, rfl⟩
  | cons e pairs ih =>
    obtain ⟨waiters, rels⟩ := ih (n.oneRelease slot 0 e.2 1 e.1)
    rw [Node.htalOf_oneRelease] at waiters rels
    refine ⟨waiters, rels.trans ?_⟩
    rw [List.length_cons]
    show (n.htalOf slot).rels + 1 + pairs.length = _
    omega

/-- An immediate slot of mode COUNT serves as many waiters as there are units (11 R284, R298). -/
theorem Node.decideCount_immediate {n : Node} {slot : Nat} (units : ∀ u ∈ (n.htalOf slot).units, 1 ≤ u.n ∧ u.k ≤ 65535)
    (waiters : ∀ w ∈ (n.htalOf slot).waiters, w.k ≤ 65535 ∧ w.gone = none) {k : Nat}
    (hk : k = min ((n.htalOf slot).units.map (·.n)).sum (n.htalOf slot).waiters.length) {m : Node} (hm : n.decideCount slot 65535 0 = m) :
    (m.htalOf slot).waiters = (n.htalOf slot).waiters.drop k ∧ (m.htalOf slot).rels = (n.htalOf slot).rels + k := by
  obtain ⟨served, left⟩ := assignUnits_spec (n.htalOf slot).units (n.htalOf slot).waiters fun u hu => (units u hu).1
  rw [← hk] at served left
  have open_ (f : HWait → Bool) (stays : ∀ w, w.gone = none → f w = true) : (n.htalOf slot).waiters.filter f = (n.htalOf slot).waiters :=
    List.filter_eq_self.mpr fun w hw => stays w (waiters w hw).2
  have allWaiters : (n.htalOf slot).waiters.filter (fun w => decide (w.k ≤ 65535)) = (n.htalOf slot).waiters :=
    List.filter_eq_self.mpr fun w hw => decide_eq_true (waiters w hw).1
  have noWaiter : (n.htalOf slot).waiters.filter (fun w => decide (65535 < w.k)) = [] :=
    List.filter_eq_nil_iff.mpr fun w hw => by simpa using (waiters w hw).1
  have allUnits : (n.htalOf slot).units.filter (fun u => decide (u.k ≤ 65535)) = (n.htalOf slot).units :=
    List.filter_eq_self.mpr fun u hu => decide_eq_true (units u hu).2
  have count : (assignUnits (n.htalOf slot).units (n.htalOf slot).waiters).1.length = k := by
    have := congrArg List.length served
    rw [List.length_map, List.length_map, List.length_take] at this
    omega
  rw [Node.decideCount] at hm
  dsimp only at hm
  rw [open_ _ fun w hw => by rw [hw], allWaiters, noWaiter, allUnits, List.foldl_nil] at hm
  subst hm
  obtain ⟨keeps, counts⟩ := Node.htalOf_releases slot (assignUnits (n.htalOf slot).units (n.htalOf slot).waiters).1 (n.modHtal slot (fun t =>
    { t with units := ((n.htalOf slot).units.filter (fun u => 65535 < u.k)).foldl insertUnit (assignUnits (n.htalOf slot).units (n.htalOf slot).waiters).2.1
             waiters := (assignUnits (n.htalOf slot).units (n.htalOf slot).waiters).2.2 }))
  rw [Node.modHtal_htalOf_same] at keeps counts
  exact ⟨keeps.trans left, counts.trans (by rw [count])⟩

section
variable {n0 n : Node} {slot : Nat} (ups : n0.takeUps = n)
include ups

/-- Off the frame boundary, and without a change, an immediate slot is not decided (11 R298). -/
theorem immediateDecision_idle (idle : n.tb1 % 8 ≠ 0 ∨ (n.htalOf slot).dirty = false) : immediateDecision slot n0 = n := by
  have off : (cfgActive (n.htalOf slot).cfg && !cfgSlotted (n.htalOf slot).cfg && (n.htalOf slot).dirty && n.tb1 % 8 == 0) = false := by
    rcases idle with tick | clean
    · simp [tick]
    · simp [clean]
  rw [immediateDecision, ups]
  rw [off, when_false]

/-- An immediate COUNT slot that has changed is decided on a frame boundary (11 R298). -/
theorem immediateDecision_count (active : cfgActive (n.htalOf slot).cfg = true) (immediate : cfgSlotted (n.htalOf slot).cfg = false)
    (mode : cfgMode (n.htalOf slot).cfg = 1) (leads : n.lead.leading = true) (free : (n.htalOf slot).frozen = false)
    (dirty : (n.htalOf slot).dirty = true) (boundary : n.tb1 % 8 = 0) (units : ∀ u ∈ (n.htalOf slot).units, 1 ≤ u.n ∧ u.k ≤ 65535)
    (waiters : ∀ w ∈ (n.htalOf slot).waiters, w.k ≤ 65535 ∧ w.gone = none) {k : Nat}
    (hk : k = min ((n.htalOf slot).units.map (·.n)).sum (n.htalOf slot).waiters.length) {m : Node} (hm : immediateDecision slot n0 = m) :
    (m.htalOf slot).waiters = (n.htalOf slot).waiters.drop k ∧ (m.htalOf slot).rels = (n.htalOf slot).rels + k ∧ (m.htalOf slot).dirty = false := by
  have count : n.decide_ slot 65535 0 = n.decideCount slot 65535 0 := by simp [Node.decide_, mode, mBarrier, mCount, leads, free]
  obtain ⟨x, decided⟩ : ∃ x, n.decideCount slot 65535 0 = x := ⟨_, rfl⟩
  obtain ⟨left, rels⟩ := Node.decideCount_immediate units waiters hk decided
  rw [immediateDecision, ups, active, immediate, dirty, boundary, show (true && !false && true && (0 : Nat) == 0) = true from rfl, when_true, count,
    decided] at hm
  rw [← hm, Node.modHtal_htalOf_same]
  exact ⟨left, rels, rfl⟩

end

end Sys2Proof.Machine

namespace Sys2Proof.Machine

/-! ### Releases at a hub -/

/-- A hub takes a RELEASE that waits at a port: from above or its twin, for its slot, its epoch and a current step, and at a head as the
follower alone (11 R290, R293, R294). -/
def TakesRelease (n : Node) (p : Nat) (a : Msg) : Prop :=
  64 ≤ p ∧ cfgActive (n.htalOf (fld a.head 69 54)).cfg = true ∧ cfgSpan (n.htalOf (fld a.head 69 54)).cfg = a.span ∧
  (p < 66 → n.spanMatch p a.span a.epoch = true) ∧ (n.htalOf (fld a.head 69 54)).stale (fld a.head 53 6) a.epoch = false ∧
  (n.isHeadOf a.span = true → 66 ≤ p ∧ n.lead.leading = false ∧ cfgMode (n.htalOf (fld a.head 69 54)).cfg ≠ 0)

/-- It is taken exactly where none of the grounds to drop it holds. -/
theorem takesRelease_iff {n : Node} {p : Nat} {a : Msg} : TakesRelease n p a ↔
    (decide (p < 64) || !cfgActive (n.htalOf (fld a.head 69 54)).cfg || cfgSpan (n.htalOf (fld a.head 69 54)).cfg != a.span ||
      (decide (p < 66) && (n.isHeadOf a.span || !n.spanMatch p a.span a.epoch)) ||
      (n.isHeadOf a.span && (n.lead.leading || cfgMode (n.htalOf (fld a.head 69 54)).cfg == mBarrier)) ||
      (n.htalOf (fld a.head 69 54)).stale (fld a.head 53 6) a.epoch) = false := by
  have port (P : Prop) : (p < 66 → P) ↔ 66 ≤ p ∨ P := by rw [imp_iff_not_or, not_lt]
  simp only [TakesRelease, port, Bool.or_eq_false_iff, Bool.and_eq_false_iff, decide_eq_false_iff_not, Bool.not_eq_false', bne_eq_false_iff_eq,
    beq_eq_false_iff_ne, not_lt, mBarrier]
  cases n.isHeadOf a.span with
  | false => simp [and_assoc]
  | true =>
    simp only [Bool.true_eq_false, false_or, forall_const]
    tauto

@[simp] theorem Node.lead_consume (n : Node) (p : Nat) (f : Msg → Bool) : (n.consume p f).lead = n.lead := by rw [Node.consume_eq]

@[simp] theorem Node.firstCopy_consume (n : Node) (p : Nat) (f : Msg → Bool) (key : Nat) : (n.consume p f).firstCopy key = n.firstCopy key := by
  rw [Node.consume_eq]
  rfl

theorem Node.recorded_fault_of (n : Node) {r : FRec} {c : Nat} (h : r.cause = c) : n.recorded (n.fault r) c := h ▸ n.recorded_fault r

/-- A unit that has noted a RELEASE taken, with its slot in the message's step (11 R293, R294). -/
def Node.noted (n : Node) (a : Msg) : Node :=
  (n.noteCopy (releaseKey a)).modHtal (fld a.head 69 54) (fun t => t.forStep (fld a.head 53 6) a.epoch)

/-- A unit that has taken a RELEASE out of its buffer and noted it, as messages then read it. -/
theorem Node.noted_consume (n : Node) (p : Nat) (f : Msg → Bool) (a : Msg) :
    ((n.consume p f).noted a).firstCopy (releaseKey a) = false ∧ ((n.consume p f).noted a).releasePorts a = n.releasePorts a ∧
    ((n.consume p f).noted a).tb1 = n.tb1 ∧ ((n.consume p f).noted a).objs = n.objs ∧
    (((n.consume p f).noted a).htalOf (fld a.head 69 54)).cfg = (n.htalOf (fld a.head 69 54)).cfg ∧
    (∀ q, ((n.consume p f).noted a).lst q = n.lst q) ∧ ∀ q, q ≠ p → ((n.consume p f).noted a).linkOf q = n.linkOf q := by
  refine ⟨(n.consume p f).firstCopy_noteCopy _, ?_, ?_, n.objs_consume p f, ?_, n.lst_consume p f, fun q hq => n.linkOf_consume_ne f hq⟩
  · rw [Node.consume_eq]
    rfl
  · rw [Node.consume_eq]
    rfl
  · have kept : ((n.consume p f).noteCopy (releaseKey a)).htalOf (fld a.head 69 54) = n.htalOf (fld a.head 69 54) := n.htalOf_consume ..
    rw [Node.noted, Node.modHtal_htalOf_same, HTally.cfg_forStep, kept]

section
variable {n : Node} {p : Nat} {a : Msg} (waits : n.peek p (isTallyKind 5) = some a)
include waits

theorem typ_of_release : a.typ = tTally := by
  have kind := List.find?_some waits
  simp only [isTallyKind, Bool.and_eq_true, beq_iff_eq] at kind
  exact kind.1

/-- A RELEASE not taken is dropped and counted (11 R293, R317). -/
theorem downForward_dropped (refused : ¬ TakesRelease n p a) : downForward p n = (n.consume p (isTallyKind 5)).dropTally := by
  rw [takesRelease_iff, Bool.not_eq_false] at refused
  rw [downForward, Node.onMsg_some waits]
  simp only [Node.htalOf_consume, Node.isHeadOf_consume, Node.spanMatch_consume, Node.lead_consume]
  exact if_pos refused

variable (takes : TakesRelease n p a)
include takes

/-- A later copy goes nowhere (11 R293). -/
theorem downForward_repeated (later : n.firstCopy (releaseKey a) = false) : downForward p n = n.consume p (isTallyKind 5) := by
  rw [downForward, Node.onMsg_some waits]
  simp only [Node.htalOf_consume, Node.isHeadOf_consume, Node.spanMatch_consume, Node.lead_consume, Node.firstCopy_consume]
  rw [takesRelease_iff.mp takes, if_neg Bool.false_ne_true, later, Bool.not_false, if_pos rfl]

variable (first : n.firstCopy (releaseKey a) = true)
include first

/-- The first copy is noted, and goes on as the hub's place in its span has it (11 R293). -/
theorem downForward_first : downForward p n =
    (let m := (n.consume p (isTallyKind 5)).noted a
     if n.isHeadOf a.span then m.handedRelease (fld a.head 69 54) a
     else
       let k := overAll (m.releasePorts a) (fun n q => n.forward p q a) m
       if p < 66 then overAll [66, 67] (fun n q => n.forward p q a) k else k) := by
  rw [downForward, Node.onMsg_some waits]
  simp only [Node.htalOf_consume, Node.isHeadOf_consume, Node.spanMatch_consume, Node.lead_consume, Node.firstCopy_consume]
  rw [takesRelease_iff.mp takes, if_neg Bool.false_ne_true, first, Bool.not_true, if_neg Bool.false_ne_true]
  rfl

/-- Below the head the first copy goes to its downlinks, from an uplink also to the twin lanes (11 R293). -/
theorem downForward_spreads (below : n.isHeadOf a.span = false) {m : Node} (hm : downForward p n = m) :
    m.firstCopy (releaseKey a) = false ∧ (∀ q ∈ n.releasePorts a, q < 64 → QueuedC2 m q a (a.first + 49)) ∧
    (p < 66 → ∀ q, q = 66 ∨ q = 67 → n.lst q = 6 → QueuedC2 m q a (a.first + 49)) ∧
    (66 ≤ p → ∀ q, q = 66 ∨ q = 67 → q ≠ p → m.linkOf q = n.linkOf q) := by
  have tally := typ_of_release waits
  obtain ⟨noted, ports, tick, -, -, lst, others⟩ := n.noted_consume p (isTallyKind 5) a
  rw [downForward_first waits takes first] at hm
  dsimp only at hm
  rw [below, if_neg Bool.false_ne_true, ports] at hm
  generalize (n.consume p (isTallyKind 5)).noted a = k at hm noted tick lst others
  obtain ⟨down, queued⟩ := Node.posts_forward (x := a) tally (n.releasePorts a) p k
  generalize overAll (n.releasePorts a) (fun n q => n.forward p q a) k = d at hm down queued
  have sent : ∀ q ∈ n.releasePorts a, q < 64 → QueuedC2 d q a (a.first + 49) := fun q hq small =>
    queued q hq (by omega) ((lst q).trans (Node.lst_of_memberMatch (Node.of_mem_releasePorts hq).2))
  have firstOf {x : Node} (fwd : x.fwd = k.fwd) (tb1 : x.tb1 = k.tb1) : x.firstCopy (releaseKey a) = false := by
    rw [Node.firstCopy, fwd, tb1]
    exact noted
  split at hm
  · obtain ⟨twin, lanes⟩ := Node.posts_forward (x := a) tally [66, 67] p d
    rw [hm] at twin lanes
    refine ⟨firstOf (twin.fwd.trans down.fwd) (twin.tb1.trans down.tb1), fun q hq small => twin.queued (sent q hq small), fun _ q lane member => ?_,
      fun up => by omega⟩
    have small : q < 68 := by omega
    exact lanes q (by simpa using lane) small ((down.lst q small).trans ((lst q).trans member))
  · subst hm
    refine ⟨firstOf down.fwd down.tb1, sent, fun up => by omega, fun _ q lane other => ?_⟩
    refine (down.others q fun held => ?_).trans (others q other)
    have := (Node.of_mem_releasePorts held).1
    omega

/-! ### The follower head -/

variable (head : n.isHeadOf a.span = true)
include head

/-- A RELEASE that its leader hands over leaves for its downlinks on a tick that it is in time for (11 R293). -/
theorem downForward_leaves {t : Nat} (leaves : t = if fld (a.cell 1) 127 64 = 0 then n.tb1 else
      nextMul 8 (fld (a.cell 1) 127 64 - cfgDelta (n.htalOf (fld a.head 69 54)).cfg + 40))
    (inTime : fld (a.cell 1) 127 64 = 0 ∨ n.tb1 + 8 ≤ nextMul 8 (fld (a.cell 1) 127 64 - cfgDelta (n.htalOf (fld a.head 69 54)).cfg + 40))
    {m : Node} (hm : downForward p n = m) : m.objs = n.objs ∧ ∀ q ∈ n.releasePorts a, q < 64 → QueuedC2 m q a t := by
  obtain ⟨-, ports, tick, objs, cfg, lst, -⟩ := n.noted_consume p (isTallyKind 5) a
  have members : ∀ q ∈ n.releasePorts a, ((n.consume p (isTallyKind 5)).noted a).lst q = 6 := fun q hq =>
    (lst q).trans (Node.lst_of_memberMatch (Node.of_mem_releasePorts hq).2)
  rw [downForward_first waits takes first] at hm
  dsimp only at hm
  rw [if_pos head, Node.handedRelease] at hm
  generalize (n.consume p (isTallyKind 5)).noted a = k at hm ports tick objs cfg members
  dsimp only at hm
  rw [cfg, tick, ports] at hm
  have at_ : (if (fld (a.cell 1) 127 64 == 0) = true then n.tb1 else
      nextMul 8 (fld (a.cell 1) 127 64 - cfgDelta (n.htalOf (fld a.head 69 54)).cfg + 40)) = t := by simp only [beq_iff_eq, leaves]
  rw [if_neg (by simpa [or_iff_not_imp_left] using inTime), at_] at hm
  obtain ⟨posts, queued⟩ := Node.posts_sendAt (x := a) (typ_of_release waits) (n.releasePorts a) t k
  rw [hm] at posts queued
  exact ⟨(posts.objs members).trans objs, fun q hq small => queued q hq (by omega) (members q hq)⟩

/-- One held too late for its leave tick is recorded, and goes nowhere (11 R293). -/
theorem downForward_late (slotted : fld (a.cell 1) 127 64 ≠ 0)
    (late : nextMul 8 (fld (a.cell 1) 127 64 - cfgDelta (n.htalOf (fld a.head 69 54)).cfg + 40) < n.tb1 + 8) {m : Node}
    (hm : downForward p n = m) : n.recorded m 0x34 ∧ ∀ q, q ≠ p → m.linkOf q = n.linkOf q := by
  obtain ⟨-, -, tick, objs, cfg, -, others⟩ := n.noted_consume p (isTallyKind 5) a
  have kind : ((n.consume p (isTallyKind 5)).noted a).kind = n.kind := by
    rw [Node.consume_eq]
    rfl
  have counts := Node.causeCount_congr (Node.rd_of_objs kind objs _) 0x34
  rw [downForward_first waits takes first] at hm
  dsimp only at hm
  rw [if_pos head, Node.handedRelease] at hm
  generalize (n.consume p (isTallyKind 5)).noted a = k at hm tick cfg others counts
  dsimp only at hm
  rw [cfg, tick, if_pos (by simp [slotted, late])] at hm
  have record : ∃ r : FRec, r.cause = 0x34 ∧ (k.takeFree.2.bump Ob.esc_handoffsLate).fault r = m := ⟨_, rfl, hm⟩
  obtain ⟨r, cause, recorded⟩ := record
  have bumped : (k.takeFree.2.bump Ob.esc_handoffsLate).causeCount 0x34 = k.causeCount 0x34 :=
    Node.causeCount_congr (Node.rd_bump_ne _ (by decide) (by decide)) _
  have told := Node.recorded_fault_of (k.takeFree.2.bump Ob.esc_handoffsLate) cause
  have links := (Node.fault_frame (k.takeFree.2.bump Ob.esc_handoffsLate) r).links
  rw [recorded] at told links
  exact ⟨(told.of_count bumped).of_count counts, fun q hq => (Node.linkOf_of_links links q).trans ((Node.linkOf_bump ..).trans (others q hq))⟩

end

end Sys2Proof.Machine

namespace Sys2Proof.Machine

/-! ### The hub's instructions -/

section
variable {s : State} (works : Works s .hub) (hub : s.hub.isHub = true)
include works

theorem runsOn_slotDecision {slot : Nat} (small : slot < 65536) {P : Node → Prop} (h : P (slotDecision slot s.hub)) :
    RunsOn .hub (.slotDecision slot) s P := runsOn_node works rfl (decide_eq_true small) h

theorem exec_immediateDecision {slot : Nat} (small : slot < 65536) :
    exec (.immediateDecision slot) s = .next { s with hub := immediateDecision slot s.hub } := exec_node works rfl (decide_eq_true small)

include hub

theorem runsOn_tallyUp {p : Nat} (hp : p < 68) {P : Node → Prop} (h : P (upMessage p s.hub)) : RunsOn .hub (.tallyUpMessage p) s P :=
  runsOn_node works rfl (Node.hasPort_hub hub hp) h

theorem runsOn_tallyDown {p : Nat} (hp : p < 68) {P : Node → Prop} (h : P (downForward p s.hub)) : RunsOn .hub (.tallyDownForward p) s P :=
  runsOn_node works rfl (Node.hasPort_hub hub hp) h

end

/-- A single ARRIVE held of a message's step and use takes the message's sum (11 R293). -/
theorem holdArrive_joins (step use k0 t0 due k tick later : Nat) :
    holdArrive [(step, use, k0, t0, due)] step use k tick later = [(step, use, k0 + k, max t0 tick, due)] := by
  simp [holdArrive]

/-- Settles O40: one lemma per outcome of an up message (`upMessage_…`), of a sum that leaves (`combineSend_…`), of a decision (`slotDecision_…`,
`immediateDecision_…`) and of a RELEASE (`downForward_…`). -/
theorem hubsCombineDecideAndForwardTallies : Obligations.HubsCombineDecideAndForwardTallies := by
  unfold Obligations.HubsCombineDecideAndForwardTallies
  refine ⟨assignUnits_spec, fun s works hub => ?_⟩
  intro n
  refine ⟨?_, ?_, ?_, ?_⟩
  · intro p a hp waits slot t step up
    refine ⟨fun refused => runsOn_tallyUp works hub hp ?_, fun takes below down carries current => ⟨?_, fun arrive => ⟨?_, ?_⟩⟩,
      fun takes head down => ⟨fun mode immediate current => ⟨?_, ?_⟩, ?_⟩⟩
    · exact Node.dropTally_consume hub p isUpTally (upMessage_dropped waits refused).symm
    · exact fun other member tally =>
        runsOn_tallyUp works hub hp (upMessage_forwards waits takes below down carries current other member tally rfl)
    · intro none
      obtain ⟨holds, others⟩ := upMessage_holds waits takes below down carries current arrive rfl
      exact runsOn_tallyUp works hub hp ⟨holds.trans (by rw [show ((n.htalOf slot).forStep step a.epoch).hold = [] from none]; rfl), others⟩
    · intro k0 t0 due held
      obtain ⟨holds, others⟩ := upMessage_holds waits takes below down carries current arrive rfl
      refine runsOn_tallyUp works hub hp ⟨holds.trans ?_, others⟩
      rw [show ((n.htalOf slot).forStep step a.epoch).hold = _ from held, holdArrive_joins]
    · intro room
      obtain ⟨state, objs⟩ := upMessage_counts waits takes head down mode immediate current rfl
        (room.trans_eq (congrArg cfgParts (HTally.cfg_forStep ..).symm)) rfl
      refine runsOn_tallyUp works hub hp ⟨?_, ?_, objs⟩
      · rw [state]
        exact assoc_assocSet_same ..
      · rw [state]
        rfl
    · intro above some
      obtain ⟨told, state⟩ := upMessage_above waits takes head down mode immediate current rfl
        ((congrArg cfgParts (HTally.cfg_forStep ..)).trans_lt above) some rfl
      refine runsOn_tallyUp works hub hp ⟨told, ?_⟩
      rw [state, HTally.cfg_forStep]
      exact assoc_assocSet_same ..
    · exact fun mode slotted other => runsOn_tallyUp works hub hp (upMessage_late waits takes head down mode hub slotted other rfl)
  · intro slot small t span st use k tick due hold member
    exact ⟨fun come => runsOn_node works rfl (decide_eq_true small) (combineSend_due hold member come rfl),
      fun early => runsOn_node works rfl (decide_eq_true small) (combineSend_early hold early rfl)⟩
  · intro n slot small t span
    refine ⟨?_, ?_, ?_⟩
    · intro e step fire active slotted mode once head flight entry epochIs current first used moved k arrive
      refine ⟨fun come => ⟨fun all => ?_, fun short strict => ?_⟩, fun early => ?_⟩
      · exact runsOn_slotDecision works small
          (slotDecision_releases rfl active slotted head flight entry epochIs current mode once first come used arrive all rfl)
      · exact runsOn_slotDecision works small
          (slotDecision_faults rfl active slotted head flight entry epochIs current mode once first come used arrive moved short strict rfl)
      · exact runsOn_slotDecision works small (slotDecision_early rfl active slotted head flight entry epochIs current early rfl)
    · intro active immediate mode leads free dirty
      refine ⟨?_, fun off => ?_⟩
      · intro boundary units waiters k
        exact ⟨_, exec_immediateDecision works small,
          immediateDecision_count rfl active immediate mode leads free dirty boundary units waiters rfl rfl⟩
      · rw [exec_immediateDecision works small, immediateDecision_idle rfl (.inl off)]
    · intro clean
      rw [exec_immediateDecision works small, immediateDecision_idle rfl (.inr clean)]
  · intro p a hp waits t head takes tick leave
    refine ⟨fun taken below first => runsOn_tallyDown works hub hp (downForward_spreads waits taken first below rfl),
      fun taken leads first => ⟨?_, ?_, ?_⟩, ?_, ?_⟩
    · intro immediate
      obtain ⟨-, queued⟩ := downForward_leaves waits taken first leads (if_pos immediate).symm (.inl immediate) rfl
      exact runsOn_tallyDown works hub hp queued
    · exact fun slotted inTime =>
        runsOn_tallyDown works hub hp (downForward_leaves waits taken first leads (if_neg slotted).symm (.inr inTime) rfl)
    · exact fun slotted late => runsOn_tallyDown works hub hp (downForward_late waits taken first leads slotted late rfl)
    · intro taken later
      refine runsOn_tallyDown works hub hp ?_
      rw [downForward_repeated waits taken later]
      exact ⟨n.objs_consume .., fun q hq => n.linkOf_consume_ne _ hq⟩
    · intro refused
      obtain ⟨count, -, others⟩ := Node.dropTally_consume hub p (isTallyKind 5) (downForward_dropped waits refused).symm
      exact runsOn_tallyDown works hub hp ⟨count, others⟩

end Sys2Proof.Machine
